-- ==== Sys2Proof/Word.lean ====
section
/-! DEFINITION. The word types. R11: every register is 32 bits wide, bit 0 least significant. -/

namespace Sys2Proof

/-- R11: a register. -/
abbrev Word := BitVec 32

/-- One byte of memory or of a frame. -/
abbrev Byte := BitVec 8

end Sys2Proof
end

