-- ==== Sys2Proof/Syntax.lean ====
section
/-! DEFINITION. The commands of the block: one constructor of `Instr` per row of spec/opcode_table.json, and the operand
types they use. A command is a register write, a bus or protocol operation, a pin event or a timer of the block; an
operand is what the spec says the event carries (a word written, a unit, a measured quantity). -/

namespace Sys2Proof

/-- The variants of R1. -/
inductive Variant where
  | nz9640 | nz9620
deriving DecidableEq, Repr, Inhabited

/-- A half of the Conservator (R26). -/
inductive Half where
  | A | B
deriving DecidableEq, Repr, Inhabited

/-- Who writes or reads a register: host software, or a context (R354). -/
inductive Who where
  | host
  | ctx (c : Nat)
deriving DecidableEq, Repr, Inhabited

/-- What triggers a logic reset (R83), by the bit of SYS_RSTCAUSE it sets. -/
inductive RstCause where
  | brownout | wdog | hostrst | consreq | refloss | conslost
deriving DecidableEq, Repr, Inhabited

/-- What one Conservator half decided since the previous exchange (R521), as far as the outputs can show it: the
reaction groups it forces, and the outputs at which its own tables hold another safe level than the output's register. -/
structure HalfDec where
  groups : BitVec 16
  levels : List (Nat × Bool)
deriving DecidableEq, Repr, Inhabited

/-- What P4 measures at one LED stage (R293, LEDi_MEAS): channel, headroom in mV, current in µA, string voltage in mV, TJ in
half degrees. -/
structure LedMeas where
  i : Nat
  headMv : Nat
  iUa : Nat
  voutMv : Nat
  tj : Int
deriving DecidableEq, Repr, Inhabited

/-- A valve or contactor whose command falls, and whether its boost or pull-in had reached its set current (R266). -/
structure PeakEnd where
  unit : Nat
  reached : Bool
deriving DecidableEq, Repr, Inhabited

/-- A valve bank that ends its coils' boosts; bit i of `reached`: the boost of its member i had reached its set current (R266). -/
structure BankPeaks where
  bank : Nat
  reached : Nat
deriving DecidableEq, Repr, Inhabited

/-- What is measured where a coil's high side opens: the coil current in mA and the clamp energy in mJ (R270). -/
structure CoilSurge where
  iMa : Nat
  mJ : Nat
deriving DecidableEq, Repr, Inhabited

/-- What a junction trip meets (R183): TJ in half degrees; of a contactor the current and energy as its high side opens; of a coil
whether its boost or pull-in had reached its set current. -/
structure HotOutput where
  tj : Int
  surge : CoilSurge
  reached : Bool
deriving DecidableEq, Repr, Inhabited

/-- A lighting chain that fetches frames, and the place in the data banks of a word that meets an ECC error there (R385). -/
structure ChainRead where
  chain : Nat
  ecc : Option Nat
deriving DecidableEq, Repr, Inhabited

/-- What a string operation meets at its source and at its destination (R385, R390). -/
structure StrSides where
  src : Nat
  dst : Nat
deriving DecidableEq, Repr, Inhabited

/-- A core whose shadow bank has taken a context record, and what ECC met in the record (R368, R372). -/
structure RecordLoad where
  core : Nat
  ecc : Nat
deriving DecidableEq, Repr, Inhabited

/-- The frame formats of a CAN port (R397). -/
inductive CanFmt where
  | classical | fd | xl
deriving DecidableEq, Repr, Inhabited

/-- A CAN frame as it stands on the bus: identifier, identifier type, format, bit rate switch, error state indicator,
remote request, DLC (0 for XL), the XL header fields and the data bytes. -/
structure CanFrame where
  id : Nat
  ide : Bool
  fmt : CanFmt
  rtr : Bool
  brs : Bool
  esi : Bool
  dlc : Nat
  sdt : Nat
  vcid : Nat
  af : Nat
  sec : Bool
  data : List Byte
deriving DecidableEq, Repr, Inhabited

/-- What a port detects as an error (R416): the LEC code, whether it stood in a data phase, whether an exception of
ISO 11898-1 keeps the transmit counter (no dominant bit seen in a passive error flag; a stuff error in arbitration),
and how many further counts of 8 its rules add while the error flag lasts. -/
structure CanErr where
  lec : Nat
  inData : Bool
  exempt : Bool
  eights : Nat
deriving DecidableEq, Repr, Inhabited

/-- An Ethernet frame: addresses as 48-bit numbers, first byte highest; the 802.1Q tag as PCP and VID; the bytes from
the EtherType on, frame check sequence left out. -/
structure EthFrame where
  dst : Nat
  src : Nat
  tag : Option (Nat × Nat)
  body : List Byte
deriving DecidableEq, Repr, Inhabited

/-- A twin-link frame as it arrives (R541): TYPE, the reserved byte, SEQ, payload (LEN is its length), TAG. -/
structure TwFrame where
  typ : Nat
  rsv : Nat
  seq : Nat
  payload : List Byte
  tag : List Byte
deriving DecidableEq, Repr, Inhabited

/-- A collision of a host access with an internal one in the host window (R390): the word of the frame, counted from 0, whether
the internal access is a write (an atomic counts as one), and whether the host is the later port. -/
structure HostColl where
  word : Nat
  intWrite : Bool
  hostLater : Bool
deriving DecidableEq, Repr, Inhabited

/-- An SPI frame (R595, R596) as it arrives: header, address, data words, FCRC; for reads, the number of the first word
that is not ready when its data word begins (R600); its collisions; and what ECC finds at each word read (R385: 0 nothing,
1 an error it corrects, 2 an uncorrectable one; words beyond the list: 0). -/
structure HostFrame where
  hdr : Word
  addr : Word
  data : List Word
  fcrc : Word
  late : Option Nat
  coll : List HostColl
  ecc : List Nat
deriving DecidableEq, Repr, Inhabited

/-- R-numbers in each docstring name the rule that governs the row in spec/opcode_table.json. -/
inductive Instr where
  /-- SUPPLY_GOOD (R59). -/
  | supplyGood (deputyStrap : Bool)
  /-- POWER_ON_RESET (R83). -/
  | powerOnReset
  /-- POWER_ISLAND_RESET (R80). -/
  | powerIslandReset (p : Nat)
  /-- SUPPLY_BROWNOUT (R83). -/
  | supplyBrownout
  /-- REFERENCE_LOSS (R27). -/
  | referenceLoss (half : Half)
  /-- LOGIC_RESET (R83). -/
  | logicReset (cause : RstCause)
  /-- HOLD_TIMER_EXPIRY (R76). -/
  | holdTimerExpiry (slot : Nat)
  /-- LOGIC_RESET_RELEASE (R59). -/
  | logicResetRelease
  /-- START_CLOCKS_LOCKED (R62). -/
  | startClocksLocked
  /-- START_SUPERVISOR_CHECK_DONE (R62). -/
  | startSupervisorCheckDone (failA failB : Nat)
  /-- S2_RETRY_TIMER (R523). -/
  | s2RetryTimer (failA failB : Nat)
  /-- PUF_ATTEMPT_DONE (R560). -/
  | pufAttemptDone (ok : Bool)
  /-- KEY_DERIVATION_DONE (R563). -/
  | keyDerivationDone
  /-- IMAGE_READ_DONE (R62). -/
  | imageReadDone (readErr : Bool)
  /-- IMAGE_VERIFY_DONE (R100). -/
  | imageVerifyDone
  /-- CATALOGUE_LOAD_DONE (R62). -/
  | catalogueLoadDone
  /-- START_BOUNDARY (R79). -/
  | startBoundary
  /-- MODE_REQUEST (R53). -/
  | modeRequest (who : Who) (code : Nat) (hostToo : Option Nat)
  /-- STAGING_TIMEOUT (R114). -/
  | stagingTimeout
  /-- MODE_BOUNDARY (R57). -/
  | modeBoundary
  /-- STAGGER_STEP_EXPIRY (R115). -/
  | staggerStepExpiry (k : Nat)
  /-- POWER_DOWN_DONE (R72). -/
  | powerDownDone
  /-- SYS_RSTCMD (R59). -/
  | sysRstcmd (who : Who) (w : Word)
  /-- DOC_WDKICK (R358). -/
  | docWdkick (c : Nat) (w : Word)
  /-- WATCHDOG_EXPIRY (R359). -/
  | watchdogExpiry
  /-- PARKED_SIN_POLL (R316). -/
  | parkedSinPoll (volts : List Nat)
  /-- CAN_WAKE_PATTERN (R422). -/
  | canWakePattern (p : Nat) (width : Nat)
  /-- CAN_WAKE_FRAME (R423). -/
  | canWakeFrame (p : Nat) (frame : Option CanFrame)
  /-- LIN_WAKE_PULSE (R435). -/
  | linWakePulse (p : Nat)
  /-- ALWAYS_ON_TIMER_WAKE (R69). -/
  | alwaysOnTimerWake
  /-- TWOK_I_FALL (R548). -/
  | twokIFall
  /-- WAKE_POWER_UP_DONE (R70). -/
  | wakePowerUpDone
  /-- RETENTION_CHECK_DONE (R71). -/
  | retentionCheckDone (ok : Bool)
  /-- WAKE_BOUNDARY (R70). -/
  | wakeBoundary
  /-- POLL_PERIOD_EXPIRY (R73). -/
  | pollPeriodExpiry
  /-- POLL_WINDOW_END (R74). -/
  | pollWindowEnd
  /-- CAT_WCTL_OPEN (R106). -/
  | catWctlOpen
  /-- SLOT_ERASE_DONE (R106). -/
  | slotEraseDone
  /-- SLOT_WORD_WRITE (R107). -/
  | slotWordWrite (addr : Nat) (w : Word)
  /-- CAT_WCTL_CLOSE (R106). -/
  | catWctlClose
  /-- SLOT_CHECK_DONE (R106). -/
  | slotCheckDone (readErr : Bool)
  /-- CAT_WCTL_COMMIT (R108). -/
  | catWctlCommit
  /-- SLOT_COMMIT_DONE (R103). -/
  | slotCommitDone
  /-- CAT_WCTL_ABORT (R108). -/
  | catWctlAbort
  /-- FAB_LWR (R125). -/
  | fabLwr (c : Nat) (w : Word)
  /-- FAB_LWRG (R126). -/
  | fabLwrg (c g : Nat) (w : Word)
  /-- PU_PD_WRITE (R140). -/
  | puPdWrite (c u : Nat) (w : Word)
  /-- PULSE_PERIOD_END (R135). -/
  | pulsePeriodEnd (u : Nat)
  /-- PU_GATE_RISE (R138). -/
  | puGateRise (u : Nat)
  /-- LINE_EDGE_EVENT (R149). -/
  | lineEdgeEvent (r : Nat) (rising : Bool)
  /-- CHANNEL_COMMAND_CHANGE (R157). -/
  | channelCommandChange (n : Nat)
  /-- CHANNEL_SHORT_CUT (R164). -/
  | channelShortCut (n iMa : Nat)
  /-- CURRENT_LIMIT_ENTRY (R166). -/
  | currentLimitEntry (n iMa : Nat)
  /-- CURRENT_LIMIT_EXIT (R157). -/
  | currentLimitExit (n iMa : Nat)
  /-- TLIM_EXPIRY (R166). -/
  | tlimExpiry (n iMa : Nat)
  /-- INRUSH_WINDOW_END (R174). -/
  | inrushWindowEnd (n iMa : Nat)
  /-- INRUSH_EXTENSION_END (R174). -/
  | inrushExtensionEnd (n iMa : Nat)
  /-- DROOP_DETECTED (R175). -/
  | droopDetected (n : Nat)
  /-- WIRE_MODEL_UPDATE (R178). -/
  | wireModelUpdate (n p iMa voutMv dt : Nat) (tj : Int)
  /-- JUNCTION_TRIP (R183). -/
  | junctionTrip (slot : Nat) (met : HotOutput)
  /-- DELTA_T_TRIP (R184). -/
  | deltaTTrip (n dt : Nat) (tj : Int)
  /-- STUCK_ON (R185). -/
  | stuckOn (n iMa : Nat)
  /-- CLAMP_EVENT_END (R188). -/
  | clampEventEnd (slot mJ : Nat)
  /-- BUCKET_FULL (R189). -/
  | bucketFull (slot : Nat)
  /-- HSW_LOCK_CLEAR (R189). -/
  | hswLockClear (who : Who) (k : Nat) (w : Word)
  /-- TRETRY_EXPIRY (R167). -/
  | tretryExpiry (slot : Nat)
  /-- TRIP_CONDITION_CLEAR (R167). -/
  | tripConditionClear (slot : Nat)
  /-- RETRY_COUNTER_RESET (R169). -/
  | retryCounterReset (slot : Nat)
  /-- HSW_CLR_TRIP (R168). -/
  | hswClrTrip (who : Who) (n : Nat)
  /-- OPEN_LOAD_MEASUREMENT (R193). -/
  | openLoadMeasurement (n iMa : Nat)
  /-- BRIDGE_COMMAND_CHANGE (R212). -/
  | bridgeCommandChange (b : Nat)
  /-- REVERSAL_BRAKE_END (R211). -/
  | reversalBrakeEnd (b : Nat)
  /-- BRIDGE_CYCLE_LIMIT (R215). -/
  | bridgeCycleLimit (b iMa : Nat)
  /-- CYCLE_LIMIT_END (R215). -/
  | cycleLimitEnd (b : Nat)
  /-- BRIDGE_TLIM_EXPIRY (R216). -/
  | bridgeTlimExpiry (b iMa : Nat)
  /-- BRAKE_OVERCURRENT (R217). -/
  | brakeOvercurrent (b iMa : Nat)
  /-- BRIDGE_SHORT_CUT (R218). -/
  | bridgeShortCut (b sw iMa : Nat)
  /-- BRIDGE_OPEN_LOAD (R220). -/
  | bridgeOpenLoad (b iMa : Nat)
  /-- POSITION_COUNT (R224). -/
  | positionCount (b tk iMa ampMa inHz : Nat) (dir : Bool)
  /-- POSITION_ERROR (R225). -/
  | positionError (b cause : Nat)
  /-- PINCH_PERIOD_EXCEEDED (R226). -/
  | pinchPeriodExceeded (b : Nat)
  /-- STALL_DETECTED (R227). -/
  | stallDetected (b iMa : Nat)
  /-- TSTOPBRK_EXPIRY (R230). -/
  | tstopbrkExpiry (b : Nat)
  /-- HBR_TGT_WRITE (R228). -/
  | hbrTgtWrite (who : Who) (b : Nat) (w : Word)
  /-- HBR_POSSET (R223). -/
  | hbrPosset (who : Who) (b : Nat) (w : Word)
  /-- HBR_CLR_TRIP (R218). -/
  | hbrClrTrip (who : Who) (b : Nat)
  /-- HBR_CLR_STOP (R230). -/
  | hbrClrStop (who : Who) (b : Nat)
  /-- HBR_SFLT (R242). -/
  | hbrSflt (who : Who) (b : Nat) (w : Word)
  /-- VALVE_COMMAND_RISE (R250). -/
  | valveCommandRise (v : Nat)
  /-- VALVE_COMMAND_FALL (R247). -/
  | valveCommandFall (v : PeakEnd)
  /-- BOOST_START (R251). -/
  | boostStart (v tbw : Nat)
  /-- BOOST_END (R247). -/
  | boostEnd (v : Nat) (reached : Bool) (iMa : Nat)
  /-- BOOST_WAIT_LIMIT (R252). -/
  | boostWaitLimit (v : Nat)
  /-- DECAY_END (R246). -/
  | decayEnd (slot : Nat)
  /-- TVMINOFF_EXPIRY (R260). -/
  | tvminoffExpiry (v : Nat)
  /-- OPEN_COIL_CHECK (R266). -/
  | openCoilCheck (slot iMa : Nat)
  /-- HOLD_CURRENT_LOW (R265). -/
  | holdCurrentLow (slot iMa : Nat)
  /-- COIL_MODEL_UPDATE (R261). -/
  | coilModelUpdate (slot vrailMv duty vfMv iMa : Nat) (tj : Int) (reg : Bool)
  /-- BANK_EMERGENCY_OFF (R254). -/
  | bankEmergencyOff (k : BankPeaks)
  /-- BANK_OPENING_END (R254). -/
  | bankOpeningEnd (k iMax mJ : Nat)
  /-- BANK_ENABLE_ON (R255). -/
  | bankEnableOn (k : Nat)
  /-- BANK_SWITCH_TRIP (R256). -/
  | bankSwitchTrip (k : BankPeaks) (sc : Bool) (iMa : Nat) (tj : Int) (iMax mJ : Nat)
  /-- COIL_SHORT_CUT (R264). -/
  | coilShortCut (slot : Nat) (high : Bool) (met : CoilSurge)
  /-- VLV_CLR_TRIP (R264). -/
  | vlvClrTrip (who : Who) (slot : Nat)
  /-- CONTACTOR_COMMAND_RISE (R268). -/
  | contactorCommandRise (c : Nat)
  /-- CONTACTOR_COMMAND_FALL (R268). -/
  | contactorCommandFall (c : PeakEnd)
  /-- PULLIN_END (R269). -/
  | pullinEnd (c : Nat) (reached : Bool) (iMa : Nat)
  /-- CONTACTOR_HIGH_SIDE_OPEN (R270). -/
  | contactorHighSideOpen (c iMa mJ : Nat)
  /-- AUX_CONTACT_CHECK (R273). -/
  | auxContactCheck (c reason : Nat)
  /-- LED_LEVEL_WRITE (R279). -/
  | ledLevelWrite (who : Who) (i : Nat) (w : Word)
  /-- DEMAND_LINE_CHANGE (R279). -/
  | demandLineChange (i : Nat)
  /-- DIMMING_DUTY_WRITE (R283). -/
  | dimmingDutyWrite (i : Nat)
  /-- SHORT_TO_GROUND (R286). -/
  | shortToGround (i voutMv : Nat)
  /-- OPEN_STRING_MEASUREMENT (R287). -/
  | openStringMeasurement (i iUa voutMv feedMv : Nat)
  /-- SHORTED_LED_CHECK (R288). -/
  | shortedLedCheck (i voutMv : Nat)
  /-- DAC_FAILURE (R289). -/
  | dacFailure (i iUa : Nat)
  /-- LED_CLR_TRIP (R284). -/
  | ledClrTrip (who : Who) (i : Nat)
  /-- LED_CLR_DACRST (R289). -/
  | ledClrDacrst (who : Who) (i : Nat)
  /-- DAC_RETEST (R289). -/
  | dacRetest (i : Nat) (pass : Bool)
  /-- LAMP_GROUP_UPDATE (R291). -/
  | lampGroupUpdate (g mv vsMv : Nat)
  /-- FOLDBACK_UPDATE (R293). -/
  | foldbackUpdate (ms : List LedMeas)
  /-- REFRESH_START (R299). -/
  | refreshStart (n : ChainRead)
  /-- REFRESH_COMPLETE (R302). -/
  | refreshComplete (n : Nat) (ret : List (List Byte))
  /-- CHAIN_UNDERRUN (R301). -/
  | chainUnderrun (n : ChainRead)
  /-- LCH_CTL_SWAP (R300). -/
  | lchCtlSwap (who : Who) (n : Nat)
  /-- LCH_CTL_DISC (R304). -/
  | lchCtlDisc (who : Who) (n : Nat)
  /-- DISCOVERY_DONE (R304). -/
  | discoveryDone (n : Nat) (found : Option Nat) (delay : Nat)
  /-- DISCOVERY_RETRY (R304). -/
  | discoveryRetry (n : Nat)
  /-- SIN_SAMPLE (R311). -/
  | sinSample (g : Nat) (mv : List Nat)
  /-- AIN_UPDATE (R321). -/
  | ainUpdate (j mv vsMv : Nat)
  /-- AIN_OVER_RANGE (R324). -/
  | ainOverRange (j : Nat)
  /-- SENSOR_SUPPLY_OVERLOAD (R323). -/
  | sensorSupplyOverload (u mv : Nat)
  /-- HALL_LEVEL_CHANGE (R325). -/
  | hallLevelChange (h : Nat) (lvl : Bool) (i : Nat)
  /-- HALL_OPEN_SHORT (R326). -/
  | hallOpenShort (h i : Nat)
  /-- MOVE (R331). -/
  | move (d ecc : Nat) (lost : Bool)
  /-- ALU_OPERATION (R338). -/
  | aluOperation (c port : Nat) (b : Word)
  /-- MUL_MULTIPLY (R340). -/
  | mulMultiply (c port : Nat) (b : Word)
  /-- MUL_DIVIDE (R339). -/
  | mulDivide (c port : Nat) (b : Word)
  /-- DIVIDE_COMPLETE (R340). -/
  | divideComplete (c : Nat)
  /-- SAT_OPERATION (R337). -/
  | satOperation (c port : Nat) (b : Word)
  /-- LSU_LOAD (R341). -/
  | lsuLoad (c port : Nat) (b : Word)
  /-- LOAD_COMPLETE (R340). -/
  | loadComplete (d ecc coll : Nat)
  /-- LSU_STORE (R341). -/
  | lsuStore (c port : Nat) (b : Word)
  /-- STORE_QUEUE_DRAIN (R340). -/
  | storeQueueDrain (d ecc coll : Nat)
  /-- LSU_ATOMIC (R389). -/
  | lsuAtomic (c port : Nat) (b : Word)
  /-- LSU_STAT_READ (R345). -/
  | lsuStatRead (c g : Nat)
  /-- STR_COPY (R340). -/
  | strCopy (c : Nat)
  /-- STR_FILL (R340). -/
  | strFill (c : Nat) (b : Word)
  /-- STR_CMP (R352). -/
  | strCmp (c : Nat)
  /-- STR_CRC (R344). -/
  | strCrc (c : Nat)
  /-- STR_OPERATION_COMPLETE (R340). -/
  | strOperationComplete (d : Nat) (ecc coll : StrSides)
  /-- PC_JUMP (R346). -/
  | pcJump (c port : Nat) (b : Word)
  /-- PC_CALL (R347). -/
  | pcCall (c port : Nat) (b : Word)
  /-- EVT_WAIT (R348). -/
  | evtWait (c : Nat) (b : Word)
  /-- EVT_SEND (R349). -/
  | evtSend (c : Nat) (b : Word)
  /-- EVT_CLR (R337). -/
  | evtClr (c : Nat) (b : Word)
  /-- EVT_YIELD (R367). -/
  | evtYield (c : Nat)
  /-- TMR_NOW (R337). -/
  | tmrNow (c g : Nat)
  /-- TMR_UNTIL (R350). -/
  | tmrUntil (c : Nat) (b : Word)
  /-- TMR_AFTER (R350). -/
  | tmrAfter (c : Nat) (b : Word)
  /-- TIMED_WAIT_EXPIRY (R350). -/
  | timedWaitExpiry (c : Nat)
  /-- TMR_ALARM (R351). -/
  | tmrAlarm (c : Nat) (b : Word)
  /-- TMR_ALOFF (R351). -/
  | tmrAloff (c : Nat)
  /-- ALARM_EXPIRY (R351). -/
  | alarmExpiry (c : Nat)
  /-- REP_T (R352). -/
  | repT (c : Nat) (n : Word)
  /-- WINDOW_READ (R353). -/
  | windowRead (c w g : Nat)
  /-- WINDOW_WRITE (R354). -/
  | windowWrite (c w : Nat) (b : Word)
  /-- WINDOW_TIMEOUT (R353). -/
  | windowTimeout (d : Nat) (read : Option (Nat × Nat))
  /-- SHADOW_PRELOAD_DONE (R368). -/
  | shadowPreloadDone (d : RecordLoad)
  /-- BUDGET_EXPIRY (R371). -/
  | budgetExpiry (c : Nat)
  /-- QUARANTINE_EFFECT (R373). -/
  | quarantineEffect (c : Nat)
  /-- CTX_CMD_RELEASE (R375). -/
  | ctxCmdRelease (who : Who) (c : Nat)
  /-- CTX_CMD_QUARANTINE (R376). -/
  | ctxCmdQuarantine (who : Who) (c : Nat)
  /-- CORE_FAILURE (R377). -/
  | coreFailure (d : Nat) (pll : Bool)
  /-- ECC_WRITEBACK (R385). -/
  | eccWriteback
  /-- SCRUB_READ (R388). -/
  | scrubRead (addr e : Nat)
  /-- BANK_WAKE_DONE (R391). -/
  | bankWakeDone (b : Nat)
  /-- BANK_INIT_DONE (R391). -/
  | bankInitDone
  /-- CAN_FRAME_RECEIVED (R401). -/
  | canFrameReceived (n : Nat) (f : CanFrame) (sof : Word)
  /-- CAN_RXD_READ (R407). -/
  | canRxdRead (who : Who) (n q : Nat)
  /-- CAN_RXPOP (R408). -/
  | canRxpop (who : Who) (n q : Nat) (w : Word)
  /-- CAN_TX_BUFFER_WRITE (R410). -/
  | canTxBufferWrite (who : Who) (n b i : Nat) (w : Word)
  /-- CAN_TX_REQUEST (R411). -/
  | canTxRequest (who : Who) (n : Nat) (w : Word)
  /-- CAN_TX_CANCEL (R415). -/
  | canTxCancel (who : Who) (n : Nat) (w : Word) (inArb : Bool)
  /-- CAN_STAGING_DONE (R412). -/
  | canStagingDone (n e : Nat)
  /-- CAN_TX_CHOICE (R413). -/
  | canTxChoice (n : Nat)
  /-- CAN_TX_SUCCESS (R413). -/
  | canTxSuccess (n : Nat) (sof : Word) (tdcv : Nat)
  /-- CAN_TX_ERROR (R416). -/
  | canTxError (n : Nat) (e : CanErr) (tdcv : Option Nat)
  /-- CAN_RX_ERROR (R416). -/
  | canRxError (n : Nat) (e : CanErr)
  /-- BUS_OFF_RECOVERY_DONE (R416). -/
  | busOffRecoveryDone (n : Nat)
  /-- CAN_CMD_RECOVER (R416). -/
  | canCmdRecover (who : Who) (n : Nat)
  /-- CAN_CMD_CLRLONELY (R417). -/
  | canCmdClrlonely (who : Who) (n : Nat)
  /-- CAN_INTEGRATION_DONE (R420). -/
  | canIntegrationDone (n : Nat)
  /-- TXD_DOMINANT_TIMEOUT (R419). -/
  | txdDominantTimeout (n : Nat) (own : Bool)
  /-- GATEWAY_BUFFER_LOAD (R445). -/
  | gatewayBufferLoad (n : Nat)
  /-- LIN_SLOT_START (R428). -/
  | linSlotStart (n : Nat)
  /-- LIN_RESPONSE_RECEIVED (R434). -/
  | linResponseReceived (n : Nat) (data : List Byte) (chk : Byte) (err coll : Bool)
  /-- LIN_RESPONSE_TIMEOUT (R429). -/
  | linResponseTimeout (n : Nat) (any coll : Bool)
  /-- LIN_BUS_DOMINANT (R450). -/
  | linBusDominant (n : Nat)
  /-- LIN_SCHED_WRITE (R430). -/
  | linSchedWrite (who : Who) (n : Nat) (w : Word)
  /-- LIN_CMD_WAKE (R435). -/
  | linCmdWake (who : Who) (n : Nat)
  /-- LIN_DATA_WRITE (R433). -/
  | linDataWrite (who : Who) (n k i : Nat) (w : Word)
  /-- LIN_DATA_READ (R434). -/
  | linDataRead (who : Who) (n k i : Nat)
  /-- LIN_SCHEDULE_RESUME (R461). -/
  | linScheduleResume (n : Nat)
  /-- ETH_FRAME_RECEIVED (R437). -/
  | ethFrameReceived (p : Nat) (f : EthFrame) (full : BitVec 8)
  /-- ETH_LINK_CHANGE (R450). -/
  | ethLinkChange (p : Nat) (failed : Bool)
  /-- PLCA_BEACON_LOST (R438). -/
  | plcaBeaconLost (p : Nat)
  /-- SYNC_MESSAGE_RECEIVED (R440). -/
  | syncMessageReceived (p : Nat) (offset : Int)
  /-- SYNC_LOST (R440). -/
  | syncLost
  /-- TALKER_PDU_SEND (R449). -/
  | talkerPduSend (st : Nat) (full : Bool)
  /-- LISTENER_PDU_RECEIVED (R449). -/
  | listenerPduReceived (p st : Nat) (pdu : List Byte)
  /-- NM_FRAME_RECEIVED (R453). -/
  | nmFrameReceived (n : Nat) (f : CanFrame) (sof : Word)
  /-- NM_CYCLE (R455). -/
  | nmCycle
  /-- SLEEP_PENDING_ENTRY (R459). -/
  | sleepPendingEntry
  /-- TPEND_EXPIRY (R457). -/
  | tpendExpiry
  /-- NM_BUS_IDLE (R460). -/
  | nmBusIdle
  /-- NM_STANDBY_DONE (R457). -/
  | nmStandbyDone
  /-- NM_CMD_WAKE (R462). -/
  | nmCmdWake (who : Who)
  /-- NM_CTL_WRITE (R462). -/
  | nmCtlWrite (who : Who) (w : Word)
  /-- NM_LOCAL_WAKE_LINE (R462). -/
  | nmLocalWakeLine
  /-- NM_WAKE_FROM_SLEEP (R464). -/
  | nmWakeFromSleep
  /-- PN_CLUSTER_TIMEOUT (R469). -/
  | pnClusterTimeout (k : Nat) (frame : Bool)
  /-- CLUSTER_ACTIVATION_TIMEOUT (R470). -/
  | clusterActivationTimeout (n : Nat)
  /-- MAIN_UNDERVOLTAGE (R478). -/
  | mainUndervoltage (mv : Int)
  /-- MAIN_RECOVERY (R478). -/
  | mainRecovery (mv : Int)
  /-- BACKUP_UNDERVOLTAGE (R478). -/
  | backupUndervoltage (low : Bool) (mv : Int)
  /-- SUPPLY_OVERVOLTAGE (R480). -/
  | supplyOvervoltage (backup : Bool) (mv : Int)
  /-- REVERSE_CURRENT (R482). -/
  | reverseCurrent (peakMa : Nat)
  /-- TRANSFER_BACKUP_ON (R482). -/
  | transferBackupOn
  /-- TRANSFER_MAIN_OPEN (R493). -/
  | transferMainOpen (vminMv : Nat)
  /-- PWR_PRCMD_FORCE (R482). -/
  | pwrPrcmdForce (who : Who)
  /-- PWR_PRCMD_RETURN (R484). -/
  | pwrPrcmdReturn (who : Who)
  /-- TRET_EXPIRY (R484). -/
  | tretExpiry
  /-- RAIL_RETURN_DONE (R484). -/
  | railReturnDone (railMv : Nat)
  /-- BASEPLATE_HOT (R492). -/
  | baseplateHot (tb : Int)
  /-- FAULT_REPORT (R500). -/
  | faultReport (n : Nat)
  /-- REACTION_SEQUENCE_END (R506). -/
  | reactionSequenceEnd (g : Nat)
  /-- SHADOW_WINDOW_END (R510). -/
  | shadowWindowEnd (g : Nat)
  /-- SOURCE_ACTIVITY_EXPIRY (R509). -/
  | sourceActivityExpiry (src : Nat)
  /-- LOG_WRITE (R515). -/
  | logWrite
  /-- LOG_BUFFER_FLUSH (R516). -/
  | logBufferFlush
  /-- FLT_RGCMD_RELEASE (R508). -/
  | fltRgcmdRelease (who : Who) (g : Nat)
  /-- GROUP_AUTO_RELEASE (R508). -/
  | groupAutoRelease (g : Nat)
  /-- FLT_ATTN_ACK (R517). -/
  | fltAttnAck (mask : BitVec 6)
  /-- FLT_CMD_CLRLOG (R515). -/
  | fltCmdClrlog (who : Who)
  /-- FLT_CMD_CLRLOST (R511). -/
  | fltCmdClrlost
  /-- FLT_INJ_LIVE (R518). -/
  | fltInjLive (who : Who) (src tinj : Nat)
  /-- FLT_INJ_DRY (R518). -/
  | fltInjDry (who : Who) (src tinj : Nat)
  /-- FLT_INJ_END (R519). -/
  | fltInjEnd
  /-- INJECTION_EXPIRY (R518). -/
  | injectionExpiry
  /-- DIGEST_EXCHANGE (R521). -/
  | digestExchange (sentA sentB : Bool) (decA decB : HalfDec)
  /-- BOTH_HALVES_LOST (R524). -/
  | bothHalvesLost
  /-- SELF_TEST_CYCLE (R525). -/
  | selfTestCycle (half : Half) (failed : Nat)
  /-- TST_CMD_SELF_TEST_A (R525). -/
  | tstCmdSelfTestA (who : Who)
  /-- TST_CMD_SELF_TEST_B (R525). -/
  | tstCmdSelfTestB (who : Who)
  /-- TST_CMD_COMPARE_TEST (R525). -/
  | tstCmdCompareTest (who : Who)
  /-- TST_CMD_FORCE_PATH_TEST (R525). -/
  | tstCmdForcePathTest (who : Who) (g : Nat)
  /-- TEST_COMPLETE (R525). -/
  | testComplete (failed : Nat)
  /-- TAKEOVER_RELEASE (R550). -/
  | takeoverRelease
  /-- HANDOVER_ROLE_TIMER (R552). -/
  | handoverRoleTimer
  /-- TWSTART_EXPIRY (R555). -/
  | twstartExpiry
  /-- TWIN_SUSPENSION_UNIT (R535). -/
  | twinSuspensionUnit (f : TwFrame)
  /-- TWIN_OUTPUT_COMMAND (R536). -/
  | twinOutputCommand (f : TwFrame)
  /-- TWIN_PROTECTION_STATE (R532). -/
  | twinProtectionState (f : TwFrame)
  /-- TWIN_CAN (R544). -/
  | twinCan (f : TwFrame)
  /-- TWIN_CONDITION_REPORT (R539). -/
  | twinConditionReport (f : TwFrame)
  /-- TWIN_HEARTBEAT (R544). -/
  | twinHeartbeat (f : TwFrame)
  /-- TWIN_RESYNC_BLOCK (R538). -/
  | twinResyncBlock (f : TwFrame)
  /-- TWIN_CLOSING (R552). -/
  | twinClosing (f : TwFrame)
  /-- TWIN_ROLE_CLAIM (R557). -/
  | twinRoleClaim (f : TwFrame)
  /-- TWIN_TRAINING (R543). -/
  | twinTraining (f : TwFrame)
  /-- TRAINING_FRAME_SEND (R543). -/
  | trainingFrameSend
  /-- HEARTBEAT_SEND (R545). -/
  | heartbeatSend
  /-- PROTECTION_SHIP_TICK (R532). -/
  | protectionShipTick
  /-- LINK_LOST (R545). -/
  | linkLost
  /-- LANE_LOST (R545). -/
  | laneLost (lane : Nat)
  /-- TWN_CMD_FAILBACK (R558). -/
  | twnCmdFailback (who : Who)
  /-- TWN_CMD_RESYNC (R538). -/
  | twnCmdResync (who : Who)
  /-- KEY_CMD_APPLY (R577). -/
  | keyCmdApply (who : Who)
  /-- KEY_CMD_PLAINWR (R570). -/
  | keyCmdPlainwr (who : Who) (slot flags : Nat)
  /-- KEY_CMD_IMGKEY (R571). -/
  | keyCmdImgkey (who : Who) (idx : Nat)
  /-- KEY_CMD_SVCCHAL (R574). -/
  | keyCmdSvcchal (who : Who)
  /-- KEY_CMD_SVCAUTH (R574). -/
  | keyCmdSvcauth (who : Who)
  /-- KEY_CMD_CLRCACHE (R564). -/
  | keyCmdClrcache (who : Who)
  /-- KEY_COMMIT_DONE (R567). -/
  | keyCommitDone
  /-- SVCOK_EXPIRY (R574). -/
  | svcokExpiry
  /-- SVC_LOCKOUT_EXPIRY (R575). -/
  | svcLockoutExpiry
  /-- KEY_OPGO (R580). -/
  | keyOpgo (who : Who) (addr : Word)
  /-- KEY_OPERATION_DONE (R581). -/
  | keyOperationDone
  /-- KEY_TCFG_WRITE (R582). -/
  | keyTcfgWrite (w : Word)
  /-- TAMPER_EVENT (R584). -/
  | tamperEvent (src : Nat)
  /-- DEBUG_REQUEST (R591). -/
  | debugRequest (ident : Bool)
  /-- HOST_NOP (R595). -/
  | hostNop (f : HostFrame)
  /-- HOST_READ (R600). -/
  | hostRead (f : HostFrame)
  /-- HOST_WRITE (R598). -/
  | hostWrite (f : HostFrame)
  /-- HOST_READS (R595). -/
  | hostReads (f : HostFrame)
  /-- HOST_WRITES (R595). -/
  | hostWrites (f : HostFrame)
  /-- HOST_RESERVED_COMMAND (R597). -/
  | hostReservedCommand (f : HostFrame)
  /-- HOST_FRAME_ABORT (R599). -/
  | hostFrameAbort
  /-- REGISTER_WRITE (R19). -/
  | registerWrite (who : Who) (addr : Nat) (w : Word)
  /-- MGMT_REQUEST (R605). -/
  | mgmtRequest (dgram : List Byte) (late : Option Nat) (coll : List HostColl) (ecc : List Nat)
  /-- CAL_VAL_WRITE (R607). -/
  | calValWrite (r : Nat) (w : Word)
  /-- CAL_COMMIT_DONE (R607). -/
  | calCommitDone (r : Nat)
  /-- CROSSING_TIMEOUT (R31). -/
  | crossingTimeout (src dst block : Nat)
  /-- BRIDGE_LIMIT_EXIT (R212). -/
  | bridgeLimitExit (b : Nat)
  /-- TXD_RECESSIVE_RETURN (R419). -/
  | txdRecessiveReturn (n : Nat)
  /-- ETH_LINK_UP (R436). -/
  | ethLinkUp (p sqi : Nat)
  /-- PLCA_BEACON_RETURN (R438). -/
  | plcaBeaconReturn (p : Nat)
  /-- OVERVOLTAGE_CLEAR (R478). -/
  | overvoltageClear (backup : Bool) (mv : Int)
  /-- TBHOT_CLEAR (R492). -/
  | tbhotClear (tb : Int)
  /-- TWOK_I_RISE (R548). -/
  | twokIRise
  /-- TWIN_LANE_UP (R545). -/
  | twinLaneUp (lane : Nat)
  /-- STUCK_ON_CLEAR (R635). -/
  | stuckOnClear (n : Nat)
  /-- WINDOW_QUEUE_DRAIN (R353). -/
  | windowQueueDrain (d : Nat)
  /-- SENSOR_SUPPLY_RECOVERY (R323). -/
  | sensorSupplyRecovery (u : Nat)
deriving DecidableEq, Repr

end Sys2Proof
end

