-- ==== Sys2Proof/Config.lean ====
section
/-! DEFINITION. What the spec leaves open, as constants without a body: nothing in Lean can evaluate them, so a claim holds
whatever they are. `freeWord` and `freeByte` are the sources of free values (R390, the random nonces of spec/17 to spec/19 and
every other value that the spec does not state: notes/assumptions/2.md). -/

namespace Sys2Proof.Config

/-- A free word: the `n`-th value that the spec does not state. -/
opaque freeWord : Nat → Word

/-- A free byte: the `n`-th byte that the spec does not state. -/
opaque freeByte : Nat → Byte

/-- The secret that the PUF regenerates (R560, R561). -/
opaque pufSecret : BitVec 512

/-- The time after which the switch forgets a learned address, in 10 ns steps (R437 names ageing and states no time). -/
opaque ageingTime : Nat

/-- The age, in 10 ns steps beyond the least one, of the copy of the time base that an island other than the fabric reads at a given
moment (R28). -/
opaque readAge : Nat → Nat

/-- How far the always-on island's count lies from the time base at a given moment, in 10 ns steps (R514, R639). -/
opaque alwaysOnError : Nat → Nat

/-- The MAC address that the module sends from (the spec gives none). -/
opaque macAddress : Nat

end Sys2Proof.Config
end

