-- ==== Sys2Proof/Machine/Operands.lean ====
section
/-! DEFINITION. Reading and writing bit fields of words, bytes of words and signed values: the helpers every operand
form and register field uses. R11 and R12: bit 0 is the least significant bit, little-endian byte order. -/

namespace Sys2Proof.Machine

/-- Bits [lo + n − 1 : lo] of a word. -/
def ext (w : Word) (lo n : Nat) : Nat := (w >>> lo).toNat % 2 ^ n

/-- The word with ones at bits [lo + n − 1 : lo]. -/
def fieldMask (lo n : Nat) : Word := (BitVec.ofNat 32 (2 ^ n - 1)) <<< lo

/-- `w` with `v` (its low `n` bits) at bits [lo + n − 1 : lo]. -/
def ins (w : Word) (lo n v : Nat) : Word :=
  (w &&& ~~~ fieldMask lo n) ||| ((BitVec.ofNat 32 (v % 2 ^ n)) <<< lo)

/-- Bit `i` of a natural number. -/
def bitOf (v i : Nat) : Bool := v.testBit i

/-- 1 for true, 0 for false. -/
def b2n (b : Bool) : Nat := if b then 1 else 0

/-- A two's complement number of `n` bits. -/
def signedOf (v n : Nat) : Int := if v < 2 ^ (n - 1) then (v : Int) else (v : Int) - (2 : Int) ^ n

/-- An integer as an `n`-bit two's complement number. -/
def unsignedOf (x : Int) (n : Nat) : Nat := (x % ((2 : Int) ^ n)).toNat

/-- A count that saturates at the largest value of its `n` bits. -/
def satInc (v n : Nat) : Nat := if v + 1 < 2 ^ n then v + 1 else 2 ^ n - 1

/-- A value limited to the range of `n` bits. -/
def satTo (v n : Nat) : Nat := if v < 2 ^ n then v else 2 ^ n - 1

/-- The integer `x` limited to 0 and to the range of `n` bits. -/
def clampInt (x : Int) (n : Nat) : Nat := satTo x.toNat n

/-- Byte `i` of a word, byte 0 lowest (R11). -/
def byteOf (w : Word) (i : Nat) : Byte := BitVec.ofNat 8 (w.toNat / 2 ^ (8 * i))

/-- The little-endian number that a list of bytes spells (R12). -/
def leNat : List Byte → Nat
  | [] => 0
  | b :: bs => b.toNat + 256 * leNat bs

/-- The big-endian number that a list of bytes spells. -/
def beNat (bs : List Byte) : Nat := bs.foldl (fun a b => 256 * a + b.toNat) 0

/-- `n` little-endian bytes of a number (R12). -/
def leBytes (v : Nat) : Nat → List Byte
  | 0 => []
  | n + 1 => BitVec.ofNat 8 v :: leBytes (v / 256) n

/-- `n` big-endian bytes of a number. -/
def beBytes (v n : Nat) : List Byte := (leBytes v n).reverse

/-- A word from four bytes, the first lowest (R11). -/
def wordOf (bs : List Byte) : Word := BitVec.ofNat 32 (leNat (bs.take 4))

/-- Whether `v` is one of the values that the ranges hold; no range holds every value. -/
def inRanges (v : Nat) (rs : List (Nat × Nat)) : Bool :=
  rs.isEmpty || rs.any fun r => r.1 ≤ v && v ≤ r.2

/-- `f` on the state where `c` holds, the state unchanged otherwise. -/
def onlyIf {σ : Type} (c : Bool) (f : σ → σ) (s : σ) : σ := if c then f s else s

/-- `f i` for each `i` of a list, in its order. -/
def forEach {σ α : Type} (xs : List α) (f : α → σ → σ) (s : σ) : σ := xs.foldl (fun s x => f x s) s

end Sys2Proof.Machine
end

