-- ==== Sys2Proof/Machine/Regs.lean ====
section
/-! DEFINITION. The registers of spec/02 to spec/19 by name (one constructor of `Reg` per register definition), the
fields of each (`HSW_STAT.STATE` and so on, as the spec's field tables give them), and the descriptor tables
`Reg.place` (where a register lies, spec/20 R609, R610, R615) and `Reg.fields` (bits, access code R14, the values that
the field's description leaves legal, and the resource the field names, R634).
The text follows the register tables row by row. -/

namespace Sys2Proof.Machine

/-- Every register the spec defines (R615), without its index letters. -/
inductive Reg where
  | SYS_ID | SYS_MODE | SYS_MODEREQ | SYS_MODERES | SYS_RSTCAUSE | SYS_RSTCMD | SYS_START | SYS_CFG
  | SYS_WATCH | SYS_HOLDLOG | SYS_WAKESRC | CAT_STAT | CAT_IMGVER | CAT_ROLLBACK | CAT_FLOOR | CAT_LOADA
  | CAT_LOADB | CAT_LOADAOFF | CAT_LOADBOFF | CAT_WCTL | CAT_WLEN | CAT_WSTAT | CAT_MBOUND | FAB_STAT
  | FAB_OWNERR | FAB_LWR | FAB_LVAL | FAB_LWRG | FAB_LSRC | FAB_OSEL | PU_CFG | PU_PD | PU_PH | PU_STAT
  | LC_INAB | LC_INCD | LC_CFG | ER_CFG | ER_CNT | HSW_CFG | HSW_LIM | HSW_INR0 | HSW_INR1 | HSW_WIRE0
  | HSW_WIRE1 | HSW_WIRE2 | HSW_TIME | HSW_OL | HSW_FB | HSW_STAT | HSW_MEAS | HSW_MEAS2 | HSW_WTEMP
  | HSW_CLAMP | HSW_CLR | HSW_LOCK0 | HSW_LOCK1 | HBR_CFG | HBR_LIM | HBR_STALL | HBR_MON | HBR_PZONE
  | HBR_PINCH | HBR_OL | HBR_FB | HBR_SVC | HBR_TGT | HBR_STAT | HBR_MEAS | HBR_POS | HBR_POSSET | HBR_CLR
  | HBR_SFLT | VLV_CFG | VLV_PROF | VLV_COIL | VLV_COIL2 | VLV_FB | VLV_STAT | VLV_MEAS | VLV_TEMP | VLV_RES
  | VLV_CLR | VHS_CFG | VHS_FB | VHS_STAT | VHS_MEAS | VHS_CLAMP | VHS_CLR | CTD_CFG | CTD_PROF | CTD_COIL
  | CTD_COIL2 | CTD_FB | CTD_AUX | CTD_STAT | CTD_MEAS | CTD_TEMP | CTD_RES | CTD_CLAMP | CTD_CLR | LED_CFG
  | LED_LVL | LED_DEM | LED_DIAG | LED_FB | LED_STAT | LED_MEAS | LED_EFF | LED_CLR | LED_PCFG | LED_PSTAT
  | LG_NTC | LG_NTC2 | LG_DER | LG_STAT | LCH_CFG | LCH_RATE | LCH_BUF | LCH_SBUF | LCH_CTL | LCH_STAT
  | LCH_CNT | LCH_DLY | INP_SGRP | INP_SDEB | INP_SLVL | INP_PARK | INP_PREF | AIN_CFG | AIN_CMP | AIN_VAL
  | HALL_CFG | HALL_STAT | INP_SUPCFG | INP_SUPSTAT | DOC_STAT | DOC_RET | DOC_STALL | DOC_TRAPS | DOC_TRAP
  | DOC_TRAPPC | DOC_TRAPW | DOC_WDCFG | DOC_WDKICK | DOC_WDSTAT | DOC_CTXWIN | DOC_WMAP | CTX_CMD | CTX_STAT
  | CTX_MIG | CTX_BDEM | CTX_LASTQ | CTXC_CFG | CTXC_ENTRY | CTXC_STAT | CTXC_RUN | MEM_CFG | MEM_STAT
  | MEM_ECCADDR | MEM_ECCSRC | MEM_HWCOLL | MEM_ECC | MEM_REPAIR | CAN_CFG | CAN_NBT | CAN_DBT | CAN_XBT
  | CAN_STAT | CAN_ERR | CAN_CMD | CAN_EVT | CAN_QCFG | CAN_QSTAT | CAN_RXD | CAN_RXPOP | CAN_QRDR
  | CAN_TXREQ | CAN_TXCAN | CAN_TXPEND | CAN_TXDONE | CAN_WDATA | CAN_WDMASK | CAN_FID | CAN_FMK | CAN_FCTL
  | CAN_TXW | CAN_TXS | CAN_TXT | LIN_CFG | LIN_SCHED | LIN_CMD | LIN_TE | LIN_D0 | LIN_D1 | LIN_D2 | GW_RT0
  | GW_RT1 | GW_RT2 | GW_RT3 | GW_BUSID | GW_STAT | ETH_PCFG | ETH_PSTAT | ETH_PLCA | ETH_VLAN | ETH_TSCTL
  | ETH_TSSTAT | ETH_STR0 | ETH_STR1 | ETH_STR2 | ETH_STR3 | ETH_STR4 | NM_CFG | NM_TIME | NM_PORT | NM_LIN
  | NM_CLUSTP | NM_CLUSTL | NM_CTL | NM_CMD | NM_STAT | NM_EVT | NM_PEND | PWR_CFG | PWR_CFG2 | PWR_EVT
  | PWR_STAT | PWR_MEAS | PWR_MEAS2 | PWR_PRCMD | PWR_XFER | FLT_STAT | FLT_CMD | FLT_LOGCNT | FLT_LOST
  | FLT_ATTN | FLT_INJ | FLT_INJD | FLT_INJSTAT | FLT_RGCMD | FLT_RGCTL | FLT_RGSTAT | FLT_DEF | FLT_OVR
  | FLT_OVRENT | FLT_SHM | TST_CMD | TST_STAT | TST_CFG | TWN_CFG | TWN_MAP | TWN_CTXM | TWN_MREG | TWN_PEN
  | TWN_DEN | TWN_STAT | TWN_LAG | TWN_LINK | TWN_TOFF | TWN_CMD | KEY_STAT | KEY_CMD | KEY_RES | KEY_UID
  | KEY_TCFG | KEY_TLOGCNT | KEY_OPGO | KEY_OPSTAT | KEY_UNSCNT | KEY_DBGCNT | KEY_TLOG | KEY_ENV | KEY_PLAIN
  | KEY_SVCNONCE | KEY_SVCRESP | KEY_CONF | KEY_SLOT | KEY_SCNT | HST_CFG | HST_STAT | HST_ECFG | HST_ESTAT
  | HST_ENONCE | HST_ESEQ | CAL_VAL | CAL_INFO | CAL_SUM | CAL_STAT
deriving DecidableEq, Repr, Inhabited

/-- One register: its name and its indices (unit, second index, third index; 0 where it has none). -/
structure RegRef where
  reg : Reg
  i : Nat := 0
  j : Nat := 0
  k : Nat := 0
deriving DecidableEq, Repr, Inhabited

/-- A field of a register: the register, the lowest bit and the width. -/
structure Fld where
  reg : Reg
  lo : Nat
  width : Nat
deriving DecidableEq, Repr

/-- The access codes of R14; `rsv` is a field named "—" (R19). -/
inductive Acc where | ro | rw | wo | w1c | rws | cat | rsv
deriving DecidableEq, Repr, Inhabited

/-- What a field names, for R634 and R6. -/
inductive Res where | none | line | ctx | pu
deriving DecidableEq, Repr, Inhabited

/-- A field as its register table gives it: bits, access, the legal values as ranges (empty: every value). -/
structure FieldInfo where
  lo : Nat
  width : Nat
  acc : Acc
  legal : List (Nat × Nat)
  res : Res := .none
deriving DecidableEq, Repr

/-- Where a register lies: the address of its first instance and its (stride, count) dimensions,
      widest stride first. -/
structure Place where
  base : Nat
  dims : List (Nat × Nat)
deriving DecidableEq, Repr

abbrev SYS_ID.PART : Fld := ⟨.SYS_ID, 16, 16⟩
abbrev SYS_ID.REV : Fld := ⟨.SYS_ID, 8, 8⟩
abbrev SYS_MODE.MODE : Fld := ⟨.SYS_MODE, 0, 4⟩
abbrev SYS_MODE.PREV : Fld := ⟨.SYS_MODE, 4, 4⟩
abbrev SYS_MODE.TARGET : Fld := ⟨.SYS_MODE, 8, 4⟩
abbrev SYS_MODE.BUSY : Fld := ⟨.SYS_MODE, 12, 1⟩
abbrev SYS_MODEREQ.REQ : Fld := ⟨.SYS_MODEREQ, 0, 4⟩
abbrev SYS_MODERES.RES : Fld := ⟨.SYS_MODERES, 0, 3⟩
abbrev SYS_MODERES.REQMODE : Fld := ⟨.SYS_MODERES, 4, 4⟩
abbrev SYS_MODERES.REQSRC : Fld := ⟨.SYS_MODERES, 8, 4⟩
abbrev SYS_RSTCAUSE.POR : Fld := ⟨.SYS_RSTCAUSE, 0, 1⟩
abbrev SYS_RSTCAUSE.BROWNOUT : Fld := ⟨.SYS_RSTCAUSE, 1, 1⟩
abbrev SYS_RSTCAUSE.WDOG : Fld := ⟨.SYS_RSTCAUSE, 2, 1⟩
abbrev SYS_RSTCAUSE.HOSTRST : Fld := ⟨.SYS_RSTCAUSE, 3, 1⟩
abbrev SYS_RSTCAUSE.CONSREQ : Fld := ⟨.SYS_RSTCAUSE, 4, 1⟩
abbrev SYS_RSTCAUSE.REFLOSS : Fld := ⟨.SYS_RSTCAUSE, 5, 1⟩
abbrev SYS_RSTCAUSE.TAMPER : Fld := ⟨.SYS_RSTCAUSE, 6, 1⟩
abbrev SYS_RSTCAUSE.RETFAIL : Fld := ⟨.SYS_RSTCAUSE, 7, 1⟩
abbrev SYS_RSTCAUSE.SLOTFB : Fld := ⟨.SYS_RSTCAUSE, 8, 1⟩
abbrev SYS_RSTCAUSE.HOLDEXP : Fld := ⟨.SYS_RSTCAUSE, 9, 1⟩
abbrev SYS_RSTCAUSE.CONSLOST : Fld := ⟨.SYS_RSTCAUSE, 10, 1⟩
abbrev SYS_RSTCMD.KEY : Fld := ⟨.SYS_RSTCMD, 0, 16⟩
abbrev SYS_START.PHASE : Fld := ⟨.SYS_START, 0, 4⟩
abbrev SYS_START.SLOT : Fld := ⟨.SYS_START, 4, 1⟩
abbrev SYS_START.WARM : Fld := ⟨.SYS_START, 5, 1⟩
abbrev SYS_START.TIME : Fld := ⟨.SYS_START, 8, 8⟩
abbrev SYS_CFG.STARTMODE : Fld := ⟨.SYS_CFG, 0, 4⟩
abbrev SYS_CFG.RESUME : Fld := ⟨.SYS_CFG, 4, 1⟩
abbrev SYS_WATCH.POLL : Fld := ⟨.SYS_WATCH, 0, 16⟩
abbrev SYS_WATCH.WIN : Fld := ⟨.SYS_WATCH, 16, 8⟩
abbrev SYS_HOLDLOG.HOLDMS : Fld := ⟨.SYS_HOLDLOG, 0, 16⟩
abbrev SYS_HOLDLOG.LIMPCNT : Fld := ⟨.SYS_HOLDLOG, 16, 8⟩
abbrev SYS_WAKESRC.SIN : Fld := ⟨.SYS_WAKESRC, 0, 1⟩
abbrev SYS_WAKESRC.CAN : Fld := ⟨.SYS_WAKESRC, 1, 1⟩
abbrev SYS_WAKESRC.LIN : Fld := ⟨.SYS_WAKESRC, 2, 1⟩
abbrev SYS_WAKESRC.TIMER : Fld := ⟨.SYS_WAKESRC, 3, 1⟩
abbrev SYS_WAKESRC.TAMPER : Fld := ⟨.SYS_WAKESRC, 4, 1⟩
abbrev SYS_WAKESRC.MAIN : Fld := ⟨.SYS_WAKESRC, 5, 1⟩
abbrev SYS_WAKESRC.TWIN : Fld := ⟨.SYS_WAKESRC, 6, 1⟩
abbrev SYS_WAKESRC.LATCHED : Fld := ⟨.SYS_WAKESRC, 7, 1⟩
abbrev SYS_WAKESRC.INDEX : Fld := ⟨.SYS_WAKESRC, 8, 8⟩
abbrev CAT_STAT.SLOT : Fld := ⟨.CAT_STAT, 0, 1⟩
abbrev CAT_STAT.PRIMARY : Fld := ⟨.CAT_STAT, 1, 1⟩
abbrev CAT_STAT.FALLBACK : Fld := ⟨.CAT_STAT, 2, 1⟩
abbrev CAT_STAT.PAIR : Fld := ⟨.CAT_STAT, 3, 1⟩
abbrev CAT_STAT.ANNEX : Fld := ⟨.CAT_STAT, 4, 4⟩
abbrev CAT_IMGVER.IMGVER : Fld := ⟨.CAT_IMGVER, 0, 32⟩
abbrev CAT_ROLLBACK.ROLLBACK : Fld := ⟨.CAT_ROLLBACK, 0, 32⟩
abbrev CAT_FLOOR.FLOOR : Fld := ⟨.CAT_FLOOR, 0, 32⟩
abbrev CAT_LOADA.ERR : Fld := ⟨.CAT_LOADA, 0, 8⟩
abbrev CAT_LOADA.TYPE : Fld := ⟨.CAT_LOADA, 8, 16⟩
abbrev CAT_LOADB.ERR : Fld := ⟨.CAT_LOADB, 0, 8⟩
abbrev CAT_LOADB.TYPE : Fld := ⟨.CAT_LOADB, 8, 16⟩
abbrev CAT_LOADAOFF.OFFSET : Fld := ⟨.CAT_LOADAOFF, 0, 32⟩
abbrev CAT_LOADBOFF.OFFSET : Fld := ⟨.CAT_LOADBOFF, 0, 32⟩
abbrev CAT_WCTL.CMD : Fld := ⟨.CAT_WCTL, 0, 4⟩
abbrev CAT_WLEN.LEN : Fld := ⟨.CAT_WLEN, 0, 23⟩
abbrev CAT_WSTAT.STATE : Fld := ⟨.CAT_WSTAT, 0, 3⟩
abbrev CAT_WSTAT.SEQERR : Fld := ⟨.CAT_WSTAT, 3, 1⟩
abbrev CAT_WSTAT.ERR : Fld := ⟨.CAT_WSTAT, 4, 8⟩
abbrev CAT_WSTAT.WORDS : Fld := ⟨.CAT_WSTAT, 12, 20⟩
abbrev CAT_MBOUND.TIME : Fld := ⟨.CAT_MBOUND, 0, 32⟩
abbrev FAB_STAT.LINES : Fld := ⟨.FAB_STAT, 0, 10⟩
abbrev FAB_STAT.STAGED : Fld := ⟨.FAB_STAT, 16, 1⟩
abbrev FAB_OWNERR.INDEX : Fld := ⟨.FAB_OWNERR, 0, 9⟩
abbrev FAB_OWNERR.KIND : Fld := ⟨.FAB_OWNERR, 9, 1⟩
abbrev FAB_OWNERR.CTX : Fld := ⟨.FAB_OWNERR, 16, 8⟩
abbrev FAB_OWNERR.VALID : Fld := ⟨.FAB_OWNERR, 24, 1⟩
abbrev FAB_OWNERR.COUNT : Fld := ⟨.FAB_OWNERR, 25, 7⟩
abbrev FAB_LWR.LINE : Fld := ⟨.FAB_LWR, 0, 9⟩
abbrev FAB_LWR.VAL : Fld := ⟨.FAB_LWR, 16, 1⟩
abbrev FAB_LVAL.LVAL : Fld := ⟨.FAB_LVAL, 0, 32⟩
abbrev FAB_LWRG.MASK : Fld := ⟨.FAB_LWRG, 0, 16⟩
abbrev FAB_LWRG.VAL : Fld := ⟨.FAB_LWRG, 16, 16⟩
abbrev FAB_LSRC.KIND : Fld := ⟨.FAB_LSRC, 0, 4⟩
abbrev FAB_LSRC.INDEX : Fld := ⟨.FAB_LSRC, 4, 8⟩
abbrev FAB_LSRC.INV : Fld := ⟨.FAB_LSRC, 12, 1⟩
abbrev FAB_LSRC.DEFLT : Fld := ⟨.FAB_LSRC, 13, 1⟩
abbrev FAB_OSEL.IN : Fld := ⟨.FAB_OSEL, 0, 9⟩
abbrev FAB_OSEL.INCON : Fld := ⟨.FAB_OSEL, 9, 1⟩
abbrev FAB_OSEL.DIR : Fld := ⟨.FAB_OSEL, 16, 9⟩
abbrev FAB_OSEL.DIRCON : Fld := ⟨.FAB_OSEL, 25, 1⟩
abbrev PU_CFG.PRE : Fld := ⟨.PU_CFG, 0, 8⟩
abbrev PU_CFG.TICK : Fld := ⟨.PU_CFG, 8, 1⟩
abbrev PU_CFG.MODE : Fld := ⟨.PU_CFG, 9, 2⟩
abbrev PU_CFG.SG : Fld := ⟨.PU_CFG, 11, 4⟩
abbrev PU_CFG.GATEEN : Fld := ⟨.PU_CFG, 15, 1⟩
abbrev PU_CFG.GATE : Fld := ⟨.PU_CFG, 16, 9⟩
abbrev PU_PD.PER : Fld := ⟨.PU_PD, 0, 16⟩
abbrev PU_PD.DUTY : Fld := ⟨.PU_PD, 16, 16⟩
abbrev PU_PH.PHASE : Fld := ⟨.PU_PH, 0, 16⟩
abbrev PU_PH.OWNER : Fld := ⟨.PU_PH, 16, 8⟩
abbrev PU_PH.OWNED : Fld := ⟨.PU_PH, 24, 1⟩
abbrev PU_STAT.COUNT : Fld := ⟨.PU_STAT, 0, 16⟩
abbrev PU_STAT.OUT : Fld := ⟨.PU_STAT, 16, 1⟩
abbrev PU_STAT.RUN : Fld := ⟨.PU_STAT, 17, 1⟩
abbrev LC_INAB.A : Fld := ⟨.LC_INAB, 0, 9⟩
abbrev LC_INAB.B : Fld := ⟨.LC_INAB, 16, 9⟩
abbrev LC_INCD.C : Fld := ⟨.LC_INCD, 0, 9⟩
abbrev LC_INCD.D : Fld := ⟨.LC_INCD, 16, 9⟩
abbrev LC_CFG.LUT : Fld := ⟨.LC_CFG, 0, 16⟩
abbrev LC_CFG.MODE : Fld := ⟨.LC_CFG, 16, 2⟩
abbrev LC_CFG.INIT : Fld := ⟨.LC_CFG, 18, 1⟩
abbrev ER_CFG.LINE : Fld := ⟨.ER_CFG, 0, 9⟩
abbrev ER_CFG.EDGE : Fld := ⟨.ER_CFG, 9, 2⟩
abbrev ER_CFG.EVBIT : Fld := ⟨.ER_CFG, 11, 5⟩
abbrev ER_CFG.CTX : Fld := ⟨.ER_CFG, 16, 8⟩
abbrev ER_CNT.COUNT : Fld := ⟨.ER_CNT, 0, 8⟩
abbrev HSW_CFG.EN : Fld := ⟨.HSW_CFG, 0, 1⟩
abbrev HSW_CFG.SLEW : Fld := ⟨.HSW_CFG, 1, 2⟩
abbrev HSW_CFG.PGRP : Fld := ⟨.HSW_CFG, 3, 3⟩
abbrev HSW_CFG.PRAIL : Fld := ⟨.HSW_CFG, 6, 1⟩
abbrev HSW_CFG.RECOV : Fld := ⟨.HSW_CFG, 7, 2⟩
abbrev HSW_CFG.NRETRY : Fld := ⟨.HSW_CFG, 9, 4⟩
abbrev HSW_CFG.TWIN : Fld := ⟨.HSW_CFG, 13, 1⟩
abbrev HSW_CFG.ALOCK : Fld := ⟨.HSW_CFG, 14, 1⟩
abbrev HSW_LIM.ILIM : Fld := ⟨.HSW_LIM, 0, 8⟩
abbrev HSW_LIM.ISC : Fld := ⟨.HSW_LIM, 8, 2⟩
abbrev HSW_LIM.TLIM : Fld := ⟨.HSW_LIM, 16, 10⟩
abbrev HSW_INR0.L0 : Fld := ⟨.HSW_INR0, 0, 8⟩
abbrev HSW_INR0.D0 : Fld := ⟨.HSW_INR0, 8, 8⟩
abbrev HSW_INR0.L1 : Fld := ⟨.HSW_INR0, 16, 8⟩
abbrev HSW_INR0.D1 : Fld := ⟨.HSW_INR0, 24, 8⟩
abbrev HSW_INR1.L2 : Fld := ⟨.HSW_INR1, 0, 8⟩
abbrev HSW_INR1.D2 : Fld := ⟨.HSW_INR1, 8, 8⟩
abbrev HSW_INR1.L3 : Fld := ⟨.HSW_INR1, 16, 8⟩
abbrev HSW_INR1.D3 : Fld := ⟨.HSW_INR1, 24, 8⟩
abbrev HSW_WIRE0.K1 : Fld := ⟨.HSW_WIRE0, 0, 16⟩
abbrev HSW_WIRE0.TAU1 : Fld := ⟨.HSW_WIRE0, 16, 16⟩
abbrev HSW_WIRE1.K2 : Fld := ⟨.HSW_WIRE1, 0, 16⟩
abbrev HSW_WIRE1.TAU2 : Fld := ⟨.HSW_WIRE1, 16, 16⟩
abbrev HSW_WIRE2.TAMB : Fld := ⟨.HSW_WIRE2, 0, 8⟩
abbrev HSW_WIRE2.TWMAX : Fld := ⟨.HSW_WIRE2, 8, 8⟩
abbrev HSW_WIRE2.TWHYST : Fld := ⟨.HSW_WIRE2, 16, 8⟩
abbrev HSW_TIME.TRETRY : Fld := ⟨.HSW_TIME, 0, 10⟩
abbrev HSW_TIME.INRREARM : Fld := ⟨.HSW_TIME, 16, 8⟩
abbrev HSW_TIME.DTTRIP : Fld := ⟨.HSW_TIME, 24, 4⟩
abbrev HSW_OL.OLTH : Fld := ⟨.HSW_OL, 0, 9⟩
abbrev HSW_OL.OLCNT : Fld := ⟨.HSW_OL, 9, 3⟩
abbrev HSW_OL.STRETCH : Fld := ⟨.HSW_OL, 12, 1⟩
abbrev HSW_OL.DSTR : Fld := ⟨.HSW_OL, 13, 2⟩
abbrev HSW_FB.HOLD : Fld := ⟨.HSW_FB, 0, 2⟩
abbrev HSW_FB.LIMP : Fld := ⟨.HSW_FB, 2, 2⟩
abbrev HSW_FB.LIMPPU : Fld := ⟨.HSW_FB, 4, 6⟩
abbrev HSW_FB.TVHOLD : Fld := ⟨.HSW_FB, 10, 9⟩
abbrev HSW_FB.RGRP : Fld := ⟨.HSW_FB, 20, 4⟩
abbrev HSW_FB.SAFE : Fld := ⟨.HSW_FB, 24, 1⟩
abbrev HSW_STAT.STATE : Fld := ⟨.HSW_STAT, 0, 3⟩
abbrev HSW_STAT.OLSTAT : Fld := ⟨.HSW_STAT, 3, 2⟩
abbrev HSW_STAT.SC : Fld := ⟨.HSW_STAT, 5, 1⟩
abbrev HSW_STAT.OC : Fld := ⟨.HSW_STAT, 6, 1⟩
abbrev HSW_STAT.WIRE : Fld := ⟨.HSW_STAT, 7, 1⟩
abbrev HSW_STAT.THERM : Fld := ⟨.HSW_STAT, 8, 1⟩
abbrev HSW_STAT.STUCK : Fld := ⟨.HSW_STAT, 9, 1⟩
abbrev HSW_STAT.INREXT : Fld := ⟨.HSW_STAT, 10, 1⟩
abbrev HSW_STAT.EXCESS : Fld := ⟨.HSW_STAT, 11, 1⟩
abbrev HSW_STAT.RETRIES : Fld := ⟨.HSW_STAT, 16, 4⟩
abbrev HSW_STAT.CMD : Fld := ⟨.HSW_STAT, 20, 1⟩
abbrev HSW_STAT.IN : Fld := ⟨.HSW_STAT, 21, 1⟩
abbrev HSW_MEAS.I : Fld := ⟨.HSW_MEAS, 0, 20⟩
abbrev HSW_MEAS2.VOUT : Fld := ⟨.HSW_MEAS2, 0, 12⟩
abbrev HSW_MEAS2.DT : Fld := ⟨.HSW_MEAS2, 12, 8⟩
abbrev HSW_MEAS2.TJ : Fld := ⟨.HSW_MEAS2, 20, 10⟩
abbrev HSW_WTEMP.TH1 : Fld := ⟨.HSW_WTEMP, 0, 16⟩
abbrev HSW_WTEMP.TH2 : Fld := ⟨.HSW_WTEMP, 16, 16⟩
abbrev HSW_CLAMP.BUCKET : Fld := ⟨.HSW_CLAMP, 0, 10⟩
abbrev HSW_CLAMP.LAST : Fld := ⟨.HSW_CLAMP, 10, 10⟩
abbrev HSW_CLAMP.COUNT : Fld := ⟨.HSW_CLAMP, 20, 12⟩
abbrev HSW_CLR.TRIP : Fld := ⟨.HSW_CLR, 0, 1⟩
abbrev HSW_LOCK0.LOCK : Fld := ⟨.HSW_LOCK0, 0, 32⟩
abbrev HSW_LOCK1.LOCK : Fld := ⟨.HSW_LOCK1, 0, 16⟩
abbrev HBR_CFG.EN : Fld := ⟨.HBR_CFG, 0, 1⟩
abbrev HBR_CFG.OFFMODE : Fld := ⟨.HBR_CFG, 1, 2⟩
abbrev HBR_CFG.RECOV : Fld := ⟨.HBR_CFG, 3, 2⟩
abbrev HBR_CFG.NRETRY : Fld := ⟨.HBR_CFG, 5, 4⟩
abbrev HBR_CFG.DEAD : Fld := ⟨.HBR_CFG, 9, 5⟩
abbrev HBR_CFG.TREV : Fld := ⟨.HBR_CFG, 14, 8⟩
abbrev HBR_CFG.BKFEED : Fld := ⟨.HBR_CFG, 22, 1⟩
abbrev HBR_LIM.ILIM : Fld := ⟨.HBR_LIM, 0, 8⟩
abbrev HBR_LIM.ISC : Fld := ⟨.HBR_LIM, 8, 2⟩
abbrev HBR_LIM.TLIM : Fld := ⟨.HBR_LIM, 16, 10⟩
abbrev HBR_STALL.ISTALL : Fld := ⟨.HBR_STALL, 0, 8⟩
abbrev HBR_STALL.TSTALL : Fld := ⟨.HBR_STALL, 8, 8⟩
abbrev HBR_STALL.STALLREP : Fld := ⟨.HBR_STALL, 16, 1⟩
abbrev HBR_MON.SRC : Fld := ⟨.HBR_MON, 0, 3⟩
abbrev HBR_MON.HLA : Fld := ⟨.HBR_MON, 3, 9⟩
abbrev HBR_MON.HLB : Fld := ⟨.HBR_MON, 12, 9⟩
abbrev HBR_MON.COASTADD : Fld := ⟨.HBR_MON, 21, 4⟩
abbrev HBR_PZONE.PZLO : Fld := ⟨.HBR_PZONE, 0, 16⟩
abbrev HBR_PZONE.PZHI : Fld := ⟨.HBR_PZONE, 16, 16⟩
abbrev HBR_PINCH.PEN : Fld := ⟨.HBR_PINCH, 0, 1⟩
abbrev HBR_PINCH.PDIR : Fld := ⟨.HBR_PINCH, 1, 1⟩
abbrev HBR_PINCH.PTHR : Fld := ⟨.HBR_PINCH, 2, 6⟩
abbrev HBR_PINCH.PCNT : Fld := ⟨.HBR_PINCH, 8, 3⟩
abbrev HBR_PINCH.SBLANK : Fld := ⟨.HBR_PINCH, 12, 8⟩
abbrev HBR_PINCH.TSTOPBRK : Fld := ⟨.HBR_PINCH, 20, 5⟩
abbrev HBR_OL.OLTH : Fld := ⟨.HBR_OL, 0, 8⟩
abbrev HBR_OL.TOL : Fld := ⟨.HBR_OL, 8, 6⟩
abbrev HBR_FB.HOLD : Fld := ⟨.HBR_FB, 0, 2⟩
abbrev HBR_FB.LIMP : Fld := ⟨.HBR_FB, 2, 2⟩
abbrev HBR_FB.LIMPPU : Fld := ⟨.HBR_FB, 4, 6⟩
abbrev HBR_FB.TVHOLD : Fld := ⟨.HBR_FB, 10, 9⟩
abbrev HBR_FB.LIMPDIR : Fld := ⟨.HBR_FB, 19, 1⟩
abbrev HBR_FB.RGRP : Fld := ⟨.HBR_FB, 20, 4⟩
abbrev HBR_FB.SAFE : Fld := ⟨.HBR_FB, 24, 1⟩
abbrev HBR_FB.SAFEDIR : Fld := ⟨.HBR_FB, 25, 1⟩
abbrev HBR_SVC.CTX : Fld := ⟨.HBR_SVC, 0, 8⟩
abbrev HBR_SVC.EVBIT : Fld := ⟨.HBR_SVC, 8, 5⟩
abbrev HBR_SVC.EVEN : Fld := ⟨.HBR_SVC, 13, 1⟩
abbrev HBR_TGT.TARGET : Fld := ⟨.HBR_TGT, 0, 16⟩
abbrev HBR_TGT.TGTEN : Fld := ⟨.HBR_TGT, 16, 1⟩
abbrev HBR_STAT.STATE : Fld := ⟨.HBR_STAT, 0, 3⟩
abbrev HBR_STAT.CAUSE : Fld := ⟨.HBR_STAT, 3, 2⟩
abbrev HBR_STAT.OLSTAT : Fld := ⟨.HBR_STAT, 5, 2⟩
abbrev HBR_STAT.SC : Fld := ⟨.HBR_STAT, 7, 1⟩
abbrev HBR_STAT.OC : Fld := ⟨.HBR_STAT, 8, 1⟩
abbrev HBR_STAT.STALL : Fld := ⟨.HBR_STAT, 9, 1⟩
abbrev HBR_STAT.THERM : Fld := ⟨.HBR_STAT, 10, 1⟩
abbrev HBR_STAT.PINCH : Fld := ⟨.HBR_STAT, 11, 1⟩
abbrev HBR_STAT.POSERR : Fld := ⟨.HBR_STAT, 12, 1⟩
abbrev HBR_STAT.SFLTERR : Fld := ⟨.HBR_STAT, 13, 1⟩
abbrev HBR_STAT.RETRIES : Fld := ⟨.HBR_STAT, 16, 4⟩
abbrev HBR_STAT.IN : Fld := ⟨.HBR_STAT, 20, 1⟩
abbrev HBR_STAT.DIR : Fld := ⟨.HBR_STAT, 21, 1⟩
abbrev HBR_STAT.POSVALID : Fld := ⟨.HBR_STAT, 22, 1⟩
abbrev HBR_STAT.RIPVALID : Fld := ⟨.HBR_STAT, 23, 1⟩
abbrev HBR_MEAS.I : Fld := ⟨.HBR_MEAS, 0, 20⟩
abbrev HBR_MEAS.TJ : Fld := ⟨.HBR_MEAS, 20, 10⟩
abbrev HBR_POS.POS : Fld := ⟨.HBR_POS, 0, 16⟩
abbrev HBR_POS.TF : Fld := ⟨.HBR_POS, 16, 16⟩
abbrev HBR_POSSET.POS : Fld := ⟨.HBR_POSSET, 0, 16⟩
abbrev HBR_CLR.TRIP : Fld := ⟨.HBR_CLR, 0, 1⟩
abbrev HBR_CLR.STOP : Fld := ⟨.HBR_CLR, 1, 1⟩
abbrev HBR_SFLT.CODE : Fld := ⟨.HBR_SFLT, 0, 12⟩
abbrev VLV_CFG.EN : Fld := ⟨.VLV_CFG, 0, 1⟩
abbrev VLV_CFG.COMPAT : Fld := ⟨.VLV_CFG, 1, 1⟩
abbrev VLV_CFG.FCHOP : Fld := ⟨.VLV_CFG, 2, 2⟩
abbrev VLV_CFG.RECOV : Fld := ⟨.VLV_CFG, 4, 2⟩
abbrev VLV_CFG.NRETRY : Fld := ⟨.VLV_CFG, 6, 4⟩
abbrev VLV_CFG.ISC : Fld := ⟨.VLV_CFG, 10, 2⟩
abbrev VLV_CFG.TVMINOFF : Fld := ⟨.VLV_CFG, 12, 8⟩
abbrev VLV_PROF.IPEAK : Fld := ⟨.VLV_PROF, 0, 8⟩
abbrev VLV_PROF.TBOOST : Fld := ⟨.VLV_PROF, 8, 8⟩
abbrev VLV_PROF.IHOLD : Fld := ⟨.VLV_PROF, 16, 8⟩
abbrev VLV_COIL.RREF : Fld := ⟨.VLV_COIL, 0, 16⟩
abbrev VLV_COIL.TREF : Fld := ⟨.VLV_COIL, 16, 8⟩
abbrev VLV_COIL.TCHYST : Fld := ⟨.VLV_COIL, 24, 8⟩
abbrev VLV_COIL2.TCMAX : Fld := ⟨.VLV_COIL2, 0, 8⟩
abbrev VLV_COIL2.TAMB : Fld := ⟨.VLV_COIL2, 8, 8⟩
abbrev VLV_COIL2.TAUC : Fld := ⟨.VLV_COIL2, 16, 16⟩
abbrev VLV_FB.HOLD : Fld := ⟨.VLV_FB, 0, 2⟩
abbrev VLV_FB.LIMP : Fld := ⟨.VLV_FB, 2, 2⟩
abbrev VLV_FB.LIMPPU : Fld := ⟨.VLV_FB, 4, 6⟩
abbrev VLV_FB.TVHOLD : Fld := ⟨.VLV_FB, 10, 9⟩
abbrev VLV_FB.RGRP : Fld := ⟨.VLV_FB, 20, 4⟩
abbrev VLV_FB.SAFE : Fld := ⟨.VLV_FB, 24, 1⟩
abbrev VLV_STAT.STATE : Fld := ⟨.VLV_STAT, 0, 3⟩
abbrev VLV_STAT.COILSTAT : Fld := ⟨.VLV_STAT, 3, 2⟩
abbrev VLV_STAT.QUEUED : Fld := ⟨.VLV_STAT, 5, 1⟩
abbrev VLV_STAT.REFUSED : Fld := ⟨.VLV_STAT, 6, 1⟩
abbrev VLV_STAT.RREASON : Fld := ⟨.VLV_STAT, 7, 2⟩
abbrev VLV_STAT.SC : Fld := ⟨.VLV_STAT, 9, 1⟩
abbrev VLV_STAT.REG : Fld := ⟨.VLV_STAT, 10, 1⟩
abbrev VLV_STAT.CTHERM : Fld := ⟨.VLV_STAT, 11, 1⟩
abbrev VLV_STAT.THERM : Fld := ⟨.VLV_STAT, 12, 1⟩
abbrev VLV_STAT.TVALID : Fld := ⟨.VLV_STAT, 13, 1⟩
abbrev VLV_STAT.RETRIES : Fld := ⟨.VLV_STAT, 16, 4⟩
abbrev VLV_STAT.CMD : Fld := ⟨.VLV_STAT, 20, 1⟩
abbrev VLV_STAT.IN : Fld := ⟨.VLV_STAT, 21, 1⟩
abbrev VLV_STAT.TBW : Fld := ⟨.VLV_STAT, 24, 8⟩
abbrev VLV_MEAS.I : Fld := ⟨.VLV_MEAS, 0, 12⟩
abbrev VLV_MEAS.DUTY : Fld := ⟨.VLV_MEAS, 12, 10⟩
abbrev VLV_TEMP.TCOIL : Fld := ⟨.VLV_TEMP, 0, 10⟩
abbrev VLV_TEMP.TJ : Fld := ⟨.VLV_TEMP, 10, 10⟩
abbrev VLV_RES.REST : Fld := ⟨.VLV_RES, 0, 16⟩
abbrev VLV_CLR.TRIP : Fld := ⟨.VLV_CLR, 0, 1⟩
abbrev VHS_CFG.EN : Fld := ⟨.VHS_CFG, 0, 1⟩
abbrev VHS_CFG.ISC : Fld := ⟨.VHS_CFG, 1, 2⟩
abbrev VHS_CFG.RECOV : Fld := ⟨.VHS_CFG, 3, 2⟩
abbrev VHS_CFG.NRETRY : Fld := ⟨.VHS_CFG, 5, 4⟩
abbrev VHS_CFG.ALOCK : Fld := ⟨.VHS_CFG, 9, 1⟩
abbrev VHS_FB.HOLD : Fld := ⟨.VHS_FB, 0, 2⟩
abbrev VHS_FB.LIMP : Fld := ⟨.VHS_FB, 2, 2⟩
abbrev VHS_FB.LIMPPU : Fld := ⟨.VHS_FB, 4, 6⟩
abbrev VHS_FB.TVHOLD : Fld := ⟨.VHS_FB, 10, 9⟩
abbrev VHS_FB.RGRP : Fld := ⟨.VHS_FB, 20, 4⟩
abbrev VHS_FB.SAFE : Fld := ⟨.VHS_FB, 24, 1⟩
abbrev VHS_STAT.STATE : Fld := ⟨.VHS_STAT, 0, 3⟩
abbrev VHS_STAT.LOCK : Fld := ⟨.VHS_STAT, 3, 1⟩
abbrev VHS_STAT.SC : Fld := ⟨.VHS_STAT, 4, 1⟩
abbrev VHS_STAT.THERM : Fld := ⟨.VHS_STAT, 5, 1⟩
abbrev VHS_STAT.FORCED : Fld := ⟨.VHS_STAT, 6, 1⟩
abbrev VHS_STAT.ACTIVE : Fld := ⟨.VHS_STAT, 8, 4⟩
abbrev VHS_STAT.ENABLE : Fld := ⟨.VHS_STAT, 12, 1⟩
abbrev VHS_STAT.RETRIES : Fld := ⟨.VHS_STAT, 16, 4⟩
abbrev VHS_STAT.HOLDSUM : Fld := ⟨.VHS_STAT, 20, 9⟩
abbrev VHS_MEAS.I : Fld := ⟨.VHS_MEAS, 0, 20⟩
abbrev VHS_MEAS.TJ : Fld := ⟨.VHS_MEAS, 20, 10⟩
abbrev VHS_CLAMP.BUCKET : Fld := ⟨.VHS_CLAMP, 0, 10⟩
abbrev VHS_CLAMP.LAST : Fld := ⟨.VHS_CLAMP, 10, 10⟩
abbrev VHS_CLAMP.COUNT : Fld := ⟨.VHS_CLAMP, 20, 12⟩
abbrev VHS_CLR.TRIP : Fld := ⟨.VHS_CLR, 0, 1⟩
abbrev CTD_CFG.EN : Fld := ⟨.CTD_CFG, 0, 1⟩
abbrev CTD_CFG.FCHOP : Fld := ⟨.CTD_CFG, 1, 2⟩
abbrev CTD_CFG.RECOV : Fld := ⟨.CTD_CFG, 3, 2⟩
abbrev CTD_CFG.NRETRY : Fld := ⟨.CTD_CFG, 5, 4⟩
abbrev CTD_CFG.ISC : Fld := ⟨.CTD_CFG, 9, 2⟩
abbrev CTD_CFG.ALOCK : Fld := ⟨.CTD_CFG, 11, 1⟩
abbrev CTD_PROF.IPULL : Fld := ⟨.CTD_PROF, 0, 8⟩
abbrev CTD_PROF.TPULL : Fld := ⟨.CTD_PROF, 8, 8⟩
abbrev CTD_PROF.IHOLD : Fld := ⟨.CTD_PROF, 16, 8⟩
abbrev CTD_COIL.RREF : Fld := ⟨.CTD_COIL, 0, 16⟩
abbrev CTD_COIL.TREF : Fld := ⟨.CTD_COIL, 16, 8⟩
abbrev CTD_COIL.TCHYST : Fld := ⟨.CTD_COIL, 24, 8⟩
abbrev CTD_COIL2.TCMAX : Fld := ⟨.CTD_COIL2, 0, 8⟩
abbrev CTD_COIL2.TAMB : Fld := ⟨.CTD_COIL2, 8, 8⟩
abbrev CTD_COIL2.TAUC : Fld := ⟨.CTD_COIL2, 16, 16⟩
abbrev CTD_FB.HOLD : Fld := ⟨.CTD_FB, 0, 2⟩
abbrev CTD_FB.LIMP : Fld := ⟨.CTD_FB, 2, 2⟩
abbrev CTD_FB.LIMPPU : Fld := ⟨.CTD_FB, 4, 6⟩
abbrev CTD_FB.TVHOLD : Fld := ⟨.CTD_FB, 10, 9⟩
abbrev CTD_FB.RGRP : Fld := ⟨.CTD_FB, 20, 4⟩
abbrev CTD_FB.SAFE : Fld := ⟨.CTD_FB, 24, 1⟩
abbrev CTD_AUX.LINE : Fld := ⟨.CTD_AUX, 0, 9⟩
abbrev CTD_AUX.AUXEN : Fld := ⟨.CTD_AUX, 9, 1⟩
abbrev CTD_AUX.POL : Fld := ⟨.CTD_AUX, 10, 1⟩
abbrev CTD_AUX.TCONF : Fld := ⟨.CTD_AUX, 16, 8⟩
abbrev CTD_STAT.STATE : Fld := ⟨.CTD_STAT, 0, 3⟩
abbrev CTD_STAT.COILSTAT : Fld := ⟨.CTD_STAT, 3, 2⟩
abbrev CTD_STAT.AUXSTAT : Fld := ⟨.CTD_STAT, 5, 2⟩
abbrev CTD_STAT.LOCK : Fld := ⟨.CTD_STAT, 7, 1⟩
abbrev CTD_STAT.SC : Fld := ⟨.CTD_STAT, 8, 1⟩
abbrev CTD_STAT.REG : Fld := ⟨.CTD_STAT, 9, 1⟩
abbrev CTD_STAT.CTHERM : Fld := ⟨.CTD_STAT, 10, 1⟩
abbrev CTD_STAT.THERM : Fld := ⟨.CTD_STAT, 11, 1⟩
abbrev CTD_STAT.FORCED : Fld := ⟨.CTD_STAT, 12, 1⟩
abbrev CTD_STAT.TVALID : Fld := ⟨.CTD_STAT, 13, 1⟩
abbrev CTD_STAT.RETRIES : Fld := ⟨.CTD_STAT, 16, 4⟩
abbrev CTD_STAT.CMD : Fld := ⟨.CTD_STAT, 20, 1⟩
abbrev CTD_STAT.IN : Fld := ⟨.CTD_STAT, 21, 1⟩
abbrev CTD_MEAS.I : Fld := ⟨.CTD_MEAS, 0, 14⟩
abbrev CTD_MEAS.DUTY : Fld := ⟨.CTD_MEAS, 14, 10⟩
abbrev CTD_TEMP.TCOIL : Fld := ⟨.CTD_TEMP, 0, 10⟩
abbrev CTD_TEMP.TJ : Fld := ⟨.CTD_TEMP, 10, 10⟩
abbrev CTD_RES.REST : Fld := ⟨.CTD_RES, 0, 16⟩
abbrev CTD_CLAMP.BUCKET : Fld := ⟨.CTD_CLAMP, 0, 10⟩
abbrev CTD_CLAMP.LAST : Fld := ⟨.CTD_CLAMP, 10, 10⟩
abbrev CTD_CLAMP.COUNT : Fld := ⟨.CTD_CLAMP, 20, 12⟩
abbrev CTD_CLR.TRIP : Fld := ⟨.CTD_CLR, 0, 1⟩
abbrev LED_CFG.EN : Fld := ⟨.LED_CFG, 0, 1⟩
abbrev LED_CFG.DMODE : Fld := ⟨.LED_CFG, 1, 2⟩
abbrev LED_CFG.FSREF : Fld := ⟨.LED_CFG, 3, 2⟩
abbrev LED_CFG.PU : Fld := ⟨.LED_CFG, 5, 6⟩
abbrev LED_CFG.LGRP : Fld := ⟨.LED_CFG, 11, 4⟩
abbrev LED_CFG.RECOV : Fld := ⟨.LED_CFG, 15, 2⟩
abbrev LED_CFG.NRETRY : Fld := ⟨.LED_CFG, 17, 4⟩
abbrev LED_LVL.LVLA : Fld := ⟨.LED_LVL, 0, 10⟩
abbrev LED_LVL.LVLB : Fld := ⟨.LED_LVL, 16, 10⟩
abbrev LED_DEM.LINE : Fld := ⟨.LED_DEM, 0, 9⟩
abbrev LED_DEM.DEMCON : Fld := ⟨.LED_DEM, 9, 1⟩
abbrev LED_DIAG.VNOM : Fld := ⟨.LED_DIAG, 0, 10⟩
abbrev LED_DIAG.SHTH : Fld := ⟨.LED_DIAG, 10, 6⟩
abbrev LED_DIAG.SHCNT : Fld := ⟨.LED_DIAG, 16, 3⟩
abbrev LED_DIAG.OSEN : Fld := ⟨.LED_DIAG, 19, 1⟩
abbrev LED_DIAG.OSCNT : Fld := ⟨.LED_DIAG, 20, 3⟩
abbrev LED_DIAG.STRETCH : Fld := ⟨.LED_DIAG, 23, 1⟩
abbrev LED_DIAG.DSTR : Fld := ⟨.LED_DIAG, 24, 2⟩
abbrev LED_FB.HOLD : Fld := ⟨.LED_FB, 0, 2⟩
abbrev LED_FB.LIMP : Fld := ⟨.LED_FB, 2, 2⟩
abbrev LED_FB.LIMPPU : Fld := ⟨.LED_FB, 4, 6⟩
abbrev LED_FB.TVHOLD : Fld := ⟨.LED_FB, 10, 9⟩
abbrev LED_FB.RGRP : Fld := ⟨.LED_FB, 20, 4⟩
abbrev LED_FB.SAFE : Fld := ⟨.LED_FB, 24, 1⟩
abbrev LED_FB.HOLDI : Fld := ⟨.LED_FB, 25, 7⟩
abbrev LED_STAT.STATE : Fld := ⟨.LED_STAT, 0, 3⟩
abbrev LED_STAT.OSTAT : Fld := ⟨.LED_STAT, 3, 2⟩
abbrev LED_STAT.SSTAT : Fld := ⟨.LED_STAT, 5, 2⟩
abbrev LED_STAT.DACFAIL : Fld := ⟨.LED_STAT, 7, 1⟩
abbrev LED_STAT.FOLDED : Fld := ⟨.LED_STAT, 8, 1⟩
abbrev LED_STAT.SG : Fld := ⟨.LED_STAT, 9, 1⟩
abbrev LED_STAT.OS : Fld := ⟨.LED_STAT, 10, 1⟩
abbrev LED_STAT.SL : Fld := ⟨.LED_STAT, 11, 1⟩
abbrev LED_STAT.THERM : Fld := ⟨.LED_STAT, 12, 1⟩
abbrev LED_STAT.DERATED : Fld := ⟨.LED_STAT, 13, 1⟩
abbrev LED_STAT.RETRIES : Fld := ⟨.LED_STAT, 16, 4⟩
abbrev LED_STAT.CMD : Fld := ⟨.LED_STAT, 20, 1⟩
abbrev LED_STAT.IN : Fld := ⟨.LED_STAT, 21, 1⟩
abbrev LED_MEAS.I : Fld := ⟨.LED_MEAS, 0, 10⟩
abbrev LED_MEAS.VOUT : Fld := ⟨.LED_MEAS, 10, 12⟩
abbrev LED_MEAS.TJ : Fld := ⟨.LED_MEAS, 22, 10⟩
abbrev LED_EFF.LEFF : Fld := ⟨.LED_EFF, 0, 10⟩
abbrev LED_EFF.DAC : Fld := ⟨.LED_EFF, 10, 10⟩
abbrev LED_EFF.MODE : Fld := ⟨.LED_EFF, 20, 1⟩
abbrev LED_CLR.TRIP : Fld := ⟨.LED_CLR, 0, 1⟩
abbrev LED_CLR.DACRST : Fld := ⟨.LED_CLR, 1, 1⟩
abbrev LED_PCFG.SG : Fld := ⟨.LED_PCFG, 0, 3⟩
abbrev LED_PCFG.PSUM : Fld := ⟨.LED_PCFG, 8, 8⟩
abbrev LED_PSTAT.PTOT : Fld := ⟨.LED_PSTAT, 0, 10⟩
abbrev LED_PSTAT.FF : Fld := ⟨.LED_PSTAT, 10, 9⟩
abbrev LG_NTC.R25 : Fld := ⟨.LG_NTC, 0, 16⟩
abbrev LG_NTC.RPU : Fld := ⟨.LG_NTC, 16, 16⟩
abbrev LG_NTC2.BETA : Fld := ⟨.LG_NTC2, 0, 16⟩
abbrev LG_NTC2.AIN : Fld := ⟨.LG_NTC2, 16, 4⟩
abbrev LG_NTC2.EN : Fld := ⟨.LG_NTC2, 20, 1⟩
abbrev LG_DER.TSTART : Fld := ⟨.LG_DER, 0, 8⟩
abbrev LG_DER.TEND : Fld := ⟨.LG_DER, 8, 8⟩
abbrev LG_DER.FMIN : Fld := ⟨.LG_DER, 16, 8⟩
abbrev LG_STAT.TEMP : Fld := ⟨.LG_STAT, 0, 10⟩
abbrev LG_STAT.F : Fld := ⟨.LG_STAT, 10, 9⟩
abbrev LG_STAT.SFAULT : Fld := ⟨.LG_STAT, 19, 1⟩
abbrev LCH_CFG.EN : Fld := ⟨.LCH_CFG, 0, 1⟩
abbrev LCH_CFG.FLCK : Fld := ⟨.LCH_CFG, 1, 3⟩
abbrev LCH_CFG.NEXP : Fld := ⟨.LCH_CFG, 4, 10⟩
abbrev LCH_CFG.STATDIV : Fld := ⟨.LCH_CFG, 14, 4⟩
abbrev LCH_CFG.ECHOMAX : Fld := ⟨.LCH_CFG, 18, 4⟩
abbrev LCH_RATE.TREF : Fld := ⟨.LCH_RATE, 0, 16⟩
abbrev LCH_BUF.BUFA : Fld := ⟨.LCH_BUF, 0, 15⟩
abbrev LCH_BUF.BUFB : Fld := ⟨.LCH_BUF, 16, 15⟩
abbrev LCH_SBUF.SADDR : Fld := ⟨.LCH_SBUF, 0, 15⟩
abbrev LCH_CTL.SWAP : Fld := ⟨.LCH_CTL, 0, 1⟩
abbrev LCH_CTL.DISC : Fld := ⟨.LCH_CTL, 1, 1⟩
abbrev LCH_STAT.STATE : Fld := ⟨.LCH_STAT, 0, 3⟩
abbrev LCH_STAT.ACTIVE : Fld := ⟨.LCH_STAT, 3, 1⟩
abbrev LCH_STAT.SWPEND : Fld := ⟨.LCH_STAT, 4, 1⟩
abbrev LCH_STAT.NFOUND : Fld := ⟨.LCH_STAT, 5, 10⟩
abbrev LCH_STAT.ECHOERR : Fld := ⟨.LCH_STAT, 15, 1⟩
abbrev LCH_STAT.UNDERRUN : Fld := ⟨.LCH_STAT, 16, 1⟩
abbrev LCH_STAT.DEVFLT : Fld := ⟨.LCH_STAT, 17, 1⟩
abbrev LCH_CNT.REFRESH : Fld := ⟨.LCH_CNT, 0, 16⟩
abbrev LCH_CNT.UNDERRUNS : Fld := ⟨.LCH_CNT, 16, 8⟩
abbrev LCH_CNT.ECHOERRS : Fld := ⟨.LCH_CNT, 24, 8⟩
abbrev LCH_DLY.QDLY : Fld := ⟨.LCH_DLY, 0, 16⟩
abbrev INP_SGRP.WET : Fld := ⟨.INP_SGRP, 0, 2⟩
abbrev INP_SGRP.PULL : Fld := ⟨.INP_SGRP, 2, 1⟩
abbrev INP_SGRP.TSAMP : Fld := ⟨.INP_SGRP, 3, 3⟩
abbrev INP_SGRP.THRL : Fld := ⟨.INP_SGRP, 6, 8⟩
abbrev INP_SGRP.THRH : Fld := ⟨.INP_SGRP, 14, 8⟩
abbrev INP_SDEB.DEB : Fld := ⟨.INP_SDEB, 0, 32⟩
abbrev INP_SLVL.LVL : Fld := ⟨.INP_SLVL, 0, 32⟩
abbrev INP_PARK.TPOLL : Fld := ⟨.INP_PARK, 0, 2⟩
abbrev INP_PARK.PDEB : Fld := ⟨.INP_PARK, 2, 2⟩
abbrev INP_PREF.REF : Fld := ⟨.INP_PREF, 0, 32⟩
abbrev AIN_CFG.RANGE : Fld := ⟨.AIN_CFG, 0, 1⟩
abbrev AIN_CFG.RATIO : Fld := ⟨.AIN_CFG, 1, 1⟩
abbrev AIN_CMP.THR : Fld := ⟨.AIN_CMP, 0, 12⟩
abbrev AIN_CMP.HYS : Fld := ⟨.AIN_CMP, 12, 8⟩
abbrev AIN_CMP.DEB : Fld := ⟨.AIN_CMP, 20, 4⟩
abbrev AIN_VAL.VAL : Fld := ⟨.AIN_VAL, 0, 12⟩
abbrev AIN_VAL.CMP0 : Fld := ⟨.AIN_VAL, 12, 1⟩
abbrev AIN_VAL.CMP1 : Fld := ⟨.AIN_VAL, 13, 1⟩
abbrev AIN_VAL.OVR : Fld := ⟨.AIN_VAL, 14, 1⟩
abbrev HALL_CFG.MODE : Fld := ⟨.HALL_CFG, 0, 2⟩
abbrev HALL_CFG.FILT : Fld := ⟨.HALL_CFG, 2, 4⟩
abbrev HALL_CFG.ITH : Fld := ⟨.HALL_CFG, 6, 8⟩
abbrev HALL_STAT.LVL : Fld := ⟨.HALL_STAT, 0, 1⟩
abbrev HALL_STAT.I : Fld := ⟨.HALL_STAT, 1, 10⟩
abbrev HALL_STAT.OPEN : Fld := ⟨.HALL_STAT, 11, 1⟩
abbrev HALL_STAT.SHORT : Fld := ⟨.HALL_STAT, 12, 1⟩
abbrev HALL_STAT.EDGES : Fld := ⟨.HALL_STAT, 16, 16⟩
abbrev INP_SUPCFG.ENA : Fld := ⟨.INP_SUPCFG, 0, 1⟩
abbrev INP_SUPCFG.ENB : Fld := ⟨.INP_SUPCFG, 1, 1⟩
abbrev INP_SUPCFG.ENH : Fld := ⟨.INP_SUPCFG, 2, 1⟩
abbrev INP_SUPSTAT.VSNSA : Fld := ⟨.INP_SUPSTAT, 0, 12⟩
abbrev INP_SUPSTAT.VSNSB : Fld := ⟨.INP_SUPSTAT, 12, 12⟩
abbrev INP_SUPSTAT.OVLA : Fld := ⟨.INP_SUPSTAT, 24, 1⟩
abbrev INP_SUPSTAT.OVLB : Fld := ⟨.INP_SUPSTAT, 25, 1⟩
abbrev INP_SUPSTAT.OVLH : Fld := ⟨.INP_SUPSTAT, 26, 1⟩
abbrev DOC_STAT.STATE : Fld := ⟨.DOC_STAT, 0, 2⟩
abbrev DOC_STAT.CTX : Fld := ⟨.DOC_STAT, 8, 8⟩
abbrev DOC_STAT.WAIT : Fld := ⟨.DOC_STAT, 16, 1⟩
abbrev DOC_RET.COUNT : Fld := ⟨.DOC_RET, 0, 32⟩
abbrev DOC_STALL.COUNT : Fld := ⟨.DOC_STALL, 0, 32⟩
abbrev DOC_TRAPS.COUNT : Fld := ⟨.DOC_TRAPS, 0, 16⟩
abbrev DOC_TRAPS.LAST : Fld := ⟨.DOC_TRAPS, 16, 4⟩
abbrev DOC_TRAP.CTX : Fld := ⟨.DOC_TRAP, 0, 8⟩
abbrev DOC_TRAP.CODE : Fld := ⟨.DOC_TRAP, 8, 4⟩
abbrev DOC_TRAP.CORE : Fld := ⟨.DOC_TRAP, 12, 2⟩
abbrev DOC_TRAP.VALID : Fld := ⟨.DOC_TRAP, 14, 1⟩
abbrev DOC_TRAPPC.PC : Fld := ⟨.DOC_TRAPPC, 0, 17⟩
abbrev DOC_TRAPW.WORD : Fld := ⟨.DOC_TRAPW, 0, 32⟩
abbrev DOC_WDCFG.TWD : Fld := ⟨.DOC_WDCFG, 0, 10⟩
abbrev DOC_WDCFG.TWMIN : Fld := ⟨.DOC_WDCFG, 10, 10⟩
abbrev DOC_WDCFG.EN : Fld := ⟨.DOC_WDCFG, 20, 1⟩
abbrev DOC_WDKICK.KEY : Fld := ⟨.DOC_WDKICK, 0, 16⟩
abbrev DOC_WDSTAT.LEFT : Fld := ⟨.DOC_WDSTAT, 0, 10⟩
abbrev DOC_WDSTAT.NEXTKEY : Fld := ⟨.DOC_WDSTAT, 10, 1⟩
abbrev DOC_WDSTAT.RUN : Fld := ⟨.DOC_WDSTAT, 11, 1⟩
abbrev DOC_CTXWIN.MAP0 : Fld := ⟨.DOC_CTXWIN, 0, 8⟩
abbrev DOC_CTXWIN.MAP1 : Fld := ⟨.DOC_CTXWIN, 8, 8⟩
abbrev DOC_CTXWIN.MAP2 : Fld := ⟨.DOC_CTXWIN, 16, 8⟩
abbrev DOC_CTXWIN.MAP3 : Fld := ⟨.DOC_CTXWIN, 24, 8⟩
abbrev DOC_WMAP.ADDR : Fld := ⟨.DOC_WMAP, 0, 24⟩
abbrev DOC_WMAP.RD : Fld := ⟨.DOC_WMAP, 24, 1⟩
abbrev DOC_WMAP.WR : Fld := ⟨.DOC_WMAP, 25, 1⟩
abbrev CTX_CMD.CMD : Fld := ⟨.CTX_CMD, 0, 4⟩
abbrev CTX_CMD.CTX : Fld := ⟨.CTX_CMD, 16, 8⟩
abbrev CTX_STAT.READY : Fld := ⟨.CTX_STAT, 0, 9⟩
abbrev CTX_STAT.QUAR : Fld := ⟨.CTX_STAT, 9, 9⟩
abbrev CTX_STAT.FAILED : Fld := ⟨.CTX_STAT, 18, 4⟩
abbrev CTX_MIG.MIG0 : Fld := ⟨.CTX_MIG, 0, 3⟩
abbrev CTX_MIG.MIG1 : Fld := ⟨.CTX_MIG, 3, 3⟩
abbrev CTX_MIG.MIG2 : Fld := ⟨.CTX_MIG, 6, 3⟩
abbrev CTX_MIG.MIG3 : Fld := ⟨.CTX_MIG, 9, 3⟩
abbrev CTX_BDEM.DEM : Fld := ⟨.CTX_BDEM, 0, 32⟩
abbrev CTX_LASTQ.CTX : Fld := ⟨.CTX_LASTQ, 0, 8⟩
abbrev CTX_LASTQ.QCAUSE : Fld := ⟨.CTX_LASTQ, 8, 3⟩
abbrev CTX_LASTQ.CORE : Fld := ⟨.CTX_LASTQ, 11, 2⟩
abbrev CTX_LASTQ.VALID : Fld := ⟨.CTX_LASTQ, 13, 1⟩
abbrev CTXC_CFG.AFFIN : Fld := ⟨.CTXC_CFG, 0, 3⟩
abbrev CTXC_CFG.PRIO : Fld := ⟨.CTXC_CFG, 4, 4⟩
abbrev CTXC_CFG.EN : Fld := ⟨.CTXC_CFG, 8, 1⟩
abbrev CTXC_CFG.BUDGET : Fld := ⟨.CTXC_CFG, 16, 16⟩
abbrev CTXC_ENTRY.ENTRY : Fld := ⟨.CTXC_ENTRY, 0, 17⟩
abbrev CTXC_STAT.STATE : Fld := ⟨.CTXC_STAT, 0, 3⟩
abbrev CTXC_STAT.CORE : Fld := ⟨.CTXC_STAT, 4, 2⟩
abbrev CTXC_STAT.EPRIO : Fld := ⟨.CTXC_STAT, 8, 4⟩
abbrev CTXC_STAT.QCAUSE : Fld := ⟨.CTXC_STAT, 12, 3⟩
abbrev CTXC_STAT.DEMOTED : Fld := ⟨.CTXC_STAT, 15, 1⟩
abbrev CTXC_STAT.QCNT : Fld := ⟨.CTXC_STAT, 16, 8⟩
abbrev CTXC_RUN.BMAX : Fld := ⟨.CTXC_RUN, 0, 16⟩
abbrev CTXC_RUN.OVR : Fld := ⟨.CTXC_RUN, 16, 8⟩
abbrev MEM_CFG.SCRUB : Fld := ⟨.MEM_CFG, 0, 8⟩
abbrev MEM_CFG.RET : Fld := ⟨.MEM_CFG, 8, 8⟩
abbrev MEM_STAT.AWAKE : Fld := ⟨.MEM_STAT, 0, 8⟩
abbrev MEM_STAT.INIT : Fld := ⟨.MEM_STAT, 8, 1⟩
abbrev MEM_ECCADDR.ADDR : Fld := ⟨.MEM_ECCADDR, 0, 32⟩
abbrev MEM_ECCSRC.UNIT : Fld := ⟨.MEM_ECCSRC, 0, 4⟩
abbrev MEM_ECCSRC.PORT : Fld := ⟨.MEM_ECCSRC, 4, 3⟩
abbrev MEM_ECCSRC.VALID : Fld := ⟨.MEM_ECCSRC, 7, 1⟩
abbrev MEM_HWCOLL.HOSTLATE : Fld := ⟨.MEM_HWCOLL, 0, 16⟩
abbrev MEM_HWCOLL.INTLATE : Fld := ⟨.MEM_HWCOLL, 16, 16⟩
abbrev MEM_ECC.CORR : Fld := ⟨.MEM_ECC, 0, 16⟩
abbrev MEM_ECC.UNCORR : Fld := ⟨.MEM_ECC, 16, 8⟩
abbrev MEM_REPAIR.USED : Fld := ⟨.MEM_REPAIR, 0, 3⟩
abbrev MEM_REPAIR.SPARES : Fld := ⟨.MEM_REPAIR, 4, 3⟩
abbrev CAN_CFG.EN : Fld := ⟨.CAN_CFG, 0, 1⟩
abbrev CAN_CFG.FDEN : Fld := ⟨.CAN_CFG, 1, 1⟩
abbrev CAN_CFG.XLEN : Fld := ⟨.CAN_CFG, 2, 1⟩
abbrev CAN_CFG.TXORD : Fld := ⟨.CAN_CFG, 3, 1⟩
abbrev CAN_CFG.BORECOV : Fld := ⟨.CAN_CFG, 4, 1⟩
abbrev CAN_CFG.NOMATCH : Fld := ⟨.CAN_CFG, 5, 1⟩
abbrev CAN_CFG.OVWR0 : Fld := ⟨.CAN_CFG, 6, 1⟩
abbrev CAN_CFG.OVWR1 : Fld := ⟨.CAN_CFG, 7, 1⟩
abbrev CAN_CFG.SSLONELY : Fld := ⟨.CAN_CFG, 8, 1⟩
abbrev CAN_CFG.LONELYN : Fld := ⟨.CAN_CFG, 9, 8⟩
abbrev CAN_CFG.CONS : Fld := ⟨.CAN_CFG, 17, 1⟩
abbrev CAN_CFG.MON : Fld := ⟨.CAN_CFG, 18, 1⟩
abbrev CAN_CFG.PEX : Fld := ⟨.CAN_CFG, 19, 1⟩
abbrev CAN_CFG.GWTX : Fld := ⟨.CAN_CFG, 20, 1⟩
abbrev CAN_CFG.DEFCAN : Fld := ⟨.CAN_CFG, 21, 1⟩
abbrev CAN_NBT.PRE : Fld := ⟨.CAN_NBT, 0, 9⟩
abbrev CAN_NBT.TSEG1 : Fld := ⟨.CAN_NBT, 9, 8⟩
abbrev CAN_NBT.TSEG2 : Fld := ⟨.CAN_NBT, 17, 7⟩
abbrev CAN_NBT.SJW : Fld := ⟨.CAN_NBT, 24, 7⟩
abbrev CAN_DBT.PRE : Fld := ⟨.CAN_DBT, 0, 5⟩
abbrev CAN_DBT.TSEG1 : Fld := ⟨.CAN_DBT, 5, 5⟩
abbrev CAN_DBT.TSEG2 : Fld := ⟨.CAN_DBT, 10, 4⟩
abbrev CAN_DBT.SJW : Fld := ⟨.CAN_DBT, 14, 4⟩
abbrev CAN_DBT.TDCO : Fld := ⟨.CAN_DBT, 18, 7⟩
abbrev CAN_DBT.TDCEN : Fld := ⟨.CAN_DBT, 25, 1⟩
abbrev CAN_XBT.PRE : Fld := ⟨.CAN_XBT, 0, 5⟩
abbrev CAN_XBT.TSEG1 : Fld := ⟨.CAN_XBT, 5, 5⟩
abbrev CAN_XBT.TSEG2 : Fld := ⟨.CAN_XBT, 10, 4⟩
abbrev CAN_XBT.SJW : Fld := ⟨.CAN_XBT, 14, 4⟩
abbrev CAN_XBT.TDCO : Fld := ⟨.CAN_XBT, 18, 7⟩
abbrev CAN_XBT.TDCEN : Fld := ⟨.CAN_XBT, 25, 1⟩
abbrev CAN_STAT.STATE : Fld := ⟨.CAN_STAT, 0, 3⟩
abbrev CAN_STAT.LONELY : Fld := ⟨.CAN_STAT, 3, 1⟩
abbrev CAN_STAT.TEC : Fld := ⟨.CAN_STAT, 4, 8⟩
abbrev CAN_STAT.REC : Fld := ⟨.CAN_STAT, 12, 8⟩
abbrev CAN_STAT.TDCV : Fld := ⟨.CAN_STAT, 20, 8⟩
abbrev CAN_ERR.LEC : Fld := ⟨.CAN_ERR, 0, 3⟩
abbrev CAN_ERR.LECDATA : Fld := ⟨.CAN_ERR, 3, 1⟩
abbrev CAN_ERR.ACKRUN : Fld := ⟨.CAN_ERR, 8, 8⟩
abbrev CAN_ERR.BOCNT : Fld := ⟨.CAN_ERR, 16, 8⟩
abbrev CAN_ERR.ERRCNT : Fld := ⟨.CAN_ERR, 24, 8⟩
abbrev CAN_CMD.RECOVER : Fld := ⟨.CAN_CMD, 0, 1⟩
abbrev CAN_CMD.CLRLONELY : Fld := ⟨.CAN_CMD, 1, 1⟩
abbrev CAN_EVT.CTX : Fld := ⟨.CAN_EVT, 0, 8⟩
abbrev CAN_EVT.EVBIT : Fld := ⟨.CAN_EVT, 8, 5⟩
abbrev CAN_EVT.EVEN : Fld := ⟨.CAN_EVT, 13, 1⟩
abbrev CAN_QCFG.Q0DEPTH : Fld := ⟨.CAN_QCFG, 0, 9⟩
abbrev CAN_QCFG.Q1DEPTH : Fld := ⟨.CAN_QCFG, 9, 9⟩
abbrev CAN_QSTAT.HSEQ : Fld := ⟨.CAN_QSTAT, 0, 8⟩
abbrev CAN_QSTAT.HVALID : Fld := ⟨.CAN_QSTAT, 8, 1⟩
abbrev CAN_QSTAT.LOCKED : Fld := ⟨.CAN_QSTAT, 9, 1⟩
abbrev CAN_QSTAT.USED : Fld := ⟨.CAN_QSTAT, 10, 9⟩
abbrev CAN_QSTAT.OVF : Fld := ⟨.CAN_QSTAT, 19, 8⟩
abbrev CAN_QSTAT.POPMISS : Fld := ⟨.CAN_QSTAT, 27, 1⟩
abbrev CAN_RXD.DATA : Fld := ⟨.CAN_RXD, 0, 32⟩
abbrev CAN_RXPOP.SEQ : Fld := ⟨.CAN_RXPOP, 0, 8⟩
abbrev CAN_QRDR.RDR0 : Fld := ⟨.CAN_QRDR, 0, 9⟩
abbrev CAN_QRDR.RDR1 : Fld := ⟨.CAN_QRDR, 16, 9⟩
abbrev CAN_TXREQ.BUF : Fld := ⟨.CAN_TXREQ, 0, 32⟩
abbrev CAN_TXCAN.BUF : Fld := ⟨.CAN_TXCAN, 0, 32⟩
abbrev CAN_TXPEND.BUF : Fld := ⟨.CAN_TXPEND, 0, 32⟩
abbrev CAN_TXDONE.BUF : Fld := ⟨.CAN_TXDONE, 0, 32⟩
abbrev CAN_WDATA.DATA : Fld := ⟨.CAN_WDATA, 0, 32⟩
abbrev CAN_WDMASK.MASK : Fld := ⟨.CAN_WDMASK, 0, 32⟩
abbrev CAN_FID.MATCH : Fld := ⟨.CAN_FID, 0, 29⟩
abbrev CAN_FID.IDE : Fld := ⟨.CAN_FID, 29, 1⟩
abbrev CAN_FMK.MASK : Fld := ⟨.CAN_FMK, 0, 29⟩
abbrev CAN_FCTL.ACT : Fld := ⟨.CAN_FCTL, 0, 2⟩
abbrev CAN_FCTL.GW : Fld := ⟨.CAN_FCTL, 2, 1⟩
abbrev CAN_FCTL.FMT : Fld := ⟨.CAN_FCTL, 3, 3⟩
abbrev CAN_FCTL.RTRM : Fld := ⟨.CAN_FCTL, 6, 1⟩
abbrev CAN_FCTL.RTR : Fld := ⟨.CAN_FCTL, 7, 1⟩
abbrev CAN_TXW.DATA : Fld := ⟨.CAN_TXW, 0, 32⟩
abbrev CAN_TXS.ST : Fld := ⟨.CAN_TXS, 0, 3⟩
abbrev CAN_TXS.CANCEL_LATE : Fld := ⟨.CAN_TXS, 3, 1⟩
abbrev CAN_TXS.LONELY : Fld := ⟨.CAN_TXS, 4, 1⟩
abbrev CAN_TXS.REASON : Fld := ⟨.CAN_TXS, 5, 3⟩
abbrev CAN_TXS.ATTEMPTS : Fld := ⟨.CAN_TXS, 8, 8⟩
abbrev CAN_TXT.TIME : Fld := ⟨.CAN_TXT, 0, 32⟩
abbrev LIN_CFG.EN : Fld := ⟨.LIN_CFG, 0, 1⟩
abbrev LIN_CFG.BAUD : Fld := ⟨.LIN_CFG, 1, 15⟩
abbrev LIN_SCHED.TABLE : Fld := ⟨.LIN_SCHED, 0, 5⟩
abbrev LIN_SCHED.RUNNING : Fld := ⟨.LIN_SCHED, 5, 5⟩
abbrev LIN_SCHED.ENTRY : Fld := ⟨.LIN_SCHED, 10, 5⟩
abbrev LIN_CMD.WAKE : Fld := ⟨.LIN_CMD, 0, 1⟩
abbrev LIN_TE.FID : Fld := ⟨.LIN_TE, 0, 6⟩
abbrev LIN_TE.TYPE : Fld := ⟨.LIN_TE, 6, 2⟩
abbrev LIN_TE.PUB : Fld := ⟨.LIN_TE, 8, 1⟩
abbrev LIN_TE.LEN : Fld := ⟨.LIN_TE, 9, 3⟩
abbrev LIN_TE.CHK : Fld := ⟨.LIN_TE, 12, 1⟩
abbrev LIN_TE.SLOT : Fld := ⟨.LIN_TE, 13, 8⟩
abbrev LIN_TE.DSLOT : Fld := ⟨.LIN_TE, 21, 6⟩
abbrev LIN_TE.END : Fld := ⟨.LIN_TE, 27, 1⟩
abbrev LIN_TE.CTBL : Fld := ⟨.LIN_TE, 28, 4⟩
abbrev LIN_D0.D0_D3 : Fld := ⟨.LIN_D0, 0, 32⟩
abbrev LIN_D1.D4_D7 : Fld := ⟨.LIN_D1, 0, 32⟩
abbrev LIN_D2.RES : Fld := ⟨.LIN_D2, 0, 3⟩
abbrev LIN_D2.COUNT : Fld := ⟨.LIN_D2, 16, 16⟩
abbrev GW_RT0.MATCH : Fld := ⟨.GW_RT0, 0, 29⟩
abbrev GW_RT0.IDE : Fld := ⟨.GW_RT0, 29, 1⟩
abbrev GW_RT0.SRCT : Fld := ⟨.GW_RT0, 30, 2⟩
abbrev GW_RT1.MASK : Fld := ⟨.GW_RT1, 0, 29⟩
abbrev GW_RT2.SRCPORT : Fld := ⟨.GW_RT2, 0, 4⟩
abbrev GW_RT2.CANMASK : Fld := ⟨.GW_RT2, 4, 8⟩
abbrev GW_RT2.LINMASK : Fld := ⟨.GW_RT2, 12, 6⟩
abbrev GW_RT2.TUN : Fld := ⟨.GW_RT2, 18, 1⟩
abbrev GW_RT2.STREAM : Fld := ⟨.GW_RT2, 19, 4⟩
abbrev GW_RT2.LINSLOT : Fld := ⟨.GW_RT2, 23, 6⟩
abbrev GW_RT2.VALID : Fld := ⟨.GW_RT2, 31, 1⟩
abbrev GW_RT3.DID : Fld := ⟨.GW_RT3, 0, 29⟩
abbrev GW_RT3.DIDE : Fld := ⟨.GW_RT3, 29, 1⟩
abbrev GW_RT3.KEEPID : Fld := ⟨.GW_RT3, 30, 1⟩
abbrev GW_RT3.FDOUT : Fld := ⟨.GW_RT3, 31, 1⟩
abbrev GW_BUSID.BUSID : Fld := ⟨.GW_BUSID, 0, 5⟩
abbrev GW_STAT.FWD : Fld := ⟨.GW_STAT, 0, 16⟩
abbrev GW_STAT.DROP : Fld := ⟨.GW_STAT, 16, 16⟩
abbrev ETH_PCFG.EN : Fld := ⟨.ETH_PCFG, 0, 1⟩
abbrev ETH_PCFG.SPEED : Fld := ⟨.ETH_PCFG, 1, 2⟩
abbrev ETH_PCFG.MS : Fld := ⟨.ETH_PCFG, 3, 1⟩
abbrev ETH_PCFG.PVID : Fld := ⟨.ETH_PCFG, 4, 12⟩
abbrev ETH_PCFG.DEFPCP : Fld := ⟨.ETH_PCFG, 16, 3⟩
abbrev ETH_PSTAT.LINK : Fld := ⟨.ETH_PSTAT, 0, 1⟩
abbrev ETH_PSTAT.SQI : Fld := ⟨.ETH_PSTAT, 1, 3⟩
abbrev ETH_PSTAT.DROP : Fld := ⟨.ETH_PSTAT, 16, 16⟩
abbrev ETH_PLCA.EN : Fld := ⟨.ETH_PLCA, 0, 1⟩
abbrev ETH_PLCA.ID : Fld := ⟨.ETH_PLCA, 1, 5⟩
abbrev ETH_PLCA.NCNT : Fld := ⟨.ETH_PLCA, 6, 6⟩
abbrev ETH_PLCA.TO : Fld := ⟨.ETH_PLCA, 12, 8⟩
abbrev ETH_VLAN.VID : Fld := ⟨.ETH_VLAN, 0, 12⟩
abbrev ETH_VLAN.MEMBER : Fld := ⟨.ETH_VLAN, 12, 8⟩
abbrev ETH_VLAN.UNTAG : Fld := ⟨.ETH_VLAN, 20, 8⟩
abbrev ETH_TSCTL.EN : Fld := ⟨.ETH_TSCTL, 0, 1⟩
abbrev ETH_TSCTL.ROLE : Fld := ⟨.ETH_TSCTL, 1, 1⟩
abbrev ETH_TSCTL.PORT : Fld := ⟨.ETH_TSCTL, 2, 3⟩
abbrev ETH_TSSTAT.OFFSET : Fld := ⟨.ETH_TSSTAT, 0, 24⟩
abbrev ETH_TSSTAT.SYNCLOST : Fld := ⟨.ETH_TSSTAT, 31, 1⟩
abbrev ETH_STR0.SIDLO : Fld := ⟨.ETH_STR0, 0, 32⟩
abbrev ETH_STR1.SIDHI : Fld := ⟨.ETH_STR1, 0, 32⟩
abbrev ETH_STR2.DMACLO : Fld := ⟨.ETH_STR2, 0, 32⟩
abbrev ETH_STR3.DMACHI : Fld := ⟨.ETH_STR3, 0, 16⟩
abbrev ETH_STR3.VID : Fld := ⟨.ETH_STR3, 16, 12⟩
abbrev ETH_STR3.PCP : Fld := ⟨.ETH_STR3, 28, 3⟩
abbrev ETH_STR3.EN : Fld := ⟨.ETH_STR3, 31, 1⟩
abbrev ETH_STR4.PORT : Fld := ⟨.ETH_STR4, 0, 3⟩
abbrev ETH_STR4.FMT : Fld := ⟨.ETH_STR4, 3, 1⟩
abbrev ETH_STR4.DIR : Fld := ⟨.ETH_STR4, 4, 1⟩
abbrev ETH_STR4.TAGG : Fld := ⟨.ETH_STR4, 5, 10⟩
abbrev ETH_STR4.MTV : Fld := ⟨.ETH_STR4, 15, 1⟩
abbrev NM_CFG.EN : Fld := ⟨.NM_CFG, 0, 1⟩
abbrev NM_CFG.NODEID : Fld := ⟨.NM_CFG, 1, 8⟩
abbrev NM_CFG.TPEND : Fld := ⟨.NM_CFG, 9, 11⟩
abbrev NM_CFG.LWLINE : Fld := ⟨.NM_CFG, 20, 9⟩
abbrev NM_CFG.LWEN : Fld := ⟨.NM_CFG, 29, 1⟩
abbrev NM_TIME.TCYC : Fld := ⟨.NM_TIME, 0, 8⟩
abbrev NM_TIME.PNTO : Fld := ⟨.NM_TIME, 8, 8⟩
abbrev NM_PORT.ROLE : Fld := ⟨.NM_PORT, 0, 2⟩
abbrev NM_PORT.NMID : Fld := ⟨.NM_PORT, 2, 11⟩
abbrev NM_PORT.NMMASK : Fld := ⟨.NM_PORT, 13, 11⟩
abbrev NM_PORT.WUPF : Fld := ⟨.NM_PORT, 24, 6⟩
abbrev NM_LIN.SEG : Fld := ⟨.NM_LIN, 0, 6⟩
abbrev NM_CLUSTP.CL : Fld := ⟨.NM_CLUSTP, 0, 32⟩
abbrev NM_CLUSTL.CL : Fld := ⟨.NM_CLUSTL, 0, 24⟩
abbrev NM_CTL.READY : Fld := ⟨.NM_CTL, 0, 1⟩
abbrev NM_CTL.PNREQ : Fld := ⟨.NM_CTL, 8, 8⟩
abbrev NM_CMD.WAKE : Fld := ⟨.NM_CMD, 0, 1⟩
abbrev NM_STAT.STATE : Fld := ⟨.NM_STAT, 0, 2⟩
abbrev NM_STAT.LATCHED : Fld := ⟨.NM_STAT, 2, 1⟩
abbrev NM_STAT.WCAUSE : Fld := ⟨.NM_STAT, 3, 3⟩
abbrev NM_STAT.SLEEPCMD : Fld := ⟨.NM_STAT, 6, 1⟩
abbrev NM_STAT.PNACT : Fld := ⟨.NM_STAT, 16, 8⟩
abbrev NM_STAT.PNRX : Fld := ⟨.NM_STAT, 24, 8⟩
abbrev NM_EVT.CTX : Fld := ⟨.NM_EVT, 0, 8⟩
abbrev NM_EVT.EVBIT : Fld := ⟨.NM_EVT, 8, 5⟩
abbrev NM_EVT.EVEN : Fld := ⟨.NM_EVT, 13, 1⟩
abbrev NM_PEND.LEFT : Fld := ⟨.NM_PEND, 0, 11⟩
abbrev PWR_CFG.VLO : Fld := ⟨.PWR_CFG, 0, 8⟩
abbrev PWR_CFG.VHYS : Fld := ⟨.PWR_CFG, 8, 5⟩
abbrev PWR_CFG.VBKLO : Fld := ⟨.PWR_CFG, 16, 8⟩
abbrev PWR_CFG.RETMODE : Fld := ⟨.PWR_CFG, 24, 1⟩
abbrev PWR_CFG2.TRET : Fld := ⟨.PWR_CFG2, 0, 9⟩
abbrev PWR_CFG2.OVTH : Fld := ⟨.PWR_CFG2, 16, 8⟩
abbrev PWR_CFG2.TBWARN : Fld := ⟨.PWR_CFG2, 24, 8⟩
abbrev PWR_EVT.CTX : Fld := ⟨.PWR_EVT, 0, 8⟩
abbrev PWR_EVT.EVBIT : Fld := ⟨.PWR_EVT, 8, 5⟩
abbrev PWR_EVT.EVEN : Fld := ⟨.PWR_EVT, 13, 1⟩
abbrev PWR_STAT.MAINLO : Fld := ⟨.PWR_STAT, 0, 1⟩
abbrev PWR_STAT.BKLO : Fld := ⟨.PWR_STAT, 1, 1⟩
abbrev PWR_STAT.MAINOV : Fld := ⟨.PWR_STAT, 2, 1⟩
abbrev PWR_STAT.BKOV : Fld := ⟨.PWR_STAT, 3, 1⟩
abbrev PWR_STAT.MAINREV : Fld := ⟨.PWR_STAT, 4, 1⟩
abbrev PWR_STAT.PRSRC : Fld := ⟨.PWR_STAT, 5, 2⟩
abbrev PWR_STAT.LSRC : Fld := ⟨.PWR_STAT, 7, 1⟩
abbrev PWR_STAT.FORCED : Fld := ⟨.PWR_STAT, 8, 1⟩
abbrev PWR_STAT.PRREF : Fld := ⟨.PWR_STAT, 9, 1⟩
abbrev PWR_STAT.TBHOT : Fld := ⟨.PWR_STAT, 10, 1⟩
abbrev PWR_STAT.XFERCNT : Fld := ⟨.PWR_STAT, 16, 8⟩
abbrev PWR_MEAS.VMAIN : Fld := ⟨.PWR_MEAS, 0, 12⟩
abbrev PWR_MEAS.VBACKUP : Fld := ⟨.PWR_MEAS, 12, 12⟩
abbrev PWR_MEAS2.VPRAIL : Fld := ⟨.PWR_MEAS2, 0, 12⟩
abbrev PWR_MEAS2.TBASE : Fld := ⟨.PWR_MEAS2, 12, 10⟩
abbrev PWR_PRCMD.CMD : Fld := ⟨.PWR_PRCMD, 0, 2⟩
abbrev PWR_XFER.CAUSE : Fld := ⟨.PWR_XFER, 0, 3⟩
abbrev PWR_XFER.VMIN : Fld := ⟨.PWR_XFER, 8, 9⟩
abbrev FLT_STAT.AOK : Fld := ⟨.FLT_STAT, 0, 1⟩
abbrev FLT_STAT.BOK : Fld := ⟨.FLT_STAT, 1, 1⟩
abbrev FLT_STAT.DISAG : Fld := ⟨.FLT_STAT, 2, 1⟩
abbrev FLT_STAT.BUFOVF : Fld := ⟨.FLT_STAT, 3, 1⟩
abbrev FLT_STAT.LIMPACT : Fld := ⟨.FLT_STAT, 8, 8⟩
abbrev FLT_STAT.FORCED : Fld := ⟨.FLT_STAT, 16, 16⟩
abbrev FLT_CMD.CLRLOG : Fld := ⟨.FLT_CMD, 0, 1⟩
abbrev FLT_CMD.CLRLOST : Fld := ⟨.FLT_CMD, 1, 1⟩
abbrev FLT_LOGCNT.CNT : Fld := ⟨.FLT_LOGCNT, 0, 32⟩
abbrev FLT_LOST.CNT : Fld := ⟨.FLT_LOST, 0, 8⟩
abbrev FLT_LOST.LASTSRC : Fld := ⟨.FLT_LOST, 8, 13⟩
abbrev FLT_ATTN.PEND : Fld := ⟨.FLT_ATTN, 1, 6⟩
abbrev FLT_ATTN.SEQ : Fld := ⟨.FLT_ATTN, 8, 4⟩
abbrev FLT_INJ.SRC : Fld := ⟨.FLT_INJ, 0, 13⟩
abbrev FLT_INJ.MODE : Fld := ⟨.FLT_INJ, 13, 2⟩
abbrev FLT_INJ.TINJ : Fld := ⟨.FLT_INJ, 16, 8⟩
abbrev FLT_INJD.DETAIL : Fld := ⟨.FLT_INJD, 0, 12⟩
abbrev FLT_INJSTAT.SRC : Fld := ⟨.FLT_INJSTAT, 0, 13⟩
abbrev FLT_INJSTAT.MODE : Fld := ⟨.FLT_INJSTAT, 13, 2⟩
abbrev FLT_INJSTAT.COINC : Fld := ⟨.FLT_INJSTAT, 15, 1⟩
abbrev FLT_INJSTAT.LEFT : Fld := ⟨.FLT_INJSTAT, 16, 8⟩
abbrev FLT_RGCMD.GRP : Fld := ⟨.FLT_RGCMD, 0, 4⟩
abbrev FLT_RGCMD.CMD : Fld := ⟨.FLT_RGCMD, 4, 2⟩
abbrev FLT_RGCTL.TSHADOW : Fld := ⟨.FLT_RGCTL, 0, 9⟩
abbrev FLT_RGCTL.AUTOREL : Fld := ⟨.FLT_RGCTL, 9, 1⟩
abbrev FLT_RGCTL.TREL : Fld := ⟨.FLT_RGCTL, 10, 8⟩
abbrev FLT_RGSTAT.FORCED : Fld := ⟨.FLT_RGSTAT, 0, 1⟩
abbrev FLT_RGSTAT.SEQ : Fld := ⟨.FLT_RGSTAT, 1, 1⟩
abbrev FLT_RGSTAT.SHWIN : Fld := ⟨.FLT_RGSTAT, 2, 1⟩
abbrev FLT_RGSTAT.RELREF : Fld := ⟨.FLT_RGSTAT, 3, 1⟩
abbrev FLT_RGSTAT.COUNT : Fld := ⟨.FLT_RGSTAT, 16, 16⟩
abbrev FLT_DEF.SEV : Fld := ⟨.FLT_DEF, 0, 3⟩
abbrev FLT_DEF.ATTN : Fld := ⟨.FLT_DEF, 3, 3⟩
abbrev FLT_DEF.RG : Fld := ⟨.FLT_DEF, 6, 4⟩
abbrev FLT_DEF.RGOWN : Fld := ⟨.FLT_DEF, 10, 1⟩
abbrev FLT_DEF.DCTX : Fld := ⟨.FLT_DEF, 11, 8⟩
abbrev FLT_DEF.DCTXV : Fld := ⟨.FLT_DEF, 19, 1⟩
abbrev FLT_OVR.SRC : Fld := ⟨.FLT_OVR, 0, 13⟩
abbrev FLT_OVR.V : Fld := ⟨.FLT_OVR, 13, 1⟩
abbrev FLT_OVRENT.SEV : Fld := ⟨.FLT_OVRENT, 0, 3⟩
abbrev FLT_OVRENT.ATTN : Fld := ⟨.FLT_OVRENT, 3, 3⟩
abbrev FLT_OVRENT.RG : Fld := ⟨.FLT_OVRENT, 6, 4⟩
abbrev FLT_OVRENT.RGOWN : Fld := ⟨.FLT_OVRENT, 10, 1⟩
abbrev FLT_OVRENT.DCTX : Fld := ⟨.FLT_OVRENT, 11, 8⟩
abbrev FLT_OVRENT.DCTXV : Fld := ⟨.FLT_OVRENT, 19, 1⟩
abbrev FLT_SHM.SRC : Fld := ⟨.FLT_SHM, 0, 13⟩
abbrev FLT_SHM.MASK : Fld := ⟨.FLT_SHM, 13, 13⟩
abbrev FLT_SHM.V : Fld := ⟨.FLT_SHM, 26, 1⟩
abbrev TST_CMD.CMD : Fld := ⟨.TST_CMD, 0, 3⟩
abbrev TST_CMD.GRP : Fld := ⟨.TST_CMD, 4, 4⟩
abbrev TST_STAT.BUSY : Fld := ⟨.TST_STAT, 0, 1⟩
abbrev TST_STAT.RESULT : Fld := ⟨.TST_STAT, 1, 2⟩
abbrev TST_STAT.FAILTEST : Fld := ⟨.TST_STAT, 3, 4⟩
abbrev TST_STAT.MISSA : Fld := ⟨.TST_STAT, 8, 8⟩
abbrev TST_STAT.MISSB : Fld := ⟨.TST_STAT, 16, 8⟩
abbrev TST_STAT.CYCLES : Fld := ⟨.TST_STAT, 24, 8⟩
abbrev TST_CFG.TCYC : Fld := ⟨.TST_CFG, 0, 8⟩
abbrev TWN_CFG.KSLOT : Fld := ⟨.TWN_CFG, 0, 5⟩
abbrev TWN_CFG.TKEVBIT : Fld := ⟨.TWN_CFG, 5, 5⟩
abbrev TWN_CFG.TKEVEN : Fld := ⟨.TWN_CFG, 10, 1⟩
abbrev TWN_CFG.TWSTART : Fld := ⟨.TWN_CFG, 11, 10⟩
abbrev TWN_MAP.TWIN : Fld := ⟨.TWN_MAP, 0, 16⟩
abbrev TWN_CTXM.MIR : Fld := ⟨.TWN_CTXM, 0, 32⟩
abbrev TWN_MREG.BASE : Fld := ⟨.TWN_MREG, 0, 13⟩
abbrev TWN_MREG.SIZE : Fld := ⟨.TWN_MREG, 16, 13⟩
abbrev TWN_PEN.EN : Fld := ⟨.TWN_PEN, 0, 32⟩
abbrev TWN_DEN.EN : Fld := ⟨.TWN_DEN, 0, 32⟩
abbrev TWN_STAT.ROLE : Fld := ⟨.TWN_STAT, 0, 2⟩
abbrev TWN_STAT.STRAP : Fld := ⟨.TWN_STAT, 2, 1⟩
abbrev TWN_STAT.LINK : Fld := ⟨.TWN_STAT, 3, 3⟩
abbrev TWN_STAT.TWOKI : Fld := ⟨.TWN_STAT, 6, 1⟩
abbrev TWN_STAT.TWOKO : Fld := ⟨.TWN_STAT, 7, 1⟩
abbrev TWN_STAT.STALE : Fld := ⟨.TWN_STAT, 8, 1⟩
abbrev TWN_STAT.LANES : Fld := ⟨.TWN_STAT, 9, 2⟩
abbrev TWN_STAT.CONFLICT : Fld := ⟨.TWN_STAT, 11, 1⟩
abbrev TWN_STAT.TOOK : Fld := ⟨.TWN_STAT, 12, 1⟩
abbrev TWN_LAG.LAG : Fld := ⟨.TWN_LAG, 0, 16⟩
abbrev TWN_LAG.MAXLAG : Fld := ⟨.TWN_LAG, 16, 16⟩
abbrev TWN_LINK.AUTHERR : Fld := ⟨.TWN_LINK, 0, 16⟩
abbrev TWN_LINK.RESYNCS : Fld := ⟨.TWN_LINK, 16, 8⟩
abbrev TWN_LINK.LANEDROP : Fld := ⟨.TWN_LINK, 24, 8⟩
abbrev TWN_TOFF.OFFSET : Fld := ⟨.TWN_TOFF, 0, 32⟩
abbrev TWN_CMD.CMD : Fld := ⟨.TWN_CMD, 0, 3⟩
abbrev KEY_STAT.SEALED : Fld := ⟨.KEY_STAT, 0, 1⟩
abbrev KEY_STAT.SVCOK : Fld := ⟨.KEY_STAT, 1, 1⟩
abbrev KEY_STAT.DBGOPEN : Fld := ⟨.KEY_STAT, 2, 1⟩
abbrev KEY_STAT.CATLOCK : Fld := ⟨.KEY_STAT, 3, 1⟩
abbrev KEY_STAT.OWNED : Fld := ⟨.KEY_STAT, 4, 1⟩
abbrev KEY_STAT.BUSY : Fld := ⟨.KEY_STAT, 5, 1⟩
abbrev KEY_STAT.TCNT : Fld := ⟨.KEY_STAT, 8, 4⟩
abbrev KEY_CMD.CMD : Fld := ⟨.KEY_CMD, 0, 4⟩
abbrev KEY_CMD.SLOT : Fld := ⟨.KEY_CMD, 8, 5⟩
abbrev KEY_CMD.IDX : Fld := ⟨.KEY_CMD, 13, 1⟩
abbrev KEY_CMD.FLAGS : Fld := ⟨.KEY_CMD, 16, 6⟩
abbrev KEY_RES.RESULT : Fld := ⟨.KEY_RES, 0, 4⟩
abbrev KEY_RES.CMD : Fld := ⟨.KEY_RES, 4, 4⟩
abbrev KEY_RES.SLOT : Fld := ⟨.KEY_RES, 8, 8⟩
abbrev KEY_RES.CONFV : Fld := ⟨.KEY_RES, 16, 1⟩
abbrev KEY_UID.UID : Fld := ⟨.KEY_UID, 0, 32⟩
abbrev KEY_TCFG.TMAX : Fld := ⟨.KEY_TCFG, 0, 4⟩
abbrev KEY_TCFG.POL0 : Fld := ⟨.KEY_TCFG, 4, 1⟩
abbrev KEY_TCFG.POL1 : Fld := ⟨.KEY_TCFG, 5, 1⟩
abbrev KEY_TCFG.POL2 : Fld := ⟨.KEY_TCFG, 6, 1⟩
abbrev KEY_TCFG.POL3 : Fld := ⟨.KEY_TCFG, 7, 1⟩
abbrev KEY_TCFG.POL4 : Fld := ⟨.KEY_TCFG, 8, 1⟩
abbrev KEY_TCFG.POL5 : Fld := ⟨.KEY_TCFG, 9, 1⟩
abbrev KEY_TLOGCNT.CNT : Fld := ⟨.KEY_TLOGCNT, 0, 16⟩
abbrev KEY_OPGO.ADDR : Fld := ⟨.KEY_OPGO, 0, 32⟩
abbrev KEY_OPSTAT.QLEN : Fld := ⟨.KEY_OPSTAT, 0, 3⟩
abbrev KEY_OPSTAT.QFULL : Fld := ⟨.KEY_OPSTAT, 3, 1⟩
abbrev KEY_UNSCNT.CNT : Fld := ⟨.KEY_UNSCNT, 0, 28⟩
abbrev KEY_DBGCNT.CNT : Fld := ⟨.KEY_DBGCNT, 0, 28⟩
abbrev KEY_TLOG.SRC : Fld := ⟨.KEY_TLOG, 0, 3⟩
abbrev KEY_TLOG.SEAL : Fld := ⟨.KEY_TLOG, 3, 1⟩
abbrev KEY_TLOG.ABORT : Fld := ⟨.KEY_TLOG, 4, 1⟩
abbrev KEY_TLOG.MODE : Fld := ⟨.KEY_TLOG, 5, 4⟩
abbrev KEY_TLOG.TIME : Fld := ⟨.KEY_TLOG, 9, 23⟩
abbrev KEY_ENV.DATA : Fld := ⟨.KEY_ENV, 0, 32⟩
abbrev KEY_PLAIN.DATA : Fld := ⟨.KEY_PLAIN, 0, 32⟩
abbrev KEY_SVCNONCE.DATA : Fld := ⟨.KEY_SVCNONCE, 0, 32⟩
abbrev KEY_SVCRESP.DATA : Fld := ⟨.KEY_SVCRESP, 0, 32⟩
abbrev KEY_CONF.DATA : Fld := ⟨.KEY_CONF, 0, 32⟩
abbrev KEY_SLOT.FLAGS : Fld := ⟨.KEY_SLOT, 0, 6⟩
abbrev KEY_SLOT.WILD : Fld := ⟨.KEY_SLOT, 6, 1⟩
abbrev KEY_SLOT.FULL : Fld := ⟨.KEY_SLOT, 7, 1⟩
abbrev KEY_SLOT.COPY : Fld := ⟨.KEY_SLOT, 8, 1⟩
abbrev KEY_SCNT.CNT : Fld := ⟨.KEY_SCNT, 0, 28⟩
abbrev HST_CFG.RDLY : Fld := ⟨.HST_CFG, 0, 3⟩
abbrev HST_STAT.FRAMES : Fld := ⟨.HST_STAT, 0, 16⟩
abbrev HST_STAT.CRCERRS : Fld := ⟨.HST_STAT, 16, 8⟩
abbrev HST_STAT.LATES : Fld := ⟨.HST_STAT, 24, 8⟩
abbrev HST_ECFG.EN : Fld := ⟨.HST_ECFG, 0, 1⟩
abbrev HST_ECFG.PORT : Fld := ⟨.HST_ECFG, 1, 16⟩
abbrev HST_ECFG.KSLOT : Fld := ⟨.HST_ECFG, 17, 5⟩
abbrev HST_ESTAT.ACCEPTED : Fld := ⟨.HST_ESTAT, 0, 16⟩
abbrev HST_ESTAT.AUTHERR : Fld := ⟨.HST_ESTAT, 16, 8⟩
abbrev HST_ESTAT.REPLAY : Fld := ⟨.HST_ESTAT, 24, 8⟩
abbrev HST_ENONCE.NONCE : Fld := ⟨.HST_ENONCE, 0, 32⟩
abbrev HST_ESEQ.SEQ : Fld := ⟨.HST_ESEQ, 0, 32⟩
abbrev CAL_VAL.GAIN : Fld := ⟨.CAL_VAL, 0, 16⟩
abbrev CAL_VAL.OFFSET : Fld := ⟨.CAL_VAL, 16, 16⟩
abbrev CAL_INFO.SRC : Fld := ⟨.CAL_INFO, 0, 1⟩
abbrev CAL_INFO.BUSY : Fld := ⟨.CAL_INFO, 1, 1⟩
abbrev CAL_INFO.WRITES : Fld := ⟨.CAL_INFO, 8, 8⟩
abbrev CAL_SUM.CRC : Fld := ⟨.CAL_SUM, 0, 32⟩
abbrev CAL_STAT.USERCNT : Fld := ⟨.CAL_STAT, 0, 9⟩
abbrev CAL_STAT.BUSY : Fld := ⟨.CAL_STAT, 9, 1⟩

/-- R609, R610, R615: where each register lies. -/
def Reg.place : Reg → Place
  | .SYS_ID => ⟨0x0, []⟩
  | .SYS_MODE => ⟨0x10, []⟩
  | .SYS_MODEREQ => ⟨0x14, []⟩
  | .SYS_MODERES => ⟨0x18, []⟩
  | .SYS_RSTCAUSE => ⟨0x20, []⟩
  | .SYS_RSTCMD => ⟨0x24, []⟩
  | .SYS_START => ⟨0x28, []⟩
  | .SYS_CFG => ⟨0x30, []⟩
  | .SYS_WATCH => ⟨0x34, []⟩
  | .SYS_HOLDLOG => ⟨0x40, []⟩
  | .SYS_WAKESRC => ⟨0x44, []⟩
  | .CAT_STAT => ⟨0x20000, []⟩
  | .CAT_IMGVER => ⟨0x20004, []⟩
  | .CAT_ROLLBACK => ⟨0x20008, []⟩
  | .CAT_FLOOR => ⟨0x2000C, []⟩
  | .CAT_LOADA => ⟨0x20010, []⟩
  | .CAT_LOADB => ⟨0x20014, []⟩
  | .CAT_LOADAOFF => ⟨0x20018, []⟩
  | .CAT_LOADBOFF => ⟨0x2001C, []⟩
  | .CAT_WCTL => ⟨0x20020, []⟩
  | .CAT_WLEN => ⟨0x20024, []⟩
  | .CAT_WSTAT => ⟨0x20028, []⟩
  | .CAT_MBOUND => ⟨0x20030, []⟩
  | .FAB_STAT => ⟨0x30000, []⟩
  | .FAB_OWNERR => ⟨0x30004, []⟩
  | .FAB_LWR => ⟨0x30010, []⟩
  | .FAB_LVAL => ⟨0x30100, [(4, 16)]⟩
  | .FAB_LWRG => ⟨0x30200, [(4, 32)]⟩
  | .FAB_LSRC => ⟨0x31000, [(4, 512)]⟩
  | .FAB_OSEL => ⟨0x31800, [(4, 93)]⟩
  | .PU_CFG => ⟨0x32000, [(16, 64)]⟩
  | .PU_PD => ⟨0x32004, [(16, 64)]⟩
  | .PU_PH => ⟨0x32008, [(16, 64)]⟩
  | .PU_STAT => ⟨0x3200C, [(16, 64)]⟩
  | .LC_INAB => ⟨0x33000, [(16, 128)]⟩
  | .LC_INCD => ⟨0x33004, [(16, 128)]⟩
  | .LC_CFG => ⟨0x33008, [(16, 128)]⟩
  | .ER_CFG => ⟨0x34000, [(8, 256)]⟩
  | .ER_CNT => ⟨0x34004, [(8, 256)]⟩
  | .HSW_CFG => ⟨0x40000, [(64, 48)]⟩
  | .HSW_LIM => ⟨0x40004, [(64, 48)]⟩
  | .HSW_INR0 => ⟨0x40008, [(64, 48)]⟩
  | .HSW_INR1 => ⟨0x4000C, [(64, 48)]⟩
  | .HSW_WIRE0 => ⟨0x40010, [(64, 48)]⟩
  | .HSW_WIRE1 => ⟨0x40014, [(64, 48)]⟩
  | .HSW_WIRE2 => ⟨0x40018, [(64, 48)]⟩
  | .HSW_TIME => ⟨0x4001C, [(64, 48)]⟩
  | .HSW_OL => ⟨0x40020, [(64, 48)]⟩
  | .HSW_FB => ⟨0x40024, [(64, 48)]⟩
  | .HSW_STAT => ⟨0x40028, [(64, 48)]⟩
  | .HSW_MEAS => ⟨0x4002C, [(64, 48)]⟩
  | .HSW_MEAS2 => ⟨0x40030, [(64, 48)]⟩
  | .HSW_WTEMP => ⟨0x40034, [(64, 48)]⟩
  | .HSW_CLAMP => ⟨0x40038, [(64, 48)]⟩
  | .HSW_CLR => ⟨0x4003C, [(64, 48)]⟩
  | .HSW_LOCK0 => ⟨0x41000, []⟩
  | .HSW_LOCK1 => ⟨0x41004, []⟩
  | .HBR_CFG => ⟨0x50000, [(64, 12)]⟩
  | .HBR_LIM => ⟨0x50004, [(64, 12)]⟩
  | .HBR_STALL => ⟨0x50008, [(64, 12)]⟩
  | .HBR_MON => ⟨0x5000C, [(64, 12)]⟩
  | .HBR_PZONE => ⟨0x50010, [(64, 12)]⟩
  | .HBR_PINCH => ⟨0x50014, [(64, 12)]⟩
  | .HBR_OL => ⟨0x50018, [(64, 12)]⟩
  | .HBR_FB => ⟨0x5001C, [(64, 12)]⟩
  | .HBR_SVC => ⟨0x50020, [(64, 12)]⟩
  | .HBR_TGT => ⟨0x50024, [(64, 12)]⟩
  | .HBR_STAT => ⟨0x50028, [(64, 12)]⟩
  | .HBR_MEAS => ⟨0x5002C, [(64, 12)]⟩
  | .HBR_POS => ⟨0x50030, [(64, 12)]⟩
  | .HBR_POSSET => ⟨0x50034, [(64, 12)]⟩
  | .HBR_CLR => ⟨0x50038, [(64, 12)]⟩
  | .HBR_SFLT => ⟨0x5003C, [(64, 12)]⟩
  | .VLV_CFG => ⟨0x60000, [(64, 12)]⟩
  | .VLV_PROF => ⟨0x60004, [(64, 12)]⟩
  | .VLV_COIL => ⟨0x60008, [(64, 12)]⟩
  | .VLV_COIL2 => ⟨0x6000C, [(64, 12)]⟩
  | .VLV_FB => ⟨0x60010, [(64, 12)]⟩
  | .VLV_STAT => ⟨0x60014, [(64, 12)]⟩
  | .VLV_MEAS => ⟨0x60018, [(64, 12)]⟩
  | .VLV_TEMP => ⟨0x6001C, [(64, 12)]⟩
  | .VLV_RES => ⟨0x60020, [(64, 12)]⟩
  | .VLV_CLR => ⟨0x60024, [(64, 12)]⟩
  | .VHS_CFG => ⟨0x60400, [(64, 3)]⟩
  | .VHS_FB => ⟨0x60404, [(64, 3)]⟩
  | .VHS_STAT => ⟨0x60408, [(64, 3)]⟩
  | .VHS_MEAS => ⟨0x6040C, [(64, 3)]⟩
  | .VHS_CLAMP => ⟨0x60410, [(64, 3)]⟩
  | .VHS_CLR => ⟨0x60414, [(64, 3)]⟩
  | .CTD_CFG => ⟨0x60600, [(64, 2)]⟩
  | .CTD_PROF => ⟨0x60604, [(64, 2)]⟩
  | .CTD_COIL => ⟨0x60608, [(64, 2)]⟩
  | .CTD_COIL2 => ⟨0x6060C, [(64, 2)]⟩
  | .CTD_FB => ⟨0x60610, [(64, 2)]⟩
  | .CTD_AUX => ⟨0x60614, [(64, 2)]⟩
  | .CTD_STAT => ⟨0x60618, [(64, 2)]⟩
  | .CTD_MEAS => ⟨0x6061C, [(64, 2)]⟩
  | .CTD_TEMP => ⟨0x60620, [(64, 2)]⟩
  | .CTD_RES => ⟨0x60624, [(64, 2)]⟩
  | .CTD_CLAMP => ⟨0x60628, [(64, 2)]⟩
  | .CTD_CLR => ⟨0x6062C, [(64, 2)]⟩
  | .LED_CFG => ⟨0x70000, [(64, 16)]⟩
  | .LED_LVL => ⟨0x70004, [(64, 16)]⟩
  | .LED_DEM => ⟨0x70008, [(64, 16)]⟩
  | .LED_DIAG => ⟨0x7000C, [(64, 16)]⟩
  | .LED_FB => ⟨0x70010, [(64, 16)]⟩
  | .LED_STAT => ⟨0x70014, [(64, 16)]⟩
  | .LED_MEAS => ⟨0x70018, [(64, 16)]⟩
  | .LED_EFF => ⟨0x7001C, [(64, 16)]⟩
  | .LED_CLR => ⟨0x70020, [(64, 16)]⟩
  | .LED_PCFG => ⟨0x70400, []⟩
  | .LED_PSTAT => ⟨0x70404, []⟩
  | .LG_NTC => ⟨0x70500, [(16, 8)]⟩
  | .LG_NTC2 => ⟨0x70504, [(16, 8)]⟩
  | .LG_DER => ⟨0x70508, [(16, 8)]⟩
  | .LG_STAT => ⟨0x7050C, [(16, 8)]⟩
  | .LCH_CFG => ⟨0x80000, [(64, 8)]⟩
  | .LCH_RATE => ⟨0x80004, [(64, 8)]⟩
  | .LCH_BUF => ⟨0x80008, [(64, 8)]⟩
  | .LCH_SBUF => ⟨0x8000C, [(64, 8)]⟩
  | .LCH_CTL => ⟨0x80010, [(64, 8)]⟩
  | .LCH_STAT => ⟨0x80014, [(64, 8)]⟩
  | .LCH_CNT => ⟨0x80018, [(64, 8)]⟩
  | .LCH_DLY => ⟨0x8001C, [(64, 8)]⟩
  | .INP_SGRP => ⟨0x90000, [(4, 12)]⟩
  | .INP_SDEB => ⟨0x90040, [(4, 12)]⟩
  | .INP_SLVL => ⟨0x90080, [(4, 3)]⟩
  | .INP_PARK => ⟨0x900A0, []⟩
  | .INP_PREF => ⟨0x900A4, []⟩
  | .AIN_CFG => ⟨0x90100, [(16, 16)]⟩
  | .AIN_CMP => ⟨0x90104, [(16, 16), (4, 2)]⟩
  | .AIN_VAL => ⟨0x9010C, [(16, 16)]⟩
  | .HALL_CFG => ⟨0x90200, [(8, 8)]⟩
  | .HALL_STAT => ⟨0x90204, [(8, 8)]⟩
  | .INP_SUPCFG => ⟨0x90300, []⟩
  | .INP_SUPSTAT => ⟨0x90304, []⟩
  | .DOC_STAT => ⟨0xA0000, [(16, 4)]⟩
  | .DOC_RET => ⟨0xA0004, [(16, 4)]⟩
  | .DOC_STALL => ⟨0xA0008, [(16, 4)]⟩
  | .DOC_TRAPS => ⟨0xA000C, [(16, 4)]⟩
  | .DOC_TRAP => ⟨0xA0100, []⟩
  | .DOC_TRAPPC => ⟨0xA0104, []⟩
  | .DOC_TRAPW => ⟨0xA0108, []⟩
  | .DOC_WDCFG => ⟨0xA0200, []⟩
  | .DOC_WDKICK => ⟨0xA0204, []⟩
  | .DOC_WDSTAT => ⟨0xA0208, []⟩
  | .DOC_CTXWIN => ⟨0xA0400, [(4, 64)]⟩
  | .DOC_WMAP => ⟨0xA8000, [(1024, 32), (4, 256)]⟩
  | .CTX_CMD => ⟨0xB0000, []⟩
  | .CTX_STAT => ⟨0xB0004, []⟩
  | .CTX_MIG => ⟨0xB0008, []⟩
  | .CTX_BDEM => ⟨0xB0010, [(4, 8)]⟩
  | .CTX_LASTQ => ⟨0xB0030, []⟩
  | .CTXC_CFG => ⟨0xB1000, [(16, 256)]⟩
  | .CTXC_ENTRY => ⟨0xB1004, [(16, 256)]⟩
  | .CTXC_STAT => ⟨0xB1008, [(16, 256)]⟩
  | .CTXC_RUN => ⟨0xB100C, [(16, 256)]⟩
  | .MEM_CFG => ⟨0xC0000, []⟩
  | .MEM_STAT => ⟨0xC0004, []⟩
  | .MEM_ECCADDR => ⟨0xC0040, []⟩
  | .MEM_ECCSRC => ⟨0xC0044, []⟩
  | .MEM_HWCOLL => ⟨0xC0048, []⟩
  | .MEM_ECC => ⟨0xC0100, [(4, 15)]⟩
  | .MEM_REPAIR => ⟨0xC0200, [(4, 15)]⟩
  | .CAN_CFG => ⟨0xD0000, [(4096, 8)]⟩
  | .CAN_NBT => ⟨0xD0004, [(4096, 8)]⟩
  | .CAN_DBT => ⟨0xD0008, [(4096, 8)]⟩
  | .CAN_XBT => ⟨0xD000C, [(4096, 8)]⟩
  | .CAN_STAT => ⟨0xD0010, [(4096, 8)]⟩
  | .CAN_ERR => ⟨0xD0014, [(4096, 8)]⟩
  | .CAN_CMD => ⟨0xD0018, [(4096, 8)]⟩
  | .CAN_EVT => ⟨0xD001C, [(4096, 8)]⟩
  | .CAN_QCFG => ⟨0xD0020, [(4096, 8)]⟩
  | .CAN_QSTAT => ⟨0xD0024, [(4096, 8), (4, 2)]⟩
  | .CAN_RXD => ⟨0xD002C, [(4096, 8), (4, 2)]⟩
  | .CAN_RXPOP => ⟨0xD0034, [(4096, 8), (4, 2)]⟩
  | .CAN_QRDR => ⟨0xD003C, [(4096, 8)]⟩
  | .CAN_TXREQ => ⟨0xD0040, [(4096, 8)]⟩
  | .CAN_TXCAN => ⟨0xD0044, [(4096, 8)]⟩
  | .CAN_TXPEND => ⟨0xD0048, [(4096, 8)]⟩
  | .CAN_TXDONE => ⟨0xD004C, [(4096, 8)]⟩
  | .CAN_WDATA => ⟨0xD0050, [(4096, 8)]⟩
  | .CAN_WDMASK => ⟨0xD0054, [(4096, 8)]⟩
  | .CAN_FID => ⟨0xD0100, [(4096, 8), (12, 64)]⟩
  | .CAN_FMK => ⟨0xD0104, [(4096, 8), (12, 64)]⟩
  | .CAN_FCTL => ⟨0xD0108, [(4096, 8), (12, 64)]⟩
  | .CAN_TXW => ⟨0xD0400, [(4096, 8), (96, 32), (4, 21)]⟩
  | .CAN_TXS => ⟨0xD0454, [(4096, 8), (96, 32)]⟩
  | .CAN_TXT => ⟨0xD0458, [(4096, 8), (96, 32)]⟩
  | .LIN_CFG => ⟨0xE0000, [(4096, 6)]⟩
  | .LIN_SCHED => ⟨0xE0004, [(4096, 6)]⟩
  | .LIN_CMD => ⟨0xE0008, [(4096, 6)]⟩
  | .LIN_TE => ⟨0xE0800, [(4096, 6), (128, 16), (4, 32)]⟩
  | .LIN_D0 => ⟨0xE0400, [(4096, 6), (16, 64)]⟩
  | .LIN_D1 => ⟨0xE0404, [(4096, 6), (16, 64)]⟩
  | .LIN_D2 => ⟨0xE0408, [(4096, 6), (16, 64)]⟩
  | .GW_RT0 => ⟨0xE8000, [(16, 1024)]⟩
  | .GW_RT1 => ⟨0xE8004, [(16, 1024)]⟩
  | .GW_RT2 => ⟨0xE8008, [(16, 1024)]⟩
  | .GW_RT3 => ⟨0xE800C, [(16, 1024)]⟩
  | .GW_BUSID => ⟨0xEC000, [(4, 1024)]⟩
  | .GW_STAT => ⟨0xED000, []⟩
  | .ETH_PCFG => ⟨0xF0000, [(16, 7)]⟩
  | .ETH_PSTAT => ⟨0xF0004, [(16, 7)]⟩
  | .ETH_PLCA => ⟨0xF0008, [(16, 7)]⟩
  | .ETH_VLAN => ⟨0xF0100, [(4, 64)]⟩
  | .ETH_TSCTL => ⟨0xF0200, []⟩
  | .ETH_TSSTAT => ⟨0xF0204, []⟩
  | .ETH_STR0 => ⟨0xF0400, [(32, 16)]⟩
  | .ETH_STR1 => ⟨0xF0404, [(32, 16)]⟩
  | .ETH_STR2 => ⟨0xF0408, [(32, 16)]⟩
  | .ETH_STR3 => ⟨0xF040C, [(32, 16)]⟩
  | .ETH_STR4 => ⟨0xF0410, [(32, 16)]⟩
  | .NM_CFG => ⟨0x100000, []⟩
  | .NM_TIME => ⟨0x100004, []⟩
  | .NM_PORT => ⟨0x100010, [(4, 8)]⟩
  | .NM_LIN => ⟨0x100030, []⟩
  | .NM_CLUSTP => ⟨0x100034, []⟩
  | .NM_CLUSTL => ⟨0x100038, []⟩
  | .NM_CTL => ⟨0x100040, []⟩
  | .NM_CMD => ⟨0x100044, []⟩
  | .NM_STAT => ⟨0x100048, []⟩
  | .NM_EVT => ⟨0x10004C, []⟩
  | .NM_PEND => ⟨0x100050, []⟩
  | .PWR_CFG => ⟨0x10000, []⟩
  | .PWR_CFG2 => ⟨0x10004, []⟩
  | .PWR_EVT => ⟨0x10008, []⟩
  | .PWR_STAT => ⟨0x10010, []⟩
  | .PWR_MEAS => ⟨0x10014, []⟩
  | .PWR_MEAS2 => ⟨0x10018, []⟩
  | .PWR_PRCMD => ⟨0x1001C, []⟩
  | .PWR_XFER => ⟨0x10020, []⟩
  | .FLT_STAT => ⟨0x120000, []⟩
  | .FLT_CMD => ⟨0x120004, []⟩
  | .FLT_LOGCNT => ⟨0x120008, []⟩
  | .FLT_LOST => ⟨0x12000C, []⟩
  | .FLT_ATTN => ⟨0x120010, []⟩
  | .FLT_INJ => ⟨0x120020, []⟩
  | .FLT_INJD => ⟨0x120024, []⟩
  | .FLT_INJSTAT => ⟨0x120028, []⟩
  | .FLT_RGCMD => ⟨0x120030, []⟩
  | .FLT_RGCTL => ⟨0x120100, [(4, 16)]⟩
  | .FLT_RGSTAT => ⟨0x120140, [(4, 16)]⟩
  | .FLT_DEF => ⟨0x120400, [(32, 16), (4, 8)]⟩
  | .FLT_OVR => ⟨0x120800, [(8, 512)]⟩
  | .FLT_OVRENT => ⟨0x120804, [(8, 512)]⟩
  | .FLT_SHM => ⟨0x122000, [(64, 16), (4, 16)]⟩
  | .TST_CMD => ⟨0x160000, []⟩
  | .TST_STAT => ⟨0x160004, []⟩
  | .TST_CFG => ⟨0x160008, []⟩
  | .TWN_CFG => ⟨0x110000, []⟩
  | .TWN_MAP => ⟨0x110004, []⟩
  | .TWN_CTXM => ⟨0x110010, [(4, 8)]⟩
  | .TWN_MREG => ⟨0x110040, [(4, 8)]⟩
  | .TWN_PEN => ⟨0x110080, [(4, 3)]⟩
  | .TWN_DEN => ⟨0x110090, [(4, 3)]⟩
  | .TWN_STAT => ⟨0x110100, []⟩
  | .TWN_LAG => ⟨0x110104, []⟩
  | .TWN_LINK => ⟨0x110108, []⟩
  | .TWN_TOFF => ⟨0x11010C, []⟩
  | .TWN_CMD => ⟨0x110110, []⟩
  | .KEY_STAT => ⟨0x130000, []⟩
  | .KEY_CMD => ⟨0x130004, []⟩
  | .KEY_RES => ⟨0x130008, []⟩
  | .KEY_UID => ⟨0x130010, [(4, 4)]⟩
  | .KEY_TCFG => ⟨0x130020, []⟩
  | .KEY_TLOGCNT => ⟨0x130040, []⟩
  | .KEY_OPGO => ⟨0x130050, []⟩
  | .KEY_OPSTAT => ⟨0x130054, []⟩
  | .KEY_UNSCNT => ⟨0x130060, []⟩
  | .KEY_DBGCNT => ⟨0x130064, []⟩
  | .KEY_TLOG => ⟨0x130100, [(4, 16)]⟩
  | .KEY_ENV => ⟨0x130200, [(4, 20)]⟩
  | .KEY_PLAIN => ⟨0x130280, [(4, 16)]⟩
  | .KEY_SVCNONCE => ⟨0x130300, [(4, 4)]⟩
  | .KEY_SVCRESP => ⟨0x130310, [(4, 4)]⟩
  | .KEY_CONF => ⟨0x130320, [(4, 5)]⟩
  | .KEY_SLOT => ⟨0x130400, [(4, 32)]⟩
  | .KEY_SCNT => ⟨0x130480, [(4, 32)]⟩
  | .HST_CFG => ⟨0x140000, []⟩
  | .HST_STAT => ⟨0x140004, []⟩
  | .HST_ECFG => ⟨0x140010, []⟩
  | .HST_ESTAT => ⟨0x140014, []⟩
  | .HST_ENONCE => ⟨0x140018, []⟩
  | .HST_ESEQ => ⟨0x14001C, []⟩
  | .CAL_VAL => ⟨0x150000, [(4, 256)]⟩
  | .CAL_INFO => ⟨0x150400, [(4, 256)]⟩
  | .CAL_SUM => ⟨0x150800, []⟩
  | .CAL_STAT => ⟨0x150804, []⟩

/-- The fields of each register, in the order of its table. -/
def Reg.fields : Reg → List FieldInfo
  | .SYS_ID =>
    [⟨16, 16, .ro, [], .none⟩, ⟨8, 8, .ro, [], .none⟩, ⟨0, 8, .rsv, [], .none⟩]
  | .SYS_MODE =>
    [⟨0, 4, .ro, [], .none⟩, ⟨4, 4, .ro, [], .none⟩, ⟨8, 4, .ro, [], .none⟩, ⟨12, 1, .ro, [], .none⟩, ⟨13, 19,
      .rsv, [], .none⟩]
  | .SYS_MODEREQ =>
    [⟨0, 4, .wo, [(0, 11)], .none⟩, ⟨4, 28, .rsv, [], .none⟩]
  | .SYS_MODERES =>
    [⟨0, 3, .ro, [], .none⟩, ⟨3, 1, .rsv, [], .none⟩, ⟨4, 4, .ro, [], .none⟩, ⟨8, 4, .ro, [], .none⟩, ⟨12, 20,
      .rsv, [], .none⟩]
  | .SYS_RSTCAUSE =>
    [⟨0, 1, .w1c, [], .none⟩, ⟨1, 1, .w1c, [], .none⟩, ⟨2, 1, .w1c, [], .none⟩, ⟨3, 1, .w1c, [], .none⟩, ⟨4, 1,
      .w1c, [], .none⟩, ⟨5, 1, .w1c, [], .none⟩, ⟨6, 1, .w1c, [], .none⟩, ⟨7, 1, .w1c, [], .none⟩, ⟨8, 1, .w1c, [],
      .none⟩, ⟨9, 1, .w1c, [], .none⟩, ⟨10, 1, .w1c, [], .none⟩, ⟨11, 21, .rsv, [], .none⟩]
  | .SYS_RSTCMD =>
    [⟨0, 16, .wo, [(42435, 42435)], .none⟩, ⟨16, 16, .rsv, [], .none⟩]
  | .SYS_START =>
    [⟨0, 4, .ro, [], .none⟩, ⟨4, 1, .ro, [], .none⟩, ⟨5, 1, .ro, [], .none⟩, ⟨6, 2, .rsv, [], .none⟩, ⟨8, 8, .ro,
      [], .none⟩, ⟨16, 16, .rsv, [], .none⟩]
  | .SYS_CFG =>
    [⟨0, 4, .cat, [(1, 7)], .none⟩, ⟨4, 1, .cat, [], .none⟩, ⟨5, 27, .rsv, [], .none⟩]
  | .SYS_WATCH =>
    [⟨0, 16, .cat, [(0, 6000)], .none⟩, ⟨16, 8, .cat, [(1, 200)], .none⟩, ⟨24, 8, .rsv, [], .none⟩]
  | .SYS_HOLDLOG | .CTXC_RUN | .MEM_ECC =>
    [⟨0, 16, .ro, [], .none⟩, ⟨16, 8, .ro, [], .none⟩, ⟨24, 8, .rsv, [], .none⟩]
  | .SYS_WAKESRC =>
    [⟨0, 1, .w1c, [], .none⟩, ⟨1, 1, .w1c, [], .none⟩, ⟨2, 1, .w1c, [], .none⟩, ⟨3, 1, .w1c, [], .none⟩, ⟨4, 1,
      .w1c, [], .none⟩, ⟨5, 1, .w1c, [], .none⟩, ⟨6, 1, .w1c, [], .none⟩, ⟨7, 1, .w1c, [], .none⟩, ⟨8, 8, .ro, [],
      .none⟩, ⟨16, 16, .rsv, [], .none⟩]
  | .CAT_STAT =>
    [⟨0, 1, .ro, [], .none⟩, ⟨1, 1, .ro, [], .none⟩, ⟨2, 1, .ro, [], .none⟩, ⟨3, 1, .ro, [], .none⟩, ⟨4, 4, .ro,
      [], .none⟩, ⟨8, 24, .rsv, [], .none⟩]
  | .CAT_IMGVER | .CAT_ROLLBACK | .CAT_FLOOR | .CAT_LOADAOFF | .CAT_LOADBOFF | .CAT_MBOUND | .FAB_LVAL | .INP_SLVL | .INP_PREF | .DOC_RET | .DOC_STALL | .DOC_TRAPW | .MEM_ECCADDR | .CAN_RXD | .CAN_TXPEND | .CAN_TXT | .FLT_LOGCNT | .TWN_TOFF | .KEY_UID | .KEY_SVCNONCE | .KEY_CONF | .HST_ENONCE | .HST_ESEQ | .CAL_SUM =>
    [⟨0, 32, .ro, [], .none⟩]
  | .CAT_LOADA | .CAT_LOADB =>
    [⟨0, 8, .ro, [], .none⟩, ⟨8, 16, .ro, [], .none⟩, ⟨24, 8, .rsv, [], .none⟩]
  | .CAT_WCTL =>
    [⟨0, 4, .wo, [(0, 4)], .none⟩, ⟨4, 28, .rsv, [], .none⟩]
  | .CAT_WLEN =>
    [⟨0, 23, .rw, [(160, 4194304)], .none⟩, ⟨23, 9, .rsv, [], .none⟩]
  | .CAT_WSTAT =>
    [⟨0, 3, .ro, [], .none⟩, ⟨3, 1, .w1c, [], .none⟩, ⟨4, 8, .ro, [], .none⟩, ⟨12, 20, .ro, [], .none⟩]
  | .FAB_STAT =>
    [⟨0, 10, .ro, [], .none⟩, ⟨10, 6, .rsv, [], .none⟩, ⟨16, 1, .ro, [], .none⟩, ⟨17, 15, .rsv, [], .none⟩]
  | .FAB_OWNERR =>
    [⟨0, 9, .ro, [], .none⟩, ⟨9, 1, .ro, [], .none⟩, ⟨10, 6, .rsv, [], .none⟩, ⟨16, 8, .ro, [], .none⟩, ⟨24, 1,
      .w1c, [], .none⟩, ⟨25, 7, .ro, [], .none⟩]
  | .FAB_LWR =>
    [⟨0, 9, .ro, [], .none⟩, ⟨9, 7, .rsv, [], .none⟩, ⟨16, 1, .ro, [], .none⟩, ⟨17, 15, .rsv, [], .none⟩]
  | .FAB_LWRG | .HSW_WTEMP | .HBR_POS | .MEM_HWCOLL | .GW_STAT | .TWN_LAG =>
    [⟨0, 16, .ro, [], .none⟩, ⟨16, 16, .ro, [], .none⟩]
  | .FAB_LSRC =>
    [⟨0, 4, .cat, [(0, 7)], .none⟩, ⟨4, 8, .cat, [], .none⟩, ⟨12, 1, .cat, [], .none⟩, ⟨13, 1, .cat, [], .none⟩,
      ⟨14, 18, .rsv, [], .none⟩]
  | .FAB_OSEL =>
    [⟨0, 9, .cat, [], .line⟩, ⟨9, 1, .cat, [], .none⟩, ⟨10, 6, .rsv, [], .none⟩, ⟨16, 9, .cat, [], .line⟩, ⟨25, 1,
      .cat, [], .none⟩, ⟨26, 6, .rsv, [], .none⟩]
  | .PU_CFG =>
    [⟨0, 8, .cat, [], .none⟩, ⟨8, 1, .cat, [], .none⟩, ⟨9, 2, .cat, [(0, 1)], .none⟩, ⟨11, 4, .cat, [(0, 8)],
      .none⟩, ⟨15, 1, .cat, [], .none⟩, ⟨16, 9, .cat, [], .line⟩, ⟨25, 7, .rsv, [], .none⟩]
  | .PU_PD =>
    [⟨0, 16, .cat, [(2, 65535)], .none⟩, ⟨16, 16, .cat, [], .none⟩]
  | .PU_PH =>
    [⟨0, 16, .cat, [], .none⟩, ⟨16, 8, .cat, [], .ctx⟩, ⟨24, 1, .cat, [], .none⟩, ⟨25, 7, .rsv, [], .none⟩]
  | .PU_STAT =>
    [⟨0, 16, .ro, [], .none⟩, ⟨16, 1, .ro, [], .none⟩, ⟨17, 1, .ro, [], .none⟩, ⟨18, 14, .rsv, [], .none⟩]
  | .LC_INAB | .LC_INCD =>
    [⟨0, 9, .cat, [], .line⟩, ⟨9, 7, .rsv, [], .none⟩, ⟨16, 9, .cat, [], .line⟩, ⟨25, 7, .rsv, [], .none⟩]
  | .LC_CFG =>
    [⟨0, 16, .cat, [], .none⟩, ⟨16, 2, .cat, [(0, 2)], .none⟩, ⟨18, 1, .cat, [], .none⟩, ⟨19, 13, .rsv, [], .none⟩]
  | .ER_CFG =>
    [⟨0, 9, .cat, [], .line⟩, ⟨9, 2, .cat, [], .none⟩, ⟨11, 5, .cat, [], .none⟩, ⟨16, 8, .cat, [], .ctx⟩, ⟨24, 8,
      .rsv, [], .none⟩]
  | .ER_CNT =>
    [⟨0, 8, .ro, [], .none⟩, ⟨8, 24, .rsv, [], .none⟩]
  | .HSW_CFG =>
    [⟨0, 1, .cat, [], .none⟩, ⟨1, 2, .cat, [(0, 2)], .none⟩, ⟨3, 3, .cat, [(0, 4)], .none⟩, ⟨6, 1, .cat, [],
      .none⟩, ⟨7, 2, .cat, [(0, 2)], .none⟩, ⟨9, 4, .cat, [], .none⟩, ⟨13, 1, .ro, [], .none⟩, ⟨14, 1, .cat, [],
      .none⟩, ⟨15, 17, .rsv, [], .none⟩]
  | .HSW_LIM =>
    [⟨0, 8, .cat, [(10, 240)], .none⟩, ⟨8, 2, .cat, [], .none⟩, ⟨10, 6, .rsv, [], .none⟩, ⟨16, 10, .cat, [(1,
      1000)], .none⟩, ⟨26, 6, .rsv, [], .none⟩]
  | .HSW_INR0 | .HSW_INR1 =>
    [⟨0, 8, .cat, [(0, 0), (10, 240)], .none⟩, ⟨8, 8, .cat, [(0, 250)], .none⟩, ⟨16, 8, .cat, [(0, 0), (10, 240)],
      .none⟩, ⟨24, 8, .cat, [(0, 250)], .none⟩]
  | .HSW_WIRE0 | .HSW_WIRE1 =>
    [⟨0, 16, .cat, [], .none⟩, ⟨16, 16, .cat, [(1, 65535)], .none⟩]
  | .HSW_WIRE2 =>
    [⟨0, 8, .cat, [(0, 125), (216, 255)], .none⟩, ⟨8, 8, .cat, [(60, 200)], .none⟩, ⟨16, 8, .cat, [(1, 50)],
      .none⟩, ⟨24, 8, .rsv, [], .none⟩]
  | .HSW_TIME =>
    [⟨0, 10, .cat, [(1, 1000)], .none⟩, ⟨10, 6, .rsv, [], .none⟩, ⟨16, 8, .cat, [], .none⟩, ⟨24, 4, .cat, [(0, 6)],
      .none⟩, ⟨28, 4, .rsv, [], .none⟩]
  | .HSW_OL =>
    [⟨0, 9, .cat, [(0, 0), (2, 500)], .none⟩, ⟨9, 3, .cat, [(1, 7)], .none⟩, ⟨12, 1, .cat, [], .none⟩, ⟨13, 2,
      .cat, [], .none⟩, ⟨15, 17, .rsv, [], .none⟩]
  | .HSW_FB | .VLV_FB | .VHS_FB | .CTD_FB =>
    [⟨0, 2, .cat, [(0, 2)], .none⟩, ⟨2, 2, .cat, [(0, 2)], .none⟩, ⟨4, 6, .cat, [], .pu⟩, ⟨10, 9, .cat, [(0, 500)],
      .none⟩, ⟨19, 1, .rsv, [], .none⟩, ⟨20, 4, .cat, [], .none⟩, ⟨24, 1, .cat, [], .none⟩, ⟨25, 7, .rsv, [], .none⟩]
  | .HSW_STAT =>
    [⟨0, 3, .ro, [], .none⟩, ⟨3, 2, .ro, [], .none⟩, ⟨5, 1, .w1c, [], .none⟩, ⟨6, 1, .w1c, [], .none⟩, ⟨7, 1, .w1c,
      [], .none⟩, ⟨8, 1, .w1c, [], .none⟩, ⟨9, 1, .w1c, [], .none⟩, ⟨10, 1, .w1c, [], .none⟩, ⟨11, 1, .w1c, [],
      .none⟩, ⟨12, 4, .rsv, [], .none⟩, ⟨16, 4, .ro, [], .none⟩, ⟨20, 1, .ro, [], .none⟩, ⟨21, 1, .ro, [], .none⟩,
      ⟨22, 10, .rsv, [], .none⟩]
  | .HSW_MEAS =>
    [⟨0, 20, .ro, [], .none⟩, ⟨20, 12, .rsv, [], .none⟩]
  | .HSW_MEAS2 =>
    [⟨0, 12, .ro, [], .none⟩, ⟨12, 8, .ro, [], .none⟩, ⟨20, 10, .ro, [], .none⟩, ⟨30, 2, .rsv, [], .none⟩]
  | .HSW_CLAMP | .VHS_CLAMP | .CTD_CLAMP =>
    [⟨0, 10, .ro, [], .none⟩, ⟨10, 10, .ro, [], .none⟩, ⟨20, 12, .ro, [], .none⟩]
  | .HSW_CLR | .VLV_CLR | .VHS_CLR | .CTD_CLR | .LIN_CMD | .NM_CMD =>
    [⟨0, 1, .wo, [], .none⟩, ⟨1, 31, .rsv, [], .none⟩]
  | .HSW_LOCK0 | .CAN_TXDONE =>
    [⟨0, 32, .w1c, [], .none⟩]
  | .HSW_LOCK1 =>
    [⟨0, 16, .w1c, [], .none⟩, ⟨16, 16, .rsv, [], .none⟩]
  | .HBR_CFG =>
    [⟨0, 1, .cat, [], .none⟩, ⟨1, 2, .cat, [(0, 2)], .none⟩, ⟨3, 2, .cat, [(0, 2)], .none⟩, ⟨5, 4, .cat, [],
      .none⟩, ⟨9, 5, .cat, [(2, 31)], .none⟩, ⟨14, 8, .cat, [], .none⟩, ⟨22, 1, .cat, [], .none⟩, ⟨23, 9, .rsv, [],
      .none⟩]
  | .HBR_LIM =>
    [⟨0, 8, .cat, [(4, 200)], .none⟩, ⟨8, 2, .cat, [], .none⟩, ⟨10, 6, .rsv, [], .none⟩, ⟨16, 10, .cat, [(1,
      1000)], .none⟩, ⟨26, 6, .rsv, [], .none⟩]
  | .HBR_STALL =>
    [⟨0, 8, .cat, [(0, 0), (4, 200)], .none⟩, ⟨8, 8, .cat, [(1, 100)], .none⟩, ⟨16, 1, .cat, [], .none⟩, ⟨17, 15,
      .rsv, [], .none⟩]
  | .HBR_MON =>
    [⟨0, 3, .cat, [(0, 3)], .none⟩, ⟨3, 9, .cat, [], .line⟩, ⟨12, 9, .cat, [], .line⟩, ⟨21, 4, .cat, [], .none⟩,
      ⟨25, 7, .rsv, [], .none⟩]
  | .HBR_PZONE =>
    [⟨0, 16, .cat, [], .none⟩, ⟨16, 16, .cat, [], .none⟩]
  | .HBR_PINCH =>
    [⟨0, 1, .cat, [], .none⟩, ⟨1, 1, .cat, [], .none⟩, ⟨2, 6, .cat, [(1, 63)], .none⟩, ⟨8, 3, .cat, [(1, 7)],
      .none⟩, ⟨11, 1, .rsv, [], .none⟩, ⟨12, 8, .cat, [], .none⟩, ⟨20, 5, .cat, [(0, 16)], .none⟩, ⟨25, 7, .rsv,
      [], .none⟩]
  | .HBR_OL =>
    [⟨0, 8, .cat, [], .none⟩, ⟨8, 6, .cat, [(1, 50)], .none⟩, ⟨14, 18, .rsv, [], .none⟩]
  | .HBR_FB =>
    [⟨0, 2, .cat, [(0, 2)], .none⟩, ⟨2, 2, .cat, [(0, 2)], .none⟩, ⟨4, 6, .cat, [], .pu⟩, ⟨10, 9, .cat, [(0, 500)],
      .none⟩, ⟨19, 1, .cat, [], .none⟩, ⟨20, 4, .cat, [], .none⟩, ⟨24, 1, .cat, [], .none⟩, ⟨25, 1, .cat, [],
      .none⟩, ⟨26, 6, .rsv, [], .none⟩]
  | .HBR_SVC | .CAN_EVT | .NM_EVT | .PWR_EVT =>
    [⟨0, 8, .cat, [], .ctx⟩, ⟨8, 5, .cat, [(0, 28)], .none⟩, ⟨13, 1, .cat, [], .none⟩, ⟨14, 18, .rsv, [], .none⟩]
  | .HBR_TGT =>
    [⟨0, 16, .rw, [], .none⟩, ⟨16, 1, .rw, [], .none⟩, ⟨17, 15, .rsv, [], .none⟩]
  | .HBR_STAT =>
    [⟨0, 3, .ro, [], .none⟩, ⟨3, 2, .ro, [], .none⟩, ⟨5, 2, .ro, [], .none⟩, ⟨7, 1, .w1c, [], .none⟩, ⟨8, 1, .w1c,
      [], .none⟩, ⟨9, 1, .w1c, [], .none⟩, ⟨10, 1, .w1c, [], .none⟩, ⟨11, 1, .w1c, [], .none⟩, ⟨12, 1, .w1c, [],
      .none⟩, ⟨13, 1, .w1c, [], .none⟩, ⟨14, 2, .rsv, [], .none⟩, ⟨16, 4, .ro, [], .none⟩, ⟨20, 1, .ro, [], .none⟩,
      ⟨21, 1, .ro, [], .none⟩, ⟨22, 1, .ro, [], .none⟩, ⟨23, 1, .ro, [], .none⟩, ⟨24, 8, .rsv, [], .none⟩]
  | .HBR_MEAS | .VHS_MEAS =>
    [⟨0, 20, .ro, [], .none⟩, ⟨20, 10, .ro, [], .none⟩, ⟨30, 2, .rsv, [], .none⟩]
  | .HBR_POSSET =>
    [⟨0, 16, .wo, [], .none⟩, ⟨16, 16, .rsv, [], .none⟩]
  | .HBR_CLR | .LED_CLR | .LCH_CTL | .CAN_CMD | .FLT_CMD =>
    [⟨0, 1, .wo, [], .none⟩, ⟨1, 1, .wo, [], .none⟩, ⟨2, 30, .rsv, [], .none⟩]
  | .HBR_SFLT =>
    [⟨0, 12, .wo, [(1, 4095)], .none⟩, ⟨12, 20, .rsv, [], .none⟩]
  | .VLV_CFG =>
    [⟨0, 1, .cat, [], .none⟩, ⟨1, 1, .cat, [], .none⟩, ⟨2, 2, .cat, [], .none⟩, ⟨4, 2, .cat, [(0, 2)], .none⟩, ⟨6,
      4, .cat, [], .none⟩, ⟨10, 2, .cat, [], .none⟩, ⟨12, 8, .cat, [(0, 0), (2, 200)], .none⟩, ⟨20, 12, .rsv, [],
      .none⟩]
  | .VLV_PROF =>
    [⟨0, 8, .cat, [(10, 200)], .none⟩, ⟨8, 8, .cat, [(1, 200)], .none⟩, ⟨16, 8, .cat, [(5, 150)], .none⟩, ⟨24, 8,
      .rsv, [], .none⟩]
  | .VLV_COIL | .CTD_COIL =>
    [⟨0, 16, .cat, [(0, 0), (500, 65535)], .none⟩, ⟨16, 8, .cat, [(0, 125), (216, 255)], .none⟩, ⟨24, 8, .cat, [(1,
      50)], .none⟩]
  | .VLV_COIL2 | .CTD_COIL2 =>
    [⟨0, 8, .cat, [(60, 220)], .none⟩, ⟨8, 8, .cat, [(0, 125), (216, 255)], .none⟩, ⟨16, 16, .cat, [(1, 65535)],
      .none⟩]
  | .VLV_STAT =>
    [⟨0, 3, .ro, [], .none⟩, ⟨3, 2, .ro, [], .none⟩, ⟨5, 1, .ro, [], .none⟩, ⟨6, 1, .w1c, [], .none⟩, ⟨7, 2, .ro,
      [], .none⟩, ⟨9, 1, .w1c, [], .none⟩, ⟨10, 1, .w1c, [], .none⟩, ⟨11, 1, .w1c, [], .none⟩, ⟨12, 1, .w1c, [],
      .none⟩, ⟨13, 1, .ro, [], .none⟩, ⟨14, 2, .rsv, [], .none⟩, ⟨16, 4, .ro, [], .none⟩, ⟨20, 1, .ro, [], .none⟩,
      ⟨21, 1, .ro, [], .none⟩, ⟨22, 2, .rsv, [], .none⟩, ⟨24, 8, .ro, [], .none⟩]
  | .VLV_MEAS | .PWR_MEAS2 =>
    [⟨0, 12, .ro, [], .none⟩, ⟨12, 10, .ro, [], .none⟩, ⟨22, 10, .rsv, [], .none⟩]
  | .VLV_TEMP | .CTD_TEMP =>
    [⟨0, 10, .ro, [], .none⟩, ⟨10, 10, .ro, [], .none⟩, ⟨20, 12, .rsv, [], .none⟩]
  | .VLV_RES | .CTD_RES | .LCH_DLY | .DOC_WDKICK | .KEY_TLOGCNT =>
    [⟨0, 16, .ro, [], .none⟩, ⟨16, 16, .rsv, [], .none⟩]
  | .VHS_CFG =>
    [⟨0, 1, .cat, [], .none⟩, ⟨1, 2, .cat, [], .none⟩, ⟨3, 2, .cat, [(0, 2)], .none⟩, ⟨5, 4, .cat, [], .none⟩, ⟨9,
      1, .cat, [], .none⟩, ⟨10, 22, .rsv, [], .none⟩]
  | .VHS_STAT =>
    [⟨0, 3, .ro, [], .none⟩, ⟨3, 1, .w1c, [], .none⟩, ⟨4, 1, .w1c, [], .none⟩, ⟨5, 1, .w1c, [], .none⟩, ⟨6, 1,
      .w1c, [], .none⟩, ⟨7, 1, .rsv, [], .none⟩, ⟨8, 4, .ro, [], .none⟩, ⟨12, 1, .ro, [], .none⟩, ⟨13, 3, .rsv, [],
      .none⟩, ⟨16, 4, .ro, [], .none⟩, ⟨20, 9, .ro, [], .none⟩, ⟨29, 3, .rsv, [], .none⟩]
  | .CTD_CFG =>
    [⟨0, 1, .cat, [], .none⟩, ⟨1, 2, .cat, [], .none⟩, ⟨3, 2, .cat, [(0, 2)], .none⟩, ⟨5, 4, .cat, [], .none⟩, ⟨9,
      2, .cat, [], .none⟩, ⟨11, 1, .cat, [], .none⟩, ⟨12, 20, .rsv, [], .none⟩]
  | .CTD_PROF =>
    [⟨0, 8, .cat, [(10, 240)], .none⟩, ⟨8, 8, .cat, [(10, 200)], .none⟩, ⟨16, 8, .cat, [(10, 40)], .none⟩, ⟨24, 8,
      .rsv, [], .none⟩]
  | .CTD_AUX =>
    [⟨0, 9, .cat, [], .line⟩, ⟨9, 1, .cat, [], .none⟩, ⟨10, 1, .cat, [], .none⟩, ⟨11, 5, .rsv, [], .none⟩, ⟨16, 8,
      .cat, [], .none⟩, ⟨24, 8, .rsv, [], .none⟩]
  | .CTD_STAT =>
    [⟨0, 3, .ro, [], .none⟩, ⟨3, 2, .ro, [], .none⟩, ⟨5, 2, .ro, [], .none⟩, ⟨7, 1, .w1c, [], .none⟩, ⟨8, 1, .w1c,
      [], .none⟩, ⟨9, 1, .w1c, [], .none⟩, ⟨10, 1, .w1c, [], .none⟩, ⟨11, 1, .w1c, [], .none⟩, ⟨12, 1, .w1c, [],
      .none⟩, ⟨13, 1, .ro, [], .none⟩, ⟨14, 2, .rsv, [], .none⟩, ⟨16, 4, .ro, [], .none⟩, ⟨20, 1, .ro, [], .none⟩,
      ⟨21, 1, .ro, [], .none⟩, ⟨22, 10, .rsv, [], .none⟩]
  | .CTD_MEAS =>
    [⟨0, 14, .ro, [], .none⟩, ⟨14, 10, .ro, [], .none⟩, ⟨24, 8, .rsv, [], .none⟩]
  | .LED_CFG =>
    [⟨0, 1, .cat, [], .none⟩, ⟨1, 2, .cat, [(0, 1)], .none⟩, ⟨3, 2, .cat, [], .none⟩, ⟨5, 6, .cat, [], .pu⟩, ⟨11,
      4, .cat, [(0, 8)], .none⟩, ⟨15, 2, .cat, [(0, 2)], .none⟩, ⟨17, 4, .cat, [], .none⟩, ⟨21, 11, .rsv, [], .none⟩]
  | .LED_LVL =>
    [⟨0, 10, .rw, [], .none⟩, ⟨10, 6, .rsv, [], .none⟩, ⟨16, 10, .rw, [], .none⟩, ⟨26, 6, .rsv, [], .none⟩]
  | .LED_DEM =>
    [⟨0, 9, .cat, [], .line⟩, ⟨9, 1, .cat, [], .none⟩, ⟨10, 22, .rsv, [], .none⟩]
  | .LED_DIAG =>
    [⟨0, 10, .cat, [], .none⟩, ⟨10, 6, .cat, [(0, 50)], .none⟩, ⟨16, 3, .cat, [(1, 7)], .none⟩, ⟨19, 1, .cat, [],
      .none⟩, ⟨20, 3, .cat, [(1, 7)], .none⟩, ⟨23, 1, .cat, [], .none⟩, ⟨24, 2, .cat, [], .none⟩, ⟨26, 6, .rsv, [],
      .none⟩]
  | .LED_FB =>
    [⟨0, 2, .cat, [(0, 2)], .none⟩, ⟨2, 2, .cat, [(0, 2)], .none⟩, ⟨4, 6, .cat, [], .pu⟩, ⟨10, 9, .cat, [(0, 500)],
      .none⟩, ⟨19, 1, .rsv, [], .none⟩, ⟨20, 4, .cat, [], .none⟩, ⟨24, 1, .cat, [], .none⟩, ⟨25, 7, .cat, [(1,
      100)], .none⟩]
  | .LED_STAT =>
    [⟨0, 3, .ro, [], .none⟩, ⟨3, 2, .ro, [], .none⟩, ⟨5, 2, .ro, [], .none⟩, ⟨7, 1, .ro, [], .none⟩, ⟨8, 1, .ro,
      [], .none⟩, ⟨9, 1, .w1c, [], .none⟩, ⟨10, 1, .w1c, [], .none⟩, ⟨11, 1, .w1c, [], .none⟩, ⟨12, 1, .w1c, [],
      .none⟩, ⟨13, 1, .ro, [], .none⟩, ⟨14, 2, .rsv, [], .none⟩, ⟨16, 4, .ro, [], .none⟩, ⟨20, 1, .ro, [], .none⟩,
      ⟨21, 1, .ro, [], .none⟩, ⟨22, 10, .rsv, [], .none⟩]
  | .LED_MEAS =>
    [⟨0, 10, .ro, [], .none⟩, ⟨10, 12, .ro, [], .none⟩, ⟨22, 10, .ro, [], .none⟩]
  | .LED_EFF =>
    [⟨0, 10, .ro, [], .none⟩, ⟨10, 10, .ro, [], .none⟩, ⟨20, 1, .ro, [], .none⟩, ⟨21, 11, .rsv, [], .none⟩]
  | .LED_PCFG =>
    [⟨0, 3, .cat, [], .none⟩, ⟨3, 5, .rsv, [], .none⟩, ⟨8, 8, .cat, [(20, 84)], .none⟩, ⟨16, 16, .rsv, [], .none⟩]
  | .LED_PSTAT =>
    [⟨0, 10, .ro, [], .none⟩, ⟨10, 9, .ro, [], .none⟩, ⟨19, 13, .rsv, [], .none⟩]
  | .LG_NTC =>
    [⟨0, 16, .cat, [(100, 65535)], .none⟩, ⟨16, 16, .cat, [(100, 65535)], .none⟩]
  | .LG_NTC2 =>
    [⟨0, 16, .cat, [(1000, 10000)], .none⟩, ⟨16, 4, .cat, [(0, 7)], .none⟩, ⟨20, 1, .cat, [], .none⟩, ⟨21, 11,
      .rsv, [], .none⟩]
  | .LG_DER =>
    [⟨0, 8, .cat, [(0, 125), (216, 255)], .none⟩, ⟨8, 8, .cat, [(0, 125), (216, 255)], .none⟩, ⟨16, 8, .cat, [],
      .none⟩, ⟨24, 8, .rsv, [], .none⟩]
  | .LG_STAT =>
    [⟨0, 10, .ro, [], .none⟩, ⟨10, 9, .ro, [], .none⟩, ⟨19, 1, .ro, [], .none⟩, ⟨20, 12, .rsv, [], .none⟩]
  | .LCH_CFG =>
    [⟨0, 1, .cat, [], .none⟩, ⟨1, 3, .cat, [(0, 4)], .none⟩, ⟨4, 10, .cat, [(1, 512)], .none⟩, ⟨14, 4, .cat, [(0,
      10)], .none⟩, ⟨18, 4, .cat, [(1, 15)], .none⟩, ⟨22, 10, .rsv, [], .none⟩]
  | .LCH_RATE =>
    [⟨0, 16, .cat, [(1, 65535)], .none⟩, ⟨16, 16, .rsv, [], .none⟩]
  | .LCH_BUF =>
    [⟨0, 15, .cat, [], .none⟩, ⟨15, 1, .rsv, [], .none⟩, ⟨16, 15, .cat, [], .none⟩, ⟨31, 1, .rsv, [], .none⟩]
  | .LCH_SBUF =>
    [⟨0, 15, .cat, [], .none⟩, ⟨15, 17, .rsv, [], .none⟩]
  | .LCH_STAT =>
    [⟨0, 3, .ro, [], .none⟩, ⟨3, 1, .ro, [], .none⟩, ⟨4, 1, .ro, [], .none⟩, ⟨5, 10, .ro, [], .none⟩, ⟨15, 1, .w1c,
      [], .none⟩, ⟨16, 1, .w1c, [], .none⟩, ⟨17, 1, .w1c, [], .none⟩, ⟨18, 14, .rsv, [], .none⟩]
  | .LCH_CNT | .TWN_LINK | .HST_STAT | .HST_ESTAT =>
    [⟨0, 16, .ro, [], .none⟩, ⟨16, 8, .ro, [], .none⟩, ⟨24, 8, .ro, [], .none⟩]
  | .INP_SGRP =>
    [⟨0, 2, .cat, [], .none⟩, ⟨2, 1, .cat, [], .none⟩, ⟨3, 3, .cat, [(0, 5)], .none⟩, ⟨6, 8, .cat, [(5, 150)],
      .none⟩, ⟨14, 8, .cat, [(5, 150)], .none⟩, ⟨22, 10, .rsv, [], .none⟩]
  | .INP_SDEB | .CTX_BDEM | .CAN_WDATA | .CAN_WDMASK | .ETH_STR0 | .ETH_STR1 | .ETH_STR2 | .NM_CLUSTP | .TWN_CTXM | .TWN_PEN | .TWN_DEN =>
    [⟨0, 32, .cat, [], .none⟩]
  | .INP_PARK =>
    [⟨0, 2, .cat, [], .none⟩, ⟨2, 2, .cat, [(1, 3)], .none⟩, ⟨4, 28, .rsv, [], .none⟩]
  | .AIN_CFG =>
    [⟨0, 1, .cat, [], .none⟩, ⟨1, 1, .cat, [], .none⟩, ⟨2, 30, .rsv, [], .none⟩]
  | .AIN_CMP =>
    [⟨0, 12, .cat, [], .none⟩, ⟨12, 8, .cat, [(1, 255)], .none⟩, ⟨20, 4, .cat, [(1, 15)], .none⟩, ⟨24, 8, .rsv, [],
      .none⟩]
  | .AIN_VAL =>
    [⟨0, 12, .ro, [], .none⟩, ⟨12, 1, .ro, [], .none⟩, ⟨13, 1, .ro, [], .none⟩, ⟨14, 1, .w1c, [], .none⟩, ⟨15, 17,
      .rsv, [], .none⟩]
  | .HALL_CFG =>
    [⟨0, 2, .cat, [(0, 2)], .none⟩, ⟨2, 4, .cat, [], .none⟩, ⟨6, 8, .cat, [(0, 0), (50, 200)], .none⟩, ⟨14, 18,
      .rsv, [], .none⟩]
  | .HALL_STAT =>
    [⟨0, 1, .ro, [], .none⟩, ⟨1, 10, .ro, [], .none⟩, ⟨11, 1, .w1c, [], .none⟩, ⟨12, 1, .w1c, [], .none⟩, ⟨13, 3,
      .rsv, [], .none⟩, ⟨16, 16, .ro, [], .none⟩]
  | .INP_SUPCFG =>
    [⟨0, 1, .cat, [], .none⟩, ⟨1, 1, .cat, [], .none⟩, ⟨2, 1, .cat, [], .none⟩, ⟨3, 29, .rsv, [], .none⟩]
  | .INP_SUPSTAT =>
    [⟨0, 12, .ro, [], .none⟩, ⟨12, 12, .ro, [], .none⟩, ⟨24, 1, .w1c, [], .none⟩, ⟨25, 1, .w1c, [], .none⟩, ⟨26, 1,
      .w1c, [], .none⟩, ⟨27, 5, .rsv, [], .none⟩]
  | .DOC_STAT =>
    [⟨0, 2, .ro, [], .none⟩, ⟨2, 6, .rsv, [], .none⟩, ⟨8, 8, .ro, [], .none⟩, ⟨16, 1, .ro, [], .none⟩, ⟨17, 15,
      .rsv, [], .none⟩]
  | .DOC_TRAPS =>
    [⟨0, 16, .ro, [], .none⟩, ⟨16, 4, .ro, [], .none⟩, ⟨20, 12, .rsv, [], .none⟩]
  | .DOC_TRAP =>
    [⟨0, 8, .ro, [], .none⟩, ⟨8, 4, .ro, [], .none⟩, ⟨12, 2, .ro, [], .none⟩, ⟨14, 1, .w1c, [], .none⟩, ⟨15, 17,
      .rsv, [], .none⟩]
  | .DOC_TRAPPC =>
    [⟨0, 17, .ro, [], .none⟩, ⟨17, 15, .rsv, [], .none⟩]
  | .DOC_WDCFG =>
    [⟨0, 10, .cat, [(1, 1000)], .none⟩, ⟨10, 10, .cat, [(0, 999)], .none⟩, ⟨20, 1, .cat, [], .none⟩, ⟨21, 11, .rsv,
      [], .none⟩]
  | .DOC_WDSTAT =>
    [⟨0, 10, .ro, [], .none⟩, ⟨10, 1, .ro, [], .none⟩, ⟨11, 1, .ro, [], .none⟩, ⟨12, 20, .rsv, [], .none⟩]
  | .DOC_CTXWIN =>
    [⟨0, 8, .cat, [(0, 31), (255, 255)], .none⟩, ⟨8, 8, .cat, [(0, 31), (255, 255)], .none⟩, ⟨16, 8, .cat, [(0,
      31), (255, 255)], .none⟩, ⟨24, 8, .cat, [(0, 31), (255, 255)], .none⟩]
  | .DOC_WMAP =>
    [⟨0, 24, .cat, [], .none⟩, ⟨24, 1, .cat, [], .none⟩, ⟨25, 1, .cat, [], .none⟩, ⟨26, 6, .rsv, [], .none⟩]
  | .CTX_CMD =>
    [⟨0, 4, .wo, [(0, 2)], .none⟩, ⟨4, 12, .rsv, [], .none⟩, ⟨16, 8, .wo, [], .ctx⟩, ⟨24, 8, .rsv, [], .none⟩]
  | .CTX_STAT =>
    [⟨0, 9, .ro, [], .none⟩, ⟨9, 9, .ro, [], .none⟩, ⟨18, 4, .ro, [], .none⟩, ⟨22, 10, .rsv, [], .none⟩]
  | .CTX_MIG =>
    [⟨0, 3, .cat, [(0, 3), (7, 7)], .none⟩, ⟨3, 3, .cat, [(0, 3), (7, 7)], .none⟩, ⟨6, 3, .cat, [(0, 3), (7, 7)],
      .none⟩, ⟨9, 3, .cat, [(0, 3), (7, 7)], .none⟩, ⟨12, 20, .rsv, [], .none⟩]
  | .CTX_LASTQ =>
    [⟨0, 8, .ro, [], .none⟩, ⟨8, 3, .ro, [], .none⟩, ⟨11, 2, .ro, [], .none⟩, ⟨13, 1, .w1c, [], .none⟩, ⟨14, 18,
      .rsv, [], .none⟩]
  | .CTXC_CFG =>
    [⟨0, 3, .cat, [(0, 4)], .none⟩, ⟨3, 1, .rsv, [], .none⟩, ⟨4, 4, .cat, [], .none⟩, ⟨8, 1, .ro, [], .none⟩, ⟨9,
      7, .rsv, [], .none⟩, ⟨16, 16, .cat, [(1, 65535)], .none⟩]
  | .CTXC_ENTRY =>
    [⟨0, 17, .cat, [], .none⟩, ⟨17, 15, .rsv, [], .none⟩]
  | .CTXC_STAT =>
    [⟨0, 3, .ro, [], .none⟩, ⟨3, 1, .rsv, [], .none⟩, ⟨4, 2, .ro, [], .none⟩, ⟨6, 2, .rsv, [], .none⟩, ⟨8, 4, .ro,
      [], .none⟩, ⟨12, 3, .ro, [], .none⟩, ⟨15, 1, .ro, [], .none⟩, ⟨16, 8, .ro, [], .none⟩, ⟨24, 8, .rsv, [], .none⟩]
  | .MEM_CFG =>
    [⟨0, 8, .cat, [], .none⟩, ⟨8, 8, .cat, [], .none⟩, ⟨16, 16, .rsv, [], .none⟩]
  | .MEM_STAT =>
    [⟨0, 8, .ro, [], .none⟩, ⟨8, 1, .ro, [], .none⟩, ⟨9, 23, .rsv, [], .none⟩]
  | .MEM_ECCSRC =>
    [⟨0, 4, .ro, [], .none⟩, ⟨4, 3, .ro, [], .none⟩, ⟨7, 1, .w1c, [], .none⟩, ⟨8, 24, .rsv, [], .none⟩]
  | .MEM_REPAIR =>
    [⟨0, 3, .ro, [], .none⟩, ⟨3, 1, .rsv, [], .none⟩, ⟨4, 3, .ro, [], .none⟩, ⟨7, 25, .rsv, [], .none⟩]
  | .CAN_CFG =>
    [⟨0, 1, .cat, [], .none⟩, ⟨1, 1, .cat, [], .none⟩, ⟨2, 1, .cat, [], .none⟩, ⟨3, 1, .cat, [], .none⟩, ⟨4, 1,
      .cat, [], .none⟩, ⟨5, 1, .cat, [], .none⟩, ⟨6, 1, .cat, [], .none⟩, ⟨7, 1, .cat, [], .none⟩, ⟨8, 1, .cat, [],
      .none⟩, ⟨9, 8, .cat, [(4, 255)], .none⟩, ⟨17, 1, .ro, [], .none⟩, ⟨18, 1, .ro, [], .none⟩, ⟨19, 1, .cat, [],
      .none⟩, ⟨20, 1, .cat, [], .none⟩, ⟨21, 1, .cat, [], .none⟩, ⟨22, 10, .rsv, [], .none⟩]
  | .CAN_NBT =>
    [⟨0, 9, .cat, [], .none⟩, ⟨9, 8, .cat, [(1, 255)], .none⟩, ⟨17, 7, .cat, [], .none⟩, ⟨24, 7, .cat, [], .none⟩,
      ⟨31, 1, .rsv, [], .none⟩]
  | .CAN_DBT | .CAN_XBT =>
    [⟨0, 5, .cat, [], .none⟩, ⟨5, 5, .cat, [], .none⟩, ⟨10, 4, .cat, [], .none⟩, ⟨14, 4, .cat, [], .none⟩, ⟨18, 7,
      .cat, [], .none⟩, ⟨25, 1, .cat, [], .none⟩, ⟨26, 6, .rsv, [], .none⟩]
  | .CAN_STAT =>
    [⟨0, 3, .ro, [], .none⟩, ⟨3, 1, .ro, [], .none⟩, ⟨4, 8, .ro, [], .none⟩, ⟨12, 8, .ro, [], .none⟩, ⟨20, 8, .ro,
      [], .none⟩, ⟨28, 4, .rsv, [], .none⟩]
  | .CAN_ERR =>
    [⟨0, 3, .ro, [], .none⟩, ⟨3, 1, .ro, [], .none⟩, ⟨4, 4, .rsv, [], .none⟩, ⟨8, 8, .ro, [], .none⟩, ⟨16, 8, .ro,
      [], .none⟩, ⟨24, 8, .ro, [], .none⟩]
  | .CAN_QCFG =>
    [⟨0, 9, .cat, [(0, 256)], .none⟩, ⟨9, 9, .cat, [(0, 256)], .none⟩, ⟨18, 14, .rsv, [], .none⟩]
  | .CAN_QSTAT =>
    [⟨0, 8, .ro, [], .none⟩, ⟨8, 1, .ro, [], .none⟩, ⟨9, 1, .ro, [], .none⟩, ⟨10, 9, .ro, [], .none⟩, ⟨19, 8, .ro,
      [], .none⟩, ⟨27, 1, .w1c, [], .none⟩, ⟨28, 4, .rsv, [], .none⟩]
  | .CAN_RXPOP =>
    [⟨0, 8, .wo, [], .none⟩, ⟨8, 24, .rsv, [], .none⟩]
  | .CAN_QRDR =>
    [⟨0, 9, .cat, [(0, 255), (511, 511)], .none⟩, ⟨9, 7, .rsv, [], .none⟩, ⟨16, 9, .cat, [(0, 255), (511, 511)],
      .none⟩, ⟨25, 7, .rsv, [], .none⟩]
  | .CAN_TXREQ | .CAN_TXCAN | .KEY_OPGO | .KEY_ENV | .KEY_PLAIN | .KEY_SVCRESP =>
    [⟨0, 32, .wo, [], .none⟩]
  | .CAN_FID =>
    [⟨0, 29, .cat, [], .none⟩, ⟨29, 1, .cat, [], .none⟩, ⟨30, 2, .rsv, [], .none⟩]
  | .CAN_FMK | .GW_RT1 =>
    [⟨0, 29, .cat, [], .none⟩, ⟨29, 3, .rsv, [], .none⟩]
  | .CAN_FCTL =>
    [⟨0, 2, .cat, [], .none⟩, ⟨2, 1, .cat, [], .none⟩, ⟨3, 3, .cat, [], .none⟩, ⟨6, 1, .cat, [], .none⟩, ⟨7, 1,
      .cat, [], .none⟩, ⟨8, 24, .rsv, [], .none⟩]
  | .CAN_TXW | .LIN_D0 | .LIN_D1 =>
    [⟨0, 32, .rw, [], .none⟩]
  | .CAN_TXS =>
    [⟨0, 3, .ro, [], .none⟩, ⟨3, 1, .ro, [], .none⟩, ⟨4, 1, .ro, [], .none⟩, ⟨5, 3, .ro, [], .none⟩, ⟨8, 8, .ro,
      [], .none⟩, ⟨16, 16, .rsv, [], .none⟩]
  | .LIN_CFG =>
    [⟨0, 1, .cat, [], .none⟩, ⟨1, 15, .cat, [(1000, 20000)], .none⟩, ⟨16, 16, .rsv, [], .none⟩]
  | .LIN_SCHED =>
    [⟨0, 5, .rw, [(0, 16)], .none⟩, ⟨5, 5, .ro, [], .none⟩, ⟨10, 5, .ro, [], .none⟩, ⟨15, 17, .rsv, [], .none⟩]
  | .LIN_TE =>
    [⟨0, 6, .cat, [], .none⟩, ⟨6, 2, .cat, [], .none⟩, ⟨8, 1, .cat, [], .none⟩, ⟨9, 3, .cat, [], .none⟩, ⟨12, 1,
      .cat, [], .none⟩, ⟨13, 8, .cat, [(1, 255)], .none⟩, ⟨21, 6, .cat, [], .none⟩, ⟨27, 1, .cat, [], .none⟩, ⟨28,
      4, .cat, [], .none⟩]
  | .LIN_D2 =>
    [⟨0, 3, .ro, [], .none⟩, ⟨3, 13, .rsv, [], .none⟩, ⟨16, 16, .ro, [], .none⟩]
  | .GW_RT0 =>
    [⟨0, 29, .cat, [], .none⟩, ⟨29, 1, .cat, [], .none⟩, ⟨30, 2, .cat, [(0, 2)], .none⟩]
  | .GW_RT2 =>
    [⟨0, 4, .cat, [], .none⟩, ⟨4, 8, .cat, [], .none⟩, ⟨12, 6, .cat, [], .none⟩, ⟨18, 1, .cat, [], .none⟩, ⟨19, 4,
      .cat, [], .none⟩, ⟨23, 6, .cat, [], .none⟩, ⟨29, 2, .rsv, [], .none⟩, ⟨31, 1, .cat, [], .none⟩]
  | .GW_RT3 =>
    [⟨0, 29, .cat, [], .none⟩, ⟨29, 1, .cat, [], .none⟩, ⟨30, 1, .cat, [], .none⟩, ⟨31, 1, .cat, [], .none⟩]
  | .GW_BUSID =>
    [⟨0, 5, .cat, [(0, 13), (31, 31)], .none⟩, ⟨5, 27, .rsv, [], .none⟩]
  | .ETH_PCFG =>
    [⟨0, 1, .cat, [], .none⟩, ⟨1, 2, .cat, [(0, 2)], .none⟩, ⟨3, 1, .cat, [], .none⟩, ⟨4, 12, .cat, [(1, 4094)],
      .none⟩, ⟨16, 3, .cat, [], .none⟩, ⟨19, 13, .rsv, [], .none⟩]
  | .ETH_PSTAT =>
    [⟨0, 1, .ro, [], .none⟩, ⟨1, 3, .ro, [], .none⟩, ⟨4, 12, .rsv, [], .none⟩, ⟨16, 16, .ro, [], .none⟩]
  | .ETH_PLCA =>
    [⟨0, 1, .cat, [], .none⟩, ⟨1, 5, .cat, [], .none⟩, ⟨6, 6, .cat, [(1, 32)], .none⟩, ⟨12, 8, .cat, [(1, 255)],
      .none⟩, ⟨20, 12, .rsv, [], .none⟩]
  | .ETH_VLAN =>
    [⟨0, 12, .cat, [(0, 4094)], .none⟩, ⟨12, 8, .cat, [], .none⟩, ⟨20, 8, .cat, [], .none⟩, ⟨28, 4, .rsv, [], .none⟩]
  | .ETH_TSCTL =>
    [⟨0, 1, .cat, [], .none⟩, ⟨1, 1, .cat, [], .none⟩, ⟨2, 3, .cat, [(0, 6)], .none⟩, ⟨5, 27, .rsv, [], .none⟩]
  | .ETH_TSSTAT =>
    [⟨0, 24, .ro, [], .none⟩, ⟨24, 7, .rsv, [], .none⟩, ⟨31, 1, .ro, [], .none⟩]
  | .ETH_STR3 =>
    [⟨0, 16, .cat, [], .none⟩, ⟨16, 12, .cat, [], .none⟩, ⟨28, 3, .cat, [], .none⟩, ⟨31, 1, .cat, [], .none⟩]
  | .ETH_STR4 =>
    [⟨0, 3, .cat, [(0, 6)], .none⟩, ⟨3, 1, .cat, [], .none⟩, ⟨4, 1, .cat, [], .none⟩, ⟨5, 10, .cat, [(0, 1000)],
      .none⟩, ⟨15, 1, .cat, [], .none⟩, ⟨16, 16, .rsv, [], .none⟩]
  | .NM_CFG =>
    [⟨0, 1, .cat, [], .none⟩, ⟨1, 8, .cat, [], .none⟩, ⟨9, 11, .cat, [(50, 2000)], .none⟩, ⟨20, 9, .cat, [],
      .line⟩, ⟨29, 1, .cat, [], .none⟩, ⟨30, 2, .rsv, [], .none⟩]
  | .NM_TIME =>
    [⟨0, 8, .cat, [(1, 200)], .none⟩, ⟨8, 8, .cat, [(5, 250)], .none⟩, ⟨16, 16, .rsv, [], .none⟩]
  | .NM_PORT =>
    [⟨0, 2, .cat, [(0, 2)], .none⟩, ⟨2, 11, .cat, [], .none⟩, ⟨13, 11, .cat, [], .none⟩, ⟨24, 6, .cat, [(5, 50)],
      .none⟩, ⟨30, 2, .rsv, [], .none⟩]
  | .NM_LIN =>
    [⟨0, 6, .cat, [], .none⟩, ⟨6, 26, .rsv, [], .none⟩]
  | .NM_CLUSTL =>
    [⟨0, 24, .cat, [], .none⟩, ⟨24, 8, .rsv, [], .none⟩]
  | .NM_CTL =>
    [⟨0, 1, .rw, [], .none⟩, ⟨1, 7, .rsv, [], .none⟩, ⟨8, 8, .rw, [], .none⟩, ⟨16, 16, .rsv, [], .none⟩]
  | .NM_STAT =>
    [⟨0, 2, .ro, [], .none⟩, ⟨2, 1, .w1c, [], .none⟩, ⟨3, 3, .ro, [], .none⟩, ⟨6, 1, .ro, [], .none⟩, ⟨7, 9, .rsv,
      [], .none⟩, ⟨16, 8, .ro, [], .none⟩, ⟨24, 8, .ro, [], .none⟩]
  | .NM_PEND =>
    [⟨0, 11, .ro, [], .none⟩, ⟨11, 21, .rsv, [], .none⟩]
  | .PWR_CFG =>
    [⟨0, 8, .cat, [(60, 100)], .none⟩, ⟨8, 5, .cat, [(2, 20)], .none⟩, ⟨13, 3, .rsv, [], .none⟩, ⟨16, 8, .cat,
      [(60, 120)], .none⟩, ⟨24, 1, .cat, [], .none⟩, ⟨25, 7, .rsv, [], .none⟩]
  | .PWR_CFG2 =>
    [⟨0, 9, .cat, [(1, 500)], .none⟩, ⟨9, 7, .rsv, [], .none⟩, ⟨16, 8, .cat, [(180, 250)], .none⟩, ⟨24, 8, .cat,
      [(60, 125)], .none⟩]
  | .PWR_STAT =>
    [⟨0, 1, .ro, [], .none⟩, ⟨1, 1, .ro, [], .none⟩, ⟨2, 1, .ro, [], .none⟩, ⟨3, 1, .ro, [], .none⟩, ⟨4, 1, .ro,
      [], .none⟩, ⟨5, 2, .ro, [], .none⟩, ⟨7, 1, .ro, [], .none⟩, ⟨8, 1, .ro, [], .none⟩, ⟨9, 1, .w1c, [], .none⟩,
      ⟨10, 1, .ro, [], .none⟩, ⟨11, 5, .rsv, [], .none⟩, ⟨16, 8, .ro, [], .none⟩, ⟨24, 8, .rsv, [], .none⟩]
  | .PWR_MEAS =>
    [⟨0, 12, .ro, [], .none⟩, ⟨12, 12, .ro, [], .none⟩, ⟨24, 8, .rsv, [], .none⟩]
  | .PWR_PRCMD =>
    [⟨0, 2, .wo, [(0, 2)], .none⟩, ⟨2, 30, .rsv, [], .none⟩]
  | .PWR_XFER =>
    [⟨0, 3, .ro, [], .none⟩, ⟨3, 5, .rsv, [], .none⟩, ⟨8, 9, .ro, [], .none⟩, ⟨17, 15, .rsv, [], .none⟩]
  | .FLT_STAT =>
    [⟨0, 1, .ro, [], .none⟩, ⟨1, 1, .ro, [], .none⟩, ⟨2, 1, .ro, [], .none⟩, ⟨3, 1, .w1c, [], .none⟩, ⟨4, 4, .rsv,
      [], .none⟩, ⟨8, 8, .ro, [], .none⟩, ⟨16, 16, .ro, [], .none⟩]
  | .FLT_LOST =>
    [⟨0, 8, .ro, [], .none⟩, ⟨8, 13, .ro, [], .none⟩, ⟨21, 11, .rsv, [], .none⟩]
  | .FLT_ATTN =>
    [⟨0, 1, .rsv, [], .none⟩, ⟨1, 6, .w1c, [], .none⟩, ⟨7, 1, .rsv, [], .none⟩, ⟨8, 4, .ro, [], .none⟩, ⟨12, 20,
      .rsv, [], .none⟩]
  | .FLT_INJ =>
    [⟨0, 13, .wo, [], .none⟩, ⟨13, 2, .wo, [(0, 2)], .none⟩, ⟨15, 1, .rsv, [], .none⟩, ⟨16, 8, .wo, [], .none⟩,
      ⟨24, 8, .rsv, [], .none⟩]
  | .FLT_INJD =>
    [⟨0, 12, .rw, [], .none⟩, ⟨12, 20, .rsv, [], .none⟩]
  | .FLT_INJSTAT =>
    [⟨0, 13, .ro, [], .none⟩, ⟨13, 2, .ro, [], .none⟩, ⟨15, 1, .w1c, [], .none⟩, ⟨16, 8, .ro, [], .none⟩, ⟨24, 8,
      .rsv, [], .none⟩]
  | .FLT_RGCMD =>
    [⟨0, 4, .wo, [], .none⟩, ⟨4, 2, .wo, [(0, 1)], .none⟩, ⟨6, 26, .rsv, [], .none⟩]
  | .FLT_RGCTL =>
    [⟨0, 9, .cat, [(1, 500)], .none⟩, ⟨9, 1, .cat, [], .none⟩, ⟨10, 8, .cat, [], .none⟩, ⟨18, 14, .rsv, [], .none⟩]
  | .FLT_RGSTAT =>
    [⟨0, 1, .ro, [], .none⟩, ⟨1, 1, .ro, [], .none⟩, ⟨2, 1, .ro, [], .none⟩, ⟨3, 1, .w1c, [], .none⟩, ⟨4, 12, .rsv,
      [], .none⟩, ⟨16, 16, .ro, [], .none⟩]
  | .FLT_DEF | .FLT_OVRENT =>
    [⟨0, 3, .cat, [(0, 5)], .none⟩, ⟨3, 3, .cat, [(0, 6)], .none⟩, ⟨6, 4, .cat, [], .none⟩, ⟨10, 1, .cat, [],
      .none⟩, ⟨11, 8, .cat, [], .ctx⟩, ⟨19, 1, .cat, [], .none⟩, ⟨20, 12, .rsv, [], .none⟩]
  | .FLT_OVR =>
    [⟨0, 13, .cat, [], .none⟩, ⟨13, 1, .cat, [], .none⟩, ⟨14, 18, .rsv, [], .none⟩]
  | .FLT_SHM =>
    [⟨0, 13, .cat, [], .none⟩, ⟨13, 13, .cat, [], .none⟩, ⟨26, 1, .cat, [], .none⟩, ⟨27, 5, .rsv, [], .none⟩]
  | .TST_CMD =>
    [⟨0, 3, .wo, [(0, 4)], .none⟩, ⟨3, 1, .rsv, [], .none⟩, ⟨4, 4, .wo, [], .none⟩, ⟨8, 24, .rsv, [], .none⟩]
  | .TST_STAT =>
    [⟨0, 1, .ro, [], .none⟩, ⟨1, 2, .ro, [], .none⟩, ⟨3, 4, .ro, [], .none⟩, ⟨7, 1, .rsv, [], .none⟩, ⟨8, 8, .ro,
      [], .none⟩, ⟨16, 8, .ro, [], .none⟩, ⟨24, 8, .ro, [], .none⟩]
  | .TST_CFG =>
    [⟨0, 8, .cat, [(1, 100)], .none⟩, ⟨8, 24, .rsv, [], .none⟩]
  | .TWN_CFG =>
    [⟨0, 5, .cat, [(4, 31)], .none⟩, ⟨5, 5, .cat, [(0, 30)], .none⟩, ⟨10, 1, .cat, [], .none⟩, ⟨11, 10, .cat, [(1,
      1000)], .none⟩, ⟨21, 11, .rsv, [], .none⟩]
  | .TWN_MAP =>
    [⟨0, 16, .cat, [], .none⟩, ⟨16, 16, .rsv, [], .none⟩]
  | .TWN_MREG =>
    [⟨0, 13, .cat, [], .none⟩, ⟨13, 3, .rsv, [], .none⟩, ⟨16, 13, .cat, [], .none⟩, ⟨29, 3, .rsv, [], .none⟩]
  | .TWN_STAT =>
    [⟨0, 2, .ro, [], .none⟩, ⟨2, 1, .ro, [], .none⟩, ⟨3, 3, .ro, [], .none⟩, ⟨6, 1, .ro, [], .none⟩, ⟨7, 1, .ro,
      [], .none⟩, ⟨8, 1, .ro, [], .none⟩, ⟨9, 2, .ro, [], .none⟩, ⟨11, 1, .w1c, [], .none⟩, ⟨12, 1, .w1c, [],
      .none⟩, ⟨13, 19, .rsv, [], .none⟩]
  | .TWN_CMD =>
    [⟨0, 3, .wo, [(0, 2)], .none⟩, ⟨3, 29, .rsv, [], .none⟩]
  | .KEY_STAT =>
    [⟨0, 1, .ro, [], .none⟩, ⟨1, 1, .ro, [], .none⟩, ⟨2, 1, .ro, [], .none⟩, ⟨3, 1, .ro, [], .none⟩, ⟨4, 1, .ro,
      [], .none⟩, ⟨5, 1, .ro, [], .none⟩, ⟨6, 2, .rsv, [], .none⟩, ⟨8, 4, .ro, [], .none⟩, ⟨12, 20, .rsv, [], .none⟩]
  | .KEY_CMD =>
    [⟨0, 4, .wo, [(0, 6)], .none⟩, ⟨4, 4, .rsv, [], .none⟩, ⟨8, 5, .wo, [], .none⟩, ⟨13, 1, .wo, [], .none⟩, ⟨14,
      2, .rsv, [], .none⟩, ⟨16, 6, .wo, [], .none⟩, ⟨22, 10, .rsv, [], .none⟩]
  | .KEY_RES =>
    [⟨0, 4, .ro, [], .none⟩, ⟨4, 4, .ro, [], .none⟩, ⟨8, 8, .ro, [], .none⟩, ⟨16, 1, .ro, [], .none⟩, ⟨17, 15,
      .rsv, [], .none⟩]
  | .KEY_TCFG =>
    [⟨0, 4, .rws, [(1, 15)], .none⟩, ⟨4, 1, .rws, [], .none⟩, ⟨5, 1, .rws, [], .none⟩, ⟨6, 1, .ro, [], .none⟩, ⟨7,
      1, .rws, [], .none⟩, ⟨8, 1, .rws, [], .none⟩, ⟨9, 1, .rws, [], .none⟩, ⟨10, 22, .rsv, [], .none⟩]
  | .KEY_OPSTAT =>
    [⟨0, 3, .ro, [], .none⟩, ⟨3, 1, .w1c, [], .none⟩, ⟨4, 28, .rsv, [], .none⟩]
  | .KEY_UNSCNT | .KEY_DBGCNT | .KEY_SCNT =>
    [⟨0, 28, .ro, [], .none⟩, ⟨28, 4, .rsv, [], .none⟩]
  | .KEY_TLOG =>
    [⟨0, 3, .ro, [], .none⟩, ⟨3, 1, .ro, [], .none⟩, ⟨4, 1, .ro, [], .none⟩, ⟨5, 4, .ro, [], .none⟩, ⟨9, 23, .ro,
      [], .none⟩]
  | .KEY_SLOT =>
    [⟨0, 6, .ro, [], .none⟩, ⟨6, 1, .ro, [], .none⟩, ⟨7, 1, .ro, [], .none⟩, ⟨8, 1, .ro, [], .none⟩, ⟨9, 23, .rsv,
      [], .none⟩]
  | .HST_CFG =>
    [⟨0, 3, .rw, [(1, 7)], .none⟩, ⟨3, 29, .rsv, [], .none⟩]
  | .HST_ECFG =>
    [⟨0, 1, .cat, [], .none⟩, ⟨1, 16, .cat, [(1024, 65535)], .none⟩, ⟨17, 5, .cat, [(1, 31)], .none⟩, ⟨22, 10,
      .rsv, [], .none⟩]
  | .CAL_VAL =>
    [⟨0, 16, .rws, [], .none⟩, ⟨16, 16, .rws, [], .none⟩]
  | .CAL_INFO =>
    [⟨0, 1, .ro, [], .none⟩, ⟨1, 1, .ro, [], .none⟩, ⟨2, 6, .rsv, [], .none⟩, ⟨8, 8, .ro, [], .none⟩, ⟨16, 16,
      .rsv, [], .none⟩]
  | .CAL_STAT =>
    [⟨0, 9, .ro, [], .none⟩, ⟨9, 1, .ro, [], .none⟩, ⟨10, 22, .rsv, [], .none⟩]

def Reg.all0 : List Reg :=
  [.SYS_ID, .SYS_MODE, .SYS_MODEREQ, .SYS_MODERES, .SYS_RSTCAUSE, .SYS_RSTCMD, .SYS_START, .SYS_CFG, .SYS_WATCH,
      .SYS_HOLDLOG, .SYS_WAKESRC, .CAT_STAT, .CAT_IMGVER, .CAT_ROLLBACK, .CAT_FLOOR, .CAT_LOADA, .CAT_LOADB,
      .CAT_LOADAOFF, .CAT_LOADBOFF, .CAT_WCTL, .CAT_WLEN, .CAT_WSTAT, .CAT_MBOUND, .FAB_STAT, .FAB_OWNERR,
      .FAB_LWR, .FAB_LVAL, .FAB_LWRG, .FAB_LSRC, .FAB_OSEL, .PU_CFG, .PU_PD, .PU_PH, .PU_STAT, .LC_INAB, .LC_INCD,
      .LC_CFG, .ER_CFG, .ER_CNT, .HSW_CFG]

def Reg.all1 : List Reg :=
  [.HSW_LIM, .HSW_INR0, .HSW_INR1, .HSW_WIRE0, .HSW_WIRE1, .HSW_WIRE2, .HSW_TIME, .HSW_OL, .HSW_FB, .HSW_STAT,
      .HSW_MEAS, .HSW_MEAS2, .HSW_WTEMP, .HSW_CLAMP, .HSW_CLR, .HSW_LOCK0, .HSW_LOCK1, .HBR_CFG, .HBR_LIM,
      .HBR_STALL, .HBR_MON, .HBR_PZONE, .HBR_PINCH, .HBR_OL, .HBR_FB, .HBR_SVC, .HBR_TGT, .HBR_STAT, .HBR_MEAS,
      .HBR_POS, .HBR_POSSET, .HBR_CLR, .HBR_SFLT, .VLV_CFG, .VLV_PROF, .VLV_COIL, .VLV_COIL2, .VLV_FB, .VLV_STAT,
      .VLV_MEAS]

def Reg.all2 : List Reg :=
  [.VLV_TEMP, .VLV_RES, .VLV_CLR, .VHS_CFG, .VHS_FB, .VHS_STAT, .VHS_MEAS, .VHS_CLAMP, .VHS_CLR, .CTD_CFG,
      .CTD_PROF, .CTD_COIL, .CTD_COIL2, .CTD_FB, .CTD_AUX, .CTD_STAT, .CTD_MEAS, .CTD_TEMP, .CTD_RES, .CTD_CLAMP,
      .CTD_CLR, .LED_CFG, .LED_LVL, .LED_DEM, .LED_DIAG, .LED_FB, .LED_STAT, .LED_MEAS, .LED_EFF, .LED_CLR,
      .LED_PCFG, .LED_PSTAT, .LG_NTC, .LG_NTC2, .LG_DER, .LG_STAT, .LCH_CFG, .LCH_RATE, .LCH_BUF, .LCH_SBUF]

def Reg.all3 : List Reg :=
  [.LCH_CTL, .LCH_STAT, .LCH_CNT, .LCH_DLY, .INP_SGRP, .INP_SDEB, .INP_SLVL, .INP_PARK, .INP_PREF, .AIN_CFG,
      .AIN_CMP, .AIN_VAL, .HALL_CFG, .HALL_STAT, .INP_SUPCFG, .INP_SUPSTAT, .DOC_STAT, .DOC_RET, .DOC_STALL,
      .DOC_TRAPS, .DOC_TRAP, .DOC_TRAPPC, .DOC_TRAPW, .DOC_WDCFG, .DOC_WDKICK, .DOC_WDSTAT, .DOC_CTXWIN, .DOC_WMAP,
      .CTX_CMD, .CTX_STAT, .CTX_MIG, .CTX_BDEM, .CTX_LASTQ, .CTXC_CFG, .CTXC_ENTRY, .CTXC_STAT, .CTXC_RUN,
      .MEM_CFG, .MEM_STAT, .MEM_ECCADDR]

def Reg.all4 : List Reg :=
  [.MEM_ECCSRC, .MEM_HWCOLL, .MEM_ECC, .MEM_REPAIR, .CAN_CFG, .CAN_NBT, .CAN_DBT, .CAN_XBT, .CAN_STAT, .CAN_ERR,
      .CAN_CMD, .CAN_EVT, .CAN_QCFG, .CAN_QSTAT, .CAN_RXD, .CAN_RXPOP, .CAN_QRDR, .CAN_TXREQ, .CAN_TXCAN,
      .CAN_TXPEND, .CAN_TXDONE, .CAN_WDATA, .CAN_WDMASK, .CAN_FID, .CAN_FMK, .CAN_FCTL, .CAN_TXW, .CAN_TXS,
      .CAN_TXT, .LIN_CFG, .LIN_SCHED, .LIN_CMD, .LIN_TE, .LIN_D0, .LIN_D1, .LIN_D2, .GW_RT0, .GW_RT1, .GW_RT2,
      .GW_RT3]

def Reg.all5 : List Reg :=
  [.GW_BUSID, .GW_STAT, .ETH_PCFG, .ETH_PSTAT, .ETH_PLCA, .ETH_VLAN, .ETH_TSCTL, .ETH_TSSTAT, .ETH_STR0, .ETH_STR1,
      .ETH_STR2, .ETH_STR3, .ETH_STR4, .NM_CFG, .NM_TIME, .NM_PORT, .NM_LIN, .NM_CLUSTP, .NM_CLUSTL, .NM_CTL,
      .NM_CMD, .NM_STAT, .NM_EVT, .NM_PEND, .PWR_CFG, .PWR_CFG2, .PWR_EVT, .PWR_STAT, .PWR_MEAS, .PWR_MEAS2,
      .PWR_PRCMD, .PWR_XFER, .FLT_STAT, .FLT_CMD, .FLT_LOGCNT, .FLT_LOST, .FLT_ATTN, .FLT_INJ, .FLT_INJD,
      .FLT_INJSTAT]

def Reg.all6 : List Reg :=
  [.FLT_RGCMD, .FLT_RGCTL, .FLT_RGSTAT, .FLT_DEF, .FLT_OVR, .FLT_OVRENT, .FLT_SHM, .TST_CMD, .TST_STAT, .TST_CFG,
      .TWN_CFG, .TWN_MAP, .TWN_CTXM, .TWN_MREG, .TWN_PEN, .TWN_DEN, .TWN_STAT, .TWN_LAG, .TWN_LINK, .TWN_TOFF,
      .TWN_CMD, .KEY_STAT, .KEY_CMD, .KEY_RES, .KEY_UID, .KEY_TCFG, .KEY_TLOGCNT, .KEY_OPGO, .KEY_OPSTAT,
      .KEY_UNSCNT, .KEY_DBGCNT, .KEY_TLOG, .KEY_ENV, .KEY_PLAIN, .KEY_SVCNONCE, .KEY_SVCRESP, .KEY_CONF, .KEY_SLOT,
      .KEY_SCNT, .HST_CFG]

def Reg.all7 : List Reg :=
  [.HST_STAT, .HST_ECFG, .HST_ESTAT, .HST_ENONCE, .HST_ESEQ, .CAL_VAL, .CAL_INFO, .CAL_SUM, .CAL_STAT]

/-- Every register, in the order of the spec. -/
def Reg.all : List Reg :=
  Reg.all0 ++ Reg.all1 ++ Reg.all2 ++ Reg.all3 ++ Reg.all4 ++ Reg.all5 ++ Reg.all6 ++ Reg.all7

end Sys2Proof.Machine
end

