-- ==== Sys2Proof/Machine/Tbl.lean ====
section
/-! DEFINITION. Finite tables: a list of key and value pairs with `get` and `set`, used wherever the block holds one
record for each of many units. A key that is not listed reads the default that the reader names. -/

namespace Sys2Proof.Machine

/-- A table from keys to values, plain data. -/
abbrev Tbl (κ α : Type) := List (κ × α)

/-- The value of key `k`, or `d` where the table does not list it. -/
def Tbl.get {κ α : Type} [DecidableEq κ] (t : Tbl κ α) (k : κ) (d : α) : α :=
  match t with
  | [] => d
  | (k', v) :: t => if k' = k then v else Tbl.get t k d

/-- The table with `v` at key `k`. -/
def Tbl.set {κ α : Type} [DecidableEq κ] (t : Tbl κ α) (k : κ) (v : α) : Tbl κ α :=
  match t with
  | [] => [(k, v)]
  | (k', v') :: t => if k' = k then (k, v) :: t else (k', v') :: Tbl.set t k v

end Sys2Proof.Machine
end

