-- ==== Sys2Proof/Machine/State.lean ====
section
/-! DEFINITION. The state of the block as plain data: registers (one table, their only home), memory bytes, the queue of
waiting commands, and for each unit what its registers do not show. `State.reset` is the module after a power-on reset,
before its supply is good. -/

namespace Sys2Proof.Machine

/-- Why a step stops. No command of this block stops the machine: the spec gives every one of them an effect. -/
inductive Fault where
  /-- Raised by nothing: the spec lets no command stop the block (its own faults are reports to the Conservator, which
  are state). It stands here because the interface asks for a type; SAFE, since it is never answered. -/
  | none
deriving DecidableEq, Repr, Inhabited

/-- Why a command has no meaning in the model. -/
inductive Refusal where
  /-- Raised by `exec` for a command whose meaning is not written; SAFE, the machine stops. -/
  | notModelled (mnemonic : String)
deriving DecidableEq, Repr, Inhabited

/-! ## Start, modes and outputs (spec/02) -/

/-- Where the module is in its life cycle: unpowered; the Start phases S1 to S8 of R62 (`s2fail`: S2 is repeated every
100 ms, R523); the operating modes; Hold; Sealed; Parked or Watch before and after power-down ends (R72); the wake
phases W2 to W4 of R70. -/
inductive Phase where
  | unpowered | s1 | s2 | s2fail | s3 | s4 | s5 | s6 | s7 | s8 | run | hold | sealed | parkDown | parked | w2 | w3 | w4
deriving DecidableEq, Repr, Inhabited

/-- An accepted transition: target mode, and the REQSRC code of its cause (R641). -/
structure Pend where
  target : Nat
  src : Nat
deriving DecidableEq, Repr, Inhabited

/-- A wake source that has passed its filter (R69): the SYS_WAKESRC bit, its INDEX, and the target mode; target 0 is
the Start that a tamper asks for. -/
structure Wake where
  bit : Nat
  index : Nat
  target : Nat
deriving DecidableEq, Repr, Inhabited

/-- The state of the mode machine that no register shows. -/
structure SysSt where
  phase : Phase
  /-- The TWROLE strap reads deputy (R90, R555). -/
  deputyStrap : Bool
  /-- PUF attempts of this Start that failed (R62). -/
  pufTries : Nat
  /-- The slot under trial in S5 and S6 (false: slot A), and whether the other one has failed already (R63). -/
  trySlot : Bool
  fellBack : Bool
  /-- The image could not be read without an uncorrectable error (check 3 of R100). -/
  readErr : Bool
  /-- The mode that a logic reset interrupted, held in always-on retention (R65); none after any other Start. -/
  interrupted : Option Nat
  /-- This Start followed Hold (SYS_MODE.PREV reads 10 after it). -/
  afterHold : Bool
  /-- An output hold interval is running (R77), since when, and how many outputs have reached limp in it. -/
  holdLive : Bool
  holdStart : Nat
  limpCount : Nat
  /-- When the first output of the interval reached limp (R497). -/
  firstLimp : Option Nat
  /-- When the Start or wake in progress began (SYS_START.TIME). -/
  startAt : Nat
  /-- The accepted transition whose boundary is to come. -/
  pend : Option Pend
  /-- The wake being carried out, and the wake events latched during power-down (R72). -/
  waking : Option Wake
  latched : List Wake
  /-- A Watch poll window is open (R73). -/
  pollOpen : Bool
  /-- The fabric runs (R152). -/
  fabricUp : Bool
  /-- Route and parameters that staggered outputs still have to take: slot, step, new words (R115). -/
  stag : List (Nat × Nat × List (RegRef × Word))
  /-- The always-on scanner's differing polls per switch input (R316). -/
  pollRun : Tbl Nat Nat
deriving DecidableEq, Repr, Inhabited

/-- What an output stage follows at rank 3 and 4 of R40: its lines; the Vitrine; its limp state; the park latch; or
nothing, after its power island has reset (R80). -/
inductive Follow where
  | off | lines | vitrine | limp | parked
deriving DecidableEq, Repr, Inhabited

/-- The Vitrine of one output: what the stage follows, the latched level and direction, and whether the hold timer
runs (R66, R75, R76). -/
structure OutSt where
  follow : Follow
  level : Bool
  dir : Bool
  timer : Bool
deriving DecidableEq, Repr, Inhabited

/-! ## The Catalogue (spec/03) -/

/-- A WAKE entry (R97). -/
structure WakeRec where
  src : Nat
  index : Nat
  target : Nat
  param : Nat
deriving DecidableEq, Repr, Inhabited

/-- One Annex: what it changes of the base image (R110 to R112). Outputs are named by their slot (R132). -/
structure Annex where
  regs : List (RegRef × Word)
  ctxen : List (Nat × Bool)
  stagger : List (Nat × Nat)
  wake : List WakeRec
  limpexc : List Nat
deriving DecidableEq, Repr, Inhabited

/-- A CTXDEF entry (R95 ff.). -/
structure CtxDef where
  ctx : Nat
  affin : Nat
  prio : Nat
  entry : Nat
  evmask : Nat
  budget : Nat
  enabled : Bool
deriving DecidableEq, Repr, Inhabited

/-- The decoded configuration image: Header, Identity, base register words, contexts, code and Annexes. -/
structure Catalogue where
  startMode : Nat
  resume : Bool
  limpExit : Nat
  poll : Nat
  win : Nat
  matrix : List Nat
  target : Nat
  pair : Bool
  imgver : Nat
  rollback : Nat
  uidP : List Byte
  uidD : List Byte
  base : List (RegRef × Word)
  ctxdefs : List CtxDef
  /-- Core, code-bank offset and bytes of each CODE record. -/
  code : List (Nat × Nat × List Byte)
  stagger : List (Nat × Nat)
  annexes : List Annex
deriving DecidableEq, Repr, Inhabited

/-- One copy of a two-copy flash record (R103, R105): whether its CRC is valid, its sequence number, its value. -/
structure FlashCopy where
  valid : Bool
  seq : Nat
  value : Nat
deriving DecidableEq, Repr, Inhabited

/-- The security island's image state: the running configuration, the next word expected by a slot write (R107), the
slot-control record and the rollback floor in their two copies. -/
structure CatSt where
  cat : Catalogue
  /-- A configuration is loaded (from S7 on). -/
  loaded : Bool
  /-- Words accepted since OPEN. -/
  wNext : Nat
  slotCtl : List FlashCopy
  floor : List FlashCopy
deriving DecidableEq, Repr, Inhabited

/-! ## The line fabric (spec/04) -/

/-- Line levels, logic-cell flip-flops and their D inputs on the previous edge, prescaler counts and PD shadows of the
pulse units, and what owning contexts have written (R120 to R149). -/
structure FabSt where
  lines : BitVec 512
  /-- Values written by owning contexts, and which lines have been written since they gained their owner (R124). -/
  ctxVal : BitVec 512
  written : BitVec 512
  ff : BitVec 128
  dPrev : BitVec 128
  presc : Tbl Nat Nat
  pdShadow : Tbl Nat Word
  /-- Which gates were high on the last edge (R138, R139). -/
  gatePrev : BitVec 64
  /-- Edges that event routes have seen and not yet delivered: route and rising (R149). -/
  edges : List (Nat × Bool)
  /-- Event routes deliver (R151). -/
  evOn : Bool
deriving DecidableEq, Repr, Inhabited

/-! ## Contexts, cores and memory (spec/10, spec/11) -/

/-- A context's record (R360). `ports` holds every register that has a port number (spec/10 R337): GR0 to GR31, the
unit operands and results, pointers and increments, LR, REP.N, the guard flags, and the event and timer words. -/
structure CtxRec where
  ports : Tbl Nat Word
  pc : Nat
  repActive : Bool
  alarmArmed : Bool
  alarmAt : Word
  /-- Wait kind: 0 none, 1 event, 2 time. -/
  wait : Nat
  wakeAt : Word
  runCyc : Nat
deriving DecidableEq, Repr, Inhabited

/-- A division in flight (R340). -/
structure DivOp where
  signed : Bool
  a : Word
  b : Word
deriving DecidableEq, Repr, Inhabited

/-- A context as the engine holds it: its record, the record that the host reads while the context runs or is
preloaded (R360), a quarantine that awaits the word boundary (R373), and the order in which it became READY (R366);
`poison`: 1 where LSU.R holds the result of a load with an uncorrectable error, 2 where an atomic or string
operation met one, which traps at the next word (R356, R385, R386); the budget of the activation in progress, none
before one begins (R370, R638); `repId`: how many block repeats it has begun (R352). -/
structure Ctx where
  rcd : CtxRec
  stored : CtxRec
  qpend : Option Nat
  readySeq : Nat
  /-- The budget overrun of this activation has been raised (R371). -/
  overrun : Bool
  div : Option DivOp
  poison : Nat
  budget : Option Nat
  repId : Nat
deriving DecidableEq, Repr, Inhabited

/-- What a memory operation of a core does at the bank (R337, R341). -/
inductive MemKind where
  | load | store | aadd | aswap
deriving DecidableEq, Repr, Inhabited

/-- A load, store or atomic of a core that has not reached its bank yet: context, kind, address, bytes, value; its place in program
order (R341); `mute`: its result is discarded (R357). -/
structure MemOp where
  ctx : Nat
  kind : MemKind
  addr : Nat
  size : Nat
  value : Word
  seq : Nat
  mute : Bool
deriving DecidableEq, Repr, Inhabited

/-- The string operations (R337). -/
inductive StrKind where
  | copy | fill | cmp | crc
deriving DecidableEq, Repr, Inhabited

/-- A string operation in flight (R340); `rep`: the block repeat whose word issued it, counted from 1, 0 outside any (R352); its place
in program order; `mute`: its result is discarded. -/
structure StrOp where
  ctx : Nat
  kind : StrKind
  src : Nat
  dst : Nat
  value : Word
  rep : Nat
  seq : Nat
  mute : Bool
deriving DecidableEq, Repr, Inhabited

/-- A posted window write (R353): context, register address, value, and its place in program order. -/
structure WinOp where
  ctx : Nat
  addr : Nat
  value : Word
  seq : Nat
deriving DecidableEq, Repr, Inhabited

/-- One core's queues, its shadow bank (the preloaded context, and whether loading has completed, R368), and the
context whose preemption or switch is due. -/
structure CoreSt where
  memq : List MemOp
  strq : List StrOp
  winq : List WinOp
  shadow : Option (Nat × Bool)
deriving DecidableEq, Repr, Inhabited

/-- The cores, the context engine and the watchdog. -/
structure DocSt where
  cores : Tbl Nat CoreSt
  ctxs : Tbl Nat Ctx
  /-- The next order number of becoming READY (R366). -/
  seq : Nat
  /-- The next order number of a memory, string or window operation (R341, R353). -/
  opSeq : Nat
  /-- When the watchdog period began: at the restart or the last valid kick (R358). -/
  wdStart : Nat
deriving DecidableEq, Repr, Inhabited

/-- Memory island state beyond its contents: corrected words that wait for their write-back (R385). -/
structure MemSt where
  writeback : List Nat
deriving DecidableEq, Repr, Inhabited

/-! ## The Conservator (spec/16) -/

/-- A source report on its way to the Conservator: source ID, detail, time of detection in µs, whether its source has a
clearing condition of its own, whether that condition still holds (R509), and the flags it will carry. -/
structure Rep where
  src : Nat
  detail : Nat
  time : Nat
  cond : Bool
  live : Bool
  inj : Bool
deriving DecidableEq, Repr, Inhabited

/-- An active source (R509): source ID, severity applied, the reaction group its report named with SAFE or above, and
whether it clears by the 1 ms rule. -/
structure Act where
  src : Nat
  sev : Nat
  group : Option Nat
  oneMs : Bool
  inj : Bool
deriving DecidableEq, Repr, Inhabited

/-- A reaction group's sequence and shadow window: the shadow map in force when it began (R512). -/
structure GrpSt where
  shm : List (Nat × Nat)
deriving DecidableEq, Repr, Inhabited

/-- The commanded test in progress (R525). -/
inductive TestKind where
  | none | selfA | selfB | compare | force (g : Nat)
deriving DecidableEq, Repr, Inhabited

/-- The Conservator's state: reports raised and not yet received, reports classified and not yet written, active
sources, the force signals of each half, the halves lost in this Start, and the injection in force. -/
structure FltSt where
  raised : List Rep
  logq : List (BitVec 64)
  active : List Act
  forceA : BitVec 16
  forceB : BitVec 16
  levA : List (Nat × Bool)
  levB : List (Nat × Bool)
  /-- Consecutive exchanges missed by each half (R523). -/
  missA : Nat
  missB : Nat
  grps : Tbl Nat GrpSt
  /-- Kind 3 is to be raised at the next S2 that passes (R498). -/
  bothLost : Bool
  test : TestKind
  /-- When the injection in force began (FLT_INJSTAT.LEFT). -/
  injAt : Nat
deriving DecidableEq, Repr, Inhabited

/-! ## Output protection (spec/05 to spec/08) -/

/-- A trip in force at an output (R167): the report kind that caused it, whether its condition has cleared, whether
tRETRY has elapsed, and whether under AUTO it behaves as LATCH; whether a coil thermal trip whose condition stands is behind a junction
trip (R263, R267). -/
structure TripSt where
  on : Bool
  kind : Nat
  cond : Bool
  retry : Bool
  latch : Bool
  hot : Bool
deriving DecidableEq, Repr, Inhabited

/-- A clamp bucket: what is missing to its size in mJ when last touched, and the time base then (R187, R188). -/
structure Bucket where
  missing : Rat
  stamp : Nat
deriving DecidableEq, Repr, Inhabited

/-- A high-side channel beyond its registers: wire model rises in K (R178), when it last left the conducting states
(R172), the inrush profile in progress and whether it droops or is extended (R174 to R176), the open-load below-count,
short on-periods, whether this on-period has lasted tOLMEAS and has been measured, and a stretch in progress (R193, R194). -/
structure HswSt where
  th1 : Rat
  th2 : Rat
  offSince : Option Nat
  profile : List (Nat × Nat)
  droop : Bool
  extended : Bool
  below : Nat
  shorts : Nat
  long : Bool
  measured : Bool
  stretching : Bool
deriving DecidableEq, Repr, Inhabited

/-- What a bridge's switches do (R207). -/
inductive BMode where
  | coast | brakeLow | brakeHigh | drive
deriving DecidableEq, Repr, Inhabited

/-- A bridge beyond its registers: its switches; the direction of the last DRIVE interval, and whether there was one
(R211); whether it brakes before a reversal, and whether the braking time since that interval has reached TREV; a cycle
limit's braking (R215) and a brake overcurrent's coasting (R217); the counts seen since the last start of DRIVE, Tf in ns,
the pinch run, and whether the present period has exceeded already (R224, R226); consecutive counts against the driven
direction (R225); the stop direction, whether TSTOPBRK has elapsed, whether CLR.STOP has been written (R230) and whether the bridge has
coasted since the stop (R211, R217); the time base at the last ripple that counted (R222). -/
structure HbrSt where
  mode : BMode
  dir : Bool
  drove : Bool
  revWait : Bool
  revDone : Bool
  limBrake : Bool
  ocCoast : Bool
  counts : Nat
  tf : Rat
  run : Nat
  exceeded : Bool
  against : Nat
  stopDir : Bool
  stopOver : Bool
  stopClr : Bool
  coasted : Bool
  ripAt : Nat
deriving DecidableEq, Repr, Inhabited

/-- A valve or contactor coil beyond its registers: the profile it was admitted with (R248): peak, time, hold, compatibility;
its place in the bank's queue and when it entered WAIT (R251); tVMINOFF runs since the last DECAY entry (R259); DECAY ends in TRIPPED
(R263) or DISABLED (R202); what kind 1 has been reported in this activation (R265); a DECAY has begun since the last PULLIN, and which
auxiliary checks have reported (R273); CTDc_H is open (R270); the coil temperature in °C (R261). -/
structure CoilSt where
  peak : Nat
  time : Nat
  hold : Nat
  compat : Bool
  order : Nat
  since : Nat
  minRun : Bool
  toTrip : Bool
  toDis : Bool
  rep0 : Bool
  rep1 : Bool
  opened : Bool
  rep8 : Bool
  rep9 : Bool
  rep10 : Bool
  hOpen : Bool
  cmd : Bool
  tcoil : Option Rat
deriving DecidableEq, Repr, Inhabited

/-- The banks: the next place in a queue of waiting members, and bank switches that open into DISABLED (R202). -/
structure BankSt where
  next : Nat
  toDis : List Nat
deriving DecidableEq, Repr, Inhabited

/-- An LED channel beyond its registers: the DUTY still to be written (R283); level and dimming mode of the setting last sent to P4,
whether it still waits for the bound unit's period end, and whether its current waits for a rise of IN (R282, R283); the stage runs
from its fixed reference (R282); open-string and shorted-LED counts (R287, R288), short on-periods, whether this on-period has
lasted tOSMEAS and has been measured, a stretch in progress; a DAC retest asked for and a DAC test due (R289); headroom above 1.5 V
(R293); the DAC code that HOLD_LAST keeps (R285). -/
structure LedSt where
  duty : Option Nat
  level : Nat
  pwm : Bool
  taking : Bool
  arrived : Bool
  fixed : Bool
  below : Nat
  shBelow : Nat
  shorts : Nat
  long : Bool
  measured : Bool
  stretching : Bool
  retest : Bool
  testDue : Bool
  folded : Bool
  heldDac : Option Nat
deriving DecidableEq, Repr, Inhabited

/-- The fold-back: consecutive updates at or below 90 % of PSUM, and whether kind 6 has been raised (R293). -/
structure FoldSt where
  low : Nat
  raised : Bool
deriving DecidableEq, Repr, Inhabited

/-- A lighting chain beyond its registers: refreshes since the last status cycle and whether the one in progress is one
(R303); whether a refresh is in progress; the frames of the last completed refresh and whether they were status requests;
what the refresh in progress shifts; consecutive underruns and echo errors; the first refresh after discovery. -/
structure LchSt where
  cycle : Nat
  busy : Bool
  isStat : Bool
  prevStat : Bool
  frames : List (List Byte)
  prev : List (List Byte)
  flags : List Nat
  unders : Nat
  echoes : Nat
  unchecked : Bool
deriving DecidableEq, Repr, Inhabited

/-- The inputs beyond their registers: raw switch levels and agreeing samples (R311, R312), which switch inputs have had
their first sample since the fabric started (R313); updates of each analogue input since then (R322), agreeing updates of
each comparator (index 2j + c, R321), over-range reports made (R324); supplies in overload: bit 0 VSNSA, 1 VSNSB,
2 HALLSUP (R323); two-wire sensors in an open or short (R326). -/
structure InpSt where
  raw : BitVec 96
  sampled : BitVec 96
  deb : Tbl Nat Nat
  upd : Tbl Nat Nat
  cmp : Tbl Nat Nat
  overRep : BitVec 16
  ovl : BitVec 3
  held : BitVec 8
deriving DecidableEq, Repr, Inhabited

/-! ## Networks (spec/12 to spec/14) -/

/-- One receive queue (R403 to R408): its records, oldest first; the next SEQ; the word the stream returns next; when an
overflow was last reported, and the frames discarded since. -/
structure CanQ where
  recs : List (List Word)
  seq : Nat
  pos : Nat
  ovAt : Option Nat
  ovCnt : Nat
deriving DecidableEq, Repr, Inhabited

/-- A CAN port beyond its registers: queues; the staging memory (R412: whose data it holds, once copied); a late cancel
of the ACTIVE buffer (R415); what the port does when its frame in progress ends (R421, R470: 0 nothing, 1 integrate
anew, 2 standby, 3 off), or that such a frame may still arrive; transceiver standby; the NM buffer (R454): state, attempts, data,
data that waits behind an ACTIVE frame; the gateway's FIFO, the frames in its buffers and its last overflow report (R445);
activation of its cluster in progress, and its 100 ms (R470); frame last sent; when it last drove a wake-up pattern (R464);
TXD time-out (R419); consecutive decoding errors while listening for a wake frame (R423). -/
structure CanSt where
  q0 : CanQ
  q1 : CanQ
  stage : Option (Nat × Option (List Byte))
  late : Bool
  after : Nat
  tail : Bool
  standby : Bool
  nmSt : Nat
  nmAtt : Nat
  nmData : List Byte
  nmNext : Option (List Byte)
  gwFifo : List (Nat × CanFrame)
  gwBuf : Tbl Nat CanFrame
  gwOvAt : Option Nat
  activating : Bool
  actTimer : Bool
  sent : Option CanFrame
  wupAt : Option Nat
  txdOut : Bool
  wakeErrs : Nat
deriving DecidableEq, Repr, Inhabited

/-- A LIN port beyond its registers: a slot is in progress, and the data it sends (R432); a TABLE write that waits (R430);
the interrupted table and the entry it resumes at, and a collision seen in this slot (R431); go-to-sleep asked for, sent,
and the table to resume after the wake pulse (R459, R461); when the last wake pulse began (R435); shadowed words 0 and
each party's snapshots, by party × 64 + slot: words 1 and 2 (R433, R434; parties 0 to 3 are cores, 4 is the host). -/
structure LinSt where
  inSlot : Bool
  done : Bool
  sending : List Byte
  want : Option Nat
  ret : Option (Nat × Nat)
  coll : Bool
  goSleep : Bool
  asleep : Bool
  resume : Bool
  table : Nat
  pulseAt : Option Nat
  shadow : Tbl Nat Word
  snap : Tbl Nat (Word × Word)
deriving DecidableEq, Repr, Inhabited

/-- A 1722 talker stream: the messages of the open PDU and when it was opened (R449), and the next sequence number. -/
structure Talker where
  msgs : List (List Byte)
  openAt : Nat
  seq : Nat
deriving DecidableEq, Repr, Inhabited

/-- The switch: learned addresses (address, VID, port, when), egress queues by (port, queue), the frame last sent on each
port, followers that fell back to CSMA/CD (R438), the rate of the time base in ppm (R440), and the talker streams. -/
structure EthSt where
  learned : List (Nat × Nat × Nat × Nat)
  egress : Tbl (Nat × Nat) (List EthFrame)
  sent : Tbl Nat EthFrame
  csma : BitVec 8
  rate : Int
  talk : Tbl Nat Talker
deriving DecidableEq, Repr, Inhabited

/-- Network management (spec/14): when STAY was last received on a MASTER port (R456); clusters held by a detected wake
(R469); tPEND has elapsed (R457), and when it began; a latched wake and its cause (R463); a wake to be carried out, and its cause (R464); the
LWLINE level last seen (R462). -/
structure NmSt where
  stayAt : Option Nat
  det : BitVec 8
  pendOver : Bool
  pendAt : Nat
  latched : Option Nat
  wake : Option Nat
  line : Bool
deriving DecidableEq, Repr, Inhabited

/-! ## Supplies (spec/15) -/

/-- The transfer switch in P1: the cause of the transfer in progress (0 none) and when it was confirmed; whether the
BACKUP switch is fully on; a return in progress (R482 to R485); MAIN or BACKUP is reversed (R487). -/
structure PwrSt where
  cause : Nat
  since : Nat
  backOn : Bool
  returning : Bool
  mainRev : Bool
  backRev : Bool
deriving DecidableEq, Repr, Inhabited

/-! ## The twin pair (spec/17) -/

/-- A frame sent in this session and not yet acknowledged: SEQ, time, TYPE, payload. -/
structure TwSent where
  seq : Nat
  time : Nat
  typ : Nat
  payload : List Byte
deriving DecidableEq, Repr, Inhabited

/-- The replica of one twinned channel (R532): state code, retries, lock, wire model rises in 0.01 K, clamp budget in mJ. -/
structure ProtRep where
  st : Nat
  retries : Nat
  lock : Bool
  th1 : Nat
  th2 : Nat
  bucket : Nat
deriving DecidableEq, Repr, Inhabited

/-- A suspension unit in reassembly (R544): context, next part, record words, store entries. -/
structure TwUnit where
  ctx : Nat
  next : Nat
  record : List Word
  stores : List (Nat × Word)
deriving DecidableEq, Repr, Inhabited

/-- A receive record or buffer in reassembly (R544): OP, port, queue or buffer, words so far. -/
structure TwCan where
  op : Nat
  port : Nat
  index : Nat
  words : List Word
deriving DecidableEq, Repr, Inhabited

/-- The twin-link island beyond its registers: nonces, SESSION (R542, R543; empty when none has been agreed), the last training
payload sent, sequence numbers, consecutive discards (R546), frames not yet acknowledged and the end of a resynchronisation
among them (R538); what is in reassembly; the replica's protection and group state; the partner's role and mode as last
reported; TWOK_I seen high since Start completed (R548), low at that boundary and ever since (R555), confirmed low (R549); a
role choice still to be made, a role taken without a trained link (R555, R556); a handover whose role change is due (R552);
the last closing frame's cause; a fail-back in progress (R558); shipping stopped (R554); the words that mirrored contexts have
stored since their last suspension, and the units due (R533); the last heartbeat's TXTIME and arrival, and when TWN_TOFF
was last computed (R544); the CAN replica is to be cleared by the next snapshot (R538); the
principal's CANn_STAT and CANn_ERR (R544 OP 6). -/
structure TwnSt where
  nonce : Word
  peerNonce : Word
  session : List Byte
  train : List Byte
  txSeq : Nat
  rxNext : Nat
  discards : Nat
  sent : List TwSent
  endSeq : Option Nat
  unit : Option TwUnit
  canPart : Option TwCan
  prot : Tbl Nat ProtRep
  groups : BitVec 16
  pRole : Option Nat
  pMode : Nat
  seenHigh : Bool
  startLow : Bool
  confirmed : Bool
  choosing : Bool
  noLink : Bool
  handover : Bool
  closing : Nat
  failback : Bool
  quiet : Bool
  stores : Tbl Nat (List Nat)
  due : List Nat
  hb : Option (Nat × Nat)
  toffAt : Option Nat
  canFresh : Bool
  canErr : Tbl Nat (List Word)
deriving DecidableEq, Repr, Inhabited

/-! ## Keys and calibration (spec/18, spec/19) -/

/-- A copy of a stored slot (R566): its commit record is valid, counter, usage flags, WILD, and its key as it unwraps under the
wrap key (DESIGN CHOICE, notes/assumptions/3.md: the wrapped form is not held). -/
structure KeyCopy where
  valid : Bool
  counter : Nat
  flags : Nat
  wild : Bool
  key : List Byte
deriving DecidableEq, Repr, Inhabited

/-- A copy of an image key (R571): valid commit record, counter, public key X then Y, and the tag made with it. -/
structure ImgCopy where
  valid : Bool
  counter : Nat
  key : List Byte
  tag : List Byte
deriving DecidableEq, Repr, Inhabited

/-- A write of key flash in progress (R566, R579): a slot copy by envelope, by plain write, or an image key copy. -/
inductive KeyWork where
  | envelope (slot : Nat) (copy : Bool) (k : KeyCopy)
  | plain (slot : Nat) (copy : Bool) (k : KeyCopy)
  | image (idx : Nat) (copy : Bool) (k : ImgCopy)
deriving DecidableEq, Repr, Inhabited

/-- An entry of the derivation cache (R564): slot, copy, path. -/
structure CacheKey where
  slot : Nat
  copy : Bool
  path : List (List Byte)
deriving DecidableEq, Repr, Inhabited

/-- The security island beyond its registers: the copies of the 32 slots (slot, copy B), of the two image keys; the write in
progress; an APPLY that waits for a service operation (R579); the descriptors queued, the first one running, and its 96
bytes once it has started (R580); the cache, most recently used first; consecutive failed authorisations, the lockout (R575)
and whether the nonce may still be used (R574); when locked debug requests were refused (R582); SEAL events that await the end
of S4 (R584). -/
structure KeySt where
  slots : Tbl (Nat × Bool) KeyCopy
  img : Tbl (Nat × Bool) ImgCopy
  work : Option KeyWork
  applyWait : Bool
  queue : List Nat
  running : Option (List Byte)
  cache : List CacheKey
  svcFails : Nat
  lockout : Bool
  nonceLive : Bool
  refusals : List Nat
  sealDue : List Nat
deriving DecidableEq, Repr, Inhabited

/-- Calibration commits in progress (R607): record, the value under commit, the last value held behind it. -/
structure CalSt where
  commits : Tbl Nat (Word × Option Word)
  /-- Committed values, which a power loss restores. -/
  committed : Tbl Nat Word
deriving DecidableEq, Repr, Inhabited

/-- A host channel (R602, R605): the events to be reported by the next frame; the words of the last response frame, as the
module has shifted them out (the model's own view of HMISO or of the UDP response). -/
structure HostSt where
  crcErr : Bool
  coll : Bool
  rsvd : Bool
  out : List Word
deriving DecidableEq, Repr, Inhabited

/-- The whole block. -/
structure State where
  /-- The commands that wait, first in, first out. -/
  pending : List Instr
  /-- The module's variant (R1), fixed at the factory. -/
  variant : Variant
  /-- Every register that has been written; an unlisted register reads `resetWord`. -/
  regs : Tbl RegRef Word
  /-- The bytes of data banks, host window, code banks, condition report log and flash slots that differ from what an unlisted byte reads as, at rising addresses. -/
  mem : List Host.Cell
  /-- The module time base in 10 ns steps (R639), 64 bits. -/
  tb : Nat
  /-- The model's own count of free values taken (not the spec's). -/
  free : Nat
  /-- Mode machine (spec/02). -/
  sys : SysSt
  /-- The Vitrine of each output, by output slot (R132). -/
  outs : Tbl Nat OutSt
  /-- Image state (spec/03). -/
  cat : CatSt
  /-- Line fabric (spec/04). -/
  fab : FabSt
  /-- Cores and contexts (spec/10, spec/11). -/
  doc : DocSt
  /-- Memory island beyond its bytes (R385). -/
  memx : MemSt
  /-- The Conservator (spec/16). -/
  flt : FltSt
  /-- The trip in force at each output slot. -/
  trips : Tbl Nat TripSt
  /-- The clamp bucket of each output slot that has one. -/
  buckets : Tbl Nat Bucket
  /-- High-side channels (spec/05). -/
  hsw : Tbl Nat HswSt
  /-- Bridges (spec/06). -/
  hbr : Tbl Nat HbrSt
  /-- Valve and contactor coils, by output slot (spec/07). -/
  coil : Tbl Nat CoilSt
  /-- Valve banks (spec/07). -/
  bank : BankSt
  /-- LED channels (spec/08). -/
  led : Tbl Nat LedSt
  /-- The LED fold-back (R293). -/
  fold : FoldSt
  /-- Lighting chains (spec/08). -/
  lch : Tbl Nat LchSt
  /-- Inputs (spec/09). -/
  inp : InpSt
  /-- The word that the last data-port read answered (the model's own field). -/
  rdata : Word
  /-- CAN ports (spec/12). -/
  can : Tbl Nat CanSt
  /-- LIN ports (spec/13). -/
  lin : Tbl Nat LinSt
  /-- The switch and the 1722 streams (spec/13). -/
  eth : EthSt
  /-- Network management (spec/14). -/
  nm : NmSt
  /-- The transfer switch (spec/15). -/
  pwr : PwrSt
  /-- The twin-link island (spec/17). -/
  twn : TwnSt
  /-- The security island (spec/18). -/
  key : KeySt
  /-- Calibration commits (spec/19). -/
  cal : CalSt
  /-- The SPI host channel (spec/19). -/
  spi : HostSt
  /-- The Ethernet management channel (spec/19). -/
  mgmt : HostSt
  /-- TAG of the last management response (spec/19). -/
  mgmtTag : List Byte
deriving DecidableEq, Repr

/-- The module right after a power-on reset (R83), not yet supplied: mode code 0, every register at its reset value
(`regs` lists nothing, so each reads `resetWord`), no memory byte listed, empty queue. `default` is the zero of each
type: nothing pending, nothing running, every output off until Start re-claims it (R80). The variant is NZ-9640
(DESIGN CHOICE, notes/assumptions/1.md). -/
def State.reset : State where
  pending := []
  variant := .nz9640
  regs := []
  mem := []
  tb := 0
  free := 0
  sys := default
  outs := []
  cat := default
  fab := default
  doc := default
  memx := default
  flt := default
  trips := []
  buckets := []
  hsw := []
  hbr := []
  coil := []
  bank := default
  led := []
  fold := default
  lch := []
  inp := default
  rdata := 0
  can := []
  lin := []
  eth := default
  nm := default
  pwr := default
  twn := default
  key := default
  cal := default
  spi := default
  mgmt := default
  mgmtTag := []

end Sys2Proof.Machine
end

