-- ==== Sys2Proof/Machine/Ops.lean ====
section
/-! DEFINITION. The named operations over registers, memory, reports and free values. -/

namespace Sys2Proof.Machine

/-- What a command answers. -/
abbrev Out := Host.Outcome State Fault Refusal

/-! ## Registers -/

/-- The high-side class of a channel (R154): 0 HS-A, 1 HS-B, 2 HS-C. -/
def hsClass (n : Nat) : Nat := if n < 8 then 0 else if n < 24 then 1 else 2

/-- What a register that nothing has written reads as: the value in the Reset column of its table; a field whose
reset is "Cat" reads 0 until the Catalogue is loaded (R613); fuses and factory flash as notes/assumptions/4.md says. -/
def resetWord (v : Variant) (r : RegRef) : Word :=
  match r.reg with
  | .SYS_ID => match v with | .nz9640 => 0x96400000 | .nz9620 => 0x96200000
  | .SYS_MODE => 0x1000
  | .SYS_RSTCAUSE => 1
  | .FAB_STAT => match v with | .nz9640 => 512 | .nz9620 => 256
  | .HSW_CLAMP => match hsClass r.i with | 0 => 900 | 1 => 240 | _ => 70
  | .VHS_CLAMP | .CTD_CLAMP => 240
  | .LED_PSTAT | .LG_STAT => 0x40000
  | .MEM_REPAIR => 0x40
  | .TWN_STAT => 0x100
  | .KEY_TCFG => 0x4F
  | .HST_CFG => 2
  | _ => 0

/-- The word of a register. -/
def State.reg (s : State) (r : RegRef) : Word := Tbl.get s.regs r (resetWord s.variant r)

/-- The state with a register's word replaced. -/
def State.setReg (s : State) (r : RegRef) (w : Word) : State := { s with regs := Tbl.set s.regs r w }

/-- The register that a field belongs to, at the given indices. -/
def Fld.ref (f : Fld) (i j k : Nat) : RegRef := ⟨f.reg, i, j, k⟩

/-- A field of a register. -/
def State.fld (s : State) (f : Fld) (i : Nat := 0) (j : Nat := 0) (k : Nat := 0) : Nat :=
  ext (s.reg (f.ref i j k)) f.lo f.width

/-- The state with a field of a register replaced. -/
def State.put (s : State) (f : Fld) (v : Nat) (i : Nat := 0) (j : Nat := 0) (k : Nat := 0) : State :=
  s.setReg (f.ref i j k) (ins (s.reg (f.ref i j k)) f.lo f.width v)

/-- A one-bit field as a truth value. -/
def State.bit (s : State) (f : Fld) (i : Nat := 0) (j : Nat := 0) (k : Nat := 0) : Bool := s.fld f i j k != 0

/-- A one-bit field set from a truth value. -/
def State.flag (s : State) (f : Fld) (b : Bool) (i : Nat := 0) (j : Nat := 0) (k : Nat := 0) : State :=
  s.put f (b2n b) i j k

/-- A counter field advanced by one, saturating at its width. -/
def State.count (s : State) (f : Fld) (i : Nat := 0) (j : Nat := 0) (k : Nat := 0) : State :=
  s.put f (satInc (s.fld f i j k) f.width) i j k

/-- A counter field advanced by one, modulo its width. -/
def State.wrap (s : State) (f : Fld) (i : Nat := 0) (j : Nat := 0) (k : Nat := 0) : State :=
  s.put f (s.fld f i j k + 1) i j k

/-- A signed field. -/
def State.sfld (s : State) (f : Fld) (i : Nat := 0) (j : Nat := 0) (k : Nat := 0) : Int :=
  signedOf (s.fld f i j k) f.width

/-- A field set from an integer, in two's complement. -/
def State.sput (s : State) (f : Fld) (v : Int) (i : Nat := 0) (j : Nat := 0) (k : Nat := 0) : State :=
  s.put f (unsignedOf v f.width) i j k

/-! ## Corrected readings (R606) -/

/-- R606: a reading corrected by a calibration record: (1 + GAIN / 65,536) · raw + OFFSET, of which one step is `unit` of the reading's
own; the fraction of a step is dropped (DESIGN CHOICE, notes/assumptions/11.md). -/
def State.corrected (s : State) (r unit : Nat) (raw : Int) : Int :=
  raw + s.sfld CAL_VAL.GAIN r * raw / 65536 + s.sfld CAL_VAL.OFFSET r * unit

/-- R606: the current of an output's slot, in mA, as its sense point reads it. -/
def State.sensedMa (s : State) (slot iMa : Nat) : Nat := (s.corrected slot 1 iMa).toNat

/-- R606: the current of an LED channel, in µA; OFFSET counts 10 µA. -/
def State.sensedUa (s : State) (i iUa : Nat) : Nat := (s.corrected (77 + i) 10 iUa).toNat

/-- R606: the record of a slot's clamp-energy coefficient: channels, bank switches, contactor high sides. -/
def clampRecord (slot : Nat) : Nat := if slot < 48 then 144 + slot else 120 + slot

/-! ## Memory bytes -/

/-- What a byte that no write has touched reads as: an erased flash slot reads 0xFF (R101); the loader fills the code
banks with 0xFFFF_FFFF (R329); the data banks and the host window are cleared (R391); an empty log entry reads 0
(DESIGN CHOICE, notes/assumptions/5.md). -/
def unlisted (a : Nat) : Byte :=
  if 0x10000000 ≤ a && a < 0x10800000 then 0xFF
  else if 0x400000 ≤ a && a < 0x480000 then 0xFF
  else 0

/-- The byte at an address. -/
def Memory.get : List Host.Cell → Nat → Byte
  | [], a => unlisted a
  | (k, v) :: m, a => if k = a then v else Memory.get m a

/-- The cells without those at address `a`. -/
def Memory.erase (m : List Host.Cell) (a : Nat) : List Host.Cell := m.filter fun c => c.1 != a

/-- A cell put before the first one at a higher address. -/
def Memory.insert (a : Nat) (b : Byte) : List Host.Cell → List Host.Cell
  | [] => [(a, b)]
  | (k, v) :: m => if a < k then (a, b) :: (k, v) :: m else (k, v) :: Memory.insert a b m

/-- The memory with byte `b` at address `a`; a byte equal to what an unlisted address reads as is not listed. -/
def Memory.set (m : List Host.Cell) (a : Nat) (b : Byte) : List Host.Cell :=
  if b = unlisted a then Memory.erase m a else Memory.insert a b (Memory.erase m a)

/-- The memory with every byte of the addresses in [lo, hi) as an unlisted byte reads. -/
def Memory.clear (m : List Host.Cell) (lo hi : Nat) : List Host.Cell :=
  m.filter fun c => !(decide (lo ≤ c.1) && decide (c.1 < hi))

/-- The canonical form: rising addresses, no cell equal to what an unlisted address reads as. -/
def Memory.wf : List Host.Cell → Bool
  | [] => true
  | [c] => c.2 != unlisted c.1
  | c :: d :: m => c.2 != unlisted c.1 && decide (c.1 < d.1) && Memory.wf (d :: m)

/-- The byte of the state at an address. -/
def State.byte (s : State) (a : Nat) : Byte := Memory.get s.mem a

/-- The state with a byte written. -/
def State.setByte (s : State) (a : Nat) (b : Byte) : State := { s with mem := Memory.set s.mem a b }

/-- `n` bytes from address `a`. -/
def State.bytes (s : State) (a n : Nat) : List Byte := (List.range n).map fun i => s.byte (a + i)

/-- Bytes written from address `a` upwards. -/
def State.setBytes (s : State) (a : Nat) : List Byte → State
  | [] => s
  | b :: bs => (s.setByte a b).setBytes (a + 1) bs

/-- The word at an address (R11: little-endian). -/
def State.word (s : State) (a : Nat) : Word := wordOf (s.bytes a 4)

/-- The state with a word written (R11: little-endian). -/
def State.setWord (s : State) (a : Nat) (w : Word) : State := s.setBytes a (leBytes w.toNat 4)

/-- The state with the bytes in [lo, hi) cleared. -/
def State.clearMem (s : State) (lo hi : Nat) : State := { s with mem := Memory.clear s.mem lo hi }

/-! ## Free values, reserved accesses, time -/

/-- A word the spec does not state, and the state that has taken it. -/
def State.takeFree (s : State) : Word × State := (Config.freeWord s.free, { s with free := s.free + 1 })

/-- `n` words the spec does not state, and the state that has taken them. -/
def State.takeFrees (s : State) (n : Nat) : List Word × State :=
  ((List.range n).map fun i => Config.freeWord (s.free + i), { s with free := s.free + n })

/-- R28: the time base as an island other than the fabric reads it, 20 ns to 40 ns old (a free value, notes/assumptions/2.md); while
the fabric is down the always-on island carries the count (R639). -/
def State.seen (s : State) : Nat := if s.sys.fabricUp then s.tb - (2 + Config.readAge s.tb % 3) else s.tb

/-- R513, R514: TIME of what the Conservator receives now: the time base in µs, low 32 bits, as it reads it (R28); while the fabric is
down by the always-on island's count, accurate to 31 µs. -/
def State.micros (s : State) : Nat :=
  (if s.sys.fabricUp then s.seen else s.tb + Config.alwaysOnError s.tb % 6201 - 3100) / 100 % 2 ^ 32

/-- The running mode code (R51). -/
def State.mode (s : State) : Nat := s.fld SYS_MODE.MODE

/-- The variant is the NZ-9620. -/
def State.half (s : State) : Bool := s.variant == .nz9620

/-! ## Which units are fitted (R2) -/

/-- R2: the number of lines, contexts, pulse units, logic cells and event routes. -/
def nLines (v : Variant) : Nat := match v with | .nz9640 => 512 | .nz9620 => 256
def nCtx (v : Variant) : Nat := match v with | .nz9640 => 256 | .nz9620 => 128
def nPu (v : Variant) : Nat := match v with | .nz9640 => 64 | .nz9620 => 32
def nLc (v : Variant) : Nat := match v with | .nz9640 => 128 | .nz9620 => 64
def nEr (v : Variant) : Nat := match v with | .nz9640 => 256 | .nz9620 => 128
def nCores (v : Variant) : Nat := match v with | .nz9640 => 4 | .nz9620 => 2
def nCan (v : Variant) : Nat := match v with | .nz9640 => 8 | .nz9620 => 4
def nLin (v : Variant) : Nat := match v with | .nz9640 => 6 | .nz9620 => 3
def nBanks (v : Variant) : Nat := match v with | .nz9640 => 8 | .nz9620 => 4

/-- R2: high-side channel `n` is fitted (HS-A 0–7, HS-B 8–23, HS-C 24–47; the lower half of each in the NZ-9620). -/
def hswFitted (v : Variant) (n : Nat) : Bool :=
  match v with
  | .nz9640 => n < 48
  | .nz9620 => n < 4 || (8 ≤ n && n < 16) || (24 ≤ n && n < 36)

/-- R2: bridge `b` is fitted (HB-H 0–3, HB-L 4–11). -/
def hbrFitted (v : Variant) (b : Nat) : Bool :=
  match v with
  | .nz9640 => b < 12
  | .nz9620 => b < 2 || (4 ≤ b && b < 8)

def vlvFitted (v : Variant) (n : Nat) : Bool := match v with | .nz9640 => n < 12 | .nz9620 => n < 4
def vhsFitted (v : Variant) (n : Nat) : Bool := match v with | .nz9640 => n < 3 | .nz9620 => n < 1
def ctdFitted (v : Variant) (n : Nat) : Bool := match v with | .nz9640 => n < 2 | .nz9620 => n < 1
def ledFitted (v : Variant) (n : Nat) : Bool := match v with | .nz9640 => n < 16 | .nz9620 => n < 8
def lgFitted (v : Variant) (n : Nat) : Bool := match v with | .nz9640 => n < 8 | .nz9620 => n < 4
def lchFitted (v : Variant) (n : Nat) : Bool := match v with | .nz9640 => n < 8 | .nz9620 => n < 4
def ainFitted (v : Variant) (n : Nat) : Bool := match v with | .nz9640 => n < 16 | .nz9620 => n < 8
def hallFitted (v : Variant) (n : Nat) : Bool := match v with | .nz9640 => n < 8 | .nz9620 => n < 4
def sinFitted (v : Variant) (n : Nat) : Bool := match v with | .nz9640 => n < 96 | .nz9620 => n < 48
/-- R2: Ethernet port 0 is 10GBASE-T1, 1–4 are 1000/100BASE-T1, 5–6 are 10BASE-T1S; the NZ-9620 fits 1, 2 and 5. -/
def ethFitted (v : Variant) (p : Nat) : Bool :=
  match v with
  | .nz9640 => p < 7
  | .nz9620 => p == 1 || p == 2 || p == 5

/-- The output slots of R132 that are fitted. -/
def slotFitted (v : Variant) (t : Nat) : Bool :=
  if t < 48 then hswFitted v t
  else if t < 60 then hbrFitted v (t - 48)
  else if t < 72 then vlvFitted v (t - 60)
  else if t < 75 then vhsFitted v (t - 72)
  else if t < 77 then ctdFitted v (t - 75)
  else if t < 93 then ledFitted v (t - 77)
  else false

/-- The fitted output slots. -/
def slots (v : Variant) : List Nat := (List.range 93).filter (slotFitted v)

/-! ## Clamp buckets (R187, R188, R257) -/

/-- R187, R257: bucket size, single-event maximum (mJ) and refill (mJ/s). -/
def bucketOf (t : Nat) : Nat × Nat × Nat :=
  if t < 48 then match hsClass t with | 0 => (900, 450, 60) | 1 => (240, 120, 20) | _ => (70, 35, 6)
  else (240, 120, 20)

def State.bucket (s : State) (t : Nat) : Bucket := Tbl.get s.buckets t ⟨0, 0⟩

/-- What is missing to a full bucket now, in mJ: the bucket refills at its class rate (R188). -/
def State.missing (s : State) (t : Nat) : Rat :=
  let b := s.bucket t
  max 0 (b.missing - (((bucketOf t).2.2 * (s.tb - b.stamp) : Nat) : Rat) / 100000000)

/-- The bucket's content in mJ. -/
def State.content (s : State) (t : Nat) : Rat := (((bucketOf t).1 : Nat) : Rat) - s.missing t

/-! ## Reports (spec/16 R495) -/

/-- R495: block × 512 + unit × 8 + kind. -/
def srcId (block unit kind : Nat) : Nat := block * 512 + unit * 8 + kind

/-- A source without a clearing condition of its own raises a report (R509: active for 1 ms). -/
def State.raise (s : State) (block unit kind : Nat) (detail : Nat := 0) : State :=
  { s with flt := { s.flt with raised := s.flt.raised ++
      [⟨srcId block unit kind, detail % 4096, s.micros, false, true, false⟩] } }

/-- A source whose condition has a clearing rule raises a report (R509: active until `clearSrc`). A source that is
active already, its condition persisting, is raised again only as its own rule says. -/
def State.raiseCond (s : State) (block unit kind : Nat) (detail : Nat := 0) : State :=
  { s with flt := { s.flt with raised := s.flt.raised ++
      [⟨srcId block unit kind, detail % 4096, s.micros, true, true, false⟩] } }

/-- FLT_STAT.LIMPACT counts the active sources of severity LIMP or HANDOVER (R509). -/
def limpActive (as : List Act) : Nat := satTo ((as.filter fun a => a.sev == 4 || a.sev == 5).length) 8

/-- The active sources replaced, LIMPACT following. -/
def State.setActive (s : State) (as : List Act) : State :=
  { s with flt := { s.flt with active := as } }.put FLT_STAT.LIMPACT (limpActive as)

/-- A source's own clearing condition comes true (R509). -/
def State.clearSrc (s : State) (block unit kind : Nat) : State :=
  let id := srcId block unit kind
  let raised := s.flt.raised.map fun (r : Rep) => if r.src = id then { r with live := false } else r
  State.setActive { s with flt := { s.flt with raised := raised } }
    (s.flt.active.filter fun a => !(a.src == id && !a.inj && !a.oneMs))

/-- A source with a clearing rule is active, or its report is on the way. -/
def State.srcLive (s : State) (block unit kind : Nat) : Bool :=
  let id := srcId block unit kind
  (s.flt.active.any fun a => a.src == id && !a.inj) || (s.flt.raised.any fun r => r.src == id && r.live && r.cond)

/-- A condition with a clearing rule that holds: it raises its report unless it is active already. -/
def State.hold (s : State) (block unit kind : Nat) (detail : Nat := 0) : State :=
  if s.srcLive block unit kind then s else s.raiseCond block unit kind detail

end Sys2Proof.Machine
end

