-- ==== Sys2Proof/Machine/Ctx.lean ====
section
/-! DEFINITION. Context records and cores: accessors (spec/10 R337 port numbers, spec/11 R360). -/

namespace Sys2Proof.Machine

/-! ## Port numbers that hold context state (R337) -/

def pAluA : Nat := 0x020
def pAluR : Nat := 0x021
def pMulA : Nat := 0x040
def pMulLo : Nat := 0x041
def pMulHi : Nat := 0x042
def pLsuP0 : Nat := 0x050
def pLsuInc0 : Nat := 0x054
def pLsuR : Nat := 0x05B
def pLsuSA : Nat := 0x060
def pLsuStat : Nat := 0x06A
def pStrSrc : Nat := 0x070
def pStrDst : Nat := 0x071
def pStrAcc : Nat := 0x076
def pStrStat : Nat := 0x077
def pLr : Nat := 0x082
def pEvtMask : Nat := 0x092
def pEvtCause : Nat := 0x093
def pEvtPend : Nat := 0x094
def pNowh : Nat := 0x0A1
def pRepN : Nat := 0x0B1
def pGf0 : Nat := 0x0B8
def pGf1 : Nat := 0x0B9
def pSatA : Nat := 0x0C0
def pSatR : Nat := 0x0C1
def pSatLo : Nat := 0x0C6
def pSatHi : Nat := 0x0C7
def pSatStat : Nat := 0x0C8

/-! ## Context states (R364) -/

def stDisabled : Nat := 0
def stWait : Nat := 1
def stSleep : Nat := 2
def stReady : Nat := 3
def stRun : Nat := 4
def stHeld : Nat := 5
def stQuar : Nat := 6

/-- The context as the engine holds it. -/
def State.ctx (s : State) (c : Nat) : Ctx := Tbl.get s.doc.ctxs c default

def State.setCtx (s : State) (c : Nat) (x : Ctx) : State := { s with doc := { s.doc with ctxs := Tbl.set s.doc.ctxs c x } }

/-- The live record of a context. -/
def State.rcd (s : State) (c : Nat) : CtxRec := (s.ctx c).rcd

def State.setRcd (s : State) (c : Nat) (r : CtxRec) : State := s.setCtx c { s.ctx c with rcd := r }

/-- A port register of a context record. -/
def CtxRec.port (r : CtxRec) (p : Nat) : Word := Tbl.get r.ports p 0

def CtxRec.setPort (r : CtxRec) (p : Nat) (w : Word) : CtxRec := { r with ports := Tbl.set r.ports p w }

/-- A port register of a context. -/
def State.port (s : State) (c p : Nat) : Word := (s.rcd c).port p

def State.setPort (s : State) (c p : Nat) (w : Word) : State := s.setRcd c ((s.rcd c).setPort p w)

/-- A context's state code (R364). -/
def State.cst (s : State) (c : Nat) : Nat := s.fld CTXC_STAT.STATE c

def State.setCst (s : State) (c st : Nat) : State := s.put CTXC_STAT.STATE st c

/-- The context takes part: neither DISABLED nor QUAR (R124, R349, R373). -/
def State.ctxLive (s : State) (c : Nat) : Bool := s.cst c != stDisabled && s.cst c != stQuar

/-- R345: LSU.STAT.PWRSV of a context. -/
def State.pwrsv (s : State) (c : Nat) : State := s.setPort c pLsuStat (s.port c pLsuStat ||| 2)

/-- R345: LSU.STAT.DPBUSY of a context. -/
def State.dpbusy (s : State) (c : Nat) : State := s.setPort c pLsuStat (s.port c pLsuStat ||| 1)

/-- R345: LSU.STAT.PTMO of a context. -/
def State.ptmo (s : State) (c : Nat) : State := s.setPort c pLsuStat (s.port c pLsuStat ||| 4)

/-- R17 to R19, R354: a write or read that is discarded as reserved sets RSVD for the host, PWRSV for a context. -/
def State.reserved (s : State) : Who → State
  | .host => { s with spi := { s.spi with rsvd := true } }
  | .ctx c => s.pwrsv c

/-- R612, R613: the host port is powered: from the end of S1 on, in operating modes, Sealed and Watch poll windows. -/
def State.hostUp (s : State) : Bool :=
  match s.sys.phase with
  | .s2 | .s2fail | .s3 | .s4 | .s5 | .s6 | .s7 | .s8 | .run | .sealed => true
  | .parked => s.sys.pollOpen
  | _ => false

/-- R73, R612: the block's island runs: in a Watch poll window, the power islands, the fabric, the cores with their contexts and
memory, the Conservator, and SYS, HST and PWR, which a poll window needs (notes/assumptions/31.md). -/
def State.blockUp (s : State) (b : Nat) : Bool :=
  !s.sys.pollOpen || b ≤ 1 || (3 ≤ b && b ≤ 12) || b = 18 || b = 20 || b = 22

/-- R82, R124, R349, R612: the command can reach block `b`: host software through a powered port and not in Sealed; a context that
takes part. -/
def State.reaches (s : State) (who : Who) (b : Nat) : Bool :=
  s.blockUp b && match who with
    | .host => s.hostUp && s.mode != 11
    | .ctx c => s.ctxLive c

/-- A command of `who` to block `b`. What host software sends where it may not is refused with RSVD (R82, R612); through an unpowered
port nothing arrives. -/
def State.asWho (s : State) (who : Who) (b : Nat) (k : State → State) : State :=
  if s.reaches who b then k s
  else match who with
    | .host => if s.hostUp then s.reserved .host else s
    | .ctx _ => s

/-- R82: a register write whose sender the row does not name: in Sealed only host software is left to send it, and it is refused. -/
def State.unsealed (s : State) (k : State → State) : State := if s.mode = 11 then s.reserved .host else k s

/-- One core. -/
def State.core (s : State) (d : Nat) : CoreSt := Tbl.get s.doc.cores d default

def State.setCore (s : State) (d : Nat) (x : CoreSt) : State :=
  { s with doc := { s.doc with cores := Tbl.set s.doc.cores d x } }

/-- The context that core `d` runs, if it is in RUN. -/
def State.running (s : State) (d : Nat) : Option Nat :=
  if s.fld DOC_STAT.STATE d = 2 then some (s.fld DOC_STAT.CTX d) else none

/-- The fitted cores. -/
def State.coreList (s : State) : List Nat := List.range (nCores s.variant)

/-- The fitted contexts. -/
def State.ctxList (s : State) : List Nat := List.range (nCtx s.variant)

end Sys2Proof.Machine
end

