-- ==== Sys2Proof/Machine/CanQueue.lean ====
section
/-! DEFINITION. CAN ports: accessors, and the receive queues with their reader (spec/12 R403 to R408). -/

namespace Sys2Proof.Machine

/-- A port beyond its registers. -/
def State.cp (s : State) (n : Nat) : CanSt := Tbl.get s.can n default

def State.setCp (s : State) (n : Nat) (x : CanSt) : State := { s with can := Tbl.set s.can n x }

/-- A receive queue. -/
def State.cq (s : State) (n q : Nat) : CanQ := if q = 0 then (s.cp n).q0 else (s.cp n).q1

def State.setCq (s : State) (n q : Nat) (x : CanQ) : State :=
  s.setCp n (if q = 0 then { s.cp n with q0 := x } else { s.cp n with q1 := x })

/-- R403: the pool entries of a record, 21 words each. -/
def entriesOf (rc : List Word) : Nat := (rc.length + 20) / 21

/-- The pool entries that the records of a queue occupy. -/
def usedOf (rs : List (List Word)) : Nat := (rs.map entriesOf).sum

/-- CANn_QSTATq follows the queue: head SEQ, HVALID, USED. -/
def State.canQsync (s : State) (n q : Nat) : State :=
  let rs := (s.cq n q).recs
  let h := match rs with
    | (w :: _) :: _ => ext w 0 8
    | _ => 0
  ((s.put CAN_QSTAT.HSEQ h n q).flag CAN_QSTAT.HVALID (!rs.isEmpty) n q).put CAN_QSTAT.USED (satTo (usedOf rs) 9) n q

/-- The head record leaves the queue; the stream stands at word 0 of the next one (R407, R408). -/
def State.canDrop (s : State) (n q : Nat) : State :=
  let x := s.cq n q
  ((s.setCq n q { x with recs := x.recs.drop 1, pos := 0 }).flag CAN_QSTAT.LOCKED false n q).canQsync n q

/-- The queue's records are replaced; where the head has changed, the stream returns to word 0 (R408). -/
def State.canSetRecs (s : State) (n q : Nat) (rs : List (List Word)) : State :=
  let x := s.cq n q
  let pos := if rs.head? = x.recs.head? then x.pos else 0
  (s.setCq n q { x with recs := rs, pos := pos }).canQsync n q

/-- The reader of a queue (CANn_QRDR): 511 host software, else a context. -/
def State.canReader (s : State) (n q : Nat) : Nat := if q = 0 then s.fld CAN_QRDR.RDR0 n else s.fld CAN_QRDR.RDR1 n

/-- R406: the party is the named reader of the queue. -/
def State.isReader (s : State) (who : Who) (n q : Nat) : Bool :=
  match who with
  | .host => s.canReader n q == 511
  | .ctx c => s.canReader n q == c

/-- R406 to R408: a read of CANn_RXDq: the word it returns, and what it leaves. -/
def State.canRead (s : State) (who : Who) (n q : Nat) : Word × State :=
  if !s.isReader who n q then (0, s.reserved who)
  else
    let x := s.cq n q
    match x.recs with
    | [] => (0, s)
    | rc :: _ =>
      let w := rc.getD x.pos 0
      let last := rc.length ≤ x.pos + 1
      if s.bit CAN_CFG.CONS n then (w, s.setCq n q { x with pos := if last then 0 else x.pos + 1 })
      else if last then (w, s.canDrop n q)
      else (w, (s.setCq n q { x with pos := x.pos + 1 }).flag CAN_QSTAT.LOCKED true n q)

/-- R407, R408: a write of CANn_RXPOPq. In the deputy it is ignored. -/
def State.canPop (s : State) (n q seq : Nat) : State :=
  if s.bit CAN_CFG.MON n then s
  else match (s.cq n q).recs with
    | [] => if s.bit CAN_CFG.CONS n then s.flag CAN_QSTAT.POPMISS true n q else s
    | _ =>
      if s.bit CAN_CFG.CONS n && s.fld CAN_QSTAT.HSEQ n q != seq then s.flag CAN_QSTAT.POPMISS true n q
      else s.canDrop n q

/-- R407, R408: a quarantined or disabled context loses its locks, and its streams return to word 0. -/
def State.dropReader (s : State) (c : Nat) : State :=
  forEach (s.can.map (·.1)) (fun n s => forEach [0, 1] (fun q s =>
    if s.canReader n q = c then
      (s.setCq n q { s.cq n q with pos := 0 }).flag CAN_QSTAT.LOCKED false n q
    else s) s) s

end Sys2Proof.Machine
end

