-- ==== Sys2Proof/Machine/TwinTx.lean ====
section
/-! DEFINITION. What the mirror engine sends (spec/17 R531 to R544): which contexts, channels and stores are mirrored, frame
payloads, and the deltas that a command leaves behind it. A command's meaning hands the states before and after it to
`State.ship`, which changes nothing but the twin-link island. -/

namespace Sys2Proof.Machine

/-! ## Who is what -/

/-- R526: the module runs a pair image. -/
def State.isPair (s : State) : Bool := s.cat.loaded && s.cat.cat.pair

/-- R528: this member is in the DEPUTY role. -/
def State.isDeputy (s : State) : Bool := s.fld TWN_STAT.ROLE == 1

/-- R529, R531, R555: twinned channels rest in ARMED and mirrored contexts are held: in the deputy, and until a member has
chosen its role. -/
def State.twinRest (s : State) : Bool := s.isPair && (s.isDeputy || s.twn.choosing)

/-- R529: a mirrored context. -/
def State.mirrored (s : State) (c : Nat) : Bool := s.isPair && bitOf (s.fld TWN_CTXM.MIR (c / 32)) (c % 32)

/-- R531: the slot of a twinned channel: HS-Bm is channel 8 + m. -/
def State.twinned (s : State) (t : Nat) : Bool := s.isPair && 8 ≤ t && t < 24 && bitOf (s.fld TWN_MAP.TWIN) (t - 8)

/-- The twinned channels. -/
def State.twins (s : State) : List Nat := (List.range 48).filter s.twinned

/-- R530: the role masks of a pair enable the slot. -/
def State.roleEn (s : State) (t : Nat) : Bool :=
  !s.isPair || (if s.bit TWN_STAT.STRAP then bitOf (s.fld TWN_DEN.EN (t / 32)) (t % 32)
    else bitOf (s.fld TWN_PEN.EN (t / 32)) (t % 32))

/-- R537: the address lies in a mirrored region. -/
def State.inMirror (s : State) (a : Nat) : Bool :=
  (List.range 8).any fun r =>
    let b := 0x200000 + 64 * s.fld TWN_MREG.BASE r
    b ≤ a && a < b + 64 * s.fld TWN_MREG.SIZE r

/-- LINK reads RESYNC or MIRROR: a session is open. -/
def State.linkUp (s : State) : Bool := s.fld TWN_STAT.LINK == 2 || s.fld TWN_STAT.LINK == 3

/-- R533, R554: this member ships deltas. -/
def State.ships (s : State) : Bool := s.isPair && !s.twinRest && s.linkUp && !s.twn.quiet

/-! ## Frames -/

/-- A frame of the session leaves (R541): it takes the next SEQ and waits for its acknowledgement. -/
def TwnSt.send (t : TwnSt) (now typ : Nat) (payload : List Byte) : TwnSt :=
  { t with sent := t.sent ++ [⟨t.txSeq, now, typ, payload⟩], txSeq := t.txSeq + 1 }

def State.twinSend (s : State) (typ : Nat) (payload : List Byte) : State :=
  { s with twn := s.twn.send s.tb typ payload }

/-- A list in pieces of at most `n`; the fuel is its length. -/
def chunks {α : Type} (n : Nat) : Nat → List α → List (List α)
  | 0, _ => []
  | fuel + 1, xs => if xs.isEmpty then [] else xs.take n :: chunks n fuel (xs.drop n)

/-- R541: a payload holds at most 1,024 bytes: entries of `size` bytes travel in as few frames as they fit. -/
def TwnSt.sendEntries (t : TwnSt) (now typ size : Nat) (es : List (List Byte)) : TwnSt :=
  (chunks (1024 / size) es.length es).foldl (fun t g => t.send now typ g.flatten) t

/-- Words as little-endian bytes (R12). -/
def wordsLe (ws : List Word) : List Byte := ws.flatMap fun w => leBytes w.toNat 4

/-- Words spelt by little-endian bytes. -/
def leWords (bs : List Byte) : List Word := (chunks 4 bs.length bs).map wordOf

/-! ## Context records (R360) -/

/-- The 68 words of a context record, offsets 0x000 to 0x10F. -/
def CtxRec.words (r : CtxRec) : List Word :=
  (List.range 32).map r.port ++
  [BitVec.ofNat 32 r.pc, r.port pLr,
   BitVec.ofNat 32 ((r.port pGf0).toNat + 2 * (r.port pGf1).toNat + 4 * b2n r.repActive + 8 * b2n r.alarmArmed + 16 * r.wait),
   r.port pRepN, r.port pAluA, r.port pAluR, r.port pMulA, r.port pMulLo, r.port pMulHi] ++
  (List.range 4).map (fun i => r.port (pLsuP0 + i)) ++ (List.range 4).map (fun i => r.port (pLsuInc0 + i)) ++
  [r.port pLsuSA, r.port pLsuR, r.port pLsuStat, r.port pStrSrc, r.port pStrDst, r.port pStrAcc, r.port pStrStat,
   r.port pSatA, r.port pSatR, r.port pSatLo, r.port pSatHi, r.port pSatStat,
   r.port pEvtMask, r.port pEvtPend, r.port pEvtCause, r.alarmAt, r.port pNowh, r.wakeAt, BitVec.ofNat 32 r.runCyc]

/-- The port of each word of a record; 0x1FF where the word is no port. -/
def recPorts : List Nat :=
  List.range 32 ++ [0x1FF, pLr, 0x1FF, pRepN, pAluA, pAluR, pMulA, pMulLo, pMulHi] ++
  (List.range 4).map (pLsuP0 + ·) ++ (List.range 4).map (pLsuInc0 + ·) ++
  [pLsuSA, pLsuR, pLsuStat, pStrSrc, pStrDst, pStrAcc, pStrStat, pSatA, pSatR, pSatLo, pSatHi, pSatStat,
   pEvtMask, pEvtPend, pEvtCause, 0x1FF, pNowh, 0x1FF, 0x1FF]

/-- The record that 68 words spell. -/
def recOf (ws : List Word) : CtxRec :=
  let w := fun i => ws.getD i 0
  let fl := w 34
  let r : CtxRec :=
    { ports := ((recPorts.zip ws).filter fun p => p.1 != 0x1FF) ++
        [(pGf0, BitVec.ofNat 32 (ext fl 0 1)), (pGf1, BitVec.ofNat 32 (ext fl 1 1))]
      pc := (w 32).toNat
      repActive := bitOf fl.toNat 2
      alarmArmed := bitOf fl.toNat 3
      alarmAt := w 64
      wait := ext fl 4 2
      wakeAt := w 66
      runCyc := (w 67).toNat }
  r

/-! ## Entries (R544) -/

/-- An output command entry: KIND, INDEX, ADDR, VALUE. -/
def outEntry (kind index addr : Nat) (value : Word) : List Byte :=
  BitVec.ofNat 8 kind :: 0 :: (leBytes index 2 ++ leBytes addr 4 ++ leBytes value.toNat 4)

/-- The protection state of a twinned channel, as its entry. -/
def State.protEntry (s : State) (t : Nat) : List Byte :=
  let x := Tbl.get s.hsw t default
  let lock := if t < 32 then bitOf (s.fld HSW_LOCK0.LOCK) t else bitOf (s.fld HSW_LOCK1.LOCK) (t - 32)
  [BitVec.ofNat 8 (t - 8), BitVec.ofNat 8 (s.fld HSW_STAT.STATE t), BitVec.ofNat 8 (s.fld HSW_STAT.RETRIES t),
   BitVec.ofNat 8 (b2n lock)] ++
  leBytes (satTo (x.th1 * 100).floor.toNat 16) 2 ++ leBytes (satTo (x.th2 * 100).floor.toNat 16) 2 ++
  leBytes (s.content t).floor.toNat 2 ++ [0, 0, 0, 0, 0, 0]

/-- The protection state of every twinned channel. -/
def State.protAll (s : State) : List (List Byte) := s.twins.map s.protEntry

/-- A CAN entry: OP, PORT, INDEX, LAST, WOFF, words. -/
def canEntry (op port index : Nat) (last : Bool) (woff : Nat) (ws : List Word) : List Byte :=
  [BitVec.ofNat 8 op, BitVec.ofNat 8 port, BitVec.ofNat 8 index, BitVec.ofNat 8 (b2n last)] ++
    leBytes woff 2 ++ leBytes ws.length 2 ++ wordsLe ws

/-- The entries of a record or buffer, in parts of at most 252 words, which fill a resynchronisation block. -/
def canParts (op port index : Nat) (ws : List Word) : List (List Byte) :=
  let ps := chunks 252 ws.length ws
  ps.zipIdx.map fun p => canEntry op port index (p.2 + 1 == ps.length) (252 * p.2) p.1

/-- CAN entries packed into pieces of at most 1,016 bytes. -/
def packInto (acc : List Byte) : List (List Byte) → List (List Byte)
  | [] => if acc.isEmpty then [] else [acc]
  | e :: es => if acc.isEmpty || acc.length + e.length ≤ 1016 then packInto (acc ++ e) es
    else acc :: packInto e es

/-- The words of a transmit buffer that are mirrored: 0 to 20 (R409). -/
def State.bufWords (s : State) (n b : Nat) : List Word := (List.range 21).map fun i => s.reg ⟨.CAN_TXW, n, b, i⟩

/-- R544 OP 5: the buffers requested, and those with a cancel that has not taken effect. -/
def State.reqWords (s : State) (n : Nat) : List Word :=
  [s.reg ⟨.CAN_TXPEND, n, 0, 0⟩, if (s.cp n).late then s.reg ⟨.CAN_TXPEND, n, 0, 0⟩ else 0]

/-- R544 OP 6. -/
def State.errWords (s : State) (n : Nat) : List Word := [s.reg ⟨.CAN_STAT, n, 0, 0⟩, s.reg ⟨.CAN_ERR, n, 0, 0⟩]

/-- The records at the head of `old` that are gone in `new`, tried from `r` on. -/
def removedHeads (old new : List (List Word)) : Nat → Nat → Nat
  | 0, r => r
  | fuel + 1, r => if (old.drop r).isPrefixOf new then r else removedHeads old new fuel (r + 1)

/-- What changed in a receive queue: heads removed, records written. -/
def queueEntries (n q : Nat) (old new : List (List Word)) : List (List Byte) :=
  let r := removedHeads old new old.length 0
  (old.take r).map (fun rc => canEntry 2 n q false 0 [rc.headD 0 &&& 0xFF]) ++
    (new.drop (old.length - r)).flatMap fun rc => canParts 1 n q rc

/-- What changed at a CAN port (R424, R533). -/
def State.canDelta (old new : State) (n : Nat) : List (List Byte) :=
  let bufs := (List.range 32).filter fun b => old.bufWords n b != new.bufWords n b
  let sts := (List.range 32).filter fun b => old.reg ⟨.CAN_TXS, n, b, 0⟩ != new.reg ⟨.CAN_TXS, n, b, 0⟩
  queueEntries n 0 (old.cp n).q0.recs (new.cp n).q0.recs ++ queueEntries n 1 (old.cp n).q1.recs (new.cp n).q1.recs ++
    bufs.flatMap (fun b => canParts 3 n b (new.bufWords n b)) ++
    sts.map (fun b => canEntry 4 n b false 0 [new.reg ⟨.CAN_TXS, n, b, 0⟩]) ++
    (if old.reqWords n = new.reqWords n then [] else [canEntry 5 n 0 false 0 (new.reqWords n)]) ++
    (if old.errWords n = new.errWords n then [] else [canEntry 6 n 0 false 0 (new.errWords n)])

/-- The lines and pulse units that mirrored contexts own. -/
def State.mirLines (s : State) : List Nat :=
  (s.regs.filterMap fun p => if p.1.reg = .FAB_LSRC then some p.1.i else none).filter fun n =>
    s.fld FAB_LSRC.KIND n == 6 && s.mirrored (s.fld FAB_LSRC.INDEX n)
def State.mirPus (s : State) : List Nat :=
  (s.regs.filterMap fun p => if p.1.reg = .PU_PH then some p.1.i else none).filter fun u =>
    s.bit PU_PH.OWNED u && s.mirrored (s.fld PU_PH.OWNER u)

/-- The PD word in force or shadowed at a pulse unit. -/
def State.pdNow (s : State) (u : Nat) : Word := Tbl.get s.fab.pdShadow u (s.reg ⟨.PU_PD, u, 0, 0⟩)

/-- The output command entries for what changed (R533, R540, R468). -/
def State.outDelta (old new : State) : List (List Byte) :=
  ((new.mirLines.filter fun n => old.fab.lines.getLsbD n != new.fab.lines.getLsbD n).map fun n =>
      outEntry 1 n 0 (if new.fab.lines.getLsbD n then 1 else 0)) ++
  ((new.mirPus.filter fun u => old.pdNow u != new.pdNow u).map fun u => outEntry 2 u 0 (new.pdNow u)) ++
  (((List.range 16).filter fun g => bitOf (old.fld FLT_STAT.FORCED) g != bitOf (new.fld FLT_STAT.FORCED) g).map fun g =>
      outEntry 4 g 0 (BitVec.ofNat 32 (b2n (bitOf (new.fld FLT_STAT.FORCED) g)))) ++
  (match new.sys.pend with
    | some p => if p.src ≤ 4 && old.sys.pend != new.sys.pend then [outEntry 5 0 0 (BitVec.ofNat 32 p.target)] else []
    | none => []) ++
  (if old.reg ⟨.NM_STAT, 0, 0, 0⟩ = new.reg ⟨.NM_STAT, 0, 0, 0⟩ then [] else [outEntry 6 0 0 (new.reg ⟨.NM_STAT, 0, 0, 0⟩)]) ++
  (if old.reg ⟨.NM_CTL, 0, 0, 0⟩ = new.reg ⟨.NM_CTL, 0, 0, 0⟩ then [] else [outEntry 7 0 0 (new.reg ⟨.NM_CTL, 0, 0, 0⟩)])

/-! ## Suspension units (R533, R535) -/

/-- A mirrored context has been suspended, quarantined or disabled by the command; in a fail-back it is held (R558). -/
def State.suspended (old new : State) (c : Nat) : Bool :=
  let a := old.cst c
  let b := new.cst c
  new.mirrored c && (((a == stRun || a == stReady) && (b == stWait || b == stSleep || (b == stHeld && new.twn.failback))) ||
    (a != stDisabled && a != stQuar && (b == stDisabled || b == stQuar)))

/-- A store of the context has not reached its bank. -/
def State.storesOpen (s : State) (c : Nat) : Bool :=
  s.coreList.any fun d => ((s.core d).memq.any fun o => o.ctx == c && o.kind != .load) ||
    ((s.core d).strq.any fun o => o.ctx == c && (o.kind == .copy || o.kind == .fill))

/-- The frames of a suspension unit: 93 store entries fit with the record, 127 without it. -/
def unitFrames (c : Nat) (record : List Word) (stores : List (Nat × Word)) : List (List Byte) :=
  let entry := fun (p : Nat × Word) => leBytes p.1 4 ++ leBytes p.2.toNat 4
  let rest := chunks 127 stores.length (stores.drop 93)
  let part := fun (k : Nat) (last : Bool) (rc : List Byte) (es : List (Nat × Word)) =>
    BitVec.ofNat 8 c :: BitVec.ofNat 8 (k + 128 * b2n last) :: (leBytes es.length 2 ++ rc ++ es.flatMap entry)
  part 0 rest.isEmpty (wordsLe record) (stores.take 93) ::
    rest.zipIdx.map fun p => part (p.2 + 1) (p.2 + 1 == rest.length) [] p.1

/-- The units that are due and whose stores have all reached memory leave. -/
def State.sendUnits (s : State) (t : TwnSt) : TwnSt :=
  t.due.foldl (fun t c =>
    if s.storesOpen c then t
    else
      let st := (Tbl.get t.stores c []).map fun a => (a, s.word a)
      let t := (unitFrames c (s.rcd c).words st).foldl (fun t p => t.send s.tb 1 p) t
      { t with stores := Tbl.set t.stores c [], due := t.due.filter (· != c) }) t

/-! ## Everything a command leaves behind -/

/-- The deltas of one command, in the order: suspension units, output commands, protection state, CAN. -/
def State.deltas (old new : State) : TwnSt :=
  let t := new.twn
  let due := (new.doc.ctxs.map (·.1)).filter fun c => State.suspended old new c && !t.due.contains c
  let t := new.sendUnits { t with due := t.due ++ due }
  let t := t.sendEntries new.tb 2 12 (State.outDelta old new)
  let t := t.sendEntries new.tb 3 16
    ((new.twins.filter fun n => old.fld HSW_STAT.STATE n != new.fld HSW_STAT.STATE n).map new.protEntry)
  ((packInto [] ((List.range (nCan new.variant)).flatMap fun n => State.canDelta old new n)).foldl
    (fun t p => t.send new.tb 4 p) t)

/-- R533: the state after a command, the mirror engine having shipped what the command changed. -/
def State.ship (old new : State) : State :=
  { new with twn := if old.ships && new.ships then State.deltas old new else new.twn }

/-- R527: TWOK_O goes low and stays low until the next Start completes. -/
def State.dropTwok (s : State) : State := s.flag TWN_STAT.TWOKO false

end Sys2Proof.Machine
end

