-- ==== Sys2Proof/Machine/Fabric.lean ====
section
/-! DEFINITION. The line fabric (spec/04): line levels, pulse units, logic cells, event routes, and the commands
FAB_LWR, FAB_LWRGg, PU_PD_WRITE and PU_GATE_RISE. -/

namespace Sys2Proof.Machine

/-! ## Lines -/

/-- The lines whose source register has been written; every other line has KIND 0 and level 0. -/
def State.lineIds (s : State) : List Nat :=
  s.regs.filterMap fun p => if p.1.reg = .FAB_LSRC then some p.1.i else none

/-- A line's level. -/
def State.line (s : State) (n : Nat) : Bool := s.fab.lines.getLsbD n

/-- R124: the level a line carries without a live source. -/
def State.deflt (s : State) (n : Nat) : Bool := s.bit FAB_LSRC.DEFLT n

/-- R144: a logic cell's lookup result, from the present line levels. -/
def State.lcLookup (s : State) (c : Nat) : Bool :=
  let a := b2n (s.line (s.fld LC_INAB.A c))
  let b := b2n (s.line (s.fld LC_INAB.B c))
  let g := b2n (s.line (s.fld LC_INCD.C c))
  let d := b2n (s.line (s.fld LC_INCD.D c))
  bitOf (s.fld LC_CFG.LUT c) (8 * d + 4 * g + 2 * b + a)

/-- R145: what drives a logic cell's output. -/
def State.lcOut (s : State) (c : Nat) : Bool :=
  if s.fld LC_CFG.MODE c = 0 then s.lcLookup c else s.fab.ff.getLsbD c

/-- R121, R505, R523: the reaction groups that either half forces; a half that is lost forces none. -/
def State.forcedBy (s : State) : BitVec 16 :=
  (if s.bit FLT_STAT.AOK then s.flt.forceA else 0) ||| (if s.bit FLT_STAT.BOK then s.flt.forceB else 0)

/-- R121, R123, R124: the level that a line's source gives it. -/
def State.srcLevel (s : State) (n : Nat) : Bool :=
  let i := s.fld FAB_LSRC.INDEX n
  let inv := s.bit FAB_LSRC.INV n
  match s.fld FAB_LSRC.KIND n with
  | 1 => xor inv (bitOf (s.fld INP_SLVL.LVL (i / 32)) (i % 32))
  | 2 => xor inv (s.bit HALL_STAT.LVL i)
  | 3 => xor inv (if i % 2 = 0 then s.bit AIN_VAL.CMP0 (i / 2) else s.bit AIN_VAL.CMP1 (i / 2))
  | 4 => xor inv (s.bit PU_STAT.OUT i)
  | 5 => xor inv (s.lcOut i)
  | 6 => if s.ctxLive i && s.fab.written.getLsbD n then s.fab.ctxVal.getLsbD n else s.deflt n
  | 7 => xor inv (s.forcedBy.getLsbD i)
  | _ => s.deflt n

/-- A vector with bit `n` set to `b`. -/
def setBitV {w : Nat} (v : BitVec w) (n : Nat) (b : Bool) : BitVec w :=
  if b then v ||| (1#w <<< n) else v &&& ~~~ (1#w <<< n)

/-- One pass over the configured lines, each taking the level of its source. -/
def State.linePass (s : State) : State :=
  { s with fab := { s.fab with lines := s.lineIds.foldl (fun v n => setBitV v n (s.srcLevel n)) s.fab.lines } }

/-! ## Pulse units -/

/-- The units of a pulse unit's stagger group, ascending (R142). -/
def State.sgMembers (s : State) (sg : Nat) : List Nat :=
  (List.range (nPu s.variant)).filter fun u => s.fld PU_CFG.SG u == sg

/-- R137, R142: the counter value from which a unit starts. -/
def State.puStart (s : State) (u : Nat) : Nat :=
  let per := s.fld PU_PD.PER u
  let sg := s.fld PU_CFG.SG u
  if per = 0 then 0
  else if sg = 0 then s.fld PU_PH.PHASE u % per
  else
    let ms := s.sgMembers sg
    (ms.filter (· < u)).length * per / ms.length

/-- The unit's gate is high, or the unit has no gate (R138). -/
def State.puGate (s : State) (u : Nat) : Bool := !s.bit PU_CFG.GATEEN u || s.line (s.fld PU_CFG.GATE u)

/-- The unit is a one-shot unit (R139). -/
def State.puOneShot (s : State) (u : Nat) : Bool := s.fld PU_CFG.MODE u == 1

/-- The unit's counter is set, its output following (R135). -/
def State.puCount (s : State) (u c : Nat) : State :=
  (s.put PU_STAT.COUNT c u).flag PU_STAT.OUT (decide (c < s.fld PU_PD.DUTY u)) u

/-- The prescaler restarts (R134). -/
def State.puPresc (s : State) (u n : Nat) : State := { s with fab := { s.fab with presc := Tbl.set s.fab.presc u n } }

/-- R136: a shadowed PD takes effect. -/
def State.puTakePd (s : State) (u : Nat) : State :=
  match s.fab.pdShadow.find? (fun p => p.1 == u) with
  | some (_, w) =>
    { s with fab := { s.fab with pdShadow := s.fab.pdShadow.filter (fun p => p.1 != u) } }.setReg ⟨.PU_PD, u, 0, 0⟩ w
  | none => s

/-- The unit rests: gated off, one-shot complete, or not configured (RUN reads 0, the output is low). -/
def State.puRest (s : State) (u : Nat) : State :=
  (((s.puTakePd u).flag PU_STAT.RUN false u).flag PU_STAT.OUT false u).put PU_STAT.COUNT
    (if s.puOneShot u then 0 else (s.puTakePd u).puStart u) u |>.puPresc u 0

/-- R137, R148: the unit restarts from its starting value; a one-shot unit waits for its gate. -/
def State.puRestart (s : State) (u : Nat) : State :=
  let s := { s with fab := { s.fab with gatePrev := setBitV s.fab.gatePrev u (s.puGate u) } }
  if s.fld PU_PD.PER u = 0 || s.puOneShot u || !s.puGate u then s.puRest u
  else ((s.puCount u (s.puStart u)).flag PU_STAT.RUN true u).puPresc u 0

/-- The configured pulse units. -/
def State.puIds (s : State) : List Nat :=
  s.regs.filterMap fun p => if p.1.reg = .PU_CFG then some p.1.i else none

/-- R138: a continuous unit whose gate is low rests; the gate levels that a rise is judged against follow. -/
def State.gateLow (s : State) : State :=
  s.puIds.foldl (fun s u =>
    if s.bit PU_CFG.GATEEN u && !s.line (s.fld PU_CFG.GATE u) then
      let s := { s with fab := { s.fab with gatePrev := setBitV s.fab.gatePrev u false } }
      if s.puOneShot u then s else s.puRest u
    else s) s

/-- R462: the LWLINE level that a rise is judged against follows a fall. -/
def State.lwFall (s : State) : State :=
  if s.line (s.fld NM_CFG.LWLINE) then s else { s with nm := { s.nm with line := false } }

/-! ## Settling and edges -/

/-- R149: the edges that the routes see between two sets of line levels. -/
def State.newEdges (s : State) (old : BitVec 512) : List (Nat × Bool) :=
  (s.regs.filterMap fun p => if p.1.reg = .ER_CFG then some p.1.i else none).filterMap fun r =>
    let n := s.fld ER_CFG.LINE r
    let was := old.getLsbD n
    let is := s.line n
    let e := s.fld ER_CFG.EDGE r
    if was != is && ((is && (e == 1 || e == 3)) || (!is && (e == 2 || e == 3))) then some (r, is) else none

/-- Five passes over the lines, and the gates they leave low. -/
def State.settlePass (s : State) : State := s.linePass.linePass.linePass.linePass.linePass.gateLow

/-- R147, R152: the lines take the levels of their sources, through at most four COMB cells, and gated units
follow their gates; event routes see the edges. Nothing happens while the fabric is down. -/
def State.settleLines (s : State) : State :=
  if !s.sys.fabricUp then s else
  let old := s.fab.lines
  let s := s.settlePass.settlePass.settlePass.lwFall
  { s with fab := { s.fab with edges := s.fab.edges ++ s.newEdges old } }

/-- R134, R135: a unit's period ends: the counter wraps (or the one-shot run ends), a shadowed PD takes effect, and the
units that count this unit's period ends tick. The first argument bounds the cascade by the number of units. -/
def State.periodEnd : Nat → Nat → State → State
  | 0, _, s => s
  | fuel + 1, u, s =>
    let s := if s.puOneShot u then s.puRest u else ((s.puTakePd u).puCount u 0).puPresc u 0
    let v := u + 1
    if v < nPu s.variant && s.bit PU_CFG.TICK v && s.bit PU_STAT.RUN v then
      let c := s.fld PU_STAT.COUNT v + 1
      if s.fld PU_PD.PER v ≤ c then State.periodEnd fuel v s else s.puCount v c
    else s

/-- R134, R135: a pulse unit's counter on one fabric clock edge: TICK = 0 units tick every PRE + 1 edges and wrap after
PER − 1, which is their period end. -/
def State.puEdge (s : State) (u : Nat) : State :=
  if s.bit PU_STAT.RUN u && !s.bit PU_CFG.TICK u then
    let p := Tbl.get s.fab.presc u 0
    if p < s.fld PU_CFG.PRE u then s.puPresc u (p + 1)
    else
      let c := s.fld PU_STAT.COUNT u + 1
      if c < s.fld PU_PD.PER u then (s.puCount u c).puPresc u 0 else State.periodEnd (nPu s.variant) u s
  else s

/-- R134, R135: the next clock edge ends the unit's period. -/
def State.puWraps (s : State) (u : Nat) : Bool :=
  s.bit PU_STAT.RUN u && !s.bit PU_CFG.TICK u && s.fld PU_CFG.PRE u ≤ Tbl.get s.fab.presc u 0 &&
    s.fld PU_PD.PER u ≤ s.fld PU_STAT.COUNT u + 1

/-- R134, R135: the clock edges until the unit's period ends. -/
def State.puLeft (s : State) (u : Nat) : Nat :=
  (s.fld PU_PD.PER u - s.fld PU_STAT.COUNT u) * (s.fld PU_CFG.PRE u + 1) - Tbl.get s.fab.presc u 0

/-- R145: the flip-flop of a REG or CAPTURE cell on one fabric clock edge. -/
def State.lcEdge (s : State) (ids : List Nat) : State :=
  let load := fun (f : BitVec 128) c =>
    let d := s.line (s.fld LC_INCD.D c)
    match s.fld LC_CFG.MODE c with
    | 1 => setBitV f c (s.lcLookup c)
    | 2 => if d && !s.fab.dPrev.getLsbD c then setBitV f c (s.lcLookup c) else f
    | _ => f
  { s with fab := { s.fab with
      ff := ids.foldl load s.fab.ff
      dPrev := ids.foldl (fun v c => setBitV v c (s.line (s.fld LC_INCD.D c))) s.fab.dPrev } }

/-- The configured logic cells. -/
def State.lcIds (s : State) : List Nat :=
  s.regs.filterMap fun p => if p.1.reg = .LC_CFG then some p.1.i else none

/-- One fabric clock edge: counters count, flip-flops load, lines settle (R122, R134, R145). -/
def State.fabricEdge (s : State) : State :=
  if !s.sys.fabricUp then s else (forEach s.puIds (fun u s => s.puEdge u) (s.lcEdge s.lcIds)).settleLines

/-- R122, R145: lines change on a clock edge, on which the flip-flops load what the lines carried before it. The counters count on the
edges that pass between commands (notes/assumptions/8.md). -/
def State.settle (s : State) : State := if s.sys.fabricUp then (s.lcEdge s.lcIds).settleLines else s

/-- R145, R146: the cell's flip-flop takes INIT, and D counts as it stands: only a later rise captures. -/
def State.lcInit (s : State) (c : Nat) : State :=
  { s with fab := { s.fab with ff := setBitV s.fab.ff c (s.bit LC_CFG.INIT c)
                               dPrev := setBitV s.fab.dPrev c (s.line (s.fld LC_INCD.D c)) } }

/-- R639: the time base is reloaded from the always-on island's count, which is accurate to 31 µs and rounded up: a free value. -/
def State.reloadTime (s : State) : State :=
  let (x, s) := s.takeFree
  { s with tb := s.tb + x.toNat % 3101 }

/-- R152: the fabric starts: lines take their defaults and then their sources, pulse units load their starting
values, flip-flops load INIT, edge counts clear (ERr_CNT), and event routes wait for the boundary (R151). -/
def State.fabricStart (s : State) : State :=
  let s := s.reloadTime
  let s := { s with
    sys := { s.sys with fabricUp := true }
    fab := { s.fab with lines := 0, written := 0, ctxVal := 0, edges := [], evOn := false, dPrev := 0, gatePrev := 0
                        pdShadow := [], presc := [] } }
  let s := { s with fab := { s.fab with lines := s.lineIds.foldl (fun v n => setBitV v n (s.deflt n)) 0 } }
  let s := forEach s.lcIds (fun c s => s.lcInit c) s
  let s := { s with regs := s.regs.filter fun p => p.1.reg != Reg.ER_CNT }
  let s := (forEach s.puIds (fun u s => s.puRestart u) s).settleLines
  { s with fab := { s.fab with edges := [] } }

/-- R74, R113: the fabric powers down; its lines are gone. -/
def State.fabricStop (s : State) : State :=
  { s with
    sys := { s.sys with fabricUp := false }
    fab := { s.fab with lines := 0, edges := [], evOn := false }
    regs := s.regs.filter fun p => p.1.reg != Reg.PU_STAT }

/-- The registers of a unit whose change restarts it (R148). -/
def isPuCfg (u : Nat) (r : RegRef) : Bool := r.i == u && (r.reg == Reg.PU_CFG || r.reg == Reg.PU_PD || r.reg == Reg.PU_PH)

/-- R131, R146, R148: what a mode boundary's new words do in the fabric, the words having been set: a line with a new
owner starts at its default, a changed cell takes INIT, and a changed unit, with every member of its stagger group,
restarts, and with it the group that a unit leaves. `gained` are the lines that gained an owner; `old` is the state before. -/
def State.fabricBoundary (s old : State) (changed : List RegRef) (gained : List Nat) : State :=
  let s := { s with fab := { s.fab with written := gained.foldl (fun v n => setBitV v n false) s.fab.written } }
  let cells := s.lcIds.filter fun c =>
    changed.any fun r => r.i == c && (r.reg == Reg.LC_CFG || r.reg == Reg.LC_INAB || r.reg == Reg.LC_INCD)
  let s := forEach cells (fun c s => s.lcInit c) s
  let direct := s.puIds.filter fun u => changed.any (isPuCfg u)
  let sgs := (direct.flatMap fun u => [s.fld PU_CFG.SG u, old.fld PU_CFG.SG u]).filter (· != 0)
  let units := s.puIds.filter fun u => direct.contains u || sgs.contains (s.fld PU_CFG.SG u)
  let s := { s with fab := { s.fab with pdShadow := s.fab.pdShadow.filter fun p => !units.contains p.1 } }
  let s := s.settleLines
  (forEach units (fun u s => s.puRestart u) s).settleLines

/-- R150, R151: edges seen before the routes deliver are counted and go no further. -/
def State.flushEdges (s : State) : State :=
  if s.fab.evOn then s
  else
    let s' := forEach s.fab.edges (fun e s => s.wrap ER_CNT.COUNT e.1) s
    { s' with fab := { s'.fab with edges := [] } }

/-! ## Ownership and writes by contexts -/

/-- R128: a write of a line (`kind` 0) or pulse unit (`kind` 1) that the context does not own is discarded, recorded in
FAB_OWNERR and reported at the DOC/CTX source, kind 4 (R382). -/
def State.ownershipViolation (s : State) (c kind index : Nat) : State :=
  ((((s.put FAB_OWNERR.INDEX index).put FAB_OWNERR.KIND kind).put FAB_OWNERR.CTX c).flag FAB_OWNERR.VALID true
    |>.count FAB_OWNERR.COUNT).raise 8 (s.fld CTXC_STAT.CORE c) 4 c

/-- The context owns the line (R125). -/
def State.ownsLine (s : State) (c n : Nat) : Bool := s.fld FAB_LSRC.KIND n == 6 && s.fld FAB_LSRC.INDEX n == c

/-- Values written to owned lines. -/
def State.writeLines (s : State) (vs : List (Nat × Bool)) : State :=
  let put := fun (f : FabSt) (p : Nat × Bool) =>
    { f with ctxVal := setBitV f.ctxVal p.1 p.2, written := setBitV f.written p.1 true }
  State.settle { s with fab := vs.foldl put s.fab }

/-- R125, R128, R130: a context writes lines. A context that is disabled or quarantined is not heard; a line the
variant does not fit makes the write a reserved one (R634, R354). -/
def State.ctxWriteLines (s : State) (c : Nat) (vs : List (Nat × Bool)) : State :=
  if !s.sys.fabricUp || !s.ctxLive c then s
  else if vs.any (fun p => nLines s.variant ≤ p.1) then s.pwrsv c
  else match vs.find? (fun p => !s.ownsLine c p.1) with
    | some (n, _) => s.ownershipViolation c 0 n
    | none => s.writeLines vs

/-- FAB_LWR (R125): one line; non-zero reserved bits discard the write and set PWRSV. -/
def State.runFabLwr (s : State) (c : Nat) (w : Word) : State :=
  if ext w 9 7 ≠ 0 || ext w 17 15 ≠ 0 then s.pwrsv c
  else s.ctxWriteLines c [(ext w 0 9, bitOf (ext w 16 1) 0)]

/-- The command of the same name. -/
def execFabLwr (c : Nat) (w : Word) (s : State) : Out := .next <| s.ship <| s.runFabLwr c w

/-- The lines and levels that a FAB_LWRGg write selects (R125). -/
def lwrgLines (g : Nat) (w : Word) : List (Nat × Bool) :=
  ((List.range 16).filter fun i => bitOf (ext w 0 16) i).map fun i => (16 * g + i, bitOf (ext w 16 16) i)

/-- FAB_LWRGg (R125, R126): the selected lines of a group on one fabric edge. -/
def State.runFabLwrg (s : State) (c g : Nat) (w : Word) : State := if 32 ≤ g then s else s.ctxWriteLines c (lwrgLines g w)

/-- The command of the same name. -/
def execFabLwrg (c g : Nat) (w : Word) (s : State) : Out := .next <| s.ship <| s.runFabLwrg c g w

/-- R136, R143: a PD word reaches a unit: at once where the unit rests, else at its next period end; in a stagger group
its PER field is ignored. -/
def State.pdWrite (s : State) (u : Nat) (w : Word) : State :=
  let w := if s.fld PU_CFG.SG u = 0 then w else ins w 0 16 (s.fld PU_PD.PER u)
  if s.bit PU_STAT.RUN u then
    { s with fab := { s.fab with pdShadow := Tbl.set s.fab.pdShadow u w } }
  else
    let s := s.setReg ⟨.PU_PD, u, 0, 0⟩ w
    if s.puOneShot u then s else s.put PU_STAT.COUNT (s.puStart u) u

/-- PU_PD_WRITE (R140, R128, R354): by the owning context; PER 0 and 1 are reserved, but for a group member, whose PER
is ignored. -/
def State.runPuPdWrite (s : State) (c u : Nat) (w : Word) : State :=
  if !s.sys.fabricUp || !s.ctxLive c || nPu s.variant ≤ u then s
  else if s.fld PU_CFG.SG u = 0 && ext w 0 16 < 2 then s.pwrsv c
  else if s.bit PU_PH.OWNED u && s.fld PU_PH.OWNER u = c then s.pdWrite u w
  else s.ownershipViolation c 1 u

/-- The command of the same name. -/
def execPuPdWrite (c u : Nat) (w : Word) (s : State) : Out := .next <| s.ship <| s.runPuPdWrite c u w

/-- R142: the units that restart with a unit on their gate's rise: its stagger group, or itself. -/
def State.gateMates (s : State) (u : Nat) : List Nat :=
  if s.fld PU_CFG.SG u = 0 then [u] else s.sgMembers (s.fld PU_CFG.SG u)

/-- PU_GATE_RISE (R138, R139, R142): the gate is high and was low: the unit restarts from its starting value with its stagger
group, or starts a one-shot run; during a run a rise is ignored. -/
def execPuGateRise (u : Nat) (s : State) : Out :=
  .next <| s.ship <|
    if s.sys.fabricUp && u < nPu s.variant && s.bit PU_CFG.GATEEN u && s.puGate u && !s.fab.gatePrev.getLsbD u then
      let s := { s with fab := { s.fab with gatePrev := setBitV s.fab.gatePrev u true } }
      if s.puOneShot u then
        if s.bit PU_STAT.RUN u || s.fld PU_PD.PER u = 0 then s
        else (((s.puCount u 0).flag PU_STAT.RUN true u).puPresc u 0).settle
      else (forEach (s.gateMates u) (fun v s => s.puRestart v) s).settle
    else s

end Sys2Proof.Machine
end

