-- ==== Sys2Proof/Machine/Inputs.lean ====
section
/-! DEFINITION. Switch, analogue and hall inputs (spec/09 R309 to R327). -/

namespace Sys2Proof.Machine

/-- R313, R322: the fabric starts: every conditioned level is 0 until the first sample, and readings are not valid yet. -/
def State.inputsStart (s : State) : State :=
  let clear := fun (p : RegRef × Word) =>
    match p.1.reg with
    | .INP_SLVL => (p.1, 0#32)
    | .AIN_VAL => (p.1, p.2 &&& (1#32 <<< 14))
    | .HALL_STAT => (p.1, p.2 &&& ~~~ 1#32)
    | _ => p
  { s with regs := s.regs.map clear, inp := { s.inp with raw := 0, sampled := 0, deb := [], upd := [], cmp := [], overRep := 0, held := 0 } }

/-- R312: DEB of a switch input. -/
def State.sinDeb (s : State) (n : Nat) : Nat := ext (s.reg ⟨.INP_SDEB, n / 8, 0, 0⟩) (4 * (n % 8)) 4

/-- R314: debounce counting restarts for the switch inputs and comparators whose settings a boundary changes; a hall input whose mode
changes is checked anew (R326). `old` is the state before. -/
def State.inputsBoundary (s old : State) (changed : List RegRef) : State :=
  let sg := fun n => (changed.any fun r => r.reg == .INP_SGRP && r.i == n / 8) || old.sinDeb n != s.sinDeb n
  let held := changed.foldl (fun v r => if r.reg == .HALL_CFG then setBitV v r.i false else v) s.inp.held
  let ac := fun k => changed.any fun r => (r.reg == .AIN_CFG && r.i == k / 2) || (r.reg == .AIN_CMP && r.i == k / 2 && r.j == k % 2)
  { s with inp := { s.inp with
      deb := s.inp.deb.filter fun p => !sg p.1
      cmp := s.inp.cmp.filter fun p => !ac p.1
      held := held } }

/-! ## Switch inputs -/

/-- The conditioned level of a switch input. -/
def State.slvl (s : State) (n : Nat) : Bool := bitOf (s.fld INP_SLVL.LVL (n / 32)) (n % 32)

def State.setSlvl (s : State) (n : Nat) (b : Bool) : State :=
  s.put INP_SLVL.LVL (ins (s.reg ⟨.INP_SLVL, n / 32, 0, 0⟩) (n % 32) 1 (b2n b)).toNat (n / 32)

/-- R311: the raw level of a sampled voltage; between the thresholds it keeps its previous value. -/
def rawLevel (prev : Bool) (mv thrl thrh : Nat) : Bool :=
  if 100 * thrh ≤ mv then true else if mv ≤ 100 * thrl then false else prev

/-- One sample of one switch input (R311 to R313): the first one after a fabric start is taken without debounce. -/
def State.sinSample (s : State) (n mv : Nat) : State :=
  let g := n / 8
  let r := rawLevel (s.inp.raw.getLsbD n) mv (s.fld INP_SGRP.THRL g) (s.fld INP_SGRP.THRH g)
  let deb := s.sinDeb n
  let first := !s.inp.sampled.getLsbD n
  let s := { s with inp := { s.inp with raw := setBitV s.inp.raw n r, sampled := setBitV s.inp.sampled n true } }
  if r = s.slvl n then { s with inp := { s.inp with deb := Tbl.set s.inp.deb n 0 } }
  else
    let k := Tbl.get s.inp.deb n 0 + 1
    if first || deb ≤ k then { (s.setSlvl n r) with inp := { s.inp with deb := Tbl.set s.inp.deb n 0 } }
    else { s with inp := { s.inp with deb := Tbl.set s.inp.deb n k } }

/-- SIN_SAMPLE (R311, R636): the eight pins of a group at the end of the wetting pulse, in mV. -/
def execSinSample (g : Nat) (mv : List Nat) (s : State) : Out :=
  .next <| s.ship <|
    if s.sys.fabricUp && sinFitted s.variant (8 * g) then
      (forEach ((List.range 8).zip mv) (fun p s => s.sinSample (8 * g + p.1) p.2) s).settle
    else s

/-! ## Analogue inputs -/

/-- The sensor supply of an analogue input: 0 VSNSA, 1 VSNSB (R309). -/
def ainSupply (j : Nat) : Nat := if j < 8 then 0 else 1

/-- R319: the converter's reading, from the pin and supply voltages in mV. -/
def State.ainRaw (s : State) (j mv vsMv : Nat) : Nat :=
  if s.bit AIN_CFG.RATIO j then (if vsMv = 0 then 4095 else 4095 * mv / vsMv)
  else 4095 * mv / (if s.bit AIN_CFG.RANGE j then 20000 else 5000)

/-- R319, R606: VAL: the reading corrected by the input's record, whose OFFSET counts sixteenths. -/
def State.ainVal (s : State) (j mv vsMv : Nat) : Nat := min 4095 (s.corrected (200 + j) 1 (16 * s.ainRaw j mv vsMv) / 16).toNat

/-- R323: a ratiometric input holds its reading while its sensor supply is in overload. -/
def State.ainHolds (s : State) (j : Nat) : Bool := s.inp.ovl.getLsbD (ainSupply j) && s.bit AIN_CFG.RATIO j

/-- R319, R323: what an analogue input reads at the given pin and sensor supply voltages, in mV: VAL as it is while it is held. -/
def State.ainReads (s : State) (j mv vsMv : Nat) : Nat := if s.ainHolds j then s.fld AIN_VAL.VAL j else s.ainVal j mv vsMv

/-- VAL takes a reading; below 4,095 the next over-range report is due again (R324). -/
def State.ainShow (s : State) (j v : Nat) : State :=
  let s := if v < 4095 then { s with inp := { s.inp with overRep := setBitV s.inp.overRep j false } } else s
  s.put AIN_VAL.VAL v j

/-- The level a comparator would take at a reading, if the reading decides one (R321). -/
def State.cmpWant (s : State) (j c v : Nat) : Option Bool :=
  let thr := s.fld AIN_CMP.THR j c
  if thr ≤ v then some true else if v + s.fld AIN_CMP.HYS j c ≤ thr then some false else none

/-- A comparator's level. -/
def State.cmpLvl (s : State) (j c : Nat) : Bool := if c = 0 then s.bit AIN_VAL.CMP0 j else s.bit AIN_VAL.CMP1 j

def State.setCmp (s : State) (j c : Nat) (b : Bool) : State :=
  if c = 0 then s.flag AIN_VAL.CMP0 b j else s.flag AIN_VAL.CMP1 b j

/-- R321, R313: a comparator after one update; `first` takes it without debounce. -/
def State.cmpStep (s : State) (first : Bool) (j v c : Nat) : State :=
  let k := 2 * j + c
  match s.cmpWant j c v with
  | none => { s with inp := { s.inp with cmp := Tbl.set s.inp.cmp k 0 } }
  | some b =>
    if b = s.cmpLvl j c then { s with inp := { s.inp with cmp := Tbl.set s.inp.cmp k 0 } }
    else
      let n := Tbl.get s.inp.cmp k 0 + 1
      if first || s.fld AIN_CMP.DEB j c ≤ n then { (s.setCmp j c b) with inp := { s.inp with cmp := Tbl.set s.inp.cmp k 0 } }
      else { s with inp := { s.inp with cmp := Tbl.set s.inp.cmp k n } }

/-- AIN_UPDATE (R319 to R323): the mean of ten samples, every 100 µs, and the input's sensor supply. The first one after a
fabric start sets the comparators (R313); until 500 µs after it VAL reads 0 and they keep their levels. In overload of its
supply a ratiometric input holds both. -/
def execAinUpdate (j mv vsMv : Nat) (s : State) : Out :=
  .next <| s.ship <|
    if !s.sys.fabricUp || !ainFitted s.variant j then s
    else
      let s := if j < 8 then s.put INP_SUPSTAT.VSNSA (satTo (vsMv / 2) 12) else s.put INP_SUPSTAT.VSNSB (satTo (vsMv / 2) 12)
      let n := Tbl.get s.inp.upd j 0
      let v := s.ainVal j mv vsMv
      let s := { s with inp := { s.inp with upd := Tbl.set s.inp.upd j (min (n + 1) 5) } }
      let cmps := fun (s : State) => (s.cmpStep (n = 0) j v 0).cmpStep (n = 0) j v 1
      if s.ainHolds j then s
      else if n = 0 then (cmps s).settle
      else if n < 4 then s
      else
        (cmps (s.ainShow j v)).settle

/-- AIN_OVER_RANGE (R324): VAL has been 4,095 for 10 ms: OVR and kind 3, once until it falls. -/
def execAinOverRange (j : Nat) (s : State) : Out :=
  .next <| s.ship <|
    if s.sys.fabricUp && ainFitted s.variant j && s.fld AIN_VAL.VAL j = 4095 && !s.inp.overRep.getLsbD j then
      let s := { s with inp := { s.inp with overRep := setBitV s.inp.overRep j true } }
      (s.flag AIN_VAL.OVR true j).raise 7 j 3 0
    else s

/-! ## Sensor supplies -/

/-- A sensor supply (0 VSNSA, 1 VSNSB, 2 HALLSUP) is fitted, enabled and powered (R322). -/
def State.supOn (s : State) (u : Nat) : Bool :=
  s.sys.fabricUp && match u with
    | 0 => s.bit INP_SUPCFG.ENA
    | 1 => s.bit INP_SUPCFG.ENB && !s.half
    | 2 => s.bit INP_SUPCFG.ENH
    | _ => false

/-- SENSOR_SUPPLY_OVERLOAD (R323, R326): below 4.5 V for 1 ms, or HALLSUP in overload: kind 2 with the voltage in 10 mV. -/
def execSensorSupplyOverload (u mv : Nat) (s : State) : Out :=
  .next <| s.ship <|
    if s.supOn u && !s.inp.ovl.getLsbD u then
      let s := { s with inp := { s.inp with ovl := setBitV s.inp.ovl u true } }
      let s := match u with
        | 0 => (s.flag INP_SUPSTAT.OVLA true).put INP_SUPSTAT.VSNSA (satTo (mv / 2) 12)
        | 1 => (s.flag INP_SUPSTAT.OVLB true).put INP_SUPSTAT.VSNSB (satTo (mv / 2) 12)
        | _ => s.flag INP_SUPSTAT.OVLH true
      s.raise 7 (24 + u) 2 (satTo (mv / 10) 12)
    else s

/-- SENSOR_SUPPLY_RECOVERY (R323). -/
def execSensorSupplyRecovery (u : Nat) (s : State) : Out :=
  .next <| s.ship <| if u < 3 then { s with inp := { s.inp with ovl := setBitV s.inp.ovl u false } } else s

/-! ## Hall inputs -/

/-- R325: the level of a two-wire current (0.1 mA). -/
def twoWire (prev : Bool) (i ith : Nat) : Bool := if ith ≤ i then true else if i + 10 ≤ ith then false else prev

/-- R326: an open or short of a two-wire sensor stands until the current returns within 2 to 25 mA. -/
def State.hallHold (s : State) (h i : Nat) (on : Bool) : State :=
  let stay := i < 20 || 250 < i
  { s with inp := { s.inp with held := setBitV s.inp.held h ((on || s.inp.held.getLsbD h) && stay) } }

/-- HALL_LEVEL_CHANGE (R325, R313, R326): a change that has persisted for FILT, or the first sample after a fabric start; `lvl` is a
three-wire pin's level, `i` a two-wire sensor's current in 0.1 mA. In an open or short the level holds. -/
def execHallLevelChange (h : Nat) (lvl : Bool) (i : Nat) (s : State) : Out :=
  .next <| s.ship <|
    let m := s.fld HALL_CFG.MODE h
    if !s.sys.fabricUp || !hallFitted s.variant h || m = 0 then s
    else
      let old := s.bit HALL_STAT.LVL h
      let s := if m = 2 then (s.put HALL_STAT.I (satTo i 10) h).hallHold h i false else s
      let new := if m = 2 then (if s.inp.held.getLsbD h then old else twoWire old i (s.fld HALL_CFG.ITH h)) else lvl
      if new = old then s else ((s.flag HALL_STAT.LVL new h).wrap HALL_STAT.EDGES h).settle

/-- HALL_OPEN_SHORT (R326): a two-wire current below 2.0 mA or above 25 mA for 1 ms; the level holds. -/
def execHallOpenShort (h i : Nat) (s : State) : Out :=
  .next <| s.ship <|
    if !s.sys.fabricUp || !hallFitted s.variant h || s.fld HALL_CFG.MODE h ≠ 2 then s
    else
      let s := (s.put HALL_STAT.I (satTo i 10) h).hallHold h i true
      if i < 20 then (s.flag HALL_STAT.OPEN true h).raise 7 (16 + h) 0 i
      else if 250 < i then (s.flag HALL_STAT.SHORT true h).raise 7 (16 + h) 1 (satTo i 12)
      else s

end Sys2Proof.Machine
end

