-- ==== Sys2Proof/Machine/Contexts.lean ====
section
/-! DEFINITION. The context engine (spec/11 R360 to R382): events, scheduling, budgets, quarantine, migration, and the
commands of its family. -/

namespace Sys2Proof.Machine

/-! ## Priorities -/

/-- R371: the effective priority, 0 while demoted. -/
def State.prio (s : State) (c : Nat) : Nat := if s.bit CTXC_STAT.DEMOTED c then 0 else s.fld CTXC_CFG.PRIO c

/-- CTXc_STAT.EPRIO follows the effective priority. -/
def State.syncPrio (s : State) (c : Nat) : State := s.put CTXC_STAT.EPRIO (s.prio c) c

/-- A core's state code: 0 OFF, 1 IDLE, 2 RUN, 3 FAILED. -/
def State.coreSt (s : State) (d : Nat) : Nat := s.fld DOC_STAT.STATE d

/-- The CTX_MIG target of a core. -/
def State.migTarget (s : State) (d : Nat) : Nat :=
  match d with
  | 0 => s.fld CTX_MIG.MIG0
  | 1 => s.fld CTX_MIG.MIG1
  | 2 => s.fld CTX_MIG.MIG2
  | _ => s.fld CTX_MIG.MIG3

/-- R379: the core that stands in for core `a`: itself, or where it has failed the CTX_MIG target, which may have failed in turn. -/
def State.standIn (s : State) : Nat → Nat → Nat
  | 0, a => a
  | fuel + 1, a => if a < 4 && s.coreSt a == 3 then s.standIn fuel (s.migTarget a) else a

/-- R379: the core a context is pinned to; 4 for a floating one. -/
def State.affin (s : State) (c : Nat) : Nat := s.standIn 4 (s.fld CTXC_CFG.AFFIN c)

/-! ## Switching (R366 to R369) -/

/-- `a` goes before `b` among READY contexts (R366): higher priority, then earlier READY, then lower number. -/
def State.before (s : State) (a b : Nat) : Bool :=
  if s.prio a != s.prio b then decide (s.prio b < s.prio a)
  else if (s.ctx a).readySeq != (s.ctx b).readySeq then decide ((s.ctx a).readySeq < (s.ctx b).readySeq)
  else decide (a < b)

/-- The contexts of a list that come first under `before`. -/
def State.firstOf (s : State) : List Nat → Option Nat
  | [] => none
  | c :: cs => match s.firstOf cs with
    | none => some c
    | some b => if s.before c b then some c else some b

/-- A context becomes READY. -/
def State.makeReady (s : State) (c : Nat) : State :=
  { (s.setCtx c { s.ctx c with readySeq := s.doc.seq }).setCst c stReady with
    doc := { ((s.setCtx c { s.ctx c with readySeq := s.doc.seq }).setCst c stReady).doc with seq := s.doc.seq + 1 } }

/-- R360: a record in the context store becomes the present one: at a switch-out. -/
def State.storeRcd (s : State) (c : Nat) : State := s.setCtx c { s.ctx c with stored := s.rcd c }

/-- A context leaves its core: the core is idle, its last context stays shown. -/
def State.leaveCore (s : State) (c : Nat) : State :=
  let d := s.fld CTXC_STAT.CORE c
  if s.running d = some c then ((s.put DOC_STAT.STATE 1 d).flag DOC_STAT.WAIT false d).storeRcd c else s

/-- R130: the lines that a context owns go to their defaults. -/
def State.defaultLines (s : State) (c : Nat) : State :=
  let own := s.lineIds.filter (s.ownsLine c)
  State.settle { s with fab := { s.fab with written := own.foldl (fun v n => setBitV v n false) s.fab.written } }

/-- R357 step 4: results of loads and operations in flight are discarded, that of an atomic too, which still writes; stores, string
operations and window writes complete. -/
def State.dropLoads (s : State) (c : Nat) : State :=
  let s := s.setCtx c { s.ctx c with div := none }
  let mute := fun (o : MemOp) => if o.ctx == c then { o with mute := true } else o
  forEach s.coreList (fun d s => s.setCore d { s.core d with
    memq := ((s.core d).memq.filter fun o => !(o.ctx == c && o.kind == .load)).map mute }) s

/-- R373: a quarantine takes effect: lines default, pending events clear, cause and counts are recorded. -/
def State.quarantined (s : State) (c cause : Nat) : State :=
  let d := s.fld CTXC_STAT.CORE c
  let s := (s.leaveCore c).dropLoads c
  let s := s.setCtx c { s.ctx c with qpend := none }
  let s := ((s.setCst c stQuar).put CTXC_STAT.QCAUSE cause c).count CTXC_STAT.QCNT c
  let s := s.setPort c pEvtPend 0
  let s := (((s.put CTX_LASTQ.CTX c).put CTX_LASTQ.QCAUSE cause).put CTX_LASTQ.CORE d).flag CTX_LASTQ.VALID true
  (s.dropReader c).defaultLines c

/-- A running context leaves its core at a word boundary for READY; a quarantine that awaits the boundary takes effect (R373). -/
def State.offCore (s : State) (c : Nat) : State :=
  match (s.ctx c).qpend with
  | some cause => s.quarantined c cause
  | none => (s.leaveCore c).makeReady c

/-- The running context of a core is preempted (R367). -/
def State.preempt (s : State) (d : Nat) : State :=
  match s.running d with
  | some c => s.offCore c
  | none => s

/-- The longest run time of the activation in progress, in µs (R371). -/
def State.budget (s : State) (c : Nat) : Nat := ((s.ctx c).budget).getD (s.fld CTXC_CFG.BUDGET c)

/-- Core `d` runs context `c`. An activation begins from the initial state or from a wait (R370). -/
def State.switchIn (s : State) (c d : Nat) : State :=
  let s := s.setCtx c { s.ctx c with budget := some (s.budget c) }
  (((s.setCst c stRun).put CTXC_STAT.CORE d c).put DOC_STAT.STATE 2 d).put DOC_STAT.CTX c d

/-- The cores that may run a context: its own, or for a floating context every core that is not FAILED or OFF. -/
def State.mayUse (s : State) (c d : Nat) : Bool :=
  (s.affin c == d || s.affin c == 4) && (s.coreSt d == 1 || s.coreSt d == 2)

/-- The running context of lowest priority among cores that `c` may take, the lowest-numbered core on a tie (R369). -/
def State.weakest (s : State) (c : Nat) : List Nat → Option (Nat × Nat)
  | [] => none
  | d :: ds =>
    let rest := s.weakest c ds
    match s.running d with
    | some r =>
      if s.mayUse c d then
        match rest with
        | some (d', p) => if s.prio r ≤ p then some (d, s.prio r) else some (d', p)
        | none => some (d, s.prio r)
      else rest
    | none => rest

/-- R366, R369: the core on which a READY context runs now, if any: an idle core, else one whose context has a strictly
lower priority. -/
def State.place (s : State) (c : Nat) : Option Nat :=
  match s.coreList.find? (fun d => s.mayUse c d && s.coreSt d == 1) with
  | some d => some d
  | none => match s.weakest c s.coreList with
    | some (d, p) => if p < s.prio c then some d else none
    | none => none

/-- One placement: the first READY context that has a core takes it. -/
def State.placeOne (s : State) : List Nat → Option State
  | [] => none
  | cs => match s.firstOf (cs.filter fun c => (s.place c).isSome) with
    | some c => match s.place c with
      | some d => some ((s.preempt d).switchIn c d)
      | none => none
    | none => none

/-- The contexts that are known to the engine. -/
def State.known (s : State) : List Nat := s.doc.ctxs.map (·.1)

/-- Placements until none is left; the fuel bounds them by the number of cores and possible displacements. -/
def State.placeAll : Nat → State → State
  | 0, s => s
  | fuel + 1, s => match s.placeOne (s.known.filter fun c => s.cst c == stReady) with
    | some s' => State.placeAll fuel s'
    | none => s

/-- R368: the context that core `d` would run next. -/
def State.nextCtx (s : State) (d : Nat) : Option Nat :=
  match s.firstOf (s.known.filter fun c => s.cst c == stReady && (s.affin c == d || s.affin c == 4)) with
  | some c => some c
  | none =>
    let w := s.known.filter fun c => (s.cst c == stWait || s.cst c == stSleep) && s.affin c == d
    w.foldl (fun m c => match m with
      | none => some c
      | some b => if s.prio b < s.prio c || (s.prio b == s.prio c && c < b) then some c else some b) none

/-- R368: the engine preloads the context that would run next whenever that changes. -/
def State.preload (s : State) (d : Nat) : State :=
  match s.nextCtx d with
  | some c =>
    if (s.core d).shadow.map (·.1) = some c then s
    else s.setCore d { s.core d with shadow := some (c, false) }
  | none => s.setCore d { s.core d with shadow := none }

/-- CTX_STAT counts contexts in READY or RUN, and in QUAR. -/
def State.ctxCounts (s : State) : State :=
  let n := fun (p : Nat → Bool) => (s.known.filter fun c => p (s.cst c)).length
  (s.put CTX_STAT.READY (n fun x => x == stReady || x == stRun)).put CTX_STAT.QUAR (n fun x => x == stQuar)

/-- The engine schedules (R366 to R369) and preloads (R368). -/
def State.schedule (s : State) : State :=
  let s := State.placeAll 16 s
  (forEach s.coreList (fun d s => if s.coreSt d == 1 || s.coreSt d == 2 then s.preload d else s) s).ctxCounts

/-! ## Events and waits (R348 to R351, R365) -/

/-- R348: a wait completes: CAUSE takes PEND AND MASK, those bits leave PEND. -/
def State.takeEvents (s : State) (c : Nat) : State :=
  let got := s.port c pEvtPend &&& s.port c pEvtMask
  (s.setPort c pEvtCause got).setPort c pEvtPend (s.port c pEvtPend &&& ~~~ got)

/-- A masked event bit is pending (R365). -/
def State.waitMet (s : State) (c : Nat) : Bool := (s.port c pEvtPend &&& s.port c pEvtMask) != 0

/-- The wait of a context ends: it becomes READY and a new activation will begin (R370). -/
def State.endWait (s : State) (c : Nat) : State :=
  let s := s.setCtx c { s.ctx c with budget := none }
  (s.setRcd c { s.rcd c with wait := 0, runCyc := 0 }).makeReady c

/-- An event bit of a context is set, without scheduling. A disabled or quarantined context discards it (R349, R373), and so
does a mirrored one in the deputy (R529); a HELD one keeps it pending (R363). -/
def State.setEvent (s : State) (c b : Nat) : State :=
  if !s.ctxLive c || (s.mirrored c && s.twinRest) then s
  else
    let s := s.setPort c pEvtPend (s.port c pEvtPend ||| (1#32 <<< (b % 32)))
    if s.cst c == stWait && s.waitMet c then (s.takeEvents c).endWait c else s

/-- An event bit is set and the engine schedules. -/
def State.event (s : State) (c b : Nat) : State := (s.setEvent c b).schedule

/-- R350: the signed 32-bit difference B − NOW is 0 or less. -/
def timePassed (b : Word) (tb : Nat) : Bool := signedOf (b - BitVec.ofNat 32 tb).toNat 32 ≤ 0

/-! ## Enabling, disabling, quarantine (R361 to R363, R372 to R376) -/

/-- The CTXDEF event mask of a context. -/
def State.evmask (s : State) (c : Nat) : Nat :=
  match s.cat.cat.ctxdefs.find? (fun d => d.ctx == c) with
  | some d => d.evmask
  | none => 0

/-- R361: the initial record. -/
def initRcd (entry evmask : Nat) : CtxRec :=
  { (default : CtxRec) with
    pc := entry
    ports := [(pEvtMask, BitVec.ofNat 32 evmask), (pLsuInc0, 4), (pLsuInc0 + 1, 4), (pLsuInc0 + 2, 4), (pLsuInc0 + 3, 4)] }

/-- R361: string operations that an earlier life of the context left in flight give it no result any more. -/
def State.muteStr (s : State) (c : Nat) : State :=
  let mute := fun (o : StrOp) => if o.ctx == c then { o with mute := true } else o
  forEach s.coreList (fun d s => s.setCore d { s.core d with strq := (s.core d).strq.map mute }) s

/-- R361: the context takes its initial state and is READY; a mirrored context is held while this member does not run it
(R529, R555). -/
def State.enableCtx (s : State) (c : Nat) : State :=
  let r := initRcd (s.fld CTXC_ENTRY.ENTRY c) (s.evmask c)
  let x : Ctx := { (default : Ctx) with rcd := r, stored := r, repId := (s.ctx c).repId }
  let s := s.muteStr c
  let s := (((s.setCtx c x).flag CTXC_STAT.DEMOTED false c).put CTXC_STAT.QCAUSE 0 c).syncPrio c
  if s.mirrored c && s.twinRest then s.setCst c stHeld else s.makeReady c

/-- R362: the context enters DISABLED, its lines go to their defaults. Its record stays readable. -/
def State.disableCtx (s : State) (c : Nat) : State :=
  if s.cst c == stDisabled || s.cst c == stQuar then s
  else
    let s := (s.leaveCore c).setCst c stDisabled
    (((s.setCtx c { s.ctx c with qpend := none }).dropLoads c).dropReader c).defaultLines c

/-- R373: a quarantine takes effect, and the engine schedules. -/
def State.quarantineNow (s : State) (c cause : Nat) : State := (s.quarantined c cause).schedule

/-- R372, R373: a quarantine is asked for. It takes effect at once unless the context is in RUN, where it waits for the
word boundary (QUARANTINE_EFFECT). A context that is disabled or quarantined already is left alone. -/
def State.quarantine (s : State) (c cause : Nat) : State :=
  if !s.ctxLive c then s
  else if s.cst c == stRun then s.setCtx c { s.ctx c with qpend := some cause }
  else s.quarantineNow c cause

/-- The configuration in force enables the context (CTXc_CFG.EN). -/
def State.ctxEnabled (s : State) (c : Nat) : Bool := s.bit CTXC_CFG.EN c

/-- R73: in a Watch poll window only contexts pinned to D0 run; another one is held. -/
def State.enableHere (s : State) (c : Nat) : State :=
  if s.sys.pollOpen && s.fld CTXC_CFG.AFFIN c != 0 then (s.enableCtx c).setCst c stHeld else s.enableCtx c

/-- R375: release: the initial state if the configuration enables the context, else DISABLED; kind 5 is raised. -/
def State.releaseCtx (s : State) (c : Nat) : State :=
  if s.cst c != stQuar then s
  else
    let s := s.raise 8 (s.fld CTXC_STAT.CORE c) 5 c
    if s.ctxEnabled c then (s.enableHere c).schedule
    else ((s.setCst c stDisabled).put CTXC_STAT.QCAUSE 0 c).ctxCounts

/-- R363, R74: a context enters HELD, its wait kind kept in its record. -/
def State.holdCtx (s : State) (c : Nat) : State :=
  match (s.ctx c).qpend with
  | some cause => s.quarantined c cause
  | none => if s.ctxLive c then (s.leaveCore c).setCst c stHeld else s

/-- R363, R364: a HELD context resumes in the state its wait kind implies: a met event wait or a passed time makes it
READY at once. One that this member does not run stays held (R529). -/
def State.resumeCtx (s : State) (c : Nat) : State :=
  if s.cst c != stHeld || (s.mirrored c && s.twinRest) then s
  else match (s.rcd c).wait with
    | 1 => if s.waitMet c then (s.takeEvents c).endWait c else s.setCst c stWait
    | 2 => if timePassed (s.rcd c).wakeAt s.seen then s.endWait c else s.setCst c stSleep
    | _ => s.makeReady c

/-- R351: an armed alarm whose time has come sets event bit 31 and disarms. -/
def State.fireAlarm (s : State) (c : Nat) : State :=
  (s.setRcd c { s.rcd c with alarmArmed := false }).setEvent c 31

/-! ## The commands -/

/-- LINE_EDGE_EVENT (R149, R150, R151): the route has seen its edge: it counts it, and sets the event bit once routes
deliver. -/
def execLineEdgeEvent (r : Nat) (rising : Bool) (s : State) : Out :=
  .next <| s.ship <|
    if s.sys.fabricUp && s.fab.edges.contains (r, rising) then
      let s := { s with fab := { s.fab with edges := s.fab.edges.erase (r, rising) } }
      let s := s.wrap ER_CNT.COUNT r
      if s.fab.evOn then s.event (s.fld ER_CFG.CTX r) (s.fld ER_CFG.EVBIT r) else s
    else s

/-- EVT_YIELD's effect on the engine (R367): the context goes behind the READY contexts of its priority. -/
def State.yieldCtx (s : State) (c : Nat) : State := (s.offCore c).schedule

/-- The command asserts that the time has come, so the time base advances until every core reads it as `b` or
later (R28). -/
def State.reachTime (s : State) (b : Word) : State :=
  if timePassed b s.seen then s
  else
    let t := s.tb + (b - BitVec.ofNat 32 s.tb).toNat
    { s with tb := if s.sys.fabricUp then t + 4 else t }

/-- TIMED_WAIT_EXPIRY (R350): the time base reaches a sleeping context's wake time, and the context becomes READY. -/
def execTimedWaitExpiry (c : Nat) (s : State) : Out :=
  .next <| s.ship <|
    if s.cst c == stSleep then ((s.reachTime (s.rcd c).wakeAt).endWait c).schedule else s

/-- ALARM_EXPIRY (R351): the time base reaches the alarm time: event bit 31 is set and the alarm disarms, in a HELD
context too (R363). -/
def execAlarmExpiry (c : Nat) (s : State) : Out :=
  .next <| s.ship <|
    if (s.rcd c).alarmArmed && s.ctxLive c then ((s.reachTime (s.rcd c).alarmAt).fireAlarm c).schedule else s


/-- The demote bit of a context (CTX_BDEMk). -/
def State.bdem (s : State) (c : Nat) : Bool := bitOf (s.fld CTX_BDEM.DEM (c / 32)) (c % 32)

/-- BUDGET_EXPIRY (R371): the activation of a running context reaches BUDGET: kind 1 once, then quarantine or
demotion. The run time of the activation stands at BUDGET. -/
def execBudgetExpiry (c : Nat) (s : State) : Out :=
  .next <| s.ship <|
    if s.cst c != stRun || (s.ctx c).overrun || s.budget c = 0 then s
    else
      let d := s.fld CTXC_STAT.CORE c
      let dem := s.bdem c
      let s := (s.setCtx c { s.ctx c with overrun := true }).count CTXC_RUN.OVR c
      let s := s.setRcd c { s.rcd c with runCyc := max (s.rcd c).runCyc (s.budget c * 200) }
      let s := s.raise 8 d 1 (b2n dem * 256 + c)
      if dem then ((s.flag CTXC_STAT.DEMOTED true c).syncPrio c).schedule
      else s.quarantine c 2

/-- QUARANTINE_EFFECT (R373): the quarantine asked for takes effect at the context's word boundary. -/
def execQuarantineEffect (c : Nat) (s : State) : Out :=
  .next <| s.ship <| match (s.ctx c).qpend with
    | some cause => s.quarantineNow c cause
    | none => s

/-- CTX_CMD RELEASE (R375): accepted in every mode except Sealed; an unfitted context is a reserved value. -/
def State.runCtxCmdRelease (s : State) (who : Who) (c : Nat) : State :=
  if nCtx s.variant ≤ c || s.mode = 11 then s.reserved who else s.releaseCtx c

/-- The command of the same name. -/
def execCtxCmdRelease (who : Who) (c : Nat) (s : State) : Out := .next <| s.ship <| s.asWho who 11 fun s => s.runCtxCmdRelease who c

/-- CTX_CMD QUARANTINE (R372, R376): in Service mode only; elsewhere discarded with RSVD. -/
def State.runCtxCmdQuarantine (s : State) (who : Who) (c : Nat) : State :=
  if nCtx s.variant ≤ c || s.mode ≠ 8 then s.reserved who else s.quarantine c 3

/-- The command of the same name. -/
def execCtxCmdQuarantine (who : Who) (c : Nat) (s : State) : Out := .next <| s.ship <| s.asWho who 11 fun s => s.runCtxCmdQuarantine who c

/-- R379: the contexts that are pinned to a core, those that earlier failures moved there among them. -/
def State.pinnedTo (s : State) (d : Nat) : List Nat :=
  s.known.filter fun c => s.affin c == d && s.cst c != stDisabled

/-- R380: the failure of core `d`, which still runs, cannot be contained: it has pinned contexts and no running target, or no other
core is left. -/
def State.uncontained (s : State) (d : Nat) : Bool :=
  let t := s.migTarget d
  (!(s.pinnedTo d).isEmpty && (nCores s.variant ≤ t || t == d || s.coreSt t == 3)) ||
    s.coreList.all fun e => e == d || s.coreSt e == 3

/-- R377 to R379: core `d` has failed: it reads FAILED, kind 2 is raised, its running context becomes READY from its
checked state, and its pinned contexts move to the CTX_MIG target with kind 3. -/
def State.coreFailed (s : State) (d : Nat) (pll : Bool) : State :=
  let n := (s.pinnedTo d).length
  let contained := !s.uncontained d
  let idle := (s.running d).isNone
  let code := if idle then (if pll then 4 else 3) else (if pll then 2 else 1)
  let s := s.raise 8 d 2 (code * 256 + s.fld DOC_STAT.CTX d)
  let s := s.preempt d
  let s := ((s.put DOC_STAT.STATE 3 d).flag DOC_STAT.WAIT false d).put CTX_STAT.FAILED
    (s.fld CTX_STAT.FAILED ||| 2 ^ d)
  let s := s.setCore d { s.core d with shadow := none }
  let s := if n = 0 || !contained then s else s.raise 8 d 3 (s.migTarget d * 256 + n)
  s.schedule

end Sys2Proof.Machine
end

