-- ==== Sys2Proof/Machine/Flags.lean ====
section
/-! DEFINITION. Results and flags of the Docent units (spec/10 R337 to R344): the ALU, the saturating unit and its flag, the
multiplier, the divider, and the CRCs of strings and host frames. -/

namespace Sys2Proof.Machine

/-- 1 or 0 as a word. -/
def boolW (b : Bool) : Word := if b then 1 else 0

/-- The number of leading zeros of a word, 0 to 32. -/
def clz32 (b : Word) : Nat := (((List.range 32).map fun i => b.getLsbD (31 - i)).takeWhile (!·)).length

/-- The number of set bits of a word. -/
def popCount (b : Word) : Nat := ((List.range 32).filter fun i => b.getLsbD i).length

/-- R338: ALU.R of the trigger at port `p`, with A in ALU.A and B the moved value. -/
def aluResult (p : Nat) (a b : Word) : Word :=
  let n := b.toNat % 32
  match p with
  | 0x022 => a + b
  | 0x023 => a - b
  | 0x024 => a &&& b
  | 0x025 => a ||| b
  | 0x026 => a ^^^ b
  | 0x027 => a &&& ~~~ b
  | 0x028 => a <<< n
  | 0x029 => a >>> n
  | 0x02A => a.sshiftRight n
  | 0x02B => a.rotateLeft n
  | 0x02C => boolW (a == b)
  | 0x02D => boolW (a != b)
  | 0x02E => boolW (a.slt b)
  | 0x02F => boolW (a.ult b)
  | 0x030 => boolW (a.sle b)
  | 0x031 => boolW (a.ule b)
  | 0x032 => if a.slt b then a else b
  | 0x033 => if a.slt b then b else a
  | 0x034 => if a.ult b then a else b
  | 0x035 => if a.ult b then b else a
  | 0x036 => boolW (a.getLsbD n)
  | 0x037 => a ||| (1#32 <<< n)
  | 0x038 => a &&& ~~~ (1#32 <<< n)
  | 0x039 => ~~~ b
  | 0x03A => -b
  | 0x03B => if b.slt 0 then -b else b
  | 0x03C => (b.setWidth 8).signExtend 32
  | 0x03D => (b.setWidth 16).signExtend 32
  | 0x03E => BitVec.ofNat 32 (clz32 b)
  | _ => BitVec.ofNat 32 (popCount b)

/-- An integer limited to the signed 32-bit range, and whether it had to be. -/
def saturate (x : Int) : Word × Bool :=
  if x < -2147483648 then (0x80000000, true)
  else if 2147483647 < x then (0x7FFFFFFF, true)
  else (BitVec.ofInt 32 x, false)

/-- R337: SAT.R and SAT.STAT of the trigger at port `p`. -/
def satResult (p : Nat) (a b lo hi : Word) : Word × Bool :=
  match p with
  | 0x0C2 => saturate (a.toInt + b.toInt)
  | 0x0C3 => saturate (a.toInt - b.toInt)
  | 0x0C4 => saturate ((a.toInt * b.toInt) / 65536)
  | _ => if hi.slt b then (hi, true) else if b.slt lo then (lo, true) else (b, false)

/-- R337: {HI, LO} of a multiply at port `p`: signed, unsigned, or accumulated on {HI, LO}; modulo 2^64. -/
def mulResult (p : Nat) (a b lo hi : Word) : Word × Word :=
  let acc : Int := (hi.toNat : Int) * 4294967296 + (lo.toNat : Int)
  let x : Int := match p with
    | 0x043 => a.toInt * b.toInt
    | 0x044 => (a.toNat : Int) * (b.toNat : Int)
    | _ => acc + a.toInt * b.toInt
  let r := BitVec.ofInt 64 x
  (r.extractLsb' 32 32, r.extractLsb' 0 32)

/-- R339: quotient and remainder; a zero divisor gives all ones and A. -/
def divResult (signed : Bool) (a b : Word) : Word × Word :=
  if b = 0 then (0xFFFFFFFF, a)
  else if signed then (BitVec.ofInt 32 (a.toInt.tdiv b.toInt), BitVec.ofInt 32 (a.toInt.tmod b.toInt))
  else (BitVec.ofNat 32 (a.toNat / b.toNat), BitVec.ofNat 32 (a.toNat % b.toNat))

/-- One bit of CRC-32, reflected polynomial 0xEDB88320. -/
def crc32Bit (c : Word) : Word := if c.getLsbD 0 then (c >>> 1) ^^^ 0xEDB88320 else c >>> 1

/-- CRC-32 over one byte (R344). -/
def crc32Byte (c : Word) (b : Byte) : Word :=
  (List.range 8).foldl (fun c _ => crc32Bit c) (c ^^^ b.setWidth 32)

/-- CRC-32 over bytes, no initial value and no final XOR (R344). -/
def crc32 (c : Word) (bs : List Byte) : Word := bs.foldl crc32Byte c

/-- The IEEE 802.3 frame check sequence of the bytes (R344). -/
def fcs32 (bs : List Byte) : Word := crc32 0xFFFFFFFF bs ^^^ 0xFFFFFFFF

end Sys2Proof.Machine
end

