-- ==== Sys2Proof/Machine/Mem.lean ====
section
/-! DEFINITION. The memory island (spec/11 R383 to R394): units, ECC events, the scrubber, waking and clearing of banks. -/

namespace Sys2Proof.Machine

/-- R383: the data bank of an address. -/
def bankOf (a : Nat) : Option Nat :=
  if 0x200000 ≤ a && a < 0x280000 then some ((a - 0x200000) / 0x10000) else none

/-- R383: the host window. -/
def inWindow (a : Nat) : Bool := 0x300000 ≤ a && a < 0x308000

/-- R383: the memory unit of an address, and the start of that memory. -/
def memUnit (a : Nat) : Option (Nat × Nat) :=
  if 0x200000 ≤ a && a < 0x280000 then some ((a - 0x200000) / 0x10000, 0x200000 + (a - 0x200000) / 0x10000 * 0x10000)
  else if inWindow a then some (13, 0x300000)
  else if 0x400000 ≤ a && a < 0x480000 then
    some (8 + (a - 0x400000) / 0x20000, 0x400000 + (a - 0x400000) / 0x20000 * 0x20000)
  else if 0x500000 ≤ a && a < 0x520000 then some (12, 0x500000)
  else none

/-- R383, R2: the unit is fitted. -/
def unitFitted (v : Variant) (u : Nat) : Bool :=
  match v with
  | .nz9640 => u < 15
  | .nz9620 => u < 4 || u = 8 || u = 9 || (12 ≤ u && u < 15)

/-- R495, R634: the unit that a source ID names is one the variant fits (R203, R233, R275, R295, R306, R327, R382, R394, R425, R450). -/
def srcFitted (v : Variant) (id : Nat) : Bool :=
  let u := id / 8 % 64
  match id / 512 with
  | 2 => 48 ≤ u || hswFitted v u
  | 3 => 12 ≤ u || hbrFitted v u
  | 4 => if u < 12 then vlvFitted v u else if 16 ≤ u && u < 19 then vhsFitted v (u - 16)
      else if 24 ≤ u && u < 26 then ctdFitted v (u - 24) else true
  | 5 => if u < 16 then ledFitted v u else if u < 24 then lgFitted v (u - 16) else true
  | 6 => 8 ≤ u || lchFitted v u
  | 7 => if u < 16 then ainFitted v u else if u < 24 then hallFitted v (u - 16) else u ≠ 25 || v = .nz9640
  | 8 => 4 ≤ u || u < nCores v
  | 9 => 15 ≤ u || unitFitted v u
  | 10 => if u < 8 then u < nCan v else if u < 14 then u - 8 < nLin v
      else if 16 ≤ u && u < 23 then ethFitted v (u - 16) else true
  | _ => true

/-- R393: a bank that is retained (MEM_CFG.RET). -/
def State.retained (s : State) (b : Nat) : Bool := bitOf (s.fld MEM_CFG.RET) b

/-- R343, R393: a Docent access to the address is permitted: a fitted data bank or the host window, and in a Watch poll
window a retained bank. -/
def State.memPermitted (s : State) (a : Nat) : Bool :=
  match bankOf a with
  | some b => b < nBanks s.variant && (!s.sys.pollOpen || s.retained b)
  | none => inWindow a && !s.sys.pollOpen

/-- R392: the memory at the address is usable. -/
def State.memAwake (s : State) (a : Nat) : Bool :=
  match bankOf a with
  | some b => bitOf (s.fld MEM_STAT.AWAKE) b
  | none => true

/-- What ECC finds on a read (R385). -/
def eccOk : Nat := 0
def eccSingle : Nat := 1
def eccDouble : Nat := 2

/-- R394: report detail of an address. -/
def eccDetail (a base : Nat) : Nat := (a - base) / 4 % 4096

/-- R385: an ECC event at a word: a corrected error is counted, reported (kind 0) and awaits its write-back; an
uncorrectable one is counted and recorded with the port that read it. -/
def State.eccEvent (s : State) (a port e : Nat) : State :=
  match memUnit a with
  | none => s
  | some (u, base) =>
    if e = eccSingle then
      let s := { s with memx := { s.memx with writeback := s.memx.writeback ++ [a / 4 * 4] } }
      (s.count MEM_ECC.CORR u).raise 9 u 0 (eccDetail a base)
    else if e = eccDouble then
      ((((s.count MEM_ECC.UNCORR u).put MEM_ECCADDR.ADDR (a / 4 * 4)).put MEM_ECCSRC.UNIT u).put MEM_ECCSRC.PORT port).flag
        MEM_ECCSRC.VALID true
    else s

/-- R385, R394: an uncorrectable error on an access that reports it (kind 1). -/
def State.eccReport (s : State) (a kind : Nat) : State :=
  match memUnit a with
  | none => s
  | some (u, base) => s.raise 9 u kind (eccDetail a base)

/-- ECC_WRITEBACK (R385): the oldest corrected word is written back; its value does not change. -/
def execEccWriteback (s : State) : Out :=
  .next { s with memx := { s.memx with writeback := s.memx.writeback.drop 1 } }

/-- SCRUB_READ (R388, R385): the scrubber reads a word; it corrects it, or reports kind 2 and leaves it. -/
def execScrubRead (addr e : Nat) (s : State) : Out :=
  .next <| s.ship <|
    match memUnit addr with
    | none => s
    | some (u, _) =>
      if s.fld MEM_CFG.SCRUB = 0 || !unitFitted s.variant u then s
      else
        let s := s.eccEvent addr 3 e
        if e = eccDouble then s.eccReport addr 2 else s

/-- R70, R393: the retained banks in ascending order that are still to wake. -/
def State.banksAsleep (s : State) : List Nat :=
  (List.range (nBanks s.variant)).filter fun b => s.retained b && !bitOf (s.fld MEM_STAT.AWAKE) b

/-- BANK_WAKE_DONE (R70, R391 to R393): in phase W3 and in a Watch poll window the retained data banks wake in ascending order; the
next one is usable. -/
def execBankWakeDone (b : Nat) (s : State) : Out :=
  .next <| s.ship <|
    if (s.sys.phase == .w3 || s.sys.pollOpen) && s.banksAsleep.head? == some b then s.put MEM_STAT.AWAKE (s.fld MEM_STAT.AWAKE ||| 2 ^ b) else s

/-- R391: the data banks that `keep` does not name, and the host window, are cleared and usable. -/
def State.initBanks (s : State) (keep : Nat → Bool) : State :=
  let bs := (List.range (nBanks s.variant)).filter fun b => !keep b
  let s := forEach bs (fun b s => (s.clearMem (0x200000 + 0x10000 * b) (0x210000 + 0x10000 * b)).put MEM_STAT.AWAKE
    (s.fld MEM_STAT.AWAKE ||| 2 ^ b)) s
  (s.clearMem 0x300000 0x308000).flag MEM_STAT.INIT true

/-- BANK_INIT_DONE (R391): in phase W3 the unretained banks and the host window have been cleared; in Start, all banks. -/
def execBankInitDone (s : State) : Out :=
  .next <| s.ship <| match s.sys.phase with
    | .w2 | .w3 => s.initBanks s.retained
    | .s6 | .s7 => s.initBanks fun _ => false
    | _ => s

/-- R390: what a collision in the host window does for the internal side: `coll` is 0 for none, 1 where the internal access
is the later one and the host writes, 2 where the host's write is the later one, 3 and 4 the same where the host reads. The later
side is warned; the host's warning belongs to its own frame. -/
def State.collide (s : State) (c a coll : Nat) : State :=
  if (coll = 1 || coll = 3) && inWindow a then (s.dpbusy c).count MEM_HWCOLL.INTLATE else s

end Sys2Proof.Machine
end

