-- ==== Sys2Proof/Machine/Writes.lean ====
section
/-! DEFINITION. What a register write sets and whether it is legal (spec/00 R14, R15, R19; spec/10 R354), for writes by host
software and by contexts alike. -/

namespace Sys2Proof.Machine

/-- R14, R19, R354: the fields that a write sets: RW, WO and W1C fields, and for the host in Service mode RWS fields. -/
def Acc.sets (a : Acc) (who : Who) (service : Bool) : Bool :=
  match a with
  | .rw | .wo | .w1c => true
  | .rws => service && decide (who = .host)
  | _ => false

/-- R634: the value names a line, context or pulse unit that is fitted. -/
def resFitted (v : Variant) (r : Res) (x : Nat) : Bool :=
  match r with
  | .none => true
  | .line => x < nLines v
  | .ctx => x < nCtx v
  | .pu => x < nPu v

/-- R19: the value is a legal one of its field. -/
def FieldInfo.legalIn (v : Variant) (f : FieldInfo) (w : Word) : Bool :=
  inRanges (ext w f.lo f.width) f.legal && resFitted v f.res (ext w f.lo f.width)

/-- R19, R354: no field that the write sets carries a reserved encoding, and reserved fields are zero. -/
def State.legalWrite (s : State) (who : Who) (r : Reg) (w : Word) : Bool :=
  r.fields.all fun f =>
    if f.acc = .rsv then ext w f.lo f.width = 0
    else if f.acc.sets who (s.mode = 8) then f.legalIn s.variant w
    else true

/-- R15: outside Service mode, a host write that would change an RWS field. -/
def State.rwsBarred (s : State) (who : Who) (r : RegRef) (w : Word) : Bool :=
  decide (who = .host) && s.mode != 8 &&
    r.reg.fields.any fun f => f.acc = .rws && ext w f.lo f.width != ext (s.reg r) f.lo f.width

/-- One field of a stored word after a write of `w`: RW (and RWS) fields take its value, 1 clears a W1C bit. -/
def writeField (who : Who) (service : Bool) (w : Word) (old : Word) (f : FieldInfo) : Word :=
  match f.acc with
  | .rw => ins old f.lo f.width (ext w f.lo f.width)
  | .rws => if f.acc.sets who service then ins old f.lo f.width (ext w f.lo f.width) else old
  | .w1c => old &&& ~~~ (w &&& fieldMask f.lo f.width)
  | _ => old

/-- R14: the register with the plain effect of a write on its fields. -/
def State.storeWrite (s : State) (who : Who) (r : RegRef) (w : Word) : State :=
  s.setReg r (r.reg.fields.foldl (writeField who (s.mode = 8) w) (s.reg r))

/-- R15, R19, R354: a write that is legal has its effect; any other one is discarded whole, as reserved. -/
def State.accept (s : State) (who : Who) (r : RegRef) (w : Word) (k : State → State) : State :=
  if s.legalWrite who r.reg w && !s.rwsBarred who r w then k s else s.reserved who

end Sys2Proof.Machine
end

