-- ==== Sys2Proof/Machine/Lch.lean ====
section
/-! DEFINITION. Lighting chains (spec/08 R296 to R306). A frame is its 16 bytes, the lowest first; device `d`'s frame is the
bytes at offset 16 d (R298). -/

namespace Sys2Proof.Machine

/-- The extra state of a chain. -/
def State.lc (s : State) (n : Nat) : LchSt := Tbl.get s.lch n default

def State.setLc (s : State) (n : Nat) (x : LchSt) : State := { s with lch := Tbl.set s.lch n x }

/-- The chain's state code: 0 OFF, 1 DISCOVER, 2 RUN, 3 LENGTH, 4 BROKEN. -/
def State.lcs (s : State) (n : Nat) : Nat := s.fld LCH_STAT.STATE n

/-- The chain is enabled and the fabric runs. -/
def State.lchUp (s : State) (n : Nat) : Bool := lchFitted s.variant n && s.sys.fabricUp && s.bit LCH_CFG.EN n

/-- R304: discovery starts. -/
def State.discover (s : State) (n : Nat) : State :=
  (s.put LCH_STAT.STATE 1 n).setLc n { s.lc n with busy := false, echoes := 0, unders := 0 }

/-- R304, R305: at a fabric start enabled chains run discovery; without fabric, or disabled, a chain is OFF. -/
def State.lchFabric (s : State) (up : Bool) : State :=
  forEach ((List.range 8).filter (lchFitted s.variant)) (fun n s =>
    if up && s.bit LCH_CFG.EN n then s.discover n
    else if s.lcs n = 0 then s
    else (s.put LCH_STAT.STATE 0 n).setLc n { s.lc n with busy := false }) s

/-- The address of the active buffer (R298, R300). -/
def State.lchBuf (s : State) (n : Nat) : Nat :=
  0x200000 + 16 * (if s.bit LCH_STAT.ACTIVE n then s.fld LCH_BUF.BUFB n else s.fld LCH_BUF.BUFA n)

/-- A type 0x3 frame (R297). -/
def statusFrame : List Byte := List.replicate 15 0 ++ [0x30]

/-- A frame's type: bits [127:124]. -/
def frameType (f : List Byte) : Nat := (f.getD 15 0).toNat / 16

/-- CRC-16 with polynomial 0x1021, not reflected: one bit. -/
def crc16Bit (crc : Nat) (b : Bool) : Nat :=
  let top := bitOf crc 15 != b
  let c := 2 * crc % 65536
  if top then c ^^^ 0x1021 else c

/-- R297: the CRC of a status frame, over bits [127:16], bit 127 first, initial value 0xFFFF. -/
def frameCrc (f : List Byte) : Nat :=
  ((f.drop 2).reverse.flatMap fun b => (List.range 8).map fun i => bitOf b.toNat (7 - i)).foldl crc16Bit 0xFFFF

/-- A status frame whose CRC holds. -/
def frameCrcOk (f : List Byte) : Bool := frameCrc f == leNat (f.take 2)

/-- R303: the flag bits [111:80] of a status frame. -/
def frameFlags (f : List Byte) : Nat := leNat ((f.drop 10).take 4)

/-- R298: the address lies in the frames of the chain's active buffer. -/
def State.lchReads (s : State) (n a : Nat) : Bool := s.lchBuf n ≤ a && a < s.lchBuf n + 16 * s.fld LCH_STAT.NFOUND n

/-- REFRESH_START (R299, R300, R303): TREF expires: a pending swap takes effect, and the frames of this refresh are those of
the active buffer, or of a status cycle in every 2^STATDIV-th refresh. With `ecc` a single-bit error at that address of the data space is
corrected as its frame is fetched (R385). -/
def execRefreshStart (e : ChainRead) (s : State) : Out :=
  .next <| s.ship <|
    let n := e.chain
    if !s.lchUp n || s.lcs n ≠ 2 || (s.lc n).busy then s
    else
      let s := if s.bit LCH_STAT.SWPEND n then
          (s.flag LCH_STAT.ACTIVE (!s.bit LCH_STAT.ACTIVE n) n).flag LCH_STAT.SWPEND false n else s
      let k := s.fld LCH_CFG.STATDIV n
      let x := s.lc n
      let c := x.cycle + 1
      let stat := k ≠ 0 && 2 ^ k ≤ c
      let len := s.fld LCH_STAT.NFOUND n
      let frames := if stat then List.replicate len statusFrame
        else (List.range len).map fun d => s.bytes (s.lchBuf n + 16 * d) 16
      let s := match e.ecc with
        | some a => if s.lchReads n (0x200000 + a) && !stat then s.eccEvent (0x200000 + a) 2 eccSingle else s
        | none => s
      s.setLc n { x with cycle := if k = 0 || stat then 0 else c, busy := true, isStat := stat, frames := frames }

/-- R303: the status frames returned are written to the status buffer, as they are. -/
def State.writeStatus (s : State) (n : Nat) (ret : List (List Byte)) : State :=
  forEach ret.zipIdx (fun f t => t.setBytes (0x200000 + 16 * s.fld LCH_SBUF.SADDR n + 16 * f.2) (f.1.take 16)) s

/-- The first index at which a list of truth values holds. -/
def firstTrue : List Bool → Nat → Option Nat
  | [], _ => none
  | b :: bs, i => if b then some i else firstTrue bs (i + 1)

/-- R302, R303: the first device whose returned bits are wrong: an echo of a value frame that differs, or a status frame
whose CRC fails. -/
def echoError (prevStat : Bool) (prev ret : List (List Byte)) : Option Nat :=
  if prevStat then firstTrue (ret.map fun f => !frameCrcOk f) 0
  else firstTrue ((prev.zip ret).map fun p => decide (frameType p.1 < 3) && p.1 != p.2) 0

/-- R303: a status cycle's device fault: the lowest device whose flags go from all clear to any set. -/
def State.statusFaults (s : State) (n : Nat) (ret : List (List Byte)) : State :=
  let old := (s.lc n).flags
  let new := ret.map frameFlags
  let s := s.setLc n { s.lc n with flags := new }
  match firstTrue ((List.range new.length).map fun d => old.getD d 0 == 0 && new.getD d 0 != 0) 0 with
  | some d => (s.flag LCH_STAT.DEVFLT true n).raise 6 n 3 d
  | none => s

/-- REFRESH_COMPLETE (R302, R303): the latch pulse; `ret` are the frames captured on LCQ, device 0 first. -/
def execRefreshComplete (n : Nat) (ret : List (List Byte)) (s : State) : Out :=
  .next <| s.ship <|
    let x := s.lc n
    if !s.lchUp n || s.lcs n ≠ 2 || !x.busy then s
    else
      let err := if x.unchecked then none else echoError x.prevStat x.prev ret
      let s := if x.prevStat && !x.unchecked then (s.writeStatus n ret).statusFaults n ret else s
      let s := s.wrap LCH_CNT.REFRESH n
      let x := s.lc n
      let s := s.setLc n { x with
        busy := false, prev := x.frames, prevStat := x.isStat, unchecked := false, unders := 0
        echoes := if err.isSome then x.echoes + 1 else 0 }
      match err with
      | some d =>
        let s := ((s.flag LCH_STAT.ECHOERR true n).count LCH_CNT.ECHOERRS n).raise 6 n 0 d
        if s.fld LCH_CFG.ECHOMAX n ≤ (s.lc n).echoes then s.discover n else s
      | none => s

/-- CHAIN_UNDERRUN (R301): a frame was not fetched in time: no latch, UNDERRUN; kind 4 after three in a row. With `ecc` the frame counts
as not fetched for an uncorrectable error at that address of the data space, reported with the DMA port (R385). -/
def execChainUnderrun (e : ChainRead) (s : State) : Out :=
  .next <| s.ship <|
    let n := e.chain
    let x := s.lc n
    if !s.lchUp n || s.lcs n ≠ 2 || !x.busy then s
    else
      let s := match e.ecc with
        | some a =>
          let a := 0x200000 + a
          if s.lchReads n a && !x.isStat then (s.eccEvent a 2 eccDouble).eccReport a 1 else s
        | none => s
      let s := s.setLc n { x with busy := false, unders := x.unders + 1 }
      let s := (s.flag LCH_STAT.UNDERRUN true n).count LCH_CNT.UNDERRUNS n
      if x.unders + 1 = 3 then s.raise 6 n 4 3 else s

/-- LCH_CTL_SWAP (R300). -/
def State.runLchCtlSwap (s : State) (who : Who) (n : Nat) : State :=
  if lchFitted s.variant n then s.flag LCH_STAT.SWPEND true n else s.reserved who

/-- The command of the same name. -/
def execLchCtlSwap (who : Who) (n : Nat) (s : State) : Out := .next <| s.ship <| s.asWho who 8 fun s => s.runLchCtlSwap who n

/-- LCH_CTL_DISC (R304). -/
def State.runLchCtlDisc (s : State) (who : Who) (n : Nat) : State :=
  if !lchFitted s.variant n then s.reserved who else if s.lchUp n then s.discover n else s

/-- The command of the same name. -/
def execLchCtlDisc (who : Who) (n : Nat) (s : State) : Out := .next <| s.ship <| s.asWho who 8 fun s => s.runLchCtlDisc who n

/-- DISCOVERY_DONE (R304): the marker appeared after `found` devices with a return delay in 10 ns, or not at all. -/
def execDiscoveryDone (n : Nat) (found : Option Nat) (delay : Nat) (s : State) : Out :=
  .next <| s.ship <|
    if !s.lchUp n || s.lcs n ≠ 1 then s
    else match found with
      | none => ((s.put LCH_STAT.NFOUND 0 n).put LCH_STAT.STATE 4 n).raise 6 n 2 0
      | some len =>
        let s := (s.put LCH_STAT.NFOUND len n).put LCH_DLY.QDLY (satTo delay 16) n
        if len ≠ s.fld LCH_CFG.NEXP n then (s.put LCH_STAT.STATE 3 n).raise 6 n 1 (satTo len 10)
        else (s.put LCH_STAT.STATE 2 n).setLc n { s.lc n with
          cycle := 0, busy := false, prev := [], prevStat := false, flags := [], unchecked := true }

/-- DISCOVERY_RETRY (R304): every 100 ms in LENGTH or BROKEN. -/
def execDiscoveryRetry (n : Nat) (s : State) : Out :=
  .next <| s.ship <| if s.lchUp n && (s.lcs n = 3 || s.lcs n = 4) then s.discover n else s

end Sys2Proof.Machine
end

