-- ==== Sys2Proof/Machine/CanCore.lean ====
section
/-! DEFINITION. CAN ports (spec/12): transmit buffers, fault confinement, lonely node, filters and receive records; the NM
buffer of spec/14 R454 stands as buffer 32. -/

namespace Sys2Proof.Machine

/-! ## Codes -/

def bIdle : Nat := 0
def bPending : Nat := 1
def bActive : Nat := 2
def bHeld : Nat := 3
def bDone : Nat := 4
def bCancelled : Nat := 5
def bFailed : Nat := 6

/-- The NM buffer of a port (R454). -/
def nmBuf : Nat := 32

/-- CANn_STAT.STATE. -/
def State.canSt (s : State) (n : Nat) : Nat := s.fld CAN_STAT.STATE n

/-- R426: the port's event `k`: EVBIT + k of its context. -/
def State.canEvent (s : State) (n k : Nat) : State :=
  if s.bit CAN_EVT.EVEN n then s.event (s.fld CAN_EVT.CTX n) (s.fld CAN_EVT.EVBIT n + k) else s

/-- R426: the port's state changes; a change of error state is an event; at ERROR_ACTIVE the activation of its cluster is
complete (R470). -/
def State.setCanSt (s : State) (n st : Nat) : State :=
  if s.canSt n = st then s
  else
    let err := fun (x : Nat) => 2 ≤ x && x ≤ 5
    let s' := s.put CAN_STAT.STATE st n
    let s' := if st = 2 then s'.setCp n { s'.cp n with activating := false, actTimer := false } else s'
    if err (s.canSt n) && err st then s'.canEvent n 3 else s'

/-! ## Buffers -/

/-- The state of a transmit buffer. -/
def State.bst (s : State) (n b : Nat) : Nat := if b = nmBuf then (s.cp n).nmSt else s.fld CAN_TXS.ST n b

/-- A buffer changes its state; CANn_TXPEND follows, and a buffer that ends sets its CANn_TXDONE bit and the event (R426). -/
def State.setBst (s : State) (n b st : Nat) : State :=
  if b = nmBuf then s.setCp n { s.cp n with nmSt := if st = bDone then bIdle else st }
  else
    let s := s.put CAN_TXS.ST st n b
    let pend := st == bPending || st == bActive || st == bHeld
    let s := s.put CAN_TXPEND.BUF (ins (s.reg ⟨.CAN_TXPEND, n, 0, 0⟩) b 1 (b2n pend)).toNat n
    if st = bDone || st = bCancelled || st = bFailed then
      (s.put CAN_TXDONE.BUF (s.fld CAN_TXDONE.BUF n ||| 2 ^ b) n).canEvent n 2
    else s

/-- The buffers of a port. -/
def canBufs : List Nat := List.range 33

/-- The ACTIVE buffer of a port. -/
def State.active (s : State) (n : Nat) : Option Nat := canBufs.find? fun b => s.bst n b == bActive

/-- A word of a transmit buffer (R409). -/
def State.txw (s : State) (n b i : Nat) : Word := s.reg ⟨.CAN_TXW, n, b, i⟩

/-- R409: word 1 bits of a buffer. -/
def State.txFdf (s : State) (n b : Nat) : Bool := ext (s.txw n b 1) 0 1 = 1
def State.txXlf (s : State) (n b : Nat) : Bool := ext (s.txw n b 1) 1 1 = 1
def State.txBrs (s : State) (n b : Nat) : Bool := ext (s.txw n b 1) 2 1 = 1
def State.txRtr (s : State) (n b : Nat) : Bool := ext (s.txw n b 0) 30 1 = 1
def State.txIde (s : State) (n b : Nat) : Bool := ext (s.txw n b 0) 29 1 = 1
def State.txXlen (s : State) (n b : Nat) : Nat := ext (s.txw n b 1) 16 12

/-- The number of data bytes of a DLC (ISO 11898-1). -/
def dlcLen (fd : Bool) (d : Nat) : Nat :=
  if d ≤ 8 then d
  else if !fd then 8
  else match d with
    | 9 => 12 | 10 => 16 | 11 => 20 | 12 => 24 | 13 => 32 | 14 => 48 | _ => 64

/-- The DLC of a number of data bytes, if there is one. -/
def lenDlc (fd : Bool) (n : Nat) : Option Nat :=
  if n ≤ 8 then some n
  else if !fd then none
  else match n with
    | 12 => some 9 | 16 => some 10 | 20 => some 11 | 24 => some 12 | 32 => some 13 | 48 => some 14 | 64 => some 15
    | _ => none

/-- The buffer belongs to the gateway (R414). -/
def State.gwOwned (s : State) (n b : Nat) : Bool := s.bit CAN_CFG.GWTX n && 24 ≤ b && b < 32

/-- R412: the buffer's data field comes from memory, through the staging memory. -/
def State.needsStage (s : State) (n b : Nat) : Bool :=
  b < 32 && !s.gwOwned n b && s.txXlf n b && 64 < s.txXlen n b

/-- The data bytes that a buffer sends: gateway data, staged data, or its inline bytes. -/
def State.txData (s : State) (n b : Nat) : List Byte :=
  let inl := fun (k : Nat) => ((List.range 16).flatMap fun i => leBytes (s.txw n b (5 + i)).toNat 4).take k
  if s.txXlf n b then
    match (s.cp n).stage with
    | some (b', some d) => if b' = b then d else inl (s.txXlen n b)
    | _ => inl (s.txXlen n b)
  else if s.txRtr n b then []
  else inl (dlcLen (s.txFdf n b) (ext (s.txw n b 1) 4 4))

/-- The frame that a buffer sends (R409, R454). -/
def State.txFrame (s : State) (n b : Nat) : CanFrame :=
  if b = nmBuf then
    { (default : CanFrame) with id := s.fld NM_PORT.NMID n, dlc := 4, data := (s.cp n).nmData }
  else
    match (if s.gwOwned n b then (s.cp n).gwBuf.find? (fun p => p.1 == b) else none) with
    | some (_, f) => f
    | none =>
      { id := ext (s.txw n b 0) 0 29
        ide := s.txIde n b
        fmt := if s.txXlf n b then .xl else if s.txFdf n b then .fd else .classical
        rtr := s.txRtr n b
        brs := s.txBrs n b
        esi := s.canSt n == 3
        dlc := if s.txXlf n b then 0 else ext (s.txw n b 1) 4 4
        sdt := ext (s.txw n b 2) 0 8
        vcid := ext (s.txw n b 2) 8 8
        af := (s.txw n b 3).toNat
        sec := ext (s.txw n b 1) 8 1 = 1
        data := s.txData n b }

/-- R413: the arbitration value of a frame: the bits of its arbitration field in their order on the bus; the lowest wins. -/
def arbValue (f : CanFrame) : Nat :=
  if f.ide then (f.id / 2 ^ 18 % 2 ^ 11) * 2 ^ 21 + 2 ^ 20 + 2 ^ 19 + (f.id % 2 ^ 18) * 2 + b2n f.rtr
  else (f.id % 2 ^ 11) * 2 ^ 21 + b2n f.rtr * 2 ^ 20

/-- R413, R454: the order of choice: by arbitration value and then by buffer number, or by number alone. -/
def State.canBefore (s : State) (n a b : Nat) : Bool :=
  if s.bit CAN_CFG.TXORD n then decide (a < b)
  else
    let x := arbValue (s.txFrame n a)
    let y := arbValue (s.txFrame n b)
    decide (x < y) || (x == y && decide (a < b))

/-- The first of some buffers in the order of R413. -/
def State.canFirst (s : State) (n : Nat) (bs : List Nat) : Option Nat :=
  bs.foldl (fun m b => match m with
    | none => some b
    | some a => if s.canBefore n b a then some b else some a) none

/-- R412: staging: the first buffer that needs it takes the staging memory once it is free. -/
def State.stageNext (s : State) (n : Nat) : State :=
  match (s.cp n).stage with
  | some _ => s
  | none => match s.canFirst n ((List.range 32).filter fun b => s.bst n b == bPending && s.needsStage n b) with
    | some b => s.setCp n { s.cp n with stage := some (b, none) }
    | none => s

/-- R412: the buffer's data is where it can be sent from. -/
def State.staged (s : State) (n b : Nat) : Bool :=
  !s.needsStage n b || (match (s.cp n).stage with
    | some (b', some _) => b' == b
    | _ => false)

/-- A buffer leaves the port's hands: its staging memory is free for the next one. -/
def State.unstage (s : State) (n b : Nat) : State :=
  let mine := match (s.cp n).stage with
    | some (b', _) => b' == b
    | none => false
  if mine then (s.setCp n { s.cp n with stage := none }).stageNext n else s

/-- A buffer ends: DONE, CANCELLED or FAILED, with CANCEL_LATE and REASON. -/
def State.endBuf (s : State) (n b st reason : Nat) (late : Bool) : State :=
  let s := if b = nmBuf then s
    else ((s.flag CAN_TXS.CANCEL_LATE late n b).put CAN_TXS.REASON reason n b).flag CAN_TXS.LONELY false n b
  (s.setBst n b st).unstage n b

/-! ## NM buffer (R454) -/

/-- An NM frame is requested: node ID, flags (SLEEPCMD 1, STAY 2, WAKEREQ 4), cluster requests. A frame that waits already
takes the new content and keeps its flags; behind an ACTIVE one it waits its turn. -/
def State.nmRequest (s : State) (n flags : Nat) (req : Nat) : State :=
  let x := s.cp n
  let d := fun (old : List Byte) => [BitVec.ofNat 8 (s.fld NM_CFG.NODEID),
    BitVec.ofNat 8 (flags ||| (old.getD 1 0).toNat), BitVec.ofNat 8 req, (0 : Byte)]
  if x.nmSt = bActive then s.setCp n { x with nmNext := some (d (x.nmNext.getD [])) }
  else if x.nmSt = bPending || x.nmSt = bHeld then s.setCp n { x with nmData := d x.nmData }
  else s.setCp n { x with nmSt := bPending, nmAtt := 0, nmData := d [] }

/-- After an NM frame has been sent, the one that waits behind it is PENDING. -/
def State.nmFollow (s : State) (n : Nat) : State :=
  let x := s.cp n
  match x.nmNext with
  | some d => if x.nmSt = bIdle then s.setCp n { x with nmSt := bPending, nmAtt := 0, nmData := d, nmNext := none } else s
  | none => s

/-! ## Lonely node (R417, R418) -/

/-- R417: ACKRUN returns to 0 and LONELY clears; every HELD buffer is PENDING again. -/
def State.clearLonely (s : State) (n : Nat) : State :=
  let was := s.bit CAN_STAT.LONELY n
  let s := (s.put CAN_ERR.ACKRUN 0 n).flag CAN_STAT.LONELY false n
  let s := forEach canBufs (fun b s =>
    if s.bst n b = bHeld then
      let s := s.setBst n b bPending
      if b = nmBuf then s else s.flag CAN_TXS.LONELY false n b
    else s) s
  let s := s.stageNext n
  if was then (s.clearSrc 10 n 2).canEvent n 3 else s

/-- R417: an acknowledge error of an own transmission counts; at LONELYN the port is lonely and raises kind 2. The detail
of an NM frame's attempt is open: the field holds buffers 0 to 31. -/
def State.ackError (s : State) (n b : Nat) : State :=
  let s := s.put CAN_ERR.ACKRUN (satInc (s.fld CAN_ERR.ACKRUN n) 8) n
  if !s.bit CAN_STAT.LONELY n && s.fld CAN_CFG.LONELYN n ≤ s.fld CAN_ERR.ACKRUN n then
    let s := s.flag CAN_STAT.LONELY true n
    let s := if b < 32 then s.raiseCond 10 n 2 b
      else let (w, s) := s.takeFree; s.raiseCond 10 n 2 (ext w 0 5)
    s.canEvent n 3
  else s

/-! ## Fault confinement (R416, ISO 11898-1) -/

/-- The attempt of the ACTIVE buffer is over without success: it is PENDING again, or CANCELLED after a late cancel. -/
def State.retry (s : State) (n : Nat) : State :=
  match s.active n with
  | none => s
  | some b =>
    let late := (s.cp n).late
    let s := s.setCp n { s.cp n with late := false }
    if late then s.endBuf n b bCancelled 0 true else s.setBst n b bPending

/-- R416: entry into bus-off. Automatic recovery begins at once. -/
def State.busOff (s : State) (n : Nat) : State :=
  let s := s.put CAN_ERR.BOCNT (satInc (s.fld CAN_ERR.BOCNT n) 8) n
  let s := s.raise 10 n 0 (s.fld CAN_ERR.LEC n * 512 + s.fld CAN_ERR.BOCNT n)
  ((s.retry n).clearLonely n).setCanSt n (if s.bit CAN_CFG.BORECOV n then 4 else 5)

/-- R416: the counters take new values, and the error state follows: passive from 128 on, bus-off beyond 255. -/
def State.confine (s : State) (n tec rec : Nat) : State :=
  let s := (s.put CAN_STAT.TEC (satTo tec 8) n).put CAN_STAT.REC (satTo rec 8) n
  let st := s.canSt n
  if st ≠ 2 && st ≠ 3 then s
  else if 256 ≤ tec then s.busOff n
  else if 128 ≤ tec || 128 ≤ rec then
    if st = 2 then
      (s.raise 10 n 1 (s.fld CAN_ERR.LEC n * 512 + (if 128 ≤ tec then satTo tec 8 else 256 + satTo rec 8))).setCanSt n 3
    else s
  else s.setCanSt n 2

/-- R416: the error record: LEC, its phase, and the count of errors. -/
def State.canErr (s : State) (n : Nat) (e : CanErr) : State :=
  ((s.put CAN_ERR.LEC e.lec n).flag CAN_ERR.LECDATA e.inData n).wrap CAN_ERR.ERRCNT n

/-- R416: a frame received valid lowers REC: by 1, or from above 127 to a value of 119 to 127 that the standard leaves
open. -/
def State.recGood (s : State) (n : Nat) : State :=
  let r := s.fld CAN_STAT.REC n
  if 127 < r then
    let (w, s) := s.takeFree
    s.confine n (s.fld CAN_STAT.TEC n) (119 + w.toNat % 9)
  else s.confine n (s.fld CAN_STAT.TEC n) (r - 1)

/-! ## Port life (R420, R421, R470) -/

/-- R420: the port integrates, its error counters kept. -/
def State.integrate (s : State) (n : Nat) : State :=
  (s.setCp n { s.cp n with after := 0, standby := false }).setCanSt n 1

/-- What a port does at the end of the frame in progress (R421, R470). -/
def State.canAfter (s : State) (n : Nat) : State :=
  match (s.cp n).after with
  | 1 => s.integrate n
  | 2 => (s.setCp n { s.cp n with after := 0, standby := true }).setCanSt n 0
  | 3 => (s.setCp n { s.cp n with after := 0, standby := true }).setCanSt n 0
  | _ => s

/-- R421, R470: the port finishes the frame in progress and then stops (`k` as CanSt.after). A frame that it is receiving
may still become valid. -/
def State.canStop (s : State) (n k : Nat) : State :=
  let s := s.setCp n { s.cp n with after := k, tail := true }
  if (s.active n).isSome then s else s.canAfter n

/-- R420, R424: the error state that integration ends in; a deputy's port monitors. -/
def State.integrated (s : State) (n : Nat) : State :=
  let s := s.setCp n { s.cp n with tail := false }
  if s.bit CAN_CFG.MON n then s.setCanSt n 6
  else if 128 ≤ s.fld CAN_STAT.TEC n || 128 ≤ s.fld CAN_STAT.REC n then s.setCanSt n 3
  else s.setCanSt n 2

/-- R420: a port starts: it integrates with TEC and REC at 0; a disabled port rests in standby. -/
def State.canStart (s : State) (n : Nat) : State :=
  let s := (s.put CAN_STAT.TEC 0 n).put CAN_STAT.REC 0 n
  if s.bit CAN_CFG.EN n then s.integrate n
  else (s.setCp n { s.cp n with standby := true }).setCanSt n 0

/-- R464, R470: the port drives a wake-up pattern of three phases of 6 µs. -/
def State.driveWup (s : State) (n : Nat) : State := s.setCp n { s.cp n with wupAt := some s.tb }

/-! ## Filters (R401) and records (R403) -/

/-- The FMT bit of a frame format. -/
def fmtBit : CanFmt → Nat
  | .classical => 0
  | .fd => 1
  | .xl => 2

/-- R401: filter `i` of port `n` matches the frame. -/
def State.filterHit (s : State) (n : Nat) (f : CanFrame) (i : Nat) : Bool :=
  s.fld CAN_FCTL.ACT n i != 0 && s.bit CAN_FID.IDE n i == f.ide && bitOf (s.fld CAN_FCTL.FMT n i) (fmtBit f.fmt) &&
    ((f.id ^^^ s.fld CAN_FID.MATCH n i) &&& s.fld CAN_FMK.MASK n i) == 0 &&
    (!s.bit CAN_FCTL.RTRM n i || s.bit CAN_FCTL.RTR n i == f.rtr)

/-- R401: the first filter that matches. -/
def State.filterOf (s : State) (n : Nat) (f : CanFrame) : Option Nat := (List.range 64).find? (s.filterHit n f)

/-- Data bytes as words, byte 0 lowest. -/
def dataWords : List Byte → List Word
  | a :: b :: c :: d :: bs => wordOf [a, b, c, d] :: dataWords bs
  | [] => []
  | bs => [wordOf (bs ++ [0, 0, 0])]

/-- R403: the receive record of a frame: SEQ, matching filter, time at the sample point of SOF. -/
def canRecord (seq : Nat) (filter : Option Nat) (f : CanFrame) (sof : Word) : List Word :=
  let xl := f.fmt = .xl
  let w0 := seq % 256 + 2 ^ 8 * (filter.getD 0) + 2 ^ 14 * b2n filter.isNone + 2 ^ 15 + 2 ^ 16 * f.data.length
  let w1 := f.id % 2 ^ 29 + 2 ^ 29 * b2n f.ide + 2 ^ 30 * b2n f.rtr
  let w2 := b2n (f.fmt = .fd) + 2 * b2n xl + 4 * b2n f.brs + 8 * b2n f.esi + 16 * (if xl then 0 else f.dlc % 16) +
    2 ^ 8 * b2n f.sec + (if xl then 2 ^ 16 * (f.sdt % 256) + 2 ^ 24 * (f.vcid % 256) else 0)
  [BitVec.ofNat 32 w0, BitVec.ofNat 32 w1, BitVec.ofNat 32 w2, if xl then BitVec.ofNat 32 f.af else 0, sof] ++ dataWords f.data

/-- The depth of a queue. -/
def State.qDepth (s : State) (n q : Nat) : Nat := if q = 0 then s.fld CAN_QCFG.Q0DEPTH n else s.fld CAN_QCFG.Q1DEPTH n

/-- R405: a discarded frame counts, and kind 3 is raised, at most once per 10 ms, with the count since the last report. -/
def State.canOverflow (s : State) (n q k : Nat) : State :=
  if k = 0 then s
  else
    let s := s.put CAN_QSTAT.OVF (satTo (s.fld CAN_QSTAT.OVF n q + k) 8) n q
    let x := s.cq n q
    let cnt := x.ovCnt + k
    let due := match x.ovAt with
      | none => true
      | some t => t + 1000000 ≤ s.tb
    if due then
      (s.setCq n q { x with ovAt := some s.tb, ovCnt := 0 }).raise 10 n 3 (q * 2048 + satTo cnt 8)
    else s.setCq n q { x with ovCnt := cnt }

/-- R405: the oldest records are discarded until `need` entries are free; `keep` records at the head stay. Answers the
records left and how many went. -/
def dropOld (depth need : Nat) : List (List Word) → Nat → List (List Word) × Nat
  | [], k => ([], k)
  | r :: rs, k => if usedOf (r :: rs) + need ≤ depth then (r :: rs, k) else dropOld depth need rs (k + 1)

/-- R403 to R405: a frame is stored in a queue as a record. -/
def State.canStore (s : State) (n q : Nat) (filter : Option Nat) (f : CanFrame) (sof : Word) : State :=
  let x := s.cq n q
  let rc := canRecord x.seq filter f sof
  let need := entriesOf rc
  let depth := s.qDepth n q
  let ovwr := if q = 0 then s.bit CAN_CFG.OVWR0 n else s.bit CAN_CFG.OVWR1 n
  let locked := s.bit CAN_QSTAT.LOCKED n q
  let hd := if locked then x.recs.take 1 else []
  let tl := if locked then x.recs.drop 1 else x.recs
  let r := if ovwr then dropOld (depth - usedOf hd) need tl 0 else (tl, 0)
  if usedOf hd + usedOf r.1 + need ≤ depth then
    let s := s.canOverflow n q r.2
    let s := s.setCq n q { s.cq n q with seq := (x.seq + 1) % 256 }
    (s.canSetRecs n q (hd ++ r.1 ++ [rc])).canEvent n q
  else ((s.canOverflow n q r.2).canSetRecs n q (hd ++ r.1)).canOverflow n q 1

end Sys2Proof.Machine
end

