-- ==== Sys2Proof/Machine/LinCore.lean ====
section
/-! DEFINITION. LIN ports (spec/13 R427 to R435): the schedule, frame data slots, checksums, wake pulses and go-to-sleep. -/

namespace Sys2Proof.Machine

/-- A LIN port beyond its registers. -/
def State.lp (s : State) (n : Nat) : LinSt := Tbl.get s.lin n default

def State.setLp (s : State) (n : Nat) (x : LinSt) : State := { s with lin := Tbl.set s.lin n x }

/-- The entry of the slot in progress. -/
def State.linEntry (s : State) (n : Nat) : RegRef := ⟨.LIN_TE, n, s.fld LIN_SCHED.RUNNING n, s.fld LIN_SCHED.ENTRY n⟩

/-- A field of the entry of the slot in progress. -/
def State.linTe (s : State) (n : Nat) (f : Fld) : Nat := ext (s.reg (s.linEntry n)) f.lo f.width

/-- A subscribed slot is in progress and its response is still awaited. -/
def State.linAwaits (s : State) (n : Nat) : Bool :=
  (s.lp n).inSlot && !(s.lp n).done && s.fld LIN_SCHED.RUNNING n < 16

/-! ## Data slots (R432 to R434) -/

/-- The eight bytes of a data slot. -/
def State.linBytes (s : State) (n k : Nat) : List Byte :=
  leBytes (s.reg ⟨.LIN_D0, n, k, 0⟩).toNat 4 ++ leBytes (s.reg ⟨.LIN_D1, n, k, 0⟩).toNat 4

/-- Bytes put into a data slot from byte 0 on; its other bytes stay. -/
def State.linPut (s : State) (n k : Nat) (bs : List Byte) : State :=
  let all := bs.take 8 ++ (s.linBytes n k).drop (bs.take 8).length
  (s.setReg ⟨.LIN_D0, n, k, 0⟩ (wordOf all)).setReg ⟨.LIN_D1, n, k, 0⟩ (wordOf (all.drop 4))

/-- RES and COUNT of a data slot (R434). -/
def State.linRes (s : State) (n k res : Nat) : State := (s.put LIN_D2.RES res n k).wrap LIN_D2.COUNT n k

/-- R427: the protected identifier of a frame ID: ISO 17987 parity over its bits. -/
def linPid (fid : Nat) : Nat :=
  let b := fun i => b2n (bitOf fid i)
  let p0 := (b 0 + b 1 + b 2 + b 4) % 2
  let p1 := (b 1 + b 3 + b 4 + b 5 + 1) % 2
  fid % 64 + 64 * p0 + 128 * p1

/-- R427: the checksum of ISO 17987: the inverted sum with carry of the data bytes, and of the protected identifier where
it is enhanced. -/
def linChecksum (enhanced : Bool) (fid : Nat) (bs : List Byte) : Byte :=
  let add := fun (a : Nat) (b : Byte) => if 256 ≤ a + b.toNat then a + b.toNat - 255 else a + b.toNat
  BitVec.ofNat 8 (255 - bs.foldl add (if enhanced then linPid fid else 0))

/-! ## The schedule (R428 to R431) -/

/-- The schedule stands at the start of a table, no slot begun; table 16 is stopped. -/
def State.linTable (s : State) (n t : Nat) : State :=
  let s := s.setLp n { s.lp n with inSlot := false, done := false, want := none, ret := none, coll := false }
  (s.put LIN_SCHED.RUNNING t n).put LIN_SCHED.ENTRY 0 n

/-- R430: a write of TABLE: at once where no table runs, else at the end of the slot in progress. While NM holds the
schedule stopped, it names the table that resumes. -/
def State.linSelect (s : State) (n t : Nat) : State :=
  let x := s.lp n
  if x.asleep || x.resume then s.setLp n { x with table := t }
  else if s.fld LIN_SCHED.RUNNING n = 16 || !x.inSlot then s.linTable n t
  else s.setLp n { x with want := some t }

/-- R428: the place after the present entry of a table: the next entry, or entry 0 after the last. -/
def State.linNext (s : State) (n : Nat) : Nat × Bool :=
  let e := s.fld LIN_SCHED.ENTRY n
  if s.linTe n LIN_TE.END = 1 || e = 31 then (0, true) else (e + 1, false)

/-- R428, R430, R431: the slot in progress ends, and the schedule stands at the next one. -/
def State.linAdvance (s : State) (n : Nat) : State :=
  let x := s.lp n
  if !x.inSlot then s
  else match x.want with
    | some t => s.linTable n t
    | none =>
      let (e, ended) := s.linNext n
      let s := s.setLp n { x with inSlot := false, coll := false }
      if x.coll then
        ((s.setLp n { s.lp n with ret := some (s.fld LIN_SCHED.RUNNING n, e) }).put LIN_SCHED.RUNNING (s.linTe n LIN_TE.CTBL) n).put
          LIN_SCHED.ENTRY 0 n
      else match x.ret with
        | some (t, e') =>
          if ended then ((s.setLp n { s.lp n with ret := none }).put LIN_SCHED.RUNNING t n).put LIN_SCHED.ENTRY e' n
          else s.put LIN_SCHED.ENTRY e n
        | none => s.put LIN_SCHED.ENTRY e n

/-! ## Network management -/

/-- R435: a dominant wake pulse of 1 ms begins. -/
def State.linPulse (s : State) (n : Nat) : State := s.setLp n { s.lp n with pulseAt := some s.tb }

/-- R459: go-to-sleep in the next slot, and then the schedule stops. -/
def State.linGoSleep (s : State) (n : Nat) : State :=
  if s.bit LIN_CFG.EN n then s.setLp n { s.lp n with goSleep := true } else s

/-- R461, R464, R470: the port wakes: a wake pulse, and the schedule resumes 100 ms later. `always`: also a port that has
not sent its go-to-sleep command (R464). -/
def State.linWake (s : State) (n : Nat) (always : Bool) : State :=
  let x := s.lp n
  if !s.bit LIN_CFG.EN n then s
  else if x.asleep then (s.setLp n { x with asleep := false, resume := true, goSleep := false }).linPulse n
  else if always then
    let table := if x.resume then x.table else s.fld LIN_SCHED.RUNNING n
    (((s.linTable n 16).setLp n { (s.linTable n 16).lp n with resume := true, goSleep := false, table := table })).linPulse n
  else s.setLp n { x with goSleep := false }

/-- R435: the port starts at the first slot of the table of LINn_SCHED; a disabled port stands stopped. -/
def State.linStart (s : State) (n : Nat) : State :=
  let s := s.setLp n { s.lp n with asleep := false, resume := false, goSleep := false }
  s.linTable n (if s.bit LIN_CFG.EN n then s.fld LIN_SCHED.TABLE n else 16)

end Sys2Proof.Machine
end

