-- ==== Sys2Proof/Machine/NmCore.lean ====
section
/-! DEFINITION. Network management (spec/14): segments, clusters, the sleep states and their wakes, as operations that CAN, LIN
and the mode machine share. -/

namespace Sys2Proof.Machine

/-! ## Segments -/

/-- R466, R468: this module runs the NM state machine. -/
def State.nmOn (s : State) : Bool := s.bit NM_CFG.EN && !s.isDeputy

/-- The NM state machine is at work: between the boundary that ends Start or a wake and the next Parked, Watch or Hold (R457, R467). -/
def State.nmRuns (s : State) : Bool := s.nmOn && s.sys.phase == .run

/-- R451: the NM role of a CAN port: 0 none, 1 master, 2 follower. -/
def State.nmRole (s : State) (n : Nat) : Nat := if s.bit CAN_CFG.EN n then s.fld NM_PORT.ROLE n else 0

/-- The CAN ports that are NM segments. -/
def State.nmPorts (s : State) : List Nat := (List.range (nCan s.variant)).filter fun n => s.nmRole n != 0

/-- R452: the LIN ports that are NM segments. -/
def State.nmLins (s : State) : List Nat := (List.range (nLin s.variant)).filter fun n => bitOf (s.fld NM_LIN.SEG) n

/-- NM_STAT.STATE: 0 AWAKE, 1 SLEEP_PENDING, 2 PRE_SLEEP, 3 SLEEP. -/
def State.nmSt (s : State) : Nat := s.fld NM_STAT.STATE

/-- R471: event `k` of NM. -/
def State.nmEvent (s : State) (k : Nat) : State :=
  if s.bit NM_EVT.EVEN then s.event (s.fld NM_EVT.CTX) (s.fld NM_EVT.EVBIT + k) else s

/-- R456: the module is ready to sleep. -/
def State.nmReady (s : State) : Bool :=
  s.bit NM_CTL.READY && (match s.nm.stayAt with
    | none => true
    | some t => t + 2 * s.fld NM_TIME.TCYC * 1000000 ≤ s.tb)

/-- NM_PEND.LEFT: what remains of tPEND in ms. -/
def State.nmLeft (s : State) : Nat :=
  if s.nmSt = 1 && !s.nm.pendOver then s.fld NM_CFG.TPEND - (s.tb - s.nm.pendAt) / 100000 else 0

/-! ## Clusters (R469, R470) -/

/-- The cluster of a CAN port, 8 for none. -/
def State.canCluster (s : State) (n : Nat) : Nat := ext (s.reg ⟨.NM_CLUSTP, 0, 0, 0⟩) (4 * n) 4

/-- The cluster of a LIN port, 8 for none. -/
def State.linCluster (s : State) (n : Nat) : Nat := ext (s.reg ⟨.NM_CLUSTL, 0, 0, 0⟩) (4 * n) 4

/-- R469: cluster `k` is active. -/
def State.pnWanted (s : State) (k : Nat) : Bool :=
  s.nmSt ≤ 1 && (bitOf (s.fld NM_CTL.PNREQ) k || bitOf (s.fld NM_STAT.PNRX) k || s.nm.det.getLsbD k)

/-- R469, R444: the segment of a CAN port is active; a port that takes no part in NM always is, outside a cluster. -/
def State.canSegment (s : State) (n : Nat) : Bool :=
  if s.canCluster n < 8 then bitOf (s.fld NM_STAT.PNACT) (s.canCluster n) else s.nmRole n == 0 || s.nmSt ≤ 1

/-- R469, R444: the segment of a LIN port is active. -/
def State.linSegment (s : State) (n : Nat) : Bool :=
  if s.linCluster n < 8 then bitOf (s.fld NM_STAT.PNACT) (s.linCluster n)
  else !bitOf (s.fld NM_LIN.SEG) n || s.nmSt ≤ 1

/-- R464, R470: a CAN port returns to normal operation: it integrates, and a master drives the wake-up pattern. -/
def State.canWake (s : State) (n : Nat) : State :=
  let s := if (s.cp n).standby then s.integrate n
    else if (s.cp n).after = 2 then s.setCp n { s.cp n with after := 0 } else s
  if s.nmRole n = 1 then s.driveWup n else s

/-- R470: a cluster's ports change with it. -/
def State.clusterPorts (s : State) (k : Nat) (on : Bool) : State :=
  let s := forEach ((List.range (nCan s.variant)).filter fun n => s.canCluster n == k && s.bit CAN_CFG.EN n)
    (fun n s =>
      if on then
        let s := s.canWake n
        if s.canSt n = 2 then s else s.setCp n { s.cp n with activating := true, actTimer := true }
      else (s.setCp n { s.cp n with activating := false, actTimer := false }).canStop n 2) s
  forEach ((List.range (nLin s.variant)).filter fun n => s.linCluster n == k)
    (fun n s => if on then s.linWake n true else s.linGoSleep n) s

/-- R469 to R471: the clusters follow their requests while the module operates: changed ones move their ports, and a change is an
event. -/
def State.nmClusters (s : State) : State :=
  let old := s.fld NM_STAT.PNACT
  let new := (List.range 8).foldl (fun v k => v + (if s.pnWanted k then 2 ^ k else 0)) 0
  if old = new || s.sys.phase != .run then s
  else
    let s := s.put NM_STAT.PNACT new
    let s := forEach ((List.range 8).filter fun k => bitOf old k != bitOf new k)
      (fun k s => s.clusterPorts k (bitOf new k)) s
    s.nmEvent 2

/-! ## Frames and states -/

/-- R455, R458: an NM frame with flags (SLEEPCMD 1, STAY 2, WAKEREQ 4) is requested on a port; STAY or WAKEREQ sent on the
FOLLOWER port ends a pending SLEEPCMD. -/
def State.nmSend (s : State) (n flags : Nat) : State :=
  let s := s.nmRequest n flags (s.fld NM_CTL.PNREQ)
  if s.nmRole n = 2 && 2 ≤ flags then s.flag NM_STAT.SLEEPCMD false else s

/-- Entry into AWAKE with its cause (R457, R458, R471). -/
def State.nmAwake (s : State) (cause : Nat) : State :=
  let s := ((s.put NM_STAT.STATE 0).put NM_STAT.WCAUSE cause).flag NM_STAT.SLEEPCMD false
  ({ s with nm := { s.nm with pendOver := false, latched := none, wake := none } }.nmEvent 1).nmClusters

/-- R461, R462: the sleep is cancelled: kind 2, AWAKE, LIN ports woken; a local wake (cause 1) sends WAKEREQ. -/
def State.nmCancel (s : State) (cause port : Nat) : State :=
  let s := s.raise 10 25 2 (cause * 256 + port)
  let s := forEach s.nmLins (fun n s => s.linWake n false) s
  let s := if cause = 1 then forEach s.nmPorts (fun n s => s.nmSend n 4) s else s
  s.nmAwake cause

/-- R463: a wake during PRE_SLEEP is latched. -/
def State.nmLatch (s : State) (cause : Nat) : State :=
  match s.nm.latched with
  | some _ => s
  | none =>
    let s := { s with nm := { s.nm with latched := some cause } }
    ((s.flag NM_STAT.LATCHED true).flag SYS_WAKESRC.LATCHED true).raise 10 25 1 (cause * 256)

/-- R464: the module wakes from SLEEP: transceivers normal, wake-up patterns, WAKEREQ frames, LIN wake pulses. -/
def State.nmWake (s : State) (cause : Nat) : State :=
  let s := forEach s.nmPorts (fun n s => s.canWake n) s
  let s := s.nmAwake cause
  let s := forEach s.nmPorts (fun n s => s.nmSend n 4) s
  forEach s.nmLins (fun n s => s.linWake n true) s

/-- R464: a wake in SLEEP is noted, to be carried out by NM_WAKE_FROM_SLEEP; the first cause stands. -/
def State.nmNoteWake (s : State) (cause : Nat) : State :=
  match s.nm.wake with
  | some _ => s
  | none => { s with nm := { s.nm with wake := some cause } }

/-- R462: a local wake, by the state of NM. -/
def State.nmLocalWake (s : State) : State :=
  if !s.nmRuns then s
  else match s.nmSt with
    | 1 => s.nmCancel 1 0xFF
    | 2 => s.nmLatch 1
    | 3 => s.nmNoteWake 1
    | _ => s

/-- R463, R464, R469: a wake-up pattern on a CAN port, or a wake pulse on a LIN port, while the module operates. -/
def State.nmWakeSeen (s : State) (nmSeg : Bool) (cluster : Nat) : State :=
  let s := if cluster < 8 then { s with nm := { s.nm with det := s.nm.det ||| (1#8 <<< cluster) } } else s
  let s := if nmSeg && s.nmRuns then
      match s.nmSt with
      | 2 => s.nmLatch 4
      | 3 => s.nmNoteWake 4
      | _ => s
    else s
  s.nmClusters

/-- R453: the frame is an NM frame of the port. -/
def State.isNmFrame (s : State) (n : Nat) (f : CanFrame) : Bool :=
  s.nmOn && s.nmRole n != 0 && decide (f.fmt = .classical) && !f.ide && !f.rtr && decide (4 ≤ f.dlc) && decide (4 ≤ f.data.length) &&
    ((f.id ^^^ s.fld NM_PORT.NMID n) &&& s.fld NM_PORT.NMMASK n) == 0 && decide ((f.data.getD 1 0).toNat < 8)

/-- R453, R456, R458, R461, R463, R469: what an NM frame does. -/
def State.nmFrame (s : State) (n : Nat) (f : CanFrame) : State :=
  let fl := (f.data.getD 1 0).toNat
  let stay := bitOf fl 1
  let wreq := bitOf fl 2
  let follower := s.nmRole n == 2
  let s := if stay && !follower then { s with nm := { s.nm with stayAt := some s.tb } } else s
  let s := (s.put NM_STAT.PNRX (s.fld NM_STAT.PNRX ||| (f.data.getD 2 0).toNat)).nmClusters
  let s := if follower && (stay || wreq) then s.flag NM_STAT.SLEEPCMD false
    else if follower && bitOf fl 0 then
      let s := s.flag NM_STAT.SLEEPCMD true
      if !s.nmReady then (s.nmSend n 2).nmEvent 3 else s
    else s
  if stay || wreq then
    let cause := if stay then 2 else 3
    match s.nmSt with
    | 1 => s.nmCancel cause n
    | 2 => s.nmLatch cause
    | _ => s
  else s

/-! ## Mode boundaries (R420, R435, R457, R467, R640) -/

/-- R420, R435, R457, R471: the ports start at the boundary that ends Start; NM enters AWAKE, or SLEEP where Start ends in Parked
or Watch (R640). Ports of inactive clusters stay in standby. -/
def State.netStart (s : State) (sleep : Bool) : State :=
  let was := s.fld NM_STAT.PNACT
  let s := ((s.put NM_STAT.PNACT 0).put NM_STAT.STATE (if sleep then 3 else 0)).flag NM_STAT.SLEEPCMD false
  let s := { s with nm := { (default : NmSt) with det := 0 } }
  if sleep then (if s.nmOn then s.nmEvent 0 else s)
  else
    let s := s.put NM_STAT.PNACT ((List.range 8).foldl (fun v k => v + (if s.pnWanted k then 2 ^ k else 0)) 0)
    let s := if s.fld NM_STAT.PNACT = was then s else s.nmEvent 2
    let s := forEach (List.range (nCan s.variant)) (fun n s =>
      let s := s.canStart n
      if s.canSegment n then s else (s.setCp n { s.cp n with standby := true }).setCanSt n 0) s
    let s := forEach (List.range (nLin s.variant)) (fun n s =>
      let s := s.linStart n
      if s.linSegment n then s
      else (s.linTable n 16).setLp n { (s.linTable n 16).lp n with asleep := true, table := s.fld LIN_SCHED.TABLE n }) s
    if s.nmOn then s.nmEvent 1 else s

/-- R467: the boundary of a wake: the ports start, and NM enters AWAKE with steps 1 to 4 of R464. -/
def State.netWake (s : State) : State :=
  let s := s.netStart false
  if s.nmOn then s.nmWake 5 else s

end Sys2Proof.Machine
end

