-- ==== Sys2Proof/Machine/EthCore.lean ====
section
/-! DEFINITION. The Ethernet switch (spec/13 R436 to R440) and 1722 talker streams (R448, R449). -/

namespace Sys2Proof.Machine

/-! ## Frames and queues -/

/-- R437: the length of a frame on the wire: addresses, tag, body, frame check sequence. -/
def ethLen (f : EthFrame) : Nat := 12 + (if f.tag.isSome then 4 else 0) + f.body.length + 4

/-- The bus and Ethernet islands run: not while they are powered down (R66, R70) or held in reset (R83). -/
def State.ethOn (s : State) : Bool :=
  match s.sys.phase with
  | .unpowered | .s1 | .hold | .parkDown | .parked | .w2 => false
  | _ => true

/-- The port takes part: enabled, and its link up; port 7 always (R436). -/
def State.ethUp (s : State) (p : Nat) : Bool := s.ethOn && (p == 7 || (s.bit ETH_PCFG.EN p && s.bit ETH_PSTAT.LINK p))

/-- An egress queue of a port. -/
def State.ethQueue (s : State) (p q : Nat) : List EthFrame := Tbl.get s.eth.egress (p, q) []

/-- R437: a frame enters the egress queue of its PCP; where it finds the queue full (`full`), it is dropped, counted and
reported (kind 3). -/
def State.ethPut (s : State) (p pcp : Nat) (f : EthFrame) (full : Bool) : State :=
  if full then
    if p = 7 then s
    else
      let s := s.count ETH_PSTAT.DROP p
      s.raise 10 (16 + p) 3 (satTo (s.fld ETH_PSTAT.DROP p) 12)
  else { s with eth := { s.eth with egress := Tbl.set s.eth.egress (p, pcp) (s.ethQueue p pcp ++ [f]) } }

/-- R437: a port sends: queue 7 is served first. -/
def State.ethSend (s : State) (p : Nat) : State :=
  match ((List.range 8).map (7 - ·)).find? (fun q => !(s.ethQueue p q).isEmpty) with
  | some q =>
    match s.ethQueue p q with
    | f :: fs => { s with eth := { s.eth with egress := Tbl.set s.eth.egress (p, q) fs, sent := Tbl.set s.eth.sent p f } }
    | [] => s
  | none => s

/-- The ports whose queues hold frames and whose links are up send one frame each. -/
def State.ethTick (s : State) : State :=
  forEach ((s.eth.egress.map (·.1.1)).eraseDups) (fun p s => if s.ethUp p then s.ethSend p else s) s

/-! ## Forwarding (R437) -/

/-- The VLAN table entry of a VID. -/
def State.vlanOf (s : State) (vid : Nat) : Option Nat :=
  if vid = 0 then none else (List.range 64).find? fun v => s.fld ETH_VLAN.VID v == vid

/-- A group address: the lowest bit of the first byte is set. -/
def groupAddr (a : Nat) : Bool := bitOf a 40

/-- R437: a source address is learned for its VLAN; a full table of 2,048 learns no more. -/
def State.ethLearn (s : State) (a vid p : Nat) : State :=
  if groupAddr a then s
  else
    let ls := s.eth.learned.filter fun e => !(e.1 == a && e.2.1 == vid) && s.tb ≤ e.2.2.2 + Config.ageingTime
    if 2048 ≤ ls.length then { s with eth := { s.eth with learned := ls } }
    else { s with eth := { s.eth with learned := (a, vid, p, s.tb) :: ls } }

/-- R437: the port where an address has been learned, unless it has aged. -/
def State.ethLookup (s : State) (a vid : Nat) : Option Nat :=
  if groupAddr a then none
  else match s.eth.learned.find? (fun e => e.1 == a && e.2.1 == vid && s.tb ≤ e.2.2.2 + Config.ageingTime) with
    | some e => some e.2.2.1
    | none => none

/-- The VID and PCP that a frame has at its ingress port. -/
def State.ethClass (s : State) (p : Nat) (f : EthFrame) : Nat × Nat :=
  match f.tag with
  | some (pcp, vid) => (if vid = 0 then s.fld ETH_PCFG.PVID p else vid, pcp)
  | none => (s.fld ETH_PCFG.PVID p, s.fld ETH_PCFG.DEFPCP p)

/-- R437: a frame goes to the ports of its VLAN: to the learned port, or to every other member; tagged or untagged as the
entry says. A frame from a port outside its VLAN, and one to the reserved group addresses, is not forwarded. -/
def State.ethForward (s : State) (p : Nat) (f : EthFrame) (full : BitVec 8) : State :=
  let (vid, pcp) := s.ethClass p f
  if 1522 < ethLen f then s
  else match s.vlanOf vid with
    | none => s
    | some v =>
      let mem := fun q => bitOf (s.fld ETH_VLAN.MEMBER v) q
      if !mem p || f.dst / 16 = 0x0180C200000 then s
      else
        let s := s.ethLearn f.src vid p
        let dsts := match s.ethLookup f.dst vid with
          | some q => if mem q && q != p then [q] else []
          | none => (List.range 8).filter fun q => mem q && q != p
        forEach (dsts.filter s.ethUp) (fun q s =>
          let untag := bitOf (s.fld ETH_VLAN.UNTAG v) q
          s.ethPut q pcp { f with tag := if untag then none else some (pcp, vid) } (full.getLsbD q)) s

/-! ## 1722 talkers (R448, R449) -/

/-- A talker stream. -/
def State.talker (s : State) (t : Nat) : Talker := Tbl.get s.eth.talk t default

def State.setTalker (s : State) (t : Nat) (x : Talker) : State :=
  { s with eth := { s.eth with talk := Tbl.set s.eth.talk t x } }

/-- Bytes padded with zeros to whole words. -/
def padQuad (bs : List Byte) : List Byte := bs ++ List.replicate ((4 - bs.length % 4) % 4) 0

/-- The length of an ACF message in words and its type, as the first two bytes of its header. -/
def acfHead (type bytes : Nat) : List Byte := beBytes (type * 512 + bytes / 4) 2

/-- R448: an ACF CAN (FMT 0) or ACF CAN Brief (FMT 1) message of IEEE 1722. -/
def acfCan (brief mtv : Bool) (bus : Nat) (f : CanFrame) (ns : Nat) : List Byte :=
  let body := padQuad f.data
  let pad := body.length - f.data.length
  let flags := pad * 64 + b2n mtv * 32 + b2n f.rtr * 16 + b2n f.ide * 8 + b2n f.brs * 4 + b2n (f.fmt = .fd) * 2 + b2n f.esi
  let ts := if brief then [] else beBytes (if mtv then ns else 0) 8
  acfHead (if brief then 2 else 1) (4 + ts.length + 4 + body.length) ++
    [BitVec.ofNat 8 flags, BitVec.ofNat 8 (bus % 32)] ++ ts ++ beBytes (f.id % 2 ^ 29) 4 ++ body

/-- R448: an ACF LIN message of IEEE 1722. -/
def acfLin (bus fid : Nat) (data : List Byte) : List Byte :=
  let body := padQuad data
  acfHead 3 (12 + body.length) ++
    [BitVec.ofNat 8 ((body.length - data.length) * 64 + bus % 32), BitVec.ofNat 8 (fid % 64)] ++ beBytes 0 8 ++ body

/-- The stream ID of a stream, as its eight bytes on the wire. -/
def State.streamId (s : State) (t : Nat) : List Byte :=
  beBytes (s.fld ETH_STR1.SIDHI t) 4 ++ beBytes (s.fld ETH_STR0.SIDLO t) 4

/-- R448: the NTSCF PDU of some messages: the 12-byte header and the messages. -/
def ntscf (id : List Byte) (seq : Nat) (msgs : List (List Byte)) : List Byte :=
  let body := msgs.flatten
  [0x82, BitVec.ofNat 8 (0x80 + body.length / 256 % 8), BitVec.ofNat 8 body.length, BitVec.ofNat 8 seq] ++ id ++ body

/-- R449: the open PDU of a talker stream goes to the egress queue of its PCP at port PORT, tagged with VID and PCP. -/
def State.talkSend (s : State) (t : Nat) (full : Bool) : State :=
  let x := s.talker t
  if x.msgs.isEmpty then s
  else
    let lo := leBytes (s.fld ETH_STR3.DMACHI t) 2 ++ leBytes (s.fld ETH_STR2.DMACLO t) 4
    let f : EthFrame := { dst := beNat lo, src := Config.macAddress % 2 ^ 48
                          tag := some (s.fld ETH_STR3.PCP t, s.fld ETH_STR3.VID t)
                          body := [0x22, 0xF0] ++ ntscf (s.streamId t) x.seq x.msgs }
    (s.setTalker t { msgs := [], openAt := 0, seq := (x.seq + 1) % 256 }).ethPut (s.fld ETH_STR4.PORT t) (s.fld ETH_STR3.PCP t) f full

/-- R449: a message joins the open PDU; one that would take it beyond 1,500 bytes sends it first. With TAGG 0 the PDU leaves at once. -/
def State.talkAdd (s : State) (t : Nat) (m : List Byte) : State :=
  let s := if 1500 < 12 + (s.talker t).msgs.flatten.length + m.length then s.talkSend t false else s
  let x := s.talker t
  let s := s.setTalker t { x with msgs := x.msgs ++ [m], openAt := if x.msgs.isEmpty then s.tb else x.openAt }
  if s.fld ETH_STR4.TAGG t = 0 then s.talkSend t false else s

end Sys2Proof.Machine
end

