-- ==== Sys2Proof/Machine/Gw.lean ====
section
/-! DEFINITION. The gateway (spec/13 R441 to R449): route matching, forwarding to CAN, LIN and talker streams. -/

namespace Sys2Proof.Machine

/-- What a frame offered to the gateway comes from (R441): SRCT 0 CAN, 1 LIN, 2 a 1722 stream; its port or stream; the
ACF bus_id; the receive record's time. -/
structure GwSrc where
  srct : Nat
  port : Nat
  bus : Nat
  time : Word
deriving DecidableEq, Repr, Inhabited

/-- R441: route entry `r` matches. -/
def State.routeHit (s : State) (src : GwSrc) (f : CanFrame) (r : Nat) : Bool :=
  s.bit GW_RT2.VALID r && s.fld GW_RT0.SRCT r == src.srct && s.fld GW_RT2.SRCPORT r == src.port &&
    ((f.id ^^^ s.fld GW_RT0.MATCH r) &&& s.fld GW_RT1.MASK r) == 0 &&
    (src.srct != 0 || s.bit GW_RT0.IDE r == f.ide) &&
    (src.srct != 2 || s.fld GW_BUSID.BUSID r == src.bus || s.fld GW_BUSID.BUSID r == 31)

/-- R441: the first valid route entry that matches. The entries in use are those whose word 2 has been written. -/
def State.routeOf (s : State) (src : GwSrc) (f : CanFrame) : Option Nat :=
  let rs := (s.regs.filterMap fun p => if p.1.reg = .GW_RT2 then some p.1.i else none).filter (s.routeHit src f)
  rs.foldl (fun m r => match m with
    | none => some r
    | some a => if r < a then some r else some a) none

/-- GW_STAT counts a forwarded frame. -/
def State.gwFwd (s : State) : State := s.wrap GW_STAT.FWD

/-- GW_STAT counts a dropped frame; kind 1 for a format that its destination does not support. -/
def State.gwFormat (s : State) (r : Nat) : State := (s.count GW_STAT.DROP).raise 10 24 1 r

/-- R445: the frame that a route sends to CAN; none where its data does not fit the format. -/
def State.gwFrame (s : State) (r : Nat) (f : CanFrame) : Option CanFrame :=
  if s.bit GW_RT3.KEEPID r then some f
  else
    let fd := s.bit GW_RT3.FDOUT r
    match lenDlc fd f.data.length with
    | some d => some
      { id := s.fld GW_RT3.DID r, ide := s.bit GW_RT3.DIDE r, fmt := if fd then .fd else .classical, rtr := false
        brs := fd, esi := false, dlc := d, sdt := 0, vcid := 0, af := 0, sec := false, data := f.data }
    | none => none

/-- R445: the port's formats allow the frame. -/
def State.canAdmits (s : State) (n : Nat) (f : CanFrame) : Bool :=
  match f.fmt with
  | .classical => true
  | .fd => s.bit CAN_CFG.FDEN n
  | .xl => s.bit CAN_CFG.XLEN n

/-- R445: a full FIFO drops and counts the frame; kind 0 at most once per 10 ms. -/
def State.gwOverflow (s : State) (n r : Nat) : State :=
  let s := s.count GW_STAT.DROP
  let x := s.cp n
  let due := match x.gwOvAt with
    | none => true
    | some t => t + 1000000 ≤ s.tb
  if due then (s.setCp n { x with gwOvAt := some s.tb }).raise 10 24 0 r else s

/-- R444, R445: a frame towards a CAN port: silently nothing where its segment is inactive or not yet up. -/
def State.gwToCan (s : State) (r : Nat) (f : CanFrame) (n : Nat) : State :=
  if !s.canSegment n || (s.cp n).activating then s
  else match s.gwFrame r f with
    | none => s.gwFormat r
    | some g =>
      if !s.canAdmits n g then s.gwFormat r
      else if 64 ≤ (s.cp n).gwFifo.length then s.gwOverflow n r
      else (s.setCp n { s.cp n with gwFifo := (s.cp n).gwFifo ++ [(r, g)] }).gwFwd

/-- R444, R447: a frame towards a LIN port writes its first bytes into the data slot, as one write. -/
def State.gwToLin (s : State) (r : Nat) (f : CanFrame) (n : Nat) : State :=
  if !s.linSegment n then s else (s.linPut n (s.fld GW_RT2.LINSLOT r) (f.data.take 8)).gwFwd

/-- R448: a frame towards a talker stream; XL frames are not tunnelled. -/
def State.gwTunnel (s : State) (src : GwSrc) (r : Nat) (f : CanFrame) : State :=
  let t := s.fld GW_RT2.STREAM r
  if f.fmt = .xl then s.gwFormat r
  else if !s.bit ETH_STR3.EN t || s.bit ETH_STR4.DIR t then s
  else
    let m := if src.srct = 1 then acfLin (8 + src.port) f.id f.data
      else acfCan (s.bit ETH_STR4.FMT t) (s.bit ETH_STR4.MTV t && !s.bit ETH_STR4.FMT t) src.port f (src.time.toNat * 10)
    (s.talkAdd t m).gwFwd

/-- GATEWAY_ROUTE_MATCH (R441 to R448): a frame offered to the gateway goes to every destination of the first entry that
matches; one that matches none is not counted. -/
def State.gwOffer (s : State) (src : GwSrc) (f : CanFrame) : State :=
  match s.routeOf src f with
  | none => s
  | some r =>
    let s := forEach ((List.range (nCan s.variant)).filter fun n => bitOf (s.fld GW_RT2.CANMASK r) n)
      (fun n s => s.gwToCan r f n) s
    let s := forEach ((List.range (nLin s.variant)).filter fun n => bitOf (s.fld GW_RT2.LINMASK r) n)
      (fun n s => s.gwToLin r f n) s
    if s.bit GW_RT2.TUN r then s.gwTunnel src r f else s

/-- A frame without CAN header fields, for LIN sources: FID and data. -/
def linFrame (fid : Nat) (data : List Byte) : CanFrame := { (default : CanFrame) with id := fid, data := data, dlc := data.length }

/-- R449: one ACF message: its source and frame; none where it is malformed. -/
def parseAcf (t : Nat) (type : Nat) (m : List Byte) : Option (GwSrc × CanFrame) :=
  let b := fun i => (m.getD i 0).toNat
  let can := fun (hdr : Nat) =>
    let flags := b 2
    let pad := flags / 64
    let fd := bitOf flags 1
    if m.length < hdr || m.length < hdr + pad then none
    else
      let data := (m.drop hdr).take (m.length - hdr - pad)
      match lenDlc fd data.length with
      | some d => some (⟨2, t, b 3 % 32, 0⟩,
          { id := beNat ((m.drop (hdr - 4)).take 4) % 2 ^ 29, ide := bitOf flags 3, fmt := if fd then .fd else .classical
            rtr := bitOf flags 4, brs := bitOf flags 2, esi := bitOf flags 0, dlc := d, sdt := 0, vcid := 0, af := 0
            sec := false, data := data })
      | none => none
  match type with
  | 1 => can 16
  | 2 => can 8
  | 3 =>
    let pad := b 2 / 64
    if m.length < 12 + pad || 20 < m.length - pad then none
    else some (⟨2, t, b 2 % 32, 0⟩, linFrame (b 3 % 64) ((m.drop 12).take (m.length - 12 - pad)))
  | _ => none

/-- R449: the ACF messages of a PDU, each offered to the routes; a malformed one is discarded with kind 5, and where its
length cannot be followed, so is the rest. The fuel bounds the walk by the number of bytes. -/
def State.acfWalk (t : Nat) : Nat → List Byte → State → State
  | 0, _, s => s
  | fuel + 1, bs, s =>
    if bs.isEmpty then s
    else
      let h := beNat (bs.take 2)
      let len := h % 512 * 4
      if bs.length < 4 || len < 4 || bs.length < len then s.raise 10 24 5 0xFFF
      else
        let s := match parseAcf t (h / 512) (bs.take len) with
          | some (src, f) => s.gwOffer src f
          | none => s.raise 10 24 5 0xFFF
        State.acfWalk t fuel (bs.drop len) s

end Sys2Proof.Machine
end

