-- ==== Sys2Proof/Machine/Lin.lean ====
section
/-! DEFINITION. The commands of the LIN ports (spec/13 R427 to R435). -/

namespace Sys2Proof.Machine

def State.linFitted (s : State) (n : Nat) : Bool := n < nLin s.variant

/-- R450: the detail of a LIN report: the table in force and the frame ID. -/
def State.linDetail (s : State) (n : Nat) : Nat := s.fld LIN_SCHED.RUNNING n * 64 + s.linTe n LIN_TE.FID

/-- LIN_SLOT_START (R428, R430 to R432, R459): the schedule moves to its next slot, whose header begins; a published frame
copies its data slot; a go-to-sleep command asked for is sent instead, and the schedule stops. -/
def execLinSlotStart (n : Nat) (s : State) : Out :=
  .next <| s.ship <|
    if !s.linFitted n || !s.bit LIN_CFG.EN n then s
    else
      let s := s.linAdvance n
      if s.fld LIN_SCHED.RUNNING n = 16 then s
      else if (s.lp n).goSleep then
        let table := match (s.lp n).ret with
          | some (t, _) => t
          | none => s.fld LIN_SCHED.RUNNING n
        let s := s.linTable n 16
        s.setLp n { s.lp n with goSleep := false, asleep := true, table := table
                                sending := (0 : Byte) :: List.replicate 7 0xFF }
      else
        let out := if s.linTe n LIN_TE.PUB = 1 then (s.linBytes n (s.linTe n LIN_TE.DSLOT)).take (s.linTe n LIN_TE.LEN + 1) else []
        s.setLp n { s.lp n with inSlot := true, done := false, sending := out }

/-- The response of the slot in progress is over. -/
def State.linDone (s : State) (n : Nat) : State := s.setLp n { s.lp n with done := true }

/-- LIN_COLLISION_TABLE (R431): the slot records COLLISION, and its collision table follows. -/
def State.linCollide (s : State) (n : Nat) : State :=
  (s.setLp n { s.lp n with coll := true }).linRes n (s.linTe n LIN_TE.DSLOT) 5

/-- LIN_RESPONSE_RECEIVED (R434, R431, R441): the response of a subscribed slot is complete, with its checksum byte; `err` is
a bit or framing error, `coll` a collision in an event-triggered slot. A bit error can also end a published frame. -/
def execLinResponseReceived (n : Nat) (data : List Byte) (chk : Byte) (err coll : Bool) (s : State) : Out :=
  .next <| s.ship <|
    if !s.linFitted n || !s.linAwaits n then s
    else
      let k := s.linTe n LIN_TE.DSLOT
      let s := s.linDone n
      if s.linTe n LIN_TE.TYPE = 1 && coll then s.linCollide n
      else if err then (s.linRes n k 4).raise 10 (8 + n) 2 (s.linDetail n)
      else if s.linTe n LIN_TE.PUB = 1 then s
      else if data.length ≠ s.linTe n LIN_TE.LEN + 1 || linChecksum (s.linTe n LIN_TE.CHK = 1) (s.linTe n LIN_TE.FID) data ≠ chk then
        (s.linRes n k 3).raise 10 (8 + n) 1 (s.linDetail n)
      else
        ((s.linPut n k data).linRes n k 1).gwOffer ⟨1, n, 8 + n, 0⟩ (linFrame (s.linTe n LIN_TE.FID) data)

/-- LIN_RESPONSE_TIMEOUT (R429, R431): the window ends with no byte (NORESP, kind 0) or a part (INCOMPLETE). -/
def execLinResponseTimeout (n : Nat) (any coll : Bool) (s : State) : Out :=
  .next <| s.ship <|
    if !s.linFitted n || !s.linAwaits n || s.linTe n LIN_TE.PUB = 1 then s
    else
      let k := s.linTe n LIN_TE.DSLOT
      let s := s.linDone n
      if s.linTe n LIN_TE.TYPE = 1 && coll then s.linCollide n
      else if any then s.linRes n k 6
      else (s.linRes n k 2).raise 10 (8 + n) 0 (s.linDetail n)

/-- LIN_BUS_DOMINANT (R450): kind 3, table 0, and the frame ID of the slot in progress; outside a slot it is open. -/
def execLinBusDominant (n : Nat) (s : State) : Out :=
  .next <| s.ship <|
    if !s.linFitted n || !s.ethOn || !s.bit LIN_CFG.EN n then s
    else if (s.lp n).inSlot then s.raise 10 (8 + n) 3 (s.linTe n LIN_TE.FID)
    else
      let (w, s) := s.takeFree
      s.raise 10 (8 + n) 3 (ext w 0 6)

/-- LIN_SCHED_WRITE (R430). -/
def State.runLinSchedWrite (s : State) (who : Who) (n : Nat) (w : Word) : State :=
  if !s.linFitted n then s.reserved who
  else s.accept who ⟨.LIN_SCHED, n, 0, 0⟩ w fun s =>
    (s.storeWrite who ⟨.LIN_SCHED, n, 0, 0⟩ w).linSelect n (ext w 0 5)

/-- The command of the same name. -/
def execLinSchedWrite (who : Who) (n : Nat) (w : Word) (s : State) : Out := .next <| s.ship <| s.asWho who 14 fun s => s.runLinSchedWrite who n w

/-- LIN_CMD_WAKE (R435). -/
def State.runLinCmdWake (s : State) (who : Who) (n : Nat) : State := if !s.linFitted n then s.reserved who else s.linPulse n

/-- The command of the same name. -/
def execLinCmdWake (who : Who) (n : Nat) (s : State) : Out := .next <| s.ship <| s.asWho who 14 fun s => s.runLinCmdWake who n

/-- LIN_DATA_WRITE (R433): word 0 waits for the next write of word 1. -/
def State.runLinDataWrite (s : State) (who : Who) (n k i : Nat) (w : Word) : State :=
  if !s.linFitted n || 64 ≤ k || 3 ≤ i then s.reserved who
  else
    let x := s.lp n
    match i with
    | 0 => s.setLp n { x with shadow := Tbl.set x.shadow k w }
    | 1 =>
      let s := match x.shadow.find? (fun p => p.1 == k) with
        | some (_, w0) =>
          (s.setLp n { x with shadow := x.shadow.filter fun p => p.1 != k }).setReg ⟨.LIN_D0, n, k, 0⟩ w0
        | none => s
      s.setReg ⟨.LIN_D1, n, k, 0⟩ w
    | _ => s.accept who ⟨.LIN_D2, n, k, 0⟩ w fun s => s.storeWrite who ⟨.LIN_D2, n, k, 0⟩ w

/-- The command of the same name. -/
def execLinDataWrite (who : Who) (n k i : Nat) (w : Word) (s : State) : Out := .next <| s.ship <| s.asWho who 14 fun s => s.runLinDataWrite who n k i w

/-- The party that reads (R434): a core by its number, 4 for host software. -/
def State.party (s : State) : Who → Nat
  | .host => 4
  | .ctx c => s.fld CTXC_STAT.CORE c

/-- R434: a read of a data slot word: word 0 takes a snapshot of words 1 and 2, which the party's next reads of that slot return. -/
def State.linRead (s : State) (who : Who) (n k i : Nat) : Word × State :=
  let x := s.lp n
  let w1 := s.reg ⟨.LIN_D1, n, k, 0⟩
  let w2 := s.reg ⟨.LIN_D2, n, k, 0⟩
  if i = 0 then (s.reg ⟨.LIN_D0, n, k, 0⟩, s.setLp n { x with snap := Tbl.set x.snap (s.party who * 64 + k) (w1, w2) })
  else
    let live := if i = 1 then w1 else w2
    match x.snap.find? (fun p => p.1 == s.party who * 64 + k) with
    | some (_, a, b) => (if i = 1 then a else b, s)
    | none => (live, s)

/-- LIN_DATA_READ (R434). -/
def State.runLinDataRead (s : State) (who : Who) (n k i : Nat) : State :=
  if !s.linFitted n || 64 ≤ k || 3 ≤ i then { s.reserved who with rdata := 0 }
  else
    let r := s.linRead who n k i
    { r.2 with rdata := r.1 }

/-- The command of the same name. -/
def execLinDataRead (who : Who) (n k i : Nat) (s : State) : Out := .next <| s.ship <| s.asWho who 14 fun s => s.runLinDataRead who n k i

/-- LIN_SCHEDULE_RESUME (R461, R464, R470): 100 ms after the wake pulse the schedule resumes at its first slot. -/
def execLinScheduleResume (n : Nat) (s : State) : Out :=
  .next <| s.ship <|
    if s.linFitted n && (s.lp n).resume then
      (s.setLp n { s.lp n with resume := false }).linTable n (s.lp n).table
    else s

end Sys2Proof.Machine
end

