-- ==== Sys2Proof/Machine/Addr.lean ====
section
/-! DEFINITION. Addresses of registers (spec/20 R609, R610): decoding, which registers a variant fits (R3), and what the Catalogue
can give a register (spec/03 R94, R633). -/

namespace Sys2Proof.Machine

/-- The indices that an offset has along some dimensions, widest stride first. -/
def idxOf : List (Nat × Nat) → Nat → Option (List Nat)
  | [], d => if d = 0 then some [] else none
  | (stride, count) :: ds, d =>
    if d / stride < count then (idxOf ds (d % stride)).map fun is => d / stride :: is else none

/-- The register definition `r` at an address. -/
def Reg.at? (r : Reg) (a : Nat) : Option RegRef :=
  if a < r.place.base then none
  else match idxOf r.place.dims (a - r.place.base) with
    | some is => some ⟨r, is.getD 0 0, is.getD 1 0, is.getD 2 0⟩
    | none => none

/-- The register at an address, in the NZ-9640's map. -/
def decodeReg (a : Nat) : Option RegRef := Reg.all.findSome? fun r => r.at? a

/-- The address of a register. -/
def RegRef.addr (r : RegRef) : Nat :=
  r.reg.place.base + ((r.reg.place.dims.map (·.1)).zip [r.i, r.j, r.k]).foldl (fun a p => a + p.1 * p.2) 0

/-- The indices are among those that the register's array has (R609, R610). -/
def RegRef.placed (r : RegRef) : Bool :=
  match r.reg.place.dims with
  | [] => r.i == 0 && r.j == 0 && r.k == 0
  | [a] => decide (r.i < a.2) && r.j == 0 && r.k == 0
  | [a, b] => decide (r.i < a.2) && decide (r.j < b.2) && r.k == 0
  | [a, b, c] => decide (r.i < a.2) && decide (r.j < b.2) && decide (r.k < c.2)
  | _ => false

/-- The block of a register (R609). -/
def Reg.block (r : Reg) : Nat := r.place.base / 0x10000

/-- R606, R3: the calibration record corrects a fitted resource. -/
def calFitted (v : Variant) (r : Nat) : Bool :=
  if r < 93 then slotFitted v r
  else if 128 ≤ r && r < 144 then ledFitted v (r - 128)
  else if 144 ≤ r && r < 192 then hswFitted v (r - 144)
  else if 192 ≤ r && r < 195 then vhsFitted v (r - 192)
  else if 195 ≤ r && r < 197 then ctdFitted v (r - 195)
  else 200 ≤ r && r < 216 && ainFitted v (r - 200)

/-- R2, R3: the register belongs to a resource that the variant fits. -/
def RegRef.fitted (v : Variant) (r : RegRef) : Bool :=
  match r.reg with
  | .FAB_LVAL => r.i < nLines v / 32
  | .FAB_LWRG => r.i < nLines v / 16
  | .FAB_LSRC => r.i < nLines v
  | .FAB_OSEL => slotFitted v r.i
  | .PU_CFG | .PU_PD | .PU_PH | .PU_STAT => r.i < nPu v
  | .LC_INAB | .LC_INCD | .LC_CFG => r.i < nLc v
  | .ER_CFG | .ER_CNT => r.i < nEr v
  | .INP_SGRP | .INP_SDEB => r.i < 12 / (if v = .nz9620 then 2 else 1)
  | .INP_SLVL => v = .nz9640 || r.i < 2
  | .AIN_CFG | .AIN_CMP | .AIN_VAL => ainFitted v r.i
  | .HALL_CFG | .HALL_STAT => hallFitted v r.i
  | .DOC_STAT | .DOC_RET | .DOC_STALL | .DOC_TRAPS => r.i < nCores v
  | .DOC_CTXWIN => r.i < nCtx v / 4
  | .CTX_BDEM | .TWN_CTXM => r.i < nCtx v / 32
  | .CTXC_CFG | .CTXC_ENTRY | .CTXC_STAT | .CTXC_RUN => r.i < nCtx v
  | .MEM_ECC | .MEM_REPAIR => unitFitted v r.i
  | .ETH_PCFG | .ETH_PSTAT => ethFitted v r.i
  | .ETH_PLCA => 5 ≤ r.i && ethFitted v r.i
  | .NM_PORT => r.i < nCan v
  | .LED_PCFG | .LED_PSTAT | .HSW_LOCK0 | .HSW_LOCK1 => true
  | .LG_NTC | .LG_NTC2 | .LG_DER | .LG_STAT => lgFitted v r.i
  | .VHS_CFG | .VHS_FB | .VHS_STAT | .VHS_MEAS | .VHS_CLAMP | .VHS_CLR => vhsFitted v r.i
  | .CTD_CFG | .CTD_PROF | .CTD_COIL | .CTD_COIL2 | .CTD_FB | .CTD_AUX | .CTD_STAT | .CTD_MEAS | .CTD_TEMP | .CTD_RES
  | .CTD_CLAMP | .CTD_CLR => ctdFitted v r.i
  | .CAL_VAL | .CAL_INFO => calFitted v r.i
  | .GW_RT0 | .GW_RT1 | .GW_RT2 | .GW_RT3 | .GW_BUSID | .GW_STAT => true
  | _ => match r.reg.block with
    | 4 => hswFitted v r.i
    | 5 => hbrFitted v r.i
    | 6 => vlvFitted v r.i
    | 7 => ledFitted v r.i
    | 8 => lchFitted v r.i
    | 13 => r.i < nCan v
    | 14 => r.i < nLin v
    | _ => true

/-- The register at an address, if the variant fits it (R3, R610). -/
def State.regAt (s : State) (a : Nat) : Option RegRef :=
  match decodeReg a with
  | some r => if r.fitted s.variant then some r else none
  | none => none

/-! ## What the Catalogue gives -/

/-- The field takes its value from the Catalogue. -/
def FieldInfo.given (f : FieldInfo) : Bool := f.acc = .cat || f.acc = .rw

/-- The bits that a Catalogue word sets (R94). -/
def Reg.givenMask (r : Reg) : Word := (r.fields.filter FieldInfo.given).foldl (fun w f => w ||| fieldMask f.lo f.width) 0

/-- R94: a REGIMG record may name the register. -/
def Reg.nameable (r : Reg) : Bool :=
  (r.fields.any FieldInfo.given) && r.fields.all fun f => f.acc ≠ .wo && f.acc ≠ .w1c && f.acc ≠ .rws

/-- A register whose fields have the reset "Cat": one that REGIMG may name, but for the few whose fields have reset values of
their own, and with SYS_CFG and SYS_WATCH, which the Header gives. -/
def Reg.fromCat (r : Reg) : Bool :=
  r.nameable && !(r == .CAT_WLEN || r == .LIN_D0 || r == .LIN_D1 || r == .FLT_INJD || r == .HST_CFG || r == .CAN_TXW)

/-- R633: the value of a register that no record writes. -/
def unwritten (r : Reg) : Word :=
  match r with
  | .CTX_MIG => 0xFFF
  | .DOC_CTXWIN => 0xFFFFFFFF
  | .PWR_CFG => 80 + 5 * 2 ^ 8 + 80 * 2 ^ 16
  | .PWR_CFG2 => 10 + 200 * 2 ^ 16 + 100 * 2 ^ 24
  | .FLT_RGCTL => 20
  | .HSW_WIRE0 | .HSW_WIRE1 => 2 ^ 16
  | .VLV_COIL | .CTD_COIL => 10 * 2 ^ 24
  | .VLV_COIL2 | .CTD_COIL2 => 220 + 2 ^ 16
  | _ => 0

/-- An entry of a list of register words. -/
def lookReg (r : RegRef) (l : List (RegRef × Word)) : Option Word := (l.find? fun p => p.1 == r).map (·.2)

/-- R110, R111: the word that the configuration of mode `m` gives a register: Annex, base, or unwritten. -/
def Catalogue.word (c : Catalogue) (m : Nat) (r : RegRef) : Word :=
  match lookReg r (c.annexes.getD m default).regs with
  | some w => w
  | none => match lookReg r c.base with
    | some w => w
    | none => unwritten r.reg

/-- R111: the configuration of mode `m` enables a context. -/
def Catalogue.enables (c : Catalogue) (m ctx : Nat) : Bool :=
  match (c.annexes.getD m default).ctxen.find? (fun p => p.1 == ctx) with
  | some p => p.2
  | none => c.ctxdefs.any fun d => d.ctx == ctx && d.enabled

/-- R115, R116: the stagger step of an output slot in mode `m`. -/
def Catalogue.step (c : Catalogue) (m t : Nat) : Nat :=
  match (c.annexes.getD m default).stagger.find? (fun p => p.1 == t) with
  | some p => p.2
  | none => match c.stagger.find? (fun p => p.1 == t) with
    | some p => p.2
    | none => 0

end Sys2Proof.Machine
end

