-- ==== Sys2Proof/Machine/Crypto.lean ====
section
/-! DEFINITION. The cryptographic functions that the spec names by their standards (R98, R560 to R581, R604): SHA-256, AES, CMAC,
counter mode, key wrap, ECDSA over P-256. The spec states none of their insides; they are those of the standards
(PRESUMED, notes/assumptions/3.md). Byte strings have their first byte first, and numbers in them their most significant byte first. -/

namespace Sys2Proof.Machine

/-! ## SHA-256 -/

/-- The largest number whose `k`-th power does not exceed `n`, where it is below 2^40: bit after bit, the highest first. -/
def kthRoot (k n : Nat) : Nat :=
  (List.range 40).foldl (fun r i => let x := r + 2 ^ (39 - i); if x ^ k ≤ n then x else r) 0

/-- The first 32 bits of the fractional part of the `k`-th root of `p`. -/
def rootBits (k p : Nat) : Word := BitVec.ofNat 32 (kthRoot k (p * 2 ^ (32 * k)))

/-- The primes below 312: the first 64. -/
def primes64 : List Nat :=
  (List.range 312).filter fun p => 2 ≤ p && (List.range 18).all fun d => d < 2 || p ≤ d || p % d != 0

/-- The initial hash value: from the square roots of the first eight primes. -/
def shaInit : List Word := (primes64.take 8).map (rootBits 2)

/-- The round constants: from the cube roots of the first 64 primes. -/
def shaK : List Word := primes64.map (rootBits 3)

/-- The message schedule grows by one word; the newest word stands first. -/
def shaGrow (w : List Word) : List Word :=
  let a := w.getD 1 0
  let b := w.getD 14 0
  let s1 := a.rotateRight 17 ^^^ a.rotateRight 19 ^^^ (a >>> 10)
  let s0 := b.rotateRight 7 ^^^ b.rotateRight 18 ^^^ (b >>> 3)
  (s1 + w.getD 6 0 + s0 + w.getD 15 0) :: w

/-- One round over the eight working variables. -/
def shaRound (v : List Word) (kw : Word × Word) : List Word :=
  match v with
  | [a, b, c, d, e, f, g, h] =>
    let t1 := h + (e.rotateRight 6 ^^^ e.rotateRight 11 ^^^ e.rotateRight 25) + ((e &&& f) ^^^ (~~~ e &&& g)) + kw.1 + kw.2
    let t2 := (a.rotateRight 2 ^^^ a.rotateRight 13 ^^^ a.rotateRight 22) + ((a &&& b) ^^^ (a &&& c) ^^^ (b &&& c))
    [t1 + t2, a, b, c, d + t1, e, f, g]
  | _ => v

/-- A big-endian word. -/
def beWord (bs : List Byte) : Word := BitVec.ofNat 32 (beNat bs)

/-- One 64-byte block. -/
def shaBlock (h : List Word) (block : List Byte) : List Word :=
  let w0 := ((List.range 16).map fun i => beWord ((block.drop (4 * i)).take 4)).reverse
  let w := ((List.range 48).foldl (fun w _ => shaGrow w) w0).reverse
  ((shaK.zip w).foldl shaRound h).zipWith (· + ·) h

/-- The message padded to whole blocks: 0x80, zeros, its length in bits. -/
def shaPad (m : List Byte) : List Byte :=
  m ++ 0x80 :: (List.replicate ((119 - m.length % 64) % 64) 0 ++ beBytes (8 * m.length) 8)

/-- SHA-256 of a byte string: 32 bytes. -/
@[irreducible] def sha256 (m : List Byte) : List Byte :=
  let p := shaPad m
  let h := ((List.range (p.length / 64)).foldl (fun x _ => (shaBlock x.1 (x.2.take 64), x.2.drop 64)) (shaInit, p)).1
  (List.range 8).flatMap fun i => beBytes (h.getD i 0).toNat 4

/-! ## AES -/

/-- The substitution table. Four numbers of 64 bytes, entry 0 lowest. -/
def sboxTable : List Nat :=
  [0x75b227ebe28012079a059618c323c7041531d871f1e5a534ccf73f362693fdb7c072a49cafa2d4adf04759fa7dc982ca76abd7fe2b670130c56f6bf27b777c63,
   0xd2f3ff1021dab6bcf5389d928f40a351a89f3c507f02f94585334d43fbaaefd0cf584c4a39becb6a5bb1fc20ed00d153842fe329b3d63b52a05a6e1b1a2c8309,
   0x08ae7a65eaf4566ca94ed58d6d37c8e779e4959162acd3c25c2406490a3a32e0db0b5ede14b8ee4688902a22dc4f816073195d643d7ea7c41744975fec130ccd,
   0x16bb54b00f2d99416842e6bf0d89a18cdf2855cee9871e9b948ed9691198f8e19e1dc186b95735610ef6034866b53e708a8bbd4b1f74dde8c6b4a61c2e2578ba]

/-- The inverse substitution table. Four numbers of 64 bytes, entry 0 lowest. -/
def invSboxTable : List Nat :=
  [0x25d18b6d49a25b76b224d92866a12e084ec3fa420b954cee3d23c2a632947b54cbe9dec444438e3487ff2f9b8239e37cfbd7f3819ea340bf38a53630d56a0952,
   0x6b8a130103bdafc1020f3fca8f1e2cd00645b3b80558e4f70ad3bc8c00abd890849d8da75746155edab9edfd5048706c92b6655dcc5ca4d41698688664f6f872,
   0xf45acd78fec0db9a2079d2c64b3e56fc1bbe18aa0e62b76f89c5291d711af1476edf751ce837f9e28535ade72274ac9673e6b4f0cecff297eadc674f4111913a,
   0x7d0c2155631469e126d677ba7e042b17619953833cbbebc8b0f52aae4d3be0a0ef9cc9939f7ae52d0d4ab519a97f51605fec8027591012b131c7078833a8dd1f]

/-- An entry of a substitution table. -/
def subByte (table : List Nat) (b : Byte) : Byte :=
  BitVec.ofNat 8 (table.getD (b.toNat / 64) 0 >>> (8 * (b.toNat % 64)))

/-- Multiplication by x in the field of AES. -/
def xtime (b : Byte) : Byte := if b.msb then (b <<< 1) ^^^ 0x1B else b <<< 1

/-- Multiplication in the field of AES by a constant below 16. -/
def gmul (k : Nat) (b : Byte) : Byte :=
  let b2 := xtime b
  let b4 := xtime b2
  let b8 := xtime b4
  (if k.testBit 0 then b else 0) ^^^ (if k.testBit 1 then b2 else 0) ^^^ (if k.testBit 2 then b4 else 0) ^^^
    (if k.testBit 3 then b8 else 0)

/-- Exclusive-or of byte strings, as long as the shorter one. -/
def xorBytes (a b : List Byte) : List Byte := a.zipWith (· ^^^ ·) b

/-- A column of four bytes times a circulant matrix whose first row is given. -/
def mixColumn (m : List Nat) (c : List Byte) : List Byte :=
  (List.range 4).map fun i =>
    (List.range 4).foldl (fun acc j => acc ^^^ gmul (m.getD ((j + 4 - i) % 4) 0) (c.getD j 0)) 0

/-- MixColumns over the 16 bytes of a state, column after column. -/
def mixColumns (m : List Nat) (s : List Byte) : List Byte :=
  (List.range 4).flatMap fun c => mixColumn m ((s.drop (4 * c)).take 4)

/-- ShiftRows; `k` is 1, or 3 for its inverse. -/
def shiftRows (k : Nat) (s : List Byte) : List Byte :=
  (List.range 16).map fun i => s.getD ((i + 4 * k * (i % 4)) % 16) 0

/-- One word of the key schedule: words newest first, `nk` words of key, word number `i`. -/
def keyGrow (nk : Nat) (p : List (List Byte) × Byte) (i : Nat) : List (List Byte) × Byte :=
  let t := p.1.headD []
  let old := p.1.getD (nk - 1) []
  if i % nk = 0 then
    let r := (t.drop 1 ++ t.take 1).map (subByte sboxTable)
    (xorBytes old (xorBytes r [p.2, 0, 0, 0]) :: p.1, xtime p.2)
  else if nk = 8 && i % 8 = 4 then (xorBytes old (t.map (subByte sboxTable)) :: p.1, p.2)
  else (xorBytes old t :: p.1, p.2)

/-- The round keys, first first: a 16-byte key gives 11, any other (32 bytes, short ones filled with zeros) 15. -/
def roundKeys (key : List Byte) : List (List Byte) :=
  let nk := if key.length = 16 then 4 else 8
  let first := ((List.range nk).map fun i => (List.range 4).map fun j => key.getD (4 * i + j) 0).reverse
  let ws := (((List.range (4 * (nk + 7))).drop nk).foldl (keyGrow nk) (first, 1)).1.reverse
  (List.range (nk + 7)).map fun r => (List.range 16).map fun j => (ws.getD (4 * r + j / 4) []).getD (j % 4) 0

/-- One block under the cipher. -/
def aesEncrypt (key block : List Byte) : List Byte :=
  let ks := roundKeys key
  let n := ks.length - 1
  let sub := fun (s : List Byte) => shiftRows 1 (s.map (subByte sboxTable))
  let s := (List.range (n - 1)).foldl (fun s r => xorBytes (mixColumns [2, 3, 1, 1] (sub s)) (ks.getD (r + 1) []))
    (xorBytes block (ks.headD []))
  xorBytes (sub s) (ks.getD n [])

/-- One block under the inverse cipher. -/
def aesDecrypt (key block : List Byte) : List Byte :=
  let ks := (roundKeys key).reverse
  let n := ks.length - 1
  let sub := fun (s : List Byte) => (shiftRows 3 s).map (subByte invSboxTable)
  let s := (List.range (n - 1)).foldl (fun s r => mixColumns [14, 11, 13, 9] (xorBytes (sub s) (ks.getD (r + 1) [])))
    (xorBytes block (ks.headD []))
  xorBytes (sub s) (ks.getD n [])

/-! ## CMAC, counter mode, key wrap -/

/-- A subkey of CMAC: the block doubled. -/
def cmacDouble (b : List Byte) : List Byte :=
  let v := 2 * beNat b
  beBytes (if v < 2 ^ 128 then v else (v - 2 ^ 128) ^^^ 0x87) 16

/-- The blocks of CMAC before the last one go through the cipher one after the other; the last is masked. The fuel is the number
of bytes left. -/
def cmacBlocks (key k1 k2 : List Byte) : Nat → List Byte → List Byte → List Byte
  | 0, x, m => aesEncrypt key (xorBytes x (xorBytes k2 ((m ++ 0x80 :: List.replicate 16 0).take 16)))
  | fuel + 1, x, m =>
    if 16 < m.length then cmacBlocks key k1 k2 fuel (aesEncrypt key (xorBytes x (m.take 16))) (m.drop 16)
    else if m.length = 16 then aesEncrypt key (xorBytes x (xorBytes k1 m))
    else aesEncrypt key (xorBytes x (xorBytes k2 ((m ++ 0x80 :: List.replicate 16 0).take 16)))

/-- AES-CMAC: key, message; 16 bytes. -/
@[irreducible] def aesCmac (key m : List Byte) : List Byte :=
  let k1 := cmacDouble (aesEncrypt key (List.replicate 16 0))
  cmacBlocks key k1 (cmacDouble k1) m.length (List.replicate 16 0) m

/-- AES in counter mode: key, initial counter block, data; the whole block counts up (PRESUMED, notes/assumptions/3.md). -/
@[irreducible] def aesCtr (key ctr data : List Byte) : List Byte :=
  ((List.range ((data.length + 15) / 16)).flatMap fun i =>
    xorBytes (aesEncrypt key (beBytes ((beNat ctr + i) % 2 ^ 128) 16)) ((data.drop (16 * i)).take 16))

/-- A byte string in pieces of eight bytes. -/
def semiblocks (bs : List Byte) : List (List Byte) := (List.range (bs.length / 8)).map fun i => (bs.drop (8 * i)).take 8

/-- AES key wrap: key-encryption key, data of whole semiblocks; eight bytes longer. -/
@[irreducible] def keyWrap (kek data : List Byte) : List Byte :=
  let r := semiblocks data
  let step := fun (x : List Byte × List (List Byte) × Nat) (ri : List Byte) =>
    let b := aesEncrypt kek (x.1 ++ ri)
    (xorBytes (b.take 8) (beBytes (x.2.2 + 1) 8), x.2.1 ++ [b.drop 8], x.2.2 + 1)
  let y := (List.range 6).foldl (fun (x : List Byte × List (List Byte) × Nat) _ => x.2.1.foldl step (x.1, [], x.2.2))
    (List.replicate 8 0xA6, r, 0)
  y.1 ++ y.2.1.flatten

/-- AES key unwrap: key-encryption key, wrapped data; none where the integrity check fails. -/
@[irreducible] def keyUnwrap (kek data : List Byte) : Option (List Byte) :=
  let r := semiblocks (data.drop 8)
  let step := fun (x : List Byte × List (List Byte) × Nat) (ri : List Byte) =>
    let b := aesDecrypt kek (xorBytes x.1 (beBytes x.2.2 8) ++ ri)
    (b.take 8, b.drop 8 :: x.2.1, x.2.2 - 1)
  let y := (List.range 6).foldl (fun (x : List Byte × List (List Byte) × Nat) _ => x.2.1.reverse.foldl step (x.1, [], x.2.2))
    (data.take 8, r, 6 * r.length)
  if y.1 = List.replicate 8 0xA6 then some y.2.1.flatten else none

/-! ## ECDSA over P-256 -/

/-- The curve's field prime, its coefficient b, the order of its base point, and the base point. -/
def p256P : Nat := 0xffffffff00000001000000000000000000000000ffffffffffffffffffffffff
def p256B : Nat := 0x5ac635d8aa3a93e7b3ebbd55769886bc651d06b0cc53b0f63bce3c3e27d2604b
def p256N : Nat := 0xffffffff00000000ffffffffffffffffbce6faada7179e84f3b9cac2fc632551
def p256G : Nat × Nat :=
  (0x6b17d1f2e12c4247f8bce6e563a440f277037d812deb33a0f4a13945d898c296,
   0x4fe342e2fe1a7f9b8ee7eb4a7c0f9e162bce33576b315ececbb6406837bf51f5)

/-- A power modulo `m`, by the 256 bits of the exponent from the highest. -/
def powMod (a e m : Nat) : Nat :=
  (List.range 256).foldl (fun r i => if e.testBit (255 - i) then r * r % m * a % m else r * r % m) 1

/-- The inverse modulo a prime, 0 for 0. -/
def invMod (a m : Nat) : Nat := powMod (a % m) (m - 2) m

/-- Addition on the curve; `none` is the point at infinity. -/
def ecAdd (a b : Option (Nat × Nat)) : Option (Nat × Nat) :=
  match a, b with
  | none, q => q
  | q, none => q
  | some (x1, y1), some (x2, y2) =>
    if x1 = x2 && (y1 + y2) % p256P = 0 then none
    else
      let l := if x1 = x2 then 3 * (x1 * x1 + p256P - 1) * invMod (2 * y1) p256P % p256P
        else (y2 + p256P - y1) * invMod (x2 + p256P - x1) p256P % p256P
      let x3 := (l * l + 2 * p256P - x1 - x2) % p256P
      some (x3, (l * (x1 + p256P - x3) + p256P - y1) % p256P)

/-- A multiple of a point, by the 256 bits of the factor from the highest. -/
def ecMul (k : Nat) (q : Option (Nat × Nat)) : Option (Nat × Nat) :=
  (List.range 256).foldl (fun r i => let d := ecAdd r r; if k.testBit (255 - i) then ecAdd d q else d) none

/-- The coordinates are those of a point of the curve. -/
def onCurve (x y : Nat) : Bool :=
  decide (x < p256P) && decide (y < p256P) && (y * y) % p256P == (x * x * x + (p256P - 3) * x + p256B) % p256P

/-- ECDSA P-256 verification: public key X then Y, digest, r, s. -/
@[irreducible] def ecdsaVerify (key digest rb sb : List Byte) : Bool :=
  let x := beNat (key.take 32)
  let y := beNat ((key.drop 32).take 32)
  let r := beNat rb
  let s := beNat sb
  let e := beNat digest
  if key.length ≠ 64 || !onCurve x y || r = 0 || p256N ≤ r || s = 0 || p256N ≤ s then false
  else
    let w := invMod s p256N
    match ecAdd (ecMul (e * w % p256N) (some p256G)) (ecMul (r * w % p256N) (some (x, y))) with
    | some (vx, _) => vx % p256N == r
    | none => false

end Sys2Proof.Machine
end

