-- ==== Sys2Proof/Machine/Outputs.lean ====
section
/-! DEFINITION. What an output stage obeys (spec/01 R40, R41), and the output hold latches (spec/02 R66, R67, R75 to R82):
hold policy, hold timer, limp state, park latch. Outputs are named by their slot (R132). -/

namespace Sys2Proof.Machine

/-- The FB register of an output slot. -/
def fbRef (t : Nat) : RegRef :=
  if t < 48 then ⟨.HSW_FB, t, 0, 0⟩
  else if t < 60 then ⟨.HBR_FB, t - 48, 0, 0⟩
  else if t < 72 then ⟨.VLV_FB, t - 60, 0, 0⟩
  else if t < 75 then ⟨.VHS_FB, t - 72, 0, 0⟩
  else if t < 77 then ⟨.CTD_FB, t - 75, 0, 0⟩
  else ⟨.LED_FB, t - 77, 0, 0⟩

/-- A field of an output's FB register; the FB registers of all classes share their layout up to bit 24. -/
def State.fb (s : State) (t : Nat) (f : Fld) : Nat := ext (s.reg (fbRef t)) f.lo f.width

/-- The class of a slot: 0 high-side channel, 1 bridge, 2 valve, 3 bank switch, 4 contactor, 5 LED channel. -/
def slotClass (t : Nat) : Nat :=
  if t < 48 then 0 else if t < 60 then 1 else if t < 72 then 2 else if t < 75 then 3 else if t < 77 then 4 else 5

/-- A field chosen by class: channel, bridge, valve, bank switch, contactor, LED channel. -/
def State.byClass (s : State) (t : Nat) (h b v k c l : Fld) : Nat :=
  match slotClass t with
  | 0 => s.fld h t
  | 1 => s.fld b (t - 48)
  | 2 => s.fld v (t - 60)
  | 3 => s.fld k (t - 72)
  | 4 => s.fld c (t - 75)
  | _ => s.fld l (t - 77)

/-- The output is enabled: EN, and in a pair the mask of its role (R530). -/
def State.slotEn (s : State) (t : Nat) : Bool :=
  s.byClass t HSW_CFG.EN HBR_CFG.EN VLV_CFG.EN VHS_CFG.EN CTD_CFG.EN LED_CFG.EN != 0 && s.roleEn t

/-- The slot belongs to a bridge, which has a direction. -/
def isBridge (t : Nat) : Bool := 48 ≤ t && t < 60

/-- The output at a slot: the registers of its own block (R115). -/
def outRegs (t : Nat) : Reg → Nat → Bool := fun r i =>
  if t < 48 then (r == .HSW_CFG || r == .HSW_LIM || r == .HSW_INR0 || r == .HSW_INR1 || r == .HSW_WIRE0 || r == .HSW_WIRE1 ||
      r == .HSW_WIRE2 || r == .HSW_TIME || r == .HSW_OL || r == .HSW_FB) && i == t
  else if t < 60 then (r == .HBR_CFG || r == .HBR_LIM || r == .HBR_STALL || r == .HBR_MON || r == .HBR_PZONE ||
      r == .HBR_PINCH || r == .HBR_OL || r == .HBR_FB || r == .HBR_SVC || r == .HBR_TGT) && i == t - 48
  else if t < 72 then (r == .VLV_CFG || r == .VLV_PROF || r == .VLV_COIL || r == .VLV_COIL2 || r == .VLV_FB) && i == t - 60
  else if t < 75 then (r == .VHS_CFG || r == .VHS_FB) && i == t - 72
  else if t < 77 then (r == .CTD_CFG || r == .CTD_PROF || r == .CTD_COIL || r == .CTD_COIL2 || r == .CTD_FB ||
      r == .CTD_AUX) && i == t - 75
  else (r == .LED_CFG || r == .LED_LVL || r == .LED_DEM || r == .LED_DIAG || r == .LED_FB) && i == t - 77

/-- The Vitrine of an output. -/
def State.out (s : State) (t : Nat) : OutSt := Tbl.get s.outs t default

def State.setOut (s : State) (t : Nat) (o : OutSt) : State := { s with outs := Tbl.set s.outs t o }

/-- R475, R479: the slot's output is fed from MAIN alone. -/
def State.mainFed (s : State) (t : Nat) : Bool :=
  if t < 48 then !(8 ≤ t && t < 16 && s.bit HSW_CFG.PRAIL t)
  else if t < 60 then !((t == 54 || t == 55) && s.bit HBR_CFG.BKFEED (t - 48))
  else !(75 ≤ t && t < 77)

/-- R487, R475: the supply of the slot's output is reversed: MAIN; for a channel on the priority rail the feed that the rail is on, or
both during a transfer; for an output that both feeds supply, both. -/
def State.reversed (s : State) (t : Nat) : Bool :=
  if s.mainFed t then s.pwr.mainRev
  else if t < 48 then
    match s.fld PWR_STAT.PRSRC with
    | 0 => s.pwr.mainRev
    | 1 => s.pwr.backRev
    | _ => s.pwr.mainRev && s.pwr.backRev
  else s.pwr.mainRev && s.pwr.backRev

/-- R479: MAINLO keeps the diagnostics of the output from being taken. -/
def State.diagBarred (s : State) (t : Nat) : Bool := s.bit PWR_STAT.MAINLO && s.mainFed t

/-! ## Rank 1: local protection -/

/-- R40 rank 1: protection (trip, clamp lock, or a stop of a bridge, R213) holds the output off. -/
def State.protOff (s : State) (t : Nat) : Bool :=
  if t < 48 then s.fld HSW_STAT.STATE t == 4 || s.fld HSW_STAT.STATE t == 5
  else if t < 60 then s.fld HBR_STAT.STATE (t - 48) == 3 || s.fld HBR_STAT.STATE (t - 48) == 4
  else if t < 72 then s.fld VLV_STAT.STATE (t - 60) == 5
  else if t < 75 then s.fld VHS_STAT.STATE (t - 72) == 3 || s.fld VHS_STAT.STATE (t - 72) == 4
  else if t < 77 then s.fld CTD_STAT.STATE (t - 75) == 4 || s.bit CTD_STAT.LOCK (t - 75)
  else s.fld LED_STAT.STATE (t - 77) == 3

/-! ## Rank 4: lines -/

/-- R132, R133: the IN level and, for bridges, the DIR level that the slot's lines give. -/
def State.lineCmd (s : State) (t : Nat) : Bool × Bool :=
  (s.bit FAB_OSEL.INCON t && s.line (s.fld FAB_OSEL.IN t),
   isBridge t && s.bit FAB_OSEL.DIRCON t && s.line (s.fld FAB_OSEL.DIR t))

/-! ## Rank 3: limp state -/

/-- The limp state: OFF, ON, or a pulse unit's output, which is OFF while the fabric is down (R78). -/
def State.limpCmd (s : State) (t : Nat) : Bool × Bool :=
  (match s.fb t HSW_FB.LIMP with
    | 0 => false
    | 1 => true
    | _ => s.sys.fabricUp && s.bit PU_STAT.OUT (s.fb t HSW_FB.LIMPPU),
   isBridge t && s.fb t HBR_FB.LIMPDIR == 1)

/-! ## Rank 2: the Conservator -/

/-- The level one half asks of an output, if it runs and forces the output's group (R34, R505, R523). -/
def State.halfCmd (s : State) (t : Nat) (alive : Bool) (force : BitVec 16) (lev : List (Nat × Bool)) : Option (Bool × Bool) :=
  if alive && force.getLsbD (s.fb t HSW_FB.RGRP) then
    some (match lev.find? (fun p => p.1 == t) with
      | some (_, l) => l
      | none => s.fb t HSW_FB.SAFE == 1,
      isBridge t && s.fb t HBR_FB.SAFEDIR == 1)
  else none

/-- R41: which of two safe levels the output takes: the one that changes it away from its line level; OFF if both do. -/
def resolveForce (line : Bool) (a b : Option (Bool × Bool)) : Option (Bool × Bool) :=
  match a, b with
  | some x, some y =>
    if x.1 = y.1 then some x
    else if x.1 != line && y.1 != line then some (if x.1 then y else x)
    else if x.1 != line then some x else some y
  | some x, none => some x
  | none, b => b

/-- R40 rank 2: the safe level forced on an output, if any. -/
def State.forced (s : State) (t : Nat) : Option (Bool × Bool) :=
  resolveForce (s.lineCmd t).1 (s.halfCmd t (s.bit FLT_STAT.AOK) s.flt.forceA s.flt.levA)
    (s.halfCmd t (s.bit FLT_STAT.BOK) s.flt.forceB s.flt.levB)

/-! ## The command and the level obeyed -/

/-- R40 ranks 2 to 4: the level and direction commanded to an output stage. -/
def State.cmd (s : State) (t : Nat) : Bool × Bool :=
  match s.forced t with
  | some x => x
  | none =>
    let o := s.out t
    match o.follow with
    | .lines => s.lineCmd t
    | .vitrine | .parked => (o.level, o.dir)
    | .limp => s.limpCmd t
    | .off => (false, false)

/-- R40: the level the stage obeys, protection included. -/
def State.obeyed (s : State) (t : Nat) : Bool × Bool := if s.protOff t then (false, (s.cmd t).2) else s.cmd t

/-! ## Hold (R75 to R79) -/

/-- R76: an output's hold timer has reached tVHOLD: its limp state, until it is re-claimed. -/
def State.expireHold (s : State) (t : Nat) : State :=
  let s := s.setOut t { s.out t with follow := .limp, timer := false }
  let first := match s.sys.firstLimp with | some x => some x | none => some s.micros
  { s with sys := { s.sys with limpCount := s.sys.limpCount + 1, firstLimp := first } }.flag SYS_RSTCAUSE.HOLDEXP true

/-- R75, R76: one output's Vitrine takes the policy's level; where the alive signal has dropped (`drop`) its hold timer starts, and a
tVHOLD of 0 applies the limp state at once. An LED channel in PWM keeps ON where its level is not 0 (R285). A disabled output stays off and
times nothing (R202, R633). -/
def State.holdOne (s : State) (t : Nat) (drop : Bool) : State :=
  let o := if 77 ≤ t && s.fld LED_STAT.STATE (t - 77) = 2 then (s.fld LED_EFF.LEFF (t - 77) != 0, false) else s.obeyed t
  let level := match s.fb t HSW_FB.HOLD with | 1 => true | 2 => false | _ => o.1
  let s := s.setOut t { follow := .vitrine, level := level, dir := o.2, timer := drop && s.slotEn t }
  if drop && s.slotEn t && s.fb t HSW_FB.TVHOLD = 0 then s.expireHold t else s

/-- R75 to R77: at a logic reset the output takes its hold policy: in an operating mode, in Sealed and on the park latch. During a
Start it is on its Vitrine, or in its limp state once its timer has expired, and stays there until it is re-claimed; an output
of a power island that has reset stays off (R80). -/
def State.takesPolicy (s : State) (t : Nat) : Bool :=
  let f := (s.out t).follow
  f != .off && (s.sys.phase == .run || s.sys.phase == .sealed || f == .parked)

/-- R36, R75 to R77: a logic reset. Where the alive signal drops with it (`drop`: the fabric runs, or both halves are lost, R524) an
output hold interval begins, unless one is open already. -/
def State.enterHold (s : State) (drop : Bool) : State :=
  let ts := (slots s.variant).filter s.takesPolicy
  let s := if drop && !s.sys.holdLive then
      { s with sys := { s.sys with holdLive := true, holdStart := s.tb, limpCount := 0, firstLimp := none } }
    else s
  forEach ts (fun t s => s.holdOne t drop) s

/-- R77, R497: the output hold interval ends: SYS_HOLDLOG is written, and if an output has reached limp the hold expiry
report is raised with the time of the first expiry. -/
def State.endHold (s : State) : State :=
  if !s.sys.holdLive then s
  else
    let n := s.sys.limpCount
    let s := (s.put SYS_HOLDLOG.HOLDMS (satTo ((s.tb - s.sys.holdStart) / 100000) 16)).put SYS_HOLDLOG.LIMPCNT (satTo n 8)
    let s := { s with sys := { s.sys with holdLive := false } }
    match s.sys.firstLimp with
    | some t => { s with flt := { s.flt with raised := s.flt.raised ++
        [⟨srcId 0 0 4, satTo n 12, t, false, true, false⟩] } }
    | none => s

/-- R79, R81, R82: every output follows as `f` says for its slot; hold timers stop. -/
def State.followAll (s : State) (f : Nat → Follow) : State :=
  forEach (slots s.variant) (fun t s => s.setOut t { s.out t with follow := f t, timer := false }) s

/-! ## The park latch (R66, R67) -/

/-- One round of R67: the lines that a pulse unit drives, grown by the cells that read one of them. -/
def State.puLinesGrow (s : State) (ls : List Nat) : List Nat :=
  s.lineIds.filter fun n => ls.contains n ||
    (s.fld FAB_LSRC.KIND n == 5 &&
      let c := s.fld FAB_LSRC.INDEX n
      ls.contains (s.fld LC_INAB.A c) || ls.contains (s.fld LC_INAB.B c) ||
        ls.contains (s.fld LC_INCD.C c) || ls.contains (s.fld LC_INCD.D c))

/-- R67: the lines driven from a pulse unit, directly or by a route of logic cells. -/
def State.puLines (s : State) : List Nat :=
  (List.range s.lineIds.length).foldl (fun ls _ => s.puLinesGrow ls)
    (s.lineIds.filter fun n => s.fld FAB_LSRC.KIND n == 4)

/-- R66, R67: every output's Vitrine takes the park level. -/
def State.parkLatch (s : State) : State :=
  let pu := s.puLines
  forEach (slots s.variant) (fun t s =>
    let driven := s.bit FAB_OSEL.INCON t && pu.contains (s.fld FAB_OSEL.IN t)
    s.setOut t { follow := .parked, level := !driven && (s.lineCmd t).1, dir := (s.lineCmd t).2, timer := false }) s

end Sys2Proof.Machine
end

