-- ==== Sys2Proof/Machine/HswCore.lean ====
section
/-! DEFINITION. High-side channels, part 1 (spec/05 R154 to R178): class data, turning on and off. -/

namespace Sys2Proof.Machine

/-- The extra state of a channel. -/
def State.ch (s : State) (n : Nat) : HswSt := Tbl.get s.hsw n default

def State.setCh (s : State) (n : Nat) (x : HswSt) : State := { s with hsw := Tbl.set s.hsw n x }

/-- R154: ILIM step in mA. -/
def ilimStep (n : Nat) : Nat := match hsClass n with | 0 => 500 | 1 => 200 | _ => 50

/-- R154: the short-cut threshold in mA. -/
def iscMa (n code : Nat) : Nat :=
  match hsClass n with
  | 0 => (2 + code) * 50000
  | 1 => (2 + code) * 20000
  | _ => (2 + code) * 6000

/-- R164, R205, R243: a short-cut comparator whose threshold holds to ±15 % may have answered to the current. -/
def crossesIsc (iscMa iMa : Nat) : Bool := 85 * iscMa ≤ 100 * iMa

/-- R185, R154: the stuck-on threshold in mA. -/
def istuckMa (n : Nat) : Nat := match hsClass n with | 0 => 1000 | 1 => 400 | _ => 100

/-- The channel's state code (R157). -/
def State.hs (s : State) (n : Nat) : Nat := s.fld HSW_STAT.STATE n

def State.setHs (s : State) (n st : Nat) : State := s.put HSW_STAT.STATE st n

/-- R157: the stage conducts in INRUSH, ON and LIMIT. -/
def State.conducting (s : State) (n : Nat) : Bool := s.hs n == 1 || s.hs n == 2 || s.hs n == 3

/-- R171: the inrush profile of the registers: limit code and duration of each step before the first 0 duration. -/
def State.profileOf (s : State) (n : Nat) : List (Nat × Nat) :=
  [(s.fld HSW_INR0.L0 n, s.fld HSW_INR0.D0 n), (s.fld HSW_INR0.L1 n, s.fld HSW_INR0.D1 n),
   (s.fld HSW_INR1.L2 n, s.fld HSW_INR1.D2 n), (s.fld HSW_INR1.L3 n, s.fld HSW_INR1.D3 n)].takeWhile fun p => p.2 != 0

/-- R172: a profile applies at this turn-on. -/
def State.profileApplies (s : State) (n : Nat) : Bool :=
  !(s.profileOf n).isEmpty &&
    match (s.ch n).offSince with
    | some t => decide (t + s.fld HSW_TIME.INRREARM n * 100000 ≤ s.tb)
    | none => true

/-- R157: from OFF with CMD on: INRUSH if a profile applies, otherwise ON; nothing turns on while its supply is reversed (R487). -/
def State.hswTurnOn (s : State) (n : Nat) : State :=
  let x := { s.ch n with long := false, measured := false, stretching := false }
  if s.reversed n then s
  else if s.profileApplies n then
    (s.setCh n { x with profile := s.profileOf n, droop := false, extended := false }).setHs n 1
  else (s.setCh n { x with profile := [] }).setHs n 2

/-- The slots that trip, lock and recover as one with a slot (R195 to R197): its parallel group, or itself. -/
def State.grp (s : State) (t : Nat) : List Nat :=
  if 8 ≤ t && t < 24 && s.fld HSW_CFG.PGRP t != 0 then
    (List.range 48).filter fun n => 8 ≤ n && n < 24 && hswFitted s.variant n && s.fld HSW_CFG.PGRP n == s.fld HSW_CFG.PGRP t
  else [t]

/-- R196: the leader of a channel's group, itself where it has none. -/
def State.leader (s : State) (t : Nat) : Nat := (s.grp t).headD t

/-- R193: OLSTAT, shown by every member that a channel leads (R196); kind 5 is active while it reads OPEN (R635). -/
def State.setOl (s : State) (n st : Nat) : State :=
  let s := forEach (s.grp n) (fun m s => s.put HSW_STAT.OLSTAT st m) s
  if st = 2 then s else s.clearSrc 2 n 5

/-- R194: the on-periods that one stretch stands for. -/
def dstr (code : Nat) : Nat := 16 * 2 ^ code

/-- R194: a short on-period is counted; the DSTR-th begins the count anew. -/
def State.shortEnd (s : State) (n : Nat) : State :=
  let k := (s.ch n).shorts + 1
  s.setCh n { s.ch n with shorts := if dstr (s.fld HSW_OL.DSTR n) ≤ k then 0 else k }

/-- R193, R194, R196: the end of an on-period at a leader: a short one is counted where stretching is selected, and covered by it;
any other one without a measurement turns OK into UNKNOWN, while the fabric runs. -/
def State.olEnd (s : State) (n : Nat) : State :=
  let x := s.ch n
  if s.leader n ≠ n || x.measured || x.stretching then s
  else if s.bit HSW_OL.STRETCH n && !x.long then s.shortEnd n
  else if s.fld HSW_STAT.OLSTAT n = 1 && s.sys.fabricUp then s.setOl n 0
  else s

/-- The end of an on-period (R172, R193, R194). -/
def State.onPeriodEnd (s : State) (n : Nat) : State :=
  let s := s.olEnd n
  s.setCh n { s.ch n with offSince := some s.tb, profile := [], droop := false, extended := false, stretching := false }

/-- The stage turns off and enters state `st`. -/
def State.hswOff (s : State) (n st : Nat) : State :=
  if s.conducting n then (s.onPeriodEnd n).setHs n st else s.setHs n st

/-- R193, R199: the channel enters ARMED; OLSTAT reads UNKNOWN. -/
def State.hswArm (s : State) (n : Nat) : State := (s.hswOff n 6).setOl n 0

/-- HSWn_STAT.CMD and IN show the command and the IN line (R156). -/
def State.hswShow (s : State) (n : Nat) : State :=
  (s.flag HSW_STAT.CMD ((s.cmd n).1 || (s.ch n).stretching) n).flag HSW_STAT.IN (s.lineCmd n).1 n

/-- From OFF the channel follows its CMD. -/
def State.hswFollow (s : State) (n : Nat) : State :=
  if s.hs n = 0 && (s.cmd n).1 then s.hswTurnOn n else s

end Sys2Proof.Machine
end

