-- ==== Sys2Proof/Machine/HbrCore.lean ====
section
/-! DEFINITION. Motor bridges, part 1 (spec/06 R205 to R231): drive modes, position, stops, service events. -/

namespace Sys2Proof.Machine

/-- The extra state of a bridge. -/
def State.br (s : State) (b : Nat) : HbrSt := Tbl.get s.hbr b default

def State.setBr (s : State) (b : Nat) (x : HbrSt) : State := { s with hbr := Tbl.set s.hbr b x }

/-- The bridge's state code (R212): 0 IDLE, 1 DRIVE, 2 LIMIT, 3 STOPPED, 4 TRIPPED, 5 DISABLED. -/
def State.hb (s : State) (b : Nat) : Nat := s.fld HBR_STAT.STATE b

def State.setHb (s : State) (b st : Nat) : State := s.put HBR_STAT.STATE st b

/-- HB-H bridges (R206). -/
def hbHigh (b : Nat) : Bool := b < 4

/-- R205: the ILIM and ISTALL step in mA. -/
def hbStep (b : Nat) : Nat := if hbHigh b then 250 else 50

/-- R205: the short-cut threshold in mA. -/
def hbIscMa (b code : Nat) : Nat := if hbHigh b then 70000 + 20000 * code else 12000 + 4000 * code

/-- R231: a service event of the bridge. -/
def State.hbrEvent (s : State) (b k : Nat) : State :=
  if s.bit HBR_SVC.EVEN b then s.event (s.fld HBR_SVC.CTX b) (s.fld HBR_SVC.EVBIT b + k) else s

/-- R223: POS moves by `d` counts and saturates. -/
def State.posMove (s : State) (b : Nat) (d : Int) : State :=
  s.sput HBR_POS.POS (max (-32768) (min 32767 (s.sfld HBR_POS.POS b + d))) b

/-- The drive mode changes; while the supply is reversed no switch turns on (R487). Entering COAST from DRIVE with ripple counting
moves POS by COASTADD (R223), and ends the validity of ripple counting (R222). A bridge that coasts on a brake overcurrent does so from
one braking mode into another (R217). -/
def State.hbrMode (s : State) (b : Nat) (m : BMode) : State :=
  let x := s.br b
  let m := if s.reversed (48 + b) then .coast else m
  let s := if x.mode = .drive && m = .coast && s.fld HBR_MON.SRC b = 1 then
      s.posMove b (if x.dir then -(s.fld HBR_MON.COASTADD b : Int) else (s.fld HBR_MON.COASTADD b : Int)) else s
  let s := if m = .coast then s.flag HBR_STAT.RIPVALID false b else s
  s.setBr b { s.br b with mode := m, limBrake := false, ocCoast := x.ocCoast && (m == .brakeLow || m == .brakeHigh) }

/-- R207: the drive mode of an OFF command. -/
def State.offMode (s : State) (b : Nat) : BMode :=
  match s.fld HBR_CFG.OFFMODE b with | 1 => .brakeLow | 2 => .brakeHigh | _ => .coast

/-- A start of DRIVE in direction `d`: counting, blanking and the pinch run start anew (R224, R226). -/
def State.hbrStart (s : State) (b : Nat) (d : Bool) : State :=
  (s.hbrMode b .drive).setBr b { (s.hbrMode b .drive).br b with
    dir := d, drove := true, revWait := false, revDone := false, counts := 0, run := 0, exceeded := false, against := 0 }

/-- R211: the bridge drives in direction `d`, braking first where the last DRIVE interval went the other way and the
braking time since has not reached TREV. -/
def State.hbrSteer (s : State) (b : Nat) (d : Bool) : State :=
  let x := s.br b
  if s.reversed (48 + b) then s.hbrMode b .coast
  else if x.drove && x.dir != d && !x.revDone && s.fld HBR_CFG.TREV b ≠ 0 then
    (s.hbrMode b .brakeLow).setBr b { (s.hbrMode b .brakeLow).br b with revWait := true }
  else s.hbrStart b d

/-- R212: IDLE. A cycle limit's BRAKE_LOW lasts until the command rises again (R215). -/
def State.hbrIdle (s : State) (b : Nat) : State :=
  let s := s.setHb b 0
  let s := if (s.br b).limBrake then s else s.hbrMode b (s.offMode b)
  s.setBr b { s.br b with revWait := false }

/-- R212: DRIVE entered on a command ON; not while the supply is reversed (R487). -/
def State.hbrDrive (s : State) (b : Nat) : State :=
  if s.reversed (48 + b) then s.hbrIdle b else (s.setHb b 1).hbrSteer b (s.cmd (48 + b)).2

/-- From IDLE the bridge follows its command. -/
def State.hbrFollow (s : State) (b : Nat) : State :=
  if s.hb b = 0 && (s.cmd (48 + b)).1 && !s.reversed (48 + b) then s.hbrDrive b else s

/-- HBRb_STAT.IN and DIR show the lines. -/
def State.hbrShow (s : State) (b : Nat) : State :=
  (s.flag HBR_STAT.IN (s.lineCmd (48 + b)).1 b).flag HBR_STAT.DIR (s.lineCmd (48 + b)).2 b

/-- The bridge's power stage goes off and the state becomes `st`: TRIPPED or DISABLED, both COAST (R212). -/
def State.hbrOff (s : State) (b st : Nat) : State :=
  ((s.setHb b st).hbrMode b .coast).setBr b { ((s.setHb b st).hbrMode b .coast).br b with revWait := false }

/-- R212, R226 to R231: a stop with its cause (1 PINCH, 2 STALL, 3 TARGET): BRAKE_LOW, the sticky flag, the service event;
a target stop clears TGTEN. Braking for the whole of TSTOPBRK counts towards TREV (R211). -/
def State.hbrStop (s : State) (b cause : Nat) : State :=
  let s := ((s.setHb b 3).hbrMode b .brakeLow).put HBR_STAT.CAUSE cause b
  let s := s.setBr b { s.br b with
    stopDir := (s.br b).dir, stopOver := s.fld HBR_PINCH.TSTOPBRK b = 0, stopClr := false, revWait := false, run := 0
    coasted := (s.br b).ocCoast }
  let s := match cause with
    | 1 => s.flag HBR_STAT.PINCH true b
    | 2 => s.flag HBR_STAT.STALL true b
    | _ => s.flag HBR_TGT.TGTEN false b
  s.hbrEvent b 0

/-- R230: a stop is released once TSTOPBRK has passed and a release condition holds. -/
def State.hbrRelease (s : State) (b : Nat) : State :=
  let x := s.br b
  if s.hb b ≠ 3 || !x.stopOver then s
  else
    let c := s.cmd (48 + b)
    if !c.1 then s.hbrIdle b
    else if c.2 != x.stopDir then s.hbrDrive b
    else if x.stopClr then (s.hbrIdle b).hbrFollow b
    else s

/-- R487: the supply is no longer reversed: the bridge takes the switches of its state again. -/
def State.hbrAgain (s : State) (b : Nat) : State :=
  if (s.br b).mode != .coast then s
  else match s.hb b with
    | 0 => (s.hbrIdle b).hbrFollow b
    | 1 | 2 => s.hbrSteer b (s.cmd (48 + b)).2
    | 3 => s.hbrMode b .brakeLow
    | _ => s

/-- R222: ripple counting loses its validity once no ripple has counted for the longest period, 1/30 s. -/
def State.ripExpire (s : State) : State :=
  forEach ((List.range 12).filter (hbrFitted s.variant)) (fun b s =>
    if s.bit HBR_STAT.RIPVALID b && decide ((s.br b).ripAt + 3333333 < s.tb) then s.flag HBR_STAT.RIPVALID false b else s) s

/-- A stage that drives: DRIVE or LIMIT. -/
def State.hbrRunning (s : State) (b : Nat) : Bool := s.hb b == 1 || s.hb b == 2

end Sys2Proof.Machine
end

