-- ==== Sys2Proof/Machine/VlvCore.lean ====
section
/-! DEFINITION. Valve banks and contactors, part 1 (spec/07 R243 to R275): coils, admission, bank switches. A coil is named
by its output slot: valves 60 to 71, contactors 75 and 76; bank switch `k` is slot 72 + k. -/

namespace Sys2Proof.Machine

/-- The extra state of a coil. -/
def State.coilAt (s : State) (t : Nat) : CoilSt := Tbl.get s.coil t default

def State.setCoil (s : State) (t : Nat) (x : CoilSt) : State := { s with coil := Tbl.set s.coil t x }

/-- A field of the coil's own block: valve or contactor. -/
def State.cf (s : State) (t : Nat) (v c : Fld) : Nat := if t < 72 then s.fld v (t - 60) else s.fld c (t - 75)

def State.setCf (s : State) (t : Nat) (v c : Fld) (x : Nat) : State := if t < 72 then s.put v x (t - 60) else s.put c x (t - 75)

/-- The fault source unit of a coil output (R243). -/
def coilUnit (t : Nat) : Nat := if t < 72 then t - 60 else if t < 75 then 16 + (t - 72) else 24 + (t - 75)

/-- State codes of a valve (R246), a contactor (R268), a bank switch. -/
def State.coilState (s : State) (t : Nat) : Nat := s.cf t VLV_STAT.STATE CTD_STAT.STATE
def State.setCoilState (s : State) (t st : Nat) : State := s.setCf t VLV_STAT.STATE CTD_STAT.STATE st
def State.vlv (s : State) (v : Nat) : Nat := s.fld VLV_STAT.STATE v
def State.vhs (s : State) (k : Nat) : Nat := s.fld VHS_STAT.STATE k
def State.ctd (s : State) (c : Nat) : Nat := s.fld CTD_STAT.STATE c

/-- A report of a coil output carries its state and nine bits of detail (R275). -/
def coilDetail (st d : Nat) : Nat := st * 512 + satTo d 9

/-- R275: a nine-bit detail from TJ in half degrees: 0 below 0 °C, saturating at 255. -/
def tjByte (tj : Int) : Nat := satTo (tj / 2).toNat 8

/-! ## Banks (R249 to R256) -/

/-- The coil's boost or pull-in runs. -/
def State.peaking (s : State) (t : Nat) : Bool := s.coilState t == (if t < 72 then 2 else 1)

/-- R266: a boost or pull-in that reaches its set current sets COILSTAT to OK. -/
def State.peakSeen (s : State) (t : Nat) (reached : Bool) : State :=
  if reached && s.peaking t then (s.setCf t VLV_STAT.COILSTAT CTD_STAT.COILSTAT 1).clearSrc 4 (coilUnit t) 5 else s

/-- R266: a boost or pull-in that a mode boundary ends: no command says whether it had reached its set current, a free value. -/
def State.peakAny (s : State) (t : Nat) : State :=
  if s.peaking t then
    let (x, s) := s.takeFree
    s.peakSeen t (x.getLsbD 0)
  else s

/-- The members of a bank. -/
def members (k : Nat) : List Nat := (List.range 4).map (4 * k + ·)

/-- Members in one of the given states. -/
def State.inStates (s : State) (k : Nat) (sts : List Nat) : List Nat := (members k).filter fun v => sts.contains (s.vlv v)

/-- The summed IHOLD codes of members in the given states, each of its own activation (R248). -/
def State.holdSum (s : State) (k : Nat) (sts : List Nat) : Nat :=
  ((s.inStates k sts).map fun v => (s.coilAt (60 + v)).hold).foldl (· + ·) 0

/-- R249 and VHSk_STAT: the bank switch conducts while its command is ON and a member is in BOOST, HOLD or DECAY; it does not turn on
while MAIN is reversed (R487). ACTIVE and HOLDSUM follow the members. -/
def State.bankShow (s : State) (k : Nat) : State :=
  let on := (s.cmd (72 + k)).1 && !(s.inStates k [2, 3, 4]).isEmpty && !s.reversed (72 + k)
  let s := if s.vhs k = 0 && on then s.put VHS_STAT.STATE 1 k
    else if s.vhs k = 1 && (s.inStates k [2, 3, 4]).isEmpty then s.put VHS_STAT.STATE 0 k else s
  let act := (members k).foldl (fun a v => a + if [1, 2, 3, 4].contains (s.vlv v) then 2 ^ (v - 4 * k) else 0) 0
  (s.put VHS_STAT.ACTIVE act k).put VHS_STAT.HOLDSUM (s.holdSum k [1, 2, 3]) k

/-- VLVv_STAT.CMD and IN, CTDc_STAT.CMD and IN. -/
def State.coilShow (s : State) (t : Nat) : State :=
  (s.setCf t VLV_STAT.CMD CTD_STAT.CMD (b2n (s.cmd t).1)).setCf t VLV_STAT.IN CTD_STAT.IN (b2n (s.lineCmd t).1)

/-- A valve's state changes and its bank shows it; leaving WAIT, TBW reports the time in it (R251). -/
def State.setVlv (s : State) (v st : Nat) : State :=
  let s := if s.vlv v = 1 && st ≠ 1 then s.put VLV_STAT.TBW (min 50 ((s.tb - (s.coilAt (60 + v)).since) / 10000)) v else s
  (s.put VLV_STAT.STATE st v).bankShow (v / 4)

/-- R253: a refused valve: OFF, REFUSED, RREASON, kind 6. -/
def State.refuse (s : State) (v reason : Nat) : State :=
  let st := s.vlv v
  (((s.setVlv v 0).flag VLV_STAT.REFUSED true v).put VLV_STAT.RREASON reason v).raise 4 v 6 (coilDetail st reason)

/-- R250: admission to WAIT, or refusal: BANKOFF (3) unless the bank switch's command is ON and it is OFF or ON; HOLDSUM (1)
unless the hold currents fit 8.0 A (400 codes of 20 mA). An admitted valve takes its parameters (R248); nothing is queued any more. -/
def State.admitValve (s : State) (v : Nat) : State :=
  let k := v / 4
  let h := s.fld VLV_PROF.IHOLD v
  if !((s.cmd (72 + k)).1 && (s.vhs k = 0 || s.vhs k = 1)) then s.refuse v 3
  else if 400 < s.holdSum k [1, 2, 3] + h then s.refuse v 1
  else
    let x := { s.coilAt (60 + v) with
      peak := s.fld VLV_PROF.IPEAK v, time := s.fld VLV_PROF.TBOOST v, hold := h, compat := s.bit VLV_CFG.COMPAT v
      order := s.bank.next, since := s.tb, rep0 := false, rep1 := false, minRun := false, toTrip := false, toDis := false }
    let s := s.flag VLV_STAT.QUEUED false v
    State.setVlv { s.setCoil (60 + v) x with bank := { s.bank with next := s.bank.next + 1 } } v 1

/-- R250, R258 to R260: a valve whose command rises, or is taken as rising: it is admitted from OFF or DECAY, or before tVMINOFF has
elapsed queues its activation. While its bank opens (R254), and in a DECAY that ends in TRIPPED or DISABLED (R248), it stays as it is. -/
def State.valveRise (s : State) (v : Nat) : State :=
  let x := s.coilAt (60 + v)
  let st := s.vlv v
  if s.vhs (v / 4) = 2 || x.toTrip || x.toDis || !(st = 0 || st = 4 || st = 6) then s
  else if x.minRun || st = 6 then s.flag VLV_STAT.QUEUED true v
  else s.admitValve v

/-- A coil enters DECAY (state 4 of a valve, 3 of a contactor); with compatibility, tVMINOFF starts (R259), and a contactor's check for
a welded contact is to come (R273). -/
def State.decay (s : State) (t : Nat) : State :=
  let s := s.setCoil t { s.coilAt t with
    minRun := decide (t < 72) && (s.coilAt t).compat, hOpen := false, opened := true, rep10 := false }
  if t < 72 then s.setVlv (t - 60) 4 else s.setCoilState t 3

/-- R254 step 1, R256: members in BOOST or HOLD decay, members in WAIT are refused with BANKOFF. -/
def State.bankDrop (s : State) (k : Nat) : State :=
  forEach (members k) (fun v s =>
    if s.vlv v = 2 || s.vlv v = 3 then s.decay (60 + v)
    else if s.vlv v = 1 then s.refuse v 3
    else s) s

/-- R254: the emergency off of a bank. -/
def State.emergencyOff (s : State) (k : Nat) : State := ((s.put VHS_STAT.STATE 2 k).bankDrop k).bankShow k

/-- R255: members whose command is ON are handled as if it had risen, in ascending order. -/
def State.bankReturn (s : State) (k : Nat) : State :=
  forEach (members k) (fun v s => if (s.cmd (60 + v)).1 then s.valveRise v else s) s

/-! ## Contactors (R268) -/

/-- R268, R269: PULLIN, with the parameters of this activation (R248). -/
def State.pullIn (s : State) (c : Nat) : State :=
  let t := 75 + c
  let s := s.setCoil t { s.coilAt t with
    peak := s.fld CTD_PROF.IPULL c, time := s.fld CTD_PROF.TPULL c, hold := s.fld CTD_PROF.IHOLD c
    rep0 := false, rep1 := false, opened := false, rep8 := false, rep9 := false, rep10 := false
    hOpen := false, toTrip := false, toDis := false }
  s.put CTD_STAT.STATE 1 c

/-- A contactor in OFF or DECAY follows a command ON; a locked high side refuses (R257), and nothing turns on while its supplies are
reversed (R487). -/
def State.ctdFollow (s : State) (c : Nat) : State :=
  let x := s.coilAt (75 + c)
  if (s.ctd c = 0 || (s.ctd c = 3 && !x.toTrip && !x.toDis)) && (s.cmd (75 + c)).1 && !s.bit CTD_STAT.LOCK c && !s.reversed (75 + c) then s.pullIn c else s

end Sys2Proof.Machine
end

