-- ==== Sys2Proof/Machine/LedCore.lean ====
section
/-! DEFINITION. LED channels, part 1 (spec/08 R276 to R285): effective level, dimming mode and settings, HELD. -/

namespace Sys2Proof.Machine

/-- The extra state of an LED channel. -/
def State.lx (s : State) (i : Nat) : LedSt := Tbl.get s.led i default

def State.setLx (s : State) (i : Nat) (x : LedSt) : State := { s with led := Tbl.set s.led i x }

/-- The channel's state code (R284): 0 IDLE, 1 ANALOG, 2 PWM, 3 TRIPPED, 4 DISABLED, 5 HELD. -/
def State.ls (s : State) (i : Nat) : Nat := s.fld LED_STAT.STATE i

def State.setLs (s : State) (i st : Nat) : State := s.put LED_STAT.STATE st i

/-- R276: IFS in µA. -/
def State.ifs (s : State) (i : Nat) : Nat :=
  match s.fld LED_CFG.FSREF i with | 0 => 350000 | 1 => 262500 | 2 => 175000 | _ => 87500

/-- R277: the DAC code for IFS, round(IFS / 0.342 mA). -/
def State.ifsCode (s : State) (i : Nat) : Nat := (2 * s.ifs i + 342) / 684

/-- Division rounded to the nearest integer, halves up. -/
def divRound (a b : Nat) : Nat := (2 * a + b) / (2 * b)

/-- R282, R277: the DAC code of a level. -/
def State.dacOf (s : State) (i level : Nat) : Nat := min (divRound (level * s.ifs i) 350000) (s.ifsCode i)

/-- R285, R277: the DAC code of HOLDI percent of IFS, in steps of 350/1023 mA. -/
def State.holdiDac (s : State) (i : Nat) : Nat :=
  min (divRound (s.fld LED_FB.HOLDI i * s.ifs i * 1023) 35000000) (s.ifsCode i)

/-- R280: the derating factor of the channel's lamp group; 256 in no group and in a disabled one (LGg_NTC2.EN). -/
def State.derate (s : State) (i : Nat) : Nat :=
  match s.fld LED_CFG.LGRP i with | 0 => 256 | g + 1 => if s.bit LG_NTC2.EN g then s.fld LG_STAT.F g else 256

/-- R279, R280: the effective level. -/
def State.effLevel (s : State) (i : Nat) : Nat :=
  let dem := s.bit LED_DEM.DEMCON i && s.line (s.fld LED_DEM.LINE i)
  let sel := if dem then s.fld LED_LVL.LVLA i else s.fld LED_LVL.LVLB i
  let a := sel * s.derate i / 256
  if (s.lx i).folded then a * s.fld LED_PSTAT.FF / 256 else a

/-- R281: the dimming mode (true: PWM) of a channel that goes from level `old` to `new`. -/
def State.dimMode (s : State) (i old new : Nat) : Bool :=
  let m := s.bit LED_EFF.MODE i
  if s.bit LED_STAT.DACFAIL i || s.fld LED_CFG.DMODE i = 1 then true
  else if new = 0 then m
  else if old = 0 then decide (new < 82)
  else if m then decide (new < 90) else decide (new ≤ 81)

/-- R282: the DUTY for a level and a mode. -/
def State.dutyOf (s : State) (i level : Nat) (pwm : Bool) : Nat :=
  let per := s.fld PU_PD.PER (s.fld LED_CFG.PU i)
  if level = 0 then 0 else if pwm then level * per / 1023 else per

/-- R280 to R283: L′ is computed anew; a new setting is sent to P4, and the DUTY waits for it to cross. -/
def State.ledUpdate (s : State) (i : Nat) : State :=
  if !s.bit LED_CFG.EN i then s
  else
    let old := s.fld LED_EFF.LEFF i
    let l := s.effLevel i
    let m := s.dimMode i old l
    let s := s.flag LED_STAT.DERATED (decide (s.derate i < 256)) i
    if l = old && m = s.bit LED_EFF.MODE i then s
    else
      let s := (s.put LED_EFF.LEFF l i).flag LED_EFF.MODE m i
      s.setLx i { s.lx i with duty := some (s.dutyOf i l m) }

/-- The state an LED channel has on rank 4 (R284). -/
def State.ledRest (s : State) (i : Nat) : Nat :=
  if s.fld LED_EFF.LEFF i = 0 then 0 else if s.bit LED_EFF.MODE i then 2 else 1

/-- R282: the stage takes a setting: its fixed reference in PWM (DAC code 0), a DAC code in ANALOG, nothing new at level 0. -/
def State.ledApply (s : State) (i level : Nat) (pwm : Bool) : State :=
  let s := s.setLx i { s.lx i with arrived := false }
  if level = 0 then s
  else (s.setLx i { s.lx i with fixed := pwm }).put LED_EFF.DAC (if pwm then 0 else s.dacOf i level) i

/-- The setting in use on rank 4 (R282). -/
def State.ledSetting (s : State) (i : Nat) : State := s.ledApply i (s.fld LED_EFF.LEFF i) (s.bit LED_EFF.MODE i)

/-- The stage turns off: a stretch and a setting on its way end, and the state becomes `st`. -/
def State.ledStop (s : State) (i st : Nat) : State :=
  (s.setLx i { s.lx i with stretching := false, arrived := false }).setLs i st

/-- R284: a command of rank 2 or 3 applies, or the park latch holds. -/
def State.ledRanked (s : State) (i : Nat) : Bool :=
  (s.forced (77 + i)).isSome || (s.out (77 + i)).follow != .lines

/-- R285: HOLD_LAST holds the channel. -/
def State.ledLast (s : State) (i : Nat) : Bool := (s.out (77 + i)).follow == .vitrine && s.fld LED_FB.HOLD i = 0

/-- R285: the code that HELD drives with: HOLDI, or for HOLD_LAST, no force applying, the code that a channel in ANALOG had. -/
def State.heldDac (s : State) (i : Nat) : Nat :=
  match (s.lx i).heldDac with
  | some d => if s.ledLast i && (s.forced (77 + i)).isNone then d else s.holdiDac i
  | none => s.holdiDac i

/-- R284, R285: the channel enters HELD. -/
def State.ledHeld (s : State) (i : Nat) : State :=
  let keep := if s.ls i = 1 && s.ledLast i then some (s.fld LED_EFF.DAC i) else none
  let s := s.ledStop i 5
  s.setLx i { s.lx i with heldDac := keep }

/-- R284, R285: HELD is entered and left as the rank of the command changes; from IDLE only by an ON. -/
def State.ledRank (s : State) (i : Nat) : State :=
  let s := (s.flag LED_STAT.CMD (s.cmd (77 + i)).1 i).flag LED_STAT.IN (s.lineCmd (77 + i)).1 i
  if s.ls i = 3 || s.ls i = 4 then s
  else if s.ledRanked i then
    if s.ls i = 0 && !(s.cmd (77 + i)).1 then s
    else
      let s := if s.ls i = 5 then s else s.ledHeld i
      s.put LED_EFF.DAC (s.heldDac i) i
  else if s.ls i = 5 then (s.setLs i (s.ledRest i)).ledSetting i
  else s

/-- The stage conducts (R284, R285), a stretched on-period included (R194); not while MAIN is reversed (R487). -/
def State.ledOn (s : State) (i : Nat) : Bool :=
  (s.ls i == 1 || s.ls i == 2 || s.ls i == 5) && ((s.cmd (77 + i)).1 || (s.lx i).stretching) && !s.reversed (77 + i)

/-- The regulated setting in µA (R282, R285): IFS, or the DAC's current, corrected by its record (R606). -/
def State.ledUa (s : State) (i : Nat) : Nat :=
  if s.ls i ≠ 5 && (s.lx i).fixed then s.ifs i
  else (s.corrected (128 + i) 10 (s.fld LED_EFF.DAC i * 350000 / 1023 : Nat)).toNat

/-- R193, R194, R287: the on-period of a conducting channel ends with its command: a short one is counted where stretching is selected,
and the DSTR-th is stretched on rank 4; any other one without a measurement turns OK into UNKNOWN, while the fabric runs. -/
def State.ledFall (s : State) (i : Nat) : State :=
  let x := s.lx i
  if x.measured || x.stretching then s
  else if s.bit LED_DIAG.STRETCH i && !x.long then
    let k := x.shorts + 1
    if dstr (s.fld LED_DIAG.DSTR i) ≤ k then
      s.setLx i { x with shorts := 0, stretching := s.sys.fabricUp && !s.ledRanked i }
    else s.setLx i { x with shorts := k }
  else if s.fld LED_STAT.OSTAT i = 1 && s.sys.fabricUp then s.put LED_STAT.OSTAT 0 i
  else s

/-- R282, R287: IN rises: an on-period begins, and a setting that waits for this is applied. -/
def State.ledRise (s : State) (i : Nat) : State :=
  let s := s.setLx i { s.lx i with long := false, measured := false, stretching := false }
  if (s.lx i).arrived then s.ledApply i (s.lx i).level (s.lx i).pwm else s

/-- R283, R284: at a period end of the bound unit the level sent takes effect. -/
def State.ledTake (s : State) (i : Nat) : State :=
  let x := s.lx i
  if !x.taking then s
  else
    let s := s.setLx i { x with taking := false }
    if s.ls i = 0 || s.ls i = 1 || s.ls i = 2 then s.setLs i (if x.level = 0 then 0 else if x.pwm then 2 else 1) else s

/-- R283: the LED channels bound to a unit take their levels at its period end. -/
def State.ledTakes (s : State) (u : Nat) : State :=
  forEach ((List.range 16).filter fun i => ledFitted s.variant i && s.bit LED_CFG.EN i && s.fld LED_CFG.PU i == u)
    (fun i s => s.ledTake i) s

end Sys2Proof.Machine
end

