-- ==== Sys2Proof/Machine/Protect.lean ====
section
/-! DEFINITION. What the output classes share (spec/05 R167 to R170, R183 to R191, R195 to R197, R202, R635): trips and their
recovery, clamp buckets and locks, parallel groups, written once over output slots (R132). -/

namespace Sys2Proof.Machine

/-! ## What differs from class to class -/

/-- The field of the class of an output, written. -/
def State.putByClass (s : State) (t : Nat) (h b v k c l : Fld) (x : Nat) : State :=
  match slotClass t with
  | 0 => s.put h x t
  | 1 => s.put b x (t - 48)
  | 2 => s.put v x (t - 60)
  | 3 => s.put k x (t - 72)
  | 4 => s.put c x (t - 75)
  | _ => s.put l x (t - 77)

/-- The state code of an output. -/
def State.ost (s : State) (t : Nat) : Nat :=
  s.byClass t HSW_STAT.STATE HBR_STAT.STATE VLV_STAT.STATE VHS_STAT.STATE CTD_STAT.STATE LED_STAT.STATE

/-- Recovery rule, retry limit, retry counter (R167, R169). -/
def State.recov (s : State) (t : Nat) : Nat :=
  s.byClass t HSW_CFG.RECOV HBR_CFG.RECOV VLV_CFG.RECOV VHS_CFG.RECOV CTD_CFG.RECOV LED_CFG.RECOV
def State.nretry (s : State) (t : Nat) : Nat :=
  s.byClass t HSW_CFG.NRETRY HBR_CFG.NRETRY VLV_CFG.NRETRY VHS_CFG.NRETRY CTD_CFG.NRETRY LED_CFG.NRETRY
def State.retries (s : State) (t : Nat) : Nat :=
  s.byClass t HSW_STAT.RETRIES HBR_STAT.RETRIES VLV_STAT.RETRIES VHS_STAT.RETRIES CTD_STAT.RETRIES LED_STAT.RETRIES
def State.setRetries (s : State) (t n : Nat) : State :=
  s.putByClass t HSW_STAT.RETRIES HBR_STAT.RETRIES VLV_STAT.RETRIES VHS_STAT.RETRIES CTD_STAT.RETRIES LED_STAT.RETRIES n

/-- State codes of TRIPPED and DISABLED in each class. -/
def trippedCode (t : Nat) : Nat := match slotClass t with | 0 => 4 | 1 => 4 | 2 => 5 | 3 => 3 | 4 => 4 | _ => 3
def disabledCode (t : Nat) : Nat := match slotClass t with | 0 => 7 | 1 => 5 | 2 => 7 | 3 => 5 | 4 => 5 | _ => 4

/-- Fault source block and unit of an output (R203, R233, R243, R295). -/
def slotBlock (t : Nat) : Nat := match slotClass t with | 0 => 2 | 1 => 3 | 5 => 5 | _ => 4
def slotUnit (t : Nat) : Nat := match slotClass t with | 0 => t | 1 => t - 48 | 5 => t - 77 | _ => coilUnit t

/-- R202, R254: the output is on its way to DISABLED: a coil in DECAY, a bank switch that opens. -/
def State.disabling (s : State) (t : Nat) : Bool :=
  match slotClass t with
  | 2 | 4 => (s.coilAt t).toDis
  | 3 => s.bank.toDis.contains (t - 72)
  | _ => false

/-- The stage turns off and the output enters state `st`, whatever its command; a queued activation is gone. -/
def State.stageOff (s : State) (t st : Nat) : State :=
  match slotClass t with
  | 0 => s.hswOff t st
  | 1 => s.hbrOff (t - 48) st
  | 2 => ((s.setCoil t { s.coilAt t with toTrip := false, toDis := false }).flag VLV_STAT.QUEUED false (t - 60)).setVlv (t - 60) st
  | 3 =>
    let s := { s with bank := { s.bank with toDis := s.bank.toDis.filter (· != t - 72) } }
    ((s.put VHS_STAT.STATE st (t - 72)).bankDrop (t - 72)).bankShow (t - 72)
  | 4 => (s.setCoil t { s.coilAt t with hOpen := true, toTrip := false, toDis := false }).put CTD_STAT.STATE st (t - 75)
  | _ => s.ledStop (t - 77) st

/-- Out of protection or DISABLED the output is at rest (state 0, OFF or IDLE; ARMED for a twinned channel of a deputy, R531)
and follows its command again. A valve or
contactor that recovers by AUTO takes a standing command at once (R167); otherwise it waits for the command's next rise. -/
def State.restart (s : State) (t : Nat) (auto : Bool) : State :=
  match slotClass t with
  | 0 => if s.twinned t && s.twinRest then s.hswArm t else (s.hswOff t 0).hswFollow t
  | 1 => (s.hbrIdle (t - 48)).hbrFollow (t - 48)
  | 2 =>
    let s := s.setVlv (t - 60) 0
    if auto && (s.cmd t).1 then s.valveRise (t - 60) else s
  | 3 => (s.put VHS_STAT.STATE 0 (t - 72)).bankShow (t - 72)
  | 4 =>
    let s := s.put CTD_STAT.STATE 0 (t - 75)
    if auto then s.ctdFollow (t - 75) else s
  | _ =>
    let s := (s.setLs (t - 77) 0).ledRank (t - 77)
    if s.ls (t - 77) = 0 then (s.setLs (t - 77) (s.ledRest (t - 77))).ledSetting (t - 77) else s

/-! ## Buckets and locks (R186 to R191, R257) -/

def State.setMissing (s : State) (t : Nat) (m : Rat) : State := { s with buckets := Tbl.set s.buckets t ⟨m, s.tb⟩ }

/-- The lock bit of an output: HSW_LOCK0/1, VHSk_STAT.LOCK, CTDc_STAT.LOCK. -/
def State.lockBit (s : State) (t : Nat) : Bool :=
  match slotClass t with
  | 0 => if t < 32 then bitOf (s.fld HSW_LOCK0.LOCK) t else bitOf (s.fld HSW_LOCK1.LOCK) (t - 32)
  | 3 => s.bit VHS_STAT.LOCK (t - 72)
  | 4 => s.bit CTD_STAT.LOCK (t - 75)
  | _ => false

def State.setLock (s : State) (t : Nat) (b : Bool) : State :=
  match slotClass t with
  | 0 =>
    if t < 32 then s.put HSW_LOCK0.LOCK (ins (s.reg ⟨.HSW_LOCK0, 0, 0, 0⟩) t 1 (b2n b)).toNat
    else s.put HSW_LOCK1.LOCK (ins (s.reg ⟨.HSW_LOCK1, 0, 0, 0⟩) (t - 32) 1 (b2n b)).toNat
  | 3 => s.flag VHS_STAT.LOCK b (t - 72)
  | 4 => s.flag CTD_STAT.LOCK b (t - 75)
  | _ => s

/-- Automatic unlock is selected (ALOCK). -/
def State.alock (s : State) (t : Nat) : Bool :=
  match slotClass t with
  | 0 => s.bit HSW_CFG.ALOCK t
  | 3 => s.bit VHS_CFG.ALOCK (t - 72)
  | 4 => s.bit CTD_CFG.ALOCK (t - 75)
  | _ => false

/-- State code of LOCKED: a contactor has none, its LOCK bit refuses (R257). -/
def lockedCode (t : Nat) : Option Nat := match slotClass t with | 0 => some 5 | 3 => some 4 | _ => none

def State.trip? (s : State) (t : Nat) : TripSt := Tbl.get s.trips t default

def State.setTrip (s : State) (t : Nat) (x : TripSt) : State := { s with trips := Tbl.set s.trips t x }

/-- One output enters LOCKED; one that is DISABLED keeps that state (R202). -/
def State.lockOne (s : State) (t : Nat) : State :=
  let s := s.setLock t true
  if s.ost t = disabledCode t then s
  else match lockedCode t with | some st => s.stageOff t st | none => s

/-- R188, R197: a clamp lock of an output and its group. -/
def State.lock (s : State) (t mJ : Nat) : State :=
  let st := s.ost t
  let s := forEach (s.grp t) (fun n s => s.lockOne n) s
  s.hold (slotBlock t) (slotUnit t) 4 (coilDetail st mJ)

/-- R188, R190, R606: a clamp event ends: its energy, corrected by the coefficient's record, leaves
the bucket, LAST and COUNT show it, and the output locks if the bucket is below the
single-event maximum. -/
def State.clampEvent (s : State) (t mJ : Nat) : State :=
  let (size, top, _) := bucketOf t
  let mJ := (s.corrected (clampRecord t) 1 mJ).toNat
  let m := min (((size : Nat) : Rat)) (s.missing t + ((mJ : Nat) : Rat))
  let s := s.setMissing t m
  let s := match slotClass t with
    | 0 => ((s.put HSW_CLAMP.LAST (satTo mJ 10) t).wrap HSW_CLAMP.COUNT t).flag HSW_STAT.EXCESS
        (s.bit HSW_STAT.EXCESS t || decide (top < mJ)) t
    | 3 => (s.put VHS_CLAMP.LAST (satTo mJ 10) (t - 72)).wrap VHS_CLAMP.COUNT (t - 72)
    | 4 => (s.put CTD_CLAMP.LAST (satTo mJ 10) (t - 75)).wrap CTD_CLAMP.COUNT (t - 75)
    | _ => s
  if s.content t < ((top : Nat) : Rat) then s.lock t mJ else s

/-- R189, R197: an output and its group unlock once every bucket is full and every lock bit is 0: OFF, or TRIPPED where a
trip recovery is still incomplete. A DISABLED one keeps its state (R202). -/
def State.tryUnlock (s : State) (t : Nat) : State :=
  let g := s.grp t
  if g.all fun n => !s.lockBit n && decide (s.missing n = 0) then
    forEach g (fun n s =>
      let s := s.clearSrc (slotBlock n) (slotUnit n) 4
      if some (s.ost n) = lockedCode n then
        if (s.trip? n).on then s.stageOff n (trippedCode n) else s.restart n false
      else s) s
  else s

/-- R189: a write of 1 to an output's lock bit: it clears where the bucket is full. -/
def State.lockClear (s : State) (t : Nat) : State :=
  let s := forEach (s.grp t) (fun n s => if s.missing n = 0 then s.setLock n false else s) s
  s.tryUnlock t

/-- R188, R189, R197: a bucket is full: with ALOCK the lock bits of the group whose buckets are full clear. -/
def State.bucketFull (s : State) (t : Nat) : State :=
  let s := s.setMissing t 0
  let was := (s.grp t).any s.lockBit
  let s := if s.alock t then forEach (s.grp t) (fun n s => if s.missing n = 0 then s.setLock n false else s) s else s
  if was then s.tryUnlock t else s

/-! ## Trips (R164, R167 to R170, R197, R202) -/

/-- The output can trip: it is neither tripped already nor DISABLED. -/
def State.canTrip (s : State) (t : Nat) : Bool := !(s.trip? t).on && s.ost t != disabledCode t

/-- The trip record of an output, which notes whether RETRIES had reached NRETRY (R168). -/
def State.tripMark (s : State) (kind : Nat) (cond : Bool) (t : Nat) : State :=
  let x := s.trip? t
  s.setTrip t ⟨true, kind, cond, false, decide (s.nretry t ≤ s.retries t), x.on && (x.hot || (x.kind = 2 && !x.cond))⟩

/-- One output enters TRIPPED with its trip record; LOCKED is kept, the trip standing behind it, and an output on its way to DISABLED
is there at once (R202). -/
def State.tripOne (s : State) (kind : Nat) (cond : Bool) (t : Nat) : State :=
  let s := s.tripMark kind cond t
  if some (s.ost t) = lockedCode t || s.ost t = disabledCode t then s
  else s.stageOff t (if s.disabling t then disabledCode t else trippedCode t)

/-- A trip with its report: every member of a parallel group enters TRIPPED, the detecting one reports (R197). `cond` says
that the trip condition clears as the stage turns off. The first service event of a bridge follows (R231). -/
def State.trip (s : State) (t kind detail : Nat) (cond : Bool) : State :=
  let s := forEach (s.grp t) (fun n s => if n = t then s.tripOne kind cond n else s.tripOne kind true n) s
  let s := s.raiseCond (slotBlock t) (slotUnit t) kind detail
  if slotClass t = 1 then s.hbrEvent (t - 48) 1 else s

/-- R167, R168: the trip waits for a CLR.TRIP write: under LATCH, or under AUTO once it behaves as LATCH. -/
def State.latched (s : State) (t : Nat) : Bool := s.recov t = 2 || (s.recov t = 1 && (s.trip? t).latch)

/-- R167, R197: the conditions of recovery hold for an output and its whole group; `clr` says that a CLR.TRIP write has arrived. A coil
that still decays towards TRIPPED is not there yet (R263). -/
def State.recoverable (s : State) (t : Nat) (clr : Bool) : Bool :=
  (s.grp t).all fun n =>
    (s.trip? n).cond && !(s.trip? n).hot && !(s.coilAt n).toTrip && (s.trip? n).retry && (s.recov n != 0 || !(s.cmd n).1) && (clr || !s.latched n)

/-- One output leaves TRIPPED: it counts the recovery, its trip sources clear (R635), and it rests or, where it is LOCKED or
DISABLED, keeps that state. -/
def State.untrip (s : State) (t : Nat) : State :=
  let x := s.trip? t
  let s := (s.setTrip t { x with on := false }).setRetries t (satInc (s.retries t) 4)
  let kinds := if slotBlock t = 4 then [0, 2, 3] else [x.kind]
  let s := forEach kinds (fun k s => s.clearSrc (slotBlock t) (slotUnit t) k) s
  if s.ost t = trippedCode t then s.restart t (s.recov t = 1) else s

/-- R167, R202: an output in TRIPPED (or DISABLED with its trip kept) recovers, with its group, if it may. -/
def State.tryRecover (s : State) (t : Nat) (clr : Bool) : State :=
  if (s.trip? t).on && s.recoverable t clr then forEach (s.grp t) (fun n s => s.untrip n) s else s

/-- R168, R169: a CLR.TRIP write. It releases a latched trip whose other conditions hold and resets RETRIES; outside TRIPPED
it resets RETRIES; otherwise it is ignored. -/
def State.clrTrip (s : State) (t : Nat) : State :=
  let g := s.grp t
  let zero := fun (s : State) => forEach g (fun n s => s.setRetries n 0) s
  if (s.trip? t).on && some (s.ost t) ≠ lockedCode t && !(s.coilAt t).toTrip then
    if g.any s.latched && s.recoverable t true then zero (s.tryRecover t true) else s
  else zero s

/-- R202: EN at a mode boundary, the new words being set. Turning off goes through the class's own turn-off; turning on
leads to OFF, or to TRIPPED, with a bridge's service event (R231), or LOCKED as the trip or lock stands. -/
def State.enableSlot (s : State) (t : Nat) : State :=
  if s.ost t ≠ disabledCode t then
    match slotClass t with
    | 2 | 4 => s.setCoil t { s.coilAt t with toDis := false }
    | 3 => { s with bank := { s.bank with toDis := s.bank.toDis.filter (· != t - 72) } }
    | _ => s
  else
    let s := s.tryRecover t false
    if (s.grp t).any s.lockBit && (lockedCode t).isSome then s.stageOff t ((lockedCode t).getD 0)
    else if (s.trip? t).on then
      let s := s.stageOff t (trippedCode t)
      if slotClass t = 1 then s.hbrEvent (t - 48) 1 else s
    else s.restart t true

/-- R202: EN = 0 at a mode boundary: the output turns off as its class does, coils through DECAY (R248) and bank switches
through their emergency off (R254), and is then DISABLED. -/
def State.disableSlot (s : State) (t : Nat) : State :=
  let st := s.ost t
  if st = disabledCode t then s
  else match slotClass t with
    | 2 =>
      if st = 2 || st = 3 || st = 4 then
        let s := if st = 4 then s else (s.peakAny t).decay t
        (s.setCoil t { s.coilAt t with toDis := true }).flag VLV_STAT.QUEUED false (t - 60)
      else s.stageOff t 7
    | 3 =>
      if st = 3 || st = 4 then s.put VHS_STAT.STATE 5 (t - 72)
      else
        let s := if st = 2 then s
          else (forEach (members (t - 72)) (fun v s => s.peakAny (60 + v)) s).emergencyOff (t - 72)
        { s with bank := { s.bank with toDis := (t - 72) :: s.bank.toDis } }
    | 4 =>
      if st = 1 || st = 2 || st = 3 then
        let s := if st = 3 then s else (s.peakAny t).decay t
        s.setCoil t { s.coilAt t with toDis := true }
      else s.stageOff t 5
    | _ => s.stageOff t (disabledCode t)

/-! ## LED channels follow their commands -/

/-- R284, R167, R202: an LED channel sees its command and its IN line: on-periods begin and end, HELD is entered and left, and an OFF
command may complete an EDGE recovery. -/
def State.ledIn (s : State) (i : Nat) : State :=
  let on := s.bit LED_STAT.CMD i
  let was := s.bit LED_STAT.IN i
  let s := if on && !(s.cmd (77 + i)).1 && (s.ls i = 1 || s.ls i = 2 || s.ls i = 5) then s.ledFall i else s
  let s := s.ledRank i
  let s := if s.bit LED_STAT.IN i && !was && !s.ledRanked i then s.ledRise i else s
  if (s.cmd (77 + i)).1 then s else s.tryRecover (77 + i) false

/-- Every LED channel follows its command: called wherever its line, forces or hold latches change. -/
def State.ledSync (s : State) : State := forEach ((List.range 16).filter (ledFitted s.variant)) (fun i s => s.ledIn i) s

/-! ## The commands of every class -/

/-- R270, R257: CTDc_H has opened with the coil current `iMa`: at 50 mA or more FORCED is set and the clamp energy charged. -/
def State.ctdForced (s : State) (t iMa mJ : Nat) : State :=
  if 50 ≤ iMa then (s.flag CTD_STAT.FORCED true (t - 75)).clampEvent t mJ else s

/-- A trip of a contactor opens CTDc_H where it is still closed (R268, R270). -/
def State.ctdClosed (s : State) (t : Nat) : Bool :=
  slotClass t = 4 && (s.ctd (t - 75) == 1 || s.ctd (t - 75) == 2 || (s.ctd (t - 75) == 3 && !(s.coilAt t).hOpen))

/-- A coil that decays after a thermal trip can still take a junction trip (R267). -/
def State.decaysHot (s : State) (t : Nat) : Bool := (s.coilAt t).toTrip

/-- JUNCTION_TRIP (R183, R219, R267, R276, R286 ff.): TJ (half degrees) has reached the absolute trip point: the output trips
with kind 3. A bank switch trips by BANK_SWITCH_TRIP. -/
def execJunctionTrip (slot : Nat) (met : HotOutput) (s : State) : Out :=
  .next <| s.ship <|
    let tj := met.tj
    let iMa := s.sensedMa slot met.surge.iMa
    if !slotFitted s.variant slot || slotClass slot = 3 then s
    else
      let s := match slotClass slot with
        | 0 => s.sput HSW_MEAS2.TJ tj slot
        | 1 => s.sput HBR_MEAS.TJ tj (slot - 48)
        | 2 => s.sput VLV_TEMP.TJ tj (slot - 60)
        | 4 => s.sput CTD_TEMP.TJ tj (slot - 75)
        | _ => s.sput LED_MEAS.TJ tj (slot - 77)
      if !(s.canTrip slot || s.decaysHot slot) then s
      else
        let st := s.ost slot
        let opens := s.ctdClosed slot
        let s := if slotBlock slot = 4 then s.peakSeen slot met.reached else s
        let s := s.putByClass slot HSW_STAT.THERM HBR_STAT.THERM VLV_STAT.THERM VHS_STAT.THERM CTD_STAT.THERM LED_STAT.THERM 1
        let s := s.trip slot 3 (coilDetail st (tjByte tj)) false
        if opens then s.ctdForced slot iMa met.surge.mJ else s

/-- CLAMP_EVENT_END (R188): a clamp event of a channel, bank switch or contactor high side ends with its energy. -/
def execClampEventEnd (slot mJ : Nat) (s : State) : Out :=
  .next <| s.ship <|
    if slotFitted s.variant slot && (slotClass slot = 0 || slotClass slot = 3 || slotClass slot = 4) then s.clampEvent slot mJ
    else s

/-- BUCKET_FULL (R189): a clamp bucket has refilled. -/
def execBucketFull (slot : Nat) (s : State) : Out :=
  .next <| s.ship <|
    if slotFitted s.variant slot && (slotClass slot = 0 || slotClass slot = 3 || slotClass slot = 4) then s.bucketFull slot
    else s

/-- TRETRY_EXPIRY (R167): tRETRY has elapsed since the trip, for the whole of a group. -/
def execTretryExpiry (slot : Nat) (s : State) : Out :=
  .next <| s.ship <|
    if slotFitted s.variant slot && (s.trip? slot).on then
      (forEach (s.grp slot) (fun n s => s.setTrip n { s.trip? n with retry := true }) s).tryRecover slot false
    else s

/-- TRIP_CONDITION_CLEAR (R167, R183, R184, R219, R267): the condition of a junction trip has cleared; those of the wire and
coil models are judged by the models themselves (R179, R263). -/
def execTripConditionClear (slot : Nat) (s : State) : Out :=
  .next <| s.ship <|
    if slotFitted s.variant slot && (s.trip? slot).on && (s.trip? slot).kind = 3 then
      (s.setTrip slot { s.trip? slot with cond := true }).tryRecover slot false
    else s

/-- RETRY_COUNTER_RESET (R169): an output has conducted for 1 s without a trip. -/
def execRetryCounterReset (slot : Nat) (s : State) : Out :=
  .next <| s.ship <|
    let up := match slotClass slot with
      | 0 => s.ost slot == 2 || s.ost slot == 3
      | 1 => s.ost slot == 1 || s.ost slot == 2
      | 2 => s.ost slot == 2 || s.ost slot == 3
      | 3 => s.ost slot == 1
      | 4 => s.ost slot == 1 || s.ost slot == 2
      | _ => s.ledOn (slot - 77)
    if slotFitted s.variant slot && up then s.setRetries slot 0 else s

end Sys2Proof.Machine
end

