-- ==== Sys2Proof/Machine/ModeCore.lean ====
section
/-! DEFINITION. The mode machine's shared operations (spec/02): results of transitions, entry into Limp, cancellation, wakes. -/

namespace Sys2Proof.Machine

/-- R641: a transition that no request causes: ACCEPTED with its target and cause; a CANCELLED result stays readable. -/
def State.autoRes (s : State) (target src : Nat) : State :=
  if s.fld SYS_MODERES.RES = 7 then s
  else ((s.put SYS_MODERES.RES 1).put SYS_MODERES.REQMODE target).put SYS_MODERES.REQSRC src

/-- A transition is accepted: its boundary is to come. -/
def State.setPend (s : State) (target src : Nat) : State :=
  { s with sys := { s.sys with pend := some ⟨target, src⟩ } }.put SYS_MODE.TARGET target |>.flag SYS_MODE.BUSY true

/-- R58: SYS_MODERES of a transition that is cancelled. -/
def State.cancelRes (s : State) (target src : Nat) : State :=
  ((s.put SYS_MODERES.RES 7).put SYS_MODERES.REQMODE target).put SYS_MODERES.REQSRC src

/-- TRANSITION_CANCELLED (R58): a pending transition, or a wake on its way to its target, is cancelled; no part of its Annex is
applied. -/
def State.cancelPend (s : State) : State :=
  match s.sys.pend with
  | none =>
    match s.sys.waking with
    | some w => if w.target = 0 then s else s.cancelRes w.target 6
    | none => s
  | some p =>
    let s := s.cancelRes p.target p.src
    { s with sys := { s.sys with pend := none } }.put SYS_MODE.TARGET s.mode |>.flag SYS_MODE.BUSY false

/-- R59: in modes 3 to 8 a reaction of the Conservator enters Limp: a pending transition is cancelled, and the Limp boundary
follows. -/
def State.enterLimp (s : State) : State :=
  if s.sys.phase = .run && 3 ≤ s.mode && s.mode ≤ 8 then
    match s.sys.pend with
    | some ⟨9, 5⟩ => s
    | _ => (s.cancelPend.autoRes 9 5).setPend 9 5
  else s

/-- R58: a HANDOVER reaction cancels a pending transition; an entry into Limp that an earlier reaction caused stands. -/
def State.cancelForHandover (s : State) : State :=
  match s.sys.pend with
  | some ⟨9, 5⟩ => s
  | _ => s.cancelPend

/-- R540: a mode taken from the principal. -/
def State.twinMode (s : State) (target : Nat) : State :=
  if s.sys.phase = .run && s.sys.pend.isNone then (s.autoRes target 7).setPend target 7 else s

/-- R59, R64, R82: entry into Sealed, from Start: a transition in progress is gone, the hold interval ends (R497), and every
output goes to its limp state. TWOK_O is low (R527). -/
def State.enterSealed (s : State) : State :=
  let old := s.mode
  let s := { s with sys := { s.sys with phase := .sealed, pend := none, waking := none, pollOpen := false } }
  let s := (((s.put SYS_MODE.MODE 11).put SYS_MODE.PREV old).put SYS_MODE.TARGET 11).flag SYS_MODE.BUSY false
  ((s.endHold.followAll fun _ => .limp).dropTwok).ledSync

/-! ## Wakes (R69 to R72) -/

/-- The module is in Parked or Watch. -/
def State.asleep (s : State) : Bool :=
  (s.mode == 1 || s.mode == 2) && (s.sys.phase == .parkDown || s.sys.phase == .parked || s.sys.phase == .run)

/-- The module is in Parked or Watch, or waking from there: a tamper leads to Start (R59). -/
def State.parkedOrWaking (s : State) : Bool :=
  s.asleep || ((s.mode == 1 || s.mode == 2) && (s.sys.phase == .w2 || s.sys.phase == .w3 || s.sys.phase == .w4))

/-- The WAKE entries of the Annex in force. -/
def State.wakeRecs (s : State) : List WakeRec := (s.cat.cat.annexes.getD s.mode default).wake

/-- R97: the WAKE entry that arms a source. -/
def State.armed (s : State) (src index : Nat) : Option WakeRec :=
  s.wakeRecs.find? fun r => r.src == src && r.index == index

/-- R74, R370, R371: a running context is suspended as a poll window ends: its activation ends, and it waits for its next event. -/
def State.suspendHeld (s : State) (c : Nat) : State :=
  let s := s.setRcd c { s.rcd c with wait := 1 }
  ((s.setCtx c { s.ctx c with overrun := false }).flag CTXC_STAT.DEMOTED false c).syncPrio c

/-- R74: a poll window ends: its contexts are held, the fabric and D0 power down. A context still running then resumes at its next
event where `wait` says so. -/
def State.closeWindow (s : State) (wait : Bool) : State :=
  let s := forEach s.known (fun c s =>
    let busy := s.cst c == stRun
    let s := s.holdCtx c
    if wait && busy && s.cst c == stHeld then s.suspendHeld c else s) s
  let s := (s.lchFabric false).fabricStop
  let s := s.setCore 0 { s.core 0 with shadow := none }
  let s := if s.coreSt 0 = 3 then s else s.put DOC_STAT.STATE 0 0
  { s.put MEM_STAT.AWAKE 0 with sys := { (s.put MEM_STAT.AWAKE 0).sys with pollOpen := false } }.ctxCounts

/-- The module begins to wake (R70): logic supply is requested. Target 0 is the Start that a tamper asks for. -/
def State.beginWake (s : State) (w : Wake) : State :=
  let s := if s.sys.pollOpen then s.closeWindow false else s
  let s := { s with sys := { s.sys with phase := .w2, waking := some w, startAt := s.tb } }
  if w.target = 0 then s
  else (s.autoRes w.target 6).put SYS_MODE.TARGET w.target |>.flag SYS_MODE.BUSY true

/-- R69: a wake source shows in SYS_WAKESRC; the first one gives its number. -/
def State.noteSource (s : State) (bit index : Nat) (first : Bool) : State :=
  let s := s.setReg ⟨.SYS_WAKESRC, 0, 0, 0⟩ (s.reg ⟨.SYS_WAKESRC, 0, 0, 0⟩ ||| (1#32 <<< bit))
  if first then s.put SYS_WAKESRC.INDEX index else s

/-- R69, R72: a wake event in Parked or Watch: it wakes the module, or is latched until power-down has ended. A module that is about
to leave a poll window for an accepted mode is awake already (DEDUCED). -/
def State.wakeEvent (s : State) (bit index target : Nat) : State :=
  match s.sys.phase with
  | .parkDown =>
    let first := s.sys.latched.isEmpty
    let s := (s.noteSource bit index first).flag SYS_WAKESRC.LATCHED true
    { s with sys := { s.sys with latched := s.sys.latched ++ [⟨bit, index, target⟩] } }
  | .parked =>
    let s := s.noteSource bit index true
    if s.sys.pend.isSome && target ≠ 0 then s else s.cancelPend.beginWake ⟨bit, index, target⟩
  | .w2 | .w3 | .w4 =>
    let s := s.noteSource bit index false
    if target = 0 then { s.cancelPend with sys := { s.cancelPend.sys with waking := some ⟨bit, index, 0⟩ } } else s
  | _ => s

/-- R69: an armed source passes its filter in Parked or Watch. -/
def State.wakeSource (s : State) (src index bit : Nat) : State :=
  if s.asleep then
    match s.armed src index with
    | some r => s.wakeEvent bit index r.target
    | none => s
  else s

end Sys2Proof.Machine
end

