-- ==== Sys2Proof/Machine/KeyCore.lean ====
section
/-! DEFINITION. The security island's shared operations (spec/18): identity, derivation, stored slots, tamper, sealing, aborts. -/

namespace Sys2Proof.Machine

/-! ## Identity and derivation (R561 to R563) -/

/-- The 64 bytes of the recovered secret. -/
def pufBytes : List Byte := beBytes Config.pufSecret.toNat 64

/-- R561: the device root key. -/
def deviceRoot : List Byte := sha256 (1 :: pufBytes)

/-- R561: the UID. -/
def deviceUid : List Byte := (sha256 (2 :: pufBytes)).take 16

/-- R562: a label: its bytes, then zeros up to 16. -/
def labelOf (bs : List Byte) : List Byte := (bs ++ List.replicate 16 0).take 16

/-- R562: the key derived from a parent key and a 16-byte label. -/
def kdf (kp label : List Byte) : List Byte :=
  let m := fun (i : Byte) => i :: (label ++ 0 :: (deviceUid ++ [1, 0]))
  aesCmac kp (m 1) ++ aesCmac kp (m 2)

/-- R563: the labels "imgv", "svc", "upd" ‖ s, "kw" ‖ s, "twin", and R604: "mgmt". -/
def lblImgv : List Byte := labelOf [0x69, 0x6D, 0x67, 0x76]
def lblSvc : List Byte := labelOf [0x73, 0x76, 0x63]
def lblUpd (s : Nat) : List Byte := labelOf [0x75, 0x70, 0x64, BitVec.ofNat 8 s]
def lblKw (s : Nat) : List Byte := labelOf [0x6B, 0x77, BitVec.ofNat 8 s]
def lblTwin : List Byte := labelOf [0x74, 0x77, 0x69, 0x6E]
def lblMgmt : List Byte := labelOf [0x6D, 0x67, 0x6D, 0x74]

/-- R563, R571: the tag that the image-verification key makes of an image key. -/
def imgTag (key : List Byte) : List Byte := aesCmac (kdf deviceRoot lblImgv) key

/-! ## Stored slots (R565 to R568) -/

/-- R567: which of two copies is active, given validity and counter of each. -/
def pickCopy (va vb : Bool) (ca cb : Nat) : Option Bool :=
  if va && vb then some (decide (ca < cb)) else if va then some false else if vb then some true else none

/-- A copy of a slot. -/
def State.slotCopy (s : State) (n : Nat) (b : Bool) : KeyCopy := Tbl.get s.key.slots (n, b) default

/-- R567: the active copy of a slot. -/
def State.activeCopy (s : State) (n : Nat) : Option Bool :=
  let a := s.slotCopy n false
  let b := s.slotCopy n true
  pickCopy a.valid b.valid a.counter b.counter

/-- The key and policy of a slot, where it has an active copy. -/
def State.slotKey (s : State) (n : Nat) : Option KeyCopy := (s.activeCopy n).map fun c => s.slotCopy n c

/-- A copy of an image key (0 owner, 1 pair). -/
def State.imgCopy (s : State) (i : Nat) (b : Bool) : ImgCopy := Tbl.get s.key.img (i, b) default

/-- R571: the copy of an image key in force. -/
def State.imgActive (s : State) (i : Nat) : Option Bool :=
  let a := s.imgCopy i false
  let b := s.imgCopy i true
  pickCopy a.valid b.valid a.counter b.counter

/-- R571: an image key whose tag this module's image-verification key made. -/
def State.imageKey (s : State) (i : Nat) : Option (List Byte) :=
  match s.imgActive i with
  | some c => let k := s.imgCopy i c; if k.tag = imgTag k.key then some k.key else none
  | none => none

/-- The key store is sealed (R586). -/
def State.sealed (s : State) : Bool := s.bit KEY_STAT.SEALED

/-- R542, R586: the pair key, unless the key store is sealed or the slot empty. -/
def State.pairKey (s : State) : Option (List Byte) :=
  if s.sealed then none else (s.slotKey (s.fld TWN_CFG.KSLOT)).map fun k => kdf k.key lblTwin

/-- KEY_SLOTs, KEY_SCNTs and OWNED show a slot. -/
def State.keyShow (s : State) (n : Nat) : State :=
  let s := match s.activeCopy n with
    | some c =>
      let k := s.slotCopy n c
      ((((s.put KEY_SLOT.FLAGS k.flags n).flag KEY_SLOT.WILD k.wild n).flag KEY_SLOT.FULL true n).flag KEY_SLOT.COPY c n).put
        KEY_SCNT.CNT k.counter n
    | none => (s.setReg ⟨.KEY_SLOT, n, 0, 0⟩ 0).setReg ⟨.KEY_SCNT, n, 0, 0⟩ 0
  if n = 0 then s.flag KEY_STAT.OWNED (s.activeCopy 0).isSome else s

/-- KEY_RES: the result of a command. -/
def State.keyRes (s : State) (result cmd slot : Nat) : State :=
  (((s.put KEY_RES.RESULT result).put KEY_RES.CMD cmd).put KEY_RES.SLOT slot).flag KEY_RES.CONFV false

/-- KEY_PLAIN0 to 15 are zeroed. -/
def State.zeroPlain (s : State) : State := forEach (List.range 16) (fun w s => s.setReg ⟨.KEY_PLAIN, w, 0, 0⟩ 0) s

/-- The bytes of `n` words of a register array. -/
def State.regBytes (s : State) (r : Reg) (n : Nat) : List Byte :=
  (List.range n).flatMap fun w => leBytes (s.reg ⟨r, w, 0, 0⟩).toNat 4

/-- Bytes placed in the words of a register array. -/
def State.setRegBytes (s : State) (r : Reg) (bs : List Byte) : State :=
  (leWords bs).zipIdx.foldl (fun s p => s.setReg ⟨r, p.2, 0, 0⟩ p.1) s

/-! ## Operation descriptors (R564, R569, R581) -/

/-- A slice of bytes. -/
def slice (bs : List Byte) (at_ n : Nat) : List Byte := (bs.drop at_).take n

/-- All bytes are zero. -/
def allZero (bs : List Byte) : Bool := bs.all (· == 0)

/-- R343: every byte of a range lies in the data banks or the host window. -/
def State.rangeOk (s : State) (a n : Nat) : Bool := n = 0 || (s.memPermitted a && s.memPermitted (a + n - 1) &&
  (decide (a < 0x300000) == decide (a + n - 1 < 0x300000)))

/-- A service descriptor's fields. -/
structure Desc where
  op : Nat
  slot : Nat
  depth : Nat
  klen : Nat
  src : Nat
  len : Nat
  dst : Nat
  aux : Nat
  path : List (List Byte)
  rsv : Bool
deriving DecidableEq, Repr, Inhabited

/-- The fields of 96 descriptor bytes; `rsv` says that every reserved field is zero. -/
def descOf (b : List Byte) : Desc :=
  let depth := leNat (slice b 2 1)
  { op := leNat (slice b 0 1), slot := leNat (slice b 1 1), depth := depth, klen := leNat (slice b 3 1)
    src := leNat (slice b 8 4), len := leNat (slice b 12 4), dst := leNat (slice b 16 4), aux := leNat (slice b 20 4)
    path := (List.range 4).map fun i => slice b (32 + 16 * i) 16
    rsv := allZero (slice b 24 8) && allZero (b.drop (32 + 16 * depth)) }

/-- The operation uses a stored slot. -/
def Desc.keyed (d : Desc) : Bool := d.op ≤ 6

/-- R581, RESERVED: a reserved encoding or a non-zero reserved field. -/
def Desc.reservedEnc (d : Desc) : Bool :=
  d.op = 0 || 9 ≤ d.op || (d.keyed && (d.slot = 0 || 32 ≤ d.slot)) || 5 ≤ d.depth || 2 ≤ d.klen || !d.rsv

/-- R581, ADDRERR: the length fits the table of operations. -/
def Desc.lenOk (d : Desc) : Bool :=
  match d.op with
  | 5 => d.len % 8 = 0 && 16 ≤ d.len && d.len ≤ 64
  | 6 => d.len % 8 = 0 && 24 ≤ d.len && d.len ≤ 72
  | 8 => d.len = 32
  | _ => d.len ≤ 65536

/-- The number of output bytes, and of bytes at AUX. -/
def Desc.outLen (d : Desc) : Nat :=
  match d.op with | 1 => 16 | 3 => d.len | 4 => d.len | 5 => d.len + 8 | 6 => d.len - 8 | 7 => 32 | _ => 0
def Desc.auxLen (d : Desc) : Nat := match d.op with | 2 => 16 | 3 => 16 | 4 => 16 | 8 => 128 | _ => 0

/-- R581, ADDRERR: addresses and length. -/
def State.descRanges (s : State) (d : Desc) : Bool :=
  d.lenOk && s.rangeOk d.src d.len && s.rangeOk d.dst d.outLen && s.rangeOk d.aux d.auxLen

/-- R569: the usage flag of an operation. -/
def Desc.flagBit (d : Desc) : Nat := match d.op with | 1 => 0 | 2 => 1 | 3 => 2 | 4 => 3 | _ => 5

/-- R564: the key at the end of a path below a slot. -/
def derivePath (key : List Byte) (path : List (List Byte)) : List Byte := path.foldl kdf key

/-- R564: the derived keys of a path enter the cache, the longest last used; 64 entries are kept. -/
def cacheUse (c : List CacheKey) (slot : Nat) (copy : Bool) (path : List (List Byte)) : List CacheKey :=
  let es := (List.range path.length).map fun i => (⟨slot, copy, path.take (i + 1)⟩ : CacheKey)
  (es.reverse ++ c.filter fun e => !es.contains e).take 64

/-- The result of an operation with its key: result code, and output bytes. -/
def State.opResult (s : State) (d : Desc) (key : List Byte) : Nat × List Byte :=
  let k := if d.klen = 1 then key.take 16 else key
  let src := s.bytes d.src d.len
  let aux := s.bytes d.aux d.auxLen
  match d.op with
  | 1 => (1, aesCmac k src)
  | 2 => (if aesCmac k src = aux then 1 else 2, [])
  | 3 | 4 => (1, aesCtr k aux src)
  | 5 => (1, keyWrap k src)
  | 6 => match keyUnwrap k src with
    | some x => (1, x)
    | none => (2, [])
  | 7 => (1, sha256 src)
  | _ => (if ecdsaVerify (aux.drop 64) src (aux.take 32) (slice aux 32 32) then 1 else 2, [])

/-- R581: the running descriptor is carried out: its result and the state with its output. -/
def State.runDesc (s : State) (d : Desc) : Nat × State :=
  if s.sealed then (7, s)
  else if d.reservedEnc then (8, s)
  else if !s.descRanges d then (5, s)
  else if !d.keyed then
    let r := s.opResult d []
    (r.1, s.setBytes d.dst r.2)
  else match s.activeCopy d.slot, s.slotKey d.slot with
    | some c, some k =>
      if !bitOf k.flags d.flagBit || (d.depth ≠ 0 && !bitOf k.flags 4) then (3, s)
      else
        let path := d.path.take d.depth
        let r := s.opResult d (derivePath k.key path)
        ({ s with key := { s.key with cache := cacheUse s.key.cache d.slot c path } }.setBytes d.dst r.2 |> fun s => (r.1, s))
    | _, _ => (4, s)

/-! ## The operation engine (R580, R581) -/

/-- KEY_OPSTAT.QLEN follows the queue. -/
def State.opLen (s : State) : State := s.put KEY_OPSTAT.QLEN s.key.queue.length

/-- R580: the engine starts the first descriptor: it reads its 96 bytes. -/
def State.startOp (s : State) : State :=
  match s.key.queue, s.key.running with
  | a :: _, none => { s with key := { s.key with running := some (s.bytes a 96) } }
  | _, _ => s

/-- R581: the running operation ends with STATUS written; a descriptor that lies outside the memory of R343 has none. -/
def State.endOp (s : State) (result : Nat) : State :=
  match s.key.queue, s.key.running with
  | a :: as, some _ =>
    let s := if s.rangeOk a 96 then s.setWord (a + 4) (BitVec.ofNat 32 (0x100 + result)) else s
    State.opLen { s with key := { s.key with queue := as, running := none } }
  | _, _ => s

/-- R581, ADDRERR: the result of the running descriptor at `a`, and the state with its output; one outside the memory of R343
changes nothing. -/
def State.runOp (s : State) (a : Nat) (b : List Byte) : Nat × State :=
  if s.sealed then (7, s) else if s.rangeOk a 96 then s.runDesc (descOf b) else (5, s)

/-- R585: the running descriptor is aborted: of the output that it had begun to write, a free number of bytes, each now zero; it
reports ABORTED. -/
def State.abortOp (s : State) (b : List Byte) : State :=
  let d := descOf b
  let s := if (s.runOp (s.key.queue.headD 0) b).1 = 1 then
      let (w, s) := s.takeFree
      s.setBytes d.dst (List.replicate (w.toNat % (d.outLen + 1)) 0)
    else s
  s.endOp 6

/-! ## Aborts, sealing, tamper (R582 to R589) -/

/-- R585: the command code and slot byte of a write in progress. -/
def KeyWork.code : KeyWork → Nat × Nat
  | .envelope n _ _ => (1, n)
  | .plain n _ _ => (2, n)
  | .image _ _ _ => (3, 0)

/-- R585: an apply that waits for a service operation (R579) is aborted. -/
def State.abortApply (s : State) : State :=
  ({ s with key := { s.key with applyWait := false } }.flag KEY_STAT.BUSY false).keyRes 6 1 (leNat ((s.regBytes .KEY_ENV 5).drop 16 |>.take 1))

/-- R585: the work in progress is aborted: flash programming stops with KEY_RES ABORTED, a running descriptor reports
ABORTED. The answer says whether there was any. -/
def State.abortWork (s : State) : Bool × State :=
  let (a, s) := match s.key.work with
    | some k => (true, (({ s with key := { s.key with work := none } }.flag KEY_STAT.BUSY false).keyRes 6 k.code.1 k.code.2).zeroPlain)
    | none => if s.key.applyWait then (true, s.abortApply) else (false, s)
  match s.key.running with
  | some b => (true, (s.abortOp b).startOp)
  | none => (a, s)

/-- The link is DOWN: its session and what was on its way are gone. -/
def State.linkOff (s : State) : State :=
  { s with twn := { s.twn with session := [], peerNonce := 0, sent := [], endSeq := none, unit := none, canPart := none
                               discards := 0, pRole := none } }.put TWN_STAT.LINK 0 |>.flag TWN_STAT.STALE true

/-- R545, R559: the link goes DOWN, with its report. -/
def State.linkDown (s : State) : State := if s.fld TWN_STAT.LINK = 0 then s else s.linkOff.raise 12 0 1 0

/-- R586: the key store seals: cause 1 SEAL policy, 2 TMAX. The cache clears, the debug port closes (R592), and the twin
link, its pair key gone, drops. -/
def State.sealStore (s : State) (cause : Nat) : State :=
  if s.sealed then s
  else
    let s := { s with key := { s.key with cache := [] } }
    let s := (s.flag KEY_STAT.SEALED true).flag KEY_STAT.DBGOPEN false
    let s := s.raise 13 0 6 (cause * 1024 + s.fld KEY_STAT.TCNT)
    if s.isPair then s.linkDown else s

/-- R582: the policy of a tamper source: SEAL. -/
def State.sealPolicy (s : State) (src : Nat) : Bool := src == 2 || bitOf (s.reg ⟨.KEY_TCFG, 0, 0, 0⟩).toNat (4 + src)

/-- Start has not left S4. -/
def State.beforeS5 (s : State) : Bool :=
  match s.sys.phase with
  | .s1 | .s2 | .s2fail | .s3 | .s4 => true
  | _ => false

/-- R583, R588, R589: a tamper event is logged, counted and raised. -/
def State.logTamper (s : State) (src : Nat) (policy aborted slotB : Bool) : State :=
  let i := s.fld KEY_TLOGCNT.CNT % 16
  let s := s.setReg ⟨.KEY_TLOG, i, 0, 0⟩ (BitVec.ofNat 32 (src + 8 * b2n policy + 16 * b2n aborted + 32 * s.mode +
    512 * (s.tb / 100000000 % 2 ^ 23)))
  let s := (s.count KEY_TLOGCNT.CNT).count KEY_STAT.TCNT
  s.raise 13 0 src (2048 * b2n policy + 1024 * b2n aborted + 512 * b2n slotB + s.fld KEY_STAT.TCNT)

/-- R583 to R588: a tamper event of source `src`; `slotB` for a signature failure of slot B. -/
def State.tamper (s : State) (src : Nat) (slotB : Bool) : State :=
  let policy := s.sealPolicy src
  let (aborted, s) := s.abortWork
  let s := s.logTamper src policy aborted slotB
  let full := decide (s.fld KEY_TCFG.TMAX ≤ s.fld KEY_STAT.TCNT)
  let cause := if policy then 1 else 2
  if s.parkedOrWaking then
    let s := if policy || full then { s with key := { s.key with sealDue := s.key.sealDue ++ [cause] } } else s
    (s.flag SYS_RSTCAUSE.TAMPER true).wakeEvent 4 0 0
  else
    let s := if policy || full then s.sealStore cause else s
    if policy && s.beforeS5 then s.enterSealed
    else if policy then s.cancelPend
    else s

end Sys2Proof.Machine
end

