-- ==== Sys2Proof/Machine/Image.lean ====
section
/-! DEFINITION. The configuration image as bytes (spec/03 R84 to R98): Header, TLV walk, and the records of each section. Every
failure is a byte offset in the image; R632 names the lowest one. -/

namespace Sys2Proof.Machine

/-- The bytes of a slot, by offset. -/
abbrev Rd := Nat → Byte

def rd16 (rd : Rd) (a : Nat) : Nat := leNat [rd a, rd (a + 1)]
def rd32 (rd : Rd) (a : Nat) : Nat := leNat [rd a, rd (a + 1), rd (a + 2), rd (a + 3)]
def rdBytes (rd : Rd) (a n : Nat) : List Byte := (List.range n).map fun i => rd (a + i)

/-- CAT_LOADx and CAT_LOADxOFF: a failure code, the TYPE of the section, the offset. -/
structure LoadErr where
  code : Nat
  type : Nat
  off : Nat
deriving DecidableEq, Repr, Inhabited

/-- A section: TYPE, INST, the offset of its TLV header, LEN. -/
structure Sec where
  typ : Nat
  inst : Nat
  off : Nat
  len : Nat
deriving DecidableEq, Repr, Inhabited

/-- A record: the section it stands in, RKIND, the offset of its header, RLEN. -/
structure Rec where
  sec : Sec
  kind : Nat
  off : Nat
  len : Nat
deriving DecidableEq, Repr, Inhabited

/-! ## Header and Identity -/

/-- IMGLEN. -/
def imgLen (rd : Rd) : Nat := rd32 rd 16

/-- R98: where the Signature section begins. -/
def sigOff (rd : Rd) : Nat := imgLen rd - 76

/-- R100, step 1. -/
def headerOk (rd : Rd) : Bool :=
  rd16 rd 0 = 1 && rd 2 = 0 && rd32 rd 4 = 48 && rdBytes rd 8 4 = [0x4E, 0x5A, 0x43, 0x54] && rd16 rd 12 = 1
    && imgLen rd % 4 = 0 && 160 ≤ imgLen rd && imgLen rd ≤ 4194304
    && rd16 rd 56 = 2 && rd 58 = 0 && 64 ≤ rd32 rd 60 && 64 + rd32 rd 60 ≤ sigOff rd

/-- R88: the MATRIX bits that may be set in the row of mode `f`. -/
def matrixMask (f : Nat) : Nat :=
  if f = 2 then 0xF8 else if 3 ≤ f && f ≤ 7 then 0x1FE - 2 ^ f else if f = 8 then 0x1E else 0

/-- Offsets whose check fails. -/
def failing (cs : List (Bool × Nat)) : List Nat := (cs.filter fun c => !c.1).map (·.2)

/-- R20, R88: reserved encodings and reserved fields of the TLV headers at 0 and 56, the Header, and the fixed part of Identity. -/
def headerBad (rd : Rd) : List Nat :=
  failing (([(rd 3 = 0, 3), (rd 14 = 0, 14), (rd 15 = 0, 15), (1 ≤ (rd 20).toNat && (rd 20).toNat ≤ 7, 20),
      ((rd 21).toNat ≤ 1, 21), (3 ≤ (rd 22).toNat && (rd 22).toNat ≤ 7, 22), (rd 23 = 0, 23), (rd16 rd 24 ≤ 6000, 24),
      (1 ≤ (rd 26).toNat && (rd 26).toNat ≤ 200, 26), (rd 27 = 0, 27), (rd32 rd 52 = 0, 52), (rd 59 = 0, 59),
      (rd 67 = 0, 67), ((rd 66).toNat ≤ 1, 66), (rd32 rd 76 = 0, 76),
      (rd 66 ≠ 0 || (rdBytes rd 96 16).all (· = 0), 96), ((rdBytes rd 112 16).all (· = 0), 112)] : List (Bool × Nat))
    ++ (List.range 12).map fun f => (rd16 rd (28 + 2 * f) &&& matrixMask f == rd16 rd (28 + 2 * f), 28 + 2 * f))

/-! ## The TLV walk (R84 to R86) -/

/-- R85: the TYPE codes between Identity and Signature. -/
def typeValid (t : Nat) : Bool := (0x10 ≤ t && t ≤ 0x16) || t = 0x20 || t = 0x21 || t = 0x30 || t = 0x31 || t = 0x40 || (0x50 ≤ t && t ≤ 0x5B)

/-- R86, R100 step 9: the sections from an offset to the Signature, each after the one before. The first argument bounds
their number. -/
def walk (rd : Rd) (endd : Nat) : Nat → Nat → Nat × Nat → LoadErr ⊕ List Sec
  | 0, off, _ => .inl ⟨9, rd16 rd off, off⟩
  | fuel + 1, off, prev =>
    if off = endd then .inr []
    else
      let t := rd16 rd off
      let n := (rd (off + 2)).toNat
      let len := rd32 rd (off + 4)
      if endd < off + 8 || !typeValid t || t < prev.1 || (t = prev.1 && n ≤ prev.2) then .inl ⟨9, t, off⟩
      else if len % 4 ≠ 0 || endd < off + 8 + len then .inl ⟨9, t, off + 4⟩
      else match walk rd endd fuel (off + 8 + len) (t, n) with
        | .inl e => .inl e
        | .inr ss => .inr (⟨t, n, off, len⟩ :: ss)

/-- R85, R101: the sections that an image must have: TYPE and INST. -/
def required (v : Variant) : List (Nat × Nat) :=
  [(0x10, 0), (0x11, 0), (0x20, 0)] ++ ((List.range (nCores v)).map fun d => (0x21, d)) ++ [(0x40, 0)]

/-- R101: a section that is missing. -/
def missingSec (v : Variant) (endd : Nat) (ss : List Sec) : Option LoadErr :=
  match (required v).find? fun p => !(ss.any fun x => x.typ == p.1 && (p.1 != 0x21 || x.inst == p.2)) with
  | none => none
  | some p => some ⟨9, p.1, match ss.find? fun x => decide (p.1 < x.typ) with
    | some x => x.off
    | none => endd⟩

/-- The sections of an image, Identity first, or the failure of step 9. -/
def sections (v : Variant) (rd : Rd) : LoadErr ⊕ List Sec :=
  match walk rd (sigOff rd) 300 (64 + rd32 rd 60) (2, 0) with
  | .inl e => .inl e
  | .inr ss => match missingSec v (sigOff rd) ss with
    | some e => .inl e
    | none => .inr (⟨2, 0, 56, rd32 rd 60⟩ :: ss)

/-- The TYPE of the section that holds an offset (R632): the Header before Identity, the Signature after the last section. -/
def typeAt (rd : Rd) (ss : List Sec) (off : Nat) : Nat :=
  if off < 56 then 1
  else if sigOff rd ≤ off then 0xFF
  else match ss.find? fun x => decide (x.off ≤ off) && decide (off < x.off + 8 + x.len) with
    | some x => x.typ
    | none => 0xFF

/-- R632: the failure of a step at the lowest of its failing bytes. -/
def lowest (rd : Rd) (ss : List Sec) (code : Nat) : List Nat → Option LoadErr
  | [] => none
  | o :: os => let m := os.foldl min o
    some ⟨code, typeAt rd ss m, m⟩

/-! ## Records (R91, R92) -/

/-- An Annex 1 to 9. -/
def isAnnex (t : Nat) : Bool := 0x51 ≤ t && t ≤ 0x59

/-- R92: the section may hold the kind. -/
def kindAllowed (t k : Nat) : Bool :=
  match k with
  | 1 => t = 2 || (0x10 ≤ t && t ≤ 0x16) || t = 0x20 || t = 0x30 || t = 0x31 || t = 0x40 || isAnnex t
  | 2 => t = 0x20
  | 3 => t = 0x21
  | 4 => isAnnex t
  | 5 => t = 0x11 || (0x53 ≤ t && t ≤ 0x58)
  | 6 => t = 0x51 || t = 0x52
  | 7 => t = 0x59
  | _ => false

/-- R85, R112: the register blocks that a section's records may target. -/
def blocksOf (t : Nat) : List Nat :=
  match t with
  | 2 => [17]
  | 0x10 => [3]
  | 0x11 => [4, 1]
  | 0x12 => [5]
  | 0x13 => [6]
  | 0x14 => [7]
  | 0x15 => [8]
  | 0x16 => [9]
  | 0x20 => [11, 10, 12]
  | 0x30 => [13, 14, 15]
  | 0x31 => [16, 20]
  | 0x40 => [18, 22]
  | _ => if isAnnex t then [3, 4, 1, 5, 6, 7, 8, 9, 11, 13, 14, 15, 16, 18] else []

/-- The records of a section's value, and the offsets at which R91 and R92 fail. -/
def recs (rd : Rd) (x : Sec) (endd : Nat) : Nat → Nat → List Rec × List Nat
  | 0, _ => ([], [])
  | fuel + 1, off =>
    if endd ≤ off then ([], [])
    else
      let k := (rd off).toNat
      let len := rd16 rd (off + 2)
      let bad := failing [(kindAllowed x.typ k, off), (rd (off + 1) = 0, off + 1)]
      if len % 4 ≠ 0 || endd < off + 4 + len then ([], bad ++ [off + 2])
      else
        let r := recs rd x endd fuel (off + 4 + len)
        (if kindAllowed x.typ k then ⟨x, k, off, len⟩ :: r.1 else r.1, bad ++ r.2)

/-- Where the records of a section begin. -/
def recStart (x : Sec) : Nat := if x.typ = 2 then x.off + 72 else x.off + 8

/-- R100, step 10: Annexes 0, 10 and 11 are not walked. -/
def walked (x : Sec) : Bool := x.typ != 0x50 && x.typ != 0x5A && x.typ != 0x5B

/-- The records of a section. -/
def recsOf (rd : Rd) (x : Sec) : List Rec × List Nat := recs rd x (x.off + 8 + x.len) x.len (recStart x)

/-- The mode of an Annex's section; 0 for a base section. -/
def annexOf (t : Nat) : Nat := if isAnnex t then t - 0x50 else 0

/-! ## What the records hold -/

/-- A register word of a REGIMG record: where it stands, the mode of its Annex (0: base), the register, the word. -/
structure ImgWord where
  off : Nat
  mode : Nat
  typ : Nat
  ref : RegRef
  w : Word
deriving DecidableEq, Repr, Inhabited

/-- A CODE record: core, code-bank offset, length in bytes, where its body begins. -/
structure CodeRec where
  core : Nat
  offset : Nat
  len : Nat
  at_ : Nat
deriving DecidableEq, Repr, Inhabited

/-- What an image's records hold, each with the offset of its entry and the mode of its Annex. -/
structure Parsed where
  variant : Variant
  words : List ImgWord
  ctxs : List (Nat × CtxDef)
  code : List CodeRec
  /-- Offset of the VALUE byte, mode, context, value. -/
  ctxen : List (Nat × Nat × Nat × Bool)
  /-- Offset, mode, output ID, step. -/
  stag : List (Nat × Nat × Nat × Nat)
  wakes : List (Nat × Nat × WakeRec)
  limp : List (Nat × Nat × Nat)
deriving DecidableEq, Repr, Inhabited

/-- Offsets of the entries of a record body. -/
def entries (r : Rec) (size : Nat) : List Nat := (List.range (r.len / size)).map fun i => r.off + 4 + size * i

/-- A REGIMG record's words: offset, address. -/
def imgAddrs (rd : Rd) (r : Rec) : List (Nat × Nat) :=
  (List.range ((r.len - 4) / 4)).map fun i => (r.off + 8 + 4 * i, rd32 rd (r.off + 4) + 4 * i)

/-- The words of a REGIMG record that name registers. -/
def imgWords (rd : Rd) (r : Rec) : List ImgWord :=
  if r.kind ≠ 1 then [] else (imgAddrs rd r).filterMap fun p =>
    (decodeReg p.2).map fun ref => ⟨p.1, annexOf r.sec.typ, r.sec.typ, ref, BitVec.ofNat 32 (rd32 rd p.1)⟩

/-- R95: a CTXDEF entry. -/
def ctxEntry (rd : Rd) (o : Nat) : CtxDef :=
  ⟨rd16 rd o, (rd (o + 2)).toNat, (rd (o + 3)).toNat, rd32 rd (o + 4), rd32 rd (o + 8), rd16 rd (o + 12), rd (o + 14) = 1⟩

/-- The contexts that a CTXEN record's MASK names, with VALUE (R111). -/
def ctxenOf (rd : Rd) (r : Rec) : List (Nat × Nat × Nat × Bool) :=
  ((List.range 256).filter fun c => bitOf (rd (r.off + 4 + c / 8)).toNat (c % 8)).map fun c =>
    (r.off + 36 + c / 8, annexOf r.sec.typ, c, bitOf (rd (r.off + 36 + c / 8)).toNat (c % 8))

/-- R97: a WAKE entry. -/
def wakeOf (rd : Rd) (o : Nat) : WakeRec := ⟨(rd o).toNat, (rd (o + 1)).toNat, (rd (o + 2)).toNat, rd32 rd (o + 4)⟩

/-- What the records of an image hold. -/
def parse (v : Variant) (rd : Rd) (rs : List Rec) : Parsed where
  variant := v
  words := rs.flatMap (imgWords rd)
  ctxs := (rs.filter (·.kind == 2)).flatMap fun r => (entries r 16).map fun o => (o, ctxEntry rd o)
  code := (rs.filter (·.kind == 3)).map fun r => ⟨r.sec.inst, rd32 rd (r.off + 4), r.len - 4, r.off + 8⟩
  ctxen := (rs.filter (·.kind == 4)).flatMap (ctxenOf rd)
  stag := (rs.filter (·.kind == 5)).flatMap fun r =>
    (entries r 4).map fun o => (o, annexOf r.sec.typ, rd16 rd o, (rd (o + 2)).toNat)
  wakes := (rs.filter (·.kind == 6)).flatMap fun r => (entries r 8).map fun o => (o, annexOf r.sec.typ, wakeOf rd o)
  limp := (rs.filter (·.kind == 7)).flatMap fun r => (entries r 4).map fun o => (o, annexOf r.sec.typ, rd16 rd o)

/-! ## Output IDs (R95) -/

/-- The number of outputs of a class, and the slot of the first. -/
def outClass (c : Nat) : Nat × Nat :=
  match c with
  | 0 => (8, 0)
  | 1 => (16, 8)
  | 2 => (24, 24)
  | 3 => (4, 48)
  | 4 => (8, 52)
  | 5 => (12, 60)
  | 6 => (3, 72)
  | 7 => (2, 75)
  | 8 => (16, 77)
  | _ => (0, 0)

/-- The slot that an output ID names, if the variant fits it. -/
def outSlot (v : Variant) (id : Nat) : Option Nat :=
  let c := outClass (id / 4096)
  if id % 4096 < c.1 && slotFitted v (c.2 + id % 4096) then some (c.2 + id % 4096) else none

end Sys2Proof.Machine
end

