-- ==== Sys2Proof/Machine/WordRules.lean ====
section
/-! DEFINITION. What one register word of the Catalogue may hold (spec/03 R20, R94, R632, R634): the reserved combinations within a
word, and the resources that a word names. The rules stand in the chapter of each register. -/

namespace Sys2Proof.Machine

/-- NRETRY is 1 to 15 with RECOV = AUTO and 0 otherwise. -/
def retryOk (recov n : Nat) : Bool := if recov = 1 then n != 0 else n == 0

/-- Values of `n` adjoining nibbles. -/
def nibbles (w : Word) (n : Nat) : List Nat := (List.range n).map fun i => ext w (4 * i) 4

/-- R201, R232, R274: LIMPPU is 0 unless LIMP selects a pulse unit. -/
def limpPuOk (w : Word) : Bool := ext w 2 2 = 2 || ext w 4 6 = 0

/-- R121: how many sources each kind has. -/
def kindCount (v : Variant) (k : Nat) : Nat :=
  match k with
  | 0 => 1
  | 1 => match v with | .nz9640 => 96 | .nz9620 => 48
  | 2 => match v with | .nz9640 => 8 | .nz9620 => 4
  | 3 => match v with | .nz9640 => 32 | .nz9620 => 16
  | 4 => nPu v
  | 5 => nLc v
  | 6 => nCtx v
  | _ => 16

/-- R397: a bit time in CAN clocks, and R398: its SJW fits both segments. -/
def bitClocks (pre t1 t2 : Nat) : Nat := (pre + 1) * (3 + t1 + t2)

def dataBitOk (w : Word) (least : Nat) : Bool :=
  ext w 14 4 ≤ ext w 5 5 && ext w 14 4 ≤ ext w 10 4 && least ≤ bitClocks (ext w 0 5) (ext w 5 5) (ext w 10 4)

/-- R502: an entry of the severity table. -/
def sevOk (w : Word) : Bool := (ext w 0 3 = 0) == (ext w 3 3 = 0)

/-- R429: the time that a LIN slot needs, in bit times times 10. -/
def linSlotNeed (len : Nat) : Nat := 14 * (34 + 10 * (len + 2))

/-- The conditions on several fields of one word. -/
def wordExtra (r : RegRef) (w : Word) : Bool :=
  let g := fun (f : Fld) => ext w f.lo f.width
  match r.reg with
  | .FAB_LSRC => (g FAB_LSRC.INV = 0 || (g FAB_LSRC.KIND ≠ 0 && g FAB_LSRC.KIND ≠ 6))
      && g FAB_LSRC.INDEX < kindCount .nz9640 (g FAB_LSRC.KIND)
  | .FAB_OSEL => (48 ≤ r.i && r.i < 60) || (g FAB_OSEL.DIR = 0 && g FAB_OSEL.DIRCON = 0)
  | .PU_CFG => (r.i ≠ 0 || g PU_CFG.TICK = 0) && (g PU_CFG.MODE ≠ 1 || g PU_CFG.GATEEN = 1)
  | .HSW_CFG => retryOk (g HSW_CFG.RECOV) (g HSW_CFG.NRETRY) && (hsClass r.i = 1 || g HSW_CFG.PGRP = 0)
      && ((8 ≤ r.i && r.i < 16) || g HSW_CFG.PRAIL = 0)
  | .HSW_LIM => 10 * (g HSW_LIM.ILIM * ilimStep r.i) ≤ 8 * iscMa r.i (g HSW_LIM.ISC)
  | .HSW_INR0 => (g HSW_INR0.L0 ≠ 0 || g HSW_INR0.D0 = 0) && (g HSW_INR0.L1 ≠ 0 || g HSW_INR0.D1 = 0)
  | .HSW_INR1 => (g HSW_INR1.L2 ≠ 0 || g HSW_INR1.D2 = 0) && (g HSW_INR1.L3 ≠ 0 || g HSW_INR1.D3 = 0)
  | .HSW_OL => g HSW_OL.OLTH = 0 || (if hsClass r.i = 2 then g HSW_OL.OLTH ≤ 200 else 5 ≤ g HSW_OL.OLTH)
  | .HSW_FB | .VLV_FB | .VHS_FB | .CTD_FB => limpPuOk w
  | .HBR_CFG => retryOk (g HBR_CFG.RECOV) (g HBR_CFG.NRETRY) && (r.i = 6 || r.i = 7 || g HBR_CFG.BKFEED = 0)
  | .HBR_LIM => hbHigh r.i || (5 ≤ g HBR_LIM.ILIM && g HBR_LIM.ILIM ≤ 160)
  | .HBR_STALL => hbHigh r.i || g HBR_STALL.ISTALL = 0 || (5 ≤ g HBR_STALL.ISTALL && g HBR_STALL.ISTALL ≤ 160)
  | .HBR_MON => (2 ≤ g HBR_MON.SRC || g HBR_MON.HLA = 0) && (g HBR_MON.SRC = 3 || g HBR_MON.HLB = 0)
      && (g HBR_MON.SRC = 1 || g HBR_MON.COASTADD = 0)
  | .HBR_PZONE => decide (signedOf (g HBR_PZONE.PZLO) 16 ≤ signedOf (g HBR_PZONE.PZHI) 16)
  | .HBR_FB => limpPuOk w && (g HBR_FB.LIMP ≠ 0 || g HBR_FB.LIMPDIR = 0) && (g HBR_FB.SAFE = 1 || g HBR_FB.SAFEDIR = 0)
  | .VLV_CFG => retryOk (g VLV_CFG.RECOV) (g VLV_CFG.NRETRY)
      && (g VLV_CFG.COMPAT = 1) == (g VLV_CFG.TVMINOFF ≠ 0)
  | .VLV_PROF => g VLV_PROF.IHOLD ≤ g VLV_PROF.IPEAK
  | .VHS_CFG => retryOk (g VHS_CFG.RECOV) (g VHS_CFG.NRETRY)
  | .CTD_CFG => retryOk (g CTD_CFG.RECOV) (g CTD_CFG.NRETRY)
  | .CTD_AUX => g CTD_AUX.AUXEN = 0 || g CTD_AUX.TCONF ≠ 0
  | .LED_CFG => retryOk (g LED_CFG.RECOV) (g LED_CFG.NRETRY)
  | .LG_DER => decide (signedOf (g LG_DER.TSTART) 8 < signedOf (g LG_DER.TEND) 8)
  | .INP_SGRP => (g INP_SGRP.WET < 2 || 2 ≤ g INP_SGRP.TSAMP) && g INP_SGRP.THRL < g INP_SGRP.THRH
  | .INP_SDEB => (nibbles w 8).all (· ≠ 0)
  | .AIN_CFG => g AIN_CFG.RATIO = 0 || g AIN_CFG.RANGE = 0
  | .AIN_CMP => g AIN_CMP.HYS ≤ g AIN_CMP.THR
  | .HALL_CFG => (g HALL_CFG.MODE = 2) == (g HALL_CFG.ITH ≠ 0)
  | .DOC_WDCFG => g DOC_WDCFG.TWMIN < g DOC_WDCFG.TWD
  | .DOC_WMAP => g DOC_WMAP.ADDR % 4 = 0
      && (if g DOC_WMAP.RD = 0 && g DOC_WMAP.WR = 0 then g DOC_WMAP.ADDR = 0
          else !([2, 20, 21, 22] : List Nat).contains (g DOC_WMAP.ADDR / 0x10000))
  | .CTXC_ENTRY => g CTXC_ENTRY.ENTRY % 4 = 0
  | .CAN_NBT => g CAN_NBT.SJW ≤ g CAN_NBT.TSEG1 && g CAN_NBT.SJW ≤ g CAN_NBT.TSEG2
      && 80 ≤ bitClocks (g CAN_NBT.PRE) (g CAN_NBT.TSEG1) (g CAN_NBT.TSEG2)
  | .CAN_DBT => dataBitOk w 10
  | .CAN_XBT => dataBitOk w 4
  | .CAN_QCFG => g CAN_QCFG.Q0DEPTH + g CAN_QCFG.Q1DEPTH ≤ 256
  | .CAN_FID => g CAN_FID.IDE = 1 || g CAN_FID.MATCH < 2048
  | .CAN_FCTL => g CAN_FCTL.ACT = 0 || g CAN_FCTL.FMT ≠ 0
  | .LIN_TE => (g LIN_TE.FID ≠ 0x3C || g LIN_TE.TYPE = 2) && (g LIN_TE.FID ≠ 0x3D || g LIN_TE.TYPE = 3)
      && (g LIN_TE.TYPE = 0 || (g LIN_TE.PUB = 1) == (g LIN_TE.TYPE = 2)) && (g LIN_TE.TYPE = 1 || g LIN_TE.CTBL = 0)
  | .ETH_PCFG => (if r.i = 0 then true else if r.i < 5 then g ETH_PCFG.SPEED ≤ 1 else g ETH_PCFG.SPEED = 0)
      && (r.i < 5 || g ETH_PCFG.MS = 0)
  | .ETH_STR3 => g ETH_STR3.EN = 0 || (1 ≤ g ETH_STR3.VID && g ETH_STR3.VID ≤ 4094)
  | .NM_CLUSTP => (nibbles w 8).all (· ≤ 8)
  | .NM_CLUSTL => (nibbles w 6).all (· ≤ 8)
  | .FLT_RGCTL => (g FLT_RGCTL.AUTOREL = 1) == (g FLT_RGCTL.TREL ≠ 0)
  | .FLT_DEF => sevOk w && (r.i ≠ 14 || w = 0) && (g FLT_DEF.RGOWN = 0 || (2 ≤ r.i && r.i ≤ 5))
  | .FLT_OVRENT => sevOk w
  | .TWN_PEN | .TWN_DEN => r.i ≠ 2 || ext w 29 3 = 0
  | _ => true

/-- Every field that the Catalogue sets holds a legal encoding, alone and with the others of its word. -/
def wordOk (r : RegRef) (w : Word) : Bool :=
  (r.reg.fields.all fun f => !f.given || inRanges (ext w f.lo f.width) f.legal) && wordExtra r w

/-- R20, R94: a word that a REGIMG record may give: nothing outside the fields that it sets. -/
def imgWordOk (r : RegRef) (w : Word) : Bool := w &&& ~~~ r.reg.givenMask = 0 && wordOk r w

/-! ## Resources (R6, R634) -/

/-- Every set bit below `n` names a fitted unit. -/
def bitsFit (v n : Nat) (fit : Nat → Bool) : Bool := (List.range n).all fun i => !bitOf v i || fit i

/-- R634, R6: the resources that the word names, apart from those that `FieldInfo.res` says. -/
def wordResExtra (v : Variant) (r : RegRef) (w : Word) : Bool :=
  let g := fun (f : Fld) => ext w f.lo f.width
  let mig := fun (t : Nat) => 4 ≤ t || t < nCores v
  match r.reg with
  | .FAB_LSRC => g FAB_LSRC.INDEX < kindCount v (g FAB_LSRC.KIND)
  | .LED_CFG => g LED_CFG.LGRP = 0 || lgFitted v (g LED_CFG.LGRP - 1)
  | .LCH_BUF => 16 * g LCH_BUF.BUFA < nBanks v * 0x10000 && 16 * g LCH_BUF.BUFB < nBanks v * 0x10000
  | .LCH_SBUF => 16 * g LCH_SBUF.SADDR < nBanks v * 0x10000
  | .INP_SUPCFG => g INP_SUPCFG.ENB = 0 || v = .nz9640
  | .DOC_WMAP => match decodeReg (g DOC_WMAP.ADDR) with
    | some x => (g DOC_WMAP.RD = 0 && g DOC_WMAP.WR = 0) || x.fitted v
    | none => true
  | .CTX_MIG => mig (g CTX_MIG.MIG0) && mig (g CTX_MIG.MIG1) && mig (g CTX_MIG.MIG2) && mig (g CTX_MIG.MIG3)
  | .CTXC_CFG => g CTXC_CFG.AFFIN = 4 || g CTXC_CFG.AFFIN < nCores v
  | .MEM_CFG => bitsFit (g MEM_CFG.RET) 8 (· < nBanks v)
  | .CAN_QRDR => (g CAN_QRDR.RDR0 = 511 || g CAN_QRDR.RDR0 < nCtx v) && (g CAN_QRDR.RDR1 = 511 || g CAN_QRDR.RDR1 < nCtx v)
  | .GW_RT2 => bitsFit (g GW_RT2.CANMASK) 8 (· < nCan v) && bitsFit (g GW_RT2.LINMASK) 6 (· < nLin v)
  | .ETH_VLAN => bitsFit (g ETH_VLAN.MEMBER) 7 (ethFitted v) && bitsFit (g ETH_VLAN.UNTAG) 7 (ethFitted v)
  | .ETH_TSCTL => ethFitted v (g ETH_TSCTL.PORT) || (g ETH_TSCTL.PORT = 0 && g ETH_TSCTL.EN = 0)
  | .ETH_STR4 => ethFitted v (g ETH_STR4.PORT) || g ETH_STR4.PORT = 0
  | .NM_LIN => bitsFit (g NM_LIN.SEG) 6 (· < nLin v)
  | .NM_CLUSTP => (List.range 8).all fun i => i < nCan v || ext w (4 * i) 4 = 0
  | .NM_CLUSTL => (List.range 6).all fun i => i < nLin v || ext w (4 * i) 4 = 0
  | .FLT_OVR => g FLT_OVR.V = 0 || srcFitted v (g FLT_OVR.SRC)
  | .TWN_MAP => bitsFit (g TWN_MAP.TWIN) 16 fun m => hswFitted v (8 + m)
  | .TWN_PEN | .TWN_DEN => bitsFit w.toNat 32 fun b => slotFitted v (32 * r.i + b)
  | _ => true

/-- R6, R634: the register is fitted, and so is every resource that the word names. -/
def wordRes (v : Variant) (r : RegRef) (w : Word) : Bool :=
  r.fitted v && (r.reg.fields.all fun f => !f.given || resFitted v f.res (ext w f.lo f.width)) && wordResExtra v r w

end Sys2Proof.Machine
end

