-- ==== Sys2Proof/Machine/Loader.lean ====
section
/-! DEFINITION. The loader's checks 1 to 14 (spec/03 R100) and the Catalogue that an image which passes them holds. Steps 10 to 12
collect the offset of each failing byte, on the base configuration and on that of each mode (R632); the lowest is reported. -/

namespace Sys2Proof.Machine

/-! ## The configuration in force -/

/-- R638: the register words that CTXDEF entries give. -/
def ctxWords (cs : List (Nat × CtxDef)) : List ImgWord :=
  cs.flatMap fun p =>
    [⟨p.1, 0, 0x20, ⟨.CTXC_CFG, p.2.ctx, 0, 0⟩, BitVec.ofNat 32 (p.2.affin + p.2.prio * 2 ^ 4 + p.2.budget * 2 ^ 16)⟩,
     ⟨p.1 + 4, 0, 0x20, ⟨.CTXC_ENTRY, p.2.ctx, 0, 0⟩, BitVec.ofNat 32 p.2.entry⟩]

/-- Every register word of the image. -/
def Parsed.all (p : Parsed) : List ImgWord := ctxWords p.ctxs ++ p.words

/-- R110, R111: the word that the configuration of mode `m` writes to a register (0: the base image), with its offset. -/
def Parsed.look (p : Parsed) (m : Nat) (r : RegRef) : Option (Word × Nat) :=
  let of_ := fun (k : Nat) => (p.all.find? fun x => x.mode == k && x.ref == r).map fun x => (x.w, x.off)
  if m = 0 then of_ 0 else (of_ m).orElse fun _ => of_ 0

/-- The word in force, unwritten where no record gives it (R633). -/
def Parsed.word (p : Parsed) (m : Nat) (r : RegRef) : Word := ((p.look m r).map (·.1)).getD (unwritten r.reg)

/-- A field of the word in force. -/
def Parsed.f (p : Parsed) (m : Nat) (f : Fld) (i : Nat := 0) (j : Nat := 0) (k : Nat := 0) : Nat :=
  ext (p.word m (f.ref i j k)) f.lo f.width

/-- Where the word in force stands. -/
def Parsed.at_ (p : Parsed) (m : Nat) (r : Reg) (i : Nat := 0) (j : Nat := 0) (k : Nat := 0) : Option Nat :=
  (p.look m ⟨r, i, j, k⟩).map (·.2)

/-- R632: the highest offset among the contributing words. -/
def Parsed.hi (p : Parsed) (m : Nat) (rs : List RegRef) : List Nat :=
  match rs.filterMap fun r => (p.look m r).map (·.2) with
  | [] => []
  | o :: os => [os.foldl max o]

/-- R632, R633: a combination that is reserved unless `ok`: judged where every word is written, or where the function, put in
use at offset `use`, is in use. -/
def Parsed.combo (p : Parsed) (m : Nat) (rs : List RegRef) (use : Option Nat) (ok : Bool) : List Nat :=
  if ok then []
  else if rs.all fun r => (p.look m r).isSome then p.hi m rs
  else use.toList

/-- R633: registers of a function that is in use must not hold a reserved unwritten value; a function that is not fitted is
step 11's. -/
def Parsed.need (p : Parsed) (m : Nat) (use : Option Nat) (rs : List RegRef) : List Nat :=
  match use with
  | none => []
  | some o => if rs.all fun r => !r.fitted p.variant || (p.look m r).isSome || wordOk r (unwritten r.reg) then [] else [o]

/-- The offset of a word, where a condition holds. -/
def Parsed.on (p : Parsed) (m : Nat) (c : Bool) (r : RegRef) : Option Nat := if c then (p.look m r).map (·.2) else none

/-- The written words of a register in the configuration of mode `m`, by their references. -/
def Parsed.refs (p : Parsed) (m : Nat) (r : Reg) : List RegRef :=
  (p.all.filter fun x => x.ref.reg == r && (x.mode == 0 || x.mode == m)).map (·.ref)

/-! ## Step 10 -/

/-- R20, R84: reserved TLV fields. -/
def tlvBad (rd : Rd) (x : Sec) : List Nat :=
  failing [(x.typ = 2 || (if x.typ = 0x21 then x.inst ≤ 3 else x.inst = 0), x.off + 2), (x.typ = 2 || rd (x.off + 3) = 0, x.off + 3)]

/-- R92 to R97: what is reserved in one record. -/
def recBad (rd : Rd) (r : Rec) : List Nat :=
  let len := r.off + 2
  let outId := fun (o : Nat) => failing [(rd16 rd o / 4096 ≤ 8, o)]
  match r.kind with
  | 1 =>
    let a := rd32 rd (r.off + 4)
    if r.len < 4 then [len]
    else if a % 4 ≠ 0 || !(blocksOf r.sec.typ).contains (a / 0x10000) then [r.off + 4]
    else (imgAddrs rd r).flatMap fun p => match decodeReg p.2 with
      | none => [p.1]
      | some ref =>
        failing [(p.2 / 0x10000 = a / 0x10000 && ref.reg.nameable && imgWordOk ref (BitVec.ofNat 32 (rd32 rd p.1)), p.1)]
  | 2 => failing [(r.len % 16 = 0, len)] ++ (entries r 16).flatMap fun o =>
      let c := ctxEntry rd o
      failing [(c.ctx < 256, o), (c.affin ≤ 4, o + 2), (c.prio ≤ 15, o + 3), (c.entry % 4 = 0, o + 4), (c.budget ≠ 0, o + 12),
        ((rd (o + 14)).toNat ≤ 1, o + 14), (rd (o + 15) = 0, o + 15)]
  | 3 => failing [(4 ≤ r.len, len), (rd32 rd (r.off + 4) % 4 = 0, r.off + 4)]
  | 4 => failing [(r.len = 64, len)]
  | 5 => (entries r 4).flatMap fun o => outId o ++ failing [((rd (o + 2)).toNat ≤ 15, o + 2), (rd (o + 3) = 0, o + 3)]
  | 6 => failing [(r.len % 8 = 0, len)] ++ (entries r 8).flatMap fun o =>
      let w := wakeOf rd o
      let index := match w.src with
        | 0 => 32
        | 1 | 2 => 8
        | 3 => 6
        | _ => 1
      let param := match w.src with
        | 1 => decide (5 ≤ w.param) && decide (w.param ≤ 50)
        | 2 => decide (w.param ≤ 63)
        | 4 => decide (1 ≤ w.param) && decide (w.param ≤ 65535)
        | _ => decide (w.param = 0)
      failing [(w.src ≤ 6 && (w.src ≠ 2 || r.sec.typ = 0x52), o), (w.index < index, o + 1), (3 ≤ w.target && w.target ≤ 7, o + 2),
        (rd (o + 3) = 0, o + 3), (param, o + 4)]
  | 7 => (entries r 4).flatMap fun o => outId o ++ failing [(rd16 rd (o + 2) = 0, o + 2)]
  | _ => []

/-- Entries of a list with their positions. -/
def numbered {α : Type} (xs : List α) : List (Nat × α) := (List.range xs.length).zip xs

/-- The outputs whose FB register has the layout of R201. -/
def fbRegs : List RegRef :=
  ((List.range 48).map fun n => ⟨.HSW_FB, n, 0, 0⟩) ++ ((List.range 12).map fun n => ⟨.HBR_FB, n, 0, 0⟩)
    ++ ((List.range 12).map fun n => ⟨.VLV_FB, n, 0, 0⟩) ++ ((List.range 3).map fun n => ⟨.VHS_FB, n, 0, 0⟩)
    ++ ((List.range 2).map fun n => ⟨.CTD_FB, n, 0, 0⟩) ++ ((List.range 16).map fun n => ⟨.LED_FB, n, 0, 0⟩)

/-- R165, R171, R181 and what an enabled high-side channel needs; its wire model is in use where a gain is not 0 (R181). -/
def Parsed.hswBad (p : Parsed) (m n : Nat) : List Nat :=
  let r := fun (x : Reg) => (⟨x, n, 0, 0⟩ : RegRef)
  let en := p.on m (p.f m HSW_CFG.EN n = 1) (r .HSW_CFG)
  let fits := fun (l : Nat) => decide (10 * (l * ilimStep n) ≤ 8 * iscMa n (p.f m HSW_LIM.ISC n))
  let ds := [p.f m HSW_INR0.D0 n, p.f m HSW_INR0.D1 n, p.f m HSW_INR1.D2 n, p.f m HSW_INR1.D3 n].takeWhile (· ≠ 0)
  let wire := if p.f m HSW_WIRE0.K1 n ≠ 0 then p.at_ m .HSW_WIRE0 n else if p.f m HSW_WIRE1.K2 n ≠ 0 then p.at_ m .HSW_WIRE1 n else none
  p.need m en [r .HSW_LIM, r .HSW_TIME]
    ++ (if en.isSome then p.need m wire [r .HSW_WIRE2] else [])
    ++ p.combo m [r .HSW_LIM, r .HSW_INR0] en (fits (p.f m HSW_INR0.L0 n) && fits (p.f m HSW_INR0.L1 n))
    ++ p.combo m [r .HSW_LIM, r .HSW_INR1] en (fits (p.f m HSW_INR1.L2 n) && fits (p.f m HSW_INR1.L3 n))
    ++ p.combo m [r .HSW_INR0, r .HSW_INR1] en (ds.foldl (· + ·) 0 ≤ 500)
    ++ p.combo m [r .HSW_WIRE0, r .HSW_WIRE1] en (p.f m HSW_WIRE0.TAU1 n ≤ p.f m HSW_WIRE1.TAU2 n)

/-- What the other outputs need; HBRb_PINCH.PEN requires a source. -/
def Parsed.outBad (p : Parsed) (m : Nat) : List Nat :=
  let r := fun (x : Reg) (n : Nat) => (⟨x, n, 0, 0⟩ : RegRef)
  let hbr := (List.range 12).flatMap fun b =>
    p.need m (p.on m (p.f m HBR_CFG.EN b = 1) (r .HBR_CFG b)) [r .HBR_LIM b]
      ++ p.combo m [r .HBR_PINCH b, r .HBR_MON b] (p.at_ m .HBR_PINCH b) (p.f m HBR_PINCH.PEN b = 0 || p.f m HBR_MON.SRC b ≠ 0)
  let vlv := (List.range 12).flatMap fun v => p.need m (p.on m (p.f m VLV_CFG.EN v = 1) (r .VLV_CFG v)) [r .VLV_PROF v]
  let ctd := (List.range 2).flatMap fun c => p.need m (p.on m (p.f m CTD_CFG.EN c = 1) (r .CTD_CFG c)) [r .CTD_PROF c]
  let led := (List.range 16).flatMap fun i =>
    let en := p.on m (p.f m LED_CFG.EN i = 1) (r .LED_CFG i)
    let g := p.f m LED_CFG.LGRP i
    p.need m en ([r .LED_FB i, r .LED_PCFG 0, r .PU_PD (p.f m LED_CFG.PU i)]
      ++ if g = 0 then [] else [r .LG_NTC (g - 1), r .LG_NTC2 (g - 1), r .LG_DER (g - 1)])
  let lg := (List.range 8).flatMap fun g =>
    p.need m (p.on m (p.f m LG_NTC2.EN g = 1) (r .LG_NTC2 g)) [r .LG_NTC g, r .LG_DER g]
  let pus := fbRegs.flatMap fun x =>
    let w := p.word m x
    p.need m (p.on m (ext w 2 2 = 2) x) [r .PU_PD (ext w 4 6)]
  (List.range 48).flatMap (p.hswBad m) ++ hbr ++ vlv ++ ctd ++ led ++ lg ++ pus

/-- Lighting chains: R299, overlapping buffers. -/
def Parsed.lchBad (p : Parsed) (m n : Nat) : List Nat :=
  let r := fun (x : Reg) => (⟨x, n, 0, 0⟩ : RegRef)
  let en := p.on m (p.f m LCH_CFG.EN n = 1) (r .LCH_CFG)
  let nexp := p.f m LCH_CFG.NEXP n
  let a := p.f m LCH_BUF.BUFA n
  let b := p.f m LCH_BUF.BUFB n
  p.need m en [r .LCH_RATE]
    ++ p.combo m [r .LCH_CFG, r .LCH_RATE] en ((128 * nexp + 4) * 40 * 2 ^ p.f m LCH_CFG.FLCK n ≤ 10000 * p.f m LCH_RATE.TREF n)
    ++ p.combo m [r .LCH_CFG, r .LCH_BUF] en (a + nexp ≤ b || b + nexp ≤ a)

/-- R633, R638: contexts that registers name: one that no CTXDEF entry defines has a reserved BUDGET. -/
def Parsed.ctxNamed (p : Parsed) (m : Nat) : List Nat :=
  let by_ := fun (r : Reg) (on : RegRef → Bool) (f : Fld) => (p.refs m r).flatMap fun x =>
    p.need m (p.on m (on x) x) [⟨.CTXC_CFG, p.f m f x.i x.j, 0, 0⟩]
  by_ .FAB_LSRC (fun x => p.f m FAB_LSRC.KIND x.i = 6) FAB_LSRC.INDEX
    ++ by_ .PU_PH (fun x => p.f m PU_PH.OWNED x.i = 1) PU_PH.OWNER
    ++ by_ .ER_CFG (fun x => p.f m ER_CFG.EDGE x.i ≠ 0) ER_CFG.CTX
    ++ by_ .HBR_SVC (fun x => p.f m HBR_SVC.EVEN x.i = 1) HBR_SVC.CTX
    ++ by_ .CAN_EVT (fun x => p.f m CAN_EVT.EVEN x.i = 1) CAN_EVT.CTX
    ++ by_ .NM_EVT (fun _ => p.f m NM_EVT.EVEN = 1) NM_EVT.CTX
    ++ by_ .PWR_EVT (fun _ => p.f m PWR_EVT.EVEN = 1) PWR_EVT.CTX
    ++ by_ .FLT_DEF (fun x => p.f m FLT_DEF.DCTXV x.i x.j = 1) FLT_DEF.DCTX
    ++ by_ .FLT_OVRENT (fun x => p.f m FLT_OVR.V x.i = 1 && p.f m FLT_OVRENT.DCTXV x.i = 1) FLT_OVRENT.DCTX

/-- The entries of table `t` of LIN port `n` that the port would walk: up to its END, or to the first that no record writes. -/
def Parsed.linTableRefs (p : Parsed) (m n t : Nat) : List RegRef :=
  let open_ := (List.range 32).takeWhile fun k => (p.look m ⟨.LIN_TE, n, t, k⟩).isNone || p.f m LIN_TE.END n t k = 0
  (List.range (min 32 (open_.length + 1))).map fun k => ⟨.LIN_TE, n, t, k⟩

/-- R633: CAN and LIN ports and LIN tables that registers and records name: cluster maps, valid routes, event-triggered entries,
WAKE records. -/
def Parsed.portsNamed (p : Parsed) (m : Nat) : List Nat :=
  let can := fun (use : Option Nat) (n : Nat) => p.need m use [⟨.CAN_NBT, n, 0, 0⟩]
  let lin := fun (use : Option Nat) (n : Nat) => p.need m use [⟨.LIN_CFG, n, 0, 0⟩]
  let clusters := fun (r : Reg) (f : Fld) (ports : Nat) (k : Option Nat → Nat → List Nat) => (p.refs m r).flatMap fun x =>
    (List.range ports).flatMap fun n => if p.f m f / 2 ^ (4 * n) % 16 < 8 then k (p.at_ m r x.i) n else []
  let routes := ((p.refs m .GW_RT2).filter fun x => p.f m GW_RT2.VALID x.i = 1).flatMap fun x =>
    let use := p.at_ m .GW_RT2 x.i
    let port := p.f m GW_RT2.SRCPORT x.i
    (match p.f m GW_RT0.SRCT x.i with | 0 => can use port | 1 => lin use port | _ => [])
      ++ ((List.range 8).filter fun n => bitOf (p.f m GW_RT2.CANMASK x.i) n).flatMap (can use)
      ++ ((List.range 6).filter fun n => bitOf (p.f m GW_RT2.LINMASK x.i) n).flatMap (lin use)
  let tables := (p.refs m .LIN_TE).flatMap fun x =>
    if p.f m LIN_TE.TYPE x.i x.j x.k = 1 then
      p.need m ((p.look m x).map (·.2)) (p.linTableRefs m x.i (p.f m LIN_TE.CTBL x.i x.j x.k))
    else []
  let wakes := (p.wakes.filter fun w => w.2.1 == m).flatMap fun w =>
    match w.2.2.src with
    | 1 | 2 => can (some w.1) w.2.2.index
    | 3 => lin (some w.1) w.2.2.index
    | _ => []
  clusters .NM_CLUSTP NM_CLUSTP.CL 8 can ++ clusters .NM_CLUSTL NM_CLUSTL.CL 6 lin ++ routes ++ tables ++ wakes

/-- What lines, wake records, pulse units and other registers name. -/
def Parsed.namedBad (p : Parsed) (m : Nat) : List Nat :=
  let lines := (p.refs m .FAB_LSRC).flatMap fun x =>
    let i := p.f m FAB_LSRC.INDEX x.i
    p.need m (p.at_ m .FAB_LSRC x.i) (match p.f m FAB_LSRC.KIND x.i with
      | 1 => [⟨.INP_SGRP, i / 8, 0, 0⟩, ⟨.INP_SDEB, i / 8, 0, 0⟩]
      | 2 => [⟨.HALL_CFG, i, 0, 0⟩]
      | 3 => [⟨.AIN_CMP, i / 2, i % 2, 0⟩, ⟨.AIN_CFG, i / 2, 0, 0⟩]
      | 4 => [⟨.PU_PD, i, 0, 0⟩]
      | _ => [])
  let ticks := (p.refs m .PU_CFG).flatMap fun x =>
    p.need m (p.on m (p.f m PU_CFG.TICK x.i = 1) x) [⟨.PU_PD, x.i - 1, 0, 0⟩]
  let wakes := (p.wakes.filter fun w => w.2.1 == m && w.2.2.src == 0).flatMap fun w =>
    p.need m (some w.1) [⟨.INP_SGRP, w.2.2.index / 8, 0, 0⟩, ⟨.INP_SDEB, w.2.2.index / 8, 0, 0⟩, ⟨.INP_PARK, 0, 0, 0⟩]
  lines ++ ticks ++ wakes ++ p.ctxNamed m ++ p.portsNamed m

/-- CAN ports: R398, CANn_QCFG, identifier masks. -/
def Parsed.canBad (p : Parsed) (m n : Nat) : List Nat :=
  let r := fun (x : Reg) => (⟨x, n, 0, 0⟩ : RegRef)
  let cfg := r .CAN_CFG
  let en := p.on m (p.f m CAN_CFG.EN n = 1) cfg
  let fd := p.f m CAN_CFG.FDEN n = 1
  let xl := p.f m CAN_CFG.XLEN n = 1
  let nominal := bitClocks (p.f m CAN_NBT.PRE n) (p.f m CAN_NBT.TSEG1 n) (p.f m CAN_NBT.TSEG2 n)
  let fbit := bitClocks (p.f m CAN_DBT.PRE n) (p.f m CAN_DBT.TSEG1 n) (p.f m CAN_DBT.TSEG2 n)
  let xbit := bitClocks (p.f m CAN_XBT.PRE n) (p.f m CAN_XBT.TSEG1 n) (p.f m CAN_XBT.TSEG2 n)
  let depth := fun (q : Nat) => if q = 1 then p.f m CAN_QCFG.Q0DEPTH n else p.f m CAN_QCFG.Q1DEPTH n
  let filters := (List.range 64).flatMap fun k =>
    let fctl := (⟨.CAN_FCTL, n, k, 0⟩ : RegRef)
    let act := p.f m CAN_FCTL.ACT n k
    let isX := bitOf (p.f m CAN_FCTL.FMT n k) 2
    p.combo m [r .CAN_QCFG, fctl] (p.at_ m .CAN_FCTL n k) (act = 0 || act = 3 || depth act ≠ 0)
      ++ p.combo m [r .CAN_QCFG, fctl, cfg] (p.at_ m .CAN_FCTL n k) (act = 0 || act = 3 || !xl || !isX || 25 ≤ depth act)
      ++ p.combo m [⟨.CAN_FID, n, k, 0⟩, ⟨.CAN_FMK, n, k, 0⟩] (p.on m (act ≠ 0) fctl)
        (p.f m CAN_FID.IDE n k = 1 || p.f m CAN_FMK.MASK n k < 2048)
  p.need m en ([r .CAN_NBT] ++ (if fd then [r .CAN_DBT] else []) ++ if xl then [r .CAN_XBT] else [])
    ++ p.combo m [r .CAN_NBT, r .CAN_DBT, cfg] en (!fd || fbit ≤ nominal)
    ++ p.combo m [r .CAN_NBT, r .CAN_XBT, cfg] en (!xl || xbit ≤ nominal)
    ++ p.combo m [r .CAN_QCFG, cfg] (p.at_ m .CAN_CFG n)
      (p.f m CAN_CFG.NOMATCH n = 0 || (if xl then 25 ≤ depth 2 else depth 2 ≠ 0))
    ++ filters

/-- LIN ports: R429, and the entries of the table that the port starts with. -/
def Parsed.linBad (p : Parsed) (m n : Nat) : List Nat :=
  let cfg := (⟨.LIN_CFG, n, 0, 0⟩ : RegRef)
  let slots := ((p.refs m .LIN_TE).filter fun x => x.i == n).flatMap fun x =>
    p.combo m [cfg, x] none
      (100 * linSlotNeed (p.f m LIN_TE.LEN n x.j x.k) ≤ p.f m LIN_TE.SLOT n x.j x.k * p.f m LIN_CFG.BAUD n)
  let t := p.f m LIN_SCHED.TABLE n
  slots ++ if p.f m LIN_CFG.EN n = 1 && t < 16 then p.need m (p.at_ m .LIN_CFG n) (p.linTableRefs m n t) else []

/-- Gateway entries: R443. -/
def Parsed.gwBad (p : Parsed) (m : Nat) : List Nat :=
  (p.refs m .GW_RT2).flatMap fun x =>
    let i := x.i
    let src := p.f m GW_RT0.SRCT i
    let port := p.f m GW_RT2.SRCPORT i
    let use := p.on m (p.f m GW_RT2.VALID i = 1) x
    let ok : Bool := match src with
      | 0 => port < 8 && !bitOf (p.f m GW_RT2.CANMASK i) port
      | 1 => port < 6 && !bitOf (p.f m GW_RT2.LINMASK i) port
      | _ => p.f m GW_RT2.TUN i = 0
    p.combo m [⟨.GW_RT0, i, 0, 0⟩, x] use ok
      ++ p.combo m [⟨.GW_RT0, i, 0, 0⟩, ⟨.GW_RT3, i, 0, 0⟩] use (src = 0 || p.f m GW_RT3.KEEPID i = 0)

/-- R501: the source belongs to an output. -/
def outSource (id : Nat) : Bool :=
  let u := id / 8 % 64
  match id / 512 with
  | 2 => u < 48
  | 3 => u < 12
  | 4 => u < 26
  | 5 => u < 16
  | _ => false

/-- Override entries: block 0xE (R499) and RGOWN (R501). -/
def Parsed.fltBad (p : Parsed) (m : Nat) : List Nat :=
  (p.refs m .FLT_OVR).flatMap fun x =>
    let id := p.f m FLT_OVR.SRC x.i
    let e := p.word m ⟨.FLT_OVRENT, x.i, 0, 0⟩
    p.combo m [x, ⟨.FLT_OVRENT, x.i, 0, 0⟩] (p.at_ m .FLT_OVR x.i)
      (p.f m FLT_OVR.V x.i = 0 || ((id / 512 ≠ 14 || e = 0) && (p.f m FLT_OVRENT.RGOWN x.i = 0 || outSource id)))

/-- The CODE records of a core cover an offset (R96). -/
def Parsed.covers (p : Parsed) (d e : Nat) : Bool :=
  p.code.any fun c => c.core == d && decide (c.offset ≤ e) && decide (e < c.offset + c.len)

/-- R111: the configuration of mode `m` enables a context; where the Annex says so, with the offset of its VALUE byte. -/
def Parsed.enabled (p : Parsed) (m c : Nat) : Bool × Option Nat :=
  match p.ctxen.find? fun x => m != 0 && x.2.1 == m && x.2.2.1 == c with
  | some x => (x.2.2.2, some x.1)
  | none => (p.ctxs.any fun x => x.2.ctx == c && x.2.enabled, none)

/-- R96, R633, R638: contexts that the configuration defines or enables. -/
def Parsed.ctxBad (p : Parsed) (v : Variant) (m : Nat) : List Nat :=
  (List.range 256).flatMap fun c =>
    let cfg := (⟨.CTXC_CFG, c, 0, 0⟩ : RegRef)
    let ent := (⟨.CTXC_ENTRY, c, 0, 0⟩ : RegRef)
    let en := p.enabled m c
    let e := p.f m CTXC_ENTRY.ENTRY c
    let a := p.f m CTXC_CFG.AFFIN c
    let cores := if a < 4 then [a].filter (· < nCores v) else List.range (nCores v)
    let judged := en.1 || (p.look m ent).isSome
    (if en.1 then p.need m en.2 [cfg] else [])
      ++ if judged && !(cores.all fun d => p.covers d e) then
          (match p.hi m [cfg, ent] with | [] => en.2.toList | os => os) else []

/-- R537: mirrored data regions, judged on the base image. -/
def Parsed.mregBad (p : Parsed) (v : Variant) : List Nat :=
  let used := (List.range 8).filter fun r => p.f 0 TWN_MREG.SIZE r ≠ 0
  let lo := fun (r : Nat) => p.f 0 TWN_MREG.BASE r
  let end_ := fun (r : Nat) => lo r + p.f 0 TWN_MREG.SIZE r
  let ref := fun (r : Nat) => (⟨.TWN_MREG, r, 0, 0⟩ : RegRef)
  let beyond := used.flatMap fun r => if nBanks v * 1024 < end_ r then p.hi 0 [ref r] else []
  let pairs := used.flatMap fun r => used.flatMap fun q =>
    if r < q && lo r < end_ q && lo q < end_ r then p.hi 0 [ref r, ref q] else []
  let total := (used.map fun r => p.f 0 TWN_MREG.SIZE r).foldl (· + ·) 0
  beyond ++ pairs ++ if 512 < total then p.hi 0 (used.map ref) else []

/-- R632: the configurations on which combinations are judged: the base image and modes 1 to 9. -/
def confModes : List Nat := List.range 10

/-- R100, step 10: every failing byte. -/
def step10 (v : Variant) (rd : Rd) (ss : List Sec) (p : Parsed) : List Nat :=
  let ws := ss.filter walked
  let sig := failing [(rd (sigOff rd + 2) = 0, sigOff rd + 2), (rd (sigOff rd + 3) = 0, sigOff rd + 3)]
  let per := confModes.flatMap fun m =>
    p.outBad m ++ (List.range 8).flatMap (p.lchBad m) ++ p.namedBad m ++ (List.range 8).flatMap (p.canBad m)
      ++ (List.range 6).flatMap (p.linBad m) ++ p.gwBad m ++ p.fltBad m ++ p.ctxBad v m
      ++ p.need m (p.on m (p.f m NM_CFG.EN = 1) ⟨.NM_CFG, 0, 0, 0⟩) [⟨.NM_TIME, 0, 0, 0⟩]
  let pair := if rd 66 = 1 then p.need 0 (some 66) [⟨.TWN_CFG, 0, 0, 0⟩] else []
  headerBad rd ++ sig ++ ws.flatMap (tlvBad rd) ++ (ws.flatMap fun x => (recsOf rd x).2 ++ (recsOf rd x).1.flatMap (recBad rd))
    ++ per ++ p.mregBad v ++ pair

/-! ## Step 11 -/

/-- R6, R634: every resource that is not fitted. -/
def step11 (v : Variant) (ss : List Sec) (p : Parsed) : List Nat :=
  let secs := (ss.filter fun x => x.typ == 0x21 && decide (nCores v ≤ x.inst)).map fun x => x.off + 2
  let words := (p.words.filter fun x => !wordRes v x.ref x.w).map (·.off)
  let ctxs := p.ctxs.flatMap fun x => failing [(x.2.ctx < nCtx v, x.1), (x.2.affin = 4 || x.2.affin < nCores v, x.1 + 2)]
  let code := (p.code.filter fun c => decide (0x20000 < c.offset + c.len)).map fun c => c.at_ - 4
  let masks := (p.ctxen.filter fun x => decide (nCtx v ≤ x.2.2.1)).map fun x => x.1 - 32
  let outs := (p.stag.filter fun x => (outSlot v x.2.2.1).isNone).map (·.1)
    ++ (p.limp.filter fun x => (outSlot v x.2.2).isNone).map (·.1)
  let wakes := (p.wakes.filter fun x =>
    ((x.2.2.src == 1 || x.2.2.src == 2) && decide (nCan v ≤ x.2.2.index)) || (x.2.2.src == 3 && decide (nLin v ≤ x.2.2.index))).map
      fun x => x.1 + 1
  let per := confModes.flatMap fun m =>
    let gw : List Nat := (p.refs m .GW_RT2).flatMap fun x =>
      let port := p.f m GW_RT2.SRCPORT x.i
      let t := p.f m GW_RT0.SRCT x.i
      if (t = 0 && nCan v ≤ port) || (t = 1 && nLin v ≤ port) then p.hi m [⟨.GW_RT0, x.i, 0, 0⟩, x] else []
    let bufs : List Nat := (p.refs m .LCH_BUF).flatMap fun x =>
      let n := p.f m LCH_CFG.NEXP x.i
      if [p.f m LCH_BUF.BUFA x.i, p.f m LCH_BUF.BUFB x.i].all fun b => decide (b + n ≤ nBanks v * 4096) then []
      else p.hi m [x, ⟨.LCH_CFG, x.i, 0, 0⟩]
    let sbufs : List Nat := (p.refs m .LCH_SBUF).flatMap fun x =>
      if p.f m LCH_SBUF.SADDR x.i + p.f m LCH_CFG.NEXP x.i ≤ nBanks v * 4096 then [] else p.hi m [x, ⟨.LCH_CFG, x.i, 0, 0⟩]
    let str : List Nat := (p.refs m .ETH_STR3).flatMap fun x =>
      if p.f m ETH_STR3.EN x.i = 0 || p.f m ETH_STR4.DIR x.i = 1 || ethFitted v (p.f m ETH_STR4.PORT x.i) then []
      else p.hi m [x, ⟨.ETH_STR4, x.i, 0, 0⟩]
    gw ++ bufs ++ sbufs ++ str
  secs ++ words ++ ctxs ++ code ++ masks ++ outs ++ wakes ++ per

/-! ## Step 12 -/

/-- The entries of a list whose key an earlier entry has. -/
def repeats {α β : Type} [BEq β] (key : α → β) : List α → List α
  | [] => []
  | x :: xs => (xs.filter fun y => key y == key x) ++ repeats key xs

/-- R100, step 12: what two records write. -/
def Parsed.dupBad (p : Parsed) : List Nat :=
  ((repeats (fun (x : ImgWord) => (x.mode, x.ref)) p.words).map (·.off))
    ++ ((repeats (fun (x : Nat × CtxDef) => x.2.ctx) p.ctxs).map (·.1))
    ++ ((repeats (fun (x : Nat × Nat × Nat × Bool) => (x.2.1, x.2.2.1)) p.ctxen).map fun x => x.1 - 32)
    ++ ((repeats (fun (x : Nat × Nat × Nat × Nat) => (x.2.1, x.2.2.1)) p.stag).map (·.1))
    ++ ((repeats (fun (x : Nat × Nat × WakeRec) => (x.2.1, x.2.2.src, x.2.2.index)) p.wakes).map (·.1))
    ++ ((repeats (fun (x : Nat × Nat × Nat) => x.2.2) p.limp).map (·.1))

/-- R638: a base word for a register that a CTXDEF entry gives. -/
def Parsed.ctxDefBad (p : Parsed) : List Nat :=
  (p.words.filter fun x => x.mode == 0 && (x.ref.reg == .CTXC_CFG || x.ref.reg == .CTXC_ENTRY) &&
    p.ctxs.any fun c => c.2.ctx == x.ref.i).map (·.off)

/-- R197, R421: an Annex changes what it must not. -/
def Parsed.annexBad (p : Parsed) : List Nat :=
  (p.words.filter fun x => x.mode != 0 && (
    let same := fun (f : Fld) => ext x.w f.lo f.width == p.f 0 f x.ref.i x.ref.j x.ref.k
    match x.ref.reg with
    | .HSW_CFG => !same HSW_CFG.PGRP || !same HSW_CFG.PRAIL
    | .CAN_QCFG | .CAN_QRDR => x.w != p.word 0 x.ref
    | .CAN_CFG => !same CAN_CFG.GWTX
    | _ => false)).map (·.off)

/-- R141: stagger groups. -/
def Parsed.sgBad (p : Parsed) (m : Nat) : List Nat :=
  (List.range 8).flatMap fun g =>
    let us := (List.range 64).filter fun u => p.f m PU_CFG.SG u == g + 1
    let key := fun (u : Nat) => (p.f m PU_CFG.PRE u, p.f m PU_PD.PER u, p.f m PU_CFG.GATEEN u, p.f m PU_CFG.GATE u)
    match us with
    | [] => []
    | u :: vs =>
      if (vs.all fun v => key v == key u) && us.all fun v => p.f m PU_CFG.TICK v == 0 && p.f m PU_CFG.MODE v == 0 then []
      else p.hi m (us.flatMap fun v => [⟨.PU_CFG, v, 0, 0⟩, ⟨.PU_PD, v, 0, 0⟩])

/-- The lines that a logic cell reads. -/
def Parsed.cellLines (p : Parsed) (m c : Nat) : List Nat :=
  [p.f m LC_INAB.A c, p.f m LC_INAB.B c, p.f m LC_INCD.C c, p.f m LC_INCD.D c]

/-- R147: the number of COMB cells on the longest route that ends at a line, counted up to the first argument, and the words
on its routes. -/
def Parsed.route (p : Parsed) (m : Nat) : Nat → Nat → Nat × List RegRef
  | 0, _ => (0, [])
  | fuel + 1, l =>
    let c := p.f m FAB_LSRC.INDEX l
    if p.f m FAB_LSRC.KIND l = 5 && p.f m LC_CFG.MODE c = 0 then
      let rs := (p.cellLines m c).map (p.route m fuel)
      (1 + (rs.map (·.1)).foldl max 0,
        [⟨.FAB_LSRC, l, 0, 0⟩, ⟨.LC_INAB, c, 0, 0⟩, ⟨.LC_INCD, c, 0, 0⟩, ⟨.LC_CFG, c, 0, 0⟩] ++ rs.flatMap (·.2))
    else (0, [⟨.FAB_LSRC, l, 0, 0⟩])

/-- R147: routes of more than four COMB cells, and loops of them. -/
def Parsed.routeBad (p : Parsed) (m : Nat) : List Nat :=
  let cells := ((p.refs m .LC_INAB) ++ (p.refs m .LC_INCD)).map (·.i)
    ++ (((p.refs m .FAB_LSRC).filter fun x => p.f m FAB_LSRC.KIND x.i == 5).map fun x => p.f m FAB_LSRC.INDEX x.i)
  let sinks : List (RegRef × Nat) :=
    ((p.refs m .FAB_OSEL).flatMap fun x =>
      (if p.f m FAB_OSEL.INCON x.i = 1 then [(x, p.f m FAB_OSEL.IN x.i)] else [])
        ++ if p.f m FAB_OSEL.DIRCON x.i = 1 then [(x, p.f m FAB_OSEL.DIR x.i)] else [])
    ++ (((p.refs m .PU_CFG).filter fun x => p.f m PU_CFG.GATEEN x.i == 1).map fun x => (x, p.f m PU_CFG.GATE x.i))
    ++ (((p.refs m .ER_CFG).filter fun x => p.f m ER_CFG.EDGE x.i != 0).map fun x => (x, p.f m ER_CFG.LINE x.i))
    ++ (cells.flatMap fun c => (p.cellLines m c).map fun l => (⟨.LC_INAB, c, 0, 0⟩, l))
  sinks.flatMap fun k =>
    let r := p.route m 5 k.2
    if r.1 ≤ 4 then [] else p.hi m (k.1 :: r.2)

/-- R195: parallel groups. -/
def Parsed.pgrpBad (p : Parsed) (m : Nat) : List Nat :=
  [1, 2, 3, 4].flatMap fun g =>
    let ns := (List.range 48).filter fun n => p.f m HSW_CFG.PGRP n == g
    let key := fun (n : Nat) => ([Reg.HSW_CFG, .HSW_LIM, .HSW_INR0, .HSW_INR1, .HSW_TIME, .HSW_FB].map fun r =>
      p.word m ⟨r, n, 0, 0⟩, p.f m FAB_OSEL.IN n, p.f m FAB_OSEL.INCON n)
    match ns with
    | [] => []
    | n :: rest =>
      if rest.length < 1 || 3 < rest.length then p.hi m (ns.map fun n => ⟨.HSW_CFG, n, 0, 0⟩)
      else if rest.all fun k => key k == key n then []
      else p.hi m (ns.flatMap fun n => [⟨.FAB_OSEL, n, 0, 0⟩] ++
        [Reg.HSW_CFG, .HSW_LIM, .HSW_INR0, .HSW_INR1, .HSW_TIME, .HSW_FB].map fun r => ⟨r, n, 0, 0⟩)

/-- R278: enabled LED channels. -/
def Parsed.ledBad (p : Parsed) (m : Nat) : List Nat :=
  let en := (List.range 16).filter fun i => p.f m LED_CFG.EN i == 1
  let unit := fun (i : Nat) => p.f m LED_CFG.PU i
  let sg := p.f m LED_PCFG.SG + 1
  let members := (List.range 64).filter fun u => p.f m PU_CFG.SG u == sg
  let others := (List.range 16).filter fun i => (p.at_ m .LED_CFG i).isSome && p.f m LED_CFG.EN i == 1
  en.flatMap fun i =>
    let u := unit i
    let l := p.f m FAB_OSEL.IN (77 + i)
    let per := 10 * (p.f m PU_CFG.PRE u + 1) * p.f m PU_PD.PER u
    let ok := (others.all fun k => k == i || unit k != u)
      && p.f m PU_CFG.TICK u = 0 && p.f m PU_CFG.MODE u = 0 && p.f m PU_CFG.GATEEN u = 0 && p.f m PU_PH.OWNED u = 0
      && p.f m PU_CFG.SG u = sg && (members.all fun w => en.any fun k => unit k == w)
      && p.f m FAB_OSEL.INCON (77 + i) = 1 && p.f m FAB_LSRC.KIND l = 4 && p.f m FAB_LSRC.INDEX l = u && p.f m FAB_LSRC.INV l = 0
      && 40000 ≤ per && per ≤ 2500000
    if ok then [] else p.hi m ([⟨.LED_CFG, i, 0, 0⟩, ⟨.LED_PCFG, 0, 0, 0⟩, ⟨.FAB_OSEL, 77 + i, 0, 0⟩, ⟨.FAB_LSRC, l, 0, 0⟩,
      ⟨.PU_CFG, u, 0, 0⟩, ⟨.PU_PD, u, 0, 0⟩, ⟨.PU_PH, u, 0, 0⟩])

/-- R320: lamp groups' inputs. -/
def Parsed.lgBad (p : Parsed) (m : Nat) : List Nat :=
  (List.range 8).flatMap fun g =>
    let j := p.f m LG_NTC2.AIN g
    if p.f m LG_NTC2.EN g = 0 || (p.f m AIN_CFG.RANGE j = 0 && p.f m AIN_CFG.RATIO j = 1) then []
    else p.hi m [⟨.LG_NTC2, g, 0, 0⟩, ⟨.AIN_CFG, j, 0, 0⟩]

/-- R381: migration targets. -/
def Parsed.migBad (p : Parsed) (v : Variant) (m : Nat) : List Nat :=
  (List.range (nCores v)).flatMap fun d =>
    let t := ext (p.word m ⟨.CTX_MIG, 0, 0, 0⟩) (3 * d) 3
    if t = 7 then []
    else
      let bad := (List.range 256).filter fun c =>
        ((p.enabled m c).1 || (p.look m ⟨.CTXC_ENTRY, c, 0, 0⟩).isSome) && p.f m CTXC_CFG.AFFIN c == d && !p.covers t (p.f m CTXC_ENTRY.ENTRY c)
      (if t = d then p.hi m [⟨.CTX_MIG, 0, 0, 0⟩] else [])
        ++ bad.flatMap fun c => p.hi m [⟨.CTX_MIG, 0, 0, 0⟩, ⟨.CTXC_CFG, c, 0, 0⟩, ⟨.CTXC_ENTRY, c, 0, 0⟩]

/-- R442, R446: what valid gateway entries need. -/
def Parsed.gwDest (p : Parsed) (m : Nat) : List Nat :=
  ((p.refs m .GW_RT2).filter fun x => p.f m GW_RT2.VALID x.i == 1).flatMap fun x =>
    let lin := ((List.range 6).filter fun n => bitOf (p.f m GW_RT2.LINMASK x.i) n).flatMap fun n =>
      if (p.refs m .LIN_TE).any fun t => t.i == n && p.f m LIN_TE.PUB n t.j t.k == 1
        && p.f m LIN_TE.DSLOT n t.j t.k == p.f m GW_RT2.LINSLOT x.i then [] else p.hi m [x]
    let can := ((List.range 8).filter fun n => bitOf (p.f m GW_RT2.CANMASK x.i) n).flatMap fun n =>
      if p.f m CAN_CFG.GWTX n = 1 then [] else p.hi m [x, ⟨.CAN_CFG, n, 0, 0⟩]
    lin ++ can

/-- R451: two FOLLOWER ports. -/
def Parsed.nmBad (p : Parsed) (m : Nat) : List Nat :=
  let fs := (List.range 8).filter fun n => p.f m NM_PORT.ROLE n == 2
  if fs.length ≤ 1 then [] else p.hi m (fs.map fun n => ⟨.NM_PORT, n, 0, 0⟩)

/-- R500: two valid overrides of one source. -/
def Parsed.ovrBad (p : Parsed) (m : Nat) : List Nat :=
  let vs := (List.range 512).filter fun i => p.f m FLT_OVR.V i == 1
  vs.flatMap fun i => vs.flatMap fun k =>
    if i < k && p.f m FLT_OVR.SRC i = p.f m FLT_OVR.SRC k then p.hi m [⟨.FLT_OVR, i, 0, 0⟩, ⟨.FLT_OVR, k, 0, 0⟩] else []

/-- R198, R530: twinned channels. -/
def Parsed.twinBad (p : Parsed) (m : Nat) : List Nat :=
  ((List.range 16).filter fun i => bitOf (p.f 0 TWN_MAP.TWIN) i).flatMap fun i =>
    let n := 8 + i
    let map := (⟨.TWN_MAP, 0, 0, 0⟩ : RegRef)
    (if p.f m HSW_CFG.PGRP n = 0 then [] else p.hi m [map, ⟨.HSW_CFG, n, 0, 0⟩])
      ++ if bitOf (p.f 0 TWN_PEN.EN 0) n && bitOf (p.f 0 TWN_DEN.EN 0) n then []
        else p.hi 0 [map, ⟨.TWN_PEN, 0, 0, 0⟩, ⟨.TWN_DEN, 0, 0, 0⟩]

/-- R100, step 12: every conflict. -/
def step12 (v : Variant) (p : Parsed) : List Nat :=
  p.dupBad ++ p.ctxDefBad ++ p.annexBad ++ confModes.flatMap fun m =>
    p.sgBad m ++ p.routeBad m ++ p.pgrpBad m ++ p.ledBad m ++ p.lgBad m ++ p.migBad v m ++ p.gwDest m ++ p.nmBad m ++ p.ovrBad m
      ++ p.twinBad m

/-! ## Steps 13 and 14 -/

/-- R100, step 13. -/
def step13 (ss : List Sec) : List Nat :=
  (ss.filter fun x => decide (0x50 ≤ x.typ) && decide (x.typ ≤ 0x5B) && (if walked x then decide (16384 < x.len) else x.len != 0)).map
    fun x => x.off + 4

/-- R67, R100 step 14: an output of mode 1 or 2 whose IN line is that of a pulse unit constantly high on it. -/
def step14 (v : Variant) (p : Parsed) : List Nat :=
  [1, 2].flatMap fun m => ((List.range 93).filter (slotFitted v)).flatMap fun t =>
    let l := p.f m FAB_OSEL.IN t
    let u := p.f m FAB_LSRC.INDEX l
    let inv := p.f m FAB_LSRC.INV l
    let const := (p.f m PU_PD.PER u ≤ p.f m PU_PD.DUTY u && inv = 0) || (p.f m PU_PD.DUTY u = 0 && inv = 1)
    if p.f m FAB_OSEL.INCON t = 1 && p.f m FAB_LSRC.KIND l = 4 && p.f m PU_CFG.MODE u = 0 && p.f m PU_CFG.GATEEN u = 0 && const then
      p.hi m [⟨.FAB_OSEL, t, 0, 0⟩, ⟨.FAB_LSRC, l, 0, 0⟩, ⟨.PU_CFG, u, 0, 0⟩, ⟨.PU_PD, u, 0, 0⟩]
    else []

/-! ## The image as the module runs it -/

/-- The Catalogue that an image holds. -/
def catalogueOf (v : Variant) (rd : Rd) (p : Parsed) : Catalogue where
  startMode := (rd 20).toNat
  resume := rd 21 = 1
  limpExit := (rd 22).toNat
  poll := rd16 rd 24
  win := (rd 26).toNat
  matrix := (List.range 12).map fun f => rd16 rd (28 + 2 * f)
  target := rd16 rd 64
  pair := rd 66 = 1
  imgver := rd32 rd 68
  rollback := rd32 rd 72
  uidP := rdBytes rd 80 16
  uidD := rdBytes rd 96 16
  base := (p.all.filter (·.mode == 0)).map fun x => (x.ref, x.w)
  ctxdefs := p.ctxs.map (·.2)
  code := p.code.map fun c => (c.core, c.offset, rdBytes rd c.at_ c.len)
  stagger := (p.stag.filter (·.2.1 == 0)).filterMap fun x => (outSlot v x.2.2.1).map fun t => (t, x.2.2.2)
  annexes := (List.range 12).map fun m =>
    if m = 0 then default else
    { regs := (p.words.filter (·.mode == m)).map fun x => (x.ref, x.w)
      ctxen := (p.ctxen.filter (·.2.1 == m)).map fun x => x.2.2
      stagger := (p.stag.filter (·.2.1 == m)).filterMap fun x => (outSlot v x.2.2.1).map fun t => (t, x.2.2.2)
      wake := (p.wakes.filter (·.2.1 == m)).map fun x => x.2.2
      limpexc := (p.limp.filter (·.2.1 == m)).filterMap fun x => outSlot v x.2.2 }

/-- What the loader knows of the module besides the slot: the variant, the module's UID and strap, the image keys that are
installed and authenticate, the floor in force (R109), and whether a read met an uncorrectable error. -/
structure LoadEnv where
  variant : Variant
  uid : List Byte
  deputy : Bool
  key : Nat → Option (List Byte)
  floor : Nat
  readErr : Bool

/-- R90, R100 step 7: the UID binding and the role. -/
def identOk (e : LoadEnv) (rd : Rd) : Bool :=
  let p := rdBytes rd 80 16
  let d := rdBytes rd 96 16
  let zero := List.replicate 16 (0 : Byte)
  if rd 66 = 1 then p ≠ d && p ≠ zero && d ≠ zero && ((e.uid = p && !e.deputy) || (e.uid = d && e.deputy))
  else p = zero || p = e.uid

/-- R98: the signature over everything before the Signature's TLV header. -/
def signatureOk (key : List Byte) (rd : Rd) : Bool :=
  ecdsaVerify key (sha256 (rdBytes rd 0 (sigOff rd))) (rdBytes rd (sigOff rd + 12) 32) (rdBytes rd (sigOff rd + 44) 32)

/-- R100, steps 1 to 8, before any content is parsed. -/
def authCode (e : LoadEnv) (rd : Rd) : Nat :=
  let sig := sigOff rd
  let sel := (rd (sig + 8)).toNat
  if !headerOk rd then 1
  else if rd16 rd sig ≠ 0xFF || rd32 rd (sig + 4) ≠ 68 then 2
  else if e.readErr then 3
  else if 2 ≤ sel || (rdBytes rd (sig + 9) 3).any (· ≠ 0) then 4
  else match e.key sel with
    | none => 4
    | some k =>
      if !signatureOk k rd || sel ≠ b2n (rd 66 = 1) then 5
      else if rd16 rd 64 ≠ (match e.variant with | .nz9640 => 0x9640 | .nz9620 => 0x9620) then 6
      else if !identOk e rd then 7
      else if rd32 rd 72 < e.floor then 8
      else 0

/-- R100, steps 9 to 14. -/
def parseImage (v : Variant) (rd : Rd) : LoadErr ⊕ Catalogue :=
  match sections v rd with
  | .inl e => .inl e
  | .inr ss =>
    let p := parse v rd ((ss.filter walked).flatMap fun x => (recsOf rd x).1)
    match [(10, step10 v rd ss p), (11, step11 v ss p), (12, step12 v p), (13, step13 ss), (14, step14 v p)].findSome? fun c =>
        lowest rd ss c.1 c.2 with
    | some e => .inl e
    | none => .inr (catalogueOf v rd p)

/-- R100: the loader's verdict on a slot. -/
def loadImage (e : LoadEnv) (rd : Rd) : LoadErr ⊕ Catalogue :=
  let c := authCode e rd
  if c ≠ 0 then .inl ⟨c, 0, 0⟩ else parseImage e.variant rd

/-! ## Slots (R103 to R109) -/

/-- The base address of a slot (false: A). -/
def slotBase (b : Bool) : Nat := if b then 0x10400000 else 0x10000000

/-- R103: the copy in force of a two-copy record. -/
def copyInForce : List FlashCopy → Option FlashCopy
  | [] => none
  | c :: cs => match copyInForce cs with
    | none => if c.valid then some c else none
    | some d => if c.valid && d.seq ≤ c.seq then some c else some d

/-- R103: slot B is primary. -/
def State.primary (s : State) : Bool := ((copyInForce s.cat.slotCtl).map (·.value)).getD 0 == 1

/-- R105: the floor in force. -/
def State.floor (s : State) : Nat := ((copyInForce s.cat.floor).map (·.value)).getD 0

/-- The other copy is written with the next sequence number (R103, R105). -/
def commitCopy (cs : List FlashCopy) (value : Nat) : List FlashCopy :=
  match copyInForce cs with
  | none => [⟨true, 1, value⟩]
  | some c => [c, ⟨true, c.seq + 1, value⟩]

/-- The checks 1 to 14 on a slot. -/
def State.checkSlot (s : State) (b readErr : Bool) : LoadErr ⊕ Catalogue :=
  loadImage ⟨s.variant, deviceUid, s.sys.deputyStrap, s.imageKey, s.floor, readErr⟩ fun o => s.byte (slotBase b + o)

/-- R100, R101: a slot's CAT_LOADx and CAT_LOADxOFF. -/
def State.loadResult (s : State) (b : Bool) (e : LoadErr) : State :=
  if b then ((s.put CAT_LOADB.ERR e.code).put CAT_LOADB.TYPE e.type).put CAT_LOADBOFF.OFFSET e.off
  else ((s.put CAT_LOADA.ERR e.code).put CAT_LOADA.TYPE e.type).put CAT_LOADAOFF.OFFSET e.off

end Sys2Proof.Machine
end

