-- ==== Sys2Proof/Machine/FltCore.lean ====
section
/-! DEFINITION. The Conservator's shared operations (spec/16): classification of a report, forcing and releasing groups, the
log, attention, the loss of a half. -/

namespace Sys2Proof.Machine

/-! ## Sources and their entries (R495 to R504) -/

/-- R496, R501: the output slot of a source, by the unit numbers of R203, R233, R275 and R295. -/
def srcSlot (src : Nat) : Option Nat :=
  let u := src / 8 % 64
  match src / 512 with
  | 2 => if u < 48 then some u else none
  | 3 => if u < 12 then some (48 + u) else none
  | 4 => if u < 12 then some (60 + u)
    else if 16 ≤ u && u < 19 then some (72 + (u - 16))
    else if 24 ≤ u && u < 26 then some (75 + (u - 24)) else none
  | 5 => if u < 16 then some (77 + u) else none
  | _ => none

/-- R500: the lowest-numbered valid override that names the source. -/
def State.override (s : State) (src : Nat) : Option Nat :=
  (s.regs.filterMap fun p => if p.1.reg = .FLT_OVR then some p.1.i else none).foldl (fun m i =>
    if s.bit FLT_OVR.V i && s.fld FLT_OVR.SRC i = src then
      match m with
      | some j => some (min i j)
      | none => some i
    else m) none

/-- R500, R499: the entry of a source, as an FLT_DEF word. Block 0xE has severity LIMP and class SAFETY. -/
def State.entryOf (s : State) (src : Nat) : Word :=
  if src / 512 = 14 then 0x24
  else match s.override src with
    | some i => s.reg ⟨.FLT_OVRENT, i, 0, 0⟩
    | none => s.reg ⟨.FLT_DEF, src / 512, src % 8, 0⟩

/-- A field of an entry word. -/
def entF (w : Word) (f : Fld) : Nat := ext w f.lo f.width

/-- R501: the reaction group of a source; block 0xE names none (R499). -/
def State.groupOf (s : State) (src : Nat) : Option Nat :=
  let e := s.entryOf src
  if src / 512 = 14 then none
  else if entF e FLT_DEF.RGOWN = 1 then (srcSlot src).map fun t => s.fb t HSW_FB.RGRP
  else some (entF e FLT_DEF.RG)

/-- R503: the owner context of a report. -/
def State.ownerOf (s : State) (src : Nat) : Option Nat :=
  match srcSlot src with
  | some t =>
    if !s.bit FAB_OSEL.INCON t then none
    else
      let n := s.fld FAB_OSEL.IN t
      match s.fld FAB_LSRC.KIND n with
      | 6 => some (s.fld FAB_LSRC.INDEX n)
      | 4 =>
        let u := s.fld FAB_LSRC.INDEX n
        if s.bit PU_PH.OWNED u then some (s.fld PU_PH.OWNER u) else none
      | _ => none
  | none =>
    let e := s.entryOf src
    if src / 512 ≠ 14 && entF e FLT_DEF.DCTXV = 1 then some (entF e FLT_DEF.DCTX) else none

/-- R504: the severity that a report takes, shadow and DRY aside. -/
def State.sevOf (s : State) (src : Nat) : Nat :=
  let v := entF (s.entryOf src) FLT_DEF.SEV
  let v := if v = 5 && !s.isPair then 4 else v
  if v = 4 && (s.mode ≤ 2 || 9 ≤ s.mode) then 3 else v

/-! ## Groups (R505 to R512) -/

/-- FLT_STAT.FORCED and FLT_RGSTATg.FORCED show the groups that either half forces; a half that is lost is not heeded (R121, R523,
R524). -/
def State.showForced (s : State) : State :=
  let f := s.forcedBy
  let s := s.put FLT_STAT.FORCED f.toNat
  forEach (List.range 16) (fun g s =>
    if s.bit FLT_RGSTAT.FORCED g = f.getLsbD g then s else s.flag FLT_RGSTAT.FORCED (f.getLsbD g) g) s

/-- R505: the group is forced. -/
def State.isForced (s : State) (g : Nat) : Bool := bitOf (s.fld FLT_STAT.FORCED) g

/-- What a changed force reaches: KIND 7 lines and LED channels. -/
def State.forceReach (s : State) : State := s.settle.ledSync

/-- The same on a mode boundary, which is one clock edge (R57). -/
def State.boundaryReach (s : State) : State := s.settleLines.ledSync

/-- R505: both halves that run force the group. -/
def State.forceGroup (s : State) (g : Nat) : State :=
  let s := { s with flt := { s.flt with
    forceA := if s.bit FLT_STAT.AOK then setBitV s.flt.forceA g true else s.flt.forceA
    forceB := if s.bit FLT_STAT.BOK then setBitV s.flt.forceB g true else s.flt.forceB } }
  s.showForced.forceReach

/-- R508: the group is released. -/
def State.releaseGroup (s : State) (g : Nat) : State :=
  let keep := fun (l : List (Nat × Bool)) => l.filter fun p => s.fb p.1 HSW_FB.RGRP != g
  let s := { s with flt := { s.flt with
    forceA := setBitV s.flt.forceA g false, forceB := setBitV s.flt.forceB g false
    levA := keep s.flt.levA, levB := keep s.flt.levB } }
  s.showForced.forceReach

/-- R508: the conditions for releasing a group. -/
def State.releasable (s : State) (g : Nat) : Bool :=
  s.isForced g && !s.bit FLT_RGSTAT.SEQ g && !s.bit FLT_RGSTAT.SHWIN g &&
    !s.flt.active.any fun a => a.group == some g

/-- R512: the shadow map of a group as it stands in the tables in force. -/
def State.shadowMap (s : State) (g : Nat) : List (Nat × Nat) :=
  ((List.range 16).filter fun e => s.bit FLT_SHM.V g e).map fun e => (s.fld FLT_SHM.SRC g e, s.fld FLT_SHM.MASK g e)

/-- R506, R507: a sequence of the group starts; of an already forced group it ends at once, and a window opens. -/
def State.startSequence (s : State) (g : Nat) (forced : Bool) : State :=
  let s := { s with flt := { s.flt with grps := Tbl.set s.flt.grps g ⟨s.shadowMap g⟩ } }
  let s := s.wrap FLT_RGSTAT.COUNT g
  if forced then s.flag FLT_RGSTAT.SHWIN true g else s.flag FLT_RGSTAT.SEQ true g

/-- R510: an open shadow window of some group has an entry that matches the source. -/
def State.shadowed (s : State) (src : Nat) : Bool :=
  (List.range 16).any fun g => s.bit FLT_RGSTAT.SHWIN g &&
    (Tbl.get s.flt.grps g default).shm.any fun p => (Nat.xor src p.1) &&& p.2 == 0

/-! ## Log, attention, activity -/

/-- R513: a condition report. -/
def reportWord (time src sev : Nat) (real inj shadow partner : Bool) (detail : Nat) : BitVec 64 :=
  BitVec.ofNat 64 (time * 2 ^ 32 + src * 2 ^ 19 + sev * 2 ^ 16 + b2n real * 2 ^ 15 + b2n inj * 2 ^ 14 +
    b2n shadow * 2 ^ 13 + b2n partner * 2 ^ 12 + detail)

/-- R515, R516: the memory island runs, so the log can be written. -/
def State.memUp (s : State) : Bool := s.bit MEM_STAT.INIT

/-- R515, R516: a report awaits its writing; while the memory island is down a half holds 32 reports. -/
def State.logReport (s : State) (w : BitVec 64) : State :=
  if !s.memUp && 32 ≤ s.flt.logq.length then s.flag FLT_STAT.BUFOVF true
  else { s with flt := { s.flt with logq := s.flt.logq ++ [w] } }

/-- R517: attention of a class. -/
def State.attend (s : State) (cls : Nat) : State :=
  let s := s.wrap FLT_ATTN.SEQ
  if cls = 0 then s else s.put FLT_ATTN.PEND (s.fld FLT_ATTN.PEND ||| 2 ^ (cls - 1))

/-- R509: the source of a report becomes active with the severity applied. -/
def State.activate (s : State) (r : Rep) (sev : Nat) (group : Option Nat) : State :=
  if !r.live then s
  else
    let as := s.flt.active.filter fun a => !(a.src == r.src && a.inj == r.inj && a.sev ≤ sev)
    s.setActive (as ++ [⟨r.src, sev, group, !r.cond, r.inj⟩])

/-! ## Handover (R552) -/

/-- The payload of a closing frame. -/
def State.closingFrame (s : State) (cause : Nat) : List Byte := BitVec.ofNat 8 cause :: 0 :: 0 :: 0 :: s.protAll.flatten

/-- R552: a HANDOVER report, its group forced: the closing frame leaves, TWOK_O drops, and the change of role is due. -/
def State.handOver (s : State) : State :=
  let s := if s.linkUp && !s.isDeputy then s.twinSend 8 (s.closingFrame 1) else s
  { s with twn := { s.twn with handover := !s.isDeputy } }.dropTwok

/-! ## One report (R507, R509 to R511, R518 to R520) -/

/-- R511: a report that is lost: it is counted, and its source is active as if it had been applied. -/
def State.loseReport (s : State) (r : Rep) (sev : Nat) (g : Option Nat) : State :=
  ((s.count FLT_LOST.CNT).put FLT_LOST.LASTSRC r.src).activate r sev g

/-- R502, R517, R503, R505, R59, R552: what a severity does, from attention up; a report of block 0xE enters Limp by R522 and R523
alone (R499). `win` and `was` are the groups in a shadow window
and those forced before the Conservator edge. -/
def State.react (s : State) (src sev : Nat) (g : Option Nat) (win : List Nat) (was : List Nat) : State :=
  let s := if 1 ≤ sev then s.attend (entF (s.entryOf src) FLT_DEF.ATTN) else s
  let s := if 2 ≤ sev && s.sys.phase != .hold then
      match s.ownerOf src with
      | some c => s.quarantine c 4
      | none => s
    else s
  let s := if 3 ≤ sev then
      match g with
      | some g =>
        if s.bit FLT_RGSTAT.SEQ g || win.contains g then s
        else if was.contains g then (if s.bit FLT_RGSTAT.SHWIN g then s else s.startSequence g true)
        else (s.forceGroup g).startSequence g false
      | none => s
    else s
  let s := if sev = 4 && src / 512 ≠ 14 then s.enterLimp else s
  if sev = 5 then s.cancelForHandover.handOver else s

/-- One report of a Conservator edge. `seq`, `win` and `was`: the groups in a sequence, in a window and forced before the edge. -/
def State.classify (s : State) (seq win was : List Nat) (r : Rep) : State :=
  let injOn := s.fld FLT_INJSTAT.MODE != 0 && s.fld FLT_INJSTAT.SRC == r.src
  let dry := r.inj && !r.cond
  let shadow := s.shadowed r.src
  let sev := if shadow || dry then 0 else s.sevOf r.src
  let g := if 3 ≤ sev then s.groupOf r.src else none
  let s := if injOn && !r.inj then s.flag FLT_INJSTAT.COINC true else s
  if (match g with | some g => seq.contains g | none => false) then s.loseReport r sev g
  else
    let s := s.logReport (reportWord r.time r.src sev (!r.inj) (r.inj || injOn) shadow false r.detail)
    (s.activate r sev g).react r.src sev g win was

/-! ## The halves (R521 to R524) -/

/-- R523: a half is lost: it stops forcing, the other raises its kind, and the module enters Limp. -/
def State.loseHalf (s : State) (h : Half) (kind detail : Nat) : State :=
  let s := match h with
    | .A => s.flag FLT_STAT.AOK false
    | .B => s.flag FLT_STAT.BOK false
  let u := match h with
    | .A => 0
    | .B => 1
  ((s.raiseCond 14 u kind detail).dropTwok).enterLimp.showForced.forceReach

/-- The half runs. -/
def State.halfOk (s : State) (h : Half) : Bool := match h with | .A => s.bit FLT_STAT.AOK | .B => s.bit FLT_STAT.BOK

end Sys2Proof.Machine
end

