-- ==== Sys2Proof/Machine/Hsw.lean ====
section
/-! DEFINITION. The commands of the high-side channels (spec/05 R154 to R204). -/

namespace Sys2Proof.Machine

/-- R204: detail of a report with a current at detection. -/
def State.hswIDetail (s : State) (n iMa : Nat) : Nat := s.hs n * 512 + satTo (iMa / ilimStep n) 9

/-- The current limit of the registers in mA. -/
def State.ilimMa (s : State) (n : Nat) : Nat := s.fld HSW_LIM.ILIM n * ilimStep n

/-- R194: the short on-period in progress at a leader is the DSTR-th one. -/
def State.stretchDue (s : State) (n : Nat) : Bool :=
  s.conducting n && s.bit HSW_OL.STRETCH n && !(s.ch n).long && dstr (s.fld HSW_OL.DSTR n) ≤ (s.ch n).shorts + 1

/-- R194, R196: an on-period ends on rank 4: where it is the DSTR-th short one of the leader, it is stretched, through the group. -/
def State.hswEnd (s : State) (n : Nat) : State :=
  let l := s.leader n
  if s.sys.fabricUp && (s.forced n).isNone && (s.out n).follow = .lines && ((s.ch l).stretching || s.stretchDue l) then
    let s := if l = n then s.shortEnd n else s
    (s.setCh n { s.ch n with stretching := true }).hswShow n
  else s.hswOff n 0

/-- CHANNEL_COMMAND_CHANGE (R157, R156, R167): the channel follows its command: on from OFF through INRUSH or ON, off from
the conducting states; in TRIPPED an OFF command may complete an EDGE recovery. A stretch is ended by ranks 1 to 3. -/
def execChannelCommandChange (n : Nat) (s : State) : Out :=
  .next <| s.ship <|
    if !hswFitted s.variant n then s
    else
      let s := s.hswShow n
      let s :=
        if s.conducting n then
          if (s.cmd n).1 then s.setCh n { s.ch n with stretching := false }
          else if (s.ch n).stretching then
            if (s.forced n).isSome || (s.out n).follow != .lines then s.hswOff n 0 else s
          else s.hswEnd n
        else if s.hs n = 0 then s.hswFollow n
        else s.tryRecover n false
      s.hswShow n

/-- CHANNEL_SHORT_CUT (R164): a conducting channel crosses ISC: kind 0. The condition clears as the stage turns off. -/
def execChannelShortCut (n iMa : Nat) (s : State) : Out :=
  .next <| s.ship <|
    let iMa := s.sensedMa n iMa
    if !hswFitted s.variant n || !s.conducting n || !crossesIsc (iscMa n (s.fld HSW_LIM.ISC n)) iMa then s
    else (s.flag HSW_STAT.SC true n).trip n 0 (s.hswIDetail n iMa) true

/-- CURRENT_LIMIT_ENTRY (R166): in ON the current reaches ILIM, which holds to ±8 %: LIMIT. -/
def execCurrentLimitEntry (n iMa : Nat) (s : State) : Out :=
  .next <| s.ship <|
    let iMa := s.sensedMa n iMa
    if hswFitted s.variant n && s.hs n = 2 && 92 * s.ilimMa n ≤ 100 * iMa then s.setHs n 3 else s

/-- CURRENT_LIMIT_EXIT (R157): in LIMIT the load current falls below 95 % of ILIM, which holds to ±8 %: ON. -/
def execCurrentLimitExit (n iMa : Nat) (s : State) : Out :=
  .next <| s.ship <|
    let iMa := s.sensedMa n iMa
    if hswFitted s.variant n && s.hs n = 3 && 100 * iMa < 103 * s.ilimMa n then s.setHs n 2 else s

/-- TLIM_EXPIRY (R166): TLIM in LIMIT: kind 1. -/
def execTlimExpiry (n iMa : Nat) (s : State) : Out :=
  .next <| s.ship <|
    let iMa := s.sensedMa n iMa
    if hswFitted s.variant n && s.hs n = 3 then
      (s.flag HSW_STAT.OC true n).trip n 1 (s.hswIDetail n iMa) true
    else s

/-- INRUSH_WINDOW_END (R174): ON at or below ILIM; above it LIMIT, or one extension where a droop was recorded. -/
def execInrushWindowEnd (n iMa : Nat) (s : State) : Out :=
  .next <| s.ship <|
    let iMa := s.sensedMa n iMa
    if hswFitted s.variant n && s.hs n = 1 && !(s.ch n).extended then
      if iMa ≤ s.ilimMa n then s.setHs n 2
      else if (s.ch n).droop then (s.setCh n { s.ch n with extended := true }).flag HSW_STAT.INREXT true n
      else s.setHs n 3
    else s

/-- INRUSH_EXTENSION_END (R174): still above ILIM: TRIPPED with kind 1; otherwise INRUSH completes to ON. -/
def execInrushExtensionEnd (n iMa : Nat) (s : State) : Out :=
  .next <| s.ship <|
    let iMa := s.sensedMa n iMa
    if hswFitted s.variant n && s.hs n = 1 && (s.ch n).extended then
      if s.ilimMa n < iMa then (s.flag HSW_STAT.OC true n).trip n 1 (s.hswIDetail n iMa) true
      else s.setHs n 2
    else s

/-- DROOP_DETECTED (R175): a droop is recorded during the window. -/
def execDroopDetected (n : Nat) (s : State) : Out :=
  .next <| s.ship <|
    if hswFitted s.variant n && s.hs n = 1 && !(s.ch n).extended then s.setCh n { s.ch n with droop := true } else s

/-! ## Wire model (R178 to R182) -/

/-- R178: one update of a rise: K in 0.0001 K/A², p in mA², τ in 0.1 s, over 1 ms. -/
def thetaStep (th : Rat) (k tau p : Nat) : Rat :=
  if tau = 0 then th
  else th + (((k * p : Nat) : Rat) / 10000000000 - th) / ((100 * tau : Nat) : Rat)

/-- TAMB in °C. -/
def State.tamb (s : State) (n : Nat) : Int := signedOf (s.fld HSW_WIRE2.TAMB n) 8

/-- The wire temperature TAMB + θ1 + θ2. -/
def State.wireTemp (s : State) (n : Nat) : Rat := ((s.tamb n : Int) : Rat) + (s.ch n).th1 + (s.ch n).th2

/-- R181: K1 = K2 = 0. -/
def State.wireOff (s : State) (n : Nat) : Bool := s.fld HSW_WIRE0.K1 n = 0 && s.fld HSW_WIRE1.K2 n = 0

/-- HSWn_WTEMP of a channel and, through it, of the members it leads (R196): 0.01 K, saturating. -/
def State.showTheta (s : State) (n : Nat) : State :=
  let c := fun (q : Rat) => satTo (q * 100).floor.toNat 16
  forEach (s.grp n) (fun m s => (s.put HSW_WTEMP.TH1 (c (s.ch n).th1) m).put HSW_WTEMP.TH2 (c (s.ch n).th2) m) s

/-- R179, R181: the wire trip is judged after an update, or its condition cleared. -/
def State.wireJudge (s : State) (n : Nat) : State :=
  let t := s.wireTemp n
  let top : Rat := ((s.fld HSW_WIRE2.TWMAX n : Nat) : Rat)
  let tripped := (s.trip? n).on && (s.trip? n).kind = 2
  if tripped then
    if s.wireOff n || t ≤ top - ((s.fld HSW_WIRE2.TWHYST n : Nat) : Rat) then
      (s.setTrip n { s.trip? n with cond := true }).tryRecover n false
    else s
  else if !s.wireOff n && top ≤ t && s.canTrip n && s.hs n != 6 then
    (s.flag HSW_STAT.WIRE true n).trip n 2 (coilDetail (s.hs n) t.floor.toNat) false
  else s

/-- WIRE_MODEL_UPDATE (R178 to R182, R196, R163): the protection converter's mean of I² (mA², the group's sum at a leader;
0 while off), and with it the scan converters' current, output voltage, ΔT and TJ. Members other than the leader run no
model of their own. -/
def execWireModelUpdate (n p iMa voutMv dt : Nat) (tj : Int) (s : State) : Out :=
  .next <| s.ship <|
    let iMa := s.sensedMa n iMa
    if !hswFitted s.variant n then s
    else
      let s := if s.sys.fabricUp then
          (((s.put HSW_MEAS.I (satTo iMa 20) n).put HSW_MEAS2.VOUT (satTo (voutMv / 10) 12) n).put HSW_MEAS2.DT
            (satTo dt 8) n).sput HSW_MEAS2.TJ tj n
        else s
      if s.leader n ≠ n || s.hs n = 6 then s
      else
        let p := if (s.grp n).any fun m => s.conducting m then p else 0
        let x := s.ch n
        let s := s.setCh n { x with
          th1 := thetaStep x.th1 (s.fld HSW_WIRE0.K1 n) (s.fld HSW_WIRE0.TAU1 n) p
          th2 := thetaStep x.th2 (s.fld HSW_WIRE1.K2 n) (s.fld HSW_WIRE1.TAU2 n) p }
        (s.showTheta n).wireJudge n

/-! ## Junction, stuck on, locks, recovery, open load -/

/-- DELTA_T_TRIP (R184): ΔT has reached DTTRIP (40 K and 10 K per code), outside INRUSH. -/
def execDeltaTTrip (n dt : Nat) (tj : Int) (s : State) : Out :=
  .next <| s.ship <|
    if hswFitted s.variant n && s.hs n != 1 && s.canTrip n && 40 + 10 * s.fld HSW_TIME.DTTRIP n ≤ dt then
      let s := (s.put HSW_MEAS2.DT (satTo dt 8) n).sput HSW_MEAS2.TJ tj n
      (s.flag HSW_STAT.THERM true n).trip n 3 (coilDetail (s.hs n) (256 + tjByte tj)) false
    else s

/-- STUCK_ON (R185): more than ISTUCK flows out of a channel that is off: kind 6, the state unchanged. -/
def execStuckOn (n iMa : Nat) (s : State) : Out :=
  .next <| s.ship <|
    let iMa := s.sensedMa n iMa
    if hswFitted s.variant n && !s.conducting n && istuckMa n < iMa then
      (s.flag HSW_STAT.STUCK true n).hold 2 n 6 (s.hswIDetail n iMa)
    else s

/-- STUCK_ON_CLEAR (R635). -/
def execStuckOnClear (n : Nat) (s : State) : Out := .next <| s.ship <| if hswFitted s.variant n then s.clearSrc 2 n 6 else s

/-- HSW_LOCK_CLEAR (R189, R197): a write of HSW_LOCK0 (`k` 0) or HSW_LOCK1; 1 at an unfitted channel's bit is a reserved
value. -/
def State.runHswLockClear (s : State) (who : Who) (k : Nat) (w : Word) : State :=
  let ns := ((List.range 32).filter fun i => bitOf w.toNat i).map (32 * (k % 2) + ·)
  if ns.all (hswFitted s.variant) then forEach ns (fun n s => if (s.grp n).any s.lockBit then s.lockClear n else s) s
  else s.reserved who

/-- The command of the same name. -/
def execHswLockClear (who : Who) (k : Nat) (w : Word) (s : State) : Out := .next <| s.ship <| s.asWho who 4 fun s => s.runHswLockClear who k w

/-- HSW_CLR_TRIP (R168). -/
def State.runHswClrTrip (s : State) (who : Who) (n : Nat) : State :=
  if hswFitted s.variant n then s.clrTrip n else s.reserved who

/-- The command of the same name. -/
def execHswClrTrip (who : Who) (n : Nat) (s : State) : Out := .next <| s.ship <| s.asWho who 4 fun s => s.runHswClrTrip who n

/-- R193: what a measurement makes of an open-load status: status, below-count, and whether OPEN is newly reached. -/
def olStep (st below cnt : Nat) (ok : Bool) : Nat × Nat × Bool :=
  if ok then (1, 0, false)
  else if cnt ≤ below + 1 then (2, min (below + 1) 7, st != 2) else (st, below + 1, false)

/-- OPEN_LOAD_MEASUREMENT (R192 to R194, R196): at tOLMEAS into an on-period the leader measures its group's summed current, while the
fabric runs and MAINLO does not bar it (R479); a stretched pulse ends here. -/
def execOpenLoadMeasurement (n iMa : Nat) (s : State) : Out :=
  .next <| s.ship <|
    if !hswFitted s.variant n || !s.conducting n || s.leader n ≠ n then s
    else
      let barred := s.diagBarred n || !s.sys.fabricUp
      let s := s.setCh n { s.ch n with long := true, measured := (s.ch n).measured || !barred }
      let s :=
        if barred || s.fld HSW_OL.OLTH n = 0 then s
        else
          let (st, below, new) := olStep (s.fld HSW_STAT.OLSTAT n) (s.ch n).below (s.fld HSW_OL.OLCNT n)
            (s.fld HSW_OL.OLTH n ≤ iMa)
          let s := (s.setCh n { s.ch n with below := below }).setOl n st
          if new then s.hold 2 n 5 (coilDetail (s.hs n) iMa) else s
      forEach (s.grp n) (fun m s => if (s.ch m).stretching && !(s.cmd m).1 then (s.hswOff m 0).hswShow m else s) s

end Sys2Proof.Machine
end

