-- ==== Sys2Proof/Machine/TwinCore.lean ====
section
/-! DEFINITION. Roles, link and resynchronisation of a twin pair, part 1 (spec/17 R526 to R558): taking and leaving roles, what
training and heartbeats start. -/

namespace Sys2Proof.Machine

/-! ## Roles (R528, R529, R531) -/

/-- R531: the twinned channels rest in ARMED; a tripped, locked or disabled one keeps its state. -/
def State.armTwins (s : State) : State :=
  forEach s.twins (fun n s => if s.hs n ≤ 3 then s.hswArm n else s) s

/-- The mirrored contexts that the engine knows. -/
def State.mirCtxs (s : State) : List Nat := s.known.filter s.mirrored

/-- R424: a CAN port of a deputy monitors; one that leaves monitoring integrates anew, what was ACTIVE in the principal being sent
again. -/
def State.monitorPorts (s : State) (on : Bool) : State :=
  forEach (List.range (nCan s.variant)) (fun n s =>
    let s := s.flag CAN_CFG.MON on n
    let s := if on then s else forEach (canBufs.filter fun b => s.bst n b == bActive) (fun b s => s.setBst n b bPending) s
    if s.bit CAN_CFG.EN n && s.canSt n ≠ 0 then s.canStop n 1 else s) s

/-- R528, R529, R531, R424: the member takes the DEPUTY role. -/
def State.becomeDeputy (s : State) : State :=
  let s := { s with twn := { s.twn with choosing := false, handover := false, failback := false, confirmed := false
                                        noLink := false } }.put TWN_STAT.ROLE 1
  let s := forEach s.mirCtxs (fun c s => s.holdCtx c) s
  (s.armTwins.monitorPorts true).schedule

/-- R550 step 2: a twinned channel takes the state of the replica: TRIPPED or LOCKED, or it leaves ARMED and follows its command; one
that its own protection holds off stays off. -/
def State.releaseTwin (s : State) (n : Nat) : State :=
  if s.hs n = 7 then s
  else match s.twn.prot.find? (fun p => p.1 == n - 8) with
    | some (_, r) =>
      let s := (s.setRetries n r.retries).setLock n r.lock
      if r.st = 4 then
        (s.tripMark 0 true n).hswOff n 4
      else if r.st = 5 then s.hswOff n 5
      else if s.hs n = 6 then s.restart n false else s
    | none => if s.hs n = 6 then s.restart n false else s

/-- R550 step 4, R551: a mirrored context continues from the replica, or takes its initial state where the replica is stale; at a
takeover (`ev`) it may be told by an event. -/
def State.releaseCtxs (s : State) (stale ev : Bool) : State :=
  let s := forEach (s.mirCtxs.filter fun c => s.cst c == stHeld) (fun c s =>
    if stale then s.enableCtx c else s.resumeCtx c) s
  let s := if ev && s.bit TWN_CFG.TKEVEN then forEach s.mirCtxs (fun c s => s.setEvent c (s.fld TWN_CFG.TKEVBIT)) s else s
  s.schedule

/-- The role that a driving member has: PRINCIPAL or, by strap deputy, ACTING (R528). -/
def State.driveRole (s : State) : Nat := if s.bit TWN_STAT.STRAP then 2 else 0

/-- R544: a role claim. -/
def State.claim (s : State) (self peer : Nat) : State :=
  if s.linkUp then s.twinSend 9 [BitVec.ofNat 8 self, BitVec.ofNat 8 peer, 0, 0] else s

/-- R550 steps 1 to 5, R558: the member drives the twinned channels and runs the mirrored contexts. -/
def State.takeOver (s : State) (ev : Bool) : State :=
  let stale := s.bit TWN_STAT.STALE
  let groups := (List.range 16).filter fun g => s.twn.groups.getLsbD g
  let s := { s with twn := { s.twn with choosing := false, confirmed := false, noLink := false, closing := 0, quiet := false } }
  let s := s.put TWN_STAT.ROLE s.driveRole
  let s := forEach s.twins (fun n s => s.releaseTwin n) s
  let s := forEach groups (fun g s => s.forceGroup g) s
  (s.releaseCtxs stale ev).monitorPorts false

/-- TAKEOVER (R550, R555): the takeover of a deputy, with its report: cause 1 TWOK_I low, 2 closing frame, 3 start timeout. -/
def State.takeoverBy (s : State) (cause : Nat) : State :=
  let stale := s.bit TWN_STAT.STALE
  let s := ((s.takeOver true).flag TWN_STAT.TOOK true).raise 12 1 0 (2048 * b2n stale + cause)
  s.claim s.driveRole 1

/-- R548: a member in the DEPUTY role may take over. -/
def State.mayTakeOver (s : State) : Bool :=
  s.isPair && s.isDeputy && s.bit TWN_STAT.TWOKO && !s.bit TWN_STAT.TWOKI && s.twn.seenHigh &&
    decide (3 ≤ s.mode) && decide (s.mode ≤ 9)

/-- R557, R556: the strap principal yields. -/
def State.yieldRole (s : State) : State := (s.becomeDeputy.flag TWN_STAT.CONFLICT true).raise 12 1 2 0

/-- R555: a strap principal takes PRINCIPAL at the end of Start. -/
def State.choosePrincipal (s : State) (trained : Bool) : State :=
  let s := { s with twn := { s.twn with choosing := false, noLink := !trained } }.put TWN_STAT.ROLE 0
  let s := forEach s.twins (fun n s => if s.hs n = 6 then s.restart n true else s) s
  (forEach (s.mirCtxs.filter fun c => s.cst c == stHeld) (fun c s => s.resumeCtx c) s).schedule

/-! ## Training (R543, R545) -/

/-- R543: what the member sends while it trains. -/
def State.trainFrame (s : State) : List Byte :=
  leBytes s.twn.nonce.toNat 4 ++ leBytes s.twn.peerNonce.toNat 4 ++ deviceUid ++
    [BitVec.ofNat 8 (b2n (s.bit TWN_STAT.STRAP)), BitVec.ofNat 8 (s.fld TWN_STAT.ROLE), BitVec.ofNat 8 s.mode, 0]

/-- R543, R545: training begins, or begins anew, with a fresh NONCE. -/
def State.trainBegin (s : State) : State :=
  let (w, s) := s.takeFree
  { s with twn := { s.twn with nonce := w, peerNonce := 0, session := [] } }.put TWN_STAT.LINK 1

/-- LINK_TRAINING_BEGIN (R545): a member of a pair trains its link after S4; both lanes are up then. A sealed key store has no
pair key (R586). -/
def State.linkStart (s : State) : State :=
  if s.isPair && s.pairKey.isSome then (s.put TWN_STAT.LANES 3).trainBegin else s

/-- R544: a heartbeat. -/
def State.heartbeat (s : State) : State :=
  let t := s.twn
  let (echo, turn) := match t.hb with
    | some (tx, at_) => (tx, s.seen - at_)
    | none => (0, 0)
  s.twinSend 6 (leBytes s.seen 8 ++ leBytes echo 8 ++ leBytes turn 4 ++ leBytes (t.rxNext - 1) 4 ++
    [BitVec.ofNat 8 (s.fld TWN_STAT.ROLE), BitVec.ofNat 8 s.mode,
     BitVec.ofNat 8 (b2n (s.bit TWN_STAT.STALE) + 2 * b2n (s.bit TWN_STAT.TWOKO)), 0])

/-! ## Resynchronisation (R538) -/

/-- A resynchronisation begins: LINK reads RESYNC, STALE reads 1. -/
def State.resyncMark (s : State) : State :=
  ({ s with twn := { s.twn with canFresh := true } }.put TWN_STAT.LINK 2 |>.flag TWN_STAT.STALE true).count TWN_LINK.RESYNCS

/-- A resynchronisation block. -/
def resyncBlock (kind index offset : Nat) (data : List Byte) : List Byte :=
  BitVec.ofNat 8 kind :: 0 :: (leBytes index 2 ++ leBytes offset 4 ++ data)

/-- A mirrored region's bytes in blocks of at most 1,016. -/
def State.regionBlocks (s : State) (r : Nat) : List (List Byte) :=
  let n := 64 * s.fld TWN_MREG.SIZE r
  let ps := chunks 1016 n (s.bytes (0x200000 + 64 * s.fld TWN_MREG.BASE r) n)
  ps.zipIdx.map fun p => resyncBlock 2 r (1016 * p.2) p.1

/-- Every output command as it stands: lines and pulse units of mirrored contexts, groups, NM. -/
def State.outSnapshot (s : State) : List (List Byte) :=
  (s.mirLines.map fun n => outEntry 1 n 0 (if s.line n then 1 else 0)) ++
  (s.mirPus.map fun u => outEntry 2 u 0 (s.pdNow u)) ++
  ((List.range 16).map fun g => outEntry 4 g 0 (if bitOf (s.fld FLT_STAT.FORCED) g then 1 else 0)) ++
  [outEntry 6 0 0 (s.reg ⟨.NM_STAT, 0, 0, 0⟩), outEntry 7 0 0 (s.reg ⟨.NM_CTL, 0, 0, 0⟩)]

/-- Queues, buffers and states of every CAN port. -/
def State.canSnapshot (s : State) : List (List Byte) :=
  (List.range (nCan s.variant)).flatMap fun n =>
    ((s.cp n).q0.recs.flatMap fun rc => canParts 1 n 0 rc) ++ ((s.cp n).q1.recs.flatMap fun rc => canParts 1 n 1 rc) ++
    ((List.range 32).flatMap fun b => canParts 3 n b (s.bufWords n b) ++
      [canEntry 4 n b false 0 [s.reg ⟨.CAN_TXS, n, b, 0⟩]]) ++
    [canEntry 5 n 0 false 0 (s.reqWords n), canEntry 6 n 0 false 0 (s.errWords n)]

/-- Entries packed into blocks of one kind, at most 1,016 bytes of data each. -/
def packBlocks (kind size : Nat) (es : List (List Byte)) : List (List Byte) :=
  (chunks (1016 / size) es.length es).map fun g => resyncBlock kind 0 0 g.flatten

/-- R538: the driving member ships everything: records, regions, output commands, protection state and the end block; the CAN
queues and buffers follow it. -/
def State.startResync (s : State) : State :=
  let s := s.resyncMark
  let recs := s.mirCtxs.map fun c => resyncBlock 1 c 0 (wordsLe (s.rcd c).words)
  let regions := (List.range 8).flatMap s.regionBlocks
  let first := recs ++ regions ++ packBlocks 3 12 s.outSnapshot ++ packBlocks 4 16 s.protAll
  let s := forEach first (fun b s => s.twinSend 7 b) s
  let s := { s with twn := { s.twn with endSeq := some s.twn.txSeq, due := [], stores := [] } }
  let s := s.twinSend 7 (resyncBlock 6 0 0 [])
  forEach (packInto [] s.canSnapshot) (fun b s => s.twinSend 7 (resyncBlock 5 0 0 b)) s

/-- R538: the member, whatever its role, starts a resynchronisation. The deputy asks for it with STALE in its heartbeats. -/
def State.resync (s : State) : State := if s.twinRest then s.resyncMark else s.startResync

/-! ## Fail-back (R558) -/

/-- R558 step 1: mirrored contexts stop at their suspension; when none runs, the closing frame and the role claim leave. -/
def State.failbackStep (s : State) : State :=
  if !s.twn.failback then s
  else
    let s := forEach (s.mirCtxs.filter fun c => s.cst c == stWait || s.cst c == stSleep) (fun c s => s.holdCtx c) s
    if s.twn.closing ≠ 0 || !s.twn.due.isEmpty || (s.mirCtxs.any fun c => s.cst c == stRun || s.cst c == stReady) then s
    else { s.twinSend 8 (s.closingFrame 2) with twn := { (s.twinSend 8 (s.closingFrame 2)).twn with closing := 2 } }.claim 1 0

/-- TWN_CMD FAILBACK (R558): accepted under its conditions only. -/
def State.runTwnCmdFailback (s : State) (who : Who) : State :=
  if s.isPair && s.fld TWN_STAT.ROLE = 2 && s.bit TWN_STAT.TWOKI && s.fld TWN_STAT.LINK = 3 && s.twn.pRole = some 1 then
    { s with twn := { s.twn with failback := true, closing := 0 } }.failbackStep
  else s.reserved who

/-- TWN_CMD RESYNC (R538): in either member, while a session is open. -/
def State.runTwnCmdResync (s : State) (_who : Who) : State := if s.isPair && s.linkUp then s.resync else s

/-- R558 step 3: the partner drives the channels; the former acting principal arms its own and takes DEPUTY. -/
def State.failbackEnd (s : State) : State :=
  { s.becomeDeputy with twn := { s.becomeDeputy.twn with closing := 0 } }.raise 12 1 3 0

end Sys2Proof.Machine
end

