-- ==== Sys2Proof/Machine/Reset.lean ====
section
/-! DEFINITION. Resets (spec/02 R75 to R83, R642; spec/03 R108): what a power-on reset, a logic reset, a failed retention check and
the reset of a power island clear and keep. -/

namespace Sys2Proof.Machine

/-! ## A slot that is being written (R108) -/

/-- R108: the slot that host software writes is the one that is not primary. -/
def State.writeSlot (s : State) : Bool := !s.primary

/-- The bytes of a slot read as erased. -/
def State.eraseSlot (s : State) (b : Bool) : State := s.clearMem (slotBase b) (slotBase b + 0x400000)

/-- R108: a write that no COMMIT has followed is abandoned and its slot erased; in Sealed a slot that has PASSED is kept. -/
def State.abandonSlot (s : State) : State :=
  let st := s.fld CAT_WSTAT.STATE
  if st = 0 || 6 ≤ st || (st = 4 && s.mode = 11) then s else s.eraseSlot s.writeSlot

/-! ## Logic reset and retention failure (R83, R642) -/

/-- What a logic reset does not clear: the registers of R642 and of the power islands, the Conservator, calibration, and what
always-on retention or flash holds of the security island and the rollback floor. -/
def keptReg (r : RegRef) : Bool :=
  match r.reg with
  | .SYS_MODE | .SYS_MODERES | .SYS_RSTCAUSE | .SYS_START | .SYS_HOLDLOG | .SYS_WAKESRC => true
  | .CAT_FLOOR | .KEY_TCFG | .KEY_TLOGCNT | .KEY_TLOG | .KEY_UNSCNT | .KEY_DBGCNT | .KEY_SLOT | .KEY_SCNT => true
  | r => r.block == 1 || (4 ≤ r.block && r.block ≤ 7) || r.block == 18 || r.block == 21 || r.block == 22

/-- KEY_STAT's flash fields: SEALED, CATLOCK, OWNED, TCNT. -/
def keyStatFlash : Word := 0xF19

/-- TWN_STAT's pins: STRAP and TWOKI, beside STALE at its reset value. -/
def twnStatReset (w : Word) : Word := (w &&& 0x44) ||| 0x100

/-- The registers that a logic reset leaves. -/
def State.resetRegs (s : State) : Tbl RegRef Word :=
  [(⟨.KEY_STAT, 0, 0, 0⟩, s.reg ⟨.KEY_STAT, 0, 0, 0⟩ &&& keyStatFlash),
   (⟨.TWN_STAT, 0, 0, 0⟩, twnStatReset (s.reg ⟨.TWN_STAT, 0, 0, 0⟩))] ++ s.regs.filter fun p => keptReg p.1

/-- R30: a report that the Conservator has not received yet when its source island enters reset: those of the logic islands, but not
the ones that the always-on island or the Conservator itself raises (tamper, R583; watchdog, reference, hold expiry, R497). -/
def lostReport (r : Rep) : Bool :=
  let b := r.src / 512
  (6 ≤ b && b ≤ 12) || (b = 13 && 8 ≤ r.src % 512) || (b = 0 && (r.src % 8 = 0 || r.src % 512 = 1))

/-- R83: logic registers, contexts, code and data banks are cleared; power islands, always-on island, log, calibration and flash
are kept. -/
def State.clearLogic (s : State) : State :=
  let s := s.abandonSlot
  let s := { s with regs := s.resetRegs }
  let s := ((s.clearMem 0x200000 0x280000).clearMem 0x300000 0x308000).clearMem 0x400000 0x480000
  { s with
    sys := { s.sys with pend := none, waking := none, latched := [], pollOpen := false, fabricUp := false, stag := []
                        pollRun := [] }
    cat := { s.cat with loaded := false, wNext := 0 }
    fab := default, doc := default, memx := default, lch := [], inp := default, can := [], lin := [], eth := default
    nm := default, twn := default
    key := { s.key with work := none, applyWait := false, queue := [], running := none, cache := [], nonceLive := false }
    flt := { s.flt with raised := s.flt.raised.filter fun r => !lostReport r }
    spi := default, mgmt := default, mgmtTag := [] }

/-- The bit of SYS_RSTCAUSE that a trigger sets. -/
def causeFld : RstCause → Fld
  | .brownout => SYS_RSTCAUSE.BROWNOUT
  | .wdog => SYS_RSTCAUSE.WDOG
  | .hostrst => SYS_RSTCAUSE.HOSTRST
  | .consreq => SYS_RSTCAUSE.CONSREQ
  | .refloss => SYS_RSTCAUSE.REFLOSS
  | .conslost => SYS_RSTCAUSE.CONSLOST

/-- R83, R75, R58, R65: what a logic reset does: a pending transition is cancelled, the outputs take their hold policies, logic
clears, and the module is in Hold. -/
def State.resetToHold (s : State) (cause : RstCause) : State :=
  let old := s.mode
  let held := if s.sys.phase = .run && decide (3 ≤ old) && decide (old ≤ 7) then some old else none
  let s := (s.cancelPend.enterHold (s.sys.fabricUp || cause == .conslost)).clearLogic
  let s := { s with sys := { s.sys with phase := .hold, interrupted := held } }
  let s := (((s.put SYS_MODE.MODE 10).put SYS_MODE.PREV old).put SYS_MODE.TARGET 10).flag SYS_MODE.BUSY false
  (s.flag (causeFld cause) true).ledSync

/-- A logic reset (R83). An unpowered module has none; in Hold only the cause is added. -/
def State.logicReset (s : State) (cause : RstCause) : State :=
  match s.sys.phase with
  | .unpowered => s
  | .hold => s.flag (causeFld cause) true
  | _ => s.resetToHold cause

/-- R524, R36: no alive signal is up: the outputs hold what they last obeyed, the logic resets, force signals are heeded no more, and
kind 3 waits for the next Start that passes S2. -/
def State.bothDown (s : State) : State :=
  let s := s.dropTwok.logicReset .conslost
  let s := { s with flt := { s.flt with bothLost := true } }
  (((s.flag FLT_STAT.AOK false).flag FLT_STAT.BOK false).showForced).ledSync

/-- R523, R524: a half fails its self-test: it is lost, and with the other half lost already no alive signal is up. -/
def State.failHalf (s : State) (h : Half) (detail : Nat) : State :=
  let other := match h with | .A => Half.B | .B => Half.A
  if s.halfOk other then s.loseHalf h 2 detail else s.bothDown

/-- R71, R83: the retained state is not what was stored: RETFAIL, and a full Start; the outputs stay on the park latch. -/
def State.retentionFail (s : State) : State :=
  let old := s.mode
  let s := s.cancelPend.clearLogic
  let s := { s with sys := { s.sys with phase := .s1, interrupted := none, afterHold := false, startAt := s.tb } }
  let s := (((s.put SYS_MODE.MODE 0).put SYS_MODE.PREV old).put SYS_MODE.TARGET 0).flag SYS_MODE.BUSY true
  (s.put SYS_START.PHASE 0).flag SYS_RSTCAUSE.RETFAIL true

/-! ## Power-on reset (R83) -/

/-- Registers whose values flash holds, as a power-on reset leaves them; calibration values that have not been committed
are lost (R607). -/
def State.flashRegs (s : State) : Tbl RegRef Word :=
  let keep := s.regs.filter fun p =>
    match p.1.reg with
    | .CAT_FLOOR | .KEY_TCFG | .KEY_UNSCNT | .KEY_DBGCNT | .KEY_SLOT | .KEY_SCNT | .CAL_VAL | .CAL_INFO => true
    | _ => false
  let undo := fun (p : RegRef × Word) =>
    match p.1.reg with
    | .CAL_VAL => (p.1, if s.cal.commits.any fun c => c.1 == p.1.i then Tbl.get s.cal.committed p.1.i 0 else p.2)
    | .CAL_INFO => (p.1, p.2 &&& ~~~ 2#32)
    | _ => p
  [(⟨.KEY_STAT, 0, 0, 0⟩, s.reg ⟨.KEY_STAT, 0, 0, 0⟩ &&& keyStatFlash),
   (⟨.TWN_STAT, 0, 0, 0⟩, twnStatReset (s.reg ⟨.TWN_STAT, 0, 0, 0⟩))] ++ keep.map undo

/-- R83: a power-on reset keeps flash: slots, slot control, floor, keys, calibration; and what is no state of the module: the
queue of commands and the count of free values. -/
def State.powerOnReset (s : State) : State :=
  let s := s.abandonSlot
  { State.reset with
    pending := s.pending
    variant := s.variant
    free := s.free
    mem := Memory.clear s.mem 0 0x10000000
    regs := s.flashRegs
    cat := { (default : CatSt) with slotCtl := s.cat.slotCtl, floor := s.cat.floor }
    key := { (default : KeySt) with slots := s.key.slots, img := s.key.img }
    cal := { commits := [], committed := s.cal.committed } }

/-! ## Power islands (R80) -/

/-- The power island of an output slot (R22): P0 HS-A, P1 HS-B, P2 HS-C, P3 bridges, P4 valves, contactors, LEDs. -/
def islandOf (t : Nat) : Nat := if t < 8 then 0 else if t < 24 then 1 else if t < 48 then 2 else if t < 60 then 3 else 4

/-- A register of a power island that holds no configuration. -/
def islandReg (p : Nat) (r : RegRef) : Bool :=
  (r.reg.fields.all fun f => !f.given) &&
    match r.reg.block with
    | 1 => p == 1
    | 4 => r.reg != Reg.HSW_LOCK0 && r.reg != Reg.HSW_LOCK1 && p == islandOf r.i
    | 5 => p == 3
    | 6 | 7 => p == 4
    | _ => false

/-- The source belongs to the power island. -/
def islandSrc (p src : Nat) : Bool :=
  match srcSlot src with
  | some t => islandOf t == p
  | none => src / 512 == 1 && p == 1

/-- R80, R30: a power island resets: its reports on the way, Vitrines, wire and coil models and clamp buckets are lost, and its outputs are off until Start
completes. P1 keeps the transfer switch, which starts anew on MAIN. -/
def State.islandReset (s : State) (p : Nat) : State :=
  let ts := (slots s.variant).filter fun t => islandOf t == p
  let s := forEach ts (fun t s => if t < 48 then s.setLock t false else s) s
  let late := s.sys.stag.filter fun x => islandOf x.1 == p
  let s := forEach (late.flatMap fun x => x.2.2) (fun x s => s.setReg x.1 x.2) s
  let s := { s with sys := { s.sys with stag := s.sys.stag.filter fun x => islandOf x.1 != p } }
  let s := { s with
    regs := s.regs.filter fun x => !islandReg p x.1
    trips := s.trips.filter fun x => islandOf x.1 != p
    buckets := s.buckets.filter fun x => islandOf x.1 != p
    hsw := s.hsw.filter fun x => islandOf x.1 != p
    hbr := if p = 3 then [] else s.hbr
    coil := if p = 4 then [] else s.coil
    bank := if p = 4 then default else s.bank
    led := if p = 4 then [] else s.led
    fold := if p = 4 then default else s.fold
    pwr := if p = 1 then { (default : PwrSt) with mainRev := s.pwr.mainRev, backRev := s.pwr.backRev } else s.pwr
    flt := { s.flt with raised := s.flt.raised.filter fun r => !islandSrc p r.src } }
  let s := s.setActive (s.flt.active.filter fun a => a.inj || a.oneMs || !islandSrc p a.src)
  let s := forEach ts (fun t s => s.setOut t { (default : OutSt) with follow := .off }) s
  forEach ts (fun t s => if s.sys.phase = .run && !s.slotEn t then s.stageOff t (disabledCode t) else s) s

end Sys2Proof.Machine
end

