-- ==== Sys2Proof/Machine/Boundary.lean ====
section
/-! DEFINITION. Mode boundaries (spec/02 R57, R65 to R82; spec/03 R110 to R119): the configuration of a mode taken into force,
staggered outputs, contexts, ports, and the boundaries that end Start, a wake, or the running of the logic islands. -/

namespace Sys2Proof.Machine

/-! ## The configuration in registers (R94, R110, R111, R633) -/

/-- The indices of a register array. -/
def dimIdx : List (Nat × Nat) → List (List Nat)
  | [] => [[]]
  | (_, n) :: ds => (List.range n).flatMap fun i => (dimIdx ds).map (i :: ·)

/-- Every register of a definition. -/
def Reg.refs (r : Reg) : List RegRef := (dimIdx r.place.dims).map fun is => ⟨r, is.getD 0 0, is.getD 1 0, is.getD 2 0⟩

/-- R633: the fitted registers whose unwritten value is not 0. -/
def unwrittenRefs (v : Variant) : List RegRef :=
  ([Reg.CTX_MIG, .DOC_CTXWIN, .PWR_CFG, .PWR_CFG2, .FLT_RGCTL, .HSW_WIRE0, .HSW_WIRE1, .VLV_COIL, .CTD_COIL, .VLV_COIL2,
    .CTD_COIL2].flatMap Reg.refs).filter fun r => r.fitted v

/-- A register with the CAT and RW fields that a configuration word gives it. -/
def State.given (s : State) (r : RegRef) (w : Word) : Word := (s.reg r &&& ~~~ r.reg.givenMask) ||| (w &&& r.reg.givenMask)

/-- The register lives in a power island (R35): it takes its words at the boundary that ends Start. -/
def inPower (r : RegRef) : Bool := r.reg.block == 1 || (4 ≤ r.reg.block && r.reg.block ≤ 7)

/-- The registers that loading gives a value. -/
def State.loadRefs (s : State) (power : Bool) : List RegRef :=
  (s.cat.cat.base.map (·.1) ++ ((s.regs.map (·.1)).filter fun r => r.reg.fromCat) ++ unwrittenRefs s.variant).filter fun r =>
    inPower r == power

/-- R111: CTXc_CFG.EN shows which contexts the configuration of mode `m` enables. -/
def State.ctxCfg (s : State) (m : Nat) : State :=
  forEach s.ctxList (fun c s =>
    if s.bit CTXC_CFG.EN c = s.cat.cat.enables m c then s else s.flag CTXC_CFG.EN (s.cat.cat.enables m c) c) s

/-- S7 (R62, R94, R633): the base image goes into the registers of the logic islands and the Conservator, and its code into the
code banks. -/
def State.loadBase (s : State) : State :=
  let c := s.cat.cat
  let s := forEach (s.loadRefs false) (fun r s => s.setReg r (s.given r (c.word 0 r))) s
  let s := (s.put SYS_CFG.STARTMODE c.startMode).flag SYS_CFG.RESUME c.resume
  let s := (s.put SYS_WATCH.POLL c.poll).put SYS_WATCH.WIN c.win
  let s := forEach c.code (fun x s => s.setBytes (0x400000 + 0x20000 * x.1 + x.2.1) x.2.2) s
  s.ctxCfg 0

/-! ## What a boundary changes -/

/-- The kinds of boundary: one that ends Start; one that leaves Parked or Watch; any other. -/
inductive BKind where
  | start | wake | plain
deriving DecidableEq, Repr, Inhabited

/-- R115: the register holds the route or a parameter of the output. -/
def ownsWord (t : Nat) (r : RegRef) : Bool := (r.reg == .FAB_OSEL && r.i == t) || outRegs t r.reg r.i

/-- R110, R113, R118: the words that the boundary from mode `m` to mode `n` writes: where the two configurations differ, where an
earlier transition's step was still pending, and at the end of Start in every power island. -/
def State.updates (s : State) (m n : Nat) (k : BKind) : List (RegRef × Word) :=
  let c := s.cat.cat
  let late := s.sys.stag.flatMap fun x => x.2.2.map (·.1)
  let ann := fun (a : Nat) => (c.annexes.getD a default).regs.map (·.1)
  let refs := ann m ++ ann n ++ late ++ (if k = .start then s.loadRefs true else [])
  refs.filterMap fun r =>
    let w := c.word n r
    let new := s.given r w
    if late.contains r || (k = .start && inPower r) then (if new = s.reg r then none else some (r, new))
    else if c.word m r = w then none else some (r, new)

/-- R115 to R117, R79, R119: the step after which an output follows the boundary; 0 at the boundary itself. An output of a power
island that has reset waits for the end of a Start instead (R80). -/
def State.stepOf (s : State) (ups : List (RegRef × Word)) (n : Nat) (k : BKind) (t : Nat) : Nat :=
  let step := s.cat.cat.step n t
  if 3 ≤ n && n ≤ 8 && (k == BKind.start || (s.out t).follow != .off) && (k != BKind.plain || ups.any fun u => ownsWord t u.1) then step else 0

/-- The words take effect; those of staggered outputs wait with their steps. -/
def State.takeWords (s : State) (ups : List (RegRef × Word)) (n : Nat) (k : BKind) : State :=
  let late := (slots s.variant).filterMap fun t =>
    let p := s.stepOf ups n k t
    if p = 0 then none else some (t, p, ups.filter fun u => ownsWord t u.1)
  let now := ups.filter fun u => !late.any fun x => ownsWord x.1 u.1
  let s := forEach now (fun u s => s.setReg u.1 u.2) s
  { s with sys := { s.sys with stag := late } }

/-- The output waits for its step. -/
def State.staggered (s : State) (t : Nat) : Bool := s.sys.stag.any fun x => x.1 == t

/-! ## Outputs (R79, R81, R202) -/

/-- What an output follows in a mode (R51, R81). -/
def State.regime (s : State) (n t : Nat) : Follow :=
  if n = 9 && !((s.cat.cat.annexes.getD 9 default).limpexc.contains t) then .limp else .lines

/-- R79, R81: outputs follow what the mode commands them by; their hold timers stop. A staggered output keeps its latch until its
step; an output of a power island that has reset stays off until Start completes (R80). -/
def State.followMode (s : State) (n : Nat) (k : BKind) : State :=
  forEach (slots s.variant) (fun t s =>
    let o := { s.out t with timer := false }
    let stay := s.staggered t || (k != BKind.start && o.follow == .off)
    s.setOut t (if stay then o else { o with follow := s.regime n t })) s

/-- R193, R220, R231: a bridge's OLSTAT without a threshold. -/
def State.olUnknown (s : State) (b : Nat) : State :=
  if s.fld HBR_STAT.OLSTAT b = 0 then s else ((s.put HBR_STAT.OLSTAT 0 b).clearSrc 3 b 4).hbrEvent b 2

/-- R193, R287, R288: an LED channel's results without their checks. -/
def State.ledUnknown (s : State) (i : Nat) : State :=
  let s := if s.bit LED_DIAG.OSEN i then s else (s.put LED_STAT.OSTAT 0 i).clearSrc 5 i 2
  if s.fld LED_DIAG.SHTH i = 0 then s.put LED_STAT.SSTAT 0 i else s

/-- What the words in force end at once: diagnoses without a threshold read UNKNOWN (R193, R196, R220, R287, R288), ripple counting that
is not selected is not valid (R222), a wire trip without a model clears (R181), and a trip is judged by the recovery rule in force
(R167). -/
def State.slotWords (s : State) (t : Nat) : State :=
  let s := match slotClass t with
    | 0 =>
      let s := if s.leader t = t && s.fld HSW_OL.OLTH t = 0 then s.setOl t 0 else s
      let x := s.trip? t
      if s.wireOff (s.leader t) && x.on && x.kind = 2 then s.setTrip t { x with cond := true } else s
    | 1 =>
      let s := if s.fld HBR_MON.SRC (t - 48) = 1 then s else s.flag HBR_STAT.RIPVALID false (t - 48)
      if s.fld HBR_OL.OLTH (t - 48) = 0 then s.olUnknown (t - 48) else s
    | 5 => s.ledUnknown (t - 77)
    | _ => s
  s.tryRecover t false

/-- R202: EN, and in a pair the masks of R530, as the configuration in force has them. -/
def State.syncSlot (s : State) (t : Nat) : State :=
  let s := s.slotWords t
  if s.slotEn t then s.enableSlot t else s.disableSlot t

/-- R280 to R283: the LED channels compute their levels anew; where the bound unit's PD word has been set, its DUTY follows. -/
def State.ledBoundary (s : State) (all : Bool) (changed : List RegRef) : State :=
  forEach ((List.range 16).filter fun i => ledFitted s.variant i && s.bit LED_CFG.EN i) (fun i s =>
    let s := s.ledUpdate i
    let u := s.fld LED_CFG.PU i
    if all || changed.contains ⟨.PU_PD, u, 0, 0⟩ then
      s.setLx i { s.lx i with duty := some (s.dutyOf i (s.fld LED_EFF.LEFF i) (s.bit LED_EFF.MODE i)) }
    else s) s

/-! ## The fabric's blocks -/

/-- R131: the lines that gain an owner. -/
def gainedLines (c : Catalogue) (m n : Nat) (changed : List RegRef) : List Nat :=
  (changed.filter fun r =>
    let o := c.word m r
    let w := c.word n r
    let kind := fun (x : Word) => ext x FAB_LSRC.KIND.lo FAB_LSRC.KIND.width
    let owner := fun (x : Word) => ext x FAB_LSRC.INDEX.lo FAB_LSRC.INDEX.width
    r.reg == .FAB_LSRC && kind w == 6 && (kind o != 6 || owner o != owner w)).map (·.i)

/-- R152, R289, R304, R313: the fabric starts with the inputs and the chains, and the DAC of every LED channel whose stage is off is to
be tested. -/
def State.logicStart (s : State) : State :=
  let s := (s.inputsStart.fabricStart).lchFabric true
  forEach ((List.range 16).filter (ledFitted s.variant)) (fun i s => s.setLx i { s.lx i with testDue := !s.ledOn i }) s

/-- R304, R305: chains that the boundary enables, disables or changes. -/
def State.lchBoundary (s : State) (old : State) : State :=
  forEach ((List.range 8).filter (lchFitted s.variant)) (fun n s =>
    let was := old.bit LCH_CFG.EN n
    let is := s.bit LCH_CFG.EN n
    if is && (!was || old.fld LCH_CFG.FLCK n != s.fld LCH_CFG.FLCK n || old.fld LCH_CFG.NEXP n != s.fld LCH_CFG.NEXP n) then
      s.discover n
    else if was && !is then (s.put LCH_STAT.STATE 0 n).setLc n { s.lc n with busy := false }
    else s) s

/-- R316: the scanner's references. -/
def State.parkInputs (s : State) : State :=
  { s.put INP_PREF.REF (s.fld INP_SLVL.LVL 0) with sys := { s.sys with pollRun := [] } }

/-! ## Contexts (R361 to R363, R638) -/

/-- R361 to R363: the contexts at a boundary from mode `m` to mode `n`. -/
def State.ctxBoundary (s : State) (m n : Nat) (k : BKind) : State :=
  let c := s.cat.cat
  let s := s.ctxCfg n
  let ids := s.ctxList.filter fun x => c.enables n x || c.enables m x || s.known.contains x
  let s := forEach ids (fun x s =>
    if s.cst x == stQuar then s
    else if !c.enables n x then s.disableCtx x
    else if k != BKind.start && c.enables m x then s.syncPrio x
    else s.enableCtx x) s
  let on := ids.filter fun x => c.enables n x
  let s := if n ≤ 2 then forEach on (fun x s => s.holdCtx x) s
    else if k = .wake then forEach on (fun x s => s.resumeCtx x) s else s
  if n ≤ 2 then s.ctxCounts else s.schedule

/-- R358: the watchdog starts a full period. -/
def State.wdRestart (s : State) : State :=
  { s with doc := { s.doc with wdStart := s.tb } }.flag DOC_WDSTAT.NEXTKEY false |>.flag DOC_WDSTAT.RUN true

/-- R358: the watchdog at a boundary: it runs in modes 3 to 9 and restarts where those are entered from outside. -/
def State.wdBoundary (s : State) (m n : Nat) : State :=
  if !s.bit DOC_WDCFG.EN || n < 3 || 9 < n then s.flag DOC_WDSTAT.RUN false
  else if 3 ≤ m && m ≤ 9 then s else s.wdRestart

/-! ## Ports (R420, R421, R435, R457, R467, R470) -/

/-- R421: a change of one of the named settings of a CAN port makes it integrate anew. -/
def State.canChanged (s old : State) (n : Nat) : Bool :=
  [Reg.CAN_NBT, .CAN_DBT, .CAN_XBT].any (fun r => old.reg ⟨r, n, 0, 0⟩ != s.reg ⟨r, n, 0, 0⟩) ||
    old.bit CAN_CFG.FDEN n != s.bit CAN_CFG.FDEN n || old.bit CAN_CFG.XLEN n != s.bit CAN_CFG.XLEN n

/-- R421, R470: one CAN port after new words: enabled, disabled, changed, or moved with its cluster. -/
def State.canBoundary (s old : State) (n : Nat) : State :=
  let was := old.bit CAN_CFG.EN n
  let is := s.bit CAN_CFG.EN n
  if is && !was then (if s.canSegment n then s.canStart n else s)
  else if was && !is then s.canStop n 3
  else if !is then s
  else if s.canSegment n && (s.cp n).standby then s.canWake n
  else if !s.canSegment n && !(s.cp n).standby then s.canStop n 2
  else if s.canChanged old n && !(s.cp n).standby then s.canStop n 1
  else s

/-- R430, R435: one LIN port after new words. -/
def State.linBoundary (s old : State) (n : Nat) : State :=
  let was := old.bit LIN_CFG.EN n
  let is := s.bit LIN_CFG.EN n
  if is && !was then s.linStart n
  else if was && !is then s.linTable n 16
  else if is && old.fld LIN_SCHED.TABLE n != s.fld LIN_SCHED.TABLE n then s.linSelect n (s.fld LIN_SCHED.TABLE n)
  else s

/-- Ports and network management at a boundary between operating modes. -/
def State.netBoundary (s old : State) : State :=
  let s := s.nmClusters
  let s := forEach (List.range (nCan s.variant)) (fun n s => s.canBoundary old n) s
  let s := forEach (List.range (nLin s.variant)) (fun n s => s.linBoundary old n) s
  forEach ((List.range 7).filter fun p => !s.bit ETH_PCFG.EN p && s.bit ETH_PSTAT.LINK p)
    (fun p s => s.flag ETH_PSTAT.LINK false p) s

/-- R66, R640: every port stands by, its transceiver's wake detector alone active. -/
def State.portsPark (s : State) : State :=
  let s := forEach (List.range (nCan s.variant)) (fun n s =>
    (s.setCp n { s.cp n with after := 0, tail := false, standby := true, activating := false, actTimer := false }).setCanSt n 0) s
  forEach (List.range (nLin s.variant)) (fun n s => (s.linTable n 16).setLp n { (s.linTable n 16).lp n with goSleep := false }) s

/-! ## Cores -/

/-- The cores are powered (idle) or not; a failed one stays FAILED until a logic reset (R377). -/
def State.coresPower (s : State) (on : Nat → Bool) : State :=
  forEach s.coreList (fun d s => if s.coreSt d == 3 then s else s.put DOC_STAT.STATE (b2n (on d)) d) s

/-- R66, R640: the Ethernet island powers down: links, queues, learned addresses and open PDUs are gone; the rate of the time base and
the ports that had fallen back to CSMA/CD stay as they were. -/
def State.ethPark (s : State) : State :=
  let e := s.eth
  { s with regs := s.regs.filter (fun x => x.1.reg != Reg.ETH_PSTAT)
           eth := { (default : EthSt) with csma := e.csma, rate := e.rate } }

/-- R66, R74, R113: the logic islands are about to power down: contexts leave their cores, the fabric stops, chains and cores are
off, no bank is usable, and the twin link is down until it trains again after the wake (DEDUCED: no report, its island is off). -/
def State.logicDown (s : State) : State :=
  let s := if s.isPair then s.linkOff else s
  let s := (s.lchFabric false).fabricStop
  let s := s.coresPower fun _ => false
  let s := forEach s.coreList (fun d s => s.setCore d { s.core d with shadow := none }) s
  (s.put MEM_STAT.AWAKE 0).flag MEM_STAT.INIT false

/-! ## The boundary (R57) -/

/-- SYS_MODE at a boundary, and what else shows it: CAT_STAT.ANNEX, CAT_MBOUND. -/
def State.showMode (s : State) (n prev : Nat) : State :=
  let s := (((s.put SYS_MODE.MODE n).put SYS_MODE.PREV prev).put SYS_MODE.TARGET n).flag SYS_MODE.BUSY false
  (s.put CAT_STAT.ANNEX n).put CAT_MBOUND.TIME s.micros

/-- R574, R592, R108: what Service mode ends or uses up. -/
def State.serviceEdge (s : State) (m n : Nat) : State :=
  let s := if n = 8 then s.flag KEY_STAT.SVCOK false else s
  if m = 8 && n ≠ 8 then
    let s := s.flag KEY_STAT.DBGOPEN false
    let st := s.fld CAT_WSTAT.STATE
    if 1 ≤ st && st ≤ 5 then s.abandonSlot.put CAT_WSTAT.STATE 0 else s
  else s

/-- R57: the boundary from mode `m` to mode `n`; `prev` is what SYS_MODE.PREV reads after it. Into Parked or Watch the outputs
take the park latch and the logic islands power down (R66, R640). -/
def State.boundary (s : State) (m n prev : Nat) (k : BKind) : State :=
  let old := s
  let ups := s.updates m n k
  let changed := ups.map (·.1)
  let s := ((s.takeWords ups n k).showMode n prev).serviceEdge m n
  let s := s.fabricBoundary old changed (gainedLines s.cat.cat m n changed)
  let s := ((s.inputsBoundary old changed).lchBoundary old).flushEdges
  if n = 1 || n = 2 then
    let s := (s.ctxBoundary m n k).settleLines
    let s := (s.parkLatch.parkInputs.flag DOC_WDSTAT.RUN false)
    let s := forEach ((slots s.variant).filter fun t => (old.out t).follow == .off && k != BKind.start) (fun t s =>
      s.setOut t (old.out t)) s
    let s := forEach (slots s.variant) (fun t s => s.syncSlot t) s
    let s := if k = .start then s.netStart true else s
    let s := s.portsPark.ethPark.logicDown
    { s with sys := { s.sys with phase := .parkDown, latched := [] } }.boundaryReach
  else
    let s := (s.followMode n k).boundaryReach
    let s := forEach ((slots s.variant).filter fun t => !s.staggered t) (fun t s => s.syncSlot t) s
    let s := s.ledBoundary (k != BKind.plain) changed
    let s := { s with fab := { s.fab with evOn := s.fab.evOn || k != BKind.plain }, sys := { s.sys with phase := .run } }
    let s := match k with
      | .start => s.netStart false
      | .wake => s.netWake
      | .plain => s.netBoundary old
    ((s.ctxBoundary m n k).wdBoundary m n).settleLines

/-- STAGGER_STEP_EXPIRY (R115, R119): the outputs of step `k` take their new route and parameters. -/
def State.staggerStep (s : State) (k : Nat) : State :=
  let due := s.sys.stag.filter fun x => x.2.1 == k
  let s := { s with sys := { s.sys with stag := s.sys.stag.filter fun x => x.2.1 != k } }
  let s := forEach (due.flatMap fun x => x.2.2) (fun u s => s.setReg u.1 u.2) s
  let s := forEach due (fun x s => s.setOut x.1 { s.out x.1 with follow := .lines, timer := false }) s
  let s := s.forceReach
  let s := forEach due (fun x s => s.syncSlot x.1) s
  s.ledBoundary false []

end Sys2Proof.Machine
end

