-- ==== Sys2Proof/Machine/Sys.lean ====
section
/-! DEFINITION. Supply, resets, the phases of Start, mode requests and boundaries (spec/02 R50 to R83, R640 to R642), and the watchdog
(spec/10 R358, R359). -/

namespace Sys2Proof.Machine

/-! ## Supply and resets (R59, R75 to R83) -/

/-- R62: Start begins at phase S1; `prev` is the mode that SYS_MODE.PREV reads. -/
def State.startBegin (s : State) (prev : Nat) (afterHold : Bool) : State :=
  let s := { s with sys := { s.sys with phase := .s1, startAt := s.tb, afterHold := afterHold, pufTries := 0, fellBack := false } }
  let s := (((s.put SYS_MODE.MODE 0).put SYS_MODE.PREV prev).put SYS_MODE.TARGET 0).flag SYS_MODE.BUSY true
  s.put SYS_START.PHASE 0

/-- SUPPLY_GOOD (R59): Start begins; the strap is read (R90). -/
def execSupplyGood (deputyStrap : Bool) (s : State) : Out :=
  .next <| s.ship <|
    if s.sys.phase != .unpowered then s
    else
      let s := { s with tb := 0, sys := { s.sys with deputyStrap := deputyStrap } }.flag TWN_STAT.STRAP deputyStrap
      s.startBegin 0 false

/-- POWER_ON_RESET (R83). -/
def execPowerOnReset (s : State) : Out := .next <| s.ship <| s.powerOnReset

/-- POWER_ISLAND_RESET (R80). -/
def execPowerIslandReset (p : Nat) (s : State) : Out :=
  .next <| s.ship <| if 5 ≤ p || s.sys.phase == .unpowered then s else s.islandReset p

/-- SUPPLY_BROWNOUT (R83, R527). -/
def execSupplyBrownout (s : State) : Out := .next <| s.ship <| s.dropTwok.logicReset .brownout

/-- REFERENCE_LOSS (R27, R497): a half that runs detects it, reports it and asks for a logic reset. While the logic islands are down
no half watches the reference. -/
def execReferenceLoss (half : Half) (s : State) : Out :=
  .next <| s.ship <|
    if !s.halfOk half || s.sys.phase == .unpowered || s.sys.phase == .hold ||
        (s.sys.phase == .parked && !s.sys.pollOpen) then s
    else (s.raise 0 0 3).logicReset .refloss

/-- BOTH_HALVES_LOST (R524, R36): no alive signal is up. -/
def execBothHalvesLost (s : State) : Out :=
  .next <| s.ship <|
    if (!s.halfOk .A && !s.halfOk .B) || s.sys.phase == .unpowered then s
    else s.bothDown

/-- LOGIC_RESET (R83). -/
def execLogicReset (cause : RstCause) (s : State) : Out := .next <| s.ship <| s.logicReset cause

/-- HOLD_TIMER_EXPIRY (R76). -/
def execHoldTimerExpiry (slot : Nat) (s : State) : Out :=
  .next <| s.ship <|
    if (s.out slot).timer && (s.out slot).follow == .vitrine then (s.expireHold slot).ledSync else s

/-- LOGIC_RESET_RELEASE (R59): Hold ends and Start begins. -/
def execLogicResetRelease (s : State) : Out :=
  .next <| s.ship <| if s.sys.phase == .hold then s.startBegin 10 true else s

/-! ## Start (R62 to R65) -/

/-- START_CLOCKS_LOCKED (R62): S1 ends. -/
def execStartClocksLocked (s : State) : Out :=
  .next <| s.ship <|
    if s.sys.phase == .s1 then { s with sys := { s.sys with phase := .s2 } }.put SYS_START.PHASE 1 else s

/-- R523: a half that S2 finds failing: the other one, if it passes, reports it once. -/
def State.s2Half (s : State) (u fail other : Nat) : State :=
  if fail ≠ 0 && other = 0 then s.hold 14 u 2 fail else s

/-- R62, R522 to R525: S2's retest of both halves: `failA` and `failB` are the first failing self-tests, 0 for a pass. -/
def State.s2Check (s : State) (failA failB : Nat) : State :=
  let s := ((s.flag FLT_STAT.AOK (failA == 0)).flag FLT_STAT.BOK (failB == 0)).showForced
  if failA = 0 && failB = 0 then
    let s := { s with flt := { s.flt with missA := 0, missB := 0 }, sys := { s.sys with phase := .s3, pufTries := 0 } }
    let s := s.flag FLT_STAT.DISAG false
    let s := forEach [0, 1] (fun u s => ((s.clearSrc 14 u 0).clearSrc 14 u 1).clearSrc 14 u 2) s
    let s := if s.flt.bothLost then { s with flt := { s.flt with bothLost := false } }.raise 14 0 3 else s
    s.put SYS_START.PHASE 2
  else
    let s := { s with sys := { s.sys with phase := .s2fail } }.put TST_STAT.FAILTEST (if failA ≠ 0 then failA else failB)
    (s.s2Half 0 failA failB).s2Half 1 failB failA

/-- START_SUPERVISOR_CHECK_DONE (R62): S2 ends, or will be repeated. -/
def execStartSupervisorCheckDone (failA failB : Nat) (s : State) : Out :=
  .next <| s.ship <| if s.sys.phase == .s2 && failA < 16 && failB < 16 then s.s2Check failA failB else s

/-- S2_RETRY_TIMER (R523): S2 is repeated. -/
def execS2RetryTimer (failA failB : Nat) (s : State) : Out :=
  .next <| s.ship <| if s.sys.phase == .s2fail && failA < 16 && failB < 16 then s.s2Check failA failB else s

/-- PUF_ATTEMPT_DONE (R560, R62): S3 ends; the third failure is a tamper, which enters Sealed. -/
def execPufAttemptDone (ok : Bool) (s : State) : Out :=
  .next <| s.ship <|
    if s.sys.phase != .s3 then s
    else if ok then
      let s := { s with sys := { s.sys with phase := .s4 } }.put SYS_START.PHASE 3
      s.setRegBytes .KEY_UID deviceUid
    else
      let s := { s with sys := { s.sys with pufTries := s.sys.pufTries + 1 } }
      if s.sys.pufTries < 3 then s
      else
        let s := s.tamper 2 false
        if s.sys.phase == .sealed then s else s.enterSealed

/-- KEY_DERIVATION_DONE (R563, R584): S4 ends; a SEAL event of Parked or Watch takes effect; the primary slot is tried first
(R104). -/
def execKeyDerivationDone (s : State) : Out :=
  .next <| s.ship <|
    if s.sys.phase != .s4 then s
    else
      let s := forEach s.key.sealDue (fun c s => s.sealStore c) s
      let s := { s with key := { s.key with sealDue := [] }
                        sys := { s.sys with phase := .s5, trySlot := s.primary, fellBack := false } }
      (s.flag CAT_STAT.PRIMARY s.primary).put SYS_START.PHASE 4

/-- R63, R101: the slot under trial fails a check: the other slot is tried, or, both failed, the module enters Sealed. A failure
of check 4 or 5 is a tamper (R582). -/
def State.slotFails (s : State) (e : LoadErr) : State :=
  let b := s.sys.trySlot
  let s := s.loadResult b e
  let s := if e.code = 4 || e.code = 5 then s.tamper 3 b else s
  if s.sys.fellBack then s.enterSealed
  else
    { s with sys := { s.sys with phase := .s5, trySlot := !b, fellBack := true } }.flag SYS_RSTCAUSE.SLOTFB true

/-- IMAGE_READ_DONE (R62, R100): S5 ends; the slot fails where its header, its signature section or its reading does. -/
def execImageReadDone (readErr : Bool) (s : State) : Out :=
  .next <| s.ship <|
    if s.sys.phase != .s5 then s
    else
      let s := { s with sys := { s.sys with readErr := readErr } }
      match s.checkSlot s.sys.trySlot readErr with
      | .inl e =>
        if e.code ≤ 3 then s.slotFails e
        else { s with sys := { s.sys with phase := .s6 } }.put SYS_START.PHASE 5
      | .inr _ => { s with sys := { s.sys with phase := .s6 } }.put SYS_START.PHASE 5

/-- IMAGE_VERIFY_DONE (R100, R63): S6 ends with the slot accepted, or it fails. -/
def execImageVerifyDone (s : State) : Out :=
  .next <| s.ship <|
    if s.sys.phase != .s6 then s
    else match s.checkSlot s.sys.trySlot s.sys.readErr with
      | .inl e => s.slotFails e
      | .inr c =>
        let s := { s with cat := { s.cat with cat := c }, sys := { s.sys with phase := .s7 } }
        ((s.loadResult s.sys.trySlot ⟨0, 0, 0⟩).flag SYS_START.SLOT s.sys.trySlot).put SYS_START.PHASE 6

/-- R424, R531: what a pair image decides in registers that show it. -/
def State.showPair (s : State) : State :=
  let s := forEach (List.range (nCan s.variant)) (fun n s => s.flag CAN_CFG.CONS s.isPair n) s
  forEach (List.range 16) (fun m s => s.flag HSW_CFG.TWIN (s.twinned (8 + m)) (8 + m)) s

/-- CATALOGUE_LOAD_DONE (R62, R94, R152, R391): S7 ends: the base configuration is in its registers, the code in its banks, data
banks are clear, and the fabric runs; a pair trains its link (R545). -/
def execCatalogueLoadDone (s : State) : Out :=
  .next <| s.ship <|
    if s.sys.phase != .s7 then s
    else
      let c := s.cat.cat
      let s := { s with cat := { s.cat with loaded := true } }.loadBase
      let s := ((s.flag CAT_STAT.SLOT s.sys.trySlot).flag CAT_STAT.FALLBACK s.sys.fellBack).flag CAT_STAT.PAIR c.pair
      let s := (s.put CAT_IMGVER.IMGVER c.imgver).put CAT_ROLLBACK.ROLLBACK c.rollback
      let s := if s.bit MEM_STAT.INIT then s else s.initBanks fun _ => false
      let s := (((s.coresPower fun _ => true).logicStart).showPair).linkStart
      { s with sys := { s.sys with phase := .s8 } }.put SYS_START.PHASE 7

/-- R555: the role at the boundary that ends Start, and TWOK_O high (R527). -/
def State.chooseRole (s : State) : State :=
  if !s.isPair then s
  else
    let low := !s.bit TWN_STAT.TWOKI
    let s := s.flag TWN_STAT.TWOKO true
    let s := { s with twn := { s.twn with seenHigh := !low, startLow := false, choosing := false } }
    if s.bit TWN_STAT.STRAP then
      ({ s with twn := { s.twn with startLow := low } }.put TWN_STAT.ROLE 1).monitorPorts true
    else if low then { s with twn := { s.twn with noLink := !s.linkUp } }.put TWN_STAT.ROLE 0
    else if s.linkUp then
      if s.twn.pRole = some 2 then (s.put TWN_STAT.ROLE 1).monitorPorts true else s.put TWN_STAT.ROLE 0
    else { s with twn := { s.twn with choosing := true } }.put TWN_STAT.ROLE 0

/-- R105: the floor rises to the image's ROLLBACK. -/
def State.raiseFloor (s : State) : State :=
  let r := s.cat.cat.rollback
  if s.floor < r then
    { s with cat := { s.cat with floor := commitCopy s.cat.floor r } }.put CAT_FLOOR.FLOOR r
  else s

/-- SYS_START at the end of a Start or wake: TIME in 0.25 ms units, and WARM. -/
def State.startTime (s : State) (warm : Bool) : State :=
  (s.put SYS_START.TIME (satTo ((s.tb - s.sys.startAt) / 25000) 8)).flag SYS_START.WARM warm

/-- R65: the first operating mode. -/
def State.firstMode (s : State) : Nat :=
  match s.sys.interrupted with
  | some m => if s.bit SYS_CFG.RESUME then m else s.fld SYS_CFG.STARTMODE
  | none => s.fld SYS_CFG.STARTMODE

/-- START_BOUNDARY (R79, R77, R105, R640): S8 ends with the boundary into the first operating mode. -/
def execStartBoundary (s : State) : Out :=
  .next <| s.ship <|
    if s.sys.phase != .s8 then s
    else
      let first := s.firstMode
      let s := (s.startTime false).raiseFloor.chooseRole
      let s := s.boundary 0 first (if s.sys.afterHold then 10 else 0) .start
      let s := if s.twinRest then s.armTwins else s
      let s := s.endHold.put SYS_START.PHASE 8
      { s with sys := { s.sys with interrupted := none, afterHold := false } }

/-! ## Mode requests and boundaries (R53 to R59, R641) -/

/-- The cause code of a requester. -/
def State.reqSrc (s : State) : Who → Nat
  | .host => 0
  | .ctx c => s.fld CTXC_STAT.CORE c + 1

/-- R53 to R55, R59, R89, R466, R540, R573: what SYS_MODERES.RES answers to a request. -/
def State.judge (s : State) (code : Nat) : Nat :=
  let c := s.cat.cat
  let allowed := if s.mode = 9 then code == c.limpExit && s.fld FLT_STAT.LIMPACT == 0
    else bitOf (c.matrix.getD s.mode 0) code
  if code = 0 || code = 10 || code = 11 then 5
  else if s.bit SYS_MODE.BUSY then 4
  else if !allowed || (s.isPair && s.isDeputy && code ≤ 8) || (code ≤ 2 && s.bit NM_CFG.EN && s.nmSt ≠ 3) then 3
  else if code = 8 && (s.slotKey 0).isSome && !s.bit KEY_STAT.SVCOK then 6
  else 1

/-- One request: its result, and the transition where it is accepted. -/
def State.request (s : State) (who : Who) (code : Nat) : State :=
  let res := s.judge code
  let s := ((s.put SYS_MODERES.RES res).put SYS_MODERES.REQMODE code).put SYS_MODERES.REQSRC (s.reqSrc who)
  if res = 1 then s.setPend code (s.reqSrc who) else s

/-- A write of SYS_MODEREQ: codes 12 to 15 and non-zero reserved bits are reserved (R19, R54); it needs a mode to request from. -/
def State.runModeRequest (s : State) (who : Who) (code : Nat) : State :=
  if who = .host && !s.hostUp then s
  else if s.sys.phase == .sealed || 12 ≤ code then s.reserved who
  else s.request who code

/-- MODE_REQUEST (R53 to R56): `hostToo` is a host request latched on the same edge as a context's, which is refused. -/
def execModeRequest (who : Who) (code : Nat) (hostToo : Option Nat) (s : State) : Out :=
  .next <| s.ship <|
    let t := s.runModeRequest who code
    match who, hostToo with
    | .ctx _, some h =>
      if !t.hostUp then t
      else if 12 ≤ h then t.reserved .host
      else ((t.put SYS_MODERES.RES 4).put SYS_MODERES.REQMODE h).put SYS_MODERES.REQSRC 0
    | _, _ => t

/-- STAGING_TIMEOUT (R114, R497). -/
def execStagingTimeout (s : State) : Out :=
  .next <| s.ship <| match s.sys.pend with
    | some p => (s.cancelPend.put SYS_MODERES.RES 7).raise 0 0 1 p.target
    | none => s

/-- R641: the result of a transition at its boundary. A CANCELLED result of an earlier request stays unless the transition was
itself requested. -/
def State.done (s : State) (p : Pend) : State :=
  if p.src ≤ 4 || s.fld SYS_MODERES.RES ≠ 7 then
    ((s.put SYS_MODERES.RES 2).put SYS_MODERES.REQMODE p.target).put SYS_MODERES.REQSRC p.src
  else s

/-- R59, R73, R74: leaving Watch from a poll window: the whole module is powered and its memory usable. -/
def State.leaveWindow (s : State) : State :=
  let s := (s.coresPower fun _ => true)
  let s := if s.bit MEM_STAT.INIT then s else s.initBanks s.retained
  let s := s.put MEM_STAT.AWAKE (2 ^ nBanks s.variant - 1)
  { s with sys := { s.sys with pollOpen := false } }

/-- No transition is pending any more. -/
def State.clearPend (s : State) : State := { s with sys := { s.sys with pend := none } }

/-- MODE_BOUNDARY (R57, R58): the pending transition reaches its boundary. A deputy that leaves Watch with TWOK_I low takes over
(R548). -/
def execModeBoundary (s : State) : Out :=
  .next <| s.ship <| match s.sys.pend with
    | none => s
    | some p =>
      let m := s.mode
      if s.sys.pollOpen then
        let s := ((s.leaveWindow.boundary m p.target m .wake).done p).clearPend
        if s.mayTakeOver then s.takeoverBy 1 else s
      else if s.sys.phase == .run then ((s.boundary m p.target m .plain).done p).clearPend
      else s


/-- STAGGER_STEP_EXPIRY (R115). -/
def execStaggerStepExpiry (k : Nat) (s : State) : Out :=
  .next <| s.ship <| if s.sys.phase == .run then s.staggerStep k else s

/-- POWER_DOWN_DONE (R72): the module is parked; a wake latched meanwhile begins at once. -/
def execPowerDownDone (s : State) : Out :=
  .next <| s.ship <|
    if s.sys.phase != .parkDown then s
    else
      let ws := s.sys.latched
      let s := { s with sys := { s.sys with phase := .parked, latched := [] }, doc := { s.doc with cores := [] } }
      match ws.find? (fun w => w.target == 0), ws with
      | some w, _ => s.beginWake w
      | none, w :: _ => s.beginWake w
      | none, [] => s

/-- A write of SYS_RSTCMD (R59, R82). -/
def State.runSysRstcmd (s : State) (who : Who) (w : Word) : State :=
  if who = .host && !s.hostUp then s
  else if w = 0xA5C3 then s.logicReset .hostrst
  else s.reserved who

/-- The command of the same name. -/
def execSysRstcmd (who : Who) (w : Word) (s : State) : Out := .next <| s.ship <| s.runSysRstcmd who w

/-! ## The watchdog (R358, R359) -/

/-- The watchdog has expired. -/
def State.wdExpire (s : State) : State := (s.raise 0 0 2).logicReset .wdog

/-- The key that the next kick must carry. -/
def State.wdKey (s : State) : Nat := if s.bit DOC_WDSTAT.NEXTKEY then 0xA55A else 0x5AA5

/-- DOC_WDKICK (R358, R359): a valid kick restarts the period; any other one expires the watchdog. -/
def State.runDocWdkick (s : State) (c : Nat) (w : Word) : State :=
  if ext w 16 16 ≠ 0 then s.pwrsv c
  else if !s.bit DOC_WDSTAT.RUN then s
  else if ext w 0 16 = s.wdKey && s.fld DOC_WDCFG.TWMIN * 100000 ≤ s.tb - s.doc.wdStart then
    let next := !s.bit DOC_WDSTAT.NEXTKEY
    { s with doc := { s.doc with wdStart := s.tb } }.flag DOC_WDSTAT.NEXTKEY next
  else s.wdExpire

/-- The command of the same name. -/
def execDocWdkick (c : Nat) (w : Word) (s : State) : Out := .next <| s.ship <| s.runDocWdkick c w

/-- WATCHDOG_EXPIRY (R359): TWD elapses without a valid kick. -/
def execWatchdogExpiry (s : State) : Out :=
  .next <| s.ship <| if s.bit DOC_WDSTAT.RUN then s.wdExpire else s

end Sys2Proof.Machine
end

