-- ==== Sys2Proof/Machine/Cal.lean ====
section
/-! DEFINITION. The calibration set (spec/19 R606 to R608): its writes and its sum. The corrections stand with the readings they correct
(State.corrected). -/

namespace Sys2Proof.Machine

/-- R606: OFFSET is reserved, zero, for clamp-energy coefficients. -/
def calOffset (r : Nat) : Bool := !(144 ≤ r && r < 197)

/-- R607: a write of a record in Service mode takes effect, and its commit begins or is held behind the one in progress. -/
def State.calSet (s : State) (r : Nat) (w : Word) : State :=
  let s := s.setReg ⟨.CAL_VAL, r, 0, 0⟩ w
  let c := match s.cal.commits.find? (fun p => p.1 == r) with
    | some (_, v, _) => (v, some w)
    | none => (w, none)
  { s with cal := { s.cal with commits := Tbl.set s.cal.commits r c } }.flag CAL_INFO.BUSY true r

/-- CAL_VAL_WRITE (R606, R607, R15): by host software. -/
def State.runCalValWrite (s : State) (r : Nat) (w : Word) : State :=
  if !s.hostUp then s
  else if !calFitted s.variant r || s.mode = 11 then s.reserved .host
  else s.accept .host ⟨.CAL_VAL, r, 0, 0⟩ w fun s =>
    if s.mode ≠ 8 then s
    else if !calOffset r && ext w 16 16 ≠ 0 then s.reserved .host
    else s.calSet r w

/-- The command of the same name. -/
def execCalValWrite (r : Nat) (w : Word) (s : State) : Out := .next <| s.ship <| s.runCalValWrite r w

/-- CAL_COMMIT_DONE (R607): the commit point of a record; the last held value is committed next. -/
def execCalCommitDone (r : Nat) (s : State) : Out :=
  .next <| s.ship <| match s.cal.commits.find? (fun p => p.1 == r) with
    | none => s
    | some (_, v, held) =>
      let s := { s with cal := { s.cal with committed := Tbl.set s.cal.committed r v } }
      let s := (s.flag CAL_INFO.SRC true r).count CAL_INFO.WRITES r
      match held with
      | some w => { s with cal := { s.cal with commits := Tbl.set s.cal.commits r (w, none) } }
      | none => { s with cal := { s.cal with commits := s.cal.commits.filter fun p => p.1 != r } }.flag CAL_INFO.BUSY false r

/-- R596: one byte of FCRC, most significant bit first. -/
def fcrcByte (c : BitVec 32) (b : Byte) : BitVec 32 :=
  (List.range 8).foldl (fun (c : BitVec 32) _ => if c.msb then (c <<< 1) ^^^ 0x04C11DB7 else c <<< 1) (c ^^^ ((b.zeroExtend 32) <<< 24))

/-- R596: FCRC over words in shift order. -/
def fcrc (ws : List Word) : Word := ~~~ ((ws.flatMap fun w => beBytes w.toNat 4).foldl fcrcByte 0xFFFFFFFF)

/-- CAL_SUM: FCRC over the committed values, reserved records as zero. -/
def State.calSum (s : State) : Word :=
  fcrc ((List.range 256).map fun r => if calFitted s.variant r then Tbl.get s.cal.committed r 0 else 0)

end Sys2Proof.Machine
end

