-- ==== Sys2Proof/Machine/Can.lean ====
section
/-! DEFINITION. The commands of the CAN ports (spec/12) and GATEWAY_BUFFER_LOAD (spec/13 R445). -/

namespace Sys2Proof.Machine

/-- The port is fitted (R2). -/
def State.canFitted (s : State) (n : Nat) : Bool := n < nCan s.variant

/-- The port takes frames from the bus: it participates or monitors, or finishes a frame that began before it stopped
(R421). -/
def State.canListens (s : State) (n : Nat) : Bool :=
  s.canFitted n && (s.canSt n == 2 || s.canSt n == 3 || s.canSt n == 6 || (s.canSt n ≤ 1 && (s.cp n).tail))

/-- R401 to R405: a valid frame is filtered; it is queued, rejected, and offered to the gateway as its filter says. -/
def State.canFilter (s : State) (n : Nat) (f : CanFrame) (sof : Word) : State :=
  let hit := s.filterOf n f
  let act := match hit with
    | some i => s.fld CAN_FCTL.ACT n i
    | none => if s.bit CAN_CFG.NOMATCH n then 2 else 3
  let s' := if act = 1 then s.canStore n 0 hit f sof else if act = 2 then s.canStore n 1 hit f sof else s
  match hit with
  | some i => if s.bit CAN_FCTL.GW n i then s'.gwOffer ⟨0, n, 0, sof⟩ f else s'
  | none => s'

/-- R416, ISO 11898-1: an error detected as a receiver: the error record and REC. -/
def State.canRxError (s : State) (n : Nat) (e : CanErr) : State :=
  let s := (s.retry n).canErr n e
  let s := s.confine n (s.fld CAN_STAT.TEC n) (s.fld CAN_STAT.REC n + (if e.exempt then 0 else 1) + 8 * e.eights)
  (s.setCp n { s.cp n with tail := false }).canAfter n

/-- R395, ISO 11898-1: a frame of a format that the port does not enable: with PEX a protocol exception, after which the port
integrates without counting an error; otherwise a form error (notes/assumptions/54.md). -/
def State.canForeign (s : State) (n : Nat) : State :=
  if s.bit CAN_CFG.PEX n then
    let s := (s.retry n).setCanSt n 1
    (s.setCp n { s.cp n with tail := false }).canAfter n
  else s.canRxError n ⟨2, false, false, 0⟩

/-- A frame becomes valid at a port (R401 to R405, R416, R417, R421, R424, R453). An own frame that was ACTIVE has lost
arbitration. A monitoring port only counts. -/
def State.canReceive (s : State) (n : Nat) (f : CanFrame) (sof : Word) : State :=
  if !s.canListens n then s
  else if !s.canAdmits n f then s.canForeign n
  else
    let s := ((s.retry n).recGood n).clearLonely n
    if s.bit CAN_CFG.MON n then s
    else
      let nm := s.isNmFrame n f
      let s := s.canFilter n f sof
      let s := if nm then s.nmFrame n f else s
      (s.setCp n { s.cp n with tail := false }).canAfter n

/-- CAN_FRAME_RECEIVED (R401 to R405, R423 apart): the frame and the time base at the sample point of its SOF. -/
def execCanFrameReceived (n : Nat) (f : CanFrame) (sof : Word) (s : State) : Out := .next <| s.ship <| s.canReceive n f sof

/-- CAN_RXD_READ (R406 to R408). -/
def State.runCanRxdRead (s : State) (who : Who) (n q : Nat) : State :=
  if !s.canFitted n || 2 ≤ q then { s.reserved who with rdata := 0 }
  else
    let r := s.canRead who n q
    { r.2 with rdata := r.1 }

/-- The command of the same name. -/
def execCanRxdRead (who : Who) (n q : Nat) (s : State) : Out := .next <| s.ship <| s.asWho who 13 fun s => s.runCanRxdRead who n q

/-- CAN_RXPOP (R407, R408). -/
def State.runCanRxpop (s : State) (who : Who) (n q : Nat) (w : Word) : State :=
  if !s.canFitted n || 2 ≤ q then s.reserved who
  else s.accept who ⟨.CAN_RXPOP, n, q, 0⟩ w fun s => s.canPop n q (ext w 0 8)

/-- The command of the same name. -/
def execCanRxpop (who : Who) (n q : Nat) (w : Word) (s : State) : Out := .next <| s.ship <| s.asWho who 13 fun s => s.runCanRxpop who n q w

/-- CAN_TX_BUFFER_WRITE (R410, R414). -/
def State.runCanTxBufferWrite (s : State) (who : Who) (n b i : Nat) (w : Word) : State :=
  if !s.canFitted n || 32 ≤ b || 21 ≤ i || s.gwOwned n b then s.reserved who
  else if s.bst n b = bPending || s.bst n b = bActive || s.bst n b = bHeld then s.reserved who
  else s.setReg ⟨.CAN_TXW, n, b, i⟩ w

/-- The command of the same name. -/
def execCanTxBufferWrite (who : Who) (n b i : Nat) (w : Word) (s : State) : Out := .next <| s.ship <| s.asWho who 13 fun s => s.runCanTxBufferWrite who n b i w

/-- R411: the port refuses the buffer. An XLEN above 2,048 names no frame (R409). -/
def State.badFormat (s : State) (n b : Nat) : Bool :=
  let fdf := s.txFdf n b
  let xlf := s.txXlf n b
  (s.txRtr n b && (fdf || xlf)) || (s.txBrs n b && !fdf) || (fdf && !s.bit CAN_CFG.FDEN n) ||
    (xlf && (s.txXlen n b == 0 || 2048 < s.txXlen n b || !s.bit CAN_CFG.XLEN n)) || (xlf && fdf) ||
    (64 < s.txXlen n b && ((s.txw n b 4).toNat == 0 || (s.txw n b 4).toNat % 4 != 0))

/-- R411: a request of one buffer. -/
def State.canRequest (s : State) (n b : Nat) : State :=
  if s.bst n b = bPending || s.bst n b = bActive || s.bst n b = bHeld then s
  else if s.badFormat n b then s.endBuf n b bFailed 1 false
  else ((s.setReg ⟨.CAN_TXS, n, b, 0⟩ 0).setBst n b bPending).stageNext n

/-- The buffers that a word of TXREQ or TXCAN names. -/
def bufsOf (w : Word) : List Nat := (List.range 32).filter fun b => bitOf w.toNat b

/-- CAN_TX_REQUEST (R411, R412, R414). -/
def State.runCanTxRequest (s : State) (who : Who) (n : Nat) (w : Word) : State :=
  if !s.canFitted n then s.reserved who
  else forEach (bufsOf w) (fun b s => if s.gwOwned n b then s.reserved who else s.canRequest n b) s

/-- The command of the same name. -/
def execCanTxRequest (who : Who) (n : Nat) (w : Word) (s : State) : Out := .next <| s.ship <| s.asWho who 13 fun s => s.runCanTxRequest who n w

/-- R415: a cancel of one buffer; `inArb`: it is latched before the sample point of the last bit of the arbitration field.
A withdrawn port goes on as a receiver. -/
def State.canCancel (s : State) (n b : Nat) (inArb : Bool) : State :=
  if s.bst n b = bPending || s.bst n b = bHeld then s.endBuf n b bCancelled 0 false
  else if s.bst n b = bActive then
    if inArb && !s.bit CAN_CFG.DEFCAN n then (s.endBuf n b bCancelled 0 false).setCp n { (s.endBuf n b bCancelled 0 false).cp n with late := false }
    else s.setCp n { s.cp n with late := true }
  else s

/-- CAN_TX_CANCEL (R415, R414). -/
def State.runCanTxCancel (s : State) (who : Who) (n : Nat) (w : Word) (inArb : Bool) : State :=
  if !s.canFitted n then s.reserved who
  else forEach (bufsOf w) (fun b s => if s.gwOwned n b then s.reserved who else s.canCancel n b inArb) s

/-- The command of the same name. -/
def execCanTxCancel (who : Who) (n : Nat) (w : Word) (inArb : Bool) (s : State) : Out := .next <| s.ship <| s.asWho who 13 fun s => s.runCanTxCancel who n w inArb

/-- CAN_STAGING_DONE (R412): the data field has been copied, or an uncorrectable error (`e` as R385) or an address outside
the data banks and the host window ends it. -/
def execCanStagingDone (n e : Nat) (s : State) : Out :=
  .next <| s.ship <| match (s.cp n).stage with
    | some (b, none) =>
      let a := (s.txw n b 4).toNat
      let len := s.txXlen n b
      let ok := (List.range len).all fun i => s.memPermitted (a + i)
      let s := if ok then s.eccEvent a 2 e else s
      if !ok || e = eccDouble then (s.endBuf n b bFailed 2 false).raise 10 n 6 b
      else s.setCp n { s.cp n with stage := some (b, some (s.bytes a len)) }
    | _ => s

/-- CAN_TX_CHOICE (R413, R454, R460): the next frame is chosen and its attempt begins. In PRE_SLEEP an NM port starts none. -/
def execCanTxChoice (n : Nat) (s : State) : Out :=
  .next <| s.ship <|
    if !s.canFitted n || (s.canSt n ≠ 2 && s.canSt n ≠ 3) || (s.active n).isSome then s
    else if s.nmOn && s.nmSt = 2 && s.nmRole n ≠ 0 then s
    else match s.canFirst n (canBufs.filter fun b => s.bst n b == bPending && s.staged n b) with
      | some b =>
        let s := s.setBst n b bActive
        if b = nmBuf then s.setCp n { s.cp n with late := false, nmAtt := satInc (s.cp n).nmAtt 8 }
        else (s.setCp n { s.cp n with late := false }).count CAN_TXS.ATTEMPTS n b
      | none => s

/-- R400: a measured delay goes to TDCV; a sum with the offset above 127 raises kind 5. -/
def State.tdcMeasured (s : State) (n tdcv tdco xl : Nat) : State :=
  let s := s.put CAN_STAT.TDCV (satTo tdcv 8) n
  if 127 < tdcv + tdco then s.raise 10 n 5 (xl * 256 + satTo tdcv 8) else s

/-- R400: the loop delay measured in a frame, and kind 5 where the secondary sample point would lie beyond 127. -/
def State.measureTdc (s : State) (n : Nat) (fmt : CanFmt) (tdcv : Nat) : State :=
  match fmt with
  | .fd => if s.bit CAN_DBT.TDCEN n then s.tdcMeasured n tdcv (s.fld CAN_DBT.TDCO n) 0 else s
  | .xl => if s.bit CAN_XBT.TDCEN n then s.tdcMeasured n tdcv (s.fld CAN_XBT.TDCO n) 1 else s
  | .classical => s

/-- CAN_TX_SUCCESS (R413, R415 to R417): the ACTIVE buffer is DONE, with the time of its SOF. -/
def execCanTxSuccess (n : Nat) (sof : Word) (tdcv : Nat) (s : State) : Out :=
  .next <| s.ship <| match s.active n with
    | none => s
    | some b =>
      let f := s.txFrame n b
      let late := (s.cp n).late
      let s := s.measureTdc n f.fmt tdcv
      let s := s.setCp n { s.cp n with sent := some f, late := false }
      let s := if b = nmBuf then (s.setBst n b bDone).nmFollow n
        else (s.setReg ⟨.CAN_TXT, n, b, 0⟩ sof).endBuf n b bDone 0 late
      let s := s.clearLonely n
      let s := s.confine n (s.fld CAN_STAT.TEC n - 1) (s.fld CAN_STAT.REC n)
      s.canAfter n

/-- CAN_TX_ERROR (R416 to R418, ISO 11898-1): the attempt fails; counters and error state follow; the buffer is PENDING
again, HELD at a lonely port, or CANCELLED after a late cancel. -/
def execCanTxError (n : Nat) (e : CanErr) (tdcv : Option Nat) (s : State) : Out :=
  .next <| s.ship <| match s.active n with
    | none => s
    | some b =>
      let s := match tdcv with
        | some t => s.measureTdc n (s.txFrame n b).fmt t
        | none => s
      let passive := s.canSt n = 3
      let s := s.canErr n e
      let s := if e.lec = 3 then s.ackError n b else s
      let held := e.lec = 3 && s.bit CAN_STAT.LONELY n && s.bit CAN_CFG.SSLONELY n && !(s.cp n).late
      let s := if held then
          let s := s.setBst n b bHeld
          if b = nmBuf then s else s.flag CAN_TXS.LONELY true n b
        else s.retry n
      let none8 := e.exempt && (e.lec = 1 || (e.lec = 3 && passive))
      let s := s.confine n (s.fld CAN_STAT.TEC n + (if none8 then 0 else 8) + 8 * e.eights) (s.fld CAN_STAT.REC n)
      s.canAfter n

/-- CAN_RX_ERROR (R416, ISO 11898-1): an error detected as a receiver. -/
def execCanRxError (n : Nat) (e : CanErr) (s : State) : Out :=
  .next <| s.ship <|
    if s.canListens n then s.canRxError n e else s

/-- BUS_OFF_RECOVERY_DONE (R416): error active again, the counters at 0. -/
def execBusOffRecoveryDone (n : Nat) (s : State) : Out :=
  .next <| s.ship <|
    if s.canFitted n && s.canSt n = 5 then ((s.put CAN_STAT.TEC 0 n).put CAN_STAT.REC 0 n).setCanSt n 2 else s

/-- CAN_CMD_RECOVER (R416): manual recovery begins. -/
def State.runCanCmdRecover (s : State) (who : Who) (n : Nat) : State :=
  if !s.canFitted n then s.reserved who
  else if s.bit CAN_CFG.BORECOV n && s.canSt n = 4 then s.setCanSt n 5 else s

/-- The command of the same name. -/
def execCanCmdRecover (who : Who) (n : Nat) (s : State) : Out := .next <| s.ship <| s.asWho who 13 fun s => s.runCanCmdRecover who n

/-- CAN_CMD_CLRLONELY (R417). -/
def State.runCanCmdClrlonely (s : State) (who : Who) (n : Nat) : State :=
  if !s.canFitted n then s.reserved who else s.clearLonely n

/-- The command of the same name. -/
def execCanCmdClrlonely (who : Who) (n : Nat) (s : State) : Out := .next <| s.ship <| s.asWho who 13 fun s => s.runCanCmdClrlonely who n

/-- CAN_INTEGRATION_DONE (R420, R424). -/
def execCanIntegrationDone (n : Nat) (s : State) : Out :=
  .next <| s.ship <| if s.canFitted n && s.canSt n = 1 then s.integrated n else s

/-- TXD_DOMINANT_TIMEOUT (R419): the port's own TXD (detail 1), or the bus while it does not transmit (detail 2). -/
def execTxdDominantTimeout (n : Nat) (own : Bool) (s : State) : Out :=
  .next <| s.ship <|
    if !s.canFitted n || s.canSt n = 0 then s
    else if own then (s.setCp n { s.cp n with txdOut := true }).raiseCond 10 n 4 0x100
    else if (s.active n).isNone then s.raise 10 n 4 0x200 else s

/-- TXD_RECESSIVE_RETURN (R419): the transceiver is normal again. -/
def execTxdRecessiveReturn (n : Nat) (s : State) : Out :=
  .next <| s.ship <|
    if s.canFitted n && (s.cp n).txdOut then (s.setCp n { s.cp n with txdOut := false }).clearSrc 10 n 4 else s

/-- R409: the words of a frame in a transmit buffer. -/
def frameWords (f : CanFrame) : List Word :=
  let xl := f.fmt = .xl
  let w1 := b2n (f.fmt = .fd) + 2 * b2n xl + 4 * b2n f.brs + 16 * (if xl then 0 else f.dlc % 16) + 2 ^ 8 * b2n f.sec +
    (if xl then 2 ^ 16 * f.data.length else 0)
  [BitVec.ofNat 32 (f.id % 2 ^ 29 + 2 ^ 29 * b2n f.ide + 2 ^ 30 * b2n f.rtr), BitVec.ofNat 32 w1,
    if xl then BitVec.ofNat 32 (f.sdt % 256 + 2 ^ 8 * (f.vcid % 256)) else 0,
    if xl then BitVec.ofNat 32 f.af else 0, 0] ++ dataWords (f.data.take 64)

/-- GATEWAY_BUFFER_LOAD (R445, R414): the oldest frame of the FIFO takes a free gateway buffer and is PENDING. -/
def execGatewayBufferLoad (n : Nat) (s : State) : Out :=
  .next <| s.ship <|
    if !s.canFitted n || !s.bit CAN_CFG.GWTX n then s
    else match (s.cp n).gwFifo, ([24, 25, 26, 27, 28, 29, 30, 31].find? fun b => s.bst n b == bIdle || 4 ≤ s.bst n b) with
      | (_, f) :: rest, some b =>
        let s := s.setCp n { s.cp n with gwFifo := rest, gwBuf := Tbl.set (s.cp n).gwBuf b f }
        let s := forEach ((frameWords f).zipIdx) (fun p s => s.setReg ⟨.CAN_TXW, n, b, p.2⟩ p.1) s
        (s.setReg ⟨.CAN_TXS, n, b, 0⟩ 0).setBst n b bPending
      | _, _ => s

end Sys2Proof.Machine
end

