-- ==== Sys2Proof/Machine/Cat.lean ====
section
/-! DEFINITION. Writing an image to the slot that is not primary (spec/03 R101 to R109; spec/02 R82). -/

namespace Sys2Proof.Machine

/-- R106: the modes in which CAT_WCTL and slot writes work: Service and Sealed. -/
def State.slotMode (s : State) : Bool := s.hostUp && (s.mode == 8 || s.mode == 11)

/-- WSTAT.STATE. -/
def State.wst (s : State) : Nat := s.fld CAT_WSTAT.STATE

/-- A CAT_WCTL command by host software: elsewhere than in Service and Sealed it is discarded as reserved. -/
def State.wctl (s : State) (k : State → State) : State :=
  if !s.hostUp then s else if s.slotMode then k s else s.reserved .host

/-- CMD OPEN (R106): the erase begins; it is not restarted while one of the module's own steps runs. -/
def State.runCatWctlOpen (s : State) : State :=
  s.wctl fun s =>
    if s.wst = 1 || s.wst = 3 || s.wst = 6 then s
    else
      let s := ((s.put CAT_WSTAT.STATE 1).put CAT_WSTAT.WORDS 0).put CAT_WSTAT.ERR 0
      { s with cat := { s.cat with wNext := 0 } }

/-- The command of the same name. -/
def execCatWctlOpen (s : State) : Out := .next <| s.ship <| s.runCatWctlOpen

/-- SLOT_ERASE_DONE (R106). -/
def execSlotEraseDone (s : State) : Out :=
  .next <| s.ship <| if s.wst = 1 then (s.eraseSlot s.writeSlot).put CAT_WSTAT.STATE 2 else s

/-- R107, R611: a word that host software writes to a flash slot address. -/
def State.runSlotWordWrite (s : State) (addr : Nat) (w : Word) : State :=
  if !s.hostUp then s
  else if !s.slotMode || addr % 4 ≠ 0 || addr < slotBase s.writeSlot || slotBase s.writeSlot + 0x400000 ≤ addr then s.reserved .host
  else if s.wst ≠ 2 || addr ≠ slotBase s.writeSlot + 4 * s.cat.wNext then s.flag CAT_WSTAT.SEQERR true
  else
    let s := { s.setWord addr w with cat := { s.cat with wNext := s.cat.wNext + 1 } }
    s.count CAT_WSTAT.WORDS

/-- The command of the same name. -/
def execSlotWordWrite (addr : Nat) (w : Word) (s : State) : Out := .next <| s.ship <| s.runSlotWordWrite addr w

/-- CMD CLOSE (R106): the checks begin on an open slot. -/
def State.runCatWctlClose (s : State) : State := s.wctl fun s => if s.wst = 2 then s.put CAT_WSTAT.STATE 3 else s

/-- The command of the same name. -/
def execCatWctlClose (s : State) : Out := .next <| s.ship <| s.runCatWctlClose

/-- SLOT_CHECK_DONE (R106, R100): checks 1 to 14 end; `readErr` says that a read met an uncorrectable error. -/
def execSlotCheckDone (readErr : Bool) (s : State) : Out :=
  .next <| s.ship <|
    if s.wst ≠ 3 then s
    else match s.checkSlot s.writeSlot readErr with
      | .inl e => (s.put CAT_WSTAT.ERR e.code).put CAT_WSTAT.STATE 5
      | .inr _ => (s.put CAT_WSTAT.ERR 0).put CAT_WSTAT.STATE 4

/-- CMD COMMIT (R106, R108, R592): in Service mode, from PASSED. The first commit closes the debug port for good (CATLOCK). -/
def State.runCatWctlCommit (s : State) : State :=
  s.wctl fun s =>
    if s.mode = 8 && s.wst = 4 then (s.put CAT_WSTAT.STATE 6).flag KEY_STAT.CATLOCK true else s.reserved .host

/-- The command of the same name. -/
def execCatWctlCommit (s : State) : Out := .next <| s.ship <| s.runCatWctlCommit

/-- SLOT_COMMIT_DONE (R103, R106): the written slot is primary. -/
def execSlotCommitDone (s : State) : Out :=
  .next <| s.ship <|
    if s.wst ≠ 6 then s
    else
      let b := s.writeSlot
      let s := { s with cat := { s.cat with slotCtl := commitCopy s.cat.slotCtl (b2n b) } }
      let s := (s.flag CAT_STAT.PRIMARY b).flag CAT_STAT.FALLBACK (s.bit CAT_STAT.SLOT != b)
      s.put CAT_WSTAT.STATE 7

/-- CMD ABORT (R108): the slot is left erased, unless it is committed. -/
def State.runCatWctlAbort (s : State) : State :=
  s.wctl fun s =>
    if s.wst = 0 || 6 ≤ s.wst then s
    else ({ s.eraseSlot s.writeSlot with cat := { s.cat with wNext := 0 } }).put CAT_WSTAT.STATE 0

/-- The command of the same name. -/
def execCatWctlAbort (s : State) : Out := .next <| s.ship <| s.runCatWctlAbort

end Sys2Proof.Machine
end

