-- ==== Sys2Proof/Machine/Flt.lean ====
section
/-! DEFINITION. The commands of the Conservator (spec/16 R495 to R525). -/

namespace Sys2Proof.Machine

/-- A report put before the first one of a higher source ID. -/
def insertRep (r : Rep) : List Rep → List Rep
  | [] => [r]
  | q :: qs => if r.src < q.src then r :: q :: qs else q :: insertRep r qs

/-- FAULT_REPORT (R500 to R511, R518 to R520): the Conservator takes the `n` reports longest on their way on one clock edge, in
ascending source ID. -/
def execFaultReport (n : Nat) (s : State) : Out :=
  .next <| s.ship <|
    if !s.bit FLT_STAT.AOK && !s.bit FLT_STAT.BOK then s
    else
      let rs := (s.flt.raised.take n).foldl (fun l r => insertRep r l) []
      let gs := List.range 16
      let seq := gs.filter fun g => s.bit FLT_RGSTAT.SEQ g
      let win := gs.filter fun g => s.bit FLT_RGSTAT.SHWIN g
      let was := gs.filter s.isForced
      let s := { s with flt := { s.flt with raised := s.flt.raised.drop n } }
      forEach rs (fun r s => s.classify seq win was r) s

/-- REACTION_SEQUENCE_END (R506, R510): the sequence ends and the shadow window begins. -/
def execReactionSequenceEnd (g : Nat) (s : State) : Out :=
  .next <| s.ship <|
    if g < 16 && s.bit FLT_RGSTAT.SEQ g then (s.flag FLT_RGSTAT.SEQ false g).flag FLT_RGSTAT.SHWIN true g else s

/-- SHADOW_WINDOW_END (R510). -/
def execShadowWindowEnd (g : Nat) (s : State) : Out :=
  .next <| s.ship <| if g < 16 && s.bit FLT_RGSTAT.SHWIN g then s.flag FLT_RGSTAT.SHWIN false g else s

/-- SOURCE_ACTIVITY_EXPIRY (R509): 1 ms after its report a source without a clearing condition is no longer active. -/
def execSourceActivityExpiry (src : Nat) (s : State) : Out :=
  .next <| s.ship <| s.setActive (s.flt.active.filter fun a => !(a.src == src && a.oneMs && !a.inj))

/-- R515, R539: the oldest report is written to the log, low word first, and shipped to a partner unless it came from it. -/
def State.logOne (s : State) : State :=
  match s.flt.logq with
  | [] => s
  | w :: ws =>
    let a := 0x600000 + 8 * (s.fld FLT_LOGCNT.CNT % 512)
    let s := { s with flt := { s.flt with logq := ws } }
    let s := (s.setWord a (w.extractLsb' 0 32)).setWord (a + 4) (w.extractLsb' 32 32)
    let s := s.wrap FLT_LOGCNT.CNT
    if s.isPair && s.linkUp && !w.getLsbD 12 then s.twinSend 5 (leBytes w.toNat 8) else s

/-- LOG_WRITE (R515): a classified report is written. -/
def execLogWrite (s : State) : Out :=
  .next <| s.ship <| if s.memUp && (s.bit FLT_STAT.AOK || s.bit FLT_STAT.BOK) then s.logOne else s

/-- LOG_BUFFER_FLUSH (R516): once the memory island runs, the buffered reports are written in order. -/
def execLogBufferFlush (s : State) : Out :=
  .next <| s.ship <|
    if s.memUp && (s.bit FLT_STAT.AOK || s.bit FLT_STAT.BOK) then forEach s.flt.logq (fun _ s => s.logOne) s else s

/-- FLT_RGCMD_RELEASE (R508): not in Sealed for host software; a release whose conditions do not hold is ignored with RELREF. -/
def State.runFltRgcmdRelease (s : State) (who : Who) (g : Nat) : State :=
  if 16 ≤ g || s.mode = 11 then s.reserved who
  else if s.releasable g then s.releaseGroup g
  else s.flag FLT_RGSTAT.RELREF true g

/-- The command of the same name. -/
def execFltRgcmdRelease (who : Who) (g : Nat) (s : State) : Out := .next <| s.ship <| s.asWho who 18 fun s => s.runFltRgcmdRelease who g

/-- GROUP_AUTO_RELEASE (R508): with AUTOREL, once the conditions have held for TREL. -/
def execGroupAutoRelease (g : Nat) (s : State) : Out :=
  .next <| s.ship <| if g < 16 && s.bit FLT_RGCTL.AUTOREL g && s.releasable g then s.releaseGroup g else s

/-- FLT_ATTN_ACK (R517): the classes written as 1 are acknowledged. -/
def State.runFltAttnAck (s : State) (mask : BitVec 6) : State :=
  s.put FLT_ATTN.PEND ((BitVec.ofNat 6 (s.fld FLT_ATTN.PEND)) &&& ~~~ mask).toNat

/-- The command of the same name. -/
def execFltAttnAck (mask : BitVec 6) (s : State) : Out := .next <| s.ship <| s.unsealed fun s => s.runFltAttnAck mask

/-- FLT_CMD_CLRLOG (R515): Service mode only. -/
def State.runFltCmdClrlog (s : State) (who : Who) : State :=
  if s.mode ≠ 8 then s.reserved who else (s.clearMem 0x600000 0x601000).put FLT_LOGCNT.CNT 0

/-- The command of the same name. -/
def execFltCmdClrlog (who : Who) (s : State) : Out := .next <| s.ship <| s.asWho who 18 fun s => s.runFltCmdClrlog who

/-- FLT_CMD_CLRLOST. -/
def State.runFltCmdClrlost (s : State) : State := s.setReg ⟨.FLT_LOST, 0, 0, 0⟩ 0

/-- The command of the same name. -/
def execFltCmdClrlost (s : State) : Out := .next <| s.ship <| s.unsealed fun s => s.runFltCmdClrlost

/-! ## Injection (R518 to R520) -/

/-- R519, R634: the injection is refused. -/
def State.injBarred (s : State) (src : Nat) (modeOk : Bool) : Bool :=
  !modeOk || 14 ≤ src / 512 || !srcFitted s.variant src || s.fld FLT_INJSTAT.MODE ≠ 0

/-- An injection begins: its report reaches the Conservator's inputs. -/
def State.inject (s : State) (src tinj m : Nat) (live : Bool) : State :=
  let s := ((s.put FLT_INJSTAT.SRC src).put FLT_INJSTAT.MODE m).put FLT_INJSTAT.LEFT tinj
  { s with flt := { s.flt with injAt := s.tb
                               raised := s.flt.raised ++ [⟨src, s.fld FLT_INJD.DETAIL, s.micros, live, true, true⟩] } }

/-- An injection ends: its source is no longer active by it. -/
def State.endInjection (s : State) : State :=
  let s := (s.put FLT_INJSTAT.MODE 0).put FLT_INJSTAT.LEFT 0
  let raised := s.flt.raised.map fun (r : Rep) => if r.inj then { r with live := false } else r
  State.setActive { s with flt := { s.flt with raised := raised } } (s.flt.active.filter fun a => !a.inj)

/-- FLT_INJ_LIVE (R518, R519): in modes 3 to 8. -/
def State.runFltInjLive (s : State) (who : Who) (src tinj : Nat) : State :=
  if s.injBarred src (decide (3 ≤ s.mode) && decide (s.mode ≤ 8)) || 8192 ≤ src || tinj = 0 || 256 ≤ tinj then s.reserved who
  else s.inject src tinj 1 true

/-- The command of the same name. -/
def execFltInjLive (who : Who) (src tinj : Nat) (s : State) : Out := .next <| s.ship <| s.asWho who 18 fun s => s.runFltInjLive who src tinj

/-- FLT_INJ_DRY (R518, R519): in Service mode. -/
def State.runFltInjDry (s : State) (who : Who) (src tinj : Nat) : State :=
  if s.injBarred src (decide (s.mode = 8)) || 8192 ≤ src || tinj = 0 || 256 ≤ tinj then s.reserved who
  else s.inject src tinj 2 false

/-- The command of the same name. -/
def execFltInjDry (who : Who) (src tinj : Nat) (s : State) : Out := .next <| s.ship <| s.asWho who 18 fun s => s.runFltInjDry who src tinj

/-- FLT_INJ_END (R519): MODE 0 ends an active injection at once. -/
def State.runFltInjEnd (s : State) : State := if s.fld FLT_INJSTAT.MODE = 0 then s else s.endInjection

/-- The command of the same name. -/
def execFltInjEnd (s : State) : Out := .next <| s.ship <| s.unsealed fun s => s.runFltInjEnd

/-- INJECTION_EXPIRY (R518): TINJ has passed. -/
def execInjectionExpiry (s : State) : Out := .next <| s.ship <| if s.fld FLT_INJSTAT.MODE = 0 then s else s.endInjection

/-! ## Self-checking (R521 to R525) -/

/-- R523: one half's exchange, sent or missed. -/
def State.exchange (s : State) (h : Half) (sent : Bool) : State :=
  if !s.halfOk h then s
  else match h, sent with
    | .A, true => { s with flt := { s.flt with missA := 0 } }
    | .B, true => { s with flt := { s.flt with missB := 0 } }
    | .A, false =>
      let s := { s with flt := { s.flt with missA := s.flt.missA + 1 } }.count TST_STAT.MISSA
      if s.flt.missA = 3 && s.bit FLT_STAT.BOK then s.loseHalf .A 1 0 else s
    | .B, false =>
      let s := { s with flt := { s.flt with missB := s.flt.missB + 1 } }.count TST_STAT.MISSB
      if s.flt.missB = 3 && s.bit FLT_STAT.AOK then s.loseHalf .B 1 0 else s

/-- R522: the digests differ: each half keeps forcing what it decided, and the module enters Limp. -/
def State.disagree (s : State) (a b : HalfDec) : State :=
  let s := { s with flt := { s.flt with
    forceA := s.flt.forceA ||| a.groups, forceB := s.flt.forceB ||| b.groups
    levA := a.levels ++ s.flt.levA, levB := b.levels ++ s.flt.levB } }
  let s := ((s.hold 14 0 0).hold 14 1 0).flag FLT_STAT.DISAG true
  s.dropTwok.enterLimp.showForced.forceReach

/-- DIGEST_EXCHANGE (R521 to R523): the halves exchange the digests of what they decided since the previous exchange. -/
def execDigestExchange (sentA sentB : Bool) (decA decB : HalfDec) (s : State) : Out :=
  .next <| s.ship <|
    let s := (s.exchange .A sentA).exchange .B sentB
    if sentA && sentB && s.bit FLT_STAT.AOK && s.bit FLT_STAT.BOK && decA != decB then s.disagree decA decB else s

/-- SELF_TEST_CYCLE (R525, R523): a half completes a background cycle; `failed` is the first failing test, 0 for none. -/
def execSelfTestCycle (half : Half) (failed : Nat) (s : State) : Out :=
  .next <| s.ship <|
    if !s.halfOk half || 16 ≤ failed then s
    else if failed = 0 then s.wrap TST_STAT.CYCLES
    else (s.put TST_STAT.FAILTEST failed).failHalf half failed

/-- R525: a commanded test, in Service mode only; none starts while one runs. -/
def State.startTest (s : State) (who : Who) (k : TestKind) : State :=
  if s.mode ≠ 8 then s.reserved who
  else if s.bit TST_STAT.BUSY then s
  else { s with flt := { s.flt with test := k } }.flag TST_STAT.BUSY true

/-- TST_CMD_SELF_TEST_A (R525). -/
def State.runTstCmdSelfTestA (s : State) (who : Who) : State := s.startTest who .selfA

/-- The command of the same name. -/
def execTstCmdSelfTestA (who : Who) (s : State) : Out := .next <| s.ship <| s.asWho who 22 fun s => s.runTstCmdSelfTestA who

/-- TST_CMD_SELF_TEST_B (R525). -/
def State.runTstCmdSelfTestB (s : State) (who : Who) : State := s.startTest who .selfB

/-- The command of the same name. -/
def execTstCmdSelfTestB (who : Who) (s : State) : Out := .next <| s.ship <| s.asWho who 22 fun s => s.runTstCmdSelfTestB who

/-- TST_CMD_COMPARE_TEST (R525). -/
def State.runTstCmdCompareTest (s : State) (who : Who) : State := s.startTest who .compare

/-- The command of the same name. -/
def execTstCmdCompareTest (who : Who) (s : State) : Out := .next <| s.ship <| s.asWho who 22 fun s => s.runTstCmdCompareTest who

/-- TST_CMD_FORCE_PATH_TEST (R525). -/
def State.runTstCmdForcePathTest (s : State) (who : Who) (g : Nat) : State :=
  if 16 ≤ g then s.reserved who else s.startTest who (.force g)

/-- The command of the same name. -/
def execTstCmdForcePathTest (who : Who) (g : Nat) (s : State) : Out := .next <| s.ship <| s.asWho who 22 fun s => s.runTstCmdForcePathTest who g

/-- TEST_COMPLETE (R525): the commanded test ends; `failed` is the first failing self-test (any number but 0 for the other
tests), 0 where it passed. A half that fails its self-test is lost (R523). -/
def execTestComplete (failed : Nat) (s : State) : Out :=
  .next <| s.ship <|
    if !s.bit TST_STAT.BUSY then s
    else
      let k := s.flt.test
      let s := { s with flt := { s.flt with test := .none } }.flag TST_STAT.BUSY false
      let s := s.put TST_STAT.RESULT (if failed = 0 then 1 else 2)
      match k with
      | .selfA =>
        let s := s.put TST_STAT.FAILTEST (min failed 15)
        if failed ≠ 0 && s.halfOk .A then s.failHalf .A (min failed 15) else s
      | .selfB =>
        let s := s.put TST_STAT.FAILTEST (min failed 15)
        if failed ≠ 0 && s.halfOk .B then s.failHalf .B (min failed 15) else s
      | _ => s.put TST_STAT.FAILTEST 0

end Sys2Proof.Machine
end

