-- ==== Sys2Proof/Machine/Hbr.lean ====
section
/-! DEFINITION. The commands of the motor bridges (spec/06 R205 to R242). -/

namespace Sys2Proof.Machine

/-- R233: detail with a current in ILIM steps. -/
def State.hbrIDetail (s : State) (b iMa : Nat) : Nat := coilDetail (s.hb b) (iMa / hbStep b)

/-- HBRb_MEAS.I, a mean current, signed, positive in direction 0. -/
def State.hbrMeas (s : State) (b iMa : Nat) : State :=
  s.sput HBR_MEAS.I (if (s.br b).dir then -(iMa : Int) else (iMa : Int)) b

/-- The current limit in mA (R205). -/
def State.hbLimMa (s : State) (b : Nat) : Nat := s.fld HBR_LIM.ILIM b * hbStep b

/-- BRIDGE_COMMAND_CHANGE (R208, R211, R212, R230): the bridge follows the level and direction commanded. -/
def execBridgeCommandChange (b : Nat) (s : State) : Out :=
  .next <| s.ship <|
    if !hbrFitted s.variant b then s
    else
      let s := s.hbrShow b
      let c := s.cmd (48 + b)
      match s.hb b with
      | 0 => s.hbrFollow b
      | 1 | 2 =>
        if !c.1 then s.hbrIdle b
        else if (s.br b).revWait then
          if c.2 = (s.br b).dir then s.hbrSteer b c.2 else s
        else if c.2 = (s.br b).dir then s
        else s.hbrSteer b c.2
      | 3 => s.hbrRelease b
      | _ => s.tryRecover (48 + b) false

/-- REVERSAL_BRAKE_END (R211): the braking time since the last DRIVE interval has reached TREV; a bridge that waits for it
drives in the new direction. -/
def execReversalBrakeEnd (b : Nat) (s : State) : Out :=
  .next <| s.ship <|
    let x := s.br b
    if hbrFitted s.variant b && (x.mode = .brakeLow || x.mode = .brakeHigh) && !(x.limBrake && s.hb b = 2) && x.drove then
      let s := s.setBr b { x with revDone := true }
      if x.revWait then s.hbrSteer b (s.cmd (48 + b)).2 else s
    else s

/-- BRIDGE_CYCLE_LIMIT (R212, R215): the current reaches ILIM, which holds to ±8 %, in DRIVE or LIMIT: BRAKE_LOW, and LIMIT. -/
def execBridgeCycleLimit (b iMa : Nat) (s : State) : Out :=
  .next <| s.ship <|
    let iMa := s.sensedMa (48 + b) iMa
    if hbrFitted s.variant b && s.hbrRunning b && (s.br b).mode = .drive && 92 * s.hbLimMa b ≤ 100 * iMa then
      let s := (s.setHb b 2).hbrMode b .brakeLow
      s.setBr b { s.br b with limBrake := true }
    else s

/-- CYCLE_LIMIT_END (R215): tCBC has elapsed or the command rises: the bridge drives again. -/
def execCycleLimitEnd (b : Nat) (s : State) : Out :=
  .next <| s.ship <|
    if hbrFitted s.variant b && s.hb b = 2 && (s.br b).limBrake then s.hbrMode b .drive else s

/-- BRIDGE_LIMIT_EXIT (R212): no cycle limit for one IN-high interval or 1 ms: DRIVE. -/
def execBridgeLimitExit (b : Nat) (s : State) : Out :=
  .next <| s.ship <| if hbrFitted s.variant b && s.hb b = 2 && !(s.br b).limBrake then s.setHb b 1 else s

/-- BRIDGE_TLIM_EXPIRY (R216): TLIM in LIMIT: kind 1. -/
def execBridgeTlimExpiry (b iMa : Nat) (s : State) : Out :=
  .next <| s.ship <|
    let iMa := s.sensedMa (48 + b) iMa
    if hbrFitted s.variant b && s.hb b = 2 then
      (s.flag HBR_STAT.OC true b).trip (48 + b) 1 (s.hbrIDetail b iMa) true
    else s

/-- BRAKE_OVERCURRENT (R217): the current of a braking bridge is above ILIM: it coasts; it brakes again once the current is
below 50 % of ILIM. No cycle limit. -/
def execBrakeOvercurrent (b iMa : Nat) (s : State) : Out :=
  .next <| s.ship <|
    let iMa := s.sensedMa (48 + b) iMa
    let x := s.br b
    let lim := s.hbLimMa b
    if !hbrFitted s.variant b then s
    else if (x.mode = .brakeLow || x.mode = .brakeHigh) && !x.ocCoast && lim < iMa then
      s.setBr b { x with ocCoast := true, coasted := true }
    else if x.ocCoast && 2 * iMa < lim then s.setBr b { x with ocCoast := false }
    else s

/-- BRIDGE_SHORT_CUT (R218): a switch current crosses ISC in a state in which a switch conducts: kind 0 with the switch
(0 high A, 1 low A, 2 high B, 3 low B) and the current in 2 A or 0.25 A. -/
def execBridgeShortCut (b sw iMa : Nat) (s : State) : Out :=
  .next <| s.ship <|
    let iMa := s.sensedMa (48 + b) iMa
    let x := s.br b
    if hbrFitted s.variant b && x.mode != .coast && !x.ocCoast && s.canTrip (48 + b) &&
        crossesIsc (hbIscMa b (s.fld HBR_LIM.ISC b)) iMa then
      let d := s.hb b * 512 + (sw % 4) * 128 + satTo (iMa / (if hbHigh b then 2000 else 250)) 7
      (s.flag HBR_STAT.SC true b).trip (48 + b) 0 d true
    else s

/-- BRIDGE_OPEN_LOAD (R220): in DRIVE the mean current has stayed below, or at or above, OLTH for TOL. -/
def execBridgeOpenLoad (b iMa : Nat) (s : State) : Out :=
  .next <| s.ship <|
    let iMa := s.sensedMa (48 + b) iMa
    let th := s.fld HBR_OL.OLTH b
    if hbrFitted s.variant b && s.hb b = 1 && th ≠ 0 && !s.diagBarred (48 + b) then
      let s := s.hbrMeas b iMa
      let old := s.fld HBR_STAT.OLSTAT b
      let new := if iMa < 10 * th then 2 else 1
      if old = new then s
      else
        let s := s.put HBR_STAT.OLSTAT new b
        let s := if new = 2 then s.hold 3 b 4 (coilDetail (s.hb b) (iMa / 10)) else s.clearSrc 3 b 4
        s.hbrEvent b 2
    else s

/-! ## Position (R221 to R228) -/

/-- R222: ripple counting is valid: state, ripple frequency 30 Hz to 6 kHz, mean current, amplitude, command. The frequency
is that of the period `tk` (ns); `inHz` is the IN frequency, 0 for a command that is ON continuously. -/
def State.ripValid (s : State) (b tk iMa ampMa inHz : Nat) : Bool :=
  let x := s.br b
  (s.hbrRunning b || (x.mode = .brakeLow || x.mode = .brakeHigh) && !x.ocCoast) &&
    166667 ≤ tk && tk ≤ 33333333 && (if hbHigh b then 1000 else 300) ≤ iMa && iMa ≤ 20 * ampMa &&
    (inHz = 0 || 16000 ≤ inHz)

/-- R226: the pinch threshold in ns. -/
def State.pinchLimit (s : State) (b : Nat) : Rat :=
  (s.br b).tf * (1 + ((s.fld HBR_PINCH.PTHR b : Nat) : Rat) / 64)

/-- R226: pinch periods are counted: armed, driving in PDIR, in the zone, after SBLANK counts, Tf known (R224). -/
def State.pinchArmed (s : State) (b : Nat) : Bool :=
  let x := s.br b
  let pos := s.sfld HBR_POS.POS b
  s.bit HBR_PINCH.PEN b && s.hbrRunning b && !x.revWait && x.dir == s.bit HBR_PINCH.PDIR b &&
    decide (s.sfld HBR_PZONE.PZLO b ≤ pos) && decide (pos ≤ s.sfld HBR_PZONE.PZHI b) &&
    decide (s.fld HBR_PINCH.SBLANK b ≤ x.counts) && decide (2 ≤ x.counts)

/-- R226: the present period exceeds the threshold: the run grows, and PCNT periods stop the bridge. -/
def State.pinchExceed (s : State) (b : Nat) : State :=
  let x := s.br b
  if x.exceeded || !s.pinchArmed b then s
  else
    let s := s.setBr b { x with run := x.run + 1, exceeded := true }
    if s.fld HBR_PINCH.PCNT b ≤ x.run + 1 then s.hbrStop b 1 else s

/-- R224: Tf after a count with period `tk` (ns): the first count after a start of DRIVE restarts timing, the next one sets
Tf, later ones filter unless the period exceeds the pinch threshold. -/
def State.tfStep (s : State) (b tk : Nat) : State :=
  let x := s.br b
  let t : Rat := ((tk : Nat) : Rat)
  let tf := if x.counts = 0 then x.tf
    else if x.counts = 1 then t
    else if s.pinchLimit b < t then x.tf
    else x.tf + (t - x.tf) / 16
  (s.setBr b { x with tf := tf }).put HBR_POS.TF (satTo (tf / 10000).floor.toNat 16) b

/-- R228: a target stop is due where POS has just moved to TARGET. -/
def State.targetStop (s : State) (b : Nat) (old : Int) : State :=
  let pos := s.sfld HBR_POS.POS b
  if s.bit HBR_TGT.TGTEN b && s.hbrRunning b && pos != old && pos = s.sfld HBR_TGT.TARGET b then s.hbrStop b 3 else s

/-- POSITION_COUNT (R221 to R226, R228, R229): a ripple or hall count with the period since the previous one (ns), and for
ripple the measured mean current, amplitude and IN frequency (R222); `dir` is the phase's direction with SRC = 3. -/
def execPositionCount (b tk iMa ampMa inHz : Nat) (dir : Bool) (s : State) : Out :=
  .next <| s.ship <|
    let iMa := s.sensedMa (48 + b) iMa
    let src := s.fld HBR_MON.SRC b
    if !hbrFitted s.variant b || src = 0 then s
    else
      let valid := s.ripValid b tk iMa ampMa inHz
      let s := if src = 1 then
          ((s.hbrMeas b iMa).setBr b { s.br b with ripAt := s.tb }).flag HBR_STAT.RIPVALID valid b else s
      if src = 1 && !valid then s
      else
        let x := s.br b
        let d := if src = 3 then dir else x.dir
        let s := s.setBr b { x with against := if src = 3 && d != x.dir then min (x.against + 1) 4 else 0 }
        let s := if s.pinchLimit b < ((tk : Nat) : Rat) then s.pinchExceed b else s
        let s := s.tfStep b tk
        let x := s.br b
        let s := s.setBr b { x with counts := x.counts + 1, run := if x.exceeded then x.run else 0, exceeded := false }
        let old := s.sfld HBR_POS.POS b
        (s.posMove b (if d then -1 else 1)).targetStop b old

/-- POSITION_ERROR (R225): cause 1, both hall lines change on one edge; 2, four consecutive counts against the driven
direction; 3, RIPVALID 0 for 50 ms in DRIVE, as the command says: kind 5, POSERR, POSVALID 0, service event. -/
def execPositionError (b cause : Nat) (s : State) : Out :=
  .next <| s.ship <|
    let src := s.fld HBR_MON.SRC b
    let holds := match cause with
      | 1 => src == 3
      | 2 => src == 3 && decide (4 ≤ (s.br b).against)
      | 3 => src == 1 && s.hb b == 1
      | _ => false
    if hbrFitted s.variant b && holds then
      let s := s.setBr b { s.br b with against := 0 }
      let s := if cause = 3 then s.flag HBR_STAT.RIPVALID false b else s
      let s := (s.flag HBR_STAT.POSERR true b).flag HBR_STAT.POSVALID false b
      (s.raise 3 b 5 (coilDetail (s.hb b) cause)).hbrEvent b 3
    else s

/-- PINCH_PERIOD_EXCEEDED (R226): the time since the last count has passed the pinch threshold. -/
def execPinchPeriodExceeded (b : Nat) (s : State) : Out :=
  .next <| s.ship <| if hbrFitted s.variant b then s.pinchExceed b else s

/-- R222, R227: a stall without a count for 40 ms or more leaves no ripple of 30 Hz. -/
def State.stallRip (s : State) (b : Nat) : State :=
  if 4 ≤ s.fld HBR_STALL.TSTALL b && s.fld HBR_MON.SRC b = 1 then s.flag HBR_STAT.RIPVALID false b else s

/-- STALL_DETECTED (R227): the current has stayed at or above ISTALL for TSTALL in DRIVE or LIMIT. -/
def execStallDetected (b iMa : Nat) (s : State) : Out :=
  .next <| s.ship <|
    let iMa := s.sensedMa (48 + b) iMa
    if hbrFitted s.variant b && s.hbrRunning b && s.fld HBR_STALL.ISTALL b ≠ 0 &&
        s.fld HBR_STALL.ISTALL b * hbStep b ≤ iMa then
      let d := s.hbrIDetail b iMa
      let s := s.stallRip b
      let s := if s.bit HBR_STALL.STALLREP b then s.raise 3 b 2 d else s
      s.hbrStop b 2
    else s

/-- TSTOPBRK_EXPIRY (R230, R211): TSTOPBRK has passed; a release condition that holds takes effect. Braking for all of it
counts towards TREV. -/
def execTstopbrkExpiry (b : Nat) (s : State) : Out :=
  .next <| s.ship <|
    let x := s.br b
    if hbrFitted s.variant b && s.hb b = 3 && !x.stopOver then
      let met := 2 * s.fld HBR_CFG.TREV b ≤ s.fld HBR_PINCH.TSTOPBRK b && !x.coasted
      (s.setBr b { x with stopOver := true, revDone := x.revDone || met }).hbrRelease b
    else s

/-! ## Register writes (R223, R228, R242) -/

/-- HBR_TGT_WRITE (R228): the target; written with TGTEN while POS equals TARGET it stops a driving bridge at once. -/
def State.runHbrTgtWrite (s : State) (who : Who) (b : Nat) (w : Word) : State :=
  if !hbrFitted s.variant b then s.reserved who
  else s.accept who ⟨.HBR_TGT, b, 0, 0⟩ w fun s =>
    let s := s.storeWrite who ⟨.HBR_TGT, b, 0, 0⟩ w
    if s.bit HBR_TGT.TGTEN b && s.hbrRunning b && s.sfld HBR_POS.POS b = s.sfld HBR_TGT.TARGET b then s.hbrStop b 3 else s

/-- The command of the same name. -/
def execHbrTgtWrite (who : Who) (b : Nat) (w : Word) (s : State) : Out := .next <| s.ship <| s.asWho who 5 fun s => s.runHbrTgtWrite who b w

/-- HBR_POSSET (R223): POS is set and POSVALID becomes 1. -/
def State.runHbrPosset (s : State) (who : Who) (b : Nat) (w : Word) : State :=
  if !hbrFitted s.variant b then s.reserved who
  else s.accept who ⟨.HBR_POSSET, b, 0, 0⟩ w fun s =>
    (s.put HBR_POS.POS (ext w 0 16) b).flag HBR_STAT.POSVALID true b

/-- The command of the same name. -/
def execHbrPosset (who : Who) (b : Nat) (w : Word) (s : State) : Out := .next <| s.ship <| s.asWho who 5 fun s => s.runHbrPosset who b w

/-- HBR_CLR_TRIP (R218, R168). -/
def State.runHbrClrTrip (s : State) (who : Who) (b : Nat) : State :=
  if hbrFitted s.variant b then s.clrTrip (48 + b) else s.reserved who

/-- The command of the same name. -/
def execHbrClrTrip (who : Who) (b : Nat) (s : State) : Out := .next <| s.ship <| s.asWho who 5 fun s => s.runHbrClrTrip who b

/-- HBR_CLR_STOP (R230): a stop is released, once TSTOPBRK has passed. -/
def State.runHbrClrStop (s : State) (who : Who) (b : Nat) : State :=
  if !hbrFitted s.variant b then s.reserved who
  else if s.hb b = 3 then (s.setBr b { s.br b with stopClr := true }).hbrRelease b else s

/-- The command of the same name. -/
def execHbrClrStop (who : Who) (b : Nat) (s : State) : Out := .next <| s.ship <| s.asWho who 5 fun s => s.runHbrClrStop who b

/-- HBR_SFLT (R242): a service code raises kind 6; code 0 is reserved: RSVD for the host, SFLTERR for a context. -/
def State.runHbrSflt (s : State) (who : Who) (b : Nat) (w : Word) : State :=
  if !hbrFitted s.variant b then s.reserved who
  else match who with
    | .host => s.accept .host ⟨.HBR_SFLT, b, 0, 0⟩ w fun s => s.raise 3 b 6 (ext w 0 12)
    | .ctx c =>
      if ext w 12 20 = 0 && ext w 0 12 = 0 then s.flag HBR_STAT.SFLTERR true b
      else s.accept (.ctx c) ⟨.HBR_SFLT, b, 0, 0⟩ w fun s => s.raise 3 b 6 (ext w 0 12)

/-- The command of the same name. -/
def execHbrSflt (who : Who) (b : Nat) (w : Word) (s : State) : Out := .next <| s.ship <| s.asWho who 5 fun s => s.runHbrSflt who b w

end Sys2Proof.Machine
end

