-- ==== Sys2Proof/Machine/Key.lean ====
section
/-! DEFINITION. The commands of the security island (spec/18): key store commands, envelopes, Service authorisation, operation
descriptors, tamper events, the debug port. -/

namespace Sys2Proof.Machine

/-! ## Envelopes (R576 to R578) -/

/-- The envelope in KEY_ENV0 to 19. -/
def State.envelope (s : State) : List Byte := s.regBytes .KEY_ENV 20

/-- R577: the counter that an envelope's COUNTER must exceed. -/
def State.storedCounter (s : State) (slot : Nat) : Nat :=
  if slot = 0xFD then s.fld KEY_UNSCNT.CNT
  else if slot = 0xFE then s.fld KEY_DBGCNT.CNT
  else match s.slotKey slot with
    | some k => k.counter
    | none => 0

/-- R577: the checks in their order; the result of the first that fails, or the new key (empty for 0xFD and 0xFE). -/
def State.envCheck (s : State) (e : List Byte) : Nat ⊕ List Byte :=
  let slot := leNat (slice e 16 1)
  let flags := leNat (slice e 17 1)
  let counter := leNat (slice e 18 4)
  let upd := 4 ≤ slot && slot ≤ 31
  let uidOk := slice e 0 16 == deviceUid || (allZero (slice e 0 16) && upd &&
    (match s.slotKey slot with | some k => k.wild | none => true))
  let tagOk := match s.slotKey 0 with
    | some k => slice e 64 16 == aesCmac (kdf k.key (lblUpd slot)) (e.take 64)
    | none => false
  let fieldsOk := counter < 2 ^ 28 && allZero (slice e 22 2) &&
    (if upd then flags < 128 else flags == 0 && allZero (slice e 24 40))
  if s.sealed && slot ≠ 0xFD then .inl 7
  else if !(upd || slot = 0xFD || slot = 0xFE) then .inl 8
  else if !uidOk then .inl 9
  else if !tagOk then .inl 2
  else if !fieldsOk then .inl 8
  else if counter ≤ s.storedCounter slot then .inl 10
  else if !upd then .inr []
  else match s.slotKey 0 with
    | some k => match keyUnwrap (kdf k.key (lblKw slot)) (slice e 24 40) with
      | some key => .inr key
      | none => .inl 2
    | none => .inl 2

/-- R566: a write of key flash begins in the inactive copy. -/
def State.beginWork (s : State) (w : KeyWork) : State :=
  { s with key := { s.key with work := some w } }.flag KEY_STAT.BUSY true

/-- The copy that a write of a slot goes to. -/
def State.writeCopy (s : State) (n : Nat) : Bool := match s.activeCopy n with | some c => !c | none => false

/-- R577, R578, R587, R592: an envelope is applied. -/
def State.applyEnvelope (s : State) : State :=
  let e := s.envelope
  let slot := leNat (slice e 16 1)
  let s := s.flag KEY_STAT.BUSY false
  match s.envCheck e with
  | .inl r => (s.keyRes r 1 slot).raise 13 1 0 (r * 256 + slot)
  | .inr key =>
    let counter := leNat (slice e 18 4)
    if slot = 0xFD then
      ((((s.flag KEY_STAT.SEALED false).put KEY_STAT.TCNT 0).put KEY_UNSCNT.CNT counter).keyRes 1 1 slot).raise 13 1 3 0
    else if slot = 0xFE then
      (((s.flag KEY_STAT.DBGOPEN true).put KEY_DBGCNT.CNT counter).keyRes 1 1 slot).raise 13 1 4 0
    else
      let flags := leNat (slice e 17 1)
      s.beginWork (.envelope slot (s.writeCopy slot) ⟨true, counter, flags % 64, bitOf flags 6, key⟩)

/-! ## KEY_CMD (R570 to R575, R579) -/

/-- R579: a KEY_CMD write while a write of key flash is in progress is refused with BUSY. -/
def State.keyCmd (s : State) (cmd slot : Nat) (service : Bool) (k : State → State) : State :=
  if s.key.work.isSome || s.key.applyWait then s.keyRes 4 cmd slot
  else if service && s.mode ≠ 8 then s.keyRes 3 cmd slot
  else k s

/-- KEY_CMD_APPLY (R577, R579): it waits for a service operation in progress. -/
def State.runKeyCmdApply (s : State) : State :=
  s.keyCmd 1 (leNat (slice s.envelope 16 1)) true fun s =>
    if s.key.running.isSome then { s with key := { s.key with applyWait := true } }.flag KEY_STAT.BUSY true
    else s.applyEnvelope

/-- The command of the same name. -/
def execKeyCmdApply (who : Who) (s : State) : Out := .next <| s.ship <| s.asWho who 19 fun s => s.runKeyCmdApply

/-- KEY_CMD_PLAINWR (R570, R565, R586). -/
def State.runKeyCmdPlainwr (s : State) (slot flags : Nat) : State :=
  s.keyCmd 2 slot true fun s =>
    if s.sealed then (s.keyRes 7 2 slot).zeroPlain
    else if 4 ≤ slot || (slot = 0 && ((s.activeCopy 0).isSome || flags ≠ 0)) then (s.keyRes 3 2 slot).zeroPlain
    else
      let counter := match s.slotKey slot with | some k => k.counter + 1 | none => 1
      s.beginWork (.plain slot (s.writeCopy slot) ⟨true, counter, flags % 64, false, s.regBytes .KEY_PLAIN 8⟩)

/-- The command of the same name. -/
def execKeyCmdPlainwr (who : Who) (slot flags : Nat) (s : State) : Out := .next <| s.ship <| s.asWho who 19 fun s => s.runKeyCmdPlainwr slot flags

/-- KEY_CMD_IMGKEY (R571, R586). -/
def State.runKeyCmdImgkey (s : State) (idx : Nat) : State :=
  s.keyCmd 3 0 true fun s =>
    if s.sealed then (s.keyRes 7 3 0).zeroPlain
    else
      let i := idx % 2
      let copy := match s.imgActive i with | some c => !c | none => false
      let counter := match s.imgActive i with | some c => (s.imgCopy i c).counter + 1 | none => 1
      let key := s.regBytes .KEY_PLAIN 16
      s.beginWork (.image i copy ⟨true, counter, key, imgTag key⟩)

/-- The command of the same name. -/
def execKeyCmdImgkey (who : Who) (idx : Nat) (s : State) : Out := .next <| s.ship <| s.asWho who 19 fun s => s.runKeyCmdImgkey idx

/-- KEY_CMD_SVCCHAL (R574, R575): 16 fresh random bytes; during a lockout it is refused. -/
def State.runKeyCmdSvcchal (s : State) : State :=
  s.keyCmd 4 0 false fun s =>
    if s.key.lockout then s.keyRes 5 4 0
    else
      let (ws, s) := s.takeFrees 4
      let s := ws.zipIdx.foldl (fun s p => s.setReg ⟨.KEY_SVCNONCE, p.2, 0, 0⟩ p.1) s
      ({ s with key := { s.key with nonceLive := true } }.flag KEY_STAT.SVCOK false).keyRes 1 4 0

/-- The command of the same name. -/
def execKeyCmdSvcchal (who : Who) (s : State) : Out := .next <| s.ship <| s.asWho who 19 fun s => s.runKeyCmdSvcchal

/-- R574: the response that authorises Service mode. -/
def State.svcExpected (s : State) : Option (List Byte) :=
  (s.slotKey 0).map fun k => aesCmac (kdf k.key lblSvc) (s.regBytes .KEY_SVCNONCE 4 ++ deviceUid)

/-- KEY_CMD_SVCAUTH (R574, R575). -/
def State.runKeyCmdSvcauth (s : State) : State :=
  s.keyCmd 5 0 false fun s =>
    let ok := s.key.nonceLive && s.svcExpected == some (s.regBytes .KEY_SVCRESP 4)
    let s := { s with key := { s.key with nonceLive := false } }
    if ok then ({ s with key := { s.key with svcFails := 0 } }.flag KEY_STAT.SVCOK true).keyRes 1 5 0
    else
      let n := s.key.svcFails + 1
      let s := { s with key := { s.key with svcFails := n, lockout := s.key.lockout || decide (3 ≤ n) } }
      (s.keyRes 2 5 0).raise 13 1 2 (satTo n 12)

/-- The command of the same name. -/
def execKeyCmdSvcauth (who : Who) (s : State) : Out := .next <| s.ship <| s.asWho who 19 fun s => s.runKeyCmdSvcauth

/-- KEY_CMD_CLRCACHE (R564). -/
def State.runKeyCmdClrcache (s : State) : State :=
  s.keyCmd 6 0 false fun s => { s with key := { s.key with cache := [] } }.keyRes 1 6 0

/-- The command of the same name. -/
def execKeyCmdClrcache (who : Who) (s : State) : Out := .next <| s.ship <| s.asWho who 19 fun s => s.runKeyCmdClrcache

/-- R566, R567: a slot's copy is committed; the cache loses the slot's entries (R564). -/
def State.commitSlot (s : State) (n : Nat) (c : Bool) (k : KeyCopy) : State :=
  { s with key := { s.key with slots := Tbl.set s.key.slots (n, c) k, cache := s.key.cache.filter fun e => e.slot != n } }.keyShow n

/-- KEY_COMMIT_DONE (R566, R567, R570, R571, R578): the commit record of the write in progress is complete. -/
def execKeyCommitDone (s : State) : Out :=
  .next <| s.ship <| match s.key.work with
    | none => s
    | some w =>
      let s := { s with key := { s.key with work := none } }.flag KEY_STAT.BUSY false
      match w with
      | .envelope n c k =>
        let s := ((s.commitSlot n c k).keyRes 1 1 n).raise 13 1 1 n
        let cnt := leBytes k.counter 4
        let conf := cnt ++ aesCmac k.key (deviceUid ++ BitVec.ofNat 8 n :: cnt)
        (s.setRegBytes .KEY_CONF conf).flag KEY_RES.CONFV true
      | .plain n c k => (((s.commitSlot n c k).keyRes 1 2 n).raise 13 1 1 (256 + n)).zeroPlain
      | .image i c k =>
        let s := { s with key := { s.key with img := Tbl.set s.key.img (i, c) k } }
        ((s.keyRes 1 3 0).raise 13 1 1 (512 + i)).zeroPlain

/-- SVCOK_EXPIRY (R574): 10 s have passed. -/
def execSvcokExpiry (s : State) : Out := .next <| s.ship <| s.flag KEY_STAT.SVCOK false

/-- SVC_LOCKOUT_EXPIRY (R575). -/
def execSvcLockoutExpiry (s : State) : Out := .next <| s.ship <| { s with key := { s.key with lockout := false } }

/-! ## Service operations (R580, R581) -/

/-- KEY_OPGO (R580). -/
def State.runKeyOpgo (s : State) (who : Who) (addr : Word) : State :=
  if 4 ≤ s.key.queue.length || addr.toNat % 4 ≠ 0 then (s.flag KEY_OPSTAT.QFULL true).reserved who
  else (State.opLen { s with key := { s.key with queue := s.key.queue ++ [addr.toNat] } }).startOp

/-- The command of the same name. -/
def execKeyOpgo (who : Who) (addr : Word) (s : State) : Out := .next <| s.ship <| s.asWho who 19 fun s => s.runKeyOpgo who addr

/-- KEY_OPERATION_DONE (R579 to R581): the running descriptor ends; an APPLY that waits comes before the next one. -/
def execKeyOperationDone (s : State) : Out :=
  .next <| s.ship <| match s.key.running with
    | none => s
    | some b =>
      let r := s.runOp (s.key.queue.headD 0) b
      let s := r.2.endOp r.1
      let s := if s.key.applyWait then { s with key := { s.key with applyWait := false } }.applyEnvelope else s
      s.startOp

/-! ## Tamper and debug port (R582 to R592) -/

/-- KEY_TCFG_WRITE (R582, R15, R19). -/
def State.runKeyTcfgWrite (s : State) (w : Word) : State :=
  s.accept .host ⟨.KEY_TCFG, 0, 0, 0⟩ w fun s => s.storeWrite .host ⟨.KEY_TCFG, 0, 0, 0⟩ w

/-- The command of the same name. -/
def execKeyTcfgWrite (w : Word) (s : State) : Out := .next <| s.ship <| s.runKeyTcfgWrite w

/-- R582: the modes in which a source is detected. Sources 2 to 5 are detected by the commands they belong to. -/
def State.detects (s : State) (src : Nat) : Bool :=
  match src with
  | 0 => s.sys.phase != .unpowered
  | 1 => s.sys.phase != .unpowered && s.sys.phase != .parked && s.sys.phase != .parkDown
  | _ => false

/-- TAMPER_EVENT (R582 to R588): a supply glitch (0) or a clock glitch (1). -/
def execTamperEvent (src : Nat) (s : State) : Out := .next <| s.ship <| if s.detects src then s.tamper src false else s

/-- DEBUG_REQUEST (R591, R582): an identification request is answered; while the port is locked any other one is refused, and
four refusals within 1 s are a tamper event. -/
def execDebugRequest (ident : Bool) (s : State) : Out :=
  .next <| s.ship <|
    if ident || s.sys.phase = .unpowered || !s.bit KEY_STAT.CATLOCK || s.bit KEY_STAT.DBGOPEN then s
    else
      let rs := (s.key.refusals.filter fun t => s.tb < t + 100000000) ++ [s.tb]
      if 4 ≤ rs.length then { s with key := { s.key with refusals := [] } }.tamper 5 false
      else { s with key := { s.key with refusals := rs } }

end Sys2Proof.Machine
end

