-- ==== Sys2Proof/Machine/Led.lean ====
section
/-! DEFINITION. The commands of the LED channels and lamp groups (spec/08 R276 to R295). -/

namespace Sys2Proof.Machine

/-- The fitted LED channels. -/
def State.leds (s : State) : List Nat := (List.range 16).filter (ledFitted s.variant)

/-- LED_LEVEL_WRITE (R279): LVLA or LVLB is written and L′ is computed anew. -/
def State.runLedLevelWrite (s : State) (who : Who) (i : Nat) (w : Word) : State :=
  if !ledFitted s.variant i then s.reserved who
  else s.accept who ⟨.LED_LVL, i, 0, 0⟩ w fun s => (s.storeWrite who ⟨.LED_LVL, i, 0, 0⟩ w).ledUpdate i

/-- The command of the same name. -/
def execLedLevelWrite (who : Who) (i : Nat) (w : Word) (s : State) : Out := .next <| s.ship <| s.asWho who 7 fun s => s.runLedLevelWrite who i w

/-- DEMAND_LINE_CHANGE (R279): the demand line selects the other level. -/
def execDemandLineChange (i : Nat) (s : State) : Out := .next <| s.ship <| if ledFitted s.variant i then s.ledUpdate i else s

/-- DIMMING_DUTY_WRITE (R282, R283, R284): the current setting has crossed to P4, which applies it at once from ANALOG to ANALOG and
otherwise at the next rise of IN; the controller writes the bound unit's DUTY, and the level takes effect at its period end. -/
def execDimmingDutyWrite (i : Nat) (s : State) : Out :=
  .next <| s.ship <|
    match (s.lx i).duty with
    | some d =>
      if ledFitted s.variant i && s.sys.fabricUp then
        let u := s.fld LED_CFG.PU i
        let l := s.fld LED_EFF.LEFF i
        let m := s.bit LED_EFF.MODE i
        let s := s.setLx i { s.lx i with duty := none, level := l, pwm := m, taking := true, arrived := l != 0 }
        let s := if s.ls i = 1 && !m then s.ledApply i l false else s
        let s := s.pdWrite u (ins (s.reg ⟨.PU_PD, u, 0, 0⟩) 16 16 d)
        if s.bit PU_STAT.RUN u then s else (s.ledTake i).ledIn i
      else s
    | none => s

/-- SHORT_TO_GROUND (R286): VOUT below 1.0 V for 20 µs while the channel conducts: kind 0. -/
def execShortToGround (i voutMv : Nat) (s : State) : Out :=
  .next <| s.ship <|
    if ledFitted s.variant i && s.ledOn i && voutMv < 1000 && !s.diagBarred (77 + i) then
      ((s.put LED_MEAS.VOUT (satTo (voutMv / 10) 12) i).flag LED_STAT.SG true i).trip (77 + i) 0
        (coilDetail (s.ls i) (voutMv / 10)) true
    else s

/-- The on-period has lasted tOSMEAS and, where nothing bars it, is measured; a stretch in progress ends here (R194, R287). -/
def State.ledMeasured (s : State) (i : Nat) (barred : Bool) : State :=
  let x := s.lx i
  s.setLx i { x with long := true, measured := x.measured || !barred, stretching := false }

/-- OPEN_STRING_MEASUREMENT (R287, R192 to R194): OPEN at a current (µA) below half the regulated setting with VOUT at or above
the feed minus 0.5 V. -/
def execOpenStringMeasurement (i iUa voutMv feedMv : Nat) (s : State) : Out :=
  .next <| s.ship <|
    let iUa := s.sensedUa i iUa
    if !ledFitted s.variant i || !s.ledOn i then s
    else if !s.sys.fabricUp || s.diagBarred (77 + i) then s.ledMeasured i true
    else
      let open' := decide (2 * iUa < s.ledUa i) && decide (feedMv ≤ voutMv + 500)
      let s := (s.put LED_MEAS.I (satTo (iUa / 500) 10) i).put LED_MEAS.VOUT (satTo (voutMv / 10) 12) i
      let s := s.ledMeasured i false
      if !s.bit LED_DIAG.OSEN i then s
      else
        let old := s.fld LED_STAT.OSTAT i
        let below := if open' then (s.lx i).below + 1 else 0
        let st := if !open' then 1 else if s.fld LED_DIAG.OSCNT i ≤ below then 2 else old
        let s := (s.setLx i { s.lx i with below := min below 7 }).put LED_STAT.OSTAT st i
        let s := if st = 2 then s else s.clearSrc 5 i 2
        if st = 2 && old ≠ 2 then (s.flag LED_STAT.OS true i).hold 5 i 2 (coilDetail (s.ls i) (iUa / 1000)) else s

/-- SHORTED_LED_CHECK (R288): VOUT against VNOM − SHTH, in PWM or in ANALOG with a setting of at least 50 % of IFS. -/
def execShortedLedCheck (i voutMv : Nat) (s : State) : Out :=
  .next <| s.ship <|
    let sh := s.fld LED_DIAG.SHTH i
    let runs := s.ls i = 2 || (s.ls i = 1 && s.ifs i ≤ 2 * s.ledUa i)
    if !ledFitted s.variant i || sh = 0 || !runs || !s.ledOn i || !s.sys.fabricUp || s.diagBarred (77 + i) then s
    else
      let old := s.fld LED_STAT.SSTAT i
      let low := decide (voutMv + 100 * sh < 20 * s.fld LED_DIAG.VNOM i)
      let n := if low then (s.lx i).shBelow + 1 else 0
      let st := if !low then 1 else if s.fld LED_DIAG.SHCNT i ≤ n then 2 else old
      let s := (s.setLx i { s.lx i with shBelow := min n 7 }).put LED_STAT.SSTAT st i
      if st = 2 && old ≠ 2 then (s.flag LED_STAT.SL true i).raise 5 i 4 (coilDetail (s.ls i) (voutMv / 50)) else s

/-- R289: the current is more than 5 % + 2 mA away from the DAC setting. -/
def State.dacOff (s : State) (i iUa : Nat) : Bool := decide (s.ledUa i + 40000 < 20 * (max iUa (s.ledUa i) - min iUa (s.ledUa i)))

/-- DAC_FAILURE (R289): in ANALOG the current differs from the setting, or the DAC test that a fabric start asks for fails with the
stage off: DACFAIL and kind 1; the mode becomes PWM (R281). -/
def execDacFailure (i iUa : Nat) (s : State) : Out :=
  .next <| s.ship <|
    let iUa := s.sensedUa i iUa
    let due := s.ls i = 1 && s.ledOn i && s.dacOff i iUa || !s.ledOn i && (s.lx i).testDue
    if ledFitted s.variant i && due && !s.bit LED_STAT.DACFAIL i then
      let s := s.setLx i { s.lx i with testDue := false }
      ((s.flag LED_STAT.DACFAIL true i).raise 5 i 1 (coilDetail (s.ls i) (iUa / 1000))).ledUpdate i
    else s

/-- LED_CLR_TRIP (R284, R168). -/
def State.runLedClrTrip (s : State) (who : Who) (i : Nat) : State :=
  if ledFitted s.variant i then s.clrTrip (77 + i) else s.reserved who

/-- The command of the same name. -/
def execLedClrTrip (who : Who) (i : Nat) (s : State) : Out := .next <| s.ship <| s.asWho who 7 fun s => s.runLedClrTrip who i

/-- LED_CLR_DACRST (R289): a retest is asked for. -/
def State.runLedClrDacrst (s : State) (who : Who) (i : Nat) : State :=
  if ledFitted s.variant i then s.setLx i { s.lx i with retest := true } else s.reserved who

/-- The command of the same name. -/
def execLedClrDacrst (who : Who) (i : Nat) (s : State) : Out := .next <| s.ship <| s.asWho who 7 fun s => s.runLedClrDacrst who i

/-- DAC_RETEST (R289): the stage has been off for 100 µs: the retest runs; a pass clears DACFAIL. -/
def execDacRetest (i : Nat) (pass : Bool) (s : State) : Out :=
  .next <| s.ship <|
    if ledFitted s.variant i && (s.lx i).retest && !s.ledOn i then
      let s := s.setLx i { s.lx i with retest := false }
      if pass then (s.flag LED_STAT.DACFAIL false i).ledUpdate i else s
    else s

/-- R135: on its way to the end of its period a unit whose output is still high falls at C = DUTY, where that is below PER. -/
def State.puFall (s : State) (u : Nat) : State :=
  let d := s.fld PU_PD.DUTY u
  if s.fld PU_STAT.COUNT u < d && d < s.fld PU_PD.PER u then ((s.puCount u d).settle).ledSync else s

/-- PULSE_PERIOD_END (R135, R139): the counter of a running unit that ticks by the fabric clock has counted to PER − 1 and wraps; the
command asserts that the time for this has passed, so the time base advances by it (notes/assumptions/6.md). A unit that counts
another one's period ends wraps with that one (R134). LED channels bound to the unit take their levels (R283). -/
def execPulsePeriodEnd (u : Nat) (s : State) : Out :=
  .next <| s.ship <|
    if s.sys.fabricUp && u < nPu s.variant && s.bit PU_STAT.RUN u && !s.bit PU_CFG.TICK u then
      let s := { s with tb := s.tb + s.puLeft u }.puFall u
      (((State.periodEnd (nPu s.variant) u s).ledTakes u).settle).ledSync
    else s

/-! ## Derating (R290 to R292) -/

/-- Terms of 2·artanh z = 2·(z + z³/3 + z⁵/5 + …), the exact sum of the first `n`. -/
def artanhSum (z : Rat) (n : Nat) : Rat :=
  2 * ((List.range n).foldl (fun (a : Rat × Rat) k => (a.1 + a.2 / ((2 * k + 1 : Nat) : Rat), a.2 * z * z)) (0, z)).1

/-- The natural logarithm of a positive rational: halved or doubled into [1, 2], then thirty terms of the series for
ln y = 2·artanh ((y − 1)/(y + 1)), whose error is below 10⁻²⁹ (notes/assumptions/16.md). -/
def lnRat : Nat → Rat → Rat
  | 0, _ => 0
  | fuel + 1, y =>
    if y < 1 then lnRat fuel (2 * y) - artanhSum (1 / 3) 30
    else if 2 < y then lnRat fuel (y / 2) + artanhSum (1 / 3) 30
    else artanhSum ((y - 1) / (y + 1)) 30

/-- R290: T in half degrees from x = V / VSUP, the pull-up and R25 in Ω and β in K. -/
def ntcHalf (x : Rat) (rpu r25 beta : Nat) : Int :=
  let r := ((rpu : Nat) : Rat) * x / (1 - x)
  let t := 1 / (20 / 5963 + lnRat 64 (r / ((r25 : Nat) : Rat)) / ((beta : Nat) : Rat)) - 5463 / 20
  (t * 2).floor

/-- R291: the derating factor at T (half degrees). -/
def deratingF (t2 tstart tend : Int) (fmin : Nat) : Nat :=
  if t2 ≤ 2 * tstart then 256
  else if 2 * tend ≤ t2 then fmin
  else (256 - (t2 - 2 * tstart) * (256 - (fmin : Int)) / (2 * (tend - tstart))).toNat

/-- R322: the reading of an analogue input is valid. -/
def State.ainValid (s : State) (j : Nat) : Bool := s.sys.fabricUp && Tbl.get s.inp.upd j 0 == 5

/-- LAMP_GROUP_UPDATE (R290 to R292, R320): every 10 ms a group reads x = VAL / 4,095 of its input, where that is valid (R322), and
computes T and F, or flags a sensor fault below 0.02 or above 0.98; the levels of its channels follow. VAL first takes the reading
of that moment, from the pin and sensor supply voltages, unless it is held (R319, R323; notes/assumptions/60.md). -/
def execLampGroupUpdate (g mv vsMv : Nat) (s : State) : Out :=
  .next <| s.ship <|
    let j := s.fld LG_NTC2.AIN g
    if !lgFitted s.variant g || !s.bit LG_NTC2.EN g || !s.ainValid j then s
    else
      let v := s.ainReads j mv vsMv
      let s := s.ainShow j v
      let bad := decide (50 * v < 4095) || decide (49 * 4095 < 50 * v)
      let s :=
        if bad then
          let s1 := (s.put LG_STAT.F (s.fld LG_DER.FMIN g) g).flag LG_STAT.SFAULT true g
          if s.bit LG_STAT.SFAULT g then s1 else s1.raise 5 (16 + g) 5 (satTo (512 * v / 4095) 9)
        else
          let t := ntcHalf (((v : Nat) : Rat) / (4095 : Rat)) (s.fld LG_NTC.RPU g) (s.fld LG_NTC.R25 g) (s.fld LG_NTC2.BETA g)
          let f := deratingF t (s.sfld LG_DER.TSTART g) (s.sfld LG_DER.TEND g) (s.fld LG_DER.FMIN g)
          ((s.sput LG_STAT.TEMP (max (-512) (min 511 t)) g).put LG_STAT.F f g).flag LG_STAT.SFAULT false g
      forEach (s.leds.filter fun i => s.fld LED_CFG.LGRP i == g + 1) (fun i s => s.ledUpdate i) s

/-! ## Fold-back (R293) -/

/-- R293: the new factor and the count of updates at or below 90 % of the budget; PTOT in nW. -/
def foldStep (ptot psum ff low : Nat) : Nat × Nat :=
  if psum * 100000000 < ptot then (ff - 1, 0)
  else if 10 * ptot ≤ 9 * (psum * 100000000) then
    if ff = 256 then (256, 0) else if low + 1 = 10 then (ff + 1, 0) else (ff, low + 1)
  else (ff, 0)

/-- FOLDBACK_UPDATE (R293, LEDi_MEAS): every 1 ms, from each stage's headroom (mV), current (µA), VOUT (mV) and TJ (half
degrees): PTOT, FF, FOLDED; kind 6 when FF first falls below 256. -/
def execFoldbackUpdate (ms : List LedMeas) (s : State) : Out :=
  .next <| s.ship <|
    let ms := ms.filter fun m => ledFitted s.variant m.i
    let ptot := (ms.filter fun m => s.ledOn m.i).foldl (fun a m => a + m.headMv * m.iUa) 0
    let s := forEach ms (fun m s =>
      let s := ((s.put LED_MEAS.I (satTo (m.iUa / 500) 10) m.i).put LED_MEAS.VOUT (satTo (m.voutMv / 10) 12) m.i).sput
        LED_MEAS.TJ m.tj m.i
      let f := decide (1500 < m.headMv)
      (s.setLx m.i { s.lx m.i with folded := f }).flag LED_STAT.FOLDED f m.i) s
    let (ff, low) := foldStep ptot (s.fld LED_PCFG.PSUM) (s.fld LED_PSTAT.FF) s.fold.low
    let s := (s.put LED_PSTAT.PTOT (satTo (ptot / 20000000) 10)).put LED_PSTAT.FF ff
    let s := if ff < 256 && !s.fold.raised then s.raise 5 24 6 (satTo (ptot / 100000000) 9) else s
    let s := { s with fold := ⟨low, decide (ff < 256)⟩ }
    forEach s.leds (fun i s => s.ledUpdate i) s

end Sys2Proof.Machine
end

