-- ==== Sys2Proof/Machine/Nm.lean ====
section
/-! DEFINITION. The commands of network management (spec/14). -/

namespace Sys2Proof.Machine

/-- NM_FRAME_RECEIVED (R453): an NM frame passes through the port's filters like any other frame and is interpreted. -/
def execNmFrameReceived (n : Nat) (f : CanFrame) (sof : Word) (s : State) : Out :=
  .next <| s.ship <| if s.isNmFrame n f then s.canReceive n f sof else s

/-- NM_CYCLE (R455): the cyclic NM frames of AWAKE. -/
def execNmCycle (s : State) : Out :=
  .next <| s.ship <|
    if !s.nmRuns || s.nmSt ≠ 0 then s
    else forEach s.nmPorts (fun n s => s.nmSend n (if s.nmRole n = 2 && !s.nmReady then 2 else 0)) s

/-- SLEEP_PENDING_ENTRY (R457, R459): ready to sleep and, with a FOLLOWER port, SLEEPCMD pending on it. -/
def execSleepPendingEntry (s : State) : Out :=
  .next <| s.ship <|
    if s.nmRuns && s.nmSt = 0 && s.nmReady && (s.nmPorts.all (fun n => s.nmRole n != 2) || s.bit NM_STAT.SLEEPCMD) then
      let s := forEach (s.nmPorts.filter fun n => s.nmRole n == 1) (fun n s => s.nmSend n 1) s
      let s := forEach s.nmLins (fun n s => s.linGoSleep n) s
      { s with nm := { s.nm with pendOver := false, pendAt := s.tb } }.put NM_STAT.STATE 1
    else s

/-- TPEND_EXPIRY (R457): the module waits for bus idle. -/
def execTpendExpiry (s : State) : Out :=
  .next <| s.ship <| if s.nmRuns && s.nmSt = 1 then { s with nm := { s.nm with pendOver := true } } else s

/-- NM_BUS_IDLE (R457, R460): PRE_SLEEP begins. -/
def execNmBusIdle (s : State) : Out :=
  .next <| s.ship <|
    if s.nmRuns && s.nmSt = 1 && s.nm.pendOver && s.nmPorts.all (fun n => (s.active n).isNone) then
      (s.put NM_STAT.STATE 2).nmClusters
    else s

/-- NM_STANDBY_DONE (R457, R463): every NM transceiver is in standby: SLEEP, or AWAKE at once where a wake is latched. -/
def execNmStandbyDone (s : State) : Out :=
  .next <| s.ship <|
    if s.nmRuns && s.nmSt = 2 then
      let s := forEach s.nmPorts (fun n s => s.canStop n 2) s
      let s := s.put NM_STAT.STATE 3
      match s.nm.latched with
      | some cause => s.nmWake cause
      | none => s.nmEvent 0
    else s

/-- NM_CMD_WAKE (R462). -/
def State.runNmCmdWake (s : State) (_who : Who) : State := s.nmLocalWake

/-- The command of the same name. -/
def execNmCmdWake (who : Who) (s : State) : Out := .next <| s.ship <| s.asWho who 16 fun s => s.runNmCmdWake who

/-- NM_CTL_WRITE (R462, R469): READY and PNREQ; READY from 1 to 0 is a local wake. -/
def State.runNmCtlWrite (s : State) (who : Who) (w : Word) : State :=
  s.accept who ⟨.NM_CTL, 0, 0, 0⟩ w fun s =>
    let was := s.bit NM_CTL.READY
    let s := s.storeWrite who ⟨.NM_CTL, 0, 0, 0⟩ w
    (if was && !s.bit NM_CTL.READY then s.nmLocalWake else s).nmClusters

/-- The command of the same name. -/
def execNmCtlWrite (who : Who) (w : Word) (s : State) : Out := .next <| s.ship <| s.asWho who 16 fun s => s.runNmCtlWrite who w

/-- NM_LOCAL_WAKE_LINE (R462): LWLINE is high and was low. -/
def execNmLocalWakeLine (s : State) : Out :=
  .next <| s.ship <|
    if s.nmRuns && s.bit NM_CFG.LWEN && s.line (s.fld NM_CFG.LWLINE) && !s.nm.line then
      { s with nm := { s.nm with line := true } }.nmLocalWake
    else s

/-- NM_WAKE_FROM_SLEEP (R464): the wake noted in SLEEP is carried out. -/
def execNmWakeFromSleep (s : State) : Out :=
  .next <| s.ship <| match s.nm.wake with
    | some cause => if s.nmRuns && s.nmSt = 3 then s.nmWake cause else s
    | none => s

/-- PN_CLUSTER_TIMEOUT (R469): a request of a cluster has aged beyond PNTO: one by NM frame, or one by a detected wake. -/
def execPnClusterTimeout (k : Nat) (frame : Bool) (s : State) : Out :=
  .next <| s.ship <|
    if 8 ≤ k then s
    else
      let s := if frame then s.put NM_STAT.PNRX (ins (BitVec.ofNat 32 (s.fld NM_STAT.PNRX)) k 1 0).toNat
        else { s with nm := { s.nm with det := s.nm.det &&& ~~~ (1#8 <<< k) } }
      s.nmClusters

/-- CLUSTER_ACTIVATION_TIMEOUT (R470, R472): 100 ms after activation the port is not ERROR_ACTIVE. -/
def execClusterActivationTimeout (n : Nat) (s : State) : Out :=
  .next <| s.ship <|
    if s.canFitted n && (s.cp n).actTimer then
      (s.setCp n { s.cp n with actTimer := false }).raise 10 25 0 (n * 256 + s.canCluster n)
    else s

end Sys2Proof.Machine
end

