-- ==== Sys2Proof/Machine/Pwr.lean ====
section
/-! DEFINITION. Supplies (spec/15): feed monitors, the priority rail's transfer switch, the baseplate. -/

namespace Sys2Proof.Machine

/-- A voltage in 10 mV, 0 below 0 V, saturating at 12 bits (R493). -/
def mv10 (mv : Int) : Nat := clampInt (mv / 10) 12

/-- R487: outputs whose supply is not reversed follow their commands (again). -/
def State.refollow (s : State) : State :=
  forEach (slots s.variant) (fun t s => match slotClass t with
    | 0 => s.hswFollow t
    | 1 => if s.reversed t then s else s.hbrAgain (t - 48)
    | 3 => s.bankShow (t - 72)
    | 4 => s.ctdFollow (t - 75)
    | _ => s) s

/-- The transfer switch rests. -/
def State.xferIdle (s : State) : State :=
  { s with pwr := { s.pwr with cause := 0, since := 0, backOn := false, returning := false } }

/-- A measured feed voltage: PWR_MEAS, and the feed that the logic supply's OR-ing conducts, the higher one (R476). -/
def State.feed (s : State) (backup : Bool) (mv : Int) : State :=
  let s := if backup then s.put PWR_MEAS.VBACKUP (mv10 mv) else s.put PWR_MEAS.VMAIN (mv10 mv)
  let p := s.pwr
  let s := { s with pwr := if backup then { p with backRev := decide (mv < 0) } else { p with mainRev := decide (mv < 0) } }
  let s := s.flag PWR_STAT.LSRC (decide (s.fld PWR_MEAS.VMAIN < s.fld PWR_MEAS.VBACKUP))
  if (p.mainRev && !s.pwr.mainRev) || (p.backRev && !s.pwr.backRev) then s.refollow else s

/-- R494: event `k` of the supplies; while the logic domain is down it is not delivered. -/
def State.pwrEvent (s : State) (k : Nat) : State :=
  if s.bit PWR_EVT.EVEN && s.sys.fabricUp then s.event (s.fld PWR_EVT.CTX) (s.fld PWR_EVT.EVBIT + k) else s

/-- R482: a transfer to BACKUP begins. -/
def State.startXfer (s : State) (cause : Nat) : State :=
  { s with pwr := { s.pwr with cause := cause, since := s.tb, backOn := false, returning := false } }.put PWR_STAT.PRSRC 2

/-- TRANSFER_REFUSED (R483). -/
def State.refuseXfer (s : State) : State :=
  (s.flag PWR_STAT.PRREF true).raise 1 2 5 (s.fld PWR_MEAS.VBACKUP)

/-- R482, R483, R485: a trigger of a transfer: it starts one, is refused, abandons a return in progress, whose MAIN switch opens
again, or changes nothing; reverse current takes precedence on the edge that both confirm on. -/
def State.trigger (s : State) (cause : Nat) : State :=
  if s.pwr.returning then { s with pwr := { s.pwr with returning := false } }.put PWR_STAT.PRSRC 1 |>.flag PWR_STAT.MAINREV false
  else if s.pwr.cause ≠ 0 then
    if cause = 2 && s.pwr.cause = 1 && s.pwr.since = s.tb then { s with pwr := { s.pwr with cause := 2 } } else s
  else if s.fld PWR_STAT.PRSRC = 1 then s
  else if s.bit PWR_STAT.BKLO then s.refuseXfer
  else s.startXfer cause

/-- R478: a feed is below a threshold given in 0.1 V, within the comparator's 2 %. -/
def feedBelow (mv : Int) (th : Nat) : Bool := mv * 100 < (th * 100 * 102 : Nat)

/-- R478: a feed is at or above a threshold given in 0.1 V, within the comparator's 2 %. -/
def feedAbove (mv : Int) (th : Nat) : Bool := (th * 100 * 98 : Nat) ≤ mv * 100

/-- MAIN_UNDERVOLTAGE (R478, R482, R493): MAIN below VLO. -/
def execMainUndervoltage (mv : Int) (s : State) : Out :=
  .next <| s.ship <|
    let s := s.feed false mv
    if s.bit PWR_STAT.MAINLO || !feedBelow mv (s.fld PWR_CFG.VLO) then s
    else (((s.flag PWR_STAT.MAINLO true).raiseCond 1 0 0 (mv10 mv)).pwrEvent 2).trigger 1

/-- MAIN_RECOVERY (R478, R69): MAIN at or above VLO + VHYS: the MAIN switch blocks no reverse current, and MAINLO clears; in Parked
and Watch it is the MAIN-return wake source. -/
def execMainRecovery (mv : Int) (s : State) : Out :=
  .next <| s.ship <|
    let s := s.feed false mv
    if !feedAbove mv (s.fld PWR_CFG.VLO + s.fld PWR_CFG.VHYS) then s
    else
      let s := s.flag PWR_STAT.MAINREV false
      if s.bit PWR_STAT.MAINLO then (((s.flag PWR_STAT.MAINLO false).clearSrc 1 0 0).pwrEvent 2).wakeSource 6 0 5 else s

/-- BACKUP_UNDERVOLTAGE (R478, R483): BKLO sets below VBKLO, or clears at VBKLO + VHYS and lets a refused transfer run whose cause is still present. -/
def execBackupUndervoltage (low : Bool) (mv : Int) (s : State) : Out :=
  .next <| s.ship <|
    let s := s.feed true mv
    if low then
      if s.bit PWR_STAT.BKLO || !feedBelow mv (s.fld PWR_CFG.VBKLO) then s else (s.flag PWR_STAT.BKLO true).raiseCond 1 1 0 (mv10 mv)
    else if s.bit PWR_STAT.BKLO && feedAbove mv (s.fld PWR_CFG.VBKLO + s.fld PWR_CFG.VHYS) then
      let s := (s.flag PWR_STAT.BKLO false).clearSrc 1 1 0
      if s.fld PWR_STAT.PRSRC = 0 && s.bit PWR_STAT.MAINREV then s.trigger 2
      else if s.fld PWR_STAT.PRSRC = 0 && s.bit PWR_STAT.MAINLO then s.trigger 1
      else s
    else s

/-- SUPPLY_OVERVOLTAGE (R478, R480): a feed above OVTH, once for each entry. -/
def execSupplyOvervoltage (backup : Bool) (mv : Int) (s : State) : Out :=
  .next <| s.ship <|
    let s := s.feed backup mv
    let f := if backup then PWR_STAT.BKOV else PWR_STAT.MAINOV
    if s.bit f || !feedAbove mv (s.fld PWR_CFG2.OVTH) then s else (s.flag f true).raiseCond 1 (b2n backup) 1 (mv10 mv)

/-- OVERVOLTAGE_CLEAR (R478): a feed below OVTH - 0.5 V. -/
def execOvervoltageClear (backup : Bool) (mv : Int) (s : State) : Out :=
  .next <| s.ship <|
    let s := s.feed backup mv
    let f := if backup then PWR_STAT.BKOV else PWR_STAT.MAINOV
    if s.bit f && feedBelow mv (s.fld PWR_CFG2.OVTH - 5) then (s.flag f false).clearSrc 1 (b2n backup) 1 else s

/-- REVERSE_CURRENT (R482, R493): from the smallest threshold of 1 A on the MAIN switch blocks it; detail is its peak in 0.1 A. A
rail that MAIN does not feed has none. -/
def execReverseCurrent (peakMa : Nat) (s : State) : Out :=
  .next <| s.ship <|
    if s.fld PWR_STAT.PRSRC = 1 || peakMa < 1000 then s
    else ((s.flag PWR_STAT.MAINREV true).raise 1 0 2 (satTo (peakMa / 100) 12)).trigger 2

/-- TRANSFER_BACKUP_ON (R482): the BACKUP switch is fully on. -/
def execTransferBackupOn (s : State) : Out :=
  .next <| s.ship <| if s.pwr.cause = 0 then s else { s with pwr := { s.pwr with backOn := true } }

/-- TRANSFER_MAIN_OPEN (R482, R493): the MAIN switch is open, and the transfer complete; the rail stands at most 0.5 V below BACKUP. -/
def execTransferMainOpen (vminMv : Nat) (s : State) : Out :=
  .next <| s.ship <|
    if s.pwr.cause = 0 || !s.pwr.backOn then s
    else
      let c := s.pwr.cause
      let v := satTo (vminMv / 50) 9
      let s := s.xferIdle
      let s := ((s.put PWR_STAT.PRSRC 1).wrap PWR_STAT.XFERCNT).flag PWR_STAT.FORCED (c == 3)
      let s := ((s.flag PWR_STAT.MAINREV false).put PWR_XFER.CAUSE c).put PWR_XFER.VMIN v
      let (w, s) := s.takeFree
      let s := s.put PWR_MEAS2.VPRAIL (s.fld PWR_MEAS.VBACKUP - w.toNat % 51)
      (s.raise 1 2 3 (c * 512 + v)).pwrEvent 0

/-- PWR_PRCMD_FORCE (R482): in Service mode; elsewhere discarded as reserved. -/
def State.runPwrPrcmdForce (s : State) (who : Who) : State := if s.mode ≠ 8 then s.reserved who else s.trigger 3

/-- The command of the same name. -/
def execPwrPrcmdForce (who : Who) (s : State) : Out := .next <| s.ship <| s.asWho who 1 fun s => s.runPwrPrcmdForce who

/-- R484: a return to MAIN begins. -/
def State.startReturn (s : State) : State :=
  { s with pwr := { s.pwr with returning := true } }.put PWR_STAT.PRSRC 2

/-- R484: the rail is on BACKUP and MAIN is good: MAINLO clear, no reverse current. -/
def State.mainGood (s : State) : Bool :=
  s.fld PWR_STAT.PRSRC == 1 && !s.bit PWR_STAT.MAINLO && !s.bit PWR_STAT.MAINREV

/-- PWR_PRCMD_RETURN (R484): for a forced transfer, or under RETMODE = HOST; ignored while MAIN is not good. -/
def State.runPwrPrcmdReturn (s : State) (_who : Who) : State :=
  if s.mainGood && (s.bit PWR_STAT.FORCED || s.bit PWR_CFG.RETMODE) then s.startReturn else s

/-- The command of the same name. -/
def execPwrPrcmdReturn (who : Who) (s : State) : Out := .next <| s.ship <| s.asWho who 1 fun s => s.runPwrPrcmdReturn who

/-- TRET_EXPIRY (R484): under RETMODE = AUTO, MAIN has been good for TRET. -/
def execTretExpiry (s : State) : Out :=
  .next <| s.ship <| if s.mainGood && !s.bit PWR_STAT.FORCED && !s.bit PWR_CFG.RETMODE then s.startReturn else s

/-- RAIL_RETURN_DONE (R484, R493): the BACKUP switch is open. -/
def execRailReturnDone (railMv : Nat) (s : State) : Out :=
  .next <| s.ship <|
    if s.pwr.returning then
      let s := s.xferIdle
      let s := ((s.put PWR_STAT.PRSRC 0).flag PWR_STAT.FORCED false).put PWR_MEAS2.VPRAIL (satTo (railMv / 10) 12)
      (s.raise 1 2 4).pwrEvent 1
    else s

/-- R492: a baseplate temperature in half degrees. -/
def State.baseplate (s : State) (tb : Int) : State := s.sput PWR_MEAS2.TBASE tb

/-- BASEPLATE_HOT (R492, R493): TB above TBWARN. -/
def execBaseplateHot (tb : Int) (s : State) : Out :=
  .next <| s.ship <|
    let s := s.baseplate tb
    if s.bit PWR_STAT.TBHOT || tb ≤ 2 * (s.fld PWR_CFG2.TBWARN : Int) then s
    else ((s.flag PWR_STAT.TBHOT true).raiseCond 1 3 6 (clampInt (tb / 2) 12)).pwrEvent 3

/-- TBHOT_CLEAR (R492): TB at TBWARN - 5 K or below. -/
def execTbhotClear (tb : Int) (s : State) : Out :=
  .next <| s.ship <|
    let s := s.baseplate tb
    if s.bit PWR_STAT.TBHOT && tb ≤ 2 * (s.fld PWR_CFG2.TBWARN : Int) - 10 then (s.flag PWR_STAT.TBHOT false).clearSrc 1 3 6 else s

end Sys2Proof.Machine
end

