-- ==== Sys2Proof/Machine/Vlv.lean ====
section
/-! DEFINITION. The commands of valve banks and contactors (spec/07 R243 to R275). Coils are named by output slot: valves 60 to
71, contactors 75 and 76. -/

namespace Sys2Proof.Machine

/-- A fitted valve or contactor slot. -/
def coilFitted (v : Variant) (t : Nat) : Bool := slotFitted v t && (slotClass t = 2 || slotClass t = 4)

/-- The current step of a coil's profile codes in mA (VLVv_PROF, CTDc_PROF). -/
def coilStep (t : Nat) : Nat := if t < 72 then 20 else 50

/-- R243: the short-cut threshold of a coil's low side, or of CTDc_H, in mA. -/
def State.coilIsc (s : State) (t : Nat) (high : Bool) : Nat :=
  if t < 72 then 6000 + 2000 * s.fld VLV_CFG.ISC (t - 60)
  else if high then 40000 else 16000 + 4000 * s.fld CTD_CFG.ISC (t - 75)

/-- A coil's measured current (VLVv_MEAS, CTDc_MEAS), on P4's own sense. -/
def State.coilMeas (s : State) (t iMa : Nat) : State :=
  if t < 72 then s.put VLV_MEAS.I (satTo iMa 12) (t - 60) else s.put CTD_MEAS.I (satTo iMa 14) (t - 75)

/-- A sticky flag of a valve or contactor. -/
def State.coilFlag (s : State) (t : Nat) (v c : Fld) : State := s.setCf t v c 1

/-- VALVE_COMMAND_RISE (R250, R258, R259, R254). -/
def execValveCommandRise (v : Nat) (s : State) : Out :=
  .next <| s.ship <|
    if !vlvFitted s.variant v || !(s.cmd (60 + v)).1 then s
    else (s.coilShow (60 + v)).valveRise v

/-- VALVE_COMMAND_FALL (R246, R247, R260): BOOST and HOLD decay, WAIT ends without a report, a queued activation is cleared,
an EDGE recovery may complete. `reached` says whether a boost had reached its set current (R266). -/
def execValveCommandFall (e : PeakEnd) (s : State) : Out :=
  .next <| s.ship <|
    let v := e.unit
    if !vlvFitted s.variant v || (s.cmd (60 + v)).1 then s
    else
      let s := (s.coilShow (60 + v)).flag VLV_STAT.QUEUED false v
      if s.vhs (v / 4) = 2 then s
      else match s.vlv v with
        | 1 => s.setVlv v 0
        | 2 | 3 => (s.peakSeen (60 + v) e.reached).decay (60 + v)
        | 5 | 7 => s.tryRecover (60 + v) false
        | _ => s

/-- The member of a bank that has waited longest (R251). -/
def State.firstWaiting (s : State) (k : Nat) : Option Nat :=
  (s.inStates k [1]).foldl (fun m v => match m with
    | none => some v
    | some u => if (s.coilAt (60 + v)).order < (s.coilAt (60 + u)).order then some v else some u) none

/-- BOOST_START (R251, R249): the longest-waiting member boosts once no member boosts and its peak and the hold currents fit
8.0 A, not while MAIN is reversed (R487); `tbw` is the time it has waited, in 0.1 ms. -/
def execBoostStart (v tbw : Nat) (s : State) : Out :=
  .next <| s.ship <|
    let k := v / 4
    if vlvFitted s.variant v && s.firstWaiting k = some v && (s.inStates k [2]).isEmpty &&
        (s.coilAt (60 + v)).peak + s.holdSum k [3] ≤ 400 && (s.vhs k = 0 || s.vhs k = 1) &&
        !s.reversed (60 + v) then
      (s.setVlv v 2).put VLV_STAT.TBW (min tbw 50) v
    else s

/-- The boost or pull-in ends (R247, R265, R266): COILSTAT OK where the set current was reached, kind 1 otherwise. -/
def State.peakEnd (s : State) (t : Nat) (reached : Bool) (iMa : Nat) : State :=
  if reached then s.peakSeen t true
  else if (s.coilAt t).rep0 then s
  else
    let d := coilDetail (s.coilState t) (satTo (iMa / coilStep t) 8)
    ((s.setCoil t { s.coilAt t with rep0 := true }).coilFlag t VLV_STAT.REG CTD_STAT.REG).raise 4 (coilUnit t) 1 d

/-- BOOST_END (R247): TBOOST has elapsed: HOLD. -/
def execBoostEnd (v : Nat) (reached : Bool) (iMa : Nat) (s : State) : Out :=
  .next <| s.ship <|
    let iMa := s.sensedMa (60 + v) iMa
    if vlvFitted s.variant v && s.vlv v = 2 then (s.peakEnd (60 + v) reached iMa).setVlv v 3 else s

/-- BOOST_WAIT_LIMIT (R252): tBOOSTWAIT has reached 5.0 ms: refused with WAITLIMIT. -/
def execBoostWaitLimit (v : Nat) (s : State) : Out :=
  .next <| s.ship <| if vlvFitted s.variant v && s.vlv v = 1 then (s.refuse v 2).put VLV_STAT.TBW 50 v else s

/-- DECAY_END (R246, R260, R263, R268, R270, R202): the coil current falls below 50 mA: the coil rests, or trips or is
disabled as its decay was meant to end; with compatibility before tVMINOFF it waits in MINOFF. CTDc_H opens with it. -/
def execDecayEnd (slot : Nat) (s : State) : Out :=
  .next <| s.ship <|
    if !coilFitted s.variant slot || s.coilState slot ≠ (if slot < 72 then 4 else 3) then s
    else
      let x := s.coilAt slot
      let s := s.setCoil slot { x with toTrip := false, toDis := false, hOpen := true }
      if x.toDis then s.stageOff slot (disabledCode slot)
      else if x.toTrip then (s.stageOff slot (trippedCode slot)).tryRecover slot false
      else if 72 ≤ slot then s.setCoilState slot 0
      else if x.minRun then s.setVlv (slot - 60) 6
      else s.setVlv (slot - 60) 0

/-- TVMINOFF_EXPIRY (R260): a queued activation is admitted or refused under R250, but not in a DECAY that ends in TRIPPED or DISABLED
(R248); else MINOFF ends in OFF, and DECAY goes on. -/
def execTvminoffExpiry (v : Nat) (s : State) : Out :=
  .next <| s.ship <|
    let t := 60 + v
    if !vlvFitted s.variant v || !(s.coilAt t).minRun then s
    else
      let x := s.coilAt t
      let queued := s.bit VLV_STAT.QUEUED v
      let s := (s.setCoil t { x with minRun := false }).flag VLV_STAT.QUEUED false v
      if queued && (s.vlv v = 0 || s.vlv v = 4 || s.vlv v = 6) && !x.toTrip && !x.toDis then s.admitValve v
      else if s.vlv v = 6 then s.setVlv v 0
      else s

/-- R266: the current has reached the set current of the boost or pull-in. -/
def State.atPeak (s : State) (t iMa : Nat) : Bool := decide ((s.coilAt t).peak * coilStep t ≤ iMa)

/-- OPEN_COIL_CHECK (R266): the current 1 ms into BOOST or PULLIN: below 50 mA OPEN and kind 5, at the set current OK. -/
def execOpenCoilCheck (slot iMa : Nat) (s : State) : Out :=
  .next <| s.ship <|
    let iMa := s.sensedMa slot iMa
    if !coilFitted s.variant slot || !s.peaking slot then s
    else if iMa < 50 then
      (s.setCf slot VLV_STAT.COILSTAT CTD_STAT.COILSTAT 2).raiseCond 4 (coilUnit slot) 5 (coilDetail (s.coilState slot) iMa)
    else s.peakSeen slot (s.atPeak slot iMa)

/-- HOLD_CURRENT_LOW (R265): below 80 % of the hold setting for 10 ms at full duty: kind 1 with [8] = 1, once per
activation. -/
def execHoldCurrentLow (slot iMa : Nat) (s : State) : Out :=
  .next <| s.ship <|
    let iMa := s.sensedMa slot iMa
    if coilFitted s.variant slot && s.coilState slot = (if slot < 72 then 3 else 2) && !(s.coilAt slot).rep1 then
      let d := coilDetail (s.coilState slot) (256 + satTo (iMa / coilStep slot) 8)
      ((s.setCoil slot { s.coilAt slot with rep1 := true }).coilFlag slot VLV_STAT.REG CTD_STAT.REG).raise
        4 (coilUnit slot) 1 d
    else s

/-! ## Coil thermal model (R261 to R263) -/

/-- TAMB of the coil model in °C. -/
def State.coilAmb (s : State) (t : Nat) : Int := signedOf (s.cf t VLV_COIL2.TAMB CTD_COIL2.TAMB) 8

/-- The coil temperature: TAMB after a reset of P4 and while the model is disabled (R262). -/
def State.tcoil (s : State) (t : Nat) : Rat :=
  if s.cf t VLV_COIL.RREF CTD_COIL.RREF = 0 then ((s.coilAmb t : Int) : Rat)
  else match (s.coilAt t).tcoil with | some q => q | none => ((s.coilAmb t : Int) : Rat)

/-- The integer nearest to a rational, a half upwards (DEDUCED, notes/assumptions/49.md). -/
def nearest (q : Rat) : Int := (q + 1 / 2).floor

/-- TCOIL as its register shows it: the nearest half degree, in the range of ten signed bits. -/
def tcoilReg (q : Rat) : Nat := unsignedOf (max (-512) (min 511 (nearest (q * 2)))) 10

/-- R261: the coil resistance in Ω from rail and diode voltage (mV), duty (0.1 %) and current (mA). -/
def coilRest (vrailMv duty vfMv iMa : Nat) : Rat :=
  (((vrailMv * duty : Nat) : Rat) - ((vfMv * (1000 - duty) : Nat) : Rat)) / ((1000 * iMa : Nat) : Rat)

/-- R263: the coil thermal trip: it decays and is then TRIPPED; a coil at rest is TRIPPED at once. -/
def State.coilHot (s : State) (t : Nat) (q : Rat) : State :=
  let st := s.coilState t
  let d := coilDetail st q.floor.toNat
  let s := s.coilFlag t VLV_STAT.CTHERM CTD_STAT.CTHERM
  let on := if t < 72 then st == 2 || st == 3 else st == 1 || st == 2
  if on || st = (if t < 72 then 4 else 3) then
    let s := if on then s.decay t else s
    let s := (s.tripMark 2 false t).raiseCond 4 (coilUnit t) 2 d
    let s := if t < 72 then s.flag VLV_STAT.QUEUED false (t - 60) else s
    s.setCoil t { s.coilAt t with toTrip := true }
  else s.trip t 2 d false

/-- VHSk_MEAS, brought with the update of a bank switch's slot (notes/assumptions/53.md). -/
def State.bankMeas (s : State) (k iMa : Nat) (tj : Int) : State :=
  if vhsFitted s.variant k then (s.put VHS_MEAS.I (satTo iMa 20) k).sput VHS_MEAS.TJ tj k else s

/-- COIL_MODEL_UPDATE (R261 to R263): every 10 ms, from the averages of the last 10 ms: in HOLD with regulation running for
20 ms (`reg`), duty 10 % to 95 % and 0.2 A or more the estimate is measured; otherwise it relaxes towards TAMB. At TCMAX the
coil decays and trips with kind 2; at TCMAX − TCHYST that condition clears. -/
def execCoilModelUpdate (slot vrailMv duty vfMv iMa : Nat) (tj : Int) (reg : Bool) (s : State) : Out :=
  .next <| s.ship <|
    let iMa := s.sensedMa slot iMa
    if slotClass slot = 3 then s.bankMeas (slot - 72) iMa tj
    else if !coilFitted s.variant slot then s
    else
      let s := (s.coilMeas slot iMa).peakSeen slot (s.atPeak slot iMa)
      let s := if slot < 72 then (s.put VLV_MEAS.DUTY (min duty 1000) (slot - 60)).sput VLV_TEMP.TJ tj (slot - 60)
        else (s.put CTD_MEAS.DUTY (min duty 1000) (slot - 75)).sput CTD_TEMP.TJ tj (slot - 75)
      let rref := s.cf slot VLV_COIL.RREF CTD_COIL.RREF
      let amb : Rat := ((s.coilAmb slot : Int) : Rat)
      let tau := s.cf slot VLV_COIL2.TAUC CTD_COIL2.TAUC
      let meas := reg && s.coilState slot = (if slot < 72 then 3 else 2) && 100 ≤ duty && duty ≤ 950 && 200 ≤ iMa && rref ≠ 0
      let rest := coilRest vrailMv duty vfMv iMa
      let tref : Rat := ((signedOf (s.cf slot VLV_COIL.TREF CTD_COIL.TREF) 8 : Int) : Rat)
      let old := s.tcoil slot
      let q : Rat := if rref = 0 then amb
        else if meas then tref + (rest * 1000 / ((rref : Nat) : Rat) - 1) * 100000 / 393
        else if tau = 0 then old else old + (amb - old) / ((10 * tau : Nat) : Rat)
      let s := s.setCoil slot { s.coilAt slot with tcoil := some q }
      let s := s.setCf slot VLV_STAT.TVALID CTD_STAT.TVALID (b2n meas)
      let s := s.setCf slot VLV_TEMP.TCOIL CTD_TEMP.TCOIL (tcoilReg q)
      let s := if meas then s.setCf slot VLV_RES.REST CTD_RES.REST (satTo (nearest (rest * 1000)).toNat 16) else s
      let tcm : Rat := ((s.cf slot VLV_COIL2.TCMAX CTD_COIL2.TCMAX : Nat) : Rat)
      let x := s.trip? slot
      if x.on && (x.kind = 2 || x.hot) then
        if rref = 0 || q ≤ tcm - ((s.cf slot VLV_COIL.TCHYST CTD_COIL.TCHYST : Nat) : Rat) then
          (s.setTrip slot { x with cond := x.cond || x.kind = 2, hot := false }).tryRecover slot false
        else s
      else if rref ≠ 0 && tcm ≤ q && s.canTrip slot then s.coilHot slot q
      else s

/-! ## Banks (R254 to R256) -/

/-- VHSk_STAT.ENABLE shows the command. -/
def State.bankCmd (s : State) (k : Nat) : State := s.flag VHS_STAT.ENABLE (s.cmd (72 + k)).1 k

/-- R266: the members of a bank, by mask, whose boosts have reached their set current. -/
def State.peaksSeen (s : State) (k mask : Nat) : State :=
  forEach (members k) (fun v s => s.peakSeen (60 + v) (bitOf mask (v % 4))) s

/-- BANK_EMERGENCY_OFF (R254): VHSk's command goes OFF: members decay or are refused, VHSk enters OPENING. `reached` is the mask of the
members whose boosts had reached their set current. -/
def execBankEmergencyOff (e : BankPeaks) (s : State) : Out :=
  .next <| s.ship <|
    let k := e.bank
    if !vhsFitted s.variant k || (s.cmd (72 + k)).1 then s
    else
      let was := s.bit VHS_STAT.ENABLE k
      let s := s.bankCmd k
      if (s.vhs k = 0 && was) || s.vhs k = 1 then (s.peaksSeen k e.reached).emergencyOff k else s.tryRecover (72 + k) false

/-- BANK_OPENING_END (R254): every member is below 50 mA or 10 ms have passed: VHSk opens. `iMax` is the largest member
current, `mJ` the coil energy that its clamp absorbs where that is 50 mA or more. -/
def execBankOpeningEnd (k iMax mJ : Nat) (s : State) : Out :=
  .next <| s.ship <|
    if !vhsFitted s.variant k || s.vhs k ≠ 2 then s
    else
      let dis := s.bank.toDis.contains k
      let s := { s with bank := { s.bank with toDis := s.bank.toDis.filter (· != k) } }
      let s := s.put VHS_STAT.STATE (if dis then 5 else 0) k
      let s := if 50 ≤ iMax then (s.flag VHS_STAT.FORCED true k).clampEvent (72 + k) mJ else s
      s.bankShow k

/-- BANK_ENABLE_ON (R255, R249): VHSk's command is ON again: members whose command is ON are handled as if it had risen. -/
def execBankEnableOn (k : Nat) (s : State) : Out :=
  .next <| s.ship <|
    if !vhsFitted s.variant k || !(s.cmd (72 + k)).1 then s
    else
      let was := s.bit VHS_STAT.ENABLE k
      let s := s.bankCmd k
      if s.vhs k = 0 && !was then (s.bankReturn k).bankShow k else s

/-- BANK_SWITCH_TRIP (R256): a short cut (`sc`) or junction trip opens VHSk: members decay or are refused; the coil energy it
carries is charged to its bucket. `iMax` is the largest member current; `reached` as for the emergency off. A short cut needs a switch
that conducts, and a current that may cross ISC (R243). -/
def execBankSwitchTrip (e : BankPeaks) (sc : Bool) (iMa : Nat) (tj : Int) (iMax mJ : Nat) (s : State) : Out :=
  .next <| s.ship <|
    let k := e.bank
    let iMa := s.sensedMa (72 + k) iMa
    if !vhsFitted s.variant k || !s.canTrip (72 + k) ||
        sc && !((s.vhs k = 1 || s.vhs k = 2) && crossesIsc (40000 + 20000 * s.fld VHS_CFG.ISC k) iMa) then s
    else
      let st := s.vhs k
      let s := (s.sput VHS_MEAS.TJ tj k).peaksSeen k e.reached
      let s := s.flag (if sc then VHS_STAT.SC else VHS_STAT.THERM) true k
      let s := if 50 ≤ iMax then s.flag VHS_STAT.FORCED true k else s
      let s := if sc then s.trip (72 + k) 0 (coilDetail st (iMa / 500)) true
        else s.trip (72 + k) 3 (coilDetail st (tjByte tj)) false
      if mJ = 0 then s else s.clampEvent (72 + k) mJ

/-- COIL_SHORT_CUT (R264, R266, R270): a coil's low side, or with `high` CTDc_H, crosses its ISC, which lies above every set current:
kind 0. `mJ` is the energy that the clamp of CTDc_H takes. -/
def execCoilShortCut (slot : Nat) (high : Bool) (met : CoilSurge) (s : State) : Out :=
  .next <| s.ship <|
    let iMa := s.sensedMa slot met.iMa
    let st := s.coilState slot
    let on := if slot < 72 then !high && (st == 2 || st == 3) else st == 1 || st == 2 || (high && s.ctdClosed slot)
    if coilFitted s.variant slot && on && crossesIsc (s.coilIsc slot high) iMa then
      let opens := s.ctdClosed slot
      let s := s.peakSeen slot (s.atPeak slot iMa)
      let s := (s.coilFlag slot VLV_STAT.SC CTD_STAT.SC).trip slot 0
        (coilDetail st (iMa / (if slot < 72 then 50 else 100))) true
      if opens then s.ctdForced slot iMa met.mJ else s
    else s

/-- VLV_CLR_TRIP (R264, R256, R168): CLR.TRIP of a valve, bank switch or contactor. -/
def State.runVlvClrTrip (s : State) (who : Who) (slot : Nat) : State :=
  if slotFitted s.variant slot && (slotClass slot = 2 || slotClass slot = 3 || slotClass slot = 4) then s.clrTrip slot
  else s.reserved who

/-- The command of the same name. -/
def execVlvClrTrip (who : Who) (slot : Nat) (s : State) : Out := .next <| s.ship <| s.asWho who 6 fun s => s.runVlvClrTrip who slot

/-! ## Contactors (R268 to R273) -/

/-- CONTACTOR_COMMAND_RISE (R268): PULLIN from OFF or DECAY. -/
def execContactorCommandRise (c : Nat) (s : State) : Out :=
  .next <| s.ship <| if ctdFitted s.variant c && (s.cmd (75 + c)).1 then (s.coilShow (75 + c)).ctdFollow c else s

/-- CONTACTOR_COMMAND_FALL (R268, R270): DECAY with CTDc_L open; an EDGE recovery may complete. `reached` says whether a pull-in had
reached its set current (R266). -/
def execContactorCommandFall (e : PeakEnd) (s : State) : Out :=
  .next <| s.ship <|
    let c := e.unit
    if !ctdFitted s.variant c || (s.cmd (75 + c)).1 then s
    else
      let s := s.coilShow (75 + c)
      if s.ctd c = 1 || s.ctd c = 2 then (s.peakSeen (75 + c) e.reached).decay (75 + c)
      else s.tryRecover (75 + c) false

/-- PULLIN_END (R269, R265, R266): TPULL has elapsed: HOLD. -/
def execPullinEnd (c : Nat) (reached : Bool) (iMa : Nat) (s : State) : Out :=
  .next <| s.ship <|
    let iMa := s.sensedMa (75 + c) iMa
    if ctdFitted s.variant c && s.ctd c = 1 then (s.peakEnd (75 + c) reached iMa).put CTD_STAT.STATE 2 c else s

/-- CONTACTOR_HIGH_SIDE_OPEN (R270): in DECAY, CTDc_H opens at 50 mA or after 10 ms; with 50 mA or more it sets FORCED and the
clamp energy is charged to its bucket; below, the contactor is OFF. -/
def execContactorHighSideOpen (c iMa mJ : Nat) (s : State) : Out :=
  .next <| s.ship <|
    let iMa := s.sensedMa (75 + c) iMa
    let t := 75 + c
    if !ctdFitted s.variant c || s.ctd c ≠ 3 || (s.coilAt t).hOpen then s
    else
      let s := s.setCoil t { s.coilAt t with hOpen := true }
      if 50 ≤ iMa then s.ctdForced t iMa mJ
      else
        let x := s.coilAt t
        let s := s.setCoil t { x with toTrip := false, toDis := false }
        if x.toDis then s.stageOff t 5
        else if x.toTrip then (s.stageOff t 4).tryRecover t false
        else s.put CTD_STAT.STATE 0 c

/-- R273: the auxiliary line reads closed. -/
def State.auxClosed (s : State) (c : Nat) : Bool := s.line (s.fld CTD_AUX.LINE c) != s.bit CTD_AUX.POL c

/-- R273: the check for a reason has reported already in this activation or opening. -/
def CoilSt.reported (x : CoilSt) (reason : Nat) : Bool := match reason with | 8 => x.rep8 | 9 => x.rep9 | _ => x.rep10

/-- The same, marked. -/
def CoilSt.report (x : CoilSt) (reason : Nat) : CoilSt :=
  match reason with | 8 => { x with rep8 := true } | 9 => { x with rep9 := true } | _ => { x with rep10 := true }

/-- AUX_CONTACT_CHECK (R273): TCONF after PULLIN began or in HOLD the line must read closed (reasons 8 and 9), TCONF after
DECAY began open (10), in whatever state that decay has ended. A failed check sets MISMATCH; each reports once per activation or
opening. -/
def execAuxContactCheck (c reason : Nat) (s : State) : Out :=
  .next <| s.ship <|
    let t := 75 + c
    let due := match reason with
      | 8 => s.ctd c == 1 || s.ctd c == 2
      | 9 => s.ctd c == 2
      | 10 => (s.coilAt t).opened && !(s.ctd c == 1 || s.ctd c == 2)
      | _ => false
    if !ctdFitted s.variant c || !s.bit CTD_AUX.AUXEN c || !due then s
    else if s.auxClosed c = (reason ≠ 10) then s.put CTD_STAT.AUXSTAT 1 c
    else
      let s := s.put CTD_STAT.AUXSTAT 2 c
      if (s.coilAt t).reported reason then s
      else (s.setCoil t ((s.coilAt t).report reason)).raise 4 (coilUnit t) 6 (coilDetail (s.ctd c) reason)

end Sys2Proof.Machine
end

