-- ==== Sys2Proof/Machine/Access.lean ====
section
/-! DEFINITION. Reads and writes of addresses (spec/00 R14 to R19; spec/10 R353, R354; spec/20 R609 to R614): what a register reads
as, what a write of each register does, and what host software may reach in each mode. -/

namespace Sys2Proof.Machine

/-! ## Serving islands (R22, R37, R31, R497) -/

/-- R37, R497: the code of the island that serves a register. A Docent register that names no core is taken as D0's (DESIGN CHOICE,
notes/assumptions/52.md); FLT is half A's, or half B's once A is lost (spec/16, FLT registers), see `State.windowLost`, and TST is taken
as FLT (DESIGN CHOICE, notes/assumptions/52.md); HSW_LOCK0 has three islands (R37), see `State.windowLost`. -/
def islandCode (r : RegRef) : Nat :=
  match r.reg.block with
  | 0 | 2 | 19 | 21 => 15
  | 20 => 11
  | 1 => 1
  | 4 => if r.reg == Reg.HSW_LOCK1 then 2 else islandOf r.i
  | 5 => 3
  | 6 | 7 => 4
  | 10 => if r.reg == Reg.DOC_STAT || r.reg == Reg.DOC_RET || r.reg == Reg.DOC_STALL || r.reg == Reg.DOC_TRAPS then 6 + r.i % 4
    else 6
  | 11 => 10
  | 12 => 11
  | 13 | 14 | 16 => 12
  | 15 => 13
  | 17 => 14
  | 18 | 22 => 16
  | _ => 5

/-- R496: the source block of a register block; FAB has none of its own and counts as SYS (notes/assumptions/30.md). -/
def srcBlock (b : Nat) : Nat :=
  match b with
  | 1 => 1
  | 4 => 2
  | 5 => 3
  | 6 => 4
  | 7 => 5
  | 8 => 6
  | 9 => 7
  | 10 | 11 => 8
  | 12 => 9
  | 13 | 14 | 16 => 10
  | 15 => 11
  | 17 => 12
  | 2 | 19 | 20 | 21 => 13
  | 18 | 22 => 14
  | _ => 0

/-- R496: the source blocks that an island holds. -/
def islandBlocks (i : Nat) : List Nat :=
  if i = 0 || i = 2 then [2]
  else if i = 1 then [1, 2]
  else if i = 3 then [3]
  else if i = 4 then [4, 5]
  else if i = 5 then [0, 6, 7]
  else if i ≤ 10 then [8]
  else if i = 11 then [9]
  else if i = 12 then [10]
  else if i = 13 then [11]
  else if i = 14 then [12]
  else if i = 15 then [0, 13]
  else if i = 16 || i = 17 then [14]
  else if i = 18 then [0, 1, 10]
  else []

/-- R31, R497: a crossing from island `src` to island `dst` is not acknowledged: the request is dropped and reported. -/
def State.crossing (s : State) (src dst block : Nat) : State := s.raise 0 block 0 (dst * 32 + src)

/-- R496, R30: the islands that a report of a source comes from. -/
def sourceIslands (src : Nat) : List Nat :=
  match srcSlot src with
  | some t => [islandOf t]
  | none => match src / 512 with
    | 0 => if src % 8 = 0 then [] else [18]
    | 1 => [1, 18]
    | 3 => [3]
    | 4 | 5 => [4]
    | 6 | 7 => [5]
    | 8 => [6, 7, 8, 9, 10]
    | 9 => [11]
    | 10 => [12, 13, 18]
    | 12 => [14]
    | 13 => [15, 18]
    | 14 => [16, 17]
    | _ => []

/-- The list without its first member that satisfies the predicate. -/
def dropFirst {α : Type} (p : α → Bool) : List α → List α
  | [] => []
  | x :: xs => if p x then xs else x :: dropFirst p xs

/-- R31: the oldest request from island `src` to island `dst` is dropped: a core's posted write, whose context is told (R345, R353);
an edge on its way to the context engine (R149); a report to a Conservator half, where the other half is not there to take it. -/
def State.dropRequest (s : State) (src dst : Nat) : State :=
  if 6 ≤ src && src ≤ 9 then
    let at_ := fun (o : WinOp) => match s.regAt o.addr with
      | some r => islandCode r == dst
      | none => false
    let q := (s.core (src - 6)).winq
    match q.find? at_ with
    | some o => (s.setCore (src - 6) { s.core (src - 6) with winq := dropFirst at_ q }).ptmo o.ctx
    | none => s
  else if src = 5 && dst = 10 then { s with fab := { s.fab with edges := s.fab.edges.tail } }
  else if (dst = 16 && !s.bit FLT_STAT.BOK) || (dst = 17 && !s.bit FLT_STAT.AOK) then
    { s with flt := { s.flt with raised := dropFirst (fun (r : Rep) => (sourceIslands r.src).contains src) s.flt.raised } }
  else s

/-- CROSSING_TIMEOUT (R31, R497): `block` is the source block of the destination island that the request was for. -/
def execCrossingTimeout (src dst block : Nat) (s : State) : Out :=
  .next <| s.ship <|
    if src < 19 && (islandBlocks dst).contains block then (s.dropRequest src dst).crossing src dst block else s

/-! ## What a register reads as -/

/-- FLT_INJSTAT.LEFT, DOC_WDSTAT.LEFT: what is left of `ms` since `t0`, in ms, a started one counting. -/
def State.msLeft (s : State) (ms t0 : Nat) : Nat := (ms * 100000 - (s.tb - t0) + 99999) / 100000

/-- TWN_LAG.LAG: the age of the oldest frame not acknowledged, in 0.1 µs. -/
def State.lag (s : State) : Nat :=
  match s.twn.sent with
  | [] => 0
  | x :: _ => satTo ((s.tb - x.time) / 10) 16

/-- CAL_STAT. -/
def State.calStat (s : State) : Word :=
  let rs := (List.range 256).filter (calFitted s.variant)
  BitVec.ofNat 32 ((rs.filter fun r => s.bit CAL_INFO.SRC r).length + 2 ^ 9 * b2n (rs.any fun r => s.bit CAL_INFO.BUSY r))

/-- A register whose fields follow other state, or its stored word. -/
def State.viewed (s : State) (r : RegRef) : Word :=
  let bucket := fun t => ins (s.reg r) 0 10 (s.content t).floor.toNat
  match r.reg with
  | .FAB_LVAL => BitVec.ofNat 32 ((s.fab.lines >>> (32 * r.i)).toNat % 2 ^ 32)
  | .HSW_CLAMP => bucket r.i
  | .VHS_CLAMP => bucket (72 + r.i)
  | .CTD_CLAMP => bucket (75 + r.i)
  | .VLV_TEMP => ins (s.reg r) 0 10 (tcoilReg (s.tcoil (60 + r.i)))
  | .CTD_TEMP => ins (s.reg r) 0 10 (tcoilReg (s.tcoil (75 + r.i)))
  | .DOC_WDSTAT => ins (s.reg r) 0 10 (if s.bit DOC_WDSTAT.RUN then s.msLeft (s.fld DOC_WDCFG.TWD) s.doc.wdStart else 0)
  | .NM_PEND => BitVec.ofNat 32 s.nmLeft
  | .FLT_INJSTAT => ins (s.reg r) 16 8 (if s.fld FLT_INJSTAT.MODE = 0 then 0 else s.msLeft (s.fld FLT_INJSTAT.LEFT) s.flt.injAt)
  | .TWN_LAG => ins (ins (s.reg r) 0 16 s.lag) 16 16 (max (s.fld TWN_LAG.MAXLAG) s.lag)
  | .KEY_STAT => ins (s.reg r) 2 1 (b2n (s.bit KEY_STAT.DBGOPEN || !s.bit KEY_STAT.CATLOCK))
  | .CAL_SUM => s.calSum
  | .CAL_STAT => s.calStat
  | _ => s.reg r

/-- R14: WO fields read zero. -/
def Reg.woMask (r : Reg) : Word := (r.fields.filter (·.acc = .wo)).foldl (fun w f => w ||| fieldMask f.lo f.width) 0

/-- R14, R613: what a register reads as: fields with reset "Cat" read 0 until S7 ends, and then, in a power island that takes
its words at the boundary, as the base image has them. -/
def State.readView (s : State) (r : RegRef) : Word :=
  let w := s.viewed r &&& ~~~ r.reg.woMask
  if !r.reg.fromCat then w
  else if !s.cat.loaded then w &&& ~~~ r.reg.givenMask
  else if s.sys.phase == .s8 && inPower r then (w &&& ~~~ r.reg.givenMask) ||| (s.cat.cat.word 0 r &&& r.reg.givenMask)
  else w

/-- A read of a register, with what the read does. -/
def State.readReg (s : State) (who : Who) (r : RegRef) : Word × State :=
  match r.reg with
  | .CAN_RXD => let s := s.runCanRxdRead who r.i r.j; (s.rdata, s)
  | .LIN_D0 => let s := s.runLinDataRead who r.i r.j 0; (s.rdata, s)
  | .LIN_D1 => let s := s.runLinDataRead who r.i r.j 1; (s.rdata, s)
  | .LIN_D2 => let s := s.runLinDataRead who r.i r.j 2; (s.rdata, s)
  | _ => (s.readView r, s)

/-! ## What a write of a register does -/

/-- FLT_CMD. -/
def State.writeFltCmd (s : State) (who : Who) (w : Word) : State :=
  if ext w 0 1 = 1 && s.mode ≠ 8 then s.reserved who
  else
    let s := if ext w 0 1 = 1 then s.runFltCmdClrlog who else s
    if ext w 1 1 = 1 then s.runFltCmdClrlost else s

/-- FLT_INJ. -/
def State.writeFltInj (s : State) (who : Who) (w : Word) : State :=
  match ext w 13 2 with
  | 1 => s.runFltInjLive who (ext w 0 13) (ext w 16 8)
  | 2 => s.runFltInjDry who (ext w 0 13) (ext w 16 8)
  | _ => s.runFltInjEnd

/-- TST_CMD. -/
def State.writeTstCmd (s : State) (who : Who) (w : Word) : State :=
  match ext w 0 3 with
  | 1 => s.runTstCmdSelfTestA who
  | 2 => s.runTstCmdSelfTestB who
  | 3 => s.runTstCmdCompareTest who
  | 4 => s.runTstCmdForcePathTest who (ext w 4 4)
  | _ => s

/-- KEY_CMD: SLOT and FLAGS are reserved but for PLAINWR, IDX but for IMGKEY. -/
def State.writeKeyCmd (s : State) (who : Who) (w : Word) : State :=
  let cmd := ext w 0 4
  let slot := ext w 8 5
  let idx := ext w 13 1
  let flags := ext w 16 6
  if (cmd ≠ 2 && (slot ≠ 0 || flags ≠ 0)) || (cmd ≠ 3 && idx ≠ 0) || (cmd = 2 && 4 ≤ slot) then s.reserved who
  else match cmd with
    | 1 => s.runKeyCmdApply
    | 2 => s.runKeyCmdPlainwr slot flags
    | 3 => s.runKeyCmdImgkey idx
    | 4 => s.runKeyCmdSvcchal
    | 5 => s.runKeyCmdSvcauth
    | 6 => s.runKeyCmdClrcache
    | _ => s

/-- CTX_CMD: an unfitted context is reserved, whatever the command. -/
def State.writeCtxCmd (s : State) (who : Who) (w : Word) : State :=
  let c := ext w 16 8
  match ext w 0 4 with
  | 1 => s.runCtxCmdRelease who c
  | 2 => s.runCtxCmdQuarantine who c
  | _ => if nCtx s.variant ≤ c then s.reserved who else s

/-- CAT_WCTL, by host software. -/
def State.writeWctl (s : State) (w : Word) : State :=
  match ext w 0 4 with
  | 1 => s.runCatWctlOpen
  | 2 => s.runCatWctlClose
  | 3 => s.runCatWctlCommit
  | 4 => s.runCatWctlAbort
  | _ => s.wctl fun s => s

/-- A W1C write of VHSk_STAT or CTDc_STAT: the lock bit is cleared under R189 only. -/
def State.writeLockStat (s : State) (who : Who) (r : RegRef) (lo slot : Nat) (w : Word) : State :=
  let s := s.storeWrite who r (w &&& ~~~ fieldMask lo 1)
  if ext w lo 1 = 1 && s.lockBit slot then s.lockClear slot else s

/-- R415: whether the buffer being sent is still in arbitration is a free value where a register write cancels it. -/
def State.writeTxCan (s : State) (who : Who) (n : Nat) (w : Word) : State :=
  if (s.active n).isSome then
    let (x, s) := s.takeFree
    s.runCanTxCancel who n w (bitOf x.toNat 0)
  else s.runCanTxCancel who n w false

/-- A register that holds bytes for the key store: in Service mode only, where its description says so. -/
def State.writeKeyData (s : State) (who : Who) (r : RegRef) (service : Bool) (w : Word) : State :=
  if service && s.mode ≠ 8 then s.reserved who else s.setReg r w

/-- What a write of a register does (R14, R15, R19, R354). -/
def State.writeReg (s : State) (who : Who) (r : RegRef) (w : Word) : State :=
  let acc := fun (k : State → State) => s.accept who r w k
  match r.reg with
  | .SYS_MODEREQ => acc fun s => s.runModeRequest who (ext w 0 4)
  | .SYS_RSTCMD => acc fun s => s.runSysRstcmd who w
  | .CAT_WCTL => acc fun s => s.writeWctl w
  | .FAB_LWR => match who with | .ctx c => s.runFabLwr c w | .host => acc id
  | .FAB_LWRG => match who with | .ctx c => s.runFabLwrg c r.i w | .host => acc id
  | .PU_PD => match who with | .ctx c => s.runPuPdWrite c r.i w | .host => acc id
  | .DOC_WDKICK => match who with | .ctx c => s.runDocWdkick c w | .host => acc id
  | .HSW_LOCK0 => s.runHswLockClear who 0 w
  | .HSW_LOCK1 => s.runHswLockClear who 1 w
  | .HSW_CLR => acc (onlyIf (ext w 0 1 = 1) fun s => s.runHswClrTrip who r.i)
  | .HBR_TGT => s.runHbrTgtWrite who r.i w
  | .HBR_POSSET => s.runHbrPosset who r.i w
  | .HBR_SFLT => s.runHbrSflt who r.i w
  | .HBR_CLR => acc fun s =>
    onlyIf (ext w 1 1 = 1) (fun s => s.runHbrClrStop who r.i) (onlyIf (ext w 0 1 = 1) (fun s => s.runHbrClrTrip who r.i) s)
  | .VLV_CLR => acc (onlyIf (ext w 0 1 = 1) fun s => s.runVlvClrTrip who (60 + r.i))
  | .VHS_CLR => acc (onlyIf (ext w 0 1 = 1) fun s => s.runVlvClrTrip who (72 + r.i))
  | .CTD_CLR => acc (onlyIf (ext w 0 1 = 1) fun s => s.runVlvClrTrip who (75 + r.i))
  | .VHS_STAT => acc fun s => s.writeLockStat who r 3 (72 + r.i) w
  | .CTD_STAT => acc fun s => s.writeLockStat who r 7 (75 + r.i) w
  | .LED_LVL => s.runLedLevelWrite who r.i w
  | .LED_CLR => acc fun s =>
    onlyIf (ext w 1 1 = 1) (fun s => s.runLedClrDacrst who r.i) (onlyIf (ext w 0 1 = 1) (fun s => s.runLedClrTrip who r.i) s)
  | .LCH_CTL => acc fun s =>
    onlyIf (ext w 1 1 = 1) (fun s => s.runLchCtlDisc who r.i) (onlyIf (ext w 0 1 = 1) (fun s => s.runLchCtlSwap who r.i) s)
  | .CTX_CMD => acc fun s => s.writeCtxCmd who w
  | .CAN_CMD => acc fun s =>
    onlyIf (ext w 1 1 = 1) (fun s => s.runCanCmdClrlonely who r.i) (onlyIf (ext w 0 1 = 1) (fun s => s.runCanCmdRecover who r.i) s)
  | .CAN_RXPOP => s.runCanRxpop who r.i r.j w
  | .CAN_TXREQ => s.runCanTxRequest who r.i w
  | .CAN_TXCAN => s.writeTxCan who r.i w
  | .CAN_TXW => s.runCanTxBufferWrite who r.i r.j r.k w
  | .LIN_SCHED => s.runLinSchedWrite who r.i w
  | .LIN_CMD => acc (onlyIf (ext w 0 1 = 1) fun s => s.runLinCmdWake who r.i)
  | .LIN_D0 => s.runLinDataWrite who r.i r.j 0 w
  | .LIN_D1 => s.runLinDataWrite who r.i r.j 1 w
  | .LIN_D2 => s.runLinDataWrite who r.i r.j 2 w
  | .NM_CTL => s.runNmCtlWrite who w
  | .NM_CMD => acc (onlyIf (ext w 0 1 = 1) fun s => s.runNmCmdWake who)
  | .PWR_PRCMD => acc fun s =>
    match ext w 0 2 with
    | 1 => s.runPwrPrcmdReturn who
    | 2 => s.runPwrPrcmdForce who
    | _ => s
  | .TWN_CMD => acc fun s =>
    match ext w 0 3 with
    | 1 => s.runTwnCmdFailback who
    | 2 => s.runTwnCmdResync who
    | _ => s
  | .FLT_CMD => acc fun s => s.writeFltCmd who w
  | .FLT_ATTN => acc fun s => s.runFltAttnAck (BitVec.ofNat 6 (ext w 1 6))
  | .FLT_INJ => acc fun s => s.writeFltInj who w
  | .FLT_RGCMD => acc (onlyIf (ext w 4 2 = 1) fun s => s.runFltRgcmdRelease who (ext w 0 4))
  | .TST_CMD => acc fun s => s.writeTstCmd who w
  | .KEY_CMD => acc fun s => s.writeKeyCmd who w
  | .KEY_TCFG => match who with | .host => s.runKeyTcfgWrite w | .ctx _ => acc id
  | .KEY_OPGO => acc fun s => s.runKeyOpgo who w
  | .KEY_ENV | .KEY_PLAIN => acc fun s => s.writeKeyData who r true w
  | .KEY_SVCRESP => acc fun s => s.writeKeyData who r false w
  | .CAL_VAL => match who with | .host => s.runCalValWrite r.i w | .ctx _ => acc id
  | _ => acc fun s => s.storeWrite who r w

/-! ## Host software (R17, R18, R611, R612) -/

/-- A read that is reserved: zero, and RSVD. -/
def State.rsvdRead (s : State) : Word × State := (0, s.reserved .host)

/-- R360, R368: the record that host software reads. -/
def State.hostRcd (s : State) (c : Nat) : CtxRec :=
  let shown := s.cst c == stRun || s.coreList.any fun d => (s.core d).shadow.map (·.1) == some c
  if shown then (s.ctx c).stored else s.rcd c

/-- A word of the context store. -/
def State.storeWord (s : State) (a : Nat) : Word :=
  ((s.hostRcd ((a - 0x500000) / 0x200)).words).getD ((a - 0x500000) % 0x200 / 4) 0

/-- The address is in the context store. -/
def inStore (v : Variant) (a : Nat) : Bool := 0x500000 ≤ a && a < 0x500000 + 0x200 * nCtx v

/-- The address is in a fitted code bank. -/
def inCode (v : Variant) (a : Nat) : Bool := 0x400000 ≤ a && a < 0x400000 + 0x20000 * nCores v

/-- The address is in the condition report log. -/
def inLog (a : Nat) : Bool := 0x600000 ≤ a && a < 0x601000

/-- The address is in a flash slot. -/
def inSlots (a : Nat) : Bool := 0x10000000 ≤ a && a < 0x10800000

/-- The address is in a fitted data bank or the host window. -/
def inData (v : Variant) (a : Nat) : Bool :=
  match bankOf a with
  | some b => b < nBanks v
  | none => inWindow a

/-- R611, R612: a data bank or the host window may be reached. -/
def State.hostData (s : State) (a : Nat) : Bool :=
  inData s.variant a && s.mode != 11 && (!s.sys.pollOpen || (s.memPermitted a && s.memAwake a))

/-- R82, R611: what Sealed lets host software write. -/
def sealedWrite (r : Reg) : Bool := r == .CAT_WCTL || r == .CAT_WLEN || r == .SYS_RSTCMD

/-- R611: one word read by host software. -/
def State.hostRead (s : State) (a : Nat) : Word × State :=
  if a % 4 ≠ 0 then s.rsvdRead
  else if a < 0x170000 then
    match s.regAt a with
    | none => s.rsvdRead
    | some r =>
      let b := r.reg.block
      if (s.mode = 11 && b ≠ 0 && b ≠ 2) || !s.blockUp b then s.rsvdRead else s.readReg .host r
  else if s.hostData a || inLog a || (inCode s.variant a && s.mode = 8) || (inSlots a && s.slotMode) then (s.word a, s)
  else if inStore s.variant a && s.mode ≠ 11 then (s.storeWord a, s)
  else s.rsvdRead

/-- R611: one word written by host software. -/
def State.hostWrite (s : State) (a : Nat) (w : Word) : State :=
  if a % 4 ≠ 0 then s.reserved .host
  else if a < 0x170000 then
    match s.regAt a with
    | none => s.reserved .host
    | some r =>
      if (s.mode = 11 && !sealedWrite r.reg) || !s.blockUp r.reg.block then s.reserved .host else s.writeReg .host r w
  else if s.hostData a then s.setWord a w
  else if inSlots a then s.runSlotWordWrite a w
  else s.reserved .host

/-! ## Contexts (R353, R31) -/

/-- R31, R353: a window access whose island does not answer: PTMO, and the crossing report. Of the three islands that serve
HSW_LOCK0 (R37) the spec does not say which one stays silent: a free value. Half B serves FLT and TST once half A is lost. -/
def State.windowLost (s : State) (c : Nat) (r : RegRef) : State :=
  let (x, s) := if r.reg == Reg.HSW_LOCK0 then s.takeFree else (0, s)
  let dst := if r.reg == Reg.HSW_LOCK0 then x.toNat % 3
    else if islandCode r = 16 && !s.bit FLT_STAT.AOK then 17 else islandCode r
  (s.ptmo c).crossing (6 + s.fld CTXC_STAT.CORE c) dst (srcBlock r.reg.block)

/-- R353: a window read. -/
def State.ctxRead (s : State) (c a : Nat) : Word × State :=
  match s.regAt a with
  | none => (0, s)
  | some r => if s.blockUp r.reg.block then s.readReg (.ctx c) r else (0, s.windowLost c r)

/-- R353, R354: a window write. -/
def State.ctxWrite (s : State) (c a : Nat) (w : Word) : State :=
  match s.regAt a with
  | none => s
  | some r => if s.blockUp r.reg.block then s.writeReg (.ctx c) r w else s.windowLost c r

/-- REGISTER_WRITE (R14, R353): a word written to an address by host software, whose port must be powered, or by a context. -/
def execRegisterWrite (who : Who) (addr : Nat) (w : Word) (s : State) : Out :=
  .next <| s.ship <| match who with
    | .host => if s.hostUp then s.hostWrite addr w else s
    | .ctx c => if s.ctxLive c then s.ctxWrite c addr w else s

end Sys2Proof.Machine
end

