-- ==== Sys2Proof/Machine/Eth.lean ====
section
/-! DEFINITION. The commands of the Ethernet switch and of the 1722 streams (spec/13 R436 to R440, R449). -/

namespace Sys2Proof.Machine

/-- ETH_FRAME_RECEIVED (R437): `full` names the egress ports whose queue for the frame's PCP is full (the spec gives the
queues no depth). -/
def execEthFrameReceived (p : Nat) (f : EthFrame) (full : BitVec 8) (s : State) : Out :=
  .next <| s.ship <| if ethFitted s.variant p && s.ethUp p then s.ethForward p f full else s

/-- ETH_LINK_CHANGE (R450): the link is lost (kind 0), or training has failed (kind 1). -/
def execEthLinkChange (p : Nat) (failed : Bool) (s : State) : Out :=
  .next <| s.ship <|
    if !s.ethOn || !ethFitted s.variant p || !s.bit ETH_PCFG.EN p then s
    else if failed then (s.flag ETH_PSTAT.LINK false p).raise 10 (16 + p) 1
    else if s.bit ETH_PSTAT.LINK p then (s.flag ETH_PSTAT.LINK false p).raiseCond 10 (16 + p) 0
    else s

/-- ETH_LINK_UP (R436): the link comes up with its signal quality. -/
def execEthLinkUp (p sqi : Nat) (s : State) : Out :=
  .next <| s.ship <|
    if s.ethOn && ethFitted s.variant p && s.bit ETH_PCFG.EN p then
      ((s.flag ETH_PSTAT.LINK true p).put ETH_PSTAT.SQI sqi p).clearSrc 10 (16 + p) 0
    else s

/-- PLCA_BEACON_LOST (R438): a follower falls back to CSMA/CD and raises kind 2. -/
def execPlcaBeaconLost (p : Nat) (s : State) : Out :=
  .next <| s.ship <|
    if s.ethOn && ethFitted s.variant p && (p = 5 || p = 6) && s.bit ETH_PCFG.EN p && s.bit ETH_PLCA.EN p && s.fld ETH_PLCA.ID p ≠ 0 &&
        !s.eth.csma.getLsbD p then
      { s with eth := { s.eth with csma := s.eth.csma ||| (1#8 <<< p) } }.raiseCond 10 (16 + p) 2
    else s

/-- PLCA_BEACON_RETURN (R438): the follower resumes PLCA. -/
def execPlcaBeaconReturn (p : Nat) (s : State) : Out :=
  .next <| s.ship <|
    if s.ethOn && p < 8 && s.eth.csma.getLsbD p then
      { s with eth := { s.eth with csma := s.eth.csma &&& ~~~ (1#8 <<< p) } }.clearSrc 10 (16 + p) 2
    else s

/-- A signed value limited to `n` bits. -/
def satSigned (x : Int) (n : Nat) : Int :=
  let m : Int := 2 ^ (n - 1)
  if x < -m then -m else if m - 1 < x then m - 1 else x

/-- SYNC_MESSAGE_RECEIVED (R439, R440): the offset is measured and the rate of the time base adjusted within ±500 ppm; the
spec leaves the control law open. -/
def execSyncMessageReceived (p : Nat) (offset : Int) (s : State) : Out :=
  .next <| s.ship <|
    if s.bit ETH_TSCTL.EN && !s.bit ETH_TSCTL.ROLE && p = s.fld ETH_TSCTL.PORT && s.ethUp p then
      let (w, s) := s.takeFree
      let s := { s with eth := { s.eth with rate := (w.toNat % 1001 : Nat) - (500 : Int) } }
      ((s.sput ETH_TSSTAT.OFFSET (satSigned offset 24)).flag ETH_TSSTAT.SYNCLOST false).clearSrc 10 23 4
    else s

/-- SYNC_LOST (R440): the time base keeps its last rate. -/
def execSyncLost (s : State) : Out :=
  .next <| s.ship <|
    if s.ethOn && s.bit ETH_TSCTL.EN && !s.bit ETH_TSCTL.ROLE && !s.bit ETH_TSSTAT.SYNCLOST then
      (s.flag ETH_TSSTAT.SYNCLOST true).raiseCond 10 23 4
    else s

/-- TALKER_PDU_SEND (R449): TAGG has passed since the PDU's first message. -/
def execTalkerPduSend (st : Nat) (full : Bool) (s : State) : Out :=
  .next <| s.ship <| if s.ethOn && st < 16 && s.bit ETH_STR3.EN st then s.talkSend st full else s

/-- LISTENER_PDU_RECEIVED (R449): an NTSCF PDU of the stream's ID, on any port. -/
def execListenerPduReceived (p st : Nat) (pdu : List Byte) (s : State) : Out :=
  .next <| s.ship <|
    if st < 16 && s.bit ETH_STR3.EN st && s.bit ETH_STR4.DIR st && s.ethUp p && 12 ≤ pdu.length &&
        pdu.head? = some 0x82 && (pdu.drop 4).take 8 = s.streamId st then
      let len := beNat ((pdu.drop 1).take 2) % 2048
      State.acfWalk st (len + 1) ((pdu.drop 12).take len) s
    else s

end Sys2Proof.Machine
end

