-- ==== Sys2Proof/Machine/Host.lean ====
section
/-! DEFINITION. The host port and management over Ethernet (spec/19 R594 to R605, R643). -/

namespace Sys2Proof.Machine

/-! ## Frames (R595 to R597) -/

/-- R595: one byte of HCRC, most significant bit first. -/
def hcrcByte (c b : Byte) : Byte :=
  (List.range 8).foldl (fun (c : Byte) _ => if c.msb then (c <<< 1) ^^^ 0x2F else c <<< 1) (c ^^^ b)

/-- R595: HCRC over the first three bytes of a header. -/
def hcrc (hdr : Word) : Byte := ~~~ (((beBytes hdr.toNat 4).take 3).foldl hcrcByte 0xFF)

/-- R595: the header's HCRC verifies. -/
def hcrcOk (hdr : Word) : Bool := hcrc hdr == byteOf hdr 0

/-- R595: the fields of a header. -/
def hdrCmd (hdr : Word) : Nat := ext hdr 24 8
def hdrCnt (hdr : Word) : Nat := ext hdr 16 8
def hdrTag (hdr : Word) : Nat := ext hdr 8 8

/-- R597: a reserved command, or a NOP whose CNT is not 0. -/
def hdrBad (hdr : Word) : Bool := 5 ≤ hdrCmd hdr || (hdrCmd hdr == 0 && hdrCnt hdr != 0)

/-- R595: the frame reads, or writes. -/
def hdrReads (hdr : Word) : Bool := hdrCmd hdr == 1 || hdrCmd hdr == 3
def hdrWrites (hdr : Word) : Bool := hdrCmd hdr == 2 || hdrCmd hdr == 4

/-- R595: the number of data words of a frame that is laid out as its command says. -/
def hdrWords (hdr : Word) : Nat := if hdrBad hdr || hdrCmd hdr == 0 then 0 else hdrCnt hdr + 1

/-- R595: the address of word `i` of a frame: the stream commands stay at ADDR. -/
def frameAddr (hdr addr : Word) (i : Nat) : Nat :=
  if hdrCmd hdr < 3 then (addr.toNat + 4 * i) % 2 ^ 32 else addr.toNat

/-- R597: trailer results. -/
def resOk : Nat := 0
def resCrc : Nat := 1
def resLate : Nat := 2
def resBadCmd : Nat := 3

/-! ## The status field (R601, R602) -/

/-- R601: the highest attention class that is pending, 0 if none. -/
def topClass (pend : Nat) : Nat := ((List.range 6).filter fun i => bitOf pend i).foldl (fun _ i => i + 1) 0

/-- R601: the status field, with the event bits of a channel. -/
def State.hostStatus (s : State) (c : HostSt) : Nat :=
  let p := s.fld FLT_ATTN.PEND
  b2n (p != 0) * 2 ^ 15 + topClass p * 2 ^ 12 + s.mode * 2 ^ 8 + s.fld FLT_ATTN.SEQ * 2 ^ 4 + b2n c.crcErr * 8 + b2n c.coll * 4 +
    b2n c.rsvd * 2 + b2n !s.isDeputy

/-- R602: a frame begins: it reports the events so far, which the bits then show no more. -/
def State.hostBegin (s : State) : State := { s with spi := { s.spi with crcErr := false, coll := false, rsvd := false } }

/-- R596: trailer word T0. -/
def trailer (status tag : Nat) (busy : Bool) (result : Nat) : Word :=
  BitVec.ofNat 32 (status * 2 ^ 16 + tag * 2 ^ 8 + b2n busy * 2 ^ 7 + result)

/-! ## Accesses of a frame (R598, R600, R390, R385) -/

/-- R390: the frame's word `i`, at address `a`, collides in the host window. -/
def collOf (coll : List HostColl) (i a : Nat) : Option HostColl :=
  if inWindow a then coll.find? fun c => c.word == i else none

/-- R390: the host is warned where it is the later port. -/
def State.hostWarn (s : State) : Option HostColl → State
  | some c => if c.hostLater then { s with spi := { s.spi with coll := true } }.count MEM_HWCOLL.HOSTLATE else s
  | none => s

/-- HBUSY of a word. -/
def busyOf : Option HostColl → Bool
  | some c => c.hostLater
  | none => false

/-- R385: what the host's read of a memory word finds. -/
def State.hostEcc (s : State) (a e : Nat) : State :=
  match memUnit a with
  | none => s
  | some (u, _) =>
    if !unitFitted s.variant u then s
    else
      let s := s.eccEvent a 1 e
      if e = eccDouble then s.eccReport a 1 else s

/-- One read of a frame: the data and HBUSY. A read that collides with a write returns undefined data. R612: an access of the
same frame may have taken the port down. -/
def State.frameRead (s : State) (a e : Nat) (col : Option HostColl) : (Word × Bool) × State :=
  if !s.hostUp then ((0, false), s) else
  let (w, s) := s.hostRead a
  let s := if a % 4 = 0 then s.hostEcc a e else s
  let (w, s) := match col with
    | some c => if c.intWrite then s.takeFree else (w, s)
    | none => (w, s)
  ((w, busyOf col), s.hostWarn col)

/-- One write of a frame, and HBUSY. A write that collides with an internal write is discarded. -/
def State.frameWrite (s : State) (a : Nat) (w : Word) (col : Option HostColl) : Bool × State :=
  if !s.hostUp then (false, s) else
  let lost := match col with
    | some c => c.intWrite
    | none => false
  (busyOf col, (if lost then s else s.hostWrite a w).hostWarn col)

/-- The reads of a frame, in order. -/
def State.frameReads (s : State) (hdr addr : Word) (coll : List HostColl) (ecc : List Nat) : List (Word × Bool) × State :=
  (List.range (hdrCnt hdr + 1)).foldl (fun (p : List (Word × Bool) × State) i =>
    let a := frameAddr hdr addr i
    let r := p.2.frameRead a (ecc.getD i 0) (collOf coll i a)
    (p.1 ++ [r.1], r.2)) ([], s)

/-- The writes of a frame, in order: HBUSY of each. -/
def State.frameWrites (s : State) (hdr addr : Word) (data : List Word) (coll : List HostColl) : List Bool × State :=
  (List.range (hdrCnt hdr + 1)).foldl (fun (p : List Bool × State) i =>
    let a := frameAddr hdr addr i
    let r := p.2.frameWrite a (data.getD i 0) (collOf coll i a)
    (p.1 ++ [r.1], r.2)) ([], s)

/-- R600: from the first word that is late on, every word shifts out as zero. -/
def lateData (late : Option Nat) (ws : List Word) : List Word :=
  match late with
  | some n => ws.take n ++ (ws.drop n).map fun _ => 0
  | none => ws

/-- R600: some word of the frame is late. -/
def isLate (late : Option Nat) (n : Nat) : Bool :=
  match late with
  | some k => decide (k < n)
  | none => false

/-! ## Whole frames (R596 to R600, R643) -/

/-- HST_STAT: a frame has ended. -/
def State.frameEnd (s : State) (crc late : Bool) : State :=
  let s := s.wrap HST_STAT.FRAMES
  let s := if crc then { s with spi := { s.spi with crcErr := true } }.count HST_STAT.CRCERRS else s
  if late then s.count HST_STAT.LATES else s

/-- The words that the module has shifted out. -/
def State.hostOut (s : State) (ws : List Word) : State := { s with spi := { s.spi with out := ws } }

/-- The response word of the header. -/
def headOut (status : Nat) : Word := BitVec.ofNat 32 (status * 2 ^ 16)

/-- R596: the words out of a frame without data words: header, address, FCRC, T0, T1. -/
def State.shortOut (s : State) (ch : HostSt) (st tag result : Nat) : State :=
  let t0 := trailer (s.hostStatus ch) tag false result
  s.hostOut [headOut st, 0, 0, t0, fcrc [t0]]

/-- R596, R600: a read frame whose FCRC has verified. -/
def State.readFrame (s : State) (f : HostFrame) (ch : HostSt) (st : Nat) : State :=
  let dly := s.fld HST_CFG.RDLY
  let (rs, s) := s.frameReads f.hdr f.addr f.coll f.ecc
  if !s.hostUp then s.hostOut [headOut st] else
  let late := isLate f.late rs.length
  let ws := lateData f.late (rs.map (·.1))
  let t0 := trailer (s.hostStatus ch) (hdrTag f.hdr) (rs.any (·.2)) (if late then resLate else resOk)
  (s.hostOut ([headOut st, 0, 0] ++ List.replicate dly 0 ++ ws ++ [t0, fcrc (ws ++ [t0])])).frameEnd false late

/-- R596, R598: a write frame whose FCRC has verified: a data word's HBUSY goes out one word later. -/
def State.writeFrame (s : State) (f : HostFrame) (ch : HostSt) (st : Nat) : State :=
  let (bs, s) := s.frameWrites f.hdr f.addr f.data f.coll
  if !s.hostUp then s.hostOut [headOut st] else
  let t0 := trailer (s.hostStatus ch) (hdrTag f.hdr) (bs.any id) resOk
  (s.hostOut ([headOut st, 0, 0] ++ bs.map (fun b => BitVec.ofNat 32 (b2n b)) ++ [t0, fcrc [t0]])).frameEnd false false

/-- R597: a frame whose FCRC fails: nothing is read or written; its data words shift out zero. -/
def State.crcFrame (s : State) (f : HostFrame) (ch : HostSt) (st : Nat) : State :=
  let t0 := trailer (s.hostStatus ch) (hdrTag f.hdr) false resCrc
  let ws := List.replicate (hdrWords f.hdr) (0 : Word)
  let dly := if hdrReads f.hdr then s.fld HST_CFG.RDLY else 0
  (s.hostOut ([headOut st, 0, 0] ++ List.replicate dly 0 ++ ws ++ [t0, fcrc ((if hdrReads f.hdr then ws else []) ++ [t0])])).frameEnd
    true false

/-- R596: the FCRC that the frame should carry; a missing data word counts as zero. -/
def hostFcrc (f : HostFrame) : Word :=
  fcrc ([f.hdr, f.addr] ++ if hdrWrites f.hdr then (List.range (hdrCnt f.hdr + 1)).map fun i => f.data.getD i 0 else [])

/-- A frame on the host port. R612, R603: an unpowered port answers zeros. R599: where HCRC fails only the header's status goes
out. `mine` says whether the header is one of the command's own; a frame with another header is none of this command's. -/
def State.runFrame (s : State) (f : HostFrame) (mine : Bool) (body : State → HostSt → Nat → State) : State :=
  if !s.hostUp then s.hostOut []
  else
    let ch := s.spi
    let st := s.hostStatus ch
    if !hcrcOk f.hdr then (s.hostBegin.hostOut [headOut st]).frameEnd true false
    else if !mine then s
    else body s.hostBegin ch st

/-- A frame of reads, writes or neither, once HCRC has verified: its FCRC is checked. -/
def State.checkedFrame (s : State) (f : HostFrame) (ch : HostSt) (st : Nat) : State :=
  if hostFcrc f ≠ f.fcrc then s.crcFrame f ch st
  else if hdrReads f.hdr then s.readFrame f ch st
  else if hdrWrites f.hdr then s.writeFrame f ch st
  else (s.shortOut ch st (hdrTag f.hdr) resOk).frameEnd false false

/-- HOST_NOP (R595). -/
def execHostNop (f : HostFrame) (s : State) : Out :=
  .next <| s.ship <| s.runFrame f (hdrCmd f.hdr == 0 && !hdrBad f.hdr) fun s ch st => s.checkedFrame f ch st

/-- HOST_READ (R600, R595). -/
def execHostRead (f : HostFrame) (s : State) : Out :=
  .next <| s.ship <| s.runFrame f (hdrCmd f.hdr == 1) fun s ch st => s.checkedFrame f ch st

/-- HOST_WRITE (R598, R595). -/
def execHostWrite (f : HostFrame) (s : State) : Out :=
  .next <| s.ship <| s.runFrame f (hdrCmd f.hdr == 2) fun s ch st => s.checkedFrame f ch st

/-- HOST_READS (R595, R600). -/
def execHostReads (f : HostFrame) (s : State) : Out :=
  .next <| s.ship <| s.runFrame f (hdrCmd f.hdr == 3) fun s ch st => s.checkedFrame f ch st

/-- HOST_WRITES (R595, R598). -/
def execHostWrites (f : HostFrame) (s : State) : Out :=
  .next <| s.ship <| s.runFrame f (hdrCmd f.hdr == 4) fun s ch st => s.checkedFrame f ch st

/-- HOST_RESERVED_COMMAND (R597): BADCMD, whatever the FCRC. -/
def execHostReservedCommand (f : HostFrame) (s : State) : Out :=
  .next <| s.ship <| s.runFrame f (hdrBad f.hdr) fun s ch st =>
    ((s.reserved .host).shortOut ch st (hdrTag f.hdr) resBadCmd).frameEnd false false

/-- HOST_FRAME_ABORT (R599): HCS_N rises before the FCRC word. -/
def execHostFrameAbort (s : State) : Out :=
  .next <| s.ship <|
    if !s.hostUp then s.hostOut [] else (s.hostBegin.hostOut [headOut (s.hostStatus s.spi)]).frameEnd true false

/-! ## Management over Ethernet (R604, R605) -/

/-- R604, R422: the management endpoint is there: enabled, and the Ethernet island powered (modes 0 and 3 to 11). -/
def State.mgmtUp (s : State) : Bool := s.bit HST_ECFG.EN && s.hostUp && (s.mode == 0 || 3 ≤ s.mode) && !s.sys.pollOpen

/-- R604: the key of the management channel: the slot carries the MAC-gen, MAC-verify and derive flags, and the store is not
sealed (R586). -/
def State.mgmtKey (s : State) : Option (List Byte) :=
  if s.sealed then none
  else match s.slotKey (s.fld HST_ECFG.KSLOT) with
    | some k => if bitOf k.flags 0 && bitOf k.flags 1 && bitOf k.flags 4 then some (kdf k.key lblMgmt) else none
    | none => none

/-- R605: the session's NONCE, 0 if there is none. -/
def State.mgmtNonce (s : State) : Nat := s.fld HST_ENONCE.NONCE

/-- R604: the response: its words in order and its TAG. -/
def State.mgmtAnswer (s : State) (key : List Byte) (ws : List Word) : State :=
  if !s.hostUp then s else
  { s with mgmt := { s.mgmt with out := ws }
           mgmtTag := aesCmac key (ws.flatMap fun w => leBytes w.toNat 4) }

/-- R605: the channel keeps its own event bits: `k` runs with those of `ch` in the place of the SPI channel's, which come back
afterwards. -/
def State.asMgmt (s : State) (k : State → State) : State :=
  let own := s.spi
  let s := k { s with spi := { s.mgmt with crcErr := false, coll := false, rsvd := false } }
  if s.hostUp then { s with mgmt := { s.spi with out := s.mgmt.out }, spi := own } else s

/-- R604, R605: a request whose TAG, NONCE and SEQ are good: header, address, write data. -/
def State.mgmtRun (s : State) (key : List Byte) (nonce seq hdr addr : Word) (data : List Word) (late : Option Nat)
    (coll : List HostColl) (ecc : List Nat) : State :=
  let ch := s.mgmt
  let answer := fun (s : State) (busy : Bool) (res : Nat) (ws : List Word) =>
    s.mgmtAnswer key ([nonce, seq, trailer (s.hostStatus ch) (hdrTag hdr) busy res] ++ ws)
  s.asMgmt fun s =>
    if hdrBad hdr then answer (s.reserved .host) false resBadCmd []
    else if hdrReads hdr then
      let (rs, s) := s.frameReads hdr addr coll ecc
      let l := isLate late rs.length
      answer s (rs.any (·.2)) (if l then resLate else resOk) (lateData late (rs.map (·.1)))
    else if hdrWrites hdr then
      let (bs, s) := s.frameWrites hdr addr data coll
      answer s (bs.any id) resOk []
    else answer s false resOk []

/-- R605: a request that cannot be laid out, or whose HCRC fails: CRCERR, and no response. -/
def State.mgmtCrc (s : State) : State := { s with mgmt := { s.mgmt with crcErr := true } }

/-- R605: a request is accepted. -/
def State.mgmtAccept (s : State) (nonce seq : Nat) : State :=
  ((s.wrap HST_ESTAT.ACCEPTED).put HST_ENONCE.NONCE nonce).put HST_ESEQ.SEQ seq

/-- MGMT_REQUEST (R604, R605): the bytes of a datagram; `late` is the first word that is not there within 1 ms. -/
def execMgmtRequest (dgram : List Byte) (late : Option Nat) (coll : List HostColl) (ecc : List Nat) (s : State) : Out :=
  .next <| s.ship <|
    if !s.mgmtUp then s
    else
      let n := dgram.length - 16
      match s.mgmtKey with
      | none => s.count HST_ESTAT.AUTHERR
      | some key =>
        if dgram.length < 32 || aesCmac key (dgram.take n) ≠ dgram.drop n then s.count HST_ESTAT.AUTHERR
        else
          let ws := leWords (dgram.take n)
          let nonce := ws.getD 0 0
          let seq := ws.getD 1 0
          let hdr := ws.getD 2 0
          let addr := ws.getD 3 0
          let data := ws.drop 4
          let laid := decide (n % 4 = 0) && data.length == (if hdrWrites hdr then hdrCnt hdr + 1 else 0)
          let opens := nonce == 0 && seq == 0 && hdrCmd hdr == 0 && hdrCnt hdr == 0
          if opens && hcrcOk hdr && laid then
            let (fresh, s) := s.takeFree
            (s.mgmtAccept fresh.toNat 0).mgmtRun key fresh 0 hdr addr data late coll ecc
          else if s.mgmtNonce = 0 || nonce.toNat ≠ s.mgmtNonce then s.count HST_ESTAT.AUTHERR
          else if seq.toNat ≤ s.fld HST_ESEQ.SEQ then s.count HST_ESTAT.REPLAY
          else if !hcrcOk hdr || !laid then s.mgmtCrc
          else (s.mgmtAccept nonce.toNat seq.toNat).mgmtRun key nonce seq hdr addr data late coll ecc

end Sys2Proof.Machine
end

