-- ==== Sys2Proof/Machine/Rarek.lean ====
section
/-! DEFINITION. Docent cores and the Rarek move code (spec/10 R328 to R357): words, moves, traps, units, and the completion of what is
in flight. Time within a core is not counted: a result is readable once its completion command has run. -/

namespace Sys2Proof.Machine

/-! ## Words (R333 to R335, R342) -/

/-- A move: guard code, destination port, and its source: an immediate, or a port. -/
structure Move where
  g : Nat
  dst : Nat
  imm : Option Word
  src : Nat
deriving DecidableEq, Repr, Inhabited

/-- R342: the long port of a short one. -/
def shortPort (n : Nat) : Nat :=
  if n < 16 then n
  else [0x020, 0x021, 0x022, 0x023, 0x02C, 0x0B0, 0x050, 0x05B, 0x05C, 0x064, 0x072, 0x083, 0x080, 0x082, 0x0B8, 0x090].getD (n - 16) 0

/-- A signed field as a word. -/
def sextW (v n : Nat) : Word := BitVec.ofInt 32 (signedOf v n)

/-- R333: a long move, and whether its reserved field is zero. -/
def longMove (w : Word) : Move × Bool :=
  let g := ext w 29 2
  let dst := ext w 20 9
  if ext w 19 1 = 1 then (⟨g, dst, some (sextW (ext w 0 19) 19), 0⟩, true)
  else (⟨g, dst, none, ext w 0 9⟩, ext w 9 10 == 0)

/-- R334: a short move in slot bits `x`. -/
def shortMove (x : Nat) : Move × Bool :=
  let g := x / 8192 % 4
  let dst := shortPort (x / 256 % 32)
  if x / 128 % 2 = 1 then (⟨g, dst, some (sextW (x % 128) 7), 0⟩, true)
  else (⟨g, dst, none, shortPort (x % 32)⟩, x / 32 % 4 == 0)

/-- R333, R334: the moves of a word, and whether its reserved fields are zero. -/
def decodeMoves (w : Word) : List Move × Bool :=
  if ext w 31 1 = 0 then
    let m := longMove w
    ([m.1], m.2)
  else
    let a := shortMove (ext w 16 15)
    let b := shortMove (ext w 1 15)
    ([a.1, b.1], a.2 && b.2 && ext w 0 1 == 0)

/-- The value is the sign extension of its low `n` bits. -/
def fitsSigned (v : Word) (n : Nat) : Bool := sextW (v.toNat % 2 ^ n) n == v

/-- R342: the short code of a port that has one. -/
def shortCode (p : Nat) : Option Nat := (List.range 32).find? fun n => shortPort n == p

/-- R333: what a long move can hold: a move with an immediate names no source port. -/
def Move.longOk (m : Move) : Bool :=
  decide (m.g < 4) && decide (m.dst < 512) &&
    match m.imm with
    | some v => fitsSigned v 19 && m.src == 0
    | none => decide (m.src < 512)

/-- R334, R342: what a slot of a paired word can hold. -/
def Move.shortOk (m : Move) : Bool :=
  decide (m.g < 4) && (shortCode m.dst).isSome &&
    match m.imm with
    | some v => fitsSigned v 7 && m.src == 0
    | none => (shortCode m.src).isSome

/-- R333: the word of a long move. -/
def encodeLong (m : Move) : Word :=
  BitVec.ofNat 32 (m.g * 2 ^ 29 + m.dst * 2 ^ 20 + match m.imm with
    | some v => 2 ^ 19 + v.toNat % 2 ^ 19
    | none => m.src)

/-- R334: the slot bits of a short move. -/
def encodeSlot (m : Move) : Nat :=
  m.g * 8192 + (shortCode m.dst).getD 0 * 256 + match m.imm with
    | some v => 128 + v.toNat % 128
    | none => (shortCode m.src).getD 0

/-- R334: the word that pairs two short moves. -/
def encodePair (a b : Move) : Word := BitVec.ofNat 32 (2 ^ 31 + encodeSlot a * 2 ^ 16 + encodeSlot b * 2)

/-- The long move of an immediate, as a unit's command issues it: its low 19 bits in the word (notes/assumptions/33.md). -/
def moveWord (port : Nat) (b : Word) : Word := BitVec.ofNat 32 (port * 2 ^ 20 + 2 ^ 19 + b.toNat % 2 ^ 19)

/-! ## Ports (R337, R637) -/

/-- R337: the port can be read. Window ports are judged by the map. -/
def portReadable (p : Nat) : Bool :=
  p < 0x022 || (0x040 ≤ p && p ≤ 0x042) || (0x050 ≤ p && p ≤ 0x057) ||
    [0x05B, 0x060, 0x06A, 0x070, 0x071, 0x076, 0x077, 0x082, 0x085, 0x092, 0x093, 0x094, 0x0A0, 0x0A1, 0x0B1, 0x0B8, 0x0B9, 0x0BC,
      0x0C0, 0x0C1, 0x0C6, 0x0C7, 0x0C8].contains p

/-- R337: the port can be written. -/
def portWritable (p : Nat) : Bool :=
  p ≤ 0x020 || (0x022 ≤ p && p ≤ 0x047) || (0x050 ≤ p && p ≤ 0x05A) || (0x05C ≤ p && p ≤ 0x069) || (0x070 ≤ p && p ≤ 0x076) ||
    (0x080 ≤ p && p ≤ 0x084) || (0x090 ≤ p && p ≤ 0x092) || p = 0x095 || p = 0x096 || (0x0A2 ≤ p && p ≤ 0x0A5) || p = 0x0B0 || p = 0x0B1 ||
    (0x0B8 ≤ p && p ≤ 0x0BB) || p = 0x0C0 || (0x0C2 ≤ p && p ≤ 0x0C7)

/-- R637: the unit that a trigger port belongs to: 1 ALU, 2 MUL, 3 LSU, 4 STR, 5 PC, 6 EVT, 7 TMR, 8 REP, 9 SAT; 0 for a register. -/
def triggerUnit (p : Nat) : Nat :=
  if 0x022 ≤ p && p ≤ 0x03F then 1
  else if 0x043 ≤ p && p ≤ 0x047 then 2
  else if (0x058 ≤ p && p ≤ 0x05A) || (0x05C ≤ p && p ≤ 0x05F) || (0x061 ≤ p && p ≤ 0x069) then 3
  else if 0x072 ≤ p && p ≤ 0x075 then 4
  else if p = 0x080 || p = 0x081 || p = 0x083 || p = 0x084 then 5
  else if p = 0x090 || p = 0x091 || p = 0x095 || p = 0x096 then 6
  else if 0x0A2 ≤ p && p ≤ 0x0A5 then 7
  else if p = 0x0B0 then 8
  else if 0x0C2 ≤ p && p ≤ 0x0C5 then 9
  else 0

/-- R336: the ports whose moves suspend. -/
def suspends (p : Nat) : Bool := p = 0x090 || p = 0x096 || p = 0x0A2 || p = 0x0A5

/-- The branches. -/
def branches (p : Nat) : Bool := triggerUnit p == 5

/-- R352: what a repeated word may write. -/
def repeatable (p : Nat) : Bool := p < 0x020 || (0x070 ≤ p && p ≤ 0x077) || (0x061 ≤ p && p ≤ 0x067) || p = 0x0B1

/-- R353: the entry of window port `w` in the context's map: address, RD, WR; none without a map. -/
def State.winEntry (s : State) (c w : Nat) : Option (Nat × Bool × Bool) :=
  let m := ext (s.reg ⟨.DOC_CTXWIN, c / 4, 0, 0⟩) (8 * (c % 4)) 8
  if 32 ≤ m then none else some (s.fld DOC_WMAP.ADDR m w, s.bit DOC_WMAP.RD m w, s.bit DOC_WMAP.WR m w)

/-- R337, R353: reading the port traps UDP. -/
def State.badRead (s : State) (c p : Nat) : Bool :=
  if p < 0x100 then !portReadable p
  else match s.winEntry c (p - 0x100) with
    | some (_, rd, _) => !rd
    | none => true

/-- R337, R353: writing the port traps UDP. -/
def State.badWrite (s : State) (c p : Nat) : Bool :=
  if p < 0x100 then !portWritable p
  else match s.winEntry c (p - 0x100) with
    | some (_, _, wr) => !wr
    | none => true

/-! ## What is in flight (R330, R340) -/

/-- Memory operations of a context that the predicate admits, on whichever core issued them (R332). -/
def State.memFlight (s : State) (c : Nat) (p : MemKind → Bool) : Bool :=
  s.coreList.any fun d => (s.core d).memq.any fun o => o.ctx == c && p o.kind

/-- String operations of a context in flight. -/
def State.strFlight (s : State) (c : Nat) (p : StrKind → Bool) : Bool :=
  s.coreList.any fun d => (s.core d).strq.any fun o => o.ctx == c && p o.kind

/-- R352: an STR.CMP of the context's present repeat has not returned: its next iteration waits for the result. -/
def State.repWaits (s : State) (c : Nat) : Bool :=
  (s.rcd c).repActive &&
    s.coreList.any fun d => (s.core d).strq.any fun o => o.ctx == c && o.kind == .cmp && o.rep == (s.ctx c).repId

/-- R330: a source is not readable yet. -/
def State.srcWaits (s : State) (c : Nat) (m : Move) : Bool :=
  m.imm.isNone &&
    ((m.src == 0x05B && s.memFlight c fun k => k != .store) ||
      ((m.src == 0x041 || m.src == 0x042) && (s.ctx c).div.isSome) ||
      ((m.src == 0x070 || m.src == 0x071 || m.src == 0x076 || m.src == 0x077) && s.strFlight c fun _ => true))

/-- R330, R340: a destination's unit or queue does not take the move yet. A multiply takes the place of a division in flight. -/
def State.dstWaits (s : State) (c d p : Nat) : Bool :=
  ((0x045 ≤ p && p ≤ 0x047 || p == 0x041 || p == 0x042) && (s.ctx c).div.isSome) ||
    (p == 0x076 && s.strFlight c fun _ => true) || (p == 0x074 && s.strFlight c fun k => k == .cmp) ||
    ((0x061 ≤ p && p ≤ 0x067) && decide (4 ≤ ((s.core d).memq.filter fun o => o.kind == .store).length)) ||
    (decide (0x100 ≤ p) && decide (8 ≤ (s.core d).winq.length))

/-! ## Guards and traps (R335, R336, R352, R356) -/

/-- R335: the guard holds. -/
def guardHolds (gf0 gf1 : Bool) (g : Nat) : Bool :=
  match g with
  | 0 => true
  | 1 => gf0
  | 2 => gf1
  | _ => !gf0

/-- R336: SAMEDST. -/
def sameDst (ms : List Move) : Bool :=
  match ms with
  | [a, b] =>
    a.dst == b.dst || (triggerUnit a.dst != 0 && triggerUnit a.dst == triggerUnit b.dst) || (suspends a.dst && suspends b.dst) ||
      (a.dst == 0x082 && (b.dst == 0x081 || b.dst == 0x084)) || (b.dst == 0x082 && (a.dst == 0x081 || a.dst == 0x084))
  | _ => false

/-- R352: RPT. -/
def repTrap (active : Bool) (ms : List Move) : Bool :=
  let w := fun p => ms.any fun m => m.dst == p
  if active then ms.any fun m => !repeatable m.dst
  else w 0x0B1 || (w 0x0B0 && ms.any fun m => branches m.dst)

/-- R356: the trap that a word meets whatever its guards, 0 for none. `ecc` is 2 for an uncorrectable word, 3 for an uncorrectable
source. -/
def State.staticTrap (s : State) (c : Nat) (ms : List Move) (fields : Bool) (ecc : Nat) : Nat :=
  let p := (s.ctx c).poison
  if 2 ≤ ecc || p = 2 || (p = 1 && ms.any fun m => m.imm.isNone && m.src == 0x05B) then 5
  else if !fields then 2
  else if ms.any fun m => (m.imm.isNone && s.badRead c m.src) || s.badWrite c m.dst then 1
  else if sameDst ms then 3
  else if repTrap (s.rcd c).repActive ms then 6
  else 0

/-- R341, R343: the addresses and sizes that a trigger uses, operands written. -/
def State.accesses (s : State) (c p : Nat) (v : Word) : List (Nat × Nat) :=
  let sa := (s.port c pLsuSA).toNat
  let src := (s.port c pStrSrc).toNat
  let dst := (s.port c pStrDst).toNat
  match p with
  | 0x058 => [(v.toNat, 4)]
  | 0x059 => [(v.toNat, 2)]
  | 0x05A => [(v.toNat, 1)]
  | 0x061 | 0x068 | 0x069 => [(sa, 4)]
  | 0x062 => [(sa, 2)]
  | 0x063 => [(sa, 1)]
  | 0x072 | 0x074 => [(src, 4), (dst, 4)]
  | 0x073 => [(dst, 4)]
  | 0x075 => [(src, 4)]
  | _ =>
    if 0x05C ≤ p && p ≤ 0x05F then [((s.port c (pLsuP0 + (p - 0x05C))).toNat, 4)]
    else if 0x064 ≤ p && p ≤ 0x067 then [((s.port c (pLsuP0 + (p - 0x064))).toNat, 4)]
    else []

/-- R346: the target of a branch. -/
def State.target (s : State) (c p : Nat) (v : Word) : Nat :=
  if p = 0x080 || p = 0x081 then v.toNat else (BitVec.ofNat 32 (s.rcd c).pc + v).toNat

/-- R356: the traps of one guard-true move that depend on its value, operands written. -/
def State.valueTraps (s : State) (c p : Nat) (v : Word) : List Nat :=
  let as := s.accesses c p v
  (if (as.any fun a => a.1 % a.2 != 0) || (branches p && s.target c p v % 4 != 0) then [4] else []) ++
  (if (as.any fun a => !s.memPermitted a.1) || (branches p && 0x1FFFC < s.target c p v) then [7] else []) ++
  (if (p = 0x091 && (8192 ≤ v.toNat || nCtx s.variant ≤ v.toNat / 32)) || (p = 0x090 && v = 0 && s.port c pEvtMask = 0) ||
      ((p = 0x0B0 || p = 0x0B1) && 16777215 < v.toNat) || (p = 0x0A5 && 0x7FFFFFFF < v.toNat) then [8] else [])

/-- R357: a trap: the word's moves are discarded, the context is quarantined, and the trap is recorded and reported. -/
def State.trap (s : State) (d c code : Nat) (raw : Word) : State :=
  let s := (s.count DOC_TRAPS.COUNT d).put DOC_TRAPS.LAST code d
  let s := (((s.put DOC_TRAP.CTX c).put DOC_TRAP.CODE code).put DOC_TRAP.CORE d).flag DOC_TRAP.VALID true
  let s := (s.put DOC_TRAPPC.PC (s.rcd c).pc).put DOC_TRAPW.WORD raw.toNat
  let s := s.raise 8 d 0 (code * 256 + c)
  s.quarantineNow c 1

/-! ## Reading sources -/

/-- A posted window write reaches its register, and the partner where a mirrored context made it (R353, R533, R536). Lines and
pulse units are shipped as such. -/
def State.windowDrain (s : State) (d : Nat) : State :=
  match (s.core d).winq with
  | [] => s
  | o :: os =>
    let s := s.setCore d { s.core d with winq := os }
    let own := match s.regAt o.addr with
      | some r => r.reg == Reg.FAB_LWR || r.reg == Reg.FAB_LWRG || r.reg == Reg.PU_PD || r.reg == Reg.SYS_MODEREQ
      | none => true
    let s := s.ctxWrite o.ctx o.addr o.value
    if s.mirrored o.ctx && s.ships && !own then s.twinSend 2 (outEntry 3 0 o.addr o.value) else s

/-- The core whose queue holds a posted write of the context and whose front was posted first. -/
def State.winCore (s : State) (c : Nat) : Option Nat :=
  (s.coreList.filter fun d => (s.core d).winq.any fun o => o.ctx == c).foldl (fun m d =>
    let first := fun (d : Nat) => ((s.core d).winq.head?.map (·.seq)).getD 0
    match m with
    | none => some d
    | some e => if first d < first e then some d else some e) none

/-- R32, R353: the context's posted writes reach their registers, on whichever core it posted them, and with them what its queues hold
before them. -/
def State.drainFor (s : State) (c : Nat) : Nat → State
  | 0 => s
  | fuel + 1 => match s.winCore c with
    | some d => (s.windowDrain d).drainFor c fuel
    | none => s

/-- R32, R353: a window read, behind the writes posted before it. `lost`: the access times out. -/
def State.windowRead (s : State) (c p : Nat) (lost : Bool) : Word × State :=
  match s.winEntry c (p - 0x100) with
  | none => (0, s)
  | some (a, _, _) =>
    let s := s.drainFor c 64
    if lost then
      (0, match s.regAt a with
        | some r => s.windowLost c r
        | none => s.ptmo c)
    else s.ctxRead c a

/-- R331, R337: the value of a source, with what its reading does. TMR.NOW is 2 to 4 steps old (R28). -/
def State.readPort (s : State) (c p : Nat) (lost : Bool) : Word × State :=
  if 0x100 ≤ p then s.windowRead c p lost
  else match p with
    | 0x085 => (BitVec.ofNat 32 (s.rcd c).pc, s)
    | 0x06A => (s.port c pLsuStat, s.setPort c pLsuStat 0)
    | 0x0A0 =>
      let (w, s) := s.takeFree
      let t := s.tb - 2 - w.toNat % 3
      (BitVec.ofNat 32 t, s.setPort c pNowh (BitVec.ofNat 32 (t / 2 ^ 32)))
    | 0x0BC => (s.port c pGf0 + 2 * s.port c pGf1, s)
    | 0x0B1 => (if (s.rcd c).repActive then s.port c pRepN else 0, s)
    | _ => (s.port c p, s)

/-- The values of all sources; a port that cannot be read gives none (the word traps UDP). -/
def State.readAll (s : State) (c : Nat) (lost : Bool) : List Move → List (Move × Word) × State
  | [] => ([], s)
  | m :: ms =>
    let (v, s) := match m.imm with
      | some i => (i, s)
      | none => if s.badRead c m.src then (0, s) else s.readPort c m.src lost
    let (r, s) := s.readAll c lost ms
    ((m, v) :: r, s)

/-! ## Writing destinations -/

/-- The order number of the next operation that leaves a core (R341, R353). -/
def State.opOrder (s : State) : Nat × State := (s.doc.opSeq, { s with doc := { s.doc with opSeq := s.doc.opSeq + 1 } })

/-- A write of a register port, or a posted window write. -/
def State.writePort (s : State) (d c p : Nat) (v : Word) : State :=
  if 0x100 ≤ p then
    match s.winEntry c (p - 0x100) with
    | some (a, _, _) =>
      let (n, s) := s.opOrder
      s.setCore d { s.core d with winq := (s.core d).winq ++ [⟨c, a, v, n⟩] }
    | none => s
  else match p with
    | 0x0B8 | 0x0B9 => s.setPort c p (boolW (v != 0))
    | 0x0BA => s.setPort c pGf0 (boolW v.msb)
    | 0x0BB => s.setPort c pGf1 (boolW v.msb)
    | _ => s.setPort c p v

/-- A memory operation enters the core's queue. -/
def State.postMem (s : State) (d c : Nat) (k : MemKind) (a size : Nat) (v : Word) : State :=
  let (n, s) := s.opOrder
  s.setCore d { s.core d with memq := (s.core d).memq ++ [⟨c, k, a, size, v, n, false⟩] }

/-- A string operation begins. -/
def State.postStr (s : State) (d c : Nat) (k : StrKind) (v : Word) : State :=
  let src := (s.port c pStrSrc).toNat
  let dst := (s.port c pStrDst).toNat
  let rep := if (s.rcd c).repActive then (s.ctx c).repId else 0
  let (n, s) := s.opOrder
  let s := s.setCore d { s.core d with strq := (s.core d).strq ++ [⟨c, k, src, dst, v, rep, n, false⟩] }
  let s := if k = .fill then s else s.setPort c pStrSrc (s.port c pStrSrc + 4)
  if k = .crc then s else s.setPort c pStrDst (s.port c pStrDst + 4)

/-- R337: a pointer advances by its increment. -/
def State.advance (s : State) (c n : Nat) : State := s.setPort c (pLsuP0 + n) (s.port c (pLsuP0 + n) + s.port c (pLsuInc0 + n))

/-- R337, R340, R341: LSU triggers. -/
def State.runLsu (s : State) (d c p : Nat) (v : Word) : State :=
  let sa := (s.port c pLsuSA).toNat
  match p with
  | 0x058 => s.postMem d c .load v.toNat 4 0
  | 0x059 => s.postMem d c .load v.toNat 2 0
  | 0x05A => s.postMem d c .load v.toNat 1 0
  | 0x061 => s.postMem d c .store sa 4 v
  | 0x062 => s.postMem d c .store sa 2 v
  | 0x063 => s.postMem d c .store sa 1 v
  | 0x068 => s.postMem d c .aadd sa 4 v
  | 0x069 => s.postMem d c .aswap sa 4 v
  | _ =>
    let n := p % 4
    let a := (s.port c (pLsuP0 + n)).toNat
    if p < 0x060 then (s.postMem d c .load a 4 0).advance c n else (s.postMem d c .store a 4 v).advance c n

/-- R337 to R340: MUL triggers. -/
def State.runMul (s : State) (c p : Nat) (v : Word) : State :=
  let a := s.port c pMulA
  if p ≤ 0x045 then
    let r := mulResult p a v (s.port c pMulLo) (s.port c pMulHi)
    let s := s.setCtx c { s.ctx c with div := none }
    (s.setPort c pMulHi r.1).setPort c pMulLo r.2
  else s.setCtx c { s.ctx c with div := some ⟨p = 0x046, a, v⟩ }

/-- R337: SAT triggers. -/
def State.runSat (s : State) (c p : Nat) (v : Word) : State :=
  let r := satResult p (s.port c pSatA) v (s.port c pSatLo) (s.port c pSatHi)
  (s.setPort c pSatR r.1).setPort c pSatStat (boolW r.2)

/-- R349, R337, R351: EVT.SEND, EVT.CLR, TMR.ALARM, TMR.ALOFF. -/
def State.runEvent (s : State) (c p : Nat) (v : Word) : State :=
  match p with
  | 0x091 => s.setEvent (v.toNat / 32) (v.toNat % 32)
  | 0x095 => s.setPort c pEvtPend (s.port c pEvtPend &&& ~~~ v)
  | 0x0A3 =>
    let s := s.setRcd c { s.rcd c with alarmArmed := true, alarmAt := v }
    if timePassed v s.seen then s.fireAlarm c else s
  | 0x0A4 => s.setRcd c { s.rcd c with alarmArmed := false }
  | _ => s

/-- A trigger starts its unit. Branches, repeats and suspensions act when the word has ended. -/
def State.runTrigger (s : State) (d c p : Nat) (v : Word) : State :=
  match triggerUnit p with
  | 1 => s.setPort c pAluR (aluResult p (s.port c pAluA) v)
  | 2 => s.runMul c p v
  | 3 => s.runLsu d c p v
  | 4 => s.postStr d c (match p with | 0x072 => .copy | 0x073 => .fill | 0x074 => .cmp | _ => .crc) v
  | 5 => if p = 0x081 || p = 0x084 then s.setPort c pLr (BitVec.ofNat 32 ((s.rcd c).pc + 4)) else s
  | 6 | 7 => s.runEvent c p v
  | 9 => s.runSat c p v
  | _ => s

/-! ## The end of a word (R331, R346 to R352) -/

/-- The value that a guard-true move writes to a port of the word. -/
def written (ws : List (Move × Word)) (p : Nat) : Option Word := (ws.find? fun x => x.1.dst == p).map (·.2)

/-- R346, R352: PC, the repeat and its count after the word. -/
def State.nextPc (s : State) (c : Nat) (ws : List (Move × Word)) : State :=
  let r := s.rcd c
  if r.repActive then
    let n := match written ws 0x0B1 with
      | some v => v
      | none => s.port c pRepN - 1
    let s := s.setPort c pRepN n
    if n = 0 then s.setRcd c { s.rcd c with repActive := false, pc := r.pc + 4 } else s
  else match written ws 0x0B0 with
    | some n =>
      if n = 0 then s.setRcd c { r with pc := r.pc + 8 }
      else
        let s := s.setCtx c { s.ctx c with repId := (s.ctx c).repId + 1 }
        (s.setRcd c { r with pc := r.pc + 4, repActive := true }).setPort c pRepN n
    | none => match ws.find? fun x => branches x.1.dst with
      | some (m, v) => s.setRcd c { r with pc := s.target c m.dst v }
      | none => s.setRcd c { r with pc := r.pc + 4 }

/-- R364, R370, R371: a context suspends: its activation ends, its core is free. In a fail-back a mirrored one is held (R558); a
quarantine that awaits the word boundary takes effect (R373). -/
def State.suspend (s : State) (c st : Nat) : State :=
  let s := s.setCtx c { s.ctx c with overrun := false }
  let s := (s.flag CTXC_STAT.DEMOTED false c).syncPrio c
  let s := (s.leaveCore c).setCst c (if s.mirrored c && s.twn.failback then stHeld else st)
  match (s.ctx c).qpend with
  | some cause => s.quarantineNow c cause
  | none => s.schedule

/-- R348: EVT.WAIT. -/
def State.evtWait (s : State) (c : Nat) (b : Word) : State :=
  let s := if b = 0 then s else s.setPort c pEvtMask b
  if s.waitMet c then s.takeEvents c else (s.setRcd c { s.rcd c with wait := 1 }).suspend c stWait

/-- R350: a wait until the time base reaches `b`. -/
def State.sleepUntil (s : State) (c : Nat) (b : Word) : State :=
  if timePassed b s.seen then s else (s.setRcd c { s.rcd c with wait := 2, wakeAt := b }).suspend c stSleep

/-- R348, R350, R367: the suspending move of a word, once the word has completed. -/
def State.runSuspend (s : State) (c : Nat) (ws : List (Move × Word)) : State :=
  match ws.find? fun x => suspends x.1.dst with
  | none => s
  | some (m, v) =>
    match m.dst with
    | 0x090 => s.evtWait c v
    | 0x096 => s.yieldCtx c
    | 0x0A2 => s.sleepUntil c v
    | _ => s.sleepUntil c (BitVec.ofNat 32 s.seen + v)

/-- A core cycle of a context's run time (R370), CTXc_RUN.BMAX following. -/
def State.spend (s : State) (c : Nat) : State :=
  let n := (s.rcd c).runCyc + 1
  let s := s.setRcd c { s.rcd c with runCyc := n }
  if s.fld CTXC_RUN.BMAX c < n / 200 then s.put CTXC_RUN.BMAX (satTo (n / 200) 16) c else s

/-! ## Issuing a word (R330, R331) -/

/-- R331: a word of context `c` on core `d`: it waits, traps, or has its effect. -/
def State.issue (s : State) (d c : Nat) (ms : List Move) (fields : Bool) (ecc : Nat) (raw : Word) (lost : Bool) : State :=
  let gf0 := s.port c pGf0 != 0
  let gf1 := s.port c pGf1 != 0
  let on := fun (m : Move) => guardHolds gf0 gf1 m.g
  let s := s.spend c
  if s.repWaits c || ms.any fun m => s.srcWaits c m || (on m && s.dstWaits c d m.dst) then (s.wrap DOC_STALL.COUNT d).flag DOC_STAT.WAIT true d
  else
    let s := s.flag DOC_STAT.WAIT false d
    let t := s.staticTrap c ms fields ecc
    let (vs, s) := s.readAll c lost ms
    if t ≠ 0 then s.trap d c t raw
    else
      let ws := vs.filter fun x => on x.1
      let regs := ws.filter fun x => triggerUnit x.1.dst == 0
      let trigs := ws.filter fun x => triggerUnit x.1.dst != 0
      let s1 := forEach regs (fun x s => s.writePort d c x.1.dst x.2) s
      let ts := ws.flatMap fun x => s1.valueTraps c x.1.dst x.2
      if ts.contains 4 then s.trap d c 4 raw
      else if ts.contains 7 then s.trap d c 7 raw
      else if ts.contains 8 then s.trap d c 8 raw
      else
        let s := s1.wrap DOC_RET.COUNT d
        let s := forEach trigs (fun x s => s.runTrigger d c x.1.dst x.2) s
        let send := trigs.any fun x => x.1.dst == 0x091 || x.1.dst == 0x0A3
        let s := (s.nextPc c ws).runSuspend c ws
        if send then s.schedule else s

/-- The context that core `d` runs takes its next word, unless a quarantine takes effect at this boundary (R373). -/
def State.onCore (s : State) (d : Nat) (k : Nat → State → State) : State :=
  match s.running d with
  | none => s
  | some c => match (s.ctx c).qpend with
    | some cause => s.quarantineNow c cause
    | none => k c s

/-- R385: the address of a context's record. -/
def recordAddr (c : Nat) : Nat := 0x500000 + 0x200 * c

/-- MOVE (R331, R356): core `d` issues the word at its context's PC. `ecc` is 1 or 2 where the fetch met a correctable or an
uncorrectable error, 3 where a source of the word did, 4 or 5 where the load of the context's record as it was switched in met a
correctable or an uncorrectable one (R372, R385); `lost` where a window read of the word times out. -/
def execMove (d ecc : Nat) (lost : Bool) (s : State) : Out :=
  .next <| s.ship <| s.onCore d fun c s =>
    let pc := (s.rcd c).pc
    let s := if ecc = 4 || ecc = 5 then s.eccEvent (recordAddr c) 4 (ecc - 3) else s
    if ecc = 5 then s.trap d c 5 (s.word (0x400000 + 0x20000 * d + pc))
    else if 0x1FFFC < pc then s.trap d c 7 0
    else
      let a := 0x400000 + 0x20000 * d + pc
      let s := if ecc = 1 || ecc = 2 then s.eccEvent a 0 ecc else s
      let raw := s.word a
      let m := decodeMoves raw
      s.issue d c m.1 m.2 (if ecc = 4 then 0 else ecc) raw lost

/-- The core that runs a context. -/
def State.coreOf (s : State) (c : Nat) : Option Nat := s.coreList.find? fun d => s.running d == some c

/-- A running context issues a word of one unguarded long move: a value to a port. -/
def State.commandMove (s : State) (c port : Nat) (b : Word) : State :=
  match s.coreOf c with
  | none => s
  | some d => s.onCore d fun c s => s.issue d c [⟨0, port, some b, 0⟩] true 0 (moveWord port b) false

/-- A running context issues a word of one unguarded long move: a port to a general register. -/
def State.commandRead (s : State) (c port g : Nat) (lost : Bool) : State :=
  match s.coreOf c with
  | none => s
  | some d => s.onCore d fun c s =>
    s.issue d c [⟨0, g % 32, none, port⟩] true 0 (BitVec.ofNat 32 (g % 32 * 2 ^ 20 + port)) lost

/-! ## The unit rows -/

/-- ALU_OPERATION (R338). -/
def execAluOperation (c port : Nat) (b : Word) (s : State) : Out :=
  .next <| s.ship <| if triggerUnit port = 1 then s.commandMove c port b else s

/-- MUL_MULTIPLY (R337, R340): MULS, MULU, MACS. -/
def execMulMultiply (c port : Nat) (b : Word) (s : State) : Out :=
  .next <| s.ship <| if 0x043 ≤ port && port ≤ 0x045 then s.commandMove c port b else s

/-- MUL_DIVIDE (R339, R340): DIVS, DIVU. -/
def execMulDivide (c port : Nat) (b : Word) (s : State) : Out :=
  .next <| s.ship <| if port = 0x046 || port = 0x047 then s.commandMove c port b else s

/-- DIVIDE_COMPLETE (R339, R340, R332). -/
def execDivideComplete (c : Nat) (s : State) : Out :=
  .next <| s.ship <| match (s.ctx c).div with
    | none => s
    | some v =>
      let r := divResult v.signed v.a v.b
      ((s.setCtx c { s.ctx c with div := none }).setPort c pMulLo r.1).setPort c pMulHi r.2

/-- SAT_OPERATION (R337). -/
def execSatOperation (c port : Nat) (b : Word) (s : State) : Out :=
  .next <| s.ship <| if triggerUnit port = 9 then s.commandMove c port b else s

/-- LSU_LOAD (R341, R343). -/
def execLsuLoad (c port : Nat) (b : Word) (s : State) : Out :=
  .next <| s.ship <| if triggerUnit port = 3 && port < 0x060 then s.commandMove c port b else s

/-- LSU_STORE (R341, R343). -/
def execLsuStore (c port : Nat) (b : Word) (s : State) : Out :=
  .next <| s.ship <| if 0x061 ≤ port && port ≤ 0x067 then s.commandMove c port b else s

/-- LSU_ATOMIC (R389). -/
def execLsuAtomic (c port : Nat) (b : Word) (s : State) : Out :=
  .next <| s.ship <| if port = 0x068 || port = 0x069 then s.commandMove c port b else s

/-- LSU_STAT_READ (R345): into general register `g`. -/
def execLsuStatRead (c g : Nat) (s : State) : Out := .next <| s.ship <| s.commandRead c 0x06A g false

/-- STR_COPY (R340). -/
def execStrCopy (c : Nat) (s : State) : Out := .next <| s.ship <| s.commandMove c 0x072 0

/-- STR_FILL (R340). -/
def execStrFill (c : Nat) (b : Word) (s : State) : Out := .next <| s.ship <| s.commandMove c 0x073 b

/-- STR_CMP (R352). -/
def execStrCmp (c : Nat) (s : State) : Out := .next <| s.ship <| s.commandMove c 0x074 0

/-- STR_CRC (R344). -/
def execStrCrc (c : Nat) (s : State) : Out := .next <| s.ship <| s.commandMove c 0x075 0

/-- PC_JUMP (R346): PC.JMP and PC.JR. -/
def execPcJump (c port : Nat) (b : Word) (s : State) : Out :=
  .next <| s.ship <| if port = 0x080 || port = 0x083 then s.commandMove c port b else s

/-- PC_CALL (R346, R347): PC.CALL and PC.CALLR. -/
def execPcCall (c port : Nat) (b : Word) (s : State) : Out :=
  .next <| s.ship <| if port = 0x081 || port = 0x084 then s.commandMove c port b else s

/-- EVT_WAIT (R348). -/
def execEvtWait (c : Nat) (b : Word) (s : State) : Out := .next <| s.ship <| s.commandMove c 0x090 b

/-- EVT_SEND (R349). -/
def execEvtSend (c : Nat) (b : Word) (s : State) : Out := .next <| s.ship <| s.commandMove c 0x091 b

/-- EVT_CLR (R337). -/
def execEvtClr (c : Nat) (b : Word) (s : State) : Out := .next <| s.ship <| s.commandMove c 0x095 b

/-- EVT_YIELD (R367). -/
def execEvtYield (c : Nat) (s : State) : Out := .next <| s.ship <| s.commandMove c 0x096 0

/-- TMR_NOW (R337, R28): into general register `g`. -/
def execTmrNow (c g : Nat) (s : State) : Out := .next <| s.ship <| s.commandRead c 0x0A0 g false

/-- TMR_UNTIL (R350). -/
def execTmrUntil (c : Nat) (b : Word) (s : State) : Out := .next <| s.ship <| s.commandMove c 0x0A2 b

/-- TMR_AFTER (R350). -/
def execTmrAfter (c : Nat) (b : Word) (s : State) : Out := .next <| s.ship <| s.commandMove c 0x0A5 b

/-- TMR_ALARM (R351). -/
def execTmrAlarm (c : Nat) (b : Word) (s : State) : Out := .next <| s.ship <| s.commandMove c 0x0A3 b

/-- TMR_ALOFF (R351). -/
def execTmrAloff (c : Nat) (s : State) : Out := .next <| s.ship <| s.commandMove c 0x0A4 0

/-- REP_T (R352). -/
def execRepT (c : Nat) (n : Word) (s : State) : Out := .next <| s.ship <| s.commandMove c 0x0B0 n

/-- WINDOW_READ (R353): window port `w` into general register `g`. -/
def execWindowRead (c w g : Nat) (s : State) : Out :=
  .next <| s.ship <| if w < 256 then s.commandRead c (0x100 + w) g false else s

/-- WINDOW_WRITE (R353, R354): the write is posted to the core's window queue. -/
def execWindowWrite (c w : Nat) (b : Word) (s : State) : Out :=
  .next <| s.ship <| if w < 256 then s.commandMove c (0x100 + w) b else s

/-- R32, R353: an earlier posted write of the context to the same island waits on another core. -/
def State.winBehind (s : State) (o : WinOp) : Bool :=
  let isl := fun (a : Nat) => (s.regAt a).map islandCode
  s.coreList.any fun d => (s.core d).winq.any fun x => x.ctx == o.ctx && decide (x.seq < o.seq) && isl x.addr == isl o.addr

/-- WINDOW_QUEUE_DRAIN (R353, R354): the oldest posted write of core `d` reaches its register, in its context's order (R32). -/
def execWindowQueueDrain (d : Nat) (s : State) : Out :=
  .next <| s.ship <| match (s.core d).winq with
    | o :: _ => if s.winBehind o then s else s.windowDrain d
    | [] => s

/-- WINDOW_TIMEOUT (R353, R31): the oldest posted write of core `d` times out; or the read of window port `w` into general register
`g` by the context it runs does. -/
def execWindowTimeout (d : Nat) (read : Option (Nat × Nat)) (s : State) : Out :=
  .next <| s.ship <| match read with
    | some (w, g) => match s.running d with
      | some c => if w < 256 then s.commandRead c (0x100 + w) g true else s
      | none => s
    | none => match (s.core d).winq with
      | [] => s
      | o :: os =>
        let s := s.setCore d { s.core d with winq := os }
        match s.regAt o.addr with
        | some r => s.windowLost o.ctx r
        | none => s.ptmo o.ctx

/-! ## At the bank (R340, R341, R385, R386, R389, R390) -/

/-- R533: a mirrored context's store to a mirrored region waits for its suspension unit. -/
def State.noteStore (s : State) (c a : Nat) : State :=
  let w := a / 4 * 4
  if s.mirrored c && !s.twinRest && s.inMirror w then
    let l := Tbl.get s.twn.stores c []
    if l.contains w then s else { s with twn := { s.twn with stores := Tbl.set s.twn.stores c (l ++ [w]) } }
  else s

/-- A value written at a bank. -/
def State.bankWrite (s : State) (c a size : Nat) (v : Word) : State := (s.setBytes a (leBytes v.toNat size)).noteStore c a

/-- An error on a read that a merge needs: the access is discarded and reported (R386). -/
def State.mergeLost (s : State) (a : Nat) : State := (s.eccEvent a 0 eccDouble).eccReport a 1

/-- R385, R356: the result that a context reads from LSU.R, with an uncorrectable error (1) or without (0); or an error that the next
word traps by (2), which no later result takes away. -/
def State.setPoison (s : State) (c n : Nat) : State :=
  if (s.ctx c).poison = 2 then s else s.setCtx c { s.ctx c with poison := n }

/-- R340, R357: the result of a load or an atomic, unless it has been discarded. -/
def State.setLoad (s : State) (o : MemOp) (v : Word) (poison : Nat) : State :=
  if o.mute then s else (s.setPort o.ctx pLsuR v).setPoison o.ctx poison

/-- R390: a read that met a host write returns undefined data. -/
def State.collided (s : State) (a coll : Nat) (v : Word) : Word × State :=
  if (coll = 1 || coll = 2) && inWindow a then s.takeFree else (v, s)

/-- One memory operation at its bank. `ecc` is what the read met; `coll` as `State.collide` says. -/
def State.doMem (s : State) (o : MemOp) (ecc coll : Nat) : State :=
  let s := s.collide o.ctx o.addr coll
  match o.kind with
  | .load =>
    let s := s.eccEvent o.addr 0 ecc
    let (v, s) := s.collided o.addr coll (BitVec.ofNat 32 (leNat (s.bytes o.addr o.size)))
    s.setLoad o v (if ecc = eccDouble then 1 else 0)
  | .store =>
    if o.size ≠ 4 && ecc = eccDouble then s.mergeLost o.addr
    else (if o.size = 4 then s else s.eccEvent o.addr 0 ecc).bankWrite o.ctx o.addr o.size o.value
  | k =>
    if ecc = eccDouble then
      let s := s.mergeLost o.addr
      if o.mute then s else s.setPoison o.ctx 2
    else
      let s := s.eccEvent o.addr 0 ecc
      let old := s.word o.addr
      (s.setLoad o old 0).bankWrite o.ctx o.addr 4 (if k = .aadd then old + o.value else o.value)

/-- R341: a memory operation that the context issued earlier, on another core, has not reached its bank. -/
def State.memBehind (s : State) (o : MemOp) : Bool :=
  s.coreList.any fun d => (s.core d).memq.any fun x => x.ctx == o.ctx && decide (x.seq < o.seq)

/-- The oldest memory operation of core `d`, if the predicate admits it: it waits for its context's earlier ones (R341) and for a bank
that is not yet awake (R392). -/
def State.memFront (s : State) (d : Nat) (p : MemKind → Bool) (ecc coll : Nat) : State :=
  match (s.core d).memq with
  | o :: os =>
    if p o.kind && !s.memBehind o && s.memAwake o.addr then (s.setCore d { s.core d with memq := os }).doMem o ecc coll else s
  | [] => s

/-- LOAD_COMPLETE (R340, R341, R389): the oldest operation of core `d`, a load or an atomic, returns its value. -/
def execLoadComplete (d ecc coll : Nat) (s : State) : Out := .next <| s.ship <| s.memFront d (· != .store) ecc coll

/-- STORE_QUEUE_DRAIN (R340, R341, R386): the oldest operation of core `d`, a store, reaches its bank. -/
def execStoreQueueDrain (d ecc coll : Nat) (s : State) : Out := .next <| s.ship <| s.memFront d (· == .store) ecc coll

/-- R352: an STR.CMP that finds a difference ends the repeat whose word issued it. -/
def State.cmpFound (s : State) (o : StrOp) : State :=
  let r := s.rcd o.ctx
  if o.rep ≠ 0 && r.repActive && o.rep = (s.ctx o.ctx).repId then
    (s.setRcd o.ctx { r with repActive := false, pc := r.pc + 4 }).setPort o.ctx pRepN 0
  else s

/-- R385, R390: one read of a string operation: what ECC and a collision with the host make of it; none after an uncorrectable error,
which the context's next word traps by (R356). -/
def State.strRead (s : State) (o : StrOp) (a ecc coll : Nat) : Option Word × State :=
  let s := (s.collide o.ctx a coll).eccEvent a 0 ecc
  if ecc = eccDouble then (none, if o.mute then s else s.setPoison o.ctx 2)
  else
    let (v, s) := s.collided a coll (s.word a)
    (some v, s)

/-- R385, R390: the write of a string operation. -/
def State.strWrite (s : State) (o : StrOp) (v : Word) (coll : Nat) : State :=
  (s.collide o.ctx o.dst coll).bankWrite o.ctx o.dst 4 v

/-- One string operation at the banks: COPY, FILL, CMP, CRC. `ecc` and `coll` are what the access to SRC met, `dstEcc` and `dstColl` that
to DST. -/
def State.doStr (s : State) (o : StrOp) (ecc coll dstEcc dstColl : Nat) : State :=
  match o.kind with
  | .fill => s.strWrite o o.value dstColl
  | .copy => match s.strRead o o.src ecc coll with
    | (some v, s) => s.strWrite o v dstColl
    | (none, s) => s
  | .crc => match s.strRead o o.src ecc coll with
    | (some v, s) => if o.mute then s else s.setPort o.ctx 0x076 (crc32 (s.port o.ctx 0x076) (leBytes v.toNat 4))
    | (none, s) => s
  | .cmp =>
    let (a, s) := s.strRead o o.src ecc coll
    let (b, s) := s.strRead o o.dst dstEcc dstColl
    match a, b with
    | some v, some w =>
      let s := if o.mute then s else s.setPort o.ctx 0x077 (boolW (v != w))
      if v != w && !o.mute then s.cmpFound o else s
    | _, _ => s

/-- R340: a string operation that the context issued earlier, on another core, has not completed. -/
def State.strBehind (s : State) (o : StrOp) : Bool :=
  s.coreList.any fun d => (s.core d).strq.any fun x => x.ctx == o.ctx && decide (x.seq < o.seq)

/-- R392: a bank that the string operation needs is not yet awake. -/
def State.strAsleep (s : State) (o : StrOp) : Bool :=
  (o.kind != .fill && !s.memAwake o.src) || (o.kind != .crc && !s.memAwake o.dst)

/-- STR_OPERATION_COMPLETE (R340, R344, R352, R392): the oldest string operation of core `d` completes, once those that its context
issued before it have. -/
def execStrOperationComplete (d : Nat) (ecc coll : StrSides) (s : State) : Out :=
  .next <| s.ship <| match (s.core d).strq with
    | o :: os =>
      if s.strBehind o || s.strAsleep o then s else (s.setCore d { s.core d with strq := os }).doStr o ecc.src coll.src ecc.dst coll.dst
    | [] => s

/-- SHADOW_PRELOAD_DONE (R368): the shadow bank of a core holds its context; an uncorrectable error in the record as it is loaded is a
trap of the context (R372, R385), with no word to show: a free value. -/
def execShadowPreloadDone (e : RecordLoad) (s : State) : Out :=
  .next <| s.ship <|
    let d := e.core
    match (s.core d).shadow with
    | some (c, _) =>
      let s := s.eccEvent (recordAddr c) 4 e.ecc
      if e.ecc = eccDouble then
        let (w, s) := s.takeFree
        s.trap d c 5 w
      else s.setCore d { s.core d with shadow := some (c, true) }
    | none => s

/-! ## Core failure (R377 to R380) -/

/-- CORE_FAILURE: a lockstep mismatch, or a PLL that loses lock; an uncontained one is a logic reset. -/
def execCoreFailure (d : Nat) (pll : Bool) (s : State) : Out :=
  .next <| s.ship <|
    if nCores s.variant ≤ d || (s.coreSt d ≠ 1 && s.coreSt d ≠ 2) then s
    else
      let t := s.coreFailed d pll
      if s.uncontained d then t.logicReset .consreq else t

end Sys2Proof.Machine
end

