-- ==== Sys2Proof/Machine/TwinRx.lean ====
section
/-! DEFINITION. What a member does with a twin-link frame it accepts (spec/17 R532 to R544): layouts of payloads and their
application to the replica. -/

namespace Sys2Proof.Machine

/-! ## Reading payloads (R12, R544) -/

/-- A little-endian field of a payload. -/
def fieldAt (p : List Byte) (o n : Nat) : Nat := leNat ((p.drop o).take n)

/-- Bytes `o` to `o + n − 1` of a payload are zero. -/
def zerosAt (p : List Byte) (o n : Nat) : Bool := ((p.drop o).take n).all (· == 0)

/-- A payload in entries of `n` bytes. -/
def entriesAt (n : Nat) (p : List Byte) : List (List Byte) := chunks n p.length p

/-! ## Suspension units (R535, R544 TYPE 0x1) -/

/-- Where a suspension unit's store entries begin. -/
def unitBase (p : List Byte) : Nat := if fieldAt p 1 1 % 128 = 0 then 276 else 4

/-- The layout of a suspension unit frame. -/
def unitOk (p : List Byte) : Bool := 4 ≤ p.length && p.length == unitBase p + 8 * fieldAt p 2 2

/-- R535: a complete unit becomes part of the replica: its stores to mirrored regions, and its record. -/
def State.applyUnit (s : State) (u : TwUnit) : State :=
  let s := forEach u.stores (fun p s => if s.inMirror p.1 && p.1 % 4 = 0 then s.setWord p.1 p.2 else s) s
  if s.mirrored u.ctx && s.cst u.ctx == stHeld then (s.setRcd u.ctx (recOf u.record)).storeRcd u.ctx else s

/-- A part of a suspension unit: parts must follow one another. -/
def State.takeUnit (s : State) (p : List Byte) : State :=
  let c := fieldAt p 0 1
  let part := fieldAt p 1 1 % 128
  let st := (entriesAt 8 (p.drop (unitBase p))).map fun e => (fieldAt e 0 4, wordOf (e.drop 4))
  let u : Option TwUnit :=
    if part = 0 then some ⟨c, 1, leWords ((p.drop 4).take 272), st⟩
    else match s.twn.unit with
      | some u => if u.ctx = c && u.next = part then some { u with next := part + 1, stores := u.stores ++ st } else none
      | none => none
  match u with
  | none => { s with twn := { s.twn with unit := none } }
  | some u =>
    if 128 ≤ fieldAt p 1 1 then { s with twn := { s.twn with unit := none } }.applyUnit u
    else { s with twn := { s.twn with unit := some u } }

/-! ## Output commands (R536, R540, R544 TYPE 0x2) -/

/-- The layout of an output command entry. -/
def outOk (e : List Byte) : Bool := e.length == 12 && 1 ≤ fieldAt e 0 1 && fieldAt e 0 1 ≤ 7 && zerosAt e 1 1

/-- The mirror engine as the writer of registers: no context has this number. -/
def mirrorWriter : Nat := 256

/-- R536: a window write of the principal, made in the deputy; one that the register refuses is dropped without report. -/
def State.mirrorWrite (s : State) (a : Nat) (w : Word) : State :=
  match s.regAt a with
  | none => s
  | some r =>
    let t := s.writeReg (.ctx mirrorWriter) r w
    { t with doc := { t.doc with ctxs := t.doc.ctxs.filter fun p => p.1 != mirrorWriter } }

/-- R536, R540, R468: one output command in the deputy. -/
def State.applyOut (s : State) (e : List Byte) : State :=
  let i := fieldAt e 2 2
  let w := wordOf (e.drop 8)
  match fieldAt e 0 1 with
  | 1 => if s.sys.fabricUp && s.mirLines.contains i then s.writeLines [(i, bitOf w.toNat 0)] else s
  | 2 =>
    if s.sys.fabricUp && s.mirPus.contains i && (s.fld PU_CFG.SG i ≠ 0 || 2 ≤ ext w 0 16) then s.pdWrite i w else s
  | 3 => s.mirrorWrite (fieldAt e 4 4) w
  | 4 => { s with twn := { s.twn with groups := setBitV s.twn.groups (i % 16) (bitOf w.toNat 0) } }
  | 5 =>
    let m := ext w 0 4
    if 1 ≤ m && m ≤ 8 && s.mode ≠ 8 && s.mode ≤ 8 then s.twinMode m else s
  | 6 => s.setReg ⟨.NM_STAT, 0, 0, 0⟩ w
  | _ => s.setReg ⟨.NM_CTL, 0, 0, 0⟩ w

/-! ## Protection state (R532, R544 TYPE 0x3) -/

/-- The layout of a protection entry. -/
def protOk (e : List Byte) : Bool :=
  e.length == 16 && fieldAt e 0 1 < 16 && fieldAt e 1 1 < 8 && fieldAt e 3 1 < 2 && zerosAt e 10 6

/-- R532, R199: the replica of one channel, whose wire model and bucket an ARMED channel uses. -/
def State.applyProt (s : State) (e : List Byte) : State :=
  let m := fieldAt e 0 1
  let n := 8 + m
  if !s.twinned n then s
  else
    let r : ProtRep := ⟨fieldAt e 1 1, fieldAt e 2 1, fieldAt e 3 1 == 1, fieldAt e 4 2, fieldAt e 6 2, fieldAt e 8 2⟩
    let s := { s with twn := { s.twn with prot := Tbl.set s.twn.prot m r } }
    if s.hs n ≠ 6 then s
    else
      let s := { s with hsw := Tbl.set s.hsw n { (Tbl.get s.hsw n default) with th1 := (r.th1 : Rat) / 100, th2 := (r.th2 : Rat) / 100 } }
      (s.showTheta n).setMissing n (max 0 ((((bucketOf n).1 : Nat) : Rat) - ((r.bucket : Nat) : Rat)))

/-! ## CAN (R424, R544 TYPE 0x4) -/

/-- The CAN entries of a payload; none where they do not fill it or one carries a reserved code. The fuel is its length. -/
def canEntries : Nat → List Byte → Option (List (List Byte))
  | 0, p => if p.isEmpty then some [] else none
  | fuel + 1, p =>
    if p.isEmpty then some []
    else
      let n := 8 + 4 * fieldAt p 6 2
      let op := fieldAt p 0 1
      if p.length < n || op = 0 || 6 < op || 8 ≤ fieldAt p 1 1 || 2 ≤ fieldAt p 3 1 then none
      else (canEntries fuel (p.drop n)).map (p.take n :: ·)

/-- The records left after the one numbered `seq` at or behind the head has gone. -/
def dropSeq (seq : Nat) (rs : List (List Word)) : List (List Word) :=
  match rs.findIdx? fun rc => ext (rc.headD 0) 0 8 == seq with
  | some i => rs.drop (i + 1)
  | none => rs

/-- R544: a record or buffer that its LAST part completes. -/
def State.applyCanWhole (s : State) (x : TwCan) : State :=
  if x.op = 1 then
    if 2 ≤ x.index then s
    else
      let q := s.cq x.port x.index
      let s := s.setCq x.port x.index { q with seq := (ext (x.words.headD 0) 0 8 + 1) % 256 }
      s.canSetRecs x.port x.index (q.recs ++ [x.words])
  else if 32 ≤ x.index then s
  else forEach ((x.words.take 21).zipIdx) (fun p s => s.setReg ⟨.CAN_TXW, x.port, x.index, p.2⟩ p.1) s

/-- R424: one CAN entry in the deputy's replica. -/
def State.applyCan (s : State) (e : List Byte) : State :=
  let op := fieldAt e 0 1
  let n := fieldAt e 1 1
  let i := fieldAt e 2 1
  let off := fieldAt e 4 2
  let ws := leWords (e.drop 8)
  if nCan s.variant ≤ n then s
  else match op with
    | 1 | 3 =>
      let part : Option TwCan := if off = 0 then some ⟨op, n, i, ws⟩ else match s.twn.canPart with
        | some x => if x.op = op && x.port = n && x.index = i && x.words.length = off then some { x with words := x.words ++ ws }
          else none
        | none => none
      match part, fieldAt e 3 1 with
      | some x, 1 => { s with twn := { s.twn with canPart := none } }.applyCanWhole x
      | p, _ => { s with twn := { s.twn with canPart := p } }
    | 2 => if 2 ≤ i then s else s.canSetRecs n i (dropSeq (ext (ws.headD 0) 0 8) (s.cq n i).recs)
    | 4 => if 32 ≤ i then s else s.setReg ⟨.CAN_TXS, n, i, 0⟩ (ws.headD 0)
    | 5 =>
      let s := s.setReg ⟨.CAN_TXPEND, n, 0, 0⟩ (ws.headD 0)
      s.setCp n { s.cp n with late := ws.getD 1 0 != 0 }
    | _ => { s with twn := { s.twn with canErr := Tbl.set s.twn.canErr n ws } }

/-- R538: the replica of the queues is cleared by the first CAN snapshot of a resynchronisation. -/
def State.freshCan (s : State) : State :=
  if !s.twn.canFresh then s
  else
    let s := forEach (List.range (nCan s.variant)) (fun n s => (s.canSetRecs n 0 []).canSetRecs n 1 []) s
    { s with twn := { s.twn with canFresh := false, canPart := none } }

/-! ## Condition reports (R539, TYPE 0x5) -/

/-- R539: a partner's report is logged with PARTNER set and its TIME converted; it causes no reaction. -/
def State.applyReport (s : State) (e : List Byte) : State :=
  let w := leNat e
  let t := ((w / 2 ^ 32 : Nat) : Int) - s.sfld TWN_TOFF.OFFSET / 100
  s.logReport (BitVec.ofNat 64 (unsignedOf t 32 * 2 ^ 32 + w % 2 ^ 32) ||| 0x1000)

/-! ## Resynchronisation blocks (R538, R544 TYPE 0x7) -/

/-- The layout of a resynchronisation block. -/
def blockOk (p : List Byte) : Bool :=
  let d := p.drop 8
  8 ≤ p.length && zerosAt p 1 1 &&
    match fieldAt p 0 1 with
    | 1 => d.length == 272
    | 2 => fieldAt p 2 2 < 8 && fieldAt p 4 4 % 4 == 0
    | 3 => (entriesAt 12 d).all outOk
    | 4 => (entriesAt 16 d).all protOk
    | 5 => (canEntries d.length d).isSome
    | 6 => d.isEmpty
    | _ => false

/-- R538: region bytes, within the region. -/
def State.applyRegion (s : State) (r off : Nat) (d : List Byte) : State :=
  let n := 64 * s.fld TWN_MREG.SIZE r
  s.setBytes (0x200000 + 64 * s.fld TWN_MREG.BASE r + off) (d.take (n - off))

/-- R540: after a resynchronisation the deputy takes the principal's mode, if it has left its own. -/
def State.followPartner (s : State) : State :=
  let m := s.twn.pMode
  if s.isDeputy && 1 ≤ m && m ≤ 8 && m ≠ s.mode && s.mode ≠ 8 && s.mode ≤ 8 then s.twinMode m else s

/-- R538: one block in the deputy. -/
def State.applyBlock (s : State) (p : List Byte) : State :=
  let d := p.drop 8
  let i := fieldAt p 2 2
  match fieldAt p 0 1 with
  | 1 => if s.mirrored i && s.cst i == stHeld then (s.setRcd i (recOf (leWords d))).storeRcd i else s
  | 2 => s.applyRegion i (fieldAt p 4 4) d
  | 3 => forEach (entriesAt 12 d) (fun e s => s.applyOut e) s
  | 4 => forEach (entriesAt 16 d) (fun e s => s.applyProt e) s
  | 5 => forEach ((canEntries d.length d).getD []) (fun e s => s.applyCan e) s.freshCan
  | _ => (s.flag TWN_STAT.STALE false).put TWN_STAT.LINK 3 |>.followPartner

end Sys2Proof.Machine
end

