-- ==== Sys2Proof/Machine/Wake.lean ====
section
/-! DEFINITION. Wakes and Watch polling (spec/02 R66 to R74; spec/09 R316; spec/12 R422, R423; spec/13 R435; spec/14 R464). -/

namespace Sys2Proof.Machine

/-! ## Wake sources -/

/-- R316: one poll of one armed switch input. -/
def State.sinPoll (s : State) (n mv : Nat) : State :=
  match s.armed 0 n with
  | none => s
  | some _ =>
    let g := n / 8
    let r := rawLevel (s.inp.raw.getLsbD n) mv (s.fld INP_SGRP.THRL g) (s.fld INP_SGRP.THRH g)
    let s := { s with inp := { s.inp with raw := setBitV s.inp.raw n r } }
    let k := if r = bitOf (s.fld INP_PREF.REF) n then 0 else Tbl.get s.sys.pollRun n 0 + 1
    let s := { s with sys := { s.sys with pollRun := Tbl.set s.sys.pollRun n k } }
    if k ≠ 0 && s.fld INP_PARK.PDEB = k then s.wakeSource 0 n 0 else s

/-- PARKED_SIN_POLL (R316): the scanner samples the armed switch inputs; `volts` are the voltages of SIN0 to SIN31 in mV. -/
def execParkedSinPoll (volts : List Nat) (s : State) : Out :=
  .next <| s.ship <|
    if s.asleep && !s.sys.pollOpen then forEach ((List.range 32).zip volts) (fun p s => s.sinPoll p.1 p.2) s else s

/-- CAN_WAKE_PATTERN (R422, R464, R470): a wake-up pattern whose shortest phase lasts `width` × 0.1 µs. While the module operates,
a port in standby detects it with its own filter time. -/
def execCanWakePattern (p width : Nat) (s : State) : Out :=
  .next <| s.ship <|
    if nCan s.variant ≤ p then s
    else if s.asleep then
      match s.armed 1 p with
      | some r => if r.param ≤ width then s.wakeSource 1 p 1 else s
      | none => s
    else if s.sys.phase == .run && s.fld NM_PORT.WUPF p ≤ width && ((s.cp p).standby || (s.nmRole p != 0 && s.nmSt = 2)) then
      s.nmWakeSeen (s.nmRole p != 0) (s.canCluster p)
    else s

/-- R423: the first four data bytes under WDMASK equal WDATA; bytes that the frame does not have read 0. -/
def State.wakeData (s : State) (p : Nat) (f : CanFrame) : Bool :=
  (wordOf ((f.data ++ [0, 0, 0, 0]).take 4) &&& s.reg ⟨.CAN_WDMASK, p, 0, 0⟩) == s.reg ⟨.CAN_WDATA, p, 0, 0⟩

/-- CAN_WAKE_FRAME (R423): a port that listens in Watch receives a valid frame, or one with a decoding error (`none`). -/
def execCanWakeFrame (p : Nat) (frame : Option CanFrame) (s : State) : Out :=
  .next <| s.ship <|
    match s.armed 2 p with
    | none => s
    | some r =>
      if !s.asleep || s.mode ≠ 2 then s
      else match frame with
        | some f =>
          let s := s.setCp p { s.cp p with wakeErrs := 0 }
          if s.filterHit p f r.param && s.wakeData p f then s.wakeSource 2 p 1 else s
        | none =>
          let k := (s.cp p).wakeErrs + 1
          let s := s.setCp p { s.cp p with wakeErrs := if k = 32 then 0 else k }
          if k = 32 then s.wakeSource 2 p 1 else s

/-- LIN_WAKE_PULSE (R435, R464, R470): a bus dominant for more than 150 µs. -/
def execLinWakePulse (p : Nat) (s : State) : Out :=
  .next <| s.ship <|
    let seg := bitOf (s.fld NM_LIN.SEG) p
    if nLin s.variant ≤ p then s
    else if s.asleep then s.wakeSource 3 p 2
    else if s.sys.phase == .run && ((s.lp p).asleep || (seg && s.nmSt = 2)) then s.nmWakeSeen seg (s.linCluster p)
    else s

/-- ALWAYS_ON_TIMER_WAKE (R69). -/
def execAlwaysOnTimerWake (s : State) : Out := .next <| s.ship <| s.wakeSource 4 0 3

/-- TWOK_I_FALL (R548, R549, R554, R69): TWOK_I has been low for 1 µs: a wake source in Parked and Watch; the confirmation that a
deputy takes over by; and to a driving member the loss of its partner. -/
def execTwokIFall (s : State) : Out :=
  .next <| s.ship <|
    if !s.bit TWN_STAT.TWOKI then s
    else
      let s := s.flag TWN_STAT.TWOKI false
      if s.asleep then s.wakeSource 5 0 6
      else if !s.isPair || s.sys.phase != .run then s
      else if s.isDeputy then { s with twn := { s.twn with confirmed := true } }
      else if s.twn.choosing then s
      else { s.raise 12 1 1 with twn := { s.twn with quiet := true } }

/-! ## The phases of a wake (R70, R71) -/

/-- R59, R584: a tamper in Parked, Watch or a wake from there: Start begins, the outputs on the park latch. -/
def State.tamperStart (s : State) : State := s.clearLogic.startBegin s.mode false

/-- The wake in progress leads to Start (R59). -/
def State.wakesToStart (s : State) : Bool :=
  match s.sys.waking with
  | some w => w.target == 0
  | none => false

/-- WAKE_POWER_UP_DONE (R70, R152): W2 ends: cores and fabric run. A tamper wakes the module into Start (R584), the outputs on
the park latch. -/
def execWakePowerUpDone (s : State) : Out :=
  .next <| s.ship <| match s.sys.phase, s.sys.waking with
    | .w2, some w =>
      if w.target = 0 then s.tamperStart
      else
        let s := (s.coresPower fun _ => true).logicStart
        { s with sys := { s.sys with phase := .w3 } }
    | _, _ => s

/-- RETENTION_CHECK_DONE (R70, R71, R391 to R393): W3 ends once the retained banks are awake, with all memory usable, or the module
starts anew. -/
def execRetentionCheckDone (ok : Bool) (s : State) : Out :=
  .next <| s.ship <|
    if s.sys.phase != .w3 then s
    else if s.wakesToStart then s.tamperStart
    else if !ok then s.retentionFail
    else if !s.banksAsleep.isEmpty then s
    else
      let s := if s.bit MEM_STAT.INIT then s else s.initBanks s.retained
      let s := s.put MEM_STAT.AWAKE (2 ^ nBanks s.variant - 1)
      { s with sys := { s.sys with phase := .w4 } }

/-- WAKE_BOUNDARY (R70, R363, R641): W4 ends with the boundary into the target mode. A deputy that a fall of TWOK_I woke takes over
(R548). -/
def execWakeBoundary (s : State) : Out :=
  .next <| s.ship <| match s.sys.phase, s.sys.waking with
    | .w4, some w =>
      if w.target = 0 then s.tamperStart else
      let m := s.mode
      let s := (s.startTime true).boundary m w.target m .wake
      let s := { s.done ⟨w.target, 6⟩ with sys := { (s.done ⟨w.target, 6⟩).sys with waking := none } }
      if s.mayTakeOver then s.takeoverBy 1 else s
    | _, _ => s

/-! ## Watch polling (R73, R74, R393) -/

/-- POLL_PERIOD_EXPIRY (R73, R151): a poll window opens: fabric and D0 run, and the contexts of Annex 2 that are pinned to D0
resume. -/
def execPollPeriodExpiry (s : State) : Out :=
  .next <| s.ship <|
    if s.sys.phase != .parked || s.mode ≠ 2 || s.fld SYS_WATCH.POLL = 0 || s.sys.pollOpen then s
    else
      let s := { s with sys := { s.sys with pollOpen := true } }.logicStart
      let s := { s with fab := { s.fab with evOn := true } }
      let s := if s.coreSt 0 = 3 then s else s.put DOC_STAT.STATE 1 0
      let run := s.ctxList.filter fun c => s.cst c == stHeld && s.bit CTXC_CFG.EN c && s.fld CTXC_CFG.AFFIN c == 0
      (forEach run (fun c s => s.resumeCtx c) s).schedule

/-- POLL_WINDOW_END (R74): the window closes, unless a request has been accepted. -/
def execPollWindowEnd (s : State) : Out :=
  .next <| s.ship <|
    if !s.sys.pollOpen || s.sys.pend.isSome then s else s.closeWindow true

end Sys2Proof.Machine
end

