-- ==== Sys2Proof/Machine/Twin.lean ====
section
/-! DEFINITION. The twin link and roles: frames received, timers and pins (spec/17 R526 to R559). -/

namespace Sys2Proof.Machine

/-! ## Accepting frames (R541, R542, R546) -/

/-- R541: bytes 0 to 7 + LEN of a frame. -/
def twBytes (f : TwFrame) : List Byte :=
  BitVec.ofNat 8 f.typ :: BitVec.ofNat 8 f.rsv :: (leBytes f.payload.length 2 ++ leBytes f.seq 4 ++ f.payload)

/-- R541, R543: the TAG verifies; a training frame carries one over eight zero bytes. -/
def State.tagOk (s : State) (key : List Byte) (f : TwFrame) : Bool :=
  let session := if f.typ = 10 then List.replicate 8 0 else s.twn.session
  session.length == 8 && f.tag == (aesCmac key (session ++ twBytes f)).take 4

/-- R546: a frame is discarded; the third in a row drops the link and is a tamper. -/
def State.twinDiscard (s : State) : State :=
  let n := s.twn.discards + 1
  let s := { s with twn := { s.twn with discards := n } }.count TWN_LINK.AUTHERR
  let s := s.raise 12 0 2 (satTo n 12)
  if n < 3 then s else s.linkDown.tamper 4 false

/-- R546: the SEQ of a session frame: a gap starts a resynchronisation. -/
def State.twinSeq (s : State) (seq : Nat) : State :=
  let gap := seq ≠ s.twn.rxNext
  let s := { s with twn := { s.twn with rxNext := (seq + 1) % 2 ^ 32 } }
  if gap then (s.raise 12 0 3 0).resync else s

/-- A frame of type `typ` arrives. A member without a link or a pair key takes none; a frame of another type is another command's.
`ok` judges the payload's layout, `k` applies it. -/
def State.twinReceive (s : State) (typ : Nat) (f : TwFrame) (ok : List Byte → Bool) (k : State → State) : State :=
  match s.pairKey with
  | none => s
  | some key =>
    if !s.isPair || s.fld TWN_STAT.LINK = 0 || (f.typ ≠ typ && 1 ≤ f.typ && f.typ ≤ 10) then s
    else if f.typ ≠ typ || f.rsv ≠ 0 || 1024 < f.payload.length || f.payload.length % 4 ≠ 0 || !s.tagOk key f || !ok f.payload then
      s.twinDiscard
    else
      let s := { s with twn := { s.twn with discards := 0 } }
      k (if typ = 10 then s else s.twinSeq f.seq)

/-- The deputy's replica takes what the frame carries. -/
def State.replica (s : State) (k : State → State) : State := if s.twinRest then k s else s

/-! ## Frames that carry deltas -/

/-- TWIN_SUSPENSION_UNIT (R533, R535). -/
def execTwinSuspensionUnit (f : TwFrame) (s : State) : Out :=
  .next <| s.ship <| s.twinReceive 1 f unitOk fun s => s.replica fun s => s.takeUnit f.payload

/-- TWIN_OUTPUT_COMMAND (R533, R536, R540). -/
def execTwinOutputCommand (f : TwFrame) (s : State) : Out :=
  .next <| s.ship <| s.twinReceive 2 f (fun p => !p.isEmpty && (entriesAt 12 p).all outOk) fun s =>
    s.replica fun s => forEach (entriesAt 12 f.payload) (fun e s => s.applyOut e) s

/-- TWIN_PROTECTION_STATE (R532). -/
def execTwinProtectionState (f : TwFrame) (s : State) : Out :=
  .next <| s.ship <| s.twinReceive 3 f (fun p => (entriesAt 16 p).all protOk) fun s =>
    s.replica fun s => forEach (entriesAt 16 f.payload) (fun e s => s.applyProt e) s

/-- TWIN_CAN (R424, R544). -/
def execTwinCan (f : TwFrame) (s : State) : Out :=
  .next <| s.ship <| s.twinReceive 4 f (fun p => !p.isEmpty && (canEntries p.length p).isSome) fun s =>
    s.replica fun s => forEach ((canEntries f.payload.length f.payload).getD []) (fun e s => s.applyCan e) s

/-- TWIN_CONDITION_REPORT (R539): both members take the other's reports. -/
def execTwinConditionReport (f : TwFrame) (s : State) : Out :=
  .next <| s.ship <| s.twinReceive 5 f (fun p => !p.isEmpty && p.length % 8 == 0) fun s =>
    forEach (entriesAt 8 f.payload) (fun e s => s.applyReport e) s

/-! ## Heartbeats (R539, R543 to R545, R555, R556, R558) -/

/-- R539, R544: once every 1 ms, the offset between the time bases. -/
def State.measureOffset (s : State) (p : List Byte) : State :=
  let due := match s.twn.toffAt with
    | none => true
    | some t => t + 100000 ≤ s.tb
  if !due then s
  else
    let tx : Int := fieldAt p 0 8
    let delay := ((s.seen : Int) - fieldAt p 8 8 - fieldAt p 16 4) / 2
    { s with twn := { s.twn with toffAt := some s.tb } }.sput TWN_TOFF.OFFSET (tx + delay - s.seen)

/-- R538, R544: frames up to ACKSEQ are acknowledged; with the end block of a resynchronisation the link is in MIRROR. -/
def State.takeAck (s : State) (ack : Nat) : State :=
  let s := s.put TWN_LAG.MAXLAG (max (s.fld TWN_LAG.MAXLAG) s.lag)
  let s := { s with twn := { s.twn with sent := s.twn.sent.filter fun x => !(decide (x.seq ≤ ack) && decide (ack < 2 ^ 31 + x.seq)) } }
  match s.twn.endSeq with
  | some e =>
    if e ≤ ack && ack < 2 ^ 31 + e then
      ({ s with twn := { s.twn with endSeq := none } }.put TWN_STAT.LINK 3).flag TWN_STAT.STALE false
    else s
  | none => s

/-- R555: a member that waits to choose chooses by the trained link. -/
def State.chooseTrained (s : State) : State :=
  if !s.twn.choosing then s else if s.twn.pRole = some 2 then s.becomeDeputy else s.choosePrincipal true

/-- R543 step 5: training ends: LINK reads RESYNC, and a resynchronisation follows, with which a member that had stopped shipping
(R554) ships again. -/
def State.trained (s : State) : State :=
  let s := ({ s with twn := { s.twn with quiet := false } }.put TWN_STAT.LINK 2).chooseTrained
  if s.twinRest then s.resyncMark else s.startResync

/-- R556: a member that took PRINCIPAL without a trained link yields to an acting partner. -/
def State.judgeRole (s : State) : State :=
  if s.twn.noLink && s.fld TWN_STAT.ROLE = 0 && s.twn.pRole = some 2 then s.yieldRole else s

/-- R544, R538, R556, R558: what a heartbeat says. -/
def State.takeHeartbeat (s : State) (p : List Byte) : State :=
  let s := s.measureOffset p
  let s := { s with twn := { s.twn with hb := some (fieldAt p 0 8, s.seen), pRole := some (fieldAt p 24 1), pMode := fieldAt p 25 1 } }
  let s := s.takeAck (fieldAt p 20 4)
  let s := if s.fld TWN_STAT.LINK = 1 then s.trained else s
  let stale := bitOf (fieldAt p 26 1) 0
  let s := if stale && s.fld TWN_STAT.LINK = 3 && !s.twinRest then s.startResync else s
  let s := s.judgeRole
  if s.twn.failback && s.twn.closing = 2 && s.twn.pRole = some 0 then s.failbackEnd else s

/-- TWIN_HEARTBEAT (R543 to R545). -/
def execTwinHeartbeat (f : TwFrame) (s : State) : Out :=
  .next <| s.ship <| s.twinReceive 6 f
    (fun p => p.length == 28 && fieldAt p 24 1 < 3 && fieldAt p 25 1 < 12 && fieldAt p 26 1 < 4 && zerosAt p 27 1)
    fun s => s.takeHeartbeat f.payload

/-- TWIN_RESYNC_BLOCK (R538). -/
def execTwinResyncBlock (f : TwFrame) (s : State) : Out :=
  .next <| s.ship <| s.twinReceive 7 f blockOk fun s => s.replica fun s => s.applyBlock f.payload

/-! ## Closing frames, role claims, training -/

/-- TWIN_CLOSING (R552, R558): the partner's final protection state. -/
def execTwinClosing (f : TwFrame) (s : State) : Out :=
  .next <| s.ship <| s.twinReceive 8 f
    (fun p => 1 ≤ fieldAt p 0 1 && fieldAt p 0 1 ≤ 2 && zerosAt p 1 3 && (entriesAt 16 (p.drop 4)).all protOk) fun s =>
    s.replica fun s =>
      let s := forEach (entriesAt 16 (f.payload.drop 4)) (fun e s => s.applyProt e) s
      { s with twn := { s.twn with closing := fieldAt f.payload 0 1 } }

/-- R552, R557, R558: a role claim. -/
def State.takeClaim (s : State) (self peer : Nat) : State :=
  let s := { s with twn := { s.twn with pRole := some self } }
  if s.twn.handover then s.becomeDeputy
  else if s.isDeputy then
    if peer = 0 && !s.bit TWN_STAT.STRAP && s.twn.closing = 2 then (s.takeOver false).raise 12 1 3 0 else s
  else if self ≠ 1 && !s.bit TWN_STAT.STRAP && !s.twn.choosing then s.yieldRole
  else s

/-- TWIN_ROLE_CLAIM (R552, R557, R558). -/
def execTwinRoleClaim (f : TwFrame) (s : State) : Out :=
  .next <| s.ship <| s.twinReceive 9 f
    (fun p => p.length == 4 && fieldAt p 0 1 < 3 && fieldAt p 1 1 < 3 && zerosAt p 2 2)
    fun s => s.takeClaim (fieldAt f.payload 0 1) (fieldAt f.payload 1 1)

/-- R543 step 3: the frame is from the partner that the pair image names. -/
def State.partnerFrame (s : State) (p : List Byte) : Bool :=
  let strap := s.bit TWN_STAT.STRAP
  p.length == 28 && zerosAt p 27 1 && fieldAt p 25 1 < 3 && fieldAt p 26 1 < 12 && fieldAt p 24 1 == b2n (!strap) &&
    (p.drop 8).take 16 == (if strap then s.cat.cat.uidP else s.cat.cat.uidD)

/-- R543 step 4, R556: an accepted training frame. -/
def State.takeTraining (s : State) (p : List Byte) : State :=
  let n := wordOf p
  let peer := wordOf (p.drop 4)
  let s := { s with twn := { s.twn with pRole := some (fieldAt p 25 1), pMode := fieldAt p 26 1 } }.judgeRole
  if s.fld TWN_STAT.LINK ≠ 1 then s
  else
    let again := s.twn.peerNonce == n && !s.twn.session.isEmpty
    let s := { s with twn := { s.twn with peerNonce := n } }
    if peer ≠ s.twn.nonce || again then s
    else
      let own := leBytes s.twn.nonce.toNat 4
      let other := leBytes n.toNat 4
      let session := if s.bit TWN_STAT.STRAP then other ++ own else own ++ other
      { s with twn := { s.twn with session := session, txSeq := 0, rxNext := 0, sent := [], endSeq := none } }.heartbeat

/-- TWIN_TRAINING (R543). -/
def execTwinTraining (f : TwFrame) (s : State) : Out :=
  .next <| s.ship <| s.twinReceive 10 f (fun p => s.partnerFrame p && f.seq == 0) fun s => s.takeTraining f.payload

/-! ## Timers of the link (R532, R543, R545) -/

/-- The twin-link island runs: in Start after S7, and in the operating modes. -/
def State.twinUp (s : State) : Bool := s.isPair && (s.sys.phase == .s8 || s.sys.phase == .run) && s.pairKey.isSome

/-- TRAINING_FRAME_SEND (R543, R545): a link that is down trains anew; one that trains sends its frame. -/
def execTrainingFrameSend (s : State) : Out :=
  .next <| s.ship <|
    if !s.twinUp || 2 ≤ s.fld TWN_STAT.LINK then s
    else
      let s := if s.fld TWN_STAT.LINK = 0 then s.trainBegin else s
      { s with twn := { s.twn with train := s.trainFrame } }

/-- HEARTBEAT_SEND (R545, R558). -/
def execHeartbeatSend (s : State) : Out :=
  .next <| s.ship <| if s.twinUp && !s.twn.session.isEmpty then s.failbackStep.heartbeat else s

/-- PROTECTION_SHIP_TICK (R532): every 1 ms. -/
def execProtectionShipTick (s : State) : Out :=
  .next <| s.ship <| if s.ships && !s.twins.isEmpty then s.twinSend 3 s.protAll.flatten else s

/-- LINK_LOST (R545, R547): no valid frame for 10 µs. -/
def execLinkLost (s : State) : Out := .next <| s.ship <| if 2 ≤ s.fld TWN_STAT.LINK then s.linkDown else s

/-- LANE_LOST (R545, R559). -/
def execLaneLost (lane : Nat) (s : State) : Out :=
  .next <| s.ship <|
    if lane < 2 && bitOf (s.fld TWN_STAT.LANES) lane then
      ((s.put TWN_STAT.LANES (s.fld TWN_STAT.LANES - 2 ^ lane)).count TWN_LINK.LANEDROP).raise 12 0 0 lane
    else s

/-- TWIN_LANE_UP (R545). -/
def execTwinLaneUp (lane : Nat) (s : State) : Out :=
  .next <| s.ship <|
    if s.twinUp && lane < 2 then s.put TWN_STAT.LANES (s.fld TWN_STAT.LANES ||| 2 ^ lane) else s

/-! ## Roles (R548 to R558) -/

/-- TAKEOVER_RELEASE (R548 to R551): the deputy, TWOK_I confirmed low, is released from ARMED. -/
def execTakeoverRelease (s : State) : Out :=
  .next <| s.ship <|
    if s.twn.confirmed && s.mayTakeOver then s.takeoverBy (if s.twn.closing = 1 then 2 else 1) else s

/-- HANDOVER_ROLE_TIMER (R552): 100 µs after the drop. -/
def execHandoverRoleTimer (s : State) : Out := .next <| s.ship <| if s.twn.handover then s.becomeDeputy else s

/-- TWSTART_EXPIRY (R555): a waiting strap principal takes PRINCIPAL; a strap deputy whose partner has been silent takes over. -/
def execTwstartExpiry (s : State) : Out :=
  .next <| s.ship <|
    if s.twn.choosing then s.choosePrincipal s.linkUp
    else if s.isPair && s.twn.startLow && s.isDeputy && s.bit TWN_STAT.STRAP && !s.bit TWN_STAT.TWOKI then
      { s with twn := { s.twn with startLow := false } }.takeoverBy 3
    else s

/-- The command of the same name (R558). -/
def execTwnCmdFailback (who : Who) (s : State) : Out := .next <| s.ship <| s.asWho who 17 fun s => s.runTwnCmdFailback who

/-- The command of the same name (R538). -/
def execTwnCmdResync (who : Who) (s : State) : Out := .next <| s.ship <| s.asWho who 17 fun s => s.runTwnCmdResync who

/-- TWOK_I_RISE (R548, R555, R558): the partner's TWOK_O goes high. It is not seen as having been high before this member's own
Start has completed. -/
def execTwokIRise (s : State) : Out :=
  .next <| s.ship <|
    let s := s.flag TWN_STAT.TWOKI true
    { s with twn := { s.twn with seenHigh := s.twn.seenHigh || s.bit TWN_STAT.TWOKO, startLow := false, confirmed := false } }

end Sys2Proof.Machine
end

