-- ==== Sys2Proof/Machine/Dispatch.lean ====
section
/-! DEFINITION. One arm per command: its meaning, or its rejection by name. -/

namespace Sys2Proof.Machine

/-- R59 and the rows of spec/opcode_table.json: the effect of one command on everything but the queue. -/
def exec (i : Instr) (s : State) : Host.Outcome State Fault Refusal :=
  match i with
  | .supplyGood deputyStrap => Sys2Proof.Machine.execSupplyGood deputyStrap s
  | .powerOnReset => Sys2Proof.Machine.execPowerOnReset s
  | .powerIslandReset p => Sys2Proof.Machine.execPowerIslandReset p s
  | .supplyBrownout => Sys2Proof.Machine.execSupplyBrownout s
  | .referenceLoss half => Sys2Proof.Machine.execReferenceLoss half s
  | .logicReset cause => Sys2Proof.Machine.execLogicReset cause s
  | .holdTimerExpiry slot => Sys2Proof.Machine.execHoldTimerExpiry slot s
  | .logicResetRelease => Sys2Proof.Machine.execLogicResetRelease s
  | .startClocksLocked => Sys2Proof.Machine.execStartClocksLocked s
  | .startSupervisorCheckDone failA failB => Sys2Proof.Machine.execStartSupervisorCheckDone failA failB s
  | .s2RetryTimer failA failB => Sys2Proof.Machine.execS2RetryTimer failA failB s
  | .pufAttemptDone ok => Sys2Proof.Machine.execPufAttemptDone ok s
  | .keyDerivationDone => Sys2Proof.Machine.execKeyDerivationDone s
  | .imageReadDone readErr => Sys2Proof.Machine.execImageReadDone readErr s
  | .imageVerifyDone => Sys2Proof.Machine.execImageVerifyDone s
  | .catalogueLoadDone => Sys2Proof.Machine.execCatalogueLoadDone s
  | .startBoundary => Sys2Proof.Machine.execStartBoundary s
  | .modeRequest who code hostToo => Sys2Proof.Machine.execModeRequest who code hostToo s
  | .stagingTimeout => Sys2Proof.Machine.execStagingTimeout s
  | .modeBoundary => Sys2Proof.Machine.execModeBoundary s
  | .staggerStepExpiry k => Sys2Proof.Machine.execStaggerStepExpiry k s
  | .powerDownDone => Sys2Proof.Machine.execPowerDownDone s
  | .sysRstcmd who w => Sys2Proof.Machine.execSysRstcmd who w s
  | .docWdkick c w => Sys2Proof.Machine.execDocWdkick c w s
  | .watchdogExpiry => Sys2Proof.Machine.execWatchdogExpiry s
  | .parkedSinPoll volts => Sys2Proof.Machine.execParkedSinPoll volts s
  | .canWakePattern p width => Sys2Proof.Machine.execCanWakePattern p width s
  | .canWakeFrame p frame => Sys2Proof.Machine.execCanWakeFrame p frame s
  | .linWakePulse p => Sys2Proof.Machine.execLinWakePulse p s
  | .alwaysOnTimerWake => Sys2Proof.Machine.execAlwaysOnTimerWake s
  | .twokIFall => Sys2Proof.Machine.execTwokIFall s
  | .wakePowerUpDone => Sys2Proof.Machine.execWakePowerUpDone s
  | .retentionCheckDone ok => Sys2Proof.Machine.execRetentionCheckDone ok s
  | .wakeBoundary => Sys2Proof.Machine.execWakeBoundary s
  | .pollPeriodExpiry => Sys2Proof.Machine.execPollPeriodExpiry s
  | .pollWindowEnd => Sys2Proof.Machine.execPollWindowEnd s
  | .catWctlOpen => Sys2Proof.Machine.execCatWctlOpen s
  | .slotEraseDone => Sys2Proof.Machine.execSlotEraseDone s
  | .slotWordWrite addr w => Sys2Proof.Machine.execSlotWordWrite addr w s
  | .catWctlClose => Sys2Proof.Machine.execCatWctlClose s
  | .slotCheckDone readErr => Sys2Proof.Machine.execSlotCheckDone readErr s
  | .catWctlCommit => Sys2Proof.Machine.execCatWctlCommit s
  | .slotCommitDone => Sys2Proof.Machine.execSlotCommitDone s
  | .catWctlAbort => Sys2Proof.Machine.execCatWctlAbort s
  | .fabLwr c w => Sys2Proof.Machine.execFabLwr c w s
  | .fabLwrg c g w => Sys2Proof.Machine.execFabLwrg c g w s
  | .puPdWrite c u w => Sys2Proof.Machine.execPuPdWrite c u w s
  | .pulsePeriodEnd u => Sys2Proof.Machine.execPulsePeriodEnd u s
  | .puGateRise u => Sys2Proof.Machine.execPuGateRise u s
  | .lineEdgeEvent r rising => Sys2Proof.Machine.execLineEdgeEvent r rising s
  | .channelCommandChange n => Sys2Proof.Machine.execChannelCommandChange n s
  | .channelShortCut n iMa => Sys2Proof.Machine.execChannelShortCut n iMa s
  | .currentLimitEntry n iMa => Sys2Proof.Machine.execCurrentLimitEntry n iMa s
  | .currentLimitExit n iMa => Sys2Proof.Machine.execCurrentLimitExit n iMa s
  | .tlimExpiry n iMa => Sys2Proof.Machine.execTlimExpiry n iMa s
  | .inrushWindowEnd n iMa => Sys2Proof.Machine.execInrushWindowEnd n iMa s
  | .inrushExtensionEnd n iMa => Sys2Proof.Machine.execInrushExtensionEnd n iMa s
  | .droopDetected n => Sys2Proof.Machine.execDroopDetected n s
  | .wireModelUpdate n p iMa voutMv dt tj => Sys2Proof.Machine.execWireModelUpdate n p iMa voutMv dt tj s
  | .junctionTrip slot met => Sys2Proof.Machine.execJunctionTrip slot met s
  | .deltaTTrip n dt tj => Sys2Proof.Machine.execDeltaTTrip n dt tj s
  | .stuckOn n iMa => Sys2Proof.Machine.execStuckOn n iMa s
  | .clampEventEnd slot mJ => Sys2Proof.Machine.execClampEventEnd slot mJ s
  | .bucketFull slot => Sys2Proof.Machine.execBucketFull slot s
  | .hswLockClear who k w => Sys2Proof.Machine.execHswLockClear who k w s
  | .tretryExpiry slot => Sys2Proof.Machine.execTretryExpiry slot s
  | .tripConditionClear slot => Sys2Proof.Machine.execTripConditionClear slot s
  | .retryCounterReset slot => Sys2Proof.Machine.execRetryCounterReset slot s
  | .hswClrTrip who n => Sys2Proof.Machine.execHswClrTrip who n s
  | .openLoadMeasurement n iMa => Sys2Proof.Machine.execOpenLoadMeasurement n iMa s
  | .bridgeCommandChange b => Sys2Proof.Machine.execBridgeCommandChange b s
  | .reversalBrakeEnd b => Sys2Proof.Machine.execReversalBrakeEnd b s
  | .bridgeCycleLimit b iMa => Sys2Proof.Machine.execBridgeCycleLimit b iMa s
  | .cycleLimitEnd b => Sys2Proof.Machine.execCycleLimitEnd b s
  | .bridgeTlimExpiry b iMa => Sys2Proof.Machine.execBridgeTlimExpiry b iMa s
  | .brakeOvercurrent b iMa => Sys2Proof.Machine.execBrakeOvercurrent b iMa s
  | .bridgeShortCut b sw iMa => Sys2Proof.Machine.execBridgeShortCut b sw iMa s
  | .bridgeOpenLoad b iMa => Sys2Proof.Machine.execBridgeOpenLoad b iMa s
  | .positionCount b tk iMa ampMa inHz dir => Sys2Proof.Machine.execPositionCount b tk iMa ampMa inHz dir s
  | .positionError b cause => Sys2Proof.Machine.execPositionError b cause s
  | .pinchPeriodExceeded b => Sys2Proof.Machine.execPinchPeriodExceeded b s
  | .stallDetected b iMa => Sys2Proof.Machine.execStallDetected b iMa s
  | .tstopbrkExpiry b => Sys2Proof.Machine.execTstopbrkExpiry b s
  | .hbrTgtWrite who b w => Sys2Proof.Machine.execHbrTgtWrite who b w s
  | .hbrPosset who b w => Sys2Proof.Machine.execHbrPosset who b w s
  | .hbrClrTrip who b => Sys2Proof.Machine.execHbrClrTrip who b s
  | .hbrClrStop who b => Sys2Proof.Machine.execHbrClrStop who b s
  | .hbrSflt who b w => Sys2Proof.Machine.execHbrSflt who b w s
  | .valveCommandRise v => Sys2Proof.Machine.execValveCommandRise v s
  | .valveCommandFall v => Sys2Proof.Machine.execValveCommandFall v s
  | .boostStart v tbw => Sys2Proof.Machine.execBoostStart v tbw s
  | .boostEnd v reached iMa => Sys2Proof.Machine.execBoostEnd v reached iMa s
  | .boostWaitLimit v => Sys2Proof.Machine.execBoostWaitLimit v s
  | .decayEnd slot => Sys2Proof.Machine.execDecayEnd slot s
  | .tvminoffExpiry v => Sys2Proof.Machine.execTvminoffExpiry v s
  | .openCoilCheck slot iMa => Sys2Proof.Machine.execOpenCoilCheck slot iMa s
  | .holdCurrentLow slot iMa => Sys2Proof.Machine.execHoldCurrentLow slot iMa s
  | .coilModelUpdate slot vrailMv duty vfMv iMa tj reg => Sys2Proof.Machine.execCoilModelUpdate slot vrailMv duty vfMv iMa tj reg s
  | .bankEmergencyOff k => Sys2Proof.Machine.execBankEmergencyOff k s
  | .bankOpeningEnd k iMax mJ => Sys2Proof.Machine.execBankOpeningEnd k iMax mJ s
  | .bankEnableOn k => Sys2Proof.Machine.execBankEnableOn k s
  | .bankSwitchTrip k sc iMa tj iMax mJ => Sys2Proof.Machine.execBankSwitchTrip k sc iMa tj iMax mJ s
  | .coilShortCut slot high met => Sys2Proof.Machine.execCoilShortCut slot high met s
  | .vlvClrTrip who slot => Sys2Proof.Machine.execVlvClrTrip who slot s
  | .contactorCommandRise c => Sys2Proof.Machine.execContactorCommandRise c s
  | .contactorCommandFall c => Sys2Proof.Machine.execContactorCommandFall c s
  | .pullinEnd c reached iMa => Sys2Proof.Machine.execPullinEnd c reached iMa s
  | .contactorHighSideOpen c iMa mJ => Sys2Proof.Machine.execContactorHighSideOpen c iMa mJ s
  | .auxContactCheck c reason => Sys2Proof.Machine.execAuxContactCheck c reason s
  | .ledLevelWrite who idx w => Sys2Proof.Machine.execLedLevelWrite who idx w s
  | .demandLineChange idx => Sys2Proof.Machine.execDemandLineChange idx s
  | .dimmingDutyWrite idx => Sys2Proof.Machine.execDimmingDutyWrite idx s
  | .shortToGround idx voutMv => Sys2Proof.Machine.execShortToGround idx voutMv s
  | .openStringMeasurement idx iUa voutMv feedMv => Sys2Proof.Machine.execOpenStringMeasurement idx iUa voutMv feedMv s
  | .shortedLedCheck idx voutMv => Sys2Proof.Machine.execShortedLedCheck idx voutMv s
  | .dacFailure idx iUa => Sys2Proof.Machine.execDacFailure idx iUa s
  | .ledClrTrip who idx => Sys2Proof.Machine.execLedClrTrip who idx s
  | .ledClrDacrst who idx => Sys2Proof.Machine.execLedClrDacrst who idx s
  | .dacRetest idx pass => Sys2Proof.Machine.execDacRetest idx pass s
  | .lampGroupUpdate g mv vsMv => Sys2Proof.Machine.execLampGroupUpdate g mv vsMv s
  | .foldbackUpdate ms => Sys2Proof.Machine.execFoldbackUpdate ms s
  | .refreshStart n => Sys2Proof.Machine.execRefreshStart n s
  | .refreshComplete n ret => Sys2Proof.Machine.execRefreshComplete n ret s
  | .chainUnderrun n => Sys2Proof.Machine.execChainUnderrun n s
  | .lchCtlSwap who n => Sys2Proof.Machine.execLchCtlSwap who n s
  | .lchCtlDisc who n => Sys2Proof.Machine.execLchCtlDisc who n s
  | .discoveryDone n found delay => Sys2Proof.Machine.execDiscoveryDone n found delay s
  | .discoveryRetry n => Sys2Proof.Machine.execDiscoveryRetry n s
  | .sinSample g mv => Sys2Proof.Machine.execSinSample g mv s
  | .ainUpdate j mv vsMv => Sys2Proof.Machine.execAinUpdate j mv vsMv s
  | .ainOverRange j => Sys2Proof.Machine.execAinOverRange j s
  | .sensorSupplyOverload u mv => Sys2Proof.Machine.execSensorSupplyOverload u mv s
  | .hallLevelChange h lvl idx => Sys2Proof.Machine.execHallLevelChange h lvl idx s
  | .hallOpenShort h idx => Sys2Proof.Machine.execHallOpenShort h idx s
  | .move d ecc lost => Sys2Proof.Machine.execMove d ecc lost s
  | .aluOperation c port b => Sys2Proof.Machine.execAluOperation c port b s
  | .mulMultiply c port b => Sys2Proof.Machine.execMulMultiply c port b s
  | .mulDivide c port b => Sys2Proof.Machine.execMulDivide c port b s
  | .divideComplete c => Sys2Proof.Machine.execDivideComplete c s
  | .satOperation c port b => Sys2Proof.Machine.execSatOperation c port b s
  | .lsuLoad c port b => Sys2Proof.Machine.execLsuLoad c port b s
  | .loadComplete d ecc coll => Sys2Proof.Machine.execLoadComplete d ecc coll s
  | .lsuStore c port b => Sys2Proof.Machine.execLsuStore c port b s
  | .storeQueueDrain d ecc coll => Sys2Proof.Machine.execStoreQueueDrain d ecc coll s
  | .lsuAtomic c port b => Sys2Proof.Machine.execLsuAtomic c port b s
  | .lsuStatRead c g => Sys2Proof.Machine.execLsuStatRead c g s
  | .strCopy c => Sys2Proof.Machine.execStrCopy c s
  | .strFill c b => Sys2Proof.Machine.execStrFill c b s
  | .strCmp c => Sys2Proof.Machine.execStrCmp c s
  | .strCrc c => Sys2Proof.Machine.execStrCrc c s
  | .strOperationComplete d ecc coll => Sys2Proof.Machine.execStrOperationComplete d ecc coll s
  | .pcJump c port b => Sys2Proof.Machine.execPcJump c port b s
  | .pcCall c port b => Sys2Proof.Machine.execPcCall c port b s
  | .evtWait c b => Sys2Proof.Machine.execEvtWait c b s
  | .evtSend c b => Sys2Proof.Machine.execEvtSend c b s
  | .evtClr c b => Sys2Proof.Machine.execEvtClr c b s
  | .evtYield c => Sys2Proof.Machine.execEvtYield c s
  | .tmrNow c g => Sys2Proof.Machine.execTmrNow c g s
  | .tmrUntil c b => Sys2Proof.Machine.execTmrUntil c b s
  | .tmrAfter c b => Sys2Proof.Machine.execTmrAfter c b s
  | .timedWaitExpiry c => Sys2Proof.Machine.execTimedWaitExpiry c s
  | .tmrAlarm c b => Sys2Proof.Machine.execTmrAlarm c b s
  | .tmrAloff c => Sys2Proof.Machine.execTmrAloff c s
  | .alarmExpiry c => Sys2Proof.Machine.execAlarmExpiry c s
  | .repT c n => Sys2Proof.Machine.execRepT c n s
  | .windowRead c w g => Sys2Proof.Machine.execWindowRead c w g s
  | .windowWrite c w b => Sys2Proof.Machine.execWindowWrite c w b s
  | .windowTimeout d read => Sys2Proof.Machine.execWindowTimeout d read s
  | .shadowPreloadDone d => Sys2Proof.Machine.execShadowPreloadDone d s
  | .budgetExpiry c => Sys2Proof.Machine.execBudgetExpiry c s
  | .quarantineEffect c => Sys2Proof.Machine.execQuarantineEffect c s
  | .ctxCmdRelease who c => Sys2Proof.Machine.execCtxCmdRelease who c s
  | .ctxCmdQuarantine who c => Sys2Proof.Machine.execCtxCmdQuarantine who c s
  | .coreFailure d pll => Sys2Proof.Machine.execCoreFailure d pll s
  | .eccWriteback => Sys2Proof.Machine.execEccWriteback s
  | .scrubRead addr e => Sys2Proof.Machine.execScrubRead addr e s
  | .bankWakeDone b => Sys2Proof.Machine.execBankWakeDone b s
  | .bankInitDone => Sys2Proof.Machine.execBankInitDone s
  | .canFrameReceived n f sof => Sys2Proof.Machine.execCanFrameReceived n f sof s
  | .canRxdRead who n q => Sys2Proof.Machine.execCanRxdRead who n q s
  | .canRxpop who n q w => Sys2Proof.Machine.execCanRxpop who n q w s
  | .canTxBufferWrite who n b idx w => Sys2Proof.Machine.execCanTxBufferWrite who n b idx w s
  | .canTxRequest who n w => Sys2Proof.Machine.execCanTxRequest who n w s
  | .canTxCancel who n w inArb => Sys2Proof.Machine.execCanTxCancel who n w inArb s
  | .canStagingDone n e => Sys2Proof.Machine.execCanStagingDone n e s
  | .canTxChoice n => Sys2Proof.Machine.execCanTxChoice n s
  | .canTxSuccess n sof tdcv => Sys2Proof.Machine.execCanTxSuccess n sof tdcv s
  | .canTxError n e tdcv => Sys2Proof.Machine.execCanTxError n e tdcv s
  | .canRxError n e => Sys2Proof.Machine.execCanRxError n e s
  | .busOffRecoveryDone n => Sys2Proof.Machine.execBusOffRecoveryDone n s
  | .canCmdRecover who n => Sys2Proof.Machine.execCanCmdRecover who n s
  | .canCmdClrlonely who n => Sys2Proof.Machine.execCanCmdClrlonely who n s
  | .canIntegrationDone n => Sys2Proof.Machine.execCanIntegrationDone n s
  | .txdDominantTimeout n own => Sys2Proof.Machine.execTxdDominantTimeout n own s
  | .gatewayBufferLoad n => Sys2Proof.Machine.execGatewayBufferLoad n s
  | .linSlotStart n => Sys2Proof.Machine.execLinSlotStart n s
  | .linResponseReceived n data chk err coll => Sys2Proof.Machine.execLinResponseReceived n data chk err coll s
  | .linResponseTimeout n any coll => Sys2Proof.Machine.execLinResponseTimeout n any coll s
  | .linBusDominant n => Sys2Proof.Machine.execLinBusDominant n s
  | .linSchedWrite who n w => Sys2Proof.Machine.execLinSchedWrite who n w s
  | .linCmdWake who n => Sys2Proof.Machine.execLinCmdWake who n s
  | .linDataWrite who n k idx w => Sys2Proof.Machine.execLinDataWrite who n k idx w s
  | .linDataRead who n k idx => Sys2Proof.Machine.execLinDataRead who n k idx s
  | .linScheduleResume n => Sys2Proof.Machine.execLinScheduleResume n s
  | .ethFrameReceived p f full => Sys2Proof.Machine.execEthFrameReceived p f full s
  | .ethLinkChange p failed => Sys2Proof.Machine.execEthLinkChange p failed s
  | .plcaBeaconLost p => Sys2Proof.Machine.execPlcaBeaconLost p s
  | .syncMessageReceived p offset => Sys2Proof.Machine.execSyncMessageReceived p offset s
  | .syncLost => Sys2Proof.Machine.execSyncLost s
  | .talkerPduSend st full => Sys2Proof.Machine.execTalkerPduSend st full s
  | .listenerPduReceived p st pdu => Sys2Proof.Machine.execListenerPduReceived p st pdu s
  | .nmFrameReceived n f sof => Sys2Proof.Machine.execNmFrameReceived n f sof s
  | .nmCycle => Sys2Proof.Machine.execNmCycle s
  | .sleepPendingEntry => Sys2Proof.Machine.execSleepPendingEntry s
  | .tpendExpiry => Sys2Proof.Machine.execTpendExpiry s
  | .nmBusIdle => Sys2Proof.Machine.execNmBusIdle s
  | .nmStandbyDone => Sys2Proof.Machine.execNmStandbyDone s
  | .nmCmdWake who => Sys2Proof.Machine.execNmCmdWake who s
  | .nmCtlWrite who w => Sys2Proof.Machine.execNmCtlWrite who w s
  | .nmLocalWakeLine => Sys2Proof.Machine.execNmLocalWakeLine s
  | .nmWakeFromSleep => Sys2Proof.Machine.execNmWakeFromSleep s
  | .pnClusterTimeout k frame => Sys2Proof.Machine.execPnClusterTimeout k frame s
  | .clusterActivationTimeout n => Sys2Proof.Machine.execClusterActivationTimeout n s
  | .mainUndervoltage mv => Sys2Proof.Machine.execMainUndervoltage mv s
  | .mainRecovery mv => Sys2Proof.Machine.execMainRecovery mv s
  | .backupUndervoltage low mv => Sys2Proof.Machine.execBackupUndervoltage low mv s
  | .supplyOvervoltage backup mv => Sys2Proof.Machine.execSupplyOvervoltage backup mv s
  | .reverseCurrent peakMa => Sys2Proof.Machine.execReverseCurrent peakMa s
  | .transferBackupOn => Sys2Proof.Machine.execTransferBackupOn s
  | .transferMainOpen vminMv => Sys2Proof.Machine.execTransferMainOpen vminMv s
  | .pwrPrcmdForce who => Sys2Proof.Machine.execPwrPrcmdForce who s
  | .pwrPrcmdReturn who => Sys2Proof.Machine.execPwrPrcmdReturn who s
  | .tretExpiry => Sys2Proof.Machine.execTretExpiry s
  | .railReturnDone railMv => Sys2Proof.Machine.execRailReturnDone railMv s
  | .baseplateHot tb => Sys2Proof.Machine.execBaseplateHot tb s
  | .faultReport n => Sys2Proof.Machine.execFaultReport n s
  | .reactionSequenceEnd g => Sys2Proof.Machine.execReactionSequenceEnd g s
  | .shadowWindowEnd g => Sys2Proof.Machine.execShadowWindowEnd g s
  | .sourceActivityExpiry src => Sys2Proof.Machine.execSourceActivityExpiry src s
  | .logWrite => Sys2Proof.Machine.execLogWrite s
  | .logBufferFlush => Sys2Proof.Machine.execLogBufferFlush s
  | .fltRgcmdRelease who g => Sys2Proof.Machine.execFltRgcmdRelease who g s
  | .groupAutoRelease g => Sys2Proof.Machine.execGroupAutoRelease g s
  | .fltAttnAck mask => Sys2Proof.Machine.execFltAttnAck mask s
  | .fltCmdClrlog who => Sys2Proof.Machine.execFltCmdClrlog who s
  | .fltCmdClrlost => Sys2Proof.Machine.execFltCmdClrlost s
  | .fltInjLive who src tinj => Sys2Proof.Machine.execFltInjLive who src tinj s
  | .fltInjDry who src tinj => Sys2Proof.Machine.execFltInjDry who src tinj s
  | .fltInjEnd => Sys2Proof.Machine.execFltInjEnd s
  | .injectionExpiry => Sys2Proof.Machine.execInjectionExpiry s
  | .digestExchange sentA sentB decA decB => Sys2Proof.Machine.execDigestExchange sentA sentB decA decB s
  | .bothHalvesLost => Sys2Proof.Machine.execBothHalvesLost s
  | .selfTestCycle half failed => Sys2Proof.Machine.execSelfTestCycle half failed s
  | .tstCmdSelfTestA who => Sys2Proof.Machine.execTstCmdSelfTestA who s
  | .tstCmdSelfTestB who => Sys2Proof.Machine.execTstCmdSelfTestB who s
  | .tstCmdCompareTest who => Sys2Proof.Machine.execTstCmdCompareTest who s
  | .tstCmdForcePathTest who g => Sys2Proof.Machine.execTstCmdForcePathTest who g s
  | .testComplete failed => Sys2Proof.Machine.execTestComplete failed s
  | .takeoverRelease => Sys2Proof.Machine.execTakeoverRelease s
  | .handoverRoleTimer => Sys2Proof.Machine.execHandoverRoleTimer s
  | .twstartExpiry => Sys2Proof.Machine.execTwstartExpiry s
  | .twinSuspensionUnit f => Sys2Proof.Machine.execTwinSuspensionUnit f s
  | .twinOutputCommand f => Sys2Proof.Machine.execTwinOutputCommand f s
  | .twinProtectionState f => Sys2Proof.Machine.execTwinProtectionState f s
  | .twinCan f => Sys2Proof.Machine.execTwinCan f s
  | .twinConditionReport f => Sys2Proof.Machine.execTwinConditionReport f s
  | .twinHeartbeat f => Sys2Proof.Machine.execTwinHeartbeat f s
  | .twinResyncBlock f => Sys2Proof.Machine.execTwinResyncBlock f s
  | .twinClosing f => Sys2Proof.Machine.execTwinClosing f s
  | .twinRoleClaim f => Sys2Proof.Machine.execTwinRoleClaim f s
  | .twinTraining f => Sys2Proof.Machine.execTwinTraining f s
  | .trainingFrameSend => Sys2Proof.Machine.execTrainingFrameSend s
  | .heartbeatSend => Sys2Proof.Machine.execHeartbeatSend s
  | .protectionShipTick => Sys2Proof.Machine.execProtectionShipTick s
  | .linkLost => Sys2Proof.Machine.execLinkLost s
  | .laneLost lane => Sys2Proof.Machine.execLaneLost lane s
  | .twnCmdFailback who => Sys2Proof.Machine.execTwnCmdFailback who s
  | .twnCmdResync who => Sys2Proof.Machine.execTwnCmdResync who s
  | .keyCmdApply who => Sys2Proof.Machine.execKeyCmdApply who s
  | .keyCmdPlainwr who slot flags => Sys2Proof.Machine.execKeyCmdPlainwr who slot flags s
  | .keyCmdImgkey who idx => Sys2Proof.Machine.execKeyCmdImgkey who idx s
  | .keyCmdSvcchal who => Sys2Proof.Machine.execKeyCmdSvcchal who s
  | .keyCmdSvcauth who => Sys2Proof.Machine.execKeyCmdSvcauth who s
  | .keyCmdClrcache who => Sys2Proof.Machine.execKeyCmdClrcache who s
  | .keyCommitDone => Sys2Proof.Machine.execKeyCommitDone s
  | .svcokExpiry => Sys2Proof.Machine.execSvcokExpiry s
  | .svcLockoutExpiry => Sys2Proof.Machine.execSvcLockoutExpiry s
  | .keyOpgo who addr => Sys2Proof.Machine.execKeyOpgo who addr s
  | .keyOperationDone => Sys2Proof.Machine.execKeyOperationDone s
  | .keyTcfgWrite w => Sys2Proof.Machine.execKeyTcfgWrite w s
  | .tamperEvent src => Sys2Proof.Machine.execTamperEvent src s
  | .debugRequest ident => Sys2Proof.Machine.execDebugRequest ident s
  | .hostNop f => Sys2Proof.Machine.execHostNop f s
  | .hostRead f => Sys2Proof.Machine.execHostRead f s
  | .hostWrite f => Sys2Proof.Machine.execHostWrite f s
  | .hostReads f => Sys2Proof.Machine.execHostReads f s
  | .hostWrites f => Sys2Proof.Machine.execHostWrites f s
  | .hostReservedCommand f => Sys2Proof.Machine.execHostReservedCommand f s
  | .hostFrameAbort => Sys2Proof.Machine.execHostFrameAbort s
  | .registerWrite who addr w => Sys2Proof.Machine.execRegisterWrite who addr w s
  | .mgmtRequest dgram late coll ecc => Sys2Proof.Machine.execMgmtRequest dgram late coll ecc s
  | .calValWrite r w => Sys2Proof.Machine.execCalValWrite r w s
  | .calCommitDone r => Sys2Proof.Machine.execCalCommitDone r s
  | .crossingTimeout src dst block => Sys2Proof.Machine.execCrossingTimeout src dst block s
  | .bridgeLimitExit b => Sys2Proof.Machine.execBridgeLimitExit b s
  | .txdRecessiveReturn n => Sys2Proof.Machine.execTxdRecessiveReturn n s
  | .ethLinkUp p sqi => Sys2Proof.Machine.execEthLinkUp p sqi s
  | .plcaBeaconReturn p => Sys2Proof.Machine.execPlcaBeaconReturn p s
  | .overvoltageClear backup mv => Sys2Proof.Machine.execOvervoltageClear backup mv s
  | .tbhotClear tb => Sys2Proof.Machine.execTbhotClear tb s
  | .twokIRise => Sys2Proof.Machine.execTwokIRise s
  | .twinLaneUp lane => Sys2Proof.Machine.execTwinLaneUp lane s
  | .stuckOnClear n => Sys2Proof.Machine.execStuckOnClear n s
  | .windowQueueDrain d => Sys2Proof.Machine.execWindowQueueDrain d s
  | .sensorSupplyRecovery u => Sys2Proof.Machine.execSensorSupplyRecovery u s

end Sys2Proof.Machine
end

