-- ==== Sys2Proof/Machine/Tick.lean ====
section
/-! DEFINITION. What the clock alone does. -/

namespace Sys2Proof.Machine

/-- R639: the time base counts 10 ns steps from the end of a power-on reset. -/
def State.countTime (s : State) : State := { s with tb := s.tb + 1 }

/-- R122, R134, R283: one clock edge of a fabric that runs; LED channels bound to a unit that wraps on it take their levels, and all
follow their lines. -/
def State.ledEdge (s : State) : State :=
  let us := if s.sys.fabricUp then s.puIds.filter s.puWraps else []
  let s := forEach us (fun u s => s.ledTakes u) s.fabricEdge
  if s.sys.fabricUp then s.ledSync else s

/-- One 10 ns edge with no command waiting (DESIGN CHOICE, notes/assumptions/8.md): the time base counts, a fabric that runs has one
clock edge (R122, R134, R145), ripple that stops loses its validity (R222), and each Ethernet port with a link sends one queued
frame (R437). -/
def State.tick (s : State) : State := s.ship s.countTime.ledEdge.ripExpire.ethTick

end Sys2Proof.Machine
end

