-- ==== Sys2Proof/Safety.lean ====
section
/-! DEFINITION. The terms that statements about the block use: what a transition may have changed, and what every state that
a step reaches keeps. -/

namespace Sys2Proof.Machine

/-- The parts of the state beside the registers, the queue, the variant and the count of free values. -/
inductive Part where
  | mem | tb | sys | outs | cat | fab | doc | memx | flt | trips | buckets | hsw | hbr | coil | bank | led
  | fold | lch | inp | rdata | can | lin | eth | nm | pwr | twn | key | cal | spi | mgmt | mgmtTag
deriving DecidableEq, Repr

/-- A part is as it was; the memory byte by byte. -/
def Part.same (p : Part) (s t : State) : Prop :=
  match p with
  | .mem => ∀ a, t.byte a = s.byte a
  | .tb => t.tb = s.tb
  | .sys => t.sys = s.sys
  | .outs => t.outs = s.outs
  | .cat => t.cat = s.cat
  | .fab => t.fab = s.fab
  | .doc => t.doc = s.doc
  | .memx => t.memx = s.memx
  | .flt => t.flt = s.flt
  | .trips => t.trips = s.trips
  | .buckets => t.buckets = s.buckets
  | .hsw => t.hsw = s.hsw
  | .hbr => t.hbr = s.hbr
  | .coil => t.coil = s.coil
  | .bank => t.bank = s.bank
  | .led => t.led = s.led
  | .fold => t.fold = s.fold
  | .lch => t.lch = s.lch
  | .inp => t.inp = s.inp
  | .rdata => t.rdata = s.rdata
  | .can => t.can = s.can
  | .lin => t.lin = s.lin
  | .eth => t.eth = s.eth
  | .nm => t.nm = s.nm
  | .pwr => t.pwr = s.pwr
  | .twn => t.twn = s.twn
  | .key => t.key = s.key
  | .cal => t.cal = s.cal
  | .spi => t.spi = s.spi
  | .mgmt => t.mgmt = s.mgmt
  | .mgmtTag => t.mgmtTag = s.mgmtTag

/-- From `s` to `t` nothing has changed but the registers named and the parts named: every other register at every index, every
other part of the state, the queue and the variant are as they were. The count of free values, which is the model's own, may
have advanced. -/
def Changes (rs : List Reg) (ps : List Part) (s t : State) : Prop :=
  (∀ r : RegRef, r.reg ∉ rs → t.reg r = s.reg r) ∧ (∀ p : Part, p ∉ ps → p.same s t) ∧ t.pending = s.pending ∧
    t.variant = s.variant

/-- The memory is in its canonical form: rising addresses, no byte listed that an unlisted address reads as. -/
def State.Inv (s : State) : Prop := Memory.wf s.mem = true

/-- Core `d` runs context `c`, and nothing stands in the way of the context's next word: no quarantine is asked for, no result is
spoilt, no repeat, no division, no posted window write, and no memory or string operation is in flight. -/
def State.freeToIssue (s : State) (c d : Nat) : Bool :=
  s.coreOf c == some d && (s.ctx c).qpend == none && (s.ctx c).poison == 0 && (s.ctx c).div == none && !(s.rcd c).repActive &&
    (s.core d).winq.isEmpty && s.coreList.all fun e => (s.core e).memq.isEmpty && (s.core e).strq.isEmpty

/-- The frame of type `typ` that this session's partner sends with sequence number `seq` (R541, R543): byte 1 is zero, and the TAG
is the one that the pair key makes. -/
def State.genuine (s : State) (typ seq : Nat) (payload : List Byte) : TwFrame :=
  let f : TwFrame := ⟨typ, 0, seq, payload, []⟩
  let session := if typ = 10 then List.replicate 8 0 else s.twn.session
  { f with tag := (aesCmac (s.pairKey.getD []) (session ++ twBytes f)).take 4 }

/-- The datagram of a management request (R604): its words and the TAG that the management key makes. -/
def State.datagram (s : State) (ws : List Word) : List Byte :=
  ws.flatMap (fun w => leBytes w.toNat 4) ++ aesCmac (s.mgmtKey.getD []) (ws.flatMap fun w => leBytes w.toNat 4)

end Sys2Proof.Machine
end

