-- ==== Sys2Proof/Certificates/Slice0/Obligations.lean ====
section
/-! DEFINITION. The statements for the provers, one proposition each. Every clause of a statement about commands concludes that the
command answers a next state, and says what that state holds. -/

set_option maxRecDepth 4000

open Sys2Proof Sys2Proof.Machine

/-- A step carries out the command at the front of the queue. With command c in front, a step is exec of c on the state whose
queue is the rest. With no command waiting a step is one clock edge (the model's choice, log entry 8): the time base counts
one, the queue stays empty and the memory is unchanged. (01_islands_and_flow.md, 04_line_fabric.md) -/
def Obligations.StepTakesFront : Prop :=
  ∀ s : State,
    (∀ c cs, s.pending = c :: cs → step s = exec c { s with pending := cs }) ∧
    (s.pending = [] → step s = .next s.tick ∧ s.tick.tb = s.tb + 1 ∧ s.tick.pending = [] ∧ s.tick.mem = s.mem)

/-- What the reset state holds. Queue empty, memory canonical and with nothing listed, phase unpowered; mode code 0 with BUSY,
POR, the part number, the line count, the full LED and lamp-group factors (256), STALE, POL2, RDLY 2 and 4 spares read their
reset values; every field that the Catalogue gives reads 0. The part (NZ-9640) is the model's choice (log entry 1).
(02_modes_start_hold.md, 19_host_port_calibration.md) -/
def Obligations.ResetState : Prop :=
  State.reset.pending = [] ∧ State.reset.Inv ∧ State.reset.sys.phase = .unpowered ∧
  State.reset.fld SYS_MODE.MODE = 0 ∧ State.reset.bit SYS_MODE.BUSY = true ∧ State.reset.bit SYS_RSTCAUSE.POR = true ∧
  State.reset.fld SYS_ID.PART = 0x9640 ∧ State.reset.fld FAB_STAT.LINES = 512 ∧ State.reset.fld LED_PSTAT.FF = 256 ∧
  State.reset.bit TWN_STAT.STALE = true ∧ State.reset.bit KEY_TCFG.POL2 = true ∧ State.reset.fld HST_CFG.RDLY = 2 ∧
  State.reset.fld MEM_REPAIR.SPARES = 4 ∧ (∀ g, g < 4 → State.reset.fld LG_STAT.F g = 256) ∧
  (∀ a, State.reset.byte a = unlisted a) ∧
  (∀ r : RegRef, r.reg.fromCat = true → State.reset.readView r &&& r.reg.givenMask = 0)

/-- Every step keeps the memory in its canonical form. From every state whose memory is canonical (addresses rising, no byte
listed that an unlisted address reads as), a step that answers a next state answers one whose memory is canonical.
(11_contexts_memory.md, 20_address_map.md) -/
def Obligations.MemoryKeepsForm : Prop :=
  ∀ s t : State, s.Inv → step s = .next t → t.Inv

/-- Move-code words decode to the moves they encode, both ways. For every long move that its fields can hold, and every pair of
short moves, decoding the encoded word gives the moves back with no reserved bit set; and every word that decodes with no
reserved bit set is the encoding of the moves it decodes to. (10_rarek_move_code.md) -/
def Obligations.RarekRoundTrip : Prop :=
  (∀ m : Move, m.longOk = true → decodeMoves (encodeLong m) = ([m], true)) ∧
  (∀ a b : Move, a.shortOk = true → b.shortOk = true → decodeMoves (encodePair a b) = ([a, b], true)) ∧
  (∀ w : Word, (decodeMoves w).2 = true →
    (∃ m : Move, m.longOk = true ∧ decodeMoves w = ([m], true) ∧ encodeLong m = w) ∨
    (∃ a b : Move, a.shortOk = true ∧ b.shortOk = true ∧ decodeMoves w = ([a, b], true) ∧ encodePair a b = w))

/-- The register map and its decoder agree. Every register at every index its array has decodes from its own address, which lies
in the register blocks and is a multiple of 4; and whatever an address decodes to lies at that address with indices its
array has. (20_address_map.md) -/
def Obligations.RegisterMap : Prop :=
  (∀ r : RegRef, r.placed = true → decodeReg r.addr = some r ∧ r.addr < 0x170000 ∧ r.addr % 4 = 0) ∧
  (∀ (a : Nat) (r : RegRef), decodeReg a = some r → r.addr = a ∧ r.placed = true)

/-- Key slots and image keys change only by a commit. Every command answers a next state in which the key slots and the image
keys are as they were, unless it is KEY_COMMIT_DONE with a write in progress. (18_provenance_keys.md) -/
def Obligations.KeyStoreCommits : Prop :=
  ∀ (c : Instr) (s : State), ∃ t, exec c s = .next t ∧
    ((t.key.slots = s.key.slots ∧ t.key.img = s.key.img) ∨
    (c = .keyCommitDone ∧ ∃ w, s.key.work = some w))

/-- CATLOCK is never cleared. From every state with CATLOCK set, a step that answers a next state leaves it set, resets
included. (18_provenance_keys.md) -/
def Obligations.CatalogueLockStays : Prop :=
  ∀ s t : State, s.bit KEY_STAT.CATLOCK = true → step s = .next t → t.bit KEY_STAT.CATLOCK = true

/-- Hold and the unpowered state are left by their events only. Every command answers a next state; where it ends Hold, it is
LOGIC_RESET_RELEASE or POWER_ON_RESET, and where it ends the unpowered state, it is SUPPLY_GOOD. (02_modes_start_hold.md) -/
def Obligations.HoldIsLeft : Prop :=
  ∀ (c : Instr) (s : State), ∃ t, exec c s = .next t ∧
    (s.sys.phase = .hold → t.sys.phase ≠ .hold → c = .logicResetRelease ∨ c = .powerOnReset) ∧
    (s.sys.phase = .unpowered → t.sys.phase ≠ .unpowered → ∃ d, c = .supplyGood d)

/-- The time base never runs back but for a power cycle. Every command answers a next state. One other than POWER_ON_RESET and
SUPPLY_GOOD leaves the time base at least as high as it was. Only those two, the commands with which the fabric starts
(which reload the time base), PULSE_PERIOD_END and the two expiries that name a time change it: that these four assert the
passing of time is the model's choice (log entry 6). (01_islands_and_flow.md) -/
def Obligations.TimeBase : Prop :=
  ∀ (c : Instr) (s : State), ∃ t, exec c s = .next t ∧
    (c ≠ .powerOnReset → (∀ d, c ≠ .supplyGood d) → s.tb ≤ t.tb) ∧
    (t.tb ≠ s.tb → c = .powerOnReset ∨ (∃ d, c = .supplyGood d) ∨ c = .catalogueLoadDone ∨ c = .wakePowerUpDone ∨
      c = .pollPeriodExpiry ∨ (∃ u, c = .pulsePeriodEnd u) ∨ (∃ x, c = .alarmExpiry x) ∨ ∃ x, c = .timedWaitExpiry x)

/-- Every command answers a next state and leaves queue and variant alone. Whatever the command and the state, it answers a next
state in which the waiting commands and the module's variant are as they were (the queue is the model's own). (00_scope.md) -/
def Obligations.QueueUntouched : Prop :=
  ∀ (c : Instr) (s : State), ∃ t, exec c s = .next t ∧ t.pending = s.pending ∧ t.variant = s.variant

/-- Commands that store write no byte but their own. Store drains, load and atomic completions, string completions, log writes,
log flushes, CLRLOG, slot words, slot erasure and bank initialisation answer a next state in which every byte outside the
bytes they are for is as it was. (03_catalogue.md, 10_rarek_move_code.md, 11_contexts_memory.md, 16_conservator_faults.md) -/
def Obligations.MemoryFrames : Prop :=
  (∀ (s : State) (d x y : Nat) (o : MemOp) (os : List MemOp), (s.core d).memq = o :: os → o.kind = .store →
    ∃ t, exec (.storeQueueDrain d x y) s = .next t ∧ ∀ a, (a < o.addr ∨ o.addr + o.size ≤ a) → t.byte a = s.byte a) ∧
  (∀ (s : State) (d x y : Nat) (o : MemOp) (os : List MemOp), (s.core d).memq = o :: os →
    ∃ t, exec (.loadComplete d x y) s = .next t ∧ ∀ a, (a < o.addr ∨ o.addr + 4 ≤ a) → t.byte a = s.byte a) ∧
  (∀ (s : State) (d : Nat) (x y : StrSides) (o : StrOp) (os : List StrOp), (s.core d).strq = o :: os →
    ∃ t, exec (.strOperationComplete d x y) s = .next t ∧ ∀ a, (a < o.dst ∨ o.dst + 4 ≤ a) → t.byte a = s.byte a) ∧
  (∀ s : State, ∃ t, exec .logWrite s = .next t ∧
    ∀ a, (a < 0x600000 + 8 * (s.fld FLT_LOGCNT.CNT % 512) ∨ 0x600008 + 8 * (s.fld FLT_LOGCNT.CNT % 512) ≤ a) →
      t.byte a = s.byte a) ∧
  (∀ s : State, ∃ t, exec .logBufferFlush s = .next t ∧ ∀ a, (a < 0x600000 ∨ 0x601000 ≤ a) → t.byte a = s.byte a) ∧
  (∀ (s : State) (w : Who), ∃ t, exec (.fltCmdClrlog w) s = .next t ∧
    ∀ a, (a < 0x600000 ∨ 0x601000 ≤ a) → t.byte a = s.byte a) ∧
  (∀ (s : State) (x : Nat) (w : Word), ∃ t, exec (.slotWordWrite x w) s = .next t ∧
    ∀ a, (a < x ∨ x + 4 ≤ a) → t.byte a = s.byte a) ∧
  (∀ s : State, ∃ t, exec .slotEraseDone s = .next t ∧
    ∀ a, (a < slotBase s.writeSlot ∨ slotBase s.writeSlot + 0x400000 ≤ a) → t.byte a = s.byte a) ∧
  (∀ s : State, ∃ t, exec .bankInitDone s = .next t ∧
    ∀ a, (a < 0x200000 ∨ (0x280000 ≤ a ∧ a < 0x300000) ∨ 0x308000 ≤ a) → t.byte a = s.byte a)

/-- Supply, Start, mode, wake and transfer commands: what they leave unchanged. From every state and with all operands each
command answers a next state in which every register but those named, at every index, and every part of the state but those
named are as they were, every byte of memory among them where the memory is not named; the queue and the variant are as they
were. The registers named are those that the spec lets the command write, directly or through the turn-off, trip, recovery,
fault report and reaction that its rules attach to it. (01_islands_and_flow.md, 02_modes_start_hold.md,
15_supplies_thermal.md) -/
def Obligations.SupplyAndModeFrames : Prop :=
  (∀ s deputyStrap, ∃ t, exec (.supplyGood deputyStrap) s = .next t ∧ Changes [.SYS_MODE, .SYS_START, .TWN_STAT] [.tb, .sys,
      .twn] s t) ∧
  (∀ s slot, ∃ t, exec (.holdTimerExpiry slot) s = .next t ∧ Changes [.SYS_RSTCAUSE, .HSW_STAT, .HBR_STAT, .HBR_POS,
      .VLV_STAT, .VHS_STAT, .CTD_STAT, .LED_STAT, .LED_EFF, .FLT_STAT] [.sys, .outs, .flt, .trips, .hsw, .hbr, .coil, .bank,
      .led, .twn] s t) ∧
  (∀ s, ∃ t, exec .logicResetRelease s = .next t ∧ Changes [.SYS_MODE, .SYS_START] [.sys, .twn] s t) ∧
  (∀ s, ∃ t, exec .startClocksLocked s = .next t ∧ Changes [.SYS_START] [.sys, .twn] s t) ∧
  (∀ s failA failB, ∃ t, exec (.startSupervisorCheckDone failA failB) s = .next t ∧ Changes [.SYS_START, .FLT_STAT,
      .FLT_RGSTAT, .TST_STAT] [.sys, .flt, .twn] s t) ∧
  (∀ s failA failB, ∃ t, exec (.s2RetryTimer failA failB) s = .next t ∧ Changes [.SYS_START, .FLT_STAT, .FLT_RGSTAT,
      .TST_STAT] [.sys, .flt, .twn] s t) ∧
  (∀ s, ∃ t, exec .keyDerivationDone s = .next t ∧ Changes [.SYS_START, .CAT_STAT, .TWN_STAT, .KEY_STAT] [.sys, .flt, .twn,
      .key] s t) ∧
  (∀ s who code hostToo, ∃ t, exec (.modeRequest who code hostToo) s = .next t ∧ Changes [.SYS_MODE, .SYS_MODERES] [.sys,
      .doc, .twn, .spi] s t) ∧
  (∀ s, ∃ t, exec .stagingTimeout s = .next t ∧ Changes [.SYS_MODE, .SYS_MODERES] [.sys, .flt, .twn] s t) ∧
  (∀ s mv, ∃ t, exec (.mainUndervoltage mv) s = .next t ∧ Changes [.PU_PD, .PU_STAT, .HSW_STAT, .HBR_STAT, .HBR_POS,
      .VHS_STAT, .CTD_STAT, .DOC_STAT, .CTX_STAT, .CTX_LASTQ, .CTXC_STAT, .CAN_QSTAT, .PWR_STAT, .PWR_MEAS] [.fab, .doc,
      .flt, .hsw, .hbr, .coil, .can, .nm, .pwr, .twn] s t) ∧
  (∀ s low mv, ∃ t, exec (.backupUndervoltage low mv) s = .next t ∧ Changes [.HSW_STAT, .HBR_STAT, .HBR_POS, .VHS_STAT,
      .CTD_STAT, .PWR_STAT, .PWR_MEAS, .FLT_STAT] [.flt, .hsw, .hbr, .coil, .pwr, .twn] s t) ∧
  (∀ s backup mv, ∃ t, exec (.supplyOvervoltage backup mv) s = .next t ∧ Changes [.HSW_STAT, .HBR_STAT, .HBR_POS, .VHS_STAT,
      .CTD_STAT, .PWR_STAT, .PWR_MEAS] [.flt, .hsw, .hbr, .coil, .pwr, .twn] s t) ∧
  (∀ s peakMa, ∃ t, exec (.reverseCurrent peakMa) s = .next t ∧ Changes [.PWR_STAT] [.flt, .pwr, .twn] s t) ∧
  (∀ s, ∃ t, exec .transferBackupOn s = .next t ∧ Changes [] [.pwr, .twn] s t) ∧
  (∀ s vminMv, ∃ t, exec (.transferMainOpen vminMv) s = .next t ∧ Changes [.PU_PD, .PU_STAT, .DOC_STAT, .CTX_STAT,
      .CTX_LASTQ, .CTXC_STAT, .CAN_QSTAT, .PWR_STAT, .PWR_MEAS2, .PWR_XFER] [.fab, .doc, .flt, .can, .nm, .pwr, .twn] s t) ∧
  (∀ s who, ∃ t, exec (.pwrPrcmdForce who) s = .next t ∧ Changes [.PWR_STAT] [.doc, .flt, .pwr, .twn, .spi] s t) ∧
  (∀ s who, ∃ t, exec (.pwrPrcmdReturn who) s = .next t ∧ Changes [.PWR_STAT] [.doc, .pwr, .twn, .spi] s t) ∧
  (∀ s, ∃ t, exec .tretExpiry s = .next t ∧ Changes [.PWR_STAT] [.pwr, .twn] s t) ∧
  (∀ s railMv, ∃ t, exec (.railReturnDone railMv) s = .next t ∧ Changes [.PU_PD, .PU_STAT, .DOC_STAT, .CTX_STAT, .CTX_LASTQ,
      .CTXC_STAT, .CAN_QSTAT, .PWR_STAT, .PWR_MEAS2] [.fab, .doc, .flt, .can, .nm, .pwr, .twn] s t) ∧
  (∀ s tb, ∃ t, exec (.baseplateHot tb) s = .next t ∧ Changes [.PU_PD, .PU_STAT, .DOC_STAT, .CTX_STAT, .CTX_LASTQ,
      .CTXC_STAT, .CAN_QSTAT, .PWR_STAT, .PWR_MEAS2] [.fab, .doc, .flt, .can, .nm, .twn] s t) ∧
  (∀ s backup mv, ∃ t, exec (.overvoltageClear backup mv) s = .next t ∧ Changes [.HSW_STAT, .HBR_STAT, .HBR_POS, .VHS_STAT,
      .CTD_STAT, .PWR_STAT, .PWR_MEAS, .FLT_STAT] [.flt, .hsw, .hbr, .coil, .pwr, .twn] s t) ∧
  (∀ s tb, ∃ t, exec (.tbhotClear tb) s = .next t ∧ Changes [.PWR_STAT, .PWR_MEAS2, .FLT_STAT] [.flt, .twn] s t)

/-- Image slot, fabric, context and memory commands: what they leave unchanged. From every state and with all operands each
command answers a next state in which every register but those named, at every index, and every part of the state but those
named are as they were, every byte of memory among them where the memory is not named; the queue and the variant are as they
were. The registers named are those that the spec lets the command write, directly or through the turn-off, trip, recovery,
fault report and reaction that its rules attach to it. (03_catalogue.md, 04_line_fabric.md, 10_rarek_move_code.md,
11_contexts_memory.md) -/
def Obligations.ImageAndFabricFrames : Prop :=
  (∀ s, ∃ t, exec .catWctlOpen s = .next t ∧ Changes [.CAT_WSTAT] [.cat, .doc, .twn, .spi] s t) ∧
  (∀ s, ∃ t, exec .slotEraseDone s = .next t ∧ Changes [.CAT_WSTAT] [.mem, .twn] s t) ∧
  (∀ s addr w, ∃ t, exec (.slotWordWrite addr w) s = .next t ∧ Changes [.CAT_WSTAT] [.mem, .cat, .doc, .twn, .spi] s t) ∧
  (∀ s, ∃ t, exec .catWctlClose s = .next t ∧ Changes [.CAT_WSTAT] [.doc, .twn, .spi] s t) ∧
  (∀ s readErr, ∃ t, exec (.slotCheckDone readErr) s = .next t ∧ Changes [.CAT_WSTAT] [.twn] s t) ∧
  (∀ s, ∃ t, exec .catWctlCommit s = .next t ∧ Changes [.CAT_WSTAT, .KEY_STAT] [.doc, .twn, .spi] s t) ∧
  (∀ s, ∃ t, exec .slotCommitDone s = .next t ∧ Changes [.CAT_STAT, .CAT_WSTAT] [.cat, .twn] s t) ∧
  (∀ s, ∃ t, exec .catWctlAbort s = .next t ∧ Changes [.CAT_WSTAT] [.mem, .cat, .doc, .twn, .spi] s t) ∧
  (∀ s c w, ∃ t, exec (.fabLwr c w) s = .next t ∧ Changes [.FAB_OWNERR, .PU_PD, .PU_STAT] [.fab, .doc, .flt, .nm, .twn] s t) ∧
  (∀ s c g w, ∃ t, exec (.fabLwrg c g w) s = .next t ∧ Changes [.FAB_OWNERR, .PU_PD, .PU_STAT] [.fab, .doc, .flt, .nm, .twn]
      s t) ∧
  (∀ s c u w, ∃ t, exec (.puPdWrite c u w) s = .next t ∧ Changes [.FAB_OWNERR, .PU_PD, .PU_STAT] [.fab, .doc, .flt, .twn] s t) ∧
  (∀ s u, ∃ t, exec (.puGateRise u) s = .next t ∧ Changes [.PU_PD, .PU_STAT] [.fab, .nm, .twn] s t) ∧
  (∀ s r rising, ∃ t, exec (.lineEdgeEvent r rising) s = .next t ∧ Changes [.PU_PD, .PU_STAT, .ER_CNT, .DOC_STAT, .CTX_STAT,
      .CTX_LASTQ, .CTXC_STAT, .CAN_QSTAT] [.fab, .doc, .can, .nm, .twn] s t) ∧
  (∀ s c, ∃ t, exec (.divideComplete c) s = .next t ∧ Changes [] [.doc, .twn] s t) ∧
  (∀ s d ecc coll, ∃ t, exec (.loadComplete d ecc coll) s = .next t ∧ Changes [.MEM_ECCADDR, .MEM_ECCSRC, .MEM_HWCOLL,
      .MEM_ECC] [.mem, .doc, .memx, .flt, .twn] s t) ∧
  (∀ s d ecc coll, ∃ t, exec (.storeQueueDrain d ecc coll) s = .next t ∧ Changes [.MEM_ECCADDR, .MEM_ECCSRC, .MEM_HWCOLL,
      .MEM_ECC] [.mem, .doc, .memx, .flt, .twn] s t) ∧
  (∀ s d ecc coll, ∃ t, exec (.strOperationComplete d ecc coll) s = .next t ∧ Changes [.MEM_ECCADDR, .MEM_ECCSRC,
      .MEM_HWCOLL, .MEM_ECC] [.mem, .doc, .memx, .flt, .twn] s t) ∧
  (∀ s c, ∃ t, exec (.timedWaitExpiry c) s = .next t ∧ Changes [.PU_PD, .PU_STAT, .DOC_STAT, .CTX_STAT, .CTX_LASTQ,
      .CTXC_STAT, .CAN_QSTAT] [.tb, .fab, .doc, .can, .nm, .twn] s t) ∧
  (∀ s c, ∃ t, exec (.alarmExpiry c) s = .next t ∧ Changes [.PU_PD, .PU_STAT, .DOC_STAT, .CTX_STAT, .CTX_LASTQ, .CTXC_STAT,
      .CAN_QSTAT] [.tb, .fab, .doc, .can, .nm, .twn] s t) ∧
  (∀ s d, ∃ t, exec (.shadowPreloadDone d) s = .next t ∧ Changes [.PU_PD, .PU_STAT, .DOC_STAT, .DOC_TRAPS, .DOC_TRAP,
      .DOC_TRAPPC, .DOC_TRAPW, .CTX_STAT, .CTX_LASTQ, .CTXC_STAT, .MEM_ECCADDR, .MEM_ECCSRC, .MEM_ECC, .CAN_QSTAT] [.fab,
      .doc, .memx, .flt, .can, .nm, .twn] s t) ∧
  (∀ s c, ∃ t, exec (.budgetExpiry c) s = .next t ∧ Changes [.PU_PD, .PU_STAT, .DOC_STAT, .CTX_STAT, .CTX_LASTQ, .CTXC_STAT,
      .CTXC_RUN, .CAN_QSTAT] [.fab, .doc, .flt, .can, .nm, .twn] s t) ∧
  (∀ s c, ∃ t, exec (.quarantineEffect c) s = .next t ∧ Changes [.PU_PD, .PU_STAT, .DOC_STAT, .CTX_STAT, .CTX_LASTQ,
      .CTXC_STAT, .CAN_QSTAT] [.fab, .doc, .can, .nm, .twn] s t) ∧
  (∀ s who c, ∃ t, exec (.ctxCmdRelease who c) s = .next t ∧ Changes [.PU_PD, .PU_STAT, .DOC_STAT, .CTX_STAT, .CTX_LASTQ,
      .CTXC_STAT, .CAN_QSTAT] [.fab, .doc, .flt, .can, .nm, .twn, .spi] s t) ∧
  (∀ s who c, ∃ t, exec (.ctxCmdQuarantine who c) s = .next t ∧ Changes [.PU_PD, .PU_STAT, .DOC_STAT, .CTX_STAT, .CTX_LASTQ,
      .CTXC_STAT, .CAN_QSTAT] [.fab, .doc, .can, .nm, .twn, .spi] s t) ∧
  (∀ s, ∃ t, exec .eccWriteback s = .next t ∧ Changes [] [.memx] s t) ∧
  (∀ s addr e, ∃ t, exec (.scrubRead addr e) s = .next t ∧ Changes [.MEM_ECCADDR, .MEM_ECCSRC, .MEM_ECC] [.memx, .flt, .twn]
      s t) ∧
  (∀ s b, ∃ t, exec (.bankWakeDone b) s = .next t ∧ Changes [.MEM_STAT] [.twn] s t) ∧
  (∀ s, ∃ t, exec .bankInitDone s = .next t ∧ Changes [.MEM_STAT] [.mem, .twn] s t)

/-- Channel and bridge commands: what they leave unchanged. From every state and with all operands each command answers a next
state in which every register but those named, at every index, and every part of the state but those named are as they were,
every byte of memory among them where the memory is not named; the queue and the variant are as they were. The registers
named are those that the spec lets the command write, directly or through the turn-off, trip, recovery, fault report and
reaction that its rules attach to it. (05_switch_channels.md, 06_bridges_motion.md) -/
def Obligations.SwitchAndBridgeFrames : Prop :=
  (∀ s n, ∃ t, exec (.channelCommandChange n) s = .next t ∧ Changes [.HSW_STAT, .HBR_STAT, .HBR_POS, .VLV_STAT, .VHS_STAT,
      .CTD_STAT, .LED_STAT, .LED_EFF, .FLT_STAT] [.flt, .trips, .hsw, .hbr, .coil, .bank, .led, .twn] s t) ∧
  (∀ s n iMa, ∃ t, exec (.channelShortCut n iMa) s = .next t ∧ Changes [.PU_PD, .PU_STAT, .HSW_STAT, .HBR_STAT, .HBR_POS,
      .VLV_STAT, .VHS_STAT, .CTD_STAT, .LED_STAT, .DOC_STAT, .CTX_STAT, .CTX_LASTQ, .CTXC_STAT, .CAN_QSTAT, .FLT_STAT] [.fab,
      .doc, .flt, .trips, .hsw, .hbr, .coil, .bank, .led, .can, .nm, .twn] s t) ∧
  (∀ s n iMa, ∃ t, exec (.currentLimitEntry n iMa) s = .next t ∧ Changes [.HSW_STAT] [.twn] s t) ∧
  (∀ s n iMa, ∃ t, exec (.currentLimitExit n iMa) s = .next t ∧ Changes [.HSW_STAT] [.twn] s t) ∧
  (∀ s n iMa, ∃ t, exec (.tlimExpiry n iMa) s = .next t ∧ Changes [.PU_PD, .PU_STAT, .HSW_STAT, .HBR_STAT, .HBR_POS,
      .VLV_STAT, .VHS_STAT, .CTD_STAT, .LED_STAT, .DOC_STAT, .CTX_STAT, .CTX_LASTQ, .CTXC_STAT, .CAN_QSTAT, .FLT_STAT] [.fab,
      .doc, .flt, .trips, .hsw, .hbr, .coil, .bank, .led, .can, .nm, .twn] s t) ∧
  (∀ s n iMa, ∃ t, exec (.inrushWindowEnd n iMa) s = .next t ∧ Changes [.HSW_STAT] [.hsw, .twn] s t) ∧
  (∀ s n iMa, ∃ t, exec (.inrushExtensionEnd n iMa) s = .next t ∧ Changes [.PU_PD, .PU_STAT, .HSW_STAT, .HBR_STAT, .HBR_POS,
      .VLV_STAT, .VHS_STAT, .CTD_STAT, .LED_STAT, .DOC_STAT, .CTX_STAT, .CTX_LASTQ, .CTXC_STAT, .CAN_QSTAT, .FLT_STAT] [.fab,
      .doc, .flt, .trips, .hsw, .hbr, .coil, .bank, .led, .can, .nm, .twn] s t) ∧
  (∀ s n, ∃ t, exec (.droopDetected n) s = .next t ∧ Changes [] [.hsw, .twn] s t) ∧
  (∀ s n p iMa voutMv dt tj, ∃ t, exec (.wireModelUpdate n p iMa voutMv dt tj) s = .next t ∧ Changes [.PU_PD, .PU_STAT,
      .HSW_STAT, .HSW_MEAS, .HSW_MEAS2, .HSW_WTEMP, .HBR_STAT, .HBR_POS, .VLV_STAT, .VHS_STAT, .CTD_STAT, .LED_STAT,
      .LED_EFF, .DOC_STAT, .CTX_STAT, .CTX_LASTQ, .CTXC_STAT, .CAN_QSTAT, .FLT_STAT] [.fab, .doc, .flt, .trips, .hsw, .hbr,
      .coil, .bank, .led, .can, .nm, .twn] s t) ∧
  (∀ s slot met, ∃ t, exec (.junctionTrip slot met) s = .next t ∧ Changes [.PU_PD, .PU_STAT, .HSW_STAT, .HSW_MEAS2,
      .HSW_CLAMP, .HSW_LOCK0, .HSW_LOCK1, .HBR_STAT, .HBR_MEAS, .HBR_POS, .VLV_STAT, .VLV_TEMP, .VHS_STAT, .VHS_CLAMP,
      .CTD_STAT, .CTD_TEMP, .CTD_CLAMP, .LED_STAT, .LED_MEAS, .DOC_STAT, .CTX_STAT, .CTX_LASTQ, .CTXC_STAT, .CAN_QSTAT,
      .FLT_STAT] [.fab, .doc, .flt, .trips, .buckets, .hsw, .hbr, .coil, .bank, .led, .can, .nm, .twn] s t) ∧
  (∀ s n dt tj, ∃ t, exec (.deltaTTrip n dt tj) s = .next t ∧ Changes [.PU_PD, .PU_STAT, .HSW_STAT, .HSW_MEAS2, .HBR_STAT,
      .HBR_POS, .VLV_STAT, .VHS_STAT, .CTD_STAT, .LED_STAT, .DOC_STAT, .CTX_STAT, .CTX_LASTQ, .CTXC_STAT, .CAN_QSTAT,
      .FLT_STAT] [.fab, .doc, .flt, .trips, .hsw, .hbr, .coil, .bank, .led, .can, .nm, .twn] s t) ∧
  (∀ s n iMa, ∃ t, exec (.stuckOn n iMa) s = .next t ∧ Changes [.HSW_STAT] [.flt, .twn] s t) ∧
  (∀ s slot mJ, ∃ t, exec (.clampEventEnd slot mJ) s = .next t ∧ Changes [.HSW_STAT, .HSW_CLAMP, .HSW_LOCK0, .HSW_LOCK1,
      .HBR_STAT, .HBR_POS, .VLV_STAT, .VHS_STAT, .VHS_CLAMP, .CTD_STAT, .CTD_CLAMP, .LED_STAT, .FLT_STAT] [.flt, .buckets,
      .hsw, .hbr, .coil, .bank, .led, .twn] s t) ∧
  (∀ s slot, ∃ t, exec (.bucketFull slot) s = .next t ∧ Changes [.HSW_STAT, .HSW_LOCK0, .HSW_LOCK1, .HBR_STAT, .HBR_POS,
      .VLV_STAT, .VHS_STAT, .CTD_STAT, .LED_STAT, .LED_EFF, .FLT_STAT] [.flt, .buckets, .hsw, .hbr, .coil, .bank, .led, .twn]
      s t) ∧
  (∀ s who k w, ∃ t, exec (.hswLockClear who k w) s = .next t ∧ Changes [.HSW_STAT, .HSW_LOCK0, .HSW_LOCK1, .HBR_STAT,
      .HBR_POS, .VLV_STAT, .VHS_STAT, .CTD_STAT, .LED_STAT, .LED_EFF, .FLT_STAT] [.doc, .flt, .hsw, .hbr, .coil, .bank, .led,
      .twn, .spi] s t) ∧
  (∀ s slot, ∃ t, exec (.tretryExpiry slot) s = .next t ∧ Changes [.HSW_STAT, .HBR_STAT, .HBR_POS, .VLV_STAT, .VHS_STAT,
      .CTD_STAT, .LED_STAT, .LED_EFF, .FLT_STAT] [.flt, .trips, .hsw, .hbr, .coil, .bank, .led, .twn] s t) ∧
  (∀ s slot, ∃ t, exec (.tripConditionClear slot) s = .next t ∧ Changes [.HSW_STAT, .HBR_STAT, .HBR_POS, .VLV_STAT,
      .VHS_STAT, .CTD_STAT, .LED_STAT, .LED_EFF, .FLT_STAT] [.flt, .trips, .hsw, .hbr, .coil, .bank, .led, .twn] s t) ∧
  (∀ s slot, ∃ t, exec (.retryCounterReset slot) s = .next t ∧ Changes [.HSW_STAT, .HBR_STAT, .VLV_STAT, .VHS_STAT,
      .CTD_STAT, .LED_STAT] [.twn] s t) ∧
  (∀ s who n, ∃ t, exec (.hswClrTrip who n) s = .next t ∧ Changes [.HSW_STAT, .HBR_STAT, .HBR_POS, .VLV_STAT, .VHS_STAT,
      .CTD_STAT, .LED_STAT, .LED_EFF, .FLT_STAT] [.doc, .flt, .trips, .hsw, .hbr, .coil, .bank, .led, .twn, .spi] s t) ∧
  (∀ s n iMa, ∃ t, exec (.openLoadMeasurement n iMa) s = .next t ∧ Changes [.HSW_STAT, .FLT_STAT] [.flt, .hsw, .twn] s t) ∧
  (∀ s b, ∃ t, exec (.bridgeCommandChange b) s = .next t ∧ Changes [.HSW_STAT, .HBR_STAT, .HBR_POS, .VLV_STAT, .VHS_STAT,
      .CTD_STAT, .LED_STAT, .LED_EFF, .FLT_STAT] [.flt, .trips, .hsw, .hbr, .coil, .bank, .led, .twn] s t) ∧
  (∀ s b, ∃ t, exec (.reversalBrakeEnd b) s = .next t ∧ Changes [.HBR_STAT, .HBR_POS] [.hbr, .twn] s t) ∧
  (∀ s b iMa, ∃ t, exec (.bridgeCycleLimit b iMa) s = .next t ∧ Changes [.HBR_STAT, .HBR_POS] [.hbr, .twn] s t) ∧
  (∀ s b, ∃ t, exec (.cycleLimitEnd b) s = .next t ∧ Changes [.HBR_STAT, .HBR_POS] [.hbr, .twn] s t) ∧
  (∀ s b iMa, ∃ t, exec (.bridgeTlimExpiry b iMa) s = .next t ∧ Changes [.PU_PD, .PU_STAT, .HSW_STAT, .HBR_STAT, .HBR_POS,
      .VLV_STAT, .VHS_STAT, .CTD_STAT, .LED_STAT, .DOC_STAT, .CTX_STAT, .CTX_LASTQ, .CTXC_STAT, .CAN_QSTAT, .FLT_STAT] [.fab,
      .doc, .flt, .trips, .hsw, .hbr, .coil, .bank, .led, .can, .nm, .twn] s t) ∧
  (∀ s b iMa, ∃ t, exec (.brakeOvercurrent b iMa) s = .next t ∧ Changes [] [.hbr, .twn] s t) ∧
  (∀ s b sw iMa, ∃ t, exec (.bridgeShortCut b sw iMa) s = .next t ∧ Changes [.PU_PD, .PU_STAT, .HSW_STAT, .HBR_STAT,
      .HBR_POS, .VLV_STAT, .VHS_STAT, .CTD_STAT, .LED_STAT, .DOC_STAT, .CTX_STAT, .CTX_LASTQ, .CTXC_STAT, .CAN_QSTAT,
      .FLT_STAT] [.fab, .doc, .flt, .trips, .hsw, .hbr, .coil, .bank, .led, .can, .nm, .twn] s t) ∧
  (∀ s b iMa, ∃ t, exec (.bridgeOpenLoad b iMa) s = .next t ∧ Changes [.PU_PD, .PU_STAT, .HBR_STAT, .HBR_MEAS, .DOC_STAT,
      .CTX_STAT, .CTX_LASTQ, .CTXC_STAT, .CAN_QSTAT, .FLT_STAT] [.fab, .doc, .flt, .can, .nm, .twn] s t) ∧
  (∀ s b tk iMa ampMa inHz dir, ∃ t, exec (.positionCount b tk iMa ampMa inHz dir) s = .next t ∧ Changes [.PU_PD, .PU_STAT,
      .HBR_TGT, .HBR_STAT, .HBR_MEAS, .HBR_POS, .DOC_STAT, .CTX_STAT, .CTX_LASTQ, .CTXC_STAT, .CAN_QSTAT] [.fab, .doc, .hbr,
      .can, .nm, .twn] s t) ∧
  (∀ s b cause, ∃ t, exec (.positionError b cause) s = .next t ∧ Changes [.PU_PD, .PU_STAT, .HBR_STAT, .DOC_STAT, .CTX_STAT,
      .CTX_LASTQ, .CTXC_STAT, .CAN_QSTAT] [.fab, .doc, .flt, .hbr, .can, .nm, .twn] s t) ∧
  (∀ s b, ∃ t, exec (.pinchPeriodExceeded b) s = .next t ∧ Changes [.PU_PD, .PU_STAT, .HBR_TGT, .HBR_STAT, .HBR_POS,
      .DOC_STAT, .CTX_STAT, .CTX_LASTQ, .CTXC_STAT, .CAN_QSTAT] [.fab, .doc, .hbr, .can, .nm, .twn] s t) ∧
  (∀ s b iMa, ∃ t, exec (.stallDetected b iMa) s = .next t ∧ Changes [.PU_PD, .PU_STAT, .HBR_TGT, .HBR_STAT, .HBR_POS,
      .DOC_STAT, .CTX_STAT, .CTX_LASTQ, .CTXC_STAT, .CAN_QSTAT] [.fab, .doc, .flt, .hbr, .can, .nm, .twn] s t) ∧
  (∀ s b, ∃ t, exec (.tstopbrkExpiry b) s = .next t ∧ Changes [.HBR_STAT, .HBR_POS] [.hbr, .twn] s t) ∧
  (∀ s who b w, ∃ t, exec (.hbrTgtWrite who b w) s = .next t ∧ Changes [.PU_PD, .PU_STAT, .HBR_TGT, .HBR_STAT, .HBR_POS,
      .DOC_STAT, .CTX_STAT, .CTX_LASTQ, .CTXC_STAT, .CAN_QSTAT] [.fab, .doc, .hbr, .can, .nm, .twn, .spi] s t) ∧
  (∀ s who b w, ∃ t, exec (.hbrPosset who b w) s = .next t ∧ Changes [.HBR_STAT, .HBR_POS] [.doc, .twn, .spi] s t) ∧
  (∀ s who b, ∃ t, exec (.hbrClrTrip who b) s = .next t ∧ Changes [.HSW_STAT, .HBR_STAT, .HBR_POS, .VLV_STAT, .VHS_STAT,
      .CTD_STAT, .LED_STAT, .LED_EFF, .FLT_STAT] [.doc, .flt, .trips, .hsw, .hbr, .coil, .bank, .led, .twn, .spi] s t) ∧
  (∀ s who b, ∃ t, exec (.hbrClrStop who b) s = .next t ∧ Changes [.HBR_STAT, .HBR_POS] [.doc, .hbr, .twn, .spi] s t) ∧
  (∀ s who b w, ∃ t, exec (.hbrSflt who b w) s = .next t ∧ Changes [.HBR_STAT] [.doc, .flt, .twn, .spi] s t) ∧
  (∀ s b, ∃ t, exec (.bridgeLimitExit b) s = .next t ∧ Changes [.HBR_STAT] [.twn] s t) ∧
  (∀ s n, ∃ t, exec (.stuckOnClear n) s = .next t ∧ Changes [.FLT_STAT] [.flt, .twn] s t)

/-- Valve, bank switch and contactor commands: what they leave unchanged. From every state and with all operands each command
answers a next state in which every register but those named, at every index, and every part of the state but those named
are as they were, every byte of memory among them where the memory is not named; the queue and the variant are as they were.
The registers named are those that the spec lets the command write, directly or through the turn-off, trip, recovery, fault
report and reaction that its rules attach to it. (07_valves_contactors.md) -/
def Obligations.CoilFrames : Prop :=
  (∀ s v, ∃ t, exec (.valveCommandRise v) s = .next t ∧ Changes [.VLV_STAT, .VHS_STAT, .CTD_STAT] [.flt, .coil, .bank, .twn]
      s t) ∧
  (∀ s v, ∃ t, exec (.valveCommandFall v) s = .next t ∧ Changes [.HSW_STAT, .HBR_STAT, .HBR_POS, .VLV_STAT, .VHS_STAT,
      .CTD_STAT, .LED_STAT, .LED_EFF, .FLT_STAT] [.flt, .trips, .hsw, .hbr, .coil, .bank, .led, .twn] s t) ∧
  (∀ s v tbw, ∃ t, exec (.boostStart v tbw) s = .next t ∧ Changes [.VLV_STAT, .VHS_STAT] [.twn] s t) ∧
  (∀ s v reached iMa, ∃ t, exec (.boostEnd v reached iMa) s = .next t ∧ Changes [.VLV_STAT, .VHS_STAT, .CTD_STAT, .FLT_STAT]
      [.flt, .coil, .twn] s t) ∧
  (∀ s v, ∃ t, exec (.boostWaitLimit v) s = .next t ∧ Changes [.VLV_STAT, .VHS_STAT] [.flt, .twn] s t) ∧
  (∀ s slot, ∃ t, exec (.decayEnd slot) s = .next t ∧ Changes [.HSW_STAT, .HBR_STAT, .HBR_POS, .VLV_STAT, .VHS_STAT,
      .CTD_STAT, .LED_STAT, .LED_EFF, .FLT_STAT] [.flt, .trips, .hsw, .hbr, .coil, .bank, .led, .twn] s t) ∧
  (∀ s v, ∃ t, exec (.tvminoffExpiry v) s = .next t ∧ Changes [.VLV_STAT, .VHS_STAT] [.flt, .coil, .bank, .twn] s t) ∧
  (∀ s slot iMa, ∃ t, exec (.openCoilCheck slot iMa) s = .next t ∧ Changes [.VLV_STAT, .CTD_STAT, .FLT_STAT] [.flt, .twn] s t) ∧
  (∀ s slot iMa, ∃ t, exec (.holdCurrentLow slot iMa) s = .next t ∧ Changes [.VLV_STAT, .CTD_STAT] [.flt, .coil, .twn] s t) ∧
  (∀ s slot vrailMv duty vfMv iMa tj reg, ∃ t, exec (.coilModelUpdate slot vrailMv duty vfMv iMa tj reg) s = .next t ∧
      Changes [.PU_PD, .PU_STAT, .HSW_STAT, .HBR_STAT, .HBR_POS, .VLV_STAT, .VLV_MEAS, .VLV_TEMP, .VLV_RES, .VHS_STAT,
      .VHS_MEAS, .CTD_STAT, .CTD_MEAS, .CTD_TEMP, .CTD_RES, .LED_STAT, .LED_EFF, .DOC_STAT, .CTX_STAT, .CTX_LASTQ,
      .CTXC_STAT, .CAN_QSTAT, .FLT_STAT] [.fab, .doc, .flt, .trips, .hsw, .hbr, .coil, .bank, .led, .can, .nm, .twn] s t) ∧
  (∀ s k, ∃ t, exec (.bankEmergencyOff k) s = .next t ∧ Changes [.HSW_STAT, .HBR_STAT, .HBR_POS, .VLV_STAT, .VHS_STAT,
      .CTD_STAT, .LED_STAT, .LED_EFF, .FLT_STAT] [.flt, .trips, .hsw, .hbr, .coil, .bank, .led, .twn] s t) ∧
  (∀ s k iMax mJ, ∃ t, exec (.bankOpeningEnd k iMax mJ) s = .next t ∧ Changes [.HSW_STAT, .HSW_CLAMP, .HSW_LOCK0, .HSW_LOCK1,
      .HBR_STAT, .HBR_POS, .VLV_STAT, .VHS_STAT, .VHS_CLAMP, .CTD_STAT, .CTD_CLAMP, .LED_STAT, .FLT_STAT] [.flt, .buckets,
      .hsw, .hbr, .coil, .bank, .led, .twn] s t) ∧
  (∀ s k, ∃ t, exec (.bankEnableOn k) s = .next t ∧ Changes [.VLV_STAT, .VHS_STAT] [.flt, .coil, .bank, .twn] s t) ∧
  (∀ s k sc iMa tj iMax mJ, ∃ t, exec (.bankSwitchTrip k sc iMa tj iMax mJ) s = .next t ∧ Changes [.PU_PD, .PU_STAT,
      .HSW_STAT, .HSW_CLAMP, .HSW_LOCK0, .HSW_LOCK1, .HBR_STAT, .HBR_POS, .VLV_STAT, .VHS_STAT, .VHS_MEAS, .VHS_CLAMP,
      .CTD_STAT, .CTD_CLAMP, .LED_STAT, .DOC_STAT, .CTX_STAT, .CTX_LASTQ, .CTXC_STAT, .CAN_QSTAT, .FLT_STAT] [.fab, .doc,
      .flt, .trips, .buckets, .hsw, .hbr, .coil, .bank, .led, .can, .nm, .twn] s t) ∧
  (∀ s slot high met, ∃ t, exec (.coilShortCut slot high met) s = .next t ∧ Changes [.PU_PD, .PU_STAT, .HSW_STAT, .HSW_CLAMP,
      .HSW_LOCK0, .HSW_LOCK1, .HBR_STAT, .HBR_POS, .VLV_STAT, .VHS_STAT, .VHS_CLAMP, .CTD_STAT, .CTD_CLAMP, .LED_STAT,
      .DOC_STAT, .CTX_STAT, .CTX_LASTQ, .CTXC_STAT, .CAN_QSTAT, .FLT_STAT] [.fab, .doc, .flt, .trips, .buckets, .hsw, .hbr,
      .coil, .bank, .led, .can, .nm, .twn] s t) ∧
  (∀ s who slot, ∃ t, exec (.vlvClrTrip who slot) s = .next t ∧ Changes [.HSW_STAT, .HBR_STAT, .HBR_POS, .VLV_STAT,
      .VHS_STAT, .CTD_STAT, .LED_STAT, .LED_EFF, .FLT_STAT] [.doc, .flt, .trips, .hsw, .hbr, .coil, .bank, .led, .twn, .spi]
      s t) ∧
  (∀ s c, ∃ t, exec (.contactorCommandRise c) s = .next t ∧ Changes [.VLV_STAT, .CTD_STAT] [.coil, .twn] s t) ∧
  (∀ s c, ∃ t, exec (.contactorCommandFall c) s = .next t ∧ Changes [.HSW_STAT, .HBR_STAT, .HBR_POS, .VLV_STAT, .VHS_STAT,
      .CTD_STAT, .LED_STAT, .LED_EFF, .FLT_STAT] [.flt, .trips, .hsw, .hbr, .coil, .bank, .led, .twn] s t) ∧
  (∀ s c reached iMa, ∃ t, exec (.pullinEnd c reached iMa) s = .next t ∧ Changes [.VLV_STAT, .CTD_STAT, .FLT_STAT] [.flt,
      .coil, .twn] s t) ∧
  (∀ s c iMa mJ, ∃ t, exec (.contactorHighSideOpen c iMa mJ) s = .next t ∧ Changes [.HSW_STAT, .HSW_CLAMP, .HSW_LOCK0,
      .HSW_LOCK1, .HBR_STAT, .HBR_POS, .VLV_STAT, .VHS_STAT, .VHS_CLAMP, .CTD_STAT, .CTD_CLAMP, .LED_STAT, .LED_EFF,
      .FLT_STAT] [.flt, .trips, .buckets, .hsw, .hbr, .coil, .bank, .led, .twn] s t) ∧
  (∀ s c reason, ∃ t, exec (.auxContactCheck c reason) s = .next t ∧ Changes [.CTD_STAT] [.flt, .coil, .twn] s t)

/-- LED, lighting chain and input commands: what they leave unchanged. From every state and with all operands each command
answers a next state in which every register but those named, at every index, and every part of the state but those named
are as they were, every byte of memory among them where the memory is not named; the queue and the variant are as they were.
The registers named are those that the spec lets the command write, directly or through the turn-off, trip, recovery, fault
report and reaction that its rules attach to it. (08_lighting.md, 09_inputs.md) -/
def Obligations.LightAndInputFrames : Prop :=
  (∀ s u, ∃ t, exec (.pulsePeriodEnd u) s = .next t ∧ Changes [.PU_PD, .PU_STAT, .HSW_STAT, .HBR_STAT, .HBR_POS, .VLV_STAT,
      .VHS_STAT, .CTD_STAT, .LED_STAT, .LED_EFF, .FLT_STAT] [.tb, .fab, .flt, .trips, .hsw, .hbr, .coil, .bank, .led, .nm,
      .twn] s t) ∧
  (∀ s who i w, ∃ t, exec (.ledLevelWrite who i w) s = .next t ∧ Changes [.LED_LVL, .LED_STAT, .LED_EFF] [.doc, .led, .twn,
      .spi] s t) ∧
  (∀ s i, ∃ t, exec (.demandLineChange i) s = .next t ∧ Changes [.LED_STAT, .LED_EFF] [.led, .twn] s t) ∧
  (∀ s i, ∃ t, exec (.dimmingDutyWrite i) s = .next t ∧ Changes [.PU_PD, .PU_STAT, .HSW_STAT, .HBR_STAT, .HBR_POS, .VLV_STAT,
      .VHS_STAT, .CTD_STAT, .LED_STAT, .LED_EFF, .FLT_STAT] [.fab, .flt, .trips, .hsw, .hbr, .coil, .bank, .led, .twn] s t) ∧
  (∀ s i voutMv, ∃ t, exec (.shortToGround i voutMv) s = .next t ∧ Changes [.PU_PD, .PU_STAT, .HSW_STAT, .HBR_STAT, .HBR_POS,
      .VLV_STAT, .VHS_STAT, .CTD_STAT, .LED_STAT, .LED_MEAS, .DOC_STAT, .CTX_STAT, .CTX_LASTQ, .CTXC_STAT, .CAN_QSTAT,
      .FLT_STAT] [.fab, .doc, .flt, .trips, .hsw, .hbr, .coil, .bank, .led, .can, .nm, .twn] s t) ∧
  (∀ s i iUa voutMv feedMv, ∃ t, exec (.openStringMeasurement i iUa voutMv feedMv) s = .next t ∧ Changes [.LED_STAT,
      .LED_MEAS, .FLT_STAT] [.flt, .led, .twn] s t) ∧
  (∀ s i voutMv, ∃ t, exec (.shortedLedCheck i voutMv) s = .next t ∧ Changes [.LED_STAT] [.flt, .led, .twn] s t) ∧
  (∀ s i iUa, ∃ t, exec (.dacFailure i iUa) s = .next t ∧ Changes [.LED_STAT, .LED_EFF] [.flt, .led, .twn] s t) ∧
  (∀ s who i, ∃ t, exec (.ledClrTrip who i) s = .next t ∧ Changes [.HSW_STAT, .HBR_STAT, .HBR_POS, .VLV_STAT, .VHS_STAT,
      .CTD_STAT, .LED_STAT, .LED_EFF, .FLT_STAT] [.doc, .flt, .trips, .hsw, .hbr, .coil, .bank, .led, .twn, .spi] s t) ∧
  (∀ s who i, ∃ t, exec (.ledClrDacrst who i) s = .next t ∧ Changes [] [.doc, .led, .twn, .spi] s t) ∧
  (∀ s i pass, ∃ t, exec (.dacRetest i pass) s = .next t ∧ Changes [.LED_STAT, .LED_EFF] [.led, .twn] s t) ∧
  (∀ s g mv vsMv, ∃ t, exec (.lampGroupUpdate g mv vsMv) s = .next t ∧ Changes [.LED_STAT, .LED_EFF, .LG_STAT, .AIN_VAL]
      [.flt, .led, .inp, .twn] s t) ∧
  (∀ s ms, ∃ t, exec (.foldbackUpdate ms) s = .next t ∧ Changes [.LED_STAT, .LED_MEAS, .LED_EFF, .LED_PSTAT] [.flt, .led,
      .fold, .twn] s t) ∧
  (∀ s n, ∃ t, exec (.refreshStart n) s = .next t ∧ Changes [.LCH_STAT, .MEM_ECCADDR, .MEM_ECCSRC, .MEM_ECC] [.memx, .flt,
      .lch, .twn] s t) ∧
  (∀ s n ret, ∃ t, exec (.refreshComplete n ret) s = .next t ∧ Changes [.LCH_STAT, .LCH_CNT] [.mem, .flt, .lch, .twn] s t) ∧
  (∀ s n, ∃ t, exec (.chainUnderrun n) s = .next t ∧ Changes [.LCH_STAT, .LCH_CNT, .MEM_ECCADDR, .MEM_ECCSRC, .MEM_ECC]
      [.memx, .flt, .lch, .twn] s t) ∧
  (∀ s who n, ∃ t, exec (.lchCtlSwap who n) s = .next t ∧ Changes [.LCH_STAT] [.doc, .twn, .spi] s t) ∧
  (∀ s who n, ∃ t, exec (.lchCtlDisc who n) s = .next t ∧ Changes [.LCH_STAT] [.doc, .lch, .twn, .spi] s t) ∧
  (∀ s n found delay, ∃ t, exec (.discoveryDone n found delay) s = .next t ∧ Changes [.LCH_STAT, .LCH_DLY] [.flt, .lch, .twn]
      s t) ∧
  (∀ s n, ∃ t, exec (.discoveryRetry n) s = .next t ∧ Changes [.LCH_STAT] [.lch, .twn] s t) ∧
  (∀ s g mv, ∃ t, exec (.sinSample g mv) s = .next t ∧ Changes [.PU_PD, .PU_STAT, .INP_SLVL] [.fab, .inp, .nm, .twn] s t) ∧
  (∀ s j mv vsMv, ∃ t, exec (.ainUpdate j mv vsMv) s = .next t ∧ Changes [.PU_PD, .PU_STAT, .AIN_VAL, .INP_SUPSTAT] [.fab,
      .inp, .nm, .twn] s t) ∧
  (∀ s j, ∃ t, exec (.ainOverRange j) s = .next t ∧ Changes [.AIN_VAL] [.flt, .inp, .twn] s t) ∧
  (∀ s u mv, ∃ t, exec (.sensorSupplyOverload u mv) s = .next t ∧ Changes [.INP_SUPSTAT] [.flt, .inp, .twn] s t) ∧
  (∀ s h lvl i, ∃ t, exec (.hallLevelChange h lvl i) s = .next t ∧ Changes [.PU_PD, .PU_STAT, .HALL_STAT] [.fab, .inp, .nm,
      .twn] s t) ∧
  (∀ s h i, ∃ t, exec (.hallOpenShort h i) s = .next t ∧ Changes [.HALL_STAT] [.flt, .inp, .twn] s t) ∧
  (∀ s u, ∃ t, exec (.sensorSupplyRecovery u) s = .next t ∧ Changes [] [.inp, .twn] s t)

/-- CAN, LIN, Ethernet and network management commands: what they leave unchanged. From every state and with all operands each
command answers a next state in which every register but those named, at every index, and every part of the state but those
named are as they were, every byte of memory among them where the memory is not named; the queue and the variant are as they
were. The registers named are those that the spec lets the command write, directly or through the turn-off, trip, recovery,
fault report and reaction that its rules attach to it. (12_can.md, 13_lin_ethernet_gateway.md, 14_network_sleep_wake.md) -/
def Obligations.BusFrames : Prop :=
  (∀ s n f sof, ∃ t, exec (.canFrameReceived n f sof) s = .next t ∧ Changes [.SYS_WAKESRC, .PU_PD, .PU_STAT, .DOC_STAT,
      .CTX_STAT, .CTX_LASTQ, .CTXC_STAT, .CAN_STAT, .CAN_ERR, .CAN_QSTAT, .CAN_TXPEND, .CAN_TXDONE, .CAN_TXS, .LIN_SCHED,
      .LIN_D0, .LIN_D1, .GW_STAT, .ETH_PSTAT, .NM_STAT, .FLT_STAT] [.fab, .doc, .flt, .can, .lin, .eth, .nm, .twn] s t) ∧
  (∀ s who n q, ∃ t, exec (.canRxdRead who n q) s = .next t ∧ Changes [.CAN_QSTAT] [.doc, .rdata, .can, .twn, .spi] s t) ∧
  (∀ s who n q w, ∃ t, exec (.canRxpop who n q w) s = .next t ∧ Changes [.CAN_QSTAT] [.doc, .can, .twn, .spi] s t) ∧
  (∀ s who n b i w, ∃ t, exec (.canTxBufferWrite who n b i w) s = .next t ∧ Changes [.CAN_TXW] [.doc, .twn, .spi] s t) ∧
  (∀ s who n w, ∃ t, exec (.canTxRequest who n w) s = .next t ∧ Changes [.PU_PD, .PU_STAT, .DOC_STAT, .CTX_STAT, .CTX_LASTQ,
      .CTXC_STAT, .CAN_QSTAT, .CAN_TXPEND, .CAN_TXDONE, .CAN_TXS] [.fab, .doc, .can, .nm, .twn, .spi] s t) ∧
  (∀ s who n w inArb, ∃ t, exec (.canTxCancel who n w inArb) s = .next t ∧ Changes [.PU_PD, .PU_STAT, .DOC_STAT, .CTX_STAT,
      .CTX_LASTQ, .CTXC_STAT, .CAN_QSTAT, .CAN_TXPEND, .CAN_TXDONE, .CAN_TXS] [.fab, .doc, .can, .nm, .twn, .spi] s t) ∧
  (∀ s n e, ∃ t, exec (.canStagingDone n e) s = .next t ∧ Changes [.PU_PD, .PU_STAT, .DOC_STAT, .CTX_STAT, .CTX_LASTQ,
      .CTXC_STAT, .MEM_ECCADDR, .MEM_ECCSRC, .MEM_ECC, .CAN_QSTAT, .CAN_TXPEND, .CAN_TXDONE, .CAN_TXS] [.fab, .doc, .memx,
      .flt, .can, .nm, .twn] s t) ∧
  (∀ s n, ∃ t, exec (.canTxChoice n) s = .next t ∧ Changes [.PU_PD, .PU_STAT, .DOC_STAT, .CTX_STAT, .CTX_LASTQ, .CTXC_STAT,
      .CAN_QSTAT, .CAN_TXPEND, .CAN_TXDONE, .CAN_TXS] [.fab, .doc, .can, .nm, .twn] s t) ∧
  (∀ s n sof tdcv, ∃ t, exec (.canTxSuccess n sof tdcv) s = .next t ∧ Changes [.PU_PD, .PU_STAT, .DOC_STAT, .CTX_STAT,
      .CTX_LASTQ, .CTXC_STAT, .CAN_STAT, .CAN_ERR, .CAN_QSTAT, .CAN_TXPEND, .CAN_TXDONE, .CAN_TXS, .CAN_TXT, .FLT_STAT]
      [.fab, .doc, .flt, .can, .nm, .twn] s t) ∧
  (∀ s n e tdcv, ∃ t, exec (.canTxError n e tdcv) s = .next t ∧ Changes [.PU_PD, .PU_STAT, .DOC_STAT, .CTX_STAT, .CTX_LASTQ,
      .CTXC_STAT, .CAN_STAT, .CAN_ERR, .CAN_QSTAT, .CAN_TXPEND, .CAN_TXDONE, .CAN_TXS, .FLT_STAT] [.fab, .doc, .flt, .can,
      .nm, .twn] s t) ∧
  (∀ s n e, ∃ t, exec (.canRxError n e) s = .next t ∧ Changes [.PU_PD, .PU_STAT, .DOC_STAT, .CTX_STAT, .CTX_LASTQ,
      .CTXC_STAT, .CAN_STAT, .CAN_ERR, .CAN_QSTAT, .CAN_TXPEND, .CAN_TXDONE, .CAN_TXS, .FLT_STAT] [.fab, .doc, .flt, .can,
      .nm, .twn] s t) ∧
  (∀ s n, ∃ t, exec (.busOffRecoveryDone n) s = .next t ∧ Changes [.PU_PD, .PU_STAT, .DOC_STAT, .CTX_STAT, .CTX_LASTQ,
      .CTXC_STAT, .CAN_STAT, .CAN_QSTAT] [.fab, .doc, .can, .nm, .twn] s t) ∧
  (∀ s who n, ∃ t, exec (.canCmdRecover who n) s = .next t ∧ Changes [.PU_PD, .PU_STAT, .DOC_STAT, .CTX_STAT, .CTX_LASTQ,
      .CTXC_STAT, .CAN_STAT, .CAN_QSTAT] [.fab, .doc, .can, .nm, .twn, .spi] s t) ∧
  (∀ s who n, ∃ t, exec (.canCmdClrlonely who n) s = .next t ∧ Changes [.PU_PD, .PU_STAT, .DOC_STAT, .CTX_STAT, .CTX_LASTQ,
      .CTXC_STAT, .CAN_STAT, .CAN_ERR, .CAN_QSTAT, .CAN_TXPEND, .CAN_TXDONE, .CAN_TXS, .FLT_STAT] [.fab, .doc, .flt, .can,
      .nm, .twn, .spi] s t) ∧
  (∀ s n, ∃ t, exec (.canIntegrationDone n) s = .next t ∧ Changes [.PU_PD, .PU_STAT, .DOC_STAT, .CTX_STAT, .CTX_LASTQ,
      .CTXC_STAT, .CAN_STAT, .CAN_QSTAT] [.fab, .doc, .can, .nm, .twn] s t) ∧
  (∀ s n own, ∃ t, exec (.txdDominantTimeout n own) s = .next t ∧ Changes [] [.flt, .can, .twn] s t) ∧
  (∀ s n, ∃ t, exec (.gatewayBufferLoad n) s = .next t ∧ Changes [.PU_PD, .PU_STAT, .DOC_STAT, .CTX_STAT, .CTX_LASTQ,
      .CTXC_STAT, .CAN_QSTAT, .CAN_TXPEND, .CAN_TXDONE, .CAN_TXW, .CAN_TXS] [.fab, .doc, .can, .nm, .twn] s t) ∧
  (∀ s n, ∃ t, exec (.linSlotStart n) s = .next t ∧ Changes [.LIN_SCHED] [.lin, .twn] s t) ∧
  (∀ s n data chk err coll, ∃ t, exec (.linResponseReceived n data chk err coll) s = .next t ∧ Changes [.LIN_D0, .LIN_D1,
      .LIN_D2, .GW_STAT, .ETH_PSTAT] [.flt, .can, .lin, .eth, .twn] s t) ∧
  (∀ s n any coll, ∃ t, exec (.linResponseTimeout n any coll) s = .next t ∧ Changes [.LIN_D2] [.flt, .lin, .twn] s t) ∧
  (∀ s n, ∃ t, exec (.linBusDominant n) s = .next t ∧ Changes [] [.flt, .twn] s t) ∧
  (∀ s who n w, ∃ t, exec (.linSchedWrite who n w) s = .next t ∧ Changes [.LIN_SCHED] [.doc, .lin, .twn, .spi] s t) ∧
  (∀ s who n, ∃ t, exec (.linCmdWake who n) s = .next t ∧ Changes [] [.doc, .lin, .twn, .spi] s t) ∧
  (∀ s who n k i w, ∃ t, exec (.linDataWrite who n k i w) s = .next t ∧ Changes [.LIN_D0, .LIN_D1, .LIN_D2] [.doc, .lin,
      .twn, .spi] s t) ∧
  (∀ s who n k i, ∃ t, exec (.linDataRead who n k i) s = .next t ∧ Changes [] [.doc, .rdata, .lin, .twn, .spi] s t) ∧
  (∀ s n, ∃ t, exec (.linScheduleResume n) s = .next t ∧ Changes [.LIN_SCHED] [.lin, .twn] s t) ∧
  (∀ s p f full, ∃ t, exec (.ethFrameReceived p f full) s = .next t ∧ Changes [.ETH_PSTAT] [.flt, .eth, .twn] s t) ∧
  (∀ s p failed, ∃ t, exec (.ethLinkChange p failed) s = .next t ∧ Changes [.ETH_PSTAT] [.flt, .twn] s t) ∧
  (∀ s p, ∃ t, exec (.plcaBeaconLost p) s = .next t ∧ Changes [] [.flt, .eth, .twn] s t) ∧
  (∀ s p offset, ∃ t, exec (.syncMessageReceived p offset) s = .next t ∧ Changes [.ETH_TSSTAT, .FLT_STAT] [.flt, .eth, .twn]
      s t) ∧
  (∀ s, ∃ t, exec .syncLost s = .next t ∧ Changes [.ETH_TSSTAT] [.flt, .twn] s t) ∧
  (∀ s st full, ∃ t, exec (.talkerPduSend st full) s = .next t ∧ Changes [.ETH_PSTAT] [.flt, .eth, .twn] s t) ∧
  (∀ s p st pdu, ∃ t, exec (.listenerPduReceived p st pdu) s = .next t ∧ Changes [.LIN_D0, .LIN_D1, .GW_STAT, .ETH_PSTAT]
      [.flt, .can, .eth, .twn] s t) ∧
  (∀ s n f sof, ∃ t, exec (.nmFrameReceived n f sof) s = .next t ∧ Changes [.SYS_WAKESRC, .PU_PD, .PU_STAT, .DOC_STAT,
      .CTX_STAT, .CTX_LASTQ, .CTXC_STAT, .CAN_STAT, .CAN_ERR, .CAN_QSTAT, .CAN_TXPEND, .CAN_TXDONE, .CAN_TXS, .LIN_SCHED,
      .LIN_D0, .LIN_D1, .GW_STAT, .ETH_PSTAT, .NM_STAT, .FLT_STAT] [.fab, .doc, .flt, .can, .lin, .eth, .nm, .twn] s t) ∧
  (∀ s, ∃ t, exec .nmCycle s = .next t ∧ Changes [.NM_STAT] [.can, .twn] s t) ∧
  (∀ s, ∃ t, exec .sleepPendingEntry s = .next t ∧ Changes [.NM_STAT] [.can, .lin, .nm, .twn] s t) ∧
  (∀ s, ∃ t, exec .tpendExpiry s = .next t ∧ Changes [] [.nm, .twn] s t) ∧
  (∀ s, ∃ t, exec .nmBusIdle s = .next t ∧ Changes [.PU_PD, .PU_STAT, .DOC_STAT, .CTX_STAT, .CTX_LASTQ, .CTXC_STAT,
      .CAN_STAT, .CAN_QSTAT, .LIN_SCHED, .NM_STAT] [.fab, .doc, .can, .lin, .nm, .twn] s t) ∧
  (∀ s, ∃ t, exec .nmStandbyDone s = .next t ∧ Changes [.PU_PD, .PU_STAT, .DOC_STAT, .CTX_STAT, .CTX_LASTQ, .CTXC_STAT,
      .CAN_STAT, .CAN_QSTAT, .LIN_SCHED, .NM_STAT] [.fab, .doc, .can, .lin, .nm, .twn] s t) ∧
  (∀ s who, ∃ t, exec (.nmCmdWake who) s = .next t ∧ Changes [.SYS_WAKESRC, .PU_PD, .PU_STAT, .DOC_STAT, .CTX_STAT,
      .CTX_LASTQ, .CTXC_STAT, .CAN_STAT, .CAN_QSTAT, .LIN_SCHED, .NM_STAT] [.fab, .doc, .flt, .can, .lin, .nm, .twn, .spi] s
      t) ∧
  (∀ s who w, ∃ t, exec (.nmCtlWrite who w) s = .next t ∧ Changes [.SYS_WAKESRC, .PU_PD, .PU_STAT, .DOC_STAT, .CTX_STAT,
      .CTX_LASTQ, .CTXC_STAT, .CAN_STAT, .CAN_QSTAT, .LIN_SCHED, .NM_CTL, .NM_STAT] [.fab, .doc, .flt, .can, .lin, .nm, .twn,
      .spi] s t) ∧
  (∀ s, ∃ t, exec .nmLocalWakeLine s = .next t ∧ Changes [.SYS_WAKESRC, .PU_PD, .PU_STAT, .DOC_STAT, .CTX_STAT, .CTX_LASTQ,
      .CTXC_STAT, .CAN_STAT, .CAN_QSTAT, .LIN_SCHED, .NM_STAT] [.fab, .doc, .flt, .can, .lin, .nm, .twn] s t) ∧
  (∀ s, ∃ t, exec .nmWakeFromSleep s = .next t ∧ Changes [.PU_PD, .PU_STAT, .DOC_STAT, .CTX_STAT, .CTX_LASTQ, .CTXC_STAT,
      .CAN_STAT, .CAN_QSTAT, .LIN_SCHED, .NM_STAT] [.fab, .doc, .can, .lin, .nm, .twn] s t) ∧
  (∀ s k frame, ∃ t, exec (.pnClusterTimeout k frame) s = .next t ∧ Changes [.PU_PD, .PU_STAT, .DOC_STAT, .CTX_STAT,
      .CTX_LASTQ, .CTXC_STAT, .CAN_STAT, .CAN_QSTAT, .LIN_SCHED, .NM_STAT] [.fab, .doc, .can, .lin, .nm, .twn] s t) ∧
  (∀ s n, ∃ t, exec (.clusterActivationTimeout n) s = .next t ∧ Changes [] [.flt, .can, .twn] s t) ∧
  (∀ s n, ∃ t, exec (.txdRecessiveReturn n) s = .next t ∧ Changes [.FLT_STAT] [.flt, .can, .twn] s t) ∧
  (∀ s p sqi, ∃ t, exec (.ethLinkUp p sqi) s = .next t ∧ Changes [.ETH_PSTAT, .FLT_STAT] [.flt, .twn] s t) ∧
  (∀ s p, ∃ t, exec (.plcaBeaconReturn p) s = .next t ∧ Changes [.FLT_STAT] [.flt, .eth, .twn] s t)

/-- Conservator and twin-link commands: what they leave unchanged. From every state and with all operands each command answers a
next state in which every register but those named, at every index, and every part of the state but those named are as they
were, every byte of memory among them where the memory is not named; the queue and the variant are as they were. The
registers named are those that the spec lets the command write, directly or through the turn-off, trip, recovery, fault
report and reaction that its rules attach to it. (16_conservator_faults.md, 17_twin_pair.md) -/
def Obligations.ConservatorAndTwinFrames : Prop :=
  (∀ s n, ∃ t, exec (.faultReport n) s = .next t ∧ Changes [.SYS_MODE, .SYS_MODERES, .PU_PD, .PU_STAT, .HSW_STAT, .HBR_STAT,
      .HBR_POS, .VLV_STAT, .VHS_STAT, .CTD_STAT, .LED_STAT, .LED_EFF, .DOC_STAT, .CTX_STAT, .CTX_LASTQ, .CTXC_STAT,
      .CAN_QSTAT, .FLT_STAT, .FLT_LOST, .FLT_ATTN, .FLT_INJSTAT, .FLT_RGSTAT, .TWN_STAT] [.sys, .fab, .doc, .flt, .trips,
      .hsw, .hbr, .coil, .bank, .led, .can, .nm, .twn] s t) ∧
  (∀ s g, ∃ t, exec (.reactionSequenceEnd g) s = .next t ∧ Changes [.FLT_RGSTAT] [.twn] s t) ∧
  (∀ s g, ∃ t, exec (.shadowWindowEnd g) s = .next t ∧ Changes [.FLT_RGSTAT] [.twn] s t) ∧
  (∀ s src, ∃ t, exec (.sourceActivityExpiry src) s = .next t ∧ Changes [.FLT_STAT] [.flt, .twn] s t) ∧
  (∀ s, ∃ t, exec .logWrite s = .next t ∧ Changes [.FLT_LOGCNT] [.mem, .flt, .twn] s t) ∧
  (∀ s, ∃ t, exec .logBufferFlush s = .next t ∧ Changes [.FLT_LOGCNT] [.mem, .flt, .twn] s t) ∧
  (∀ s who g, ∃ t, exec (.fltRgcmdRelease who g) s = .next t ∧ Changes [.PU_PD, .PU_STAT, .HSW_STAT, .HBR_STAT, .HBR_POS,
      .VLV_STAT, .VHS_STAT, .CTD_STAT, .LED_STAT, .LED_EFF, .FLT_STAT, .FLT_RGSTAT] [.fab, .doc, .flt, .trips, .hsw, .hbr,
      .coil, .bank, .led, .nm, .twn, .spi] s t) ∧
  (∀ s g, ∃ t, exec (.groupAutoRelease g) s = .next t ∧ Changes [.PU_PD, .PU_STAT, .HSW_STAT, .HBR_STAT, .HBR_POS, .VLV_STAT,
      .VHS_STAT, .CTD_STAT, .LED_STAT, .LED_EFF, .FLT_STAT, .FLT_RGSTAT] [.fab, .flt, .trips, .hsw, .hbr, .coil, .bank, .led,
      .nm, .twn] s t) ∧
  (∀ s mask, ∃ t, exec (.fltAttnAck mask) s = .next t ∧ Changes [.FLT_ATTN] [.doc, .twn, .spi] s t) ∧
  (∀ s who, ∃ t, exec (.fltCmdClrlog who) s = .next t ∧ Changes [.FLT_LOGCNT] [.mem, .doc, .twn, .spi] s t) ∧
  (∀ s, ∃ t, exec .fltCmdClrlost s = .next t ∧ Changes [.FLT_LOST] [.doc, .twn, .spi] s t) ∧
  (∀ s who src tinj, ∃ t, exec (.fltInjLive who src tinj) s = .next t ∧ Changes [.FLT_INJSTAT] [.doc, .flt, .twn, .spi] s t) ∧
  (∀ s who src tinj, ∃ t, exec (.fltInjDry who src tinj) s = .next t ∧ Changes [.FLT_INJSTAT] [.doc, .flt, .twn, .spi] s t) ∧
  (∀ s, ∃ t, exec .fltInjEnd s = .next t ∧ Changes [.FLT_STAT, .FLT_INJSTAT] [.doc, .flt, .twn, .spi] s t) ∧
  (∀ s, ∃ t, exec .injectionExpiry s = .next t ∧ Changes [.FLT_STAT, .FLT_INJSTAT] [.flt, .twn] s t) ∧
  (∀ s sentA sentB decA decB, ∃ t, exec (.digestExchange sentA sentB decA decB) s = .next t ∧ Changes [.SYS_MODE,
      .SYS_MODERES, .PU_PD, .PU_STAT, .HSW_STAT, .HBR_STAT, .HBR_POS, .VLV_STAT, .VHS_STAT, .CTD_STAT, .LED_STAT, .LED_EFF,
      .FLT_STAT, .FLT_RGSTAT, .TST_STAT, .TWN_STAT] [.sys, .fab, .flt, .trips, .hsw, .hbr, .coil, .bank, .led, .nm, .twn] s t) ∧
  (∀ s who, ∃ t, exec (.tstCmdSelfTestA who) s = .next t ∧ Changes [.TST_STAT] [.doc, .flt, .twn, .spi] s t) ∧
  (∀ s who, ∃ t, exec (.tstCmdSelfTestB who) s = .next t ∧ Changes [.TST_STAT] [.doc, .flt, .twn, .spi] s t) ∧
  (∀ s who, ∃ t, exec (.tstCmdCompareTest who) s = .next t ∧ Changes [.TST_STAT] [.doc, .flt, .twn, .spi] s t) ∧
  (∀ s who g, ∃ t, exec (.tstCmdForcePathTest who g) s = .next t ∧ Changes [.TST_STAT] [.doc, .flt, .twn, .spi] s t) ∧
  (∀ s, ∃ t, exec .takeoverRelease s = .next t ∧ Changes [.PU_PD, .PU_STAT, .HSW_STAT, .HSW_LOCK0, .HSW_LOCK1, .HBR_STAT,
      .HBR_POS, .VLV_STAT, .VHS_STAT, .CTD_STAT, .LED_STAT, .LED_EFF, .DOC_STAT, .CTX_STAT, .CTX_LASTQ, .CTXC_STAT, .CAN_CFG,
      .CAN_STAT, .CAN_QSTAT, .CAN_TXPEND, .CAN_TXDONE, .CAN_TXS, .FLT_STAT, .FLT_RGSTAT, .TWN_STAT] [.fab, .doc, .flt,
      .trips, .hsw, .hbr, .coil, .bank, .led, .can, .nm, .twn] s t) ∧
  (∀ s, ∃ t, exec .handoverRoleTimer s = .next t ∧ Changes [.PU_PD, .PU_STAT, .HSW_STAT, .DOC_STAT, .CTX_STAT, .CTX_LASTQ,
      .CTXC_STAT, .CAN_CFG, .CAN_STAT, .CAN_QSTAT, .CAN_TXPEND, .CAN_TXDONE, .CAN_TXS, .FLT_STAT, .TWN_STAT] [.fab, .doc,
      .flt, .hsw, .can, .nm, .twn] s t) ∧
  (∀ s, ∃ t, exec .twstartExpiry s = .next t ∧ Changes [.PU_PD, .PU_STAT, .HSW_STAT, .HSW_LOCK0, .HSW_LOCK1, .HBR_STAT,
      .HBR_POS, .VLV_STAT, .VHS_STAT, .CTD_STAT, .LED_STAT, .LED_EFF, .DOC_STAT, .CTX_STAT, .CTX_LASTQ, .CTXC_STAT, .CAN_CFG,
      .CAN_STAT, .CAN_QSTAT, .CAN_TXPEND, .CAN_TXDONE, .CAN_TXS, .FLT_STAT, .FLT_RGSTAT, .TWN_STAT] [.fab, .doc, .flt,
      .trips, .hsw, .hbr, .coil, .bank, .led, .can, .nm, .twn] s t) ∧
  (∀ s, ∃ t, exec .trainingFrameSend s = .next t ∧ Changes [.TWN_STAT] [.twn] s t) ∧
  (∀ s, ∃ t, exec .heartbeatSend s = .next t ∧ Changes [.PU_PD, .PU_STAT, .DOC_STAT, .CTX_LASTQ, .CTXC_STAT, .CAN_QSTAT]
      [.fab, .doc, .can, .nm, .twn] s t) ∧
  (∀ s, ∃ t, exec .protectionShipTick s = .next t ∧ Changes [] [.twn] s t) ∧
  (∀ s, ∃ t, exec .linkLost s = .next t ∧ Changes [.TWN_STAT] [.flt, .twn] s t) ∧
  (∀ s lane, ∃ t, exec (.laneLost lane) s = .next t ∧ Changes [.TWN_STAT, .TWN_LINK] [.flt, .twn] s t) ∧
  (∀ s who, ∃ t, exec (.twnCmdFailback who) s = .next t ∧ Changes [.PU_PD, .PU_STAT, .DOC_STAT, .CTX_LASTQ, .CTXC_STAT,
      .CAN_QSTAT] [.fab, .doc, .can, .nm, .twn, .spi] s t) ∧
  (∀ s who, ∃ t, exec (.twnCmdResync who) s = .next t ∧ Changes [.TWN_STAT, .TWN_LINK] [.doc, .twn, .spi] s t) ∧
  (∀ s, ∃ t, exec .twokIRise s = .next t ∧ Changes [.TWN_STAT] [.twn] s t) ∧
  (∀ s lane, ∃ t, exec (.twinLaneUp lane) s = .next t ∧ Changes [.TWN_STAT] [.twn] s t)

/-- Key store, host port and calibration commands: what they leave unchanged. From every state and with all operands each
command answers a next state in which every register but those named, at every index, and every part of the state but those
named are as they were, every byte of memory among them where the memory is not named; the queue and the variant are as they
were. The registers named are those that the spec lets the command write, directly or through the turn-off, trip, recovery,
fault report and reaction that its rules attach to it. (18_provenance_keys.md, 19_host_port_calibration.md) -/
def Obligations.KeyAndHostFrames : Prop :=
  (∀ s who, ∃ t, exec (.keyCmdApply who) s = .next t ∧ Changes [.KEY_STAT, .KEY_RES, .KEY_UNSCNT, .KEY_DBGCNT] [.doc, .flt,
      .twn, .key, .spi] s t) ∧
  (∀ s who slot flags, ∃ t, exec (.keyCmdPlainwr who slot flags) s = .next t ∧ Changes [.KEY_STAT, .KEY_RES, .KEY_PLAIN]
      [.doc, .twn, .key, .spi] s t) ∧
  (∀ s who idx, ∃ t, exec (.keyCmdImgkey who idx) s = .next t ∧ Changes [.KEY_STAT, .KEY_RES, .KEY_PLAIN] [.doc, .twn, .key,
      .spi] s t) ∧
  (∀ s who, ∃ t, exec (.keyCmdSvcchal who) s = .next t ∧ Changes [.KEY_STAT, .KEY_RES, .KEY_SVCNONCE] [.doc, .twn, .key,
      .spi] s t) ∧
  (∀ s who, ∃ t, exec (.keyCmdSvcauth who) s = .next t ∧ Changes [.KEY_STAT, .KEY_RES] [.doc, .flt, .twn, .key, .spi] s t) ∧
  (∀ s who, ∃ t, exec (.keyCmdClrcache who) s = .next t ∧ Changes [.KEY_RES] [.doc, .twn, .key, .spi] s t) ∧
  (∀ s, ∃ t, exec .keyCommitDone s = .next t ∧ Changes [.KEY_STAT, .KEY_RES, .KEY_PLAIN, .KEY_CONF, .KEY_SLOT, .KEY_SCNT]
      [.flt, .twn, .key] s t) ∧
  (∀ s, ∃ t, exec .svcokExpiry s = .next t ∧ Changes [.KEY_STAT] [.twn] s t) ∧
  (∀ s, ∃ t, exec .svcLockoutExpiry s = .next t ∧ Changes [] [.twn, .key] s t) ∧
  (∀ s who addr, ∃ t, exec (.keyOpgo who addr) s = .next t ∧ Changes [.KEY_OPSTAT] [.doc, .twn, .key, .spi] s t) ∧
  (∀ s, ∃ t, exec .keyOperationDone s = .next t ∧ Changes [.KEY_STAT, .KEY_RES, .KEY_OPSTAT, .KEY_UNSCNT, .KEY_DBGCNT] [.mem,
      .flt, .twn, .key] s t) ∧
  (∀ s w, ∃ t, exec (.keyTcfgWrite w) s = .next t ∧ Changes [.KEY_TCFG] [.doc, .twn, .spi] s t) ∧
  (∀ s f, ∃ t, exec (.hostReservedCommand f) s = .next t ∧ Changes [.HST_STAT] [.doc, .twn, .spi] s t) ∧
  (∀ s, ∃ t, exec .hostFrameAbort s = .next t ∧ Changes [.HST_STAT] [.twn, .spi] s t) ∧
  (∀ s r w, ∃ t, exec (.calValWrite r w) s = .next t ∧ Changes [.CAL_VAL, .CAL_INFO] [.doc, .twn, .cal, .spi] s t) ∧
  (∀ s r, ∃ t, exec (.calCommitDone r) s = .next t ∧ Changes [.CAL_INFO] [.twn, .cal] s t) ∧
  (∀ s src dst block, ∃ t, exec (.crossingTimeout src dst block) s = .next t ∧ Changes [] [.fab, .doc, .flt, .twn] s t)

/-- Commands with wide effects: the parts they leave unchanged. Resets, boundaries, wakes, core commands, window and host
accesses, tamper events and twin frames may change many registers; each of them answers a next state, from every state and
with all operands, in which every part of the state that is named is as it was, the memory byte by byte.
(01_islands_and_flow.md, 02_modes_start_hold.md, 17_twin_pair.md, 18_provenance_keys.md) -/
def Obligations.WideFrames : Prop :=
  (∀ s p, ∃ t, exec (.powerIslandReset p) s = .next t ∧ ∀ p ∈ [Part.mem, .tb, .cat, .fab, .doc, .memx, .lch, .inp, .rdata,
      .can, .lin, .eth, .nm, .key, .cal, .spi, .mgmt, .mgmtTag], p.same s t) ∧
  (∀ s, ∃ t, exec .supplyBrownout s = .next t ∧ ∀ p ∈ [Part.tb, .buckets, .fold, .rdata, .pwr, .cal], p.same s t) ∧
  (∀ s half, ∃ t, exec (.referenceLoss half) s = .next t ∧ ∀ p ∈ [Part.tb, .buckets, .fold, .rdata, .pwr, .cal], p.same s t) ∧
  (∀ s cause, ∃ t, exec (.logicReset cause) s = .next t ∧ ∀ p ∈ [Part.tb, .buckets, .fold, .rdata, .pwr, .cal], p.same s t) ∧
  (∀ s ok, ∃ t, exec (.pufAttemptDone ok) s = .next t ∧ ∀ p ∈ [Part.tb, .cat, .memx, .buckets, .fold, .inp, .rdata, .lin,
      .eth, .pwr, .cal, .spi, .mgmt, .mgmtTag], p.same s t) ∧
  (∀ s readErr, ∃ t, exec (.imageReadDone readErr) s = .next t ∧ ∀ p ∈ [Part.tb, .cat, .memx, .buckets, .fold, .inp, .rdata,
      .lin, .eth, .pwr, .cal, .spi, .mgmt, .mgmtTag], p.same s t) ∧
  (∀ s, ∃ t, exec .imageVerifyDone s = .next t ∧ ∀ p ∈ [Part.tb, .memx, .buckets, .fold, .inp, .rdata, .lin, .eth, .pwr,
      .cal, .spi, .mgmt, .mgmtTag], p.same s t) ∧
  (∀ s, ∃ t, exec .catalogueLoadDone s = .next t ∧ ∀ p ∈ [Part.outs, .doc, .memx, .flt, .trips, .buckets, .hsw, .hbr, .coil,
      .bank, .fold, .rdata, .can, .lin, .eth, .pwr, .key, .cal, .spi, .mgmt, .mgmtTag], p.same s t) ∧
  (∀ s, ∃ t, exec .startBoundary s = .next t ∧ ∀ p ∈ [Part.tb, .memx, .buckets, .fold, .rdata, .pwr, .key, .cal, .spi, .mgmt,
      .mgmtTag], p.same s t) ∧
  (∀ s, ∃ t, exec .modeBoundary s = .next t ∧ ∀ p ∈ [Part.tb, .cat, .memx, .buckets, .fold, .rdata, .pwr, .key, .cal, .spi,
      .mgmt, .mgmtTag], p.same s t) ∧
  (∀ s k, ∃ t, exec (.staggerStepExpiry k) s = .next t ∧ ∀ p ∈ [Part.mem, .tb, .cat, .memx, .buckets, .fold, .lch, .inp,
      .rdata, .lin, .eth, .pwr, .key, .cal, .spi, .mgmt, .mgmtTag], p.same s t) ∧
  (∀ s, ∃ t, exec .powerDownDone s = .next t ∧ ∀ p ∈ [Part.mem, .tb, .outs, .cat, .memx, .flt, .trips, .buckets, .hsw, .hbr,
      .coil, .bank, .led, .fold, .inp, .rdata, .lin, .eth, .pwr, .key, .cal, .spi, .mgmt, .mgmtTag], p.same s t) ∧
  (∀ s who w, ∃ t, exec (.sysRstcmd who w) s = .next t ∧ ∀ p ∈ [Part.tb, .buckets, .fold, .rdata, .pwr, .cal], p.same s t) ∧
  (∀ s c w, ∃ t, exec (.docWdkick c w) s = .next t ∧ ∀ p ∈ [Part.tb, .buckets, .fold, .rdata, .pwr, .cal], p.same s t) ∧
  (∀ s, ∃ t, exec .watchdogExpiry s = .next t ∧ ∀ p ∈ [Part.tb, .buckets, .fold, .rdata, .pwr, .cal], p.same s t) ∧
  (∀ s volts, ∃ t, exec (.parkedSinPoll volts) s = .next t ∧ ∀ p ∈ [Part.mem, .tb, .outs, .cat, .memx, .flt, .trips,
      .buckets, .hsw, .hbr, .coil, .bank, .led, .fold, .rdata, .lin, .eth, .pwr, .key, .cal, .spi, .mgmt, .mgmtTag], p.same s
      t) ∧
  (∀ s p width, ∃ t, exec (.canWakePattern p width) s = .next t ∧ ∀ p ∈ [Part.mem, .tb, .outs, .cat, .memx, .trips, .buckets,
      .hsw, .hbr, .coil, .bank, .led, .fold, .inp, .rdata, .eth, .pwr, .key, .cal, .spi, .mgmt, .mgmtTag], p.same s t) ∧
  (∀ s p frame, ∃ t, exec (.canWakeFrame p frame) s = .next t ∧ ∀ p ∈ [Part.mem, .tb, .outs, .cat, .memx, .flt, .trips,
      .buckets, .hsw, .hbr, .coil, .bank, .led, .fold, .inp, .rdata, .lin, .eth, .pwr, .key, .cal, .spi, .mgmt, .mgmtTag],
      p.same s t) ∧
  (∀ s p, ∃ t, exec (.linWakePulse p) s = .next t ∧ ∀ p ∈ [Part.mem, .tb, .outs, .cat, .memx, .trips, .buckets, .hsw, .hbr,
      .coil, .bank, .led, .fold, .inp, .rdata, .eth, .pwr, .key, .cal, .spi, .mgmt, .mgmtTag], p.same s t) ∧
  (∀ s, ∃ t, exec .alwaysOnTimerWake s = .next t ∧ ∀ p ∈ [Part.mem, .tb, .outs, .cat, .memx, .flt, .trips, .buckets, .hsw,
      .hbr, .coil, .bank, .led, .fold, .inp, .rdata, .lin, .eth, .pwr, .key, .cal, .spi, .mgmt, .mgmtTag], p.same s t) ∧
  (∀ s, ∃ t, exec .twokIFall s = .next t ∧ ∀ p ∈ [Part.mem, .tb, .outs, .cat, .memx, .trips, .buckets, .hsw, .hbr, .coil,
      .bank, .led, .fold, .inp, .rdata, .lin, .eth, .pwr, .key, .cal, .spi, .mgmt, .mgmtTag], p.same s t) ∧
  (∀ s, ∃ t, exec .wakePowerUpDone s = .next t ∧ ∀ p ∈ [Part.outs, .trips, .buckets, .hsw, .hbr, .coil, .bank, .fold, .rdata,
      .pwr, .cal], p.same s t) ∧
  (∀ s ok, ∃ t, exec (.retentionCheckDone ok) s = .next t ∧ ∀ p ∈ [Part.tb, .outs, .trips, .buckets, .hsw, .hbr, .coil,
      .bank, .led, .fold, .rdata, .pwr, .cal], p.same s t) ∧
  (∀ s, ∃ t, exec .wakeBoundary s = .next t ∧ ∀ p ∈ [Part.tb, .buckets, .fold, .rdata, .pwr, .cal], p.same s t) ∧
  (∀ s, ∃ t, exec .pollPeriodExpiry s = .next t ∧ ∀ p ∈ [Part.mem, .outs, .cat, .memx, .flt, .trips, .buckets, .hsw, .hbr,
      .coil, .bank, .fold, .rdata, .lin, .eth, .pwr, .key, .cal, .spi, .mgmt, .mgmtTag], p.same s t) ∧
  (∀ s, ∃ t, exec .pollWindowEnd s = .next t ∧ ∀ p ∈ [Part.mem, .tb, .outs, .cat, .memx, .flt, .trips, .buckets, .hsw, .hbr,
      .coil, .bank, .led, .fold, .inp, .rdata, .lin, .eth, .pwr, .key, .cal, .spi, .mgmt, .mgmtTag], p.same s t) ∧
  (∀ s d ecc lost, ∃ t, exec (.move d ecc lost) s = .next t ∧ ∀ p ∈ [Part.tb, .buckets, .fold], p.same s t) ∧
  (∀ s c port b, ∃ t, exec (.aluOperation c port b) s = .next t ∧ ∀ p ∈ [Part.tb, .buckets, .fold], p.same s t) ∧
  (∀ s c port b, ∃ t, exec (.mulMultiply c port b) s = .next t ∧ ∀ p ∈ [Part.tb, .buckets, .fold], p.same s t) ∧
  (∀ s c port b, ∃ t, exec (.mulDivide c port b) s = .next t ∧ ∀ p ∈ [Part.tb, .buckets, .fold], p.same s t) ∧
  (∀ s c port b, ∃ t, exec (.satOperation c port b) s = .next t ∧ ∀ p ∈ [Part.tb, .buckets, .fold], p.same s t) ∧
  (∀ s c port b, ∃ t, exec (.lsuLoad c port b) s = .next t ∧ ∀ p ∈ [Part.tb, .buckets, .fold], p.same s t) ∧
  (∀ s c port b, ∃ t, exec (.lsuStore c port b) s = .next t ∧ ∀ p ∈ [Part.tb, .buckets, .fold], p.same s t) ∧
  (∀ s c port b, ∃ t, exec (.lsuAtomic c port b) s = .next t ∧ ∀ p ∈ [Part.tb, .buckets, .fold], p.same s t) ∧
  (∀ s c g, ∃ t, exec (.lsuStatRead c g) s = .next t ∧ ∀ p ∈ [Part.tb, .buckets, .fold], p.same s t) ∧
  (∀ s c, ∃ t, exec (.strCopy c) s = .next t ∧ ∀ p ∈ [Part.tb, .buckets, .fold], p.same s t) ∧
  (∀ s c b, ∃ t, exec (.strFill c b) s = .next t ∧ ∀ p ∈ [Part.tb, .buckets, .fold], p.same s t) ∧
  (∀ s c, ∃ t, exec (.strCmp c) s = .next t ∧ ∀ p ∈ [Part.tb, .buckets, .fold], p.same s t) ∧
  (∀ s c, ∃ t, exec (.strCrc c) s = .next t ∧ ∀ p ∈ [Part.tb, .buckets, .fold], p.same s t) ∧
  (∀ s c port b, ∃ t, exec (.pcJump c port b) s = .next t ∧ ∀ p ∈ [Part.tb, .buckets, .fold], p.same s t) ∧
  (∀ s c port b, ∃ t, exec (.pcCall c port b) s = .next t ∧ ∀ p ∈ [Part.tb, .buckets, .fold], p.same s t) ∧
  (∀ s c b, ∃ t, exec (.evtWait c b) s = .next t ∧ ∀ p ∈ [Part.tb, .buckets, .fold], p.same s t) ∧
  (∀ s c b, ∃ t, exec (.evtSend c b) s = .next t ∧ ∀ p ∈ [Part.tb, .buckets, .fold], p.same s t) ∧
  (∀ s c b, ∃ t, exec (.evtClr c b) s = .next t ∧ ∀ p ∈ [Part.tb, .buckets, .fold], p.same s t) ∧
  (∀ s c, ∃ t, exec (.evtYield c) s = .next t ∧ ∀ p ∈ [Part.tb, .buckets, .fold], p.same s t) ∧
  (∀ s c g, ∃ t, exec (.tmrNow c g) s = .next t ∧ ∀ p ∈ [Part.tb, .buckets, .fold], p.same s t) ∧
  (∀ s c b, ∃ t, exec (.tmrUntil c b) s = .next t ∧ ∀ p ∈ [Part.tb, .buckets, .fold], p.same s t) ∧
  (∀ s c b, ∃ t, exec (.tmrAfter c b) s = .next t ∧ ∀ p ∈ [Part.tb, .buckets, .fold], p.same s t) ∧
  (∀ s c b, ∃ t, exec (.tmrAlarm c b) s = .next t ∧ ∀ p ∈ [Part.tb, .buckets, .fold], p.same s t) ∧
  (∀ s c, ∃ t, exec (.tmrAloff c) s = .next t ∧ ∀ p ∈ [Part.tb, .buckets, .fold], p.same s t) ∧
  (∀ s c n, ∃ t, exec (.repT c n) s = .next t ∧ ∀ p ∈ [Part.tb, .buckets, .fold], p.same s t) ∧
  (∀ s c w g, ∃ t, exec (.windowRead c w g) s = .next t ∧ ∀ p ∈ [Part.tb, .buckets, .fold], p.same s t) ∧
  (∀ s c w b, ∃ t, exec (.windowWrite c w b) s = .next t ∧ ∀ p ∈ [Part.tb, .buckets, .fold], p.same s t) ∧
  (∀ s d read, ∃ t, exec (.windowTimeout d read) s = .next t ∧ ∀ p ∈ [Part.tb, .buckets, .fold], p.same s t) ∧
  (∀ s d pll, ∃ t, exec (.coreFailure d pll) s = .next t ∧ ∀ p ∈ [Part.tb, .buckets, .fold, .rdata, .pwr, .cal], p.same s t) ∧
  (∀ s mv, ∃ t, exec (.mainRecovery mv) s = .next t ∧ ∀ p ∈ [Part.mem, .tb, .outs, .cat, .memx, .trips, .buckets, .bank,
      .led, .fold, .inp, .rdata, .lin, .eth, .key, .cal, .spi, .mgmt, .mgmtTag], p.same s t) ∧
  (∀ s, ∃ t, exec .bothHalvesLost s = .next t ∧ ∀ p ∈ [Part.tb, .buckets, .fold, .rdata, .pwr, .cal], p.same s t) ∧
  (∀ s half failed, ∃ t, exec (.selfTestCycle half failed) s = .next t ∧ ∀ p ∈ [Part.tb, .buckets, .fold, .rdata, .pwr,
      .cal], p.same s t) ∧
  (∀ s failed, ∃ t, exec (.testComplete failed) s = .next t ∧ ∀ p ∈ [Part.tb, .buckets, .fold, .rdata, .pwr, .cal], p.same s
      t) ∧
  (∀ s f, ∃ t, exec (.twinSuspensionUnit f) s = .next t ∧ ∀ p ∈ [Part.tb, .cat, .memx, .buckets, .fold, .inp, .rdata, .lin,
      .eth, .pwr, .cal, .spi, .mgmt, .mgmtTag], p.same s t) ∧
  (∀ s f, ∃ t, exec (.twinOutputCommand f) s = .next t ∧ ∀ p ∈ [Part.tb, .buckets, .fold, .rdata], p.same s t) ∧
  (∀ s f, ∃ t, exec (.twinProtectionState f) s = .next t ∧ ∀ p ∈ [Part.tb, .cat, .memx, .fold, .inp, .rdata, .lin, .eth,
      .pwr, .cal, .spi, .mgmt, .mgmtTag], p.same s t) ∧
  (∀ s f, ∃ t, exec (.twinCan f) s = .next t ∧ ∀ p ∈ [Part.tb, .cat, .memx, .buckets, .fold, .inp, .rdata, .lin, .eth, .pwr,
      .cal, .spi, .mgmt, .mgmtTag], p.same s t) ∧
  (∀ s f, ∃ t, exec (.twinConditionReport f) s = .next t ∧ ∀ p ∈ [Part.tb, .cat, .memx, .buckets, .fold, .inp, .rdata, .lin,
      .eth, .pwr, .cal, .spi, .mgmt, .mgmtTag], p.same s t) ∧
  (∀ s f, ∃ t, exec (.twinHeartbeat f) s = .next t ∧ ∀ p ∈ [Part.tb, .cat, .memx, .buckets, .fold, .inp, .rdata, .lin, .eth,
      .pwr, .cal, .spi, .mgmt, .mgmtTag], p.same s t) ∧
  (∀ s f, ∃ t, exec (.twinResyncBlock f) s = .next t ∧ ∀ p ∈ [Part.tb, .fold, .rdata], p.same s t) ∧
  (∀ s f, ∃ t, exec (.twinClosing f) s = .next t ∧ ∀ p ∈ [Part.tb, .cat, .memx, .fold, .inp, .rdata, .lin, .eth, .pwr, .cal,
      .spi, .mgmt, .mgmtTag], p.same s t) ∧
  (∀ s f, ∃ t, exec (.twinRoleClaim f) s = .next t ∧ ∀ p ∈ [Part.tb, .cat, .memx, .buckets, .fold, .inp, .rdata, .lin, .eth,
      .pwr, .cal, .spi, .mgmt, .mgmtTag], p.same s t) ∧
  (∀ s f, ∃ t, exec (.twinTraining f) s = .next t ∧ ∀ p ∈ [Part.tb, .cat, .memx, .buckets, .fold, .inp, .rdata, .lin, .eth,
      .pwr, .cal, .spi, .mgmt, .mgmtTag], p.same s t) ∧
  (∀ s src, ∃ t, exec (.tamperEvent src) s = .next t ∧ ∀ p ∈ [Part.tb, .cat, .memx, .buckets, .fold, .inp, .rdata, .lin,
      .eth, .pwr, .cal, .spi, .mgmt, .mgmtTag], p.same s t) ∧
  (∀ s ident, ∃ t, exec (.debugRequest ident) s = .next t ∧ ∀ p ∈ [Part.tb, .cat, .memx, .buckets, .fold, .inp, .rdata, .lin,
      .eth, .pwr, .cal, .spi, .mgmt, .mgmtTag], p.same s t) ∧
  (∀ s f, ∃ t, exec (.hostNop f) s = .next t ∧ ∀ p ∈ [Part.tb, .buckets, .fold], p.same s t) ∧
  (∀ s f, ∃ t, exec (.hostRead f) s = .next t ∧ ∀ p ∈ [Part.tb, .buckets, .fold], p.same s t) ∧
  (∀ s f, ∃ t, exec (.hostWrite f) s = .next t ∧ ∀ p ∈ [Part.tb, .buckets, .fold], p.same s t) ∧
  (∀ s f, ∃ t, exec (.hostReads f) s = .next t ∧ ∀ p ∈ [Part.tb, .buckets, .fold], p.same s t) ∧
  (∀ s f, ∃ t, exec (.hostWrites f) s = .next t ∧ ∀ p ∈ [Part.tb, .buckets, .fold], p.same s t) ∧
  (∀ s who addr w, ∃ t, exec (.registerWrite who addr w) s = .next t ∧ ∀ p ∈ [Part.tb, .buckets, .fold, .rdata], p.same s t) ∧
  (∀ s dgram late coll ecc, ∃ t, exec (.mgmtRequest dgram late coll ecc) s = .next t ∧ ∀ p ∈ [Part.tb, .buckets, .fold],
      p.same s t) ∧
  (∀ s d, ∃ t, exec (.windowQueueDrain d) s = .next t ∧ ∀ p ∈ [Part.tb, .buckets, .fold, .rdata], p.same s t)

/-- A command for one unit leaves the registers of the other units alone. A command for a high-side channel answers a next state
in which the channel registers (HSW block) have changed at the indices of its parallel group only (R197); one for a bridge,
a lighting chain, a CAN port or a LIN port, one in which the registers of its block have changed at its own index only.
(05_switch_channels.md, 06_bridges_motion.md, 08_lighting.md, 12_can.md, 13_lin_ethernet_gateway.md) -/
def Obligations.UnitLocality : Prop :=
  (∀ s n, ∃ t, exec (.channelCommandChange n) s = .next t ∧
      ∀ r : RegRef, r.reg.block = 4 → r.i ∉ s.grp n → t.reg r = s.reg r) ∧
  (∀ s n iMa, ∃ t, exec (.channelShortCut n iMa) s = .next t ∧
      ∀ r : RegRef, r.reg.block = 4 → r.i ∉ s.grp n → t.reg r = s.reg r) ∧
  (∀ s n iMa, ∃ t, exec (.currentLimitEntry n iMa) s = .next t ∧
      ∀ r : RegRef, r.reg.block = 4 → r.i ∉ s.grp n → t.reg r = s.reg r) ∧
  (∀ s n iMa, ∃ t, exec (.currentLimitExit n iMa) s = .next t ∧
      ∀ r : RegRef, r.reg.block = 4 → r.i ∉ s.grp n → t.reg r = s.reg r) ∧
  (∀ s n iMa, ∃ t, exec (.tlimExpiry n iMa) s = .next t ∧
      ∀ r : RegRef, r.reg.block = 4 → r.i ∉ s.grp n → t.reg r = s.reg r) ∧
  (∀ s n iMa, ∃ t, exec (.inrushWindowEnd n iMa) s = .next t ∧
      ∀ r : RegRef, r.reg.block = 4 → r.i ∉ s.grp n → t.reg r = s.reg r) ∧
  (∀ s n iMa, ∃ t, exec (.inrushExtensionEnd n iMa) s = .next t ∧
      ∀ r : RegRef, r.reg.block = 4 → r.i ∉ s.grp n → t.reg r = s.reg r) ∧
  (∀ s n, ∃ t, exec (.droopDetected n) s = .next t ∧
      ∀ r : RegRef, r.reg.block = 4 → r.i ∉ s.grp n → t.reg r = s.reg r) ∧
  (∀ s n p iMa voutMv dt tj, ∃ t, exec (.wireModelUpdate n p iMa voutMv dt tj) s = .next t ∧
      ∀ r : RegRef, r.reg.block = 4 → r.i ∉ s.grp n → t.reg r = s.reg r) ∧
  (∀ s n dt tj, ∃ t, exec (.deltaTTrip n dt tj) s = .next t ∧
      ∀ r : RegRef, r.reg.block = 4 → r.i ∉ s.grp n → t.reg r = s.reg r) ∧
  (∀ s n iMa, ∃ t, exec (.stuckOn n iMa) s = .next t ∧
      ∀ r : RegRef, r.reg.block = 4 → r.i ∉ s.grp n → t.reg r = s.reg r) ∧
  (∀ s n, ∃ t, exec (.stuckOnClear n) s = .next t ∧
      ∀ r : RegRef, r.reg.block = 4 → r.i ∉ s.grp n → t.reg r = s.reg r) ∧
  (∀ s who n, ∃ t, exec (.hswClrTrip who n) s = .next t ∧
      ∀ r : RegRef, r.reg.block = 4 → r.i ∉ s.grp n → t.reg r = s.reg r) ∧
  (∀ s n iMa, ∃ t, exec (.openLoadMeasurement n iMa) s = .next t ∧
      ∀ r : RegRef, r.reg.block = 4 → r.i ∉ s.grp n → t.reg r = s.reg r) ∧
  (∀ s b, ∃ t, exec (.bridgeCommandChange b) s = .next t ∧
      ∀ r : RegRef, r.reg.block = 5 → r.i ≠ b → t.reg r = s.reg r) ∧
  (∀ s b, ∃ t, exec (.reversalBrakeEnd b) s = .next t ∧
      ∀ r : RegRef, r.reg.block = 5 → r.i ≠ b → t.reg r = s.reg r) ∧
  (∀ s b iMa, ∃ t, exec (.bridgeCycleLimit b iMa) s = .next t ∧
      ∀ r : RegRef, r.reg.block = 5 → r.i ≠ b → t.reg r = s.reg r) ∧
  (∀ s b, ∃ t, exec (.cycleLimitEnd b) s = .next t ∧
      ∀ r : RegRef, r.reg.block = 5 → r.i ≠ b → t.reg r = s.reg r) ∧
  (∀ s b, ∃ t, exec (.bridgeLimitExit b) s = .next t ∧
      ∀ r : RegRef, r.reg.block = 5 → r.i ≠ b → t.reg r = s.reg r) ∧
  (∀ s b iMa, ∃ t, exec (.bridgeTlimExpiry b iMa) s = .next t ∧
      ∀ r : RegRef, r.reg.block = 5 → r.i ≠ b → t.reg r = s.reg r) ∧
  (∀ s b iMa, ∃ t, exec (.brakeOvercurrent b iMa) s = .next t ∧
      ∀ r : RegRef, r.reg.block = 5 → r.i ≠ b → t.reg r = s.reg r) ∧
  (∀ s b sw iMa, ∃ t, exec (.bridgeShortCut b sw iMa) s = .next t ∧
      ∀ r : RegRef, r.reg.block = 5 → r.i ≠ b → t.reg r = s.reg r) ∧
  (∀ s b iMa, ∃ t, exec (.bridgeOpenLoad b iMa) s = .next t ∧
      ∀ r : RegRef, r.reg.block = 5 → r.i ≠ b → t.reg r = s.reg r) ∧
  (∀ s b tk iMa ampMa inHz dir, ∃ t, exec (.positionCount b tk iMa ampMa inHz dir) s = .next t ∧
      ∀ r : RegRef, r.reg.block = 5 → r.i ≠ b → t.reg r = s.reg r) ∧
  (∀ s b cause, ∃ t, exec (.positionError b cause) s = .next t ∧
      ∀ r : RegRef, r.reg.block = 5 → r.i ≠ b → t.reg r = s.reg r) ∧
  (∀ s b, ∃ t, exec (.pinchPeriodExceeded b) s = .next t ∧
      ∀ r : RegRef, r.reg.block = 5 → r.i ≠ b → t.reg r = s.reg r) ∧
  (∀ s b iMa, ∃ t, exec (.stallDetected b iMa) s = .next t ∧
      ∀ r : RegRef, r.reg.block = 5 → r.i ≠ b → t.reg r = s.reg r) ∧
  (∀ s b, ∃ t, exec (.tstopbrkExpiry b) s = .next t ∧
      ∀ r : RegRef, r.reg.block = 5 → r.i ≠ b → t.reg r = s.reg r) ∧
  (∀ s who b w, ∃ t, exec (.hbrTgtWrite who b w) s = .next t ∧
      ∀ r : RegRef, r.reg.block = 5 → r.i ≠ b → t.reg r = s.reg r) ∧
  (∀ s who b w, ∃ t, exec (.hbrPosset who b w) s = .next t ∧
      ∀ r : RegRef, r.reg.block = 5 → r.i ≠ b → t.reg r = s.reg r) ∧
  (∀ s who b, ∃ t, exec (.hbrClrTrip who b) s = .next t ∧
      ∀ r : RegRef, r.reg.block = 5 → r.i ≠ b → t.reg r = s.reg r) ∧
  (∀ s who b, ∃ t, exec (.hbrClrStop who b) s = .next t ∧
      ∀ r : RegRef, r.reg.block = 5 → r.i ≠ b → t.reg r = s.reg r) ∧
  (∀ s who b w, ∃ t, exec (.hbrSflt who b w) s = .next t ∧
      ∀ r : RegRef, r.reg.block = 5 → r.i ≠ b → t.reg r = s.reg r) ∧
  (∀ s n, ∃ t, exec (.refreshStart n) s = .next t ∧
      ∀ r : RegRef, r.reg.block = 8 → r.i ≠ n.chain → t.reg r = s.reg r) ∧
  (∀ s n ret, ∃ t, exec (.refreshComplete n ret) s = .next t ∧
      ∀ r : RegRef, r.reg.block = 8 → r.i ≠ n → t.reg r = s.reg r) ∧
  (∀ s n, ∃ t, exec (.chainUnderrun n) s = .next t ∧
      ∀ r : RegRef, r.reg.block = 8 → r.i ≠ n.chain → t.reg r = s.reg r) ∧
  (∀ s who n, ∃ t, exec (.lchCtlSwap who n) s = .next t ∧
      ∀ r : RegRef, r.reg.block = 8 → r.i ≠ n → t.reg r = s.reg r) ∧
  (∀ s who n, ∃ t, exec (.lchCtlDisc who n) s = .next t ∧
      ∀ r : RegRef, r.reg.block = 8 → r.i ≠ n → t.reg r = s.reg r) ∧
  (∀ s n found delay, ∃ t, exec (.discoveryDone n found delay) s = .next t ∧
      ∀ r : RegRef, r.reg.block = 8 → r.i ≠ n → t.reg r = s.reg r) ∧
  (∀ s n, ∃ t, exec (.discoveryRetry n) s = .next t ∧
      ∀ r : RegRef, r.reg.block = 8 → r.i ≠ n → t.reg r = s.reg r) ∧
  (∀ s who n q, ∃ t, exec (.canRxdRead who n q) s = .next t ∧
      ∀ r : RegRef, r.reg.block = 13 → r.i ≠ n → t.reg r = s.reg r) ∧
  (∀ s who n q w, ∃ t, exec (.canRxpop who n q w) s = .next t ∧
      ∀ r : RegRef, r.reg.block = 13 → r.i ≠ n → t.reg r = s.reg r) ∧
  (∀ s who n b i w, ∃ t, exec (.canTxBufferWrite who n b i w) s = .next t ∧
      ∀ r : RegRef, r.reg.block = 13 → r.i ≠ n → t.reg r = s.reg r) ∧
  (∀ s who n w, ∃ t, exec (.canTxRequest who n w) s = .next t ∧
      ∀ r : RegRef, r.reg.block = 13 → r.i ≠ n → t.reg r = s.reg r) ∧
  (∀ s who n w inArb, ∃ t, exec (.canTxCancel who n w inArb) s = .next t ∧
      ∀ r : RegRef, r.reg.block = 13 → r.i ≠ n → t.reg r = s.reg r) ∧
  (∀ s n e, ∃ t, exec (.canStagingDone n e) s = .next t ∧
      ∀ r : RegRef, r.reg.block = 13 → r.i ≠ n → t.reg r = s.reg r) ∧
  (∀ s n, ∃ t, exec (.canTxChoice n) s = .next t ∧
      ∀ r : RegRef, r.reg.block = 13 → r.i ≠ n → t.reg r = s.reg r) ∧
  (∀ s n e tdcv, ∃ t, exec (.canTxError n e tdcv) s = .next t ∧
      ∀ r : RegRef, r.reg.block = 13 → r.i ≠ n → t.reg r = s.reg r) ∧
  (∀ s n e, ∃ t, exec (.canRxError n e) s = .next t ∧
      ∀ r : RegRef, r.reg.block = 13 → r.i ≠ n → t.reg r = s.reg r) ∧
  (∀ s n, ∃ t, exec (.busOffRecoveryDone n) s = .next t ∧
      ∀ r : RegRef, r.reg.block = 13 → r.i ≠ n → t.reg r = s.reg r) ∧
  (∀ s who n, ∃ t, exec (.canCmdRecover who n) s = .next t ∧
      ∀ r : RegRef, r.reg.block = 13 → r.i ≠ n → t.reg r = s.reg r) ∧
  (∀ s who n, ∃ t, exec (.canCmdClrlonely who n) s = .next t ∧
      ∀ r : RegRef, r.reg.block = 13 → r.i ≠ n → t.reg r = s.reg r) ∧
  (∀ s n, ∃ t, exec (.canIntegrationDone n) s = .next t ∧
      ∀ r : RegRef, r.reg.block = 13 → r.i ≠ n → t.reg r = s.reg r) ∧
  (∀ s n own, ∃ t, exec (.txdDominantTimeout n own) s = .next t ∧
      ∀ r : RegRef, r.reg.block = 13 → r.i ≠ n → t.reg r = s.reg r) ∧
  (∀ s n, ∃ t, exec (.txdRecessiveReturn n) s = .next t ∧
      ∀ r : RegRef, r.reg.block = 13 → r.i ≠ n → t.reg r = s.reg r) ∧
  (∀ s n, ∃ t, exec (.gatewayBufferLoad n) s = .next t ∧
      ∀ r : RegRef, r.reg.block = 13 → r.i ≠ n → t.reg r = s.reg r) ∧
  (∀ s n, ∃ t, exec (.linSlotStart n) s = .next t ∧
      ∀ r : RegRef, r.reg.block = 14 → r.i ≠ n → t.reg r = s.reg r) ∧
  (∀ s n any coll, ∃ t, exec (.linResponseTimeout n any coll) s = .next t ∧
      ∀ r : RegRef, r.reg.block = 14 → r.i ≠ n → t.reg r = s.reg r) ∧
  (∀ s n, ∃ t, exec (.linBusDominant n) s = .next t ∧
      ∀ r : RegRef, r.reg.block = 14 → r.i ≠ n → t.reg r = s.reg r) ∧
  (∀ s who n w, ∃ t, exec (.linSchedWrite who n w) s = .next t ∧
      ∀ r : RegRef, r.reg.block = 14 → r.i ≠ n → t.reg r = s.reg r) ∧
  (∀ s who n, ∃ t, exec (.linCmdWake who n) s = .next t ∧
      ∀ r : RegRef, r.reg.block = 14 → r.i ≠ n → t.reg r = s.reg r) ∧
  (∀ s who n k i w, ∃ t, exec (.linDataWrite who n k i w) s = .next t ∧
      ∀ r : RegRef, r.reg.block = 14 → r.i ≠ n → t.reg r = s.reg r) ∧
  (∀ s who n k i, ∃ t, exec (.linDataRead who n k i) s = .next t ∧
      ∀ r : RegRef, r.reg.block = 14 → r.i ≠ n → t.reg r = s.reg r) ∧
  (∀ s n, ∃ t, exec (.linScheduleResume n) s = .next t ∧
      ∀ r : RegRef, r.reg.block = 14 → r.i ≠ n → t.reg r = s.reg r)

/-- Host writes barred outside Service mode are discarded and set RSVD. Outside Service mode, with the host port up, a host
write of a register at its address that would change an RWS field is discarded whole: the register and everything else keep
their values but for RSVD, which is set. CTX_CMD with QUARANTINE outside Service mode is discarded in the same way. (R15,
R376) -/
def Obligations.HostWritesBarred : Prop :=
  (∀ (s : State) (a : Nat) (r : RegRef) (w : Word), s.hostUp = true → s.mode ≠ 8 → s.regAt a = some r →
    s.rwsBarred .host r w = true →
    ∃ t, exec (.registerWrite .host a w) s = .next t ∧ t.spi.rsvd = true ∧ t.reg r = s.reg r ∧ Changes [] [.spi, .twn] s t) ∧
  (∀ (s : State) (c : Nat), s.hostUp = true → s.mode ≠ 8 →
    ∃ t, exec (.ctxCmdQuarantine .host c) s = .next t ∧ t.spi.rsvd = true ∧ t.cst c = s.cst c ∧ Changes [] [.spi, .twn] s t)

/-- Mode requests that are refused or reserved. Of host software whose port is up, and of a context: a request for code 0, 10 or
11 shows REJ_CODE (5), one for a code from 12 on is a reserved write (RSVD for the host, PWRSV for a context) that changes
nothing else, and one for any other code while a transition is in progress shows REJ_BUSY (4); none of them is queued. A
Sealed module takes no request. That a forbidden code is refused as such even while a transition is in progress is the
model's reading (log entry 43). (R54) -/
def Obligations.RefusedRequests : Prop :=
  (∀ (s : State) (w : Who) (code : Nat), (w = .host → s.hostUp = true) → s.sys.phase ≠ .sealed → code = 0 ∨ code = 10 ∨ code = 11 →
    ∃ t, exec (.modeRequest w code none) s = .next t ∧ t.fld SYS_MODERES.RES = 5 ∧ t.fld SYS_MODERES.REQMODE = code ∧
      t.sys.pend = s.sys.pend ∧ Changes [.SYS_MODERES] [.twn] s t) ∧
  (∀ (s : State) (w : Who) (code : Nat), (w = .host → s.hostUp = true) → 12 ≤ code →
    ∃ t, exec (.modeRequest w code none) s = .next t ∧ (w = .host → t.spi.rsvd = true) ∧
      (∀ c, w = .ctx c → bitOf (t.port c pLsuStat).toNat 1 = true) ∧ Changes [] [.spi, .doc, .twn] s t) ∧
  (∀ (s : State) (w : Who) (code : Nat), (w = .host → s.hostUp = true) → s.sys.phase ≠ .sealed → code < 10 → code ≠ 0 →
    s.bit SYS_MODE.BUSY = true →
    ∃ t, exec (.modeRequest w code none) s = .next t ∧ t.fld SYS_MODERES.RES = 4 ∧ t.fld SYS_MODERES.REQMODE = code ∧
      t.sys.pend = s.sys.pend ∧ Changes [.SYS_MODERES] [.twn] s t)

/-- Lines take the levels of their sources; a logic cell looks up its table. One pass over the lines gives every configured line
the level of its source and leaves the others. With LUT[8D + 4C + 2B + A] of the levels of the four lines that a cell names:
a line fed by a COMB cell carries it, inverted where INV is set; the flip-flop of a REG cell loads it on every edge, that of
a CAPTURE cell when D rises and else keeps its value. With the fabric down neither settling nor a clock edge changes
anything. (R144) -/
def Obligations.FabricLines : Prop :=
  (∀ (s : State) (n : Nat), n < 512 → n ∈ s.lineIds → s.linePass.line n = s.srcLevel n) ∧
  (∀ (s : State) (n : Nat), n < 512 → n ∉ s.lineIds → s.linePass.line n = s.line n) ∧
  (∀ (s : State) (n c : Nat), n < 512 → n ∈ s.lineIds → s.fld FAB_LSRC.KIND n = 5 → s.fld FAB_LSRC.INDEX n = c →
    s.fld LC_CFG.MODE c = 0 → s.linePass.line n = xor (s.bit FAB_LSRC.INV n) (bitOf (s.fld LC_CFG.LUT c) (8 * b2n (s.line (s.fld LC_INCD.D c)) +
      4 * b2n (s.line (s.fld LC_INCD.C c)) + 2 * b2n (s.line (s.fld LC_INAB.B c)) + b2n (s.line (s.fld LC_INAB.A c))))) ∧
  (∀ (s : State) (c : Nat), c < 128 → c ∈ s.lcIds → s.fld LC_CFG.MODE c = 1 →
    (s.lcEdge s.lcIds).fab.ff.getLsbD c = bitOf (s.fld LC_CFG.LUT c) (8 * b2n (s.line (s.fld LC_INCD.D c)) +
      4 * b2n (s.line (s.fld LC_INCD.C c)) + 2 * b2n (s.line (s.fld LC_INAB.B c)) + b2n (s.line (s.fld LC_INAB.A c)))) ∧
  (∀ (s : State) (c : Nat), c < 128 → c ∈ s.lcIds → s.fld LC_CFG.MODE c = 2 →
    (s.lcEdge s.lcIds).fab.ff.getLsbD c = if s.line (s.fld LC_INCD.D c) && !s.fab.dPrev.getLsbD c then bitOf (s.fld LC_CFG.LUT c) (8 * b2n (s.line (s.fld LC_INCD.D c)) +
      4 * b2n (s.line (s.fld LC_INCD.C c)) + 2 * b2n (s.line (s.fld LC_INAB.B c)) + b2n (s.line (s.fld LC_INAB.A c)))
      else s.fab.ff.getLsbD c) ∧
  (∀ s : State, s.sys.fabricUp = false → s.settle = s ∧ s.fabricEdge = s)

/-- Division by zero and overflow yield the stated values and do not trap. For every context that is free to issue, DIVS or DIVU
with B = 0 leave LO = 0xFFFFFFFF and HI = A once the division completes, DIVS of -2^31 by -1 leaves LO = -2^31 and HI = 0,
and for all operands the context's state and the trap records are as they were. (R339) -/
def Obligations.DivisionCorners : Prop :=
  ∀ (s : State) (c d p : Nat) (b : Word), s.freeToIssue c d = true → p = 0x046 ∨ p = 0x047 →
    ∃ t u, exec (.mulDivide c p b) s = .next t ∧ exec (.divideComplete c) t = .next u ∧ t.cst c = s.cst c ∧
      u.cst c = s.cst c ∧ (∀ e, u.reg ⟨.DOC_TRAP, e, 0, 0⟩ = s.reg ⟨.DOC_TRAP, e, 0, 0⟩) ∧
      (b = 0 → u.port c pMulLo = 0xFFFFFFFF ∧ u.port c pMulHi = s.port c pMulA) ∧
      (p = 0x046 → s.port c pMulA = 0x80000000 → b = 0xFFFFFFFF → u.port c pMulLo = 0x80000000 ∧ u.port c pMulHi = 0)

/-- Transmit buffer words may be written only while the buffer rests. A write, by one who reaches the port, of word 0 to 20 of a
fitted port's buffer in IDLE, DONE, CANCELLED or FAILED (and not the gateway's) stores the word and changes nothing else; in
PENDING, ACTIVE or HELD, or the gateway's, it is discarded and sets RSVD for the host, PWRSV for a context. (R410) -/
def Obligations.TxBufferGuard : Prop :=
  (∀ (s : State) (w : Who) (n b i : Nat) (x : Word), s.reaches w 13 = true → s.canFitted n = true → b < 32 → i < 21 → s.gwOwned n b = false →
    s.bst n b = bIdle ∨ s.bst n b = bDone ∨ s.bst n b = bCancelled ∨ s.bst n b = bFailed →
    ∃ t, exec (.canTxBufferWrite w n b i x) s = .next t ∧ t.txw n b i = x ∧
      (∀ r : RegRef, r ≠ ⟨.CAN_TXW, n, b, i⟩ → t.reg r = s.reg r) ∧ Changes [.CAN_TXW] [.twn] s t) ∧
  (∀ (s : State) (w : Who) (n b i : Nat) (x : Word), s.reaches w 13 = true → s.canFitted n = true → b < 32 → i < 21 →
    s.gwOwned n b = true ∨ s.bst n b = bPending ∨ s.bst n b = bActive ∨ s.bst n b = bHeld →
    ∃ t, exec (.canTxBufferWrite w n b i x) s = .next t ∧ (w = .host → t.spi.rsvd = true) ∧
      (∀ c, w = .ctx c → bitOf (t.port c pLsuStat).toNat 1 = true) ∧ Changes [] [.spi, .doc, .twn] s t)

/-- SUPPLY_GOOD, resets, island resets, the release from Hold and a hold timer's end. For every state and operand: SUPPLY_GOOD
in an unpowered module begins S1 with mode code 0, BUSY 1, PHASE 0 and STRAP as strapped. POWER_ON_RESET leaves the module
unpowered, the time base 0, the data bank bytes 0 and the queue as it was. In a phase that is neither unpowered nor Hold,
LOGIC_RESET of any cause enters Hold: mode code 10, PREV the interrupted mode, BUSY 0, the cause bit set; SUPPLY_BROWNOUT
enters Hold with BROWNOUT set and TWOK_O low; REFERENCE_LOSS seen by a half that works, outside Parked or with a poll window
open, with REFLOSS; BOTH_HALVES_LOST outside Parked while a half works, with CONSLOST and both halves shown lost; SYS_RSTCMD
0xA5C3 from host or context, with the host port up, with HOSTRST; WATCHDOG_EXPIRY of a running watchdog with WDOG.
LOGIC_RESET_RELEASE in Hold begins S1 with mode code 0, PREV 10, BUSY 1. POWER_ISLAND_RESET of one of the five islands in a
powered module drops the stagger steps and the trips of its outputs and leaves each fitted output of the island off.
HOLD_TIMER_EXPIRY of an output on its Vitrine whose timer runs: the output goes to its limp state, HOLDEXP is set and the
limp count grows by 1. (01_islands_and_flow.md, 02_modes_start_hold.md) -/
def Obligations.StartAndReset : Prop :=
  (∀ (s : State) (d : Bool), s.sys.phase = .unpowered → ∃ t, exec (.supplyGood d) s = .next t ∧ t.sys.phase = .s1 ∧
      t.fld SYS_MODE.MODE = 0 ∧ t.bit SYS_MODE.BUSY = true ∧ t.bit TWN_STAT.STRAP = d ∧ t.fld SYS_START.PHASE = 0) ∧
  (∀ (s : State) (a : Nat), 0x200000 ≤ a → a < 0x280000 → ∃ t, exec .powerOnReset s = .next t ∧ t.sys.phase = .unpowered ∧
      t.tb = 0 ∧ t.byte a = 0 ∧ t.pending = s.pending) ∧
  (∀ (s : State) (c : RstCause), s.sys.phase ≠ .unpowered → s.sys.phase ≠ .hold → ∃ t, exec (.logicReset c) s = .next t ∧
      t.sys.phase = .hold ∧ t.fld SYS_MODE.MODE = 10 ∧ t.fld SYS_MODE.PREV = s.fld SYS_MODE.MODE ∧
      t.bit SYS_MODE.BUSY = false ∧ t.bit (causeFld c) = true) ∧
  (∀ (s : State), s.sys.phase ≠ .unpowered → s.sys.phase ≠ .hold → ∃ t, exec .supplyBrownout s = .next t ∧
      t.sys.phase = .hold ∧ t.fld SYS_MODE.MODE = 10 ∧ t.bit SYS_RSTCAUSE.BROWNOUT = true ∧ t.bit TWN_STAT.TWOKO = false) ∧
  (∀ (s : State) (h : Half), s.sys.phase ≠ .unpowered → s.sys.phase ≠ .hold →
      s.sys.phase ≠ .parked ∨ s.sys.pollOpen = true → s.halfOk h = true → ∃ t, exec (.referenceLoss h) s = .next t ∧
      t.sys.phase = .hold ∧ t.fld SYS_MODE.MODE = 10 ∧ t.bit SYS_RSTCAUSE.REFLOSS = true) ∧
  (∀ (s : State), s.sys.phase ≠ .unpowered → s.sys.phase ≠ .hold → s.sys.phase ≠ .parked →
      s.halfOk .A = true ∨ s.halfOk .B = true → ∃ t, exec .bothHalvesLost s = .next t ∧ t.sys.phase = .hold ∧
      t.fld SYS_MODE.MODE = 10 ∧ t.bit SYS_RSTCAUSE.CONSLOST = true ∧ t.bit FLT_STAT.AOK = false ∧
      t.bit FLT_STAT.BOK = false ∧ t.flt.bothLost = true) ∧
  (∀ (s : State) (w : Who), s.sys.phase ≠ .unpowered → s.sys.phase ≠ .hold → s.hostUp = true →
      ∃ t, exec (.sysRstcmd w 0xA5C3) s = .next t ∧ t.sys.phase = .hold ∧ t.fld SYS_MODE.MODE = 10 ∧
      t.bit SYS_RSTCAUSE.HOSTRST = true) ∧
  (∀ (s : State), s.sys.phase ≠ .unpowered → s.sys.phase ≠ .hold → s.bit DOC_WDSTAT.RUN = true →
      ∃ t, exec .watchdogExpiry s = .next t ∧ t.sys.phase = .hold ∧ t.fld SYS_MODE.MODE = 10 ∧
      t.bit SYS_RSTCAUSE.WDOG = true) ∧
  (∀ (s : State), s.sys.phase = .hold → ∃ t, exec .logicResetRelease s = .next t ∧ t.sys.phase = .s1 ∧
      t.fld SYS_MODE.MODE = 0 ∧ t.fld SYS_MODE.PREV = 10 ∧ t.bit SYS_MODE.BUSY = true ∧ t.sys.afterHold = true) ∧
  (∀ (s : State) (p : Nat), p < 5 → s.sys.phase ≠ .unpowered → ∃ t, exec (.powerIslandReset p) s = .next t ∧
      t.sys.stag = s.sys.stag.filter (fun x => islandOf x.1 != p) ∧
      (∀ x, slotFitted s.variant x = true → islandOf x = p → t.out x = { (default : OutSt) with follow := .off }) ∧
      (∀ x, islandOf x = p → t.trip? x = default)) ∧
  (∀ (s : State) (x : Nat), x < 93 → (s.out x).timer = true → (s.out x).follow = .vitrine →
      ∃ t, exec (.holdTimerExpiry x) s = .next t ∧ (t.out x).follow = .limp ∧ (t.out x).timer = false ∧
      t.bit SYS_RSTCAUSE.HOLDEXP = true ∧ t.sys.limpCount = s.sys.limpCount + 1)

/-- Each phase of Start ends with its command and enters the next one. START_CLOCKS_LOCKED ends S1 in S2 (PHASE 1).
START_SUPERVISOR_CHECK_DONE with both halves passed ends S2 in S3 (PHASE 2), and with a failed half keeps S2, waiting for
the retry; S2_RETRY_TIMER with both halves passed ends that wait in S3. PUF_ATTEMPT_DONE with success ends S3 in S4 (PHASE
3), KEY_DERIVATION_DONE S4 in S5 (PHASE 4). IMAGE_READ_DONE in S5 keeps whether the read met an error, and ends in S6 (PHASE
5) where the slot passes its checks. IMAGE_VERIFY_DONE in S6: a slot that passes ends in S7 (PHASE 6) with its Catalogue;
one that fails before any fall-back goes back to S5 with the other slot. CATALOGUE_LOAD_DONE ends S7 in S8 (PHASE 7) with a
Catalogue loaded. START_BOUNDARY in S8 enters the first mode: PHASE 8, that mode, BUSY 0. (02_modes_start_hold.md,
03_catalogue.md) -/
def Obligations.StartPhases : Prop :=
  (∀ (s : State), s.sys.phase = .s1 → ∃ t, exec .startClocksLocked s = .next t ∧ t.sys.phase = .s2 ∧
      t.fld SYS_START.PHASE = 1) ∧
  (∀ (s : State), s.sys.phase = .s2 → ∃ t, exec (.startSupervisorCheckDone 0 0) s = .next t ∧ t.sys.phase = .s3 ∧
      t.fld SYS_START.PHASE = 2) ∧
  (∀ (s : State) (fa fb : Nat), s.sys.phase = .s2 → fa < 16 → fb < 16 → fa ≠ 0 ∨ fb ≠ 0 →
      ∃ t, exec (.startSupervisorCheckDone fa fb) s = .next t ∧ t.sys.phase = .s2fail) ∧
  (∀ (s : State), s.sys.phase = .s2fail → ∃ t, exec (.s2RetryTimer 0 0) s = .next t ∧ t.sys.phase = .s3 ∧
      t.fld SYS_START.PHASE = 2) ∧
  (∀ (s : State), s.sys.phase = .s3 → ∃ t, exec (.pufAttemptDone true) s = .next t ∧ t.sys.phase = .s4 ∧
      t.fld SYS_START.PHASE = 3 ∧ Changes [.SYS_START, .KEY_UID] [.sys, .twn] s t) ∧
  (∀ (s : State), s.sys.phase = .s4 → ∃ t, exec .keyDerivationDone s = .next t ∧ t.sys.phase = .s5 ∧
      t.sys.fellBack = false ∧ t.fld SYS_START.PHASE = 4) ∧
  (∀ (s : State) (e : Bool), s.sys.phase = .s5 → ∃ t, exec (.imageReadDone e) s = .next t ∧ t.sys.readErr = e ∧
      ((s.checkSlot s.sys.trySlot e).isRight = true → t.sys.phase = .s6 ∧ t.fld SYS_START.PHASE = 5)) ∧
  (∀ (s : State), s.sys.phase = .s6 → ∃ t, exec .imageVerifyDone s = .next t ∧
      (∀ c, s.checkSlot s.sys.trySlot s.sys.readErr = .inr c → t.sys.phase = .s7 ∧ t.cat.cat = c ∧ t.fld SYS_START.PHASE = 6) ∧
      (∀ e, s.checkSlot s.sys.trySlot s.sys.readErr = .inl e → s.sys.fellBack = false → t.sys.phase = .s5 ∧ t.sys.trySlot = !s.sys.trySlot)) ∧
  (∀ (s : State), s.sys.phase = .s7 → ∃ t, exec .catalogueLoadDone s = .next t ∧ t.sys.phase = .s8 ∧ t.cat.loaded = true ∧
      t.fld SYS_START.PHASE = 7) ∧
  (∀ (s : State), s.sys.phase = .s8 → ∃ t, exec .startBoundary s = .next t ∧ t.sys.interrupted = none ∧
      t.sys.afterHold = false ∧ t.fld SYS_START.PHASE = 8 ∧ t.mode = s.firstMode % 16 ∧ t.bit SYS_MODE.BUSY = false)

/-- Mode requests, boundaries, stagger steps, power-down, wake phases, poll windows, the watchdog kick. MODE_REQUEST of a code
below 12 that is judged accepted, in a powered module that is not Sealed, shows RES 1, REQMODE, TARGET and BUSY.
STAGING_TIMEOUT drops the transition in progress with RES 7. MODE_BOUNDARY of a requested transition into an operating mode
from Run's phase outside a poll window: the mode is its target, PREV the mode left, BUSY 0, RES 2, REQMODE the target.
STAGGER_STEP_EXPIRY takes its steps from the list. POWER_DOWN_DONE with no wake latched: Parked. WAKE_POWER_UP_DONE ends W2
of a wake into any mode but Start in W3; RETENTION_CHECK_DONE with success ends W3, once the retained banks are awake and
unless the wake goes to Start, in W4 with every fitted bank awake; WAKE_BOUNDARY outside a pair ends W4 in the operating
mode that the wake names, WARM set. POLL_PERIOD_EXPIRY in Watch with POLL not 0 opens a window; POLL_WINDOW_END with no
transition in progress closes it and AWAKE is 0. DOC_WDKICK with the expected key, not before TWMIN, restarts the running
watchdog and toggles NEXTKEY. (02_modes_start_hold.md, 11_contexts_memory.md) -/
def Obligations.ModesAndBoundaries : Prop :=
  (∀ (s : State) (w : Who) (code : Nat), s.hostUp = true → s.sys.phase ≠ .sealed → code < 12 → s.judge code = 1 →
      ∃ t, exec (.modeRequest w code none) s = .next t ∧ t.fld SYS_MODERES.RES = 1 ∧ t.fld SYS_MODERES.REQMODE = code ∧
      t.fld SYS_MODE.TARGET = code ∧ t.bit SYS_MODE.BUSY = true) ∧
  (∀ (s : State) (p : Pend), s.sys.pend = some p → ∃ t, exec .stagingTimeout s = .next t ∧ t.sys.pend = none ∧
      t.fld SYS_MODERES.RES = 7) ∧
  (∀ (s : State) (p : Pend), s.sys.phase = .run → s.sys.pollOpen = false → s.sys.pend = some p → p.src ≤ 4 → 3 ≤ p.target →
      p.target < 10 → ∃ t, exec .modeBoundary s = .next t ∧ t.sys.pend = none ∧ t.sys.phase = .run ∧ t.mode = p.target ∧
      t.fld SYS_MODE.PREV = s.mode ∧ t.bit SYS_MODE.BUSY = false ∧ t.fld SYS_MODERES.RES = 2 ∧
      t.fld SYS_MODERES.REQMODE = p.target) ∧
  (∀ (s : State) (k : Nat), s.sys.phase = .run → ∃ t, exec (.staggerStepExpiry k) s = .next t ∧
      t.sys.stag = s.sys.stag.filter (fun x => x.2.1 != k)) ∧
  (∀ (s : State), s.sys.phase = .parkDown → s.sys.latched = [] → ∃ t, exec .powerDownDone s = .next t ∧
      t.sys.phase = .parked) ∧
  (∀ (s : State) (w : Wake), s.sys.phase = .w2 → s.sys.waking = some w → w.target ≠ 0 →
      ∃ t, exec .wakePowerUpDone s = .next t ∧ t.sys.phase = .w3) ∧
  (∀ (s : State), s.sys.phase = .w3 → s.wakesToStart = false → s.banksAsleep = [] →
      ∃ t, exec (.retentionCheckDone true) s = .next t ∧ t.sys.phase = .w4 ∧
      t.fld MEM_STAT.AWAKE = 2 ^ nBanks s.variant - 1) ∧
  (∀ (s : State) (w : Wake), s.sys.phase = .w4 → s.sys.waking = some w → 3 ≤ w.target → w.target < 10 → s.isPair = false →
      ∃ t, exec .wakeBoundary s = .next t ∧ t.sys.waking = none ∧ t.sys.phase = .run ∧ t.mode = w.target ∧
      t.bit SYS_START.WARM = true) ∧
  (∀ (s : State), s.sys.phase = .parked → s.mode = 2 → s.fld SYS_WATCH.POLL ≠ 0 → s.sys.pollOpen = false →
      ∃ t, exec .pollPeriodExpiry s = .next t ∧ t.sys.pollOpen = true) ∧
  (∀ (s : State), s.sys.pollOpen = true → s.sys.pend = none → ∃ t, exec .pollWindowEnd s = .next t ∧
      t.sys.pollOpen = false ∧ t.fld MEM_STAT.AWAKE = 0) ∧
  (∀ (s : State) (c : Nat), s.bit DOC_WDSTAT.RUN = true → s.fld DOC_WDCFG.TWMIN * 100000 ≤ s.tb - s.doc.wdStart →
      ∃ t, exec (.docWdkick c (BitVec.ofNat 32 s.wdKey)) s = .next t ∧
      t.bit DOC_WDSTAT.NEXTKEY = !s.bit DOC_WDSTAT.NEXTKEY ∧ t.doc.wdStart = s.tb ∧ Changes [.DOC_WDSTAT] [.doc, .twn] s t)

/-- Wake sources in Parked and Watch, and TWOK_I low at a deputy. With the module asleep in Parked (a CAN frame: in Watch), no
poll window open and no transition in progress, a source that a WAKE entry arms begins a wake: phase W2, with the source's
bit, index and the target of its entry. PARKED_SIN_POLL does so for input 0 at its PDEB-th differing poll, CAN_WAKE_PATTERN
for a pattern at least as wide as the entry asks, CAN_WAKE_FRAME for a frame that the entry's filter and the data mask
accept, LIN_WAKE_PULSE for the entry's port, ALWAYS_ON_TIMER_WAKE always, with TIMER set. TWOK_I_FALL in an operating deputy
of a pair, after TWOK_I was high, clears TWOKI and confirms the take-over condition. Each clause ends with the registers and
parts of the state that alone may have changed. (02_modes_start_hold.md, 09_inputs.md, 12_can.md, 17_twin_pair.md) -/
def Obligations.WakeSources : Prop :=
  (∀ (s : State) (r : WakeRec) (mv : Nat), s.mode = 1 → s.sys.phase = .parked → s.sys.pollOpen = false → s.sys.pend = none →
      s.armed 0 0 = some r →
      rawLevel (s.inp.raw.getLsbD 0) mv (s.fld INP_SGRP.THRL) (s.fld INP_SGRP.THRH) ≠ bitOf (s.fld INP_PREF.REF) 0 →
      s.fld INP_PARK.PDEB = Tbl.get s.sys.pollRun 0 0 + 1 → ∃ t, exec (.parkedSinPoll [mv]) s = .next t ∧
      t.sys.phase = .w2 ∧ t.sys.waking = some ⟨0, 0, r.target⟩ ∧
      Changes [.SYS_MODE, .SYS_WAKESRC, .SYS_MODERES] [.sys, .inp, .twn] s t) ∧
  (∀ (s : State) (p width : Nat) (r : WakeRec), s.mode = 1 → s.sys.phase = .parked → s.sys.pollOpen = false →
      s.sys.pend = none → p < nCan s.variant → s.armed 1 p = some r → r.param ≤ width →
      ∃ t, exec (.canWakePattern p width) s = .next t ∧ t.sys.phase = .w2 ∧ t.sys.waking = some ⟨1, p, r.target⟩ ∧
      Changes [.SYS_MODE, .SYS_WAKESRC, .SYS_MODERES] [.sys, .twn] s t) ∧
  (∀ (s : State) (p : Nat) (r : WakeRec) (f : CanFrame), s.mode = 2 → s.sys.phase = .parked → s.sys.pollOpen = false →
      s.sys.pend = none → s.armed 2 p = some r → s.filterHit p f r.param = true → s.wakeData p f = true →
      ∃ t, exec (.canWakeFrame p (some f)) s = .next t ∧ t.sys.phase = .w2 ∧ t.sys.waking = some ⟨1, p, r.target⟩ ∧
      Changes [.SYS_MODE, .SYS_WAKESRC, .SYS_MODERES] [.sys, .can, .twn] s t) ∧
  (∀ (s : State) (p : Nat) (r : WakeRec), s.mode = 1 → s.sys.phase = .parked → s.sys.pollOpen = false → s.sys.pend = none →
      p < nLin s.variant → s.armed 3 p = some r → ∃ t, exec (.linWakePulse p) s = .next t ∧ t.sys.phase = .w2 ∧
      t.sys.waking = some ⟨2, p, r.target⟩ ∧ Changes [.SYS_MODE, .SYS_WAKESRC, .SYS_MODERES] [.sys, .twn] s t) ∧
  (∀ (s : State) (r : WakeRec), s.mode = 1 → s.sys.phase = .parked → s.sys.pollOpen = false → s.sys.pend = none →
      s.armed 4 0 = some r → ∃ t, exec .alwaysOnTimerWake s = .next t ∧ t.sys.phase = .w2 ∧
      t.sys.waking = some ⟨3, 0, r.target⟩ ∧ t.bit SYS_WAKESRC.TIMER = true ∧
      Changes [.SYS_MODE, .SYS_WAKESRC, .SYS_MODERES] [.sys, .twn] s t) ∧
  (∀ (s : State), s.bit TWN_STAT.TWOKI = true → s.asleep = false → s.isPair = true → s.sys.phase = .run →
      s.isDeputy = true → ∃ t, exec .twokIFall s = .next t ∧ t.bit TWN_STAT.TWOKI = false ∧ t.twn.confirmed = true ∧
      Changes [.TWN_STAT] [.twn] s t)

/-- Writing an image: open, erase, words, close, check, commit, abort. Where slot writing is permitted (host port up, a mode
that allows it): OPEN in a state but ERASING, CHECKING and COMMITTING begins the erase with WORDS and ERR 0; SLOT_ERASE_DONE
leaves every byte of the slot that is not primary 0xFF and the state OPEN; SLOT_WORD_WRITE of the next word in order puts it
into memory; CLOSE in OPEN begins the check; SLOT_CHECK_DONE ends it in FAILED with the code of the check that failed, or in
PASSED with ERR 0; COMMIT in Service mode of a PASSED slot begins the commit and sets CATLOCK; SLOT_COMMIT_DONE makes the
written slot primary; ABORT from ERASING to FAILED returns to IDLE. (03_catalogue.md) -/
def Obligations.SlotWriting : Prop :=
  (∀ (s : State), s.hostUp = true → s.slotMode = true → s.wst ≠ 1 → s.wst ≠ 3 → s.wst ≠ 6 →
      ∃ t, exec .catWctlOpen s = .next t ∧ t.wst = 1 ∧ t.fld CAT_WSTAT.WORDS = 0 ∧ t.fld CAT_WSTAT.ERR = 0 ∧
      t.cat.wNext = 0) ∧
  (∀ (s : State) (a : Nat), s.wst = 1 → slotBase s.writeSlot ≤ a → a < slotBase s.writeSlot + 0x400000 →
      ∃ t, exec .slotEraseDone s = .next t ∧ t.wst = 2 ∧ t.byte a = 0xFF) ∧
  (∀ (s : State) (w : Word), s.hostUp = true → s.slotMode = true → s.wst = 2 → s.cat.wNext < 0x100000 →
      ∃ t, exec (.slotWordWrite (slotBase s.writeSlot + 4 * s.cat.wNext) w) s = .next t ∧
      t.word (slotBase s.writeSlot + 4 * s.cat.wNext) = w ∧ t.cat.wNext = s.cat.wNext + 1 ∧ t.wst = 2) ∧
  (∀ (s : State), s.hostUp = true → s.slotMode = true → s.wst = 2 → ∃ t, exec .catWctlClose s = .next t ∧ t.wst = 3) ∧
  (∀ (s : State) (e : Bool), s.wst = 3 → ∃ t, exec (.slotCheckDone e) s = .next t ∧
      (match s.checkSlot s.writeSlot e with | .inl x => t.wst = 5 ∧ t.fld CAT_WSTAT.ERR = x.code % 16 | .inr _ => t.wst = 4 ∧ t.fld CAT_WSTAT.ERR = 0)) ∧
  (∀ (s : State), s.hostUp = true → s.slotMode = true → s.mode = 8 → s.wst = 4 → ∃ t, exec .catWctlCommit s = .next t ∧
      t.wst = 6 ∧ t.bit KEY_STAT.CATLOCK = true) ∧
  (∀ (s : State), s.wst = 6 → ∃ t, exec .slotCommitDone s = .next t ∧ t.wst = 7 ∧ t.bit CAT_STAT.PRIMARY = s.writeSlot) ∧
  (∀ (s : State), s.hostUp = true → s.slotMode = true → 0 < s.wst → s.wst < 6 → ∃ t, exec .catWctlAbort s = .next t ∧
      t.wst = 0 ∧ t.cat.wNext = 0)

/-- Line writes, pulse unit words, period ends, gate rises and line edges. With the fabric up: FAB_LWR of a live context that
owns the fitted line it names, reserved bits 0, and FAB_LWRGg of one that owns every line it names set the written levels of
those lines. PU_PD_WRITE by the unit's owner, outside a stagger group with PER at least 2, takes effect at once in a unit at
rest, and in a running one is kept for the period end, PU_PD unchanged. PULSE_PERIOD_END of a running unit that ticks by the
fabric clock, continuous and without a gate returns COUNT to 0. PU_GATE_RISE of a one-shot unit at rest whose gate line was
low and is high starts it at COUNT 0. LINE_EDGE_EVENT of an edge that a route has seen counts it in ERr_CNT, modulo 256, and
takes it from the edges. (04_line_fabric.md) -/
def Obligations.FabricWrites : Prop :=
  (∀ (s : State) (c : Nat) (w : Word), s.sys.fabricUp = true → s.ctxLive c = true → ext w 9 7 = 0 → ext w 17 15 = 0 →
      ext w 0 9 < nLines s.variant → s.ownsLine c (ext w 0 9) = true → ∃ t, exec (.fabLwr c w) s = .next t ∧
      t.fab.ctxVal.getLsbD (ext w 0 9) = bitOf (ext w 16 1) 0 ∧ t.fab.written.getLsbD (ext w 0 9) = true) ∧
  (∀ (s : State) (c g i : Nat) (w : Word), g < 32 → i < 16 → s.sys.fabricUp = true → s.ctxLive c = true →
      bitOf (ext w 0 16) i = true → (∀ p ∈ lwrgLines g w, p.1 < nLines s.variant ∧ s.ownsLine c p.1 = true) →
      ∃ t, exec (.fabLwrg c g w) s = .next t ∧ t.fab.ctxVal.getLsbD (16 * g + i) = bitOf (ext w 16 16) i ∧
      t.fab.written.getLsbD (16 * g + i) = true) ∧
  (∀ (s : State) (c u : Nat) (w : Word), s.sys.fabricUp = true → s.ctxLive c = true → u < nPu s.variant →
      s.fld PU_CFG.SG u = 0 → 2 ≤ ext w 0 16 → s.bit PU_PH.OWNED u = true → s.fld PU_PH.OWNER u = c →
      s.bit PU_STAT.RUN u = false → ∃ t, exec (.puPdWrite c u w) s = .next t ∧ t.reg ⟨.PU_PD, u, 0, 0⟩ = w) ∧
  (∀ (s : State) (c u : Nat) (w : Word), s.sys.fabricUp = true → s.ctxLive c = true → u < nPu s.variant →
      s.fld PU_CFG.SG u = 0 → 2 ≤ ext w 0 16 → s.bit PU_PH.OWNED u = true → s.fld PU_PH.OWNER u = c →
      s.bit PU_STAT.RUN u = true → ∃ t, exec (.puPdWrite c u w) s = .next t ∧ Tbl.get t.fab.pdShadow u 0 = w ∧
      t.reg ⟨.PU_PD, u, 0, 0⟩ = s.reg ⟨.PU_PD, u, 0, 0⟩) ∧
  (∀ (s : State) (u : Nat), s.sys.fabricUp = true → u < nPu s.variant → s.bit PU_STAT.RUN u = true →
      s.bit PU_CFG.TICK u = false → s.puOneShot u = false → s.bit PU_CFG.GATEEN u = false →
      ∃ t, exec (.pulsePeriodEnd u) s = .next t ∧ t.fld PU_STAT.COUNT u = 0) ∧
  (∀ (s : State) (u : Nat), s.sys.fabricUp = true → u < nPu s.variant → s.bit PU_CFG.GATEEN u = true → s.puGate u = true →
      s.fab.gatePrev.getLsbD u = false → s.puOneShot u = true → s.bit PU_STAT.RUN u = false → s.fld PU_PD.PER u ≠ 0 →
      ∃ t, exec (.puGateRise u) s = .next t ∧ t.bit PU_STAT.RUN u = true ∧ t.fld PU_STAT.COUNT u = 0) ∧
  (∀ (s : State) (r : Nat) (rising : Bool), s.sys.fabricUp = true → s.fab.edges.contains (r, rising) = true →
      ∃ t, exec (.lineEdgeEvent r rising) s = .next t ∧ t.fld ER_CNT.COUNT r = (s.fld ER_CNT.COUNT r + 1) % 256 ∧
      t.fab.edges = s.fab.edges.erase (r, rising))

/-- High-side channels: on, off, stretch, current limit, inrush, droop. A fitted channel in OFF, its supply not reversed,
follows a command ON: to ON where no inrush profile applies, to INRUSH where one does. A conducting one follows a command
OFF to OFF, the time kept, where no short on-period is to be stretched; where the on-period that ends on rank 4 with the
fabric up is the one to be stretched, the channel goes on conducting as stretching. A current within 8 % of ILIM or above
takes ON to LIMIT, one below 95 % of ILIM takes LIMIT to ON. INRUSH_WINDOW_END goes to ON at or below ILIM, above it to
LIMIT without a droop and into one extension (INREXT) with one; INRUSH_EXTENSION_END at or below ILIM goes to ON;
DROOP_DETECTED in the window records it. Currents are those that the calibration record corrects (log entry 11).
(05_switch_channels.md) -/
def Obligations.ChannelConduction : Prop :=
  (∀ (s : State) (n : Nat), hswFitted s.variant n = true → s.hs n = 0 → (s.cmd n).1 = true → s.profileApplies n = false →
      s.reversed n = false → ∃ t, exec (.channelCommandChange n) s = .next t ∧ t.hs n = 2) ∧
  (∀ (s : State) (n : Nat), hswFitted s.variant n = true → s.hs n = 0 → (s.cmd n).1 = true → s.profileApplies n = true →
      s.reversed n = false → ∃ t, exec (.channelCommandChange n) s = .next t ∧ t.hs n = 1) ∧
  (∀ (s : State) (n : Nat), hswFitted s.variant n = true → s.conducting n = true → (s.cmd n).1 = false →
      (s.ch n).stretching = false → (s.ch (s.leader n)).stretching = false → s.stretchDue (s.leader n) = false →
      ∃ t, exec (.channelCommandChange n) s = .next t ∧ t.hs n = 0 ∧ (t.ch n).offSince = some s.tb) ∧
  (∀ (s : State) (n : Nat), hswFitted s.variant n = true → s.sys.fabricUp = true → s.conducting n = true →
      (s.cmd n).1 = false → (s.ch n).stretching = false → s.forced n = none → (s.out n).follow = .lines →
      s.stretchDue (s.leader n) = true → ∃ t, exec (.channelCommandChange n) s = .next t ∧ t.hs n = s.hs n ∧
      (t.ch n).stretching = true ∧ t.bit HSW_STAT.CMD n = true) ∧
  (∀ (s : State) (n iMa : Nat), hswFitted s.variant n = true → s.hs n = 2 → 92 * s.ilimMa n ≤ 100 * s.sensedMa n iMa →
      ∃ t, exec (.currentLimitEntry n iMa) s = .next t ∧ t.hs n = 3) ∧
  (∀ (s : State) (n iMa : Nat), hswFitted s.variant n = true → s.hs n = 3 → 100 * s.sensedMa n iMa < 95 * s.ilimMa n →
      ∃ t, exec (.currentLimitExit n iMa) s = .next t ∧ t.hs n = 2) ∧
  (∀ (s : State) (n iMa : Nat), hswFitted s.variant n = true → s.hs n = 1 → (s.ch n).extended = false →
      s.sensedMa n iMa ≤ s.ilimMa n → ∃ t, exec (.inrushWindowEnd n iMa) s = .next t ∧ t.hs n = 2) ∧
  (∀ (s : State) (n iMa : Nat), hswFitted s.variant n = true → s.hs n = 1 → (s.ch n).extended = false →
      s.ilimMa n < s.sensedMa n iMa → (s.ch n).droop = false → ∃ t, exec (.inrushWindowEnd n iMa) s = .next t ∧ t.hs n = 3) ∧
  (∀ (s : State) (n iMa : Nat), hswFitted s.variant n = true → s.hs n = 1 → (s.ch n).extended = false →
      s.ilimMa n < s.sensedMa n iMa → (s.ch n).droop = true → ∃ t, exec (.inrushWindowEnd n iMa) s = .next t ∧ t.hs n = 1 ∧
      (t.ch n).extended = true ∧ t.bit HSW_STAT.INREXT n = true) ∧
  (∀ (s : State) (n iMa : Nat), hswFitted s.variant n = true → s.hs n = 1 → (s.ch n).extended = true →
      s.sensedMa n iMa ≤ s.ilimMa n → ∃ t, exec (.inrushExtensionEnd n iMa) s = .next t ∧ t.hs n = 2) ∧
  (∀ (s : State) (n : Nat), hswFitted s.variant n = true → s.hs n = 1 → (s.ch n).extended = false →
      ∃ t, exec (.droopDetected n) s = .next t ∧ (t.ch n).droop = true)

/-- High-side channels: trips, stuck on, wire model, open load. Of a fitted channel without partners: CHANNEL_SHORT_CUT while it
conducts at a current that crosses ISC trips with kind 0 and SC; TLIM_EXPIRY in LIMIT, and INRUSH_EXTENSION_END above ILIM,
with kind 1 and OC; JUNCTION_TRIP of a channel that can trip and is not locked, and DELTA_T_TRIP outside INRUSH at DTTRIP or
more, with kind 3 and THERM. Each enters TRIPPED; the condition of kinds 0 and 1 clears as the stage turns off, that of kind
3 does not yet. STUCK_ON above ISTUCK through a channel that does not conduct sets STUCK, holds kind 6 and keeps the state;
STUCK_ON_CLEAR withdraws that source unless a one-shot report of it is still active. WIRE_MODEL_UPDATE of a leader that is
not DISABLED, with the fabric up, no trip recorded and the model off (K1 = K2 = 0), shows the measured current and DT and
moves the first rise by one step. OPEN_LOAD_MEASUREMENT at OLTH or more of a conducting leader, not barred, reads OK with
the count of low measurements 0. What lies within the comparators' tolerance is the model's reading (log entries 11 and 59).
(05_switch_channels.md) -/
def Obligations.ChannelTrips : Prop :=
  (∀ (s : State) (n iMa : Nat), hswFitted s.variant n = true → s.grp n = [n] → s.conducting n = true →
      crossesIsc (iscMa n (s.fld HSW_LIM.ISC n)) (s.sensedMa n iMa) = true →
      ∃ t, exec (.channelShortCut n iMa) s = .next t ∧ t.hs n = 4 ∧ (t.trip? n).on = true ∧ (t.trip? n).kind = 0 ∧
      (t.trip? n).cond = true ∧ t.bit HSW_STAT.SC n = true) ∧
  (∀ (s : State) (n iMa : Nat), hswFitted s.variant n = true → s.grp n = [n] → s.hs n = 3 →
      ∃ t, exec (.tlimExpiry n iMa) s = .next t ∧ t.hs n = 4 ∧ (t.trip? n).on = true ∧ (t.trip? n).kind = 1 ∧
      (t.trip? n).cond = true ∧ t.bit HSW_STAT.OC n = true) ∧
  (∀ (s : State) (n iMa : Nat), hswFitted s.variant n = true → s.grp n = [n] → s.hs n = 1 → (s.ch n).extended = true →
      s.ilimMa n < s.sensedMa n iMa → ∃ t, exec (.inrushExtensionEnd n iMa) s = .next t ∧ t.hs n = 4 ∧
      (t.trip? n).on = true ∧ (t.trip? n).kind = 1 ∧ (t.trip? n).cond = true ∧ t.bit HSW_STAT.OC n = true) ∧
  (∀ (s : State) (n : Nat) (x : HotOutput), hswFitted s.variant n = true → s.grp n = [n] → s.canTrip n = true → s.hs n ≠ 5 →
      ∃ t, exec (.junctionTrip n x) s = .next t ∧ t.hs n = 4 ∧ (t.trip? n).on = true ∧ (t.trip? n).kind = 3 ∧
      (t.trip? n).cond = false ∧ t.bit HSW_STAT.THERM n = true) ∧
  (∀ (s : State) (n dt : Nat) (tj : Int), hswFitted s.variant n = true → s.grp n = [n] → s.canTrip n = true → s.hs n ≠ 1 →
      s.hs n ≠ 5 → 40 + 10 * s.fld HSW_TIME.DTTRIP n ≤ dt → ∃ t, exec (.deltaTTrip n dt tj) s = .next t ∧ t.hs n = 4 ∧
      (t.trip? n).on = true ∧ (t.trip? n).kind = 3 ∧ (t.trip? n).cond = false ∧ t.bit HSW_STAT.THERM n = true) ∧
  (∀ (s : State) (n iMa : Nat), hswFitted s.variant n = true → s.conducting n = false → istuckMa n < s.sensedMa n iMa →
      ∃ t, exec (.stuckOn n iMa) s = .next t ∧ t.bit HSW_STAT.STUCK n = true ∧ t.hs n = s.hs n ∧ t.srcLive 2 n 6 = true) ∧
  (∀ (s : State) (n : Nat), hswFitted s.variant n = true → ∃ t, exec (.stuckOnClear n) s = .next t ∧
      t.srcLive 2 n 6 = (s.flt.active.any fun a => a.src == srcId 2 n 6 && !a.inj && a.oneMs)) ∧
  (∀ (s : State) (n p iMa voutMv dt : Nat) (tj : Int), hswFitted s.variant n = true → s.sys.fabricUp = true →
      s.leader n = n → s.hs n ≠ 6 → s.trips = [] → s.wireOff n = true →
      ∃ t, exec (.wireModelUpdate n p iMa voutMv dt tj) s = .next t ∧ t.fld HSW_MEAS.I n = satTo (s.sensedMa n iMa) 20 ∧
      t.fld HSW_MEAS2.DT n = satTo dt 8 ∧
      (t.ch n).th1 = thetaStep (s.ch n).th1 (s.fld HSW_WIRE0.K1 n) (s.fld HSW_WIRE0.TAU1 n) (if (s.grp n).any (fun m => s.conducting m) then p else 0)) ∧
  (∀ (s : State) (n iMa : Nat), hswFitted s.variant n = true → s.sys.fabricUp = true → s.leader n = n →
      s.conducting n = true → s.diagBarred n = false → s.fld HSW_OL.OLTH n ≠ 0 → s.fld HSW_OL.OLTH n ≤ iMa →
      (s.ch n).stretching = false → ∃ t, exec (.openLoadMeasurement n iMa) s = .next t ∧ t.fld HSW_STAT.OLSTAT n = 1 ∧
      (t.ch n).below = 0 ∧ (t.ch n).measured = true ∧ t.hs n = s.hs n)

/-- Trip recovery, retry counters, clamp events and locks. TRETRY_EXPIRY of a tripped output whose condition stands notes that
the retry time is over and keeps the trip. TRIP_CONDITION_CLEAR of a fitted channel without partners, tripped by kind 3 with
RECOV EDGE, its retry time over and its command OFF, leaves TRIPPED to OFF and counts the retry. RETRY_COUNTER_RESET in ON
or LIMIT sets RETRIES to 0; CLR.TRIP with no trip recorded does too, and with RECOV LATCH, all conditions met and the
command OFF leaves TRIPPED to OFF. CLAMP_EVENT_END shows the corrected energy in LAST, counts it modulo 4,096 and takes it
from the bucket, which empties at most. BUCKET_FULL with ALOCK refills the bucket and clears the lock bit; a 1 written to
the lock bit of a channel whose bucket is full clears it. (05_switch_channels.md) -/
def Obligations.RecoveryAndClamp : Prop :=
  (∀ (s : State) (n : Nat), slotFitted s.variant n = true → (s.trip? n).on = true → (s.trip? n).cond = false →
      ∃ t, exec (.tretryExpiry n) s = .next t ∧ (t.trip? n).retry = true ∧ (t.trip? n).on = true) ∧
  (∀ (s : State) (n : Nat), hswFitted s.variant n = true → (s.trip? n).on = true → s.grp n = [n] → s.hs n = 4 →
      (s.trip? n).kind = 3 → (s.trip? n).retry = true → s.fld HSW_CFG.RECOV n = 0 → (s.cmd n).1 = false →
      s.twinned n = false → ∃ t, exec (.tripConditionClear n) s = .next t ∧ (t.trip? n).on = false ∧ t.hs n = 0 ∧
      t.fld HSW_STAT.RETRIES n = satInc (s.fld HSW_STAT.RETRIES n) 4) ∧
  (∀ (s : State) (n : Nat), hswFitted s.variant n = true → s.hs n = 2 ∨ s.hs n = 3 →
      ∃ t, exec (.retryCounterReset n) s = .next t ∧ t.fld HSW_STAT.RETRIES n = 0) ∧
  (∀ (s : State) (w : Who) (n : Nat), hswFitted s.variant n = true → (s.trip? n).on = false → s.reaches w 4 = true →
      ∃ t, exec (.hswClrTrip w n) s = .next t ∧ t.fld HSW_STAT.RETRIES n = 0) ∧
  (∀ (s : State) (w : Who) (n : Nat), hswFitted s.variant n = true → s.grp n = [n] → s.hs n = 4 → (s.trip? n).on = true →
      (s.trip? n).cond = true → (s.trip? n).hot = false → (s.trip? n).retry = true → s.fld HSW_CFG.RECOV n = 2 →
      (s.cmd n).1 = false → s.twinned n = false → (s.coilAt n).toTrip = false → s.reaches w 4 = true →
      ∃ t, exec (.hswClrTrip w n) s = .next t ∧ (t.trip? n).on = false ∧ t.hs n = 0 ∧ t.fld HSW_STAT.RETRIES n = 0) ∧
  (∀ (s : State) (n mJ : Nat), hswFitted s.variant n = true → ∃ t, exec (.clampEventEnd n mJ) s = .next t ∧
      t.fld HSW_CLAMP.LAST n = satTo (s.corrected (144 + n) 1 mJ).toNat 10 ∧
      t.fld HSW_CLAMP.COUNT n = (s.fld HSW_CLAMP.COUNT n + 1) % 4096 ∧
      t.missing n = min ((bucketOf n).1 : Rat) (s.missing n + (((s.corrected (144 + n) 1 mJ).toNat : Nat) : Rat))) ∧
  (∀ (s : State) (n : Nat), hswFitted s.variant n = true → s.bit HSW_CFG.ALOCK n = true →
      ∃ t, exec (.bucketFull n) s = .next t ∧ t.missing n = 0 ∧ t.lockBit n = false) ∧
  (∀ (s : State) (w : Who) (n : Nat), hswFitted s.variant n = true → s.missing n = 0 → s.reaches w 4 = true →
      ∃ t, exec (.hswLockClear w (n / 32) (1#32 <<< (n % 32))) s = .next t ∧ t.lockBit n = false)

/-- Bridges: command, reversal, cycle limit, overcurrents. Of a fitted bridge whose supply is not reversed: in IDLE, never
driven before, it follows a command ON into DRIVE with its direction; in DRIVE outside a cycle limit it follows a command
OFF to IDLE in OFFMODE's mode; in DRIVE with the opposite direction commanded and TREV not 0 it brakes low and waits;
REVERSAL_BRAKE_END then drives in the commanded direction. BRIDGE_CYCLE_LIMIT of a driving bridge at a current within 8 % of
ILIM or above: LIMIT and BRAKE_LOW; CYCLE_LIMIT_END drives again in LIMIT. For any fitted bridge: BRIDGE_LIMIT_EXIT with no
cycle limit in progress ends LIMIT in DRIVE; BRIDGE_TLIM_EXPIRY in LIMIT trips with kind 1, OC and coasts; BRAKE_OVERCURRENT
above ILIM while it brakes makes it coast; BRIDGE_SHORT_CUT crossing ISC while it does not coast and can trip: kind 0, SC,
coasting. Currents are corrected ones (log entry 11). (06_bridges_motion.md) -/
def Obligations.BridgeDrive : Prop :=
  (∀ (s : State) (b : Nat), hbrFitted s.variant b = true → s.hb b = 0 → (s.cmd (48 + b)).1 = true → (s.br b).drove = false →
      s.reversed (48 + b) = false → ∃ t, exec (.bridgeCommandChange b) s = .next t ∧ t.hb b = 1 ∧ (t.br b).mode = .drive ∧
      (t.br b).dir = (s.cmd (48 + b)).2) ∧
  (∀ (s : State) (b : Nat), hbrFitted s.variant b = true → s.hb b = 1 → (s.cmd (48 + b)).1 = false →
      (s.br b).limBrake = false → s.reversed (48 + b) = false → ∃ t, exec (.bridgeCommandChange b) s = .next t ∧
      t.hb b = 0 ∧ (t.br b).mode = s.offMode b) ∧
  (∀ (s : State) (b : Nat), hbrFitted s.variant b = true → s.hb b = 1 →
      s.br b = { (default : HbrSt) with mode := .drive, drove := true } → (s.cmd (48 + b)) = (true, true) →
      s.fld HBR_CFG.TREV b ≠ 0 → s.reversed (48 + b) = false → ∃ t, exec (.bridgeCommandChange b) s = .next t ∧
      (t.br b).mode = .brakeLow ∧ (t.br b).revWait = true ∧ t.hb b = 1) ∧
  (∀ (s : State) (b : Nat), hbrFitted s.variant b = true → (s.br b).mode = .brakeLow → (s.br b).limBrake = false →
      (s.br b).drove = true → (s.br b).revWait = true → s.reversed (48 + b) = false →
      ∃ t, exec (.reversalBrakeEnd b) s = .next t ∧ (t.br b).mode = .drive ∧ (t.br b).dir = (s.cmd (48 + b)).2 ∧
      (t.br b).revWait = false) ∧
  (∀ (s : State) (b iMa : Nat), hbrFitted s.variant b = true → s.hbrRunning b = true → (s.br b).mode = .drive →
      92 * s.hbLimMa b ≤ 100 * s.sensedMa (48 + b) iMa → s.reversed (48 + b) = false →
      ∃ t, exec (.bridgeCycleLimit b iMa) s = .next t ∧ t.hb b = 2 ∧ (t.br b).mode = .brakeLow ∧ (t.br b).limBrake = true) ∧
  (∀ (s : State) (b : Nat), hbrFitted s.variant b = true → s.hb b = 2 → (s.br b).limBrake = true →
      s.reversed (48 + b) = false → ∃ t, exec (.cycleLimitEnd b) s = .next t ∧ t.hb b = 2 ∧ (t.br b).mode = .drive ∧
      (t.br b).limBrake = false) ∧
  (∀ (s : State) (b : Nat), hbrFitted s.variant b = true → s.hb b = 2 → (s.br b).limBrake = false →
      ∃ t, exec (.bridgeLimitExit b) s = .next t ∧ t.hb b = 1) ∧
  (∀ (s : State) (b iMa : Nat), hbrFitted s.variant b = true → s.hb b = 2 →
      ∃ t, exec (.bridgeTlimExpiry b iMa) s = .next t ∧ t.hb b = 4 ∧ (t.br b).mode = .coast ∧ (t.trip? (48 + b)).on = true ∧
      (t.trip? (48 + b)).kind = 1 ∧ t.bit HBR_STAT.OC b = true) ∧
  (∀ (s : State) (b iMa : Nat), hbrFitted s.variant b = true → (s.br b).mode = .brakeLow ∨ (s.br b).mode = .brakeHigh →
      (s.br b).ocCoast = false → s.hbLimMa b < s.sensedMa (48 + b) iMa → ∃ t, exec (.brakeOvercurrent b iMa) s = .next t ∧
      (t.br b).ocCoast = true) ∧
  (∀ (s : State) (b sw iMa : Nat), hbrFitted s.variant b = true → (s.br b).mode ≠ .coast → (s.br b).ocCoast = false →
      s.canTrip (48 + b) = true → crossesIsc (hbIscMa b (s.fld HBR_LIM.ISC b)) (s.sensedMa (48 + b) iMa) = true →
      ∃ t, exec (.bridgeShortCut b sw iMa) s = .next t ∧ t.hb b = 4 ∧ (t.br b).mode = .coast ∧
      (t.trip? (48 + b)).on = true ∧ (t.trip? (48 + b)).kind = 0 ∧ t.bit HBR_STAT.SC b = true)

/-- Bridges: open load, position, pinch, stall, release from STOPPED, register writes. BRIDGE_OPEN_LOAD in DRIVE with OLTH not 0
and not barred sets OLSTAT to OPEN below OLTH and OK otherwise. POSITION_COUNT of a bridge with SRC 3 and PEN 0 moves POS by
one in the direction given, saturating. POSITION_ERROR of cause 1, or of cause 2 after four counts against the direction,
sets POSERR and clears POSVALID. PINCH_PERIOD_EXCEEDED where the run reaches PCNT, and STALL_DETECTED at ISTALL or above
while driving, stop the bridge: STOPPED, BRAKE_LOW, CAUSE 1 or 2 and the flag. TSTOPBRK_EXPIRY with the command OFF releases
it to IDLE. Legal, unbarred writes: HBR_TGT of a bridge at rest stores TARGET and keeps the state; HBR_POSSET sets POS and
POSVALID; CLR.TRIP with no trip recorded sets RETRIES to 0; CLR.STOP after TSTOPBRK with the command OFF releases STOPPED to
IDLE; HBR_SFLT with a code but 0 raises kind 6 with it as detail. (06_bridges_motion.md) -/
def Obligations.BridgePosition : Prop :=
  (∀ (s : State) (b iMa : Nat), hbrFitted s.variant b = true → s.hb b = 1 → s.fld HBR_OL.OLTH b ≠ 0 →
      s.diagBarred (48 + b) = false → ∃ t, exec (.bridgeOpenLoad b iMa) s = .next t ∧
      t.fld HBR_STAT.OLSTAT b = if s.sensedMa (48 + b) iMa < 10 * s.fld HBR_OL.OLTH b then 2 else 1) ∧
  (∀ (s : State) (b tk iMa ampMa inHz : Nat) (d : Bool), hbrFitted s.variant b = true → s.fld HBR_MON.SRC b = 3 →
      s.bit HBR_PINCH.PEN b = false → ∃ t, exec (.positionCount b tk iMa ampMa inHz d) s = .next t ∧
      t.sfld HBR_POS.POS b = max (-32768) (min 32767 (s.sfld HBR_POS.POS b + (if d then -1 else 1)))) ∧
  (∀ (s : State) (b cause : Nat), hbrFitted s.variant b = true → s.fld HBR_MON.SRC b = 3 →
      cause = 1 ∨ (cause = 2 ∧ 4 ≤ (s.br b).against) → ∃ t, exec (.positionError b cause) s = .next t ∧
      t.bit HBR_STAT.POSERR b = true ∧ t.bit HBR_STAT.POSVALID b = false ∧ (t.br b).against = 0) ∧
  (∀ (s : State) (b : Nat), hbrFitted s.variant b = true → s.pinchArmed b = true → (s.br b).exceeded = false →
      s.fld HBR_PINCH.PCNT b ≤ (s.br b).run + 1 → s.reversed (48 + b) = false →
      ∃ t, exec (.pinchPeriodExceeded b) s = .next t ∧ t.hb b = 3 ∧ (t.br b).mode = .brakeLow ∧ t.fld HBR_STAT.CAUSE b = 1 ∧
      t.bit HBR_STAT.PINCH b = true) ∧
  (∀ (s : State) (b iMa : Nat), hbrFitted s.variant b = true → s.hbrRunning b = true → s.fld HBR_STALL.ISTALL b ≠ 0 →
      s.fld HBR_STALL.ISTALL b * hbStep b ≤ s.sensedMa (48 + b) iMa → s.reversed (48 + b) = false →
      ∃ t, exec (.stallDetected b iMa) s = .next t ∧ t.hb b = 3 ∧ (t.br b).mode = .brakeLow ∧ t.fld HBR_STAT.CAUSE b = 2 ∧
      t.bit HBR_STAT.STALL b = true) ∧
  (∀ (s : State) (b : Nat), hbrFitted s.variant b = true → s.hb b = 3 → (s.br b).stopOver = false →
      (s.cmd (48 + b)).1 = false → ∃ t, exec (.tstopbrkExpiry b) s = .next t ∧ (t.br b).stopOver = true ∧ t.hb b = 0) ∧
  (∀ (s : State) (w : Who) (b : Nat) (x : Word), hbrFitted s.variant b = true → s.legalWrite w .HBR_TGT x = true →
      s.rwsBarred w ⟨.HBR_TGT, b, 0, 0⟩ x = false → s.hbrRunning b = false → s.reaches w 5 = true →
      ∃ t, exec (.hbrTgtWrite w b x) s = .next t ∧ t.fld HBR_TGT.TARGET b = ext x HBR_TGT.TARGET.lo HBR_TGT.TARGET.width ∧
      t.hb b = s.hb b) ∧
  (∀ (s : State) (w : Who) (b : Nat) (x : Word), hbrFitted s.variant b = true → s.legalWrite w .HBR_POSSET x = true →
      s.rwsBarred w ⟨.HBR_POSSET, b, 0, 0⟩ x = false → s.reaches w 5 = true → ∃ t, exec (.hbrPosset w b x) s = .next t ∧
      t.fld HBR_POS.POS b = ext x 0 16 ∧ t.bit HBR_STAT.POSVALID b = true) ∧
  (∀ (s : State) (w : Who) (b : Nat), hbrFitted s.variant b = true → (s.trip? (48 + b)).on = false → s.reaches w 5 = true →
      ∃ t, exec (.hbrClrTrip w b) s = .next t ∧ t.fld HBR_STAT.RETRIES b = 0) ∧
  (∀ (s : State) (w : Who) (b : Nat), hbrFitted s.variant b = true → s.hb b = 3 → (s.br b).stopOver = true →
      (s.cmd (48 + b)).1 = false → s.reaches w 5 = true → ∃ t, exec (.hbrClrStop w b) s = .next t ∧
      (t.br b).stopClr = true ∧ t.hb b = 0) ∧
  (∀ (s : State) (w : Who) (b : Nat) (x : Word), hbrFitted s.variant b = true → s.legalWrite w .HBR_SFLT x = true →
      s.rwsBarred w ⟨.HBR_SFLT, b, 0, 0⟩ x = false → ext x 0 12 ≠ 0 → s.reaches w 5 = true →
      ∃ t, exec (.hbrSflt w b x) s = .next t ∧
      t.flt.raised = s.flt.raised ++ [⟨srcId 3 b 6, ext x 0 12, s.micros, false, true, false⟩])

/-- Valves: admission, boost, hold, decay, minimum off time. Of a fitted valve: a command rise in OFF, with no trip or disabling
to come and tVMINOFF not running, is admitted where the bank's command is ON, VHSk is OFF or ON and the hold currents fit 8
A: WAIT, with IHOLD and its place in the order; where the bank's command is OFF, it stays OFF, REFUSED with RREASON 3. A
command fall outside OPENING ends WAIT in OFF, BOOST and HOLD in DECAY. BOOST_START of the first waiting member, with none
boosting, the peak and hold currents within 8 A, VHSk OFF or ON and MAIN not reversed: BOOST, TBW the waited time up to 50.
BOOST_END: HOLD, with COILSTAT 1 where the set current was reached, else REG. BOOST_WAIT_LIMIT in WAIT: OFF, REFUSED,
RREASON 2, TBW 50. DECAY_END with nothing to come: MINOFF while tVMINOFF runs, else OFF; TVMINOFF_EXPIRY in MINOFF with
nothing queued: OFF. (07_valves_contactors.md) -/
def Obligations.ValveActivation : Prop :=
  (∀ (s : State) (v : Nat), vlvFitted s.variant v = true → (s.cmd (60 + v)).1 = true → s.vlv v = 0 →
      s.vhs (v / 4) = 0 ∨ s.vhs (v / 4) = 1 → (s.coilAt (60 + v)).toTrip = false → (s.coilAt (60 + v)).toDis = false →
      (s.coilAt (60 + v)).minRun = false → (s.cmd (72 + v / 4)).1 = true →
      s.holdSum (v / 4) [1, 2, 3] + s.fld VLV_PROF.IHOLD v ≤ 400 → ∃ t, exec (.valveCommandRise v) s = .next t ∧
      t.vlv v = 1 ∧ (t.coilAt (60 + v)).hold = s.fld VLV_PROF.IHOLD v ∧ (t.coilAt (60 + v)).order = s.bank.next) ∧
  (∀ (s : State) (v : Nat), vlvFitted s.variant v = true → (s.cmd (60 + v)).1 = true → s.vlv v = 0 →
      (s.coilAt (60 + v)).toTrip = false → (s.coilAt (60 + v)).toDis = false → (s.coilAt (60 + v)).minRun = false →
      s.vhs (v / 4) ≠ 2 → (s.cmd (72 + v / 4)).1 = false → ∃ t, exec (.valveCommandRise v) s = .next t ∧ t.vlv v = 0 ∧
      t.bit VLV_STAT.REFUSED v = true ∧ t.fld VLV_STAT.RREASON v = 3) ∧
  (∀ (s : State) (v : Nat) (r : Bool), vlvFitted s.variant v = true → (s.cmd (60 + v)).1 = false → s.vhs (v / 4) ≠ 2 →
      s.vlv v = 2 ∨ s.vlv v = 3 → ∃ t, exec (.valveCommandFall ⟨v, r⟩) s = .next t ∧ t.vlv v = 4) ∧
  (∀ (s : State) (v : Nat) (r : Bool), vlvFitted s.variant v = true → (s.cmd (60 + v)).1 = false → s.vhs (v / 4) ≠ 2 →
      s.vlv v = 1 → ∃ t, exec (.valveCommandFall ⟨v, r⟩) s = .next t ∧ t.vlv v = 0) ∧
  (∀ (s : State) (v tbw : Nat), vlvFitted s.variant v = true → s.firstWaiting (v / 4) = some v →
      s.inStates (v / 4) [2] = [] → (s.coilAt (60 + v)).peak + s.holdSum (v / 4) [3] ≤ 400 →
      s.vhs (v / 4) = 0 ∨ s.vhs (v / 4) = 1 → s.reversed (60 + v) = false → ∃ t, exec (.boostStart v tbw) s = .next t ∧
      t.vlv v = 2 ∧ t.fld VLV_STAT.TBW v = min tbw 50) ∧
  (∀ (s : State) (v iMa : Nat), vlvFitted s.variant v = true → s.vlv v = 2 → ∃ t, exec (.boostEnd v true iMa) s = .next t ∧
      t.vlv v = 3 ∧ t.fld VLV_STAT.COILSTAT v = 1) ∧
  (∀ (s : State) (v iMa : Nat), vlvFitted s.variant v = true → s.vlv v = 2 → (s.coilAt (60 + v)).rep0 = false →
      ∃ t, exec (.boostEnd v false iMa) s = .next t ∧ t.vlv v = 3 ∧ t.bit VLV_STAT.REG v = true) ∧
  (∀ (s : State) (v : Nat), vlvFitted s.variant v = true → s.vlv v = 1 → ∃ t, exec (.boostWaitLimit v) s = .next t ∧
      t.vlv v = 0 ∧ t.bit VLV_STAT.REFUSED v = true ∧ t.fld VLV_STAT.RREASON v = 2 ∧ t.fld VLV_STAT.TBW v = 50) ∧
  (∀ (s : State) (v : Nat), vlvFitted s.variant v = true → s.vlv v = 4 → (s.coilAt (60 + v)).toTrip = false →
      (s.coilAt (60 + v)).toDis = false → ∃ t, exec (.decayEnd (60 + v)) s = .next t ∧
      t.vlv v = if (s.coilAt (60 + v)).minRun then 6 else 0) ∧
  (∀ (s : State) (v : Nat), vlvFitted s.variant v = true → s.vlv v = 6 → (s.coilAt (60 + v)).minRun = true →
      s.bit VLV_STAT.QUEUED v = false → ∃ t, exec (.tvminoffExpiry v) s = .next t ∧ t.vlv v = 0 ∧
      (t.coilAt (60 + v)).minRun = false)

/-- Coils: open coil, low hold current, thermal model, short cut, CLR.TRIP. Of a fitted valve: OPEN_COIL_CHECK in BOOST below 50
mA: COILSTAT 2 and kind 5 held. HOLD_CURRENT_LOW in HOLD, not yet reported in this activation: REG, and the report noted.
COIL_MODEL_UPDATE with RREF 0 and no trip recorded: DUTY shows the duty up to 100 %, TVALID 0, TCOIL reads TAMB.
COIL_SHORT_CUT in BOOST or HOLD at a current that crosses ISC: TRIPPED with kind 0 and SC. CLR.TRIP with no trip recorded:
RETRIES 0. Currents are corrected ones (log entry 11). (07_valves_contactors.md) -/
def Obligations.CoilMonitoring : Prop :=
  (∀ (s : State) (v iMa : Nat), vlvFitted s.variant v = true → s.vlv v = 2 → s.sensedMa (60 + v) iMa < 50 →
      ∃ t, exec (.openCoilCheck (60 + v) iMa) s = .next t ∧ t.fld VLV_STAT.COILSTAT v = 2 ∧ t.srcLive 4 v 5 = true) ∧
  (∀ (s : State) (v iMa : Nat), vlvFitted s.variant v = true → s.vlv v = 3 → (s.coilAt (60 + v)).rep1 = false →
      ∃ t, exec (.holdCurrentLow (60 + v) iMa) s = .next t ∧ t.bit VLV_STAT.REG v = true ∧ (t.coilAt (60 + v)).rep1 = true ∧
      t.vlv v = 3) ∧
  (∀ (s : State) (v vr duty vf iMa : Nat) (tj : Int), vlvFitted s.variant v = true → s.fld VLV_COIL.RREF v = 0 →
      (s.trip? (60 + v)).on = false → ∃ t, exec (.coilModelUpdate (60 + v) vr duty vf iMa tj false) s = .next t ∧
      t.fld VLV_MEAS.DUTY v = min duty 1000 ∧ t.bit VLV_STAT.TVALID v = false ∧
      t.fld VLV_TEMP.TCOIL v = tcoilReg ((s.coilAmb (60 + v) : Int) : Rat)) ∧
  (∀ (s : State) (v iMa mJ : Nat), vlvFitted s.variant v = true → s.vlv v = 2 ∨ s.vlv v = 3 →
      crossesIsc (s.coilIsc (60 + v) false) (s.sensedMa (60 + v) iMa) = true →
      ∃ t, exec (.coilShortCut (60 + v) false ⟨iMa, mJ⟩) s = .next t ∧ t.vlv v = 5 ∧ (t.trip? (60 + v)).on = true ∧
      (t.trip? (60 + v)).kind = 0 ∧ t.bit VLV_STAT.SC v = true) ∧
  (∀ (s : State) (w : Who) (v : Nat), vlvFitted s.variant v = true → (s.trip? (60 + v)).on = false → s.reaches w 6 = true →
      ∃ t, exec (.vlvClrTrip w (60 + v)) s = .next t ∧ t.fld VLV_STAT.RETRIES v = 0)

/-- Bank switches and contactors: emergency off, opening, trip, pull-in, decay, auxiliary contact. BANK_EMERGENCY_OFF of a
fitted bank switch in ON whose command is OFF: OPENING, ENABLE 0. BANK_OPENING_END below 50 mA with nothing to disable and
the command OFF: OFF. BANK_ENABLE_ON with the command ON: ENABLE 1. BANK_SWITCH_TRIP by a short cut in ON or OPENING that
crosses ISC: TRIPPED, kind 0, SC. Of a fitted contactor: a command rise in OFF, not locked, supplies not reversed: PULLIN
with IPULL; a command fall in PULLIN or HOLD: DECAY; PULLIN_END with the set current reached: HOLD, COILSTAT 1;
CONTACTOR_HIGH_SIDE_OPEN below 50 mA in DECAY, high side closed and nothing to come: OFF, high side open; AUX_CONTACT_CHECK
of reason 9 in HOLD with AUXEN: AUXSTAT 1 where the line reads closed, 2 where not. (07_valves_contactors.md) -/
def Obligations.BanksAndContactors : Prop :=
  (∀ (s : State) (k m : Nat), vhsFitted s.variant k = true → (s.cmd (72 + k)).1 = false → s.vhs k = 1 →
      ∃ t, exec (.bankEmergencyOff ⟨k, m⟩) s = .next t ∧ t.vhs k = 2 ∧ t.bit VHS_STAT.ENABLE k = false) ∧
  (∀ (s : State) (k iMax mJ : Nat), vhsFitted s.variant k = true → s.vhs k = 2 → iMax < 50 →
      s.bank.toDis.contains k = false → (s.cmd (72 + k)).1 = false → ∃ t, exec (.bankOpeningEnd k iMax mJ) s = .next t ∧
      t.vhs k = 0) ∧
  (∀ (s : State) (k : Nat), vhsFitted s.variant k = true → (s.cmd (72 + k)).1 = true →
      ∃ t, exec (.bankEnableOn k) s = .next t ∧ t.bit VHS_STAT.ENABLE k = true) ∧
  (∀ (s : State) (k iMa : Nat) (tj : Int), vhsFitted s.variant k = true → s.canTrip (72 + k) = true →
      s.vhs k = 1 ∨ s.vhs k = 2 → crossesIsc (40000 + 20000 * s.fld VHS_CFG.ISC k) (s.sensedMa (72 + k) iMa) = true →
      ∃ t, exec (.bankSwitchTrip ⟨k, 0⟩ true iMa tj 0 0) s = .next t ∧ t.vhs k = 3 ∧ (t.trip? (72 + k)).on = true ∧
      (t.trip? (72 + k)).kind = 0 ∧ t.bit VHS_STAT.SC k = true) ∧
  (∀ (s : State) (c : Nat), ctdFitted s.variant c = true → (s.cmd (75 + c)).1 = true → s.ctd c = 0 →
      s.bit CTD_STAT.LOCK c = false → s.reversed (75 + c) = false → ∃ t, exec (.contactorCommandRise c) s = .next t ∧
      t.ctd c = 1 ∧ (t.coilAt (75 + c)).peak = s.fld CTD_PROF.IPULL c) ∧
  (∀ (s : State) (c : Nat) (r : Bool), ctdFitted s.variant c = true → (s.cmd (75 + c)).1 = false →
      s.ctd c = 1 ∨ s.ctd c = 2 → ∃ t, exec (.contactorCommandFall ⟨c, r⟩) s = .next t ∧ t.ctd c = 3) ∧
  (∀ (s : State) (c iMa : Nat), ctdFitted s.variant c = true → s.ctd c = 1 → ∃ t, exec (.pullinEnd c true iMa) s = .next t ∧
      t.ctd c = 2 ∧ t.fld CTD_STAT.COILSTAT c = 1) ∧
  (∀ (s : State) (c iMa mJ : Nat), ctdFitted s.variant c = true → s.ctd c = 3 → (s.coilAt (75 + c)).hOpen = false →
      (s.coilAt (75 + c)).toTrip = false → (s.coilAt (75 + c)).toDis = false → iMa < 50 →
      ∃ t, exec (.contactorHighSideOpen c iMa mJ) s = .next t ∧ t.ctd c = 0 ∧ (t.coilAt (75 + c)).hOpen = true) ∧
  (∀ (s : State) (c : Nat), ctdFitted s.variant c = true → s.bit CTD_AUX.AUXEN c = true → s.ctd c = 2 →
      ∃ t, exec (.auxContactCheck c 9) s = .next t ∧ t.fld CTD_STAT.AUXSTAT c = if s.auxClosed c then 1 else 2)

/-- LED channels: levels, duty words, diagnostics, lamp groups, fold-back. Of a fitted channel: a legal, unbarred LED_LVL write
stores both levels. DEMAND_LINE_CHANGE of an enabled one: LEFF is the effective level, DERATED whether a factor is below
256. DIMMING_DUTY_WRITE with a duty under way, unit running and outside a stagger group: the level is taken and DUTY kept
for the period end. SHORT_TO_GROUND below 1.0 V while it conducts, not barred: TRIPPED, kind 0, SG. OPEN_STRING_MEASUREMENT
at half the setting or above with OSEN: OSTAT OK, I shown. SHORTED_LED_CHECK in PWM with VOUT not below VNOM - SHTH: SSTAT
OK. DAC_FAILURE in ANALOG with the current off its setting, or with the stage off and a test due: DACFAIL. CLR.TRIP with no
trip recorded: RETRIES 0; CLR.DACRST asks for a retest; DAC_RETEST passed with the stage off clears DACFAIL.
LAMP_GROUP_UPDATE of an enabled group whose input is valid reads VAL as it is held in overload of its supply, otherwise what
the voltages of the command make of it: below 0.02 or above 0.98 of full scale SFAULT 1 and F = FMIN; otherwise SFAULT 0 and
F from the temperature. That it waits for a valid input and brings its reading, and the series for the logarithm, are the
model's choices (log entries 60 and 16). FOLDBACK_UPDATE with no stage measured: PTOT 0 and FF one step up as its rule says.
(08_lighting.md, 09_inputs.md) -/
def Obligations.LedChannels : Prop :=
  (∀ (s : State) (w : Who) (i : Nat) (x : Word), ledFitted s.variant i = true → s.legalWrite w .LED_LVL x = true →
      s.rwsBarred w ⟨.LED_LVL, i, 0, 0⟩ x = false → s.reaches w 7 = true → ∃ t, exec (.ledLevelWrite w i x) s = .next t ∧
      t.fld LED_LVL.LVLA i = ext x LED_LVL.LVLA.lo LED_LVL.LVLA.width ∧
      t.fld LED_LVL.LVLB i = ext x LED_LVL.LVLB.lo LED_LVL.LVLB.width) ∧
  (∀ (s : State) (i : Nat), ledFitted s.variant i = true → s.bit LED_CFG.EN i = true →
      ∃ t, exec (.demandLineChange i) s = .next t ∧ t.fld LED_EFF.LEFF i = s.effLevel i % 1024 ∧
      t.bit LED_STAT.DERATED i = decide (s.derate i < 256)) ∧
  (∀ (s : State) (i d : Nat), ledFitted s.variant i = true → s.sys.fabricUp = true → (s.lx i).duty = some d →
      s.bit PU_STAT.RUN (s.fld LED_CFG.PU i) = true → s.fld PU_CFG.SG (s.fld LED_CFG.PU i) = 0 → s.ls i ≤ 2 →
      ∃ t, exec (.dimmingDutyWrite i) s = .next t ∧ (t.lx i).duty = none ∧ (t.lx i).level = s.fld LED_EFF.LEFF i ∧
      (t.lx i).pwm = s.bit LED_EFF.MODE i ∧ (t.lx i).taking = true ∧
      Tbl.get t.fab.pdShadow (s.fld LED_CFG.PU i) 0 = ins (s.reg ⟨.PU_PD, s.fld LED_CFG.PU i, 0, 0⟩) 16 16 d) ∧
  (∀ (s : State) (i v : Nat), ledFitted s.variant i = true → s.ledOn i = true → v < 1000 → s.diagBarred (77 + i) = false →
      ∃ t, exec (.shortToGround i v) s = .next t ∧ t.ls i = 3 ∧ (t.trip? (77 + i)).on = true ∧ (t.trip? (77 + i)).kind = 0 ∧
      t.bit LED_STAT.SG i = true) ∧
  (∀ (s : State) (i iUa v f : Nat), ledFitted s.variant i = true → s.ledOn i = true → s.sys.fabricUp = true →
      s.diagBarred (77 + i) = false → s.bit LED_DIAG.OSEN i = true → s.ledUa i ≤ 2 * s.sensedUa i iUa →
      ∃ t, exec (.openStringMeasurement i iUa v f) s = .next t ∧ t.fld LED_STAT.OSTAT i = 1 ∧ (t.lx i).below = 0 ∧
      (t.lx i).measured = true ∧ t.fld LED_MEAS.I i = satTo (s.sensedUa i iUa / 500) 10) ∧
  (∀ (s : State) (i v : Nat), ledFitted s.variant i = true → s.sys.fabricUp = true → s.ls i = 2 → s.ledOn i = true →
      s.fld LED_DIAG.SHTH i ≠ 0 → s.diagBarred (77 + i) = false →
      20 * s.fld LED_DIAG.VNOM i ≤ v + 100 * s.fld LED_DIAG.SHTH i → ∃ t, exec (.shortedLedCheck i v) s = .next t ∧
      t.fld LED_STAT.SSTAT i = 1 ∧ (t.lx i).shBelow = 0) ∧
  (∀ (s : State) (i iUa : Nat), ledFitted s.variant i = true → s.ls i = 1 → s.ledOn i = true →
      s.dacOff i (s.sensedUa i iUa) = true → s.bit LED_STAT.DACFAIL i = false → ∃ t, exec (.dacFailure i iUa) s = .next t ∧
      t.bit LED_STAT.DACFAIL i = true ∧ (t.lx i).testDue = false) ∧
  (∀ (s : State) (i iUa : Nat), ledFitted s.variant i = true → s.ledOn i = false → (s.lx i).testDue = true →
      s.bit LED_STAT.DACFAIL i = false → ∃ t, exec (.dacFailure i iUa) s = .next t ∧ t.bit LED_STAT.DACFAIL i = true ∧
      (t.lx i).testDue = false) ∧
  (∀ (s : State) (w : Who) (i : Nat), ledFitted s.variant i = true → (s.trip? (77 + i)).on = false → s.reaches w 7 = true →
      ∃ t, exec (.ledClrTrip w i) s = .next t ∧ t.fld LED_STAT.RETRIES i = 0) ∧
  (∀ (s : State) (w : Who) (i : Nat), ledFitted s.variant i = true → s.reaches w 7 = true →
      ∃ t, exec (.ledClrDacrst w i) s = .next t ∧ (t.lx i).retest = true) ∧
  (∀ (s : State) (i : Nat), ledFitted s.variant i = true → (s.lx i).retest = true → s.ledOn i = false →
      ∃ t, exec (.dacRetest i true) s = .next t ∧ t.bit LED_STAT.DACFAIL i = false ∧ (t.lx i).retest = false) ∧
  (∀ (s : State) (g mv vs : Nat), lgFitted s.variant g = true → s.bit LG_NTC2.EN g = true →
      s.ainValid (s.fld LG_NTC2.AIN g) = true → 50 * s.ainReads (s.fld LG_NTC2.AIN g) mv vs < 4095 →
      ∃ t, exec (.lampGroupUpdate g mv vs) s = .next t ∧ t.bit LG_STAT.SFAULT g = true ∧
      t.fld LG_STAT.F g = s.fld LG_DER.FMIN g) ∧
  (∀ (s : State) (g mv vs : Nat), lgFitted s.variant g = true → s.bit LG_NTC2.EN g = true →
      s.ainValid (s.fld LG_NTC2.AIN g) = true → 49 * 4095 < 50 * s.ainReads (s.fld LG_NTC2.AIN g) mv vs →
      ∃ t, exec (.lampGroupUpdate g mv vs) s = .next t ∧ t.bit LG_STAT.SFAULT g = true ∧
      t.fld LG_STAT.F g = s.fld LG_DER.FMIN g) ∧
  (∀ (s : State) (g mv vs : Nat), lgFitted s.variant g = true → s.bit LG_NTC2.EN g = true →
      s.ainValid (s.fld LG_NTC2.AIN g) = true → 4095 ≤ 50 * s.ainReads (s.fld LG_NTC2.AIN g) mv vs →
      50 * s.ainReads (s.fld LG_NTC2.AIN g) mv vs ≤ 49 * 4095 → ∃ t, exec (.lampGroupUpdate g mv vs) s = .next t ∧
      t.bit LG_STAT.SFAULT g = false ∧
      t.fld LG_STAT.F g = deratingF (ntcHalf (((s.ainReads (s.fld LG_NTC2.AIN g) mv vs : Nat) : Rat) / (4095 : Rat)) (s.fld LG_NTC.RPU g) (s.fld LG_NTC.R25 g) (s.fld LG_NTC2.BETA g)) (s.sfld LG_DER.TSTART g) (s.sfld LG_DER.TEND g) (s.fld LG_DER.FMIN g) % 512) ∧
  (∀ (s : State), ∃ t, exec (.foldbackUpdate []) s = .next t ∧ t.fld LED_PSTAT.PTOT = 0 ∧
      t.fld LED_PSTAT.FF = (foldStep 0 (s.fld LED_PCFG.PSUM) (s.fld LED_PSTAT.FF) s.fold.low).1 % 512)

/-- Lighting chains: refresh, buffer swap, underrun, discovery. Of a chain that is up: REFRESH_START in RUN with no refresh
under way and a swap pending exchanges the buffers (SWPEND 0, ACTIVE toggled) and begins; REFRESH_COMPLETE of a refresh
whose answer is not checked ends it, keeps its frames as the next reference and counts it in REFRESH; CHAIN_UNDERRUN ends a
refresh, counts and sets UNDERRUN. CTL.SWAP of a fitted chain sets SWPEND; CTL.DISC begins discovery. DISCOVERY_DONE with
NEXP nodes: RUN, QDLY the measured delay; with no answer: OPEN (4), NFOUND 0. DISCOVERY_RETRY from state 3 or 4 discovers
again. (08_lighting.md) -/
def Obligations.LightingChains : Prop :=
  (∀ (s : State) (n : Nat), s.lchUp n = true → s.lcs n = 2 → (s.lc n).busy = false → s.bit LCH_STAT.SWPEND n = true →
      ∃ t, exec (.refreshStart ⟨n, none⟩) s = .next t ∧ (t.lc n).busy = true ∧ t.bit LCH_STAT.SWPEND n = false ∧
      t.bit LCH_STAT.ACTIVE n = !s.bit LCH_STAT.ACTIVE n) ∧
  (∀ (s : State) (n : Nat) (ret : List (List Byte)), s.lchUp n = true → s.lcs n = 2 → (s.lc n).busy = true →
      (s.lc n).unchecked = true → ∃ t, exec (.refreshComplete n ret) s = .next t ∧ (t.lc n).busy = false ∧
      (t.lc n).prev = (s.lc n).frames ∧ (t.lc n).unchecked = false ∧
      t.fld LCH_CNT.REFRESH n = (s.fld LCH_CNT.REFRESH n + 1) % 65536) ∧
  (∀ (s : State) (n : Nat), s.lchUp n = true → s.lcs n = 2 → (s.lc n).busy = true →
      ∃ t, exec (.chainUnderrun ⟨n, none⟩) s = .next t ∧ (t.lc n).busy = false ∧ (t.lc n).unders = (s.lc n).unders + 1 ∧
      t.bit LCH_STAT.UNDERRUN n = true) ∧
  (∀ (s : State) (w : Who) (n : Nat), lchFitted s.variant n = true → s.reaches w 8 = true →
      ∃ t, exec (.lchCtlSwap w n) s = .next t ∧ t.bit LCH_STAT.SWPEND n = true) ∧
  (∀ (s : State) (w : Who) (n : Nat), s.lchUp n = true → s.reaches w 8 = true → ∃ t, exec (.lchCtlDisc w n) s = .next t ∧
      t.lcs n = 1 ∧ (t.lc n).busy = false) ∧
  (∀ (s : State) (n d : Nat), s.lchUp n = true → s.lcs n = 1 →
      ∃ t, exec (.discoveryDone n (some (s.fld LCH_CFG.NEXP n)) d) s = .next t ∧ t.lcs n = 2 ∧
      t.fld LCH_DLY.QDLY n = satTo d 16 ∧ (t.lc n).unchecked = true) ∧
  (∀ (s : State) (n d : Nat), s.lchUp n = true → s.lcs n = 1 → ∃ t, exec (.discoveryDone n none d) s = .next t ∧
      t.lcs n = 4 ∧ t.fld LCH_STAT.NFOUND n = 0) ∧
  (∀ (s : State) (n : Nat), s.lchUp n = true → s.lcs n = 3 ∨ s.lcs n = 4 → ∃ t, exec (.discoveryRetry n) s = .next t ∧
      t.lcs n = 1)

/-- Switch, analogue and hall inputs, sensor supplies. With the fabric up: the first SIN_SAMPLE of a group's first input sets
its raw and its debounced level by the thresholds. AIN_UPDATE from the fifth on, with no supply overloaded, stores VAL.
AIN_OVER_RANGE at VAL 4,095, not yet reported, sets OVR. SENSOR_SUPPLY_OVERLOAD of a supply that is on notes the overload
and raises kind 2 with its voltage; SENSOR_SUPPLY_RECOVERY clears it. HALL_LEVEL_CHANGE of a three-wire input toggles LVL
and counts EDGES modulo 65,536. HALL_OPEN_SHORT of a two-wire input below 2.0 mA sets OPEN and shows I, above 25 mA sets
SHORT. (09_inputs.md) -/
def Obligations.Inputs : Prop :=
  (∀ (s : State) (g mv : Nat), s.sys.fabricUp = true → sinFitted s.variant (8 * g) = true →
      s.inp.sampled.getLsbD (8 * g) = false → ∃ t, exec (.sinSample g [mv]) s = .next t ∧
      t.inp.sampled.getLsbD (8 * g) = true ∧
      t.inp.raw.getLsbD (8 * g) = rawLevel (s.inp.raw.getLsbD (8 * g)) mv (s.fld INP_SGRP.THRL g) (s.fld INP_SGRP.THRH g) ∧
      t.slvl (8 * g) = rawLevel (s.inp.raw.getLsbD (8 * g)) mv (s.fld INP_SGRP.THRL g) (s.fld INP_SGRP.THRH g)) ∧
  (∀ (s : State) (j mv vs : Nat), s.sys.fabricUp = true → ainFitted s.variant j = true → 4 ≤ Tbl.get s.inp.upd j 0 →
      s.inp.ovl = 0 → ∃ t, exec (.ainUpdate j mv vs) s = .next t ∧ t.fld AIN_VAL.VAL j = s.ainVal j mv vs) ∧
  (∀ (s : State) (j : Nat), s.sys.fabricUp = true → ainFitted s.variant j = true → s.fld AIN_VAL.VAL j = 4095 →
      s.inp.overRep.getLsbD j = false → ∃ t, exec (.ainOverRange j) s = .next t ∧ t.bit AIN_VAL.OVR j = true ∧
      t.inp.overRep.getLsbD j = true) ∧
  (∀ (s : State) (u mv : Nat), s.supOn u = true → s.inp.ovl.getLsbD u = false →
      ∃ t, exec (.sensorSupplyOverload u mv) s = .next t ∧ t.inp.ovl.getLsbD u = true ∧
      t.flt.raised = s.flt.raised ++ [⟨srcId 7 (24 + u) 2, satTo (mv / 10) 12, s.micros, false, true, false⟩]) ∧
  (∀ (s : State) (u : Nat), u < 3 → ∃ t, exec (.sensorSupplyRecovery u) s = .next t ∧ t.inp.ovl.getLsbD u = false) ∧
  (∀ (s : State) (h : Nat), s.sys.fabricUp = true → hallFitted s.variant h = true → s.fld HALL_CFG.MODE h = 1 →
      ∃ t, exec (.hallLevelChange h (!s.bit HALL_STAT.LVL h) 0) s = .next t ∧
      t.bit HALL_STAT.LVL h = !s.bit HALL_STAT.LVL h ∧ t.fld HALL_STAT.EDGES h = (s.fld HALL_STAT.EDGES h + 1) % 65536) ∧
  (∀ (s : State) (h i : Nat), s.sys.fabricUp = true → hallFitted s.variant h = true → s.fld HALL_CFG.MODE h = 2 → i < 20 →
      ∃ t, exec (.hallOpenShort h i) s = .next t ∧ t.bit HALL_STAT.OPEN h = true ∧ t.fld HALL_STAT.I h = i) ∧
  (∀ (s : State) (h i : Nat), s.sys.fabricUp = true → hallFitted s.variant h = true → s.fld HALL_CFG.MODE h = 2 → 250 < i →
      ∃ t, exec (.hallOpenShort h i) s = .next t ∧ t.bit HALL_STAT.SHORT h = true)

/-- Docent cores: the word at the PC, traps, ALU, MUL, division, SAT, LSU.STAT. Of a context that is free to issue on its core:
MOVE of a single unguarded immediate to a general register sets it and PC grows by 4; a word with reserved bits set
quarantines the context and DOC_TRAP shows code 2. ALU_OPERATION at ports 0x022 to 0x03F, MUL_MULTIPLY at 0x043 to 0x045 and
SAT_OPERATION at 0x0C2 to 0x0C5 write the result of A, B and LO:HI; MUL_DIVIDE at 0x046 or 0x047 puts the division in
flight, which DIVIDE_COMPLETE writes to LO and HI. LSU_STAT_READ moves LSU.STAT into a general register and clears it.
Clauses without a trap end with the registers and parts of the state that alone may have changed. (10_rarek_move_code.md) -/
def Obligations.CoreArithmetic : Prop :=
  (∀ (s : State) (c d : Nat) (g : Nat) (v : Word) (lost : Bool), s.freeToIssue c d = true → (s.rcd c).pc ≤ 0x1FFFC →
      g < 32 → decodeMoves (s.word (0x400000 + 0x20000 * d + (s.rcd c).pc)) = ([⟨0, g, some v, 0⟩], true) →
      ∃ t, exec (.move d 0 lost) s = .next t ∧ t.port c g = v ∧ (t.rcd c).pc = (s.rcd c).pc + 4 ∧
      Changes [.DOC_RET, .DOC_STAT, .CTXC_RUN] [.doc, .twn] s t) ∧
  (∀ (s : State) (c d : Nat) (lost : Bool), s.freeToIssue c d = true → (s.rcd c).pc ≤ 0x1FFFC →
      (decodeMoves (s.word (0x400000 + 0x20000 * d + (s.rcd c).pc))).2 = false → ∃ t, exec (.move d 0 lost) s = .next t ∧
      t.cst c = stQuar ∧ t.bit DOC_TRAP.VALID = true ∧ t.fld DOC_TRAP.CODE = 2) ∧
  (∀ (s : State) (c d : Nat) (p : Nat) (b : Word), s.freeToIssue c d = true → 0x022 ≤ p → p ≤ 0x03F →
      ∃ t, exec (.aluOperation c p b) s = .next t ∧ t.port c pAluR = aluResult p (s.port c pAluA) b ∧
      (t.rcd c).pc = (s.rcd c).pc + 4 ∧ Changes [.DOC_RET, .DOC_STAT, .CTXC_RUN] [.doc, .twn] s t) ∧
  (∀ (s : State) (c d : Nat) (p : Nat) (b : Word), s.freeToIssue c d = true → 0x043 ≤ p → p ≤ 0x045 →
      ∃ t, exec (.mulMultiply c p b) s = .next t ∧
      t.port c pMulLo = (mulResult p (s.port c pMulA) b (s.port c pMulLo) (s.port c pMulHi)).2 ∧
      t.port c pMulHi = (mulResult p (s.port c pMulA) b (s.port c pMulLo) (s.port c pMulHi)).1 ∧
      (t.rcd c).pc = (s.rcd c).pc + 4 ∧ Changes [.DOC_RET, .DOC_STAT, .CTXC_RUN] [.doc, .twn] s t) ∧
  (∀ (s : State) (c d : Nat) (p : Nat) (b : Word), s.freeToIssue c d = true → p = 0x046 ∨ p = 0x047 →
      ∃ t, exec (.mulDivide c p b) s = .next t ∧ (t.ctx c).div = some ⟨p = 0x046, s.port c pMulA, b⟩ ∧
      (t.rcd c).pc = (s.rcd c).pc + 4 ∧ Changes [.DOC_RET, .DOC_STAT, .CTXC_RUN] [.doc, .twn] s t) ∧
  (∀ (s : State) (c : Nat) (v : DivOp), (s.ctx c).div = some v → ∃ t, exec (.divideComplete c) s = .next t ∧
      (t.ctx c).div = none ∧ t.port c pMulLo = (divResult v.signed v.a v.b).1 ∧
      t.port c pMulHi = (divResult v.signed v.a v.b).2) ∧
  (∀ (s : State) (c d : Nat) (p : Nat) (b : Word), s.freeToIssue c d = true → 0x0C2 ≤ p → p ≤ 0x0C5 →
      ∃ t, exec (.satOperation c p b) s = .next t ∧
      t.port c pSatR = (satResult p (s.port c pSatA) b (s.port c pSatLo) (s.port c pSatHi)).1 ∧
      t.port c pSatStat = boolW (satResult p (s.port c pSatA) b (s.port c pSatLo) (s.port c pSatHi)).2 ∧
      (t.rcd c).pc = (s.rcd c).pc + 4 ∧ Changes [.DOC_RET, .DOC_STAT, .CTXC_RUN] [.doc, .twn] s t) ∧
  (∀ (s : State) (c d : Nat) (g : Nat), s.freeToIssue c d = true → g < 32 → ∃ t, exec (.lsuStatRead c g) s = .next t ∧
      t.port c g = s.port c pLsuStat ∧ t.port c pLsuStat = 0 ∧ (t.rcd c).pc = (s.rcd c).pc + 4 ∧
      Changes [.DOC_RET, .DOC_STAT, .CTXC_RUN] [.doc, .twn] s t)

/-- Docent cores: loads, stores, atomics and string operations. Of a context that is free to issue: a load of 4, 2 or 1 bytes, a
load through a pointer register, a store of 4, 2 or 1 bytes, an atomic add or swap, COPY, FILL, CMP and CRC whose addresses
are aligned and permitted enter the core's queue with address, size and value; PC grows by 4 (stated for all but FILL, CMP,
CRC and pointer loads); a pointer grows by its increment, SRC and DST by 4. With no earlier operation of the context waiting
elsewhere and the bank awake: LOAD_COMPLETE of a load whose result is wanted writes the bytes, zero-extended, to LSU.R; of
an atomic add the old word, the sum going to memory; STORE_QUEUE_DRAIN of a word stores it; STR_OPERATION_COMPLETE of a copy
copies the word; each leaves the rest of the queue. (10_rarek_move_code.md, 11_contexts_memory.md) -/
def Obligations.CoreMemory : Prop :=
  (∀ (s : State) (c d : Nat) (k : Nat) (b : Word), s.freeToIssue c d = true → k < 3 → b.toNat % (4 / 2 ^ k) = 0 →
      s.memPermitted b.toNat = true → ∃ t, exec (.lsuLoad c (0x058 + k) b) s = .next t ∧
      (t.core d).memq = [⟨c, .load, b.toNat, 4 / 2 ^ k, 0, s.doc.opSeq, false⟩] ∧ (t.rcd c).pc = (s.rcd c).pc + 4 ∧
      Changes [.DOC_RET, .DOC_STAT, .CTXC_RUN] [.doc, .twn] s t) ∧
  (∀ (s : State) (c d : Nat) (n : Nat) (b : Word), s.freeToIssue c d = true → n < 4 →
      (s.port c (pLsuP0 + n)).toNat % 4 = 0 → s.memPermitted (s.port c (pLsuP0 + n)).toNat = true →
      ∃ t, exec (.lsuLoad c (0x05C + n) b) s = .next t ∧
      (t.core d).memq = [⟨c, .load, (s.port c (pLsuP0 + n)).toNat, 4, 0, s.doc.opSeq, false⟩] ∧
      t.port c (pLsuP0 + n) = s.port c (pLsuP0 + n) + s.port c (pLsuInc0 + n) ∧
      Changes [.DOC_RET, .DOC_STAT, .CTXC_RUN] [.doc, .twn] s t) ∧
  (∀ (s : State) (c d : Nat) (k : Nat) (b : Word), s.freeToIssue c d = true → k < 3 →
      (s.port c pLsuSA).toNat % (4 / 2 ^ k) = 0 → s.memPermitted (s.port c pLsuSA).toNat = true →
      ∃ t, exec (.lsuStore c (0x061 + k) b) s = .next t ∧
      (t.core d).memq = [⟨c, .store, (s.port c pLsuSA).toNat, 4 / 2 ^ k, b, s.doc.opSeq, false⟩] ∧
      (t.rcd c).pc = (s.rcd c).pc + 4 ∧ Changes [.DOC_RET, .DOC_STAT, .CTXC_RUN] [.doc, .twn] s t) ∧
  (∀ (s : State) (c d : Nat) (b : Word), s.freeToIssue c d = true → (s.port c pLsuSA).toNat % 4 = 0 →
      s.memPermitted (s.port c pLsuSA).toNat = true → ∃ t, exec (.lsuAtomic c 0x068 b) s = .next t ∧
      (t.core d).memq = [⟨c, .aadd, (s.port c pLsuSA).toNat, 4, b, s.doc.opSeq, false⟩] ∧ (t.rcd c).pc = (s.rcd c).pc + 4 ∧
      Changes [.DOC_RET, .DOC_STAT, .CTXC_RUN] [.doc, .twn] s t) ∧
  (∀ (s : State) (c d : Nat) (b : Word), s.freeToIssue c d = true → (s.port c pLsuSA).toNat % 4 = 0 →
      s.memPermitted (s.port c pLsuSA).toNat = true → ∃ t, exec (.lsuAtomic c 0x069 b) s = .next t ∧
      (t.core d).memq = [⟨c, .aswap, (s.port c pLsuSA).toNat, 4, b, s.doc.opSeq, false⟩] ∧ (t.rcd c).pc = (s.rcd c).pc + 4 ∧
      Changes [.DOC_RET, .DOC_STAT, .CTXC_RUN] [.doc, .twn] s t) ∧
  (∀ (s : State) (d : Nat) (o : MemOp) (os : List MemOp), (s.core d).memq = o :: os → o.kind = .load →
      s.memBehind o = false → s.memAwake o.addr = true → o.mute = false → ∃ t, exec (.loadComplete d 0 0) s = .next t ∧
      t.port o.ctx pLsuR = BitVec.ofNat 32 (leNat (s.bytes o.addr o.size)) ∧ (t.core d).memq = os) ∧
  (∀ (s : State) (d : Nat) (o : MemOp) (os : List MemOp), (s.core d).memq = o :: os → o.kind = .aadd →
      s.memBehind o = false → s.memAwake o.addr = true → o.mute = false → ∃ t, exec (.loadComplete d 0 0) s = .next t ∧
      t.port o.ctx pLsuR = s.word o.addr ∧ t.word o.addr = s.word o.addr + o.value ∧ (t.core d).memq = os) ∧
  (∀ (s : State) (d : Nat) (o : MemOp) (os : List MemOp), (s.core d).memq = o :: os → o.kind = .store → o.size = 4 →
      s.memBehind o = false → s.memAwake o.addr = true → ∃ t, exec (.storeQueueDrain d 0 0) s = .next t ∧
      t.word o.addr = o.value ∧ (t.core d).memq = os) ∧
  (∀ (s : State) (c d : Nat), s.freeToIssue c d = true → (s.port c pStrSrc).toNat % 4 = 0 →
      (s.port c pStrDst).toNat % 4 = 0 → s.memPermitted (s.port c pStrSrc).toNat = true →
      s.memPermitted (s.port c pStrDst).toNat = true → ∃ t, exec (.strCopy c) s = .next t ∧
      (t.core d).strq = [⟨c, .copy, (s.port c pStrSrc).toNat, (s.port c pStrDst).toNat, 0, 0, s.doc.opSeq, false⟩] ∧
      t.port c pStrSrc = s.port c pStrSrc + 4 ∧ t.port c pStrDst = s.port c pStrDst + 4 ∧ (t.rcd c).pc = (s.rcd c).pc + 4 ∧
      Changes [.DOC_RET, .DOC_STAT, .CTXC_RUN] [.doc, .twn] s t) ∧
  (∀ (s : State) (c d : Nat) (b : Word), s.freeToIssue c d = true → (s.port c pStrDst).toNat % 4 = 0 →
      s.memPermitted (s.port c pStrDst).toNat = true → ∃ t, exec (.strFill c b) s = .next t ∧
      (t.core d).strq = [⟨c, .fill, (s.port c pStrSrc).toNat, (s.port c pStrDst).toNat, b, 0, s.doc.opSeq, false⟩] ∧
      t.port c pStrDst = s.port c pStrDst + 4 ∧ Changes [.DOC_RET, .DOC_STAT, .CTXC_RUN] [.doc, .twn] s t) ∧
  (∀ (s : State) (c d : Nat), s.freeToIssue c d = true → (s.port c pStrSrc).toNat % 4 = 0 →
      (s.port c pStrDst).toNat % 4 = 0 → s.memPermitted (s.port c pStrSrc).toNat = true →
      s.memPermitted (s.port c pStrDst).toNat = true → ∃ t, exec (.strCmp c) s = .next t ∧
      (t.core d).strq = [⟨c, .cmp, (s.port c pStrSrc).toNat, (s.port c pStrDst).toNat, 0, 0, s.doc.opSeq, false⟩] ∧
      t.port c pStrSrc = s.port c pStrSrc + 4 ∧ t.port c pStrDst = s.port c pStrDst + 4 ∧
      Changes [.DOC_RET, .DOC_STAT, .CTXC_RUN] [.doc, .twn] s t) ∧
  (∀ (s : State) (c d : Nat), s.freeToIssue c d = true → (s.port c pStrSrc).toNat % 4 = 0 →
      s.memPermitted (s.port c pStrSrc).toNat = true → ∃ t, exec (.strCrc c) s = .next t ∧
      (t.core d).strq = [⟨c, .crc, (s.port c pStrSrc).toNat, (s.port c pStrDst).toNat, 0, 0, s.doc.opSeq, false⟩] ∧
      t.port c pStrSrc = s.port c pStrSrc + 4 ∧ Changes [.DOC_RET, .DOC_STAT, .CTXC_RUN] [.doc, .twn] s t) ∧
  (∀ (s : State) (d : Nat) (o : StrOp) (os : List StrOp), (s.core d).strq = o :: os → o.kind = .copy →
      s.strBehind o = false → s.strAsleep o = false → ∃ t, exec (.strOperationComplete d ⟨0, 0⟩ ⟨0, 0⟩) s = .next t ∧
      t.word o.dst = s.word o.src ∧ (t.core d).strq = os)

/-- Docent cores: jumps, calls, events, timers, repeats, window ports. Of a context that is free to issue: PC_JUMP at 0x080 and
0x083 to an aligned address in the code bank sets PC to it, or to PC plus it; PC_CALL at 0x081 also sets LR to PC + 4.
EVT.WAIT with a mask and no pending event of it: WAIT with the mask (a context that is not mirrored); with one: CAUSE takes
the masked events, which leave PEND. EVT.SEND sets the event of a live context that neither waits nor is mirrored; EVT.CLR
clears; EVT.YIELD goes behind its equals. TMR.NOW reads the time base as 2 to 4 steps ago; TMR.UNTIL and TMR.AFTER of a time
to come sleep with it as wake time (not mirrored); TIMED_WAIT_EXPIRY ends the wait; TMR.ALARM and TMR.ALOFF arm and disarm;
ALARM_EXPIRY of a live context that neither waits nor is mirrored sets event 31 and disarms. REP.T with a count up to
16,777,215 begins the repeat, with 0 skips a word. WINDOW_READ of FAB_OWNERR gives its word; WINDOW_WRITE posts the write.
How old a time read is within R28's bounds is a free value (log entry 2). (10_rarek_move_code.md, 01_islands_and_flow.md) -/
def Obligations.CoreControl : Prop :=
  (∀ (s : State) (c d : Nat) (b : Word), s.freeToIssue c d = true → b.toNat % 4 = 0 → b.toNat ≤ 0x1FFFC →
      ∃ t, exec (.pcJump c 0x080 b) s = .next t ∧ (t.rcd c).pc = b.toNat ∧
      Changes [.DOC_RET, .DOC_STAT, .CTXC_RUN] [.doc, .twn] s t) ∧
  (∀ (s : State) (c d : Nat) (b : Word), s.freeToIssue c d = true → (BitVec.ofNat 32 (s.rcd c).pc + b).toNat % 4 = 0 →
      (BitVec.ofNat 32 (s.rcd c).pc + b).toNat ≤ 0x1FFFC → ∃ t, exec (.pcJump c 0x083 b) s = .next t ∧
      (t.rcd c).pc = (BitVec.ofNat 32 (s.rcd c).pc + b).toNat ∧ Changes [.DOC_RET, .DOC_STAT, .CTXC_RUN] [.doc, .twn] s t) ∧
  (∀ (s : State) (c d : Nat) (b : Word), s.freeToIssue c d = true → b.toNat % 4 = 0 → b.toNat ≤ 0x1FFFC →
      ∃ t, exec (.pcCall c 0x081 b) s = .next t ∧ (t.rcd c).pc = b.toNat ∧
      t.port c pLr = BitVec.ofNat 32 ((s.rcd c).pc + 4) ∧ Changes [.DOC_RET, .DOC_STAT, .CTXC_RUN] [.doc, .twn] s t) ∧
  (∀ (s : State) (c d : Nat) (b : Word), s.freeToIssue c d = true → b ≠ 0 → s.port c pEvtPend &&& b = 0 →
      s.mirrored c = false → ∃ t, exec (.evtWait c b) s = .next t ∧ t.cst c = stWait ∧ (t.rcd c).wait = 1 ∧
      t.port c pEvtMask = b ∧ Changes [.DOC_RET, .DOC_STAT, .CTXC_RUN, .CTXC_STAT, .CTX_STAT] [.doc, .twn] s t) ∧
  (∀ (s : State) (c d : Nat) (b : Word), s.freeToIssue c d = true → b ≠ 0 → s.port c pEvtPend &&& b ≠ 0 →
      ∃ t, exec (.evtWait c b) s = .next t ∧ t.port c pEvtCause = s.port c pEvtPend &&& b ∧
      t.port c pEvtPend = s.port c pEvtPend &&& ~~~(s.port c pEvtPend &&& b) ∧ (t.rcd c).pc = (s.rcd c).pc + 4 ∧
      Changes [.DOC_RET, .DOC_STAT, .CTXC_RUN] [.doc, .twn] s t) ∧
  (∀ (s : State) (c d : Nat) (b : Word), s.freeToIssue c d = true → b.toNat < 8192 → b.toNat / 32 < nCtx s.variant →
      s.ctxLive (b.toNat / 32) = true → s.cst (b.toNat / 32) ≠ stWait → s.mirrored (b.toNat / 32) = false →
      ∃ t, exec (.evtSend c b) s = .next t ∧
      t.port (b.toNat / 32) pEvtPend = s.port (b.toNat / 32) pEvtPend ||| (1#32 <<< (b.toNat % 32)) ∧
      Changes [.DOC_RET, .DOC_STAT, .CTXC_RUN, .CTXC_STAT, .CTX_STAT] [.doc, .twn] s t) ∧
  (∀ (s : State) (c d : Nat) (b : Word), s.freeToIssue c d = true → ∃ t, exec (.evtClr c b) s = .next t ∧
      t.port c pEvtPend = s.port c pEvtPend &&& ~~~b ∧ (t.rcd c).pc = (s.rcd c).pc + 4 ∧
      Changes [.DOC_RET, .DOC_STAT, .CTXC_RUN] [.doc, .twn] s t) ∧
  (∀ (s : State) (c d : Nat), s.freeToIssue c d = true → ∃ t, exec (.evtYield c) s = .next t ∧
      (t.rcd c).pc = (s.rcd c).pc + 4 ∧ s.doc.seq < t.doc.seq ∧
      Changes [.DOC_RET, .DOC_STAT, .CTXC_RUN, .CTXC_STAT, .CTX_STAT] [.doc, .twn] s t) ∧
  (∀ (s : State) (c d : Nat) (g : Nat), s.freeToIssue c d = true → g < 32 → ∃ t, exec (.tmrNow c g) s = .next t ∧
      t.port c g = BitVec.ofNat 32 (s.tb - 2 - (Config.freeWord s.free).toNat % 3) ∧ (t.rcd c).pc = (s.rcd c).pc + 4 ∧
      Changes [.DOC_RET, .DOC_STAT, .CTXC_RUN] [.doc, .twn] s t) ∧
  (∀ (s : State) (c d : Nat) (b : Word), s.freeToIssue c d = true → timePassed b s.seen = false → s.mirrored c = false →
      ∃ t, exec (.tmrUntil c b) s = .next t ∧ t.cst c = stSleep ∧ (t.rcd c).wait = 2 ∧ (t.rcd c).wakeAt = b ∧
      Changes [.DOC_RET, .DOC_STAT, .CTXC_RUN, .CTXC_STAT, .CTX_STAT] [.doc, .twn] s t) ∧
  (∀ (s : State) (c d : Nat) (b : Word), s.freeToIssue c d = true → b ≠ 0 → b.toNat ≤ 0x7FFFFFFF → s.mirrored c = false →
      ∃ t, exec (.tmrAfter c b) s = .next t ∧ t.cst c = stSleep ∧ (t.rcd c).wait = 2 ∧
      (t.rcd c).wakeAt = BitVec.ofNat 32 s.seen + b ∧
      Changes [.DOC_RET, .DOC_STAT, .CTXC_RUN, .CTXC_STAT, .CTX_STAT] [.doc, .twn] s t) ∧
  (∀ (s : State) (c : Nat), s.cst c = stSleep → ∃ t, exec (.timedWaitExpiry c) s = .next t ∧ (t.rcd c).wait = 0 ∧
      (t.rcd c).runCyc = 0) ∧
  (∀ (s : State) (c d : Nat) (b : Word), s.freeToIssue c d = true → timePassed b s.seen = false →
      ∃ t, exec (.tmrAlarm c b) s = .next t ∧ (t.rcd c).alarmArmed = true ∧ (t.rcd c).alarmAt = b ∧
      (t.rcd c).pc = (s.rcd c).pc + 4 ∧ Changes [.DOC_RET, .DOC_STAT, .CTXC_RUN, .CTXC_STAT, .CTX_STAT] [.doc, .twn] s t) ∧
  (∀ (s : State) (c d : Nat), s.freeToIssue c d = true → ∃ t, exec (.tmrAloff c) s = .next t ∧
      (t.rcd c).alarmArmed = false ∧ (t.rcd c).pc = (s.rcd c).pc + 4 ∧
      Changes [.DOC_RET, .DOC_STAT, .CTXC_RUN] [.doc, .twn] s t) ∧
  (∀ (s : State) (c : Nat), (s.rcd c).alarmArmed = true → s.ctxLive c = true → s.cst c ≠ stWait → s.mirrored c = false →
      ∃ t, exec (.alarmExpiry c) s = .next t ∧ (t.rcd c).alarmArmed = false ∧
      t.port c pEvtPend = s.port c pEvtPend ||| (1#32 <<< 31)) ∧
  (∀ (s : State) (c d : Nat) (n : Word), s.freeToIssue c d = true → n ≠ 0 → n.toNat ≤ 16777215 →
      ∃ t, exec (.repT c n) s = .next t ∧ (t.rcd c).repActive = true ∧ t.port c pRepN = n ∧
      (t.rcd c).pc = (s.rcd c).pc + 4 ∧ Changes [.DOC_RET, .DOC_STAT, .CTXC_RUN] [.doc, .twn] s t) ∧
  (∀ (s : State) (c d : Nat), s.freeToIssue c d = true → ∃ t, exec (.repT c 0) s = .next t ∧
      (t.rcd c).pc = (s.rcd c).pc + 8 ∧ Changes [.DOC_RET, .DOC_STAT, .CTXC_RUN] [.doc, .twn] s t) ∧
  (∀ (s : State) (c d : Nat) (w g a : Nat) (wr : Bool), s.freeToIssue c d = true → w < 256 → g < 32 →
      s.winEntry c w = some (a, true, wr) → s.regAt a = some ⟨.FAB_OWNERR, 0, 0, 0⟩ → s.sys.pollOpen = false →
      ∃ t, exec (.windowRead c w g) s = .next t ∧ t.port c g = s.reg ⟨.FAB_OWNERR, 0, 0, 0⟩ ∧
      (t.rcd c).pc = (s.rcd c).pc + 4 ∧ Changes [.DOC_RET, .DOC_STAT, .CTXC_RUN] [.doc, .twn] s t) ∧
  (∀ (s : State) (c d : Nat) (w a : Nat) (rd : Bool) (b : Word), s.freeToIssue c d = true → w < 256 →
      s.winEntry c w = some (a, rd, true) → ∃ t, exec (.windowWrite c w b) s = .next t ∧
      (t.core d).winq = [⟨c, a, b, s.doc.opSeq⟩] ∧ (t.rcd c).pc = (s.rcd c).pc + 4 ∧
      Changes [.DOC_RET, .DOC_STAT, .CTXC_RUN] [.doc, .twn] s t)

/-- Window queue, shadows, budgets, quarantine, core failure, ECC, memory banks. WINDOW_QUEUE_DRAIN of a legal, unbarred write
of HBR_POSSET sets POS and leaves the rest of the queue; WINDOW_TIMEOUT drops the oldest write and sets PTMO.
SHADOW_PRELOAD_DONE without an error marks the shadow ready. BUDGET_EXPIRY of a running context, once for each activation,
asks for quarantine 2, or under BDEM demotes to priority 0. QUARANTINE_EFFECT quarantines with the cause and clears the
pending events. Outside Sealed, RELEASE of a quarantined context disables it, or where it is enabled restarts it at ENTRY;
QUARANTINE in Service mode of a live context that does not run takes effect with cause 3. CORE_FAILURE of a core with no
context pinned to it, while another is usable: FAILED. ECC_WRITEBACK takes the oldest word that waits. SCRUB_READ with SCRUB
not 0: a corrected word waits for its write-back and is counted in CORR; an uncorrectable one is recorded with address, unit
and port 3. BANK_WAKE_DONE in W3 or a poll window of the next retained bank sets its AWAKE bit; BANK_INIT_DONE in W3 sets
INIT and the host window reads 0. (10_rarek_move_code.md, 11_contexts_memory.md) -/
def Obligations.ContextEngine : Prop :=
  (∀ (s : State) (d b : Nat) (o : WinOp) (os : List WinOp), (s.core d).winq = o :: os →
      s.regAt o.addr = some ⟨.HBR_POSSET, b, 0, 0⟩ → s.sys.pollOpen = false →
      s.legalWrite (.ctx o.ctx) .HBR_POSSET o.value = true →
      s.rwsBarred (.ctx o.ctx) ⟨.HBR_POSSET, b, 0, 0⟩ o.value = false → ∃ t, exec (.windowQueueDrain d) s = .next t ∧
      (t.core d).winq = os ∧ t.fld HBR_POS.POS b = ext o.value 0 16) ∧
  (∀ (s : State) (d : Nat) (o : WinOp) (os : List WinOp), (s.core d).winq = o :: os →
      ∃ t, exec (.windowTimeout d none) s = .next t ∧ (t.core d).winq = os ∧ bitOf (t.port o.ctx pLsuStat).toNat 2 = true) ∧
  (∀ (s : State) (d c : Nat) (x : Bool), (s.core d).shadow = some (c, x) →
      ∃ t, exec (.shadowPreloadDone ⟨d, 0⟩) s = .next t ∧ (t.core d).shadow = some (c, true)) ∧
  (∀ (s : State) (c : Nat), s.cst c = stRun → (s.ctx c).overrun = false → s.fld CTXC_CFG.BUDGET c ≠ 0 → s.bdem c = false →
      ∃ t, exec (.budgetExpiry c) s = .next t ∧ (t.ctx c).qpend = some 2 ∧ (t.ctx c).overrun = true ∧ t.cst c = stRun) ∧
  (∀ (s : State) (c : Nat), s.cst c = stRun → (s.ctx c).overrun = false → s.fld CTXC_CFG.BUDGET c ≠ 0 → s.bdem c = true →
      ∃ t, exec (.budgetExpiry c) s = .next t ∧ t.bit CTXC_STAT.DEMOTED c = true ∧ t.fld CTXC_STAT.EPRIO c = 0 ∧
      (t.ctx c).overrun = true) ∧
  (∀ (s : State) (c q : Nat), (s.ctx c).qpend = some q → ∃ t, exec (.quarantineEffect c) s = .next t ∧ t.cst c = stQuar ∧
      (t.ctx c).qpend = none ∧ t.port c pEvtPend = 0 ∧ t.fld CTXC_STAT.QCAUSE c = q % 8) ∧
  (∀ (s : State) (w : Who) (c : Nat), c < nCtx s.variant → s.mode ≠ 11 → s.cst c = stQuar → s.ctxEnabled c = false →
      s.reaches w 11 = true → ∃ t, exec (.ctxCmdRelease w c) s = .next t ∧ t.cst c = stDisabled ∧
      t.fld CTXC_STAT.QCAUSE c = 0) ∧
  (∀ (s : State) (w : Who) (c : Nat), c < nCtx s.variant → s.mode ≠ 11 → s.cst c = stQuar → s.ctxEnabled c = true →
      s.reaches w 11 = true → ∃ t, exec (.ctxCmdRelease w c) s = .next t ∧ (t.rcd c).pc = s.fld CTXC_ENTRY.ENTRY c ∧
      (t.rcd c).wait = 0 ∧ t.bit CTXC_STAT.DEMOTED c = false) ∧
  (∀ (s : State) (w : Who) (c : Nat), c < nCtx s.variant → s.mode = 8 → s.ctxLive c = true → s.cst c ≠ stRun →
      s.reaches w 11 = true → ∃ t, exec (.ctxCmdQuarantine w c) s = .next t ∧ t.cst c = stQuar ∧
      t.fld CTXC_STAT.QCAUSE c = 3) ∧
  (∀ (s : State) (d e : Nat) (x : Bool), d < nCores s.variant → s.coreSt d = 1 ∨ s.coreSt d = 2 → e < nCores s.variant →
      e ≠ d → s.coreSt e ≠ 3 → s.pinnedTo d = [] → (s.running d).all (fun c => s.fld CTXC_CFG.AFFIN c != d) = true →
      ∃ t, exec (.coreFailure d x) s = .next t ∧ t.coreSt d = 3) ∧
  (∀ (s : State), ∃ t, exec .eccWriteback s = .next t ∧ t.memx.writeback = s.memx.writeback.drop 1) ∧
  (∀ (s : State) (a u base : Nat), memUnit a = some (u, base) → s.fld MEM_CFG.SCRUB ≠ 0 → unitFitted s.variant u = true →
      ∃ t, exec (.scrubRead a 1) s = .next t ∧ t.memx.writeback = s.memx.writeback ++ [a / 4 * 4] ∧
      t.fld MEM_ECC.CORR u = satInc (s.fld MEM_ECC.CORR u) MEM_ECC.CORR.width) ∧
  (∀ (s : State) (a u base : Nat), memUnit a = some (u, base) → s.fld MEM_CFG.SCRUB ≠ 0 → unitFitted s.variant u = true →
      ∃ t, exec (.scrubRead a 2) s = .next t ∧ t.fld MEM_ECCADDR.ADDR = a / 4 * 4 ∧ t.fld MEM_ECCSRC.UNIT = u ∧
      t.fld MEM_ECCSRC.PORT = 3 ∧ t.bit MEM_ECCSRC.VALID = true) ∧
  (∀ (s : State) (b : Nat), s.sys.phase = .w3 ∨ s.sys.pollOpen = true → s.banksAsleep.head? = some b → b < 16 →
      ∃ t, exec (.bankWakeDone b) s = .next t ∧ bitOf (t.fld MEM_STAT.AWAKE) b = true) ∧
  (∀ (s : State) (a : Nat), s.sys.phase = .w3 → 0x300000 ≤ a → a < 0x308000 → ∃ t, exec .bankInitDone s = .next t ∧
      t.bit MEM_STAT.INIT = true ∧ t.byte a = 0)

/-- CAN ports: reception, queues, receive errors, recovery. CAN_FRAME_RECEIVED at a listening port, error active, of a frame
that it admits and whose filter puts it into queue 0, unlocked, in LOCK mode with room for it and outside NM: the record
follows the others with the queue's sequence number, which grows by 1 modulo 256; REC falls by 1, not below 0. CAN_RXD_READ
by a reader gives the next word of the oldest record while more follow; CAN_RXPOP in SEQ mode's absence (CONS 0) removes the
record and unlocks the queue. CAN_RX_ERROR of an ordinary error counts REC and ERRCNT and shows LEC, the port staying error
active. BUS_OFF_RECOVERY_DONE: error active, TEC and REC 0; RECOVER under BORECOV begins it; CLRLONELY clears LONELY and the
run; CAN_INTEGRATION_DONE of a port not in MON with both counters below 128: error active. TXD_DOMINANT_TIMEOUT turns the
transmitter off and holds kind 4; TXD_RECESSIVE_RETURN turns it on. (12_can.md) -/
def Obligations.CanReceive : Prop :=
  (∀ (s : State) (n i : Nat) (f : CanFrame) (sof : Word), s.canListens n = true → s.canAdmits n f = true →
      s.active n = none → s.bit CAN_STAT.LONELY n = false → s.fld CAN_STAT.REC n ≤ 127 → s.bit CAN_CFG.MON n = false →
      s.nmOn = false → s.filterOf n f = some i → s.fld CAN_FCTL.ACT n i = 1 → s.bit CAN_FCTL.GW n i = false →
      s.bit CAN_CFG.OVWR0 n = false → s.bit CAN_QSTAT.LOCKED n 0 = false →
      usedOf (s.cq n 0).recs + entriesOf (canRecord (s.cq n 0).seq (some i) f sof) ≤ s.qDepth n 0 → (s.cp n).after = 0 →
      ∃ t, exec (.canFrameReceived n f sof) s = .next t ∧
      (t.cq n 0).recs = (s.cq n 0).recs ++ [canRecord (s.cq n 0).seq (some i) f sof] ∧
      (t.cq n 0).seq = ((s.cq n 0).seq + 1) % 256 ∧ t.fld CAN_STAT.REC n = s.fld CAN_STAT.REC n - 1) ∧
  (∀ (s : State) (w : Who) (n q : Nat) (rc : List Word) (rs : List (List Word)), s.canFitted n = true → q < 2 →
      s.isReader w n q = true → (s.cq n q).recs = rc :: rs → (s.cq n q).pos + 1 < rc.length → s.reaches w 13 = true →
      ∃ t, exec (.canRxdRead w n q) s = .next t ∧ t.rdata = rc.getD (s.cq n q).pos 0 ∧ (t.cq n q).pos = (s.cq n q).pos + 1 ∧
      (t.cq n q).recs = rc :: rs) ∧
  (∀ (s : State) (w : Who) (n q : Nat) (rc : List Word) (rs : List (List Word)) (x : Word), s.canFitted n = true → q < 2 →
      s.legalWrite w .CAN_RXPOP x = true → s.rwsBarred w ⟨.CAN_RXPOP, n, q, 0⟩ x = false → s.bit CAN_CFG.MON n = false →
      s.bit CAN_CFG.CONS n = false → (s.cq n q).recs = rc :: rs → s.reaches w 13 = true →
      ∃ t, exec (.canRxpop w n q x) s = .next t ∧ (t.cq n q).recs = rs ∧ (t.cq n q).pos = 0 ∧
      t.bit CAN_QSTAT.LOCKED n q = false) ∧
  (∀ (s : State) (n : Nat) (e : CanErr), s.canListens n = true → s.active n = none → s.canSt n = 2 → (s.cp n).after = 0 →
      s.fld CAN_STAT.TEC n < 128 → e.exempt = false → e.eights = 0 → s.fld CAN_STAT.REC n < 127 →
      ∃ t, exec (.canRxError n e) s = .next t ∧ t.fld CAN_STAT.REC n = s.fld CAN_STAT.REC n + 1 ∧
      t.fld CAN_ERR.LEC n = e.lec % 8 ∧ t.fld CAN_ERR.ERRCNT n = (s.fld CAN_ERR.ERRCNT n + 1) % 256 ∧ t.canSt n = 2) ∧
  (∀ (s : State) (n : Nat), s.canFitted n = true → s.canSt n = 5 → ∃ t, exec (.busOffRecoveryDone n) s = .next t ∧
      t.canSt n = 2 ∧ t.fld CAN_STAT.TEC n = 0 ∧ t.fld CAN_STAT.REC n = 0) ∧
  (∀ (s : State) (w : Who) (n : Nat), s.canFitted n = true → s.bit CAN_CFG.BORECOV n = true → s.canSt n = 4 →
      s.reaches w 13 = true → ∃ t, exec (.canCmdRecover w n) s = .next t ∧ t.canSt n = 5) ∧
  (∀ (s : State) (w : Who) (n : Nat), s.canFitted n = true → s.reaches w 13 = true →
      ∃ t, exec (.canCmdClrlonely w n) s = .next t ∧ t.fld CAN_ERR.ACKRUN n = 0 ∧ t.bit CAN_STAT.LONELY n = false) ∧
  (∀ (s : State) (n : Nat), s.canFitted n = true → s.canSt n = 1 → s.bit CAN_CFG.MON n = false →
      s.fld CAN_STAT.TEC n < 128 → s.fld CAN_STAT.REC n < 128 → ∃ t, exec (.canIntegrationDone n) s = .next t ∧
      t.canSt n = 2 ∧ (t.cp n).activating = false) ∧
  (∀ (s : State) (n : Nat), s.canFitted n = true → s.canSt n ≠ 0 → ∃ t, exec (.txdDominantTimeout n true) s = .next t ∧
      (t.cp n).txdOut = true ∧ t.srcLive 10 n 4 = true) ∧
  (∀ (s : State) (n : Nat), s.canFitted n = true → (s.cp n).txdOut = true → ∃ t, exec (.txdRecessiveReturn n) s = .next t ∧
      (t.cp n).txdOut = false)

/-- CAN ports: transmit buffers, staging, choice, success, errors, the gateway buffer. Of a fitted port: a word written to a
buffer that is not the gateway's and not PENDING, ACTIVE or HELD is stored. A request of buffer 0 at rest: PENDING where its
format is good, FAILED with reason 1 and a TXDONE bit where not; a cancel of buffer 0 PENDING or HELD: CANCELLED.
CAN_STAGING_DONE with the payload's bytes permitted keeps them. CAN_TX_CHOICE of a free port, error active or passive,
outside NM: the first of the pending, staged buffers is ACTIVE, ATTEMPTS counted. Of an error active port's ACTIVE buffer:
CAN_TX_SUCCESS: DONE, CAN_TXT the start-of-frame time, TEC lower by 1, not below 0, the frame sent; CAN_TX_ERROR of an
ordinary error with TEC below 120: PENDING again, TEC higher by 8, LEC shown. GATEWAY_BUFFER_LOAD under GWTX with buffer 24
at rest: the first waiting frame is in it, PENDING. (12_can.md) -/
def Obligations.CanTransmit : Prop :=
  (∀ (s : State) (w : Who) (n b i : Nat) (x : Word), s.canFitted n = true → b < 32 → i < 21 → s.gwOwned n b = false →
      s.bst n b ≠ bPending → s.bst n b ≠ bActive → s.bst n b ≠ bHeld → s.reaches w 13 = true →
      ∃ t, exec (.canTxBufferWrite w n b i x) s = .next t ∧ t.txw n b i = x) ∧
  (∀ (s : State) (w : Who) (n : Nat), s.canFitted n = true → s.bst n 0 ≠ bPending → s.bst n 0 ≠ bActive →
      s.bst n 0 ≠ bHeld → s.badFormat n 0 = false → s.reaches w 13 = true → ∃ t, exec (.canTxRequest w n 1) s = .next t ∧
      t.bst n 0 = bPending ∧ bitOf (t.fld CAN_TXPEND.BUF n) 0 = true) ∧
  (∀ (s : State) (w : Who) (n : Nat), s.canFitted n = true → s.bst n 0 ≠ bPending → s.bst n 0 ≠ bActive →
      s.bst n 0 ≠ bHeld → s.badFormat n 0 = true → s.reaches w 13 = true → ∃ t, exec (.canTxRequest w n 1) s = .next t ∧
      t.bst n 0 = bFailed ∧ t.fld CAN_TXS.REASON n 0 = 1 ∧ bitOf (t.fld CAN_TXDONE.BUF n) 0 = true) ∧
  (∀ (s : State) (w : Who) (n : Nat) (a : Bool), s.canFitted n = true → s.bst n 0 = bPending ∨ s.bst n 0 = bHeld →
      s.reaches w 13 = true → ∃ t, exec (.canTxCancel w n 1 a) s = .next t ∧ t.bst n 0 = bCancelled ∧
      bitOf (t.fld CAN_TXPEND.BUF n) 0 = false) ∧
  (∀ (s : State) (n b : Nat), b < 32 → (s.cp n).stage = some (b, none) →
      (List.range (s.txXlen n b)).all (fun i => s.memPermitted ((s.txw n b 4).toNat + i)) = true →
      ∃ t, exec (.canStagingDone n 0) s = .next t ∧
      (t.cp n).stage = some (b, some (s.bytes (s.txw n b 4).toNat (s.txXlen n b)))) ∧
  (∀ (s : State) (n b : Nat), s.canFitted n = true → s.canSt n = 2 ∨ s.canSt n = 3 → s.active n = none → s.nmOn = false →
      s.canFirst n (canBufs.filter fun b => s.bst n b == bPending && s.staged n b) = some b → b < 32 →
      ∃ t, exec (.canTxChoice n) s = .next t ∧ t.bst n b = bActive ∧
      t.fld CAN_TXS.ATTEMPTS n b = satInc (s.fld CAN_TXS.ATTEMPTS n b) 8 ∧ (t.cp n).late = false) ∧
  (∀ (s : State) (n b k : Nat) (sof : Word), s.active n = some b → b < 32 → s.canSt n = 2 → (s.cp n).after = 0 →
      s.fld CAN_STAT.REC n < 128 → s.fld CAN_STAT.TEC n < 128 → ∃ t, exec (.canTxSuccess n sof k) s = .next t ∧
      t.bst n b = bDone ∧ t.reg ⟨.CAN_TXT, n, b, 0⟩ = sof ∧ t.fld CAN_STAT.TEC n = s.fld CAN_STAT.TEC n - 1 ∧
      (t.cp n).sent = some (s.txFrame n b)) ∧
  (∀ (s : State) (n b : Nat) (e : CanErr), s.active n = some b → b < 32 → s.canSt n = 2 → (s.cp n).after = 0 →
      (s.cp n).late = false → e.lec ≠ 3 → e.exempt = false → e.eights = 0 → s.fld CAN_STAT.TEC n < 120 →
      s.fld CAN_STAT.REC n < 128 → ∃ t, exec (.canTxError n e none) s = .next t ∧ t.bst n b = bPending ∧
      t.fld CAN_STAT.TEC n = s.fld CAN_STAT.TEC n + 8 ∧ t.fld CAN_ERR.LEC n = e.lec % 8 ∧ t.canSt n = 2) ∧
  (∀ (s : State) (n i : Nat) (f : CanFrame) (rest : List (Nat × CanFrame)), s.canFitted n = true →
      s.bit CAN_CFG.GWTX n = true → (s.cp n).gwFifo = (i, f) :: rest → s.bst n 24 = bIdle ∨ 4 ≤ s.bst n 24 →
      ∃ t, exec (.gatewayBufferLoad n) s = .next t ∧ t.bst n 24 = bPending ∧ (t.cp n).gwFifo = rest ∧ t.txFrame n 24 = f)

/-- LIN ports: slots, responses, bus dominant, schedules, data buffers, wake. Of an enabled port with a schedule running and no
slot open: LIN_SLOT_START opens the slot, a publisher's response being the bytes of its buffer; where sleep was asked for,
the port sleeps and the schedule stops. In a slot that awaits a subscribed response: one of the entry's length with the
right checksum, routed nowhere, fills the buffer with RES 1; one with a wrong checksum leaves it with RES 3;
LIN_RESPONSE_TIMEOUT gives RES 2. LIN_BUS_DOMINANT in a slot raises kind 3 with its identifier. A legal, unbarred LIN_SCHED
write at a port awake, outside a slot, starts its table at entry 0; CMD.WAKE sends a pulse; LIN_SCHEDULE_RESUME goes on with
the kept table at entry 0. Word 0 of a buffer is kept, and word 1 takes both into effect; a read of word 0 gives it.
(13_lin_ethernet_gateway.md) -/
def Obligations.LinPorts : Prop :=
  (∀ (s : State) (n : Nat), s.linFitted n = true → s.bit LIN_CFG.EN n = true → (s.lp n).inSlot = false →
      s.fld LIN_SCHED.RUNNING n < 16 → (s.lp n).goSleep = false → ∃ t, exec (.linSlotStart n) s = .next t ∧
      (t.lp n).inSlot = true ∧ (t.lp n).done = false ∧
      (t.lp n).sending = if s.linTe n LIN_TE.PUB = 1 then (s.linBytes n (s.linTe n LIN_TE.DSLOT)).take (s.linTe n LIN_TE.LEN + 1) else []) ∧
  (∀ (s : State) (n : Nat), s.linFitted n = true → s.bit LIN_CFG.EN n = true → (s.lp n).inSlot = false →
      s.fld LIN_SCHED.RUNNING n < 16 → (s.lp n).goSleep = true → ∃ t, exec (.linSlotStart n) s = .next t ∧
      (t.lp n).asleep = true ∧ (t.lp n).goSleep = false ∧ t.fld LIN_SCHED.RUNNING n = 16) ∧
  (∀ (s : State) (n : Nat) (data : List Byte) (chk : Byte), s.linFitted n = true → s.linAwaits n = true →
      s.linTe n LIN_TE.PUB = 0 → data.length = s.linTe n LIN_TE.LEN + 1 →
      linChecksum (s.linTe n LIN_TE.CHK = 1) (s.linTe n LIN_TE.FID) data = chk →
      s.routeOf ⟨1, n, 8 + n, 0⟩ (linFrame (s.linTe n LIN_TE.FID) data) = none →
      ∃ t, exec (.linResponseReceived n data chk false false) s = .next t ∧ (t.lp n).done = true ∧
      t.fld LIN_D2.RES n (s.linTe n LIN_TE.DSLOT) = 1 ∧ (t.linBytes n (s.linTe n LIN_TE.DSLOT)).take data.length = data) ∧
  (∀ (s : State) (n : Nat) (data : List Byte) (chk : Byte), s.linFitted n = true → s.linAwaits n = true →
      s.linTe n LIN_TE.PUB = 0 → linChecksum (s.linTe n LIN_TE.CHK = 1) (s.linTe n LIN_TE.FID) data ≠ chk →
      ∃ t, exec (.linResponseReceived n data chk false false) s = .next t ∧ (t.lp n).done = true ∧
      t.fld LIN_D2.RES n (s.linTe n LIN_TE.DSLOT) = 3 ∧
      t.linBytes n (s.linTe n LIN_TE.DSLOT) = s.linBytes n (s.linTe n LIN_TE.DSLOT)) ∧
  (∀ (s : State) (n : Nat), s.linFitted n = true → s.linAwaits n = true → s.linTe n LIN_TE.PUB = 0 →
      ∃ t, exec (.linResponseTimeout n false false) s = .next t ∧ (t.lp n).done = true ∧
      t.fld LIN_D2.RES n (s.linTe n LIN_TE.DSLOT) = 2) ∧
  (∀ (s : State) (n : Nat), s.linFitted n = true → s.ethOn = true → s.bit LIN_CFG.EN n = true → (s.lp n).inSlot = true →
      ∃ t, exec (.linBusDominant n) s = .next t ∧
      t.flt.raised = s.flt.raised ++ [⟨srcId 10 (8 + n) 3, s.linTe n LIN_TE.FID, s.micros, false, true, false⟩]) ∧
  (∀ (s : State) (w : Who) (n : Nat) (x : Word), s.linFitted n = true → s.legalWrite w .LIN_SCHED x = true →
      s.rwsBarred w ⟨.LIN_SCHED, n, 0, 0⟩ x = false → (s.lp n).asleep = false → (s.lp n).resume = false →
      (s.lp n).inSlot = false → s.reaches w 14 = true → ∃ t, exec (.linSchedWrite w n x) s = .next t ∧
      t.fld LIN_SCHED.RUNNING n = ext x 0 5 ∧ t.fld LIN_SCHED.ENTRY n = 0 ∧ t.fld LIN_SCHED.TABLE n = ext x 0 5) ∧
  (∀ (s : State) (w : Who) (n : Nat), s.linFitted n = true → s.reaches w 14 = true →
      ∃ t, exec (.linCmdWake w n) s = .next t ∧ (t.lp n).pulseAt = some s.tb) ∧
  (∀ (s : State) (w : Who) (n k : Nat) (x : Word), s.linFitted n = true → k < 64 → s.reaches w 14 = true →
      ∃ t, exec (.linDataWrite w n k 0 x) s = .next t ∧ Tbl.get (t.lp n).shadow k 0 = x) ∧
  (∀ (s : State) (w : Who) (n k : Nat) (x : Word), s.linFitted n = true → k < 64 →
      Tbl.get (s.lp n).shadow k 1 = Tbl.get (s.lp n).shadow k 0 → s.reaches w 14 = true →
      ∃ t, exec (.linDataWrite w n k 1 x) s = .next t ∧ t.reg ⟨.LIN_D1, n, k, 0⟩ = x ∧
      t.reg ⟨.LIN_D0, n, k, 0⟩ = Tbl.get (s.lp n).shadow k 0) ∧
  (∀ (s : State) (w : Who) (n k : Nat), s.linFitted n = true → k < 64 → s.reaches w 14 = true →
      ∃ t, exec (.linDataRead w n k 0) s = .next t ∧ t.rdata = s.reg ⟨.LIN_D0, n, k, 0⟩) ∧
  (∀ (s : State) (n : Nat), s.linFitted n = true → (s.lp n).resume = true → ∃ t, exec (.linScheduleResume n) s = .next t ∧
      (t.lp n).resume = false ∧ t.fld LIN_SCHED.RUNNING n = (s.lp n).table % 32 ∧ t.fld LIN_SCHED.ENTRY n = 0)

/-- Ethernet switch, links, PLCA, time synchronisation, 1722 streams. ETH_FRAME_RECEIVED at a port that is up, of a length up to
1,522, in a VLAN of which the port is a member, to an address learnt at another member port that is up: the frame joins that
port's queue of its PCP, tagged or untagged as the VLAN says; where that queue is full (the command says so: log entry 28)
it is dropped and counted. With the bus island running, at a fitted, enabled port: a lost link clears LINK and holds kind 0,
a failed training clears LINK and raises kind 1, a link up sets LINK and SQI; a lost beacon of a PLCA follower turns it to
CSMA/CD with kind 2, the beacon's return turns it back alone. At a time-sync slave, SYNC_MESSAGE_RECEIVED at its port shows
the offset, clears SYNCLOST and leaves a rate within 500 ppm (which one is a free value, log entry 2); SYNC_LOST sets
SYNCLOST, holds kind 4 and keeps the rate. TALKER_PDU_SEND with the queue not full sends the open messages as one NTSCF PDU
with the sequence number, which grows by 1 modulo 256. LISTENER_PDU_RECEIVED: a message shorter than its header raises kind
5; a CAN Brief message with a route to port 0 alone, KEEPID, the segment active and room in the queue, joins the gateway's
queue and is counted. (13_lin_ethernet_gateway.md) -/
def Obligations.EthernetAndStreams : Prop :=
  (∀ (s : State) (p q v : Nat) (f : EthFrame) (full : BitVec 8), ethFitted s.variant p = true → s.ethUp p = true →
      ethLen f ≤ 1522 → s.vlanOf (s.ethClass p f).1 = some v → bitOf (s.fld ETH_VLAN.MEMBER v) p = true →
      f.dst / 16 ≠ 0x0180C200000 → (s.ethLearn f.src (s.ethClass p f).1 p).ethLookup f.dst (s.ethClass p f).1 = some q →
      bitOf (s.fld ETH_VLAN.MEMBER v) q = true → q ≠ p → s.ethUp q = true → full.getLsbD q = false →
      ∃ t, exec (.ethFrameReceived p f full) s = .next t ∧
      t.ethQueue q (s.ethClass p f).2 = s.ethQueue q (s.ethClass p f).2 ++ [{ f with tag := if bitOf (s.fld ETH_VLAN.UNTAG v) q then none else some ((s.ethClass p f).2, (s.ethClass p f).1) }]) ∧
  (∀ (s : State) (p q v : Nat) (f : EthFrame) (full : BitVec 8), ethFitted s.variant p = true → s.ethUp p = true →
      ethLen f ≤ 1522 → s.vlanOf (s.ethClass p f).1 = some v → bitOf (s.fld ETH_VLAN.MEMBER v) p = true →
      f.dst / 16 ≠ 0x0180C200000 → (s.ethLearn f.src (s.ethClass p f).1 p).ethLookup f.dst (s.ethClass p f).1 = some q →
      bitOf (s.fld ETH_VLAN.MEMBER v) q = true → q ≠ p → s.ethUp q = true → full.getLsbD q = true → q ≠ 7 →
      ∃ t, exec (.ethFrameReceived p f full) s = .next t ∧ t.fld ETH_PSTAT.DROP q = satInc (s.fld ETH_PSTAT.DROP q) 16 ∧
      t.ethQueue q (s.ethClass p f).2 = s.ethQueue q (s.ethClass p f).2) ∧
  (∀ (s : State) (p : Nat), s.ethOn = true → ethFitted s.variant p = true → s.bit ETH_PCFG.EN p = true →
      s.bit ETH_PSTAT.LINK p = true → ∃ t, exec (.ethLinkChange p false) s = .next t ∧ t.bit ETH_PSTAT.LINK p = false ∧
      t.srcLive 10 (16 + p) 0 = true) ∧
  (∀ (s : State) (p : Nat), s.ethOn = true → ethFitted s.variant p = true → s.bit ETH_PCFG.EN p = true →
      ∃ t, exec (.ethLinkChange p true) s = .next t ∧ t.bit ETH_PSTAT.LINK p = false ∧
      t.flt.raised = s.flt.raised ++ [⟨srcId 10 (16 + p) 1, 0, s.micros, false, true, false⟩]) ∧
  (∀ (s : State) (p q : Nat), s.ethOn = true → ethFitted s.variant p = true → s.bit ETH_PCFG.EN p = true →
      ∃ t, exec (.ethLinkUp p q) s = .next t ∧ t.bit ETH_PSTAT.LINK p = true ∧ t.fld ETH_PSTAT.SQI p = q % 8) ∧
  (∀ (s : State) (p : Nat), s.ethOn = true → ethFitted s.variant p = true → s.bit ETH_PCFG.EN p = true → p = 5 ∨ p = 6 →
      s.bit ETH_PLCA.EN p = true → s.fld ETH_PLCA.ID p ≠ 0 → s.eth.csma.getLsbD p = false →
      ∃ t, exec (.plcaBeaconLost p) s = .next t ∧ t.eth.csma.getLsbD p = true ∧ t.srcLive 10 (16 + p) 2 = true) ∧
  (∀ (s : State) (p : Nat), s.ethOn = true → p < 8 → s.eth.csma.getLsbD p = true →
      ∃ t, exec (.plcaBeaconReturn p) s = .next t ∧ t.eth.csma.getLsbD p = false ∧
      ∀ q, q ≠ p → t.eth.csma.getLsbD q = s.eth.csma.getLsbD q) ∧
  (∀ (s : State) (p : Nat) (x : Int), s.bit ETH_TSCTL.EN = true → s.bit ETH_TSCTL.ROLE = false → p = s.fld ETH_TSCTL.PORT →
      s.ethUp p = true → -8388608 ≤ x → x < 8388608 → ∃ t, exec (.syncMessageReceived p x) s = .next t ∧
      t.sfld ETH_TSSTAT.OFFSET = x ∧ t.bit ETH_TSSTAT.SYNCLOST = false ∧ -500 ≤ t.eth.rate ∧ t.eth.rate ≤ 500) ∧
  (∀ (s : State), s.ethOn = true → s.bit ETH_TSCTL.EN = true → s.bit ETH_TSCTL.ROLE = false →
      s.bit ETH_TSSTAT.SYNCLOST = false → ∃ t, exec .syncLost s = .next t ∧ t.bit ETH_TSSTAT.SYNCLOST = true ∧
      t.eth.rate = s.eth.rate ∧ t.srcLive 10 23 4 = true) ∧
  (∀ (s : State) (k : Nat), s.ethOn = true → k < 16 → s.bit ETH_STR3.EN k = true → (s.talker k).msgs ≠ [] →
      ∃ t, exec (.talkerPduSend k false) s = .next t ∧ (t.talker k).msgs = [] ∧
      (t.talker k).seq = ((s.talker k).seq + 1) % 256 ∧
      (t.ethQueue (s.fld ETH_STR4.PORT k) (s.fld ETH_STR3.PCP k)).map (·.body) = (s.ethQueue (s.fld ETH_STR4.PORT k) (s.fld ETH_STR3.PCP k)).map (·.body) ++ [[0x22, 0xF0] ++ ntscf (s.streamId k) (s.talker k).seq (s.talker k).msgs]) ∧
  (∀ (s : State) (p k : Nat) (m : List Byte), k < 16 → s.bit ETH_STR3.EN k = true → s.bit ETH_STR4.DIR k = true →
      s.ethUp p = true → 0 < m.length → m.length < 4 →
      ∃ t, exec (.listenerPduReceived p k (ntscf (s.streamId k) 0 [m])) s = .next t ∧
      t.flt.raised = s.flt.raised ++ [⟨srcId 10 24 5, 0xFFF, s.micros, false, true, false⟩]) ∧
  (∀ (s : State) (p k r : Nat) (f : CanFrame), k < 16 → s.bit ETH_STR3.EN k = true → s.bit ETH_STR4.DIR k = true →
      s.ethUp p = true →
      f = ⟨f.id % 2 ^ 29, f.ide, .classical, false, false, false, f.data.length, 0, 0, 0, false, f.data⟩ →
      f.data.length = 4 → s.routeOf ⟨2, k, 5, 0⟩ f = some r → s.fld GW_RT2.CANMASK r % 256 = 1 →
      s.fld GW_RT2.LINMASK r = 0 → s.bit GW_RT2.TUN r = false → s.bit GW_RT3.KEEPID r = true → s.canSegment 0 = true →
      (s.cp 0).activating = false → (s.cp 0).gwFifo.length < 64 →
      ∃ t, exec (.listenerPduReceived p k (ntscf (s.streamId k) 0 [acfCan true false 5 f 0])) s = .next t ∧
      (t.cp 0).gwFifo = (s.cp 0).gwFifo ++ [(r, f)] ∧ t.fld GW_STAT.FWD = (s.fld GW_STAT.FWD + 1) % 65536)

/-- Network management: NM frames, sleep, standby, wake, clusters. While NM runs: an NM frame with STAY alone at a master port
in SLEEP_PENDING returns to AWAKE, cause 2, and the time is kept. NM_CYCLE in AWAKE asks at a master port with no NM frame
under way for one with the node ID, no flags and the cluster requests. SLEEP_PENDING_ENTRY from AWAKE when ready, with
SLEEPCMD or no FOLLOWER port; TPEND_EXPIRY lets it wait for idle buses; NM_BUS_IDLE with every port idle: PRE_SLEEP, no
cluster active; NM_STANDBY_DONE: SLEEP, or AWAKE with the latched cause. CMD.WAKE: from SLEEP_PENDING to AWAKE, cause 1; in
PRE_SLEEP it is latched and shown; in SLEEP it is noted, and NM_WAKE_FROM_SLEEP carries it out. A rise of the local wake
line in SLEEP_PENDING does as CMD.WAKE. A legal, unbarred NM_CTL write that does not drop READY stores READY and PNREQ.
PN_CLUSTER_TIMEOUT takes back the request by frame, the cluster then being active while the module runs only on other
requests, or that by a detected wake. CLUSTER_ACTIVATION_TIMEOUT of a port that is not yet active raises kind 0 with port
and cluster. (14_network_sleep_wake.md) -/
def Obligations.NetworkSleep : Prop :=
  (∀ (s : State) (n : Nat) (f : CanFrame) (sof : Word), s.isNmFrame n f = true → s.canListens n = true → s.active n = none →
      s.bit CAN_STAT.LONELY n = false → s.bit CAN_CFG.MON n = false → s.filterOf n f = none → (s.cp n).after = 0 →
      s.nmSt = 1 → (f.data.getD 1 0).toNat = 2 → (f.data.getD 2 0).toNat = 0 → s.nmRole n = 1 →
      ∃ t, exec (.nmFrameReceived n f sof) s = .next t ∧ t.nmSt = 0 ∧ t.fld NM_STAT.WCAUSE = 2 ∧ t.nm.stayAt = some s.tb) ∧
  (∀ (s : State) (n : Nat), s.nmRuns = true → s.nmSt = 0 → n ∈ s.nmPorts → s.nmRole n = 1 → (s.cp n).nmSt ≠ bActive →
      (s.cp n).nmSt ≠ bPending → (s.cp n).nmSt ≠ bHeld → ∃ t, exec .nmCycle s = .next t ∧ t.nmSt = 0 ∧
      (t.cp n).nmSt = bPending ∧
      (t.cp n).nmData = [BitVec.ofNat 8 (s.fld NM_CFG.NODEID), 0, BitVec.ofNat 8 (s.fld NM_CTL.PNREQ), 0]) ∧
  (∀ (s : State), s.nmRuns = true → s.nmSt = 0 → s.nmReady = true →
      s.nmPorts.all (fun n => s.nmRole n != 2) = true ∨ s.bit NM_STAT.SLEEPCMD = true →
      ∃ t, exec .sleepPendingEntry s = .next t ∧ t.nmSt = 1 ∧ t.nm.pendAt = s.tb ∧ t.nm.pendOver = false) ∧
  (∀ (s : State), s.nmRuns = true → s.nmSt = 1 → ∃ t, exec .tpendExpiry s = .next t ∧ t.nm.pendOver = true ∧ t.nmSt = 1 ∧
      t.nmLeft = 0) ∧
  (∀ (s : State), s.nmRuns = true → s.nmSt = 1 → s.nm.pendOver = true →
      s.nmPorts.all (fun n => (s.active n).isNone) = true → ∃ t, exec .nmBusIdle s = .next t ∧ t.nmSt = 2 ∧
      t.fld NM_STAT.PNACT = 0) ∧
  (∀ (s : State), s.nmRuns = true → s.nmSt = 2 → s.nm.latched = none → s.fld NM_STAT.PNACT = 0 →
      ∃ t, exec .nmStandbyDone s = .next t ∧ t.nmSt = 3) ∧
  (∀ (s : State) (c : Nat), s.nmRuns = true → s.nmSt = 2 → s.nm.latched = some c → c < 8 →
      ∃ t, exec .nmStandbyDone s = .next t ∧ t.nmSt = 0 ∧ t.fld NM_STAT.WCAUSE = c ∧ t.nm.latched = none) ∧
  (∀ (s : State) (w : Who), s.nmRuns = true → s.nmSt = 1 → s.reaches w 16 = true → ∃ t, exec (.nmCmdWake w) s = .next t ∧
      t.nmSt = 0 ∧ t.fld NM_STAT.WCAUSE = 1) ∧
  (∀ (s : State) (w : Who), s.nmRuns = true → s.nmSt = 2 → s.nm.latched = none → s.reaches w 16 = true →
      ∃ t, exec (.nmCmdWake w) s = .next t ∧ t.nm.latched = some 1 ∧ t.bit NM_STAT.LATCHED = true ∧
      t.bit SYS_WAKESRC.LATCHED = true ∧ t.nmSt = 2) ∧
  (∀ (s : State) (w : Who), s.nmRuns = true → s.nmSt = 3 → s.nm.wake = none → s.reaches w 16 = true →
      ∃ t, exec (.nmCmdWake w) s = .next t ∧ t.nm.wake = some 1 ∧ t.nmSt = 3) ∧
  (∀ (s : State) (w : Who) (x : Word), s.legalWrite w .NM_CTL x = true → s.rwsBarred w ⟨.NM_CTL, 0, 0, 0⟩ x = false →
      s.bit NM_CTL.READY = false ∨ ext x 0 1 = 1 → s.reaches w 16 = true → ∃ t, exec (.nmCtlWrite w x) s = .next t ∧
      t.fld NM_CTL.READY = ext x 0 1 ∧ t.fld NM_CTL.PNREQ = ext x 8 8) ∧
  (∀ (s : State), s.nmRuns = true → s.bit NM_CFG.LWEN = true → s.line (s.fld NM_CFG.LWLINE) = true → s.nm.line = false →
      s.nmSt = 1 → ∃ t, exec .nmLocalWakeLine s = .next t ∧ t.nm.line = true ∧ t.nmSt = 0 ∧ t.fld NM_STAT.WCAUSE = 1) ∧
  (∀ (s : State) (c : Nat), s.nmRuns = true → s.nmSt = 3 → s.nm.wake = some c → c < 8 →
      ∃ t, exec .nmWakeFromSleep s = .next t ∧ t.nmSt = 0 ∧ t.fld NM_STAT.WCAUSE = c ∧ t.nm.wake = none) ∧
  (∀ (s : State) (k : Nat), k < 8 → ∃ t, exec (.pnClusterTimeout k true) s = .next t ∧
      bitOf (t.fld NM_STAT.PNRX) k = false ∧
      (s.sys.phase = .run → bitOf (t.fld NM_STAT.PNACT) k = (decide (s.nmSt ≤ 1) && (bitOf (s.fld NM_CTL.PNREQ) k || s.nm.det.getLsbD k)))) ∧
  (∀ (s : State) (k : Nat), k < 8 → ∃ t, exec (.pnClusterTimeout k false) s = .next t ∧ t.nm.det.getLsbD k = false) ∧
  (∀ (s : State) (n : Nat), s.canFitted n = true → (s.cp n).actTimer = true →
      ∃ t, exec (.clusterActivationTimeout n) s = .next t ∧ (t.cp n).actTimer = false ∧
      t.flt.raised = s.flt.raised ++ [⟨srcId 10 25 0, (n * 256 + s.canCluster n) % 4096, s.micros, false, true, false⟩])

/-- Feeds, the transfer switch, its return, and the baseplate. With no transfer or return in progress and the rail on MAIN: MAIN
below VLO sets MAINLO, shows VMAIN and begins a transfer, cause 1, PRSRC 2, kind 0 held, where BACKUP is good; where BKLO is
set it is refused (PRREF), PRSRC unchanged; reverse current from 1 A on sets MAINREV, raises kind 2 with its peak and begins
a transfer, cause 2; FORCE in Service mode begins one, cause 3. MAIN at VLO + VHYS or above, not reversed before and the
module not asleep, clears MAINREV and MAINLO. BACKUP below VBKLO sets BKLO, kind 0 held; at VBKLO + VHYS or above it clears
BKLO and the refused transfer begins. A feed at OVTH or above sets its overvoltage bit and kind 1, below OVTH - 0.5 V clears
it. TRANSFER_BACKUP_ON keeps the cause; TRANSFER_MAIN_OPEN after it: PRSRC 1, XFERCNT, CAUSE, VMIN, FORCED for cause 3,
MAINREV 0. RETURN for a forced transfer or RETMODE HOST, and TRET_EXPIRY for neither, with MAIN good begin the return, which
RAIL_RETURN_DONE ends with PRSRC 0. TB above TBWARN sets TBHOT with kind 6, TB at TBWARN - 5 K or below clears it; TBASE
shows it. Which voltages within the comparators' 2 % count, and the 1 A, are the model's choice (log entry 61).
(15_supplies_thermal.md) -/
def Obligations.SuppliesAndTransfer : Prop :=
  (∀ (s : State) (v : Int), s.bit PWR_STAT.MAINLO = false → feedBelow v (s.fld PWR_CFG.VLO) = true →
      s.bit PWR_STAT.BKLO = false → s.pwr.returning = false → s.pwr.cause = 0 → s.fld PWR_STAT.PRSRC ≠ 1 →
      ∃ t, exec (.mainUndervoltage v) s = .next t ∧ t.bit PWR_STAT.MAINLO = true ∧
      t.fld PWR_MEAS.VMAIN = clampInt (v / 10) 12 ∧ t.srcLive 1 0 0 = true ∧ t.pwr.cause = 1 ∧ t.fld PWR_STAT.PRSRC = 2) ∧
  (∀ (s : State) (v : Int), s.bit PWR_STAT.MAINLO = false → feedBelow v (s.fld PWR_CFG.VLO) = true →
      s.bit PWR_STAT.BKLO = true → s.pwr.returning = false → s.pwr.cause = 0 → s.fld PWR_STAT.PRSRC ≠ 1 →
      ∃ t, exec (.mainUndervoltage v) s = .next t ∧ t.bit PWR_STAT.MAINLO = true ∧ t.bit PWR_STAT.PRREF = true ∧
      t.pwr.cause = 0 ∧ t.fld PWR_STAT.PRSRC = s.fld PWR_STAT.PRSRC) ∧
  (∀ (s : State) (v : Int), s.bit PWR_STAT.MAINLO = true → feedAbove v (s.fld PWR_CFG.VLO + s.fld PWR_CFG.VHYS) = true →
      s.pwr.mainRev = false → s.asleep = false → ∃ t, exec (.mainRecovery v) s = .next t ∧ t.bit PWR_STAT.MAINREV = false ∧
      t.bit PWR_STAT.MAINLO = false ∧ t.fld PWR_MEAS.VMAIN = clampInt (v / 10) 12 ∧
      Changes [.PWR_STAT, .PWR_MEAS, .FLT_STAT, .DOC_STAT, .CTX_STAT, .CTXC_STAT] [.doc, .flt, .twn] s t) ∧
  (∀ (s : State) (v : Int), s.bit PWR_STAT.BKLO = false → feedBelow v (s.fld PWR_CFG.VBKLO) = true →
      ∃ t, exec (.backupUndervoltage true v) s = .next t ∧ t.bit PWR_STAT.BKLO = true ∧
      t.fld PWR_MEAS.VBACKUP = clampInt (v / 10) 12 ∧ t.srcLive 1 1 0 = true ∧ t.fld PWR_STAT.PRSRC = s.fld PWR_STAT.PRSRC) ∧
  (∀ (s : State) (v : Int), s.bit PWR_STAT.BKLO = true → feedAbove v (s.fld PWR_CFG.VBKLO + s.fld PWR_CFG.VHYS) = true →
      s.fld PWR_STAT.PRSRC = 0 → s.bit PWR_STAT.MAINLO = true → s.bit PWR_STAT.MAINREV = false → s.pwr.returning = false →
      s.pwr.cause = 0 → ∃ t, exec (.backupUndervoltage false v) s = .next t ∧ t.bit PWR_STAT.BKLO = false ∧
      t.pwr.cause = 1 ∧ t.fld PWR_STAT.PRSRC = 2) ∧
  (∀ (s : State) (b : Bool) (v : Int), s.bit PWR_STAT.MAINOV = false → s.bit PWR_STAT.BKOV = false →
      feedAbove v (s.fld PWR_CFG2.OVTH) = true → ∃ t, exec (.supplyOvervoltage b v) s = .next t ∧
      t.bit PWR_STAT.MAINOV = !b ∧ t.bit PWR_STAT.BKOV = b ∧ t.srcLive 1 (b2n b) 1 = true) ∧
  (∀ (s : State) (b : Bool) (v : Int), s.bit PWR_STAT.MAINOV = true → s.bit PWR_STAT.BKOV = true →
      feedBelow v (s.fld PWR_CFG2.OVTH - 5) = true → ∃ t, exec (.overvoltageClear b v) s = .next t ∧
      t.bit PWR_STAT.MAINOV = b ∧ t.bit PWR_STAT.BKOV = !b) ∧
  (∀ (s : State) (i : Nat), 1000 ≤ i → s.pwr.returning = false → s.pwr.cause = 0 → s.fld PWR_STAT.PRSRC ≠ 1 →
      s.bit PWR_STAT.BKLO = false → ∃ t, exec (.reverseCurrent i) s = .next t ∧ t.bit PWR_STAT.MAINREV = true ∧
      t.pwr.cause = 2 ∧ t.fld PWR_STAT.PRSRC = 2 ∧
      t.flt.raised = s.flt.raised ++ [⟨srcId 1 0 2, satTo (i / 100) 12, s.micros, false, true, false⟩]) ∧
  (∀ (s : State), s.pwr.cause ≠ 0 → ∃ t, exec .transferBackupOn s = .next t ∧ t.pwr.backOn = true ∧
      t.pwr.cause = s.pwr.cause) ∧
  (∀ (s : State) (v : Nat), s.pwr.cause = 1 ∨ s.pwr.cause = 2 ∨ s.pwr.cause = 3 → s.pwr.backOn = true →
      ∃ t, exec (.transferMainOpen v) s = .next t ∧ t.fld PWR_STAT.PRSRC = 1 ∧
      t.fld PWR_STAT.XFERCNT = (s.fld PWR_STAT.XFERCNT + 1) % 256 ∧ t.bit PWR_STAT.FORCED = decide (s.pwr.cause = 3) ∧
      t.fld PWR_XFER.CAUSE = s.pwr.cause ∧ t.fld PWR_XFER.VMIN = satTo (v / 50) 9 ∧ t.pwr.cause = 0 ∧
      t.bit PWR_STAT.MAINREV = false) ∧
  (∀ (s : State) (w : Who), s.mode = 8 → s.bit PWR_STAT.BKLO = false → s.pwr.returning = false → s.pwr.cause = 0 →
      s.fld PWR_STAT.PRSRC ≠ 1 → s.reaches w 1 = true → ∃ t, exec (.pwrPrcmdForce w) s = .next t ∧ t.pwr.cause = 3 ∧
      t.fld PWR_STAT.PRSRC = 2) ∧
  (∀ (s : State) (w : Who), s.mainGood = true → s.bit PWR_STAT.FORCED = true ∨ s.bit PWR_CFG.RETMODE = true →
      s.reaches w 1 = true → ∃ t, exec (.pwrPrcmdReturn w) s = .next t ∧ t.pwr.returning = true ∧ t.fld PWR_STAT.PRSRC = 2) ∧
  (∀ (s : State), s.mainGood = true → s.bit PWR_STAT.FORCED = false → s.bit PWR_CFG.RETMODE = false →
      ∃ t, exec .tretExpiry s = .next t ∧ t.pwr.returning = true ∧ t.fld PWR_STAT.PRSRC = 2) ∧
  (∀ (s : State) (v : Nat), s.pwr.returning = true → ∃ t, exec (.railReturnDone v) s = .next t ∧ t.pwr.returning = false ∧
      t.fld PWR_STAT.PRSRC = 0 ∧ t.bit PWR_STAT.FORCED = false ∧ t.fld PWR_MEAS2.VPRAIL = satTo (v / 10) 12) ∧
  (∀ (s : State) (x : Int), s.bit PWR_STAT.TBHOT = false → 2 * (s.fld PWR_CFG2.TBWARN : Int) < x → -256 ≤ x → x < 256 →
      ∃ t, exec (.baseplateHot x) s = .next t ∧ t.bit PWR_STAT.TBHOT = true ∧ t.sfld PWR_MEAS2.TBASE = x ∧
      t.srcLive 1 3 6 = true) ∧
  (∀ (s : State) (x : Int), s.bit PWR_STAT.TBHOT = true → x ≤ 2 * (s.fld PWR_CFG2.TBWARN : Int) - 10 → -256 ≤ x → x < 256 →
      ∃ t, exec (.tbhotClear x) s = .next t ∧ t.bit PWR_STAT.TBHOT = false ∧ t.sfld PWR_MEAS2.TBASE = x)

/-- The Conservator: reports, groups, log, release, injection. FAULT_REPORT to a Conservator with a half that works, of the
oldest live report, its source not shadowed and no injection running: severity 3 forces its group (shown in FORCED), starts
its sequence and counts it; severity 1 enters the log buffer and ATTN.SEQ grows by 1, the forced groups unchanged; severity
3 whose group's sequence runs is lost and counted in FLT_LOST with its source. REACTION_SEQUENCE_END ends SEQ and begins
SHWIN; SHADOW_WINDOW_END ends SHWIN; SOURCE_ACTIVITY_EXPIRY takes away the one-shot activities of its source. LOG_WRITE puts
the oldest record at CNT modulo 512 and counts; LOG_BUFFER_FLUSH empties the buffer. Outside Sealed: RELEASE and auto-
release free a group that is releasable; a RELEASE that is not sets RELREF and frees nothing; ATTN.ACK clears the named PEND
bits; CLRLOST clears FLT_LOST; injection, live in the operating modes, dry in Service mode, shows its source and raises its
report, and INJ_END ends it with its activities, as INJECTION_EXPIRY does. CLRLOG in Service mode: CNT 0 and the log's bytes
0. (16_conservator_faults.md) -/
def Obligations.ConservatorReactions : Prop :=
  (∀ (s : State) (r : Rep) (rs : List Rep) (g : Nat), s.bit FLT_STAT.AOK = true ∨ s.bit FLT_STAT.BOK = true →
      s.flt.raised = r :: rs → s.shadowed r.src = false → r.inj = false → s.fld FLT_INJSTAT.MODE = 0 → s.sevOf r.src = 3 →
      s.groupOf r.src = some g → g < 16 → s.bit FLT_RGSTAT.SEQ g = false → s.bit FLT_RGSTAT.SHWIN g = false →
      s.isForced g = false → ∃ t, exec (.faultReport 1) s = .next t ∧ t.isForced g = true ∧ t.bit FLT_RGSTAT.SEQ g = true ∧
      t.fld FLT_RGSTAT.COUNT g = (s.fld FLT_RGSTAT.COUNT g + 1) % 65536 ∧ t.flt.raised = rs ∧
      bitOf (t.fld FLT_STAT.FORCED) g = true) ∧
  (∀ (s : State) (r : Rep) (rs : List Rep), s.bit FLT_STAT.AOK = true ∨ s.bit FLT_STAT.BOK = true → s.flt.raised = r :: rs →
      s.shadowed r.src = false → r.inj = false → s.fld FLT_INJSTAT.MODE = 0 → s.sevOf r.src = 1 →
      s.bit MEM_STAT.INIT = true → ∃ t, exec (.faultReport 1) s = .next t ∧
      t.flt.logq = s.flt.logq ++ [reportWord r.time r.src 1 true false false false r.detail] ∧
      t.fld FLT_ATTN.SEQ = (s.fld FLT_ATTN.SEQ + 1) % 16 ∧ t.flt.raised = rs ∧
      t.fld FLT_STAT.FORCED = s.fld FLT_STAT.FORCED) ∧
  (∀ (s : State) (r : Rep) (rs : List Rep) (g : Nat), s.bit FLT_STAT.AOK = true ∨ s.bit FLT_STAT.BOK = true →
      s.flt.raised = r :: rs → s.shadowed r.src = false → r.inj = false → s.fld FLT_INJSTAT.MODE = 0 → s.sevOf r.src = 3 →
      s.groupOf r.src = some g → g < 16 → s.bit FLT_RGSTAT.SEQ g = true → ∃ t, exec (.faultReport 1) s = .next t ∧
      t.fld FLT_LOST.CNT = satInc (s.fld FLT_LOST.CNT) 8 ∧ t.fld FLT_LOST.LASTSRC = r.src % 8192 ∧ t.flt.logq = s.flt.logq ∧
      t.flt.raised = rs) ∧
  (∀ (s : State) (g : Nat), g < 16 → s.bit FLT_RGSTAT.SEQ g = true → ∃ t, exec (.reactionSequenceEnd g) s = .next t ∧
      t.bit FLT_RGSTAT.SEQ g = false ∧ t.bit FLT_RGSTAT.SHWIN g = true) ∧
  (∀ (s : State) (g : Nat), g < 16 → s.bit FLT_RGSTAT.SHWIN g = true → ∃ t, exec (.shadowWindowEnd g) s = .next t ∧
      t.bit FLT_RGSTAT.SHWIN g = false) ∧
  (∀ (s : State) (x : Nat), ∃ t, exec (.sourceActivityExpiry x) s = .next t ∧
      t.flt.active = s.flt.active.filter (fun a => !(a.src == x && a.oneMs && !a.inj))) ∧
  (∀ (s : State) (x : BitVec 64) (xs : List (BitVec 64)), s.bit MEM_STAT.INIT = true →
      s.bit FLT_STAT.AOK = true ∨ s.bit FLT_STAT.BOK = true → s.flt.logq = x :: xs → ∃ t, exec .logWrite s = .next t ∧
      t.flt.logq = xs ∧ t.word (0x600000 + 8 * (s.fld FLT_LOGCNT.CNT % 512)) = x.extractLsb' 0 32 ∧
      t.word (0x600000 + 8 * (s.fld FLT_LOGCNT.CNT % 512) + 4) = x.extractLsb' 32 32 ∧
      t.fld FLT_LOGCNT.CNT = (s.fld FLT_LOGCNT.CNT + 1) % 2 ^ 32) ∧
  (∀ (s : State), s.bit MEM_STAT.INIT = true → s.bit FLT_STAT.AOK = true ∨ s.bit FLT_STAT.BOK = true →
      ∃ t, exec .logBufferFlush s = .next t ∧ t.flt.logq = []) ∧
  (∀ (s : State) (w : Who) (g : Nat), g < 16 → s.mode ≠ 11 → s.releasable g = true → s.reaches w 18 = true →
      ∃ t, exec (.fltRgcmdRelease w g) s = .next t ∧ t.isForced g = false ∧ bitOf (t.fld FLT_STAT.FORCED) g = false) ∧
  (∀ (s : State) (w : Who) (g : Nat), g < 16 → s.mode ≠ 11 → s.releasable g = false → s.reaches w 18 = true →
      ∃ t, exec (.fltRgcmdRelease w g) s = .next t ∧ t.bit FLT_RGSTAT.RELREF g = true ∧
      t.fld FLT_STAT.FORCED = s.fld FLT_STAT.FORCED) ∧
  (∀ (s : State) (g : Nat), g < 16 → s.bit FLT_RGCTL.AUTOREL g = true → s.releasable g = true →
      ∃ t, exec (.groupAutoRelease g) s = .next t ∧ t.isForced g = false) ∧
  (∀ (s : State) (m : BitVec 6), s.mode ≠ 11 → ∃ t, exec (.fltAttnAck m) s = .next t ∧
      t.fld FLT_ATTN.PEND = (BitVec.ofNat 6 (s.fld FLT_ATTN.PEND) &&& ~~~m).toNat) ∧
  (∀ (s : State) (w : Who) (a : Nat), s.mode = 8 → 0x600000 ≤ a → a < 0x601000 → s.reaches w 18 = true →
      ∃ t, exec (.fltCmdClrlog w) s = .next t ∧ t.fld FLT_LOGCNT.CNT = 0 ∧ t.byte a = 0) ∧
  (∀ (s : State), s.mode ≠ 11 → ∃ t, exec .fltCmdClrlost s = .next t ∧ t.fld FLT_LOST.CNT = 0 ∧ t.fld FLT_LOST.LASTSRC = 0) ∧
  (∀ (s : State) (w : Who) (x k : Nat), 3 ≤ s.mode → s.mode ≤ 8 → x / 512 < 14 → s.fld FLT_INJSTAT.MODE = 0 → 0 < k →
      k < 256 → s.reaches w 18 = true → ∃ t, exec (.fltInjLive w x k) s = .next t ∧ t.fld FLT_INJSTAT.SRC = x ∧
      t.fld FLT_INJSTAT.MODE = 1 ∧ t.flt.injAt = s.tb ∧
      t.flt.raised = s.flt.raised ++ [⟨x, s.fld FLT_INJD.DETAIL, s.micros, true, true, true⟩]) ∧
  (∀ (s : State) (w : Who) (x k : Nat), s.mode = 8 → x / 512 < 14 → s.fld FLT_INJSTAT.MODE = 0 → 0 < k → k < 256 →
      s.reaches w 18 = true → ∃ t, exec (.fltInjDry w x k) s = .next t ∧ t.fld FLT_INJSTAT.SRC = x ∧
      t.fld FLT_INJSTAT.MODE = 2 ∧ t.flt.raised = s.flt.raised ++ [⟨x, s.fld FLT_INJD.DETAIL, s.micros, false, true, true⟩]) ∧
  (∀ (s : State), s.mode ≠ 11 → s.fld FLT_INJSTAT.MODE ≠ 0 → ∃ t, exec .fltInjEnd s = .next t ∧ t.fld FLT_INJSTAT.MODE = 0 ∧
      t.flt.active = s.flt.active.filter (fun a => !a.inj)) ∧
  (∀ (s : State), s.fld FLT_INJSTAT.MODE ≠ 0 → ∃ t, exec .injectionExpiry s = .next t ∧ t.fld FLT_INJSTAT.MODE = 0 ∧
      t.flt.active = s.flt.active.filter (fun a => !a.inj))

/-- The Conservator: digests, lost halves, self-tests. With both halves working, DIGEST_EXCHANGE of two equal digests clears the
misses and keeps both halves and DISAG; of two different ones sets DISAG, each half adding the groups it forces; a third
missing digest of half A takes AOK away, counts in MISSA and holds kind 1. SELF_TEST_CYCLE of a working half: passed, CYCLES
grows by 1; failed at test k, the half no longer works and FAILTEST is k. In Service mode with no test running TST_CMD
starts each of the four tests (BUSY). TEST_COMPLETE: BUSY 0, RESULT 1 or 2, FAILTEST the failing test for the self-tests, 0
for the others, which leave FORCED as it was. (16_conservator_faults.md) -/
def Obligations.ConservatorSelfCheck : Prop :=
  (∀ (s : State) (d : HalfDec), s.bit FLT_STAT.AOK = true → s.bit FLT_STAT.BOK = true →
      ∃ t, exec (.digestExchange true true d d) s = .next t ∧ t.flt.missA = 0 ∧ t.flt.missB = 0 ∧
      t.bit FLT_STAT.AOK = true ∧ t.bit FLT_STAT.BOK = true ∧ t.bit FLT_STAT.DISAG = s.bit FLT_STAT.DISAG) ∧
  (∀ (s : State) (a b : HalfDec), s.bit FLT_STAT.AOK = true → s.bit FLT_STAT.BOK = true → a ≠ b →
      ∃ t, exec (.digestExchange true true a b) s = .next t ∧ t.bit FLT_STAT.DISAG = true ∧
      t.flt.forceA = s.flt.forceA ||| a.groups ∧ t.flt.forceB = s.flt.forceB ||| b.groups) ∧
  (∀ (s : State) (d : HalfDec), s.bit FLT_STAT.AOK = true → s.bit FLT_STAT.BOK = true → s.flt.missA = 2 →
      ∃ t, exec (.digestExchange false true d d) s = .next t ∧ t.bit FLT_STAT.AOK = false ∧
      t.fld TST_STAT.MISSA = satInc (s.fld TST_STAT.MISSA) 8 ∧ t.srcLive 14 0 1 = true) ∧
  (∀ (s : State) (h : Half), s.halfOk h = true → ∃ t, exec (.selfTestCycle h 0) s = .next t ∧
      t.fld TST_STAT.CYCLES = (s.fld TST_STAT.CYCLES + 1) % 256) ∧
  (∀ (s : State) (h : Half) (k : Nat), s.halfOk h = true → 0 < k → k < 16 → ∃ t, exec (.selfTestCycle h k) s = .next t ∧
      t.halfOk h = false ∧ t.fld TST_STAT.FAILTEST = k) ∧
  (∀ (s : State) (w : Who), s.mode = 8 → s.bit TST_STAT.BUSY = false → s.reaches w 22 = true →
      ∃ t, exec (.tstCmdSelfTestA w) s = .next t ∧ t.bit TST_STAT.BUSY = true ∧ t.flt.test = .selfA) ∧
  (∀ (s : State) (w : Who), s.mode = 8 → s.bit TST_STAT.BUSY = false → s.reaches w 22 = true →
      ∃ t, exec (.tstCmdSelfTestB w) s = .next t ∧ t.bit TST_STAT.BUSY = true ∧ t.flt.test = .selfB) ∧
  (∀ (s : State) (w : Who), s.mode = 8 → s.bit TST_STAT.BUSY = false → s.reaches w 22 = true →
      ∃ t, exec (.tstCmdCompareTest w) s = .next t ∧ t.bit TST_STAT.BUSY = true ∧ t.flt.test = .compare) ∧
  (∀ (s : State) (w : Who) (g : Nat), s.mode = 8 → s.bit TST_STAT.BUSY = false → g < 16 → s.reaches w 22 = true →
      ∃ t, exec (.tstCmdForcePathTest w g) s = .next t ∧ t.bit TST_STAT.BUSY = true ∧ t.flt.test = .force g) ∧
  (∀ (s : State) (k : Nat), s.bit TST_STAT.BUSY = true → s.flt.test = .selfA ∨ s.flt.test = .selfB → k < 16 →
      ∃ t, exec (.testComplete k) s = .next t ∧ t.bit TST_STAT.BUSY = false ∧
      t.fld TST_STAT.RESULT = (if k = 0 then 1 else 2) ∧ t.fld TST_STAT.FAILTEST = k ∧ t.flt.test = .none) ∧
  (∀ (s : State) (k : Nat), s.bit TST_STAT.BUSY = true → s.flt.test ≠ .selfA → s.flt.test ≠ .selfB →
      ∃ t, exec (.testComplete k) s = .next t ∧ t.bit TST_STAT.BUSY = false ∧
      t.fld TST_STAT.RESULT = (if k = 0 then 1 else 2) ∧ t.fld TST_STAT.FAILTEST = 0 ∧
      t.fld FLT_STAT.FORCED = s.fld FLT_STAT.FORCED)

/-- Twin link: the frames that a member takes. In a pair with the link up, a genuine frame with the expected sequence number
makes the next one expected and sets the run of discards to 0. Beside that, at a deputy: a suspension unit's next part adds
its stores; its closing part replaces a mirrored, held context's record; an output command of type 4 sets its group, of type
7 NM_CTL; a protection state of a twinned member replaces the replica's; a CAN state replaces CAN_TXS; the last resync block
in the partner's mode ends STALE; a memory block of a mirrored region stores its bytes; a closing frame keeps its kind. At
any member: a condition report enters the log buffer marked as the partner's (time offset 0); a heartbeat takes acknowledged
frames from those sent and keeps the partner's role and mode; a role claim during a hand-over makes this member deputy; a
training frame with this member's nonce, from the right module, makes the session key's two nonces known and starts both
sequences. Each clause ends with the parts of the state that alone may have changed, where it names them. (17_twin_pair.md) -/
def Obligations.TwinFrames : Prop :=
  (∀ (s : State) (n : Nat) (p : List Byte) (u : TwUnit), s.isPair = true → s.fld TWN_STAT.LINK ≠ 0 →
      s.pairKey.isSome = true → s.twn.session.length = 8 → n = s.twn.rxNext → n < 4294967295 → p.length ≤ 1024 →
      p.length % 4 = 0 → s.isDeputy = true → unitOk p = true → fieldAt p 1 1 = 1 → s.twn.unit = some u →
      u.ctx = fieldAt p 0 1 → u.next = 1 → ∃ t, exec (.twinSuspensionUnit (s.genuine 1 n p)) s = .next t ∧
      t.twn.rxNext = n + 1 ∧ t.twn.discards = 0 ∧
      t.twn.unit = some { u with next := 2, stores := u.stores ++ (entriesAt 8 (p.drop 4)).map (fun e => (fieldAt e 0 4, wordOf (e.drop 4))) } ∧
      Changes [] [.twn] s t) ∧
  (∀ (s : State) (n c : Nat) (p : List Byte), s.isPair = true → s.fld TWN_STAT.LINK ≠ 0 → s.pairKey.isSome = true →
      s.twn.session.length = 8 → n = s.twn.rxNext → n < 4294967295 → p.length ≤ 1024 → p.length % 4 = 0 →
      s.isDeputy = true → unitOk p = true → fieldAt p 1 1 = 128 → fieldAt p 2 2 = 0 → c = fieldAt p 0 1 →
      s.mirrored c = true → s.cst c = stHeld → ∃ t, exec (.twinSuspensionUnit (s.genuine 1 n p)) s = .next t ∧
      t.twn.rxNext = n + 1 ∧ t.twn.discards = 0 ∧ t.rcd c = recOf (leWords ((p.drop 4).take 272)) ∧ t.twn.unit = none ∧
      Changes [] [.doc, .twn] s t) ∧
  (∀ (s : State) (n g b : Nat), s.isPair = true → s.fld TWN_STAT.LINK ≠ 0 → s.pairKey.isSome = true →
      s.twn.session.length = 8 → n = s.twn.rxNext → n < 4294967295 → s.isDeputy = true → g < 16 → b < 2 →
      ∃ t, exec (.twinOutputCommand (s.genuine 2 n (outEntry 4 g 0 (BitVec.ofNat 32 b)))) s = .next t ∧
      t.twn.rxNext = n + 1 ∧ t.twn.discards = 0 ∧ t.twn.groups = setBitV s.twn.groups g (b = 1) ∧ Changes [] [.twn] s t) ∧
  (∀ (s : State) (n : Nat) (w : Word), s.isPair = true → s.fld TWN_STAT.LINK ≠ 0 → s.pairKey.isSome = true →
      s.twn.session.length = 8 → n = s.twn.rxNext → n < 4294967295 → s.isDeputy = true →
      ∃ t, exec (.twinOutputCommand (s.genuine 2 n (outEntry 7 0 0 w))) s = .next t ∧ t.twn.rxNext = n + 1 ∧
      t.twn.discards = 0 ∧ t.reg ⟨.NM_CTL, 0, 0, 0⟩ = w ∧ Changes [.NM_CTL] [.twn] s t) ∧
  (∀ (s : State) (n m st_ rt : Nat), s.isPair = true → s.fld TWN_STAT.LINK ≠ 0 → s.pairKey.isSome = true →
      s.twn.session.length = 8 → n = s.twn.rxNext → n < 4294967295 → s.isDeputy = true → m < 16 → s.twinned (8 + m) = true →
      st_ < 8 → rt < 256 →
      ∃ t, exec (.twinProtectionState (s.genuine 3 n ([BitVec.ofNat 8 m, BitVec.ofNat 8 st_, BitVec.ofNat 8 rt, 1] ++ List.replicate 12 0))) s = .next t ∧
      t.twn.rxNext = n + 1 ∧ t.twn.discards = 0 ∧ Tbl.get t.twn.prot m default = ⟨st_, rt, true, 0, 0, 0⟩ ∧
      Changes [] [.twn] s t) ∧
  (∀ (s : State) (n k b : Nat) (w : Word), s.isPair = true → s.fld TWN_STAT.LINK ≠ 0 → s.pairKey.isSome = true →
      s.twn.session.length = 8 → n = s.twn.rxNext → n < 4294967295 → s.isDeputy = true → k < nCan s.variant → b < 32 →
      ∃ t, exec (.twinCan (s.genuine 4 n (canEntry 4 k b false 0 [w]))) s = .next t ∧ t.twn.rxNext = n + 1 ∧
      t.twn.discards = 0 ∧ t.reg ⟨.CAN_TXS, k, b, 0⟩ = w ∧ Changes [.CAN_TXS] [.twn] s t) ∧
  (∀ (s : State) (n : Nat) (x : BitVec 64), s.isPair = true → s.fld TWN_STAT.LINK ≠ 0 → s.pairKey.isSome = true →
      s.twn.session.length = 8 → n = s.twn.rxNext → n < 4294967295 → s.sfld TWN_TOFF.OFFSET = 0 → s.memUp = true →
      ∃ t, exec (.twinConditionReport (s.genuine 5 n (leBytes x.toNat 8))) s = .next t ∧ t.twn.rxNext = n + 1 ∧
      t.twn.discards = 0 ∧ t.flt.logq = s.flt.logq ++ [x ||| 0x1000] ∧ Changes [] [.flt, .twn] s t) ∧
  (∀ (s : State) (n ack role mode : Nat), s.isPair = true → s.fld TWN_STAT.LINK ≠ 0 → s.pairKey.isSome = true →
      s.twn.session.length = 8 → n = s.twn.rxNext → n < 4294967295 → s.fld TWN_STAT.LINK = 3 → s.twn.endSeq = none →
      s.twn.failback = false → s.twn.noLink = false → s.twn.toffAt = some s.tb → ack < 2 ^ 31 → role < 3 → mode < 12 →
      ∃ t, exec (.twinHeartbeat (s.genuine 6 n (List.replicate 20 0 ++ leBytes ack 4 ++ [BitVec.ofNat 8 role, BitVec.ofNat 8 mode, 0, 0]))) s = .next t ∧
      t.twn.rxNext = n + 1 ∧ t.twn.discards = 0 ∧
      t.twn.sent = s.twn.sent.filter (fun x => !(decide (x.seq ≤ ack) && decide (ack < 2 ^ 31 + x.seq))) ∧
      t.twn.pRole = some role ∧ t.twn.pMode = mode ∧ t.twn.hb = some (0, s.tb) ∧ t.fld TWN_STAT.LINK = 3 ∧
      Changes [.TWN_STAT, .TWN_LAG] [.twn] s t) ∧
  (∀ (s : State) (n : Nat), s.isPair = true → s.fld TWN_STAT.LINK ≠ 0 → s.pairKey.isSome = true → s.twn.session.length = 8 →
      n = s.twn.rxNext → n < 4294967295 → s.isDeputy = true → s.twn.pMode = s.mode →
      ∃ t, exec (.twinResyncBlock (s.genuine 7 n (resyncBlock 6 0 0 []))) s = .next t ∧ t.twn.rxNext = n + 1 ∧
      t.twn.discards = 0 ∧ t.bit TWN_STAT.STALE = false ∧ t.fld TWN_STAT.LINK = 3 ∧ Changes [.TWN_STAT] [.twn] s t) ∧
  (∀ (s : State) (n r : Nat) (b0 b1 b2 b3 : Byte), s.isPair = true → s.fld TWN_STAT.LINK ≠ 0 → s.pairKey.isSome = true →
      s.twn.session.length = 8 → n = s.twn.rxNext → n < 4294967295 → s.isDeputy = true → r < 8 → s.fld TWN_MREG.SIZE r ≠ 0 →
      0x200000 + 64 * s.fld TWN_MREG.BASE r < 0x280000 →
      ∃ t, exec (.twinResyncBlock (s.genuine 7 n (resyncBlock 2 r 0 [b0, b1, b2, b3]))) s = .next t ∧ t.twn.rxNext = n + 1 ∧
      t.twn.discards = 0 ∧ t.byte (0x200000 + 64 * s.fld TWN_MREG.BASE r + 2) = b2 ∧
      t.byte (0x200000 + 64 * s.fld TWN_MREG.BASE r + 3) = b3 ∧ Changes [] [.mem, .twn] s t) ∧
  (∀ (s : State) (n c : Nat), s.isPair = true → s.fld TWN_STAT.LINK ≠ 0 → s.pairKey.isSome = true →
      s.twn.session.length = 8 → n = s.twn.rxNext → n < 4294967295 → s.isDeputy = true → c = 1 ∨ c = 2 →
      ∃ t, exec (.twinClosing (s.genuine 8 n [BitVec.ofNat 8 c, 0, 0, 0])) s = .next t ∧ t.twn.rxNext = n + 1 ∧
      t.twn.discards = 0 ∧ t.twn.closing = c ∧ Changes [] [.twn] s t) ∧
  (∀ (s : State) (n : Nat), s.isPair = true → s.fld TWN_STAT.LINK ≠ 0 → s.pairKey.isSome = true → s.twn.session.length = 8 →
      n = s.twn.rxNext → n < 4294967295 → s.twn.handover = true →
      ∃ t, exec (.twinRoleClaim (s.genuine 9 n [2, 1, 0, 0])) s = .next t ∧ t.twn.rxNext = n + 1 ∧ t.twn.discards = 0 ∧
      t.fld TWN_STAT.ROLE = 1 ∧ t.twn.handover = false ∧ t.twn.pRole = some 2) ∧
  (∀ (s : State) (m q : Word) (role mode : Nat), s.isPair = true → s.fld TWN_STAT.LINK ≠ 0 → s.pairKey.isSome = true →
      s.fld TWN_STAT.LINK = 1 → s.twn.session = [] → s.twn.noLink = false → role < 3 → mode < 12 → q = s.twn.nonce →
      s.bit TWN_STAT.STRAP = false → s.cat.cat.uidD.length = 16 →
      ∃ t, exec (.twinTraining (s.genuine 10 0 (leBytes m.toNat 4 ++ leBytes q.toNat 4 ++ s.cat.cat.uidD ++ [1, BitVec.ofNat 8 role, BitVec.ofNat 8 mode, 0]))) s = .next t ∧
      t.twn.peerNonce = m ∧ t.twn.session = leBytes s.twn.nonce.toNat 4 ++ leBytes m.toNat 4 ∧ t.twn.rxNext = 0 ∧
      t.twn.txSeq = 1 ∧ Changes [] [.twn] s t)

/-- Twin link: training, heartbeats, lanes, take-over and fail-back. In a pair in Run's phase: TRAINING_FRAME_SEND with the link
down takes a free nonce, drops the session and trains; HEARTBEAT_SEND of a deputy with a session sends a frame of type 6
with the next sequence number; PROTECTION_SHIP_TICK of a member that ships sends the protection states of the twinned
channels. LINK_LOST: LINK down, STALE, no session. LANE_LOST and TWIN_LANE_UP change their lane's bit and not the other; a
loss is counted. TAKEOVER_RELEASE after a confirmation makes the deputy drive, with TOOK; HANDOVER_ROLE_TIMER makes the
member deputy; TWSTART_EXPIRY while the role is open makes it primary, and at a deputy by strap whose partner's TWOK_I never
rose makes it drive with TOOK. TWOK_I_RISE sets TWOKI and withdraws a confirmation. FAILBACK of the driving deputy with a
healthy link, a partner deputy and nothing mirrored or due claims the role. RESYNC at rest with the link up: LINK RESYNC,
STALE, counted. (17_twin_pair.md) -/
def Obligations.TwinLinkAndRoles : Prop :=
  (∀ (s : State), s.isPair = true → s.sys.phase = .run → s.pairKey.isSome = true → s.fld TWN_STAT.LINK = 0 →
      ∃ t, exec .trainingFrameSend s = .next t ∧ t.fld TWN_STAT.LINK = 1 ∧ t.twn.nonce = Config.freeWord s.free ∧
      t.twn.session = [] ∧ t.twn.train = t.trainFrame) ∧
  (∀ (s : State), s.isPair = true → s.sys.phase = .run → s.pairKey.isSome = true → s.twn.session ≠ [] →
      s.twn.failback = false → s.isDeputy = true → ∃ t, exec .heartbeatSend s = .next t ∧ t.twn.txSeq = s.twn.txSeq + 1 ∧
      t.twn.sent.length = s.twn.sent.length + 1 ∧ t.twn.sent.getLast?.map (·.typ) = some 6) ∧
  (∀ (s : State), s.ships = true → s.twins ≠ [] → ∃ t, exec .protectionShipTick s = .next t ∧
      t.twn.sent = s.twn.sent ++ [⟨s.twn.txSeq, s.tb, 3, s.protAll.flatten⟩] ∧ t.twn.txSeq = s.twn.txSeq + 1) ∧
  (∀ (s : State), 2 ≤ s.fld TWN_STAT.LINK → ∃ t, exec .linkLost s = .next t ∧ t.fld TWN_STAT.LINK = 0 ∧
      t.bit TWN_STAT.STALE = true ∧ t.twn.session = []) ∧
  (∀ (s : State) (l : Nat), l < 2 → bitOf (s.fld TWN_STAT.LANES) l = true → ∃ t, exec (.laneLost l) s = .next t ∧
      bitOf (t.fld TWN_STAT.LANES) l = false ∧ bitOf (t.fld TWN_STAT.LANES) (1 - l) = bitOf (s.fld TWN_STAT.LANES) (1 - l) ∧
      t.fld TWN_LINK.LANEDROP = satInc (s.fld TWN_LINK.LANEDROP) 8) ∧
  (∀ (s : State) (l : Nat), s.isPair = true → s.sys.phase = .run → s.pairKey.isSome = true → l < 2 →
      ∃ t, exec (.twinLaneUp l) s = .next t ∧ bitOf (t.fld TWN_STAT.LANES) l = true ∧
      bitOf (t.fld TWN_STAT.LANES) (1 - l) = bitOf (s.fld TWN_STAT.LANES) (1 - l)) ∧
  (∀ (s : State), s.twn.confirmed = true → s.mayTakeOver = true → ∃ t, exec .takeoverRelease s = .next t ∧
      t.fld TWN_STAT.ROLE = s.driveRole ∧ t.bit TWN_STAT.TOOK = true ∧ t.twn.confirmed = false ∧ t.twn.closing = 0) ∧
  (∀ (s : State), s.twn.handover = true → ∃ t, exec .handoverRoleTimer s = .next t ∧ t.fld TWN_STAT.ROLE = 1 ∧
      t.twn.handover = false) ∧
  (∀ (s : State), s.twn.choosing = true → ∃ t, exec .twstartExpiry s = .next t ∧ t.fld TWN_STAT.ROLE = 0 ∧
      t.twn.choosing = false ∧ t.twn.noLink = !s.linkUp) ∧
  (∀ (s : State), s.twn.choosing = false → s.isPair = true → s.twn.startLow = true → s.isDeputy = true →
      s.bit TWN_STAT.STRAP = true → s.bit TWN_STAT.TWOKI = false → ∃ t, exec .twstartExpiry s = .next t ∧
      t.fld TWN_STAT.ROLE = 2 ∧ t.bit TWN_STAT.TOOK = true ∧ t.twn.startLow = false) ∧
  (∀ (s : State), ∃ t, exec .twokIRise s = .next t ∧ t.bit TWN_STAT.TWOKI = true ∧ t.twn.startLow = false ∧
      t.twn.confirmed = false ∧ t.twn.seenHigh = (s.twn.seenHigh || s.bit TWN_STAT.TWOKO)) ∧
  (∀ (s : State) (w : Who), s.isPair = true → s.fld TWN_STAT.ROLE = 2 → s.bit TWN_STAT.TWOKI = true →
      s.fld TWN_STAT.LINK = 3 → s.twn.pRole = some 1 → s.mirCtxs = [] → s.twn.due = [] → s.reaches w 17 = true →
      ∃ t, exec (.twnCmdFailback w) s = .next t ∧ t.twn.failback = true ∧ t.twn.closing = 2 ∧
      t.twn.sent.getLast?.map (·.typ) = some 9) ∧
  (∀ (s : State) (w : Who), s.isPair = true → s.linkUp = true → s.twinRest = true → s.reaches w 17 = true →
      ∃ t, exec (.twnCmdResync w) s = .next t ∧ t.fld TWN_STAT.LINK = 2 ∧ t.bit TWN_STAT.STALE = true ∧
      t.fld TWN_LINK.RESYNCS = satInc (s.fld TWN_LINK.RESYNCS) 8)

/-- Key store: APPLY, PLAINWR, IMGKEY, service authorisation, CLRCACHE, commits. With no commit in progress and no APPLY
waiting: APPLY in Service mode of an unseal envelope that passes its checks: result 1, SEALED 0, TCNT 0, UNSCNT its counter.
PLAINWR in Service mode, store not sealed: of slot 1 to 3 it begins the write of the other copy with the next counter
(BUSY), of slot 0 while it is empty too, and of slot 0 while it is not empty it is refused: result 3, the first plain word
0. IMGKEY in Service mode begins its write. SVCCHAL outside a lockout: result 1, a nonce of four free words, SVCOK 0.
SVCAUTH with a live nonce and the expected response: result 1, SVCOK 1, no failures; with no live nonce: result 2, one more
failure, the third locking out. CLRCACHE: result 1, the cache empty. KEY_COMMIT_DONE of a slot: result 1, BUSY 0, the copy
written, the last plain word 0, the slot's cache entries gone; of an image key: its copy written. SVCOK_EXPIRY clears SVCOK;
SVC_LOCKOUT_EXPIRY ends the lockout. (18_provenance_keys.md) -/
def Obligations.KeyCommands : Prop :=
  (∀ (s : State) (w : Who), s.key.work = none → s.key.applyWait = false → s.mode = 8 → s.key.running = none →
      s.envCheck s.envelope = .inr [] → leNat (slice s.envelope 16 1) = 0xFD → s.reaches w 19 = true →
      ∃ t, exec (.keyCmdApply w) s = .next t ∧ t.fld KEY_RES.RESULT = 1 ∧ t.fld KEY_RES.CMD = 1 ∧
      t.fld KEY_RES.SLOT = 0xFD ∧ t.bit KEY_STAT.SEALED = false ∧ t.fld KEY_STAT.TCNT = 0 ∧
      t.fld KEY_UNSCNT.CNT = leNat (slice s.envelope 18 4) % 2 ^ 28) ∧
  (∀ (s : State) (w : Who) (c f : Nat), s.key.work = none → s.key.applyWait = false → s.mode = 8 → s.sealed = false →
      c < 4 → c ≠ 0 → s.reaches w 19 = true → ∃ t, exec (.keyCmdPlainwr w c f) s = .next t ∧ t.bit KEY_STAT.BUSY = true ∧
      t.key.work = some (.plain c (s.writeCopy c) ⟨true, (match s.slotKey c with | some k => k.counter + 1 | none => 1), f % 64, false, s.regBytes .KEY_PLAIN 8⟩)) ∧
  (∀ (s : State) (w : Who), s.key.work = none → s.key.applyWait = false → s.mode = 8 → s.sealed = false →
      s.activeCopy 0 = none → s.reaches w 19 = true → ∃ t, exec (.keyCmdPlainwr w 0 0) s = .next t ∧
      t.bit KEY_STAT.BUSY = true ∧ t.key.work.isSome = true) ∧
  (∀ (s : State) (w : Who), s.key.work = none → s.key.applyWait = false → s.mode = 8 → s.sealed = false →
      s.activeCopy 0 ≠ none → s.reaches w 19 = true → ∃ t, exec (.keyCmdPlainwr w 0 0) s = .next t ∧
      t.fld KEY_RES.RESULT = 3 ∧ t.fld KEY_RES.CMD = 2 ∧ t.fld KEY_RES.SLOT = 0 ∧ t.key.work = none ∧
      t.reg ⟨.KEY_PLAIN, 0, 0, 0⟩ = 0) ∧
  (∀ (s : State) (w : Who) (i : Nat), s.key.work = none → s.key.applyWait = false → s.mode = 8 → s.sealed = false → i < 2 →
      s.reaches w 19 = true → ∃ t, exec (.keyCmdImgkey w i) s = .next t ∧ t.bit KEY_STAT.BUSY = true ∧
      t.key.work.map KeyWork.code = some (3, 0)) ∧
  (∀ (s : State) (w : Who), s.key.work = none → s.key.applyWait = false → s.key.lockout = false → s.reaches w 19 = true →
      ∃ t, exec (.keyCmdSvcchal w) s = .next t ∧ t.fld KEY_RES.RESULT = 1 ∧ t.fld KEY_RES.CMD = 4 ∧ t.fld KEY_RES.SLOT = 0 ∧
      t.key.nonceLive = true ∧ t.bit KEY_STAT.SVCOK = false ∧ t.reg ⟨.KEY_SVCNONCE, 0, 0, 0⟩ = Config.freeWord s.free ∧
      t.reg ⟨.KEY_SVCNONCE, 3, 0, 0⟩ = Config.freeWord (s.free + 3)) ∧
  (∀ (s : State) (w : Who), s.key.work = none → s.key.applyWait = false → s.key.nonceLive = true →
      s.svcExpected = some (s.regBytes .KEY_SVCRESP 4) → s.reaches w 19 = true → ∃ t, exec (.keyCmdSvcauth w) s = .next t ∧
      t.fld KEY_RES.RESULT = 1 ∧ t.fld KEY_RES.CMD = 5 ∧ t.fld KEY_RES.SLOT = 0 ∧ t.bit KEY_STAT.SVCOK = true ∧
      t.key.svcFails = 0 ∧ t.key.nonceLive = false) ∧
  (∀ (s : State) (w : Who), s.key.work = none → s.key.applyWait = false → s.key.nonceLive = false → s.reaches w 19 = true →
      ∃ t, exec (.keyCmdSvcauth w) s = .next t ∧ t.fld KEY_RES.RESULT = 2 ∧ t.fld KEY_RES.CMD = 5 ∧ t.fld KEY_RES.SLOT = 0 ∧
      t.bit KEY_STAT.SVCOK = s.bit KEY_STAT.SVCOK ∧ t.key.svcFails = s.key.svcFails + 1 ∧
      t.key.lockout = (s.key.lockout || decide (2 ≤ s.key.svcFails))) ∧
  (∀ (s : State) (w : Who), s.key.work = none → s.key.applyWait = false → s.reaches w 19 = true →
      ∃ t, exec (.keyCmdClrcache w) s = .next t ∧ t.fld KEY_RES.RESULT = 1 ∧ t.fld KEY_RES.CMD = 6 ∧
      t.fld KEY_RES.SLOT = 0 ∧ t.key.cache = []) ∧
  (∀ (s : State) (c : Nat) (b : Bool) (k : KeyCopy), c < 32 → s.key.work = some (.plain c b k) →
      ∃ t, exec .keyCommitDone s = .next t ∧ t.fld KEY_RES.RESULT = 1 ∧ t.fld KEY_RES.CMD = 2 ∧ t.fld KEY_RES.SLOT = c ∧
      t.bit KEY_STAT.BUSY = false ∧ t.slotCopy c b = k ∧ t.key.work = none ∧ t.reg ⟨.KEY_PLAIN, 15, 0, 0⟩ = 0 ∧
      t.key.cache = s.key.cache.filter (fun e => e.slot != c)) ∧
  (∀ (s : State) (i : Nat) (b : Bool) (k : ImgCopy), s.key.work = some (.image i b k) →
      ∃ t, exec .keyCommitDone s = .next t ∧ t.fld KEY_RES.RESULT = 1 ∧ t.fld KEY_RES.CMD = 3 ∧ t.fld KEY_RES.SLOT = 0 ∧
      t.bit KEY_STAT.BUSY = false ∧ t.imgCopy i b = k) ∧
  (∀ (s : State), ∃ t, exec .svcokExpiry s = .next t ∧ t.bit KEY_STAT.SVCOK = false) ∧
  (∀ (s : State), ∃ t, exec .svcLockoutExpiry s = .next t ∧ t.key.lockout = false)

/-- Service operations, tamper events, the debug port. KEY_OPGO of an aligned address with room in the queue: it is queued, QLEN
shows it and the engine runs. KEY_OPERATION_DONE, store not sealed and no APPLY waiting, of a permitted SHA-256 descriptor
whose output lies beside it: the digest stands at DST and STATUS is 0x101; of a descriptor with a reserved encoding: STATUS
0x108; the queue goes on. A legal, unbarred KEY_TCFG write sets TMAX in Service mode and leaves it otherwise. In Run's
phase: TAMPER_EVENT of source 0 or 1 under policy LOG, the count staying below TMAX: TCNT and TLOGCNT grow by 1, the log
entry names the source, SEALED as it was; under policy SEAL outside a pair: SEALED 1, DBGOPEN 0, cache and commit gone.
DEBUG_REQUEST of an unknown identity with CATLOCK: the refusal is remembered, the fourth within one second counts as a
tamper event. (18_provenance_keys.md) -/
def Obligations.KeyOperationsAndTamper : Prop :=
  (∀ (s : State) (w : Who) (a : Word), s.key.queue.length < 4 → a.toNat % 4 = 0 → s.reaches w 19 = true →
      ∃ t, exec (.keyOpgo w a) s = .next t ∧ t.key.queue = s.key.queue ++ [a.toNat] ∧
      t.fld KEY_OPSTAT.QLEN = s.key.queue.length + 1 ∧ t.key.running.isSome = true) ∧
  (∀ (s : State) (a : Nat) (as : List Nat) (b : List Byte), s.key.running = some b → s.key.queue = a :: as → as.length < 4 →
      s.key.applyWait = false → s.sealed = false → (descOf b).op = 7 → (descOf b).reservedEnc = false →
      s.descRanges (descOf b) = true → a % 4 = 0 → s.memPermitted a = true →
      a + 96 ≤ (descOf b).dst ∨ (descOf b).dst + 32 ≤ a → ∃ t, exec .keyOperationDone s = .next t ∧ t.word (a + 4) = 0x101 ∧
      (∀ k, k < 32 → t.byte ((descOf b).dst + k) = (sha256 (s.bytes (descOf b).src (descOf b).len)).getD k 0) ∧
      t.key.queue = as ∧
      (∀ x, (x < a + 4 ∨ a + 8 ≤ x) → (x < (descOf b).dst ∨ (descOf b).dst + 32 ≤ x) → t.byte x = s.byte x)) ∧
  (∀ (s : State) (a : Nat) (as : List Nat) (b : List Byte), s.key.running = some b → s.key.queue = a :: as → as.length < 4 →
      s.key.applyWait = false → s.sealed = false → (descOf b).reservedEnc = true → a % 4 = 0 → s.memPermitted a = true →
      ∃ t, exec .keyOperationDone s = .next t ∧ t.word (a + 4) = 0x108 ∧ t.key.queue = as) ∧
  (∀ (s : State) (x : Word), s.legalWrite .host .KEY_TCFG x = true → s.rwsBarred .host ⟨.KEY_TCFG, 0, 0, 0⟩ x = false →
      ∃ t, exec (.keyTcfgWrite x) s = .next t ∧
      t.fld KEY_TCFG.TMAX = (if s.mode = 8 then ext x KEY_TCFG.TMAX.lo KEY_TCFG.TMAX.width else s.fld KEY_TCFG.TMAX)) ∧
  (∀ (s : State) (k : Nat), k < 2 → s.sys.phase = .run → s.sealPolicy k = false →
      s.fld KEY_STAT.TCNT + 1 < s.fld KEY_TCFG.TMAX → ∃ t, exec (.tamperEvent k) s = .next t ∧
      t.fld KEY_STAT.TCNT = s.fld KEY_STAT.TCNT + 1 ∧ t.fld KEY_TLOGCNT.CNT = satInc (s.fld KEY_TLOGCNT.CNT) 16 ∧
      t.bit KEY_STAT.SEALED = s.bit KEY_STAT.SEALED ∧ ext (t.reg ⟨.KEY_TLOG, s.fld KEY_TLOGCNT.CNT % 16, 0, 0⟩) 0 3 = k) ∧
  (∀ (s : State) (k : Nat), k < 2 → s.sys.phase = .run → s.asleep = false → s.sealed = false → s.sealPolicy k = true →
      s.isPair = false → ∃ t, exec (.tamperEvent k) s = .next t ∧ t.bit KEY_STAT.SEALED = true ∧
      t.bit KEY_STAT.DBGOPEN = false ∧ t.key.cache = [] ∧ t.key.work = none) ∧
  (∀ (s : State), s.sys.phase = .run → s.bit KEY_STAT.CATLOCK = true → s.bit KEY_STAT.DBGOPEN = false →
      (s.key.refusals.filter fun t => s.tb < t + 100000000).length < 3 → ∃ t, exec (.debugRequest false) s = .next t ∧
      t.key.refusals = s.key.refusals.filter (fun x => s.tb < x + 100000000) ++ [s.tb] ∧
      t.fld KEY_STAT.TCNT = s.fld KEY_STAT.TCNT ∧ Changes [] [.key, .twn] s t) ∧
  (∀ (s : State), s.sys.phase = .run → s.bit KEY_STAT.CATLOCK = true → s.bit KEY_STAT.DBGOPEN = false →
      3 ≤ (s.key.refusals.filter fun t => s.tb < t + 100000000).length → ∃ t, exec (.debugRequest false) s = .next t ∧
      t.key.refusals = [] ∧ t.fld KEY_STAT.TCNT = satInc (s.fld KEY_STAT.TCNT) 4)

/-- Host frames, register writes, management requests, calibration, crossing time-outs. With the host port up, outside Sealed
and outside a poll window, a frame with good HCRC and FCRC, no lateness and no collision: FRAMES grows by 1, the frame ends
with its trailer and its CRC: NOP; HOST_READ and HOST_READS give the words of the host window after RDLY words; HOST_WRITE
and HOST_WRITES of two words at one address store them. HOST_WRITE with a bad FCRC counts CRCERRS and stores nothing; a
reserved command sets RSVD and answers as such; HOST_FRAME_ABORT counts FRAMES and CRCERRS. REGISTER_WRITE by the host into
the host window stores the word and no other byte. With the management port up and a key: a NOP request without nonce is
answered with a free nonce; one with the nonce and a higher sequence number is accepted, one without is refused and counted
in REPLAY. CAL_VAL write in Service mode of an offset record, legal and unbarred: BUSY, commit waiting; CAL_COMMIT_DONE
makes it the committed value, SRC 1. CROSSING_TIMEOUT raises kind 0 of the destination's block with the two islands.
(01_islands_and_flow.md, 19_host_port_calibration.md) -/
def Obligations.HostFrames : Prop :=
  (∀ (s : State) (f : HostFrame), s.hostUp = true → hcrcOk f.hdr = true → hdrCmd f.hdr = 0 → hdrCnt f.hdr = 0 →
      hostFcrc f = f.fcrc → f.late = none → f.coll = [] → f.ecc = [] → ∃ t, exec (.hostNop f) s = .next t ∧
      t.fld HST_STAT.FRAMES = (s.fld HST_STAT.FRAMES + 1) % 65536 ∧ t.fld HST_STAT.CRCERRS = s.fld HST_STAT.CRCERRS ∧
      t.spi.crcErr = false ∧
      t.spi.out = [headOut (s.hostStatus s.spi), 0, 0] ++ [trailer (s.hostStatus s.spi) (hdrTag f.hdr) false resOk, fcrc [trailer (s.hostStatus s.spi) (hdrTag f.hdr) false resOk]] ∧
      Changes [.HST_STAT] [.spi, .twn] s t) ∧
  (∀ (s : State) (f : HostFrame) (a : Nat), s.hostUp = true → hcrcOk f.hdr = true → hdrCmd f.hdr = 1 → hdrCnt f.hdr = 0 →
      hostFcrc f = f.fcrc → f.late = none → f.coll = [] → f.ecc = [] → a = f.addr.toNat → 0x300000 ≤ a → a < 0x308000 →
      a % 4 = 0 → s.sys.pollOpen = false → s.mode ≠ 11 → ∃ t, exec (.hostRead f) s = .next t ∧
      t.fld HST_STAT.FRAMES = (s.fld HST_STAT.FRAMES + 1) % 65536 ∧ t.fld HST_STAT.CRCERRS = s.fld HST_STAT.CRCERRS ∧
      t.spi.crcErr = false ∧
      t.spi.out = [headOut (s.hostStatus s.spi), 0, 0] ++ List.replicate (s.fld HST_CFG.RDLY) 0 ++ [s.word a, trailer (s.hostStatus s.spi) (hdrTag f.hdr) false resOk, fcrc [s.word a, trailer (s.hostStatus s.spi) (hdrTag f.hdr) false resOk]] ∧
      ∀ b, t.byte b = s.byte b ∧ Changes [.HST_STAT] [.spi, .twn] s t) ∧
  (∀ (s : State) (f : HostFrame) (a : Nat), s.hostUp = true → hcrcOk f.hdr = true → hdrCmd f.hdr = 2 → hdrCnt f.hdr = 0 →
      hostFcrc f = f.fcrc → f.late = none → f.coll = [] → f.ecc = [] → a = f.addr.toNat → 0x300000 ≤ a → a < 0x308000 →
      a % 4 = 0 → s.sys.pollOpen = false → s.mode ≠ 11 → ∃ t, exec (.hostWrite f) s = .next t ∧
      t.fld HST_STAT.FRAMES = (s.fld HST_STAT.FRAMES + 1) % 65536 ∧ t.fld HST_STAT.CRCERRS = s.fld HST_STAT.CRCERRS ∧
      t.spi.crcErr = false ∧ t.word a = f.data.getD 0 0 ∧ (∀ b, (b < a ∨ a + 4 ≤ b) → t.byte b = s.byte b) ∧
      t.spi.out = [headOut (s.hostStatus s.spi), 0, 0] ++ [0, trailer (s.hostStatus s.spi) (hdrTag f.hdr) false resOk, fcrc [trailer (s.hostStatus s.spi) (hdrTag f.hdr) false resOk]] ∧
      Changes [.HST_STAT] [.mem, .spi, .twn] s t) ∧
  (∀ (s : State) (f : HostFrame) (a : Nat), s.hostUp = true → hcrcOk f.hdr = true → hdrCmd f.hdr = 3 → hdrCnt f.hdr = 1 →
      hostFcrc f = f.fcrc → f.late = none → f.coll = [] → f.ecc = [] → a = f.addr.toNat → 0x300000 ≤ a → a < 0x308000 →
      a % 4 = 0 → s.sys.pollOpen = false → s.mode ≠ 11 → ∃ t, exec (.hostReads f) s = .next t ∧
      t.fld HST_STAT.FRAMES = (s.fld HST_STAT.FRAMES + 1) % 65536 ∧ t.fld HST_STAT.CRCERRS = s.fld HST_STAT.CRCERRS ∧
      t.spi.crcErr = false ∧
      t.spi.out = [headOut (s.hostStatus s.spi), 0, 0] ++ List.replicate (s.fld HST_CFG.RDLY) 0 ++ [s.word a, s.word a, trailer (s.hostStatus s.spi) (hdrTag f.hdr) false resOk, fcrc [s.word a, s.word a, trailer (s.hostStatus s.spi) (hdrTag f.hdr) false resOk]] ∧
      Changes [.HST_STAT] [.spi, .twn] s t) ∧
  (∀ (s : State) (f : HostFrame) (a : Nat), s.hostUp = true → hcrcOk f.hdr = true → hdrCmd f.hdr = 4 → hdrCnt f.hdr = 1 →
      hostFcrc f = f.fcrc → f.late = none → f.coll = [] → f.ecc = [] → a = f.addr.toNat → 0x300000 ≤ a → a < 0x308000 →
      a % 4 = 0 → s.sys.pollOpen = false → s.mode ≠ 11 → ∃ t, exec (.hostWrites f) s = .next t ∧
      t.fld HST_STAT.FRAMES = (s.fld HST_STAT.FRAMES + 1) % 65536 ∧ t.fld HST_STAT.CRCERRS = s.fld HST_STAT.CRCERRS ∧
      t.spi.crcErr = false ∧ t.word a = f.data.getD 1 0 ∧
      t.spi.out = [headOut (s.hostStatus s.spi), 0, 0] ++ [0, 0, trailer (s.hostStatus s.spi) (hdrTag f.hdr) false resOk, fcrc [trailer (s.hostStatus s.spi) (hdrTag f.hdr) false resOk]] ∧
      (∀ b, (b < a ∨ a + 4 ≤ b) → t.byte b = s.byte b) ∧ Changes [.HST_STAT] [.mem, .spi, .twn] s t) ∧
  (∀ (s : State) (f : HostFrame), s.hostUp = true → hcrcOk f.hdr = true → hdrCmd f.hdr ≤ 4 ∧ hdrBad f.hdr = false →
      hostFcrc f ≠ f.fcrc → hdrCmd f.hdr = 2 → ∃ t, exec (.hostWrite f) s = .next t ∧
      t.fld HST_STAT.CRCERRS = satInc (s.fld HST_STAT.CRCERRS) 8 ∧ t.spi.crcErr = true ∧ ∀ b, t.byte b = s.byte b ∧
      Changes [.HST_STAT] [.spi, .twn] s t) ∧
  (∀ (s : State) (f : HostFrame), s.hostUp = true → hcrcOk f.hdr = true → hdrBad f.hdr = true →
      ∃ t, exec (.hostReservedCommand f) s = .next t ∧ t.spi.rsvd = true ∧
      t.fld HST_STAT.FRAMES = (s.fld HST_STAT.FRAMES + 1) % 65536 ∧
      t.spi.out.getD 3 0 = trailer (s.hostStatus s.spi) (hdrTag f.hdr) false resBadCmd ∧
      Changes [.HST_STAT] [.spi, .twn] s t) ∧
  (∀ (s : State), s.hostUp = true → ∃ t, exec .hostFrameAbort s = .next t ∧
      t.fld HST_STAT.FRAMES = (s.fld HST_STAT.FRAMES + 1) % 65536 ∧
      t.fld HST_STAT.CRCERRS = satInc (s.fld HST_STAT.CRCERRS) 8 ∧ t.spi.crcErr = true ∧
      t.spi.out = [headOut (s.hostStatus s.spi)] ∧ Changes [.HST_STAT] [.spi, .twn] s t) ∧
  (∀ (s : State) (a : Nat) (x : Word), s.hostUp = true → 0x300000 ≤ a → a < 0x308000 → a % 4 = 0 → s.sys.pollOpen = false →
      s.mode ≠ 11 → ∃ t, exec (.registerWrite .host a x) s = .next t ∧ t.word a = x ∧
      (∀ b, (b < a ∨ a + 4 ≤ b) → t.byte b = s.byte b) ∧ Changes [] [.mem, .twn] s t) ∧
  (∀ (s : State) (h : Word), s.mgmtUp = true → s.mgmtKey.isSome = true → hcrcOk h = true → hdrCmd h = 0 → hdrCnt h = 0 →
      ∃ t, exec (.mgmtRequest (s.datagram [0, 0, h, 0]) none [] []) s = .next t ∧
      t.fld HST_ENONCE.NONCE = (Config.freeWord s.free).toNat ∧ t.fld HST_ESEQ.SEQ = 0 ∧
      t.fld HST_ESTAT.ACCEPTED = (s.fld HST_ESTAT.ACCEPTED + 1) % 65536 ∧
      t.mgmt.out = [Config.freeWord s.free, 0, trailer (s.hostStatus s.mgmt) (hdrTag h) false resOk] ∧
      Changes [.HST_ESTAT, .HST_ENONCE, .HST_ESEQ] [.mgmt, .mgmtTag, .twn] s t) ∧
  (∀ (s : State) (n q h : Word), s.mgmtUp = true → s.mgmtKey.isSome = true → n ≠ 0 → n.toNat = s.fld HST_ENONCE.NONCE →
      s.fld HST_ESEQ.SEQ < q.toNat → hcrcOk h = true → hdrCmd h = 0 → hdrCnt h = 0 →
      ∃ t, exec (.mgmtRequest (s.datagram [n, q, h, 0]) none [] []) s = .next t ∧ t.fld HST_ESEQ.SEQ = q.toNat ∧
      t.fld HST_ENONCE.NONCE = n.toNat ∧ t.fld HST_ESTAT.ACCEPTED = (s.fld HST_ESTAT.ACCEPTED + 1) % 65536 ∧
      t.mgmt.out = [n, q, trailer (s.hostStatus s.mgmt) (hdrTag h) false resOk] ∧
      Changes [.HST_ESTAT, .HST_ENONCE, .HST_ESEQ] [.mgmt, .mgmtTag, .twn] s t) ∧
  (∀ (s : State) (n q h : Word), s.mgmtUp = true → s.mgmtKey.isSome = true → n ≠ 0 → n.toNat = s.fld HST_ENONCE.NONCE →
      q.toNat ≤ s.fld HST_ESEQ.SEQ → ∃ t, exec (.mgmtRequest (s.datagram [n, q, h, 0]) none [] []) s = .next t ∧
      t.fld HST_ESTAT.REPLAY = satInc (s.fld HST_ESTAT.REPLAY) 8 ∧ t.mgmt.out = s.mgmt.out ∧
      t.fld HST_ESEQ.SEQ = s.fld HST_ESEQ.SEQ ∧ Changes [.HST_ESTAT, .HST_ENONCE, .HST_ESEQ] [.mgmt, .mgmtTag, .twn] s t) ∧
  (∀ (s : State) (r : Nat) (x : Word), s.hostUp = true → calFitted s.variant r = true → s.mode = 8 →
      s.legalWrite .host .CAL_VAL x = true → s.rwsBarred .host ⟨.CAL_VAL, r, 0, 0⟩ x = false → calOffset r = true →
      s.cal.commits = [] → ∃ t, exec (.calValWrite r x) s = .next t ∧ t.reg ⟨.CAL_VAL, r, 0, 0⟩ = x ∧
      t.bit CAL_INFO.BUSY r = true ∧ t.cal.commits = [(r, x, none)]) ∧
  (∀ (s : State) (r : Nat) (x : Word), s.cal.commits = [(r, x, none)] → ∃ t, exec (.calCommitDone r) s = .next t ∧
      Tbl.get t.cal.committed r 0 = x ∧ t.bit CAL_INFO.SRC r = true ∧ t.bit CAL_INFO.BUSY r = false ∧ t.cal.commits = [] ∧
      t.fld CAL_INFO.WRITES r = satInc (s.fld CAL_INFO.WRITES r) 8) ∧
  (∀ (s : State) (src dst b : Nat), src < 19 → (islandBlocks dst).contains b = true →
      ∃ t, exec (.crossingTimeout src dst b) s = .next t ∧
      t.flt.raised = s.flt.raised ++ [⟨srcId 0 b 0, (dst * 32 + src) % 4096, s.micros, false, true, false⟩])
end

