-- ==== Sys2Proof/Laws/Bits.lean ====
section
/-! SUPPORT. Bit fields of words: a field written reads as written, and no other field changes. -/

namespace Sys2Proof.Machine

theorem testBit_ext (w : Word) (lo n i : Nat) :
    (ext w lo n).testBit i = (decide (i < n) && w.getLsbD (lo + i)) := by
  unfold ext
  rw [Nat.testBit_mod_two_pow, BitVec.testBit_toNat, BitVec.getLsbD_ushiftRight]

theorem getLsbD_fieldMask (lo n i : Nat) :
    (fieldMask lo n).getLsbD i = (decide (i < 32) && (decide (lo ≤ i) && decide (i < lo + n))) := by
  unfold fieldMask
  rw [BitVec.getLsbD_shiftLeft, BitVec.getLsbD_ofNat, Nat.testBit_two_pow_sub_one]
  by_cases h1 : i < 32 <;> by_cases h2 : lo ≤ i <;> by_cases h3 : i < lo + n <;> simp [h1, h2, h3] <;> omega

theorem getLsbD_ins (w : Word) (lo n v i : Nat) :
    (ins w lo n v).getLsbD i =
      (if lo ≤ i ∧ i < lo + n then decide (i < 32) && v.testBit (i - lo) else w.getLsbD i) := by
  unfold ins
  rw [BitVec.getLsbD_or, BitVec.getLsbD_and, BitVec.getLsbD_not, getLsbD_fieldMask, BitVec.getLsbD_shiftLeft,
    BitVec.getLsbD_ofNat, Nat.testBit_mod_two_pow]
  by_cases h1 : i < 32
  · by_cases h2 : lo ≤ i
    · by_cases h3 : i < lo + n
      · simp [h1, h2, h3, show ¬ i < lo by omega, show i - lo < n by omega, show i - lo < 32 by omega]
      · simp [h1, h2, h3, show ¬ i - lo < n by omega]
    · simp [h1, h2, show i < lo by omega]
  · have : w.getLsbD i = false := BitVec.getLsbD_of_ge w i (by omega)
    by_cases h2 : lo ≤ i <;> by_cases h3 : i < lo + n <;> simp [h1, h2, h3, this]

/-- A field reads as it was written. -/
theorem ext_ins_self (w : Word) {lo n : Nat} (v : Nat) (h : lo + n ≤ 32) : ext (ins w lo n v) lo n = v % 2 ^ n := by
  apply Nat.eq_of_testBit_eq
  intro i
  rw [testBit_ext, getLsbD_ins, Nat.testBit_mod_two_pow]
  by_cases h1 : i < n
  · rw [if_pos ⟨by omega, by omega⟩]
    simp [h1, show lo + i < 32 by omega]
  · simp [h1]

/-- A field is not touched by a write of another. -/
theorem ext_ins_other (w : Word) {lo n lo' n' : Nat} (v : Nat) (h : lo + n ≤ lo' ∨ lo' + n' ≤ lo) :
    ext (ins w lo n v) lo' n' = ext w lo' n' := by
  apply Nat.eq_of_testBit_eq
  intro i
  rw [testBit_ext, testBit_ext, getLsbD_ins]
  by_cases h1 : i < n'
  · rw [if_neg (by omega)]
  · simp [h1]

theorem ext_lt (w : Word) (lo n : Nat) : ext w lo n < 2 ^ n := Nat.mod_lt _ (Nat.two_pow_pos n)

end Sys2Proof.Machine
end

