-- ==== Sys2Proof/Laws/Frame.lean ====
section
/-! SUPPORT. Frames: `Fr m s t` says what a transition from `s` to `t` may have changed. The mask `m` has one bit for each
register name (bit n: the n-th constructor of `Reg`) and one for each part of the state (bit 289 + n: the n-th field); a
part whose bit is clear is unchanged. The queue and the variant are unchanged and the memory keeps its canonical form,
whatever the mask. A lemma `f_fr` of another file carries a frame through `f`. -/

namespace Sys2Proof.Machine

/-! ## The canonical form of memory -/

theorem Memory.wf_cons {c : Host.Cell} {m : List Host.Cell} :
    Memory.wf (c :: m) = true ↔ c.2 ≠ unlisted c.1 ∧ (∀ d ∈ m.head?, c.1 < d.1) ∧ Memory.wf m = true := by
  cases m with
  | nil => simp [Memory.wf]
  | cons d m => simp [Memory.wf, and_assoc]

theorem Memory.lt_of_wf {c : Host.Cell} {m : List Host.Cell} (h : Memory.wf (c :: m) = true) :
    ∀ d ∈ m, c.1 < d.1 := by
  induction m generalizing c with
  | nil => simp
  | cons d m ih =>
    have h' := Memory.wf_cons.mp h
    intro e he
    have hcd : c.1 < d.1 := h'.2.1 d (by simp)
    rcases List.mem_cons.mp he with rfl | he
    · exact hcd
    · exact Nat.lt_trans hcd (ih h'.2.2 e he)

theorem Memory.wf_cons_of {c : Host.Cell} {m : List Host.Cell} (hc : c.2 ≠ unlisted c.1) (hl : ∀ d ∈ m, c.1 < d.1)
    (hm : Memory.wf m = true) : Memory.wf (c :: m) = true :=
  Memory.wf_cons.mpr ⟨hc, fun d hd => hl d (List.mem_of_mem_head? hd), hm⟩

theorem Memory.wf_filter (p : Host.Cell → Bool) {m : List Host.Cell} (h : Memory.wf m = true) :
    Memory.wf (m.filter p) = true := by
  induction m with
  | nil => rfl
  | cons c m ih =>
    have h' := Memory.wf_cons.mp h
    rw [List.filter_cons]
    split
    · exact Memory.wf_cons_of h'.1 (fun d hd => Memory.lt_of_wf h d ((List.mem_filter.mp hd).1)) (ih h'.2.2)
    · exact ih h'.2.2

theorem Memory.mem_insert {a : Nat} {b : Byte} {m : List Host.Cell} {d : Host.Cell} :
    d ∈ Memory.insert a b m ↔ d = (a, b) ∨ d ∈ m := by
  induction m with
  | nil => simp [Memory.insert]
  | cons c m ih =>
    unfold Memory.insert
    split
    · exact List.mem_cons
    · show d ∈ c :: Memory.insert a b m ↔ _
      rw [List.mem_cons, ih, List.mem_cons]
      exact or_left_comm

theorem Memory.wf_insert {a : Nat} {b : Byte} (hb : b ≠ unlisted a) {m : List Host.Cell} (hn : ∀ d ∈ m, d.1 ≠ a)
    (h : Memory.wf m = true) : Memory.wf (Memory.insert a b m) = true := by
  induction m with
  | nil => exact Memory.wf_cons_of hb (by simp) rfl
  | cons c m ih =>
    have h' := Memory.wf_cons.mp h
    unfold Memory.insert
    split
    case isTrue hlt =>
      refine Memory.wf_cons_of hb (fun d hd => ?_) h
      rcases List.mem_cons.mp hd with rfl | hd
      · exact hlt
      · exact Nat.lt_trans hlt (Memory.lt_of_wf h d hd)
    case isFalse hge =>
      have hne : c.1 ≠ a := hn c (by simp)
      refine Memory.wf_cons_of h'.1 (fun d hd => ?_) (ih (fun d hd => hn d (by simp [hd])) h'.2.2)
      rcases Memory.mem_insert.mp hd with rfl | hd
      · change c.1 < a
        have : ¬ a < c.1 := hge
        omega
      · exact Memory.lt_of_wf h d hd

/-- A byte written keeps the canonical form. -/
theorem Memory.wf_set (a : Nat) (b : Byte) {m : List Host.Cell} (h : Memory.wf m = true) :
    Memory.wf (Memory.set m a b) = true := by
  unfold Memory.set
  split
  · exact Memory.wf_filter _ h
  · exact Memory.wf_insert ‹_› (fun d hd => by simpa using (List.mem_filter.mp hd).2) (Memory.wf_filter _ h)

/-- Clearing a range keeps the canonical form. -/
theorem Memory.wf_clear (lo hi : Nat) {m : List Host.Cell} (h : Memory.wf m = true) :
    Memory.wf (Memory.clear m lo hi) = true := Memory.wf_filter _ h

/-! ## The relation -/

/-- What a transition from `s` to `t` leaves as it was, under the mask `m`. -/
structure Fr (m : Nat) (s t : State) : Prop where
  pending : t.pending = s.pending
  variant : t.variant = s.variant
  wf : Memory.wf s.mem = true → Memory.wf t.mem = true
  regs : ∀ r : RegRef, m.testBit r.reg.ctorIdx = false → t.reg r = s.reg r
  mem : m.testBit 292 = false → t.mem = s.mem
  tb : m.testBit 293 = false → t.tb = s.tb
  free : m.testBit 294 = false → t.free = s.free
  sys : m.testBit 295 = false → t.sys = s.sys
  outs : m.testBit 296 = false → t.outs = s.outs
  cat : m.testBit 297 = false → t.cat = s.cat
  fab : m.testBit 298 = false → t.fab = s.fab
  doc : m.testBit 299 = false → t.doc = s.doc
  memx : m.testBit 300 = false → t.memx = s.memx
  flt : m.testBit 301 = false → t.flt = s.flt
  trips : m.testBit 302 = false → t.trips = s.trips
  buckets : m.testBit 303 = false → t.buckets = s.buckets
  hsw : m.testBit 304 = false → t.hsw = s.hsw
  hbr : m.testBit 305 = false → t.hbr = s.hbr
  coil : m.testBit 306 = false → t.coil = s.coil
  bank : m.testBit 307 = false → t.bank = s.bank
  led : m.testBit 308 = false → t.led = s.led
  fold : m.testBit 309 = false → t.fold = s.fold
  lch : m.testBit 310 = false → t.lch = s.lch
  inp : m.testBit 311 = false → t.inp = s.inp
  rdata : m.testBit 312 = false → t.rdata = s.rdata
  can : m.testBit 313 = false → t.can = s.can
  lin : m.testBit 314 = false → t.lin = s.lin
  eth : m.testBit 315 = false → t.eth = s.eth
  nm : m.testBit 316 = false → t.nm = s.nm
  pwr : m.testBit 317 = false → t.pwr = s.pwr
  twn : m.testBit 318 = false → t.twn = s.twn
  key : m.testBit 319 = false → t.key = s.key
  cal : m.testBit 320 = false → t.cal = s.cal
  spi : m.testBit 321 = false → t.spi = s.spi
  mgmt : m.testBit 322 = false → t.mgmt = s.mgmt
  mgmtTag : m.testBit 323 = false → t.mgmtTag = s.mgmtTag

namespace Fr

variable {m k : Nat} {s₀ s t : State}

theorem no {P : Prop} (h : m.testBit k = true) (h' : m.testBit k = false) : P := by simp [h] at h'

/-- A smaller mask within a larger one. -/
theorem sub {a b m : Nat} (hm : b ||| m = m) (h : a ||| b = b) : a ||| m = m := by rw [← hm, ← Nat.or_assoc, h]

/-- A bit of a smaller mask is one of the larger. -/
theorem bit {M m k : Nat} (hm : M ||| m = m) (hk : M.testBit k = true) : m.testBit k = true := by
  rw [← hm, Nat.testBit_or, hk, Bool.true_or]

/-- A mask with every register bit. -/
theorem all {M m : Nat} (hm : M ||| m = m) (h : 0x1ffffffffffffffffffffffffffffffffffffffffffffffffffffffffffffffffffffffff ||| M = M) (r : Reg) : m.testBit r.ctorIdx = true :=
  bit (sub hm h) (by cases r <;> rfl)

/-- The bit of a register. -/
theorem reg {M m : Nat} (R : Reg) (hm : M ||| m = m) (hk : M.testBit R.ctorIdx = true) : m.testBit R.ctorIdx = true :=
  bit hm hk

theorem id (m : Nat) (s : State) : Fr m s s where
  pending := rfl
  variant := rfl
  wf h := h
  regs _ _ := rfl
  mem _ := rfl
  tb _ := rfl
  free _ := rfl
  sys _ := rfl
  outs _ := rfl
  cat _ := rfl
  fab _ := rfl
  doc _ := rfl
  memx _ := rfl
  flt _ := rfl
  trips _ := rfl
  buckets _ := rfl
  hsw _ := rfl
  hbr _ := rfl
  coil _ := rfl
  bank _ := rfl
  led _ := rfl
  fold _ := rfl
  lch _ := rfl
  inp _ := rfl
  rdata _ := rfl
  can _ := rfl
  lin _ := rfl
  eth _ := rfl
  nm _ := rfl
  pwr _ := rfl
  twn _ := rfl
  key _ := rfl
  cal _ := rfl
  spi _ := rfl
  mgmt _ := rfl
  mgmtTag _ := rfl

theorem trans (h : Fr m s₀ s) (h' : Fr m s t) : Fr m s₀ t where
  pending := h'.pending.trans h.pending
  variant := h'.variant.trans h.variant
  wf w := h'.wf (h.wf w)
  regs r b := (h'.regs r b).trans (h.regs r b)
  mem b := (h'.mem b).trans (h.mem b)
  tb b := (h'.tb b).trans (h.tb b)
  free b := (h'.free b).trans (h.free b)
  sys b := (h'.sys b).trans (h.sys b)
  outs b := (h'.outs b).trans (h.outs b)
  cat b := (h'.cat b).trans (h.cat b)
  fab b := (h'.fab b).trans (h.fab b)
  doc b := (h'.doc b).trans (h.doc b)
  memx b := (h'.memx b).trans (h.memx b)
  flt b := (h'.flt b).trans (h.flt b)
  trips b := (h'.trips b).trans (h.trips b)
  buckets b := (h'.buckets b).trans (h.buckets b)
  hsw b := (h'.hsw b).trans (h.hsw b)
  hbr b := (h'.hbr b).trans (h.hbr b)
  coil b := (h'.coil b).trans (h.coil b)
  bank b := (h'.bank b).trans (h.bank b)
  led b := (h'.led b).trans (h.led b)
  fold b := (h'.fold b).trans (h.fold b)
  lch b := (h'.lch b).trans (h.lch b)
  inp b := (h'.inp b).trans (h.inp b)
  rdata b := (h'.rdata b).trans (h.rdata b)
  can b := (h'.can b).trans (h.can b)
  lin b := (h'.lin b).trans (h.lin b)
  eth b := (h'.eth b).trans (h.eth b)
  nm b := (h'.nm b).trans (h.nm b)
  pwr b := (h'.pwr b).trans (h.pwr b)
  twn b := (h'.twn b).trans (h.twn b)
  key b := (h'.key b).trans (h.key b)
  cal b := (h'.cal b).trans (h.cal b)
  spi b := (h'.spi b).trans (h.spi b)
  mgmt b := (h'.mgmt b).trans (h.mgmt b)
  mgmtTag b := (h'.mgmtTag b).trans (h.mgmtTag b)

/-- The queue plays no part. -/
theorem ite {c : Prop} [Decidable c] {t e : State} (ht : Fr m s₀ t) (he : Fr m s₀ e) : Fr m s₀ (if c then t else e) := by
  split <;> assumption

theorem ite2 {α : Type} {c : Prop} [Decidable c] {t e : α × State} (ht : Fr m s₀ t.2) (he : Fr m s₀ e.2) :
    Fr m s₀ (if c then t else e).2 := by
  split <;> assumption

theorem dite {c : Prop} [Decidable c] {t : c → State} {e : ¬ c → State} (ht : ∀ h, Fr m s₀ (t h)) (he : ∀ h, Fr m s₀ (e h)) :
    Fr m s₀ (if h : c then t h else e h) := by
  split
  · exact ht _
  · exact he _

theorem pr {α : Type} {p : α × State} {x : α} {t : State} (h : Fr m s₀ p.2) (e : p = (x, t)) : Fr m s₀ t := by
  rw [e] at h; exact h

theorem mk2 {α : Type} {x : α} {t : State} (h : Fr m s₀ t) : Fr m s₀ (x, t).2 := h

theorem foldl {α : Type} {f : State → α → State} {l : List α} (hf : ∀ s a, Fr m s₀ s → Fr m s₀ (f s a)) (h : Fr m s₀ s) :
    Fr m s₀ (l.foldl f s) := by
  induction l generalizing s with
  | nil => exact h
  | cons a l ih => exact ih (hf s a h)

theorem foldl2 {α β : Type} {f : β × State → α → β × State} {l : List α} {x : β × State}
    (hf : ∀ x a, Fr m s₀ x.2 → Fr m s₀ (f x a).2) (h : Fr m s₀ x.2) : Fr m s₀ (l.foldl f x).2 := by
  induction l generalizing x with
  | nil => exact h
  | cons a l ih => exact ih (hf x a h)

theorem forEach {α : Type} {f : α → State → State} {l : List α} (hf : ∀ a s, Fr m s₀ s → Fr m s₀ (f a s)) (h : Fr m s₀ s) :
    Fr m s₀ (forEach l f s) := foldl (fun s a => hf a s) h

theorem onlyIf {c : Bool} {f : State → State} (hf : ∀ s, Fr m s₀ s → Fr m s₀ (f s)) (h : Fr m s₀ s) :
    Fr m s₀ (onlyIf c f s) := by
  unfold Machine.onlyIf
  split
  · exact hf s h
  · exact h


/-- An update that leaves registers and memory alone. -/
theorem upd {t : State} (h : Fr m s₀ s) (hp : t.pending = s.pending := by rfl)
    (hv : t.variant = s.variant := by rfl) (hr : t.regs = s.regs := by rfl) (hmm : t.mem = s.mem := by rfl)
    (h_tb : m.testBit 293 = false → t.tb = s.tb := by exact fun _ => rfl)
    (h_free : m.testBit 294 = false → t.free = s.free := by exact fun _ => rfl)
    (h_sys : m.testBit 295 = false → t.sys = s.sys := by exact fun _ => rfl)
    (h_outs : m.testBit 296 = false → t.outs = s.outs := by exact fun _ => rfl)
    (h_cat : m.testBit 297 = false → t.cat = s.cat := by exact fun _ => rfl)
    (h_fab : m.testBit 298 = false → t.fab = s.fab := by exact fun _ => rfl)
    (h_doc : m.testBit 299 = false → t.doc = s.doc := by exact fun _ => rfl)
    (h_memx : m.testBit 300 = false → t.memx = s.memx := by exact fun _ => rfl)
    (h_flt : m.testBit 301 = false → t.flt = s.flt := by exact fun _ => rfl)
    (h_trips : m.testBit 302 = false → t.trips = s.trips := by exact fun _ => rfl)
    (h_buckets : m.testBit 303 = false → t.buckets = s.buckets := by exact fun _ => rfl)
    (h_hsw : m.testBit 304 = false → t.hsw = s.hsw := by exact fun _ => rfl)
    (h_hbr : m.testBit 305 = false → t.hbr = s.hbr := by exact fun _ => rfl)
    (h_coil : m.testBit 306 = false → t.coil = s.coil := by exact fun _ => rfl)
    (h_bank : m.testBit 307 = false → t.bank = s.bank := by exact fun _ => rfl)
    (h_led : m.testBit 308 = false → t.led = s.led := by exact fun _ => rfl)
    (h_fold : m.testBit 309 = false → t.fold = s.fold := by exact fun _ => rfl)
    (h_lch : m.testBit 310 = false → t.lch = s.lch := by exact fun _ => rfl)
    (h_inp : m.testBit 311 = false → t.inp = s.inp := by exact fun _ => rfl)
    (h_rdata : m.testBit 312 = false → t.rdata = s.rdata := by exact fun _ => rfl)
    (h_can : m.testBit 313 = false → t.can = s.can := by exact fun _ => rfl)
    (h_lin : m.testBit 314 = false → t.lin = s.lin := by exact fun _ => rfl)
    (h_eth : m.testBit 315 = false → t.eth = s.eth := by exact fun _ => rfl)
    (h_nm : m.testBit 316 = false → t.nm = s.nm := by exact fun _ => rfl)
    (h_pwr : m.testBit 317 = false → t.pwr = s.pwr := by exact fun _ => rfl)
    (h_twn : m.testBit 318 = false → t.twn = s.twn := by exact fun _ => rfl)
    (h_key : m.testBit 319 = false → t.key = s.key := by exact fun _ => rfl)
    (h_cal : m.testBit 320 = false → t.cal = s.cal := by exact fun _ => rfl)
    (h_spi : m.testBit 321 = false → t.spi = s.spi := by exact fun _ => rfl)
    (h_mgmt : m.testBit 322 = false → t.mgmt = s.mgmt := by exact fun _ => rfl)
    (h_mgmtTag : m.testBit 323 = false → t.mgmtTag = s.mgmtTag := by exact fun _ => rfl) : Fr m s₀ t where
  pending := hp.trans h.pending
  variant := hv.trans h.variant
  wf w := by rw [hmm]; exact h.wf w
  regs r b := by rw [← h.regs r b]; simp only [State.reg, hr, hv]
  mem b := hmm.trans (h.mem b)
  tb b := (h_tb b).trans (h.tb b)
  free b := (h_free b).trans (h.free b)
  sys b := (h_sys b).trans (h.sys b)
  outs b := (h_outs b).trans (h.outs b)
  cat b := (h_cat b).trans (h.cat b)
  fab b := (h_fab b).trans (h.fab b)
  doc b := (h_doc b).trans (h.doc b)
  memx b := (h_memx b).trans (h.memx b)
  flt b := (h_flt b).trans (h.flt b)
  trips b := (h_trips b).trans (h.trips b)
  buckets b := (h_buckets b).trans (h.buckets b)
  hsw b := (h_hsw b).trans (h.hsw b)
  hbr b := (h_hbr b).trans (h.hbr b)
  coil b := (h_coil b).trans (h.coil b)
  bank b := (h_bank b).trans (h.bank b)
  led b := (h_led b).trans (h.led b)
  fold b := (h_fold b).trans (h.fold b)
  lch b := (h_lch b).trans (h.lch b)
  inp b := (h_inp b).trans (h.inp b)
  rdata b := (h_rdata b).trans (h.rdata b)
  can b := (h_can b).trans (h.can b)
  lin b := (h_lin b).trans (h.lin b)
  eth b := (h_eth b).trans (h.eth b)
  nm b := (h_nm b).trans (h.nm b)
  pwr b := (h_pwr b).trans (h.pwr b)
  twn b := (h_twn b).trans (h.twn b)
  key b := (h_key b).trans (h.key b)
  cal b := (h_cal b).trans (h.cal b)
  spi b := (h_spi b).trans (h.spi b)
  mgmt b := (h_mgmt b).trans (h.mgmt b)
  mgmtTag b := (h_mgmtTag b).trans (h.mgmtTag b)

/-- An update of any register that leaves memory alone. -/
theorem updr {t : State} (ha : ∀ r : Reg, m.testBit r.ctorIdx = true) (h : Fr m s₀ s) (hp : t.pending = s.pending := by rfl)
    (hv : t.variant = s.variant := by rfl) (hmm : t.mem = s.mem := by rfl)
    (h_tb : m.testBit 293 = false → t.tb = s.tb := by exact fun _ => rfl)
    (h_free : m.testBit 294 = false → t.free = s.free := by exact fun _ => rfl)
    (h_sys : m.testBit 295 = false → t.sys = s.sys := by exact fun _ => rfl)
    (h_outs : m.testBit 296 = false → t.outs = s.outs := by exact fun _ => rfl)
    (h_cat : m.testBit 297 = false → t.cat = s.cat := by exact fun _ => rfl)
    (h_fab : m.testBit 298 = false → t.fab = s.fab := by exact fun _ => rfl)
    (h_doc : m.testBit 299 = false → t.doc = s.doc := by exact fun _ => rfl)
    (h_memx : m.testBit 300 = false → t.memx = s.memx := by exact fun _ => rfl)
    (h_flt : m.testBit 301 = false → t.flt = s.flt := by exact fun _ => rfl)
    (h_trips : m.testBit 302 = false → t.trips = s.trips := by exact fun _ => rfl)
    (h_buckets : m.testBit 303 = false → t.buckets = s.buckets := by exact fun _ => rfl)
    (h_hsw : m.testBit 304 = false → t.hsw = s.hsw := by exact fun _ => rfl)
    (h_hbr : m.testBit 305 = false → t.hbr = s.hbr := by exact fun _ => rfl)
    (h_coil : m.testBit 306 = false → t.coil = s.coil := by exact fun _ => rfl)
    (h_bank : m.testBit 307 = false → t.bank = s.bank := by exact fun _ => rfl)
    (h_led : m.testBit 308 = false → t.led = s.led := by exact fun _ => rfl)
    (h_fold : m.testBit 309 = false → t.fold = s.fold := by exact fun _ => rfl)
    (h_lch : m.testBit 310 = false → t.lch = s.lch := by exact fun _ => rfl)
    (h_inp : m.testBit 311 = false → t.inp = s.inp := by exact fun _ => rfl)
    (h_rdata : m.testBit 312 = false → t.rdata = s.rdata := by exact fun _ => rfl)
    (h_can : m.testBit 313 = false → t.can = s.can := by exact fun _ => rfl)
    (h_lin : m.testBit 314 = false → t.lin = s.lin := by exact fun _ => rfl)
    (h_eth : m.testBit 315 = false → t.eth = s.eth := by exact fun _ => rfl)
    (h_nm : m.testBit 316 = false → t.nm = s.nm := by exact fun _ => rfl)
    (h_pwr : m.testBit 317 = false → t.pwr = s.pwr := by exact fun _ => rfl)
    (h_twn : m.testBit 318 = false → t.twn = s.twn := by exact fun _ => rfl)
    (h_key : m.testBit 319 = false → t.key = s.key := by exact fun _ => rfl)
    (h_cal : m.testBit 320 = false → t.cal = s.cal := by exact fun _ => rfl)
    (h_spi : m.testBit 321 = false → t.spi = s.spi := by exact fun _ => rfl)
    (h_mgmt : m.testBit 322 = false → t.mgmt = s.mgmt := by exact fun _ => rfl)
    (h_mgmtTag : m.testBit 323 = false → t.mgmtTag = s.mgmtTag := by exact fun _ => rfl) : Fr m s₀ t where
  pending := hp.trans h.pending
  variant := hv.trans h.variant
  wf w := by rw [hmm]; exact h.wf w
  regs r b := by exact no (ha r.reg) b
  mem b := hmm.trans (h.mem b)
  tb b := (h_tb b).trans (h.tb b)
  free b := (h_free b).trans (h.free b)
  sys b := (h_sys b).trans (h.sys b)
  outs b := (h_outs b).trans (h.outs b)
  cat b := (h_cat b).trans (h.cat b)
  fab b := (h_fab b).trans (h.fab b)
  doc b := (h_doc b).trans (h.doc b)
  memx b := (h_memx b).trans (h.memx b)
  flt b := (h_flt b).trans (h.flt b)
  trips b := (h_trips b).trans (h.trips b)
  buckets b := (h_buckets b).trans (h.buckets b)
  hsw b := (h_hsw b).trans (h.hsw b)
  hbr b := (h_hbr b).trans (h.hbr b)
  coil b := (h_coil b).trans (h.coil b)
  bank b := (h_bank b).trans (h.bank b)
  led b := (h_led b).trans (h.led b)
  fold b := (h_fold b).trans (h.fold b)
  lch b := (h_lch b).trans (h.lch b)
  inp b := (h_inp b).trans (h.inp b)
  rdata b := (h_rdata b).trans (h.rdata b)
  can b := (h_can b).trans (h.can b)
  lin b := (h_lin b).trans (h.lin b)
  eth b := (h_eth b).trans (h.eth b)
  nm b := (h_nm b).trans (h.nm b)
  pwr b := (h_pwr b).trans (h.pwr b)
  twn b := (h_twn b).trans (h.twn b)
  key b := (h_key b).trans (h.key b)
  cal b := (h_cal b).trans (h.cal b)
  spi b := (h_spi b).trans (h.spi b)
  mgmt b := (h_mgmt b).trans (h.mgmt b)
  mgmtTag b := (h_mgmtTag b).trans (h.mgmtTag b)

/-- The goal of a match on a pair: what `p` does carries over to the state it binds. -/
theorem cutp {α : Type} {p : α × State} {x : α} {t u : State} (e : p = (x, t)) (h : Fr m s₀ p.2)
    (k : Fr m s₀ t → Fr m s₀ u) : Fr m s₀ u := k (pr h e)

theorem cutp2 {α β : Type} {p : α × State} {x : α} {t : State} {u : β × State} (e : p = (x, t)) (h : Fr m s₀ p.2)
    (k : Fr m s₀ t → Fr m s₀ u.2) : Fr m s₀ u.2 := k (pr h e)

/-- An update of the register table as a whole. -/
theorem set_regs {x} (ha : ∀ r : Reg, m.testBit r.ctorIdx = true) (h : Fr m s₀ s) : Fr m s₀ { s with regs := x } :=
  ⟨h.pending, h.variant, h.wf, fun r hr => no (ha r.reg) hr, h.mem, h.tb, h.free, h.sys, h.outs, h.cat, h.fab, h.doc, h.memx,
    h.flt, h.trips, h.buckets, h.hsw, h.hbr, h.coil, h.bank, h.led, h.fold, h.lch, h.inp, h.rdata, h.can, h.lin, h.eth, h.nm,
    h.pwr, h.twn, h.key, h.cal, h.spi, h.mgmt, h.mgmtTag⟩

/-! One lemma for each part of the state. -/

theorem set_tb {x} (hb : m.testBit 293 = true) (h : Fr m s₀ s) : Fr m s₀ { s with tb := x } :=
  ⟨h.pending, h.variant, h.wf, h.regs, h.mem, no hb, h.free, h.sys, h.outs, h.cat, h.fab, h.doc, h.memx, h.flt, h.trips,
    h.buckets, h.hsw, h.hbr, h.coil, h.bank, h.led, h.fold, h.lch, h.inp, h.rdata, h.can, h.lin, h.eth, h.nm, h.pwr, h.twn,
    h.key, h.cal, h.spi, h.mgmt, h.mgmtTag⟩
theorem set_free {x} (hb : m.testBit 294 = true) (h : Fr m s₀ s) : Fr m s₀ { s with free := x } :=
  ⟨h.pending, h.variant, h.wf, h.regs, h.mem, h.tb, no hb, h.sys, h.outs, h.cat, h.fab, h.doc, h.memx, h.flt, h.trips,
    h.buckets, h.hsw, h.hbr, h.coil, h.bank, h.led, h.fold, h.lch, h.inp, h.rdata, h.can, h.lin, h.eth, h.nm, h.pwr, h.twn,
    h.key, h.cal, h.spi, h.mgmt, h.mgmtTag⟩
theorem set_sys {x} (hb : m.testBit 295 = true) (h : Fr m s₀ s) : Fr m s₀ { s with sys := x } :=
  ⟨h.pending, h.variant, h.wf, h.regs, h.mem, h.tb, h.free, no hb, h.outs, h.cat, h.fab, h.doc, h.memx, h.flt, h.trips,
    h.buckets, h.hsw, h.hbr, h.coil, h.bank, h.led, h.fold, h.lch, h.inp, h.rdata, h.can, h.lin, h.eth, h.nm, h.pwr, h.twn,
    h.key, h.cal, h.spi, h.mgmt, h.mgmtTag⟩
theorem set_outs {x} (hb : m.testBit 296 = true) (h : Fr m s₀ s) : Fr m s₀ { s with outs := x } :=
  ⟨h.pending, h.variant, h.wf, h.regs, h.mem, h.tb, h.free, h.sys, no hb, h.cat, h.fab, h.doc, h.memx, h.flt, h.trips,
    h.buckets, h.hsw, h.hbr, h.coil, h.bank, h.led, h.fold, h.lch, h.inp, h.rdata, h.can, h.lin, h.eth, h.nm, h.pwr, h.twn,
    h.key, h.cal, h.spi, h.mgmt, h.mgmtTag⟩
theorem set_cat {x} (hb : m.testBit 297 = true) (h : Fr m s₀ s) : Fr m s₀ { s with cat := x } :=
  ⟨h.pending, h.variant, h.wf, h.regs, h.mem, h.tb, h.free, h.sys, h.outs, no hb, h.fab, h.doc, h.memx, h.flt, h.trips,
    h.buckets, h.hsw, h.hbr, h.coil, h.bank, h.led, h.fold, h.lch, h.inp, h.rdata, h.can, h.lin, h.eth, h.nm, h.pwr, h.twn,
    h.key, h.cal, h.spi, h.mgmt, h.mgmtTag⟩
theorem set_fab {x} (hb : m.testBit 298 = true) (h : Fr m s₀ s) : Fr m s₀ { s with fab := x } :=
  ⟨h.pending, h.variant, h.wf, h.regs, h.mem, h.tb, h.free, h.sys, h.outs, h.cat, no hb, h.doc, h.memx, h.flt, h.trips,
    h.buckets, h.hsw, h.hbr, h.coil, h.bank, h.led, h.fold, h.lch, h.inp, h.rdata, h.can, h.lin, h.eth, h.nm, h.pwr, h.twn,
    h.key, h.cal, h.spi, h.mgmt, h.mgmtTag⟩
theorem set_doc {x} (hb : m.testBit 299 = true) (h : Fr m s₀ s) : Fr m s₀ { s with doc := x } :=
  ⟨h.pending, h.variant, h.wf, h.regs, h.mem, h.tb, h.free, h.sys, h.outs, h.cat, h.fab, no hb, h.memx, h.flt, h.trips,
    h.buckets, h.hsw, h.hbr, h.coil, h.bank, h.led, h.fold, h.lch, h.inp, h.rdata, h.can, h.lin, h.eth, h.nm, h.pwr, h.twn,
    h.key, h.cal, h.spi, h.mgmt, h.mgmtTag⟩
theorem set_memx {x} (hb : m.testBit 300 = true) (h : Fr m s₀ s) : Fr m s₀ { s with memx := x } :=
  ⟨h.pending, h.variant, h.wf, h.regs, h.mem, h.tb, h.free, h.sys, h.outs, h.cat, h.fab, h.doc, no hb, h.flt, h.trips,
    h.buckets, h.hsw, h.hbr, h.coil, h.bank, h.led, h.fold, h.lch, h.inp, h.rdata, h.can, h.lin, h.eth, h.nm, h.pwr, h.twn,
    h.key, h.cal, h.spi, h.mgmt, h.mgmtTag⟩
theorem set_flt {x} (hb : m.testBit 301 = true) (h : Fr m s₀ s) : Fr m s₀ { s with flt := x } :=
  ⟨h.pending, h.variant, h.wf, h.regs, h.mem, h.tb, h.free, h.sys, h.outs, h.cat, h.fab, h.doc, h.memx, no hb, h.trips,
    h.buckets, h.hsw, h.hbr, h.coil, h.bank, h.led, h.fold, h.lch, h.inp, h.rdata, h.can, h.lin, h.eth, h.nm, h.pwr, h.twn,
    h.key, h.cal, h.spi, h.mgmt, h.mgmtTag⟩
theorem set_trips {x} (hb : m.testBit 302 = true) (h : Fr m s₀ s) : Fr m s₀ { s with trips := x } :=
  ⟨h.pending, h.variant, h.wf, h.regs, h.mem, h.tb, h.free, h.sys, h.outs, h.cat, h.fab, h.doc, h.memx, h.flt, no hb, h.buckets,
    h.hsw, h.hbr, h.coil, h.bank, h.led, h.fold, h.lch, h.inp, h.rdata, h.can, h.lin, h.eth, h.nm, h.pwr, h.twn, h.key, h.cal,
    h.spi, h.mgmt, h.mgmtTag⟩
theorem set_buckets {x} (hb : m.testBit 303 = true) (h : Fr m s₀ s) : Fr m s₀ { s with buckets := x } :=
  ⟨h.pending, h.variant, h.wf, h.regs, h.mem, h.tb, h.free, h.sys, h.outs, h.cat, h.fab, h.doc, h.memx, h.flt, h.trips, no hb,
    h.hsw, h.hbr, h.coil, h.bank, h.led, h.fold, h.lch, h.inp, h.rdata, h.can, h.lin, h.eth, h.nm, h.pwr, h.twn, h.key, h.cal,
    h.spi, h.mgmt, h.mgmtTag⟩
theorem set_hsw {x} (hb : m.testBit 304 = true) (h : Fr m s₀ s) : Fr m s₀ { s with hsw := x } :=
  ⟨h.pending, h.variant, h.wf, h.regs, h.mem, h.tb, h.free, h.sys, h.outs, h.cat, h.fab, h.doc, h.memx, h.flt, h.trips,
    h.buckets, no hb, h.hbr, h.coil, h.bank, h.led, h.fold, h.lch, h.inp, h.rdata, h.can, h.lin, h.eth, h.nm, h.pwr, h.twn,
    h.key, h.cal, h.spi, h.mgmt, h.mgmtTag⟩
theorem set_hbr {x} (hb : m.testBit 305 = true) (h : Fr m s₀ s) : Fr m s₀ { s with hbr := x } :=
  ⟨h.pending, h.variant, h.wf, h.regs, h.mem, h.tb, h.free, h.sys, h.outs, h.cat, h.fab, h.doc, h.memx, h.flt, h.trips,
    h.buckets, h.hsw, no hb, h.coil, h.bank, h.led, h.fold, h.lch, h.inp, h.rdata, h.can, h.lin, h.eth, h.nm, h.pwr, h.twn,
    h.key, h.cal, h.spi, h.mgmt, h.mgmtTag⟩
theorem set_coil {x} (hb : m.testBit 306 = true) (h : Fr m s₀ s) : Fr m s₀ { s with coil := x } :=
  ⟨h.pending, h.variant, h.wf, h.regs, h.mem, h.tb, h.free, h.sys, h.outs, h.cat, h.fab, h.doc, h.memx, h.flt, h.trips,
    h.buckets, h.hsw, h.hbr, no hb, h.bank, h.led, h.fold, h.lch, h.inp, h.rdata, h.can, h.lin, h.eth, h.nm, h.pwr, h.twn,
    h.key, h.cal, h.spi, h.mgmt, h.mgmtTag⟩
theorem set_bank {x} (hb : m.testBit 307 = true) (h : Fr m s₀ s) : Fr m s₀ { s with bank := x } :=
  ⟨h.pending, h.variant, h.wf, h.regs, h.mem, h.tb, h.free, h.sys, h.outs, h.cat, h.fab, h.doc, h.memx, h.flt, h.trips,
    h.buckets, h.hsw, h.hbr, h.coil, no hb, h.led, h.fold, h.lch, h.inp, h.rdata, h.can, h.lin, h.eth, h.nm, h.pwr, h.twn,
    h.key, h.cal, h.spi, h.mgmt, h.mgmtTag⟩
theorem set_led {x} (hb : m.testBit 308 = true) (h : Fr m s₀ s) : Fr m s₀ { s with led := x } :=
  ⟨h.pending, h.variant, h.wf, h.regs, h.mem, h.tb, h.free, h.sys, h.outs, h.cat, h.fab, h.doc, h.memx, h.flt, h.trips,
    h.buckets, h.hsw, h.hbr, h.coil, h.bank, no hb, h.fold, h.lch, h.inp, h.rdata, h.can, h.lin, h.eth, h.nm, h.pwr, h.twn,
    h.key, h.cal, h.spi, h.mgmt, h.mgmtTag⟩
theorem set_fold {x} (hb : m.testBit 309 = true) (h : Fr m s₀ s) : Fr m s₀ { s with fold := x } :=
  ⟨h.pending, h.variant, h.wf, h.regs, h.mem, h.tb, h.free, h.sys, h.outs, h.cat, h.fab, h.doc, h.memx, h.flt, h.trips,
    h.buckets, h.hsw, h.hbr, h.coil, h.bank, h.led, no hb, h.lch, h.inp, h.rdata, h.can, h.lin, h.eth, h.nm, h.pwr, h.twn,
    h.key, h.cal, h.spi, h.mgmt, h.mgmtTag⟩
theorem set_lch {x} (hb : m.testBit 310 = true) (h : Fr m s₀ s) : Fr m s₀ { s with lch := x } :=
  ⟨h.pending, h.variant, h.wf, h.regs, h.mem, h.tb, h.free, h.sys, h.outs, h.cat, h.fab, h.doc, h.memx, h.flt, h.trips,
    h.buckets, h.hsw, h.hbr, h.coil, h.bank, h.led, h.fold, no hb, h.inp, h.rdata, h.can, h.lin, h.eth, h.nm, h.pwr, h.twn,
    h.key, h.cal, h.spi, h.mgmt, h.mgmtTag⟩
theorem set_inp {x} (hb : m.testBit 311 = true) (h : Fr m s₀ s) : Fr m s₀ { s with inp := x } :=
  ⟨h.pending, h.variant, h.wf, h.regs, h.mem, h.tb, h.free, h.sys, h.outs, h.cat, h.fab, h.doc, h.memx, h.flt, h.trips,
    h.buckets, h.hsw, h.hbr, h.coil, h.bank, h.led, h.fold, h.lch, no hb, h.rdata, h.can, h.lin, h.eth, h.nm, h.pwr, h.twn,
    h.key, h.cal, h.spi, h.mgmt, h.mgmtTag⟩
theorem set_rdata {x} (hb : m.testBit 312 = true) (h : Fr m s₀ s) : Fr m s₀ { s with rdata := x } :=
  ⟨h.pending, h.variant, h.wf, h.regs, h.mem, h.tb, h.free, h.sys, h.outs, h.cat, h.fab, h.doc, h.memx, h.flt, h.trips,
    h.buckets, h.hsw, h.hbr, h.coil, h.bank, h.led, h.fold, h.lch, h.inp, no hb, h.can, h.lin, h.eth, h.nm, h.pwr, h.twn, h.key,
    h.cal, h.spi, h.mgmt, h.mgmtTag⟩
theorem set_can {x} (hb : m.testBit 313 = true) (h : Fr m s₀ s) : Fr m s₀ { s with can := x } :=
  ⟨h.pending, h.variant, h.wf, h.regs, h.mem, h.tb, h.free, h.sys, h.outs, h.cat, h.fab, h.doc, h.memx, h.flt, h.trips,
    h.buckets, h.hsw, h.hbr, h.coil, h.bank, h.led, h.fold, h.lch, h.inp, h.rdata, no hb, h.lin, h.eth, h.nm, h.pwr, h.twn,
    h.key, h.cal, h.spi, h.mgmt, h.mgmtTag⟩
theorem set_lin {x} (hb : m.testBit 314 = true) (h : Fr m s₀ s) : Fr m s₀ { s with lin := x } :=
  ⟨h.pending, h.variant, h.wf, h.regs, h.mem, h.tb, h.free, h.sys, h.outs, h.cat, h.fab, h.doc, h.memx, h.flt, h.trips,
    h.buckets, h.hsw, h.hbr, h.coil, h.bank, h.led, h.fold, h.lch, h.inp, h.rdata, h.can, no hb, h.eth, h.nm, h.pwr, h.twn,
    h.key, h.cal, h.spi, h.mgmt, h.mgmtTag⟩
theorem set_eth {x} (hb : m.testBit 315 = true) (h : Fr m s₀ s) : Fr m s₀ { s with eth := x } :=
  ⟨h.pending, h.variant, h.wf, h.regs, h.mem, h.tb, h.free, h.sys, h.outs, h.cat, h.fab, h.doc, h.memx, h.flt, h.trips,
    h.buckets, h.hsw, h.hbr, h.coil, h.bank, h.led, h.fold, h.lch, h.inp, h.rdata, h.can, h.lin, no hb, h.nm, h.pwr, h.twn,
    h.key, h.cal, h.spi, h.mgmt, h.mgmtTag⟩
theorem set_nm {x} (hb : m.testBit 316 = true) (h : Fr m s₀ s) : Fr m s₀ { s with nm := x } :=
  ⟨h.pending, h.variant, h.wf, h.regs, h.mem, h.tb, h.free, h.sys, h.outs, h.cat, h.fab, h.doc, h.memx, h.flt, h.trips,
    h.buckets, h.hsw, h.hbr, h.coil, h.bank, h.led, h.fold, h.lch, h.inp, h.rdata, h.can, h.lin, h.eth, no hb, h.pwr, h.twn,
    h.key, h.cal, h.spi, h.mgmt, h.mgmtTag⟩
theorem set_pwr {x} (hb : m.testBit 317 = true) (h : Fr m s₀ s) : Fr m s₀ { s with pwr := x } :=
  ⟨h.pending, h.variant, h.wf, h.regs, h.mem, h.tb, h.free, h.sys, h.outs, h.cat, h.fab, h.doc, h.memx, h.flt, h.trips,
    h.buckets, h.hsw, h.hbr, h.coil, h.bank, h.led, h.fold, h.lch, h.inp, h.rdata, h.can, h.lin, h.eth, h.nm, no hb, h.twn,
    h.key, h.cal, h.spi, h.mgmt, h.mgmtTag⟩
theorem set_twn {x} (hb : m.testBit 318 = true) (h : Fr m s₀ s) : Fr m s₀ { s with twn := x } :=
  ⟨h.pending, h.variant, h.wf, h.regs, h.mem, h.tb, h.free, h.sys, h.outs, h.cat, h.fab, h.doc, h.memx, h.flt, h.trips,
    h.buckets, h.hsw, h.hbr, h.coil, h.bank, h.led, h.fold, h.lch, h.inp, h.rdata, h.can, h.lin, h.eth, h.nm, h.pwr, no hb,
    h.key, h.cal, h.spi, h.mgmt, h.mgmtTag⟩
theorem set_key {x} (hb : m.testBit 319 = true) (h : Fr m s₀ s) : Fr m s₀ { s with key := x } :=
  ⟨h.pending, h.variant, h.wf, h.regs, h.mem, h.tb, h.free, h.sys, h.outs, h.cat, h.fab, h.doc, h.memx, h.flt, h.trips,
    h.buckets, h.hsw, h.hbr, h.coil, h.bank, h.led, h.fold, h.lch, h.inp, h.rdata, h.can, h.lin, h.eth, h.nm, h.pwr, h.twn, no
    hb, h.cal, h.spi, h.mgmt, h.mgmtTag⟩
theorem set_cal {x} (hb : m.testBit 320 = true) (h : Fr m s₀ s) : Fr m s₀ { s with cal := x } :=
  ⟨h.pending, h.variant, h.wf, h.regs, h.mem, h.tb, h.free, h.sys, h.outs, h.cat, h.fab, h.doc, h.memx, h.flt, h.trips,
    h.buckets, h.hsw, h.hbr, h.coil, h.bank, h.led, h.fold, h.lch, h.inp, h.rdata, h.can, h.lin, h.eth, h.nm, h.pwr, h.twn,
    h.key, no hb, h.spi, h.mgmt, h.mgmtTag⟩
theorem set_spi {x} (hb : m.testBit 321 = true) (h : Fr m s₀ s) : Fr m s₀ { s with spi := x } :=
  ⟨h.pending, h.variant, h.wf, h.regs, h.mem, h.tb, h.free, h.sys, h.outs, h.cat, h.fab, h.doc, h.memx, h.flt, h.trips,
    h.buckets, h.hsw, h.hbr, h.coil, h.bank, h.led, h.fold, h.lch, h.inp, h.rdata, h.can, h.lin, h.eth, h.nm, h.pwr, h.twn,
    h.key, h.cal, no hb, h.mgmt, h.mgmtTag⟩
theorem set_mgmt {x} (hb : m.testBit 322 = true) (h : Fr m s₀ s) : Fr m s₀ { s with mgmt := x } :=
  ⟨h.pending, h.variant, h.wf, h.regs, h.mem, h.tb, h.free, h.sys, h.outs, h.cat, h.fab, h.doc, h.memx, h.flt, h.trips,
    h.buckets, h.hsw, h.hbr, h.coil, h.bank, h.led, h.fold, h.lch, h.inp, h.rdata, h.can, h.lin, h.eth, h.nm, h.pwr, h.twn,
    h.key, h.cal, h.spi, no hb, h.mgmtTag⟩
theorem set_mgmtTag {x} (hb : m.testBit 323 = true) (h : Fr m s₀ s) : Fr m s₀ { s with mgmtTag := x } :=
  ⟨h.pending, h.variant, h.wf, h.regs, h.mem, h.tb, h.free, h.sys, h.outs, h.cat, h.fab, h.doc, h.memx, h.flt, h.trips,
    h.buckets, h.hsw, h.hbr, h.coil, h.bank, h.led, h.fold, h.lch, h.inp, h.rdata, h.can, h.lin, h.eth, h.nm, h.pwr, h.twn,
    h.key, h.cal, h.spi, h.mgmt, no hb⟩

end Fr

/-! ## The two operations that write registers, and the two that write memory -/

theorem Tbl.get_set_ne {κ α : Type} [DecidableEq κ] {k k' : κ} (hk : k' ≠ k) (t : Tbl κ α) (v d : α) :
    Tbl.get (Tbl.set t k v) k' d = Tbl.get t k' d := by
  induction t with
  | nil => simp [Tbl.set, Tbl.get, Ne.symm hk]
  | cons p t ih =>
    obtain ⟨a, b⟩ := p
    unfold Tbl.set
    split
    case isTrue h => subst h; simp [Tbl.get, Ne.symm hk]
    case isFalse h => simp [Tbl.get, ih]

theorem Tbl.get_set_self {κ α : Type} [DecidableEq κ] (t : Tbl κ α) (k : κ) (v d : α) : Tbl.get (Tbl.set t k v) k d = v := by
  induction t with
  | nil => simp [Tbl.set, Tbl.get]
  | cons p t ih =>
    obtain ⟨a, b⟩ := p
    unfold Tbl.set
    split
    case isTrue h => simp [Tbl.get]
    case isFalse h => simp [Tbl.get, h, ih]

theorem State.setReg_fr {m : Nat} {s₀ s : State} {r : RegRef} (hr : m.testBit r.reg.ctorIdx = true) (h : Fr m s₀ s) {w : Word} :
    Fr m s₀ (s.setReg r w) where
  pending := h.pending
  variant := h.variant
  wf := h.wf
  regs q b := by
    rw [← h.regs q b]
    have : q ≠ r := fun e => by subst e; simp [hr] at b
    exact Tbl.get_set_ne this s.regs w _
  mem := h.mem
  tb := h.tb
  free := h.free
  sys := h.sys
  outs := h.outs
  cat := h.cat
  fab := h.fab
  doc := h.doc
  memx := h.memx
  flt := h.flt
  trips := h.trips
  buckets := h.buckets
  hsw := h.hsw
  hbr := h.hbr
  coil := h.coil
  bank := h.bank
  led := h.led
  fold := h.fold
  lch := h.lch
  inp := h.inp
  rdata := h.rdata
  can := h.can
  lin := h.lin
  eth := h.eth
  nm := h.nm
  pwr := h.pwr
  twn := h.twn
  key := h.key
  cal := h.cal
  spi := h.spi
  mgmt := h.mgmt
  mgmtTag := h.mgmtTag

theorem State.setByte_fr {m : Nat} (hm : m.testBit 292 = true) {s₀ s : State} (h : Fr m s₀ s) {a : Nat} {b : Byte} :
    Fr m s₀ (s.setByte a b) where
  pending := h.pending
  variant := h.variant
  wf w := Memory.wf_set a b (h.wf w)
  regs := h.regs
  mem := Fr.no hm
  tb := h.tb
  free := h.free
  sys := h.sys
  outs := h.outs
  cat := h.cat
  fab := h.fab
  doc := h.doc
  memx := h.memx
  flt := h.flt
  trips := h.trips
  buckets := h.buckets
  hsw := h.hsw
  hbr := h.hbr
  coil := h.coil
  bank := h.bank
  led := h.led
  fold := h.fold
  lch := h.lch
  inp := h.inp
  rdata := h.rdata
  can := h.can
  lin := h.lin
  eth := h.eth
  nm := h.nm
  pwr := h.pwr
  twn := h.twn
  key := h.key
  cal := h.cal
  spi := h.spi
  mgmt := h.mgmt
  mgmtTag := h.mgmtTag

theorem State.clearMem_fr {m : Nat} (hm : m.testBit 292 = true) {s₀ s : State} (h : Fr m s₀ s) {a b : Nat} :
    Fr m s₀ (s.clearMem a b) where
  pending := h.pending
  variant := h.variant
  wf w := Memory.wf_clear a b (h.wf w)
  regs := h.regs
  mem := Fr.no hm
  tb := h.tb
  free := h.free
  sys := h.sys
  outs := h.outs
  cat := h.cat
  fab := h.fab
  doc := h.doc
  memx := h.memx
  flt := h.flt
  trips := h.trips
  buckets := h.buckets
  hsw := h.hsw
  hbr := h.hbr
  coil := h.coil
  bank := h.bank
  led := h.led
  fold := h.fold
  lch := h.lch
  inp := h.inp
  rdata := h.rdata
  can := h.can
  lin := h.lin
  eth := h.eth
  nm := h.nm
  pwr := h.pwr
  twn := h.twn
  key := h.key
  cal := h.cal
  spi := h.spi
  mgmt := h.mgmt
  mgmtTag := h.mgmtTag

end Sys2Proof.Machine
end

