-- ==== Sys2Proof/Laws/FrameOps.lean ====
section
/-! SUPPORT. Frames (Laws/Frame.lean) of the functions of Machine/Ops.lean: one lemma for each, which says by its mask which
registers and which parts of the state the function may change. -/

namespace Sys2Proof.Machine

variable {m : Nat} {s₀ s : State}

theorem State.put_fr {a1 : Fld} {a2 a3 a4 a5} (hm : 0x0 ||| m = m) (hp1 : m.testBit a1.reg.ctorIdx = true) (h : Fr m s₀ s) :
    Fr m s₀ (State.put s a1 a2 a3 a4 a5) := by
  unfold State.put
  refine State.setReg_fr hp1 ?_
  exact h

theorem State.flag_fr {a1 : Fld} {a2 a3 a4 a5} (hm : 0x0 ||| m = m) (hp1 : m.testBit a1.reg.ctorIdx = true) (h : Fr m s₀ s) :
    Fr m s₀ (State.flag s a1 a2 a3 a4 a5) := by
  unfold State.flag
  refine State.put_fr (Fr.sub hm rfl) hp1 ?_
  exact h

theorem State.setBytes_fr {a1 a2}
    (hm : 0x10000000000000000000000000000000000000000000000000000000000000000000000000 ||| m = m) (h : Fr m s₀ s) :
    Fr m s₀ (State.setBytes s a1 a2) := by
  induction a2 generalizing s a1 with
  | nil => exact h
  | cons b bs ih => exact ih (State.setByte_fr (Fr.bit hm rfl) h)

theorem State.takeFree_fr (hm : 0x40000000000000000000000000000000000000000000000000000000000000000000000000 ||| m = m) (h :
    Fr m s₀ s) : Fr m s₀ (State.takeFree s).2 := by
  unfold State.takeFree
  refine Fr.mk2 ?_
  refine Fr.set_free (Fr.bit hm rfl) ?_
  exact h

theorem State.setWord_fr {a1 a2} (hm : 0x10000000000000000000000000000000000000000000000000000000000000000000000000 ||| m = m)
    (h : Fr m s₀ s) : Fr m s₀ (State.setWord s a1 a2) := by
  unfold State.setWord
  refine State.setBytes_fr (Fr.sub hm rfl) ?_
  exact h

theorem State.raise_fr {a1 a2 a3 a4}
    (hm : 0x2000000000000000000000000000000000000000000000000000000000000000000000000000 ||| m = m) (h : Fr m s₀ s) :
    Fr m s₀ (State.raise s a1 a2 a3 a4) := by
  unfold State.raise
  refine Fr.set_flt (Fr.bit hm rfl) ?_
  exact h

theorem State.count_fr {a1 : Fld} {a2 a3 a4} (hm : 0x0 ||| m = m) (hp1 : m.testBit a1.reg.ctorIdx = true) (h : Fr m s₀ s) :
    Fr m s₀ (State.count s a1 a2 a3 a4) := by
  unfold State.count
  refine State.put_fr (Fr.sub hm rfl) hp1 ?_
  exact h

theorem State.wrap_fr {a1 : Fld} {a2 a3 a4} (hm : 0x0 ||| m = m) (hp1 : m.testBit a1.reg.ctorIdx = true) (h : Fr m s₀ s) :
    Fr m s₀ (State.wrap s a1 a2 a3 a4) := by
  unfold State.wrap
  refine State.put_fr (Fr.sub hm rfl) hp1 ?_
  exact h

theorem State.raiseCond_fr {a1 a2 a3 a4}
    (hm : 0x2000000000000000000000000000000000000000000000000000000000000000000000000000 ||| m = m) (h : Fr m s₀ s) :
    Fr m s₀ (State.raiseCond s a1 a2 a3 a4) := by
  unfold State.raiseCond
  refine Fr.set_flt (Fr.bit hm rfl) ?_
  exact h

theorem State.setActive_fr {a1}
    (hm : 0x2000000000000000010000000000000000000000000000000000000000000000000000000000 ||| m = m) (h : Fr m s₀ s) :
    Fr m s₀ (State.setActive s a1) := by
  unfold State.setActive
  refine State.put_fr (Fr.sub hm rfl) (Fr.bit hm rfl) ?_
  refine Fr.set_flt (Fr.bit hm rfl) ?_
  exact h

theorem State.clearSrc_fr {a1 a2 a3}
    (hm : 0x2000000000000000010000000000000000000000000000000000000000000000000000000000 ||| m = m) (h : Fr m s₀ s) :
    Fr m s₀ (State.clearSrc s a1 a2 a3) := by
  unfold State.clearSrc
  extract_lets +onlyGivenNames x0
  clear_value x0
  extract_lets +onlyGivenNames x1
  clear_value x1
  refine State.setActive_fr (Fr.sub hm rfl) ?_
  refine Fr.set_flt (Fr.bit hm rfl) ?_
  exact h

theorem State.sput_fr {a1 : Fld} {a2 a3 a4 a5} (hm : 0x0 ||| m = m) (hp1 : m.testBit a1.reg.ctorIdx = true) (h : Fr m s₀ s) :
    Fr m s₀ (State.sput s a1 a2 a3 a4 a5) := by
  unfold State.sput
  refine State.put_fr (Fr.sub hm rfl) hp1 ?_
  exact h

theorem State.takeFrees_fr {a1} (hm : 0x40000000000000000000000000000000000000000000000000000000000000000000000000 ||| m = m)
    (h : Fr m s₀ s) : Fr m s₀ (State.takeFrees s a1).2 := by
  unfold State.takeFrees
  refine Fr.mk2 ?_
  refine Fr.set_free (Fr.bit hm rfl) ?_
  exact h

theorem State.hold_fr {a1 a2 a3 a4}
    (hm : 0x2000000000000000000000000000000000000000000000000000000000000000000000000000 ||| m = m) (h : Fr m s₀ s) :
    Fr m s₀ (State.hold s a1 a2 a3 a4) := by
  unfold State.hold
  refine Fr.ite ?_ ?_
  · exact h
  · refine State.raiseCond_fr (Fr.sub hm rfl) ?_
    exact h

end Sys2Proof.Machine
end

