-- ==== Sys2Proof/Laws/FrameCtx.lean ====
section
/-! SUPPORT. Frames (Laws/Frame.lean) of the functions of Machine/Ctx.lean: one lemma for each, which says by its mask which
registers and which parts of the state the function may change. -/

namespace Sys2Proof.Machine

variable {m : Nat} {s₀ s : State}

theorem State.setCtx_fr {a1 a2} (hm : 0x800000000000000000000000000000000000000000000000000000000000000000000000000 ||| m = m)
    (h : Fr m s₀ s) : Fr m s₀ (State.setCtx s a1 a2) := by
  unfold State.setCtx
  refine Fr.set_doc (Fr.bit hm rfl) ?_
  exact h

theorem State.setRcd_fr {a1 a2} (hm : 0x800000000000000000000000000000000000000000000000000000000000000000000000000 ||| m = m)
    (h : Fr m s₀ s) : Fr m s₀ (State.setRcd s a1 a2) := by
  unfold State.setRcd
  refine State.setCtx_fr (Fr.sub hm rfl) ?_
  exact h

theorem State.setPort_fr {a1 a2 a3}
    (hm : 0x800000000000000000000000000000000000000000000000000000000000000000000000000 ||| m = m) (h : Fr m s₀ s) :
    Fr m s₀ (State.setPort s a1 a2 a3) := by
  unfold State.setPort
  refine State.setRcd_fr (Fr.sub hm rfl) ?_
  exact h

theorem State.pwrsv_fr {a1} (hm : 0x800000000000000000000000000000000000000000000000000000000000000000000000000 ||| m = m) (h :
    Fr m s₀ s) : Fr m s₀ (State.pwrsv s a1) := by
  unfold State.pwrsv
  refine State.setPort_fr (Fr.sub hm rfl) ?_
  exact h

theorem State.reserved_fr {a1}
    (hm : 0x200000800000000000000000000000000000000000000000000000000000000000000000000000000 ||| m = m) (h : Fr m s₀ s) :
    Fr m s₀ (State.reserved s a1) := by
  unfold State.reserved
  split
  · refine Fr.set_spi (Fr.bit hm rfl) ?_
    exact h
  · refine State.pwrsv_fr (Fr.sub hm rfl) ?_
    exact h

theorem State.setCst_fr {a1 a2} (hm : 0x800000000000000000000000000000000000000 ||| m = m) (h : Fr m s₀ s) :
    Fr m s₀ (State.setCst s a1 a2) := by
  unfold State.setCst
  refine State.put_fr (Fr.sub hm rfl) (Fr.bit hm rfl) ?_
  exact h

theorem State.setCore_fr {a1 a2}
    (hm : 0x800000000000000000000000000000000000000000000000000000000000000000000000000 ||| m = m) (h : Fr m s₀ s) :
    Fr m s₀ (State.setCore s a1 a2) := by
  unfold State.setCore
  refine Fr.set_doc (Fr.bit hm rfl) ?_
  exact h

theorem State.asWho_fr {a1 a2} {a3 : Sys2Proof.Machine.State → Sys2Proof.Machine.State}
    (hm : 0x200000800000000000000000000000000000000000000000000000000000000000000000000000000 ||| m = m)
    (hf3 : ∀ s, Fr m s₀ s → Fr m s₀ (a3 s)) (h : Fr m s₀ s) : Fr m s₀ (State.asWho s a1 a2 a3) := by
  unfold State.asWho
  refine Fr.ite ?_ ?_
  · refine hf3 _ ?_
    exact h
  · split
    · refine Fr.ite ?_ ?_
      · refine State.reserved_fr (Fr.sub hm rfl) ?_
        exact h
      · exact h
    · exact h

theorem State.dpbusy_fr {a1} (hm : 0x800000000000000000000000000000000000000000000000000000000000000000000000000 ||| m = m) (h :
    Fr m s₀ s) : Fr m s₀ (State.dpbusy s a1) := by
  unfold State.dpbusy
  refine State.setPort_fr (Fr.sub hm rfl) ?_
  exact h

theorem State.ptmo_fr {a1} (hm : 0x800000000000000000000000000000000000000000000000000000000000000000000000000 ||| m = m) (h :
    Fr m s₀ s) : Fr m s₀ (State.ptmo s a1) := by
  unfold State.ptmo
  refine State.setPort_fr (Fr.sub hm rfl) ?_
  exact h

theorem State.unsealed_fr {a1 : Sys2Proof.Machine.State → Sys2Proof.Machine.State}
    (hm : 0x200000800000000000000000000000000000000000000000000000000000000000000000000000000 ||| m = m)
    (hf1 : ∀ s, Fr m s₀ s → Fr m s₀ (a1 s)) (h : Fr m s₀ s) : Fr m s₀ (State.unsealed s a1) := by
  unfold State.unsealed
  refine Fr.ite ?_ ?_
  · refine State.reserved_fr (Fr.sub hm rfl) ?_
    exact h
  · refine hf1 _ ?_
    exact h

end Sys2Proof.Machine
end

