-- ==== Sys2Proof/Laws/FrameCanQueue.lean ====
section
/-! SUPPORT. Frames (Laws/Frame.lean) of the functions of Machine/CanQueue.lean: one lemma for each, which says by its mask which
registers and which parts of the state the function may change. -/

namespace Sys2Proof.Machine

variable {m : Nat} {s₀ s : State}

theorem State.setCp_fr {a1 a2}
    (hm : 0x2000000000000000000000000000000000000000000000000000000000000000000000000000000 ||| m = m) (h : Fr m s₀ s) :
    Fr m s₀ (State.setCp s a1 a2) := by
  unfold State.setCp
  refine Fr.set_can (Fr.bit hm rfl) ?_
  exact h

theorem State.setCq_fr {a1 a2 a3}
    (hm : 0x2000000000000000000000000000000000000000000000000000000000000000000000000000000 ||| m = m) (h : Fr m s₀ s) :
    Fr m s₀ (State.setCq s a1 a2 a3) := by
  unfold State.setCq
  refine State.setCp_fr (Fr.sub hm rfl) ?_
  exact h

theorem State.dropReader_fr {a1}
    (hm : 0x2000000000000000000000000000000000020000000000000000000000000000000000000000000 ||| m = m) (h : Fr m s₀ s) :
    Fr m s₀ (State.dropReader s a1) := by
  unfold State.dropReader
  refine Fr.forEach ?_ ?_
  · intro h0 s1 h2
    refine Fr.forEach ?_ ?_
    · intro h3 s4 h5
      refine Fr.ite ?_ ?_
      · refine State.flag_fr (Fr.sub hm rfl) (Fr.bit hm rfl) ?_
        refine State.setCq_fr (Fr.sub hm rfl) ?_
        exact h5
      · exact h5
    · exact h2
  · exact h

theorem State.canQsync_fr {a1 a2} (hm : 0x20000000000000000000000000000000000000000000 ||| m = m) (h : Fr m s₀ s) :
    Fr m s₀ (State.canQsync s a1 a2) := by
  unfold State.canQsync
  extract_lets +onlyGivenNames x0
  clear_value x0
  extract_lets +onlyGivenNames x1
  clear_value x1
  refine State.put_fr (Fr.sub hm rfl) (Fr.bit hm rfl) ?_
  refine State.flag_fr (Fr.sub hm rfl) (Fr.bit hm rfl) ?_
  refine State.put_fr (Fr.sub hm rfl) (Fr.bit hm rfl) ?_
  exact h

theorem State.canDrop_fr {a1 a2}
    (hm : 0x2000000000000000000000000000000000020000000000000000000000000000000000000000000 ||| m = m) (h : Fr m s₀ s) :
    Fr m s₀ (State.canDrop s a1 a2) := by
  unfold State.canDrop
  extract_lets +onlyGivenNames x0
  clear_value x0
  refine State.canQsync_fr (Fr.sub hm rfl) ?_
  refine State.flag_fr (Fr.sub hm rfl) (Fr.bit hm rfl) ?_
  refine State.setCq_fr (Fr.sub hm rfl) ?_
  exact h

theorem State.canPop_fr {a1 a2 a3}
    (hm : 0x2000000000000000000000000000000000020000000000000000000000000000000000000000000 ||| m = m) (h : Fr m s₀ s) :
    Fr m s₀ (State.canPop s a1 a2 a3) := by
  unfold State.canPop
  refine Fr.ite ?_ ?_
  · exact h
  · split
    · refine Fr.ite ?_ ?_
      · refine State.flag_fr (Fr.sub hm rfl) (Fr.bit hm rfl) ?_
        exact h
      · exact h
    · refine Fr.ite ?_ ?_
      · refine State.flag_fr (Fr.sub hm rfl) (Fr.bit hm rfl) ?_
        exact h
      · refine State.canDrop_fr (Fr.sub hm rfl) ?_
        exact h

theorem State.canSetRecs_fr {a1 a2 a3}
    (hm : 0x2000000000000000000000000000000000020000000000000000000000000000000000000000000 ||| m = m) (h : Fr m s₀ s) :
    Fr m s₀ (State.canSetRecs s a1 a2 a3) := by
  unfold State.canSetRecs
  extract_lets +onlyGivenNames x0
  clear_value x0
  extract_lets +onlyGivenNames x1
  clear_value x1
  refine State.canQsync_fr (Fr.sub hm rfl) ?_
  refine State.setCq_fr (Fr.sub hm rfl) ?_
  exact h

theorem State.canRead_fr {a1 a2 a3}
    (hm : 0x202000800000000000000000000000000000020000000000000000000000000000000000000000000 ||| m = m) (h : Fr m s₀ s) :
    Fr m s₀ (State.canRead s a1 a2 a3).2 := by
  unfold State.canRead
  refine Fr.ite2 ?_ ?_
  · refine Fr.mk2 ?_
    refine State.reserved_fr (Fr.sub hm rfl) ?_
    exact h
  · extract_lets +onlyGivenNames x0
    clear_value x0
    split
    · refine Fr.mk2 ?_
      exact h
    · extract_lets +onlyGivenNames x1
      clear_value x1
      extract_lets +onlyGivenNames x2
      refine Fr.ite2 ?_ ?_
      · refine Fr.mk2 ?_
        refine State.setCq_fr (Fr.sub hm rfl) ?_
        exact h
      · refine Fr.ite2 ?_ ?_
        · refine Fr.mk2 ?_
          refine State.canDrop_fr (Fr.sub hm rfl) ?_
          exact h
        · refine Fr.mk2 ?_
          refine State.flag_fr (Fr.sub hm rfl) (Fr.bit hm rfl) ?_
          refine State.setCq_fr (Fr.sub hm rfl) ?_
          exact h

end Sys2Proof.Machine
end

