-- ==== Sys2Proof/Laws/FrameTwinTx.lean ====
section
/-! SUPPORT. Frames (Laws/Frame.lean) of the functions of Machine/TwinTx.lean: one lemma for each, which says by its mask which
registers and which parts of the state the function may change. -/

namespace Sys2Proof.Machine

variable {m : Nat} {s₀ s : State}

theorem State.twinSend_fr {a1 a2}
    (hm : 0x40000000000000000000000000000000000000000000000000000000000000000000000000000000 ||| m = m) (h : Fr m s₀ s) :
    Fr m s₀ (State.twinSend s a1 a2) := by
  unfold State.twinSend
  refine Fr.set_twn (Fr.bit hm rfl) ?_
  exact h

theorem State.dropTwok_fr (hm : 0x10000000000000000000000000000000000000000000000000000000000000000 ||| m = m) (h : Fr m s₀ s) :
    Fr m s₀ (State.dropTwok s) := by
  unfold State.dropTwok
  refine State.flag_fr (Fr.sub hm rfl) (Fr.bit hm rfl) ?_
  exact h

theorem State.ship_fr {a0} (hm : 0x40000000000000000000000000000000000000000000000000000000000000000000000000000000 ||| m = m)
    (h : Fr m s₀ s) : Fr m s₀ (State.ship a0 s) := by
  unfold State.ship
  refine Fr.set_twn (Fr.bit hm rfl) ?_
  exact h

end Sys2Proof.Machine
end

