-- ==== Sys2Proof/Laws/FrameFabric.lean ====
section
/-! SUPPORT. Frames (Laws/Frame.lean) of the functions of Machine/Fabric.lean: one lemma for each, which says by its mask which
registers and which parts of the state the function may change. -/

namespace Sys2Proof.Machine

variable {m : Nat} {s₀ s : State}

theorem State.lwFall_fr (hm : 0x10000000000000000000000000000000000000000000000000000000000000000000000000000000 ||| m = m) (h :
    Fr m s₀ s) : Fr m s₀ (State.lwFall s) := by
  unfold State.lwFall
  refine Fr.ite ?_ ?_
  · exact h
  · refine Fr.set_nm (Fr.bit hm rfl) ?_
    exact h

theorem State.puPresc_fr {a1 a2}
    (hm : 0x400000000000000000000000000000000000000000000000000000000000000000000000000 ||| m = m) (h : Fr m s₀ s) :
    Fr m s₀ (State.puPresc s a1 a2) := by
  unfold State.puPresc
  refine Fr.set_fab (Fr.bit hm rfl) ?_
  exact h

theorem State.puTakePd_fr {a1} (hm : 0x400000000000000000000000000000000000000000000000000000000000000000080000000 ||| m = m)
    (h : Fr m s₀ s) : Fr m s₀ (State.puTakePd s a1) := by
  unfold State.puTakePd
  split
  · refine State.setReg_fr (Fr.reg .PU_PD hm rfl) ?_
    refine Fr.set_fab (Fr.bit hm rfl) ?_
    exact h
  · exact h

theorem State.puRest_fr {a1} (hm : 0x400000000000000000000000000000000000000000000000000000000000000000280000000 ||| m = m) (h :
    Fr m s₀ s) : Fr m s₀ (State.puRest s a1) := by
  unfold State.puRest
  refine State.puPresc_fr (Fr.sub hm rfl) ?_
  refine State.put_fr (Fr.sub hm rfl) (Fr.bit hm rfl) ?_
  refine State.flag_fr (Fr.sub hm rfl) (Fr.bit hm rfl) ?_
  refine State.flag_fr (Fr.sub hm rfl) (Fr.bit hm rfl) ?_
  refine State.puTakePd_fr (Fr.sub hm rfl) ?_
  exact h

theorem State.gateLow_fr (hm : 0x400000000000000000000000000000000000000000000000000000000000000000280000000 ||| m = m) (h :
    Fr m s₀ s) : Fr m s₀ (State.gateLow s) := by
  unfold State.gateLow
  refine Fr.foldl ?_ ?_
  · intro s0 h1 h2
    refine Fr.ite ?_ ?_
    · extract_lets +onlyGivenNames x3
      clear_value x3
      extract_lets +onlyGivenNames x4
      have h5 : Fr m s₀ x4 := by
        unfold x4
        refine Fr.set_fab (Fr.bit hm rfl) ?_
        exact h2
      clear_value x4
      refine Fr.ite ?_ ?_
      · exact h5
      · refine State.puRest_fr (Fr.sub hm rfl) ?_
        exact h5
    · exact h2
  · exact h

theorem State.linePass_fr (hm : 0x400000000000000000000000000000000000000000000000000000000000000000000000000 ||| m = m) (h :
    Fr m s₀ s) : Fr m s₀ (State.linePass s) := by
  unfold State.linePass
  refine Fr.set_fab (Fr.bit hm rfl) ?_
  exact h

theorem State.settlePass_fr (hm : 0x400000000000000000000000000000000000000000000000000000000000000000280000000 ||| m = m) (h :
    Fr m s₀ s) : Fr m s₀ (State.settlePass s) := by
  unfold State.settlePass
  refine State.gateLow_fr (Fr.sub hm rfl) ?_
  refine State.linePass_fr (Fr.sub hm rfl) ?_
  refine State.linePass_fr (Fr.sub hm rfl) ?_
  refine State.linePass_fr (Fr.sub hm rfl) ?_
  refine State.linePass_fr (Fr.sub hm rfl) ?_
  refine State.linePass_fr (Fr.sub hm rfl) ?_
  exact h

theorem State.settleLines_fr
    (hm : 0x10000400000000000000000000000000000000000000000000000000000000000000000280000000 ||| m = m) (h : Fr m s₀ s) :
    Fr m s₀ (State.settleLines s) := by
  unfold State.settleLines
  refine Fr.ite ?_ ?_
  · exact h
  · extract_lets +onlyGivenNames x0
    clear_value x0
    extract_lets +onlyGivenNames x1
    have h2 : Fr m s₀ x1 := by
      unfold x1
      refine State.lwFall_fr (Fr.sub hm rfl) ?_
      refine State.settlePass_fr (Fr.sub hm rfl) ?_
      refine State.settlePass_fr (Fr.sub hm rfl) ?_
      refine State.settlePass_fr (Fr.sub hm rfl) ?_
      exact h
    clear_value x1
    refine Fr.set_fab (Fr.bit hm rfl) ?_
    exact h2

theorem State.lcEdge_fr {a1} (hm : 0x400000000000000000000000000000000000000000000000000000000000000000000000000 ||| m = m) (h :
    Fr m s₀ s) : Fr m s₀ (State.lcEdge s a1) := by
  unfold State.lcEdge
  extract_lets +onlyGivenNames x0
  refine Fr.set_fab (Fr.bit hm rfl) ?_
  exact h

theorem State.settle_fr (hm : 0x10000400000000000000000000000000000000000000000000000000000000000000000280000000 ||| m = m) (h :
    Fr m s₀ s) : Fr m s₀ (State.settle s) := by
  unfold State.settle
  refine Fr.ite ?_ ?_
  · refine State.settleLines_fr (Fr.sub hm rfl) ?_
    refine State.lcEdge_fr (Fr.sub hm rfl) ?_
    exact h
  · exact h

theorem State.writeLines_fr {a1}
    (hm : 0x10000400000000000000000000000000000000000000000000000000000000000000000280000000 ||| m = m) (h : Fr m s₀ s) :
    Fr m s₀ (State.writeLines s a1) := by
  unfold State.writeLines
  extract_lets +onlyGivenNames x0
  refine State.settle_fr (Fr.sub hm rfl) ?_
  refine Fr.set_fab (Fr.bit hm rfl) ?_
  exact h

theorem State.pdWrite_fr {a1 a2}
    (hm : 0x400000000000000000000000000000000000000000000000000000000000000000280000000 ||| m = m) (h : Fr m s₀ s) :
    Fr m s₀ (State.pdWrite s a1 a2) := by
  unfold State.pdWrite
  extract_lets +onlyGivenNames x0
  clear_value x0
  refine Fr.ite ?_ ?_
  · refine Fr.set_fab (Fr.bit hm rfl) ?_
    exact h
  · extract_lets +onlyGivenNames x1
    have h2 : Fr m s₀ x1 := by
      unfold x1
      refine State.setReg_fr (Fr.reg .PU_PD hm rfl) ?_
      exact h
    clear_value x1
    refine Fr.ite ?_ ?_
    · exact h2
    · refine State.put_fr (Fr.sub hm rfl) (Fr.bit hm rfl) ?_
      exact h2

theorem State.ownershipViolation_fr {a1 a2 a3}
    (hm : 0x2000000000000000000000000000000000000000000000000000000000000000000001000000 ||| m = m) (h : Fr m s₀ s) :
    Fr m s₀ (State.ownershipViolation s a1 a2 a3) := by
  unfold State.ownershipViolation
  refine State.raise_fr (Fr.sub hm rfl) ?_
  refine State.count_fr (Fr.sub hm rfl) (Fr.bit hm rfl) ?_
  refine State.flag_fr (Fr.sub hm rfl) (Fr.bit hm rfl) ?_
  refine State.put_fr (Fr.sub hm rfl) (Fr.bit hm rfl) ?_
  refine State.put_fr (Fr.sub hm rfl) (Fr.bit hm rfl) ?_
  refine State.put_fr (Fr.sub hm rfl) (Fr.bit hm rfl) ?_
  exact h

theorem State.ctxWriteLines_fr {a1 a2}
    (hm : 0x10002c00000000000000000000000000000000000000000000000000000000000000000281000000 ||| m = m) (h : Fr m s₀ s) :
    Fr m s₀ (State.ctxWriteLines s a1 a2) := by
  unfold State.ctxWriteLines
  refine Fr.ite ?_ ?_
  · exact h
  · refine Fr.ite ?_ ?_
    · refine State.pwrsv_fr (Fr.sub hm rfl) ?_
      exact h
    · split
      · refine State.ownershipViolation_fr (Fr.sub hm rfl) ?_
        exact h
      · refine State.writeLines_fr (Fr.sub hm rfl) ?_
        exact h

theorem State.runFabLwr_fr {a1 a2}
    (hm : 0x10002c00000000000000000000000000000000000000000000000000000000000000000281000000 ||| m = m) (h : Fr m s₀ s) :
    Fr m s₀ (State.runFabLwr s a1 a2) := by
  unfold State.runFabLwr
  refine Fr.ite ?_ ?_
  · refine State.pwrsv_fr (Fr.sub hm rfl) ?_
    exact h
  · refine State.ctxWriteLines_fr (Fr.sub hm rfl) ?_
    exact h

theorem State.runFabLwrg_fr {a1 a2 a3}
    (hm : 0x10002c00000000000000000000000000000000000000000000000000000000000000000281000000 ||| m = m) (h : Fr m s₀ s) :
    Fr m s₀ (State.runFabLwrg s a1 a2 a3) := by
  unfold State.runFabLwrg
  refine Fr.ite ?_ ?_
  · exact h
  · refine State.ctxWriteLines_fr (Fr.sub hm rfl) ?_
    exact h

theorem State.runPuPdWrite_fr {a1 a2 a3}
    (hm : 0x2c00000000000000000000000000000000000000000000000000000000000000000281000000 ||| m = m) (h : Fr m s₀ s) :
    Fr m s₀ (State.runPuPdWrite s a1 a2 a3) := by
  unfold State.runPuPdWrite
  refine Fr.ite ?_ ?_
  · exact h
  · refine Fr.ite ?_ ?_
    · refine State.pwrsv_fr (Fr.sub hm rfl) ?_
      exact h
    · refine Fr.ite ?_ ?_
      · refine State.pdWrite_fr (Fr.sub hm rfl) ?_
        exact h
      · refine State.ownershipViolation_fr (Fr.sub hm rfl) ?_
        exact h

theorem State.fabricStop_fr (hm : 0x481ffffffffffffffffffffffffffffffffffffffffffffffffffffffffffffffffffffffff ||| m = m) (h :
    Fr m s₀ s) : Fr m s₀ (State.fabricStop s) := by
  unfold State.fabricStop
  refine Fr.updr (Fr.all hm rfl) (s := s) (h_sys := Fr.no (Fr.bit hm rfl)) (h_fab := Fr.no (Fr.bit hm rfl)) ?_
  exact h

theorem State.lcInit_fr {a1} (hm : 0x400000000000000000000000000000000000000000000000000000000000000000000000000 ||| m = m) (h :
    Fr m s₀ s) : Fr m s₀ (State.lcInit s a1) := by
  unfold State.lcInit
  refine Fr.set_fab (Fr.bit hm rfl) ?_
  exact h

theorem State.puCount_fr {a1 a2} (hm : 0x200000000 ||| m = m) (h : Fr m s₀ s) : Fr m s₀ (State.puCount s a1 a2) := by
  unfold State.puCount
  refine State.flag_fr (Fr.sub hm rfl) (Fr.bit hm rfl) ?_
  refine State.put_fr (Fr.sub hm rfl) (Fr.bit hm rfl) ?_
  exact h

theorem State.puRestart_fr {a1} (hm : 0x400000000000000000000000000000000000000000000000000000000000000000280000000 ||| m = m)
    (h : Fr m s₀ s) : Fr m s₀ (State.puRestart s a1) := by
  unfold State.puRestart
  extract_lets +onlyGivenNames x0
  clear_value x0
  extract_lets +onlyGivenNames x1
  have h2 : Fr m s₀ x1 := by
    unfold x1
    refine Fr.set_fab (Fr.bit hm rfl) ?_
    exact h
  clear_value x1
  refine Fr.ite ?_ ?_
  · refine State.puRest_fr (Fr.sub hm rfl) ?_
    exact h2
  · refine State.puPresc_fr (Fr.sub hm rfl) ?_
    refine State.flag_fr (Fr.sub hm rfl) (Fr.bit hm rfl) ?_
    refine State.puCount_fr (Fr.sub hm rfl) ?_
    exact h2

theorem State.fabricBoundary_fr {a1 a2 a3}
    (hm : 0x10000400000000000000000000000000000000000000000000000000000000000000000280000000 ||| m = m) (h : Fr m s₀ s) :
    Fr m s₀ (State.fabricBoundary s a1 a2 a3) := by
  unfold State.fabricBoundary
  extract_lets +onlyGivenNames x0
  clear_value x0
  extract_lets +onlyGivenNames x1
  have h2 : Fr m s₀ x1 := by
    unfold x1
    refine Fr.set_fab (Fr.bit hm rfl) ?_
    exact h
  clear_value x1
  extract_lets +onlyGivenNames x3
  clear_value x3
  extract_lets +onlyGivenNames x4
  have h5 : Fr m s₀ x4 := by
    unfold x4
    refine Fr.forEach ?_ ?_
    · intro h6 s7 h8
      refine State.lcInit_fr (Fr.sub hm rfl) ?_
      exact h8
    · exact h2
  clear_value x4
  extract_lets +onlyGivenNames x9
  clear_value x9
  extract_lets +onlyGivenNames x10
  clear_value x10
  extract_lets +onlyGivenNames x11
  clear_value x11
  extract_lets +onlyGivenNames x12
  clear_value x12
  extract_lets +onlyGivenNames x13
  have h14 : Fr m s₀ x13 := by
    unfold x13
    refine Fr.set_fab (Fr.bit hm rfl) ?_
    exact h5
  clear_value x13
  extract_lets +onlyGivenNames x15
  have h16 : Fr m s₀ x15 := by
    unfold x15
    refine State.settleLines_fr (Fr.sub hm rfl) ?_
    exact h14
  clear_value x15
  refine State.settleLines_fr (Fr.sub hm rfl) ?_
  refine Fr.forEach ?_ ?_
  · intro h17 s18 h19
    refine State.puRestart_fr (Fr.sub hm rfl) ?_
    exact h19
  · exact h16

theorem State.flushEdges_fr (hm : 0x400000000000000000000000000000000000000000000000000000000000000004000000000 ||| m = m) (h :
    Fr m s₀ s) : Fr m s₀ (State.flushEdges s) := by
  unfold State.flushEdges
  refine Fr.ite ?_ ?_
  · exact h
  · extract_lets +onlyGivenNames x0
    have h1 : Fr m s₀ x0 := by
      unfold x0
      refine Fr.forEach ?_ ?_
      · intro h2 s3 h4
        refine State.wrap_fr (Fr.sub hm rfl) (Fr.bit hm rfl) ?_
        exact h4
      · exact h
    clear_value x0
    refine Fr.set_fab (Fr.bit hm rfl) ?_
    exact h1

theorem State.periodEnd_fr {a0 a1}
    (hm : 0x400000000000000000000000000000000000000000000000000000000000000000280000000 ||| m = m) (h : Fr m s₀ s) :
    Fr m s₀ (State.periodEnd a0 a1 s) := by
  induction a0 generalizing s a1 with
  | zero => exact h
  | succ n ih =>
    unfold State.periodEnd
    extract_lets +onlyGivenNames x0
    have h1 : Fr m s₀ x0 := by
      unfold x0
      refine Fr.ite ?_ ?_
      · exact State.puRest_fr (Fr.sub hm rfl) h
      · refine State.puPresc_fr (Fr.sub hm rfl) ?_
        exact State.puCount_fr (Fr.sub hm rfl) (State.puTakePd_fr (Fr.sub hm rfl) h)
    clear_value x0
    extract_lets +onlyGivenNames x2
    refine Fr.ite ?_ h1
    extract_lets +onlyGivenNames x3
    exact Fr.ite (ih h1) (State.puCount_fr (Fr.sub hm rfl) h1)

theorem State.puEdge_fr {a1} (hm : 0x400000000000000000000000000000000000000000000000000000000000000000280000000 ||| m = m) (h :
    Fr m s₀ s) : Fr m s₀ (State.puEdge s a1) := by
  unfold State.puEdge
  refine Fr.ite ?_ ?_
  · extract_lets +onlyGivenNames x0
    clear_value x0
    refine Fr.ite ?_ ?_
    · refine State.puPresc_fr (Fr.sub hm rfl) ?_
      exact h
    · extract_lets +onlyGivenNames x1
      clear_value x1
      refine Fr.ite ?_ ?_
      · refine State.puPresc_fr (Fr.sub hm rfl) ?_
        refine State.puCount_fr (Fr.sub hm rfl) ?_
        exact h
      · refine State.periodEnd_fr (Fr.sub hm rfl) ?_
        exact h
  · exact h

theorem State.fabricEdge_fr
    (hm : 0x10000400000000000000000000000000000000000000000000000000000000000000000280000000 ||| m = m) (h : Fr m s₀ s) :
    Fr m s₀ (State.fabricEdge s) := by
  unfold State.fabricEdge
  refine Fr.ite ?_ ?_
  · exact h
  · refine State.settleLines_fr (Fr.sub hm rfl) ?_
    refine Fr.forEach ?_ ?_
    · intro h0 s1 h2
      refine State.puEdge_fr (Fr.sub hm rfl) ?_
      exact h2
    · refine State.lcEdge_fr (Fr.sub hm rfl) ?_
      exact h

theorem State.reloadTime_fr (hm : 0x60000000000000000000000000000000000000000000000000000000000000000000000000 ||| m = m) (h :
    Fr m s₀ s) : Fr m s₀ (State.reloadTime s) := by
  unfold State.reloadTime
  split
  rename_i y0 y1 y2 y3
  refine Fr.cutp y3 ?_ (fun h4 => ?_)
  · refine State.takeFree_fr (Fr.sub hm rfl) ?_
    exact h
  refine Fr.set_tb (Fr.bit hm rfl) ?_
  exact h4

theorem State.fabricStart_fr
    (hm : 0x100004e1ffffffffffffffffffffffffffffffffffffffffffffffffffffffffffffffffffffffff ||| m = m) (h : Fr m s₀ s) :
    Fr m s₀ (State.fabricStart s) := by
  unfold State.fabricStart
  extract_lets +onlyGivenNames x0
  have h1 : Fr m s₀ x0 := by
    unfold x0
    refine State.reloadTime_fr (Fr.sub hm rfl) ?_
    exact h
  clear_value x0
  extract_lets +onlyGivenNames x2
  clear_value x2
  extract_lets +onlyGivenNames x3
  clear_value x3
  extract_lets +onlyGivenNames x4
  have h5 : Fr m s₀ x4 := by
    unfold x4
    refine Fr.upd (s := x0) (h_sys := Fr.no (Fr.bit hm rfl)) (h_fab := Fr.no (Fr.bit hm rfl)) ?_
    exact h1
  clear_value x4
  extract_lets +onlyGivenNames x6
  clear_value x6
  extract_lets +onlyGivenNames x7
  have h8 : Fr m s₀ x7 := by
    unfold x7
    refine Fr.set_fab (Fr.bit hm rfl) ?_
    exact h5
  clear_value x7
  extract_lets +onlyGivenNames x9
  have h10 : Fr m s₀ x9 := by
    unfold x9
    refine Fr.forEach ?_ ?_
    · intro h11 s12 h13
      refine State.lcInit_fr (Fr.sub hm rfl) ?_
      exact h13
    · exact h8
  clear_value x9
  extract_lets +onlyGivenNames x14
  have h15 : Fr m s₀ x14 := by
    unfold x14
    refine Fr.set_regs (Fr.all hm rfl) ?_
    exact h10
  clear_value x14
  extract_lets +onlyGivenNames x16
  have h17 : Fr m s₀ x16 := by
    unfold x16
    refine State.settleLines_fr (Fr.sub hm rfl) ?_
    refine Fr.forEach ?_ ?_
    · intro h18 s19 h20
      refine State.puRestart_fr (Fr.sub hm rfl) ?_
      exact h20
    · exact h15
  clear_value x16
  refine Fr.set_fab (Fr.bit hm rfl) ?_
  exact h17

theorem execFabLwr_fr {a0 a1} {t}
    (hm : 0x50002c00000000000000000000000000000000000000000000000000000000000000000281000000 ||| m = m) (h : Fr m s₀ s)
    (e : execFabLwr a0 a1 s = .next t) : Fr m s₀ t := by
  unfold execFabLwr at e
  cases e
  refine State.ship_fr (Fr.sub hm rfl) ?_
  refine State.runFabLwr_fr (Fr.sub hm rfl) ?_
  exact h

theorem execFabLwrg_fr {a0 a1 a2} {t}
    (hm : 0x50002c00000000000000000000000000000000000000000000000000000000000000000281000000 ||| m = m) (h : Fr m s₀ s)
    (e : execFabLwrg a0 a1 a2 s = .next t) : Fr m s₀ t := by
  unfold execFabLwrg at e
  cases e
  refine State.ship_fr (Fr.sub hm rfl) ?_
  refine State.runFabLwrg_fr (Fr.sub hm rfl) ?_
  exact h

theorem execPuPdWrite_fr {a0 a1 a2} {t}
    (hm : 0x40002c00000000000000000000000000000000000000000000000000000000000000000281000000 ||| m = m) (h : Fr m s₀ s)
    (e : execPuPdWrite a0 a1 a2 s = .next t) : Fr m s₀ t := by
  unfold execPuPdWrite at e
  cases e
  refine State.ship_fr (Fr.sub hm rfl) ?_
  refine State.runPuPdWrite_fr (Fr.sub hm rfl) ?_
  exact h

theorem execPuGateRise_fr {a0} {t}
    (hm : 0x50000400000000000000000000000000000000000000000000000000000000000000000280000000 ||| m = m) (h : Fr m s₀ s)
    (e : execPuGateRise a0 s = .next t) : Fr m s₀ t := by
  unfold execPuGateRise at e
  cases e
  refine State.ship_fr (Fr.sub hm rfl) ?_
  refine Fr.ite ?_ ?_
  · extract_lets +onlyGivenNames x0
    clear_value x0
    extract_lets +onlyGivenNames x1
    have h2 : Fr m s₀ x1 := by
      unfold x1
      refine Fr.set_fab (Fr.bit hm rfl) ?_
      exact h
    clear_value x1
    refine Fr.ite ?_ ?_
    · refine Fr.ite ?_ ?_
      · exact h2
      · refine State.settle_fr (Fr.sub hm rfl) ?_
        refine State.puPresc_fr (Fr.sub hm rfl) ?_
        refine State.flag_fr (Fr.sub hm rfl) (Fr.bit hm rfl) ?_
        refine State.puCount_fr (Fr.sub hm rfl) ?_
        exact h2
    · refine State.settle_fr (Fr.sub hm rfl) ?_
      refine Fr.forEach ?_ ?_
      · intro h3 s4 h5
        refine State.puRestart_fr (Fr.sub hm rfl) ?_
        exact h5
      · exact h2
  · exact h

end Sys2Proof.Machine
end

