-- ==== Sys2Proof/Laws/FrameInputs.lean ====
section
/-! SUPPORT. Frames (Laws/Frame.lean) of the functions of Machine/Inputs.lean: one lemma for each, which says by its mask which
registers and which parts of the state the function may change. -/

namespace Sys2Proof.Machine

variable {m : Nat} {s₀ s : State}

theorem State.ainShow_fr {a1 a2}
    (hm : 0x800000000000000000000000000000000000000000000800000000000000000000000000000000 ||| m = m) (h : Fr m s₀ s) :
    Fr m s₀ (State.ainShow s a1 a2) := by
  unfold State.ainShow
  extract_lets +onlyGivenNames x0
  clear_value x0
  extract_lets +onlyGivenNames x1
  have h2 : Fr m s₀ x1 := by
    unfold x1
    refine Fr.ite ?_ ?_
    · refine Fr.set_inp (Fr.bit hm rfl) ?_
      exact h
    · exact h
  clear_value x1
  refine State.put_fr (Fr.sub hm rfl) (Fr.bit hm rfl) ?_
  exact h2

theorem State.inputsBoundary_fr {a1 a2}
    (hm : 0x800000000000000000000000000000000000000000000000000000000000000000000000000000 ||| m = m) (h : Fr m s₀ s) :
    Fr m s₀ (State.inputsBoundary s a1 a2) := by
  unfold State.inputsBoundary
  extract_lets +onlyGivenNames x0
  extract_lets +onlyGivenNames x1
  clear_value x1
  extract_lets +onlyGivenNames x2
  refine Fr.set_inp (Fr.bit hm rfl) ?_
  exact h

theorem State.setCmp_fr {a1 a2 a3} (hm : 0x800000000000000000000000000000000 ||| m = m) (h : Fr m s₀ s) :
    Fr m s₀ (State.setCmp s a1 a2 a3) := by
  unfold State.setCmp
  refine Fr.ite ?_ ?_
  · refine State.flag_fr (Fr.sub hm rfl) (Fr.bit hm rfl) ?_
    exact h
  · refine State.flag_fr (Fr.sub hm rfl) (Fr.bit hm rfl) ?_
    exact h

theorem State.cmpStep_fr {a1 a2 a3 a4}
    (hm : 0x800000000000000000000000000000000000000000000800000000000000000000000000000000 ||| m = m) (h : Fr m s₀ s) :
    Fr m s₀ (State.cmpStep s a1 a2 a3 a4) := by
  unfold State.cmpStep
  extract_lets +onlyGivenNames x0
  clear_value x0
  split
  · refine Fr.set_inp (Fr.bit hm rfl) ?_
    exact h
  · refine Fr.ite ?_ ?_
    · refine Fr.set_inp (Fr.bit hm rfl) ?_
      exact h
    · extract_lets +onlyGivenNames x1
      clear_value x1
      refine Fr.ite ?_ ?_
      · extract_lets +onlyGivenNames x2
        have h3 : Fr m s₀ x2 := by
          unfold x2
          refine State.setCmp_fr (Fr.sub hm rfl) ?_
          exact h
        clear_value x2
        refine Fr.set_inp (Fr.bit hm rfl) ?_
        exact h3
      · refine Fr.set_inp (Fr.bit hm rfl) ?_
        exact h

theorem State.hallHold_fr {a1 a2 a3}
    (hm : 0x800000000000000000000000000000000000000000000000000000000000000000000000000000 ||| m = m) (h : Fr m s₀ s) :
    Fr m s₀ (State.hallHold s a1 a2 a3) := by
  unfold State.hallHold
  extract_lets +onlyGivenNames x0
  clear_value x0
  refine Fr.set_inp (Fr.bit hm rfl) ?_
  exact h

theorem State.inputsStart_fr (hm : 0x800001ffffffffffffffffffffffffffffffffffffffffffffffffffffffffffffffffffffffff ||| m = m)
    (h : Fr m s₀ s) : Fr m s₀ (State.inputsStart s) := by
  unfold State.inputsStart
  extract_lets +onlyGivenNames x0
  refine Fr.updr (Fr.all hm rfl) (s := s) (h_inp := Fr.no (Fr.bit hm rfl)) ?_
  exact h

theorem State.setSlvl_fr {a1 a2} (hm : 0x40000000000000000000000000000000 ||| m = m) (h : Fr m s₀ s) :
    Fr m s₀ (State.setSlvl s a1 a2) := by
  unfold State.setSlvl
  refine State.put_fr (Fr.sub hm rfl) (Fr.bit hm rfl) ?_
  exact h

theorem State.sinSample_fr {a1 a2}
    (hm : 0x800000000000000000000000000000000000000000000040000000000000000000000000000000 ||| m = m) (h : Fr m s₀ s) :
    Fr m s₀ (State.sinSample s a1 a2) := by
  unfold State.sinSample
  extract_lets +onlyGivenNames x0
  clear_value x0
  extract_lets +onlyGivenNames x1
  clear_value x1
  extract_lets +onlyGivenNames x2
  clear_value x2
  extract_lets +onlyGivenNames x3
  clear_value x3
  extract_lets +onlyGivenNames x4
  clear_value x4
  extract_lets +onlyGivenNames x5
  have h6 : Fr m s₀ x5 := by
    unfold x5
    refine Fr.set_inp (Fr.bit hm rfl) ?_
    exact h
  clear_value x5
  refine Fr.ite ?_ ?_
  · refine Fr.set_inp (Fr.bit hm rfl) ?_
    exact h6
  · extract_lets +onlyGivenNames x7
    clear_value x7
    refine Fr.ite ?_ ?_
    · extract_lets +onlyGivenNames x8
      have h9 : Fr m s₀ x8 := by
        unfold x8
        refine State.setSlvl_fr (Fr.sub hm rfl) ?_
        exact h6
      clear_value x8
      refine Fr.set_inp (Fr.bit hm rfl) ?_
      exact h9
    · refine Fr.set_inp (Fr.bit hm rfl) ?_
      exact h6

theorem execSinSample_fr {a0 a1} {t}
    (hm : 0x50800400000000000000000000000000000000000000000040000000000000000000000280000000 ||| m = m) (h : Fr m s₀ s)
    (e : execSinSample a0 a1 s = .next t) : Fr m s₀ t := by
  unfold execSinSample at e
  cases e
  refine State.ship_fr (Fr.sub hm rfl) ?_
  refine Fr.ite ?_ ?_
  · refine State.settle_fr (Fr.sub hm rfl) ?_
    refine Fr.forEach ?_ ?_
    · intro h0 s1 h2
      refine State.sinSample_fr (Fr.sub hm rfl) ?_
      exact h2
    · exact h
  · exact h

theorem execAinUpdate_fr {a0 a1 a2} {t}
    (hm : 0x50800400000000000000000000000000000000000000008800000000000000000000000280000000 ||| m = m) (h : Fr m s₀ s)
    (e : execAinUpdate a0 a1 a2 s = .next t) : Fr m s₀ t := by
  unfold execAinUpdate at e
  cases e
  refine State.ship_fr (Fr.sub hm rfl) ?_
  refine Fr.ite ?_ ?_
  · exact h
  · extract_lets +onlyGivenNames x0
    have h1 : Fr m s₀ x0 := by
      unfold x0
      refine Fr.ite ?_ ?_
      · refine State.put_fr (Fr.sub hm rfl) (Fr.bit hm rfl) ?_
        exact h
      · refine State.put_fr (Fr.sub hm rfl) (Fr.bit hm rfl) ?_
        exact h
    clear_value x0
    extract_lets +onlyGivenNames x2
    clear_value x2
    extract_lets +onlyGivenNames x3
    clear_value x3
    extract_lets +onlyGivenNames x4
    clear_value x4
    extract_lets +onlyGivenNames x5
    have h6 : Fr m s₀ x5 := by
      unfold x5
      refine Fr.set_inp (Fr.bit hm rfl) ?_
      exact h1
    clear_value x5
    extract_lets +onlyGivenNames x7
    refine Fr.ite ?_ ?_
    · exact h6
    · refine Fr.ite ?_ ?_
      · refine State.settle_fr (Fr.sub hm rfl) ?_
        unfold x7
        refine State.cmpStep_fr (Fr.sub hm rfl) ?_
        refine State.cmpStep_fr (Fr.sub hm rfl) ?_
        exact h6
      · refine Fr.ite ?_ ?_
        · exact h6
        · refine State.settle_fr (Fr.sub hm rfl) ?_
          unfold x7
          refine State.cmpStep_fr (Fr.sub hm rfl) ?_
          refine State.cmpStep_fr (Fr.sub hm rfl) ?_
          refine State.ainShow_fr (Fr.sub hm rfl) ?_
          exact h6

theorem execAinOverRange_fr {a0} {t}
    (hm : 0x40802000000000000000000000000000000000000000000800000000000000000000000000000000 ||| m = m) (h : Fr m s₀ s)
    (e : execAinOverRange a0 s = .next t) : Fr m s₀ t := by
  unfold execAinOverRange at e
  cases e
  refine State.ship_fr (Fr.sub hm rfl) ?_
  refine Fr.ite ?_ ?_
  · extract_lets +onlyGivenNames x0
    clear_value x0
    extract_lets +onlyGivenNames x1
    have h2 : Fr m s₀ x1 := by
      unfold x1
      refine Fr.set_inp (Fr.bit hm rfl) ?_
      exact h
    clear_value x1
    refine State.raise_fr (Fr.sub hm rfl) ?_
    refine State.flag_fr (Fr.sub hm rfl) (Fr.bit hm rfl) ?_
    exact h2
  · exact h

theorem execSensorSupplyOverload_fr {a0 a1} {t}
    (hm : 0x40802000000000000000000000000000000000000000008000000000000000000000000000000000 ||| m = m) (h : Fr m s₀ s)
    (e : execSensorSupplyOverload a0 a1 s = .next t) : Fr m s₀ t := by
  unfold execSensorSupplyOverload at e
  cases e
  refine State.ship_fr (Fr.sub hm rfl) ?_
  refine Fr.ite ?_ ?_
  · extract_lets +onlyGivenNames x0
    clear_value x0
    extract_lets +onlyGivenNames x1
    have h2 : Fr m s₀ x1 := by
      unfold x1
      refine Fr.set_inp (Fr.bit hm rfl) ?_
      exact h
    clear_value x1
    extract_lets +onlyGivenNames x3
    have h4 : Fr m s₀ x3 := by
      unfold x3
      split
      · refine State.put_fr (Fr.sub hm rfl) (Fr.bit hm rfl) ?_
        refine State.flag_fr (Fr.sub hm rfl) (Fr.bit hm rfl) ?_
        exact h2
      · refine State.put_fr (Fr.sub hm rfl) (Fr.bit hm rfl) ?_
        refine State.flag_fr (Fr.sub hm rfl) (Fr.bit hm rfl) ?_
        exact h2
      · refine State.flag_fr (Fr.sub hm rfl) (Fr.bit hm rfl) ?_
        exact h2
    clear_value x3
    refine State.raise_fr (Fr.sub hm rfl) ?_
    exact h4
  · exact h

theorem execHallLevelChange_fr {a0 a1 a2} {t}
    (hm : 0x50800400000000000000000000000000000000000000002000000000000000000000000280000000 ||| m = m) (h : Fr m s₀ s)
    (e : execHallLevelChange a0 a1 a2 s = .next t) : Fr m s₀ t := by
  unfold execHallLevelChange at e
  cases e
  refine State.ship_fr (Fr.sub hm rfl) ?_
  extract_lets +onlyGivenNames x0
  clear_value x0
  refine Fr.ite ?_ ?_
  · exact h
  · extract_lets +onlyGivenNames x1
    clear_value x1
    extract_lets +onlyGivenNames x2
    have h3 : Fr m s₀ x2 := by
      unfold x2
      refine Fr.ite ?_ ?_
      · refine State.hallHold_fr (Fr.sub hm rfl) ?_
        refine State.put_fr (Fr.sub hm rfl) (Fr.bit hm rfl) ?_
        exact h
      · exact h
    clear_value x2
    extract_lets +onlyGivenNames x4
    clear_value x4
    refine Fr.ite ?_ ?_
    · exact h3
    · refine State.settle_fr (Fr.sub hm rfl) ?_
      refine State.wrap_fr (Fr.sub hm rfl) (Fr.bit hm rfl) ?_
      refine State.flag_fr (Fr.sub hm rfl) (Fr.bit hm rfl) ?_
      exact h3

theorem execHallOpenShort_fr {a0 a1} {t}
    (hm : 0x40802000000000000000000000000000000000000000002000000000000000000000000000000000 ||| m = m) (h : Fr m s₀ s)
    (e : execHallOpenShort a0 a1 s = .next t) : Fr m s₀ t := by
  unfold execHallOpenShort at e
  cases e
  refine State.ship_fr (Fr.sub hm rfl) ?_
  refine Fr.ite ?_ ?_
  · exact h
  · extract_lets +onlyGivenNames x0
    have h1 : Fr m s₀ x0 := by
      unfold x0
      refine State.hallHold_fr (Fr.sub hm rfl) ?_
      refine State.put_fr (Fr.sub hm rfl) (Fr.bit hm rfl) ?_
      exact h
    clear_value x0
    refine Fr.ite ?_ ?_
    · refine State.raise_fr (Fr.sub hm rfl) ?_
      refine State.flag_fr (Fr.sub hm rfl) (Fr.bit hm rfl) ?_
      exact h1
    · refine Fr.ite ?_ ?_
      · refine State.raise_fr (Fr.sub hm rfl) ?_
        refine State.flag_fr (Fr.sub hm rfl) (Fr.bit hm rfl) ?_
        exact h1
      · exact h1

theorem execSensorSupplyRecovery_fr {a0} {t}
    (hm : 0x40800000000000000000000000000000000000000000000000000000000000000000000000000000 ||| m = m) (h : Fr m s₀ s)
    (e : execSensorSupplyRecovery a0 s = .next t) : Fr m s₀ t := by
  unfold execSensorSupplyRecovery at e
  cases e
  refine State.ship_fr (Fr.sub hm rfl) ?_
  refine Fr.ite ?_ ?_
  · refine Fr.set_inp (Fr.bit hm rfl) ?_
    exact h
  · exact h

end Sys2Proof.Machine
end

