-- ==== Sys2Proof/Laws/FrameContexts.lean ====
section
/-! SUPPORT. Frames (Laws/Frame.lean) of the functions of Machine/Contexts.lean: one lemma for each, which says by its mask which
registers and which parts of the state the function may change. -/

namespace Sys2Proof.Machine

variable {m : Nat} {s₀ s : State}

theorem State.switchIn_fr {a1 a2}
    (hm : 0x800000000000000000000000000000000000800010000000000000000000000000000000000 ||| m = m) (h : Fr m s₀ s) :
    Fr m s₀ (State.switchIn s a1 a2) := by
  unfold State.switchIn
  extract_lets +onlyGivenNames x0
  clear_value x0
  extract_lets +onlyGivenNames x1
  have h2 : Fr m s₀ x1 := by
    unfold x1
    refine State.setCtx_fr (Fr.sub hm rfl) ?_
    exact h
  clear_value x1
  refine State.put_fr (Fr.sub hm rfl) (Fr.bit hm rfl) ?_
  refine State.put_fr (Fr.sub hm rfl) (Fr.bit hm rfl) ?_
  refine State.put_fr (Fr.sub hm rfl) (Fr.bit hm rfl) ?_
  refine State.setCst_fr (Fr.sub hm rfl) ?_
  exact h2

theorem State.dropLoads_fr {a1} (hm : 0x800000000000000000000000000000000000000000000000000000000000000000000000000 ||| m = m)
    (h : Fr m s₀ s) : Fr m s₀ (State.dropLoads s a1) := by
  unfold State.dropLoads
  extract_lets +onlyGivenNames x0
  clear_value x0
  extract_lets +onlyGivenNames x1
  have h2 : Fr m s₀ x1 := by
    unfold x1
    refine State.setCtx_fr (Fr.sub hm rfl) ?_
    exact h
  clear_value x1
  extract_lets +onlyGivenNames x3
  refine Fr.forEach ?_ ?_
  · intro h4 s5 h6
    refine State.setCore_fr (Fr.sub hm rfl) ?_
    exact h6
  · exact h2

theorem State.storeRcd_fr {a1} (hm : 0x800000000000000000000000000000000000000000000000000000000000000000000000000 ||| m = m)
    (h : Fr m s₀ s) : Fr m s₀ (State.storeRcd s a1) := by
  unfold State.storeRcd
  refine State.setCtx_fr (Fr.sub hm rfl) ?_
  exact h

theorem State.leaveCore_fr {a1} (hm : 0x800000000000000000000000000000000000000010000000000000000000000000000000000 ||| m = m)
    (h : Fr m s₀ s) : Fr m s₀ (State.leaveCore s a1) := by
  unfold State.leaveCore
  extract_lets +onlyGivenNames x0
  clear_value x0
  refine Fr.ite ?_ ?_
  · refine State.storeRcd_fr (Fr.sub hm rfl) ?_
    refine State.flag_fr (Fr.sub hm rfl) (Fr.bit hm rfl) ?_
    refine State.put_fr (Fr.sub hm rfl) (Fr.bit hm rfl) ?_
    exact h
  · exact h

theorem State.defaultLines_fr {a1}
    (hm : 0x10000400000000000000000000000000000000000000000000000000000000000000000280000000 ||| m = m) (h : Fr m s₀ s) :
    Fr m s₀ (State.defaultLines s a1) := by
  unfold State.defaultLines
  extract_lets +onlyGivenNames x0
  clear_value x0
  refine State.settle_fr (Fr.sub hm rfl) ?_
  refine Fr.set_fab (Fr.bit hm rfl) ?_
  exact h

theorem State.quarantined_fr {a1 a2}
    (hm : 0x12000c00000000000000000000000000000020000900010000000000000000000000000280000000 ||| m = m) (h : Fr m s₀ s) :
    Fr m s₀ (State.quarantined s a1 a2) := by
  unfold State.quarantined
  extract_lets +onlyGivenNames x0
  clear_value x0
  extract_lets +onlyGivenNames x1
  have h2 : Fr m s₀ x1 := by
    unfold x1
    refine State.dropLoads_fr (Fr.sub hm rfl) ?_
    refine State.leaveCore_fr (Fr.sub hm rfl) ?_
    exact h
  clear_value x1
  extract_lets +onlyGivenNames x3
  clear_value x3
  extract_lets +onlyGivenNames x4
  have h5 : Fr m s₀ x4 := by
    unfold x4
    refine State.setCtx_fr (Fr.sub hm rfl) ?_
    exact h2
  clear_value x4
  extract_lets +onlyGivenNames x6
  have h7 : Fr m s₀ x6 := by
    unfold x6
    refine State.count_fr (Fr.sub hm rfl) (Fr.bit hm rfl) ?_
    refine State.put_fr (Fr.sub hm rfl) (Fr.bit hm rfl) ?_
    refine State.setCst_fr (Fr.sub hm rfl) ?_
    exact h5
  clear_value x6
  extract_lets +onlyGivenNames x8
  have h9 : Fr m s₀ x8 := by
    unfold x8
    refine State.setPort_fr (Fr.sub hm rfl) ?_
    exact h7
  clear_value x8
  extract_lets +onlyGivenNames x10
  have h11 : Fr m s₀ x10 := by
    unfold x10
    refine State.flag_fr (Fr.sub hm rfl) (Fr.bit hm rfl) ?_
    refine State.put_fr (Fr.sub hm rfl) (Fr.bit hm rfl) ?_
    refine State.put_fr (Fr.sub hm rfl) (Fr.bit hm rfl) ?_
    refine State.put_fr (Fr.sub hm rfl) (Fr.bit hm rfl) ?_
    exact h9
  clear_value x10
  refine State.defaultLines_fr (Fr.sub hm rfl) ?_
  refine State.dropReader_fr (Fr.sub hm rfl) ?_
  exact h11

theorem State.makeReady_fr {a1} (hm : 0x800000000000000000000000000000000000800000000000000000000000000000000000000 ||| m = m)
    (h : Fr m s₀ s) : Fr m s₀ (State.makeReady s a1) := by
  unfold State.makeReady
  extract_lets +onlyGivenNames x0
  clear_value x0
  extract_lets +onlyGivenNames x1
  have h2 : Fr m s₀ x1 := by
    unfold x1
    refine State.setCst_fr (Fr.sub hm rfl) ?_
    refine State.setCtx_fr (Fr.sub hm rfl) ?_
    exact h
  clear_value x1
  refine Fr.set_doc (Fr.bit hm rfl) ?_
  exact h2

theorem State.offCore_fr {a1}
    (hm : 0x12000c00000000000000000000000000000020000900010000000000000000000000000280000000 ||| m = m) (h : Fr m s₀ s) :
    Fr m s₀ (State.offCore s a1) := by
  unfold State.offCore
  split
  · refine State.quarantined_fr (Fr.sub hm rfl) ?_
    exact h
  · refine State.makeReady_fr (Fr.sub hm rfl) ?_
    refine State.leaveCore_fr (Fr.sub hm rfl) ?_
    exact h

theorem State.preempt_fr {a1}
    (hm : 0x12000c00000000000000000000000000000020000900010000000000000000000000000280000000 ||| m = m) (h : Fr m s₀ s) :
    Fr m s₀ (State.preempt s a1) := by
  unfold State.preempt
  split
  · refine State.offCore_fr (Fr.sub hm rfl) ?_
    exact h
  · exact h

theorem State.placeOne_fr {t : State} {a1}
    (hm : 0x12000c00000000000000000000000000000020000900010000000000000000000000000280000000 ||| m = m) (h : Fr m s₀ s)
    (e : s.placeOne a1 = some t) : Fr m s₀ t := by
  unfold State.placeOne at e
  split at e
  · cases e
  · split at e
    · split at e
      · cases e
        exact State.switchIn_fr (Fr.sub hm rfl) (State.preempt_fr (Fr.sub hm rfl) h)
      · cases e
    · cases e

theorem State.placeAll_fr {a0}
    (hm : 0x12000c00000000000000000000000000000020000900010000000000000000000000000280000000 ||| m = m) (h : Fr m s₀ s) :
    Fr m s₀ (State.placeAll a0 s) := by
  induction a0 generalizing s with
  | zero => exact h
  | succ n ih =>
    unfold State.placeAll
    split
    · exact ih (State.placeOne_fr (Fr.sub hm rfl) h ‹_›)
    · exact h

theorem State.ctxCounts_fr (hm : 0x20000000000000000000000000000000000000 ||| m = m) (h : Fr m s₀ s) :
    Fr m s₀ (State.ctxCounts s) := by
  unfold State.ctxCounts
  extract_lets +onlyGivenNames x0
  refine State.put_fr (Fr.sub hm rfl) (Fr.bit hm rfl) ?_
  refine State.put_fr (Fr.sub hm rfl) (Fr.bit hm rfl) ?_
  exact h

theorem State.preload_fr {a1} (hm : 0x800000000000000000000000000000000000000000000000000000000000000000000000000 ||| m = m)
    (h : Fr m s₀ s) : Fr m s₀ (State.preload s a1) := by
  unfold State.preload
  split
  · refine Fr.ite ?_ ?_
    · exact h
    · refine State.setCore_fr (Fr.sub hm rfl) ?_
      exact h
  · refine State.setCore_fr (Fr.sub hm rfl) ?_
    exact h

theorem State.schedule_fr (hm : 0x12000c00000000000000000000000000000020000920010000000000000000000000000280000000 ||| m = m)
    (h : Fr m s₀ s) : Fr m s₀ (State.schedule s) := by
  unfold State.schedule
  extract_lets +onlyGivenNames x0
  have h1 : Fr m s₀ x0 := by
    unfold x0
    refine State.placeAll_fr (Fr.sub hm rfl) ?_
    exact h
  clear_value x0
  refine State.ctxCounts_fr (Fr.sub hm rfl) ?_
  refine Fr.forEach ?_ ?_
  · intro h2 s3 h4
    refine Fr.ite ?_ ?_
    · refine State.preload_fr (Fr.sub hm rfl) ?_
      exact h4
    · exact h4
  · exact h1

theorem State.endWait_fr {a1} (hm : 0x800000000000000000000000000000000000800000000000000000000000000000000000000 ||| m = m)
    (h : Fr m s₀ s) : Fr m s₀ (State.endWait s a1) := by
  unfold State.endWait
  extract_lets +onlyGivenNames x0
  clear_value x0
  extract_lets +onlyGivenNames x1
  have h2 : Fr m s₀ x1 := by
    unfold x1
    refine State.setCtx_fr (Fr.sub hm rfl) ?_
    exact h
  clear_value x1
  refine State.makeReady_fr (Fr.sub hm rfl) ?_
  refine State.setRcd_fr (Fr.sub hm rfl) ?_
  exact h2

theorem State.takeEvents_fr {a1}
    (hm : 0x800000000000000000000000000000000000000000000000000000000000000000000000000 ||| m = m) (h : Fr m s₀ s) :
    Fr m s₀ (State.takeEvents s a1) := by
  unfold State.takeEvents
  extract_lets +onlyGivenNames x0
  clear_value x0
  refine State.setPort_fr (Fr.sub hm rfl) ?_
  refine State.setPort_fr (Fr.sub hm rfl) ?_
  exact h

theorem State.setEvent_fr {a1 a2}
    (hm : 0x800000000000000000000000000000000000800000000000000000000000000000000000000 ||| m = m) (h : Fr m s₀ s) :
    Fr m s₀ (State.setEvent s a1 a2) := by
  unfold State.setEvent
  refine Fr.ite ?_ ?_
  · exact h
  · extract_lets +onlyGivenNames x0
    have h1 : Fr m s₀ x0 := by
      unfold x0
      refine State.setPort_fr (Fr.sub hm rfl) ?_
      exact h
    clear_value x0
    refine Fr.ite ?_ ?_
    · refine State.endWait_fr (Fr.sub hm rfl) ?_
      refine State.takeEvents_fr (Fr.sub hm rfl) ?_
      exact h1
    · exact h1

theorem State.event_fr {a1 a2}
    (hm : 0x12000c00000000000000000000000000000020000920010000000000000000000000000280000000 ||| m = m) (h : Fr m s₀ s) :
    Fr m s₀ (State.event s a1 a2) := by
  unfold State.event
  refine State.schedule_fr (Fr.sub hm rfl) ?_
  refine State.setEvent_fr (Fr.sub hm rfl) ?_
  exact h

theorem State.muteStr_fr {a1} (hm : 0x800000000000000000000000000000000000000000000000000000000000000000000000000 ||| m = m)
    (h : Fr m s₀ s) : Fr m s₀ (State.muteStr s a1) := by
  unfold State.muteStr
  extract_lets +onlyGivenNames x0
  refine Fr.forEach ?_ ?_
  · intro h1 s2 h3
    refine State.setCore_fr (Fr.sub hm rfl) ?_
    exact h3
  · exact h

theorem State.syncPrio_fr {a1} (hm : 0x800000000000000000000000000000000000000 ||| m = m) (h : Fr m s₀ s) :
    Fr m s₀ (State.syncPrio s a1) := by
  unfold State.syncPrio
  refine State.put_fr (Fr.sub hm rfl) (Fr.bit hm rfl) ?_
  exact h

theorem State.enableCtx_fr {a1} (hm : 0x800000000000000000000000000000000000800000000000000000000000000000000000000 ||| m = m)
    (h : Fr m s₀ s) : Fr m s₀ (State.enableCtx s a1) := by
  unfold State.enableCtx
  extract_lets +onlyGivenNames x0
  clear_value x0
  extract_lets +onlyGivenNames x1
  clear_value x1
  extract_lets +onlyGivenNames x2
  clear_value x2
  extract_lets +onlyGivenNames x3
  have h4 : Fr m s₀ x3 := by
    unfold x3
    refine State.muteStr_fr (Fr.sub hm rfl) ?_
    exact h
  clear_value x3
  extract_lets +onlyGivenNames x5
  have h6 : Fr m s₀ x5 := by
    unfold x5
    refine State.syncPrio_fr (Fr.sub hm rfl) ?_
    refine State.put_fr (Fr.sub hm rfl) (Fr.bit hm rfl) ?_
    refine State.flag_fr (Fr.sub hm rfl) (Fr.bit hm rfl) ?_
    refine State.setCtx_fr (Fr.sub hm rfl) ?_
    exact h4
  clear_value x5
  refine Fr.ite ?_ ?_
  · refine State.setCst_fr (Fr.sub hm rfl) ?_
    exact h6
  · refine State.makeReady_fr (Fr.sub hm rfl) ?_
    exact h6

theorem State.enableHere_fr {a1}
    (hm : 0x800000000000000000000000000000000000800000000000000000000000000000000000000 ||| m = m) (h : Fr m s₀ s) :
    Fr m s₀ (State.enableHere s a1) := by
  unfold State.enableHere
  refine Fr.ite ?_ ?_
  · refine State.setCst_fr (Fr.sub hm rfl) ?_
    refine State.enableCtx_fr (Fr.sub hm rfl) ?_
    exact h
  · refine State.enableCtx_fr (Fr.sub hm rfl) ?_
    exact h

theorem State.releaseCtx_fr {a1}
    (hm : 0x12002c00000000000000000000000000000020000920010000000000000000000000000280000000 ||| m = m) (h : Fr m s₀ s) :
    Fr m s₀ (State.releaseCtx s a1) := by
  unfold State.releaseCtx
  refine Fr.ite ?_ ?_
  · exact h
  · extract_lets +onlyGivenNames x0
    have h1 : Fr m s₀ x0 := by
      unfold x0
      refine State.raise_fr (Fr.sub hm rfl) ?_
      exact h
    clear_value x0
    refine Fr.ite ?_ ?_
    · refine State.schedule_fr (Fr.sub hm rfl) ?_
      refine State.enableHere_fr (Fr.sub hm rfl) ?_
      exact h1
    · refine State.ctxCounts_fr (Fr.sub hm rfl) ?_
      refine State.put_fr (Fr.sub hm rfl) (Fr.bit hm rfl) ?_
      refine State.setCst_fr (Fr.sub hm rfl) ?_
      exact h1

theorem State.runCtxCmdRelease_fr {a1 a2}
    (hm : 0x212002c00000000000000000000000000000020000920010000000000000000000000000280000000 ||| m = m) (h : Fr m s₀ s) :
    Fr m s₀ (State.runCtxCmdRelease s a1 a2) := by
  unfold State.runCtxCmdRelease
  refine Fr.ite ?_ ?_
  · refine State.reserved_fr (Fr.sub hm rfl) ?_
    exact h
  · refine State.releaseCtx_fr (Fr.sub hm rfl) ?_
    exact h

theorem State.quarantineNow_fr {a1 a2}
    (hm : 0x12000c00000000000000000000000000000020000920010000000000000000000000000280000000 ||| m = m) (h : Fr m s₀ s) :
    Fr m s₀ (State.quarantineNow s a1 a2) := by
  unfold State.quarantineNow
  refine State.schedule_fr (Fr.sub hm rfl) ?_
  refine State.quarantined_fr (Fr.sub hm rfl) ?_
  exact h

theorem State.quarantine_fr {a1 a2}
    (hm : 0x12000c00000000000000000000000000000020000920010000000000000000000000000280000000 ||| m = m) (h : Fr m s₀ s) :
    Fr m s₀ (State.quarantine s a1 a2) := by
  unfold State.quarantine
  refine Fr.ite ?_ ?_
  · exact h
  · refine Fr.ite ?_ ?_
    · refine State.setCtx_fr (Fr.sub hm rfl) ?_
      exact h
    · refine State.quarantineNow_fr (Fr.sub hm rfl) ?_
      exact h

theorem State.runCtxCmdQuarantine_fr {a1 a2}
    (hm : 0x212000c00000000000000000000000000000020000920010000000000000000000000000280000000 ||| m = m) (h : Fr m s₀ s) :
    Fr m s₀ (State.runCtxCmdQuarantine s a1 a2) := by
  unfold State.runCtxCmdQuarantine
  refine Fr.ite ?_ ?_
  · refine State.reserved_fr (Fr.sub hm rfl) ?_
    exact h
  · refine State.quarantine_fr (Fr.sub hm rfl) ?_
    exact h

theorem State.holdCtx_fr {a1}
    (hm : 0x12000c00000000000000000000000000000020000900010000000000000000000000000280000000 ||| m = m) (h : Fr m s₀ s) :
    Fr m s₀ (State.holdCtx s a1) := by
  unfold State.holdCtx
  split
  · refine State.quarantined_fr (Fr.sub hm rfl) ?_
    exact h
  · refine Fr.ite ?_ ?_
    · refine State.setCst_fr (Fr.sub hm rfl) ?_
      refine State.leaveCore_fr (Fr.sub hm rfl) ?_
      exact h
    · exact h

theorem State.disableCtx_fr {a1}
    (hm : 0x12000c00000000000000000000000000000020000800010000000000000000000000000280000000 ||| m = m) (h : Fr m s₀ s) :
    Fr m s₀ (State.disableCtx s a1) := by
  unfold State.disableCtx
  refine Fr.ite ?_ ?_
  · exact h
  · extract_lets +onlyGivenNames x0
    have h1 : Fr m s₀ x0 := by
      unfold x0
      refine State.setCst_fr (Fr.sub hm rfl) ?_
      refine State.leaveCore_fr (Fr.sub hm rfl) ?_
      exact h
    clear_value x0
    refine State.defaultLines_fr (Fr.sub hm rfl) ?_
    refine State.dropReader_fr (Fr.sub hm rfl) ?_
    refine State.dropLoads_fr (Fr.sub hm rfl) ?_
    refine State.setCtx_fr (Fr.sub hm rfl) ?_
    exact h1

theorem State.resumeCtx_fr {a1} (hm : 0x800000000000000000000000000000000000800000000000000000000000000000000000000 ||| m = m)
    (h : Fr m s₀ s) : Fr m s₀ (State.resumeCtx s a1) := by
  unfold State.resumeCtx
  refine Fr.ite ?_ ?_
  · exact h
  · split
    · refine Fr.ite ?_ ?_
      · refine State.endWait_fr (Fr.sub hm rfl) ?_
        refine State.takeEvents_fr (Fr.sub hm rfl) ?_
        exact h
      · refine State.setCst_fr (Fr.sub hm rfl) ?_
        exact h
    · refine Fr.ite ?_ ?_
      · refine State.endWait_fr (Fr.sub hm rfl) ?_
        exact h
      · refine State.setCst_fr (Fr.sub hm rfl) ?_
        exact h
    · refine State.makeReady_fr (Fr.sub hm rfl) ?_
      exact h

theorem State.fireAlarm_fr {a1} (hm : 0x800000000000000000000000000000000000800000000000000000000000000000000000000 ||| m = m)
    (h : Fr m s₀ s) : Fr m s₀ (State.fireAlarm s a1) := by
  unfold State.fireAlarm
  refine State.setEvent_fr (Fr.sub hm rfl) ?_
  refine State.setRcd_fr (Fr.sub hm rfl) ?_
  exact h

theorem State.yieldCtx_fr {a1}
    (hm : 0x12000c00000000000000000000000000000020000920010000000000000000000000000280000000 ||| m = m) (h : Fr m s₀ s) :
    Fr m s₀ (State.yieldCtx s a1) := by
  unfold State.yieldCtx
  refine State.schedule_fr (Fr.sub hm rfl) ?_
  refine State.offCore_fr (Fr.sub hm rfl) ?_
  exact h

theorem State.coreFailed_fr {a1 a2}
    (hm : 0x12002c00000000000000000000000000000020000920010000000000000000000000000280000000 ||| m = m) (h : Fr m s₀ s) :
    Fr m s₀ (State.coreFailed s a1 a2) := by
  unfold State.coreFailed
  extract_lets +onlyGivenNames x0
  clear_value x0
  extract_lets +onlyGivenNames x1
  clear_value x1
  extract_lets +onlyGivenNames x2
  clear_value x2
  extract_lets +onlyGivenNames x3
  clear_value x3
  extract_lets +onlyGivenNames x4
  have h5 : Fr m s₀ x4 := by
    unfold x4
    refine State.raise_fr (Fr.sub hm rfl) ?_
    exact h
  clear_value x4
  extract_lets +onlyGivenNames x6
  have h7 : Fr m s₀ x6 := by
    unfold x6
    refine State.preempt_fr (Fr.sub hm rfl) ?_
    exact h5
  clear_value x6
  extract_lets +onlyGivenNames x8
  have h9 : Fr m s₀ x8 := by
    unfold x8
    refine State.put_fr (Fr.sub hm rfl) (Fr.bit hm rfl) ?_
    refine State.flag_fr (Fr.sub hm rfl) (Fr.bit hm rfl) ?_
    refine State.put_fr (Fr.sub hm rfl) (Fr.bit hm rfl) ?_
    exact h7
  clear_value x8
  extract_lets +onlyGivenNames x10
  clear_value x10
  extract_lets +onlyGivenNames x11
  have h12 : Fr m s₀ x11 := by
    unfold x11
    refine State.setCore_fr (Fr.sub hm rfl) ?_
    exact h9
  clear_value x11
  extract_lets +onlyGivenNames x13
  have h14 : Fr m s₀ x13 := by
    unfold x13
    refine Fr.ite ?_ ?_
    · exact h12
    · refine State.raise_fr (Fr.sub hm rfl) ?_
      exact h12
  clear_value x13
  refine State.schedule_fr (Fr.sub hm rfl) ?_
  exact h14

theorem State.reachTime_fr {a1} (hm : 0x20000000000000000000000000000000000000000000000000000000000000000000000000 ||| m = m)
    (h : Fr m s₀ s) : Fr m s₀ (State.reachTime s a1) := by
  unfold State.reachTime
  refine Fr.ite ?_ ?_
  · exact h
  · extract_lets +onlyGivenNames x0
    clear_value x0
    refine Fr.set_tb (Fr.bit hm rfl) ?_
    exact h

theorem execLineEdgeEvent_fr {a0 a1} {t}
    (hm : 0x52000c00000000000000000000000000000020000920010000000000000000000000004280000000 ||| m = m) (h : Fr m s₀ s)
    (e : execLineEdgeEvent a0 a1 s = .next t) : Fr m s₀ t := by
  unfold execLineEdgeEvent at e
  cases e
  refine State.ship_fr (Fr.sub hm rfl) ?_
  refine Fr.ite ?_ ?_
  · extract_lets +onlyGivenNames x0
    clear_value x0
    extract_lets +onlyGivenNames x1
    have h2 : Fr m s₀ x1 := by
      unfold x1
      refine Fr.set_fab (Fr.bit hm rfl) ?_
      exact h
    clear_value x1
    extract_lets +onlyGivenNames x3
    have h4 : Fr m s₀ x3 := by
      unfold x3
      refine State.wrap_fr (Fr.sub hm rfl) (Fr.bit hm rfl) ?_
      exact h2
    clear_value x3
    refine Fr.ite ?_ ?_
    · refine State.event_fr (Fr.sub hm rfl) ?_
      exact h4
    · exact h4
  · exact h

theorem execTimedWaitExpiry_fr {a0} {t}
    (hm : 0x52000c20000000000000000000000000000020000920010000000000000000000000000280000000 ||| m = m) (h : Fr m s₀ s)
    (e : execTimedWaitExpiry a0 s = .next t) : Fr m s₀ t := by
  unfold execTimedWaitExpiry at e
  cases e
  refine State.ship_fr (Fr.sub hm rfl) ?_
  refine Fr.ite ?_ ?_
  · refine State.schedule_fr (Fr.sub hm rfl) ?_
    refine State.endWait_fr (Fr.sub hm rfl) ?_
    refine State.reachTime_fr (Fr.sub hm rfl) ?_
    exact h
  · exact h

theorem execAlarmExpiry_fr {a0} {t}
    (hm : 0x52000c20000000000000000000000000000020000920010000000000000000000000000280000000 ||| m = m) (h : Fr m s₀ s)
    (e : execAlarmExpiry a0 s = .next t) : Fr m s₀ t := by
  unfold execAlarmExpiry at e
  cases e
  refine State.ship_fr (Fr.sub hm rfl) ?_
  refine Fr.ite ?_ ?_
  · refine State.schedule_fr (Fr.sub hm rfl) ?_
    refine State.fireAlarm_fr (Fr.sub hm rfl) ?_
    refine State.reachTime_fr (Fr.sub hm rfl) ?_
    exact h
  · exact h

theorem execBudgetExpiry_fr {a0} {t}
    (hm : 0x52002c00000000000000000000000000000020001920010000000000000000000000000280000000 ||| m = m) (h : Fr m s₀ s)
    (e : execBudgetExpiry a0 s = .next t) : Fr m s₀ t := by
  unfold execBudgetExpiry at e
  cases e
  refine State.ship_fr (Fr.sub hm rfl) ?_
  refine Fr.ite ?_ ?_
  · exact h
  · extract_lets +onlyGivenNames x0
    clear_value x0
    extract_lets +onlyGivenNames x1
    clear_value x1
    extract_lets +onlyGivenNames x2
    clear_value x2
    extract_lets +onlyGivenNames x3
    have h4 : Fr m s₀ x3 := by
      unfold x3
      refine State.count_fr (Fr.sub hm rfl) (Fr.bit hm rfl) ?_
      refine State.setCtx_fr (Fr.sub hm rfl) ?_
      exact h
    clear_value x3
    extract_lets +onlyGivenNames x5
    clear_value x5
    extract_lets +onlyGivenNames x6
    have h7 : Fr m s₀ x6 := by
      unfold x6
      refine State.setRcd_fr (Fr.sub hm rfl) ?_
      exact h4
    clear_value x6
    extract_lets +onlyGivenNames x8
    have h9 : Fr m s₀ x8 := by
      unfold x8
      refine State.raise_fr (Fr.sub hm rfl) ?_
      exact h7
    clear_value x8
    refine Fr.ite ?_ ?_
    · refine State.schedule_fr (Fr.sub hm rfl) ?_
      refine State.syncPrio_fr (Fr.sub hm rfl) ?_
      refine State.flag_fr (Fr.sub hm rfl) (Fr.bit hm rfl) ?_
      exact h9
    · refine State.quarantine_fr (Fr.sub hm rfl) ?_
      exact h9

theorem execQuarantineEffect_fr {a0} {t}
    (hm : 0x52000c00000000000000000000000000000020000920010000000000000000000000000280000000 ||| m = m) (h : Fr m s₀ s)
    (e : execQuarantineEffect a0 s = .next t) : Fr m s₀ t := by
  unfold execQuarantineEffect at e
  cases e
  refine State.ship_fr (Fr.sub hm rfl) ?_
  split
  · refine State.quarantineNow_fr (Fr.sub hm rfl) ?_
    exact h
  · exact h

theorem execCtxCmdRelease_fr {a0 a1} {t}
    (hm : 0x252002c00000000000000000000000000000020000920010000000000000000000000000280000000 ||| m = m) (h : Fr m s₀ s)
    (e : execCtxCmdRelease a0 a1 s = .next t) : Fr m s₀ t := by
  unfold execCtxCmdRelease at e
  cases e
  refine State.ship_fr (Fr.sub hm rfl) ?_
  refine State.asWho_fr (Fr.sub hm rfl) ?_ ?_
  · intro s0 h1
    refine State.runCtxCmdRelease_fr (Fr.sub hm rfl) ?_
    exact h1
  · exact h

theorem execCtxCmdQuarantine_fr {a0 a1} {t}
    (hm : 0x252000c00000000000000000000000000000020000920010000000000000000000000000280000000 ||| m = m) (h : Fr m s₀ s)
    (e : execCtxCmdQuarantine a0 a1 s = .next t) : Fr m s₀ t := by
  unfold execCtxCmdQuarantine at e
  cases e
  refine State.ship_fr (Fr.sub hm rfl) ?_
  refine State.asWho_fr (Fr.sub hm rfl) ?_ ?_
  · intro s0 h1
    refine State.runCtxCmdQuarantine_fr (Fr.sub hm rfl) ?_
    exact h1
  · exact h

end Sys2Proof.Machine
end

