-- ==== Sys2Proof/Laws/FrameMem.lean ====
section
/-! SUPPORT. Frames (Laws/Frame.lean) of the functions of Machine/Mem.lean: one lemma for each, which says by its mask which
registers and which parts of the state the function may change. -/

namespace Sys2Proof.Machine

variable {m : Nat} {s₀ s : State}

theorem State.eccEvent_fr {a1 a2 a3}
    (hm : 0x3000000000000000000000000000000000058000000000000000000000000000000000000000 ||| m = m) (h : Fr m s₀ s) :
    Fr m s₀ (State.eccEvent s a1 a2 a3) := by
  unfold State.eccEvent
  split
  · exact h
  · refine Fr.ite ?_ ?_
    · extract_lets +onlyGivenNames x0
      clear_value x0
      extract_lets +onlyGivenNames x1
      have h2 : Fr m s₀ x1 := by
        unfold x1
        refine Fr.set_memx (Fr.bit hm rfl) ?_
        exact h
      clear_value x1
      refine State.raise_fr (Fr.sub hm rfl) ?_
      refine State.count_fr (Fr.sub hm rfl) (Fr.bit hm rfl) ?_
      exact h2
    · refine Fr.ite ?_ ?_
      · refine State.flag_fr (Fr.sub hm rfl) (Fr.bit hm rfl) ?_
        refine State.put_fr (Fr.sub hm rfl) (Fr.bit hm rfl) ?_
        refine State.put_fr (Fr.sub hm rfl) (Fr.bit hm rfl) ?_
        refine State.put_fr (Fr.sub hm rfl) (Fr.bit hm rfl) ?_
        refine State.count_fr (Fr.sub hm rfl) (Fr.bit hm rfl) ?_
        exact h
      · exact h

theorem State.eccReport_fr {a1 a2}
    (hm : 0x2000000000000000000000000000000000000000000000000000000000000000000000000000 ||| m = m) (h : Fr m s₀ s) :
    Fr m s₀ (State.eccReport s a1 a2) := by
  unfold State.eccReport
  split
  · exact h
  · refine State.raise_fr (Fr.sub hm rfl) ?_
    exact h

theorem State.collide_fr {a1 a2 a3}
    (hm : 0x800000000000000000000000000000000020000000000000000000000000000000000000000 ||| m = m) (h : Fr m s₀ s) :
    Fr m s₀ (State.collide s a1 a2 a3) := by
  unfold State.collide
  refine Fr.ite ?_ ?_
  · refine State.count_fr (Fr.sub hm rfl) (Fr.bit hm rfl) ?_
    refine State.dpbusy_fr (Fr.sub hm rfl) ?_
    exact h
  · exact h

theorem State.initBanks_fr {a1} (hm : 0x10000000000000000000000000000000004000000000000000000000000000000000000000 ||| m = m)
    (h : Fr m s₀ s) : Fr m s₀ (State.initBanks s a1) := by
  unfold State.initBanks
  extract_lets +onlyGivenNames x0
  clear_value x0
  extract_lets +onlyGivenNames x1
  have h2 : Fr m s₀ x1 := by
    unfold x1
    refine Fr.forEach ?_ ?_
    · intro h3 s4 h5
      refine State.put_fr (Fr.sub hm rfl) (Fr.bit hm rfl) ?_
      refine State.clearMem_fr (Fr.bit hm rfl) ?_
      exact h5
    · exact h
  clear_value x1
  refine State.flag_fr (Fr.sub hm rfl) (Fr.bit hm rfl) ?_
  refine State.clearMem_fr (Fr.bit hm rfl) ?_
  exact h2

theorem execEccWriteback_fr {t}
    (hm : 0x1000000000000000000000000000000000000000000000000000000000000000000000000000 ||| m = m) (h : Fr m s₀ s)
    (e : execEccWriteback s = .next t) : Fr m s₀ t := by
  unfold execEccWriteback at e
  cases e
  refine Fr.set_memx (Fr.bit hm rfl) ?_
  exact h

theorem execScrubRead_fr {a0 a1} {t}
    (hm : 0x40003000000000000000000000000000000000058000000000000000000000000000000000000000 ||| m = m) (h : Fr m s₀ s)
    (e : execScrubRead a0 a1 s = .next t) : Fr m s₀ t := by
  unfold execScrubRead at e
  cases e
  refine State.ship_fr (Fr.sub hm rfl) ?_
  split
  · exact h
  · refine Fr.ite ?_ ?_
    · exact h
    · extract_lets +onlyGivenNames x0
      have h1 : Fr m s₀ x0 := by
        unfold x0
        refine State.eccEvent_fr (Fr.sub hm rfl) ?_
        exact h
      clear_value x0
      refine Fr.ite ?_ ?_
      · refine State.eccReport_fr (Fr.sub hm rfl) ?_
        exact h1
      · exact h1

theorem execBankWakeDone_fr {a0} {t}
    (hm : 0x40000000000000000000000000000000000000004000000000000000000000000000000000000000 ||| m = m) (h : Fr m s₀ s)
    (e : execBankWakeDone a0 s = .next t) : Fr m s₀ t := by
  unfold execBankWakeDone at e
  cases e
  refine State.ship_fr (Fr.sub hm rfl) ?_
  refine Fr.ite ?_ ?_
  · refine State.put_fr (Fr.sub hm rfl) (Fr.bit hm rfl) ?_
    exact h
  · exact h

theorem execBankInitDone_fr {t}
    (hm : 0x40000010000000000000000000000000000000004000000000000000000000000000000000000000 ||| m = m) (h : Fr m s₀ s)
    (e : execBankInitDone s = .next t) : Fr m s₀ t := by
  unfold execBankInitDone at e
  cases e
  refine State.ship_fr (Fr.sub hm rfl) ?_
  split
  · refine State.initBanks_fr (Fr.sub hm rfl) ?_
    exact h
  · refine State.initBanks_fr (Fr.sub hm rfl) ?_
    exact h
  · refine State.initBanks_fr (Fr.sub hm rfl) ?_
    exact h
  · refine State.initBanks_fr (Fr.sub hm rfl) ?_
    exact h
  · exact h

end Sys2Proof.Machine
end

