-- ==== Sys2Proof/Laws/FrameWrites.lean ====
section
/-! SUPPORT. Frames (Laws/Frame.lean) of the functions of Machine/Writes.lean: one lemma for each, which says by its mask which
registers and which parts of the state the function may change. -/

namespace Sys2Proof.Machine

variable {m : Nat} {s₀ s : State}

theorem State.accept_fr {a1} {a2 : RegRef} {a3} {a4 : Sys2Proof.Machine.State → Sys2Proof.Machine.State}
    (hm : 0x200000800000000000000000000000000000000000000000000000000000000000000000000000000 ||| m = m)
    (hf4 : ∀ s, Fr m s₀ s → Fr m s₀ (a4 s)) (h : Fr m s₀ s) : Fr m s₀ (State.accept s a1 a2 a3 a4) := by
  unfold State.accept
  refine Fr.ite ?_ ?_
  · refine hf4 _ ?_
    exact h
  · refine State.reserved_fr (Fr.sub hm rfl) ?_
    exact h

theorem State.storeWrite_fr {a1} {a2 : RegRef} {a3} (hm : 0x0 ||| m = m) (hp2 : m.testBit a2.reg.ctorIdx = true) (h :
    Fr m s₀ s) : Fr m s₀ (State.storeWrite s a1 a2 a3) := by
  unfold State.storeWrite
  refine State.setReg_fr hp2 ?_
  exact h

end Sys2Proof.Machine
end

