-- ==== Sys2Proof/Laws/FrameLch.lean ====
section
/-! SUPPORT. Frames (Laws/Frame.lean) of the functions of Machine/Lch.lean: one lemma for each, which says by its mask which
registers and which parts of the state the function may change. -/

namespace Sys2Proof.Machine

variable {m : Nat} {s₀ s : State}

theorem State.setLc_fr {a1 a2}
    (hm : 0x400000000000000000000000000000000000000000000000000000000000000000000000000000 ||| m = m) (h : Fr m s₀ s) :
    Fr m s₀ (State.setLc s a1 a2) := by
  unfold State.setLc
  refine Fr.set_lch (Fr.bit hm rfl) ?_
  exact h

theorem State.discover_fr {a1}
    (hm : 0x400000000000000000000000000000000000000000000002000000000000000000000000000000 ||| m = m) (h : Fr m s₀ s) :
    Fr m s₀ (State.discover s a1) := by
  unfold State.discover
  refine State.setLc_fr (Fr.sub hm rfl) ?_
  refine State.put_fr (Fr.sub hm rfl) (Fr.bit hm rfl) ?_
  exact h

theorem State.runLchCtlDisc_fr {a1 a2}
    (hm : 0x200400800000000000000000000000000000000000000000002000000000000000000000000000000 ||| m = m) (h : Fr m s₀ s) :
    Fr m s₀ (State.runLchCtlDisc s a1 a2) := by
  unfold State.runLchCtlDisc
  refine Fr.ite ?_ ?_
  · refine State.reserved_fr (Fr.sub hm rfl) ?_
    exact h
  · refine Fr.ite ?_ ?_
    · refine State.discover_fr (Fr.sub hm rfl) ?_
      exact h
    · exact h

theorem State.runLchCtlSwap_fr {a1 a2}
    (hm : 0x200000800000000000000000000000000000000000000000002000000000000000000000000000000 ||| m = m) (h : Fr m s₀ s) :
    Fr m s₀ (State.runLchCtlSwap s a1 a2) := by
  unfold State.runLchCtlSwap
  refine Fr.ite ?_ ?_
  · refine State.flag_fr (Fr.sub hm rfl) (Fr.bit hm rfl) ?_
    exact h
  · refine State.reserved_fr (Fr.sub hm rfl) ?_
    exact h

theorem State.lchFabric_fr {a1}
    (hm : 0x400000000000000000000000000000000000000000000002000000000000000000000000000000 ||| m = m) (h : Fr m s₀ s) :
    Fr m s₀ (State.lchFabric s a1) := by
  unfold State.lchFabric
  refine Fr.forEach ?_ ?_
  · intro h0 s1 h2
    refine Fr.ite ?_ ?_
    · refine State.discover_fr (Fr.sub hm rfl) ?_
      exact h2
    · refine Fr.ite ?_ ?_
      · exact h2
      · refine State.setLc_fr (Fr.sub hm rfl) ?_
        refine State.put_fr (Fr.sub hm rfl) (Fr.bit hm rfl) ?_
        exact h2
  · exact h

theorem State.statusFaults_fr {a1 a2}
    (hm : 0x402000000000000000000000000000000000000000000002000000000000000000000000000000 ||| m = m) (h : Fr m s₀ s) :
    Fr m s₀ (State.statusFaults s a1 a2) := by
  unfold State.statusFaults
  extract_lets +onlyGivenNames x0
  clear_value x0
  extract_lets +onlyGivenNames x1
  clear_value x1
  extract_lets +onlyGivenNames x2
  clear_value x2
  extract_lets +onlyGivenNames x3
  have h4 : Fr m s₀ x3 := by
    unfold x3
    refine State.setLc_fr (Fr.sub hm rfl) ?_
    exact h
  clear_value x3
  split
  · refine State.raise_fr (Fr.sub hm rfl) ?_
    refine State.flag_fr (Fr.sub hm rfl) (Fr.bit hm rfl) ?_
    exact h4
  · exact h4

theorem State.writeStatus_fr {a1 a2}
    (hm : 0x10000000000000000000000000000000000000000000000000000000000000000000000000 ||| m = m) (h : Fr m s₀ s) :
    Fr m s₀ (State.writeStatus s a1 a2) := by
  unfold State.writeStatus
  refine Fr.forEach ?_ ?_
  · intro h0 s1 h2
    refine State.setBytes_fr (Fr.sub hm rfl) ?_
    exact h2
  · exact h

theorem execRefreshStart_fr {a0} {t}
    (hm : 0x40403000000000000000000000000000000000058000000002000000000000000000000000000000 ||| m = m) (h : Fr m s₀ s)
    (e : execRefreshStart a0 s = .next t) : Fr m s₀ t := by
  unfold execRefreshStart at e
  cases e
  refine State.ship_fr (Fr.sub hm rfl) ?_
  extract_lets +onlyGivenNames x0
  clear_value x0
  refine Fr.ite ?_ ?_
  · exact h
  · extract_lets +onlyGivenNames x1
    have h2 : Fr m s₀ x1 := by
      unfold x1
      refine Fr.ite ?_ ?_
      · refine State.flag_fr (Fr.sub hm rfl) (Fr.bit hm rfl) ?_
        refine State.flag_fr (Fr.sub hm rfl) (Fr.bit hm rfl) ?_
        exact h
      · exact h
    clear_value x1
    extract_lets +onlyGivenNames x3
    clear_value x3
    extract_lets +onlyGivenNames x4
    clear_value x4
    extract_lets +onlyGivenNames x5
    clear_value x5
    extract_lets +onlyGivenNames x6
    clear_value x6
    extract_lets +onlyGivenNames x7
    clear_value x7
    extract_lets +onlyGivenNames x8
    clear_value x8
    extract_lets +onlyGivenNames x9
    have h10 : Fr m s₀ x9 := by
      unfold x9
      split
      · refine Fr.ite ?_ ?_
        · refine State.eccEvent_fr (Fr.sub hm rfl) ?_
          exact h2
        · exact h2
      · exact h2
    clear_value x9
    refine State.setLc_fr (Fr.sub hm rfl) ?_
    exact h10

theorem execRefreshComplete_fr {a0 a1} {t}
    (hm : 0x40402010000000000000000000000000000000000000000006000000000000000000000000000000 ||| m = m) (h : Fr m s₀ s)
    (e : execRefreshComplete a0 a1 s = .next t) : Fr m s₀ t := by
  unfold execRefreshComplete at e
  cases e
  refine State.ship_fr (Fr.sub hm rfl) ?_
  extract_lets +onlyGivenNames x0
  clear_value x0
  refine Fr.ite ?_ ?_
  · exact h
  · extract_lets +onlyGivenNames x1
    clear_value x1
    extract_lets +onlyGivenNames x2
    have h3 : Fr m s₀ x2 := by
      unfold x2
      refine Fr.ite ?_ ?_
      · refine State.statusFaults_fr (Fr.sub hm rfl) ?_
        refine State.writeStatus_fr (Fr.sub hm rfl) ?_
        exact h
      · exact h
    clear_value x2
    extract_lets +onlyGivenNames x4
    have h5 : Fr m s₀ x4 := by
      unfold x4
      refine State.wrap_fr (Fr.sub hm rfl) (Fr.bit hm rfl) ?_
      exact h3
    clear_value x4
    extract_lets +onlyGivenNames x6
    clear_value x6
    extract_lets +onlyGivenNames x7
    have h8 : Fr m s₀ x7 := by
      unfold x7
      refine State.setLc_fr (Fr.sub hm rfl) ?_
      exact h5
    clear_value x7
    split
    · extract_lets +onlyGivenNames x9
      have h10 : Fr m s₀ x9 := by
        unfold x9
        refine State.raise_fr (Fr.sub hm rfl) ?_
        refine State.count_fr (Fr.sub hm rfl) (Fr.bit hm rfl) ?_
        refine State.flag_fr (Fr.sub hm rfl) (Fr.bit hm rfl) ?_
        exact h8
      clear_value x9
      refine Fr.ite ?_ ?_
      · refine State.discover_fr (Fr.sub hm rfl) ?_
        exact h10
      · exact h10
    · exact h8

theorem execChainUnderrun_fr {a0} {t}
    (hm : 0x40403000000000000000000000000000000000058000000006000000000000000000000000000000 ||| m = m) (h : Fr m s₀ s)
    (e : execChainUnderrun a0 s = .next t) : Fr m s₀ t := by
  unfold execChainUnderrun at e
  cases e
  refine State.ship_fr (Fr.sub hm rfl) ?_
  extract_lets +onlyGivenNames x0
  clear_value x0
  extract_lets +onlyGivenNames x1
  clear_value x1
  refine Fr.ite ?_ ?_
  · exact h
  · extract_lets +onlyGivenNames x2
    have h3 : Fr m s₀ x2 := by
      unfold x2
      split
      · extract_lets +onlyGivenNames x4
        clear_value x4
        refine Fr.ite ?_ ?_
        · refine State.eccReport_fr (Fr.sub hm rfl) ?_
          refine State.eccEvent_fr (Fr.sub hm rfl) ?_
          exact h
        · exact h
      · exact h
    clear_value x2
    extract_lets +onlyGivenNames x5
    have h6 : Fr m s₀ x5 := by
      unfold x5
      refine State.setLc_fr (Fr.sub hm rfl) ?_
      exact h3
    clear_value x5
    extract_lets +onlyGivenNames x7
    have h8 : Fr m s₀ x7 := by
      unfold x7
      refine State.count_fr (Fr.sub hm rfl) (Fr.bit hm rfl) ?_
      refine State.flag_fr (Fr.sub hm rfl) (Fr.bit hm rfl) ?_
      exact h6
    clear_value x7
    refine Fr.ite ?_ ?_
    · refine State.raise_fr (Fr.sub hm rfl) ?_
      exact h8
    · exact h8

theorem execLchCtlSwap_fr {a0 a1} {t}
    (hm : 0x240000800000000000000000000000000000000000000000002000000000000000000000000000000 ||| m = m) (h : Fr m s₀ s)
    (e : execLchCtlSwap a0 a1 s = .next t) : Fr m s₀ t := by
  unfold execLchCtlSwap at e
  cases e
  refine State.ship_fr (Fr.sub hm rfl) ?_
  refine State.asWho_fr (Fr.sub hm rfl) ?_ ?_
  · intro s0 h1
    refine State.runLchCtlSwap_fr (Fr.sub hm rfl) ?_
    exact h1
  · exact h

theorem execLchCtlDisc_fr {a0 a1} {t}
    (hm : 0x240400800000000000000000000000000000000000000000002000000000000000000000000000000 ||| m = m) (h : Fr m s₀ s)
    (e : execLchCtlDisc a0 a1 s = .next t) : Fr m s₀ t := by
  unfold execLchCtlDisc at e
  cases e
  refine State.ship_fr (Fr.sub hm rfl) ?_
  refine State.asWho_fr (Fr.sub hm rfl) ?_ ?_
  · intro s0 h1
    refine State.runLchCtlDisc_fr (Fr.sub hm rfl) ?_
    exact h1
  · exact h

theorem execDiscoveryDone_fr {a0 a1 a2} {t}
    (hm : 0x4040200000000000000000000000000000000000000000000a000000000000000000000000000000 ||| m = m) (h : Fr m s₀ s)
    (e : execDiscoveryDone a0 a1 a2 s = .next t) : Fr m s₀ t := by
  unfold execDiscoveryDone at e
  cases e
  refine State.ship_fr (Fr.sub hm rfl) ?_
  refine Fr.ite ?_ ?_
  · exact h
  · split
    · refine State.raise_fr (Fr.sub hm rfl) ?_
      refine State.put_fr (Fr.sub hm rfl) (Fr.bit hm rfl) ?_
      refine State.put_fr (Fr.sub hm rfl) (Fr.bit hm rfl) ?_
      exact h
    · extract_lets +onlyGivenNames x0
      have h1 : Fr m s₀ x0 := by
        unfold x0
        refine State.put_fr (Fr.sub hm rfl) (Fr.bit hm rfl) ?_
        refine State.put_fr (Fr.sub hm rfl) (Fr.bit hm rfl) ?_
        exact h
      clear_value x0
      refine Fr.ite ?_ ?_
      · refine State.raise_fr (Fr.sub hm rfl) ?_
        refine State.put_fr (Fr.sub hm rfl) (Fr.bit hm rfl) ?_
        exact h1
      · refine State.setLc_fr (Fr.sub hm rfl) ?_
        refine State.put_fr (Fr.sub hm rfl) (Fr.bit hm rfl) ?_
        exact h1

theorem execDiscoveryRetry_fr {a0} {t}
    (hm : 0x40400000000000000000000000000000000000000000000002000000000000000000000000000000 ||| m = m) (h : Fr m s₀ s)
    (e : execDiscoveryRetry a0 s = .next t) : Fr m s₀ t := by
  unfold execDiscoveryRetry at e
  cases e
  refine State.ship_fr (Fr.sub hm rfl) ?_
  refine Fr.ite ?_ ?_
  · refine State.discover_fr (Fr.sub hm rfl) ?_
    exact h
  · exact h

end Sys2Proof.Machine
end

