-- ==== Sys2Proof/Laws/FrameCanCore.lean ====
section
/-! SUPPORT. Frames (Laws/Frame.lean) of the functions of Machine/CanCore.lean: one lemma for each, which says by its mask which
registers and which parts of the state the function may change. -/

namespace Sys2Proof.Machine

variable {m : Nat} {s₀ s : State}

theorem State.canEvent_fr {a1 a2}
    (hm : 0x12000c00000000000000000000000000000020000920010000000000000000000000000280000000 ||| m = m) (h : Fr m s₀ s) :
    Fr m s₀ (State.canEvent s a1 a2) := by
  unfold State.canEvent
  refine Fr.ite ?_ ?_
  · refine State.event_fr (Fr.sub hm rfl) ?_
    exact h
  · exact h

theorem State.ackError_fr {a1 a2}
    (hm : 0x12002c40000000000000000000000000000023000920010000000000000000000000000280000000 ||| m = m) (h : Fr m s₀ s) :
    Fr m s₀ (State.ackError s a1 a2) := by
  unfold State.ackError
  extract_lets +onlyGivenNames x0
  have h1 : Fr m s₀ x0 := by
    unfold x0
    refine State.put_fr (Fr.sub hm rfl) (Fr.bit hm rfl) ?_
    exact h
  clear_value x0
  refine Fr.ite ?_ ?_
  · extract_lets +onlyGivenNames x2
    have h3 : Fr m s₀ x2 := by
      unfold x2
      refine State.flag_fr (Fr.sub hm rfl) (Fr.bit hm rfl) ?_
      exact h1
    clear_value x2
    extract_lets +onlyGivenNames x4
    have h5 : Fr m s₀ x4 := by
      unfold x4
      refine Fr.ite ?_ ?_
      · refine State.raiseCond_fr (Fr.sub hm rfl) ?_
        exact h3
      · split
        rename_i y6 y7 y8 y9
        refine Fr.cutp y9 ?_ (fun h10 => ?_)
        · refine State.takeFree_fr (Fr.sub hm rfl) ?_
          exact h3
        refine State.raiseCond_fr (Fr.sub hm rfl) ?_
        exact h10
    clear_value x4
    refine State.canEvent_fr (Fr.sub hm rfl) ?_
    exact h5
  · exact h1

theorem State.setBst_fr {a1 a2 a3}
    (hm : 0x12000c00000000000000000000000000081820000920010000000000000000000000000280000000 ||| m = m) (h : Fr m s₀ s) :
    Fr m s₀ (State.setBst s a1 a2 a3) := by
  unfold State.setBst
  refine Fr.ite ?_ ?_
  · refine State.setCp_fr (Fr.sub hm rfl) ?_
    exact h
  · extract_lets +onlyGivenNames x0
    have h1 : Fr m s₀ x0 := by
      unfold x0
      refine State.put_fr (Fr.sub hm rfl) (Fr.bit hm rfl) ?_
      exact h
    clear_value x0
    extract_lets +onlyGivenNames x2
    clear_value x2
    extract_lets +onlyGivenNames x3
    have h4 : Fr m s₀ x3 := by
      unfold x3
      refine State.put_fr (Fr.sub hm rfl) (Fr.bit hm rfl) ?_
      exact h1
    clear_value x3
    refine Fr.ite ?_ ?_
    · refine State.canEvent_fr (Fr.sub hm rfl) ?_
      refine State.put_fr (Fr.sub hm rfl) (Fr.bit hm rfl) ?_
      exact h4
    · exact h4

theorem State.stageNext_fr {a1}
    (hm : 0x2000000000000000000000000000000000000000000000000000000000000000000000000000000 ||| m = m) (h : Fr m s₀ s) :
    Fr m s₀ (State.stageNext s a1) := by
  unfold State.stageNext
  split
  · exact h
  · split
    · refine State.setCp_fr (Fr.sub hm rfl) ?_
      exact h
    · exact h

theorem State.clearLonely_fr {a1}
    (hm : 0x12002c00000000000000010000000000081823000920010000000000000000000000000280000000 ||| m = m) (h : Fr m s₀ s) :
    Fr m s₀ (State.clearLonely s a1) := by
  unfold State.clearLonely
  extract_lets +onlyGivenNames x0
  clear_value x0
  extract_lets +onlyGivenNames x1
  have h2 : Fr m s₀ x1 := by
    unfold x1
    refine State.flag_fr (Fr.sub hm rfl) (Fr.bit hm rfl) ?_
    refine State.put_fr (Fr.sub hm rfl) (Fr.bit hm rfl) ?_
    exact h
  clear_value x1
  extract_lets +onlyGivenNames x3
  have h4 : Fr m s₀ x3 := by
    unfold x3
    refine Fr.forEach ?_ ?_
    · intro h5 s6 h7
      refine Fr.ite ?_ ?_
      · extract_lets +onlyGivenNames x8
        have h9 : Fr m s₀ x8 := by
          unfold x8
          refine State.setBst_fr (Fr.sub hm rfl) ?_
          exact h7
        clear_value x8
        refine Fr.ite ?_ ?_
        · exact h9
        · refine State.flag_fr (Fr.sub hm rfl) (Fr.bit hm rfl) ?_
          exact h9
      · exact h7
    · exact h2
  clear_value x3
  extract_lets +onlyGivenNames x10
  have h11 : Fr m s₀ x10 := by
    unfold x10
    refine State.stageNext_fr (Fr.sub hm rfl) ?_
    exact h4
  clear_value x10
  refine Fr.ite ?_ ?_
  · refine State.canEvent_fr (Fr.sub hm rfl) ?_
    refine State.clearSrc_fr (Fr.sub hm rfl) ?_
    exact h11
  · exact h11

theorem State.setCanSt_fr {a1 a2}
    (hm : 0x12000c00000000000000000000000000000021000920010000000000000000000000000280000000 ||| m = m) (h : Fr m s₀ s) :
    Fr m s₀ (State.setCanSt s a1 a2) := by
  unfold State.setCanSt
  refine Fr.ite ?_ ?_
  · exact h
  · extract_lets +onlyGivenNames x0
    extract_lets +onlyGivenNames x1
    have h2 : Fr m s₀ x1 := by
      unfold x1
      refine State.put_fr (Fr.sub hm rfl) (Fr.bit hm rfl) ?_
      exact h
    clear_value x1
    extract_lets +onlyGivenNames x3
    clear_value x3
    extract_lets +onlyGivenNames x4
    have h5 : Fr m s₀ x4 := by
      unfold x4
      refine Fr.ite ?_ ?_
      · refine State.setCp_fr (Fr.sub hm rfl) ?_
        exact h2
      · exact h2
    clear_value x4
    refine Fr.ite ?_ ?_
    · refine State.canEvent_fr (Fr.sub hm rfl) ?_
      exact h5
    · exact h5

theorem State.unstage_fr {a1 a2}
    (hm : 0x2000000000000000000000000000000000000000000000000000000000000000000000000000000 ||| m = m) (h : Fr m s₀ s) :
    Fr m s₀ (State.unstage s a1 a2) := by
  unfold State.unstage
  extract_lets +onlyGivenNames x0
  clear_value x0
  refine Fr.ite ?_ ?_
  · refine State.stageNext_fr (Fr.sub hm rfl) ?_
    refine State.setCp_fr (Fr.sub hm rfl) ?_
    exact h
  · exact h

theorem State.endBuf_fr {a1 a2 a3 a4 a5}
    (hm : 0x12000c00000000000000000000000000081820000920010000000000000000000000000280000000 ||| m = m) (h : Fr m s₀ s) :
    Fr m s₀ (State.endBuf s a1 a2 a3 a4 a5) := by
  unfold State.endBuf
  extract_lets +onlyGivenNames x0
  have h1 : Fr m s₀ x0 := by
    unfold x0
    refine Fr.ite ?_ ?_
    · exact h
    · refine State.flag_fr (Fr.sub hm rfl) (Fr.bit hm rfl) ?_
      refine State.put_fr (Fr.sub hm rfl) (Fr.bit hm rfl) ?_
      refine State.flag_fr (Fr.sub hm rfl) (Fr.bit hm rfl) ?_
      exact h
  clear_value x0
  refine State.unstage_fr (Fr.sub hm rfl) ?_
  refine State.setBst_fr (Fr.sub hm rfl) ?_
  exact h1

theorem State.integrate_fr {a1}
    (hm : 0x12000c00000000000000000000000000000021000920010000000000000000000000000280000000 ||| m = m) (h : Fr m s₀ s) :
    Fr m s₀ (State.integrate s a1) := by
  unfold State.integrate
  refine State.setCanSt_fr (Fr.sub hm rfl) ?_
  refine State.setCp_fr (Fr.sub hm rfl) ?_
  exact h

theorem State.driveWup_fr {a1}
    (hm : 0x2000000000000000000000000000000000000000000000000000000000000000000000000000000 ||| m = m) (h : Fr m s₀ s) :
    Fr m s₀ (State.driveWup s a1) := by
  unfold State.driveWup
  refine State.setCp_fr (Fr.sub hm rfl) ?_
  exact h

theorem State.canAfter_fr {a1}
    (hm : 0x12000c00000000000000000000000000000021000920010000000000000000000000000280000000 ||| m = m) (h : Fr m s₀ s) :
    Fr m s₀ (State.canAfter s a1) := by
  unfold State.canAfter
  split
  · refine State.integrate_fr (Fr.sub hm rfl) ?_
    exact h
  · refine State.setCanSt_fr (Fr.sub hm rfl) ?_
    refine State.setCp_fr (Fr.sub hm rfl) ?_
    exact h
  · refine State.setCanSt_fr (Fr.sub hm rfl) ?_
    refine State.setCp_fr (Fr.sub hm rfl) ?_
    exact h
  · exact h

theorem State.canStop_fr {a1 a2}
    (hm : 0x12000c00000000000000000000000000000021000920010000000000000000000000000280000000 ||| m = m) (h : Fr m s₀ s) :
    Fr m s₀ (State.canStop s a1 a2) := by
  unfold State.canStop
  extract_lets +onlyGivenNames x0
  clear_value x0
  extract_lets +onlyGivenNames x1
  have h2 : Fr m s₀ x1 := by
    unfold x1
    refine State.setCp_fr (Fr.sub hm rfl) ?_
    exact h
  clear_value x1
  refine Fr.ite ?_ ?_
  · exact h2
  · refine State.canAfter_fr (Fr.sub hm rfl) ?_
    exact h2

theorem State.nmRequest_fr {a1 a2 a3}
    (hm : 0x2000000000000000000000000000000000000000000000000000000000000000000000000000000 ||| m = m) (h : Fr m s₀ s) :
    Fr m s₀ (State.nmRequest s a1 a2 a3) := by
  unfold State.nmRequest
  extract_lets +onlyGivenNames x0
  clear_value x0
  extract_lets +onlyGivenNames x1
  refine Fr.ite ?_ ?_
  · refine State.setCp_fr (Fr.sub hm rfl) ?_
    exact h
  · refine Fr.ite ?_ ?_
    · refine State.setCp_fr (Fr.sub hm rfl) ?_
      exact h
    · refine State.setCp_fr (Fr.sub hm rfl) ?_
      exact h

theorem State.canStart_fr {a1}
    (hm : 0x12000c00000000000000000000000000000021000920010000000000000000000000000280000000 ||| m = m) (h : Fr m s₀ s) :
    Fr m s₀ (State.canStart s a1) := by
  unfold State.canStart
  extract_lets +onlyGivenNames x0
  have h1 : Fr m s₀ x0 := by
    unfold x0
    refine State.put_fr (Fr.sub hm rfl) (Fr.bit hm rfl) ?_
    refine State.put_fr (Fr.sub hm rfl) (Fr.bit hm rfl) ?_
    exact h
  clear_value x0
  refine Fr.ite ?_ ?_
  · refine State.integrate_fr (Fr.sub hm rfl) ?_
    exact h1
  · refine State.setCanSt_fr (Fr.sub hm rfl) ?_
    refine State.setCp_fr (Fr.sub hm rfl) ?_
    exact h1

theorem State.retry_fr {a1}
    (hm : 0x12000c00000000000000000000000000081820000920010000000000000000000000000280000000 ||| m = m) (h : Fr m s₀ s) :
    Fr m s₀ (State.retry s a1) := by
  unfold State.retry
  split
  · exact h
  · extract_lets +onlyGivenNames x0
    clear_value x0
    extract_lets +onlyGivenNames x1
    clear_value x1
    extract_lets +onlyGivenNames x2
    have h3 : Fr m s₀ x2 := by
      unfold x2
      refine State.setCp_fr (Fr.sub hm rfl) ?_
      exact h
    clear_value x2
    refine Fr.ite ?_ ?_
    · refine State.endBuf_fr (Fr.sub hm rfl) ?_
      exact h3
    · refine State.setBst_fr (Fr.sub hm rfl) ?_
      exact h3

theorem State.busOff_fr {a1}
    (hm : 0x12002c00000000000000010000000000081823000920010000000000000000000000000280000000 ||| m = m) (h : Fr m s₀ s) :
    Fr m s₀ (State.busOff s a1) := by
  unfold State.busOff
  extract_lets +onlyGivenNames x0
  have h1 : Fr m s₀ x0 := by
    unfold x0
    refine State.put_fr (Fr.sub hm rfl) (Fr.bit hm rfl) ?_
    exact h
  clear_value x0
  extract_lets +onlyGivenNames x2
  have h3 : Fr m s₀ x2 := by
    unfold x2
    refine State.raise_fr (Fr.sub hm rfl) ?_
    exact h1
  clear_value x2
  refine State.setCanSt_fr (Fr.sub hm rfl) ?_
  refine State.clearLonely_fr (Fr.sub hm rfl) ?_
  refine State.retry_fr (Fr.sub hm rfl) ?_
  exact h3

theorem State.canErr_fr {a1 a2} (hm : 0x2000000000000000000000000000000000000000000 ||| m = m) (h : Fr m s₀ s) :
    Fr m s₀ (State.canErr s a1 a2) := by
  unfold State.canErr
  refine State.wrap_fr (Fr.sub hm rfl) (Fr.bit hm rfl) ?_
  refine State.flag_fr (Fr.sub hm rfl) (Fr.bit hm rfl) ?_
  refine State.put_fr (Fr.sub hm rfl) (Fr.bit hm rfl) ?_
  exact h

theorem State.canOverflow_fr {a1 a2 a3}
    (hm : 0x2002000000000000000000000000000000020000000000000000000000000000000000000000000 ||| m = m) (h : Fr m s₀ s) :
    Fr m s₀ (State.canOverflow s a1 a2 a3) := by
  unfold State.canOverflow
  refine Fr.ite ?_ ?_
  · exact h
  · extract_lets +onlyGivenNames x0
    have h1 : Fr m s₀ x0 := by
      unfold x0
      refine State.put_fr (Fr.sub hm rfl) (Fr.bit hm rfl) ?_
      exact h
    clear_value x0
    extract_lets +onlyGivenNames x2
    clear_value x2
    extract_lets +onlyGivenNames x3
    clear_value x3
    extract_lets +onlyGivenNames x4
    clear_value x4
    refine Fr.ite ?_ ?_
    · refine State.raise_fr (Fr.sub hm rfl) ?_
      refine State.setCq_fr (Fr.sub hm rfl) ?_
      exact h1
    · refine State.setCq_fr (Fr.sub hm rfl) ?_
      exact h1

theorem State.canStore_fr {a1 a2 a3 a4 a5}
    (hm : 0x12002c00000000000000000000000000000020000920010000000000000000000000000280000000 ||| m = m) (h : Fr m s₀ s) :
    Fr m s₀ (State.canStore s a1 a2 a3 a4 a5) := by
  unfold State.canStore
  extract_lets +onlyGivenNames x0
  clear_value x0
  extract_lets +onlyGivenNames x1
  clear_value x1
  extract_lets +onlyGivenNames x2
  clear_value x2
  extract_lets +onlyGivenNames x3
  clear_value x3
  extract_lets +onlyGivenNames x4
  clear_value x4
  extract_lets +onlyGivenNames x5
  clear_value x5
  extract_lets +onlyGivenNames x6
  clear_value x6
  extract_lets +onlyGivenNames x7
  clear_value x7
  extract_lets +onlyGivenNames x8
  clear_value x8
  refine Fr.ite ?_ ?_
  · extract_lets +onlyGivenNames x9
    have h10 : Fr m s₀ x9 := by
      unfold x9
      refine State.canOverflow_fr (Fr.sub hm rfl) ?_
      exact h
    clear_value x9
    extract_lets +onlyGivenNames x11
    clear_value x11
    extract_lets +onlyGivenNames x12
    have h13 : Fr m s₀ x12 := by
      unfold x12
      refine State.setCq_fr (Fr.sub hm rfl) ?_
      exact h10
    clear_value x12
    refine State.canEvent_fr (Fr.sub hm rfl) ?_
    refine State.canSetRecs_fr (Fr.sub hm rfl) ?_
    exact h13
  · refine State.canOverflow_fr (Fr.sub hm rfl) ?_
    refine State.canSetRecs_fr (Fr.sub hm rfl) ?_
    refine State.canOverflow_fr (Fr.sub hm rfl) ?_
    exact h

theorem State.confine_fr {a1 a2 a3}
    (hm : 0x12002c00000000000000010000000000081823000920010000000000000000000000000280000000 ||| m = m) (h : Fr m s₀ s) :
    Fr m s₀ (State.confine s a1 a2 a3) := by
  unfold State.confine
  extract_lets +onlyGivenNames x0
  have h1 : Fr m s₀ x0 := by
    unfold x0
    refine State.put_fr (Fr.sub hm rfl) (Fr.bit hm rfl) ?_
    refine State.put_fr (Fr.sub hm rfl) (Fr.bit hm rfl) ?_
    exact h
  clear_value x0
  extract_lets +onlyGivenNames x2
  clear_value x2
  refine Fr.ite ?_ ?_
  · exact h1
  · refine Fr.ite ?_ ?_
    · refine State.busOff_fr (Fr.sub hm rfl) ?_
      exact h1
    · refine Fr.ite ?_ ?_
      · refine Fr.ite ?_ ?_
        · refine State.setCanSt_fr (Fr.sub hm rfl) ?_
          refine State.raise_fr (Fr.sub hm rfl) ?_
          exact h1
        · exact h1
      · refine State.setCanSt_fr (Fr.sub hm rfl) ?_
        exact h1

theorem State.recGood_fr {a1}
    (hm : 0x12002c40000000000000010000000000081823000920010000000000000000000000000280000000 ||| m = m) (h : Fr m s₀ s) :
    Fr m s₀ (State.recGood s a1) := by
  unfold State.recGood
  extract_lets +onlyGivenNames x0
  clear_value x0
  refine Fr.ite ?_ ?_
  · split
    rename_i y1 y2 y3 y4
    refine Fr.cutp y4 ?_ (fun h5 => ?_)
    · refine State.takeFree_fr (Fr.sub hm rfl) ?_
      exact h
    refine State.confine_fr (Fr.sub hm rfl) ?_
    exact h5
  · refine State.confine_fr (Fr.sub hm rfl) ?_
    exact h

theorem State.integrated_fr {a1}
    (hm : 0x12000c00000000000000000000000000000021000920010000000000000000000000000280000000 ||| m = m) (h : Fr m s₀ s) :
    Fr m s₀ (State.integrated s a1) := by
  unfold State.integrated
  extract_lets +onlyGivenNames x0
  clear_value x0
  extract_lets +onlyGivenNames x1
  have h2 : Fr m s₀ x1 := by
    unfold x1
    refine State.setCp_fr (Fr.sub hm rfl) ?_
    exact h
  clear_value x1
  refine Fr.ite ?_ ?_
  · refine State.setCanSt_fr (Fr.sub hm rfl) ?_
    exact h2
  · refine Fr.ite ?_ ?_
    · refine State.setCanSt_fr (Fr.sub hm rfl) ?_
      exact h2
    · refine State.setCanSt_fr (Fr.sub hm rfl) ?_
      exact h2

theorem State.nmFollow_fr {a1}
    (hm : 0x2000000000000000000000000000000000000000000000000000000000000000000000000000000 ||| m = m) (h : Fr m s₀ s) :
    Fr m s₀ (State.nmFollow s a1) := by
  unfold State.nmFollow
  extract_lets +onlyGivenNames x0
  clear_value x0
  split
  · refine Fr.ite ?_ ?_
    · refine State.setCp_fr (Fr.sub hm rfl) ?_
      exact h
    · exact h
  · exact h

end Sys2Proof.Machine
end

