-- ==== Sys2Proof/Laws/FrameLinCore.lean ====
section
/-! SUPPORT. Frames (Laws/Frame.lean) of the functions of Machine/LinCore.lean: one lemma for each, which says by its mask which
registers and which parts of the state the function may change. -/

namespace Sys2Proof.Machine

variable {m : Nat} {s₀ s : State}

theorem State.linPut_fr {a1 a2 a3} (hm : 0x6000000000000000000000000000000000000000000000000 ||| m = m) (h : Fr m s₀ s) :
    Fr m s₀ (State.linPut s a1 a2 a3) := by
  unfold State.linPut
  extract_lets +onlyGivenNames x0
  clear_value x0
  refine State.setReg_fr (Fr.reg .LIN_D1 hm rfl) ?_
  refine State.setReg_fr (Fr.reg .LIN_D0 hm rfl) ?_
  exact h

theorem State.setLp_fr {a1 a2}
    (hm : 0x4000000000000000000000000000000000000000000000000000000000000000000000000000000 ||| m = m) (h : Fr m s₀ s) :
    Fr m s₀ (State.setLp s a1 a2) := by
  unfold State.setLp
  refine Fr.set_lin (Fr.bit hm rfl) ?_
  exact h

theorem State.linTable_fr {a1 a2}
    (hm : 0x4000000000000000000000000000000400000000000000000000000000000000000000000000000 ||| m = m) (h : Fr m s₀ s) :
    Fr m s₀ (State.linTable s a1 a2) := by
  unfold State.linTable
  extract_lets +onlyGivenNames x0
  clear_value x0
  extract_lets +onlyGivenNames x1
  have h2 : Fr m s₀ x1 := by
    unfold x1
    refine State.setLp_fr (Fr.sub hm rfl) ?_
    exact h
  clear_value x1
  refine State.put_fr (Fr.sub hm rfl) (Fr.bit hm rfl) ?_
  refine State.put_fr (Fr.sub hm rfl) (Fr.bit hm rfl) ?_
  exact h2

theorem State.linSelect_fr {a1 a2}
    (hm : 0x4000000000000000000000000000000400000000000000000000000000000000000000000000000 ||| m = m) (h : Fr m s₀ s) :
    Fr m s₀ (State.linSelect s a1 a2) := by
  unfold State.linSelect
  extract_lets +onlyGivenNames x0
  clear_value x0
  refine Fr.ite ?_ ?_
  · refine State.setLp_fr (Fr.sub hm rfl) ?_
    exact h
  · refine Fr.ite ?_ ?_
    · refine State.linTable_fr (Fr.sub hm rfl) ?_
      exact h
    · refine State.setLp_fr (Fr.sub hm rfl) ?_
      exact h

theorem State.linPulse_fr {a1}
    (hm : 0x4000000000000000000000000000000000000000000000000000000000000000000000000000000 ||| m = m) (h : Fr m s₀ s) :
    Fr m s₀ (State.linPulse s a1) := by
  unfold State.linPulse
  refine State.setLp_fr (Fr.sub hm rfl) ?_
  exact h

theorem State.linWake_fr {a1 a2}
    (hm : 0x4000000000000000000000000000000400000000000000000000000000000000000000000000000 ||| m = m) (h : Fr m s₀ s) :
    Fr m s₀ (State.linWake s a1 a2) := by
  unfold State.linWake
  extract_lets +onlyGivenNames x0
  clear_value x0
  refine Fr.ite ?_ ?_
  · exact h
  · refine Fr.ite ?_ ?_
    · refine State.linPulse_fr (Fr.sub hm rfl) ?_
      refine State.setLp_fr (Fr.sub hm rfl) ?_
      exact h
    · refine Fr.ite ?_ ?_
      · extract_lets +onlyGivenNames x1
        clear_value x1
        refine State.linPulse_fr (Fr.sub hm rfl) ?_
        refine State.setLp_fr (Fr.sub hm rfl) ?_
        refine State.linTable_fr (Fr.sub hm rfl) ?_
        exact h
      · refine State.setLp_fr (Fr.sub hm rfl) ?_
        exact h

theorem State.linGoSleep_fr {a1}
    (hm : 0x4000000000000000000000000000000000000000000000000000000000000000000000000000000 ||| m = m) (h : Fr m s₀ s) :
    Fr m s₀ (State.linGoSleep s a1) := by
  unfold State.linGoSleep
  refine Fr.ite ?_ ?_
  · refine State.setLp_fr (Fr.sub hm rfl) ?_
    exact h
  · exact h

theorem State.linStart_fr {a1}
    (hm : 0x4000000000000000000000000000000400000000000000000000000000000000000000000000000 ||| m = m) (h : Fr m s₀ s) :
    Fr m s₀ (State.linStart s a1) := by
  unfold State.linStart
  extract_lets +onlyGivenNames x0
  clear_value x0
  extract_lets +onlyGivenNames x1
  have h2 : Fr m s₀ x1 := by
    unfold x1
    refine State.setLp_fr (Fr.sub hm rfl) ?_
    exact h
  clear_value x1
  refine State.linTable_fr (Fr.sub hm rfl) ?_
  exact h2

theorem State.linAdvance_fr {a1}
    (hm : 0x4000000000000000000000000000000400000000000000000000000000000000000000000000000 ||| m = m) (h : Fr m s₀ s) :
    Fr m s₀ (State.linAdvance s a1) := by
  unfold State.linAdvance
  extract_lets +onlyGivenNames x0
  clear_value x0
  refine Fr.ite ?_ ?_
  · exact h
  · split
    · refine State.linTable_fr (Fr.sub hm rfl) ?_
      exact h
    · split
      extract_lets +onlyGivenNames x1
      have h2 : Fr m s₀ x1 := by
        unfold x1
        refine State.setLp_fr (Fr.sub hm rfl) ?_
        exact h
      clear_value x1
      refine Fr.ite ?_ ?_
      · refine State.put_fr (Fr.sub hm rfl) (Fr.bit hm rfl) ?_
        refine State.put_fr (Fr.sub hm rfl) (Fr.bit hm rfl) ?_
        refine State.setLp_fr (Fr.sub hm rfl) ?_
        exact h2
      · split
        · refine Fr.ite ?_ ?_
          · refine State.put_fr (Fr.sub hm rfl) (Fr.bit hm rfl) ?_
            refine State.put_fr (Fr.sub hm rfl) (Fr.bit hm rfl) ?_
            refine State.setLp_fr (Fr.sub hm rfl) ?_
            exact h2
          · refine State.put_fr (Fr.sub hm rfl) (Fr.bit hm rfl) ?_
            exact h2
        · refine State.put_fr (Fr.sub hm rfl) (Fr.bit hm rfl) ?_
          exact h2

theorem State.linRes_fr {a1 a2 a3} (hm : 0x8000000000000000000000000000000000000000000000000 ||| m = m) (h : Fr m s₀ s) :
    Fr m s₀ (State.linRes s a1 a2 a3) := by
  unfold State.linRes
  refine State.wrap_fr (Fr.sub hm rfl) (Fr.bit hm rfl) ?_
  refine State.put_fr (Fr.sub hm rfl) (Fr.bit hm rfl) ?_
  exact h

end Sys2Proof.Machine
end

