-- ==== Sys2Proof/Laws/FrameNmCore.lean ====
section
/-! SUPPORT. Frames (Laws/Frame.lean) of the functions of Machine/NmCore.lean: one lemma for each, which says by its mask which
registers and which parts of the state the function may change. -/

namespace Sys2Proof.Machine

variable {m : Nat} {s₀ s : State}

theorem State.canWake_fr {a1}
    (hm : 0x12000c00000000000000000000000000000021000920010000000000000000000000000280000000 ||| m = m) (h : Fr m s₀ s) :
    Fr m s₀ (State.canWake s a1) := by
  unfold State.canWake
  extract_lets +onlyGivenNames x0
  clear_value x0
  extract_lets +onlyGivenNames x1
  have h2 : Fr m s₀ x1 := by
    unfold x1
    refine Fr.ite ?_ ?_
    · refine State.integrate_fr (Fr.sub hm rfl) ?_
      exact h
    · refine Fr.ite ?_ ?_
      · refine State.setCp_fr (Fr.sub hm rfl) ?_
        exact h
      · exact h
  clear_value x1
  refine Fr.ite ?_ ?_
  · refine State.driveWup_fr (Fr.sub hm rfl) ?_
    exact h2
  · exact h2

theorem State.clusterPorts_fr {a1 a2}
    (hm : 0x16000c00000000000000000000000000400021000920010000000000000000000000000280000000 ||| m = m) (h : Fr m s₀ s) :
    Fr m s₀ (State.clusterPorts s a1 a2) := by
  unfold State.clusterPorts
  extract_lets +onlyGivenNames x0
  have h1 : Fr m s₀ x0 := by
    unfold x0
    refine Fr.forEach ?_ ?_
    · intro h2 s3 h4
      refine Fr.ite ?_ ?_
      · extract_lets +onlyGivenNames x5
        have h6 : Fr m s₀ x5 := by
          unfold x5
          refine State.canWake_fr (Fr.sub hm rfl) ?_
          exact h4
        refine Fr.ite ?_ ?_
        · exact h6
        · refine State.setCp_fr (Fr.sub hm rfl) ?_
          exact h6
      · refine State.canStop_fr (Fr.sub hm rfl) ?_
        refine State.setCp_fr (Fr.sub hm rfl) ?_
        exact h4
    · exact h
  clear_value x0
  refine Fr.forEach ?_ ?_
  · intro h7 s8 h9
    refine Fr.ite ?_ ?_
    · refine State.linWake_fr (Fr.sub hm rfl) ?_
      exact h9
    · refine State.linGoSleep_fr (Fr.sub hm rfl) ?_
      exact h9
  · exact h1

theorem State.nmEvent_fr {a1}
    (hm : 0x12000c00000000000000000000000000000020000920010000000000000000000000000280000000 ||| m = m) (h : Fr m s₀ s) :
    Fr m s₀ (State.nmEvent s a1) := by
  unfold State.nmEvent
  refine Fr.ite ?_ ?_
  · refine State.event_fr (Fr.sub hm rfl) ?_
    exact h
  · exact h

theorem State.nmClusters_fr
    (hm : 0x16000c00000000000000000020000000400021000920010000000000000000000000000280000000 ||| m = m) (h : Fr m s₀ s) :
    Fr m s₀ (State.nmClusters s) := by
  unfold State.nmClusters
  extract_lets +onlyGivenNames x0
  clear_value x0
  extract_lets +onlyGivenNames x1
  clear_value x1
  refine Fr.ite ?_ ?_
  · exact h
  · extract_lets +onlyGivenNames x2
    have h3 : Fr m s₀ x2 := by
      unfold x2
      refine State.put_fr (Fr.sub hm rfl) (Fr.bit hm rfl) ?_
      exact h
    clear_value x2
    extract_lets +onlyGivenNames x4
    have h5 : Fr m s₀ x4 := by
      unfold x4
      refine Fr.forEach ?_ ?_
      · intro h6 s7 h8
        refine State.clusterPorts_fr (Fr.sub hm rfl) ?_
        exact h8
      · exact h3
    clear_value x4
    refine State.nmEvent_fr (Fr.sub hm rfl) ?_
    exact h5

theorem State.nmSend_fr {a1 a2}
    (hm : 0x2000000000000000000000020000000000000000000000000000000000000000000000000000000 ||| m = m) (h : Fr m s₀ s) :
    Fr m s₀ (State.nmSend s a1 a2) := by
  unfold State.nmSend
  extract_lets +onlyGivenNames x0
  have h1 : Fr m s₀ x0 := by
    unfold x0
    refine State.nmRequest_fr (Fr.sub hm rfl) ?_
    exact h
  clear_value x0
  refine Fr.ite ?_ ?_
  · refine State.flag_fr (Fr.sub hm rfl) (Fr.bit hm rfl) ?_
    exact h1
  · exact h1

theorem State.nmAwake_fr {a1}
    (hm : 0x16000c00000000000000000020000000400021000920010000000000000000000000000280000000 ||| m = m) (h : Fr m s₀ s) :
    Fr m s₀ (State.nmAwake s a1) := by
  unfold State.nmAwake
  extract_lets +onlyGivenNames x0
  have h1 : Fr m s₀ x0 := by
    unfold x0
    refine State.flag_fr (Fr.sub hm rfl) (Fr.bit hm rfl) ?_
    refine State.put_fr (Fr.sub hm rfl) (Fr.bit hm rfl) ?_
    refine State.put_fr (Fr.sub hm rfl) (Fr.bit hm rfl) ?_
    exact h
  clear_value x0
  refine State.nmClusters_fr (Fr.sub hm rfl) ?_
  refine State.nmEvent_fr (Fr.sub hm rfl) ?_
  refine Fr.set_nm (Fr.bit hm rfl) ?_
  exact h1

theorem State.nmCancel_fr {a1 a2}
    (hm : 0x16002c00000000000000000020000000400021000920010000000000000000000000000280000000 ||| m = m) (h : Fr m s₀ s) :
    Fr m s₀ (State.nmCancel s a1 a2) := by
  unfold State.nmCancel
  extract_lets +onlyGivenNames x0
  have h1 : Fr m s₀ x0 := by
    unfold x0
    refine State.raise_fr (Fr.sub hm rfl) ?_
    exact h
  clear_value x0
  extract_lets +onlyGivenNames x2
  have h3 : Fr m s₀ x2 := by
    unfold x2
    refine Fr.forEach ?_ ?_
    · intro h4 s5 h6
      refine State.linWake_fr (Fr.sub hm rfl) ?_
      exact h6
    · exact h1
  clear_value x2
  extract_lets +onlyGivenNames x7
  have h8 : Fr m s₀ x7 := by
    unfold x7
    refine Fr.ite ?_ ?_
    · refine Fr.forEach ?_ ?_
      · intro h9 s10 h11
        refine State.nmSend_fr (Fr.sub hm rfl) ?_
        exact h11
      · exact h3
    · exact h3
  clear_value x7
  refine State.nmAwake_fr (Fr.sub hm rfl) ?_
  exact h8

theorem State.nmLatch_fr {a1}
    (hm : 0x10002000000000000000000020000000000000000000000000000000000000000000000000000400 ||| m = m) (h : Fr m s₀ s) :
    Fr m s₀ (State.nmLatch s a1) := by
  unfold State.nmLatch
  split
  · exact h
  · extract_lets +onlyGivenNames x0
    clear_value x0
    extract_lets +onlyGivenNames x1
    have h2 : Fr m s₀ x1 := by
      unfold x1
      refine Fr.set_nm (Fr.bit hm rfl) ?_
      exact h
    clear_value x1
    refine State.raise_fr (Fr.sub hm rfl) ?_
    refine State.flag_fr (Fr.sub hm rfl) (Fr.bit hm rfl) ?_
    refine State.flag_fr (Fr.sub hm rfl) (Fr.bit hm rfl) ?_
    exact h2

theorem State.nmNoteWake_fr {a1}
    (hm : 0x10000000000000000000000000000000000000000000000000000000000000000000000000000000 ||| m = m) (h : Fr m s₀ s) :
    Fr m s₀ (State.nmNoteWake s a1) := by
  unfold State.nmNoteWake
  split
  · exact h
  · refine Fr.set_nm (Fr.bit hm rfl) ?_
    exact h

theorem State.nmLocalWake_fr
    (hm : 0x16002c00000000000000000020000000400021000920010000000000000000000000000280000400 ||| m = m) (h : Fr m s₀ s) :
    Fr m s₀ (State.nmLocalWake s) := by
  unfold State.nmLocalWake
  refine Fr.ite ?_ ?_
  · exact h
  · split
    · refine State.nmCancel_fr (Fr.sub hm rfl) ?_
      exact h
    · refine State.nmLatch_fr (Fr.sub hm rfl) ?_
      exact h
    · refine State.nmNoteWake_fr (Fr.sub hm rfl) ?_
      exact h
    · exact h

theorem State.netStart_fr {a1}
    (hm : 0x16000c00000000000000000020000000400021000920010000000000000000000000000280000000 ||| m = m) (h : Fr m s₀ s) :
    Fr m s₀ (State.netStart s a1) := by
  unfold State.netStart
  extract_lets +onlyGivenNames x0
  clear_value x0
  extract_lets +onlyGivenNames x1
  have h2 : Fr m s₀ x1 := by
    unfold x1
    refine State.flag_fr (Fr.sub hm rfl) (Fr.bit hm rfl) ?_
    refine State.put_fr (Fr.sub hm rfl) (Fr.bit hm rfl) ?_
    refine State.put_fr (Fr.sub hm rfl) (Fr.bit hm rfl) ?_
    exact h
  clear_value x1
  extract_lets +onlyGivenNames x3
  clear_value x3
  extract_lets +onlyGivenNames x4
  have h5 : Fr m s₀ x4 := by
    unfold x4
    refine Fr.set_nm (Fr.bit hm rfl) ?_
    exact h2
  clear_value x4
  refine Fr.ite ?_ ?_
  · refine Fr.ite ?_ ?_
    · refine State.nmEvent_fr (Fr.sub hm rfl) ?_
      exact h5
    · exact h5
  · extract_lets +onlyGivenNames x6
    have h7 : Fr m s₀ x6 := by
      unfold x6
      refine State.put_fr (Fr.sub hm rfl) (Fr.bit hm rfl) ?_
      exact h5
    clear_value x6
    extract_lets +onlyGivenNames x8
    have h9 : Fr m s₀ x8 := by
      unfold x8
      refine Fr.ite ?_ ?_
      · exact h7
      · refine State.nmEvent_fr (Fr.sub hm rfl) ?_
        exact h7
    clear_value x8
    extract_lets +onlyGivenNames x10
    have h11 : Fr m s₀ x10 := by
      unfold x10
      refine Fr.forEach ?_ ?_
      · intro h12 s13 h14
        extract_lets +onlyGivenNames x15
        have h16 : Fr m s₀ x15 := by
          unfold x15
          refine State.canStart_fr (Fr.sub hm rfl) ?_
          exact h14
        clear_value x15
        refine Fr.ite ?_ ?_
        · exact h16
        · refine State.setCanSt_fr (Fr.sub hm rfl) ?_
          refine State.setCp_fr (Fr.sub hm rfl) ?_
          exact h16
      · exact h9
    clear_value x10
    extract_lets +onlyGivenNames x17
    have h18 : Fr m s₀ x17 := by
      unfold x17
      refine Fr.forEach ?_ ?_
      · intro h19 s20 h21
        extract_lets +onlyGivenNames x22
        have h23 : Fr m s₀ x22 := by
          unfold x22
          refine State.linStart_fr (Fr.sub hm rfl) ?_
          exact h21
        clear_value x22
        refine Fr.ite ?_ ?_
        · exact h23
        · refine State.setLp_fr (Fr.sub hm rfl) ?_
          refine State.linTable_fr (Fr.sub hm rfl) ?_
          exact h23
      · exact h11
    clear_value x17
    refine Fr.ite ?_ ?_
    · refine State.nmEvent_fr (Fr.sub hm rfl) ?_
      exact h18
    · exact h18

theorem State.nmWake_fr {a1}
    (hm : 0x16000c00000000000000000020000000400021000920010000000000000000000000000280000000 ||| m = m) (h : Fr m s₀ s) :
    Fr m s₀ (State.nmWake s a1) := by
  unfold State.nmWake
  extract_lets +onlyGivenNames x0
  have h1 : Fr m s₀ x0 := by
    unfold x0
    refine Fr.forEach ?_ ?_
    · intro h2 s3 h4
      refine State.canWake_fr (Fr.sub hm rfl) ?_
      exact h4
    · exact h
  clear_value x0
  extract_lets +onlyGivenNames x5
  have h6 : Fr m s₀ x5 := by
    unfold x5
    refine State.nmAwake_fr (Fr.sub hm rfl) ?_
    exact h1
  clear_value x5
  extract_lets +onlyGivenNames x7
  have h8 : Fr m s₀ x7 := by
    unfold x7
    refine Fr.forEach ?_ ?_
    · intro h9 s10 h11
      refine State.nmSend_fr (Fr.sub hm rfl) ?_
      exact h11
    · exact h6
  clear_value x7
  refine Fr.forEach ?_ ?_
  · intro h12 s13 h14
    refine State.linWake_fr (Fr.sub hm rfl) ?_
    exact h14
  · exact h8

theorem State.netWake_fr (hm : 0x16000c00000000000000000020000000400021000920010000000000000000000000000280000000 ||| m = m)
    (h : Fr m s₀ s) : Fr m s₀ (State.netWake s) := by
  unfold State.netWake
  extract_lets +onlyGivenNames x0
  have h1 : Fr m s₀ x0 := by
    unfold x0
    refine State.netStart_fr (Fr.sub hm rfl) ?_
    exact h
  clear_value x0
  refine Fr.ite ?_ ?_
  · refine State.nmWake_fr (Fr.sub hm rfl) ?_
    exact h1
  · exact h1

theorem State.nmFrame_fr {a1 a2}
    (hm : 0x16002c00000000000000000020000000400021000920010000000000000000000000000280000400 ||| m = m) (h : Fr m s₀ s) :
    Fr m s₀ (State.nmFrame s a1 a2) := by
  unfold State.nmFrame
  extract_lets +onlyGivenNames x0
  clear_value x0
  extract_lets +onlyGivenNames x1
  clear_value x1
  extract_lets +onlyGivenNames x2
  clear_value x2
  extract_lets +onlyGivenNames x3
  clear_value x3
  extract_lets +onlyGivenNames x4
  clear_value x4
  extract_lets +onlyGivenNames x5
  have h6 : Fr m s₀ x5 := by
    unfold x5
    refine Fr.ite ?_ ?_
    · refine Fr.set_nm (Fr.bit hm rfl) ?_
      exact h
    · exact h
  clear_value x5
  extract_lets +onlyGivenNames x7
  have h8 : Fr m s₀ x7 := by
    unfold x7
    refine State.nmClusters_fr (Fr.sub hm rfl) ?_
    refine State.put_fr (Fr.sub hm rfl) (Fr.bit hm rfl) ?_
    exact h6
  clear_value x7
  extract_lets +onlyGivenNames x9
  have h10 : Fr m s₀ x9 := by
    unfold x9
    refine State.flag_fr (Fr.sub hm rfl) (Fr.bit hm rfl) ?_
    exact h8
  clear_value x9
  extract_lets +onlyGivenNames x11
  have h12 : Fr m s₀ x11 := by
    unfold x11
    refine Fr.ite ?_ ?_
    · refine State.flag_fr (Fr.sub hm rfl) (Fr.bit hm rfl) ?_
      exact h8
    · refine Fr.ite ?_ ?_
      · refine Fr.ite ?_ ?_
        · refine State.nmEvent_fr (Fr.sub hm rfl) ?_
          refine State.nmSend_fr (Fr.sub hm rfl) ?_
          exact h10
        · exact h10
      · exact h8
  clear_value x11
  refine Fr.ite ?_ ?_
  · extract_lets +onlyGivenNames x13
    clear_value x13
    split
    · refine State.nmCancel_fr (Fr.sub hm rfl) ?_
      exact h12
    · refine State.nmLatch_fr (Fr.sub hm rfl) ?_
      exact h12
    · exact h12
  · exact h12

theorem State.nmWakeSeen_fr {a1 a2}
    (hm : 0x16002c00000000000000000020000000400021000920010000000000000000000000000280000400 ||| m = m) (h : Fr m s₀ s) :
    Fr m s₀ (State.nmWakeSeen s a1 a2) := by
  unfold State.nmWakeSeen
  extract_lets +onlyGivenNames x0
  clear_value x0
  extract_lets +onlyGivenNames x1
  have h2 : Fr m s₀ x1 := by
    unfold x1
    refine Fr.ite ?_ ?_
    · refine Fr.set_nm (Fr.bit hm rfl) ?_
      exact h
    · exact h
  clear_value x1
  extract_lets +onlyGivenNames x3
  have h4 : Fr m s₀ x3 := by
    unfold x3
    refine Fr.ite ?_ ?_
    · split
      · refine State.nmLatch_fr (Fr.sub hm rfl) ?_
        exact h2
      · refine State.nmNoteWake_fr (Fr.sub hm rfl) ?_
        exact h2
      · exact h2
    · exact h2
  clear_value x3
  refine State.nmClusters_fr (Fr.sub hm rfl) ?_
  exact h4

end Sys2Proof.Machine
end

