-- ==== Sys2Proof/Laws/FrameEthCore.lean ====
section
/-! SUPPORT. Frames (Laws/Frame.lean) of the functions of Machine/EthCore.lean: one lemma for each, which says by its mask which
registers and which parts of the state the function may change. -/

namespace Sys2Proof.Machine

variable {m : Nat} {s₀ s : State}

theorem State.ethPut_fr {a1 a2 a3 a4}
    (hm : 0x8002000000000000000000000000800000000000000000000000000000000000000000000000000 ||| m = m) (h : Fr m s₀ s) :
    Fr m s₀ (State.ethPut s a1 a2 a3 a4) := by
  unfold State.ethPut
  refine Fr.ite ?_ ?_
  · refine Fr.ite ?_ ?_
    · exact h
    · extract_lets +onlyGivenNames x0
      have h1 : Fr m s₀ x0 := by
        unfold x0
        refine State.count_fr (Fr.sub hm rfl) (Fr.bit hm rfl) ?_
        exact h
      clear_value x0
      refine State.raise_fr (Fr.sub hm rfl) ?_
      exact h1
  · refine Fr.set_eth (Fr.bit hm rfl) ?_
    exact h

theorem State.setTalker_fr {a1 a2}
    (hm : 0x8000000000000000000000000000000000000000000000000000000000000000000000000000000 ||| m = m) (h : Fr m s₀ s) :
    Fr m s₀ (State.setTalker s a1 a2) := by
  unfold State.setTalker
  refine Fr.set_eth (Fr.bit hm rfl) ?_
  exact h

theorem State.talkSend_fr {a1 a2}
    (hm : 0x8002000000000000000000000000800000000000000000000000000000000000000000000000000 ||| m = m) (h : Fr m s₀ s) :
    Fr m s₀ (State.talkSend s a1 a2) := by
  unfold State.talkSend
  extract_lets +onlyGivenNames x0
  clear_value x0
  refine Fr.ite ?_ ?_
  · exact h
  · extract_lets +onlyGivenNames x1
    clear_value x1
    extract_lets +onlyGivenNames x2
    clear_value x2
    refine State.ethPut_fr (Fr.sub hm rfl) ?_
    refine State.setTalker_fr (Fr.sub hm rfl) ?_
    exact h

theorem State.talkAdd_fr {a1 a2}
    (hm : 0x8002000000000000000000000000800000000000000000000000000000000000000000000000000 ||| m = m) (h : Fr m s₀ s) :
    Fr m s₀ (State.talkAdd s a1 a2) := by
  unfold State.talkAdd
  extract_lets +onlyGivenNames x0
  have h1 : Fr m s₀ x0 := by
    unfold x0
    refine Fr.ite ?_ ?_
    · refine State.talkSend_fr (Fr.sub hm rfl) ?_
      exact h
    · exact h
  clear_value x0
  extract_lets +onlyGivenNames x2
  clear_value x2
  extract_lets +onlyGivenNames x3
  have h4 : Fr m s₀ x3 := by
    unfold x3
    refine State.setTalker_fr (Fr.sub hm rfl) ?_
    exact h1
  clear_value x3
  refine Fr.ite ?_ ?_
  · refine State.talkSend_fr (Fr.sub hm rfl) ?_
    exact h4
  · exact h4

theorem State.ethLearn_fr {a1 a2 a3}
    (hm : 0x8000000000000000000000000000000000000000000000000000000000000000000000000000000 ||| m = m) (h : Fr m s₀ s) :
    Fr m s₀ (State.ethLearn s a1 a2 a3) := by
  unfold State.ethLearn
  refine Fr.ite ?_ ?_
  · exact h
  · extract_lets +onlyGivenNames x0
    clear_value x0
    refine Fr.ite ?_ ?_
    · refine Fr.set_eth (Fr.bit hm rfl) ?_
      exact h
    · refine Fr.set_eth (Fr.bit hm rfl) ?_
      exact h

theorem State.ethForward_fr {a1 a2 a3}
    (hm : 0x8002000000000000000000000000800000000000000000000000000000000000000000000000000 ||| m = m) (h : Fr m s₀ s) :
    Fr m s₀ (State.ethForward s a1 a2 a3) := by
  unfold State.ethForward
  split
  refine Fr.ite ?_ ?_
  · exact h
  · split
    · exact h
    · extract_lets +onlyGivenNames x0
      refine Fr.ite ?_ ?_
      · exact h
      · extract_lets +onlyGivenNames x1
        have h2 : Fr m s₀ x1 := by
          unfold x1
          refine State.ethLearn_fr (Fr.sub hm rfl) ?_
          exact h
        clear_value x1
        extract_lets +onlyGivenNames x3
        clear_value x3
        refine Fr.forEach ?_ ?_
        · intro h4 s5 h6
          extract_lets +onlyGivenNames x7
          clear_value x7
          refine State.ethPut_fr (Fr.sub hm rfl) ?_
          exact h6
        · exact h2

theorem State.ethSend_fr {a1}
    (hm : 0x8000000000000000000000000000000000000000000000000000000000000000000000000000000 ||| m = m) (h : Fr m s₀ s) :
    Fr m s₀ (State.ethSend s a1) := by
  unfold State.ethSend
  split
  · split
    · refine Fr.set_eth (Fr.bit hm rfl) ?_
      exact h
    · exact h
  · exact h

theorem State.ethTick_fr (hm : 0x8000000000000000000000000000000000000000000000000000000000000000000000000000000 ||| m = m) (h :
    Fr m s₀ s) : Fr m s₀ (State.ethTick s) := by
  unfold State.ethTick
  refine Fr.forEach ?_ ?_
  · intro h0 s1 h2
    refine Fr.ite ?_ ?_
    · refine State.ethSend_fr (Fr.sub hm rfl) ?_
      exact h2
    · exact h2
  · exact h

end Sys2Proof.Machine
end

