-- ==== Sys2Proof/Laws/FrameGw.lean ====
section
/-! SUPPORT. Frames (Laws/Frame.lean) of the functions of Machine/Gw.lean: one lemma for each, which says by its mask which
registers and which parts of the state the function may change. -/

namespace Sys2Proof.Machine

variable {m : Nat} {s₀ s : State}

theorem State.gwFormat_fr {a1} (hm : 0x2000000000000000000000000200000000000000000000000000000000000000000000000000 ||| m = m)
    (h : Fr m s₀ s) : Fr m s₀ (State.gwFormat s a1) := by
  unfold State.gwFormat
  refine State.raise_fr (Fr.sub hm rfl) ?_
  refine State.count_fr (Fr.sub hm rfl) (Fr.bit hm rfl) ?_
  exact h

theorem State.gwOverflow_fr {a1 a2}
    (hm : 0x2002000000000000000000000000200000000000000000000000000000000000000000000000000 ||| m = m) (h : Fr m s₀ s) :
    Fr m s₀ (State.gwOverflow s a1 a2) := by
  unfold State.gwOverflow
  extract_lets +onlyGivenNames x0
  have h1 : Fr m s₀ x0 := by
    unfold x0
    refine State.count_fr (Fr.sub hm rfl) (Fr.bit hm rfl) ?_
    exact h
  clear_value x0
  extract_lets +onlyGivenNames x2
  clear_value x2
  extract_lets +onlyGivenNames x3
  clear_value x3
  refine Fr.ite ?_ ?_
  · refine State.raise_fr (Fr.sub hm rfl) ?_
    refine State.setCp_fr (Fr.sub hm rfl) ?_
    exact h1
  · exact h1

theorem State.gwFwd_fr (hm : 0x200000000000000000000000000000000000000000000000000 ||| m = m) (h : Fr m s₀ s) :
    Fr m s₀ (State.gwFwd s) := by
  unfold State.gwFwd
  refine State.wrap_fr (Fr.sub hm rfl) (Fr.bit hm rfl) ?_
  exact h

theorem State.gwToCan_fr {a1 a2 a3}
    (hm : 0x2002000000000000000000000000200000000000000000000000000000000000000000000000000 ||| m = m) (h : Fr m s₀ s) :
    Fr m s₀ (State.gwToCan s a1 a2 a3) := by
  unfold State.gwToCan
  refine Fr.ite ?_ ?_
  · exact h
  · split
    · refine State.gwFormat_fr (Fr.sub hm rfl) ?_
      exact h
    · refine Fr.ite ?_ ?_
      · refine State.gwFormat_fr (Fr.sub hm rfl) ?_
        exact h
      · refine Fr.ite ?_ ?_
        · refine State.gwOverflow_fr (Fr.sub hm rfl) ?_
          exact h
        · refine State.gwFwd_fr (Fr.sub hm rfl) ?_
          refine State.setCp_fr (Fr.sub hm rfl) ?_
          exact h

theorem State.gwToLin_fr {a1 a2 a3} (hm : 0x206000000000000000000000000000000000000000000000000 ||| m = m) (h : Fr m s₀ s) :
    Fr m s₀ (State.gwToLin s a1 a2 a3) := by
  unfold State.gwToLin
  refine Fr.ite ?_ ?_
  · exact h
  · refine State.gwFwd_fr (Fr.sub hm rfl) ?_
    refine State.linPut_fr (Fr.sub hm rfl) ?_
    exact h

theorem State.gwTunnel_fr {a1 a2 a3}
    (hm : 0x8002000000000000000000000000a00000000000000000000000000000000000000000000000000 ||| m = m) (h : Fr m s₀ s) :
    Fr m s₀ (State.gwTunnel s a1 a2 a3) := by
  unfold State.gwTunnel
  extract_lets +onlyGivenNames x0
  clear_value x0
  refine Fr.ite ?_ ?_
  · refine State.gwFormat_fr (Fr.sub hm rfl) ?_
    exact h
  · refine Fr.ite ?_ ?_
    · exact h
    · extract_lets +onlyGivenNames x1
      clear_value x1
      refine State.gwFwd_fr (Fr.sub hm rfl) ?_
      refine State.talkAdd_fr (Fr.sub hm rfl) ?_
      exact h

theorem State.gwOffer_fr {a1 a2}
    (hm : 0xa002000000000000000000000000a06000000000000000000000000000000000000000000000000 ||| m = m) (h : Fr m s₀ s) :
    Fr m s₀ (State.gwOffer s a1 a2) := by
  unfold State.gwOffer
  split
  · exact h
  · extract_lets +onlyGivenNames x0
    have h1 : Fr m s₀ x0 := by
      unfold x0
      refine Fr.forEach ?_ ?_
      · intro h2 s3 h4
        refine State.gwToCan_fr (Fr.sub hm rfl) ?_
        exact h4
      · exact h
    clear_value x0
    extract_lets +onlyGivenNames x5
    have h6 : Fr m s₀ x5 := by
      unfold x5
      refine Fr.forEach ?_ ?_
      · intro h7 s8 h9
        refine State.gwToLin_fr (Fr.sub hm rfl) ?_
        exact h9
      · exact h1
    clear_value x5
    refine Fr.ite ?_ ?_
    · refine State.gwTunnel_fr (Fr.sub hm rfl) ?_
      exact h6
    · exact h6

theorem State.acfWalk_fr {a0 a1 a2}
    (hm : 0xa002000000000000000000000000a06000000000000000000000000000000000000000000000000 ||| m = m) (h : Fr m s₀ s) :
    Fr m s₀ (State.acfWalk a0 a1 a2 s) := by
  induction a1 generalizing s a2 with
  | zero => exact h
  | succ n ih =>
    unfold State.acfWalk
    split
    · exact h
    · extract_lets x0 x1 x2
      split
      · exact State.raise_fr (Fr.sub hm rfl) h
      · refine ih ?_
        unfold x2
        split
        · exact State.gwOffer_fr (Fr.sub hm rfl) h
        · exact State.raise_fr (Fr.sub hm rfl) h

end Sys2Proof.Machine
end

