-- ==== Sys2Proof/Laws/FrameLin.lean ====
section
/-! SUPPORT. Frames (Laws/Frame.lean) of the functions of Machine/Lin.lean: one lemma for each, which says by its mask which
registers and which parts of the state the function may change. -/

namespace Sys2Proof.Machine

variable {m : Nat} {s₀ s : State}

theorem State.runLinSchedWrite_fr {a1 a2 a3}
    (hm : 0x204000800000000000000000000000000400000000000000000000000000000000000000000000000 ||| m = m) (h : Fr m s₀ s) :
    Fr m s₀ (State.runLinSchedWrite s a1 a2 a3) := by
  unfold State.runLinSchedWrite
  refine Fr.ite ?_ ?_
  · refine State.reserved_fr (Fr.sub hm rfl) ?_
    exact h
  · refine State.accept_fr (Fr.sub hm rfl) ?_ ?_
    · intro s0 h1
      refine State.linSelect_fr (Fr.sub hm rfl) ?_
      refine State.storeWrite_fr (Fr.sub hm rfl) (Fr.reg .LIN_SCHED hm rfl) ?_
      exact h1
    · exact h

theorem State.runLinCmdWake_fr {a1 a2}
    (hm : 0x204000800000000000000000000000000000000000000000000000000000000000000000000000000 ||| m = m) (h : Fr m s₀ s) :
    Fr m s₀ (State.runLinCmdWake s a1 a2) := by
  unfold State.runLinCmdWake
  refine Fr.ite ?_ ?_
  · refine State.reserved_fr (Fr.sub hm rfl) ?_
    exact h
  · refine State.linPulse_fr (Fr.sub hm rfl) ?_
    exact h

theorem State.runLinDataWrite_fr {a1 a2 a3 a4 a5}
    (hm : 0x20400080000000000000000000000000e000000000000000000000000000000000000000000000000 ||| m = m) (h : Fr m s₀ s) :
    Fr m s₀ (State.runLinDataWrite s a1 a2 a3 a4 a5) := by
  unfold State.runLinDataWrite
  refine Fr.ite ?_ ?_
  · refine State.reserved_fr (Fr.sub hm rfl) ?_
    exact h
  · extract_lets +onlyGivenNames x0
    clear_value x0
    split
    · refine State.setLp_fr (Fr.sub hm rfl) ?_
      exact h
    · extract_lets +onlyGivenNames x1
      have h2 : Fr m s₀ x1 := by
        unfold x1
        split
        · refine State.setReg_fr (Fr.reg .LIN_D0 hm rfl) ?_
          refine State.setLp_fr (Fr.sub hm rfl) ?_
          exact h
        · exact h
      clear_value x1
      refine State.setReg_fr (Fr.reg .LIN_D1 hm rfl) ?_
      exact h2
    · refine State.accept_fr (Fr.sub hm rfl) ?_ ?_
      · intro s3 h4
        refine State.storeWrite_fr (Fr.sub hm rfl) (Fr.reg .LIN_D2 hm rfl) ?_
        exact h4
      · exact h

theorem State.linRead_fr {a1 a2 a3 a4}
    (hm : 0x4000000000000000000000000000000000000000000000000000000000000000000000000000000 ||| m = m) (h : Fr m s₀ s) :
    Fr m s₀ (State.linRead s a1 a2 a3 a4).2 := by
  unfold State.linRead
  extract_lets +onlyGivenNames x0
  clear_value x0
  extract_lets +onlyGivenNames x1
  clear_value x1
  extract_lets +onlyGivenNames x2
  clear_value x2
  refine Fr.ite2 ?_ ?_
  · refine Fr.mk2 ?_
    refine State.setLp_fr (Fr.sub hm rfl) ?_
    exact h
  · extract_lets +onlyGivenNames x3
    clear_value x3
    split
    · refine Fr.mk2 ?_
      exact h
    · refine Fr.mk2 ?_
      exact h

theorem State.runLinDataRead_fr {a1 a2 a3 a4}
    (hm : 0x205000800000000000000000000000000000000000000000000000000000000000000000000000000 ||| m = m) (h : Fr m s₀ s) :
    Fr m s₀ (State.runLinDataRead s a1 a2 a3 a4) := by
  unfold State.runLinDataRead
  refine Fr.ite ?_ ?_
  · extract_lets +onlyGivenNames x0
    have h1 : Fr m s₀ x0 := by
      unfold x0
      refine State.reserved_fr (Fr.sub hm rfl) ?_
      exact h
    clear_value x0
    refine Fr.set_rdata (Fr.bit hm rfl) ?_
    exact h1
  · extract_lets +onlyGivenNames x2
    have h3 : Fr m s₀ x2.2 := by
      unfold x2
      refine State.linRead_fr (Fr.sub hm rfl) ?_
      exact h
    extract_lets +onlyGivenNames x4
    have h5 : Fr m s₀ x4 := by
      unfold x4
      exact h3
    clear_value x4
    refine Fr.set_rdata (Fr.bit hm rfl) ?_
    exact h5

theorem State.linCollide_fr {a1}
    (hm : 0x4000000000000000000000000000008000000000000000000000000000000000000000000000000 ||| m = m) (h : Fr m s₀ s) :
    Fr m s₀ (State.linCollide s a1) := by
  unfold State.linCollide
  refine State.linRes_fr (Fr.sub hm rfl) ?_
  refine State.setLp_fr (Fr.sub hm rfl) ?_
  exact h

theorem State.linDone_fr {a1}
    (hm : 0x4000000000000000000000000000000000000000000000000000000000000000000000000000000 ||| m = m) (h : Fr m s₀ s) :
    Fr m s₀ (State.linDone s a1) := by
  unfold State.linDone
  refine State.setLp_fr (Fr.sub hm rfl) ?_
  exact h

theorem execLinSlotStart_fr {a0} {t}
    (hm : 0x44000000000000000000000000000000400000000000000000000000000000000000000000000000 ||| m = m) (h : Fr m s₀ s)
    (e : execLinSlotStart a0 s = .next t) : Fr m s₀ t := by
  unfold execLinSlotStart at e
  cases e
  refine State.ship_fr (Fr.sub hm rfl) ?_
  refine Fr.ite ?_ ?_
  · exact h
  · extract_lets +onlyGivenNames x0
    have h1 : Fr m s₀ x0 := by
      unfold x0
      refine State.linAdvance_fr (Fr.sub hm rfl) ?_
      exact h
    clear_value x0
    refine Fr.ite ?_ ?_
    · exact h1
    · refine Fr.ite ?_ ?_
      · extract_lets +onlyGivenNames x2
        clear_value x2
        extract_lets +onlyGivenNames x3
        have h4 : Fr m s₀ x3 := by
          unfold x3
          refine State.linTable_fr (Fr.sub hm rfl) ?_
          exact h1
        clear_value x3
        refine State.setLp_fr (Fr.sub hm rfl) ?_
        exact h4
      · extract_lets +onlyGivenNames x5
        clear_value x5
        refine State.setLp_fr (Fr.sub hm rfl) ?_
        exact h1

theorem execLinResponseReceived_fr {a0 a1 a2 a3 a4} {t}
    (hm : 0x4e002000000000000000000000000a0e000000000000000000000000000000000000000000000000 ||| m = m) (h : Fr m s₀ s)
    (e : execLinResponseReceived a0 a1 a2 a3 a4 s = .next t) : Fr m s₀ t := by
  unfold execLinResponseReceived at e
  cases e
  refine State.ship_fr (Fr.sub hm rfl) ?_
  refine Fr.ite ?_ ?_
  · exact h
  · extract_lets +onlyGivenNames x0
    clear_value x0
    extract_lets +onlyGivenNames x1
    have h2 : Fr m s₀ x1 := by
      unfold x1
      refine State.linDone_fr (Fr.sub hm rfl) ?_
      exact h
    clear_value x1
    refine Fr.ite ?_ ?_
    · refine State.linCollide_fr (Fr.sub hm rfl) ?_
      exact h2
    · refine Fr.ite ?_ ?_
      · refine State.raise_fr (Fr.sub hm rfl) ?_
        refine State.linRes_fr (Fr.sub hm rfl) ?_
        exact h2
      · refine Fr.ite ?_ ?_
        · exact h2
        · refine Fr.ite ?_ ?_
          · refine State.raise_fr (Fr.sub hm rfl) ?_
            refine State.linRes_fr (Fr.sub hm rfl) ?_
            exact h2
          · refine State.gwOffer_fr (Fr.sub hm rfl) ?_
            refine State.linRes_fr (Fr.sub hm rfl) ?_
            refine State.linPut_fr (Fr.sub hm rfl) ?_
            exact h2

theorem execLinResponseTimeout_fr {a0 a1 a2} {t}
    (hm : 0x44002000000000000000000000000008000000000000000000000000000000000000000000000000 ||| m = m) (h : Fr m s₀ s)
    (e : execLinResponseTimeout a0 a1 a2 s = .next t) : Fr m s₀ t := by
  unfold execLinResponseTimeout at e
  cases e
  refine State.ship_fr (Fr.sub hm rfl) ?_
  refine Fr.ite ?_ ?_
  · exact h
  · extract_lets +onlyGivenNames x0
    clear_value x0
    extract_lets +onlyGivenNames x1
    have h2 : Fr m s₀ x1 := by
      unfold x1
      refine State.linDone_fr (Fr.sub hm rfl) ?_
      exact h
    clear_value x1
    refine Fr.ite ?_ ?_
    · refine State.linCollide_fr (Fr.sub hm rfl) ?_
      exact h2
    · refine Fr.ite ?_ ?_
      · refine State.linRes_fr (Fr.sub hm rfl) ?_
        exact h2
      · refine State.raise_fr (Fr.sub hm rfl) ?_
        refine State.linRes_fr (Fr.sub hm rfl) ?_
        exact h2

theorem execLinBusDominant_fr {a0} {t}
    (hm : 0x40002040000000000000000000000000000000000000000000000000000000000000000000000000 ||| m = m) (h : Fr m s₀ s)
    (e : execLinBusDominant a0 s = .next t) : Fr m s₀ t := by
  unfold execLinBusDominant at e
  cases e
  refine State.ship_fr (Fr.sub hm rfl) ?_
  refine Fr.ite ?_ ?_
  · exact h
  · refine Fr.ite ?_ ?_
    · refine State.raise_fr (Fr.sub hm rfl) ?_
      exact h
    · split
      rename_i y0 y1 y2 y3
      refine Fr.cutp y3 ?_ (fun h4 => ?_)
      · refine State.takeFree_fr (Fr.sub hm rfl) ?_
        exact h
      refine State.raise_fr (Fr.sub hm rfl) ?_
      exact h4

theorem execLinSchedWrite_fr {a0 a1 a2} {t}
    (hm : 0x244000800000000000000000000000000400000000000000000000000000000000000000000000000 ||| m = m) (h : Fr m s₀ s)
    (e : execLinSchedWrite a0 a1 a2 s = .next t) : Fr m s₀ t := by
  unfold execLinSchedWrite at e
  cases e
  refine State.ship_fr (Fr.sub hm rfl) ?_
  refine State.asWho_fr (Fr.sub hm rfl) ?_ ?_
  · intro s0 h1
    refine State.runLinSchedWrite_fr (Fr.sub hm rfl) ?_
    exact h1
  · exact h

theorem execLinCmdWake_fr {a0 a1} {t}
    (hm : 0x244000800000000000000000000000000000000000000000000000000000000000000000000000000 ||| m = m) (h : Fr m s₀ s)
    (e : execLinCmdWake a0 a1 s = .next t) : Fr m s₀ t := by
  unfold execLinCmdWake at e
  cases e
  refine State.ship_fr (Fr.sub hm rfl) ?_
  refine State.asWho_fr (Fr.sub hm rfl) ?_ ?_
  · intro s0 h1
    refine State.runLinCmdWake_fr (Fr.sub hm rfl) ?_
    exact h1
  · exact h

theorem execLinDataWrite_fr {a0 a1 a2 a3 a4} {t}
    (hm : 0x24400080000000000000000000000000e000000000000000000000000000000000000000000000000 ||| m = m) (h : Fr m s₀ s)
    (e : execLinDataWrite a0 a1 a2 a3 a4 s = .next t) : Fr m s₀ t := by
  unfold execLinDataWrite at e
  cases e
  refine State.ship_fr (Fr.sub hm rfl) ?_
  refine State.asWho_fr (Fr.sub hm rfl) ?_ ?_
  · intro s0 h1
    refine State.runLinDataWrite_fr (Fr.sub hm rfl) ?_
    exact h1
  · exact h

theorem execLinDataRead_fr {a0 a1 a2 a3} {t}
    (hm : 0x245000800000000000000000000000000000000000000000000000000000000000000000000000000 ||| m = m) (h : Fr m s₀ s)
    (e : execLinDataRead a0 a1 a2 a3 s = .next t) : Fr m s₀ t := by
  unfold execLinDataRead at e
  cases e
  refine State.ship_fr (Fr.sub hm rfl) ?_
  refine State.asWho_fr (Fr.sub hm rfl) ?_ ?_
  · intro s0 h1
    refine State.runLinDataRead_fr (Fr.sub hm rfl) ?_
    exact h1
  · exact h

theorem execLinScheduleResume_fr {a0} {t}
    (hm : 0x44000000000000000000000000000000400000000000000000000000000000000000000000000000 ||| m = m) (h : Fr m s₀ s)
    (e : execLinScheduleResume a0 s = .next t) : Fr m s₀ t := by
  unfold execLinScheduleResume at e
  cases e
  refine State.ship_fr (Fr.sub hm rfl) ?_
  refine Fr.ite ?_ ?_
  · refine State.linTable_fr (Fr.sub hm rfl) ?_
    refine State.setLp_fr (Fr.sub hm rfl) ?_
    exact h
  · exact h

end Sys2Proof.Machine
end

