-- ==== Sys2Proof/Laws/FrameOutputs.lean ====
section
/-! SUPPORT. Frames (Laws/Frame.lean) of the functions of Machine/Outputs.lean: one lemma for each, which says by its mask which
registers and which parts of the state the function may change. -/

namespace Sys2Proof.Machine

variable {m : Nat} {s₀ s : State}

theorem State.setOut_fr {a1 a2} (hm : 0x100000000000000000000000000000000000000000000000000000000000000000000000000 ||| m = m)
    (h : Fr m s₀ s) : Fr m s₀ (State.setOut s a1 a2) := by
  unfold State.setOut
  refine Fr.set_outs (Fr.bit hm rfl) ?_
  exact h

theorem State.expireHold_fr {a1}
    (hm : 0x180000000000000000000000000000000000000000000000000000000000000000000000010 ||| m = m) (h : Fr m s₀ s) :
    Fr m s₀ (State.expireHold s a1) := by
  unfold State.expireHold
  extract_lets +onlyGivenNames x0
  clear_value x0
  extract_lets +onlyGivenNames x1
  have h2 : Fr m s₀ x1 := by
    unfold x1
    refine State.setOut_fr (Fr.sub hm rfl) ?_
    exact h
  clear_value x1
  extract_lets +onlyGivenNames x3
  clear_value x3
  refine State.flag_fr (Fr.sub hm rfl) (Fr.bit hm rfl) ?_
  refine Fr.set_sys (Fr.bit hm rfl) ?_
  exact h2

theorem State.holdOne_fr {a1 a2}
    (hm : 0x180000000000000000000000000000000000000000000000000000000000000000000000010 ||| m = m) (h : Fr m s₀ s) :
    Fr m s₀ (State.holdOne s a1 a2) := by
  unfold State.holdOne
  extract_lets +onlyGivenNames x0
  clear_value x0
  extract_lets +onlyGivenNames x1
  clear_value x1
  extract_lets +onlyGivenNames x2
  have h3 : Fr m s₀ x2 := by
    unfold x2
    refine State.setOut_fr (Fr.sub hm rfl) ?_
    exact h
  clear_value x2
  refine Fr.ite ?_ ?_
  · refine State.expireHold_fr (Fr.sub hm rfl) ?_
    exact h3
  · exact h3

theorem State.enterHold_fr {a1} (hm : 0x180000000000000000000000000000000000000000000000000000000000000000000000010 ||| m = m)
    (h : Fr m s₀ s) : Fr m s₀ (State.enterHold s a1) := by
  unfold State.enterHold
  extract_lets +onlyGivenNames x0
  clear_value x0
  extract_lets +onlyGivenNames x1
  clear_value x1
  extract_lets +onlyGivenNames x2
  have h3 : Fr m s₀ x2 := by
    unfold x2
    refine Fr.ite ?_ ?_
    · refine Fr.set_sys (Fr.bit hm rfl) ?_
      exact h
    · exact h
  clear_value x2
  refine Fr.forEach ?_ ?_
  · intro h4 s5 h6
    refine State.holdOne_fr (Fr.sub hm rfl) ?_
    exact h6
  · exact h3

theorem State.parkLatch_fr (hm : 0x100000000000000000000000000000000000000000000000000000000000000000000000000 ||| m = m) (h :
    Fr m s₀ s) : Fr m s₀ (State.parkLatch s) := by
  unfold State.parkLatch
  extract_lets +onlyGivenNames x0
  clear_value x0
  refine Fr.forEach ?_ ?_
  · intro h1 s2 h3
    extract_lets +onlyGivenNames x4
    clear_value x4
    refine State.setOut_fr (Fr.sub hm rfl) ?_
    exact h3
  · exact h

theorem State.endHold_fr (hm : 0x2080000000000000000000000000000000000000000000000000000000000000000000000200 ||| m = m) (h :
    Fr m s₀ s) : Fr m s₀ (State.endHold s) := by
  unfold State.endHold
  refine Fr.ite ?_ ?_
  · exact h
  · extract_lets +onlyGivenNames x0
    clear_value x0
    extract_lets +onlyGivenNames x1
    have h2 : Fr m s₀ x1 := by
      unfold x1
      refine State.put_fr (Fr.sub hm rfl) (Fr.bit hm rfl) ?_
      refine State.put_fr (Fr.sub hm rfl) (Fr.bit hm rfl) ?_
      exact h
    clear_value x1
    extract_lets +onlyGivenNames x3
    clear_value x3
    extract_lets +onlyGivenNames x4
    have h5 : Fr m s₀ x4 := by
      unfold x4
      refine Fr.set_sys (Fr.bit hm rfl) ?_
      exact h2
    clear_value x4
    split
    · refine Fr.set_flt (Fr.bit hm rfl) ?_
      exact h5
    · exact h5

theorem State.followAll_fr {a1} (hm : 0x100000000000000000000000000000000000000000000000000000000000000000000000000 ||| m = m)
    (h : Fr m s₀ s) : Fr m s₀ (State.followAll s a1) := by
  unfold State.followAll
  refine Fr.forEach ?_ ?_
  · intro h0 s1 h2
    refine State.setOut_fr (Fr.sub hm rfl) ?_
    exact h2
  · exact h

end Sys2Proof.Machine
end

