-- ==== Sys2Proof/Laws/FrameHswCore.lean ====
section
/-! SUPPORT. Frames (Laws/Frame.lean) of the functions of Machine/HswCore.lean: one lemma for each, which says by its mask which
registers and which parts of the state the function may change. -/

namespace Sys2Proof.Machine

variable {m : Nat} {s₀ s : State}

theorem State.setOl_fr {a1 a2} (hm : 0x2000000000000000010000000000000000000000000000000000000000000002000000000000 ||| m = m)
    (h : Fr m s₀ s) : Fr m s₀ (State.setOl s a1 a2) := by
  unfold State.setOl
  extract_lets +onlyGivenNames x0
  have h1 : Fr m s₀ x0 := by
    unfold x0
    refine Fr.forEach ?_ ?_
    · intro h2 s3 h4
      refine State.put_fr (Fr.sub hm rfl) (Fr.bit hm rfl) ?_
      exact h4
    · exact h
  clear_value x0
  refine Fr.ite ?_ ?_
  · exact h1
  · refine State.clearSrc_fr (Fr.sub hm rfl) ?_
    exact h1

theorem State.setHs_fr {a1 a2} (hm : 0x2000000000000 ||| m = m) (h : Fr m s₀ s) : Fr m s₀ (State.setHs s a1 a2) := by
  unfold State.setHs
  refine State.put_fr (Fr.sub hm rfl) (Fr.bit hm rfl) ?_
  exact h

theorem State.setCh_fr {a1 a2}
    (hm : 0x10000000000000000000000000000000000000000000000000000000000000000000000000000 ||| m = m) (h : Fr m s₀ s) :
    Fr m s₀ (State.setCh s a1 a2) := by
  unfold State.setCh
  refine Fr.set_hsw (Fr.bit hm rfl) ?_
  exact h

theorem State.shortEnd_fr {a1}
    (hm : 0x10000000000000000000000000000000000000000000000000000000000000000000000000000 ||| m = m) (h : Fr m s₀ s) :
    Fr m s₀ (State.shortEnd s a1) := by
  unfold State.shortEnd
  extract_lets +onlyGivenNames x0
  clear_value x0
  refine State.setCh_fr (Fr.sub hm rfl) ?_
  exact h

theorem State.olEnd_fr {a1} (hm : 0x12000000000000000010000000000000000000000000000000000000000000002000000000000 ||| m = m)
    (h : Fr m s₀ s) : Fr m s₀ (State.olEnd s a1) := by
  unfold State.olEnd
  extract_lets +onlyGivenNames x0
  clear_value x0
  refine Fr.ite ?_ ?_
  · exact h
  · refine Fr.ite ?_ ?_
    · refine State.shortEnd_fr (Fr.sub hm rfl) ?_
      exact h
    · refine Fr.ite ?_ ?_
      · refine State.setOl_fr (Fr.sub hm rfl) ?_
        exact h
      · exact h

theorem State.onPeriodEnd_fr {a1}
    (hm : 0x12000000000000000010000000000000000000000000000000000000000000002000000000000 ||| m = m) (h : Fr m s₀ s) :
    Fr m s₀ (State.onPeriodEnd s a1) := by
  unfold State.onPeriodEnd
  extract_lets +onlyGivenNames x0
  have h1 : Fr m s₀ x0 := by
    unfold x0
    refine State.olEnd_fr (Fr.sub hm rfl) ?_
    exact h
  clear_value x0
  refine State.setCh_fr (Fr.sub hm rfl) ?_
  exact h1

theorem State.hswOff_fr {a1 a2}
    (hm : 0x12000000000000000010000000000000000000000000000000000000000000002000000000000 ||| m = m) (h : Fr m s₀ s) :
    Fr m s₀ (State.hswOff s a1 a2) := by
  unfold State.hswOff
  refine Fr.ite ?_ ?_
  · refine State.setHs_fr (Fr.sub hm rfl) ?_
    refine State.onPeriodEnd_fr (Fr.sub hm rfl) ?_
    exact h
  · refine State.setHs_fr (Fr.sub hm rfl) ?_
    exact h

theorem State.hswArm_fr {a1} (hm : 0x12000000000000000010000000000000000000000000000000000000000000002000000000000 ||| m = m)
    (h : Fr m s₀ s) : Fr m s₀ (State.hswArm s a1) := by
  unfold State.hswArm
  refine State.setOl_fr (Fr.sub hm rfl) ?_
  refine State.hswOff_fr (Fr.sub hm rfl) ?_
  exact h

theorem State.hswTurnOn_fr {a1}
    (hm : 0x10000000000000000000000000000000000000000000000000000000000000002000000000000 ||| m = m) (h : Fr m s₀ s) :
    Fr m s₀ (State.hswTurnOn s a1) := by
  unfold State.hswTurnOn
  extract_lets +onlyGivenNames x0
  clear_value x0
  extract_lets +onlyGivenNames x1
  clear_value x1
  refine Fr.ite ?_ ?_
  · exact h
  · refine Fr.ite ?_ ?_
    · refine State.setHs_fr (Fr.sub hm rfl) ?_
      refine State.setCh_fr (Fr.sub hm rfl) ?_
      exact h
    · refine State.setHs_fr (Fr.sub hm rfl) ?_
      refine State.setCh_fr (Fr.sub hm rfl) ?_
      exact h

theorem State.hswFollow_fr {a1}
    (hm : 0x10000000000000000000000000000000000000000000000000000000000000002000000000000 ||| m = m) (h : Fr m s₀ s) :
    Fr m s₀ (State.hswFollow s a1) := by
  unfold State.hswFollow
  refine Fr.ite ?_ ?_
  · refine State.hswTurnOn_fr (Fr.sub hm rfl) ?_
    exact h
  · exact h

theorem State.hswShow_fr {a1} (hm : 0x2000000000000 ||| m = m) (h : Fr m s₀ s) : Fr m s₀ (State.hswShow s a1) := by
  unfold State.hswShow
  refine State.flag_fr (Fr.sub hm rfl) (Fr.bit hm rfl) ?_
  refine State.flag_fr (Fr.sub hm rfl) (Fr.bit hm rfl) ?_
  exact h

end Sys2Proof.Machine
end

