-- ==== Sys2Proof/Laws/FrameHbrCore.lean ====
section
/-! SUPPORT. Frames (Laws/Frame.lean) of the functions of Machine/HbrCore.lean: one lemma for each, which says by its mask which
registers and which parts of the state the function may change. -/

namespace Sys2Proof.Machine

variable {m : Nat} {s₀ s : State}

theorem State.setHb_fr {a1 a2} (hm : 0x80000000000000000 ||| m = m) (h : Fr m s₀ s) : Fr m s₀ (State.setHb s a1 a2) := by
  unfold State.setHb
  refine State.put_fr (Fr.sub hm rfl) (Fr.bit hm rfl) ?_
  exact h

theorem State.posMove_fr {a1 a2} (hm : 0x200000000000000000 ||| m = m) (h : Fr m s₀ s) : Fr m s₀ (State.posMove s a1 a2) := by
  unfold State.posMove
  refine State.sput_fr (Fr.sub hm rfl) (Fr.bit hm rfl) ?_
  exact h

theorem State.setBr_fr {a1 a2}
    (hm : 0x20000000000000000000000000000000000000000000000000000000000000000000000000000 ||| m = m) (h : Fr m s₀ s) :
    Fr m s₀ (State.setBr s a1 a2) := by
  unfold State.setBr
  refine Fr.set_hbr (Fr.bit hm rfl) ?_
  exact h

theorem State.hbrMode_fr {a1 a2}
    (hm : 0x20000000000000000000000000000000000000000000000000000000000280000000000000000 ||| m = m) (h : Fr m s₀ s) :
    Fr m s₀ (State.hbrMode s a1 a2) := by
  unfold State.hbrMode
  extract_lets +onlyGivenNames x0
  clear_value x0
  extract_lets +onlyGivenNames x1
  clear_value x1
  extract_lets +onlyGivenNames x2
  have h3 : Fr m s₀ x2 := by
    unfold x2
    refine Fr.ite ?_ ?_
    · refine State.posMove_fr (Fr.sub hm rfl) ?_
      exact h
    · exact h
  clear_value x2
  extract_lets +onlyGivenNames x4
  have h5 : Fr m s₀ x4 := by
    unfold x4
    refine Fr.ite ?_ ?_
    · refine State.flag_fr (Fr.sub hm rfl) (Fr.bit hm rfl) ?_
      exact h3
    · exact h3
  clear_value x4
  refine State.setBr_fr (Fr.sub hm rfl) ?_
  exact h5

theorem State.hbrIdle_fr {a1} (hm : 0x20000000000000000000000000000000000000000000000000000000000280000000000000000 ||| m = m)
    (h : Fr m s₀ s) : Fr m s₀ (State.hbrIdle s a1) := by
  unfold State.hbrIdle
  extract_lets +onlyGivenNames x0
  have h1 : Fr m s₀ x0 := by
    unfold x0
    refine State.setHb_fr (Fr.sub hm rfl) ?_
    exact h
  clear_value x0
  extract_lets +onlyGivenNames x2
  have h3 : Fr m s₀ x2 := by
    unfold x2
    refine Fr.ite ?_ ?_
    · exact h1
    · refine State.hbrMode_fr (Fr.sub hm rfl) ?_
      exact h1
  clear_value x2
  refine State.setBr_fr (Fr.sub hm rfl) ?_
  exact h3

theorem State.hbrStart_fr {a1 a2}
    (hm : 0x20000000000000000000000000000000000000000000000000000000000280000000000000000 ||| m = m) (h : Fr m s₀ s) :
    Fr m s₀ (State.hbrStart s a1 a2) := by
  unfold State.hbrStart
  refine State.setBr_fr (Fr.sub hm rfl) ?_
  refine State.hbrMode_fr (Fr.sub hm rfl) ?_
  exact h

theorem State.hbrSteer_fr {a1 a2}
    (hm : 0x20000000000000000000000000000000000000000000000000000000000280000000000000000 ||| m = m) (h : Fr m s₀ s) :
    Fr m s₀ (State.hbrSteer s a1 a2) := by
  unfold State.hbrSteer
  extract_lets +onlyGivenNames x0
  clear_value x0
  refine Fr.ite ?_ ?_
  · refine State.hbrMode_fr (Fr.sub hm rfl) ?_
    exact h
  · refine Fr.ite ?_ ?_
    · refine State.setBr_fr (Fr.sub hm rfl) ?_
      refine State.hbrMode_fr (Fr.sub hm rfl) ?_
      exact h
    · refine State.hbrStart_fr (Fr.sub hm rfl) ?_
      exact h

theorem State.hbrDrive_fr {a1}
    (hm : 0x20000000000000000000000000000000000000000000000000000000000280000000000000000 ||| m = m) (h : Fr m s₀ s) :
    Fr m s₀ (State.hbrDrive s a1) := by
  unfold State.hbrDrive
  refine Fr.ite ?_ ?_
  · refine State.hbrIdle_fr (Fr.sub hm rfl) ?_
    exact h
  · refine State.hbrSteer_fr (Fr.sub hm rfl) ?_
    refine State.setHb_fr (Fr.sub hm rfl) ?_
    exact h

theorem State.hbrFollow_fr {a1}
    (hm : 0x20000000000000000000000000000000000000000000000000000000000280000000000000000 ||| m = m) (h : Fr m s₀ s) :
    Fr m s₀ (State.hbrFollow s a1) := by
  unfold State.hbrFollow
  refine Fr.ite ?_ ?_
  · refine State.hbrDrive_fr (Fr.sub hm rfl) ?_
    exact h
  · exact h

theorem State.hbrOff_fr {a1 a2}
    (hm : 0x20000000000000000000000000000000000000000000000000000000000280000000000000000 ||| m = m) (h : Fr m s₀ s) :
    Fr m s₀ (State.hbrOff s a1 a2) := by
  unfold State.hbrOff
  refine State.setBr_fr (Fr.sub hm rfl) ?_
  refine State.hbrMode_fr (Fr.sub hm rfl) ?_
  refine State.setHb_fr (Fr.sub hm rfl) ?_
  exact h

theorem State.hbrEvent_fr {a1 a2}
    (hm : 0x12000c00000000000000000000000000000020000920010000000000000000000000000280000000 ||| m = m) (h : Fr m s₀ s) :
    Fr m s₀ (State.hbrEvent s a1 a2) := by
  unfold State.hbrEvent
  refine Fr.ite ?_ ?_
  · refine State.event_fr (Fr.sub hm rfl) ?_
    exact h
  · exact h

theorem State.hbrStop_fr {a1 a2}
    (hm : 0x12020c000000000000000000000000000000200009200100000000000000002c0000000280000000 ||| m = m) (h : Fr m s₀ s) :
    Fr m s₀ (State.hbrStop s a1 a2) := by
  unfold State.hbrStop
  extract_lets +onlyGivenNames x0
  have h1 : Fr m s₀ x0 := by
    unfold x0
    refine State.put_fr (Fr.sub hm rfl) (Fr.bit hm rfl) ?_
    refine State.hbrMode_fr (Fr.sub hm rfl) ?_
    refine State.setHb_fr (Fr.sub hm rfl) ?_
    exact h
  clear_value x0
  extract_lets +onlyGivenNames x2
  clear_value x2
  extract_lets +onlyGivenNames x3
  have h4 : Fr m s₀ x3 := by
    unfold x3
    refine State.setBr_fr (Fr.sub hm rfl) ?_
    exact h1
  clear_value x3
  extract_lets +onlyGivenNames x5
  have h6 : Fr m s₀ x5 := by
    unfold x5
    split
    · refine State.flag_fr (Fr.sub hm rfl) (Fr.bit hm rfl) ?_
      exact h4
    · refine State.flag_fr (Fr.sub hm rfl) (Fr.bit hm rfl) ?_
      exact h4
    · refine State.flag_fr (Fr.sub hm rfl) (Fr.bit hm rfl) ?_
      exact h4
  clear_value x5
  refine State.hbrEvent_fr (Fr.sub hm rfl) ?_
  exact h6

theorem State.hbrRelease_fr {a1}
    (hm : 0x20000000000000000000000000000000000000000000000000000000000280000000000000000 ||| m = m) (h : Fr m s₀ s) :
    Fr m s₀ (State.hbrRelease s a1) := by
  unfold State.hbrRelease
  extract_lets +onlyGivenNames x0
  clear_value x0
  refine Fr.ite ?_ ?_
  · exact h
  · extract_lets +onlyGivenNames x1
    clear_value x1
    refine Fr.ite ?_ ?_
    · refine State.hbrIdle_fr (Fr.sub hm rfl) ?_
      exact h
    · refine Fr.ite ?_ ?_
      · refine State.hbrDrive_fr (Fr.sub hm rfl) ?_
        exact h
      · refine Fr.ite ?_ ?_
        · refine State.hbrFollow_fr (Fr.sub hm rfl) ?_
          refine State.hbrIdle_fr (Fr.sub hm rfl) ?_
          exact h
        · exact h

theorem State.hbrAgain_fr {a1}
    (hm : 0x20000000000000000000000000000000000000000000000000000000000280000000000000000 ||| m = m) (h : Fr m s₀ s) :
    Fr m s₀ (State.hbrAgain s a1) := by
  unfold State.hbrAgain
  refine Fr.ite ?_ ?_
  · exact h
  · split
    · refine State.hbrFollow_fr (Fr.sub hm rfl) ?_
      refine State.hbrIdle_fr (Fr.sub hm rfl) ?_
      exact h
    · refine State.hbrSteer_fr (Fr.sub hm rfl) ?_
      exact h
    · refine State.hbrSteer_fr (Fr.sub hm rfl) ?_
      exact h
    · refine State.hbrMode_fr (Fr.sub hm rfl) ?_
      exact h
    · exact h

theorem State.hbrShow_fr {a1} (hm : 0x80000000000000000 ||| m = m) (h : Fr m s₀ s) : Fr m s₀ (State.hbrShow s a1) := by
  unfold State.hbrShow
  refine State.flag_fr (Fr.sub hm rfl) (Fr.bit hm rfl) ?_
  refine State.flag_fr (Fr.sub hm rfl) (Fr.bit hm rfl) ?_
  exact h

theorem State.ripExpire_fr (hm : 0x80000000000000000 ||| m = m) (h : Fr m s₀ s) : Fr m s₀ (State.ripExpire s) := by
  unfold State.ripExpire
  refine Fr.forEach ?_ ?_
  · intro h0 s1 h2
    refine Fr.ite ?_ ?_
    · refine State.flag_fr (Fr.sub hm rfl) (Fr.bit hm rfl) ?_
      exact h2
    · exact h2
  · exact h

end Sys2Proof.Machine
end

