-- ==== Sys2Proof/Laws/FrameVlvCore.lean ====
section
/-! SUPPORT. Frames (Laws/Frame.lean) of the functions of Machine/VlvCore.lean: one lemma for each, which says by its mask which
registers and which parts of the state the function may change. -/

namespace Sys2Proof.Machine

variable {m : Nat} {s₀ s : State}

theorem State.bankShow_fr {a1} (hm : 0x2000000000000000000000 ||| m = m) (h : Fr m s₀ s) : Fr m s₀ (State.bankShow s a1) := by
  unfold State.bankShow
  extract_lets +onlyGivenNames x0
  clear_value x0
  extract_lets +onlyGivenNames x1
  have h2 : Fr m s₀ x1 := by
    unfold x1
    refine Fr.ite ?_ ?_
    · refine State.put_fr (Fr.sub hm rfl) (Fr.bit hm rfl) ?_
      exact h
    · refine Fr.ite ?_ ?_
      · refine State.put_fr (Fr.sub hm rfl) (Fr.bit hm rfl) ?_
        exact h
      · exact h
  clear_value x1
  extract_lets +onlyGivenNames x3
  clear_value x3
  refine State.put_fr (Fr.sub hm rfl) (Fr.bit hm rfl) ?_
  refine State.put_fr (Fr.sub hm rfl) (Fr.bit hm rfl) ?_
  exact h2

theorem State.setVlv_fr {a1 a2} (hm : 0x2040000000000000000000 ||| m = m) (h : Fr m s₀ s) :
    Fr m s₀ (State.setVlv s a1 a2) := by
  unfold State.setVlv
  extract_lets +onlyGivenNames x0
  have h1 : Fr m s₀ x0 := by
    unfold x0
    refine Fr.ite ?_ ?_
    · refine State.put_fr (Fr.sub hm rfl) (Fr.bit hm rfl) ?_
      exact h
    · exact h
  clear_value x0
  refine State.bankShow_fr (Fr.sub hm rfl) ?_
  refine State.put_fr (Fr.sub hm rfl) (Fr.bit hm rfl) ?_
  exact h1

theorem State.refuse_fr {a1 a2}
    (hm : 0x2000000000000000000000000000000000000000000000000000002040000000000000000000 ||| m = m) (h : Fr m s₀ s) :
    Fr m s₀ (State.refuse s a1 a2) := by
  unfold State.refuse
  extract_lets +onlyGivenNames x0
  clear_value x0
  refine State.raise_fr (Fr.sub hm rfl) ?_
  refine State.put_fr (Fr.sub hm rfl) (Fr.bit hm rfl) ?_
  refine State.flag_fr (Fr.sub hm rfl) (Fr.bit hm rfl) ?_
  refine State.setVlv_fr (Fr.sub hm rfl) ?_
  exact h

theorem State.setCoil_fr {a1 a2}
    (hm : 0x40000000000000000000000000000000000000000000000000000000000000000000000000000 ||| m = m) (h : Fr m s₀ s) :
    Fr m s₀ (State.setCoil s a1 a2) := by
  unfold State.setCoil
  refine Fr.set_coil (Fr.bit hm rfl) ?_
  exact h

theorem State.admitValve_fr {a1}
    (hm : 0xc2000000000000000000000000000000000000000000000000000002040000000000000000000 ||| m = m) (h : Fr m s₀ s) :
    Fr m s₀ (State.admitValve s a1) := by
  unfold State.admitValve
  extract_lets +onlyGivenNames x0
  clear_value x0
  extract_lets +onlyGivenNames x1
  clear_value x1
  refine Fr.ite ?_ ?_
  · refine State.refuse_fr (Fr.sub hm rfl) ?_
    exact h
  · refine Fr.ite ?_ ?_
    · refine State.refuse_fr (Fr.sub hm rfl) ?_
      exact h
    · extract_lets +onlyGivenNames x2
      clear_value x2
      extract_lets +onlyGivenNames x3
      clear_value x3
      extract_lets +onlyGivenNames x4
      have h5 : Fr m s₀ x4 := by
        unfold x4
        refine State.flag_fr (Fr.sub hm rfl) (Fr.bit hm rfl) ?_
        exact h
      clear_value x4
      refine State.setVlv_fr (Fr.sub hm rfl) ?_
      extract_lets +onlyGivenNames x6
      have h7 : Fr m s₀ x6 := by
        unfold x6
        refine State.setCoil_fr (Fr.sub hm rfl) ?_
        exact h5
      clear_value x6
      refine Fr.set_bank (Fr.bit hm rfl) ?_
      exact h7

theorem State.valveRise_fr {a1}
    (hm : 0xc2000000000000000000000000000000000000000000000000000002040000000000000000000 ||| m = m) (h : Fr m s₀ s) :
    Fr m s₀ (State.valveRise s a1) := by
  unfold State.valveRise
  extract_lets +onlyGivenNames x0
  clear_value x0
  extract_lets +onlyGivenNames x1
  clear_value x1
  refine Fr.ite ?_ ?_
  · exact h
  · refine Fr.ite ?_ ?_
    · refine State.flag_fr (Fr.sub hm rfl) (Fr.bit hm rfl) ?_
      exact h
    · refine State.admitValve_fr (Fr.sub hm rfl) ?_
      exact h

theorem State.pullIn_fr {a1} (hm : 0x40000000000000000000000000000000000000000000000000000800000000000000000000000 ||| m = m)
    (h : Fr m s₀ s) : Fr m s₀ (State.pullIn s a1) := by
  unfold State.pullIn
  extract_lets +onlyGivenNames x0
  clear_value x0
  extract_lets +onlyGivenNames x1
  clear_value x1
  extract_lets +onlyGivenNames x2
  have h3 : Fr m s₀ x2 := by
    unfold x2
    refine State.setCoil_fr (Fr.sub hm rfl) ?_
    exact h
  clear_value x2
  refine State.put_fr (Fr.sub hm rfl) (Fr.bit hm rfl) ?_
  exact h3

theorem State.ctdFollow_fr {a1}
    (hm : 0x40000000000000000000000000000000000000000000000000000800000000000000000000000 ||| m = m) (h : Fr m s₀ s) :
    Fr m s₀ (State.ctdFollow s a1) := by
  unfold State.ctdFollow
  extract_lets +onlyGivenNames x0
  clear_value x0
  refine Fr.ite ?_ ?_
  · refine State.pullIn_fr (Fr.sub hm rfl) ?_
    exact h
  · exact h

theorem State.setCf_fr {a1} {a2 : Fld} {a3 : Fld} {a4} (hm : 0x0 ||| m = m) (hp2 : m.testBit a2.reg.ctorIdx = true)
    (hp3 : m.testBit a3.reg.ctorIdx = true) (h : Fr m s₀ s) : Fr m s₀ (State.setCf s a1 a2 a3 a4) := by
  unfold State.setCf
  refine Fr.ite ?_ ?_
  · refine State.put_fr (Fr.sub hm rfl) hp2 ?_
    exact h
  · refine State.put_fr (Fr.sub hm rfl) hp3 ?_
    exact h

theorem State.setCoilState_fr {a1 a2} (hm : 0x800040000000000000000000 ||| m = m) (h : Fr m s₀ s) :
    Fr m s₀ (State.setCoilState s a1 a2) := by
  unfold State.setCoilState
  refine State.setCf_fr (Fr.sub hm rfl) (Fr.bit hm rfl) (Fr.bit hm rfl) ?_
  exact h

theorem State.decay_fr {a1} (hm : 0x40000000000000000000000000000000000000000000000000000802040000000000000000000 ||| m = m)
    (h : Fr m s₀ s) : Fr m s₀ (State.decay s a1) := by
  unfold State.decay
  extract_lets +onlyGivenNames x0
  clear_value x0
  extract_lets +onlyGivenNames x1
  have h2 : Fr m s₀ x1 := by
    unfold x1
    refine State.setCoil_fr (Fr.sub hm rfl) ?_
    exact h
  clear_value x1
  refine Fr.ite ?_ ?_
  · refine State.setVlv_fr (Fr.sub hm rfl) ?_
    exact h2
  · refine State.setCoilState_fr (Fr.sub hm rfl) ?_
    exact h2

theorem State.bankDrop_fr {a1}
    (hm : 0x42000000000000000000000000000000000000000000000000000802040000000000000000000 ||| m = m) (h : Fr m s₀ s) :
    Fr m s₀ (State.bankDrop s a1) := by
  unfold State.bankDrop
  refine Fr.forEach ?_ ?_
  · intro h0 s1 h2
    refine Fr.ite ?_ ?_
    · refine State.decay_fr (Fr.sub hm rfl) ?_
      exact h2
    · refine Fr.ite ?_ ?_
      · refine State.refuse_fr (Fr.sub hm rfl) ?_
        exact h2
      · exact h2
  · exact h

theorem State.bankReturn_fr {a1}
    (hm : 0xc2000000000000000000000000000000000000000000000000000002040000000000000000000 ||| m = m) (h : Fr m s₀ s) :
    Fr m s₀ (State.bankReturn s a1) := by
  unfold State.bankReturn
  refine Fr.forEach ?_ ?_
  · intro h0 s1 h2
    refine Fr.ite ?_ ?_
    · refine State.valveRise_fr (Fr.sub hm rfl) ?_
      exact h2
    · exact h2
  · exact h

theorem State.peakSeen_fr {a1 a2}
    (hm : 0x2000000000000000010000000000000000000000000000000000800040000000000000000000 ||| m = m) (h : Fr m s₀ s) :
    Fr m s₀ (State.peakSeen s a1 a2) := by
  unfold State.peakSeen
  refine Fr.ite ?_ ?_
  · refine State.clearSrc_fr (Fr.sub hm rfl) ?_
    refine State.setCf_fr (Fr.sub hm rfl) (Fr.bit hm rfl) (Fr.bit hm rfl) ?_
    exact h
  · exact h

theorem State.peakAny_fr {a1} (hm : 0x2040000000000000010000000000000000000000000000000000800040000000000000000000 ||| m = m)
    (h : Fr m s₀ s) : Fr m s₀ (State.peakAny s a1) := by
  unfold State.peakAny
  refine Fr.ite ?_ ?_
  · split
    rename_i y0 y1 y2 y3
    refine Fr.cutp y3 ?_ (fun h4 => ?_)
    · refine State.takeFree_fr (Fr.sub hm rfl) ?_
      exact h
    refine State.peakSeen_fr (Fr.sub hm rfl) ?_
    exact h4
  · exact h

theorem State.emergencyOff_fr {a1}
    (hm : 0x42000000000000000000000000000000000000000000000000000802040000000000000000000 ||| m = m) (h : Fr m s₀ s) :
    Fr m s₀ (State.emergencyOff s a1) := by
  unfold State.emergencyOff
  refine State.bankShow_fr (Fr.sub hm rfl) ?_
  refine State.bankDrop_fr (Fr.sub hm rfl) ?_
  refine State.put_fr (Fr.sub hm rfl) (Fr.bit hm rfl) ?_
  exact h

theorem State.coilShow_fr {a1} (hm : 0x800040000000000000000000 ||| m = m) (h : Fr m s₀ s) :
    Fr m s₀ (State.coilShow s a1) := by
  unfold State.coilShow
  refine State.setCf_fr (Fr.sub hm rfl) (Fr.bit hm rfl) (Fr.bit hm rfl) ?_
  refine State.setCf_fr (Fr.sub hm rfl) (Fr.bit hm rfl) (Fr.bit hm rfl) ?_
  exact h

end Sys2Proof.Machine
end

