-- ==== Sys2Proof/Laws/FrameLedCore.lean ====
section
/-! SUPPORT. Frames (Laws/Frame.lean) of the functions of Machine/LedCore.lean: one lemma for each, which says by its mask which
registers and which parts of the state the function may change. -/

namespace Sys2Proof.Machine

variable {m : Nat} {s₀ s : State}

theorem State.setLx_fr {a1 a2}
    (hm : 0x100000000000000000000000000000000000000000000000000000000000000000000000000000 ||| m = m) (h : Fr m s₀ s) :
    Fr m s₀ (State.setLx s a1 a2) := by
  unfold State.setLx
  refine Fr.set_led (Fr.bit hm rfl) ?_
  exact h

theorem State.ledFall_fr {a1}
    (hm : 0x100000000000000000000000000000000000000000000000000400000000000000000000000000 ||| m = m) (h : Fr m s₀ s) :
    Fr m s₀ (State.ledFall s a1) := by
  unfold State.ledFall
  extract_lets +onlyGivenNames x0
  clear_value x0
  refine Fr.ite ?_ ?_
  · exact h
  · refine Fr.ite ?_ ?_
    · extract_lets +onlyGivenNames x1
      clear_value x1
      refine Fr.ite ?_ ?_
      · refine State.setLx_fr (Fr.sub hm rfl) ?_
        exact h
      · refine State.setLx_fr (Fr.sub hm rfl) ?_
        exact h
    · refine Fr.ite ?_ ?_
      · refine State.put_fr (Fr.sub hm rfl) (Fr.bit hm rfl) ?_
        exact h
      · exact h

theorem State.setLs_fr {a1 a2} (hm : 0x400000000000000000000000000 ||| m = m) (h : Fr m s₀ s) :
    Fr m s₀ (State.setLs s a1 a2) := by
  unfold State.setLs
  refine State.put_fr (Fr.sub hm rfl) (Fr.bit hm rfl) ?_
  exact h

theorem State.ledStop_fr {a1 a2}
    (hm : 0x100000000000000000000000000000000000000000000000000400000000000000000000000000 ||| m = m) (h : Fr m s₀ s) :
    Fr m s₀ (State.ledStop s a1 a2) := by
  unfold State.ledStop
  refine State.setLs_fr (Fr.sub hm rfl) ?_
  refine State.setLx_fr (Fr.sub hm rfl) ?_
  exact h

theorem State.ledHeld_fr {a1}
    (hm : 0x100000000000000000000000000000000000000000000000000400000000000000000000000000 ||| m = m) (h : Fr m s₀ s) :
    Fr m s₀ (State.ledHeld s a1) := by
  unfold State.ledHeld
  extract_lets +onlyGivenNames x0
  clear_value x0
  extract_lets +onlyGivenNames x1
  have h2 : Fr m s₀ x1 := by
    unfold x1
    refine State.ledStop_fr (Fr.sub hm rfl) ?_
    exact h
  clear_value x1
  refine State.setLx_fr (Fr.sub hm rfl) ?_
  exact h2

theorem State.ledApply_fr {a1 a2 a3}
    (hm : 0x100000000000000000000000000000000000000000000000001000000000000000000000000000 ||| m = m) (h : Fr m s₀ s) :
    Fr m s₀ (State.ledApply s a1 a2 a3) := by
  unfold State.ledApply
  extract_lets +onlyGivenNames x0
  clear_value x0
  extract_lets +onlyGivenNames x1
  have h2 : Fr m s₀ x1 := by
    unfold x1
    refine State.setLx_fr (Fr.sub hm rfl) ?_
    exact h
  clear_value x1
  refine Fr.ite ?_ ?_
  · exact h2
  · refine State.put_fr (Fr.sub hm rfl) (Fr.bit hm rfl) ?_
    refine State.setLx_fr (Fr.sub hm rfl) ?_
    exact h2

theorem State.ledSetting_fr {a1}
    (hm : 0x100000000000000000000000000000000000000000000000001000000000000000000000000000 ||| m = m) (h : Fr m s₀ s) :
    Fr m s₀ (State.ledSetting s a1) := by
  unfold State.ledSetting
  refine State.ledApply_fr (Fr.sub hm rfl) ?_
  exact h

theorem State.ledRank_fr {a1}
    (hm : 0x100000000000000000000000000000000000000000000000001400000000000000000000000000 ||| m = m) (h : Fr m s₀ s) :
    Fr m s₀ (State.ledRank s a1) := by
  unfold State.ledRank
  extract_lets +onlyGivenNames x0
  have h1 : Fr m s₀ x0 := by
    unfold x0
    refine State.flag_fr (Fr.sub hm rfl) (Fr.bit hm rfl) ?_
    refine State.flag_fr (Fr.sub hm rfl) (Fr.bit hm rfl) ?_
    exact h
  clear_value x0
  refine Fr.ite ?_ ?_
  · exact h1
  · refine Fr.ite ?_ ?_
    · refine Fr.ite ?_ ?_
      · exact h1
      · extract_lets +onlyGivenNames x2
        have h3 : Fr m s₀ x2 := by
          unfold x2
          refine Fr.ite ?_ ?_
          · exact h1
          · refine State.ledHeld_fr (Fr.sub hm rfl) ?_
            exact h1
        clear_value x2
        refine State.put_fr (Fr.sub hm rfl) (Fr.bit hm rfl) ?_
        exact h3
    · refine Fr.ite ?_ ?_
      · refine State.ledSetting_fr (Fr.sub hm rfl) ?_
        refine State.setLs_fr (Fr.sub hm rfl) ?_
        exact h1
      · exact h1

theorem State.ledRise_fr {a1}
    (hm : 0x100000000000000000000000000000000000000000000000001000000000000000000000000000 ||| m = m) (h : Fr m s₀ s) :
    Fr m s₀ (State.ledRise s a1) := by
  unfold State.ledRise
  extract_lets +onlyGivenNames x0
  clear_value x0
  extract_lets +onlyGivenNames x1
  have h2 : Fr m s₀ x1 := by
    unfold x1
    refine State.setLx_fr (Fr.sub hm rfl) ?_
    exact h
  clear_value x1
  refine Fr.ite ?_ ?_
  · refine State.ledApply_fr (Fr.sub hm rfl) ?_
    exact h2
  · exact h2

theorem State.ledUpdate_fr {a1}
    (hm : 0x100000000000000000000000000000000000000000000000001400000000000000000000000000 ||| m = m) (h : Fr m s₀ s) :
    Fr m s₀ (State.ledUpdate s a1) := by
  unfold State.ledUpdate
  refine Fr.ite ?_ ?_
  · exact h
  · extract_lets +onlyGivenNames x0
    clear_value x0
    extract_lets +onlyGivenNames x1
    clear_value x1
    extract_lets +onlyGivenNames x2
    clear_value x2
    extract_lets +onlyGivenNames x3
    have h4 : Fr m s₀ x3 := by
      unfold x3
      refine State.flag_fr (Fr.sub hm rfl) (Fr.bit hm rfl) ?_
      exact h
    clear_value x3
    refine Fr.ite ?_ ?_
    · exact h4
    · extract_lets +onlyGivenNames x5
      have h6 : Fr m s₀ x5 := by
        unfold x5
        refine State.flag_fr (Fr.sub hm rfl) (Fr.bit hm rfl) ?_
        refine State.put_fr (Fr.sub hm rfl) (Fr.bit hm rfl) ?_
        exact h4
      clear_value x5
      refine State.setLx_fr (Fr.sub hm rfl) ?_
      exact h6

theorem State.ledTake_fr {a1}
    (hm : 0x100000000000000000000000000000000000000000000000000400000000000000000000000000 ||| m = m) (h : Fr m s₀ s) :
    Fr m s₀ (State.ledTake s a1) := by
  unfold State.ledTake
  extract_lets +onlyGivenNames x0
  clear_value x0
  refine Fr.ite ?_ ?_
  · exact h
  · extract_lets +onlyGivenNames x1
    have h2 : Fr m s₀ x1 := by
      unfold x1
      refine State.setLx_fr (Fr.sub hm rfl) ?_
      exact h
    clear_value x1
    refine Fr.ite ?_ ?_
    · refine State.setLs_fr (Fr.sub hm rfl) ?_
      exact h2
    · exact h2

theorem State.ledTakes_fr {a1}
    (hm : 0x100000000000000000000000000000000000000000000000000400000000000000000000000000 ||| m = m) (h : Fr m s₀ s) :
    Fr m s₀ (State.ledTakes s a1) := by
  unfold State.ledTakes
  refine Fr.forEach ?_ ?_
  · intro h0 s1 h2
    refine State.ledTake_fr (Fr.sub hm rfl) ?_
    exact h2
  · exact h

end Sys2Proof.Machine
end

