-- ==== Sys2Proof/Laws/FrameProtect.lean ====
section
/-! SUPPORT. Frames (Laws/Frame.lean) of the functions of Machine/Protect.lean: one lemma for each, which says by its mask which
registers and which parts of the state the function may change. -/

namespace Sys2Proof.Machine

variable {m : Nat} {s₀ s : State}

theorem State.putByClass_fr {a1} {a2 : Fld} {a3 : Fld} {a4 : Fld} {a5 : Fld} {a6 : Fld} {a7 : Fld} {a8} (hm : 0x0 ||| m = m)
    (hp2 : m.testBit a2.reg.ctorIdx = true) (hp3 : m.testBit a3.reg.ctorIdx = true) (hp4 : m.testBit a4.reg.ctorIdx = true)
    (hp5 : m.testBit a5.reg.ctorIdx = true) (hp6 : m.testBit a6.reg.ctorIdx = true) (hp7 : m.testBit a7.reg.ctorIdx = true) (h :
    Fr m s₀ s) : Fr m s₀ (State.putByClass s a1 a2 a3 a4 a5 a6 a7 a8) := by
  unfold State.putByClass
  split
  · refine State.put_fr (Fr.sub hm rfl) hp2 ?_
    exact h
  · refine State.put_fr (Fr.sub hm rfl) hp3 ?_
    exact h
  · refine State.put_fr (Fr.sub hm rfl) hp4 ?_
    exact h
  · refine State.put_fr (Fr.sub hm rfl) hp5 ?_
    exact h
  · refine State.put_fr (Fr.sub hm rfl) hp6 ?_
    exact h
  · refine State.put_fr (Fr.sub hm rfl) hp7 ?_
    exact h

theorem State.setRetries_fr {a1 a2} (hm : 0x400802040080002000000000000 ||| m = m) (h : Fr m s₀ s) :
    Fr m s₀ (State.setRetries s a1 a2) := by
  unfold State.setRetries
  refine State.putByClass_fr (Fr.sub hm rfl) (Fr.bit hm rfl) (Fr.bit hm rfl) (Fr.bit hm rfl) (Fr.bit hm rfl) (Fr.bit hm rfl) (Fr.bit hm rfl) ?_
  exact h

theorem State.setTrip_fr {a1 a2}
    (hm : 0x4000000000000000000000000000000000000000000000000000000000000000000000000000 ||| m = m) (h : Fr m s₀ s) :
    Fr m s₀ (State.setTrip s a1 a2) := by
  unfold State.setTrip
  refine Fr.set_trips (Fr.bit hm rfl) ?_
  exact h

theorem State.restart_fr {a1 a2}
    (hm : 0x1f2000000000000000010000000000000000000000000000001400802040280002000000000000 ||| m = m) (h : Fr m s₀ s) :
    Fr m s₀ (State.restart s a1 a2) := by
  unfold State.restart
  split
  · refine Fr.ite ?_ ?_
    · refine State.hswArm_fr (Fr.sub hm rfl) ?_
      exact h
    · refine State.hswFollow_fr (Fr.sub hm rfl) ?_
      refine State.hswOff_fr (Fr.sub hm rfl) ?_
      exact h
  · refine State.hbrFollow_fr (Fr.sub hm rfl) ?_
    refine State.hbrIdle_fr (Fr.sub hm rfl) ?_
    exact h
  · extract_lets +onlyGivenNames x0
    have h1 : Fr m s₀ x0 := by
      unfold x0
      refine State.setVlv_fr (Fr.sub hm rfl) ?_
      exact h
    clear_value x0
    refine Fr.ite ?_ ?_
    · refine State.valveRise_fr (Fr.sub hm rfl) ?_
      exact h1
    · exact h1
  · refine State.bankShow_fr (Fr.sub hm rfl) ?_
    refine State.put_fr (Fr.sub hm rfl) (Fr.bit hm rfl) ?_
    exact h
  · extract_lets +onlyGivenNames x2
    have h3 : Fr m s₀ x2 := by
      unfold x2
      refine State.put_fr (Fr.sub hm rfl) (Fr.bit hm rfl) ?_
      exact h
    clear_value x2
    refine Fr.ite ?_ ?_
    · refine State.ctdFollow_fr (Fr.sub hm rfl) ?_
      exact h3
    · exact h3
  · extract_lets +onlyGivenNames x4
    have h5 : Fr m s₀ x4 := by
      unfold x4
      refine State.ledRank_fr (Fr.sub hm rfl) ?_
      refine State.setLs_fr (Fr.sub hm rfl) ?_
      exact h
    clear_value x4
    refine Fr.ite ?_ ?_
    · refine State.ledSetting_fr (Fr.sub hm rfl) ?_
      refine State.setLs_fr (Fr.sub hm rfl) ?_
      exact h5
    · exact h5

theorem State.untrip_fr {a1} (hm : 0x1f6000000000000000010000000000000000000000000000001400802040280002000000000000 ||| m = m)
    (h : Fr m s₀ s) : Fr m s₀ (State.untrip s a1) := by
  unfold State.untrip
  extract_lets +onlyGivenNames x0
  clear_value x0
  extract_lets +onlyGivenNames x1
  have h2 : Fr m s₀ x1 := by
    unfold x1
    refine State.setRetries_fr (Fr.sub hm rfl) ?_
    refine State.setTrip_fr (Fr.sub hm rfl) ?_
    exact h
  clear_value x1
  extract_lets +onlyGivenNames x3
  clear_value x3
  extract_lets +onlyGivenNames x4
  have h5 : Fr m s₀ x4 := by
    unfold x4
    refine Fr.forEach ?_ ?_
    · intro h6 s7 h8
      refine State.clearSrc_fr (Fr.sub hm rfl) ?_
      exact h8
    · exact h2
  clear_value x4
  refine Fr.ite ?_ ?_
  · refine State.restart_fr (Fr.sub hm rfl) ?_
    exact h5
  · exact h5

theorem State.tryRecover_fr {a1 a2}
    (hm : 0x1f6000000000000000010000000000000000000000000000001400802040280002000000000000 ||| m = m) (h : Fr m s₀ s) :
    Fr m s₀ (State.tryRecover s a1 a2) := by
  unfold State.tryRecover
  refine Fr.ite ?_ ?_
  · refine Fr.forEach ?_ ?_
    · intro h0 s1 h2
      refine State.untrip_fr (Fr.sub hm rfl) ?_
      exact h2
    · exact h
  · exact h

theorem State.ledIn_fr {a1} (hm : 0x1f6000000000000000010000000000000000000000000000001400802040280002000000000000 ||| m = m)
    (h : Fr m s₀ s) : Fr m s₀ (State.ledIn s a1) := by
  unfold State.ledIn
  extract_lets +onlyGivenNames x0
  clear_value x0
  extract_lets +onlyGivenNames x1
  clear_value x1
  extract_lets +onlyGivenNames x2
  have h3 : Fr m s₀ x2 := by
    unfold x2
    refine Fr.ite ?_ ?_
    · refine State.ledFall_fr (Fr.sub hm rfl) ?_
      exact h
    · exact h
  clear_value x2
  extract_lets +onlyGivenNames x4
  have h5 : Fr m s₀ x4 := by
    unfold x4
    refine State.ledRank_fr (Fr.sub hm rfl) ?_
    exact h3
  clear_value x4
  extract_lets +onlyGivenNames x6
  have h7 : Fr m s₀ x6 := by
    unfold x6
    refine Fr.ite ?_ ?_
    · refine State.ledRise_fr (Fr.sub hm rfl) ?_
      exact h5
    · exact h5
  clear_value x6
  refine Fr.ite ?_ ?_
  · exact h7
  · refine State.tryRecover_fr (Fr.sub hm rfl) ?_
    exact h7

theorem State.ledSync_fr (hm : 0x1f6000000000000000010000000000000000000000000000001400802040280002000000000000 ||| m = m) (h :
    Fr m s₀ s) : Fr m s₀ (State.ledSync s) := by
  unfold State.ledSync
  refine Fr.forEach ?_ ?_
  · intro h0 s1 h2
    refine State.ledIn_fr (Fr.sub hm rfl) ?_
    exact h2
  · exact h

theorem State.setLock_fr {a1 a2} (hm : 0x802000000180000000000000 ||| m = m) (h : Fr m s₀ s) :
    Fr m s₀ (State.setLock s a1 a2) := by
  unfold State.setLock
  split
  · refine Fr.ite ?_ ?_
    · refine State.put_fr (Fr.sub hm rfl) (Fr.bit hm rfl) ?_
      exact h
    · refine State.put_fr (Fr.sub hm rfl) (Fr.bit hm rfl) ?_
      exact h
  · refine State.flag_fr (Fr.sub hm rfl) (Fr.bit hm rfl) ?_
    exact h
  · refine State.flag_fr (Fr.sub hm rfl) (Fr.bit hm rfl) ?_
    exact h
  · exact h

theorem State.stageOff_fr {a1 a2}
    (hm : 0x1f2000000000000000010000000000000000000000000000000400802040280002000000000000 ||| m = m) (h : Fr m s₀ s) :
    Fr m s₀ (State.stageOff s a1 a2) := by
  unfold State.stageOff
  split
  · refine State.hswOff_fr (Fr.sub hm rfl) ?_
    exact h
  · refine State.hbrOff_fr (Fr.sub hm rfl) ?_
    exact h
  · refine State.setVlv_fr (Fr.sub hm rfl) ?_
    refine State.flag_fr (Fr.sub hm rfl) (Fr.bit hm rfl) ?_
    refine State.setCoil_fr (Fr.sub hm rfl) ?_
    exact h
  · extract_lets +onlyGivenNames x0
    clear_value x0
    extract_lets +onlyGivenNames x1
    have h2 : Fr m s₀ x1 := by
      unfold x1
      refine Fr.set_bank (Fr.bit hm rfl) ?_
      exact h
    clear_value x1
    refine State.bankShow_fr (Fr.sub hm rfl) ?_
    refine State.bankDrop_fr (Fr.sub hm rfl) ?_
    refine State.put_fr (Fr.sub hm rfl) (Fr.bit hm rfl) ?_
    exact h2
  · refine State.put_fr (Fr.sub hm rfl) (Fr.bit hm rfl) ?_
    refine State.setCoil_fr (Fr.sub hm rfl) ?_
    exact h
  · refine State.ledStop_fr (Fr.sub hm rfl) ?_
    exact h

theorem State.tryUnlock_fr {a1}
    (hm : 0x1f2000000000000000010000000000000000000000000000001400802040280002000000000000 ||| m = m) (h : Fr m s₀ s) :
    Fr m s₀ (State.tryUnlock s a1) := by
  unfold State.tryUnlock
  extract_lets +onlyGivenNames x0
  clear_value x0
  refine Fr.ite ?_ ?_
  · refine Fr.forEach ?_ ?_
    · intro h1 s2 h3
      extract_lets +onlyGivenNames x4
      have h5 : Fr m s₀ x4 := by
        unfold x4
        refine State.clearSrc_fr (Fr.sub hm rfl) ?_
        exact h3
      clear_value x4
      refine Fr.ite ?_ ?_
      · refine Fr.ite ?_ ?_
        · refine State.stageOff_fr (Fr.sub hm rfl) ?_
          exact h5
        · refine State.restart_fr (Fr.sub hm rfl) ?_
          exact h5
      · exact h5
    · exact h
  · exact h

theorem State.lockClear_fr {a1}
    (hm : 0x1f2000000000000000010000000000000000000000000000001400802040280182000000000000 ||| m = m) (h : Fr m s₀ s) :
    Fr m s₀ (State.lockClear s a1) := by
  unfold State.lockClear
  extract_lets +onlyGivenNames x0
  have h1 : Fr m s₀ x0 := by
    unfold x0
    refine Fr.forEach ?_ ?_
    · intro h2 s3 h4
      refine Fr.ite ?_ ?_
      · refine State.setLock_fr (Fr.sub hm rfl) ?_
        exact h4
      · exact h4
    · exact h
  clear_value x0
  refine State.tryUnlock_fr (Fr.sub hm rfl) ?_
  exact h1

theorem State.clrTrip_fr {a1}
    (hm : 0x1f6000000000000000010000000000000000000000000000001400802040280002000000000000 ||| m = m) (h : Fr m s₀ s) :
    Fr m s₀ (State.clrTrip s a1) := by
  unfold State.clrTrip
  extract_lets +onlyGivenNames x0
  clear_value x0
  extract_lets +onlyGivenNames x1
  refine Fr.ite ?_ ?_
  · refine Fr.ite ?_ ?_
    · unfold x1
      refine Fr.forEach ?_ ?_
      · intro h2 s3 h4
        refine State.setRetries_fr (Fr.sub hm rfl) ?_
        exact h4
      · refine State.tryRecover_fr (Fr.sub hm rfl) ?_
        exact h
    · exact h
  · unfold x1
    refine Fr.forEach ?_ ?_
    · intro h5 s6 h7
      refine State.setRetries_fr (Fr.sub hm rfl) ?_
      exact h7
    · exact h

theorem State.setMissing_fr {a1 a2}
    (hm : 0x8000000000000000000000000000000000000000000000000000000000000000000000000000 ||| m = m) (h : Fr m s₀ s) :
    Fr m s₀ (State.setMissing s a1 a2) := by
  unfold State.setMissing
  refine Fr.set_buckets (Fr.bit hm rfl) ?_
  exact h

theorem State.enableSlot_fr {a1}
    (hm : 0x121f6c00000000000000010000000000000020000920010000001400802040280002000280000000 ||| m = m) (h : Fr m s₀ s) :
    Fr m s₀ (State.enableSlot s a1) := by
  unfold State.enableSlot
  refine Fr.ite ?_ ?_
  · split
    · refine State.setCoil_fr (Fr.sub hm rfl) ?_
      exact h
    · refine State.setCoil_fr (Fr.sub hm rfl) ?_
      exact h
    · refine Fr.set_bank (Fr.bit hm rfl) ?_
      exact h
    · exact h
  · extract_lets +onlyGivenNames x0
    have h1 : Fr m s₀ x0 := by
      unfold x0
      refine State.tryRecover_fr (Fr.sub hm rfl) ?_
      exact h
    clear_value x0
    refine Fr.ite ?_ ?_
    · refine State.stageOff_fr (Fr.sub hm rfl) ?_
      exact h1
    · refine Fr.ite ?_ ?_
      · extract_lets +onlyGivenNames x2
        have h3 : Fr m s₀ x2 := by
          unfold x2
          refine State.stageOff_fr (Fr.sub hm rfl) ?_
          exact h1
        clear_value x2
        refine Fr.ite ?_ ?_
        · refine State.hbrEvent_fr (Fr.sub hm rfl) ?_
          exact h3
        · exact h3
      · refine State.restart_fr (Fr.sub hm rfl) ?_
        exact h1

theorem State.disableSlot_fr {a1}
    (hm : 0x1f2040000000000000010000000000000000000000000000000400802040280002000000000000 ||| m = m) (h : Fr m s₀ s) :
    Fr m s₀ (State.disableSlot s a1) := by
  unfold State.disableSlot
  extract_lets +onlyGivenNames x0
  clear_value x0
  refine Fr.ite ?_ ?_
  · exact h
  · split
    · refine Fr.ite ?_ ?_
      · extract_lets +onlyGivenNames x1
        have h2 : Fr m s₀ x1 := by
          unfold x1
          refine Fr.ite ?_ ?_
          · exact h
          · refine State.decay_fr (Fr.sub hm rfl) ?_
            refine State.peakAny_fr (Fr.sub hm rfl) ?_
            exact h
        clear_value x1
        refine State.flag_fr (Fr.sub hm rfl) (Fr.bit hm rfl) ?_
        refine State.setCoil_fr (Fr.sub hm rfl) ?_
        exact h2
      · refine State.stageOff_fr (Fr.sub hm rfl) ?_
        exact h
    · refine Fr.ite ?_ ?_
      · refine State.put_fr (Fr.sub hm rfl) (Fr.bit hm rfl) ?_
        exact h
      · extract_lets +onlyGivenNames x3
        have h4 : Fr m s₀ x3 := by
          unfold x3
          refine Fr.ite ?_ ?_
          · exact h
          · refine State.emergencyOff_fr (Fr.sub hm rfl) ?_
            refine Fr.forEach ?_ ?_
            · intro h5 s6 h7
              refine State.peakAny_fr (Fr.sub hm rfl) ?_
              exact h7
            · exact h
        clear_value x3
        refine Fr.set_bank (Fr.bit hm rfl) ?_
        exact h4
    · refine Fr.ite ?_ ?_
      · extract_lets +onlyGivenNames x8
        have h9 : Fr m s₀ x8 := by
          unfold x8
          refine Fr.ite ?_ ?_
          · exact h
          · refine State.decay_fr (Fr.sub hm rfl) ?_
            refine State.peakAny_fr (Fr.sub hm rfl) ?_
            exact h
        clear_value x8
        refine State.setCoil_fr (Fr.sub hm rfl) ?_
        exact h9
      · refine State.stageOff_fr (Fr.sub hm rfl) ?_
        exact h
    · refine State.stageOff_fr (Fr.sub hm rfl) ?_
      exact h

theorem State.bucketFull_fr {a1}
    (hm : 0x1fa000000000000000010000000000000000000000000000001400802040280182000000000000 ||| m = m) (h : Fr m s₀ s) :
    Fr m s₀ (State.bucketFull s a1) := by
  unfold State.bucketFull
  extract_lets +onlyGivenNames x0
  have h1 : Fr m s₀ x0 := by
    unfold x0
    refine State.setMissing_fr (Fr.sub hm rfl) ?_
    exact h
  clear_value x0
  extract_lets +onlyGivenNames x2
  clear_value x2
  extract_lets +onlyGivenNames x3
  have h4 : Fr m s₀ x3 := by
    unfold x3
    refine Fr.ite ?_ ?_
    · refine Fr.forEach ?_ ?_
      · intro h5 s6 h7
        refine Fr.ite ?_ ?_
        · refine State.setLock_fr (Fr.sub hm rfl) ?_
          exact h7
        · exact h7
      · exact h1
    · exact h1
  clear_value x3
  refine Fr.ite ?_ ?_
  · refine State.tryUnlock_fr (Fr.sub hm rfl) ?_
    exact h4
  · exact h4

theorem State.lockOne_fr {a1}
    (hm : 0x1f2000000000000000010000000000000000000000000000000400802040280182000000000000 ||| m = m) (h : Fr m s₀ s) :
    Fr m s₀ (State.lockOne s a1) := by
  unfold State.lockOne
  extract_lets +onlyGivenNames x0
  have h1 : Fr m s₀ x0 := by
    unfold x0
    refine State.setLock_fr (Fr.sub hm rfl) ?_
    exact h
  clear_value x0
  refine Fr.ite ?_ ?_
  · exact h1
  · split
    · refine State.stageOff_fr (Fr.sub hm rfl) ?_
      exact h1
    · exact h1

theorem State.lock_fr {a1 a2}
    (hm : 0x1f2000000000000000010000000000000000000000000000000400802040280182000000000000 ||| m = m) (h : Fr m s₀ s) :
    Fr m s₀ (State.lock s a1 a2) := by
  unfold State.lock
  extract_lets +onlyGivenNames x0
  clear_value x0
  extract_lets +onlyGivenNames x1
  have h2 : Fr m s₀ x1 := by
    unfold x1
    refine Fr.forEach ?_ ?_
    · intro h3 s4 h5
      refine State.lockOne_fr (Fr.sub hm rfl) ?_
      exact h5
    · exact h
  clear_value x1
  refine State.hold_fr (Fr.sub hm rfl) ?_
  exact h2

theorem State.clampEvent_fr {a1 a2}
    (hm : 0x1fa00000000000000001000000000000000000000000000000040880a0402801a2000000000000 ||| m = m) (h : Fr m s₀ s) :
    Fr m s₀ (State.clampEvent s a1 a2) := by
  unfold State.clampEvent
  split
  extract_lets +onlyGivenNames x0
  clear_value x0
  extract_lets +onlyGivenNames x1
  clear_value x1
  extract_lets +onlyGivenNames x2
  have h3 : Fr m s₀ x2 := by
    unfold x2
    refine State.setMissing_fr (Fr.sub hm rfl) ?_
    exact h
  clear_value x2
  extract_lets +onlyGivenNames x4
  have h5 : Fr m s₀ x4 := by
    unfold x4
    split
    · refine State.flag_fr (Fr.sub hm rfl) (Fr.bit hm rfl) ?_
      refine State.wrap_fr (Fr.sub hm rfl) (Fr.bit hm rfl) ?_
      refine State.put_fr (Fr.sub hm rfl) (Fr.bit hm rfl) ?_
      exact h3
    · refine State.wrap_fr (Fr.sub hm rfl) (Fr.bit hm rfl) ?_
      refine State.put_fr (Fr.sub hm rfl) (Fr.bit hm rfl) ?_
      exact h3
    · refine State.wrap_fr (Fr.sub hm rfl) (Fr.bit hm rfl) ?_
      refine State.put_fr (Fr.sub hm rfl) (Fr.bit hm rfl) ?_
      exact h3
    · exact h3
  clear_value x4
  refine Fr.ite ?_ ?_
  · refine State.lock_fr (Fr.sub hm rfl) ?_
    exact h5
  · exact h5

theorem State.tripMark_fr {a1 a2 a3}
    (hm : 0x4000000000000000000000000000000000000000000000000000000000000000000000000000 ||| m = m) (h : Fr m s₀ s) :
    Fr m s₀ (State.tripMark s a1 a2 a3) := by
  unfold State.tripMark
  extract_lets +onlyGivenNames x0
  clear_value x0
  refine State.setTrip_fr (Fr.sub hm rfl) ?_
  exact h

theorem State.tripOne_fr {a1 a2 a3}
    (hm : 0x1f6000000000000000010000000000000000000000000000000400802040280002000000000000 ||| m = m) (h : Fr m s₀ s) :
    Fr m s₀ (State.tripOne s a1 a2 a3) := by
  unfold State.tripOne
  extract_lets +onlyGivenNames x0
  have h1 : Fr m s₀ x0 := by
    unfold x0
    refine State.tripMark_fr (Fr.sub hm rfl) ?_
    exact h
  clear_value x0
  refine Fr.ite ?_ ?_
  · exact h1
  · refine State.stageOff_fr (Fr.sub hm rfl) ?_
    exact h1

theorem State.trip_fr {a1 a2 a3 a4}
    (hm : 0x121f6c00000000000000010000000000000020000920010000000400802040280002000280000000 ||| m = m) (h : Fr m s₀ s) :
    Fr m s₀ (State.trip s a1 a2 a3 a4) := by
  unfold State.trip
  extract_lets +onlyGivenNames x0
  have h1 : Fr m s₀ x0 := by
    unfold x0
    refine Fr.forEach ?_ ?_
    · intro h2 s3 h4
      refine Fr.ite ?_ ?_
      · refine State.tripOne_fr (Fr.sub hm rfl) ?_
        exact h4
      · refine State.tripOne_fr (Fr.sub hm rfl) ?_
        exact h4
    · exact h
  clear_value x0
  extract_lets +onlyGivenNames x5
  have h6 : Fr m s₀ x5 := by
    unfold x5
    refine State.raiseCond_fr (Fr.sub hm rfl) ?_
    exact h1
  clear_value x5
  refine Fr.ite ?_ ?_
  · refine State.hbrEvent_fr (Fr.sub hm rfl) ?_
    exact h6
  · exact h6

theorem State.ctdForced_fr {a1 a2 a3}
    (hm : 0x1fa00000000000000001000000000000000000000000000000040880a0402801a2000000000000 ||| m = m) (h : Fr m s₀ s) :
    Fr m s₀ (State.ctdForced s a1 a2 a3) := by
  unfold State.ctdForced
  refine Fr.ite ?_ ?_
  · refine State.clampEvent_fr (Fr.sub hm rfl) ?_
    refine State.flag_fr (Fr.sub hm rfl) (Fr.bit hm rfl) ?_
    exact h
  · exact h

theorem execJunctionTrip_fr {a0 a1} {t}
    (hm : 0x521fec00000000000000010000000000000020000920010000000c0a80a1403801aa000280000000 ||| m = m) (h : Fr m s₀ s)
    (e : execJunctionTrip a0 a1 s = .next t) : Fr m s₀ t := by
  unfold execJunctionTrip at e
  cases e
  refine State.ship_fr (Fr.sub hm rfl) ?_
  extract_lets +onlyGivenNames x0
  clear_value x0
  extract_lets +onlyGivenNames x1
  clear_value x1
  refine Fr.ite ?_ ?_
  · exact h
  · extract_lets +onlyGivenNames x2
    have h3 : Fr m s₀ x2 := by
      unfold x2
      split
      · refine State.sput_fr (Fr.sub hm rfl) (Fr.bit hm rfl) ?_
        exact h
      · refine State.sput_fr (Fr.sub hm rfl) (Fr.bit hm rfl) ?_
        exact h
      · refine State.sput_fr (Fr.sub hm rfl) (Fr.bit hm rfl) ?_
        exact h
      · refine State.sput_fr (Fr.sub hm rfl) (Fr.bit hm rfl) ?_
        exact h
      · refine State.sput_fr (Fr.sub hm rfl) (Fr.bit hm rfl) ?_
        exact h
    clear_value x2
    refine Fr.ite ?_ ?_
    · exact h3
    · extract_lets +onlyGivenNames x4
      clear_value x4
      extract_lets +onlyGivenNames x5
      clear_value x5
      extract_lets +onlyGivenNames x6
      have h7 : Fr m s₀ x6 := by
        unfold x6
        refine Fr.ite ?_ ?_
        · refine State.peakSeen_fr (Fr.sub hm rfl) ?_
          exact h3
        · exact h3
      clear_value x6
      extract_lets +onlyGivenNames x8
      have h9 : Fr m s₀ x8 := by
        unfold x8
        refine State.putByClass_fr (Fr.sub hm rfl) (Fr.bit hm rfl) (Fr.bit hm rfl) (Fr.bit hm rfl) (Fr.bit hm rfl) (Fr.bit hm rfl) (Fr.bit hm rfl) ?_
        exact h7
      clear_value x8
      extract_lets +onlyGivenNames x10
      have h11 : Fr m s₀ x10 := by
        unfold x10
        refine State.trip_fr (Fr.sub hm rfl) ?_
        exact h9
      clear_value x10
      refine Fr.ite ?_ ?_
      · refine State.ctdForced_fr (Fr.sub hm rfl) ?_
        exact h11
      · exact h11

theorem execClampEventEnd_fr {a0 a1} {t}
    (hm : 0x401fa00000000000000001000000000000000000000000000000040880a0402801a2000000000000 ||| m = m) (h : Fr m s₀ s)
    (e : execClampEventEnd a0 a1 s = .next t) : Fr m s₀ t := by
  unfold execClampEventEnd at e
  cases e
  refine State.ship_fr (Fr.sub hm rfl) ?_
  refine Fr.ite ?_ ?_
  · refine State.clampEvent_fr (Fr.sub hm rfl) ?_
    exact h
  · exact h

theorem execBucketFull_fr {a0} {t}
    (hm : 0x401fa000000000000000010000000000000000000000000000001400802040280182000000000000 ||| m = m) (h : Fr m s₀ s)
    (e : execBucketFull a0 s = .next t) : Fr m s₀ t := by
  unfold execBucketFull at e
  cases e
  refine State.ship_fr (Fr.sub hm rfl) ?_
  refine Fr.ite ?_ ?_
  · refine State.bucketFull_fr (Fr.sub hm rfl) ?_
    exact h
  · exact h

theorem execTretryExpiry_fr {a0} {t}
    (hm : 0x401f6000000000000000010000000000000000000000000000001400802040280002000000000000 ||| m = m) (h : Fr m s₀ s)
    (e : execTretryExpiry a0 s = .next t) : Fr m s₀ t := by
  unfold execTretryExpiry at e
  cases e
  refine State.ship_fr (Fr.sub hm rfl) ?_
  refine Fr.ite ?_ ?_
  · refine State.tryRecover_fr (Fr.sub hm rfl) ?_
    refine Fr.forEach ?_ ?_
    · intro h0 s1 h2
      refine State.setTrip_fr (Fr.sub hm rfl) ?_
      exact h2
    · exact h
  · exact h

theorem execTripConditionClear_fr {a0} {t}
    (hm : 0x401f6000000000000000010000000000000000000000000000001400802040280002000000000000 ||| m = m) (h : Fr m s₀ s)
    (e : execTripConditionClear a0 s = .next t) : Fr m s₀ t := by
  unfold execTripConditionClear at e
  cases e
  refine State.ship_fr (Fr.sub hm rfl) ?_
  refine Fr.ite ?_ ?_
  · refine State.tryRecover_fr (Fr.sub hm rfl) ?_
    refine State.setTrip_fr (Fr.sub hm rfl) ?_
    exact h
  · exact h

theorem execRetryCounterReset_fr {a0} {t}
    (hm : 0x40000000000000000000000000000000000000000000000000000400802040080002000000000000 ||| m = m) (h : Fr m s₀ s)
    (e : execRetryCounterReset a0 s = .next t) : Fr m s₀ t := by
  unfold execRetryCounterReset at e
  cases e
  refine State.ship_fr (Fr.sub hm rfl) ?_
  extract_lets +onlyGivenNames x0
  clear_value x0
  refine Fr.ite ?_ ?_
  · refine State.setRetries_fr (Fr.sub hm rfl) ?_
    exact h
  · exact h

end Sys2Proof.Machine
end

