-- ==== Sys2Proof/Laws/FrameModeCore.lean ====
section
/-! SUPPORT. Frames (Laws/Frame.lean) of the functions of Machine/ModeCore.lean: one lemma for each, which says by its mask which
registers and which parts of the state the function may change. -/

namespace Sys2Proof.Machine

variable {m : Nat} {s₀ s : State}

theorem State.setPend_fr {a1 a2} (hm : 0x80000000000000000000000000000000000000000000000000000000000000000000000002 ||| m = m)
    (h : Fr m s₀ s) : Fr m s₀ (State.setPend s a1 a2) := by
  unfold State.setPend
  refine State.flag_fr (Fr.sub hm rfl) (Fr.bit hm rfl) ?_
  refine State.put_fr (Fr.sub hm rfl) (Fr.bit hm rfl) ?_
  refine Fr.set_sys (Fr.bit hm rfl) ?_
  exact h

theorem State.cancelRes_fr {a1 a2} (hm : 0x8 ||| m = m) (h : Fr m s₀ s) : Fr m s₀ (State.cancelRes s a1 a2) := by
  unfold State.cancelRes
  refine State.put_fr (Fr.sub hm rfl) (Fr.bit hm rfl) ?_
  refine State.put_fr (Fr.sub hm rfl) (Fr.bit hm rfl) ?_
  refine State.put_fr (Fr.sub hm rfl) (Fr.bit hm rfl) ?_
  exact h

theorem State.cancelPend_fr (hm : 0x8000000000000000000000000000000000000000000000000000000000000000000000000a ||| m = m) (h :
    Fr m s₀ s) : Fr m s₀ (State.cancelPend s) := by
  unfold State.cancelPend
  split
  · split
    · refine Fr.ite ?_ ?_
      · exact h
      · refine State.cancelRes_fr (Fr.sub hm rfl) ?_
        exact h
    · exact h
  · extract_lets +onlyGivenNames x0
    have h1 : Fr m s₀ x0 := by
      unfold x0
      refine State.cancelRes_fr (Fr.sub hm rfl) ?_
      exact h
    clear_value x0
    refine State.flag_fr (Fr.sub hm rfl) (Fr.bit hm rfl) ?_
    refine State.put_fr (Fr.sub hm rfl) (Fr.bit hm rfl) ?_
    refine Fr.set_sys (Fr.bit hm rfl) ?_
    exact h1

theorem State.autoRes_fr {a1 a2} (hm : 0x8 ||| m = m) (h : Fr m s₀ s) : Fr m s₀ (State.autoRes s a1 a2) := by
  unfold State.autoRes
  refine Fr.ite ?_ ?_
  · exact h
  · refine State.put_fr (Fr.sub hm rfl) (Fr.bit hm rfl) ?_
    refine State.put_fr (Fr.sub hm rfl) (Fr.bit hm rfl) ?_
    refine State.put_fr (Fr.sub hm rfl) (Fr.bit hm rfl) ?_
    exact h

theorem State.twinMode_fr {a1} (hm : 0x8000000000000000000000000000000000000000000000000000000000000000000000000a ||| m = m)
    (h : Fr m s₀ s) : Fr m s₀ (State.twinMode s a1) := by
  unfold State.twinMode
  refine Fr.ite ?_ ?_
  · refine State.setPend_fr (Fr.sub hm rfl) ?_
    refine State.autoRes_fr (Fr.sub hm rfl) ?_
    exact h
  · exact h

theorem State.suspendHeld_fr {a1}
    (hm : 0x800000000000000000000000000000000000800000000000000000000000000000000000000 ||| m = m) (h : Fr m s₀ s) :
    Fr m s₀ (State.suspendHeld s a1) := by
  unfold State.suspendHeld
  extract_lets +onlyGivenNames x0
  clear_value x0
  extract_lets +onlyGivenNames x1
  have h2 : Fr m s₀ x1 := by
    unfold x1
    refine State.setRcd_fr (Fr.sub hm rfl) ?_
    exact h
  clear_value x1
  refine State.syncPrio_fr (Fr.sub hm rfl) ?_
  refine State.flag_fr (Fr.sub hm rfl) (Fr.bit hm rfl) ?_
  refine State.setCtx_fr (Fr.sub hm rfl) ?_
  exact h2

theorem State.closeWindow_fr {a1}
    (hm : 0x12400c81ffffffffffffffffffffffffffffffffffffffffffffffffffffffffffffffffffffffff ||| m = m) (h : Fr m s₀ s) :
    Fr m s₀ (State.closeWindow s a1) := by
  unfold State.closeWindow
  extract_lets +onlyGivenNames x0
  have h1 : Fr m s₀ x0 := by
    unfold x0
    refine Fr.forEach ?_ ?_
    · intro h2 s3 h4
      extract_lets +onlyGivenNames x5
      clear_value x5
      extract_lets +onlyGivenNames x6
      have h7 : Fr m s₀ x6 := by
        unfold x6
        refine State.holdCtx_fr (Fr.sub hm rfl) ?_
        exact h4
      clear_value x6
      refine Fr.ite ?_ ?_
      · refine State.suspendHeld_fr (Fr.sub hm rfl) ?_
        exact h7
      · exact h7
    · exact h
  clear_value x0
  extract_lets +onlyGivenNames x8
  have h9 : Fr m s₀ x8 := by
    unfold x8
    refine State.fabricStop_fr (Fr.sub hm rfl) ?_
    refine State.lchFabric_fr (Fr.sub hm rfl) ?_
    exact h1
  clear_value x8
  extract_lets +onlyGivenNames x10
  clear_value x10
  extract_lets +onlyGivenNames x11
  have h12 : Fr m s₀ x11 := by
    unfold x11
    refine State.setCore_fr (Fr.sub hm rfl) ?_
    exact h9
  clear_value x11
  extract_lets +onlyGivenNames x13
  have h14 : Fr m s₀ x13 := by
    unfold x13
    refine Fr.ite ?_ ?_
    · exact h12
    · refine State.put_fr (Fr.sub hm rfl) (Fr.bit hm rfl) ?_
      exact h12
  clear_value x13
  refine State.ctxCounts_fr (Fr.sub hm rfl) ?_
  extract_lets +onlyGivenNames x15
  have h16 : Fr m s₀ x15 := by
    unfold x15
    refine State.put_fr (Fr.sub hm rfl) (Fr.bit hm rfl) ?_
    exact h14
  clear_value x15
  refine Fr.set_sys (Fr.bit hm rfl) ?_
  exact h16

theorem State.beginWake_fr {a1}
    (hm : 0x12400c81ffffffffffffffffffffffffffffffffffffffffffffffffffffffffffffffffffffffff ||| m = m) (h : Fr m s₀ s) :
    Fr m s₀ (State.beginWake s a1) := by
  unfold State.beginWake
  extract_lets +onlyGivenNames x0
  have h1 : Fr m s₀ x0 := by
    unfold x0
    refine Fr.ite ?_ ?_
    · refine State.closeWindow_fr (Fr.sub hm rfl) ?_
      exact h
    · exact h
  clear_value x0
  extract_lets +onlyGivenNames x2
  clear_value x2
  extract_lets +onlyGivenNames x3
  have h4 : Fr m s₀ x3 := by
    unfold x3
    refine Fr.set_sys (Fr.bit hm rfl) ?_
    exact h1
  clear_value x3
  refine Fr.ite ?_ ?_
  · exact h4
  · refine State.flag_fr (Fr.sub hm rfl) (Fr.bit hm rfl) ?_
    refine State.put_fr (Fr.sub hm rfl) (Fr.bit hm rfl) ?_
    refine State.autoRes_fr (Fr.sub hm rfl) ?_
    exact h4

theorem State.cancelForHandover_fr
    (hm : 0x8000000000000000000000000000000000000000000000000000000000000000000000000a ||| m = m) (h : Fr m s₀ s) :
    Fr m s₀ (State.cancelForHandover s) := by
  unfold State.cancelForHandover
  split
  · exact h
  · refine State.cancelPend_fr (Fr.sub hm rfl) ?_
    exact h

theorem State.enterLimp_fr (hm : 0x8000000000000000000000000000000000000000000000000000000000000000000000000a ||| m = m) (h :
    Fr m s₀ s) : Fr m s₀ (State.enterLimp s) := by
  unfold State.enterLimp
  refine Fr.ite ?_ ?_
  · split
    · exact h
    · refine State.setPend_fr (Fr.sub hm rfl) ?_
      refine State.autoRes_fr (Fr.sub hm rfl) ?_
      refine State.cancelPend_fr (Fr.sub hm rfl) ?_
      exact h
  · exact h

theorem State.enterSealed_fr (hm : 0x1f6180000000010000010000000000000000000000000000001400802040280002000000000202 ||| m = m)
    (h : Fr m s₀ s) : Fr m s₀ (State.enterSealed s) := by
  unfold State.enterSealed
  extract_lets +onlyGivenNames x0
  clear_value x0
  extract_lets +onlyGivenNames x1
  clear_value x1
  extract_lets +onlyGivenNames x2
  have h3 : Fr m s₀ x2 := by
    unfold x2
    refine Fr.set_sys (Fr.bit hm rfl) ?_
    exact h
  clear_value x2
  extract_lets +onlyGivenNames x4
  have h5 : Fr m s₀ x4 := by
    unfold x4
    refine State.flag_fr (Fr.sub hm rfl) (Fr.bit hm rfl) ?_
    refine State.put_fr (Fr.sub hm rfl) (Fr.bit hm rfl) ?_
    refine State.put_fr (Fr.sub hm rfl) (Fr.bit hm rfl) ?_
    refine State.put_fr (Fr.sub hm rfl) (Fr.bit hm rfl) ?_
    exact h3
  clear_value x4
  refine State.ledSync_fr (Fr.sub hm rfl) ?_
  refine State.dropTwok_fr (Fr.sub hm rfl) ?_
  refine State.followAll_fr (Fr.sub hm rfl) ?_
  refine State.endHold_fr (Fr.sub hm rfl) ?_
  exact h5

theorem State.noteSource_fr {a1 a2 a3} (hm : 0x400 ||| m = m) (h : Fr m s₀ s) : Fr m s₀ (State.noteSource s a1 a2 a3) := by
  unfold State.noteSource
  extract_lets +onlyGivenNames x0
  have h1 : Fr m s₀ x0 := by
    unfold x0
    refine State.setReg_fr (Fr.reg .SYS_WAKESRC hm rfl) ?_
    exact h
  clear_value x0
  refine Fr.ite ?_ ?_
  · refine State.put_fr (Fr.sub hm rfl) (Fr.bit hm rfl) ?_
    exact h1
  · exact h1

theorem State.wakeEvent_fr {a1 a2 a3}
    (hm : 0x12400c81ffffffffffffffffffffffffffffffffffffffffffffffffffffffffffffffffffffffff ||| m = m) (h : Fr m s₀ s) :
    Fr m s₀ (State.wakeEvent s a1 a2 a3) := by
  unfold State.wakeEvent
  split
  · extract_lets +onlyGivenNames x0
    clear_value x0
    extract_lets +onlyGivenNames x1
    have h2 : Fr m s₀ x1 := by
      unfold x1
      refine State.flag_fr (Fr.sub hm rfl) (Fr.bit hm rfl) ?_
      refine State.noteSource_fr (Fr.sub hm rfl) ?_
      exact h
    clear_value x1
    refine Fr.set_sys (Fr.bit hm rfl) ?_
    exact h2
  · extract_lets +onlyGivenNames x3
    have h4 : Fr m s₀ x3 := by
      unfold x3
      refine State.noteSource_fr (Fr.sub hm rfl) ?_
      exact h
    clear_value x3
    refine Fr.ite ?_ ?_
    · exact h4
    · refine State.beginWake_fr (Fr.sub hm rfl) ?_
      refine State.cancelPend_fr (Fr.sub hm rfl) ?_
      exact h4
  · extract_lets +onlyGivenNames x5
    have h6 : Fr m s₀ x5 := by
      unfold x5
      refine State.noteSource_fr (Fr.sub hm rfl) ?_
      exact h
    clear_value x5
    refine Fr.ite ?_ ?_
    · extract_lets +onlyGivenNames x7
      have h8 : Fr m s₀ x7 := by
        unfold x7
        refine State.cancelPend_fr (Fr.sub hm rfl) ?_
        exact h6
      clear_value x7
      refine Fr.set_sys (Fr.bit hm rfl) ?_
      exact h8
    · exact h6
  · extract_lets +onlyGivenNames x9
    have h10 : Fr m s₀ x9 := by
      unfold x9
      refine State.noteSource_fr (Fr.sub hm rfl) ?_
      exact h
    clear_value x9
    refine Fr.ite ?_ ?_
    · extract_lets +onlyGivenNames x11
      have h12 : Fr m s₀ x11 := by
        unfold x11
        refine State.cancelPend_fr (Fr.sub hm rfl) ?_
        exact h10
      clear_value x11
      refine Fr.set_sys (Fr.bit hm rfl) ?_
      exact h12
    · exact h10
  · extract_lets +onlyGivenNames x13
    have h14 : Fr m s₀ x13 := by
      unfold x13
      refine State.noteSource_fr (Fr.sub hm rfl) ?_
      exact h
    clear_value x13
    refine Fr.ite ?_ ?_
    · extract_lets +onlyGivenNames x15
      have h16 : Fr m s₀ x15 := by
        unfold x15
        refine State.cancelPend_fr (Fr.sub hm rfl) ?_
        exact h14
      clear_value x15
      refine Fr.set_sys (Fr.bit hm rfl) ?_
      exact h16
    · exact h14
  · exact h

theorem State.wakeSource_fr {a1 a2 a3}
    (hm : 0x12400c81ffffffffffffffffffffffffffffffffffffffffffffffffffffffffffffffffffffffff ||| m = m) (h : Fr m s₀ s) :
    Fr m s₀ (State.wakeSource s a1 a2 a3) := by
  unfold State.wakeSource
  refine Fr.ite ?_ ?_
  · split
    · refine State.wakeEvent_fr (Fr.sub hm rfl) ?_
      exact h
    · exact h
  · exact h

end Sys2Proof.Machine
end

