-- ==== Sys2Proof/Laws/FrameKeyCore.lean ====
section
/-! SUPPORT. Frames (Laws/Frame.lean) of the functions of Machine/KeyCore.lean: one lemma for each, which says by its mask which
registers and which parts of the state the function may change. -/

namespace Sys2Proof.Machine

variable {m : Nat} {s₀ s : State}

theorem State.keyRes_fr {a1 a2 a3} (hm : 0x800000000000000000000000000000000000000000000000000000000000000000 ||| m = m) (h :
    Fr m s₀ s) : Fr m s₀ (State.keyRes s a1 a2 a3) := by
  unfold State.keyRes
  refine State.flag_fr (Fr.sub hm rfl) (Fr.bit hm rfl) ?_
  refine State.put_fr (Fr.sub hm rfl) (Fr.bit hm rfl) ?_
  refine State.put_fr (Fr.sub hm rfl) (Fr.bit hm rfl) ?_
  refine State.put_fr (Fr.sub hm rfl) (Fr.bit hm rfl) ?_
  exact h

theorem State.abortApply_fr
    (hm : 0x80000000000000a00000000000000000000000000000000000000000000000000000000000000000 ||| m = m) (h : Fr m s₀ s) :
    Fr m s₀ (State.abortApply s) := by
  unfold State.abortApply
  refine State.keyRes_fr (Fr.sub hm rfl) ?_
  refine State.flag_fr (Fr.sub hm rfl) (Fr.bit hm rfl) ?_
  refine Fr.set_key (Fr.bit hm rfl) ?_
  exact h

theorem State.runDesc_fr {a1}
    (hm : 0x80000010000000000000000000000000000000000000000000000000000000000000000000000000 ||| m = m) (h : Fr m s₀ s) :
    Fr m s₀ (State.runDesc s a1).2 := by
  unfold State.runDesc
  refine Fr.ite2 ?_ ?_
  · refine Fr.mk2 ?_
    exact h
  · refine Fr.ite2 ?_ ?_
    · refine Fr.mk2 ?_
      exact h
    · refine Fr.ite2 ?_ ?_
      · refine Fr.mk2 ?_
        exact h
      · refine Fr.ite2 ?_ ?_
        · extract_lets +onlyGivenNames x0
          clear_value x0
          refine Fr.mk2 ?_
          refine State.setBytes_fr (Fr.sub hm rfl) ?_
          exact h
        · split
          · refine Fr.ite2 ?_ ?_
            · refine Fr.mk2 ?_
              exact h
            · extract_lets +onlyGivenNames x1
              clear_value x1
              extract_lets +onlyGivenNames x2
              clear_value x2
              refine Fr.mk2 ?_
              refine State.setBytes_fr (Fr.sub hm rfl) ?_
              refine Fr.set_key (Fr.bit hm rfl) ?_
              exact h
          · refine Fr.mk2 ?_
            exact h

theorem State.runOp_fr {a1 a2}
    (hm : 0x80000010000000000000000000000000000000000000000000000000000000000000000000000000 ||| m = m) (h : Fr m s₀ s) :
    Fr m s₀ (State.runOp s a1 a2).2 := by
  unfold State.runOp
  refine Fr.ite2 ?_ ?_
  · refine Fr.mk2 ?_
    exact h
  · refine Fr.ite2 ?_ ?_
    · refine State.runDesc_fr (Fr.sub hm rfl) ?_
      exact h
    · refine Fr.mk2 ?_
      exact h

theorem State.opLen_fr (hm : 0x10000000000000000000000000000000000000000000000000000000000000000000 ||| m = m) (h : Fr m s₀ s) :
    Fr m s₀ (State.opLen s) := by
  unfold State.opLen
  refine State.put_fr (Fr.sub hm rfl) (Fr.bit hm rfl) ?_
  exact h

theorem State.endOp_fr {a1}
    (hm : 0x80000010000010000000000000000000000000000000000000000000000000000000000000000000 ||| m = m) (h : Fr m s₀ s) :
    Fr m s₀ (State.endOp s a1) := by
  unfold State.endOp
  split
  · extract_lets +onlyGivenNames x0
    have h1 : Fr m s₀ x0 := by
      unfold x0
      refine Fr.ite ?_ ?_
      · refine State.setWord_fr (Fr.sub hm rfl) ?_
        exact h
      · exact h
    clear_value x0
    refine State.opLen_fr (Fr.sub hm rfl) ?_
    refine Fr.set_key (Fr.bit hm rfl) ?_
    exact h1
  · exact h

theorem State.abortOp_fr {a1}
    (hm : 0x80000050000010000000000000000000000000000000000000000000000000000000000000000000 ||| m = m) (h : Fr m s₀ s) :
    Fr m s₀ (State.abortOp s a1) := by
  unfold State.abortOp
  extract_lets +onlyGivenNames x0
  clear_value x0
  extract_lets +onlyGivenNames x1
  have h2 : Fr m s₀ x1 := by
    unfold x1
    refine Fr.ite ?_ ?_
    · split
      rename_i y3 y4 y5 y6
      refine Fr.cutp y6 ?_ (fun h7 => ?_)
      · refine State.takeFree_fr (Fr.sub hm rfl) ?_
        exact h
      refine State.setBytes_fr (Fr.sub hm rfl) ?_
      exact h7
    · exact h
  clear_value x1
  refine State.endOp_fr (Fr.sub hm rfl) ?_
  exact h2

theorem State.zeroPlain_fr (hm : 0x200000000000000000000000000000000000000000000000000000000000000000000 ||| m = m) (h :
    Fr m s₀ s) : Fr m s₀ (State.zeroPlain s) := by
  unfold State.zeroPlain
  refine Fr.forEach ?_ ?_
  · intro h0 s1 h2
    refine State.setReg_fr (Fr.reg .KEY_PLAIN hm rfl) ?_
    exact h2
  · exact h

theorem State.startOp_fr (hm : 0x80000000000000000000000000000000000000000000000000000000000000000000000000000000 ||| m = m)
    (h : Fr m s₀ s) : Fr m s₀ (State.startOp s) := by
  unfold State.startOp
  split
  · refine Fr.set_key (Fr.bit hm rfl) ?_
    exact h
  · exact h

theorem State.abortWork_fr (hm : 0x80000050000210a00000000000000000000000000000000000000000000000000000000000000000 ||| m = m)
    (h : Fr m s₀ s) : Fr m s₀ (State.abortWork s).2 := by
  unfold State.abortWork
  split
  rename_i y0 y1 y2 y3
  refine Fr.cutp2 y3 ?_ (fun h4 => ?_)
  · split
    · refine Fr.mk2 ?_
      refine State.zeroPlain_fr (Fr.sub hm rfl) ?_
      refine State.keyRes_fr (Fr.sub hm rfl) ?_
      refine State.flag_fr (Fr.sub hm rfl) (Fr.bit hm rfl) ?_
      refine Fr.set_key (Fr.bit hm rfl) ?_
      exact h
    · refine Fr.ite2 ?_ ?_
      · refine Fr.mk2 ?_
        refine State.abortApply_fr (Fr.sub hm rfl) ?_
        exact h
      · refine Fr.mk2 ?_
        exact h
  split
  · refine Fr.mk2 ?_
    refine State.startOp_fr (Fr.sub hm rfl) ?_
    refine State.abortOp_fr (Fr.sub hm rfl) ?_
    exact h4
  · refine Fr.mk2 ?_
    exact h4

theorem State.linkOff_fr (hm : 0x40000000000000010000000000000000000000000000000000000000000000000000000000000000 ||| m = m)
    (h : Fr m s₀ s) : Fr m s₀ (State.linkOff s) := by
  unfold State.linkOff
  refine State.flag_fr (Fr.sub hm rfl) (Fr.bit hm rfl) ?_
  refine State.put_fr (Fr.sub hm rfl) (Fr.bit hm rfl) ?_
  refine Fr.set_twn (Fr.bit hm rfl) ?_
  exact h

theorem State.keyShow_fr {a1} (hm : 0x6000200000000000000000000000000000000000000000000000000000000000000000 ||| m = m) (h :
    Fr m s₀ s) : Fr m s₀ (State.keyShow s a1) := by
  unfold State.keyShow
  extract_lets +onlyGivenNames x0
  have h1 : Fr m s₀ x0 := by
    unfold x0
    split
    · extract_lets +onlyGivenNames x2
      clear_value x2
      refine State.put_fr (Fr.sub hm rfl) (Fr.bit hm rfl) ?_
      refine State.flag_fr (Fr.sub hm rfl) (Fr.bit hm rfl) ?_
      refine State.flag_fr (Fr.sub hm rfl) (Fr.bit hm rfl) ?_
      refine State.flag_fr (Fr.sub hm rfl) (Fr.bit hm rfl) ?_
      refine State.put_fr (Fr.sub hm rfl) (Fr.bit hm rfl) ?_
      exact h
    · refine State.setReg_fr (Fr.reg .KEY_SCNT hm rfl) ?_
      refine State.setReg_fr (Fr.reg .KEY_SLOT hm rfl) ?_
      exact h
  clear_value x0
  refine Fr.ite ?_ ?_
  · refine State.flag_fr (Fr.sub hm rfl) (Fr.bit hm rfl) ?_
    exact h1
  · exact h1

theorem State.linkDown_fr (hm : 0x40002000000000010000000000000000000000000000000000000000000000000000000000000000 ||| m = m)
    (h : Fr m s₀ s) : Fr m s₀ (State.linkDown s) := by
  unfold State.linkDown
  refine Fr.ite ?_ ?_
  · exact h
  · refine State.raise_fr (Fr.sub hm rfl) ?_
    refine State.linkOff_fr (Fr.sub hm rfl) ?_
    exact h

theorem State.logTamper_fr {a1 a2 a3 a4}
    (hm : 0x2000000084200000000000000000000000000000000000000000000000000000000000000000 ||| m = m) (h : Fr m s₀ s) :
    Fr m s₀ (State.logTamper s a1 a2 a3 a4) := by
  unfold State.logTamper
  extract_lets +onlyGivenNames x0
  clear_value x0
  extract_lets +onlyGivenNames x1
  have h2 : Fr m s₀ x1 := by
    unfold x1
    refine State.setReg_fr (Fr.reg .KEY_TLOG hm rfl) ?_
    exact h
  clear_value x1
  extract_lets +onlyGivenNames x3
  have h4 : Fr m s₀ x3 := by
    unfold x3
    refine State.count_fr (Fr.sub hm rfl) (Fr.bit hm rfl) ?_
    refine State.count_fr (Fr.sub hm rfl) (Fr.bit hm rfl) ?_
    exact h2
  clear_value x3
  refine State.raise_fr (Fr.sub hm rfl) ?_
  exact h4

theorem State.sealStore_fr {a1}
    (hm : 0xc0002000000000210000000000000000000000000000000000000000000000000000000000000000 ||| m = m) (h : Fr m s₀ s) :
    Fr m s₀ (State.sealStore s a1) := by
  unfold State.sealStore
  refine Fr.ite ?_ ?_
  · exact h
  · extract_lets +onlyGivenNames x0
    clear_value x0
    extract_lets +onlyGivenNames x1
    have h2 : Fr m s₀ x1 := by
      unfold x1
      refine Fr.set_key (Fr.bit hm rfl) ?_
      exact h
    clear_value x1
    extract_lets +onlyGivenNames x3
    have h4 : Fr m s₀ x3 := by
      unfold x3
      refine State.flag_fr (Fr.sub hm rfl) (Fr.bit hm rfl) ?_
      refine State.flag_fr (Fr.sub hm rfl) (Fr.bit hm rfl) ?_
      exact h2
    clear_value x3
    extract_lets +onlyGivenNames x5
    have h6 : Fr m s₀ x5 := by
      unfold x5
      refine State.raise_fr (Fr.sub hm rfl) ?_
      exact h4
    clear_value x5
    refine Fr.ite ?_ ?_
    · refine State.linkDown_fr (Fr.sub hm rfl) ?_
      exact h6
    · exact h6

theorem State.setRegBytes_fr {a1 : Reg} {a2} (hm : 0x0 ||| m = m) (hp1 : m.testBit a1.ctorIdx = true) (h : Fr m s₀ s) :
    Fr m s₀ (State.setRegBytes s a1 a2) := by
  unfold State.setRegBytes
  refine Fr.foldl ?_ ?_
  · intro s0 h1 h2
    refine State.setReg_fr hp1 ?_
    exact h2
  · exact h

theorem State.tamper_fr {a1 a2}
    (hm : 0xd25f6dd1ffffffffffffffffffffffffffffffffffffffffffffffffffffffffffffffffffffffff ||| m = m) (h : Fr m s₀ s) :
    Fr m s₀ (State.tamper s a1 a2) := by
  unfold State.tamper
  extract_lets +onlyGivenNames x0
  clear_value x0
  split
  rename_i y1 y2 y3 y4
  refine Fr.cutp y4 ?_ (fun h5 => ?_)
  · refine State.abortWork_fr (Fr.sub hm rfl) ?_
    exact h
  extract_lets +onlyGivenNames x6
  have h7 : Fr m s₀ x6 := by
    unfold x6
    refine State.logTamper_fr (Fr.sub hm rfl) ?_
    exact h5
  clear_value x6
  extract_lets +onlyGivenNames x8
  clear_value x8
  extract_lets +onlyGivenNames x9
  clear_value x9
  refine Fr.ite ?_ ?_
  · extract_lets +onlyGivenNames x10
    clear_value x10
    extract_lets +onlyGivenNames x11
    have h12 : Fr m s₀ x11 := by
      unfold x11
      refine Fr.ite ?_ ?_
      · refine Fr.set_key (Fr.bit hm rfl) ?_
        exact h7
      · exact h7
    clear_value x11
    refine State.wakeEvent_fr (Fr.sub hm rfl) ?_
    refine State.flag_fr (Fr.sub hm rfl) (Fr.bit hm rfl) ?_
    exact h12
  · extract_lets +onlyGivenNames x13
    have h14 : Fr m s₀ x13 := by
      unfold x13
      refine Fr.ite ?_ ?_
      · refine State.sealStore_fr (Fr.sub hm rfl) ?_
        exact h7
      · exact h7
    clear_value x13
    refine Fr.ite ?_ ?_
    · refine State.enterSealed_fr (Fr.sub hm rfl) ?_
      exact h14
    · refine Fr.ite ?_ ?_
      · refine State.cancelPend_fr (Fr.sub hm rfl) ?_
        exact h14
      · exact h14

end Sys2Proof.Machine
end

