-- ==== Sys2Proof/Laws/FrameLoader.lean ====
section
/-! SUPPORT. Frames (Laws/Frame.lean) of the functions of Machine/Loader.lean: one lemma for each, which says by its mask which
registers and which parts of the state the function may change. -/

namespace Sys2Proof.Machine

variable {m : Nat} {s₀ s : State}

theorem State.loadResult_fr {a1 a2} (hm : 0x78000 ||| m = m) (h : Fr m s₀ s) : Fr m s₀ (State.loadResult s a1 a2) := by
  unfold State.loadResult
  refine Fr.ite ?_ ?_
  · refine State.put_fr (Fr.sub hm rfl) (Fr.bit hm rfl) ?_
    refine State.put_fr (Fr.sub hm rfl) (Fr.bit hm rfl) ?_
    refine State.put_fr (Fr.sub hm rfl) (Fr.bit hm rfl) ?_
    exact h
  · refine State.put_fr (Fr.sub hm rfl) (Fr.bit hm rfl) ?_
    refine State.put_fr (Fr.sub hm rfl) (Fr.bit hm rfl) ?_
    refine State.put_fr (Fr.sub hm rfl) (Fr.bit hm rfl) ?_
    exact h

end Sys2Proof.Machine
end

