-- ==== Sys2Proof/Laws/FrameFltCore.lean ====
section
/-! SUPPORT. Frames (Laws/Frame.lean) of the functions of Machine/FltCore.lean: one lemma for each, which says by its mask which
registers and which parts of the state the function may change. -/

namespace Sys2Proof.Machine

variable {m : Nat} {s₀ s : State}

theorem State.activate_fr {a1 a2 a3}
    (hm : 0x2000000000000000010000000000000000000000000000000000000000000000000000000000 ||| m = m) (h : Fr m s₀ s) :
    Fr m s₀ (State.activate s a1 a2 a3) := by
  unfold State.activate
  refine Fr.ite ?_ ?_
  · exact h
  · extract_lets +onlyGivenNames x0
    clear_value x0
    refine State.setActive_fr (Fr.sub hm rfl) ?_
    exact h

theorem State.forceReach_fr
    (hm : 0x101f6400000000000000010000000000000000000000000000001400802040280002000280000000 ||| m = m) (h : Fr m s₀ s) :
    Fr m s₀ (State.forceReach s) := by
  unfold State.forceReach
  refine State.ledSync_fr (Fr.sub hm rfl) ?_
  refine State.settle_fr (Fr.sub hm rfl) ?_
  exact h

theorem State.showForced_fr (hm : 0x4010000000000000000000000000000000000000000000000000000000000 ||| m = m) (h : Fr m s₀ s) :
    Fr m s₀ (State.showForced s) := by
  unfold State.showForced
  extract_lets +onlyGivenNames x0
  clear_value x0
  extract_lets +onlyGivenNames x1
  have h2 : Fr m s₀ x1 := by
    unfold x1
    refine State.put_fr (Fr.sub hm rfl) (Fr.bit hm rfl) ?_
    exact h
  clear_value x1
  refine Fr.forEach ?_ ?_
  · intro h3 s4 h5
    refine Fr.ite ?_ ?_
    · exact h5
    · refine State.flag_fr (Fr.sub hm rfl) (Fr.bit hm rfl) ?_
      exact h5
  · exact h2

theorem State.releaseGroup_fr {a1}
    (hm : 0x101f6400000000000004010000000000000000000000000000001400802040280002000280000000 ||| m = m) (h : Fr m s₀ s) :
    Fr m s₀ (State.releaseGroup s a1) := by
  unfold State.releaseGroup
  extract_lets +onlyGivenNames x0
  extract_lets +onlyGivenNames x1
  clear_value x1
  extract_lets +onlyGivenNames x2
  have h3 : Fr m s₀ x2 := by
    unfold x2
    refine Fr.set_flt (Fr.bit hm rfl) ?_
    exact h
  clear_value x2
  refine State.forceReach_fr (Fr.sub hm rfl) ?_
  refine State.showForced_fr (Fr.sub hm rfl) ?_
  exact h3

theorem State.logReport_fr {a1}
    (hm : 0x2000000000000000010000000000000000000000000000000000000000000000000000000000 ||| m = m) (h : Fr m s₀ s) :
    Fr m s₀ (State.logReport s a1) := by
  unfold State.logReport
  refine Fr.ite ?_ ?_
  · refine State.flag_fr (Fr.sub hm rfl) (Fr.bit hm rfl) ?_
    exact h
  · refine Fr.set_flt (Fr.bit hm rfl) ?_
    exact h

theorem State.attend_fr {a1} (hm : 0x100000000000000000000000000000000000000000000000000000000000 ||| m = m) (h : Fr m s₀ s) :
    Fr m s₀ (State.attend s a1) := by
  unfold State.attend
  extract_lets +onlyGivenNames x0
  have h1 : Fr m s₀ x0 := by
    unfold x0
    refine State.wrap_fr (Fr.sub hm rfl) (Fr.bit hm rfl) ?_
    exact h
  clear_value x0
  refine Fr.ite ?_ ?_
  · exact h1
  · refine State.put_fr (Fr.sub hm rfl) (Fr.bit hm rfl) ?_
    exact h1

theorem State.boundaryReach_fr
    (hm : 0x101f6400000000000000010000000000000000000000000000001400802040280002000280000000 ||| m = m) (h : Fr m s₀ s) :
    Fr m s₀ (State.boundaryReach s) := by
  unfold State.boundaryReach
  refine State.ledSync_fr (Fr.sub hm rfl) ?_
  refine State.settleLines_fr (Fr.sub hm rfl) ?_
  exact h

theorem State.loseReport_fr {a1 a2 a3}
    (hm : 0x2000000000000000090000000000000000000000000000000000000000000000000000000000 ||| m = m) (h : Fr m s₀ s) :
    Fr m s₀ (State.loseReport s a1 a2 a3) := by
  unfold State.loseReport
  refine State.activate_fr (Fr.sub hm rfl) ?_
  refine State.put_fr (Fr.sub hm rfl) (Fr.bit hm rfl) ?_
  refine State.count_fr (Fr.sub hm rfl) (Fr.bit hm rfl) ?_
  exact h

theorem State.startSequence_fr {a1 a2}
    (hm : 0x2000000000000004000000000000000000000000000000000000000000000000000000000000 ||| m = m) (h : Fr m s₀ s) :
    Fr m s₀ (State.startSequence s a1 a2) := by
  unfold State.startSequence
  extract_lets +onlyGivenNames x0
  clear_value x0
  extract_lets +onlyGivenNames x1
  have h2 : Fr m s₀ x1 := by
    unfold x1
    refine Fr.set_flt (Fr.bit hm rfl) ?_
    exact h
  clear_value x1
  extract_lets +onlyGivenNames x3
  have h4 : Fr m s₀ x3 := by
    unfold x3
    refine State.wrap_fr (Fr.sub hm rfl) (Fr.bit hm rfl) ?_
    exact h2
  clear_value x3
  refine Fr.ite ?_ ?_
  · refine State.flag_fr (Fr.sub hm rfl) (Fr.bit hm rfl) ?_
    exact h4
  · refine State.flag_fr (Fr.sub hm rfl) (Fr.bit hm rfl) ?_
    exact h4

theorem State.forceGroup_fr {a1}
    (hm : 0x101f6400000000000004010000000000000000000000000000001400802040280002000280000000 ||| m = m) (h : Fr m s₀ s) :
    Fr m s₀ (State.forceGroup s a1) := by
  unfold State.forceGroup
  extract_lets +onlyGivenNames x0
  clear_value x0
  extract_lets +onlyGivenNames x1
  have h2 : Fr m s₀ x1 := by
    unfold x1
    refine Fr.set_flt (Fr.bit hm rfl) ?_
    exact h
  clear_value x1
  refine State.forceReach_fr (Fr.sub hm rfl) ?_
  refine State.showForced_fr (Fr.sub hm rfl) ?_
  exact h2

theorem State.handOver_fr (hm : 0x40000000000000010000000000000000000000000000000000000000000000000000000000000000 ||| m = m)
    (h : Fr m s₀ s) : Fr m s₀ (State.handOver s) := by
  unfold State.handOver
  extract_lets +onlyGivenNames x0
  have h1 : Fr m s₀ x0 := by
    unfold x0
    refine Fr.ite ?_ ?_
    · refine State.twinSend_fr (Fr.sub hm rfl) ?_
      exact h
    · exact h
  clear_value x0
  refine State.dropTwok_fr (Fr.sub hm rfl) ?_
  refine Fr.set_twn (Fr.bit hm rfl) ?_
  exact h1

theorem State.react_fr {a1 a2 a3 a4 a5}
    (hm : 0x521f6c8000000001000411000000000000002000092001000000140080204028000200028000000a ||| m = m) (h : Fr m s₀ s) :
    Fr m s₀ (State.react s a1 a2 a3 a4 a5) := by
  unfold State.react
  extract_lets +onlyGivenNames x0
  have h1 : Fr m s₀ x0 := by
    unfold x0
    refine Fr.ite ?_ ?_
    · refine State.attend_fr (Fr.sub hm rfl) ?_
      exact h
    · exact h
  clear_value x0
  extract_lets +onlyGivenNames x2
  have h3 : Fr m s₀ x2 := by
    unfold x2
    refine Fr.ite ?_ ?_
    · split
      · refine State.quarantine_fr (Fr.sub hm rfl) ?_
        exact h1
      · exact h1
    · exact h1
  clear_value x2
  extract_lets +onlyGivenNames x4
  have h5 : Fr m s₀ x4 := by
    unfold x4
    refine Fr.ite ?_ ?_
    · split
      · refine Fr.ite ?_ ?_
        · exact h3
        · refine Fr.ite ?_ ?_
          · refine Fr.ite ?_ ?_
            · exact h3
            · refine State.startSequence_fr (Fr.sub hm rfl) ?_
              exact h3
          · refine State.startSequence_fr (Fr.sub hm rfl) ?_
            refine State.forceGroup_fr (Fr.sub hm rfl) ?_
            exact h3
      · exact h3
    · exact h3
  clear_value x4
  extract_lets +onlyGivenNames x6
  have h7 : Fr m s₀ x6 := by
    unfold x6
    refine Fr.ite ?_ ?_
    · refine State.enterLimp_fr (Fr.sub hm rfl) ?_
      exact h5
    · exact h5
  clear_value x6
  refine Fr.ite ?_ ?_
  · refine State.handOver_fr (Fr.sub hm rfl) ?_
    refine State.cancelForHandover_fr (Fr.sub hm rfl) ?_
    exact h7
  · exact h7

theorem State.classify_fr {a1 a2 a3 a4}
    (hm : 0x521f6c8000000001000499000000000000002000092001000000140080204028000200028000000a ||| m = m) (h : Fr m s₀ s) :
    Fr m s₀ (State.classify s a1 a2 a3 a4) := by
  unfold State.classify
  extract_lets +onlyGivenNames x0
  clear_value x0
  extract_lets +onlyGivenNames x1
  clear_value x1
  extract_lets +onlyGivenNames x2
  clear_value x2
  extract_lets +onlyGivenNames x3
  clear_value x3
  extract_lets +onlyGivenNames x4
  clear_value x4
  extract_lets +onlyGivenNames x5
  have h6 : Fr m s₀ x5 := by
    unfold x5
    refine Fr.ite ?_ ?_
    · refine State.flag_fr (Fr.sub hm rfl) (Fr.bit hm rfl) ?_
      exact h
    · exact h
  clear_value x5
  refine Fr.ite ?_ ?_
  · refine State.loseReport_fr (Fr.sub hm rfl) ?_
    exact h6
  · extract_lets +onlyGivenNames x7
    have h8 : Fr m s₀ x7 := by
      unfold x7
      refine State.logReport_fr (Fr.sub hm rfl) ?_
      exact h6
    clear_value x7
    refine State.react_fr (Fr.sub hm rfl) ?_
    refine State.activate_fr (Fr.sub hm rfl) ?_
    exact h8

theorem State.loseHalf_fr {a1 a2 a3}
    (hm : 0x101f648000000001000401000000000000000000000000000000140080204028000200028000000a ||| m = m) (h : Fr m s₀ s) :
    Fr m s₀ (State.loseHalf s a1 a2 a3) := by
  unfold State.loseHalf
  extract_lets +onlyGivenNames x0
  have h1 : Fr m s₀ x0 := by
    unfold x0
    split
    · refine State.flag_fr (Fr.sub hm rfl) (Fr.bit hm rfl) ?_
      exact h
    · refine State.flag_fr (Fr.sub hm rfl) (Fr.bit hm rfl) ?_
      exact h
  clear_value x0
  extract_lets +onlyGivenNames x2
  clear_value x2
  refine State.forceReach_fr (Fr.sub hm rfl) ?_
  refine State.showForced_fr (Fr.sub hm rfl) ?_
  refine State.enterLimp_fr (Fr.sub hm rfl) ?_
  refine State.dropTwok_fr (Fr.sub hm rfl) ?_
  refine State.raiseCond_fr (Fr.sub hm rfl) ?_
  exact h1

end Sys2Proof.Machine
end

