-- ==== Sys2Proof/Laws/FrameHsw.lean ====
section
/-! SUPPORT. Frames (Laws/Frame.lean) of the functions of Machine/Hsw.lean: one lemma for each, which says by its mask which
registers and which parts of the state the function may change. -/

namespace Sys2Proof.Machine

variable {m : Nat} {s₀ s : State}

theorem State.runHswLockClear_fr {a1 a2 a3}
    (hm : 0x2001f2800000000000000010000000000000000000000000000001400802040280182000000000000 ||| m = m) (h : Fr m s₀ s) :
    Fr m s₀ (State.runHswLockClear s a1 a2 a3) := by
  unfold State.runHswLockClear
  extract_lets +onlyGivenNames x0
  clear_value x0
  refine Fr.ite ?_ ?_
  · refine Fr.forEach ?_ ?_
    · intro h1 s2 h3
      refine Fr.ite ?_ ?_
      · refine State.lockClear_fr (Fr.sub hm rfl) ?_
        exact h3
      · exact h3
    · exact h
  · refine State.reserved_fr (Fr.sub hm rfl) ?_
    exact h

theorem State.runHswClrTrip_fr {a1 a2}
    (hm : 0x2001f6800000000000000010000000000000000000000000000001400802040280002000000000000 ||| m = m) (h : Fr m s₀ s) :
    Fr m s₀ (State.runHswClrTrip s a1 a2) := by
  unfold State.runHswClrTrip
  refine Fr.ite ?_ ?_
  · refine State.clrTrip_fr (Fr.sub hm rfl) ?_
    exact h
  · refine State.reserved_fr (Fr.sub hm rfl) ?_
    exact h

theorem State.showTheta_fr {a1} (hm : 0x10000000000000 ||| m = m) (h : Fr m s₀ s) : Fr m s₀ (State.showTheta s a1) := by
  unfold State.showTheta
  extract_lets +onlyGivenNames x0
  refine Fr.forEach ?_ ?_
  · intro h1 s2 h3
    refine State.put_fr (Fr.sub hm rfl) (Fr.bit hm rfl) ?_
    refine State.put_fr (Fr.sub hm rfl) (Fr.bit hm rfl) ?_
    exact h3
  · exact h

theorem State.hswEnd_fr {a1} (hm : 0x12000000000000000010000000000000000000000000000000000000000000002000000000000 ||| m = m)
    (h : Fr m s₀ s) : Fr m s₀ (State.hswEnd s a1) := by
  unfold State.hswEnd
  extract_lets +onlyGivenNames x0
  clear_value x0
  refine Fr.ite ?_ ?_
  · extract_lets +onlyGivenNames x1
    have h2 : Fr m s₀ x1 := by
      unfold x1
      refine Fr.ite ?_ ?_
      · refine State.shortEnd_fr (Fr.sub hm rfl) ?_
        exact h
      · exact h
    clear_value x1
    refine State.hswShow_fr (Fr.sub hm rfl) ?_
    refine State.setCh_fr (Fr.sub hm rfl) ?_
    exact h2
  · refine State.hswOff_fr (Fr.sub hm rfl) ?_
    exact h

theorem State.wireJudge_fr {a1}
    (hm : 0x121f6c00000000000000010000000000000020000920010000001400802040280002000280000000 ||| m = m) (h : Fr m s₀ s) :
    Fr m s₀ (State.wireJudge s a1) := by
  unfold State.wireJudge
  extract_lets +onlyGivenNames x0
  clear_value x0
  extract_lets +onlyGivenNames x1
  clear_value x1
  extract_lets +onlyGivenNames x2
  clear_value x2
  refine Fr.ite ?_ ?_
  · refine Fr.ite ?_ ?_
    · refine State.tryRecover_fr (Fr.sub hm rfl) ?_
      refine State.setTrip_fr (Fr.sub hm rfl) ?_
      exact h
    · exact h
  · refine Fr.ite ?_ ?_
    · refine State.trip_fr (Fr.sub hm rfl) ?_
      refine State.flag_fr (Fr.sub hm rfl) (Fr.bit hm rfl) ?_
      exact h
    · exact h

theorem execChannelCommandChange_fr {a0} {t}
    (hm : 0x401f6000000000000000010000000000000000000000000000001400802040280002000000000000 ||| m = m) (h : Fr m s₀ s)
    (e : execChannelCommandChange a0 s = .next t) : Fr m s₀ t := by
  unfold execChannelCommandChange at e
  cases e
  refine State.ship_fr (Fr.sub hm rfl) ?_
  refine Fr.ite ?_ ?_
  · exact h
  · extract_lets +onlyGivenNames x0
    have h1 : Fr m s₀ x0 := by
      unfold x0
      refine State.hswShow_fr (Fr.sub hm rfl) ?_
      exact h
    clear_value x0
    extract_lets +onlyGivenNames x2
    clear_value x2
    extract_lets +onlyGivenNames x3
    have h4 : Fr m s₀ x3 := by
      unfold x3
      refine Fr.ite ?_ ?_
      · refine Fr.ite ?_ ?_
        · refine State.setCh_fr (Fr.sub hm rfl) ?_
          exact h1
        · refine Fr.ite ?_ ?_
          · refine Fr.ite ?_ ?_
            · refine State.hswOff_fr (Fr.sub hm rfl) ?_
              exact h1
            · exact h1
          · refine State.hswEnd_fr (Fr.sub hm rfl) ?_
            exact h1
      · refine Fr.ite ?_ ?_
        · refine State.hswFollow_fr (Fr.sub hm rfl) ?_
          exact h1
        · refine State.tryRecover_fr (Fr.sub hm rfl) ?_
          exact h1
    clear_value x3
    refine State.hswShow_fr (Fr.sub hm rfl) ?_
    exact h4

theorem execChannelShortCut_fr {a0 a1} {t}
    (hm : 0x521f6c00000000000000010000000000000020000920010000000400802040280002000280000000 ||| m = m) (h : Fr m s₀ s)
    (e : execChannelShortCut a0 a1 s = .next t) : Fr m s₀ t := by
  unfold execChannelShortCut at e
  cases e
  refine State.ship_fr (Fr.sub hm rfl) ?_
  extract_lets +onlyGivenNames x0
  clear_value x0
  refine Fr.ite ?_ ?_
  · exact h
  · refine State.trip_fr (Fr.sub hm rfl) ?_
    refine State.flag_fr (Fr.sub hm rfl) (Fr.bit hm rfl) ?_
    exact h

theorem execCurrentLimitEntry_fr {a0 a1} {t}
    (hm : 0x40000000000000000000000000000000000000000000000000000000000000000002000000000000 ||| m = m) (h : Fr m s₀ s)
    (e : execCurrentLimitEntry a0 a1 s = .next t) : Fr m s₀ t := by
  unfold execCurrentLimitEntry at e
  cases e
  refine State.ship_fr (Fr.sub hm rfl) ?_
  extract_lets +onlyGivenNames x0
  clear_value x0
  refine Fr.ite ?_ ?_
  · refine State.setHs_fr (Fr.sub hm rfl) ?_
    exact h
  · exact h

theorem execCurrentLimitExit_fr {a0 a1} {t}
    (hm : 0x40000000000000000000000000000000000000000000000000000000000000000002000000000000 ||| m = m) (h : Fr m s₀ s)
    (e : execCurrentLimitExit a0 a1 s = .next t) : Fr m s₀ t := by
  unfold execCurrentLimitExit at e
  cases e
  refine State.ship_fr (Fr.sub hm rfl) ?_
  extract_lets +onlyGivenNames x0
  clear_value x0
  refine Fr.ite ?_ ?_
  · refine State.setHs_fr (Fr.sub hm rfl) ?_
    exact h
  · exact h

theorem execTlimExpiry_fr {a0 a1} {t}
    (hm : 0x521f6c00000000000000010000000000000020000920010000000400802040280002000280000000 ||| m = m) (h : Fr m s₀ s)
    (e : execTlimExpiry a0 a1 s = .next t) : Fr m s₀ t := by
  unfold execTlimExpiry at e
  cases e
  refine State.ship_fr (Fr.sub hm rfl) ?_
  extract_lets +onlyGivenNames x0
  clear_value x0
  refine Fr.ite ?_ ?_
  · refine State.trip_fr (Fr.sub hm rfl) ?_
    refine State.flag_fr (Fr.sub hm rfl) (Fr.bit hm rfl) ?_
    exact h
  · exact h

theorem execInrushWindowEnd_fr {a0 a1} {t}
    (hm : 0x40010000000000000000000000000000000000000000000000000000000000000002000000000000 ||| m = m) (h : Fr m s₀ s)
    (e : execInrushWindowEnd a0 a1 s = .next t) : Fr m s₀ t := by
  unfold execInrushWindowEnd at e
  cases e
  refine State.ship_fr (Fr.sub hm rfl) ?_
  extract_lets +onlyGivenNames x0
  clear_value x0
  refine Fr.ite ?_ ?_
  · refine Fr.ite ?_ ?_
    · refine State.setHs_fr (Fr.sub hm rfl) ?_
      exact h
    · refine Fr.ite ?_ ?_
      · refine State.flag_fr (Fr.sub hm rfl) (Fr.bit hm rfl) ?_
        refine State.setCh_fr (Fr.sub hm rfl) ?_
        exact h
      · refine State.setHs_fr (Fr.sub hm rfl) ?_
        exact h
  · exact h

theorem execInrushExtensionEnd_fr {a0 a1} {t}
    (hm : 0x521f6c00000000000000010000000000000020000920010000000400802040280002000280000000 ||| m = m) (h : Fr m s₀ s)
    (e : execInrushExtensionEnd a0 a1 s = .next t) : Fr m s₀ t := by
  unfold execInrushExtensionEnd at e
  cases e
  refine State.ship_fr (Fr.sub hm rfl) ?_
  extract_lets +onlyGivenNames x0
  clear_value x0
  refine Fr.ite ?_ ?_
  · refine Fr.ite ?_ ?_
    · refine State.trip_fr (Fr.sub hm rfl) ?_
      refine State.flag_fr (Fr.sub hm rfl) (Fr.bit hm rfl) ?_
      exact h
    · refine State.setHs_fr (Fr.sub hm rfl) ?_
      exact h
  · exact h

theorem execDroopDetected_fr {a0} {t}
    (hm : 0x40010000000000000000000000000000000000000000000000000000000000000000000000000000 ||| m = m) (h : Fr m s₀ s)
    (e : execDroopDetected a0 s = .next t) : Fr m s₀ t := by
  unfold execDroopDetected at e
  cases e
  refine State.ship_fr (Fr.sub hm rfl) ?_
  refine Fr.ite ?_ ?_
  · refine State.setCh_fr (Fr.sub hm rfl) ?_
    exact h
  · exact h

theorem execWireModelUpdate_fr {a0 a1 a2 a3 a4 a5} {t}
    (hm : 0x521f6c0000000000000001000000000000002000092001000000140080204028001e000280000000 ||| m = m) (h : Fr m s₀ s)
    (e : execWireModelUpdate a0 a1 a2 a3 a4 a5 s = .next t) : Fr m s₀ t := by
  unfold execWireModelUpdate at e
  cases e
  refine State.ship_fr (Fr.sub hm rfl) ?_
  extract_lets +onlyGivenNames x0
  clear_value x0
  refine Fr.ite ?_ ?_
  · exact h
  · extract_lets +onlyGivenNames x1
    have h2 : Fr m s₀ x1 := by
      unfold x1
      refine Fr.ite ?_ ?_
      · refine State.sput_fr (Fr.sub hm rfl) (Fr.bit hm rfl) ?_
        refine State.put_fr (Fr.sub hm rfl) (Fr.bit hm rfl) ?_
        refine State.put_fr (Fr.sub hm rfl) (Fr.bit hm rfl) ?_
        refine State.put_fr (Fr.sub hm rfl) (Fr.bit hm rfl) ?_
        exact h
      · exact h
    clear_value x1
    refine Fr.ite ?_ ?_
    · exact h2
    · extract_lets +onlyGivenNames x3
      clear_value x3
      extract_lets +onlyGivenNames x4
      clear_value x4
      extract_lets +onlyGivenNames x5
      have h6 : Fr m s₀ x5 := by
        unfold x5
        refine State.setCh_fr (Fr.sub hm rfl) ?_
        exact h2
      clear_value x5
      refine State.wireJudge_fr (Fr.sub hm rfl) ?_
      refine State.showTheta_fr (Fr.sub hm rfl) ?_
      exact h6

theorem execDeltaTTrip_fr {a0 a1 a2} {t}
    (hm : 0x521f6c0000000000000001000000000000002000092001000000040080204028000a000280000000 ||| m = m) (h : Fr m s₀ s)
    (e : execDeltaTTrip a0 a1 a2 s = .next t) : Fr m s₀ t := by
  unfold execDeltaTTrip at e
  cases e
  refine State.ship_fr (Fr.sub hm rfl) ?_
  refine Fr.ite ?_ ?_
  · extract_lets +onlyGivenNames x0
    have h1 : Fr m s₀ x0 := by
      unfold x0
      refine State.sput_fr (Fr.sub hm rfl) (Fr.bit hm rfl) ?_
      refine State.put_fr (Fr.sub hm rfl) (Fr.bit hm rfl) ?_
      exact h
    clear_value x0
    refine State.trip_fr (Fr.sub hm rfl) ?_
    refine State.flag_fr (Fr.sub hm rfl) (Fr.bit hm rfl) ?_
    exact h1
  · exact h

theorem execStuckOn_fr {a0 a1} {t}
    (hm : 0x40002000000000000000000000000000000000000000000000000000000000000002000000000000 ||| m = m) (h : Fr m s₀ s)
    (e : execStuckOn a0 a1 s = .next t) : Fr m s₀ t := by
  unfold execStuckOn at e
  cases e
  refine State.ship_fr (Fr.sub hm rfl) ?_
  extract_lets +onlyGivenNames x0
  clear_value x0
  refine Fr.ite ?_ ?_
  · refine State.hold_fr (Fr.sub hm rfl) ?_
    refine State.flag_fr (Fr.sub hm rfl) (Fr.bit hm rfl) ?_
    exact h
  · exact h

theorem execHswLockClear_fr {a0 a1 a2} {t}
    (hm : 0x2401f2800000000000000010000000000000000000000000000001400802040280182000000000000 ||| m = m) (h : Fr m s₀ s)
    (e : execHswLockClear a0 a1 a2 s = .next t) : Fr m s₀ t := by
  unfold execHswLockClear at e
  cases e
  refine State.ship_fr (Fr.sub hm rfl) ?_
  refine State.asWho_fr (Fr.sub hm rfl) ?_ ?_
  · intro s0 h1
    refine State.runHswLockClear_fr (Fr.sub hm rfl) ?_
    exact h1
  · exact h

theorem execHswClrTrip_fr {a0 a1} {t}
    (hm : 0x2401f6800000000000000010000000000000000000000000000001400802040280002000000000000 ||| m = m) (h : Fr m s₀ s)
    (e : execHswClrTrip a0 a1 s = .next t) : Fr m s₀ t := by
  unfold execHswClrTrip at e
  cases e
  refine State.ship_fr (Fr.sub hm rfl) ?_
  refine State.asWho_fr (Fr.sub hm rfl) ?_ ?_
  · intro s0 h1
    refine State.runHswClrTrip_fr (Fr.sub hm rfl) ?_
    exact h1
  · exact h

theorem execOpenLoadMeasurement_fr {a0 a1} {t}
    (hm : 0x40012000000000000000010000000000000000000000000000000000000000000002000000000000 ||| m = m) (h : Fr m s₀ s)
    (e : execOpenLoadMeasurement a0 a1 s = .next t) : Fr m s₀ t := by
  unfold execOpenLoadMeasurement at e
  cases e
  refine State.ship_fr (Fr.sub hm rfl) ?_
  refine Fr.ite ?_ ?_
  · exact h
  · extract_lets +onlyGivenNames x0
    clear_value x0
    extract_lets +onlyGivenNames x1
    clear_value x1
    extract_lets +onlyGivenNames x2
    have h3 : Fr m s₀ x2 := by
      unfold x2
      refine State.setCh_fr (Fr.sub hm rfl) ?_
      exact h
    clear_value x2
    extract_lets +onlyGivenNames x4
    clear_value x4
    extract_lets +onlyGivenNames x5
    have h6 : Fr m s₀ x5 := by
      unfold x5
      refine Fr.ite ?_ ?_
      · exact h3
      · split
        extract_lets +onlyGivenNames x7
        have h8 : Fr m s₀ x7 := by
          unfold x7
          refine State.setOl_fr (Fr.sub hm rfl) ?_
          refine State.setCh_fr (Fr.sub hm rfl) ?_
          exact h3
        clear_value x7
        refine Fr.ite ?_ ?_
        · refine State.hold_fr (Fr.sub hm rfl) ?_
          exact h8
        · exact h8
    clear_value x5
    refine Fr.forEach ?_ ?_
    · intro h9 s10 h11
      refine Fr.ite ?_ ?_
      · refine State.hswShow_fr (Fr.sub hm rfl) ?_
        refine State.hswOff_fr (Fr.sub hm rfl) ?_
        exact h11
      · exact h11
    · exact h6

theorem execStuckOnClear_fr {a0} {t}
    (hm : 0x40002000000000000000010000000000000000000000000000000000000000000000000000000000 ||| m = m) (h : Fr m s₀ s)
    (e : execStuckOnClear a0 s = .next t) : Fr m s₀ t := by
  unfold execStuckOnClear at e
  cases e
  refine State.ship_fr (Fr.sub hm rfl) ?_
  refine Fr.ite ?_ ?_
  · refine State.clearSrc_fr (Fr.sub hm rfl) ?_
    exact h
  · exact h

end Sys2Proof.Machine
end

