-- ==== Sys2Proof/Laws/FrameTwinCore.lean ====
section
/-! SUPPORT. Frames (Laws/Frame.lean) of the functions of Machine/TwinCore.lean: one lemma for each, which says by its mask which
registers and which parts of the state the function may change. -/

namespace Sys2Proof.Machine

variable {m : Nat} {s₀ s : State}

theorem State.claim_fr {a1 a2}
    (hm : 0x40000000000000000000000000000000000000000000000000000000000000000000000000000000 ||| m = m) (h : Fr m s₀ s) :
    Fr m s₀ (State.claim s a1 a2) := by
  unfold State.claim
  refine Fr.ite ?_ ?_
  · refine State.twinSend_fr (Fr.sub hm rfl) ?_
    exact h
  · exact h

theorem State.failbackStep_fr
    (hm : 0x52000c00000000000000000000000000000020000900010000000000000000000000000280000000 ||| m = m) (h : Fr m s₀ s) :
    Fr m s₀ (State.failbackStep s) := by
  unfold State.failbackStep
  refine Fr.ite ?_ ?_
  · exact h
  · extract_lets +onlyGivenNames x0
    have h1 : Fr m s₀ x0 := by
      unfold x0
      refine Fr.forEach ?_ ?_
      · intro h2 s3 h4
        refine State.holdCtx_fr (Fr.sub hm rfl) ?_
        exact h4
      · exact h
    clear_value x0
    refine Fr.ite ?_ ?_
    · exact h1
    · refine State.claim_fr (Fr.sub hm rfl) ?_
      extract_lets +onlyGivenNames x5
      have h6 : Fr m s₀ x5 := by
        unfold x5
        refine State.twinSend_fr (Fr.sub hm rfl) ?_
        exact h1
      clear_value x5
      refine Fr.set_twn (Fr.bit hm rfl) ?_
      exact h6

theorem State.runTwnCmdFailback_fr {a1}
    (hm : 0x252000c00000000000000000000000000000020000900010000000000000000000000000280000000 ||| m = m) (h : Fr m s₀ s) :
    Fr m s₀ (State.runTwnCmdFailback s a1) := by
  unfold State.runTwnCmdFailback
  refine Fr.ite ?_ ?_
  · refine State.failbackStep_fr (Fr.sub hm rfl) ?_
    refine Fr.set_twn (Fr.bit hm rfl) ?_
    exact h
  · refine State.reserved_fr (Fr.sub hm rfl) ?_
    exact h

theorem State.resyncMark_fr
    (hm : 0x40000000000000050000000000000000000000000000000000000000000000000000000000000000 ||| m = m) (h : Fr m s₀ s) :
    Fr m s₀ (State.resyncMark s) := by
  unfold State.resyncMark
  refine State.count_fr (Fr.sub hm rfl) (Fr.bit hm rfl) ?_
  refine State.flag_fr (Fr.sub hm rfl) (Fr.bit hm rfl) ?_
  refine State.put_fr (Fr.sub hm rfl) (Fr.bit hm rfl) ?_
  refine Fr.set_twn (Fr.bit hm rfl) ?_
  exact h

theorem State.startResync_fr
    (hm : 0x40000000000000050000000000000000000000000000000000000000000000000000000000000000 ||| m = m) (h : Fr m s₀ s) :
    Fr m s₀ (State.startResync s) := by
  unfold State.startResync
  extract_lets +onlyGivenNames x0
  have h1 : Fr m s₀ x0 := by
    unfold x0
    refine State.resyncMark_fr (Fr.sub hm rfl) ?_
    exact h
  clear_value x0
  extract_lets +onlyGivenNames x2
  clear_value x2
  extract_lets +onlyGivenNames x3
  clear_value x3
  extract_lets +onlyGivenNames x4
  clear_value x4
  extract_lets +onlyGivenNames x5
  have h6 : Fr m s₀ x5 := by
    unfold x5
    refine Fr.forEach ?_ ?_
    · intro h7 s8 h9
      refine State.twinSend_fr (Fr.sub hm rfl) ?_
      exact h9
    · exact h1
  clear_value x5
  extract_lets +onlyGivenNames x10
  clear_value x10
  extract_lets +onlyGivenNames x11
  have h12 : Fr m s₀ x11 := by
    unfold x11
    refine Fr.set_twn (Fr.bit hm rfl) ?_
    exact h6
  clear_value x11
  extract_lets +onlyGivenNames x13
  have h14 : Fr m s₀ x13 := by
    unfold x13
    refine State.twinSend_fr (Fr.sub hm rfl) ?_
    exact h12
  clear_value x13
  refine Fr.forEach ?_ ?_
  · intro h15 s16 h17
    refine State.twinSend_fr (Fr.sub hm rfl) ?_
    exact h17
  · exact h14

theorem State.resync_fr (hm : 0x40000000000000050000000000000000000000000000000000000000000000000000000000000000 ||| m = m) (h :
    Fr m s₀ s) : Fr m s₀ (State.resync s) := by
  unfold State.resync
  refine Fr.ite ?_ ?_
  · refine State.resyncMark_fr (Fr.sub hm rfl) ?_
    exact h
  · refine State.startResync_fr (Fr.sub hm rfl) ?_
    exact h

theorem State.runTwnCmdResync_fr {a1}
    (hm : 0x40000000000000050000000000000000000000000000000000000000000000000000000000000000 ||| m = m) (h : Fr m s₀ s) :
    Fr m s₀ (State.runTwnCmdResync s a1) := by
  unfold State.runTwnCmdResync
  refine Fr.ite ?_ ?_
  · refine State.resync_fr (Fr.sub hm rfl) ?_
    exact h
  · exact h

theorem State.armTwins_fr (hm : 0x12000000000000000010000000000000000000000000000000000000000000002000000000000 ||| m = m) (h :
    Fr m s₀ s) : Fr m s₀ (State.armTwins s) := by
  unfold State.armTwins
  refine Fr.forEach ?_ ?_
  · intro h0 s1 h2
    refine Fr.ite ?_ ?_
    · refine State.hswArm_fr (Fr.sub hm rfl) ?_
      exact h2
    · exact h2
  · exact h

theorem State.monitorPorts_fr {a1}
    (hm : 0x12000c00000000000000000000000000081821100920010000000000000000000000000280000000 ||| m = m) (h : Fr m s₀ s) :
    Fr m s₀ (State.monitorPorts s a1) := by
  unfold State.monitorPorts
  refine Fr.forEach ?_ ?_
  · intro h0 s1 h2
    extract_lets +onlyGivenNames x3
    have h4 : Fr m s₀ x3 := by
      unfold x3
      refine State.flag_fr (Fr.sub hm rfl) (Fr.bit hm rfl) ?_
      exact h2
    clear_value x3
    extract_lets +onlyGivenNames x5
    have h6 : Fr m s₀ x5 := by
      unfold x5
      refine Fr.ite ?_ ?_
      · exact h4
      · refine Fr.forEach ?_ ?_
        · intro h7 s8 h9
          refine State.setBst_fr (Fr.sub hm rfl) ?_
          exact h9
        · exact h4
    clear_value x5
    refine Fr.ite ?_ ?_
    · refine State.canStop_fr (Fr.sub hm rfl) ?_
      exact h6
    · exact h6
  · exact h

theorem State.becomeDeputy_fr
    (hm : 0x52012c00000000010000010000000000081821100920010000000000000000000002000280000000 ||| m = m) (h : Fr m s₀ s) :
    Fr m s₀ (State.becomeDeputy s) := by
  unfold State.becomeDeputy
  extract_lets +onlyGivenNames x0
  clear_value x0
  extract_lets +onlyGivenNames x1
  have h2 : Fr m s₀ x1 := by
    unfold x1
    refine State.put_fr (Fr.sub hm rfl) (Fr.bit hm rfl) ?_
    refine Fr.set_twn (Fr.bit hm rfl) ?_
    exact h
  clear_value x1
  extract_lets +onlyGivenNames x3
  have h4 : Fr m s₀ x3 := by
    unfold x3
    refine Fr.forEach ?_ ?_
    · intro h5 s6 h7
      refine State.holdCtx_fr (Fr.sub hm rfl) ?_
      exact h7
    · exact h2
  clear_value x3
  refine State.schedule_fr (Fr.sub hm rfl) ?_
  refine State.monitorPorts_fr (Fr.sub hm rfl) ?_
  refine State.armTwins_fr (Fr.sub hm rfl) ?_
  exact h4

theorem State.choosePrincipal_fr {a1}
    (hm : 0x521f2c00000000010000010000000000000020000920010000001400802040280002000280000000 ||| m = m) (h : Fr m s₀ s) :
    Fr m s₀ (State.choosePrincipal s a1) := by
  unfold State.choosePrincipal
  extract_lets +onlyGivenNames x0
  clear_value x0
  extract_lets +onlyGivenNames x1
  have h2 : Fr m s₀ x1 := by
    unfold x1
    refine State.put_fr (Fr.sub hm rfl) (Fr.bit hm rfl) ?_
    refine Fr.set_twn (Fr.bit hm rfl) ?_
    exact h
  clear_value x1
  extract_lets +onlyGivenNames x3
  have h4 : Fr m s₀ x3 := by
    unfold x3
    refine Fr.forEach ?_ ?_
    · intro h5 s6 h7
      refine Fr.ite ?_ ?_
      · refine State.restart_fr (Fr.sub hm rfl) ?_
        exact h7
      · exact h7
    · exact h2
  clear_value x3
  refine State.schedule_fr (Fr.sub hm rfl) ?_
  refine Fr.forEach ?_ ?_
  · intro h8 s9 h10
    refine State.resumeCtx_fr (Fr.sub hm rfl) ?_
    exact h10
  · exact h4

theorem State.failbackEnd_fr
    (hm : 0x52012c00000000010000010000000000081821100920010000000000000000000002000280000000 ||| m = m) (h : Fr m s₀ s) :
    Fr m s₀ (State.failbackEnd s) := by
  unfold State.failbackEnd
  refine State.raise_fr (Fr.sub hm rfl) ?_
  extract_lets +onlyGivenNames x0
  have h1 : Fr m s₀ x0 := by
    unfold x0
    refine State.becomeDeputy_fr (Fr.sub hm rfl) ?_
    exact h
  clear_value x0
  refine Fr.set_twn (Fr.bit hm rfl) ?_
  exact h1

theorem State.heartbeat_fr (hm : 0x40000000000000000000000000000000000000000000000000000000000000000000000000000000 ||| m = m)
    (h : Fr m s₀ s) : Fr m s₀ (State.heartbeat s) := by
  unfold State.heartbeat
  extract_lets +onlyGivenNames x0
  clear_value x0
  split
  refine State.twinSend_fr (Fr.sub hm rfl) ?_
  exact h

theorem State.yieldRole_fr (hm : 0x52012c00000000010000010000000000081821100920010000000000000000000002000280000000 ||| m = m)
    (h : Fr m s₀ s) : Fr m s₀ (State.yieldRole s) := by
  unfold State.yieldRole
  refine State.raise_fr (Fr.sub hm rfl) ?_
  refine State.flag_fr (Fr.sub hm rfl) (Fr.bit hm rfl) ?_
  refine State.becomeDeputy_fr (Fr.sub hm rfl) ?_
  exact h

theorem State.trainBegin_fr
    (hm : 0x40000040000000010000000000000000000000000000000000000000000000000000000000000000 ||| m = m) (h : Fr m s₀ s) :
    Fr m s₀ (State.trainBegin s) := by
  unfold State.trainBegin
  split
  rename_i y0 y1 y2 y3
  refine Fr.cutp y3 ?_ (fun h4 => ?_)
  · refine State.takeFree_fr (Fr.sub hm rfl) ?_
    exact h
  refine State.put_fr (Fr.sub hm rfl) (Fr.bit hm rfl) ?_
  refine Fr.set_twn (Fr.bit hm rfl) ?_
  exact h4

theorem State.linkStart_fr (hm : 0x40000040000000010000000000000000000000000000000000000000000000000000000000000000 ||| m = m)
    (h : Fr m s₀ s) : Fr m s₀ (State.linkStart s) := by
  unfold State.linkStart
  refine Fr.ite ?_ ?_
  · refine State.trainBegin_fr (Fr.sub hm rfl) ?_
    refine State.put_fr (Fr.sub hm rfl) (Fr.bit hm rfl) ?_
    exact h
  · exact h

theorem State.releaseCtxs_fr {a1 a2}
    (hm : 0x12000c00000000000000000000000000000020000920010000000000000000000000000280000000 ||| m = m) (h : Fr m s₀ s) :
    Fr m s₀ (State.releaseCtxs s a1 a2) := by
  unfold State.releaseCtxs
  extract_lets +onlyGivenNames x0
  have h1 : Fr m s₀ x0 := by
    unfold x0
    refine Fr.forEach ?_ ?_
    · intro h2 s3 h4
      refine Fr.ite ?_ ?_
      · refine State.enableCtx_fr (Fr.sub hm rfl) ?_
        exact h4
      · refine State.resumeCtx_fr (Fr.sub hm rfl) ?_
        exact h4
    · exact h
  clear_value x0
  extract_lets +onlyGivenNames x5
  have h6 : Fr m s₀ x5 := by
    unfold x5
    refine Fr.ite ?_ ?_
    · refine Fr.forEach ?_ ?_
      · intro h7 s8 h9
        refine State.setEvent_fr (Fr.sub hm rfl) ?_
        exact h9
      · exact h1
    · exact h1
  clear_value x5
  refine State.schedule_fr (Fr.sub hm rfl) ?_
  exact h6

theorem State.releaseTwin_fr {a1}
    (hm : 0x1f6000000000000000010000000000000000000000000000001400802040280182000000000000 ||| m = m) (h : Fr m s₀ s) :
    Fr m s₀ (State.releaseTwin s a1) := by
  unfold State.releaseTwin
  refine Fr.ite ?_ ?_
  · exact h
  · split
    · extract_lets +onlyGivenNames x0
      have h1 : Fr m s₀ x0 := by
        unfold x0
        refine State.setLock_fr (Fr.sub hm rfl) ?_
        refine State.setRetries_fr (Fr.sub hm rfl) ?_
        exact h
      clear_value x0
      refine Fr.ite ?_ ?_
      · refine State.hswOff_fr (Fr.sub hm rfl) ?_
        refine State.tripMark_fr (Fr.sub hm rfl) ?_
        exact h1
      · refine Fr.ite ?_ ?_
        · refine State.hswOff_fr (Fr.sub hm rfl) ?_
          exact h1
        · refine Fr.ite ?_ ?_
          · refine State.restart_fr (Fr.sub hm rfl) ?_
            exact h1
          · exact h1
    · refine Fr.ite ?_ ?_
      · refine State.restart_fr (Fr.sub hm rfl) ?_
        exact h
      · exact h

theorem State.takeOver_fr {a1}
    (hm : 0x521f6c00000000010004010000000000081821100920010000001400802040280182000280000000 ||| m = m) (h : Fr m s₀ s) :
    Fr m s₀ (State.takeOver s a1) := by
  unfold State.takeOver
  extract_lets +onlyGivenNames x0
  clear_value x0
  extract_lets +onlyGivenNames x1
  clear_value x1
  extract_lets +onlyGivenNames x2
  clear_value x2
  extract_lets +onlyGivenNames x3
  have h4 : Fr m s₀ x3 := by
    unfold x3
    refine Fr.set_twn (Fr.bit hm rfl) ?_
    exact h
  clear_value x3
  extract_lets +onlyGivenNames x5
  have h6 : Fr m s₀ x5 := by
    unfold x5
    refine State.put_fr (Fr.sub hm rfl) (Fr.bit hm rfl) ?_
    exact h4
  clear_value x5
  extract_lets +onlyGivenNames x7
  have h8 : Fr m s₀ x7 := by
    unfold x7
    refine Fr.forEach ?_ ?_
    · intro h9 s10 h11
      refine State.releaseTwin_fr (Fr.sub hm rfl) ?_
      exact h11
    · exact h6
  clear_value x7
  extract_lets +onlyGivenNames x12
  have h13 : Fr m s₀ x12 := by
    unfold x12
    refine Fr.forEach ?_ ?_
    · intro h14 s15 h16
      refine State.forceGroup_fr (Fr.sub hm rfl) ?_
      exact h16
    · exact h8
  clear_value x12
  refine State.monitorPorts_fr (Fr.sub hm rfl) ?_
  refine State.releaseCtxs_fr (Fr.sub hm rfl) ?_
  exact h13

theorem State.takeoverBy_fr {a1}
    (hm : 0x521f6c00000000010004010000000000081821100920010000001400802040280182000280000000 ||| m = m) (h : Fr m s₀ s) :
    Fr m s₀ (State.takeoverBy s a1) := by
  unfold State.takeoverBy
  extract_lets +onlyGivenNames x0
  clear_value x0
  extract_lets +onlyGivenNames x1
  have h2 : Fr m s₀ x1 := by
    unfold x1
    refine State.raise_fr (Fr.sub hm rfl) ?_
    refine State.flag_fr (Fr.sub hm rfl) (Fr.bit hm rfl) ?_
    refine State.takeOver_fr (Fr.sub hm rfl) ?_
    exact h
  clear_value x1
  refine State.claim_fr (Fr.sub hm rfl) ?_
  exact h2

end Sys2Proof.Machine
end

