-- ==== Sys2Proof/Laws/FrameReset.lean ====
section
/-! SUPPORT. Frames (Laws/Frame.lean) of the functions of Machine/Reset.lean: one lemma for each, which says by its mask which
registers and which parts of the state the function may change. -/

namespace Sys2Proof.Machine

variable {m : Nat} {s₀ s : State}

theorem State.eraseSlot_fr {a1} (hm : 0x10000000000000000000000000000000000000000000000000000000000000000000000000 ||| m = m)
    (h : Fr m s₀ s) : Fr m s₀ (State.eraseSlot s a1) := by
  unfold State.eraseSlot
  refine State.clearMem_fr (Fr.bit hm rfl) ?_
  exact h

theorem State.abandonSlot_fr (hm : 0x10000000000000000000000000000000000000000000000000000000000000000000000000 ||| m = m) (h :
    Fr m s₀ s) : Fr m s₀ (State.abandonSlot s) := by
  unfold State.abandonSlot
  extract_lets +onlyGivenNames x0
  clear_value x0
  refine Fr.ite ?_ ?_
  · exact h
  · refine State.eraseSlot_fr (Fr.sub hm rfl) ?_
    exact h

theorem State.clearLogic_fr
    (hm : 0xedec03e91ffffffffffffffffffffffffffffffffffffffffffffffffffffffffffffffffffffffff ||| m = m) (h : Fr m s₀ s) :
    Fr m s₀ (State.clearLogic s) := by
  unfold State.clearLogic
  extract_lets +onlyGivenNames x0
  have h1 : Fr m s₀ x0 := by
    unfold x0
    refine State.abandonSlot_fr (Fr.sub hm rfl) ?_
    exact h
  clear_value x0
  extract_lets +onlyGivenNames x2
  have h3 : Fr m s₀ x2 := by
    unfold x2
    refine Fr.set_regs (Fr.all hm rfl) ?_
    exact h1
  clear_value x2
  extract_lets +onlyGivenNames x4
  have h5 : Fr m s₀ x4 := by
    unfold x4
    refine State.clearMem_fr (Fr.bit hm rfl) ?_
    refine State.clearMem_fr (Fr.bit hm rfl) ?_
    refine State.clearMem_fr (Fr.bit hm rfl) ?_
    exact h3
  clear_value x4
  refine Fr.upd (s := x4) (h_sys := Fr.no (Fr.bit hm rfl)) (h_cat := Fr.no (Fr.bit hm rfl)) (h_fab := Fr.no (Fr.bit hm rfl)) (h_doc := Fr.no (Fr.bit hm rfl)) (h_memx := Fr.no (Fr.bit hm rfl)) (h_flt := Fr.no (Fr.bit hm rfl)) (h_lch := Fr.no (Fr.bit hm rfl)) (h_inp := Fr.no (Fr.bit hm rfl)) (h_can := Fr.no (Fr.bit hm rfl)) (h_lin := Fr.no (Fr.bit hm rfl)) (h_eth := Fr.no (Fr.bit hm rfl)) (h_nm := Fr.no (Fr.bit hm rfl)) (h_twn := Fr.no (Fr.bit hm rfl)) (h_key := Fr.no (Fr.bit hm rfl)) (h_spi := Fr.no (Fr.bit hm rfl)) (h_mgmt := Fr.no (Fr.bit hm rfl)) (h_mgmtTag := Fr.no (Fr.bit hm rfl)) ?_
  exact h5

theorem State.resetToHold_fr {a1}
    (hm : 0xededf7f91ffffffffffffffffffffffffffffffffffffffffffffffffffffffffffffffffffffffff ||| m = m) (h : Fr m s₀ s) :
    Fr m s₀ (State.resetToHold s a1) := by
  unfold State.resetToHold
  extract_lets +onlyGivenNames x0
  clear_value x0
  extract_lets +onlyGivenNames x1
  clear_value x1
  extract_lets +onlyGivenNames x2
  have h3 : Fr m s₀ x2 := by
    unfold x2
    refine State.clearLogic_fr (Fr.sub hm rfl) ?_
    refine State.enterHold_fr (Fr.sub hm rfl) ?_
    refine State.cancelPend_fr (Fr.sub hm rfl) ?_
    exact h
  clear_value x2
  extract_lets +onlyGivenNames x4
  clear_value x4
  extract_lets +onlyGivenNames x5
  have h6 : Fr m s₀ x5 := by
    unfold x5
    refine Fr.set_sys (Fr.bit hm rfl) ?_
    exact h3
  clear_value x5
  extract_lets +onlyGivenNames x7
  have h8 : Fr m s₀ x7 := by
    unfold x7
    refine State.flag_fr (Fr.sub hm rfl) (Fr.bit hm rfl) ?_
    refine State.put_fr (Fr.sub hm rfl) (Fr.bit hm rfl) ?_
    refine State.put_fr (Fr.sub hm rfl) (Fr.bit hm rfl) ?_
    refine State.put_fr (Fr.sub hm rfl) (Fr.bit hm rfl) ?_
    exact h6
  clear_value x7
  refine State.ledSync_fr (Fr.sub hm rfl) ?_
  refine State.flag_fr (Fr.sub hm rfl) ?_ ?_
  · exact Fr.all hm rfl _
  · exact h8

theorem State.logicReset_fr {a1}
    (hm : 0xededf7f91ffffffffffffffffffffffffffffffffffffffffffffffffffffffffffffffffffffffff ||| m = m) (h : Fr m s₀ s) :
    Fr m s₀ (State.logicReset s a1) := by
  unfold State.logicReset
  split
  · exact h
  · refine State.flag_fr (Fr.sub hm rfl) ?_ ?_
    · exact Fr.all hm rfl _
    · exact h
  · refine State.resetToHold_fr (Fr.sub hm rfl) ?_
    exact h

theorem State.bothDown_fr (hm : 0xededf7f91ffffffffffffffffffffffffffffffffffffffffffffffffffffffffffffffffffffffff ||| m = m)
    (h : Fr m s₀ s) : Fr m s₀ (State.bothDown s) := by
  unfold State.bothDown
  extract_lets +onlyGivenNames x0
  have h1 : Fr m s₀ x0 := by
    unfold x0
    refine State.logicReset_fr (Fr.sub hm rfl) ?_
    refine State.dropTwok_fr (Fr.sub hm rfl) ?_
    exact h
  clear_value x0
  extract_lets +onlyGivenNames x2
  clear_value x2
  extract_lets +onlyGivenNames x3
  have h4 : Fr m s₀ x3 := by
    unfold x3
    refine Fr.set_flt (Fr.bit hm rfl) ?_
    exact h1
  clear_value x3
  refine State.ledSync_fr (Fr.sub hm rfl) ?_
  refine State.showForced_fr (Fr.sub hm rfl) ?_
  refine State.flag_fr (Fr.sub hm rfl) (Fr.bit hm rfl) ?_
  refine State.flag_fr (Fr.sub hm rfl) (Fr.bit hm rfl) ?_
  exact h4

theorem State.failHalf_fr {a1 a2}
    (hm : 0xededf7f91ffffffffffffffffffffffffffffffffffffffffffffffffffffffffffffffffffffffff ||| m = m) (h : Fr m s₀ s) :
    Fr m s₀ (State.failHalf s a1 a2) := by
  unfold State.failHalf
  extract_lets +onlyGivenNames x0
  clear_value x0
  refine Fr.ite ?_ ?_
  · refine State.loseHalf_fr (Fr.sub hm rfl) ?_
    exact h
  · refine State.bothDown_fr (Fr.sub hm rfl) ?_
    exact h

theorem State.islandReset_fr {a1}
    (hm : 0x203fe181ffffffffffffffffffffffffffffffffffffffffffffffffffffffffffffffffffffffff ||| m = m) (h : Fr m s₀ s) :
    Fr m s₀ (State.islandReset s a1) := by
  unfold State.islandReset
  extract_lets +onlyGivenNames x0
  clear_value x0
  extract_lets +onlyGivenNames x1
  have h2 : Fr m s₀ x1 := by
    unfold x1
    refine Fr.forEach ?_ ?_
    · intro h3 s4 h5
      refine Fr.ite ?_ ?_
      · refine State.setLock_fr (Fr.sub hm rfl) ?_
        exact h5
      · exact h5
    · exact h
  clear_value x1
  extract_lets +onlyGivenNames x6
  clear_value x6
  extract_lets +onlyGivenNames x7
  have h8 : Fr m s₀ x7 := by
    unfold x7
    refine Fr.forEach ?_ ?_
    · intro h9 s10 h11
      refine State.setReg_fr (Fr.all hm rfl _) ?_
      exact h11
    · exact h2
  clear_value x7
  extract_lets +onlyGivenNames x12
  clear_value x12
  extract_lets +onlyGivenNames x13
  have h14 : Fr m s₀ x13 := by
    unfold x13
    refine Fr.set_sys (Fr.bit hm rfl) ?_
    exact h8
  clear_value x13
  extract_lets +onlyGivenNames x15
  clear_value x15
  extract_lets +onlyGivenNames x16
  clear_value x16
  extract_lets +onlyGivenNames x17
  have h18 : Fr m s₀ x17 := by
    unfold x17
    refine Fr.updr (Fr.all hm rfl) (s := x13) (h_flt := Fr.no (Fr.bit hm rfl)) (h_trips := Fr.no (Fr.bit hm rfl)) (h_buckets := Fr.no (Fr.bit hm rfl)) (h_hsw := Fr.no (Fr.bit hm rfl)) (h_hbr := Fr.no (Fr.bit hm rfl)) (h_coil := Fr.no (Fr.bit hm rfl)) (h_bank := Fr.no (Fr.bit hm rfl)) (h_led := Fr.no (Fr.bit hm rfl)) (h_fold := Fr.no (Fr.bit hm rfl)) (h_pwr := Fr.no (Fr.bit hm rfl)) ?_
    exact h14
  clear_value x17
  extract_lets +onlyGivenNames x19
  have h20 : Fr m s₀ x19 := by
    unfold x19
    refine State.setActive_fr (Fr.sub hm rfl) ?_
    exact h18
  clear_value x19
  extract_lets +onlyGivenNames x21
  clear_value x21
  extract_lets +onlyGivenNames x22
  have h23 : Fr m s₀ x22 := by
    unfold x22
    refine Fr.forEach ?_ ?_
    · intro h24 s25 h26
      refine State.setOut_fr (Fr.sub hm rfl) ?_
      exact h26
    · exact h20
  clear_value x22
  refine Fr.forEach ?_ ?_
  · intro h27 s28 h29
    refine Fr.ite ?_ ?_
    · refine State.stageOff_fr (Fr.sub hm rfl) ?_
      exact h29
    · exact h29
  · exact h23

theorem State.powerOnReset_fr
    (hm : 0xfffffffb1ffffffffffffffffffffffffffffffffffffffffffffffffffffffffffffffffffffffff ||| m = m) (h : Fr m s₀ s) :
    Fr m s₀ (State.powerOnReset s) := by
  unfold State.powerOnReset
  have h1 : Fr m s₀ s.abandonSlot := State.abandonSlot_fr (Fr.sub hm rfl) h
  exact ⟨h1.pending, h1.variant, fun w => Memory.wf_clear _ _ (h1.wf w), fun r hr => Fr.no (Fr.all hm rfl r.reg) hr,
    Fr.no (Fr.bit hm rfl), Fr.no (Fr.bit hm rfl), h1.free, Fr.no (Fr.bit hm rfl), Fr.no (Fr.bit hm rfl), Fr.no (Fr.bit hm rfl), Fr.no (Fr.bit hm rfl), Fr.no (Fr.bit hm rfl), Fr.no (Fr.bit hm rfl), Fr.no (Fr.bit hm rfl), Fr.no (Fr.bit hm rfl), Fr.no (Fr.bit hm rfl), Fr.no (Fr.bit hm rfl), Fr.no (Fr.bit hm rfl), Fr.no (Fr.bit hm rfl), Fr.no (Fr.bit hm rfl), Fr.no (Fr.bit hm rfl), Fr.no (Fr.bit hm rfl), Fr.no (Fr.bit hm rfl), Fr.no (Fr.bit hm rfl), Fr.no (Fr.bit hm rfl), Fr.no (Fr.bit hm rfl), Fr.no (Fr.bit hm rfl), Fr.no (Fr.bit hm rfl), Fr.no (Fr.bit hm rfl), Fr.no (Fr.bit hm rfl), Fr.no (Fr.bit hm rfl), Fr.no (Fr.bit hm rfl), Fr.no (Fr.bit hm rfl), Fr.no (Fr.bit hm rfl), Fr.no (Fr.bit hm rfl), Fr.no (Fr.bit hm rfl)⟩

theorem State.retentionFail_fr
    (hm : 0xedec03e91ffffffffffffffffffffffffffffffffffffffffffffffffffffffffffffffffffffffff ||| m = m) (h : Fr m s₀ s) :
    Fr m s₀ (State.retentionFail s) := by
  unfold State.retentionFail
  extract_lets +onlyGivenNames x0
  clear_value x0
  extract_lets +onlyGivenNames x1
  have h2 : Fr m s₀ x1 := by
    unfold x1
    refine State.clearLogic_fr (Fr.sub hm rfl) ?_
    refine State.cancelPend_fr (Fr.sub hm rfl) ?_
    exact h
  clear_value x1
  extract_lets +onlyGivenNames x3
  clear_value x3
  extract_lets +onlyGivenNames x4
  have h5 : Fr m s₀ x4 := by
    unfold x4
    refine Fr.set_sys (Fr.bit hm rfl) ?_
    exact h2
  clear_value x4
  extract_lets +onlyGivenNames x6
  have h7 : Fr m s₀ x6 := by
    unfold x6
    refine State.flag_fr (Fr.sub hm rfl) (Fr.bit hm rfl) ?_
    refine State.put_fr (Fr.sub hm rfl) (Fr.bit hm rfl) ?_
    refine State.put_fr (Fr.sub hm rfl) (Fr.bit hm rfl) ?_
    refine State.put_fr (Fr.sub hm rfl) (Fr.bit hm rfl) ?_
    exact h5
  clear_value x6
  refine State.flag_fr (Fr.sub hm rfl) (Fr.bit hm rfl) ?_
  refine State.put_fr (Fr.sub hm rfl) (Fr.bit hm rfl) ?_
  exact h7

end Sys2Proof.Machine
end

