-- ==== Sys2Proof/Laws/FrameBoundary.lean ====
section
/-! SUPPORT. Frames (Laws/Frame.lean) of the functions of Machine/Boundary.lean: one lemma for each, which says by its mask which
registers and which parts of the state the function may change. -/

namespace Sys2Proof.Machine

variable {m : Nat} {s₀ s : State}

theorem State.serviceEdge_fr {a1 a2}
    (hm : 0x10000000200000000000000000000000000000000000000000000000000000000000200000 ||| m = m) (h : Fr m s₀ s) :
    Fr m s₀ (State.serviceEdge s a1 a2) := by
  unfold State.serviceEdge
  extract_lets +onlyGivenNames x0
  have h1 : Fr m s₀ x0 := by
    unfold x0
    refine Fr.ite ?_ ?_
    · refine State.flag_fr (Fr.sub hm rfl) (Fr.bit hm rfl) ?_
      exact h
    · exact h
  clear_value x0
  refine Fr.ite ?_ ?_
  · extract_lets +onlyGivenNames x2
    have h3 : Fr m s₀ x2 := by
      unfold x2
      refine State.flag_fr (Fr.sub hm rfl) (Fr.bit hm rfl) ?_
      exact h1
    clear_value x2
    extract_lets +onlyGivenNames x4
    clear_value x4
    refine Fr.ite ?_ ?_
    · refine State.put_fr (Fr.sub hm rfl) (Fr.bit hm rfl) ?_
      refine State.abandonSlot_fr (Fr.sub hm rfl) ?_
      exact h3
    · exact h3
  · exact h1

theorem State.showMode_fr {a1 a2} (hm : 0x400802 ||| m = m) (h : Fr m s₀ s) : Fr m s₀ (State.showMode s a1 a2) := by
  unfold State.showMode
  extract_lets +onlyGivenNames x0
  have h1 : Fr m s₀ x0 := by
    unfold x0
    refine State.flag_fr (Fr.sub hm rfl) (Fr.bit hm rfl) ?_
    refine State.put_fr (Fr.sub hm rfl) (Fr.bit hm rfl) ?_
    refine State.put_fr (Fr.sub hm rfl) (Fr.bit hm rfl) ?_
    refine State.put_fr (Fr.sub hm rfl) (Fr.bit hm rfl) ?_
    exact h
  clear_value x0
  refine State.put_fr (Fr.sub hm rfl) (Fr.bit hm rfl) ?_
  refine State.put_fr (Fr.sub hm rfl) (Fr.bit hm rfl) ?_
  exact h1

theorem State.takeWords_fr {a1 a2 a3}
    (hm : 0x81ffffffffffffffffffffffffffffffffffffffffffffffffffffffffffffffffffffffff ||| m = m) (h : Fr m s₀ s) :
    Fr m s₀ (State.takeWords s a1 a2 a3) := by
  unfold State.takeWords
  extract_lets +onlyGivenNames x0
  clear_value x0
  extract_lets +onlyGivenNames x1
  clear_value x1
  extract_lets +onlyGivenNames x2
  have h3 : Fr m s₀ x2 := by
    unfold x2
    refine Fr.forEach ?_ ?_
    · intro h4 s5 h6
      refine State.setReg_fr (Fr.all hm rfl _) ?_
      exact h6
    · exact h
  clear_value x2
  refine Fr.set_sys (Fr.bit hm rfl) ?_
  exact h3

theorem State.lchBoundary_fr {a1}
    (hm : 0x400000000000000000000000000000000000000000000002000000000000000000000000000000 ||| m = m) (h : Fr m s₀ s) :
    Fr m s₀ (State.lchBoundary s a1) := by
  unfold State.lchBoundary
  refine Fr.forEach ?_ ?_
  · intro h0 s1 h2
    extract_lets +onlyGivenNames x3
    clear_value x3
    extract_lets +onlyGivenNames x4
    clear_value x4
    refine Fr.ite ?_ ?_
    · refine State.discover_fr (Fr.sub hm rfl) ?_
      exact h2
    · refine Fr.ite ?_ ?_
      · refine State.setLc_fr (Fr.sub hm rfl) ?_
        refine State.put_fr (Fr.sub hm rfl) (Fr.bit hm rfl) ?_
        exact h2
      · exact h2
  · exact h

theorem State.ctxCfg_fr {a1} (hm : 0x200000000000000000000000000000000000000 ||| m = m) (h : Fr m s₀ s) :
    Fr m s₀ (State.ctxCfg s a1) := by
  unfold State.ctxCfg
  refine Fr.forEach ?_ ?_
  · intro h0 s1 h2
    refine Fr.ite ?_ ?_
    · exact h2
    · refine State.flag_fr (Fr.sub hm rfl) (Fr.bit hm rfl) ?_
      exact h2
  · exact h

theorem State.ctxBoundary_fr {a1 a2 a3}
    (hm : 0x12000c00000000000000000000000000000020000b20010000000000000000000000000280000000 ||| m = m) (h : Fr m s₀ s) :
    Fr m s₀ (State.ctxBoundary s a1 a2 a3) := by
  unfold State.ctxBoundary
  extract_lets +onlyGivenNames x0
  clear_value x0
  extract_lets +onlyGivenNames x1
  have h2 : Fr m s₀ x1 := by
    unfold x1
    refine State.ctxCfg_fr (Fr.sub hm rfl) ?_
    exact h
  clear_value x1
  extract_lets +onlyGivenNames x3
  clear_value x3
  extract_lets +onlyGivenNames x4
  have h5 : Fr m s₀ x4 := by
    unfold x4
    refine Fr.forEach ?_ ?_
    · intro h6 s7 h8
      refine Fr.ite ?_ ?_
      · exact h8
      · refine Fr.ite ?_ ?_
        · refine State.disableCtx_fr (Fr.sub hm rfl) ?_
          exact h8
        · refine Fr.ite ?_ ?_
          · refine State.syncPrio_fr (Fr.sub hm rfl) ?_
            exact h8
          · refine State.enableCtx_fr (Fr.sub hm rfl) ?_
            exact h8
    · exact h2
  clear_value x4
  extract_lets +onlyGivenNames x9
  clear_value x9
  extract_lets +onlyGivenNames x10
  have h11 : Fr m s₀ x10 := by
    unfold x10
    refine Fr.ite ?_ ?_
    · refine Fr.forEach ?_ ?_
      · intro h12 s13 h14
        refine State.holdCtx_fr (Fr.sub hm rfl) ?_
        exact h14
      · exact h5
    · refine Fr.ite ?_ ?_
      · refine Fr.forEach ?_ ?_
        · intro h15 s16 h17
          refine State.resumeCtx_fr (Fr.sub hm rfl) ?_
          exact h17
        · exact h5
      · exact h5
  clear_value x10
  refine Fr.ite ?_ ?_
  · refine State.ctxCounts_fr (Fr.sub hm rfl) ?_
    exact h11
  · refine State.schedule_fr (Fr.sub hm rfl) ?_
    exact h11

theorem State.parkInputs_fr (hm : 0x80000000000000000000000000000000000000000100000000000000000000000000000000 ||| m = m) (h :
    Fr m s₀ s) : Fr m s₀ (State.parkInputs s) := by
  unfold State.parkInputs
  extract_lets +onlyGivenNames x0
  have h1 : Fr m s₀ x0 := by
    unfold x0
    refine State.put_fr (Fr.sub hm rfl) (Fr.bit hm rfl) ?_
    exact h
  clear_value x0
  refine Fr.set_sys (Fr.bit hm rfl) ?_
  exact h1

theorem State.olUnknown_fr {a1}
    (hm : 0x12002c00000000000000010000000000000020000920010000000000000000080000000280000000 ||| m = m) (h : Fr m s₀ s) :
    Fr m s₀ (State.olUnknown s a1) := by
  unfold State.olUnknown
  refine Fr.ite ?_ ?_
  · exact h
  · refine State.hbrEvent_fr (Fr.sub hm rfl) ?_
    refine State.clearSrc_fr (Fr.sub hm rfl) ?_
    refine State.put_fr (Fr.sub hm rfl) (Fr.bit hm rfl) ?_
    exact h

theorem State.ledUnknown_fr {a1}
    (hm : 0x2000000000000000010000000000000000000000000000000400000000000000000000000000 ||| m = m) (h : Fr m s₀ s) :
    Fr m s₀ (State.ledUnknown s a1) := by
  unfold State.ledUnknown
  extract_lets +onlyGivenNames x0
  have h1 : Fr m s₀ x0 := by
    unfold x0
    refine Fr.ite ?_ ?_
    · exact h
    · refine State.clearSrc_fr (Fr.sub hm rfl) ?_
      refine State.put_fr (Fr.sub hm rfl) (Fr.bit hm rfl) ?_
      exact h
  clear_value x0
  refine Fr.ite ?_ ?_
  · refine State.put_fr (Fr.sub hm rfl) (Fr.bit hm rfl) ?_
    exact h1
  · exact h1

theorem State.slotWords_fr {a1}
    (hm : 0x121f6c00000000000000010000000000000020000920010000001400802040280002000280000000 ||| m = m) (h : Fr m s₀ s) :
    Fr m s₀ (State.slotWords s a1) := by
  unfold State.slotWords
  extract_lets +onlyGivenNames x0
  have h1 : Fr m s₀ x0 := by
    unfold x0
    refine Fr.ite ?_ ?_
    · refine State.setOl_fr (Fr.sub hm rfl) ?_
      exact h
    · exact h
  clear_value x0
  extract_lets +onlyGivenNames x2
  clear_value x2
  extract_lets +onlyGivenNames x3
  have h4 : Fr m s₀ x3 := by
    unfold x3
    refine Fr.ite ?_ ?_
    · exact h
    · refine State.flag_fr (Fr.sub hm rfl) (Fr.bit hm rfl) ?_
      exact h
  clear_value x3
  extract_lets +onlyGivenNames x5
  have h6 : Fr m s₀ x5 := by
    unfold x5
    split
    · refine Fr.ite ?_ ?_
      · refine State.setTrip_fr (Fr.sub hm rfl) ?_
        exact h1
      · exact h1
    · refine Fr.ite ?_ ?_
      · refine State.olUnknown_fr (Fr.sub hm rfl) ?_
        exact h4
      · exact h4
    · refine State.ledUnknown_fr (Fr.sub hm rfl) ?_
      exact h
    · exact h
  clear_value x5
  refine State.tryRecover_fr (Fr.sub hm rfl) ?_
  exact h6

theorem State.syncSlot_fr {a1}
    (hm : 0x121f6c40000000000000010000000000000020000920010000001400802040280002000280000000 ||| m = m) (h : Fr m s₀ s) :
    Fr m s₀ (State.syncSlot s a1) := by
  unfold State.syncSlot
  extract_lets +onlyGivenNames x0
  have h1 : Fr m s₀ x0 := by
    unfold x0
    refine State.slotWords_fr (Fr.sub hm rfl) ?_
    exact h
  clear_value x0
  refine Fr.ite ?_ ?_
  · refine State.enableSlot_fr (Fr.sub hm rfl) ?_
    exact h1
  · refine State.disableSlot_fr (Fr.sub hm rfl) ?_
    exact h1

theorem State.coresPower_fr {a1} (hm : 0x10000000000000000000000000000000000 ||| m = m) (h : Fr m s₀ s) :
    Fr m s₀ (State.coresPower s a1) := by
  unfold State.coresPower
  refine Fr.forEach ?_ ?_
  · intro h0 s1 h2
    refine Fr.ite ?_ ?_
    · exact h2
    · refine State.put_fr (Fr.sub hm rfl) (Fr.bit hm rfl) ?_
      exact h2
  · exact h

theorem State.logicDown_fr (hm : 0x40400c81ffffffffffffffffffffffffffffffffffffffffffffffffffffffffffffffffffffffff ||| m = m)
    (h : Fr m s₀ s) : Fr m s₀ (State.logicDown s) := by
  unfold State.logicDown
  extract_lets +onlyGivenNames x0
  have h1 : Fr m s₀ x0 := by
    unfold x0
    refine Fr.ite ?_ ?_
    · refine State.linkOff_fr (Fr.sub hm rfl) ?_
      exact h
    · exact h
  clear_value x0
  extract_lets +onlyGivenNames x2
  have h3 : Fr m s₀ x2 := by
    unfold x2
    refine State.fabricStop_fr (Fr.sub hm rfl) ?_
    refine State.lchFabric_fr (Fr.sub hm rfl) ?_
    exact h1
  clear_value x2
  extract_lets +onlyGivenNames x4
  have h5 : Fr m s₀ x4 := by
    unfold x4
    refine State.coresPower_fr (Fr.sub hm rfl) ?_
    exact h3
  clear_value x4
  extract_lets +onlyGivenNames x6
  have h7 : Fr m s₀ x6 := by
    unfold x6
    refine Fr.forEach ?_ ?_
    · intro h8 s9 h10
      refine State.setCore_fr (Fr.sub hm rfl) ?_
      exact h10
    · exact h5
  clear_value x6
  refine State.flag_fr (Fr.sub hm rfl) (Fr.bit hm rfl) ?_
  refine State.put_fr (Fr.sub hm rfl) (Fr.bit hm rfl) ?_
  exact h7

theorem State.ethPark_fr (hm : 0x8000001ffffffffffffffffffffffffffffffffffffffffffffffffffffffffffffffffffffffff ||| m = m) (h :
    Fr m s₀ s) : Fr m s₀ (State.ethPark s) := by
  unfold State.ethPark
  extract_lets +onlyGivenNames x0
  clear_value x0
  refine Fr.updr (Fr.all hm rfl) (s := s) (h_eth := Fr.no (Fr.bit hm rfl)) ?_
  exact h

theorem State.portsPark_fr (hm : 0x16000c00000000000000000000000000400021000920010000000000000000000000000280000000 ||| m = m)
    (h : Fr m s₀ s) : Fr m s₀ (State.portsPark s) := by
  unfold State.portsPark
  extract_lets +onlyGivenNames x0
  have h1 : Fr m s₀ x0 := by
    unfold x0
    refine Fr.forEach ?_ ?_
    · intro h2 s3 h4
      refine State.setCanSt_fr (Fr.sub hm rfl) ?_
      refine State.setCp_fr (Fr.sub hm rfl) ?_
      exact h4
    · exact h
  clear_value x0
  refine Fr.forEach ?_ ?_
  · intro h5 s6 h7
    refine State.setLp_fr (Fr.sub hm rfl) ?_
    refine State.linTable_fr (Fr.sub hm rfl) ?_
    exact h7
  · exact h1

theorem State.followMode_fr {a1 a2}
    (hm : 0x100000000000000000000000000000000000000000000000000000000000000000000000000 ||| m = m) (h : Fr m s₀ s) :
    Fr m s₀ (State.followMode s a1 a2) := by
  unfold State.followMode
  refine Fr.forEach ?_ ?_
  · intro h0 s1 h2
    extract_lets +onlyGivenNames x3
    clear_value x3
    extract_lets +onlyGivenNames x4
    clear_value x4
    extract_lets +onlyGivenNames x5
    clear_value x5
    refine State.setOut_fr (Fr.sub hm rfl) ?_
    exact h2
  · exact h

theorem State.ledBoundary_fr {a1 a2}
    (hm : 0x100000000000000000000000000000000000000000000000001400000000000000000000000000 ||| m = m) (h : Fr m s₀ s) :
    Fr m s₀ (State.ledBoundary s a1 a2) := by
  unfold State.ledBoundary
  refine Fr.forEach ?_ ?_
  · intro h0 s1 h2
    extract_lets +onlyGivenNames x3
    have h4 : Fr m s₀ x3 := by
      unfold x3
      refine State.ledUpdate_fr (Fr.sub hm rfl) ?_
      exact h2
    clear_value x3
    extract_lets +onlyGivenNames x5
    clear_value x5
    refine Fr.ite ?_ ?_
    · refine State.setLx_fr (Fr.sub hm rfl) ?_
      exact h4
    · exact h4
  · exact h

theorem State.canBoundary_fr {a1 a2}
    (hm : 0x12000c00000000000000000000000000000021000920010000000000000000000000000280000000 ||| m = m) (h : Fr m s₀ s) :
    Fr m s₀ (State.canBoundary s a1 a2) := by
  unfold State.canBoundary
  extract_lets +onlyGivenNames x0
  clear_value x0
  extract_lets +onlyGivenNames x1
  clear_value x1
  refine Fr.ite ?_ ?_
  · refine Fr.ite ?_ ?_
    · refine State.canStart_fr (Fr.sub hm rfl) ?_
      exact h
    · exact h
  · refine Fr.ite ?_ ?_
    · refine State.canStop_fr (Fr.sub hm rfl) ?_
      exact h
    · refine Fr.ite ?_ ?_
      · exact h
      · refine Fr.ite ?_ ?_
        · refine State.canWake_fr (Fr.sub hm rfl) ?_
          exact h
        · refine Fr.ite ?_ ?_
          · refine State.canStop_fr (Fr.sub hm rfl) ?_
            exact h
          · refine Fr.ite ?_ ?_
            · refine State.canStop_fr (Fr.sub hm rfl) ?_
              exact h
            · exact h

theorem State.linBoundary_fr {a1 a2}
    (hm : 0x4000000000000000000000000000000400000000000000000000000000000000000000000000000 ||| m = m) (h : Fr m s₀ s) :
    Fr m s₀ (State.linBoundary s a1 a2) := by
  unfold State.linBoundary
  extract_lets +onlyGivenNames x0
  clear_value x0
  extract_lets +onlyGivenNames x1
  clear_value x1
  refine Fr.ite ?_ ?_
  · refine State.linStart_fr (Fr.sub hm rfl) ?_
    exact h
  · refine Fr.ite ?_ ?_
    · refine State.linTable_fr (Fr.sub hm rfl) ?_
      exact h
    · refine Fr.ite ?_ ?_
      · refine State.linSelect_fr (Fr.sub hm rfl) ?_
        exact h
      · exact h

theorem State.netBoundary_fr {a1}
    (hm : 0x16000c00000000000000000020000800400021000920010000000000000000000000000280000000 ||| m = m) (h : Fr m s₀ s) :
    Fr m s₀ (State.netBoundary s a1) := by
  unfold State.netBoundary
  extract_lets +onlyGivenNames x0
  have h1 : Fr m s₀ x0 := by
    unfold x0
    refine State.nmClusters_fr (Fr.sub hm rfl) ?_
    exact h
  clear_value x0
  extract_lets +onlyGivenNames x2
  have h3 : Fr m s₀ x2 := by
    unfold x2
    refine Fr.forEach ?_ ?_
    · intro h4 s5 h6
      refine State.canBoundary_fr (Fr.sub hm rfl) ?_
      exact h6
    · exact h1
  clear_value x2
  extract_lets +onlyGivenNames x7
  have h8 : Fr m s₀ x7 := by
    unfold x7
    refine Fr.forEach ?_ ?_
    · intro h9 s10 h11
      refine State.linBoundary_fr (Fr.sub hm rfl) ?_
      exact h11
    · exact h3
  clear_value x7
  refine Fr.forEach ?_ ?_
  · intro h12 s13 h14
    refine State.flag_fr (Fr.sub hm rfl) (Fr.bit hm rfl) ?_
    exact h14
  · exact h8

theorem State.wdRestart_fr (hm : 0x800000000000000000000000000000000000002000000000000000000000000000000000000 ||| m = m) (h :
    Fr m s₀ s) : Fr m s₀ (State.wdRestart s) := by
  unfold State.wdRestart
  refine State.flag_fr (Fr.sub hm rfl) (Fr.bit hm rfl) ?_
  refine State.flag_fr (Fr.sub hm rfl) (Fr.bit hm rfl) ?_
  refine Fr.set_doc (Fr.bit hm rfl) ?_
  exact h

theorem State.wdBoundary_fr {a1 a2}
    (hm : 0x800000000000000000000000000000000000002000000000000000000000000000000000000 ||| m = m) (h : Fr m s₀ s) :
    Fr m s₀ (State.wdBoundary s a1 a2) := by
  unfold State.wdBoundary
  refine Fr.ite ?_ ?_
  · refine State.flag_fr (Fr.sub hm rfl) (Fr.bit hm rfl) ?_
    exact h
  · refine Fr.ite ?_ ?_
    · exact h
    · refine State.wdRestart_fr (Fr.sub hm rfl) ?_
      exact h

theorem State.boundary_fr {a1 a2 a3 a4}
    (hm : 0x5edf6dd1ffffffffffffffffffffffffffffffffffffffffffffffffffffffffffffffffffffffff ||| m = m) (h : Fr m s₀ s) :
    Fr m s₀ (State.boundary s a1 a2 a3 a4) := by
  unfold State.boundary
  extract_lets +onlyGivenNames x0
  have h1 : Fr m s₀ x0 := by
    unfold x0
    exact h
  clear_value x0
  extract_lets +onlyGivenNames x2
  clear_value x2
  extract_lets +onlyGivenNames x3
  clear_value x3
  extract_lets +onlyGivenNames x4
  have h5 : Fr m s₀ x4 := by
    unfold x4
    refine State.serviceEdge_fr (Fr.sub hm rfl) ?_
    refine State.showMode_fr (Fr.sub hm rfl) ?_
    refine State.takeWords_fr (Fr.sub hm rfl) ?_
    exact h
  clear_value x4
  extract_lets +onlyGivenNames x6
  have h7 : Fr m s₀ x6 := by
    unfold x6
    refine State.fabricBoundary_fr (Fr.sub hm rfl) ?_
    exact h5
  clear_value x6
  extract_lets +onlyGivenNames x8
  have h9 : Fr m s₀ x8 := by
    unfold x8
    refine State.flushEdges_fr (Fr.sub hm rfl) ?_
    refine State.lchBoundary_fr (Fr.sub hm rfl) ?_
    refine State.inputsBoundary_fr (Fr.sub hm rfl) ?_
    exact h7
  clear_value x8
  refine Fr.ite ?_ ?_
  · extract_lets +onlyGivenNames x10
    have h11 : Fr m s₀ x10 := by
      unfold x10
      refine State.settleLines_fr (Fr.sub hm rfl) ?_
      refine State.ctxBoundary_fr (Fr.sub hm rfl) ?_
      exact h9
    clear_value x10
    extract_lets +onlyGivenNames x12
    have h13 : Fr m s₀ x12 := by
      unfold x12
      refine State.flag_fr (Fr.sub hm rfl) (Fr.bit hm rfl) ?_
      refine State.parkInputs_fr (Fr.sub hm rfl) ?_
      refine State.parkLatch_fr (Fr.sub hm rfl) ?_
      exact h11
    clear_value x12
    extract_lets +onlyGivenNames x14
    have h15 : Fr m s₀ x14 := by
      unfold x14
      refine Fr.forEach ?_ ?_
      · intro h16 s17 h18
        refine State.setOut_fr (Fr.sub hm rfl) ?_
        exact h18
      · exact h13
    clear_value x14
    extract_lets +onlyGivenNames x19
    have h20 : Fr m s₀ x19 := by
      unfold x19
      refine Fr.forEach ?_ ?_
      · intro h21 s22 h23
        refine State.syncSlot_fr (Fr.sub hm rfl) ?_
        exact h23
      · exact h15
    clear_value x19
    extract_lets +onlyGivenNames x24
    have h25 : Fr m s₀ x24 := by
      unfold x24
      refine Fr.ite ?_ ?_
      · refine State.netStart_fr (Fr.sub hm rfl) ?_
        exact h20
      · exact h20
    clear_value x24
    extract_lets +onlyGivenNames x26
    have h27 : Fr m s₀ x26 := by
      unfold x26
      refine State.logicDown_fr (Fr.sub hm rfl) ?_
      refine State.ethPark_fr (Fr.sub hm rfl) ?_
      refine State.portsPark_fr (Fr.sub hm rfl) ?_
      exact h25
    clear_value x26
    refine State.boundaryReach_fr (Fr.sub hm rfl) ?_
    refine Fr.set_sys (Fr.bit hm rfl) ?_
    exact h27
  · extract_lets +onlyGivenNames x28
    have h29 : Fr m s₀ x28 := by
      unfold x28
      refine State.boundaryReach_fr (Fr.sub hm rfl) ?_
      refine State.followMode_fr (Fr.sub hm rfl) ?_
      exact h9
    clear_value x28
    extract_lets +onlyGivenNames x30
    have h31 : Fr m s₀ x30 := by
      unfold x30
      refine Fr.forEach ?_ ?_
      · intro h32 s33 h34
        refine State.syncSlot_fr (Fr.sub hm rfl) ?_
        exact h34
      · exact h29
    clear_value x30
    extract_lets +onlyGivenNames x35
    have h36 : Fr m s₀ x35 := by
      unfold x35
      refine State.ledBoundary_fr (Fr.sub hm rfl) ?_
      exact h31
    clear_value x35
    extract_lets +onlyGivenNames x37
    clear_value x37
    extract_lets +onlyGivenNames x38
    clear_value x38
    extract_lets +onlyGivenNames x39
    have h40 : Fr m s₀ x39 := by
      unfold x39
      refine Fr.upd (s := x35) (h_sys := Fr.no (Fr.bit hm rfl)) (h_fab := Fr.no (Fr.bit hm rfl)) ?_
      exact h36
    clear_value x39
    extract_lets +onlyGivenNames x41
    have h42 : Fr m s₀ x41 := by
      unfold x41
      split
      · refine State.netStart_fr (Fr.sub hm rfl) ?_
        exact h40
      · refine State.netWake_fr (Fr.sub hm rfl) ?_
        exact h40
      · refine State.netBoundary_fr (Fr.sub hm rfl) ?_
        exact h40
    clear_value x41
    refine State.settleLines_fr (Fr.sub hm rfl) ?_
    refine State.wdBoundary_fr (Fr.sub hm rfl) ?_
    refine State.ctxBoundary_fr (Fr.sub hm rfl) ?_
    exact h42

theorem State.loadBase_fr (hm : 0x11ffffffffffffffffffffffffffffffffffffffffffffffffffffffffffffffffffffffff ||| m = m) (h :
    Fr m s₀ s) : Fr m s₀ (State.loadBase s) := by
  unfold State.loadBase
  extract_lets +onlyGivenNames x0
  clear_value x0
  extract_lets +onlyGivenNames x1
  have h2 : Fr m s₀ x1 := by
    unfold x1
    refine Fr.forEach ?_ ?_
    · intro h3 s4 h5
      refine State.setReg_fr (Fr.all hm rfl _) ?_
      exact h5
    · exact h
  clear_value x1
  extract_lets +onlyGivenNames x6
  have h7 : Fr m s₀ x6 := by
    unfold x6
    refine State.flag_fr (Fr.sub hm rfl) (Fr.bit hm rfl) ?_
    refine State.put_fr (Fr.sub hm rfl) (Fr.bit hm rfl) ?_
    exact h2
  clear_value x6
  extract_lets +onlyGivenNames x8
  have h9 : Fr m s₀ x8 := by
    unfold x8
    refine State.put_fr (Fr.sub hm rfl) (Fr.bit hm rfl) ?_
    refine State.put_fr (Fr.sub hm rfl) (Fr.bit hm rfl) ?_
    exact h7
  clear_value x8
  extract_lets +onlyGivenNames x10
  have h11 : Fr m s₀ x10 := by
    unfold x10
    refine Fr.forEach ?_ ?_
    · intro h12 s13 h14
      refine State.setBytes_fr (Fr.sub hm rfl) ?_
      exact h14
    · exact h9
  clear_value x10
  refine State.ctxCfg_fr (Fr.sub hm rfl) ?_
  exact h11

theorem State.logicStart_fr
    (hm : 0x10d004e1ffffffffffffffffffffffffffffffffffffffffffffffffffffffffffffffffffffffff ||| m = m) (h : Fr m s₀ s) :
    Fr m s₀ (State.logicStart s) := by
  unfold State.logicStart
  extract_lets +onlyGivenNames x0
  have h1 : Fr m s₀ x0 := by
    unfold x0
    refine State.lchFabric_fr (Fr.sub hm rfl) ?_
    refine State.fabricStart_fr (Fr.sub hm rfl) ?_
    refine State.inputsStart_fr (Fr.sub hm rfl) ?_
    exact h
  clear_value x0
  refine Fr.forEach ?_ ?_
  · intro h2 s3 h4
    refine State.setLx_fr (Fr.sub hm rfl) ?_
    exact h4
  · exact h1

theorem State.staggerStep_fr {a1}
    (hm : 0x121f6dc1ffffffffffffffffffffffffffffffffffffffffffffffffffffffffffffffffffffffff ||| m = m) (h : Fr m s₀ s) :
    Fr m s₀ (State.staggerStep s a1) := by
  unfold State.staggerStep
  extract_lets +onlyGivenNames x0
  clear_value x0
  extract_lets +onlyGivenNames x1
  clear_value x1
  extract_lets +onlyGivenNames x2
  have h3 : Fr m s₀ x2 := by
    unfold x2
    refine Fr.set_sys (Fr.bit hm rfl) ?_
    exact h
  clear_value x2
  extract_lets +onlyGivenNames x4
  have h5 : Fr m s₀ x4 := by
    unfold x4
    refine Fr.forEach ?_ ?_
    · intro h6 s7 h8
      refine State.setReg_fr (Fr.all hm rfl _) ?_
      exact h8
    · exact h3
  clear_value x4
  extract_lets +onlyGivenNames x9
  have h10 : Fr m s₀ x9 := by
    unfold x9
    refine Fr.forEach ?_ ?_
    · intro h11 s12 h13
      refine State.setOut_fr (Fr.sub hm rfl) ?_
      exact h13
    · exact h5
  clear_value x9
  extract_lets +onlyGivenNames x14
  have h15 : Fr m s₀ x14 := by
    unfold x14
    refine State.forceReach_fr (Fr.sub hm rfl) ?_
    exact h10
  clear_value x14
  extract_lets +onlyGivenNames x16
  have h17 : Fr m s₀ x16 := by
    unfold x16
    refine Fr.forEach ?_ ?_
    · intro h18 s19 h20
      refine State.syncSlot_fr (Fr.sub hm rfl) ?_
      exact h20
    · exact h15
  clear_value x16
  refine State.ledBoundary_fr (Fr.sub hm rfl) ?_
  exact h17

end Sys2Proof.Machine
end

