-- ==== Sys2Proof/Laws/FrameSys.lean ====
section
/-! SUPPORT. Frames (Laws/Frame.lean) of the functions of Machine/Sys.lean: one lemma for each, which says by its mask which
registers and which parts of the state the function may change. -/

namespace Sys2Proof.Machine

variable {m : Nat} {s₀ s : State}

theorem State.request_fr {a1 a2} (hm : 0x8000000000000000000000000000000000000000000000000000000000000000000000000a ||| m = m)
    (h : Fr m s₀ s) : Fr m s₀ (State.request s a1 a2) := by
  unfold State.request
  extract_lets +onlyGivenNames x0
  clear_value x0
  extract_lets +onlyGivenNames x1
  have h2 : Fr m s₀ x1 := by
    unfold x1
    refine State.put_fr (Fr.sub hm rfl) (Fr.bit hm rfl) ?_
    refine State.put_fr (Fr.sub hm rfl) (Fr.bit hm rfl) ?_
    refine State.put_fr (Fr.sub hm rfl) (Fr.bit hm rfl) ?_
    exact h
  clear_value x1
  refine Fr.ite ?_ ?_
  · refine State.setPend_fr (Fr.sub hm rfl) ?_
    exact h2
  · exact h2

theorem State.runModeRequest_fr {a1 a2}
    (hm : 0x20000088000000000000000000000000000000000000000000000000000000000000000000000000a ||| m = m) (h : Fr m s₀ s) :
    Fr m s₀ (State.runModeRequest s a1 a2) := by
  unfold State.runModeRequest
  refine Fr.ite ?_ ?_
  · exact h
  · refine Fr.ite ?_ ?_
    · refine State.reserved_fr (Fr.sub hm rfl) ?_
      exact h
    · refine State.request_fr (Fr.sub hm rfl) ?_
      exact h

theorem State.runSysRstcmd_fr {a1 a2}
    (hm : 0xededf7f91ffffffffffffffffffffffffffffffffffffffffffffffffffffffffffffffffffffffff ||| m = m) (h : Fr m s₀ s) :
    Fr m s₀ (State.runSysRstcmd s a1 a2) := by
  unfold State.runSysRstcmd
  refine Fr.ite ?_ ?_
  · exact h
  · refine Fr.ite ?_ ?_
    · refine State.logicReset_fr (Fr.sub hm rfl) ?_
      exact h
    · refine State.reserved_fr (Fr.sub hm rfl) ?_
      exact h

theorem State.wdExpire_fr (hm : 0xededf7f91ffffffffffffffffffffffffffffffffffffffffffffffffffffffffffffffffffffffff ||| m = m)
    (h : Fr m s₀ s) : Fr m s₀ (State.wdExpire s) := by
  unfold State.wdExpire
  refine State.logicReset_fr (Fr.sub hm rfl) ?_
  refine State.raise_fr (Fr.sub hm rfl) ?_
  exact h

theorem State.runDocWdkick_fr {a1 a2}
    (hm : 0xededf7f91ffffffffffffffffffffffffffffffffffffffffffffffffffffffffffffffffffffffff ||| m = m) (h : Fr m s₀ s) :
    Fr m s₀ (State.runDocWdkick s a1 a2) := by
  unfold State.runDocWdkick
  refine Fr.ite ?_ ?_
  · refine State.pwrsv_fr (Fr.sub hm rfl) ?_
    exact h
  · refine Fr.ite ?_ ?_
    · exact h
    · refine Fr.ite ?_ ?_
      · extract_lets +onlyGivenNames x0
        clear_value x0
        refine State.flag_fr (Fr.sub hm rfl) (Fr.bit hm rfl) ?_
        refine Fr.set_doc (Fr.bit hm rfl) ?_
        exact h
      · refine State.wdExpire_fr (Fr.sub hm rfl) ?_
        exact h

theorem State.chooseRole_fr
    (hm : 0x52000c00000000010000000000000000081821100920010000000000000000000000000280000000 ||| m = m) (h : Fr m s₀ s) :
    Fr m s₀ (State.chooseRole s) := by
  unfold State.chooseRole
  refine Fr.ite ?_ ?_
  · exact h
  · extract_lets +onlyGivenNames x0
    clear_value x0
    extract_lets +onlyGivenNames x1
    have h2 : Fr m s₀ x1 := by
      unfold x1
      refine State.flag_fr (Fr.sub hm rfl) (Fr.bit hm rfl) ?_
      exact h
    clear_value x1
    extract_lets +onlyGivenNames x3
    clear_value x3
    extract_lets +onlyGivenNames x4
    have h5 : Fr m s₀ x4 := by
      unfold x4
      refine Fr.set_twn (Fr.bit hm rfl) ?_
      exact h2
    clear_value x4
    refine Fr.ite ?_ ?_
    · refine State.monitorPorts_fr (Fr.sub hm rfl) ?_
      refine State.put_fr (Fr.sub hm rfl) (Fr.bit hm rfl) ?_
      refine Fr.set_twn (Fr.bit hm rfl) ?_
      exact h5
    · refine Fr.ite ?_ ?_
      · refine State.put_fr (Fr.sub hm rfl) (Fr.bit hm rfl) ?_
        refine Fr.set_twn (Fr.bit hm rfl) ?_
        exact h5
      · refine Fr.ite ?_ ?_
        · refine Fr.ite ?_ ?_
          · refine State.monitorPorts_fr (Fr.sub hm rfl) ?_
            refine State.put_fr (Fr.sub hm rfl) (Fr.bit hm rfl) ?_
            exact h5
          · refine State.put_fr (Fr.sub hm rfl) (Fr.bit hm rfl) ?_
            exact h5
        · refine State.put_fr (Fr.sub hm rfl) (Fr.bit hm rfl) ?_
          refine Fr.set_twn (Fr.bit hm rfl) ?_
          exact h5

theorem State.clearPend_fr (hm : 0x80000000000000000000000000000000000000000000000000000000000000000000000000 ||| m = m) (h :
    Fr m s₀ s) : Fr m s₀ (State.clearPend s) := by
  unfold State.clearPend
  refine Fr.set_sys (Fr.bit hm rfl) ?_
  exact h

theorem State.done_fr {a1} (hm : 0x8 ||| m = m) (h : Fr m s₀ s) : Fr m s₀ (State.done s a1) := by
  unfold State.done
  refine Fr.ite ?_ ?_
  · refine State.put_fr (Fr.sub hm rfl) (Fr.bit hm rfl) ?_
    refine State.put_fr (Fr.sub hm rfl) (Fr.bit hm rfl) ?_
    refine State.put_fr (Fr.sub hm rfl) (Fr.bit hm rfl) ?_
    exact h
  · exact h

theorem State.leaveWindow_fr (hm : 0x90000000000000000000000000000000004000010000000000000000000000000000000000 ||| m = m) (h :
    Fr m s₀ s) : Fr m s₀ (State.leaveWindow s) := by
  unfold State.leaveWindow
  extract_lets +onlyGivenNames x0
  have h1 : Fr m s₀ x0 := by
    unfold x0
    refine State.coresPower_fr (Fr.sub hm rfl) ?_
    exact h
  clear_value x0
  extract_lets +onlyGivenNames x2
  have h3 : Fr m s₀ x2 := by
    unfold x2
    refine Fr.ite ?_ ?_
    · exact h1
    · refine State.initBanks_fr (Fr.sub hm rfl) ?_
      exact h1
  clear_value x2
  extract_lets +onlyGivenNames x4
  have h5 : Fr m s₀ x4 := by
    unfold x4
    refine State.put_fr (Fr.sub hm rfl) (Fr.bit hm rfl) ?_
    exact h3
  clear_value x4
  refine Fr.set_sys (Fr.bit hm rfl) ?_
  exact h5

theorem State.raiseFloor_fr (hm : 0x200000000000000000000000000000000000000000000000000000000000000000000004000 ||| m = m) (h :
    Fr m s₀ s) : Fr m s₀ (State.raiseFloor s) := by
  unfold State.raiseFloor
  extract_lets +onlyGivenNames x0
  clear_value x0
  refine Fr.ite ?_ ?_
  · refine State.put_fr (Fr.sub hm rfl) (Fr.bit hm rfl) ?_
    refine Fr.set_cat (Fr.bit hm rfl) ?_
    exact h
  · exact h

theorem State.s2Half_fr {a1 a2 a3}
    (hm : 0x2000000000000000000000000000000000000000000000000000000000000000000000000000 ||| m = m) (h : Fr m s₀ s) :
    Fr m s₀ (State.s2Half s a1 a2 a3) := by
  unfold State.s2Half
  refine Fr.ite ?_ ?_
  · refine State.hold_fr (Fr.sub hm rfl) ?_
    exact h
  · exact h

theorem State.s2Check_fr {a1 a2}
    (hm : 0x2080000000000104010000000000000000000000000000000000000000000000000000000040 ||| m = m) (h : Fr m s₀ s) :
    Fr m s₀ (State.s2Check s a1 a2) := by
  unfold State.s2Check
  extract_lets +onlyGivenNames x0
  have h1 : Fr m s₀ x0 := by
    unfold x0
    refine State.showForced_fr (Fr.sub hm rfl) ?_
    refine State.flag_fr (Fr.sub hm rfl) (Fr.bit hm rfl) ?_
    refine State.flag_fr (Fr.sub hm rfl) (Fr.bit hm rfl) ?_
    exact h
  clear_value x0
  refine Fr.ite ?_ ?_
  · extract_lets +onlyGivenNames x2
    clear_value x2
    extract_lets +onlyGivenNames x3
    clear_value x3
    extract_lets +onlyGivenNames x4
    have h5 : Fr m s₀ x4 := by
      unfold x4
      refine Fr.upd (s := x0) (h_sys := Fr.no (Fr.bit hm rfl)) (h_flt := Fr.no (Fr.bit hm rfl)) ?_
      exact h1
    clear_value x4
    extract_lets +onlyGivenNames x6
    have h7 : Fr m s₀ x6 := by
      unfold x6
      refine State.flag_fr (Fr.sub hm rfl) (Fr.bit hm rfl) ?_
      exact h5
    clear_value x6
    extract_lets +onlyGivenNames x8
    have h9 : Fr m s₀ x8 := by
      unfold x8
      refine Fr.forEach ?_ ?_
      · intro h10 s11 h12
        refine State.clearSrc_fr (Fr.sub hm rfl) ?_
        refine State.clearSrc_fr (Fr.sub hm rfl) ?_
        refine State.clearSrc_fr (Fr.sub hm rfl) ?_
        exact h12
      · exact h7
    clear_value x8
    extract_lets +onlyGivenNames x13
    clear_value x13
    extract_lets +onlyGivenNames x14
    have h15 : Fr m s₀ x14 := by
      unfold x14
      refine Fr.ite ?_ ?_
      · refine State.raise_fr (Fr.sub hm rfl) ?_
        refine Fr.set_flt (Fr.bit hm rfl) ?_
        exact h9
      · exact h9
    clear_value x14
    refine State.put_fr (Fr.sub hm rfl) (Fr.bit hm rfl) ?_
    exact h15
  · extract_lets +onlyGivenNames x16
    clear_value x16
    extract_lets +onlyGivenNames x17
    have h18 : Fr m s₀ x17 := by
      unfold x17
      refine State.put_fr (Fr.sub hm rfl) (Fr.bit hm rfl) ?_
      refine Fr.set_sys (Fr.bit hm rfl) ?_
      exact h1
    clear_value x17
    refine State.s2Half_fr (Fr.sub hm rfl) ?_
    refine State.s2Half_fr (Fr.sub hm rfl) ?_
    exact h18

theorem State.showPair_fr (hm : 0x100000000000000000000000000000008000000000 ||| m = m) (h : Fr m s₀ s) :
    Fr m s₀ (State.showPair s) := by
  unfold State.showPair
  extract_lets +onlyGivenNames x0
  have h1 : Fr m s₀ x0 := by
    unfold x0
    refine Fr.forEach ?_ ?_
    · intro h2 s3 h4
      refine State.flag_fr (Fr.sub hm rfl) (Fr.bit hm rfl) ?_
      exact h4
    · exact h
  clear_value x0
  refine Fr.forEach ?_ ?_
  · intro h5 s6 h7
    refine State.flag_fr (Fr.sub hm rfl) (Fr.bit hm rfl) ?_
    exact h7
  · exact h1

theorem State.slotFails_fr {a1}
    (hm : 0xd25f6dd1ffffffffffffffffffffffffffffffffffffffffffffffffffffffffffffffffffffffff ||| m = m) (h : Fr m s₀ s) :
    Fr m s₀ (State.slotFails s a1) := by
  unfold State.slotFails
  extract_lets +onlyGivenNames x0
  clear_value x0
  extract_lets +onlyGivenNames x1
  have h2 : Fr m s₀ x1 := by
    unfold x1
    refine State.loadResult_fr (Fr.sub hm rfl) ?_
    exact h
  clear_value x1
  extract_lets +onlyGivenNames x3
  have h4 : Fr m s₀ x3 := by
    unfold x3
    refine Fr.ite ?_ ?_
    · refine State.tamper_fr (Fr.sub hm rfl) ?_
      exact h2
    · exact h2
  clear_value x3
  refine Fr.ite ?_ ?_
  · refine State.enterSealed_fr (Fr.sub hm rfl) ?_
    exact h4
  · refine State.flag_fr (Fr.sub hm rfl) (Fr.bit hm rfl) ?_
    refine Fr.set_sys (Fr.bit hm rfl) ?_
    exact h4

theorem State.startBegin_fr {a1 a2}
    (hm : 0x80000000000000000000000000000000000000000000000000000000000000000000000042 ||| m = m) (h : Fr m s₀ s) :
    Fr m s₀ (State.startBegin s a1 a2) := by
  unfold State.startBegin
  extract_lets +onlyGivenNames x0
  clear_value x0
  extract_lets +onlyGivenNames x1
  have h2 : Fr m s₀ x1 := by
    unfold x1
    refine Fr.set_sys (Fr.bit hm rfl) ?_
    exact h
  clear_value x1
  extract_lets +onlyGivenNames x3
  have h4 : Fr m s₀ x3 := by
    unfold x3
    refine State.flag_fr (Fr.sub hm rfl) (Fr.bit hm rfl) ?_
    refine State.put_fr (Fr.sub hm rfl) (Fr.bit hm rfl) ?_
    refine State.put_fr (Fr.sub hm rfl) (Fr.bit hm rfl) ?_
    refine State.put_fr (Fr.sub hm rfl) (Fr.bit hm rfl) ?_
    exact h2
  clear_value x3
  refine State.put_fr (Fr.sub hm rfl) (Fr.bit hm rfl) ?_
  exact h4

theorem State.startTime_fr {a1} (hm : 0x40 ||| m = m) (h : Fr m s₀ s) : Fr m s₀ (State.startTime s a1) := by
  unfold State.startTime
  refine State.flag_fr (Fr.sub hm rfl) (Fr.bit hm rfl) ?_
  refine State.put_fr (Fr.sub hm rfl) (Fr.bit hm rfl) ?_
  exact h

theorem execSupplyGood_fr {a0} {t}
    (hm : 0x400000a0000000010000000000000000000000000000000000000000000000000000000000000042 ||| m = m) (h : Fr m s₀ s)
    (e : execSupplyGood a0 s = .next t) : Fr m s₀ t := by
  unfold execSupplyGood at e
  cases e
  refine State.ship_fr (Fr.sub hm rfl) ?_
  refine Fr.ite ?_ ?_
  · exact h
  · extract_lets +onlyGivenNames x0
    clear_value x0
    extract_lets +onlyGivenNames x1
    have h2 : Fr m s₀ x1 := by
      unfold x1
      refine State.flag_fr (Fr.sub hm rfl) (Fr.bit hm rfl) ?_
      refine Fr.upd (s := s) (h_tb := Fr.no (Fr.bit hm rfl)) (h_sys := Fr.no (Fr.bit hm rfl)) ?_
      exact h
    clear_value x1
    refine State.startBegin_fr (Fr.sub hm rfl) ?_
    exact h2

theorem execPowerOnReset_fr {t}
    (hm : 0xfffffffb1ffffffffffffffffffffffffffffffffffffffffffffffffffffffffffffffffffffffff ||| m = m) (h : Fr m s₀ s)
    (e : execPowerOnReset s = .next t) : Fr m s₀ t := by
  unfold execPowerOnReset at e
  cases e
  refine State.ship_fr (Fr.sub hm rfl) ?_
  refine State.powerOnReset_fr (Fr.sub hm rfl) ?_
  exact h

theorem execPowerIslandReset_fr {a0} {t}
    (hm : 0x603fe181ffffffffffffffffffffffffffffffffffffffffffffffffffffffffffffffffffffffff ||| m = m) (h : Fr m s₀ s)
    (e : execPowerIslandReset a0 s = .next t) : Fr m s₀ t := by
  unfold execPowerIslandReset at e
  cases e
  refine State.ship_fr (Fr.sub hm rfl) ?_
  refine Fr.ite ?_ ?_
  · exact h
  · refine State.islandReset_fr (Fr.sub hm rfl) ?_
    exact h

theorem execSupplyBrownout_fr {t}
    (hm : 0xededf7f91ffffffffffffffffffffffffffffffffffffffffffffffffffffffffffffffffffffffff ||| m = m) (h : Fr m s₀ s)
    (e : execSupplyBrownout s = .next t) : Fr m s₀ t := by
  unfold execSupplyBrownout at e
  cases e
  refine State.ship_fr (Fr.sub hm rfl) ?_
  refine State.logicReset_fr (Fr.sub hm rfl) ?_
  refine State.dropTwok_fr (Fr.sub hm rfl) ?_
  exact h

theorem execReferenceLoss_fr {a0} {t}
    (hm : 0xededf7f91ffffffffffffffffffffffffffffffffffffffffffffffffffffffffffffffffffffffff ||| m = m) (h : Fr m s₀ s)
    (e : execReferenceLoss a0 s = .next t) : Fr m s₀ t := by
  unfold execReferenceLoss at e
  cases e
  refine State.ship_fr (Fr.sub hm rfl) ?_
  refine Fr.ite ?_ ?_
  · exact h
  · refine State.logicReset_fr (Fr.sub hm rfl) ?_
    refine State.raise_fr (Fr.sub hm rfl) ?_
    exact h

theorem execLogicReset_fr {a0} {t}
    (hm : 0xededf7f91ffffffffffffffffffffffffffffffffffffffffffffffffffffffffffffffffffffffff ||| m = m) (h : Fr m s₀ s)
    (e : execLogicReset a0 s = .next t) : Fr m s₀ t := by
  unfold execLogicReset at e
  cases e
  refine State.ship_fr (Fr.sub hm rfl) ?_
  refine State.logicReset_fr (Fr.sub hm rfl) ?_
  exact h

theorem execHoldTimerExpiry_fr {a0} {t}
    (hm : 0x401f6180000000000000010000000000000000000000000000001400802040280002000000000010 ||| m = m) (h : Fr m s₀ s)
    (e : execHoldTimerExpiry a0 s = .next t) : Fr m s₀ t := by
  unfold execHoldTimerExpiry at e
  cases e
  refine State.ship_fr (Fr.sub hm rfl) ?_
  refine Fr.ite ?_ ?_
  · refine State.ledSync_fr (Fr.sub hm rfl) ?_
    refine State.expireHold_fr (Fr.sub hm rfl) ?_
    exact h
  · exact h

theorem execLogicResetRelease_fr {t}
    (hm : 0x40000080000000000000000000000000000000000000000000000000000000000000000000000042 ||| m = m) (h : Fr m s₀ s)
    (e : execLogicResetRelease s = .next t) : Fr m s₀ t := by
  unfold execLogicResetRelease at e
  cases e
  refine State.ship_fr (Fr.sub hm rfl) ?_
  refine Fr.ite ?_ ?_
  · refine State.startBegin_fr (Fr.sub hm rfl) ?_
    exact h
  · exact h

theorem execStartClocksLocked_fr {t}
    (hm : 0x40000080000000000000000000000000000000000000000000000000000000000000000000000040 ||| m = m) (h : Fr m s₀ s)
    (e : execStartClocksLocked s = .next t) : Fr m s₀ t := by
  unfold execStartClocksLocked at e
  cases e
  refine State.ship_fr (Fr.sub hm rfl) ?_
  refine Fr.ite ?_ ?_
  · refine State.put_fr (Fr.sub hm rfl) (Fr.bit hm rfl) ?_
    refine Fr.set_sys (Fr.bit hm rfl) ?_
    exact h
  · exact h

theorem execStartSupervisorCheckDone_fr {a0 a1} {t}
    (hm : 0x40002080000000000104010000000000000000000000000000000000000000000000000000000040 ||| m = m) (h : Fr m s₀ s)
    (e : execStartSupervisorCheckDone a0 a1 s = .next t) : Fr m s₀ t := by
  unfold execStartSupervisorCheckDone at e
  cases e
  refine State.ship_fr (Fr.sub hm rfl) ?_
  refine Fr.ite ?_ ?_
  · refine State.s2Check_fr (Fr.sub hm rfl) ?_
    exact h
  · exact h

theorem execS2RetryTimer_fr {a0 a1} {t}
    (hm : 0x40002080000000000104010000000000000000000000000000000000000000000000000000000040 ||| m = m) (h : Fr m s₀ s)
    (e : execS2RetryTimer a0 a1 s = .next t) : Fr m s₀ t := by
  unfold execS2RetryTimer at e
  cases e
  refine State.ship_fr (Fr.sub hm rfl) ?_
  refine Fr.ite ?_ ?_
  · refine State.s2Check_fr (Fr.sub hm rfl) ?_
    exact h
  · exact h

theorem execPufAttemptDone_fr {a0} {t}
    (hm : 0xd25f6dd1ffffffffffffffffffffffffffffffffffffffffffffffffffffffffffffffffffffffff ||| m = m) (h : Fr m s₀ s)
    (e : execPufAttemptDone a0 s = .next t) : Fr m s₀ t := by
  unfold execPufAttemptDone at e
  cases e
  refine State.ship_fr (Fr.sub hm rfl) ?_
  refine Fr.ite ?_ ?_
  · exact h
  · refine Fr.ite ?_ ?_
    · extract_lets +onlyGivenNames x0
      clear_value x0
      extract_lets +onlyGivenNames x1
      have h2 : Fr m s₀ x1 := by
        unfold x1
        refine State.put_fr (Fr.sub hm rfl) (Fr.bit hm rfl) ?_
        refine Fr.set_sys (Fr.bit hm rfl) ?_
        exact h
      clear_value x1
      refine State.setRegBytes_fr (Fr.sub hm rfl) (Fr.bit hm rfl) ?_
      exact h2
    · extract_lets +onlyGivenNames x3
      clear_value x3
      extract_lets +onlyGivenNames x4
      have h5 : Fr m s₀ x4 := by
        unfold x4
        refine Fr.set_sys (Fr.bit hm rfl) ?_
        exact h
      refine Fr.ite ?_ ?_
      · exact h5
      · extract_lets +onlyGivenNames x6
        have h7 : Fr m s₀ x6 := by
          unfold x6
          refine State.tamper_fr (Fr.sub hm rfl) ?_
          exact h5
        clear_value x6
        refine Fr.ite ?_ ?_
        · exact h7
        · refine State.enterSealed_fr (Fr.sub hm rfl) ?_
          exact h7

theorem execKeyDerivationDone_fr {t}
    (hm : 0xc0002080000000210000000000000000000000000000000000000000000000000000000000000840 ||| m = m) (h : Fr m s₀ s)
    (e : execKeyDerivationDone s = .next t) : Fr m s₀ t := by
  unfold execKeyDerivationDone at e
  cases e
  refine State.ship_fr (Fr.sub hm rfl) ?_
  refine Fr.ite ?_ ?_
  · exact h
  · extract_lets +onlyGivenNames x0
    have h1 : Fr m s₀ x0 := by
      unfold x0
      refine Fr.forEach ?_ ?_
      · intro h2 s3 h4
        refine State.sealStore_fr (Fr.sub hm rfl) ?_
        exact h4
      · exact h
    clear_value x0
    extract_lets +onlyGivenNames x5
    clear_value x5
    extract_lets +onlyGivenNames x6
    clear_value x6
    extract_lets +onlyGivenNames x7
    have h8 : Fr m s₀ x7 := by
      unfold x7
      refine Fr.upd (s := x0) (h_sys := Fr.no (Fr.bit hm rfl)) (h_key := Fr.no (Fr.bit hm rfl)) ?_
      exact h1
    clear_value x7
    refine State.put_fr (Fr.sub hm rfl) (Fr.bit hm rfl) ?_
    refine State.flag_fr (Fr.sub hm rfl) (Fr.bit hm rfl) ?_
    exact h8

theorem execImageReadDone_fr {a0} {t}
    (hm : 0xd25f6dd1ffffffffffffffffffffffffffffffffffffffffffffffffffffffffffffffffffffffff ||| m = m) (h : Fr m s₀ s)
    (e : execImageReadDone a0 s = .next t) : Fr m s₀ t := by
  unfold execImageReadDone at e
  cases e
  refine State.ship_fr (Fr.sub hm rfl) ?_
  refine Fr.ite ?_ ?_
  · exact h
  · extract_lets +onlyGivenNames x0
    clear_value x0
    extract_lets +onlyGivenNames x1
    have h2 : Fr m s₀ x1 := by
      unfold x1
      refine Fr.set_sys (Fr.bit hm rfl) ?_
      exact h
    clear_value x1
    split
    · refine Fr.ite ?_ ?_
      · refine State.slotFails_fr (Fr.sub hm rfl) ?_
        exact h2
      · refine State.put_fr (Fr.sub hm rfl) (Fr.bit hm rfl) ?_
        refine Fr.set_sys (Fr.bit hm rfl) ?_
        exact h2
    · refine State.put_fr (Fr.sub hm rfl) (Fr.bit hm rfl) ?_
      refine Fr.set_sys (Fr.bit hm rfl) ?_
      exact h2

theorem execImageVerifyDone_fr {t}
    (hm : 0xd25f6fd1ffffffffffffffffffffffffffffffffffffffffffffffffffffffffffffffffffffffff ||| m = m) (h : Fr m s₀ s)
    (e : execImageVerifyDone s = .next t) : Fr m s₀ t := by
  unfold execImageVerifyDone at e
  cases e
  refine State.ship_fr (Fr.sub hm rfl) ?_
  refine Fr.ite ?_ ?_
  · exact h
  · split
    · refine State.slotFails_fr (Fr.sub hm rfl) ?_
      exact h
    · extract_lets +onlyGivenNames x0
      clear_value x0
      extract_lets +onlyGivenNames x1
      clear_value x1
      extract_lets +onlyGivenNames x2
      have h3 : Fr m s₀ x2 := by
        unfold x2
        refine Fr.upd (s := s) (h_sys := Fr.no (Fr.bit hm rfl)) (h_cat := Fr.no (Fr.bit hm rfl)) ?_
        exact h
      clear_value x2
      refine State.put_fr (Fr.sub hm rfl) (Fr.bit hm rfl) ?_
      refine State.flag_fr (Fr.sub hm rfl) (Fr.bit hm rfl) ?_
      refine State.loadResult_fr (Fr.sub hm rfl) ?_
      exact h3

theorem execCatalogueLoadDone_fr {t}
    (hm : 0x50d006f1ffffffffffffffffffffffffffffffffffffffffffffffffffffffffffffffffffffffff ||| m = m) (h : Fr m s₀ s)
    (e : execCatalogueLoadDone s = .next t) : Fr m s₀ t := by
  unfold execCatalogueLoadDone at e
  cases e
  refine State.ship_fr (Fr.sub hm rfl) ?_
  refine Fr.ite ?_ ?_
  · exact h
  · extract_lets +onlyGivenNames x0
    clear_value x0
    extract_lets +onlyGivenNames x1
    clear_value x1
    extract_lets +onlyGivenNames x2
    have h3 : Fr m s₀ x2 := by
      unfold x2
      refine State.loadBase_fr (Fr.sub hm rfl) ?_
      refine Fr.set_cat (Fr.bit hm rfl) ?_
      exact h
    clear_value x2
    extract_lets +onlyGivenNames x4
    have h5 : Fr m s₀ x4 := by
      unfold x4
      refine State.flag_fr (Fr.sub hm rfl) (Fr.bit hm rfl) ?_
      refine State.flag_fr (Fr.sub hm rfl) (Fr.bit hm rfl) ?_
      refine State.flag_fr (Fr.sub hm rfl) (Fr.bit hm rfl) ?_
      exact h3
    clear_value x4
    extract_lets +onlyGivenNames x6
    have h7 : Fr m s₀ x6 := by
      unfold x6
      refine State.put_fr (Fr.sub hm rfl) (Fr.bit hm rfl) ?_
      refine State.put_fr (Fr.sub hm rfl) (Fr.bit hm rfl) ?_
      exact h5
    clear_value x6
    extract_lets +onlyGivenNames x8
    have h9 : Fr m s₀ x8 := by
      unfold x8
      refine Fr.ite ?_ ?_
      · exact h7
      · refine State.initBanks_fr (Fr.sub hm rfl) ?_
        exact h7
    clear_value x8
    extract_lets +onlyGivenNames x10
    have h11 : Fr m s₀ x10 := by
      unfold x10
      refine State.linkStart_fr (Fr.sub hm rfl) ?_
      refine State.showPair_fr (Fr.sub hm rfl) ?_
      refine State.logicStart_fr (Fr.sub hm rfl) ?_
      refine State.coresPower_fr (Fr.sub hm rfl) ?_
      exact h9
    clear_value x10
    refine State.put_fr (Fr.sub hm rfl) (Fr.bit hm rfl) ?_
    refine Fr.set_sys (Fr.bit hm rfl) ?_
    exact h11

theorem execStartBoundary_fr {t}
    (hm : 0x5edf6fd1ffffffffffffffffffffffffffffffffffffffffffffffffffffffffffffffffffffffff ||| m = m) (h : Fr m s₀ s)
    (e : execStartBoundary s = .next t) : Fr m s₀ t := by
  unfold execStartBoundary at e
  cases e
  refine State.ship_fr (Fr.sub hm rfl) ?_
  refine Fr.ite ?_ ?_
  · exact h
  · extract_lets +onlyGivenNames x0
    clear_value x0
    extract_lets +onlyGivenNames x1
    have h2 : Fr m s₀ x1 := by
      unfold x1
      refine State.chooseRole_fr (Fr.sub hm rfl) ?_
      refine State.raiseFloor_fr (Fr.sub hm rfl) ?_
      refine State.startTime_fr (Fr.sub hm rfl) ?_
      exact h
    clear_value x1
    extract_lets +onlyGivenNames x3
    have h4 : Fr m s₀ x3 := by
      unfold x3
      refine State.boundary_fr (Fr.sub hm rfl) ?_
      exact h2
    clear_value x3
    extract_lets +onlyGivenNames x5
    have h6 : Fr m s₀ x5 := by
      unfold x5
      refine Fr.ite ?_ ?_
      · refine State.armTwins_fr (Fr.sub hm rfl) ?_
        exact h4
      · exact h4
    clear_value x5
    extract_lets +onlyGivenNames x7
    have h8 : Fr m s₀ x7 := by
      unfold x7
      refine State.put_fr (Fr.sub hm rfl) (Fr.bit hm rfl) ?_
      refine State.endHold_fr (Fr.sub hm rfl) ?_
      exact h6
    clear_value x7
    refine Fr.set_sys (Fr.bit hm rfl) ?_
    exact h8

theorem execModeRequest_fr {a0 a1 a2} {t}
    (hm : 0x24000088000000000000000000000000000000000000000000000000000000000000000000000000a ||| m = m) (h : Fr m s₀ s)
    (e : execModeRequest a0 a1 a2 s = .next t) : Fr m s₀ t := by
  unfold execModeRequest at e
  cases e
  refine State.ship_fr (Fr.sub hm rfl) ?_
  extract_lets +onlyGivenNames x0
  have h1 : Fr m s₀ x0 := by
    unfold x0
    refine State.runModeRequest_fr (Fr.sub hm rfl) ?_
    exact h
  clear_value x0
  split
  · refine Fr.ite ?_ ?_
    · exact h1
    · refine Fr.ite ?_ ?_
      · refine State.reserved_fr (Fr.sub hm rfl) ?_
        exact h1
      · refine State.put_fr (Fr.sub hm rfl) (Fr.bit hm rfl) ?_
        refine State.put_fr (Fr.sub hm rfl) (Fr.bit hm rfl) ?_
        refine State.put_fr (Fr.sub hm rfl) (Fr.bit hm rfl) ?_
        exact h1
  · exact h1

theorem execStagingTimeout_fr {t}
    (hm : 0x4000208000000000000000000000000000000000000000000000000000000000000000000000000a ||| m = m) (h : Fr m s₀ s)
    (e : execStagingTimeout s = .next t) : Fr m s₀ t := by
  unfold execStagingTimeout at e
  cases e
  refine State.ship_fr (Fr.sub hm rfl) ?_
  split
  · refine State.raise_fr (Fr.sub hm rfl) ?_
    refine State.put_fr (Fr.sub hm rfl) (Fr.bit hm rfl) ?_
    refine State.cancelPend_fr (Fr.sub hm rfl) ?_
    exact h
  · exact h

theorem execModeBoundary_fr {t}
    (hm : 0x5edf6dd1ffffffffffffffffffffffffffffffffffffffffffffffffffffffffffffffffffffffff ||| m = m) (h : Fr m s₀ s)
    (e : execModeBoundary s = .next t) : Fr m s₀ t := by
  unfold execModeBoundary at e
  cases e
  refine State.ship_fr (Fr.sub hm rfl) ?_
  split
  · exact h
  · extract_lets +onlyGivenNames x0
    clear_value x0
    refine Fr.ite ?_ ?_
    · extract_lets +onlyGivenNames x1
      have h2 : Fr m s₀ x1 := by
        unfold x1
        refine State.clearPend_fr (Fr.sub hm rfl) ?_
        refine State.done_fr (Fr.sub hm rfl) ?_
        refine State.boundary_fr (Fr.sub hm rfl) ?_
        refine State.leaveWindow_fr (Fr.sub hm rfl) ?_
        exact h
      clear_value x1
      refine Fr.ite ?_ ?_
      · refine State.takeoverBy_fr (Fr.sub hm rfl) ?_
        exact h2
      · exact h2
    · refine Fr.ite ?_ ?_
      · refine State.clearPend_fr (Fr.sub hm rfl) ?_
        refine State.done_fr (Fr.sub hm rfl) ?_
        refine State.boundary_fr (Fr.sub hm rfl) ?_
        exact h
      · exact h

theorem execStaggerStepExpiry_fr {a0} {t}
    (hm : 0x521f6dc1ffffffffffffffffffffffffffffffffffffffffffffffffffffffffffffffffffffffff ||| m = m) (h : Fr m s₀ s)
    (e : execStaggerStepExpiry a0 s = .next t) : Fr m s₀ t := by
  unfold execStaggerStepExpiry at e
  cases e
  refine State.ship_fr (Fr.sub hm rfl) ?_
  refine Fr.ite ?_ ?_
  · refine State.staggerStep_fr (Fr.sub hm rfl) ?_
    exact h
  · exact h

theorem execPowerDownDone_fr {t}
    (hm : 0x52400c81ffffffffffffffffffffffffffffffffffffffffffffffffffffffffffffffffffffffff ||| m = m) (h : Fr m s₀ s)
    (e : execPowerDownDone s = .next t) : Fr m s₀ t := by
  unfold execPowerDownDone at e
  cases e
  refine State.ship_fr (Fr.sub hm rfl) ?_
  refine Fr.ite ?_ ?_
  · exact h
  · extract_lets +onlyGivenNames x0
    clear_value x0
    extract_lets +onlyGivenNames x1
    clear_value x1
    extract_lets +onlyGivenNames x2
    clear_value x2
    extract_lets +onlyGivenNames x3
    have h4 : Fr m s₀ x3 := by
      unfold x3
      refine Fr.upd (s := s) (h_sys := Fr.no (Fr.bit hm rfl)) (h_doc := Fr.no (Fr.bit hm rfl)) ?_
      exact h
    clear_value x3
    split
    · refine State.beginWake_fr (Fr.sub hm rfl) ?_
      exact h4
    · refine State.beginWake_fr (Fr.sub hm rfl) ?_
      exact h4
    · exact h4

theorem execSysRstcmd_fr {a0 a1} {t}
    (hm : 0xededf7f91ffffffffffffffffffffffffffffffffffffffffffffffffffffffffffffffffffffffff ||| m = m) (h : Fr m s₀ s)
    (e : execSysRstcmd a0 a1 s = .next t) : Fr m s₀ t := by
  unfold execSysRstcmd at e
  cases e
  refine State.ship_fr (Fr.sub hm rfl) ?_
  refine State.runSysRstcmd_fr (Fr.sub hm rfl) ?_
  exact h

theorem execDocWdkick_fr {a0 a1} {t}
    (hm : 0xededf7f91ffffffffffffffffffffffffffffffffffffffffffffffffffffffffffffffffffffffff ||| m = m) (h : Fr m s₀ s)
    (e : execDocWdkick a0 a1 s = .next t) : Fr m s₀ t := by
  unfold execDocWdkick at e
  cases e
  refine State.ship_fr (Fr.sub hm rfl) ?_
  refine State.runDocWdkick_fr (Fr.sub hm rfl) ?_
  exact h

theorem execWatchdogExpiry_fr {t}
    (hm : 0xededf7f91ffffffffffffffffffffffffffffffffffffffffffffffffffffffffffffffffffffffff ||| m = m) (h : Fr m s₀ s)
    (e : execWatchdogExpiry s = .next t) : Fr m s₀ t := by
  unfold execWatchdogExpiry at e
  cases e
  refine State.ship_fr (Fr.sub hm rfl) ?_
  refine Fr.ite ?_ ?_
  · refine State.wdExpire_fr (Fr.sub hm rfl) ?_
    exact h
  · exact h

theorem execBothHalvesLost_fr {t}
    (hm : 0xededf7f91ffffffffffffffffffffffffffffffffffffffffffffffffffffffffffffffffffffffff ||| m = m) (h : Fr m s₀ s)
    (e : execBothHalvesLost s = .next t) : Fr m s₀ t := by
  unfold execBothHalvesLost at e
  cases e
  refine State.ship_fr (Fr.sub hm rfl) ?_
  refine Fr.ite ?_ ?_
  · exact h
  · refine State.bothDown_fr (Fr.sub hm rfl) ?_
    exact h

end Sys2Proof.Machine
end

