-- ==== Sys2Proof/Laws/FrameCal.lean ====
section
/-! SUPPORT. Frames (Laws/Frame.lean) of the functions of Machine/Cal.lean: one lemma for each, which says by its mask which
registers and which parts of the state the function may change. -/

namespace Sys2Proof.Machine

variable {m : Nat} {s₀ s : State}

theorem State.calSet_fr {a1 a2}
    (hm : 0x100000000600000000000000000000000000000000000000000000000000000000000000000000000 ||| m = m) (h : Fr m s₀ s) :
    Fr m s₀ (State.calSet s a1 a2) := by
  unfold State.calSet
  extract_lets +onlyGivenNames x0
  have h1 : Fr m s₀ x0 := by
    unfold x0
    refine State.setReg_fr (Fr.reg .CAL_VAL hm rfl) ?_
    exact h
  clear_value x0
  extract_lets +onlyGivenNames x2
  clear_value x2
  refine State.flag_fr (Fr.sub hm rfl) (Fr.bit hm rfl) ?_
  refine Fr.set_cal (Fr.bit hm rfl) ?_
  exact h1

theorem State.runCalValWrite_fr {a1 a2}
    (hm : 0x300000800600000000000000000000000000000000000000000000000000000000000000000000000 ||| m = m) (h : Fr m s₀ s) :
    Fr m s₀ (State.runCalValWrite s a1 a2) := by
  unfold State.runCalValWrite
  refine Fr.ite ?_ ?_
  · exact h
  · refine Fr.ite ?_ ?_
    · refine State.reserved_fr (Fr.sub hm rfl) ?_
      exact h
    · refine State.accept_fr (Fr.sub hm rfl) ?_ ?_
      · intro s0 h1
        refine Fr.ite ?_ ?_
        · exact h1
        · refine Fr.ite ?_ ?_
          · refine State.reserved_fr (Fr.sub hm rfl) ?_
            exact h1
          · refine State.calSet_fr (Fr.sub hm rfl) ?_
            exact h1
      · exact h

theorem execCalValWrite_fr {a0 a1} {t}
    (hm : 0x340000800600000000000000000000000000000000000000000000000000000000000000000000000 ||| m = m) (h : Fr m s₀ s)
    (e : execCalValWrite a0 a1 s = .next t) : Fr m s₀ t := by
  unfold execCalValWrite at e
  cases e
  refine State.ship_fr (Fr.sub hm rfl) ?_
  refine State.runCalValWrite_fr (Fr.sub hm rfl) ?_
  exact h

theorem execCalCommitDone_fr {a0} {t}
    (hm : 0x140000000400000000000000000000000000000000000000000000000000000000000000000000000 ||| m = m) (h : Fr m s₀ s)
    (e : execCalCommitDone a0 s = .next t) : Fr m s₀ t := by
  unfold execCalCommitDone at e
  cases e
  refine State.ship_fr (Fr.sub hm rfl) ?_
  split
  · exact h
  · extract_lets +onlyGivenNames x0
    clear_value x0
    extract_lets +onlyGivenNames x1
    have h2 : Fr m s₀ x1 := by
      unfold x1
      refine Fr.set_cal (Fr.bit hm rfl) ?_
      exact h
    clear_value x1
    extract_lets +onlyGivenNames x3
    have h4 : Fr m s₀ x3 := by
      unfold x3
      refine State.count_fr (Fr.sub hm rfl) (Fr.bit hm rfl) ?_
      refine State.flag_fr (Fr.sub hm rfl) (Fr.bit hm rfl) ?_
      exact h2
    clear_value x3
    split
    · refine Fr.set_cal (Fr.bit hm rfl) ?_
      exact h4
    · refine State.flag_fr (Fr.sub hm rfl) (Fr.bit hm rfl) ?_
      refine Fr.set_cal (Fr.bit hm rfl) ?_
      exact h4

end Sys2Proof.Machine
end

