-- ==== Sys2Proof/Laws/FrameCan.lean ====
section
/-! SUPPORT. Frames (Laws/Frame.lean) of the functions of Machine/Can.lean: one lemma for each, which says by its mask which
registers and which parts of the state the function may change. -/

namespace Sys2Proof.Machine

variable {m : Nat} {s₀ s : State}

theorem State.runCanCmdClrlonely_fr {a1 a2}
    (hm : 0x212002c00000000000000010000000000081823000920010000000000000000000000000280000000 ||| m = m) (h : Fr m s₀ s) :
    Fr m s₀ (State.runCanCmdClrlonely s a1 a2) := by
  unfold State.runCanCmdClrlonely
  refine Fr.ite ?_ ?_
  · refine State.reserved_fr (Fr.sub hm rfl) ?_
    exact h
  · refine State.clearLonely_fr (Fr.sub hm rfl) ?_
    exact h

theorem State.runCanCmdRecover_fr {a1 a2}
    (hm : 0x212000c00000000000000000000000000000021000920010000000000000000000000000280000000 ||| m = m) (h : Fr m s₀ s) :
    Fr m s₀ (State.runCanCmdRecover s a1 a2) := by
  unfold State.runCanCmdRecover
  refine Fr.ite ?_ ?_
  · refine State.reserved_fr (Fr.sub hm rfl) ?_
    exact h
  · refine Fr.ite ?_ ?_
    · refine State.setCanSt_fr (Fr.sub hm rfl) ?_
      exact h
    · exact h

theorem State.runCanRxpop_fr {a1 a2 a3 a4}
    (hm : 0x202000800000000000000000000000000000020000000000000000000000000000000000000000000 ||| m = m) (h : Fr m s₀ s) :
    Fr m s₀ (State.runCanRxpop s a1 a2 a3 a4) := by
  unfold State.runCanRxpop
  refine Fr.ite ?_ ?_
  · refine State.reserved_fr (Fr.sub hm rfl) ?_
    exact h
  · refine State.accept_fr (Fr.sub hm rfl) ?_ ?_
    · intro s0 h1
      refine State.canPop_fr (Fr.sub hm rfl) ?_
      exact h1
    · exact h

theorem State.canRequest_fr {a1 a2}
    (hm : 0x12000c00000000000000000000000000081820000920010000000000000000000000000280000000 ||| m = m) (h : Fr m s₀ s) :
    Fr m s₀ (State.canRequest s a1 a2) := by
  unfold State.canRequest
  refine Fr.ite ?_ ?_
  · exact h
  · refine Fr.ite ?_ ?_
    · refine State.endBuf_fr (Fr.sub hm rfl) ?_
      exact h
    · refine State.stageNext_fr (Fr.sub hm rfl) ?_
      refine State.setBst_fr (Fr.sub hm rfl) ?_
      refine State.setReg_fr (Fr.reg .CAN_TXS hm rfl) ?_
      exact h

theorem State.runCanTxRequest_fr {a1 a2 a3}
    (hm : 0x212000c00000000000000000000000000081820000920010000000000000000000000000280000000 ||| m = m) (h : Fr m s₀ s) :
    Fr m s₀ (State.runCanTxRequest s a1 a2 a3) := by
  unfold State.runCanTxRequest
  refine Fr.ite ?_ ?_
  · refine State.reserved_fr (Fr.sub hm rfl) ?_
    exact h
  · refine Fr.forEach ?_ ?_
    · intro h0 s1 h2
      refine Fr.ite ?_ ?_
      · refine State.reserved_fr (Fr.sub hm rfl) ?_
        exact h2
      · refine State.canRequest_fr (Fr.sub hm rfl) ?_
        exact h2
    · exact h

theorem State.canCancel_fr {a1 a2 a3}
    (hm : 0x12000c00000000000000000000000000081820000920010000000000000000000000000280000000 ||| m = m) (h : Fr m s₀ s) :
    Fr m s₀ (State.canCancel s a1 a2 a3) := by
  unfold State.canCancel
  refine Fr.ite ?_ ?_
  · refine State.endBuf_fr (Fr.sub hm rfl) ?_
    exact h
  · refine Fr.ite ?_ ?_
    · refine Fr.ite ?_ ?_
      · refine State.setCp_fr (Fr.sub hm rfl) ?_
        refine State.endBuf_fr (Fr.sub hm rfl) ?_
        exact h
      · refine State.setCp_fr (Fr.sub hm rfl) ?_
        exact h
    · exact h

theorem State.runCanTxCancel_fr {a1 a2 a3 a4}
    (hm : 0x212000c00000000000000000000000000081820000920010000000000000000000000000280000000 ||| m = m) (h : Fr m s₀ s) :
    Fr m s₀ (State.runCanTxCancel s a1 a2 a3 a4) := by
  unfold State.runCanTxCancel
  refine Fr.ite ?_ ?_
  · refine State.reserved_fr (Fr.sub hm rfl) ?_
    exact h
  · refine Fr.forEach ?_ ?_
    · intro h0 s1 h2
      refine Fr.ite ?_ ?_
      · refine State.reserved_fr (Fr.sub hm rfl) ?_
        exact h2
      · refine State.canCancel_fr (Fr.sub hm rfl) ?_
        exact h2
    · exact h

theorem State.runCanTxBufferWrite_fr {a1 a2 a3 a4 a5}
    (hm : 0x200000800000000000000000000000000040000000000000000000000000000000000000000000000 ||| m = m) (h : Fr m s₀ s) :
    Fr m s₀ (State.runCanTxBufferWrite s a1 a2 a3 a4 a5) := by
  unfold State.runCanTxBufferWrite
  refine Fr.ite ?_ ?_
  · refine State.reserved_fr (Fr.sub hm rfl) ?_
    exact h
  · refine Fr.ite ?_ ?_
    · refine State.reserved_fr (Fr.sub hm rfl) ?_
      exact h
    · refine State.setReg_fr (Fr.reg .CAN_TXW hm rfl) ?_
      exact h

theorem State.canFilter_fr {a1 a2 a3}
    (hm : 0x1a002c00000000000000000000000a06000020000920010000000000000000000000000280000000 ||| m = m) (h : Fr m s₀ s) :
    Fr m s₀ (State.canFilter s a1 a2 a3) := by
  unfold State.canFilter
  extract_lets +onlyGivenNames x0
  clear_value x0
  extract_lets +onlyGivenNames x1
  clear_value x1
  extract_lets +onlyGivenNames x2
  have h3 : Fr m s₀ x2 := by
    unfold x2
    refine Fr.ite ?_ ?_
    · refine State.canStore_fr (Fr.sub hm rfl) ?_
      exact h
    · refine Fr.ite ?_ ?_
      · refine State.canStore_fr (Fr.sub hm rfl) ?_
        exact h
      · exact h
  clear_value x2
  split
  · refine Fr.ite ?_ ?_
    · refine State.gwOffer_fr (Fr.sub hm rfl) ?_
      exact h3
    · exact h3
  · exact h3

theorem State.canRxError_fr {a1 a2}
    (hm : 0x12002c00000000000000010000000000081823000920010000000000000000000000000280000000 ||| m = m) (h : Fr m s₀ s) :
    Fr m s₀ (State.canRxError s a1 a2) := by
  unfold State.canRxError
  extract_lets +onlyGivenNames x0
  have h1 : Fr m s₀ x0 := by
    unfold x0
    refine State.canErr_fr (Fr.sub hm rfl) ?_
    refine State.retry_fr (Fr.sub hm rfl) ?_
    exact h
  clear_value x0
  extract_lets +onlyGivenNames x2
  have h3 : Fr m s₀ x2 := by
    unfold x2
    refine State.confine_fr (Fr.sub hm rfl) ?_
    exact h1
  clear_value x2
  refine State.canAfter_fr (Fr.sub hm rfl) ?_
  refine State.setCp_fr (Fr.sub hm rfl) ?_
  exact h3

theorem State.canForeign_fr {a1}
    (hm : 0x12002c00000000000000010000000000081823000920010000000000000000000000000280000000 ||| m = m) (h : Fr m s₀ s) :
    Fr m s₀ (State.canForeign s a1) := by
  unfold State.canForeign
  refine Fr.ite ?_ ?_
  · extract_lets +onlyGivenNames x0
    have h1 : Fr m s₀ x0 := by
      unfold x0
      refine State.setCanSt_fr (Fr.sub hm rfl) ?_
      refine State.retry_fr (Fr.sub hm rfl) ?_
      exact h
    clear_value x0
    refine State.canAfter_fr (Fr.sub hm rfl) ?_
    refine State.setCp_fr (Fr.sub hm rfl) ?_
    exact h1
  · refine State.canRxError_fr (Fr.sub hm rfl) ?_
    exact h

theorem State.canReceive_fr {a1 a2 a3}
    (hm : 0x1e002c40000000000000010020000a06481823000920010000000000000000000000000280000400 ||| m = m) (h : Fr m s₀ s) :
    Fr m s₀ (State.canReceive s a1 a2 a3) := by
  unfold State.canReceive
  refine Fr.ite ?_ ?_
  · exact h
  · refine Fr.ite ?_ ?_
    · refine State.canForeign_fr (Fr.sub hm rfl) ?_
      exact h
    · extract_lets +onlyGivenNames x0
      have h1 : Fr m s₀ x0 := by
        unfold x0
        refine State.clearLonely_fr (Fr.sub hm rfl) ?_
        refine State.recGood_fr (Fr.sub hm rfl) ?_
        refine State.retry_fr (Fr.sub hm rfl) ?_
        exact h
      clear_value x0
      refine Fr.ite ?_ ?_
      · exact h1
      · extract_lets +onlyGivenNames x2
        clear_value x2
        extract_lets +onlyGivenNames x3
        have h4 : Fr m s₀ x3 := by
          unfold x3
          refine State.canFilter_fr (Fr.sub hm rfl) ?_
          exact h1
        clear_value x3
        extract_lets +onlyGivenNames x5
        have h6 : Fr m s₀ x5 := by
          unfold x5
          refine Fr.ite ?_ ?_
          · refine State.nmFrame_fr (Fr.sub hm rfl) ?_
            exact h4
          · exact h4
        clear_value x5
        refine State.canAfter_fr (Fr.sub hm rfl) ?_
        refine State.setCp_fr (Fr.sub hm rfl) ?_
        exact h6

theorem State.runCanRxdRead_fr {a1 a2 a3}
    (hm : 0x203000800000000000000000000000000000020000000000000000000000000000000000000000000 ||| m = m) (h : Fr m s₀ s) :
    Fr m s₀ (State.runCanRxdRead s a1 a2 a3) := by
  unfold State.runCanRxdRead
  refine Fr.ite ?_ ?_
  · extract_lets +onlyGivenNames x0
    have h1 : Fr m s₀ x0 := by
      unfold x0
      refine State.reserved_fr (Fr.sub hm rfl) ?_
      exact h
    clear_value x0
    refine Fr.set_rdata (Fr.bit hm rfl) ?_
    exact h1
  · extract_lets +onlyGivenNames x2
    have h3 : Fr m s₀ x2.2 := by
      unfold x2
      refine State.canRead_fr (Fr.sub hm rfl) ?_
      exact h
    extract_lets +onlyGivenNames x4
    have h5 : Fr m s₀ x4 := by
      unfold x4
      exact h3
    clear_value x4
    refine Fr.set_rdata (Fr.bit hm rfl) ?_
    exact h5

theorem State.tdcMeasured_fr {a1 a2 a3 a4}
    (hm : 0x2000000000000000000000000000000001000000000000000000000000000000000000000000 ||| m = m) (h : Fr m s₀ s) :
    Fr m s₀ (State.tdcMeasured s a1 a2 a3 a4) := by
  unfold State.tdcMeasured
  extract_lets +onlyGivenNames x0
  have h1 : Fr m s₀ x0 := by
    unfold x0
    refine State.put_fr (Fr.sub hm rfl) (Fr.bit hm rfl) ?_
    exact h
  clear_value x0
  refine Fr.ite ?_ ?_
  · refine State.raise_fr (Fr.sub hm rfl) ?_
    exact h1
  · exact h1

theorem State.measureTdc_fr {a1 a2 a3}
    (hm : 0x2000000000000000000000000000000001000000000000000000000000000000000000000000 ||| m = m) (h : Fr m s₀ s) :
    Fr m s₀ (State.measureTdc s a1 a2 a3) := by
  unfold State.measureTdc
  split
  · refine Fr.ite ?_ ?_
    · refine State.tdcMeasured_fr (Fr.sub hm rfl) ?_
      exact h
    · exact h
  · refine Fr.ite ?_ ?_
    · refine State.tdcMeasured_fr (Fr.sub hm rfl) ?_
      exact h
    · exact h
  · exact h

theorem execCanFrameReceived_fr {a0 a1 a2} {t}
    (hm : 0x5e002c40000000000000010020000a06481823000920010000000000000000000000000280000400 ||| m = m) (h : Fr m s₀ s)
    (e : execCanFrameReceived a0 a1 a2 s = .next t) : Fr m s₀ t := by
  unfold execCanFrameReceived at e
  cases e
  refine State.ship_fr (Fr.sub hm rfl) ?_
  refine State.canReceive_fr (Fr.sub hm rfl) ?_
  exact h

theorem execCanRxdRead_fr {a0 a1 a2} {t}
    (hm : 0x243000800000000000000000000000000000020000000000000000000000000000000000000000000 ||| m = m) (h : Fr m s₀ s)
    (e : execCanRxdRead a0 a1 a2 s = .next t) : Fr m s₀ t := by
  unfold execCanRxdRead at e
  cases e
  refine State.ship_fr (Fr.sub hm rfl) ?_
  refine State.asWho_fr (Fr.sub hm rfl) ?_ ?_
  · intro s0 h1
    refine State.runCanRxdRead_fr (Fr.sub hm rfl) ?_
    exact h1
  · exact h

theorem execCanRxpop_fr {a0 a1 a2 a3} {t}
    (hm : 0x242000800000000000000000000000000000020000000000000000000000000000000000000000000 ||| m = m) (h : Fr m s₀ s)
    (e : execCanRxpop a0 a1 a2 a3 s = .next t) : Fr m s₀ t := by
  unfold execCanRxpop at e
  cases e
  refine State.ship_fr (Fr.sub hm rfl) ?_
  refine State.asWho_fr (Fr.sub hm rfl) ?_ ?_
  · intro s0 h1
    refine State.runCanRxpop_fr (Fr.sub hm rfl) ?_
    exact h1
  · exact h

theorem execCanTxBufferWrite_fr {a0 a1 a2 a3 a4} {t}
    (hm : 0x240000800000000000000000000000000040000000000000000000000000000000000000000000000 ||| m = m) (h : Fr m s₀ s)
    (e : execCanTxBufferWrite a0 a1 a2 a3 a4 s = .next t) : Fr m s₀ t := by
  unfold execCanTxBufferWrite at e
  cases e
  refine State.ship_fr (Fr.sub hm rfl) ?_
  refine State.asWho_fr (Fr.sub hm rfl) ?_ ?_
  · intro s0 h1
    refine State.runCanTxBufferWrite_fr (Fr.sub hm rfl) ?_
    exact h1
  · exact h

theorem execCanTxRequest_fr {a0 a1 a2} {t}
    (hm : 0x252000c00000000000000000000000000081820000920010000000000000000000000000280000000 ||| m = m) (h : Fr m s₀ s)
    (e : execCanTxRequest a0 a1 a2 s = .next t) : Fr m s₀ t := by
  unfold execCanTxRequest at e
  cases e
  refine State.ship_fr (Fr.sub hm rfl) ?_
  refine State.asWho_fr (Fr.sub hm rfl) ?_ ?_
  · intro s0 h1
    refine State.runCanTxRequest_fr (Fr.sub hm rfl) ?_
    exact h1
  · exact h

theorem execCanTxCancel_fr {a0 a1 a2 a3} {t}
    (hm : 0x252000c00000000000000000000000000081820000920010000000000000000000000000280000000 ||| m = m) (h : Fr m s₀ s)
    (e : execCanTxCancel a0 a1 a2 a3 s = .next t) : Fr m s₀ t := by
  unfold execCanTxCancel at e
  cases e
  refine State.ship_fr (Fr.sub hm rfl) ?_
  refine State.asWho_fr (Fr.sub hm rfl) ?_ ?_
  · intro s0 h1
    refine State.runCanTxCancel_fr (Fr.sub hm rfl) ?_
    exact h1
  · exact h

theorem execCanStagingDone_fr {a0 a1} {t}
    (hm : 0x52003c00000000000000000000000000081820058920010000000000000000000000000280000000 ||| m = m) (h : Fr m s₀ s)
    (e : execCanStagingDone a0 a1 s = .next t) : Fr m s₀ t := by
  unfold execCanStagingDone at e
  cases e
  refine State.ship_fr (Fr.sub hm rfl) ?_
  split
  · extract_lets +onlyGivenNames x0
    clear_value x0
    extract_lets +onlyGivenNames x1
    clear_value x1
    extract_lets +onlyGivenNames x2
    clear_value x2
    extract_lets +onlyGivenNames x3
    have h4 : Fr m s₀ x3 := by
      unfold x3
      refine Fr.ite ?_ ?_
      · refine State.eccEvent_fr (Fr.sub hm rfl) ?_
        exact h
      · exact h
    clear_value x3
    refine Fr.ite ?_ ?_
    · refine State.raise_fr (Fr.sub hm rfl) ?_
      refine State.endBuf_fr (Fr.sub hm rfl) ?_
      exact h4
    · refine State.setCp_fr (Fr.sub hm rfl) ?_
      exact h4
  · exact h

theorem execCanTxChoice_fr {a0} {t}
    (hm : 0x52000c00000000000000000000000000081820000920010000000000000000000000000280000000 ||| m = m) (h : Fr m s₀ s)
    (e : execCanTxChoice a0 s = .next t) : Fr m s₀ t := by
  unfold execCanTxChoice at e
  cases e
  refine State.ship_fr (Fr.sub hm rfl) ?_
  refine Fr.ite ?_ ?_
  · exact h
  · refine Fr.ite ?_ ?_
    · exact h
    · split
      · extract_lets +onlyGivenNames x0
        have h1 : Fr m s₀ x0 := by
          unfold x0
          refine State.setBst_fr (Fr.sub hm rfl) ?_
          exact h
        clear_value x0
        refine Fr.ite ?_ ?_
        · refine State.setCp_fr (Fr.sub hm rfl) ?_
          exact h1
        · refine State.count_fr (Fr.sub hm rfl) (Fr.bit hm rfl) ?_
          refine State.setCp_fr (Fr.sub hm rfl) ?_
          exact h1
      · exact h

theorem execCanTxSuccess_fr {a0 a1 a2} {t}
    (hm : 0x52002c00000000000000010000000000181823000920010000000000000000000000000280000000 ||| m = m) (h : Fr m s₀ s)
    (e : execCanTxSuccess a0 a1 a2 s = .next t) : Fr m s₀ t := by
  unfold execCanTxSuccess at e
  cases e
  refine State.ship_fr (Fr.sub hm rfl) ?_
  split
  · exact h
  · extract_lets +onlyGivenNames x0
    clear_value x0
    extract_lets +onlyGivenNames x1
    clear_value x1
    extract_lets +onlyGivenNames x2
    have h3 : Fr m s₀ x2 := by
      unfold x2
      refine State.measureTdc_fr (Fr.sub hm rfl) ?_
      exact h
    clear_value x2
    extract_lets +onlyGivenNames x4
    clear_value x4
    extract_lets +onlyGivenNames x5
    have h6 : Fr m s₀ x5 := by
      unfold x5
      refine State.setCp_fr (Fr.sub hm rfl) ?_
      exact h3
    clear_value x5
    extract_lets +onlyGivenNames x7
    have h8 : Fr m s₀ x7 := by
      unfold x7
      refine Fr.ite ?_ ?_
      · refine State.nmFollow_fr (Fr.sub hm rfl) ?_
        refine State.setBst_fr (Fr.sub hm rfl) ?_
        exact h6
      · refine State.endBuf_fr (Fr.sub hm rfl) ?_
        refine State.setReg_fr (Fr.reg .CAN_TXT hm rfl) ?_
        exact h6
    clear_value x7
    extract_lets +onlyGivenNames x9
    have h10 : Fr m s₀ x9 := by
      unfold x9
      refine State.clearLonely_fr (Fr.sub hm rfl) ?_
      exact h8
    clear_value x9
    extract_lets +onlyGivenNames x11
    have h12 : Fr m s₀ x11 := by
      unfold x11
      refine State.confine_fr (Fr.sub hm rfl) ?_
      exact h10
    clear_value x11
    refine State.canAfter_fr (Fr.sub hm rfl) ?_
    exact h12

theorem execCanTxError_fr {a0 a1 a2} {t}
    (hm : 0x52002c40000000000000010000000000081823000920010000000000000000000000000280000000 ||| m = m) (h : Fr m s₀ s)
    (e : execCanTxError a0 a1 a2 s = .next t) : Fr m s₀ t := by
  unfold execCanTxError at e
  cases e
  refine State.ship_fr (Fr.sub hm rfl) ?_
  split
  · exact h
  · extract_lets +onlyGivenNames x0
    have h1 : Fr m s₀ x0 := by
      unfold x0
      split
      · refine State.measureTdc_fr (Fr.sub hm rfl) ?_
        exact h
      · exact h
    clear_value x0
    extract_lets +onlyGivenNames x2
    extract_lets +onlyGivenNames x3
    have h4 : Fr m s₀ x3 := by
      unfold x3
      refine State.canErr_fr (Fr.sub hm rfl) ?_
      exact h1
    clear_value x3
    extract_lets +onlyGivenNames x5
    have h6 : Fr m s₀ x5 := by
      unfold x5
      refine Fr.ite ?_ ?_
      · refine State.ackError_fr (Fr.sub hm rfl) ?_
        exact h4
      · exact h4
    clear_value x5
    extract_lets +onlyGivenNames x7
    clear_value x7
    extract_lets +onlyGivenNames x8
    have h9 : Fr m s₀ x8 := by
      unfold x8
      refine State.setBst_fr (Fr.sub hm rfl) ?_
      exact h6
    clear_value x8
    extract_lets +onlyGivenNames x10
    have h11 : Fr m s₀ x10 := by
      unfold x10
      refine Fr.ite ?_ ?_
      · refine Fr.ite ?_ ?_
        · exact h9
        · refine State.flag_fr (Fr.sub hm rfl) (Fr.bit hm rfl) ?_
          exact h9
      · refine State.retry_fr (Fr.sub hm rfl) ?_
        exact h6
    clear_value x10
    extract_lets +onlyGivenNames x12
    clear_value x12
    extract_lets +onlyGivenNames x13
    have h14 : Fr m s₀ x13 := by
      unfold x13
      refine State.confine_fr (Fr.sub hm rfl) ?_
      exact h11
    clear_value x13
    refine State.canAfter_fr (Fr.sub hm rfl) ?_
    exact h14

theorem execCanRxError_fr {a0 a1} {t}
    (hm : 0x52002c00000000000000010000000000081823000920010000000000000000000000000280000000 ||| m = m) (h : Fr m s₀ s)
    (e : execCanRxError a0 a1 s = .next t) : Fr m s₀ t := by
  unfold execCanRxError at e
  cases e
  refine State.ship_fr (Fr.sub hm rfl) ?_
  refine Fr.ite ?_ ?_
  · refine State.canRxError_fr (Fr.sub hm rfl) ?_
    exact h
  · exact h

theorem execBusOffRecoveryDone_fr {a0} {t}
    (hm : 0x52000c00000000000000000000000000000021000920010000000000000000000000000280000000 ||| m = m) (h : Fr m s₀ s)
    (e : execBusOffRecoveryDone a0 s = .next t) : Fr m s₀ t := by
  unfold execBusOffRecoveryDone at e
  cases e
  refine State.ship_fr (Fr.sub hm rfl) ?_
  refine Fr.ite ?_ ?_
  · refine State.setCanSt_fr (Fr.sub hm rfl) ?_
    refine State.put_fr (Fr.sub hm rfl) (Fr.bit hm rfl) ?_
    refine State.put_fr (Fr.sub hm rfl) (Fr.bit hm rfl) ?_
    exact h
  · exact h

theorem execCanCmdRecover_fr {a0 a1} {t}
    (hm : 0x252000c00000000000000000000000000000021000920010000000000000000000000000280000000 ||| m = m) (h : Fr m s₀ s)
    (e : execCanCmdRecover a0 a1 s = .next t) : Fr m s₀ t := by
  unfold execCanCmdRecover at e
  cases e
  refine State.ship_fr (Fr.sub hm rfl) ?_
  refine State.asWho_fr (Fr.sub hm rfl) ?_ ?_
  · intro s0 h1
    refine State.runCanCmdRecover_fr (Fr.sub hm rfl) ?_
    exact h1
  · exact h

theorem execCanCmdClrlonely_fr {a0 a1} {t}
    (hm : 0x252002c00000000000000010000000000081823000920010000000000000000000000000280000000 ||| m = m) (h : Fr m s₀ s)
    (e : execCanCmdClrlonely a0 a1 s = .next t) : Fr m s₀ t := by
  unfold execCanCmdClrlonely at e
  cases e
  refine State.ship_fr (Fr.sub hm rfl) ?_
  refine State.asWho_fr (Fr.sub hm rfl) ?_ ?_
  · intro s0 h1
    refine State.runCanCmdClrlonely_fr (Fr.sub hm rfl) ?_
    exact h1
  · exact h

theorem execCanIntegrationDone_fr {a0} {t}
    (hm : 0x52000c00000000000000000000000000000021000920010000000000000000000000000280000000 ||| m = m) (h : Fr m s₀ s)
    (e : execCanIntegrationDone a0 s = .next t) : Fr m s₀ t := by
  unfold execCanIntegrationDone at e
  cases e
  refine State.ship_fr (Fr.sub hm rfl) ?_
  refine Fr.ite ?_ ?_
  · refine State.integrated_fr (Fr.sub hm rfl) ?_
    exact h
  · exact h

theorem execTxdDominantTimeout_fr {a0 a1} {t}
    (hm : 0x42002000000000000000000000000000000000000000000000000000000000000000000000000000 ||| m = m) (h : Fr m s₀ s)
    (e : execTxdDominantTimeout a0 a1 s = .next t) : Fr m s₀ t := by
  unfold execTxdDominantTimeout at e
  cases e
  refine State.ship_fr (Fr.sub hm rfl) ?_
  refine Fr.ite ?_ ?_
  · exact h
  · refine Fr.ite ?_ ?_
    · refine State.raiseCond_fr (Fr.sub hm rfl) ?_
      refine State.setCp_fr (Fr.sub hm rfl) ?_
      exact h
    · refine Fr.ite ?_ ?_
      · refine State.raise_fr (Fr.sub hm rfl) ?_
        exact h
      · exact h

theorem execGatewayBufferLoad_fr {a0} {t}
    (hm : 0x52000c000000000000000000000000000c1820000920010000000000000000000000000280000000 ||| m = m) (h : Fr m s₀ s)
    (e : execGatewayBufferLoad a0 s = .next t) : Fr m s₀ t := by
  unfold execGatewayBufferLoad at e
  cases e
  refine State.ship_fr (Fr.sub hm rfl) ?_
  refine Fr.ite ?_ ?_
  · exact h
  · split
    · extract_lets +onlyGivenNames x0
      clear_value x0
      extract_lets +onlyGivenNames x1
      have h2 : Fr m s₀ x1 := by
        unfold x1
        refine State.setCp_fr (Fr.sub hm rfl) ?_
        exact h
      clear_value x1
      extract_lets +onlyGivenNames x3
      have h4 : Fr m s₀ x3 := by
        unfold x3
        refine Fr.forEach ?_ ?_
        · intro h5 s6 h7
          refine State.setReg_fr (Fr.reg .CAN_TXW hm rfl) ?_
          exact h7
        · exact h2
      clear_value x3
      refine State.setBst_fr (Fr.sub hm rfl) ?_
      refine State.setReg_fr (Fr.reg .CAN_TXS hm rfl) ?_
      exact h4
    · exact h

theorem execTxdRecessiveReturn_fr {a0} {t}
    (hm : 0x42002000000000000000010000000000000000000000000000000000000000000000000000000000 ||| m = m) (h : Fr m s₀ s)
    (e : execTxdRecessiveReturn a0 s = .next t) : Fr m s₀ t := by
  unfold execTxdRecessiveReturn at e
  cases e
  refine State.ship_fr (Fr.sub hm rfl) ?_
  refine Fr.ite ?_ ?_
  · refine State.clearSrc_fr (Fr.sub hm rfl) ?_
    refine State.setCp_fr (Fr.sub hm rfl) ?_
    exact h
  · exact h

end Sys2Proof.Machine
end

