-- ==== Sys2Proof/Laws/FrameCat.lean ====
section
/-! SUPPORT. Frames (Laws/Frame.lean) of the functions of Machine/Cat.lean: one lemma for each, which says by its mask which
registers and which parts of the state the function may change. -/

namespace Sys2Proof.Machine

variable {m : Nat} {s₀ s : State}

theorem State.wctl_fr {a1 : Sys2Proof.Machine.State → Sys2Proof.Machine.State}
    (hm : 0x200000800000000000000000000000000000000000000000000000000000000000000000000000000 ||| m = m)
    (hf1 : ∀ s, Fr m s₀ s → Fr m s₀ (a1 s)) (h : Fr m s₀ s) : Fr m s₀ (State.wctl s a1) := by
  unfold State.wctl
  refine Fr.ite ?_ ?_
  · exact h
  · refine Fr.ite ?_ ?_
    · refine hf1 _ ?_
      exact h
    · refine State.reserved_fr (Fr.sub hm rfl) ?_
      exact h

theorem State.runCatWctlOpen_fr
    (hm : 0x200000a00000000000000000000000000000000000000000000000000000000000000000000200000 ||| m = m) (h : Fr m s₀ s) :
    Fr m s₀ (State.runCatWctlOpen s) := by
  unfold State.runCatWctlOpen
  refine State.wctl_fr (Fr.sub hm rfl) ?_ ?_
  · intro s0 h1
    refine Fr.ite ?_ ?_
    · exact h1
    · extract_lets +onlyGivenNames x2
      have h3 : Fr m s₀ x2 := by
        unfold x2
        refine State.put_fr (Fr.sub hm rfl) (Fr.bit hm rfl) ?_
        refine State.put_fr (Fr.sub hm rfl) (Fr.bit hm rfl) ?_
        refine State.put_fr (Fr.sub hm rfl) (Fr.bit hm rfl) ?_
        exact h1
      clear_value x2
      refine Fr.set_cat (Fr.bit hm rfl) ?_
      exact h3
  · exact h

theorem State.runCatWctlClose_fr
    (hm : 0x200000800000000000000000000000000000000000000000000000000000000000000000000200000 ||| m = m) (h : Fr m s₀ s) :
    Fr m s₀ (State.runCatWctlClose s) := by
  unfold State.runCatWctlClose
  refine State.wctl_fr (Fr.sub hm rfl) ?_ ?_
  · intro s0 h1
    refine Fr.ite ?_ ?_
    · refine State.put_fr (Fr.sub hm rfl) (Fr.bit hm rfl) ?_
      exact h1
    · exact h1
  · exact h

theorem State.runCatWctlCommit_fr
    (hm : 0x200000800000000200000000000000000000000000000000000000000000000000000000000200000 ||| m = m) (h : Fr m s₀ s) :
    Fr m s₀ (State.runCatWctlCommit s) := by
  unfold State.runCatWctlCommit
  refine State.wctl_fr (Fr.sub hm rfl) ?_ ?_
  · intro s0 h1
    refine Fr.ite ?_ ?_
    · refine State.flag_fr (Fr.sub hm rfl) (Fr.bit hm rfl) ?_
      refine State.put_fr (Fr.sub hm rfl) (Fr.bit hm rfl) ?_
      exact h1
    · refine State.reserved_fr (Fr.sub hm rfl) ?_
      exact h1
  · exact h

theorem State.runCatWctlAbort_fr
    (hm : 0x200000a10000000000000000000000000000000000000000000000000000000000000000000200000 ||| m = m) (h : Fr m s₀ s) :
    Fr m s₀ (State.runCatWctlAbort s) := by
  unfold State.runCatWctlAbort
  refine State.wctl_fr (Fr.sub hm rfl) ?_ ?_
  · intro s0 h1
    refine Fr.ite ?_ ?_
    · exact h1
    · refine State.put_fr (Fr.sub hm rfl) (Fr.bit hm rfl) ?_
      extract_lets +onlyGivenNames x2
      have h3 : Fr m s₀ x2 := by
        unfold x2
        refine State.eraseSlot_fr (Fr.sub hm rfl) ?_
        exact h1
      clear_value x2
      refine Fr.set_cat (Fr.bit hm rfl) ?_
      exact h3
  · exact h

theorem State.runSlotWordWrite_fr {a1 a2}
    (hm : 0x200000a10000000000000000000000000000000000000000000000000000000000000000000200000 ||| m = m) (h : Fr m s₀ s) :
    Fr m s₀ (State.runSlotWordWrite s a1 a2) := by
  unfold State.runSlotWordWrite
  refine Fr.ite ?_ ?_
  · exact h
  · refine Fr.ite ?_ ?_
    · refine State.reserved_fr (Fr.sub hm rfl) ?_
      exact h
    · refine Fr.ite ?_ ?_
      · refine State.flag_fr (Fr.sub hm rfl) (Fr.bit hm rfl) ?_
        exact h
      · extract_lets +onlyGivenNames x0
        have h1 : Fr m s₀ x0 := by
          unfold x0
          refine State.setWord_fr (Fr.sub hm rfl) ?_
          exact h
        clear_value x0
        extract_lets +onlyGivenNames x2
        clear_value x2
        extract_lets +onlyGivenNames x3
        have h4 : Fr m s₀ x3 := by
          unfold x3
          refine Fr.set_cat (Fr.bit hm rfl) ?_
          exact h1
        clear_value x3
        refine State.count_fr (Fr.sub hm rfl) (Fr.bit hm rfl) ?_
        exact h4

theorem execCatWctlOpen_fr {t}
    (hm : 0x240000a00000000000000000000000000000000000000000000000000000000000000000000200000 ||| m = m) (h : Fr m s₀ s)
    (e : execCatWctlOpen s = .next t) : Fr m s₀ t := by
  unfold execCatWctlOpen at e
  cases e
  refine State.ship_fr (Fr.sub hm rfl) ?_
  refine State.runCatWctlOpen_fr (Fr.sub hm rfl) ?_
  exact h

theorem execSlotEraseDone_fr {t}
    (hm : 0x40000010000000000000000000000000000000000000000000000000000000000000000000200000 ||| m = m) (h : Fr m s₀ s)
    (e : execSlotEraseDone s = .next t) : Fr m s₀ t := by
  unfold execSlotEraseDone at e
  cases e
  refine State.ship_fr (Fr.sub hm rfl) ?_
  refine Fr.ite ?_ ?_
  · refine State.put_fr (Fr.sub hm rfl) (Fr.bit hm rfl) ?_
    refine State.eraseSlot_fr (Fr.sub hm rfl) ?_
    exact h
  · exact h

theorem execSlotWordWrite_fr {a0 a1} {t}
    (hm : 0x240000a10000000000000000000000000000000000000000000000000000000000000000000200000 ||| m = m) (h : Fr m s₀ s)
    (e : execSlotWordWrite a0 a1 s = .next t) : Fr m s₀ t := by
  unfold execSlotWordWrite at e
  cases e
  refine State.ship_fr (Fr.sub hm rfl) ?_
  refine State.runSlotWordWrite_fr (Fr.sub hm rfl) ?_
  exact h

theorem execCatWctlClose_fr {t}
    (hm : 0x240000800000000000000000000000000000000000000000000000000000000000000000000200000 ||| m = m) (h : Fr m s₀ s)
    (e : execCatWctlClose s = .next t) : Fr m s₀ t := by
  unfold execCatWctlClose at e
  cases e
  refine State.ship_fr (Fr.sub hm rfl) ?_
  refine State.runCatWctlClose_fr (Fr.sub hm rfl) ?_
  exact h

theorem execSlotCheckDone_fr {a0} {t}
    (hm : 0x40000000000000000000000000000000000000000000000000000000000000000000000000200000 ||| m = m) (h : Fr m s₀ s)
    (e : execSlotCheckDone a0 s = .next t) : Fr m s₀ t := by
  unfold execSlotCheckDone at e
  cases e
  refine State.ship_fr (Fr.sub hm rfl) ?_
  refine Fr.ite ?_ ?_
  · exact h
  · split
    · refine State.put_fr (Fr.sub hm rfl) (Fr.bit hm rfl) ?_
      refine State.put_fr (Fr.sub hm rfl) (Fr.bit hm rfl) ?_
      exact h
    · refine State.put_fr (Fr.sub hm rfl) (Fr.bit hm rfl) ?_
      refine State.put_fr (Fr.sub hm rfl) (Fr.bit hm rfl) ?_
      exact h

theorem execCatWctlCommit_fr {t}
    (hm : 0x240000800000000200000000000000000000000000000000000000000000000000000000000200000 ||| m = m) (h : Fr m s₀ s)
    (e : execCatWctlCommit s = .next t) : Fr m s₀ t := by
  unfold execCatWctlCommit at e
  cases e
  refine State.ship_fr (Fr.sub hm rfl) ?_
  refine State.runCatWctlCommit_fr (Fr.sub hm rfl) ?_
  exact h

theorem execSlotCommitDone_fr {t}
    (hm : 0x40000200000000000000000000000000000000000000000000000000000000000000000000200800 ||| m = m) (h : Fr m s₀ s)
    (e : execSlotCommitDone s = .next t) : Fr m s₀ t := by
  unfold execSlotCommitDone at e
  cases e
  refine State.ship_fr (Fr.sub hm rfl) ?_
  refine Fr.ite ?_ ?_
  · exact h
  · extract_lets +onlyGivenNames x0
    clear_value x0
    extract_lets +onlyGivenNames x1
    clear_value x1
    extract_lets +onlyGivenNames x2
    have h3 : Fr m s₀ x2 := by
      unfold x2
      refine Fr.set_cat (Fr.bit hm rfl) ?_
      exact h
    clear_value x2
    extract_lets +onlyGivenNames x4
    have h5 : Fr m s₀ x4 := by
      unfold x4
      refine State.flag_fr (Fr.sub hm rfl) (Fr.bit hm rfl) ?_
      refine State.flag_fr (Fr.sub hm rfl) (Fr.bit hm rfl) ?_
      exact h3
    clear_value x4
    refine State.put_fr (Fr.sub hm rfl) (Fr.bit hm rfl) ?_
    exact h5

theorem execCatWctlAbort_fr {t}
    (hm : 0x240000a10000000000000000000000000000000000000000000000000000000000000000000200000 ||| m = m) (h : Fr m s₀ s)
    (e : execCatWctlAbort s = .next t) : Fr m s₀ t := by
  unfold execCatWctlAbort at e
  cases e
  refine State.ship_fr (Fr.sub hm rfl) ?_
  refine State.runCatWctlAbort_fr (Fr.sub hm rfl) ?_
  exact h

end Sys2Proof.Machine
end

