-- ==== Sys2Proof/Laws/FrameFlt.lean ====
section
/-! SUPPORT. Frames (Laws/Frame.lean) of the functions of Machine/Flt.lean: one lemma for each, which says by its mask which
registers and which parts of the state the function may change. -/

namespace Sys2Proof.Machine

variable {m : Nat} {s₀ s : State}

theorem State.runFltCmdClrlog_fr {a1}
    (hm : 0x200000810000000000000040000000000000000000000000000000000000000000000000000000000 ||| m = m) (h : Fr m s₀ s) :
    Fr m s₀ (State.runFltCmdClrlog s a1) := by
  unfold State.runFltCmdClrlog
  refine Fr.ite ?_ ?_
  · refine State.reserved_fr (Fr.sub hm rfl) ?_
    exact h
  · refine State.put_fr (Fr.sub hm rfl) (Fr.bit hm rfl) ?_
    refine State.clearMem_fr (Fr.bit hm rfl) ?_
    exact h

theorem State.runFltCmdClrlost_fr (hm : 0x80000000000000000000000000000000000000000000000000000000000 ||| m = m) (h :
    Fr m s₀ s) : Fr m s₀ (State.runFltCmdClrlost s) := by
  unfold State.runFltCmdClrlost
  refine State.setReg_fr (Fr.reg .FLT_LOST hm rfl) ?_
  exact h

theorem State.runFltAttnAck_fr {a1} (hm : 0x100000000000000000000000000000000000000000000000000000000000 ||| m = m) (h :
    Fr m s₀ s) : Fr m s₀ (State.runFltAttnAck s a1) := by
  unfold State.runFltAttnAck
  refine State.put_fr (Fr.sub hm rfl) (Fr.bit hm rfl) ?_
  exact h

theorem State.inject_fr {a1 a2 a3 a4}
    (hm : 0x2000000000000000800000000000000000000000000000000000000000000000000000000000 ||| m = m) (h : Fr m s₀ s) :
    Fr m s₀ (State.inject s a1 a2 a3 a4) := by
  unfold State.inject
  extract_lets +onlyGivenNames x0
  have h1 : Fr m s₀ x0 := by
    unfold x0
    refine State.put_fr (Fr.sub hm rfl) (Fr.bit hm rfl) ?_
    refine State.put_fr (Fr.sub hm rfl) (Fr.bit hm rfl) ?_
    refine State.put_fr (Fr.sub hm rfl) (Fr.bit hm rfl) ?_
    exact h
  clear_value x0
  refine Fr.set_flt (Fr.bit hm rfl) ?_
  exact h1

theorem State.runFltInjLive_fr {a1 a2 a3}
    (hm : 0x200002800000000000000800000000000000000000000000000000000000000000000000000000000 ||| m = m) (h : Fr m s₀ s) :
    Fr m s₀ (State.runFltInjLive s a1 a2 a3) := by
  unfold State.runFltInjLive
  refine Fr.ite ?_ ?_
  · refine State.reserved_fr (Fr.sub hm rfl) ?_
    exact h
  · refine State.inject_fr (Fr.sub hm rfl) ?_
    exact h

theorem State.runFltInjDry_fr {a1 a2 a3}
    (hm : 0x200002800000000000000800000000000000000000000000000000000000000000000000000000000 ||| m = m) (h : Fr m s₀ s) :
    Fr m s₀ (State.runFltInjDry s a1 a2 a3) := by
  unfold State.runFltInjDry
  refine Fr.ite ?_ ?_
  · refine State.reserved_fr (Fr.sub hm rfl) ?_
    exact h
  · refine State.inject_fr (Fr.sub hm rfl) ?_
    exact h

theorem State.endInjection_fr (hm : 0x2000000000000000810000000000000000000000000000000000000000000000000000000000 ||| m = m)
    (h : Fr m s₀ s) : Fr m s₀ (State.endInjection s) := by
  unfold State.endInjection
  extract_lets +onlyGivenNames x0
  have h1 : Fr m s₀ x0 := by
    unfold x0
    refine State.put_fr (Fr.sub hm rfl) (Fr.bit hm rfl) ?_
    refine State.put_fr (Fr.sub hm rfl) (Fr.bit hm rfl) ?_
    exact h
  clear_value x0
  extract_lets +onlyGivenNames x2
  clear_value x2
  refine State.setActive_fr (Fr.sub hm rfl) ?_
  refine Fr.set_flt (Fr.bit hm rfl) ?_
  exact h1

theorem State.runFltInjEnd_fr (hm : 0x2000000000000000810000000000000000000000000000000000000000000000000000000000 ||| m = m)
    (h : Fr m s₀ s) : Fr m s₀ (State.runFltInjEnd s) := by
  unfold State.runFltInjEnd
  refine Fr.ite ?_ ?_
  · exact h
  · refine State.endInjection_fr (Fr.sub hm rfl) ?_
    exact h

theorem State.runFltRgcmdRelease_fr {a1 a2}
    (hm : 0x2101f6c00000000000004010000000000000000000000000000001400802040280002000280000000 ||| m = m) (h : Fr m s₀ s) :
    Fr m s₀ (State.runFltRgcmdRelease s a1 a2) := by
  unfold State.runFltRgcmdRelease
  refine Fr.ite ?_ ?_
  · refine State.reserved_fr (Fr.sub hm rfl) ?_
    exact h
  · refine Fr.ite ?_ ?_
    · refine State.releaseGroup_fr (Fr.sub hm rfl) ?_
      exact h
    · refine State.flag_fr (Fr.sub hm rfl) (Fr.bit hm rfl) ?_
      exact h

theorem State.startTest_fr {a1 a2}
    (hm : 0x200002800000000000100000000000000000000000000000000000000000000000000000000000000 ||| m = m) (h : Fr m s₀ s) :
    Fr m s₀ (State.startTest s a1 a2) := by
  unfold State.startTest
  refine Fr.ite ?_ ?_
  · refine State.reserved_fr (Fr.sub hm rfl) ?_
    exact h
  · refine Fr.ite ?_ ?_
    · exact h
    · refine State.flag_fr (Fr.sub hm rfl) (Fr.bit hm rfl) ?_
      refine Fr.set_flt (Fr.bit hm rfl) ?_
      exact h

theorem State.runTstCmdSelfTestA_fr {a1}
    (hm : 0x200002800000000000100000000000000000000000000000000000000000000000000000000000000 ||| m = m) (h : Fr m s₀ s) :
    Fr m s₀ (State.runTstCmdSelfTestA s a1) := by
  unfold State.runTstCmdSelfTestA
  refine State.startTest_fr (Fr.sub hm rfl) ?_
  exact h

theorem State.runTstCmdSelfTestB_fr {a1}
    (hm : 0x200002800000000000100000000000000000000000000000000000000000000000000000000000000 ||| m = m) (h : Fr m s₀ s) :
    Fr m s₀ (State.runTstCmdSelfTestB s a1) := by
  unfold State.runTstCmdSelfTestB
  refine State.startTest_fr (Fr.sub hm rfl) ?_
  exact h

theorem State.runTstCmdCompareTest_fr {a1}
    (hm : 0x200002800000000000100000000000000000000000000000000000000000000000000000000000000 ||| m = m) (h : Fr m s₀ s) :
    Fr m s₀ (State.runTstCmdCompareTest s a1) := by
  unfold State.runTstCmdCompareTest
  refine State.startTest_fr (Fr.sub hm rfl) ?_
  exact h

theorem State.runTstCmdForcePathTest_fr {a1 a2}
    (hm : 0x200002800000000000100000000000000000000000000000000000000000000000000000000000000 ||| m = m) (h : Fr m s₀ s) :
    Fr m s₀ (State.runTstCmdForcePathTest s a1 a2) := by
  unfold State.runTstCmdForcePathTest
  refine Fr.ite ?_ ?_
  · refine State.reserved_fr (Fr.sub hm rfl) ?_
    exact h
  · refine State.startTest_fr (Fr.sub hm rfl) ?_
    exact h

theorem State.disagree_fr {a1 a2}
    (hm : 0x101f648000000001000401000000000000000000000000000000140080204028000200028000000a ||| m = m) (h : Fr m s₀ s) :
    Fr m s₀ (State.disagree s a1 a2) := by
  unfold State.disagree
  extract_lets +onlyGivenNames x0
  clear_value x0
  extract_lets +onlyGivenNames x1
  have h2 : Fr m s₀ x1 := by
    unfold x1
    refine Fr.set_flt (Fr.bit hm rfl) ?_
    exact h
  clear_value x1
  extract_lets +onlyGivenNames x3
  have h4 : Fr m s₀ x3 := by
    unfold x3
    refine State.flag_fr (Fr.sub hm rfl) (Fr.bit hm rfl) ?_
    refine State.hold_fr (Fr.sub hm rfl) ?_
    refine State.hold_fr (Fr.sub hm rfl) ?_
    exact h2
  clear_value x3
  refine State.forceReach_fr (Fr.sub hm rfl) ?_
  refine State.showForced_fr (Fr.sub hm rfl) ?_
  refine State.enterLimp_fr (Fr.sub hm rfl) ?_
  refine State.dropTwok_fr (Fr.sub hm rfl) ?_
  exact h4

theorem State.exchange_fr {a1 a2}
    (hm : 0x101f648000000001010401000000000000000000000000000000140080204028000200028000000a ||| m = m) (h : Fr m s₀ s) :
    Fr m s₀ (State.exchange s a1 a2) := by
  unfold State.exchange
  refine Fr.ite ?_ ?_
  · exact h
  · split
    · refine Fr.set_flt (Fr.bit hm rfl) ?_
      exact h
    · refine Fr.set_flt (Fr.bit hm rfl) ?_
      exact h
    · extract_lets +onlyGivenNames x0
      clear_value x0
      extract_lets +onlyGivenNames x1
      have h2 : Fr m s₀ x1 := by
        unfold x1
        refine State.count_fr (Fr.sub hm rfl) (Fr.bit hm rfl) ?_
        refine Fr.set_flt (Fr.bit hm rfl) ?_
        exact h
      clear_value x1
      refine Fr.ite ?_ ?_
      · refine State.loseHalf_fr (Fr.sub hm rfl) ?_
        exact h2
      · exact h2
    · extract_lets +onlyGivenNames x3
      clear_value x3
      extract_lets +onlyGivenNames x4
      have h5 : Fr m s₀ x4 := by
        unfold x4
        refine State.count_fr (Fr.sub hm rfl) (Fr.bit hm rfl) ?_
        refine Fr.set_flt (Fr.bit hm rfl) ?_
        exact h
      clear_value x4
      refine Fr.ite ?_ ?_
      · refine State.loseHalf_fr (Fr.sub hm rfl) ?_
        exact h5
      · exact h5

theorem State.logOne_fr (hm : 0x40002010000000000000040000000000000000000000000000000000000000000000000000000000 ||| m = m) (h :
    Fr m s₀ s) : Fr m s₀ (State.logOne s) := by
  unfold State.logOne
  split
  · exact h
  · extract_lets +onlyGivenNames x0
    clear_value x0
    extract_lets +onlyGivenNames x1
    clear_value x1
    extract_lets +onlyGivenNames x2
    have h3 : Fr m s₀ x2 := by
      unfold x2
      refine Fr.set_flt (Fr.bit hm rfl) ?_
      exact h
    clear_value x2
    extract_lets +onlyGivenNames x4
    have h5 : Fr m s₀ x4 := by
      unfold x4
      refine State.setWord_fr (Fr.sub hm rfl) ?_
      refine State.setWord_fr (Fr.sub hm rfl) ?_
      exact h3
    clear_value x4
    extract_lets +onlyGivenNames x6
    have h7 : Fr m s₀ x6 := by
      unfold x6
      refine State.wrap_fr (Fr.sub hm rfl) (Fr.bit hm rfl) ?_
      exact h5
    clear_value x6
    refine Fr.ite ?_ ?_
    · refine State.twinSend_fr (Fr.sub hm rfl) ?_
      exact h7
    · exact h7

theorem execFaultReport_fr {a0} {t}
    (hm : 0x521f6c8000000001000499000000000000002000092001000000140080204028000200028000000a ||| m = m) (h : Fr m s₀ s)
    (e : execFaultReport a0 s = .next t) : Fr m s₀ t := by
  unfold execFaultReport at e
  cases e
  refine State.ship_fr (Fr.sub hm rfl) ?_
  refine Fr.ite ?_ ?_
  · exact h
  · extract_lets +onlyGivenNames x0
    clear_value x0
    extract_lets +onlyGivenNames x1
    clear_value x1
    extract_lets +onlyGivenNames x2
    clear_value x2
    extract_lets +onlyGivenNames x3
    clear_value x3
    extract_lets +onlyGivenNames x4
    clear_value x4
    extract_lets +onlyGivenNames x5
    clear_value x5
    extract_lets +onlyGivenNames x6
    have h7 : Fr m s₀ x6 := by
      unfold x6
      refine Fr.set_flt (Fr.bit hm rfl) ?_
      exact h
    clear_value x6
    refine Fr.forEach ?_ ?_
    · intro h8 s9 h10
      refine State.classify_fr (Fr.sub hm rfl) ?_
      exact h10
    · exact h7

theorem execReactionSequenceEnd_fr {a0} {t}
    (hm : 0x40000000000000000004000000000000000000000000000000000000000000000000000000000000 ||| m = m) (h : Fr m s₀ s)
    (e : execReactionSequenceEnd a0 s = .next t) : Fr m s₀ t := by
  unfold execReactionSequenceEnd at e
  cases e
  refine State.ship_fr (Fr.sub hm rfl) ?_
  refine Fr.ite ?_ ?_
  · refine State.flag_fr (Fr.sub hm rfl) (Fr.bit hm rfl) ?_
    refine State.flag_fr (Fr.sub hm rfl) (Fr.bit hm rfl) ?_
    exact h
  · exact h

theorem execShadowWindowEnd_fr {a0} {t}
    (hm : 0x40000000000000000004000000000000000000000000000000000000000000000000000000000000 ||| m = m) (h : Fr m s₀ s)
    (e : execShadowWindowEnd a0 s = .next t) : Fr m s₀ t := by
  unfold execShadowWindowEnd at e
  cases e
  refine State.ship_fr (Fr.sub hm rfl) ?_
  refine Fr.ite ?_ ?_
  · refine State.flag_fr (Fr.sub hm rfl) (Fr.bit hm rfl) ?_
    exact h
  · exact h

theorem execSourceActivityExpiry_fr {a0} {t}
    (hm : 0x40002000000000000000010000000000000000000000000000000000000000000000000000000000 ||| m = m) (h : Fr m s₀ s)
    (e : execSourceActivityExpiry a0 s = .next t) : Fr m s₀ t := by
  unfold execSourceActivityExpiry at e
  cases e
  refine State.ship_fr (Fr.sub hm rfl) ?_
  refine State.setActive_fr (Fr.sub hm rfl) ?_
  exact h

theorem execLogWrite_fr {t}
    (hm : 0x40002010000000000000040000000000000000000000000000000000000000000000000000000000 ||| m = m) (h : Fr m s₀ s)
    (e : execLogWrite s = .next t) : Fr m s₀ t := by
  unfold execLogWrite at e
  cases e
  refine State.ship_fr (Fr.sub hm rfl) ?_
  refine Fr.ite ?_ ?_
  · refine State.logOne_fr (Fr.sub hm rfl) ?_
    exact h
  · exact h

theorem execLogBufferFlush_fr {t}
    (hm : 0x40002010000000000000040000000000000000000000000000000000000000000000000000000000 ||| m = m) (h : Fr m s₀ s)
    (e : execLogBufferFlush s = .next t) : Fr m s₀ t := by
  unfold execLogBufferFlush at e
  cases e
  refine State.ship_fr (Fr.sub hm rfl) ?_
  refine Fr.ite ?_ ?_
  · refine Fr.forEach ?_ ?_
    · intro h0 s1 h2
      refine State.logOne_fr (Fr.sub hm rfl) ?_
      exact h2
    · exact h
  · exact h

theorem execFltRgcmdRelease_fr {a0 a1} {t}
    (hm : 0x2501f6c00000000000004010000000000000000000000000000001400802040280002000280000000 ||| m = m) (h : Fr m s₀ s)
    (e : execFltRgcmdRelease a0 a1 s = .next t) : Fr m s₀ t := by
  unfold execFltRgcmdRelease at e
  cases e
  refine State.ship_fr (Fr.sub hm rfl) ?_
  refine State.asWho_fr (Fr.sub hm rfl) ?_ ?_
  · intro s0 h1
    refine State.runFltRgcmdRelease_fr (Fr.sub hm rfl) ?_
    exact h1
  · exact h

theorem execGroupAutoRelease_fr {a0} {t}
    (hm : 0x501f6400000000000004010000000000000000000000000000001400802040280002000280000000 ||| m = m) (h : Fr m s₀ s)
    (e : execGroupAutoRelease a0 s = .next t) : Fr m s₀ t := by
  unfold execGroupAutoRelease at e
  cases e
  refine State.ship_fr (Fr.sub hm rfl) ?_
  refine Fr.ite ?_ ?_
  · refine State.releaseGroup_fr (Fr.sub hm rfl) ?_
    exact h
  · exact h

theorem execFltAttnAck_fr {a0} {t}
    (hm : 0x240000800000000000000100000000000000000000000000000000000000000000000000000000000 ||| m = m) (h : Fr m s₀ s)
    (e : execFltAttnAck a0 s = .next t) : Fr m s₀ t := by
  unfold execFltAttnAck at e
  cases e
  refine State.ship_fr (Fr.sub hm rfl) ?_
  refine State.unsealed_fr (Fr.sub hm rfl) ?_ ?_
  · intro s0 h1
    refine State.runFltAttnAck_fr (Fr.sub hm rfl) ?_
    exact h1
  · exact h

theorem execFltCmdClrlog_fr {a0} {t}
    (hm : 0x240000810000000000000040000000000000000000000000000000000000000000000000000000000 ||| m = m) (h : Fr m s₀ s)
    (e : execFltCmdClrlog a0 s = .next t) : Fr m s₀ t := by
  unfold execFltCmdClrlog at e
  cases e
  refine State.ship_fr (Fr.sub hm rfl) ?_
  refine State.asWho_fr (Fr.sub hm rfl) ?_ ?_
  · intro s0 h1
    refine State.runFltCmdClrlog_fr (Fr.sub hm rfl) ?_
    exact h1
  · exact h

theorem execFltCmdClrlost_fr {t}
    (hm : 0x240000800000000000000080000000000000000000000000000000000000000000000000000000000 ||| m = m) (h : Fr m s₀ s)
    (e : execFltCmdClrlost s = .next t) : Fr m s₀ t := by
  unfold execFltCmdClrlost at e
  cases e
  refine State.ship_fr (Fr.sub hm rfl) ?_
  refine State.unsealed_fr (Fr.sub hm rfl) ?_ ?_
  · intro s0 h1
    refine State.runFltCmdClrlost_fr (Fr.sub hm rfl) ?_
    exact h1
  · exact h

theorem execFltInjLive_fr {a0 a1 a2} {t}
    (hm : 0x240002800000000000000800000000000000000000000000000000000000000000000000000000000 ||| m = m) (h : Fr m s₀ s)
    (e : execFltInjLive a0 a1 a2 s = .next t) : Fr m s₀ t := by
  unfold execFltInjLive at e
  cases e
  refine State.ship_fr (Fr.sub hm rfl) ?_
  refine State.asWho_fr (Fr.sub hm rfl) ?_ ?_
  · intro s0 h1
    refine State.runFltInjLive_fr (Fr.sub hm rfl) ?_
    exact h1
  · exact h

theorem execFltInjDry_fr {a0 a1 a2} {t}
    (hm : 0x240002800000000000000800000000000000000000000000000000000000000000000000000000000 ||| m = m) (h : Fr m s₀ s)
    (e : execFltInjDry a0 a1 a2 s = .next t) : Fr m s₀ t := by
  unfold execFltInjDry at e
  cases e
  refine State.ship_fr (Fr.sub hm rfl) ?_
  refine State.asWho_fr (Fr.sub hm rfl) ?_ ?_
  · intro s0 h1
    refine State.runFltInjDry_fr (Fr.sub hm rfl) ?_
    exact h1
  · exact h

theorem execFltInjEnd_fr {t}
    (hm : 0x240002800000000000000810000000000000000000000000000000000000000000000000000000000 ||| m = m) (h : Fr m s₀ s)
    (e : execFltInjEnd s = .next t) : Fr m s₀ t := by
  unfold execFltInjEnd at e
  cases e
  refine State.ship_fr (Fr.sub hm rfl) ?_
  refine State.unsealed_fr (Fr.sub hm rfl) ?_ ?_
  · intro s0 h1
    refine State.runFltInjEnd_fr (Fr.sub hm rfl) ?_
    exact h1
  · exact h

theorem execInjectionExpiry_fr {t}
    (hm : 0x40002000000000000000810000000000000000000000000000000000000000000000000000000000 ||| m = m) (h : Fr m s₀ s)
    (e : execInjectionExpiry s = .next t) : Fr m s₀ t := by
  unfold execInjectionExpiry at e
  cases e
  refine State.ship_fr (Fr.sub hm rfl) ?_
  refine Fr.ite ?_ ?_
  · exact h
  · refine State.endInjection_fr (Fr.sub hm rfl) ?_
    exact h

theorem execDigestExchange_fr {a0 a1 a2 a3} {t}
    (hm : 0x501f648000000001010401000000000000000000000000000000140080204028000200028000000a ||| m = m) (h : Fr m s₀ s)
    (e : execDigestExchange a0 a1 a2 a3 s = .next t) : Fr m s₀ t := by
  unfold execDigestExchange at e
  cases e
  refine State.ship_fr (Fr.sub hm rfl) ?_
  extract_lets +onlyGivenNames x0
  have h1 : Fr m s₀ x0 := by
    unfold x0
    refine State.exchange_fr (Fr.sub hm rfl) ?_
    refine State.exchange_fr (Fr.sub hm rfl) ?_
    exact h
  clear_value x0
  refine Fr.ite ?_ ?_
  · refine State.disagree_fr (Fr.sub hm rfl) ?_
    exact h1
  · exact h1

theorem execSelfTestCycle_fr {a0 a1} {t}
    (hm : 0xededf7f91ffffffffffffffffffffffffffffffffffffffffffffffffffffffffffffffffffffffff ||| m = m) (h : Fr m s₀ s)
    (e : execSelfTestCycle a0 a1 s = .next t) : Fr m s₀ t := by
  unfold execSelfTestCycle at e
  cases e
  refine State.ship_fr (Fr.sub hm rfl) ?_
  refine Fr.ite ?_ ?_
  · exact h
  · refine Fr.ite ?_ ?_
    · refine State.wrap_fr (Fr.sub hm rfl) (Fr.bit hm rfl) ?_
      exact h
    · refine State.failHalf_fr (Fr.sub hm rfl) ?_
      refine State.put_fr (Fr.sub hm rfl) (Fr.bit hm rfl) ?_
      exact h

theorem execTstCmdSelfTestA_fr {a0} {t}
    (hm : 0x240002800000000000100000000000000000000000000000000000000000000000000000000000000 ||| m = m) (h : Fr m s₀ s)
    (e : execTstCmdSelfTestA a0 s = .next t) : Fr m s₀ t := by
  unfold execTstCmdSelfTestA at e
  cases e
  refine State.ship_fr (Fr.sub hm rfl) ?_
  refine State.asWho_fr (Fr.sub hm rfl) ?_ ?_
  · intro s0 h1
    refine State.runTstCmdSelfTestA_fr (Fr.sub hm rfl) ?_
    exact h1
  · exact h

theorem execTstCmdSelfTestB_fr {a0} {t}
    (hm : 0x240002800000000000100000000000000000000000000000000000000000000000000000000000000 ||| m = m) (h : Fr m s₀ s)
    (e : execTstCmdSelfTestB a0 s = .next t) : Fr m s₀ t := by
  unfold execTstCmdSelfTestB at e
  cases e
  refine State.ship_fr (Fr.sub hm rfl) ?_
  refine State.asWho_fr (Fr.sub hm rfl) ?_ ?_
  · intro s0 h1
    refine State.runTstCmdSelfTestB_fr (Fr.sub hm rfl) ?_
    exact h1
  · exact h

theorem execTstCmdCompareTest_fr {a0} {t}
    (hm : 0x240002800000000000100000000000000000000000000000000000000000000000000000000000000 ||| m = m) (h : Fr m s₀ s)
    (e : execTstCmdCompareTest a0 s = .next t) : Fr m s₀ t := by
  unfold execTstCmdCompareTest at e
  cases e
  refine State.ship_fr (Fr.sub hm rfl) ?_
  refine State.asWho_fr (Fr.sub hm rfl) ?_ ?_
  · intro s0 h1
    refine State.runTstCmdCompareTest_fr (Fr.sub hm rfl) ?_
    exact h1
  · exact h

theorem execTstCmdForcePathTest_fr {a0 a1} {t}
    (hm : 0x240002800000000000100000000000000000000000000000000000000000000000000000000000000 ||| m = m) (h : Fr m s₀ s)
    (e : execTstCmdForcePathTest a0 a1 s = .next t) : Fr m s₀ t := by
  unfold execTstCmdForcePathTest at e
  cases e
  refine State.ship_fr (Fr.sub hm rfl) ?_
  refine State.asWho_fr (Fr.sub hm rfl) ?_ ?_
  · intro s0 h1
    refine State.runTstCmdForcePathTest_fr (Fr.sub hm rfl) ?_
    exact h1
  · exact h

theorem execTestComplete_fr {a0} {t}
    (hm : 0xededf7f91ffffffffffffffffffffffffffffffffffffffffffffffffffffffffffffffffffffffff ||| m = m) (h : Fr m s₀ s)
    (e : execTestComplete a0 s = .next t) : Fr m s₀ t := by
  unfold execTestComplete at e
  cases e
  refine State.ship_fr (Fr.sub hm rfl) ?_
  refine Fr.ite ?_ ?_
  · exact h
  · extract_lets +onlyGivenNames x0
    clear_value x0
    extract_lets +onlyGivenNames x1
    clear_value x1
    extract_lets +onlyGivenNames x2
    have h3 : Fr m s₀ x2 := by
      unfold x2
      refine State.flag_fr (Fr.sub hm rfl) (Fr.bit hm rfl) ?_
      refine Fr.set_flt (Fr.bit hm rfl) ?_
      exact h
    clear_value x2
    extract_lets +onlyGivenNames x4
    have h5 : Fr m s₀ x4 := by
      unfold x4
      refine State.put_fr (Fr.sub hm rfl) (Fr.bit hm rfl) ?_
      exact h3
    clear_value x4
    split
    · extract_lets +onlyGivenNames x6
      have h7 : Fr m s₀ x6 := by
        unfold x6
        refine State.put_fr (Fr.sub hm rfl) (Fr.bit hm rfl) ?_
        exact h5
      clear_value x6
      refine Fr.ite ?_ ?_
      · refine State.failHalf_fr (Fr.sub hm rfl) ?_
        exact h7
      · exact h7
    · extract_lets +onlyGivenNames x8
      have h9 : Fr m s₀ x8 := by
        unfold x8
        refine State.put_fr (Fr.sub hm rfl) (Fr.bit hm rfl) ?_
        exact h5
      clear_value x8
      refine Fr.ite ?_ ?_
      · refine State.failHalf_fr (Fr.sub hm rfl) ?_
        exact h9
      · exact h9
    · refine State.put_fr (Fr.sub hm rfl) (Fr.bit hm rfl) ?_
      exact h5

end Sys2Proof.Machine
end

