-- ==== Sys2Proof/Laws/FrameHbr.lean ====
section
/-! SUPPORT. Frames (Laws/Frame.lean) of the functions of Machine/Hbr.lean: one lemma for each, which says by its mask which
registers and which parts of the state the function may change. -/

namespace Sys2Proof.Machine

variable {m : Nat} {s₀ s : State}

theorem State.runHbrTgtWrite_fr {a1 a2 a3}
    (hm : 0x212020c000000000000000000000000000000200009200100000000000000002c0000000280000000 ||| m = m) (h : Fr m s₀ s) :
    Fr m s₀ (State.runHbrTgtWrite s a1 a2 a3) := by
  unfold State.runHbrTgtWrite
  refine Fr.ite ?_ ?_
  · refine State.reserved_fr (Fr.sub hm rfl) ?_
    exact h
  · refine State.accept_fr (Fr.sub hm rfl) ?_ ?_
    · intro s0 h1
      extract_lets +onlyGivenNames x2
      have h3 : Fr m s₀ x2 := by
        unfold x2
        refine State.storeWrite_fr (Fr.sub hm rfl) (Fr.reg .HBR_TGT hm rfl) ?_
        exact h1
      clear_value x2
      refine Fr.ite ?_ ?_
      · refine State.hbrStop_fr (Fr.sub hm rfl) ?_
        exact h3
      · exact h3
    · exact h

theorem State.runHbrPosset_fr {a1 a2 a3}
    (hm : 0x200000800000000000000000000000000000000000000000000000000000000280000000000000000 ||| m = m) (h : Fr m s₀ s) :
    Fr m s₀ (State.runHbrPosset s a1 a2 a3) := by
  unfold State.runHbrPosset
  refine Fr.ite ?_ ?_
  · refine State.reserved_fr (Fr.sub hm rfl) ?_
    exact h
  · refine State.accept_fr (Fr.sub hm rfl) ?_ ?_
    · intro s0 h1
      refine State.flag_fr (Fr.sub hm rfl) (Fr.bit hm rfl) ?_
      refine State.put_fr (Fr.sub hm rfl) (Fr.bit hm rfl) ?_
      exact h1
    · exact h

theorem State.runHbrSflt_fr {a1 a2 a3}
    (hm : 0x200002800000000000000000000000000000000000000000000000000000000080000000000000000 ||| m = m) (h : Fr m s₀ s) :
    Fr m s₀ (State.runHbrSflt s a1 a2 a3) := by
  unfold State.runHbrSflt
  refine Fr.ite ?_ ?_
  · refine State.reserved_fr (Fr.sub hm rfl) ?_
    exact h
  · split
    · refine State.accept_fr (Fr.sub hm rfl) ?_ ?_
      · intro s0 h1
        refine State.raise_fr (Fr.sub hm rfl) ?_
        exact h1
      · exact h
    · refine Fr.ite ?_ ?_
      · refine State.flag_fr (Fr.sub hm rfl) (Fr.bit hm rfl) ?_
        exact h
      · refine State.accept_fr (Fr.sub hm rfl) ?_ ?_
        · intro s2 h3
          refine State.raise_fr (Fr.sub hm rfl) ?_
          exact h3
        · exact h

theorem State.runHbrClrStop_fr {a1 a2}
    (hm : 0x200020800000000000000000000000000000000000000000000000000000000280000000000000000 ||| m = m) (h : Fr m s₀ s) :
    Fr m s₀ (State.runHbrClrStop s a1 a2) := by
  unfold State.runHbrClrStop
  refine Fr.ite ?_ ?_
  · refine State.reserved_fr (Fr.sub hm rfl) ?_
    exact h
  · refine Fr.ite ?_ ?_
    · refine State.hbrRelease_fr (Fr.sub hm rfl) ?_
      refine State.setBr_fr (Fr.sub hm rfl) ?_
      exact h
    · exact h

theorem State.runHbrClrTrip_fr {a1 a2}
    (hm : 0x2001f6800000000000000010000000000000000000000000000001400802040280002000000000000 ||| m = m) (h : Fr m s₀ s) :
    Fr m s₀ (State.runHbrClrTrip s a1 a2) := by
  unfold State.runHbrClrTrip
  refine Fr.ite ?_ ?_
  · refine State.clrTrip_fr (Fr.sub hm rfl) ?_
    exact h
  · refine State.reserved_fr (Fr.sub hm rfl) ?_
    exact h

theorem State.hbrMeas_fr {a1 a2} (hm : 0x100000000000000000 ||| m = m) (h : Fr m s₀ s) : Fr m s₀ (State.hbrMeas s a1 a2) := by
  unfold State.hbrMeas
  refine State.sput_fr (Fr.sub hm rfl) (Fr.bit hm rfl) ?_
  exact h

theorem State.pinchExceed_fr {a1}
    (hm : 0x12020c000000000000000000000000000000200009200100000000000000002c0000000280000000 ||| m = m) (h : Fr m s₀ s) :
    Fr m s₀ (State.pinchExceed s a1) := by
  unfold State.pinchExceed
  extract_lets +onlyGivenNames x0
  clear_value x0
  refine Fr.ite ?_ ?_
  · exact h
  · extract_lets +onlyGivenNames x1
    have h2 : Fr m s₀ x1 := by
      unfold x1
      refine State.setBr_fr (Fr.sub hm rfl) ?_
      exact h
    clear_value x1
    refine Fr.ite ?_ ?_
    · refine State.hbrStop_fr (Fr.sub hm rfl) ?_
      exact h2
    · exact h2

theorem State.stallRip_fr {a1} (hm : 0x80000000000000000 ||| m = m) (h : Fr m s₀ s) : Fr m s₀ (State.stallRip s a1) := by
  unfold State.stallRip
  refine Fr.ite ?_ ?_
  · refine State.flag_fr (Fr.sub hm rfl) (Fr.bit hm rfl) ?_
    exact h
  · exact h

theorem State.targetStop_fr {a1 a2}
    (hm : 0x12020c000000000000000000000000000000200009200100000000000000002c0000000280000000 ||| m = m) (h : Fr m s₀ s) :
    Fr m s₀ (State.targetStop s a1 a2) := by
  unfold State.targetStop
  extract_lets +onlyGivenNames x0
  clear_value x0
  refine Fr.ite ?_ ?_
  · refine State.hbrStop_fr (Fr.sub hm rfl) ?_
    exact h
  · exact h

theorem State.tfStep_fr {a1 a2}
    (hm : 0x20000000000000000000000000000000000000000000000000000000000200000000000000000 ||| m = m) (h : Fr m s₀ s) :
    Fr m s₀ (State.tfStep s a1 a2) := by
  unfold State.tfStep
  extract_lets +onlyGivenNames x0
  clear_value x0
  extract_lets +onlyGivenNames x1
  clear_value x1
  extract_lets +onlyGivenNames x2
  clear_value x2
  refine State.put_fr (Fr.sub hm rfl) (Fr.bit hm rfl) ?_
  refine State.setBr_fr (Fr.sub hm rfl) ?_
  exact h

theorem execBridgeCommandChange_fr {a0} {t}
    (hm : 0x401f6000000000000000010000000000000000000000000000001400802040280002000000000000 ||| m = m) (h : Fr m s₀ s)
    (e : execBridgeCommandChange a0 s = .next t) : Fr m s₀ t := by
  unfold execBridgeCommandChange at e
  cases e
  refine State.ship_fr (Fr.sub hm rfl) ?_
  refine Fr.ite ?_ ?_
  · exact h
  · extract_lets +onlyGivenNames x0
    have h1 : Fr m s₀ x0 := by
      unfold x0
      refine State.hbrShow_fr (Fr.sub hm rfl) ?_
      exact h
    clear_value x0
    extract_lets +onlyGivenNames x2
    clear_value x2
    split
    · refine State.hbrFollow_fr (Fr.sub hm rfl) ?_
      exact h1
    · refine Fr.ite ?_ ?_
      · refine State.hbrIdle_fr (Fr.sub hm rfl) ?_
        exact h1
      · refine Fr.ite ?_ ?_
        · refine Fr.ite ?_ ?_
          · refine State.hbrSteer_fr (Fr.sub hm rfl) ?_
            exact h1
          · exact h1
        · refine Fr.ite ?_ ?_
          · exact h1
          · refine State.hbrSteer_fr (Fr.sub hm rfl) ?_
            exact h1
    · refine Fr.ite ?_ ?_
      · refine State.hbrIdle_fr (Fr.sub hm rfl) ?_
        exact h1
      · refine Fr.ite ?_ ?_
        · refine Fr.ite ?_ ?_
          · refine State.hbrSteer_fr (Fr.sub hm rfl) ?_
            exact h1
          · exact h1
        · refine Fr.ite ?_ ?_
          · exact h1
          · refine State.hbrSteer_fr (Fr.sub hm rfl) ?_
            exact h1
    · refine State.hbrRelease_fr (Fr.sub hm rfl) ?_
      exact h1
    · refine State.tryRecover_fr (Fr.sub hm rfl) ?_
      exact h1

theorem execReversalBrakeEnd_fr {a0} {t}
    (hm : 0x40020000000000000000000000000000000000000000000000000000000000280000000000000000 ||| m = m) (h : Fr m s₀ s)
    (e : execReversalBrakeEnd a0 s = .next t) : Fr m s₀ t := by
  unfold execReversalBrakeEnd at e
  cases e
  refine State.ship_fr (Fr.sub hm rfl) ?_
  extract_lets +onlyGivenNames x0
  clear_value x0
  refine Fr.ite ?_ ?_
  · extract_lets +onlyGivenNames x1
    have h2 : Fr m s₀ x1 := by
      unfold x1
      refine State.setBr_fr (Fr.sub hm rfl) ?_
      exact h
    clear_value x1
    refine Fr.ite ?_ ?_
    · refine State.hbrSteer_fr (Fr.sub hm rfl) ?_
      exact h2
    · exact h2
  · exact h

theorem execBridgeCycleLimit_fr {a0 a1} {t}
    (hm : 0x40020000000000000000000000000000000000000000000000000000000000280000000000000000 ||| m = m) (h : Fr m s₀ s)
    (e : execBridgeCycleLimit a0 a1 s = .next t) : Fr m s₀ t := by
  unfold execBridgeCycleLimit at e
  cases e
  refine State.ship_fr (Fr.sub hm rfl) ?_
  extract_lets +onlyGivenNames x0
  clear_value x0
  refine Fr.ite ?_ ?_
  · extract_lets +onlyGivenNames x1
    have h2 : Fr m s₀ x1 := by
      unfold x1
      refine State.hbrMode_fr (Fr.sub hm rfl) ?_
      refine State.setHb_fr (Fr.sub hm rfl) ?_
      exact h
    clear_value x1
    refine State.setBr_fr (Fr.sub hm rfl) ?_
    exact h2
  · exact h

theorem execCycleLimitEnd_fr {a0} {t}
    (hm : 0x40020000000000000000000000000000000000000000000000000000000000280000000000000000 ||| m = m) (h : Fr m s₀ s)
    (e : execCycleLimitEnd a0 s = .next t) : Fr m s₀ t := by
  unfold execCycleLimitEnd at e
  cases e
  refine State.ship_fr (Fr.sub hm rfl) ?_
  refine Fr.ite ?_ ?_
  · refine State.hbrMode_fr (Fr.sub hm rfl) ?_
    exact h
  · exact h

theorem execBridgeTlimExpiry_fr {a0 a1} {t}
    (hm : 0x521f6c00000000000000010000000000000020000920010000000400802040280002000280000000 ||| m = m) (h : Fr m s₀ s)
    (e : execBridgeTlimExpiry a0 a1 s = .next t) : Fr m s₀ t := by
  unfold execBridgeTlimExpiry at e
  cases e
  refine State.ship_fr (Fr.sub hm rfl) ?_
  extract_lets +onlyGivenNames x0
  clear_value x0
  refine Fr.ite ?_ ?_
  · refine State.trip_fr (Fr.sub hm rfl) ?_
    refine State.flag_fr (Fr.sub hm rfl) (Fr.bit hm rfl) ?_
    exact h
  · exact h

theorem execBrakeOvercurrent_fr {a0 a1} {t}
    (hm : 0x40020000000000000000000000000000000000000000000000000000000000000000000000000000 ||| m = m) (h : Fr m s₀ s)
    (e : execBrakeOvercurrent a0 a1 s = .next t) : Fr m s₀ t := by
  unfold execBrakeOvercurrent at e
  cases e
  refine State.ship_fr (Fr.sub hm rfl) ?_
  extract_lets +onlyGivenNames x0
  clear_value x0
  extract_lets +onlyGivenNames x1
  clear_value x1
  extract_lets +onlyGivenNames x2
  clear_value x2
  refine Fr.ite ?_ ?_
  · exact h
  · refine Fr.ite ?_ ?_
    · refine State.setBr_fr (Fr.sub hm rfl) ?_
      exact h
    · refine Fr.ite ?_ ?_
      · refine State.setBr_fr (Fr.sub hm rfl) ?_
        exact h
      · exact h

theorem execBridgeShortCut_fr {a0 a1 a2} {t}
    (hm : 0x521f6c00000000000000010000000000000020000920010000000400802040280002000280000000 ||| m = m) (h : Fr m s₀ s)
    (e : execBridgeShortCut a0 a1 a2 s = .next t) : Fr m s₀ t := by
  unfold execBridgeShortCut at e
  cases e
  refine State.ship_fr (Fr.sub hm rfl) ?_
  extract_lets +onlyGivenNames x0
  clear_value x0
  extract_lets +onlyGivenNames x1
  clear_value x1
  refine Fr.ite ?_ ?_
  · extract_lets +onlyGivenNames x2
    clear_value x2
    refine State.trip_fr (Fr.sub hm rfl) ?_
    refine State.flag_fr (Fr.sub hm rfl) (Fr.bit hm rfl) ?_
    exact h
  · exact h

theorem execBridgeOpenLoad_fr {a0 a1} {t}
    (hm : 0x52002c00000000000000010000000000000020000920010000000000000000180000000280000000 ||| m = m) (h : Fr m s₀ s)
    (e : execBridgeOpenLoad a0 a1 s = .next t) : Fr m s₀ t := by
  unfold execBridgeOpenLoad at e
  cases e
  refine State.ship_fr (Fr.sub hm rfl) ?_
  extract_lets +onlyGivenNames x0
  clear_value x0
  extract_lets +onlyGivenNames x1
  clear_value x1
  refine Fr.ite ?_ ?_
  · extract_lets +onlyGivenNames x2
    have h3 : Fr m s₀ x2 := by
      unfold x2
      refine State.hbrMeas_fr (Fr.sub hm rfl) ?_
      exact h
    clear_value x2
    extract_lets +onlyGivenNames x4
    clear_value x4
    extract_lets +onlyGivenNames x5
    clear_value x5
    refine Fr.ite ?_ ?_
    · exact h3
    · extract_lets +onlyGivenNames x6
      have h7 : Fr m s₀ x6 := by
        unfold x6
        refine State.put_fr (Fr.sub hm rfl) (Fr.bit hm rfl) ?_
        exact h3
      clear_value x6
      extract_lets +onlyGivenNames x8
      have h9 : Fr m s₀ x8 := by
        unfold x8
        refine Fr.ite ?_ ?_
        · refine State.hold_fr (Fr.sub hm rfl) ?_
          exact h7
        · refine State.clearSrc_fr (Fr.sub hm rfl) ?_
          exact h7
      clear_value x8
      refine State.hbrEvent_fr (Fr.sub hm rfl) ?_
      exact h9
  · exact h

theorem execPositionCount_fr {a0 a1 a2 a3 a4 a5} {t}
    (hm : 0x52020c000000000000000000000000000000200009200100000000000000003c0000000280000000 ||| m = m) (h : Fr m s₀ s)
    (e : execPositionCount a0 a1 a2 a3 a4 a5 s = .next t) : Fr m s₀ t := by
  unfold execPositionCount at e
  cases e
  refine State.ship_fr (Fr.sub hm rfl) ?_
  extract_lets +onlyGivenNames x0
  clear_value x0
  extract_lets +onlyGivenNames x1
  clear_value x1
  refine Fr.ite ?_ ?_
  · exact h
  · extract_lets +onlyGivenNames x2
    clear_value x2
    extract_lets +onlyGivenNames x3
    clear_value x3
    extract_lets +onlyGivenNames x4
    have h5 : Fr m s₀ x4 := by
      unfold x4
      refine Fr.ite ?_ ?_
      · refine State.flag_fr (Fr.sub hm rfl) (Fr.bit hm rfl) ?_
        refine State.setBr_fr (Fr.sub hm rfl) ?_
        refine State.hbrMeas_fr (Fr.sub hm rfl) ?_
        exact h
      · exact h
    clear_value x4
    refine Fr.ite ?_ ?_
    · exact h5
    · extract_lets +onlyGivenNames x6
      clear_value x6
      extract_lets +onlyGivenNames x7
      clear_value x7
      extract_lets +onlyGivenNames x8
      have h9 : Fr m s₀ x8 := by
        unfold x8
        refine State.setBr_fr (Fr.sub hm rfl) ?_
        exact h5
      clear_value x8
      extract_lets +onlyGivenNames x10
      have h11 : Fr m s₀ x10 := by
        unfold x10
        refine Fr.ite ?_ ?_
        · refine State.pinchExceed_fr (Fr.sub hm rfl) ?_
          exact h9
        · exact h9
      clear_value x10
      extract_lets +onlyGivenNames x12
      have h13 : Fr m s₀ x12 := by
        unfold x12
        refine State.tfStep_fr (Fr.sub hm rfl) ?_
        exact h11
      clear_value x12
      extract_lets +onlyGivenNames x14
      clear_value x14
      extract_lets +onlyGivenNames x15
      have h16 : Fr m s₀ x15 := by
        unfold x15
        refine State.setBr_fr (Fr.sub hm rfl) ?_
        exact h13
      clear_value x15
      extract_lets +onlyGivenNames x17
      clear_value x17
      refine State.targetStop_fr (Fr.sub hm rfl) ?_
      refine State.posMove_fr (Fr.sub hm rfl) ?_
      exact h16

theorem execPositionError_fr {a0 a1} {t}
    (hm : 0x52022c00000000000000000000000000000020000920010000000000000000080000000280000000 ||| m = m) (h : Fr m s₀ s)
    (e : execPositionError a0 a1 s = .next t) : Fr m s₀ t := by
  unfold execPositionError at e
  cases e
  refine State.ship_fr (Fr.sub hm rfl) ?_
  extract_lets +onlyGivenNames x0
  clear_value x0
  extract_lets +onlyGivenNames x1
  clear_value x1
  refine Fr.ite ?_ ?_
  · extract_lets +onlyGivenNames x2
    clear_value x2
    extract_lets +onlyGivenNames x3
    have h4 : Fr m s₀ x3 := by
      unfold x3
      refine State.setBr_fr (Fr.sub hm rfl) ?_
      exact h
    clear_value x3
    extract_lets +onlyGivenNames x5
    have h6 : Fr m s₀ x5 := by
      unfold x5
      refine Fr.ite ?_ ?_
      · refine State.flag_fr (Fr.sub hm rfl) (Fr.bit hm rfl) ?_
        exact h4
      · exact h4
    clear_value x5
    extract_lets +onlyGivenNames x7
    have h8 : Fr m s₀ x7 := by
      unfold x7
      refine State.flag_fr (Fr.sub hm rfl) (Fr.bit hm rfl) ?_
      refine State.flag_fr (Fr.sub hm rfl) (Fr.bit hm rfl) ?_
      exact h6
    clear_value x7
    refine State.hbrEvent_fr (Fr.sub hm rfl) ?_
    refine State.raise_fr (Fr.sub hm rfl) ?_
    exact h8
  · exact h

theorem execPinchPeriodExceeded_fr {a0} {t}
    (hm : 0x52020c000000000000000000000000000000200009200100000000000000002c0000000280000000 ||| m = m) (h : Fr m s₀ s)
    (e : execPinchPeriodExceeded a0 s = .next t) : Fr m s₀ t := by
  unfold execPinchPeriodExceeded at e
  cases e
  refine State.ship_fr (Fr.sub hm rfl) ?_
  refine Fr.ite ?_ ?_
  · refine State.pinchExceed_fr (Fr.sub hm rfl) ?_
    exact h
  · exact h

theorem execStallDetected_fr {a0 a1} {t}
    (hm : 0x52022c000000000000000000000000000000200009200100000000000000002c0000000280000000 ||| m = m) (h : Fr m s₀ s)
    (e : execStallDetected a0 a1 s = .next t) : Fr m s₀ t := by
  unfold execStallDetected at e
  cases e
  refine State.ship_fr (Fr.sub hm rfl) ?_
  extract_lets +onlyGivenNames x0
  clear_value x0
  refine Fr.ite ?_ ?_
  · extract_lets +onlyGivenNames x1
    clear_value x1
    extract_lets +onlyGivenNames x2
    have h3 : Fr m s₀ x2 := by
      unfold x2
      refine State.stallRip_fr (Fr.sub hm rfl) ?_
      exact h
    clear_value x2
    extract_lets +onlyGivenNames x4
    have h5 : Fr m s₀ x4 := by
      unfold x4
      refine Fr.ite ?_ ?_
      · refine State.raise_fr (Fr.sub hm rfl) ?_
        exact h3
      · exact h3
    clear_value x4
    refine State.hbrStop_fr (Fr.sub hm rfl) ?_
    exact h5
  · exact h

theorem execTstopbrkExpiry_fr {a0} {t}
    (hm : 0x40020000000000000000000000000000000000000000000000000000000000280000000000000000 ||| m = m) (h : Fr m s₀ s)
    (e : execTstopbrkExpiry a0 s = .next t) : Fr m s₀ t := by
  unfold execTstopbrkExpiry at e
  cases e
  refine State.ship_fr (Fr.sub hm rfl) ?_
  extract_lets +onlyGivenNames x0
  clear_value x0
  refine Fr.ite ?_ ?_
  · extract_lets +onlyGivenNames x1
    clear_value x1
    refine State.hbrRelease_fr (Fr.sub hm rfl) ?_
    refine State.setBr_fr (Fr.sub hm rfl) ?_
    exact h
  · exact h

theorem execHbrTgtWrite_fr {a0 a1 a2} {t}
    (hm : 0x252020c000000000000000000000000000000200009200100000000000000002c0000000280000000 ||| m = m) (h : Fr m s₀ s)
    (e : execHbrTgtWrite a0 a1 a2 s = .next t) : Fr m s₀ t := by
  unfold execHbrTgtWrite at e
  cases e
  refine State.ship_fr (Fr.sub hm rfl) ?_
  refine State.asWho_fr (Fr.sub hm rfl) ?_ ?_
  · intro s0 h1
    refine State.runHbrTgtWrite_fr (Fr.sub hm rfl) ?_
    exact h1
  · exact h

theorem execHbrPosset_fr {a0 a1 a2} {t}
    (hm : 0x240000800000000000000000000000000000000000000000000000000000000280000000000000000 ||| m = m) (h : Fr m s₀ s)
    (e : execHbrPosset a0 a1 a2 s = .next t) : Fr m s₀ t := by
  unfold execHbrPosset at e
  cases e
  refine State.ship_fr (Fr.sub hm rfl) ?_
  refine State.asWho_fr (Fr.sub hm rfl) ?_ ?_
  · intro s0 h1
    refine State.runHbrPosset_fr (Fr.sub hm rfl) ?_
    exact h1
  · exact h

theorem execHbrClrTrip_fr {a0 a1} {t}
    (hm : 0x2401f6800000000000000010000000000000000000000000000001400802040280002000000000000 ||| m = m) (h : Fr m s₀ s)
    (e : execHbrClrTrip a0 a1 s = .next t) : Fr m s₀ t := by
  unfold execHbrClrTrip at e
  cases e
  refine State.ship_fr (Fr.sub hm rfl) ?_
  refine State.asWho_fr (Fr.sub hm rfl) ?_ ?_
  · intro s0 h1
    refine State.runHbrClrTrip_fr (Fr.sub hm rfl) ?_
    exact h1
  · exact h

theorem execHbrClrStop_fr {a0 a1} {t}
    (hm : 0x240020800000000000000000000000000000000000000000000000000000000280000000000000000 ||| m = m) (h : Fr m s₀ s)
    (e : execHbrClrStop a0 a1 s = .next t) : Fr m s₀ t := by
  unfold execHbrClrStop at e
  cases e
  refine State.ship_fr (Fr.sub hm rfl) ?_
  refine State.asWho_fr (Fr.sub hm rfl) ?_ ?_
  · intro s0 h1
    refine State.runHbrClrStop_fr (Fr.sub hm rfl) ?_
    exact h1
  · exact h

theorem execHbrSflt_fr {a0 a1 a2} {t}
    (hm : 0x240002800000000000000000000000000000000000000000000000000000000080000000000000000 ||| m = m) (h : Fr m s₀ s)
    (e : execHbrSflt a0 a1 a2 s = .next t) : Fr m s₀ t := by
  unfold execHbrSflt at e
  cases e
  refine State.ship_fr (Fr.sub hm rfl) ?_
  refine State.asWho_fr (Fr.sub hm rfl) ?_ ?_
  · intro s0 h1
    refine State.runHbrSflt_fr (Fr.sub hm rfl) ?_
    exact h1
  · exact h

theorem execBridgeLimitExit_fr {a0} {t}
    (hm : 0x40000000000000000000000000000000000000000000000000000000000000080000000000000000 ||| m = m) (h : Fr m s₀ s)
    (e : execBridgeLimitExit a0 s = .next t) : Fr m s₀ t := by
  unfold execBridgeLimitExit at e
  cases e
  refine State.ship_fr (Fr.sub hm rfl) ?_
  refine Fr.ite ?_ ?_
  · refine State.setHb_fr (Fr.sub hm rfl) ?_
    exact h
  · exact h

end Sys2Proof.Machine
end

