-- ==== Sys2Proof/Laws/FrameKey.lean ====
section
/-! SUPPORT. Frames (Laws/Frame.lean) of the functions of Machine/Key.lean: one lemma for each, which says by its mask which
registers and which parts of the state the function may change. -/

namespace Sys2Proof.Machine

variable {m : Nat} {s₀ s : State}

theorem State.keyCmd_fr {a1 a2 a3} {a4 : Sys2Proof.Machine.State → Sys2Proof.Machine.State}
    (hm : 0x800000000000000000000000000000000000000000000000000000000000000000 ||| m = m)
    (hf4 : ∀ s, Fr m s₀ s → Fr m s₀ (a4 s)) (h : Fr m s₀ s) : Fr m s₀ (State.keyCmd s a1 a2 a3 a4) := by
  unfold State.keyCmd
  refine Fr.ite ?_ ?_
  · refine State.keyRes_fr (Fr.sub hm rfl) ?_
    exact h
  · refine Fr.ite ?_ ?_
    · refine State.keyRes_fr (Fr.sub hm rfl) ?_
      exact h
    · refine hf4 _ ?_
      exact h

theorem State.beginWork_fr {a1}
    (hm : 0x80000000000000200000000000000000000000000000000000000000000000000000000000000000 ||| m = m) (h : Fr m s₀ s) :
    Fr m s₀ (State.beginWork s a1) := by
  unfold State.beginWork
  refine State.flag_fr (Fr.sub hm rfl) (Fr.bit hm rfl) ?_
  refine Fr.set_key (Fr.bit hm rfl) ?_
  exact h

theorem State.applyEnvelope_fr
    (hm : 0x80002000000060a00000000000000000000000000000000000000000000000000000000000000000 ||| m = m) (h : Fr m s₀ s) :
    Fr m s₀ (State.applyEnvelope s) := by
  unfold State.applyEnvelope
  extract_lets +onlyGivenNames x0
  clear_value x0
  extract_lets +onlyGivenNames x1
  clear_value x1
  extract_lets +onlyGivenNames x2
  have h3 : Fr m s₀ x2 := by
    unfold x2
    refine State.flag_fr (Fr.sub hm rfl) (Fr.bit hm rfl) ?_
    exact h
  clear_value x2
  split
  · refine State.raise_fr (Fr.sub hm rfl) ?_
    refine State.keyRes_fr (Fr.sub hm rfl) ?_
    exact h3
  · extract_lets +onlyGivenNames x4
    clear_value x4
    refine Fr.ite ?_ ?_
    · refine State.raise_fr (Fr.sub hm rfl) ?_
      refine State.keyRes_fr (Fr.sub hm rfl) ?_
      refine State.put_fr (Fr.sub hm rfl) (Fr.bit hm rfl) ?_
      refine State.put_fr (Fr.sub hm rfl) (Fr.bit hm rfl) ?_
      refine State.flag_fr (Fr.sub hm rfl) (Fr.bit hm rfl) ?_
      exact h3
    · refine Fr.ite ?_ ?_
      · refine State.raise_fr (Fr.sub hm rfl) ?_
        refine State.keyRes_fr (Fr.sub hm rfl) ?_
        refine State.put_fr (Fr.sub hm rfl) (Fr.bit hm rfl) ?_
        refine State.flag_fr (Fr.sub hm rfl) (Fr.bit hm rfl) ?_
        exact h3
      · extract_lets +onlyGivenNames x5
        clear_value x5
        refine State.beginWork_fr (Fr.sub hm rfl) ?_
        exact h3

theorem State.runKeyCmdApply_fr
    (hm : 0x80002000000060a00000000000000000000000000000000000000000000000000000000000000000 ||| m = m) (h : Fr m s₀ s) :
    Fr m s₀ (State.runKeyCmdApply s) := by
  unfold State.runKeyCmdApply
  refine State.keyCmd_fr (Fr.sub hm rfl) ?_ ?_
  · intro s0 h1
    refine Fr.ite ?_ ?_
    · refine State.flag_fr (Fr.sub hm rfl) (Fr.bit hm rfl) ?_
      refine Fr.set_key (Fr.bit hm rfl) ?_
      exact h1
    · refine State.applyEnvelope_fr (Fr.sub hm rfl) ?_
      exact h1
  · exact h

theorem State.runKeyCmdPlainwr_fr {a1 a2}
    (hm : 0x80000000000200a00000000000000000000000000000000000000000000000000000000000000000 ||| m = m) (h : Fr m s₀ s) :
    Fr m s₀ (State.runKeyCmdPlainwr s a1 a2) := by
  unfold State.runKeyCmdPlainwr
  refine State.keyCmd_fr (Fr.sub hm rfl) ?_ ?_
  · intro s0 h1
    refine Fr.ite ?_ ?_
    · refine State.zeroPlain_fr (Fr.sub hm rfl) ?_
      refine State.keyRes_fr (Fr.sub hm rfl) ?_
      exact h1
    · refine Fr.ite ?_ ?_
      · refine State.zeroPlain_fr (Fr.sub hm rfl) ?_
        refine State.keyRes_fr (Fr.sub hm rfl) ?_
        exact h1
      · extract_lets +onlyGivenNames x2
        clear_value x2
        refine State.beginWork_fr (Fr.sub hm rfl) ?_
        exact h1
  · exact h

theorem State.runKeyCmdImgkey_fr {a1}
    (hm : 0x80000000000200a00000000000000000000000000000000000000000000000000000000000000000 ||| m = m) (h : Fr m s₀ s) :
    Fr m s₀ (State.runKeyCmdImgkey s a1) := by
  unfold State.runKeyCmdImgkey
  refine State.keyCmd_fr (Fr.sub hm rfl) ?_ ?_
  · intro s0 h1
    refine Fr.ite ?_ ?_
    · refine State.zeroPlain_fr (Fr.sub hm rfl) ?_
      refine State.keyRes_fr (Fr.sub hm rfl) ?_
      exact h1
    · extract_lets +onlyGivenNames x2
      clear_value x2
      extract_lets +onlyGivenNames x3
      clear_value x3
      extract_lets +onlyGivenNames x4
      clear_value x4
      extract_lets +onlyGivenNames x5
      clear_value x5
      refine State.beginWork_fr (Fr.sub hm rfl) ?_
      exact h1
  · exact h

theorem State.runKeyCmdSvcchal_fr
    (hm : 0x80000040000400a00000000000000000000000000000000000000000000000000000000000000000 ||| m = m) (h : Fr m s₀ s) :
    Fr m s₀ (State.runKeyCmdSvcchal s) := by
  unfold State.runKeyCmdSvcchal
  refine State.keyCmd_fr (Fr.sub hm rfl) ?_ ?_
  · intro s0 h1
    refine Fr.ite ?_ ?_
    · refine State.keyRes_fr (Fr.sub hm rfl) ?_
      exact h1
    · split
      rename_i y2 y3 y4 y5
      refine Fr.cutp y5 ?_ (fun h6 => ?_)
      · refine State.takeFrees_fr (Fr.sub hm rfl) ?_
        exact h1
      extract_lets +onlyGivenNames x7
      have h8 : Fr m s₀ x7 := by
        unfold x7
        refine Fr.foldl ?_ ?_
        · intro s9 h10 h11
          refine State.setReg_fr (Fr.reg .KEY_SVCNONCE hm rfl) ?_
          exact h11
        · exact h6
      clear_value x7
      refine State.keyRes_fr (Fr.sub hm rfl) ?_
      refine State.flag_fr (Fr.sub hm rfl) (Fr.bit hm rfl) ?_
      refine Fr.set_key (Fr.bit hm rfl) ?_
      exact h8
  · exact h

theorem State.runKeyCmdSvcauth_fr
    (hm : 0x80002000000000a00000000000000000000000000000000000000000000000000000000000000000 ||| m = m) (h : Fr m s₀ s) :
    Fr m s₀ (State.runKeyCmdSvcauth s) := by
  unfold State.runKeyCmdSvcauth
  refine State.keyCmd_fr (Fr.sub hm rfl) ?_ ?_
  · intro s0 h1
    extract_lets +onlyGivenNames x2
    clear_value x2
    extract_lets +onlyGivenNames x3
    clear_value x3
    extract_lets +onlyGivenNames x4
    have h5 : Fr m s₀ x4 := by
      unfold x4
      refine Fr.set_key (Fr.bit hm rfl) ?_
      exact h1
    clear_value x4
    refine Fr.ite ?_ ?_
    · refine State.keyRes_fr (Fr.sub hm rfl) ?_
      refine State.flag_fr (Fr.sub hm rfl) (Fr.bit hm rfl) ?_
      refine Fr.set_key (Fr.bit hm rfl) ?_
      exact h5
    · extract_lets +onlyGivenNames x6
      clear_value x6
      extract_lets +onlyGivenNames x7
      clear_value x7
      extract_lets +onlyGivenNames x8
      have h9 : Fr m s₀ x8 := by
        unfold x8
        refine Fr.set_key (Fr.bit hm rfl) ?_
        exact h5
      clear_value x8
      refine State.raise_fr (Fr.sub hm rfl) ?_
      refine State.keyRes_fr (Fr.sub hm rfl) ?_
      exact h9
  · exact h

theorem State.runKeyCmdClrcache_fr
    (hm : 0x80000000000000800000000000000000000000000000000000000000000000000000000000000000 ||| m = m) (h : Fr m s₀ s) :
    Fr m s₀ (State.runKeyCmdClrcache s) := by
  unfold State.runKeyCmdClrcache
  refine State.keyCmd_fr (Fr.sub hm rfl) ?_ ?_
  · intro s0 h1
    refine State.keyRes_fr (Fr.sub hm rfl) ?_
    refine Fr.set_key (Fr.bit hm rfl) ?_
    exact h1
  · exact h

theorem State.runKeyTcfgWrite_fr {a1}
    (hm : 0x200000800000002000000000000000000000000000000000000000000000000000000000000000000 ||| m = m) (h : Fr m s₀ s) :
    Fr m s₀ (State.runKeyTcfgWrite s a1) := by
  unfold State.runKeyTcfgWrite
  refine State.accept_fr (Fr.sub hm rfl) ?_ ?_
  · intro s0 h1
    refine State.storeWrite_fr (Fr.sub hm rfl) (Fr.reg .KEY_TCFG hm rfl) ?_
    exact h1
  · exact h

theorem State.runKeyOpgo_fr {a1 a2}
    (hm : 0x280000800000010000000000000000000000000000000000000000000000000000000000000000000 ||| m = m) (h : Fr m s₀ s) :
    Fr m s₀ (State.runKeyOpgo s a1 a2) := by
  unfold State.runKeyOpgo
  refine Fr.ite ?_ ?_
  · refine State.reserved_fr (Fr.sub hm rfl) ?_
    refine State.flag_fr (Fr.sub hm rfl) (Fr.bit hm rfl) ?_
    exact h
  · refine State.startOp_fr (Fr.sub hm rfl) ?_
    refine State.opLen_fr (Fr.sub hm rfl) ?_
    refine Fr.set_key (Fr.bit hm rfl) ?_
    exact h

theorem State.commitSlot_fr {a1 a2 a3}
    (hm : 0x80000000006000200000000000000000000000000000000000000000000000000000000000000000 ||| m = m) (h : Fr m s₀ s) :
    Fr m s₀ (State.commitSlot s a1 a2 a3) := by
  unfold State.commitSlot
  refine State.keyShow_fr (Fr.sub hm rfl) ?_
  refine Fr.set_key (Fr.bit hm rfl) ?_
  exact h

theorem execKeyCmdApply_fr {a0} {t}
    (hm : 0x2c0002800000060a00000000000000000000000000000000000000000000000000000000000000000 ||| m = m) (h : Fr m s₀ s)
    (e : execKeyCmdApply a0 s = .next t) : Fr m s₀ t := by
  unfold execKeyCmdApply at e
  cases e
  refine State.ship_fr (Fr.sub hm rfl) ?_
  refine State.asWho_fr (Fr.sub hm rfl) ?_ ?_
  · intro s0 h1
    refine State.runKeyCmdApply_fr (Fr.sub hm rfl) ?_
    exact h1
  · exact h

theorem execKeyCmdPlainwr_fr {a0 a1 a2} {t}
    (hm : 0x2c0000800000200a00000000000000000000000000000000000000000000000000000000000000000 ||| m = m) (h : Fr m s₀ s)
    (e : execKeyCmdPlainwr a0 a1 a2 s = .next t) : Fr m s₀ t := by
  unfold execKeyCmdPlainwr at e
  cases e
  refine State.ship_fr (Fr.sub hm rfl) ?_
  refine State.asWho_fr (Fr.sub hm rfl) ?_ ?_
  · intro s0 h1
    refine State.runKeyCmdPlainwr_fr (Fr.sub hm rfl) ?_
    exact h1
  · exact h

theorem execKeyCmdImgkey_fr {a0 a1} {t}
    (hm : 0x2c0000800000200a00000000000000000000000000000000000000000000000000000000000000000 ||| m = m) (h : Fr m s₀ s)
    (e : execKeyCmdImgkey a0 a1 s = .next t) : Fr m s₀ t := by
  unfold execKeyCmdImgkey at e
  cases e
  refine State.ship_fr (Fr.sub hm rfl) ?_
  refine State.asWho_fr (Fr.sub hm rfl) ?_ ?_
  · intro s0 h1
    refine State.runKeyCmdImgkey_fr (Fr.sub hm rfl) ?_
    exact h1
  · exact h

theorem execKeyCmdSvcchal_fr {a0} {t}
    (hm : 0x2c0000840000400a00000000000000000000000000000000000000000000000000000000000000000 ||| m = m) (h : Fr m s₀ s)
    (e : execKeyCmdSvcchal a0 s = .next t) : Fr m s₀ t := by
  unfold execKeyCmdSvcchal at e
  cases e
  refine State.ship_fr (Fr.sub hm rfl) ?_
  refine State.asWho_fr (Fr.sub hm rfl) ?_ ?_
  · intro s0 h1
    refine State.runKeyCmdSvcchal_fr (Fr.sub hm rfl) ?_
    exact h1
  · exact h

theorem execKeyCmdSvcauth_fr {a0} {t}
    (hm : 0x2c0002800000000a00000000000000000000000000000000000000000000000000000000000000000 ||| m = m) (h : Fr m s₀ s)
    (e : execKeyCmdSvcauth a0 s = .next t) : Fr m s₀ t := by
  unfold execKeyCmdSvcauth at e
  cases e
  refine State.ship_fr (Fr.sub hm rfl) ?_
  refine State.asWho_fr (Fr.sub hm rfl) ?_ ?_
  · intro s0 h1
    refine State.runKeyCmdSvcauth_fr (Fr.sub hm rfl) ?_
    exact h1
  · exact h

theorem execKeyCmdClrcache_fr {a0} {t}
    (hm : 0x2c0000800000000800000000000000000000000000000000000000000000000000000000000000000 ||| m = m) (h : Fr m s₀ s)
    (e : execKeyCmdClrcache a0 s = .next t) : Fr m s₀ t := by
  unfold execKeyCmdClrcache at e
  cases e
  refine State.ship_fr (Fr.sub hm rfl) ?_
  refine State.asWho_fr (Fr.sub hm rfl) ?_ ?_
  · intro s0 h1
    refine State.runKeyCmdClrcache_fr (Fr.sub hm rfl) ?_
    exact h1
  · exact h

theorem execKeyCommitDone_fr {t}
    (hm : 0xc0002000007200a00000000000000000000000000000000000000000000000000000000000000000 ||| m = m) (h : Fr m s₀ s)
    (e : execKeyCommitDone s = .next t) : Fr m s₀ t := by
  unfold execKeyCommitDone at e
  cases e
  refine State.ship_fr (Fr.sub hm rfl) ?_
  split
  · exact h
  · extract_lets +onlyGivenNames x0
    clear_value x0
    extract_lets +onlyGivenNames x1
    have h2 : Fr m s₀ x1 := by
      unfold x1
      refine State.flag_fr (Fr.sub hm rfl) (Fr.bit hm rfl) ?_
      refine Fr.set_key (Fr.bit hm rfl) ?_
      exact h
    clear_value x1
    split
    · extract_lets +onlyGivenNames x3
      have h4 : Fr m s₀ x3 := by
        unfold x3
        refine State.raise_fr (Fr.sub hm rfl) ?_
        refine State.keyRes_fr (Fr.sub hm rfl) ?_
        refine State.commitSlot_fr (Fr.sub hm rfl) ?_
        exact h2
      clear_value x3
      extract_lets +onlyGivenNames x5
      clear_value x5
      extract_lets +onlyGivenNames x6
      clear_value x6
      refine State.flag_fr (Fr.sub hm rfl) (Fr.bit hm rfl) ?_
      refine State.setRegBytes_fr (Fr.sub hm rfl) (Fr.bit hm rfl) ?_
      exact h4
    · refine State.zeroPlain_fr (Fr.sub hm rfl) ?_
      refine State.raise_fr (Fr.sub hm rfl) ?_
      refine State.keyRes_fr (Fr.sub hm rfl) ?_
      refine State.commitSlot_fr (Fr.sub hm rfl) ?_
      exact h2
    · extract_lets +onlyGivenNames x7
      clear_value x7
      extract_lets +onlyGivenNames x8
      have h9 : Fr m s₀ x8 := by
        unfold x8
        refine Fr.set_key (Fr.bit hm rfl) ?_
        exact h2
      clear_value x8
      refine State.zeroPlain_fr (Fr.sub hm rfl) ?_
      refine State.raise_fr (Fr.sub hm rfl) ?_
      refine State.keyRes_fr (Fr.sub hm rfl) ?_
      exact h9

theorem execSvcokExpiry_fr {t}
    (hm : 0x40000000000000200000000000000000000000000000000000000000000000000000000000000000 ||| m = m) (h : Fr m s₀ s)
    (e : execSvcokExpiry s = .next t) : Fr m s₀ t := by
  unfold execSvcokExpiry at e
  cases e
  refine State.ship_fr (Fr.sub hm rfl) ?_
  refine State.flag_fr (Fr.sub hm rfl) (Fr.bit hm rfl) ?_
  exact h

theorem execSvcLockoutExpiry_fr {t}
    (hm : 0xc0000000000000000000000000000000000000000000000000000000000000000000000000000000 ||| m = m) (h : Fr m s₀ s)
    (e : execSvcLockoutExpiry s = .next t) : Fr m s₀ t := by
  unfold execSvcLockoutExpiry at e
  cases e
  refine State.ship_fr (Fr.sub hm rfl) ?_
  refine Fr.set_key (Fr.bit hm rfl) ?_
  exact h

theorem execKeyOpgo_fr {a0 a1} {t}
    (hm : 0x2c0000800000010000000000000000000000000000000000000000000000000000000000000000000 ||| m = m) (h : Fr m s₀ s)
    (e : execKeyOpgo a0 a1 s = .next t) : Fr m s₀ t := by
  unfold execKeyOpgo at e
  cases e
  refine State.ship_fr (Fr.sub hm rfl) ?_
  refine State.asWho_fr (Fr.sub hm rfl) ?_ ?_
  · intro s0 h1
    refine State.runKeyOpgo_fr (Fr.sub hm rfl) ?_
    exact h1
  · exact h

theorem execKeyOperationDone_fr {t}
    (hm : 0xc0002010000070a00000000000000000000000000000000000000000000000000000000000000000 ||| m = m) (h : Fr m s₀ s)
    (e : execKeyOperationDone s = .next t) : Fr m s₀ t := by
  unfold execKeyOperationDone at e
  cases e
  refine State.ship_fr (Fr.sub hm rfl) ?_
  split
  · exact h
  · extract_lets +onlyGivenNames x0
    have h1 : Fr m s₀ x0.2 := by
      unfold x0
      refine State.runOp_fr (Fr.sub hm rfl) ?_
      exact h
    extract_lets +onlyGivenNames x2
    have h3 : Fr m s₀ x2 := by
      unfold x2
      refine State.endOp_fr (Fr.sub hm rfl) ?_
      exact h1
    clear_value x2
    extract_lets +onlyGivenNames x4
    clear_value x4
    extract_lets +onlyGivenNames x5
    have h6 : Fr m s₀ x5 := by
      unfold x5
      refine Fr.ite ?_ ?_
      · refine State.applyEnvelope_fr (Fr.sub hm rfl) ?_
        refine Fr.set_key (Fr.bit hm rfl) ?_
        exact h3
      · exact h3
    clear_value x5
    refine State.startOp_fr (Fr.sub hm rfl) ?_
    exact h6

theorem execKeyTcfgWrite_fr {a0} {t}
    (hm : 0x240000800000002000000000000000000000000000000000000000000000000000000000000000000 ||| m = m) (h : Fr m s₀ s)
    (e : execKeyTcfgWrite a0 s = .next t) : Fr m s₀ t := by
  unfold execKeyTcfgWrite at e
  cases e
  refine State.ship_fr (Fr.sub hm rfl) ?_
  refine State.runKeyTcfgWrite_fr (Fr.sub hm rfl) ?_
  exact h

theorem execTamperEvent_fr {a0} {t}
    (hm : 0xd25f6dd1ffffffffffffffffffffffffffffffffffffffffffffffffffffffffffffffffffffffff ||| m = m) (h : Fr m s₀ s)
    (e : execTamperEvent a0 s = .next t) : Fr m s₀ t := by
  unfold execTamperEvent at e
  cases e
  refine State.ship_fr (Fr.sub hm rfl) ?_
  refine Fr.ite ?_ ?_
  · refine State.tamper_fr (Fr.sub hm rfl) ?_
    exact h
  · exact h

theorem execDebugRequest_fr {a0} {t}
    (hm : 0xd25f6dd1ffffffffffffffffffffffffffffffffffffffffffffffffffffffffffffffffffffffff ||| m = m) (h : Fr m s₀ s)
    (e : execDebugRequest a0 s = .next t) : Fr m s₀ t := by
  unfold execDebugRequest at e
  cases e
  refine State.ship_fr (Fr.sub hm rfl) ?_
  refine Fr.ite ?_ ?_
  · exact h
  · extract_lets +onlyGivenNames x0
    clear_value x0
    refine Fr.ite ?_ ?_
    · refine State.tamper_fr (Fr.sub hm rfl) ?_
      refine Fr.set_key (Fr.bit hm rfl) ?_
      exact h
    · refine Fr.set_key (Fr.bit hm rfl) ?_
      exact h

end Sys2Proof.Machine
end

