-- ==== Sys2Proof/Laws/FrameLed.lean ====
section
/-! SUPPORT. Frames (Laws/Frame.lean) of the functions of Machine/Led.lean: one lemma for each, which says by its mask which
registers and which parts of the state the function may change. -/

namespace Sys2Proof.Machine

variable {m : Nat} {s₀ s : State}

theorem State.runLedLevelWrite_fr {a1 a2 a3}
    (hm : 0x200100800000000000000000000000000000000000000000000001440000000000000000000000000 ||| m = m) (h : Fr m s₀ s) :
    Fr m s₀ (State.runLedLevelWrite s a1 a2 a3) := by
  unfold State.runLedLevelWrite
  refine Fr.ite ?_ ?_
  · refine State.reserved_fr (Fr.sub hm rfl) ?_
    exact h
  · refine State.accept_fr (Fr.sub hm rfl) ?_ ?_
    · intro s0 h1
      refine State.ledUpdate_fr (Fr.sub hm rfl) ?_
      refine State.storeWrite_fr (Fr.sub hm rfl) (Fr.reg .LED_LVL hm rfl) ?_
      exact h1
    · exact h

theorem State.runLedClrDacrst_fr {a1 a2}
    (hm : 0x200100800000000000000000000000000000000000000000000000000000000000000000000000000 ||| m = m) (h : Fr m s₀ s) :
    Fr m s₀ (State.runLedClrDacrst s a1 a2) := by
  unfold State.runLedClrDacrst
  refine Fr.ite ?_ ?_
  · refine State.setLx_fr (Fr.sub hm rfl) ?_
    exact h
  · refine State.reserved_fr (Fr.sub hm rfl) ?_
    exact h

theorem State.runLedClrTrip_fr {a1 a2}
    (hm : 0x2001f6800000000000000010000000000000000000000000000001400802040280002000000000000 ||| m = m) (h : Fr m s₀ s) :
    Fr m s₀ (State.runLedClrTrip s a1 a2) := by
  unfold State.runLedClrTrip
  refine Fr.ite ?_ ?_
  · refine State.clrTrip_fr (Fr.sub hm rfl) ?_
    exact h
  · refine State.reserved_fr (Fr.sub hm rfl) ?_
    exact h

theorem State.ledMeasured_fr {a1 a2}
    (hm : 0x100000000000000000000000000000000000000000000000000000000000000000000000000000 ||| m = m) (h : Fr m s₀ s) :
    Fr m s₀ (State.ledMeasured s a1 a2) := by
  unfold State.ledMeasured
  extract_lets +onlyGivenNames x0
  clear_value x0
  refine State.setLx_fr (Fr.sub hm rfl) ?_
  exact h

theorem State.puFall_fr {a1}
    (hm : 0x101f6400000000000000010000000000000000000000000000001400802040280002000280000000 ||| m = m) (h : Fr m s₀ s) :
    Fr m s₀ (State.puFall s a1) := by
  unfold State.puFall
  extract_lets +onlyGivenNames x0
  clear_value x0
  refine Fr.ite ?_ ?_
  · refine State.ledSync_fr (Fr.sub hm rfl) ?_
    refine State.settle_fr (Fr.sub hm rfl) ?_
    refine State.puCount_fr (Fr.sub hm rfl) ?_
    exact h
  · exact h

theorem execPulsePeriodEnd_fr {a0} {t}
    (hm : 0x501f6420000000000000010000000000000000000000000000001400802040280002000280000000 ||| m = m) (h : Fr m s₀ s)
    (e : execPulsePeriodEnd a0 s = .next t) : Fr m s₀ t := by
  unfold execPulsePeriodEnd at e
  cases e
  refine State.ship_fr (Fr.sub hm rfl) ?_
  refine Fr.ite ?_ ?_
  · extract_lets +onlyGivenNames x0
    have h1 : Fr m s₀ x0 := by
      unfold x0
      refine State.puFall_fr (Fr.sub hm rfl) ?_
      refine Fr.set_tb (Fr.bit hm rfl) ?_
      exact h
    clear_value x0
    refine State.ledSync_fr (Fr.sub hm rfl) ?_
    refine State.settle_fr (Fr.sub hm rfl) ?_
    refine State.ledTakes_fr (Fr.sub hm rfl) ?_
    refine State.periodEnd_fr (Fr.sub hm rfl) ?_
    exact h1
  · exact h

theorem execLedLevelWrite_fr {a0 a1 a2} {t}
    (hm : 0x240100800000000000000000000000000000000000000000000001440000000000000000000000000 ||| m = m) (h : Fr m s₀ s)
    (e : execLedLevelWrite a0 a1 a2 s = .next t) : Fr m s₀ t := by
  unfold execLedLevelWrite at e
  cases e
  refine State.ship_fr (Fr.sub hm rfl) ?_
  refine State.asWho_fr (Fr.sub hm rfl) ?_ ?_
  · intro s0 h1
    refine State.runLedLevelWrite_fr (Fr.sub hm rfl) ?_
    exact h1
  · exact h

theorem execDemandLineChange_fr {a0} {t}
    (hm : 0x40100000000000000000000000000000000000000000000000001400000000000000000000000000 ||| m = m) (h : Fr m s₀ s)
    (e : execDemandLineChange a0 s = .next t) : Fr m s₀ t := by
  unfold execDemandLineChange at e
  cases e
  refine State.ship_fr (Fr.sub hm rfl) ?_
  refine Fr.ite ?_ ?_
  · refine State.ledUpdate_fr (Fr.sub hm rfl) ?_
    exact h
  · exact h

theorem execDimmingDutyWrite_fr {a0} {t}
    (hm : 0x401f6400000000000000010000000000000000000000000000001400802040280002000280000000 ||| m = m) (h : Fr m s₀ s)
    (e : execDimmingDutyWrite a0 s = .next t) : Fr m s₀ t := by
  unfold execDimmingDutyWrite at e
  cases e
  refine State.ship_fr (Fr.sub hm rfl) ?_
  split
  · refine Fr.ite ?_ ?_
    · extract_lets +onlyGivenNames x0
      clear_value x0
      extract_lets +onlyGivenNames x1
      clear_value x1
      extract_lets +onlyGivenNames x2
      clear_value x2
      extract_lets +onlyGivenNames x3
      clear_value x3
      extract_lets +onlyGivenNames x4
      have h5 : Fr m s₀ x4 := by
        unfold x4
        refine State.setLx_fr (Fr.sub hm rfl) ?_
        exact h
      clear_value x4
      extract_lets +onlyGivenNames x6
      have h7 : Fr m s₀ x6 := by
        unfold x6
        refine Fr.ite ?_ ?_
        · refine State.ledApply_fr (Fr.sub hm rfl) ?_
          exact h5
        · exact h5
      clear_value x6
      extract_lets +onlyGivenNames x8
      have h9 : Fr m s₀ x8 := by
        unfold x8
        refine State.pdWrite_fr (Fr.sub hm rfl) ?_
        exact h7
      clear_value x8
      refine Fr.ite ?_ ?_
      · exact h9
      · refine State.ledIn_fr (Fr.sub hm rfl) ?_
        refine State.ledTake_fr (Fr.sub hm rfl) ?_
        exact h9
    · exact h
  · exact h

theorem execShortToGround_fr {a0 a1} {t}
    (hm : 0x521f6c00000000000000010000000000000020000920010000000c00802040280002000280000000 ||| m = m) (h : Fr m s₀ s)
    (e : execShortToGround a0 a1 s = .next t) : Fr m s₀ t := by
  unfold execShortToGround at e
  cases e
  refine State.ship_fr (Fr.sub hm rfl) ?_
  refine Fr.ite ?_ ?_
  · refine State.trip_fr (Fr.sub hm rfl) ?_
    refine State.flag_fr (Fr.sub hm rfl) (Fr.bit hm rfl) ?_
    refine State.put_fr (Fr.sub hm rfl) (Fr.bit hm rfl) ?_
    exact h
  · exact h

theorem execOpenStringMeasurement_fr {a0 a1 a2 a3} {t}
    (hm : 0x40102000000000000000010000000000000000000000000000000c00000000000000000000000000 ||| m = m) (h : Fr m s₀ s)
    (e : execOpenStringMeasurement a0 a1 a2 a3 s = .next t) : Fr m s₀ t := by
  unfold execOpenStringMeasurement at e
  cases e
  refine State.ship_fr (Fr.sub hm rfl) ?_
  extract_lets +onlyGivenNames x0
  clear_value x0
  refine Fr.ite ?_ ?_
  · exact h
  · refine Fr.ite ?_ ?_
    · refine State.ledMeasured_fr (Fr.sub hm rfl) ?_
      exact h
    · extract_lets +onlyGivenNames x1
      clear_value x1
      extract_lets +onlyGivenNames x2
      have h3 : Fr m s₀ x2 := by
        unfold x2
        refine State.put_fr (Fr.sub hm rfl) (Fr.bit hm rfl) ?_
        refine State.put_fr (Fr.sub hm rfl) (Fr.bit hm rfl) ?_
        exact h
      clear_value x2
      extract_lets +onlyGivenNames x4
      have h5 : Fr m s₀ x4 := by
        unfold x4
        refine State.ledMeasured_fr (Fr.sub hm rfl) ?_
        exact h3
      clear_value x4
      refine Fr.ite ?_ ?_
      · exact h5
      · extract_lets +onlyGivenNames x6
        clear_value x6
        extract_lets +onlyGivenNames x7
        clear_value x7
        extract_lets +onlyGivenNames x8
        clear_value x8
        extract_lets +onlyGivenNames x9
        clear_value x9
        extract_lets +onlyGivenNames x10
        have h11 : Fr m s₀ x10 := by
          unfold x10
          refine State.put_fr (Fr.sub hm rfl) (Fr.bit hm rfl) ?_
          refine State.setLx_fr (Fr.sub hm rfl) ?_
          exact h5
        clear_value x10
        extract_lets +onlyGivenNames x12
        have h13 : Fr m s₀ x12 := by
          unfold x12
          refine Fr.ite ?_ ?_
          · exact h11
          · refine State.clearSrc_fr (Fr.sub hm rfl) ?_
            exact h11
        clear_value x12
        refine Fr.ite ?_ ?_
        · refine State.hold_fr (Fr.sub hm rfl) ?_
          refine State.flag_fr (Fr.sub hm rfl) (Fr.bit hm rfl) ?_
          exact h13
        · exact h13

theorem execShortedLedCheck_fr {a0 a1} {t}
    (hm : 0x40102000000000000000000000000000000000000000000000000400000000000000000000000000 ||| m = m) (h : Fr m s₀ s)
    (e : execShortedLedCheck a0 a1 s = .next t) : Fr m s₀ t := by
  unfold execShortedLedCheck at e
  cases e
  refine State.ship_fr (Fr.sub hm rfl) ?_
  extract_lets +onlyGivenNames x0
  clear_value x0
  extract_lets +onlyGivenNames x1
  clear_value x1
  refine Fr.ite ?_ ?_
  · exact h
  · extract_lets +onlyGivenNames x2
    clear_value x2
    extract_lets +onlyGivenNames x3
    clear_value x3
    extract_lets +onlyGivenNames x4
    clear_value x4
    extract_lets +onlyGivenNames x5
    clear_value x5
    extract_lets +onlyGivenNames x6
    clear_value x6
    extract_lets +onlyGivenNames x7
    have h8 : Fr m s₀ x7 := by
      unfold x7
      refine State.put_fr (Fr.sub hm rfl) (Fr.bit hm rfl) ?_
      refine State.setLx_fr (Fr.sub hm rfl) ?_
      exact h
    clear_value x7
    refine Fr.ite ?_ ?_
    · refine State.raise_fr (Fr.sub hm rfl) ?_
      refine State.flag_fr (Fr.sub hm rfl) (Fr.bit hm rfl) ?_
      exact h8
    · exact h8

theorem execDacFailure_fr {a0 a1} {t}
    (hm : 0x40102000000000000000000000000000000000000000000000001400000000000000000000000000 ||| m = m) (h : Fr m s₀ s)
    (e : execDacFailure a0 a1 s = .next t) : Fr m s₀ t := by
  unfold execDacFailure at e
  cases e
  refine State.ship_fr (Fr.sub hm rfl) ?_
  extract_lets +onlyGivenNames x0
  clear_value x0
  extract_lets +onlyGivenNames x1
  clear_value x1
  refine Fr.ite ?_ ?_
  · extract_lets +onlyGivenNames x2
    clear_value x2
    extract_lets +onlyGivenNames x3
    have h4 : Fr m s₀ x3 := by
      unfold x3
      refine State.setLx_fr (Fr.sub hm rfl) ?_
      exact h
    clear_value x3
    refine State.ledUpdate_fr (Fr.sub hm rfl) ?_
    refine State.raise_fr (Fr.sub hm rfl) ?_
    refine State.flag_fr (Fr.sub hm rfl) (Fr.bit hm rfl) ?_
    exact h4
  · exact h

theorem execLedClrTrip_fr {a0 a1} {t}
    (hm : 0x2401f6800000000000000010000000000000000000000000000001400802040280002000000000000 ||| m = m) (h : Fr m s₀ s)
    (e : execLedClrTrip a0 a1 s = .next t) : Fr m s₀ t := by
  unfold execLedClrTrip at e
  cases e
  refine State.ship_fr (Fr.sub hm rfl) ?_
  refine State.asWho_fr (Fr.sub hm rfl) ?_ ?_
  · intro s0 h1
    refine State.runLedClrTrip_fr (Fr.sub hm rfl) ?_
    exact h1
  · exact h

theorem execLedClrDacrst_fr {a0 a1} {t}
    (hm : 0x240100800000000000000000000000000000000000000000000000000000000000000000000000000 ||| m = m) (h : Fr m s₀ s)
    (e : execLedClrDacrst a0 a1 s = .next t) : Fr m s₀ t := by
  unfold execLedClrDacrst at e
  cases e
  refine State.ship_fr (Fr.sub hm rfl) ?_
  refine State.asWho_fr (Fr.sub hm rfl) ?_ ?_
  · intro s0 h1
    refine State.runLedClrDacrst_fr (Fr.sub hm rfl) ?_
    exact h1
  · exact h

theorem execDacRetest_fr {a0 a1} {t}
    (hm : 0x40100000000000000000000000000000000000000000000000001400000000000000000000000000 ||| m = m) (h : Fr m s₀ s)
    (e : execDacRetest a0 a1 s = .next t) : Fr m s₀ t := by
  unfold execDacRetest at e
  cases e
  refine State.ship_fr (Fr.sub hm rfl) ?_
  refine Fr.ite ?_ ?_
  · extract_lets +onlyGivenNames x0
    clear_value x0
    extract_lets +onlyGivenNames x1
    have h2 : Fr m s₀ x1 := by
      unfold x1
      refine State.setLx_fr (Fr.sub hm rfl) ?_
      exact h
    clear_value x1
    refine Fr.ite ?_ ?_
    · refine State.ledUpdate_fr (Fr.sub hm rfl) ?_
      refine State.flag_fr (Fr.sub hm rfl) (Fr.bit hm rfl) ?_
      exact h2
    · exact h2
  · exact h

theorem execLampGroupUpdate_fr {a0 a1 a2} {t}
    (hm : 0x40902000000000000000000000000000000000000000000800081400000000000000000000000000 ||| m = m) (h : Fr m s₀ s)
    (e : execLampGroupUpdate a0 a1 a2 s = .next t) : Fr m s₀ t := by
  unfold execLampGroupUpdate at e
  cases e
  refine State.ship_fr (Fr.sub hm rfl) ?_
  extract_lets +onlyGivenNames x0
  clear_value x0
  refine Fr.ite ?_ ?_
  · exact h
  · extract_lets +onlyGivenNames x1
    clear_value x1
    extract_lets +onlyGivenNames x2
    have h3 : Fr m s₀ x2 := by
      unfold x2
      refine State.ainShow_fr (Fr.sub hm rfl) ?_
      exact h
    clear_value x2
    extract_lets +onlyGivenNames x4
    clear_value x4
    extract_lets +onlyGivenNames x5
    have h6 : Fr m s₀ x5 := by
      unfold x5
      refine State.flag_fr (Fr.sub hm rfl) (Fr.bit hm rfl) ?_
      refine State.put_fr (Fr.sub hm rfl) (Fr.bit hm rfl) ?_
      exact h3
    clear_value x5
    extract_lets +onlyGivenNames x7
    clear_value x7
    extract_lets +onlyGivenNames x8
    clear_value x8
    extract_lets +onlyGivenNames x9
    have h10 : Fr m s₀ x9 := by
      unfold x9
      refine Fr.ite ?_ ?_
      · refine Fr.ite ?_ ?_
        · exact h6
        · refine State.raise_fr (Fr.sub hm rfl) ?_
          exact h6
      · refine State.flag_fr (Fr.sub hm rfl) (Fr.bit hm rfl) ?_
        refine State.put_fr (Fr.sub hm rfl) (Fr.bit hm rfl) ?_
        refine State.sput_fr (Fr.sub hm rfl) (Fr.bit hm rfl) ?_
        exact h3
    clear_value x9
    refine Fr.forEach ?_ ?_
    · intro h11 s12 h13
      refine State.ledUpdate_fr (Fr.sub hm rfl) ?_
      exact h13
    · exact h10

theorem execFoldbackUpdate_fr {a0} {t}
    (hm : 0x40302000000000000000000000000000000000000000000000009c00000000000000000000000000 ||| m = m) (h : Fr m s₀ s)
    (e : execFoldbackUpdate a0 s = .next t) : Fr m s₀ t := by
  unfold execFoldbackUpdate at e
  cases e
  refine State.ship_fr (Fr.sub hm rfl) ?_
  extract_lets +onlyGivenNames x0
  clear_value x0
  extract_lets +onlyGivenNames x1
  clear_value x1
  extract_lets +onlyGivenNames x2
  have h3 : Fr m s₀ x2 := by
    unfold x2
    refine Fr.forEach ?_ ?_
    · intro h4 s5 h6
      extract_lets +onlyGivenNames x7
      have h8 : Fr m s₀ x7 := by
        unfold x7
        refine State.sput_fr (Fr.sub hm rfl) (Fr.bit hm rfl) ?_
        refine State.put_fr (Fr.sub hm rfl) (Fr.bit hm rfl) ?_
        refine State.put_fr (Fr.sub hm rfl) (Fr.bit hm rfl) ?_
        exact h6
      clear_value x7
      extract_lets +onlyGivenNames x9
      clear_value x9
      refine State.flag_fr (Fr.sub hm rfl) (Fr.bit hm rfl) ?_
      refine State.setLx_fr (Fr.sub hm rfl) ?_
      exact h8
    · exact h
  clear_value x2
  split
  extract_lets +onlyGivenNames x10
  have h11 : Fr m s₀ x10 := by
    unfold x10
    refine State.put_fr (Fr.sub hm rfl) (Fr.bit hm rfl) ?_
    refine State.put_fr (Fr.sub hm rfl) (Fr.bit hm rfl) ?_
    exact h3
  clear_value x10
  extract_lets +onlyGivenNames x12
  have h13 : Fr m s₀ x12 := by
    unfold x12
    refine Fr.ite ?_ ?_
    · refine State.raise_fr (Fr.sub hm rfl) ?_
      exact h11
    · exact h11
  clear_value x12
  extract_lets +onlyGivenNames x14
  have h15 : Fr m s₀ x14 := by
    unfold x14
    refine Fr.set_fold (Fr.bit hm rfl) ?_
    exact h13
  clear_value x14
  refine Fr.forEach ?_ ?_
  · intro h16 s17 h18
    refine State.ledUpdate_fr (Fr.sub hm rfl) ?_
    exact h18
  · exact h15

end Sys2Proof.Machine
end

