-- ==== Sys2Proof/Laws/FrameNm.lean ====
section
/-! SUPPORT. Frames (Laws/Frame.lean) of the functions of Machine/Nm.lean: one lemma for each, which says by its mask which
registers and which parts of the state the function may change. -/

namespace Sys2Proof.Machine

variable {m : Nat} {s₀ s : State}

theorem State.runNmCtlWrite_fr {a1 a2}
    (hm : 0x216002c00000000000000000028000000400021000920010000000000000000000000000280000400 ||| m = m) (h : Fr m s₀ s) :
    Fr m s₀ (State.runNmCtlWrite s a1 a2) := by
  unfold State.runNmCtlWrite
  refine State.accept_fr (Fr.sub hm rfl) ?_ ?_
  · intro s0 h1
    extract_lets +onlyGivenNames x2
    clear_value x2
    extract_lets +onlyGivenNames x3
    have h4 : Fr m s₀ x3 := by
      unfold x3
      refine State.storeWrite_fr (Fr.sub hm rfl) (Fr.reg .NM_CTL hm rfl) ?_
      exact h1
    clear_value x3
    refine State.nmClusters_fr (Fr.sub hm rfl) ?_
    refine Fr.ite ?_ ?_
    · refine State.nmLocalWake_fr (Fr.sub hm rfl) ?_
      exact h4
    · exact h4
  · exact h

theorem State.runNmCmdWake_fr {a1}
    (hm : 0x16002c00000000000000000020000000400021000920010000000000000000000000000280000400 ||| m = m) (h : Fr m s₀ s) :
    Fr m s₀ (State.runNmCmdWake s a1) := by
  unfold State.runNmCmdWake
  refine State.nmLocalWake_fr (Fr.sub hm rfl) ?_
  exact h

theorem execNmFrameReceived_fr {a0 a1 a2} {t}
    (hm : 0x5e002c40000000000000010020000a06481823000920010000000000000000000000000280000400 ||| m = m) (h : Fr m s₀ s)
    (e : execNmFrameReceived a0 a1 a2 s = .next t) : Fr m s₀ t := by
  unfold execNmFrameReceived at e
  cases e
  refine State.ship_fr (Fr.sub hm rfl) ?_
  refine Fr.ite ?_ ?_
  · refine State.canReceive_fr (Fr.sub hm rfl) ?_
    exact h
  · exact h

theorem execNmCycle_fr {t} (hm : 0x42000000000000000000000020000000000000000000000000000000000000000000000000000000 ||| m = m)
    (h : Fr m s₀ s) (e : execNmCycle s = .next t) : Fr m s₀ t := by
  unfold execNmCycle at e
  cases e
  refine State.ship_fr (Fr.sub hm rfl) ?_
  refine Fr.ite ?_ ?_
  · exact h
  · refine Fr.forEach ?_ ?_
    · intro h0 s1 h2
      refine State.nmSend_fr (Fr.sub hm rfl) ?_
      exact h2
    · exact h

theorem execSleepPendingEntry_fr {t}
    (hm : 0x56000000000000000000000020000000000000000000000000000000000000000000000000000000 ||| m = m) (h : Fr m s₀ s)
    (e : execSleepPendingEntry s = .next t) : Fr m s₀ t := by
  unfold execSleepPendingEntry at e
  cases e
  refine State.ship_fr (Fr.sub hm rfl) ?_
  refine Fr.ite ?_ ?_
  · extract_lets +onlyGivenNames x0
    have h1 : Fr m s₀ x0 := by
      unfold x0
      refine Fr.forEach ?_ ?_
      · intro h2 s3 h4
        refine State.nmSend_fr (Fr.sub hm rfl) ?_
        exact h4
      · exact h
    clear_value x0
    extract_lets +onlyGivenNames x5
    have h6 : Fr m s₀ x5 := by
      unfold x5
      refine Fr.forEach ?_ ?_
      · intro h7 s8 h9
        refine State.linGoSleep_fr (Fr.sub hm rfl) ?_
        exact h9
      · exact h1
    clear_value x5
    refine State.put_fr (Fr.sub hm rfl) (Fr.bit hm rfl) ?_
    refine Fr.set_nm (Fr.bit hm rfl) ?_
    exact h6
  · exact h

theorem execTpendExpiry_fr {t}
    (hm : 0x50000000000000000000000000000000000000000000000000000000000000000000000000000000 ||| m = m) (h : Fr m s₀ s)
    (e : execTpendExpiry s = .next t) : Fr m s₀ t := by
  unfold execTpendExpiry at e
  cases e
  refine State.ship_fr (Fr.sub hm rfl) ?_
  refine Fr.ite ?_ ?_
  · refine Fr.set_nm (Fr.bit hm rfl) ?_
    exact h
  · exact h

theorem execNmBusIdle_fr {t}
    (hm : 0x56000c00000000000000000020000000400021000920010000000000000000000000000280000000 ||| m = m) (h : Fr m s₀ s)
    (e : execNmBusIdle s = .next t) : Fr m s₀ t := by
  unfold execNmBusIdle at e
  cases e
  refine State.ship_fr (Fr.sub hm rfl) ?_
  refine Fr.ite ?_ ?_
  · refine State.nmClusters_fr (Fr.sub hm rfl) ?_
    refine State.put_fr (Fr.sub hm rfl) (Fr.bit hm rfl) ?_
    exact h
  · exact h

theorem execNmStandbyDone_fr {t}
    (hm : 0x56000c00000000000000000020000000400021000920010000000000000000000000000280000000 ||| m = m) (h : Fr m s₀ s)
    (e : execNmStandbyDone s = .next t) : Fr m s₀ t := by
  unfold execNmStandbyDone at e
  cases e
  refine State.ship_fr (Fr.sub hm rfl) ?_
  refine Fr.ite ?_ ?_
  · extract_lets +onlyGivenNames x0
    have h1 : Fr m s₀ x0 := by
      unfold x0
      refine Fr.forEach ?_ ?_
      · intro h2 s3 h4
        refine State.canStop_fr (Fr.sub hm rfl) ?_
        exact h4
      · exact h
    clear_value x0
    extract_lets +onlyGivenNames x5
    have h6 : Fr m s₀ x5 := by
      unfold x5
      refine State.put_fr (Fr.sub hm rfl) (Fr.bit hm rfl) ?_
      exact h1
    clear_value x5
    split
    · refine State.nmWake_fr (Fr.sub hm rfl) ?_
      exact h6
    · refine State.nmEvent_fr (Fr.sub hm rfl) ?_
      exact h6
  · exact h

theorem execNmCmdWake_fr {a0} {t}
    (hm : 0x256002c00000000000000000020000000400021000920010000000000000000000000000280000400 ||| m = m) (h : Fr m s₀ s)
    (e : execNmCmdWake a0 s = .next t) : Fr m s₀ t := by
  unfold execNmCmdWake at e
  cases e
  refine State.ship_fr (Fr.sub hm rfl) ?_
  refine State.asWho_fr (Fr.sub hm rfl) ?_ ?_
  · intro s0 h1
    refine State.runNmCmdWake_fr (Fr.sub hm rfl) ?_
    exact h1
  · exact h

theorem execNmCtlWrite_fr {a0 a1} {t}
    (hm : 0x256002c00000000000000000028000000400021000920010000000000000000000000000280000400 ||| m = m) (h : Fr m s₀ s)
    (e : execNmCtlWrite a0 a1 s = .next t) : Fr m s₀ t := by
  unfold execNmCtlWrite at e
  cases e
  refine State.ship_fr (Fr.sub hm rfl) ?_
  refine State.asWho_fr (Fr.sub hm rfl) ?_ ?_
  · intro s0 h1
    refine State.runNmCtlWrite_fr (Fr.sub hm rfl) ?_
    exact h1
  · exact h

theorem execNmLocalWakeLine_fr {t}
    (hm : 0x56002c00000000000000000020000000400021000920010000000000000000000000000280000400 ||| m = m) (h : Fr m s₀ s)
    (e : execNmLocalWakeLine s = .next t) : Fr m s₀ t := by
  unfold execNmLocalWakeLine at e
  cases e
  refine State.ship_fr (Fr.sub hm rfl) ?_
  refine Fr.ite ?_ ?_
  · refine State.nmLocalWake_fr (Fr.sub hm rfl) ?_
    refine Fr.set_nm (Fr.bit hm rfl) ?_
    exact h
  · exact h

theorem execNmWakeFromSleep_fr {t}
    (hm : 0x56000c00000000000000000020000000400021000920010000000000000000000000000280000000 ||| m = m) (h : Fr m s₀ s)
    (e : execNmWakeFromSleep s = .next t) : Fr m s₀ t := by
  unfold execNmWakeFromSleep at e
  cases e
  refine State.ship_fr (Fr.sub hm rfl) ?_
  split
  · refine Fr.ite ?_ ?_
    · refine State.nmWake_fr (Fr.sub hm rfl) ?_
      exact h
    · exact h
  · exact h

theorem execPnClusterTimeout_fr {a0 a1} {t}
    (hm : 0x56000c00000000000000000020000000400021000920010000000000000000000000000280000000 ||| m = m) (h : Fr m s₀ s)
    (e : execPnClusterTimeout a0 a1 s = .next t) : Fr m s₀ t := by
  unfold execPnClusterTimeout at e
  cases e
  refine State.ship_fr (Fr.sub hm rfl) ?_
  refine Fr.ite ?_ ?_
  · exact h
  · extract_lets +onlyGivenNames x0
    clear_value x0
    extract_lets +onlyGivenNames x1
    have h2 : Fr m s₀ x1 := by
      unfold x1
      refine Fr.ite ?_ ?_
      · refine State.put_fr (Fr.sub hm rfl) (Fr.bit hm rfl) ?_
        exact h
      · refine Fr.set_nm (Fr.bit hm rfl) ?_
        exact h
    clear_value x1
    refine State.nmClusters_fr (Fr.sub hm rfl) ?_
    exact h2

theorem execClusterActivationTimeout_fr {a0} {t}
    (hm : 0x42002000000000000000000000000000000000000000000000000000000000000000000000000000 ||| m = m) (h : Fr m s₀ s)
    (e : execClusterActivationTimeout a0 s = .next t) : Fr m s₀ t := by
  unfold execClusterActivationTimeout at e
  cases e
  refine State.ship_fr (Fr.sub hm rfl) ?_
  refine Fr.ite ?_ ?_
  · refine State.raise_fr (Fr.sub hm rfl) ?_
    refine State.setCp_fr (Fr.sub hm rfl) ?_
    exact h
  · exact h

end Sys2Proof.Machine
end

