-- ==== Sys2Proof/Laws/FramePwr.lean ====
section
/-! SUPPORT. Frames (Laws/Frame.lean) of the functions of Machine/Pwr.lean: one lemma for each, which says by its mask which
registers and which parts of the state the function may change. -/

namespace Sys2Proof.Machine

variable {m : Nat} {s₀ s : State}

theorem State.startReturn_fr
    (hm : 0x20000000000000000000000800000000000000000000000000000000000000000000000000000000 ||| m = m) (h : Fr m s₀ s) :
    Fr m s₀ (State.startReturn s) := by
  unfold State.startReturn
  refine State.put_fr (Fr.sub hm rfl) (Fr.bit hm rfl) ?_
  refine Fr.set_pwr (Fr.bit hm rfl) ?_
  exact h

theorem State.runPwrPrcmdReturn_fr {a1}
    (hm : 0x20000000000000000000000800000000000000000000000000000000000000000000000000000000 ||| m = m) (h : Fr m s₀ s) :
    Fr m s₀ (State.runPwrPrcmdReturn s a1) := by
  unfold State.runPwrPrcmdReturn
  refine Fr.ite ?_ ?_
  · refine State.startReturn_fr (Fr.sub hm rfl) ?_
    exact h
  · exact h

theorem State.refuseXfer_fr (hm : 0x2000000000000000000800000000000000000000000000000000000000000000000000000000 ||| m = m) (h :
    Fr m s₀ s) : Fr m s₀ (State.refuseXfer s) := by
  unfold State.refuseXfer
  refine State.raise_fr (Fr.sub hm rfl) ?_
  refine State.flag_fr (Fr.sub hm rfl) (Fr.bit hm rfl) ?_
  exact h

theorem State.startXfer_fr {a1}
    (hm : 0x20000000000000000000000800000000000000000000000000000000000000000000000000000000 ||| m = m) (h : Fr m s₀ s) :
    Fr m s₀ (State.startXfer s a1) := by
  unfold State.startXfer
  refine State.put_fr (Fr.sub hm rfl) (Fr.bit hm rfl) ?_
  refine Fr.set_pwr (Fr.bit hm rfl) ?_
  exact h

theorem State.trigger_fr {a1}
    (hm : 0x20002000000000000000000800000000000000000000000000000000000000000000000000000000 ||| m = m) (h : Fr m s₀ s) :
    Fr m s₀ (State.trigger s a1) := by
  unfold State.trigger
  refine Fr.ite ?_ ?_
  · refine State.flag_fr (Fr.sub hm rfl) (Fr.bit hm rfl) ?_
    refine State.put_fr (Fr.sub hm rfl) (Fr.bit hm rfl) ?_
    refine Fr.set_pwr (Fr.bit hm rfl) ?_
    exact h
  · refine Fr.ite ?_ ?_
    · refine Fr.ite ?_ ?_
      · refine Fr.set_pwr (Fr.bit hm rfl) ?_
        exact h
      · exact h
    · refine Fr.ite ?_ ?_
      · exact h
      · refine Fr.ite ?_ ?_
        · refine State.refuseXfer_fr (Fr.sub hm rfl) ?_
          exact h
        · refine State.startXfer_fr (Fr.sub hm rfl) ?_
          exact h

theorem State.runPwrPrcmdForce_fr {a1}
    (hm : 0x220002800000000000000000800000000000000000000000000000000000000000000000000000000 ||| m = m) (h : Fr m s₀ s) :
    Fr m s₀ (State.runPwrPrcmdForce s a1) := by
  unfold State.runPwrPrcmdForce
  refine Fr.ite ?_ ?_
  · refine State.reserved_fr (Fr.sub hm rfl) ?_
    exact h
  · refine State.trigger_fr (Fr.sub hm rfl) ?_
    exact h

theorem State.baseplate_fr {a1} (hm : 0x2000000000000000000000000000000000000000000000000000000000 ||| m = m) (h : Fr m s₀ s) :
    Fr m s₀ (State.baseplate s a1) := by
  unfold State.baseplate
  refine State.sput_fr (Fr.sub hm rfl) (Fr.bit hm rfl) ?_
  exact h

theorem State.refollow_fr (hm : 0x70000000000000000000000000000000000000000000000000000802000280002000000000000 ||| m = m) (h :
    Fr m s₀ s) : Fr m s₀ (State.refollow s) := by
  unfold State.refollow
  refine Fr.forEach ?_ ?_
  · intro h0 s1 h2
    split
    · refine State.hswFollow_fr (Fr.sub hm rfl) ?_
      exact h2
    · refine Fr.ite ?_ ?_
      · exact h2
      · refine State.hbrAgain_fr (Fr.sub hm rfl) ?_
        exact h2
    · refine State.bankShow_fr (Fr.sub hm rfl) ?_
      exact h2
    · refine State.ctdFollow_fr (Fr.sub hm rfl) ?_
      exact h2
    · exact h2
  · exact h

theorem State.feed_fr {a1 a2}
    (hm : 0x20070000000000000000001800000000000000000000000000000000802000280002000000000000 ||| m = m) (h : Fr m s₀ s) :
    Fr m s₀ (State.feed s a1 a2) := by
  unfold State.feed
  extract_lets +onlyGivenNames x0
  have h1 : Fr m s₀ x0 := by
    unfold x0
    refine Fr.ite ?_ ?_
    · refine State.put_fr (Fr.sub hm rfl) (Fr.bit hm rfl) ?_
      exact h
    · refine State.put_fr (Fr.sub hm rfl) (Fr.bit hm rfl) ?_
      exact h
  clear_value x0
  extract_lets +onlyGivenNames x2
  clear_value x2
  extract_lets +onlyGivenNames x3
  have h4 : Fr m s₀ x3 := by
    unfold x3
    refine Fr.set_pwr (Fr.bit hm rfl) ?_
    exact h1
  clear_value x3
  extract_lets +onlyGivenNames x5
  have h6 : Fr m s₀ x5 := by
    unfold x5
    refine State.flag_fr (Fr.sub hm rfl) (Fr.bit hm rfl) ?_
    exact h4
  clear_value x5
  refine Fr.ite ?_ ?_
  · refine State.refollow_fr (Fr.sub hm rfl) ?_
    exact h6
  · exact h6

theorem State.pwrEvent_fr {a1}
    (hm : 0x12000c00000000000000000000000000000020000920010000000000000000000000000280000000 ||| m = m) (h : Fr m s₀ s) :
    Fr m s₀ (State.pwrEvent s a1) := by
  unfold State.pwrEvent
  refine Fr.ite ?_ ?_
  · refine State.event_fr (Fr.sub hm rfl) ?_
    exact h
  · exact h

theorem State.xferIdle_fr (hm : 0x20000000000000000000000000000000000000000000000000000000000000000000000000000000 ||| m = m)
    (h : Fr m s₀ s) : Fr m s₀ (State.xferIdle s) := by
  unfold State.xferIdle
  refine Fr.set_pwr (Fr.bit hm rfl) ?_
  exact h

theorem execMainUndervoltage_fr {a0} {t}
    (hm : 0x72072c00000000000000001800000000000020000920010000000000802000280002000280000000 ||| m = m) (h : Fr m s₀ s)
    (e : execMainUndervoltage a0 s = .next t) : Fr m s₀ t := by
  unfold execMainUndervoltage at e
  cases e
  refine State.ship_fr (Fr.sub hm rfl) ?_
  extract_lets +onlyGivenNames x0
  have h1 : Fr m s₀ x0 := by
    unfold x0
    refine State.feed_fr (Fr.sub hm rfl) ?_
    exact h
  clear_value x0
  refine Fr.ite ?_ ?_
  · exact h1
  · refine State.trigger_fr (Fr.sub hm rfl) ?_
    refine State.pwrEvent_fr (Fr.sub hm rfl) ?_
    refine State.raiseCond_fr (Fr.sub hm rfl) ?_
    refine State.flag_fr (Fr.sub hm rfl) (Fr.bit hm rfl) ?_
    exact h1

theorem execMainRecovery_fr {a0} {t}
    (hm : 0x72472c81ffffffffffffffffffffffffffffffffffffffffffffffffffffffffffffffffffffffff ||| m = m) (h : Fr m s₀ s)
    (e : execMainRecovery a0 s = .next t) : Fr m s₀ t := by
  unfold execMainRecovery at e
  cases e
  refine State.ship_fr (Fr.sub hm rfl) ?_
  extract_lets +onlyGivenNames x0
  have h1 : Fr m s₀ x0 := by
    unfold x0
    refine State.feed_fr (Fr.sub hm rfl) ?_
    exact h
  clear_value x0
  refine Fr.ite ?_ ?_
  · exact h1
  · extract_lets +onlyGivenNames x2
    have h3 : Fr m s₀ x2 := by
      unfold x2
      refine State.flag_fr (Fr.sub hm rfl) (Fr.bit hm rfl) ?_
      exact h1
    clear_value x2
    refine Fr.ite ?_ ?_
    · refine State.wakeSource_fr (Fr.sub hm rfl) ?_
      refine State.pwrEvent_fr (Fr.sub hm rfl) ?_
      refine State.clearSrc_fr (Fr.sub hm rfl) ?_
      refine State.flag_fr (Fr.sub hm rfl) (Fr.bit hm rfl) ?_
      exact h3
    · exact h3

theorem execBackupUndervoltage_fr {a0 a1} {t}
    (hm : 0x60072000000000000000011800000000000000000000000000000000802000280002000000000000 ||| m = m) (h : Fr m s₀ s)
    (e : execBackupUndervoltage a0 a1 s = .next t) : Fr m s₀ t := by
  unfold execBackupUndervoltage at e
  cases e
  refine State.ship_fr (Fr.sub hm rfl) ?_
  extract_lets +onlyGivenNames x0
  have h1 : Fr m s₀ x0 := by
    unfold x0
    refine State.feed_fr (Fr.sub hm rfl) ?_
    exact h
  clear_value x0
  refine Fr.ite ?_ ?_
  · refine Fr.ite ?_ ?_
    · exact h1
    · refine State.raiseCond_fr (Fr.sub hm rfl) ?_
      refine State.flag_fr (Fr.sub hm rfl) (Fr.bit hm rfl) ?_
      exact h1
  · refine Fr.ite ?_ ?_
    · extract_lets +onlyGivenNames x2
      have h3 : Fr m s₀ x2 := by
        unfold x2
        refine State.clearSrc_fr (Fr.sub hm rfl) ?_
        refine State.flag_fr (Fr.sub hm rfl) (Fr.bit hm rfl) ?_
        exact h1
      clear_value x2
      refine Fr.ite ?_ ?_
      · refine State.trigger_fr (Fr.sub hm rfl) ?_
        exact h3
      · refine Fr.ite ?_ ?_
        · refine State.trigger_fr (Fr.sub hm rfl) ?_
          exact h3
        · exact h3
    · exact h1

theorem execSupplyOvervoltage_fr {a0 a1} {t}
    (hm : 0x60072000000000000000001800000000000000000000000000000000802000280002000000000000 ||| m = m) (h : Fr m s₀ s)
    (e : execSupplyOvervoltage a0 a1 s = .next t) : Fr m s₀ t := by
  unfold execSupplyOvervoltage at e
  cases e
  refine State.ship_fr (Fr.sub hm rfl) ?_
  extract_lets +onlyGivenNames x0
  have h1 : Fr m s₀ x0 := by
    unfold x0
    refine State.feed_fr (Fr.sub hm rfl) ?_
    exact h
  clear_value x0
  extract_lets +onlyGivenNames x2
  refine Fr.ite ?_ ?_
  · exact h1
  · refine State.raiseCond_fr (Fr.sub hm rfl) ?_
    refine State.flag_fr (Fr.sub hm rfl) ?_ ?_
    · unfold x2
      split <;> exact Fr.bit hm rfl
    · exact h1

theorem execReverseCurrent_fr {a0} {t}
    (hm : 0x60002000000000000000000800000000000000000000000000000000000000000000000000000000 ||| m = m) (h : Fr m s₀ s)
    (e : execReverseCurrent a0 s = .next t) : Fr m s₀ t := by
  unfold execReverseCurrent at e
  cases e
  refine State.ship_fr (Fr.sub hm rfl) ?_
  refine Fr.ite ?_ ?_
  · exact h
  · refine State.trigger_fr (Fr.sub hm rfl) ?_
    refine State.raise_fr (Fr.sub hm rfl) ?_
    refine State.flag_fr (Fr.sub hm rfl) (Fr.bit hm rfl) ?_
    exact h

theorem execTransferBackupOn_fr {t}
    (hm : 0x60000000000000000000000000000000000000000000000000000000000000000000000000000000 ||| m = m) (h : Fr m s₀ s)
    (e : execTransferBackupOn s = .next t) : Fr m s₀ t := by
  unfold execTransferBackupOn at e
  cases e
  refine State.ship_fr (Fr.sub hm rfl) ?_
  refine Fr.ite ?_ ?_
  · exact h
  · refine Fr.set_pwr (Fr.bit hm rfl) ?_
    exact h

theorem execTransferMainOpen_fr {a0} {t}
    (hm : 0x72002c4000000000000000a800000000000020000920010000000000000000000000000280000000 ||| m = m) (h : Fr m s₀ s)
    (e : execTransferMainOpen a0 s = .next t) : Fr m s₀ t := by
  unfold execTransferMainOpen at e
  cases e
  refine State.ship_fr (Fr.sub hm rfl) ?_
  refine Fr.ite ?_ ?_
  · exact h
  · extract_lets +onlyGivenNames x0
    clear_value x0
    extract_lets +onlyGivenNames x1
    clear_value x1
    extract_lets +onlyGivenNames x2
    have h3 : Fr m s₀ x2 := by
      unfold x2
      refine State.xferIdle_fr (Fr.sub hm rfl) ?_
      exact h
    clear_value x2
    extract_lets +onlyGivenNames x4
    have h5 : Fr m s₀ x4 := by
      unfold x4
      refine State.flag_fr (Fr.sub hm rfl) (Fr.bit hm rfl) ?_
      refine State.wrap_fr (Fr.sub hm rfl) (Fr.bit hm rfl) ?_
      refine State.put_fr (Fr.sub hm rfl) (Fr.bit hm rfl) ?_
      exact h3
    clear_value x4
    extract_lets +onlyGivenNames x6
    have h7 : Fr m s₀ x6 := by
      unfold x6
      refine State.put_fr (Fr.sub hm rfl) (Fr.bit hm rfl) ?_
      refine State.put_fr (Fr.sub hm rfl) (Fr.bit hm rfl) ?_
      refine State.flag_fr (Fr.sub hm rfl) (Fr.bit hm rfl) ?_
      exact h5
    clear_value x6
    split
    rename_i y8 y9 y10 y11
    refine Fr.cutp y11 ?_ (fun h12 => ?_)
    · refine State.takeFree_fr (Fr.sub hm rfl) ?_
      exact h7
    extract_lets +onlyGivenNames x13
    have h14 : Fr m s₀ x13 := by
      unfold x13
      refine State.put_fr (Fr.sub hm rfl) (Fr.bit hm rfl) ?_
      exact h12
    clear_value x13
    refine State.pwrEvent_fr (Fr.sub hm rfl) ?_
    refine State.raise_fr (Fr.sub hm rfl) ?_
    exact h14

theorem execPwrPrcmdForce_fr {a0} {t}
    (hm : 0x260002800000000000000000800000000000000000000000000000000000000000000000000000000 ||| m = m) (h : Fr m s₀ s)
    (e : execPwrPrcmdForce a0 s = .next t) : Fr m s₀ t := by
  unfold execPwrPrcmdForce at e
  cases e
  refine State.ship_fr (Fr.sub hm rfl) ?_
  refine State.asWho_fr (Fr.sub hm rfl) ?_ ?_
  · intro s0 h1
    refine State.runPwrPrcmdForce_fr (Fr.sub hm rfl) ?_
    exact h1
  · exact h

theorem execPwrPrcmdReturn_fr {a0} {t}
    (hm : 0x260000800000000000000000800000000000000000000000000000000000000000000000000000000 ||| m = m) (h : Fr m s₀ s)
    (e : execPwrPrcmdReturn a0 s = .next t) : Fr m s₀ t := by
  unfold execPwrPrcmdReturn at e
  cases e
  refine State.ship_fr (Fr.sub hm rfl) ?_
  refine State.asWho_fr (Fr.sub hm rfl) ?_ ?_
  · intro s0 h1
    refine State.runPwrPrcmdReturn_fr (Fr.sub hm rfl) ?_
    exact h1
  · exact h

theorem execTretExpiry_fr {t}
    (hm : 0x60000000000000000000000800000000000000000000000000000000000000000000000000000000 ||| m = m) (h : Fr m s₀ s)
    (e : execTretExpiry s = .next t) : Fr m s₀ t := by
  unfold execTretExpiry at e
  cases e
  refine State.ship_fr (Fr.sub hm rfl) ?_
  refine Fr.ite ?_ ?_
  · refine State.startReturn_fr (Fr.sub hm rfl) ?_
    exact h
  · exact h

theorem execRailReturnDone_fr {a0} {t}
    (hm : 0x72002c00000000000000002800000000000020000920010000000000000000000000000280000000 ||| m = m) (h : Fr m s₀ s)
    (e : execRailReturnDone a0 s = .next t) : Fr m s₀ t := by
  unfold execRailReturnDone at e
  cases e
  refine State.ship_fr (Fr.sub hm rfl) ?_
  refine Fr.ite ?_ ?_
  · extract_lets +onlyGivenNames x0
    have h1 : Fr m s₀ x0 := by
      unfold x0
      refine State.xferIdle_fr (Fr.sub hm rfl) ?_
      exact h
    clear_value x0
    extract_lets +onlyGivenNames x2
    have h3 : Fr m s₀ x2 := by
      unfold x2
      refine State.put_fr (Fr.sub hm rfl) (Fr.bit hm rfl) ?_
      refine State.flag_fr (Fr.sub hm rfl) (Fr.bit hm rfl) ?_
      refine State.put_fr (Fr.sub hm rfl) (Fr.bit hm rfl) ?_
      exact h1
    clear_value x2
    refine State.pwrEvent_fr (Fr.sub hm rfl) ?_
    refine State.raise_fr (Fr.sub hm rfl) ?_
    exact h3
  · exact h

theorem execBaseplateHot_fr {a0} {t}
    (hm : 0x52002c00000000000000002800000000000020000920010000000000000000000000000280000000 ||| m = m) (h : Fr m s₀ s)
    (e : execBaseplateHot a0 s = .next t) : Fr m s₀ t := by
  unfold execBaseplateHot at e
  cases e
  refine State.ship_fr (Fr.sub hm rfl) ?_
  extract_lets +onlyGivenNames x0
  have h1 : Fr m s₀ x0 := by
    unfold x0
    refine State.baseplate_fr (Fr.sub hm rfl) ?_
    exact h
  clear_value x0
  refine Fr.ite ?_ ?_
  · exact h1
  · refine State.pwrEvent_fr (Fr.sub hm rfl) ?_
    refine State.raiseCond_fr (Fr.sub hm rfl) ?_
    refine State.flag_fr (Fr.sub hm rfl) (Fr.bit hm rfl) ?_
    exact h1

theorem execOvervoltageClear_fr {a0 a1} {t}
    (hm : 0x60072000000000000000011800000000000000000000000000000000802000280002000000000000 ||| m = m) (h : Fr m s₀ s)
    (e : execOvervoltageClear a0 a1 s = .next t) : Fr m s₀ t := by
  unfold execOvervoltageClear at e
  cases e
  refine State.ship_fr (Fr.sub hm rfl) ?_
  extract_lets +onlyGivenNames x0
  have h1 : Fr m s₀ x0 := by
    unfold x0
    refine State.feed_fr (Fr.sub hm rfl) ?_
    exact h
  clear_value x0
  extract_lets +onlyGivenNames x2
  refine Fr.ite ?_ ?_
  · refine State.clearSrc_fr (Fr.sub hm rfl) ?_
    refine State.flag_fr (Fr.sub hm rfl) ?_ ?_
    · unfold x2
      split <;> exact Fr.bit hm rfl
    · exact h1
  · exact h1

theorem execTbhotClear_fr {a0} {t}
    (hm : 0x40002000000000000000012800000000000000000000000000000000000000000000000000000000 ||| m = m) (h : Fr m s₀ s)
    (e : execTbhotClear a0 s = .next t) : Fr m s₀ t := by
  unfold execTbhotClear at e
  cases e
  refine State.ship_fr (Fr.sub hm rfl) ?_
  extract_lets +onlyGivenNames x0
  have h1 : Fr m s₀ x0 := by
    unfold x0
    refine State.baseplate_fr (Fr.sub hm rfl) ?_
    exact h
  clear_value x0
  refine Fr.ite ?_ ?_
  · refine State.clearSrc_fr (Fr.sub hm rfl) ?_
    refine State.flag_fr (Fr.sub hm rfl) (Fr.bit hm rfl) ?_
    exact h1
  · exact h1

end Sys2Proof.Machine
end

