-- ==== Sys2Proof/Laws/FrameVlv.lean ====
section
/-! SUPPORT. Frames (Laws/Frame.lean) of the functions of Machine/Vlv.lean: one lemma for each, which says by its mask which
registers and which parts of the state the function may change. -/

namespace Sys2Proof.Machine

variable {m : Nat} {s₀ s : State}

theorem State.runVlvClrTrip_fr {a1 a2}
    (hm : 0x2001f6800000000000000010000000000000000000000000000001400802040280002000000000000 ||| m = m) (h : Fr m s₀ s) :
    Fr m s₀ (State.runVlvClrTrip s a1 a2) := by
  unfold State.runVlvClrTrip
  refine Fr.ite ?_ ?_
  · refine State.clrTrip_fr (Fr.sub hm rfl) ?_
    exact h
  · refine State.reserved_fr (Fr.sub hm rfl) ?_
    exact h

theorem State.bankCmd_fr {a1} (hm : 0x2000000000000000000000 ||| m = m) (h : Fr m s₀ s) : Fr m s₀ (State.bankCmd s a1) := by
  unfold State.bankCmd
  refine State.flag_fr (Fr.sub hm rfl) (Fr.bit hm rfl) ?_
  exact h

theorem State.bankMeas_fr {a1 a2 a3} (hm : 0x4000000000000000000000 ||| m = m) (h : Fr m s₀ s) :
    Fr m s₀ (State.bankMeas s a1 a2 a3) := by
  unfold State.bankMeas
  refine Fr.ite ?_ ?_
  · refine State.sput_fr (Fr.sub hm rfl) (Fr.bit hm rfl) ?_
    refine State.put_fr (Fr.sub hm rfl) (Fr.bit hm rfl) ?_
    exact h
  · exact h

theorem State.coilFlag_fr {a1} {a2 : Fld} {a3 : Fld} (hm : 0x0 ||| m = m) (hp2 : m.testBit a2.reg.ctorIdx = true)
    (hp3 : m.testBit a3.reg.ctorIdx = true) (h : Fr m s₀ s) : Fr m s₀ (State.coilFlag s a1 a2 a3) := by
  unfold State.coilFlag
  refine State.setCf_fr (Fr.sub hm rfl) hp2 hp3 ?_
  exact h

theorem State.coilHot_fr {a1 a2}
    (hm : 0x121f6c00000000000000010000000000000020000920010000000400802040280002000280000000 ||| m = m) (h : Fr m s₀ s) :
    Fr m s₀ (State.coilHot s a1 a2) := by
  unfold State.coilHot
  extract_lets +onlyGivenNames x0
  clear_value x0
  extract_lets +onlyGivenNames x1
  clear_value x1
  extract_lets +onlyGivenNames x2
  have h3 : Fr m s₀ x2 := by
    unfold x2
    refine State.coilFlag_fr (Fr.sub hm rfl) (Fr.bit hm rfl) (Fr.bit hm rfl) ?_
    exact h
  clear_value x2
  extract_lets +onlyGivenNames x4
  clear_value x4
  refine Fr.ite ?_ ?_
  · extract_lets +onlyGivenNames x5
    have h6 : Fr m s₀ x5 := by
      unfold x5
      refine Fr.ite ?_ ?_
      · refine State.decay_fr (Fr.sub hm rfl) ?_
        exact h3
      · exact h3
    clear_value x5
    extract_lets +onlyGivenNames x7
    have h8 : Fr m s₀ x7 := by
      unfold x7
      refine State.raiseCond_fr (Fr.sub hm rfl) ?_
      refine State.tripMark_fr (Fr.sub hm rfl) ?_
      exact h6
    clear_value x7
    extract_lets +onlyGivenNames x9
    have h10 : Fr m s₀ x9 := by
      unfold x9
      refine Fr.ite ?_ ?_
      · refine State.flag_fr (Fr.sub hm rfl) (Fr.bit hm rfl) ?_
        exact h8
      · exact h8
    clear_value x9
    refine State.setCoil_fr (Fr.sub hm rfl) ?_
    exact h10
  · refine State.trip_fr (Fr.sub hm rfl) ?_
    exact h3

theorem State.coilMeas_fr {a1 a2} (hm : 0x1000080000000000000000000 ||| m = m) (h : Fr m s₀ s) :
    Fr m s₀ (State.coilMeas s a1 a2) := by
  unfold State.coilMeas
  refine Fr.ite ?_ ?_
  · refine State.put_fr (Fr.sub hm rfl) (Fr.bit hm rfl) ?_
    exact h
  · refine State.put_fr (Fr.sub hm rfl) (Fr.bit hm rfl) ?_
    exact h

theorem State.peakEnd_fr {a1 a2 a3}
    (hm : 0x42000000000000000010000000000000000000000000000000000800040000000000000000000 ||| m = m) (h : Fr m s₀ s) :
    Fr m s₀ (State.peakEnd s a1 a2 a3) := by
  unfold State.peakEnd
  refine Fr.ite ?_ ?_
  · refine State.peakSeen_fr (Fr.sub hm rfl) ?_
    exact h
  · refine Fr.ite ?_ ?_
    · exact h
    · extract_lets +onlyGivenNames x0
      clear_value x0
      refine State.raise_fr (Fr.sub hm rfl) ?_
      refine State.coilFlag_fr (Fr.sub hm rfl) (Fr.bit hm rfl) (Fr.bit hm rfl) ?_
      refine State.setCoil_fr (Fr.sub hm rfl) ?_
      exact h

theorem State.peaksSeen_fr {a1 a2}
    (hm : 0x2000000000000000010000000000000000000000000000000000800040000000000000000000 ||| m = m) (h : Fr m s₀ s) :
    Fr m s₀ (State.peaksSeen s a1 a2) := by
  unfold State.peaksSeen
  refine Fr.forEach ?_ ?_
  · intro h0 s1 h2
    refine State.peakSeen_fr (Fr.sub hm rfl) ?_
    exact h2
  · exact h

theorem execValveCommandRise_fr {a0} {t}
    (hm : 0x400c2000000000000000000000000000000000000000000000000000802040000000000000000000 ||| m = m) (h : Fr m s₀ s)
    (e : execValveCommandRise a0 s = .next t) : Fr m s₀ t := by
  unfold execValveCommandRise at e
  cases e
  refine State.ship_fr (Fr.sub hm rfl) ?_
  refine Fr.ite ?_ ?_
  · exact h
  · refine State.valveRise_fr (Fr.sub hm rfl) ?_
    refine State.coilShow_fr (Fr.sub hm rfl) ?_
    exact h

theorem execValveCommandFall_fr {a0} {t}
    (hm : 0x401f6000000000000000010000000000000000000000000000001400802040280002000000000000 ||| m = m) (h : Fr m s₀ s)
    (e : execValveCommandFall a0 s = .next t) : Fr m s₀ t := by
  unfold execValveCommandFall at e
  cases e
  refine State.ship_fr (Fr.sub hm rfl) ?_
  extract_lets +onlyGivenNames x0
  clear_value x0
  refine Fr.ite ?_ ?_
  · exact h
  · extract_lets +onlyGivenNames x1
    have h2 : Fr m s₀ x1 := by
      unfold x1
      refine State.flag_fr (Fr.sub hm rfl) (Fr.bit hm rfl) ?_
      refine State.coilShow_fr (Fr.sub hm rfl) ?_
      exact h
    clear_value x1
    refine Fr.ite ?_ ?_
    · exact h2
    · split
      · refine State.setVlv_fr (Fr.sub hm rfl) ?_
        exact h2
      · refine State.decay_fr (Fr.sub hm rfl) ?_
        refine State.peakSeen_fr (Fr.sub hm rfl) ?_
        exact h2
      · refine State.decay_fr (Fr.sub hm rfl) ?_
        refine State.peakSeen_fr (Fr.sub hm rfl) ?_
        exact h2
      · refine State.tryRecover_fr (Fr.sub hm rfl) ?_
        exact h2
      · refine State.tryRecover_fr (Fr.sub hm rfl) ?_
        exact h2
      · exact h2

theorem execBoostStart_fr {a0 a1} {t}
    (hm : 0x40000000000000000000000000000000000000000000000000000000002040000000000000000000 ||| m = m) (h : Fr m s₀ s)
    (e : execBoostStart a0 a1 s = .next t) : Fr m s₀ t := by
  unfold execBoostStart at e
  cases e
  refine State.ship_fr (Fr.sub hm rfl) ?_
  extract_lets +onlyGivenNames x0
  clear_value x0
  refine Fr.ite ?_ ?_
  · refine State.put_fr (Fr.sub hm rfl) (Fr.bit hm rfl) ?_
    refine State.setVlv_fr (Fr.sub hm rfl) ?_
    exact h
  · exact h

theorem execBoostEnd_fr {a0 a1 a2} {t}
    (hm : 0x40042000000000000000010000000000000000000000000000000000802040000000000000000000 ||| m = m) (h : Fr m s₀ s)
    (e : execBoostEnd a0 a1 a2 s = .next t) : Fr m s₀ t := by
  unfold execBoostEnd at e
  cases e
  refine State.ship_fr (Fr.sub hm rfl) ?_
  extract_lets +onlyGivenNames x0
  clear_value x0
  refine Fr.ite ?_ ?_
  · refine State.setVlv_fr (Fr.sub hm rfl) ?_
    refine State.peakEnd_fr (Fr.sub hm rfl) ?_
    exact h
  · exact h

theorem execBoostWaitLimit_fr {a0} {t}
    (hm : 0x40002000000000000000000000000000000000000000000000000000002040000000000000000000 ||| m = m) (h : Fr m s₀ s)
    (e : execBoostWaitLimit a0 s = .next t) : Fr m s₀ t := by
  unfold execBoostWaitLimit at e
  cases e
  refine State.ship_fr (Fr.sub hm rfl) ?_
  refine Fr.ite ?_ ?_
  · refine State.put_fr (Fr.sub hm rfl) (Fr.bit hm rfl) ?_
    refine State.refuse_fr (Fr.sub hm rfl) ?_
    exact h
  · exact h

theorem execDecayEnd_fr {a0} {t}
    (hm : 0x401f6000000000000000010000000000000000000000000000001400802040280002000000000000 ||| m = m) (h : Fr m s₀ s)
    (e : execDecayEnd a0 s = .next t) : Fr m s₀ t := by
  unfold execDecayEnd at e
  cases e
  refine State.ship_fr (Fr.sub hm rfl) ?_
  refine Fr.ite ?_ ?_
  · exact h
  · extract_lets +onlyGivenNames x0
    clear_value x0
    extract_lets +onlyGivenNames x1
    have h2 : Fr m s₀ x1 := by
      unfold x1
      refine State.setCoil_fr (Fr.sub hm rfl) ?_
      exact h
    clear_value x1
    refine Fr.ite ?_ ?_
    · refine State.stageOff_fr (Fr.sub hm rfl) ?_
      exact h2
    · refine Fr.ite ?_ ?_
      · refine State.tryRecover_fr (Fr.sub hm rfl) ?_
        refine State.stageOff_fr (Fr.sub hm rfl) ?_
        exact h2
      · refine Fr.ite ?_ ?_
        · refine State.setCoilState_fr (Fr.sub hm rfl) ?_
          exact h2
        · refine Fr.ite ?_ ?_
          · refine State.setVlv_fr (Fr.sub hm rfl) ?_
            exact h2
          · refine State.setVlv_fr (Fr.sub hm rfl) ?_
            exact h2

theorem execTvminoffExpiry_fr {a0} {t}
    (hm : 0x400c2000000000000000000000000000000000000000000000000000002040000000000000000000 ||| m = m) (h : Fr m s₀ s)
    (e : execTvminoffExpiry a0 s = .next t) : Fr m s₀ t := by
  unfold execTvminoffExpiry at e
  cases e
  refine State.ship_fr (Fr.sub hm rfl) ?_
  extract_lets +onlyGivenNames x0
  clear_value x0
  refine Fr.ite ?_ ?_
  · exact h
  · extract_lets +onlyGivenNames x1
    clear_value x1
    extract_lets +onlyGivenNames x2
    clear_value x2
    extract_lets +onlyGivenNames x3
    have h4 : Fr m s₀ x3 := by
      unfold x3
      refine State.flag_fr (Fr.sub hm rfl) (Fr.bit hm rfl) ?_
      refine State.setCoil_fr (Fr.sub hm rfl) ?_
      exact h
    clear_value x3
    refine Fr.ite ?_ ?_
    · refine State.admitValve_fr (Fr.sub hm rfl) ?_
      exact h4
    · refine Fr.ite ?_ ?_
      · refine State.setVlv_fr (Fr.sub hm rfl) ?_
        exact h4
      · exact h4

theorem execOpenCoilCheck_fr {a0 a1} {t}
    (hm : 0x40002000000000000000010000000000000000000000000000000000800040000000000000000000 ||| m = m) (h : Fr m s₀ s)
    (e : execOpenCoilCheck a0 a1 s = .next t) : Fr m s₀ t := by
  unfold execOpenCoilCheck at e
  cases e
  refine State.ship_fr (Fr.sub hm rfl) ?_
  extract_lets +onlyGivenNames x0
  clear_value x0
  refine Fr.ite ?_ ?_
  · exact h
  · refine Fr.ite ?_ ?_
    · refine State.raiseCond_fr (Fr.sub hm rfl) ?_
      refine State.setCf_fr (Fr.sub hm rfl) (Fr.bit hm rfl) (Fr.bit hm rfl) ?_
      exact h
    · refine State.peakSeen_fr (Fr.sub hm rfl) ?_
      exact h

theorem execHoldCurrentLow_fr {a0 a1} {t}
    (hm : 0x40042000000000000000000000000000000000000000000000000000800040000000000000000000 ||| m = m) (h : Fr m s₀ s)
    (e : execHoldCurrentLow a0 a1 s = .next t) : Fr m s₀ t := by
  unfold execHoldCurrentLow at e
  cases e
  refine State.ship_fr (Fr.sub hm rfl) ?_
  extract_lets +onlyGivenNames x0
  clear_value x0
  refine Fr.ite ?_ ?_
  · extract_lets +onlyGivenNames x1
    clear_value x1
    refine State.raise_fr (Fr.sub hm rfl) ?_
    refine State.coilFlag_fr (Fr.sub hm rfl) (Fr.bit hm rfl) (Fr.bit hm rfl) ?_
    refine State.setCoil_fr (Fr.sub hm rfl) ?_
    exact h
  · exact h

theorem execCoilModelUpdate_fr {a0 a1 a2 a3 a4 a5 a6} {t}
    (hm : 0x521f6c000000000000000100000000000000200009200100000014078063c0280002000280000000 ||| m = m) (h : Fr m s₀ s)
    (e : execCoilModelUpdate a0 a1 a2 a3 a4 a5 a6 s = .next t) : Fr m s₀ t := by
  unfold execCoilModelUpdate at e
  cases e
  refine State.ship_fr (Fr.sub hm rfl) ?_
  extract_lets +onlyGivenNames x0
  clear_value x0
  refine Fr.ite ?_ ?_
  · refine State.bankMeas_fr (Fr.sub hm rfl) ?_
    exact h
  · refine Fr.ite ?_ ?_
    · exact h
    · extract_lets +onlyGivenNames x1
      have h2 : Fr m s₀ x1 := by
        unfold x1
        refine State.peakSeen_fr (Fr.sub hm rfl) ?_
        refine State.coilMeas_fr (Fr.sub hm rfl) ?_
        exact h
      clear_value x1
      extract_lets +onlyGivenNames x3
      have h4 : Fr m s₀ x3 := by
        unfold x3
        refine Fr.ite ?_ ?_
        · refine State.sput_fr (Fr.sub hm rfl) (Fr.bit hm rfl) ?_
          refine State.put_fr (Fr.sub hm rfl) (Fr.bit hm rfl) ?_
          exact h2
        · refine State.sput_fr (Fr.sub hm rfl) (Fr.bit hm rfl) ?_
          refine State.put_fr (Fr.sub hm rfl) (Fr.bit hm rfl) ?_
          exact h2
      clear_value x3
      extract_lets +onlyGivenNames x5
      clear_value x5
      extract_lets +onlyGivenNames x6
      clear_value x6
      extract_lets +onlyGivenNames x7
      clear_value x7
      extract_lets +onlyGivenNames x8
      clear_value x8
      extract_lets +onlyGivenNames x9
      clear_value x9
      extract_lets +onlyGivenNames x10
      clear_value x10
      extract_lets +onlyGivenNames x11
      clear_value x11
      extract_lets +onlyGivenNames x12
      clear_value x12
      extract_lets +onlyGivenNames x13
      clear_value x13
      extract_lets +onlyGivenNames x14
      have h15 : Fr m s₀ x14 := by
        unfold x14
        refine State.setCoil_fr (Fr.sub hm rfl) ?_
        exact h4
      clear_value x14
      extract_lets +onlyGivenNames x16
      have h17 : Fr m s₀ x16 := by
        unfold x16
        refine State.setCf_fr (Fr.sub hm rfl) (Fr.bit hm rfl) (Fr.bit hm rfl) ?_
        exact h15
      clear_value x16
      extract_lets +onlyGivenNames x18
      have h19 : Fr m s₀ x18 := by
        unfold x18
        refine State.setCf_fr (Fr.sub hm rfl) (Fr.bit hm rfl) (Fr.bit hm rfl) ?_
        exact h17
      clear_value x18
      extract_lets +onlyGivenNames x20
      have h21 : Fr m s₀ x20 := by
        unfold x20
        refine Fr.ite ?_ ?_
        · refine State.setCf_fr (Fr.sub hm rfl) (Fr.bit hm rfl) (Fr.bit hm rfl) ?_
          exact h19
        · exact h19
      clear_value x20
      extract_lets +onlyGivenNames x22
      clear_value x22
      extract_lets +onlyGivenNames x23
      clear_value x23
      refine Fr.ite ?_ ?_
      · refine Fr.ite ?_ ?_
        · refine State.tryRecover_fr (Fr.sub hm rfl) ?_
          refine State.setTrip_fr (Fr.sub hm rfl) ?_
          exact h21
        · exact h21
      · refine Fr.ite ?_ ?_
        · refine State.coilHot_fr (Fr.sub hm rfl) ?_
          exact h21
        · exact h21

theorem execBankEmergencyOff_fr {a0} {t}
    (hm : 0x401f6000000000000000010000000000000000000000000000001400802040280002000000000000 ||| m = m) (h : Fr m s₀ s)
    (e : execBankEmergencyOff a0 s = .next t) : Fr m s₀ t := by
  unfold execBankEmergencyOff at e
  cases e
  refine State.ship_fr (Fr.sub hm rfl) ?_
  extract_lets +onlyGivenNames x0
  clear_value x0
  refine Fr.ite ?_ ?_
  · exact h
  · extract_lets +onlyGivenNames x1
    clear_value x1
    extract_lets +onlyGivenNames x2
    have h3 : Fr m s₀ x2 := by
      unfold x2
      refine State.bankCmd_fr (Fr.sub hm rfl) ?_
      exact h
    clear_value x2
    refine Fr.ite ?_ ?_
    · refine State.emergencyOff_fr (Fr.sub hm rfl) ?_
      refine State.peaksSeen_fr (Fr.sub hm rfl) ?_
      exact h3
    · refine State.tryRecover_fr (Fr.sub hm rfl) ?_
      exact h3

theorem execBankOpeningEnd_fr {a0 a1 a2} {t}
    (hm : 0x401fa00000000000000001000000000000000000000000000000040880a0402801a2000000000000 ||| m = m) (h : Fr m s₀ s)
    (e : execBankOpeningEnd a0 a1 a2 s = .next t) : Fr m s₀ t := by
  unfold execBankOpeningEnd at e
  cases e
  refine State.ship_fr (Fr.sub hm rfl) ?_
  refine Fr.ite ?_ ?_
  · exact h
  · extract_lets +onlyGivenNames x0
    clear_value x0
    extract_lets +onlyGivenNames x1
    clear_value x1
    extract_lets +onlyGivenNames x2
    have h3 : Fr m s₀ x2 := by
      unfold x2
      refine Fr.set_bank (Fr.bit hm rfl) ?_
      exact h
    clear_value x2
    extract_lets +onlyGivenNames x4
    have h5 : Fr m s₀ x4 := by
      unfold x4
      refine State.put_fr (Fr.sub hm rfl) (Fr.bit hm rfl) ?_
      exact h3
    clear_value x4
    extract_lets +onlyGivenNames x6
    have h7 : Fr m s₀ x6 := by
      unfold x6
      refine Fr.ite ?_ ?_
      · refine State.clampEvent_fr (Fr.sub hm rfl) ?_
        refine State.flag_fr (Fr.sub hm rfl) (Fr.bit hm rfl) ?_
        exact h5
      · exact h5
    clear_value x6
    refine State.bankShow_fr (Fr.sub hm rfl) ?_
    exact h7

theorem execBankEnableOn_fr {a0} {t}
    (hm : 0x400c2000000000000000000000000000000000000000000000000000002040000000000000000000 ||| m = m) (h : Fr m s₀ s)
    (e : execBankEnableOn a0 s = .next t) : Fr m s₀ t := by
  unfold execBankEnableOn at e
  cases e
  refine State.ship_fr (Fr.sub hm rfl) ?_
  refine Fr.ite ?_ ?_
  · exact h
  · extract_lets +onlyGivenNames x0
    clear_value x0
    extract_lets +onlyGivenNames x1
    have h2 : Fr m s₀ x1 := by
      unfold x1
      refine State.bankCmd_fr (Fr.sub hm rfl) ?_
      exact h
    clear_value x1
    refine Fr.ite ?_ ?_
    · refine State.bankShow_fr (Fr.sub hm rfl) ?_
      refine State.bankReturn_fr (Fr.sub hm rfl) ?_
      exact h2
    · exact h2

theorem execBankSwitchTrip_fr {a0 a1 a2 a3 a4 a5} {t}
    (hm : 0x521fec0000000000000001000000000000002000092001000000040880e0402801a2000280000000 ||| m = m) (h : Fr m s₀ s)
    (e : execBankSwitchTrip a0 a1 a2 a3 a4 a5 s = .next t) : Fr m s₀ t := by
  unfold execBankSwitchTrip at e
  cases e
  refine State.ship_fr (Fr.sub hm rfl) ?_
  extract_lets +onlyGivenNames x0
  clear_value x0
  extract_lets +onlyGivenNames x1
  clear_value x1
  refine Fr.ite ?_ ?_
  · exact h
  · extract_lets +onlyGivenNames x2
    clear_value x2
    extract_lets +onlyGivenNames x3
    have h4 : Fr m s₀ x3 := by
      unfold x3
      refine State.peaksSeen_fr (Fr.sub hm rfl) ?_
      refine State.sput_fr (Fr.sub hm rfl) (Fr.bit hm rfl) ?_
      exact h
    clear_value x3
    extract_lets +onlyGivenNames x5
    have h6 : Fr m s₀ x5 := by
      unfold x5
      refine State.flag_fr (Fr.sub hm rfl) ?_ ?_
      · split <;> exact Fr.bit hm rfl
      · exact h4
    clear_value x5
    extract_lets +onlyGivenNames x7
    have h8 : Fr m s₀ x7 := by
      unfold x7
      refine Fr.ite ?_ ?_
      · refine State.flag_fr (Fr.sub hm rfl) (Fr.bit hm rfl) ?_
        exact h6
      · exact h6
    clear_value x7
    extract_lets +onlyGivenNames x9
    have h10 : Fr m s₀ x9 := by
      unfold x9
      refine Fr.ite ?_ ?_
      · refine State.trip_fr (Fr.sub hm rfl) ?_
        exact h8
      · refine State.trip_fr (Fr.sub hm rfl) ?_
        exact h8
    clear_value x9
    refine Fr.ite ?_ ?_
    · exact h10
    · refine State.clampEvent_fr (Fr.sub hm rfl) ?_
      exact h10

theorem execCoilShortCut_fr {a0 a1 a2} {t}
    (hm : 0x521fec0000000000000001000000000000002000092001000000040880a0402801a2000280000000 ||| m = m) (h : Fr m s₀ s)
    (e : execCoilShortCut a0 a1 a2 s = .next t) : Fr m s₀ t := by
  unfold execCoilShortCut at e
  cases e
  refine State.ship_fr (Fr.sub hm rfl) ?_
  extract_lets +onlyGivenNames x0
  clear_value x0
  extract_lets +onlyGivenNames x1
  clear_value x1
  extract_lets +onlyGivenNames x2
  clear_value x2
  refine Fr.ite ?_ ?_
  · extract_lets +onlyGivenNames x3
    clear_value x3
    extract_lets +onlyGivenNames x4
    have h5 : Fr m s₀ x4 := by
      unfold x4
      refine State.peakSeen_fr (Fr.sub hm rfl) ?_
      exact h
    clear_value x4
    extract_lets +onlyGivenNames x6
    have h7 : Fr m s₀ x6 := by
      unfold x6
      refine State.trip_fr (Fr.sub hm rfl) ?_
      refine State.coilFlag_fr (Fr.sub hm rfl) (Fr.bit hm rfl) (Fr.bit hm rfl) ?_
      exact h5
    clear_value x6
    refine Fr.ite ?_ ?_
    · refine State.ctdForced_fr (Fr.sub hm rfl) ?_
      exact h7
    · exact h7
  · exact h

theorem execVlvClrTrip_fr {a0 a1} {t}
    (hm : 0x2401f6800000000000000010000000000000000000000000000001400802040280002000000000000 ||| m = m) (h : Fr m s₀ s)
    (e : execVlvClrTrip a0 a1 s = .next t) : Fr m s₀ t := by
  unfold execVlvClrTrip at e
  cases e
  refine State.ship_fr (Fr.sub hm rfl) ?_
  refine State.asWho_fr (Fr.sub hm rfl) ?_ ?_
  · intro s0 h1
    refine State.runVlvClrTrip_fr (Fr.sub hm rfl) ?_
    exact h1
  · exact h

theorem execContactorCommandRise_fr {a0} {t}
    (hm : 0x40040000000000000000000000000000000000000000000000000000800040000000000000000000 ||| m = m) (h : Fr m s₀ s)
    (e : execContactorCommandRise a0 s = .next t) : Fr m s₀ t := by
  unfold execContactorCommandRise at e
  cases e
  refine State.ship_fr (Fr.sub hm rfl) ?_
  refine Fr.ite ?_ ?_
  · refine State.ctdFollow_fr (Fr.sub hm rfl) ?_
    refine State.coilShow_fr (Fr.sub hm rfl) ?_
    exact h
  · exact h

theorem execContactorCommandFall_fr {a0} {t}
    (hm : 0x401f6000000000000000010000000000000000000000000000001400802040280002000000000000 ||| m = m) (h : Fr m s₀ s)
    (e : execContactorCommandFall a0 s = .next t) : Fr m s₀ t := by
  unfold execContactorCommandFall at e
  cases e
  refine State.ship_fr (Fr.sub hm rfl) ?_
  extract_lets +onlyGivenNames x0
  clear_value x0
  refine Fr.ite ?_ ?_
  · exact h
  · extract_lets +onlyGivenNames x1
    have h2 : Fr m s₀ x1 := by
      unfold x1
      refine State.coilShow_fr (Fr.sub hm rfl) ?_
      exact h
    clear_value x1
    refine Fr.ite ?_ ?_
    · refine State.decay_fr (Fr.sub hm rfl) ?_
      refine State.peakSeen_fr (Fr.sub hm rfl) ?_
      exact h2
    · refine State.tryRecover_fr (Fr.sub hm rfl) ?_
      exact h2

theorem execPullinEnd_fr {a0 a1 a2} {t}
    (hm : 0x40042000000000000000010000000000000000000000000000000000800040000000000000000000 ||| m = m) (h : Fr m s₀ s)
    (e : execPullinEnd a0 a1 a2 s = .next t) : Fr m s₀ t := by
  unfold execPullinEnd at e
  cases e
  refine State.ship_fr (Fr.sub hm rfl) ?_
  extract_lets +onlyGivenNames x0
  clear_value x0
  refine Fr.ite ?_ ?_
  · refine State.put_fr (Fr.sub hm rfl) (Fr.bit hm rfl) ?_
    refine State.peakEnd_fr (Fr.sub hm rfl) ?_
    exact h
  · exact h

theorem execContactorHighSideOpen_fr {a0 a1 a2} {t}
    (hm : 0x401fe00000000000000001000000000000000000000000000000140880a0402801a2000000000000 ||| m = m) (h : Fr m s₀ s)
    (e : execContactorHighSideOpen a0 a1 a2 s = .next t) : Fr m s₀ t := by
  unfold execContactorHighSideOpen at e
  cases e
  refine State.ship_fr (Fr.sub hm rfl) ?_
  extract_lets +onlyGivenNames x0
  clear_value x0
  extract_lets +onlyGivenNames x1
  clear_value x1
  refine Fr.ite ?_ ?_
  · exact h
  · extract_lets +onlyGivenNames x2
    clear_value x2
    extract_lets +onlyGivenNames x3
    have h4 : Fr m s₀ x3 := by
      unfold x3
      refine State.setCoil_fr (Fr.sub hm rfl) ?_
      exact h
    clear_value x3
    refine Fr.ite ?_ ?_
    · refine State.ctdForced_fr (Fr.sub hm rfl) ?_
      exact h4
    · extract_lets +onlyGivenNames x5
      clear_value x5
      extract_lets +onlyGivenNames x6
      have h7 : Fr m s₀ x6 := by
        unfold x6
        refine State.setCoil_fr (Fr.sub hm rfl) ?_
        exact h4
      clear_value x6
      refine Fr.ite ?_ ?_
      · refine State.stageOff_fr (Fr.sub hm rfl) ?_
        exact h7
      · refine Fr.ite ?_ ?_
        · refine State.tryRecover_fr (Fr.sub hm rfl) ?_
          refine State.stageOff_fr (Fr.sub hm rfl) ?_
          exact h7
        · refine State.put_fr (Fr.sub hm rfl) (Fr.bit hm rfl) ?_
          exact h7

theorem execAuxContactCheck_fr {a0 a1} {t}
    (hm : 0x40042000000000000000000000000000000000000000000000000000800000000000000000000000 ||| m = m) (h : Fr m s₀ s)
    (e : execAuxContactCheck a0 a1 s = .next t) : Fr m s₀ t := by
  unfold execAuxContactCheck at e
  cases e
  refine State.ship_fr (Fr.sub hm rfl) ?_
  extract_lets +onlyGivenNames x0
  clear_value x0
  extract_lets +onlyGivenNames x1
  clear_value x1
  refine Fr.ite ?_ ?_
  · exact h
  · refine Fr.ite ?_ ?_
    · refine State.put_fr (Fr.sub hm rfl) (Fr.bit hm rfl) ?_
      exact h
    · extract_lets +onlyGivenNames x2
      have h3 : Fr m s₀ x2 := by
        unfold x2
        refine State.put_fr (Fr.sub hm rfl) (Fr.bit hm rfl) ?_
        exact h
      clear_value x2
      refine Fr.ite ?_ ?_
      · exact h3
      · refine State.raise_fr (Fr.sub hm rfl) ?_
        refine State.setCoil_fr (Fr.sub hm rfl) ?_
        exact h3

end Sys2Proof.Machine
end

