-- ==== Sys2Proof/Laws/FrameAccess.lean ====
section
/-! SUPPORT. Frames (Laws/Frame.lean) of the functions of Machine/Access.lean: one lemma for each, which says by its mask which
registers and which parts of the state the function may change. -/

namespace Sys2Proof.Machine

variable {m : Nat} {s₀ s : State}

theorem State.writeWctl_fr {a1}
    (hm : 0x200000a10000000200000000000000000000000000000000000000000000000000000000000200000 ||| m = m) (h : Fr m s₀ s) :
    Fr m s₀ (State.writeWctl s a1) := by
  unfold State.writeWctl
  split
  · refine State.runCatWctlOpen_fr (Fr.sub hm rfl) ?_
    exact h
  · refine State.runCatWctlClose_fr (Fr.sub hm rfl) ?_
    exact h
  · refine State.runCatWctlCommit_fr (Fr.sub hm rfl) ?_
    exact h
  · refine State.runCatWctlAbort_fr (Fr.sub hm rfl) ?_
    exact h
  · refine State.wctl_fr (Fr.sub hm rfl) ?_ ?_
    · intro s0 h1
      exact h1
    · exact h

theorem State.writeLockStat_fr {a1} {a2 : RegRef} {a3 a4 a5}
    (hm : 0x1f2000000000000000010000000000000000000000000000001400802040280182000000000000 ||| m = m)
    (hp2 : m.testBit a2.reg.ctorIdx = true) (h : Fr m s₀ s) : Fr m s₀ (State.writeLockStat s a1 a2 a3 a4 a5) := by
  unfold State.writeLockStat
  extract_lets +onlyGivenNames x0
  have h1 : Fr m s₀ x0 := by
    unfold x0
    refine State.storeWrite_fr (Fr.sub hm rfl) hp2 ?_
    exact h
  clear_value x0
  refine Fr.ite ?_ ?_
  · refine State.lockClear_fr (Fr.sub hm rfl) ?_
    exact h1
  · exact h1

theorem State.writeCtxCmd_fr {a1 a2}
    (hm : 0x212002c00000000000000000000000000000020000920010000000000000000000000000280000000 ||| m = m) (h : Fr m s₀ s) :
    Fr m s₀ (State.writeCtxCmd s a1 a2) := by
  unfold State.writeCtxCmd
  extract_lets +onlyGivenNames x0
  clear_value x0
  split
  · refine State.runCtxCmdRelease_fr (Fr.sub hm rfl) ?_
    exact h
  · refine State.runCtxCmdQuarantine_fr (Fr.sub hm rfl) ?_
    exact h
  · refine Fr.ite ?_ ?_
    · refine State.reserved_fr (Fr.sub hm rfl) ?_
      exact h
    · exact h

theorem State.writeTxCan_fr {a1 a2 a3}
    (hm : 0x212000c40000000000000000000000000081820000920010000000000000000000000000280000000 ||| m = m) (h : Fr m s₀ s) :
    Fr m s₀ (State.writeTxCan s a1 a2 a3) := by
  unfold State.writeTxCan
  refine Fr.ite ?_ ?_
  · split
    rename_i y0 y1 y2 y3
    refine Fr.cutp y3 ?_ (fun h4 => ?_)
    · refine State.takeFree_fr (Fr.sub hm rfl) ?_
      exact h
    refine State.runCanTxCancel_fr (Fr.sub hm rfl) ?_
    exact h4
  · refine State.runCanTxCancel_fr (Fr.sub hm rfl) ?_
    exact h

theorem State.writeFltCmd_fr {a1 a2}
    (hm : 0x2000008100000000000000c0000000000000000000000000000000000000000000000000000000000 ||| m = m) (h : Fr m s₀ s) :
    Fr m s₀ (State.writeFltCmd s a1 a2) := by
  unfold State.writeFltCmd
  refine Fr.ite ?_ ?_
  · refine State.reserved_fr (Fr.sub hm rfl) ?_
    exact h
  · extract_lets +onlyGivenNames x0
    have h1 : Fr m s₀ x0 := by
      unfold x0
      refine Fr.ite ?_ ?_
      · refine State.runFltCmdClrlog_fr (Fr.sub hm rfl) ?_
        exact h
      · exact h
    clear_value x0
    refine Fr.ite ?_ ?_
    · refine State.runFltCmdClrlost_fr (Fr.sub hm rfl) ?_
      exact h1
    · exact h1

theorem State.writeFltInj_fr {a1 a2}
    (hm : 0x200002800000000000000810000000000000000000000000000000000000000000000000000000000 ||| m = m) (h : Fr m s₀ s) :
    Fr m s₀ (State.writeFltInj s a1 a2) := by
  unfold State.writeFltInj
  split
  · refine State.runFltInjLive_fr (Fr.sub hm rfl) ?_
    exact h
  · refine State.runFltInjDry_fr (Fr.sub hm rfl) ?_
    exact h
  · refine State.runFltInjEnd_fr (Fr.sub hm rfl) ?_
    exact h

theorem State.writeTstCmd_fr {a1 a2}
    (hm : 0x200002800000000000100000000000000000000000000000000000000000000000000000000000000 ||| m = m) (h : Fr m s₀ s) :
    Fr m s₀ (State.writeTstCmd s a1 a2) := by
  unfold State.writeTstCmd
  split
  · refine State.runTstCmdSelfTestA_fr (Fr.sub hm rfl) ?_
    exact h
  · refine State.runTstCmdSelfTestB_fr (Fr.sub hm rfl) ?_
    exact h
  · refine State.runTstCmdCompareTest_fr (Fr.sub hm rfl) ?_
    exact h
  · refine State.runTstCmdForcePathTest_fr (Fr.sub hm rfl) ?_
    exact h
  · exact h

theorem State.writeKeyCmd_fr {a1 a2}
    (hm : 0x280002840000660a00000000000000000000000000000000000000000000000000000000000000000 ||| m = m) (h : Fr m s₀ s) :
    Fr m s₀ (State.writeKeyCmd s a1 a2) := by
  unfold State.writeKeyCmd
  extract_lets +onlyGivenNames x0
  clear_value x0
  extract_lets +onlyGivenNames x1
  clear_value x1
  extract_lets +onlyGivenNames x2
  clear_value x2
  extract_lets +onlyGivenNames x3
  clear_value x3
  refine Fr.ite ?_ ?_
  · refine State.reserved_fr (Fr.sub hm rfl) ?_
    exact h
  · split
    · refine State.runKeyCmdApply_fr (Fr.sub hm rfl) ?_
      exact h
    · refine State.runKeyCmdPlainwr_fr (Fr.sub hm rfl) ?_
      exact h
    · refine State.runKeyCmdImgkey_fr (Fr.sub hm rfl) ?_
      exact h
    · refine State.runKeyCmdSvcchal_fr (Fr.sub hm rfl) ?_
      exact h
    · refine State.runKeyCmdSvcauth_fr (Fr.sub hm rfl) ?_
      exact h
    · refine State.runKeyCmdClrcache_fr (Fr.sub hm rfl) ?_
      exact h
    · exact h

theorem State.writeKeyData_fr {a1} {a2 : RegRef} {a3 a4}
    (hm : 0x200000800000000000000000000000000000000000000000000000000000000000000000000000000 ||| m = m)
    (hp2 : m.testBit a2.reg.ctorIdx = true) (h : Fr m s₀ s) : Fr m s₀ (State.writeKeyData s a1 a2 a3 a4) := by
  unfold State.writeKeyData
  refine Fr.ite ?_ ?_
  · refine State.reserved_fr (Fr.sub hm rfl) ?_
    exact h
  · refine State.setReg_fr hp2 ?_
    exact h

theorem State.writeReg_fr {a1} {a2 : RegRef} {a3}
    (hm : 0xffedf7fd1ffffffffffffffffffffffffffffffffffffffffffffffffffffffffffffffffffffffff ||| m = m)
    (hp2 : m.testBit a2.reg.ctorIdx = true) (h : Fr m s₀ s) : Fr m s₀ (State.writeReg s a1 a2 a3) := by
  unfold State.writeReg
  extract_lets +onlyGivenNames x0
  split
  · unfold x0
    refine State.accept_fr (Fr.sub hm rfl) ?_ ?_
    · intro s1 h2
      refine State.runModeRequest_fr (Fr.sub hm rfl) ?_
      exact h2
    · exact h
  · unfold x0
    refine State.accept_fr (Fr.sub hm rfl) ?_ ?_
    · intro s3 h4
      refine State.runSysRstcmd_fr (Fr.sub hm rfl) ?_
      exact h4
    · exact h
  · unfold x0
    refine State.accept_fr (Fr.sub hm rfl) ?_ ?_
    · intro s5 h6
      refine State.writeWctl_fr (Fr.sub hm rfl) ?_
      exact h6
    · exact h
  · split
    · refine State.runFabLwr_fr (Fr.sub hm rfl) ?_
      exact h
    · unfold x0
      refine State.accept_fr (Fr.sub hm rfl) ?_ ?_
      · intro s7 h8
        unfold id
        exact h8
      · exact h
  · split
    · refine State.runFabLwrg_fr (Fr.sub hm rfl) ?_
      exact h
    · unfold x0
      refine State.accept_fr (Fr.sub hm rfl) ?_ ?_
      · intro s9 h10
        unfold id
        exact h10
      · exact h
  · split
    · refine State.runPuPdWrite_fr (Fr.sub hm rfl) ?_
      exact h
    · unfold x0
      refine State.accept_fr (Fr.sub hm rfl) ?_ ?_
      · intro s11 h12
        unfold id
        exact h12
      · exact h
  · split
    · refine State.runDocWdkick_fr (Fr.sub hm rfl) ?_
      exact h
    · unfold x0
      refine State.accept_fr (Fr.sub hm rfl) ?_ ?_
      · intro s13 h14
        unfold id
        exact h14
      · exact h
  · refine State.runHswLockClear_fr (Fr.sub hm rfl) ?_
    exact h
  · refine State.runHswLockClear_fr (Fr.sub hm rfl) ?_
    exact h
  · unfold x0
    refine State.accept_fr (Fr.sub hm rfl) ?_ ?_
    · intro s15 h16
      refine Fr.onlyIf ?_ ?_
      · intro s17 h18
        refine State.runHswClrTrip_fr (Fr.sub hm rfl) ?_
        exact h18
      · exact h16
    · exact h
  · refine State.runHbrTgtWrite_fr (Fr.sub hm rfl) ?_
    exact h
  · refine State.runHbrPosset_fr (Fr.sub hm rfl) ?_
    exact h
  · refine State.runHbrSflt_fr (Fr.sub hm rfl) ?_
    exact h
  · unfold x0
    refine State.accept_fr (Fr.sub hm rfl) ?_ ?_
    · intro s19 h20
      refine Fr.onlyIf ?_ ?_
      · intro s21 h22
        refine State.runHbrClrStop_fr (Fr.sub hm rfl) ?_
        exact h22
      · refine Fr.onlyIf ?_ ?_
        · intro s23 h24
          refine State.runHbrClrTrip_fr (Fr.sub hm rfl) ?_
          exact h24
        · exact h20
    · exact h
  · unfold x0
    refine State.accept_fr (Fr.sub hm rfl) ?_ ?_
    · intro s25 h26
      refine Fr.onlyIf ?_ ?_
      · intro s27 h28
        refine State.runVlvClrTrip_fr (Fr.sub hm rfl) ?_
        exact h28
      · exact h26
    · exact h
  · unfold x0
    refine State.accept_fr (Fr.sub hm rfl) ?_ ?_
    · intro s29 h30
      refine Fr.onlyIf ?_ ?_
      · intro s31 h32
        refine State.runVlvClrTrip_fr (Fr.sub hm rfl) ?_
        exact h32
      · exact h30
    · exact h
  · unfold x0
    refine State.accept_fr (Fr.sub hm rfl) ?_ ?_
    · intro s33 h34
      refine Fr.onlyIf ?_ ?_
      · intro s35 h36
        refine State.runVlvClrTrip_fr (Fr.sub hm rfl) ?_
        exact h36
      · exact h34
    · exact h
  · unfold x0
    refine State.accept_fr (Fr.sub hm rfl) ?_ ?_
    · intro s37 h38
      refine State.writeLockStat_fr (Fr.sub hm rfl) hp2 ?_
      exact h38
    · exact h
  · unfold x0
    refine State.accept_fr (Fr.sub hm rfl) ?_ ?_
    · intro s39 h40
      refine State.writeLockStat_fr (Fr.sub hm rfl) hp2 ?_
      exact h40
    · exact h
  · refine State.runLedLevelWrite_fr (Fr.sub hm rfl) ?_
    exact h
  · unfold x0
    refine State.accept_fr (Fr.sub hm rfl) ?_ ?_
    · intro s41 h42
      refine Fr.onlyIf ?_ ?_
      · intro s43 h44
        refine State.runLedClrDacrst_fr (Fr.sub hm rfl) ?_
        exact h44
      · refine Fr.onlyIf ?_ ?_
        · intro s45 h46
          refine State.runLedClrTrip_fr (Fr.sub hm rfl) ?_
          exact h46
        · exact h42
    · exact h
  · unfold x0
    refine State.accept_fr (Fr.sub hm rfl) ?_ ?_
    · intro s47 h48
      refine Fr.onlyIf ?_ ?_
      · intro s49 h50
        refine State.runLchCtlDisc_fr (Fr.sub hm rfl) ?_
        exact h50
      · refine Fr.onlyIf ?_ ?_
        · intro s51 h52
          refine State.runLchCtlSwap_fr (Fr.sub hm rfl) ?_
          exact h52
        · exact h48
    · exact h
  · unfold x0
    refine State.accept_fr (Fr.sub hm rfl) ?_ ?_
    · intro s53 h54
      refine State.writeCtxCmd_fr (Fr.sub hm rfl) ?_
      exact h54
    · exact h
  · unfold x0
    refine State.accept_fr (Fr.sub hm rfl) ?_ ?_
    · intro s55 h56
      refine Fr.onlyIf ?_ ?_
      · intro s57 h58
        refine State.runCanCmdClrlonely_fr (Fr.sub hm rfl) ?_
        exact h58
      · refine Fr.onlyIf ?_ ?_
        · intro s59 h60
          refine State.runCanCmdRecover_fr (Fr.sub hm rfl) ?_
          exact h60
        · exact h56
    · exact h
  · refine State.runCanRxpop_fr (Fr.sub hm rfl) ?_
    exact h
  · refine State.runCanTxRequest_fr (Fr.sub hm rfl) ?_
    exact h
  · refine State.writeTxCan_fr (Fr.sub hm rfl) ?_
    exact h
  · refine State.runCanTxBufferWrite_fr (Fr.sub hm rfl) ?_
    exact h
  · refine State.runLinSchedWrite_fr (Fr.sub hm rfl) ?_
    exact h
  · unfold x0
    refine State.accept_fr (Fr.sub hm rfl) ?_ ?_
    · intro s61 h62
      refine Fr.onlyIf ?_ ?_
      · intro s63 h64
        refine State.runLinCmdWake_fr (Fr.sub hm rfl) ?_
        exact h64
      · exact h62
    · exact h
  · refine State.runLinDataWrite_fr (Fr.sub hm rfl) ?_
    exact h
  · refine State.runLinDataWrite_fr (Fr.sub hm rfl) ?_
    exact h
  · refine State.runLinDataWrite_fr (Fr.sub hm rfl) ?_
    exact h
  · refine State.runNmCtlWrite_fr (Fr.sub hm rfl) ?_
    exact h
  · unfold x0
    refine State.accept_fr (Fr.sub hm rfl) ?_ ?_
    · intro s65 h66
      refine Fr.onlyIf ?_ ?_
      · intro s67 h68
        refine State.runNmCmdWake_fr (Fr.sub hm rfl) ?_
        exact h68
      · exact h66
    · exact h
  · unfold x0
    refine State.accept_fr (Fr.sub hm rfl) ?_ ?_
    · intro s69 h70
      split
      · refine State.runPwrPrcmdReturn_fr (Fr.sub hm rfl) ?_
        exact h70
      · refine State.runPwrPrcmdForce_fr (Fr.sub hm rfl) ?_
        exact h70
      · exact h70
    · exact h
  · unfold x0
    refine State.accept_fr (Fr.sub hm rfl) ?_ ?_
    · intro s71 h72
      split
      · refine State.runTwnCmdFailback_fr (Fr.sub hm rfl) ?_
        exact h72
      · refine State.runTwnCmdResync_fr (Fr.sub hm rfl) ?_
        exact h72
      · exact h72
    · exact h
  · unfold x0
    refine State.accept_fr (Fr.sub hm rfl) ?_ ?_
    · intro s73 h74
      refine State.writeFltCmd_fr (Fr.sub hm rfl) ?_
      exact h74
    · exact h
  · unfold x0
    refine State.accept_fr (Fr.sub hm rfl) ?_ ?_
    · intro s75 h76
      refine State.runFltAttnAck_fr (Fr.sub hm rfl) ?_
      exact h76
    · exact h
  · unfold x0
    refine State.accept_fr (Fr.sub hm rfl) ?_ ?_
    · intro s77 h78
      refine State.writeFltInj_fr (Fr.sub hm rfl) ?_
      exact h78
    · exact h
  · unfold x0
    refine State.accept_fr (Fr.sub hm rfl) ?_ ?_
    · intro s79 h80
      refine Fr.onlyIf ?_ ?_
      · intro s81 h82
        refine State.runFltRgcmdRelease_fr (Fr.sub hm rfl) ?_
        exact h82
      · exact h80
    · exact h
  · unfold x0
    refine State.accept_fr (Fr.sub hm rfl) ?_ ?_
    · intro s83 h84
      refine State.writeTstCmd_fr (Fr.sub hm rfl) ?_
      exact h84
    · exact h
  · unfold x0
    refine State.accept_fr (Fr.sub hm rfl) ?_ ?_
    · intro s85 h86
      refine State.writeKeyCmd_fr (Fr.sub hm rfl) ?_
      exact h86
    · exact h
  · split
    · refine State.runKeyTcfgWrite_fr (Fr.sub hm rfl) ?_
      exact h
    · unfold x0
      refine State.accept_fr (Fr.sub hm rfl) ?_ ?_
      · intro s87 h88
        unfold id
        exact h88
      · exact h
  · unfold x0
    refine State.accept_fr (Fr.sub hm rfl) ?_ ?_
    · intro s89 h90
      refine State.runKeyOpgo_fr (Fr.sub hm rfl) ?_
      exact h90
    · exact h
  · unfold x0
    refine State.accept_fr (Fr.sub hm rfl) ?_ ?_
    · intro s91 h92
      refine State.writeKeyData_fr (Fr.sub hm rfl) hp2 ?_
      exact h92
    · exact h
  · unfold x0
    refine State.accept_fr (Fr.sub hm rfl) ?_ ?_
    · intro s93 h94
      refine State.writeKeyData_fr (Fr.sub hm rfl) hp2 ?_
      exact h94
    · exact h
  · unfold x0
    refine State.accept_fr (Fr.sub hm rfl) ?_ ?_
    · intro s95 h96
      refine State.writeKeyData_fr (Fr.sub hm rfl) hp2 ?_
      exact h96
    · exact h
  · split
    · refine State.runCalValWrite_fr (Fr.sub hm rfl) ?_
      exact h
    · unfold x0
      refine State.accept_fr (Fr.sub hm rfl) ?_ ?_
      · intro s97 h98
        unfold id
        exact h98
      · exact h
  · unfold x0
    refine State.accept_fr (Fr.sub hm rfl) ?_ ?_
    · intro s99 h100
      refine State.storeWrite_fr (Fr.sub hm rfl) hp2 ?_
      exact h100
    · exact h

theorem State.rsvdRead_fr (hm : 0x200000800000000000000000000000000000000000000000000000000000000000000000000000000 ||| m = m)
    (h : Fr m s₀ s) : Fr m s₀ (State.rsvdRead s).2 := by
  unfold State.rsvdRead
  refine Fr.mk2 ?_
  refine State.reserved_fr (Fr.sub hm rfl) ?_
  exact h

theorem State.readReg_fr {a1} {a2 : RegRef}
    (hm : 0x207000800000000000000000000000000000020000000000000000000000000000000000000000000 ||| m = m) (h : Fr m s₀ s) :
    Fr m s₀ (State.readReg s a1 a2).2 := by
  unfold State.readReg
  split
  · extract_lets +onlyGivenNames x0
    have h1 : Fr m s₀ x0 := by
      unfold x0
      refine State.runCanRxdRead_fr (Fr.sub hm rfl) ?_
      exact h
    clear_value x0
    refine Fr.mk2 ?_
    exact h1
  · extract_lets +onlyGivenNames x2
    have h3 : Fr m s₀ x2 := by
      unfold x2
      refine State.runLinDataRead_fr (Fr.sub hm rfl) ?_
      exact h
    clear_value x2
    refine Fr.mk2 ?_
    exact h3
  · extract_lets +onlyGivenNames x4
    have h5 : Fr m s₀ x4 := by
      unfold x4
      refine State.runLinDataRead_fr (Fr.sub hm rfl) ?_
      exact h
    clear_value x4
    refine Fr.mk2 ?_
    exact h5
  · extract_lets +onlyGivenNames x6
    have h7 : Fr m s₀ x6 := by
      unfold x6
      refine State.runLinDataRead_fr (Fr.sub hm rfl) ?_
      exact h
    clear_value x6
    refine Fr.mk2 ?_
    exact h7
  · refine Fr.mk2 ?_
    exact h

theorem State.hostRead_fr {a1}
    (hm : 0x207000800000000000000000000000000000020000000000000000000000000000000000000000000 ||| m = m) (h : Fr m s₀ s) :
    Fr m s₀ (State.hostRead s a1).2 := by
  unfold State.hostRead
  refine Fr.ite2 ?_ ?_
  · refine State.rsvdRead_fr (Fr.sub hm rfl) ?_
    exact h
  · refine Fr.ite2 ?_ ?_
    · split
      · refine State.rsvdRead_fr (Fr.sub hm rfl) ?_
        exact h
      · extract_lets +onlyGivenNames x0
        clear_value x0
        refine Fr.ite2 ?_ ?_
        · refine State.rsvdRead_fr (Fr.sub hm rfl) ?_
          exact h
        · refine State.readReg_fr (Fr.sub hm rfl) ?_
          exact h
    · refine Fr.ite2 ?_ ?_
      · refine Fr.mk2 ?_
        exact h
      · refine Fr.ite2 ?_ ?_
        · refine Fr.mk2 ?_
          exact h
        · refine State.rsvdRead_fr (Fr.sub hm rfl) ?_
          exact h

theorem State.hostWrite_fr {a1 a2}
    (hm : 0xffedf7fd1ffffffffffffffffffffffffffffffffffffffffffffffffffffffffffffffffffffffff ||| m = m) (h : Fr m s₀ s) :
    Fr m s₀ (State.hostWrite s a1 a2) := by
  unfold State.hostWrite
  refine Fr.ite ?_ ?_
  · refine State.reserved_fr (Fr.sub hm rfl) ?_
    exact h
  · refine Fr.ite ?_ ?_
    · split
      · refine State.reserved_fr (Fr.sub hm rfl) ?_
        exact h
      · refine Fr.ite ?_ ?_
        · refine State.reserved_fr (Fr.sub hm rfl) ?_
          exact h
        · refine State.writeReg_fr (Fr.sub hm rfl) (Fr.all hm rfl _) ?_
          exact h
    · refine Fr.ite ?_ ?_
      · refine State.setWord_fr (Fr.sub hm rfl) ?_
        exact h
      · refine Fr.ite ?_ ?_
        · refine State.runSlotWordWrite_fr (Fr.sub hm rfl) ?_
          exact h
        · refine State.reserved_fr (Fr.sub hm rfl) ?_
          exact h

theorem State.crossing_fr {a1 a2 a3}
    (hm : 0x2000000000000000000000000000000000000000000000000000000000000000000000000000 ||| m = m) (h : Fr m s₀ s) :
    Fr m s₀ (State.crossing s a1 a2 a3) := by
  unfold State.crossing
  refine State.raise_fr (Fr.sub hm rfl) ?_
  exact h

theorem State.windowLost_fr {a1} {a2 : RegRef}
    (hm : 0x2840000000000000000000000000000000000000000000000000000000000000000000000000 ||| m = m) (h : Fr m s₀ s) :
    Fr m s₀ (State.windowLost s a1 a2) := by
  unfold State.windowLost
  split
  rename_i y0 y1 y2 y3
  refine Fr.cutp y3 ?_ (fun h4 => ?_)
  · refine Fr.ite2 ?_ ?_
    · refine State.takeFree_fr (Fr.sub hm rfl) ?_
      exact h
    · refine Fr.mk2 ?_
      exact h
  extract_lets +onlyGivenNames x5
  clear_value x5
  refine State.crossing_fr (Fr.sub hm rfl) ?_
  refine State.ptmo_fr (Fr.sub hm rfl) ?_
  exact h4

theorem State.ctxWrite_fr {a1 a2 a3}
    (hm : 0xffedf7fd1ffffffffffffffffffffffffffffffffffffffffffffffffffffffffffffffffffffffff ||| m = m) (h : Fr m s₀ s) :
    Fr m s₀ (State.ctxWrite s a1 a2 a3) := by
  unfold State.ctxWrite
  split
  · exact h
  · refine Fr.ite ?_ ?_
    · refine State.writeReg_fr (Fr.sub hm rfl) (Fr.all hm rfl _) ?_
      exact h
    · refine State.windowLost_fr (Fr.sub hm rfl) ?_
      exact h

theorem State.ctxRead_fr {a1 a2}
    (hm : 0x207002840000000000000000000000000000020000000000000000000000000000000000000000000 ||| m = m) (h : Fr m s₀ s) :
    Fr m s₀ (State.ctxRead s a1 a2).2 := by
  unfold State.ctxRead
  split
  · refine Fr.mk2 ?_
    exact h
  · refine Fr.ite2 ?_ ?_
    · refine State.readReg_fr (Fr.sub hm rfl) ?_
      exact h
    · refine Fr.mk2 ?_
      refine State.windowLost_fr (Fr.sub hm rfl) ?_
      exact h

theorem State.dropRequest_fr {a1 a2}
    (hm : 0x2c00000000000000000000000000000000000000000000000000000000000000000000000000 ||| m = m) (h : Fr m s₀ s) :
    Fr m s₀ (State.dropRequest s a1 a2) := by
  unfold State.dropRequest
  refine Fr.ite ?_ ?_
  · extract_lets +onlyGivenNames x0
    extract_lets +onlyGivenNames x1
    clear_value x1
    split
    · refine State.ptmo_fr (Fr.sub hm rfl) ?_
      refine State.setCore_fr (Fr.sub hm rfl) ?_
      exact h
    · exact h
  · refine Fr.ite ?_ ?_
    · refine Fr.set_fab (Fr.bit hm rfl) ?_
      exact h
    · refine Fr.ite ?_ ?_
      · refine Fr.set_flt (Fr.bit hm rfl) ?_
        exact h
      · exact h

theorem execRegisterWrite_fr {a0 a1 a2} {t}
    (hm : 0xffedf7fd1ffffffffffffffffffffffffffffffffffffffffffffffffffffffffffffffffffffffff ||| m = m) (h : Fr m s₀ s)
    (e : execRegisterWrite a0 a1 a2 s = .next t) : Fr m s₀ t := by
  unfold execRegisterWrite at e
  cases e
  refine State.ship_fr (Fr.sub hm rfl) ?_
  split
  · refine Fr.ite ?_ ?_
    · refine State.hostWrite_fr (Fr.sub hm rfl) ?_
      exact h
    · exact h
  · refine Fr.ite ?_ ?_
    · refine State.ctxWrite_fr (Fr.sub hm rfl) ?_
      exact h
    · exact h

theorem execCrossingTimeout_fr {a0 a1 a2} {t}
    (hm : 0x40002c00000000000000000000000000000000000000000000000000000000000000000000000000 ||| m = m) (h : Fr m s₀ s)
    (e : execCrossingTimeout a0 a1 a2 s = .next t) : Fr m s₀ t := by
  unfold execCrossingTimeout at e
  cases e
  refine State.ship_fr (Fr.sub hm rfl) ?_
  refine Fr.ite ?_ ?_
  · refine State.crossing_fr (Fr.sub hm rfl) ?_
    refine State.dropRequest_fr (Fr.sub hm rfl) ?_
    exact h
  · exact h

end Sys2Proof.Machine
end

