-- ==== Sys2Proof/Laws/FrameEth.lean ====
section
/-! SUPPORT. Frames (Laws/Frame.lean) of the functions of Machine/Eth.lean: one lemma for each, which says by its mask which
registers and which parts of the state the function may change. -/

namespace Sys2Proof.Machine

variable {m : Nat} {s₀ s : State}

theorem execEthFrameReceived_fr {a0 a1 a2} {t}
    (hm : 0x48002000000000000000000000000800000000000000000000000000000000000000000000000000 ||| m = m) (h : Fr m s₀ s)
    (e : execEthFrameReceived a0 a1 a2 s = .next t) : Fr m s₀ t := by
  unfold execEthFrameReceived at e
  cases e
  refine State.ship_fr (Fr.sub hm rfl) ?_
  refine Fr.ite ?_ ?_
  · refine State.ethForward_fr (Fr.sub hm rfl) ?_
    exact h
  · exact h

theorem execEthLinkChange_fr {a0 a1} {t}
    (hm : 0x40002000000000000000000000000800000000000000000000000000000000000000000000000000 ||| m = m) (h : Fr m s₀ s)
    (e : execEthLinkChange a0 a1 s = .next t) : Fr m s₀ t := by
  unfold execEthLinkChange at e
  cases e
  refine State.ship_fr (Fr.sub hm rfl) ?_
  refine Fr.ite ?_ ?_
  · exact h
  · refine Fr.ite ?_ ?_
    · refine State.raise_fr (Fr.sub hm rfl) ?_
      refine State.flag_fr (Fr.sub hm rfl) (Fr.bit hm rfl) ?_
      exact h
    · refine Fr.ite ?_ ?_
      · refine State.raiseCond_fr (Fr.sub hm rfl) ?_
        refine State.flag_fr (Fr.sub hm rfl) (Fr.bit hm rfl) ?_
        exact h
      · exact h

theorem execPlcaBeaconLost_fr {a0} {t}
    (hm : 0x48002000000000000000000000000000000000000000000000000000000000000000000000000000 ||| m = m) (h : Fr m s₀ s)
    (e : execPlcaBeaconLost a0 s = .next t) : Fr m s₀ t := by
  unfold execPlcaBeaconLost at e
  cases e
  refine State.ship_fr (Fr.sub hm rfl) ?_
  refine Fr.ite ?_ ?_
  · refine State.raiseCond_fr (Fr.sub hm rfl) ?_
    refine Fr.set_eth (Fr.bit hm rfl) ?_
    exact h
  · exact h

theorem execSyncMessageReceived_fr {a0 a1} {t}
    (hm : 0x48002040000000000000010000008000000000000000000000000000000000000000000000000000 ||| m = m) (h : Fr m s₀ s)
    (e : execSyncMessageReceived a0 a1 s = .next t) : Fr m s₀ t := by
  unfold execSyncMessageReceived at e
  cases e
  refine State.ship_fr (Fr.sub hm rfl) ?_
  refine Fr.ite ?_ ?_
  · split
    rename_i y0 y1 y2 y3
    refine Fr.cutp y3 ?_ (fun h4 => ?_)
    · refine State.takeFree_fr (Fr.sub hm rfl) ?_
      exact h
    extract_lets +onlyGivenNames x5
    clear_value x5
    extract_lets +onlyGivenNames x6
    have h7 : Fr m s₀ x6 := by
      unfold x6
      refine Fr.set_eth (Fr.bit hm rfl) ?_
      exact h4
    clear_value x6
    refine State.clearSrc_fr (Fr.sub hm rfl) ?_
    refine State.flag_fr (Fr.sub hm rfl) (Fr.bit hm rfl) ?_
    refine State.sput_fr (Fr.sub hm rfl) (Fr.bit hm rfl) ?_
    exact h7
  · exact h

theorem execSyncLost_fr {t}
    (hm : 0x40002000000000000000000000008000000000000000000000000000000000000000000000000000 ||| m = m) (h : Fr m s₀ s)
    (e : execSyncLost s = .next t) : Fr m s₀ t := by
  unfold execSyncLost at e
  cases e
  refine State.ship_fr (Fr.sub hm rfl) ?_
  refine Fr.ite ?_ ?_
  · refine State.raiseCond_fr (Fr.sub hm rfl) ?_
    refine State.flag_fr (Fr.sub hm rfl) (Fr.bit hm rfl) ?_
    exact h
  · exact h

theorem execTalkerPduSend_fr {a0 a1} {t}
    (hm : 0x48002000000000000000000000000800000000000000000000000000000000000000000000000000 ||| m = m) (h : Fr m s₀ s)
    (e : execTalkerPduSend a0 a1 s = .next t) : Fr m s₀ t := by
  unfold execTalkerPduSend at e
  cases e
  refine State.ship_fr (Fr.sub hm rfl) ?_
  refine Fr.ite ?_ ?_
  · refine State.talkSend_fr (Fr.sub hm rfl) ?_
    exact h
  · exact h

theorem execListenerPduReceived_fr {a0 a1 a2} {t}
    (hm : 0x4a002000000000000000000000000a06000000000000000000000000000000000000000000000000 ||| m = m) (h : Fr m s₀ s)
    (e : execListenerPduReceived a0 a1 a2 s = .next t) : Fr m s₀ t := by
  unfold execListenerPduReceived at e
  cases e
  refine State.ship_fr (Fr.sub hm rfl) ?_
  refine Fr.ite ?_ ?_
  · extract_lets +onlyGivenNames x0
    clear_value x0
    refine State.acfWalk_fr (Fr.sub hm rfl) ?_
    exact h
  · exact h

theorem execEthLinkUp_fr {a0 a1} {t}
    (hm : 0x40002000000000000000010000000800000000000000000000000000000000000000000000000000 ||| m = m) (h : Fr m s₀ s)
    (e : execEthLinkUp a0 a1 s = .next t) : Fr m s₀ t := by
  unfold execEthLinkUp at e
  cases e
  refine State.ship_fr (Fr.sub hm rfl) ?_
  refine Fr.ite ?_ ?_
  · refine State.clearSrc_fr (Fr.sub hm rfl) ?_
    refine State.put_fr (Fr.sub hm rfl) (Fr.bit hm rfl) ?_
    refine State.flag_fr (Fr.sub hm rfl) (Fr.bit hm rfl) ?_
    exact h
  · exact h

theorem execPlcaBeaconReturn_fr {a0} {t}
    (hm : 0x48002000000000000000010000000000000000000000000000000000000000000000000000000000 ||| m = m) (h : Fr m s₀ s)
    (e : execPlcaBeaconReturn a0 s = .next t) : Fr m s₀ t := by
  unfold execPlcaBeaconReturn at e
  cases e
  refine State.ship_fr (Fr.sub hm rfl) ?_
  refine Fr.ite ?_ ?_
  · refine State.clearSrc_fr (Fr.sub hm rfl) ?_
    refine Fr.set_eth (Fr.bit hm rfl) ?_
    exact h
  · exact h

end Sys2Proof.Machine
end

