-- ==== Sys2Proof/Laws/FrameHost.lean ====
section
/-! SUPPORT. Frames (Laws/Frame.lean) of the functions of Machine/Host.lean: one lemma for each, which says by its mask which
registers and which parts of the state the function may change. -/

namespace Sys2Proof.Machine

variable {m : Nat} {s₀ s : State}

theorem State.asMgmt_fr {a1 : Sys2Proof.Machine.State → Sys2Proof.Machine.State}
    (hm : 0x600000000000000000000000000000000000000000000000000000000000000000000000000000000 ||| m = m)
    (hf1 : ∀ s, Fr m s₀ s → Fr m s₀ (a1 s)) (h : Fr m s₀ s) : Fr m s₀ (State.asMgmt s a1) := by
  unfold State.asMgmt
  extract_lets +onlyGivenNames x0
  clear_value x0
  extract_lets +onlyGivenNames x1
  clear_value x1
  extract_lets +onlyGivenNames x2
  have h3 : Fr m s₀ x2 := by
    unfold x2
    refine hf1 _ ?_
    refine Fr.set_spi (Fr.bit hm rfl) ?_
    exact h
  clear_value x2
  refine Fr.ite ?_ ?_
  · refine Fr.upd (s := x2) (h_spi := Fr.no (Fr.bit hm rfl)) (h_mgmt := Fr.no (Fr.bit hm rfl)) ?_
    exact h3
  · exact h3

theorem State.frameEnd_fr {a1 a2}
    (hm : 0x200000000010000000000000000000000000000000000000000000000000000000000000000000000 ||| m = m) (h : Fr m s₀ s) :
    Fr m s₀ (State.frameEnd s a1 a2) := by
  unfold State.frameEnd
  extract_lets +onlyGivenNames x0
  have h1 : Fr m s₀ x0 := by
    unfold x0
    refine State.wrap_fr (Fr.sub hm rfl) (Fr.bit hm rfl) ?_
    exact h
  clear_value x0
  extract_lets +onlyGivenNames x2
  clear_value x2
  extract_lets +onlyGivenNames x3
  have h4 : Fr m s₀ x3 := by
    unfold x3
    refine Fr.ite ?_ ?_
    · refine State.count_fr (Fr.sub hm rfl) (Fr.bit hm rfl) ?_
      refine Fr.set_spi (Fr.bit hm rfl) ?_
      exact h1
    · exact h1
  clear_value x3
  refine Fr.ite ?_ ?_
  · refine State.count_fr (Fr.sub hm rfl) (Fr.bit hm rfl) ?_
    exact h4
  · exact h4

theorem State.hostOut_fr {a1}
    (hm : 0x200000000000000000000000000000000000000000000000000000000000000000000000000000000 ||| m = m) (h : Fr m s₀ s) :
    Fr m s₀ (State.hostOut s a1) := by
  unfold State.hostOut
  refine Fr.set_spi (Fr.bit hm rfl) ?_
  exact h

theorem State.crcFrame_fr {a1 a2 a3}
    (hm : 0x200000000010000000000000000000000000000000000000000000000000000000000000000000000 ||| m = m) (h : Fr m s₀ s) :
    Fr m s₀ (State.crcFrame s a1 a2 a3) := by
  unfold State.crcFrame
  extract_lets +onlyGivenNames x0
  clear_value x0
  extract_lets +onlyGivenNames x1
  clear_value x1
  extract_lets +onlyGivenNames x2
  clear_value x2
  refine State.frameEnd_fr (Fr.sub hm rfl) ?_
  refine State.hostOut_fr (Fr.sub hm rfl) ?_
  exact h

theorem State.hostEcc_fr {a1 a2}
    (hm : 0x3000000000000000000000000000000000058000000000000000000000000000000000000000 ||| m = m) (h : Fr m s₀ s) :
    Fr m s₀ (State.hostEcc s a1 a2) := by
  unfold State.hostEcc
  split
  · exact h
  · refine Fr.ite ?_ ?_
    · exact h
    · extract_lets +onlyGivenNames x0
      have h1 : Fr m s₀ x0 := by
        unfold x0
        refine State.eccEvent_fr (Fr.sub hm rfl) ?_
        exact h
      clear_value x0
      refine Fr.ite ?_ ?_
      · refine State.eccReport_fr (Fr.sub hm rfl) ?_
        exact h1
      · exact h1

theorem State.hostWarn_fr {a1}
    (hm : 0x200000000000000000000000000000000000000020000000000000000000000000000000000000000 ||| m = m) (h : Fr m s₀ s) :
    Fr m s₀ (State.hostWarn s a1) := by
  unfold State.hostWarn
  split
  · refine Fr.ite ?_ ?_
    · refine State.count_fr (Fr.sub hm rfl) (Fr.bit hm rfl) ?_
      refine Fr.set_spi (Fr.bit hm rfl) ?_
      exact h
    · exact h
  · exact h

theorem State.frameRead_fr {a1 a2 a3}
    (hm : 0x207003840000000000000000000000000000020078000000000000000000000000000000000000000 ||| m = m) (h : Fr m s₀ s) :
    Fr m s₀ (State.frameRead s a1 a2 a3).2 := by
  unfold State.frameRead
  refine Fr.ite2 ?_ ?_
  · refine Fr.mk2 ?_
    exact h
  · split
    rename_i y0 y1 y2 y3
    refine Fr.cutp2 y3 ?_ (fun h4 => ?_)
    · refine State.hostRead_fr (Fr.sub hm rfl) ?_
      exact h
    extract_lets +onlyGivenNames x5
    have h6 : Fr m s₀ x5 := by
      unfold x5
      refine Fr.ite ?_ ?_
      · refine State.hostEcc_fr (Fr.sub hm rfl) ?_
        exact h4
      · exact h4
    clear_value x5
    split
    rename_i y7 y8 y9 y10
    refine Fr.cutp y10 ?_ (fun h11 => ?_)
    · split
      · refine Fr.ite2 ?_ ?_
        · refine State.takeFree_fr (Fr.sub hm rfl) ?_
          exact h6
        · refine Fr.mk2 ?_
          exact h6
      · refine Fr.mk2 ?_
        exact h6
    refine Fr.mk2 ?_
    refine State.hostWarn_fr (Fr.sub hm rfl) ?_
    exact h11

theorem State.frameReads_fr {a1 a2 a3 a4}
    (hm : 0x207003840000000000000000000000000000020078000000000000000000000000000000000000000 ||| m = m) (h : Fr m s₀ s) :
    Fr m s₀ (State.frameReads s a1 a2 a3 a4).2 := by
  unfold State.frameReads
  refine Fr.foldl2 ?_ ?_
  · intro h0 h1 h2
    extract_lets +onlyGivenNames x3
    clear_value x3
    extract_lets +onlyGivenNames x4
    have h5 : Fr m s₀ x4.2 := by
      unfold x4
      refine State.frameRead_fr (Fr.sub hm rfl) ?_
      exact h2
    refine Fr.mk2 ?_
    exact h5
  · refine Fr.mk2 ?_
    exact h

theorem State.readFrame_fr {a1 a2 a3}
    (hm : 0x207003840010000000000000000000000000020078000000000000000000000000000000000000000 ||| m = m) (h : Fr m s₀ s) :
    Fr m s₀ (State.readFrame s a1 a2 a3) := by
  unfold State.readFrame
  extract_lets +onlyGivenNames x0
  clear_value x0
  split
  rename_i y1 y2 y3 y4
  refine Fr.cutp y4 ?_ (fun h5 => ?_)
  · refine State.frameReads_fr (Fr.sub hm rfl) ?_
    exact h
  refine Fr.ite ?_ ?_
  · refine State.hostOut_fr (Fr.sub hm rfl) ?_
    exact h5
  · extract_lets +onlyGivenNames x6
    clear_value x6
    extract_lets +onlyGivenNames x7
    clear_value x7
    extract_lets +onlyGivenNames x8
    clear_value x8
    refine State.frameEnd_fr (Fr.sub hm rfl) ?_
    refine State.hostOut_fr (Fr.sub hm rfl) ?_
    exact h5

theorem State.frameWrite_fr {a1 a2 a3}
    (hm : 0xffedf7fd1ffffffffffffffffffffffffffffffffffffffffffffffffffffffffffffffffffffffff ||| m = m) (h : Fr m s₀ s) :
    Fr m s₀ (State.frameWrite s a1 a2 a3).2 := by
  unfold State.frameWrite
  refine Fr.ite2 ?_ ?_
  · refine Fr.mk2 ?_
    exact h
  · extract_lets +onlyGivenNames x0
    clear_value x0
    refine Fr.mk2 ?_
    refine State.hostWarn_fr (Fr.sub hm rfl) ?_
    refine Fr.ite ?_ ?_
    · exact h
    · refine State.hostWrite_fr (Fr.sub hm rfl) ?_
      exact h

theorem State.frameWrites_fr {a1 a2 a3 a4}
    (hm : 0xffedf7fd1ffffffffffffffffffffffffffffffffffffffffffffffffffffffffffffffffffffffff ||| m = m) (h : Fr m s₀ s) :
    Fr m s₀ (State.frameWrites s a1 a2 a3 a4).2 := by
  unfold State.frameWrites
  refine Fr.foldl2 ?_ ?_
  · intro h0 h1 h2
    extract_lets +onlyGivenNames x3
    clear_value x3
    extract_lets +onlyGivenNames x4
    have h5 : Fr m s₀ x4.2 := by
      unfold x4
      refine State.frameWrite_fr (Fr.sub hm rfl) ?_
      exact h2
    refine Fr.mk2 ?_
    exact h5
  · refine Fr.mk2 ?_
    exact h

theorem State.writeFrame_fr {a1 a2 a3}
    (hm : 0xffedf7fd1ffffffffffffffffffffffffffffffffffffffffffffffffffffffffffffffffffffffff ||| m = m) (h : Fr m s₀ s) :
    Fr m s₀ (State.writeFrame s a1 a2 a3) := by
  unfold State.writeFrame
  split
  rename_i y0 y1 y2 y3
  refine Fr.cutp y3 ?_ (fun h4 => ?_)
  · refine State.frameWrites_fr (Fr.sub hm rfl) ?_
    exact h
  refine Fr.ite ?_ ?_
  · refine State.hostOut_fr (Fr.sub hm rfl) ?_
    exact h4
  · extract_lets +onlyGivenNames x5
    clear_value x5
    refine State.frameEnd_fr (Fr.sub hm rfl) ?_
    refine State.hostOut_fr (Fr.sub hm rfl) ?_
    exact h4

theorem State.shortOut_fr {a1 a2 a3 a4}
    (hm : 0x200000000000000000000000000000000000000000000000000000000000000000000000000000000 ||| m = m) (h : Fr m s₀ s) :
    Fr m s₀ (State.shortOut s a1 a2 a3 a4) := by
  unfold State.shortOut
  extract_lets +onlyGivenNames x0
  clear_value x0
  refine State.hostOut_fr (Fr.sub hm rfl) ?_
  exact h

theorem State.checkedFrame_fr {a1 a2 a3}
    (hm : 0xfffdf7fd1ffffffffffffffffffffffffffffffffffffffffffffffffffffffffffffffffffffffff ||| m = m) (h : Fr m s₀ s) :
    Fr m s₀ (State.checkedFrame s a1 a2 a3) := by
  unfold State.checkedFrame
  refine Fr.ite ?_ ?_
  · refine State.crcFrame_fr (Fr.sub hm rfl) ?_
    exact h
  · refine Fr.ite ?_ ?_
    · refine State.readFrame_fr (Fr.sub hm rfl) ?_
      exact h
    · refine Fr.ite ?_ ?_
      · refine State.writeFrame_fr (Fr.sub hm rfl) ?_
        exact h
      · refine State.frameEnd_fr (Fr.sub hm rfl) ?_
        refine State.shortOut_fr (Fr.sub hm rfl) ?_
        exact h

theorem State.hostBegin_fr
    (hm : 0x200000000000000000000000000000000000000000000000000000000000000000000000000000000 ||| m = m) (h : Fr m s₀ s) :
    Fr m s₀ (State.hostBegin s) := by
  unfold State.hostBegin
  refine Fr.set_spi (Fr.bit hm rfl) ?_
  exact h

theorem State.mgmtAccept_fr {a1 a2}
    (hm : 0x1c0000000000000000000000000000000000000000000000000000000000000000000000 ||| m = m) (h : Fr m s₀ s) :
    Fr m s₀ (State.mgmtAccept s a1 a2) := by
  unfold State.mgmtAccept
  refine State.put_fr (Fr.sub hm rfl) (Fr.bit hm rfl) ?_
  refine State.put_fr (Fr.sub hm rfl) (Fr.bit hm rfl) ?_
  refine State.wrap_fr (Fr.sub hm rfl) (Fr.bit hm rfl) ?_
  exact h

theorem State.mgmtAnswer_fr {a1 a2}
    (hm : 0xc00000000000000000000000000000000000000000000000000000000000000000000000000000000 ||| m = m) (h : Fr m s₀ s) :
    Fr m s₀ (State.mgmtAnswer s a1 a2) := by
  unfold State.mgmtAnswer
  refine Fr.ite ?_ ?_
  · exact h
  · refine Fr.upd (s := s) (h_mgmt := Fr.no (Fr.bit hm rfl)) (h_mgmtTag := Fr.no (Fr.bit hm rfl)) ?_
    exact h

theorem State.mgmtCrc_fr (hm : 0x400000000000000000000000000000000000000000000000000000000000000000000000000000000 ||| m = m)
    (h : Fr m s₀ s) : Fr m s₀ (State.mgmtCrc s) := by
  unfold State.mgmtCrc
  refine Fr.set_mgmt (Fr.bit hm rfl) ?_
  exact h

theorem State.mgmtRun_fr {a1 a2 a3 a4 a5 a6 a7 a8 a9}
    (hm : 0xfffdf7fd1ffffffffffffffffffffffffffffffffffffffffffffffffffffffffffffffffffffffff ||| m = m) (h : Fr m s₀ s) :
    Fr m s₀ (State.mgmtRun s a1 a2 a3 a4 a5 a6 a7 a8 a9) := by
  unfold State.mgmtRun
  extract_lets +onlyGivenNames x0
  clear_value x0
  extract_lets +onlyGivenNames x1
  refine State.asMgmt_fr (Fr.sub hm rfl) ?_ ?_
  · intro s2 h3
    refine Fr.ite ?_ ?_
    · unfold x1
      refine State.mgmtAnswer_fr (Fr.sub hm rfl) ?_
      refine State.reserved_fr (Fr.sub hm rfl) ?_
      exact h3
    · refine Fr.ite ?_ ?_
      · split
        rename_i y4 y5 y6 y7
        refine Fr.cutp y7 ?_ (fun h8 => ?_)
        · refine State.frameReads_fr (Fr.sub hm rfl) ?_
          exact h3
        extract_lets +onlyGivenNames x9
        clear_value x9
        unfold x1
        refine State.mgmtAnswer_fr (Fr.sub hm rfl) ?_
        exact h8
      · refine Fr.ite ?_ ?_
        · split
          rename_i y10 y11 y12 y13
          refine Fr.cutp y13 ?_ (fun h14 => ?_)
          · refine State.frameWrites_fr (Fr.sub hm rfl) ?_
            exact h3
          unfold x1
          refine State.mgmtAnswer_fr (Fr.sub hm rfl) ?_
          exact h14
        · unfold x1
          refine State.mgmtAnswer_fr (Fr.sub hm rfl) ?_
          exact h3
  · exact h

theorem State.runFrame_fr {a1 a2} {a3 : Sys2Proof.Machine.State → Sys2Proof.Machine.HostSt → Nat → Sys2Proof.Machine.State}
    (hm : 0x200000000010000000000000000000000000000000000000000000000000000000000000000000000 ||| m = m)
    (hf3 : ∀ s b1 b2, Fr m s₀ s → Fr m s₀ (a3 s b1 b2)) (h : Fr m s₀ s) : Fr m s₀ (State.runFrame s a1 a2 a3) := by
  unfold State.runFrame
  refine Fr.ite ?_ ?_
  · refine State.hostOut_fr (Fr.sub hm rfl) ?_
    exact h
  · extract_lets +onlyGivenNames x0
    clear_value x0
    extract_lets +onlyGivenNames x1
    clear_value x1
    refine Fr.ite ?_ ?_
    · refine State.frameEnd_fr (Fr.sub hm rfl) ?_
      refine State.hostOut_fr (Fr.sub hm rfl) ?_
      refine State.hostBegin_fr (Fr.sub hm rfl) ?_
      exact h
    · refine Fr.ite ?_ ?_
      · exact h
      · refine hf3 _ _ _ ?_
        refine State.hostBegin_fr (Fr.sub hm rfl) ?_
        exact h

theorem execHostNop_fr {a0} {t}
    (hm : 0xfffdf7fd1ffffffffffffffffffffffffffffffffffffffffffffffffffffffffffffffffffffffff ||| m = m) (h : Fr m s₀ s)
    (e : execHostNop a0 s = .next t) : Fr m s₀ t := by
  unfold execHostNop at e
  cases e
  refine State.ship_fr (Fr.sub hm rfl) ?_
  refine State.runFrame_fr (Fr.sub hm rfl) ?_ ?_
  · intro s0 h1 h2 h3
    refine State.checkedFrame_fr (Fr.sub hm rfl) ?_
    exact h3
  · exact h

theorem execHostRead_fr {a0} {t}
    (hm : 0xfffdf7fd1ffffffffffffffffffffffffffffffffffffffffffffffffffffffffffffffffffffffff ||| m = m) (h : Fr m s₀ s)
    (e : execHostRead a0 s = .next t) : Fr m s₀ t := by
  unfold execHostRead at e
  cases e
  refine State.ship_fr (Fr.sub hm rfl) ?_
  refine State.runFrame_fr (Fr.sub hm rfl) ?_ ?_
  · intro s0 h1 h2 h3
    refine State.checkedFrame_fr (Fr.sub hm rfl) ?_
    exact h3
  · exact h

theorem execHostWrite_fr {a0} {t}
    (hm : 0xfffdf7fd1ffffffffffffffffffffffffffffffffffffffffffffffffffffffffffffffffffffffff ||| m = m) (h : Fr m s₀ s)
    (e : execHostWrite a0 s = .next t) : Fr m s₀ t := by
  unfold execHostWrite at e
  cases e
  refine State.ship_fr (Fr.sub hm rfl) ?_
  refine State.runFrame_fr (Fr.sub hm rfl) ?_ ?_
  · intro s0 h1 h2 h3
    refine State.checkedFrame_fr (Fr.sub hm rfl) ?_
    exact h3
  · exact h

theorem execHostReads_fr {a0} {t}
    (hm : 0xfffdf7fd1ffffffffffffffffffffffffffffffffffffffffffffffffffffffffffffffffffffffff ||| m = m) (h : Fr m s₀ s)
    (e : execHostReads a0 s = .next t) : Fr m s₀ t := by
  unfold execHostReads at e
  cases e
  refine State.ship_fr (Fr.sub hm rfl) ?_
  refine State.runFrame_fr (Fr.sub hm rfl) ?_ ?_
  · intro s0 h1 h2 h3
    refine State.checkedFrame_fr (Fr.sub hm rfl) ?_
    exact h3
  · exact h

theorem execHostWrites_fr {a0} {t}
    (hm : 0xfffdf7fd1ffffffffffffffffffffffffffffffffffffffffffffffffffffffffffffffffffffffff ||| m = m) (h : Fr m s₀ s)
    (e : execHostWrites a0 s = .next t) : Fr m s₀ t := by
  unfold execHostWrites at e
  cases e
  refine State.ship_fr (Fr.sub hm rfl) ?_
  refine State.runFrame_fr (Fr.sub hm rfl) ?_ ?_
  · intro s0 h1 h2 h3
    refine State.checkedFrame_fr (Fr.sub hm rfl) ?_
    exact h3
  · exact h

theorem execHostReservedCommand_fr {a0} {t}
    (hm : 0x240000800010000000000000000000000000000000000000000000000000000000000000000000000 ||| m = m) (h : Fr m s₀ s)
    (e : execHostReservedCommand a0 s = .next t) : Fr m s₀ t := by
  unfold execHostReservedCommand at e
  cases e
  refine State.ship_fr (Fr.sub hm rfl) ?_
  refine State.runFrame_fr (Fr.sub hm rfl) ?_ ?_
  · intro s0 h1 h2 h3
    refine State.frameEnd_fr (Fr.sub hm rfl) ?_
    refine State.shortOut_fr (Fr.sub hm rfl) ?_
    refine State.reserved_fr (Fr.sub hm rfl) ?_
    exact h3
  · exact h

theorem execHostFrameAbort_fr {t}
    (hm : 0x240000000010000000000000000000000000000000000000000000000000000000000000000000000 ||| m = m) (h : Fr m s₀ s)
    (e : execHostFrameAbort s = .next t) : Fr m s₀ t := by
  unfold execHostFrameAbort at e
  cases e
  refine State.ship_fr (Fr.sub hm rfl) ?_
  refine Fr.ite ?_ ?_
  · refine State.hostOut_fr (Fr.sub hm rfl) ?_
    exact h
  · refine State.frameEnd_fr (Fr.sub hm rfl) ?_
    refine State.hostOut_fr (Fr.sub hm rfl) ?_
    refine State.hostBegin_fr (Fr.sub hm rfl) ?_
    exact h

theorem execMgmtRequest_fr {a0 a1 a2 a3} {t}
    (hm : 0xfffdf7fd1ffffffffffffffffffffffffffffffffffffffffffffffffffffffffffffffffffffffff ||| m = m) (h : Fr m s₀ s)
    (e : execMgmtRequest a0 a1 a2 a3 s = .next t) : Fr m s₀ t := by
  unfold execMgmtRequest at e
  cases e
  refine State.ship_fr (Fr.sub hm rfl) ?_
  refine Fr.ite ?_ ?_
  · exact h
  · extract_lets +onlyGivenNames x0
    clear_value x0
    split
    · refine State.count_fr (Fr.sub hm rfl) (Fr.bit hm rfl) ?_
      exact h
    · refine Fr.ite ?_ ?_
      · refine State.count_fr (Fr.sub hm rfl) (Fr.bit hm rfl) ?_
        exact h
      · extract_lets +onlyGivenNames x1
        clear_value x1
        extract_lets +onlyGivenNames x2
        clear_value x2
        extract_lets +onlyGivenNames x3
        clear_value x3
        extract_lets +onlyGivenNames x4
        clear_value x4
        extract_lets +onlyGivenNames x5
        clear_value x5
        extract_lets +onlyGivenNames x6
        clear_value x6
        extract_lets +onlyGivenNames x7
        clear_value x7
        extract_lets +onlyGivenNames x8
        clear_value x8
        refine Fr.ite ?_ ?_
        · split
          rename_i y9 y10 y11 y12
          refine Fr.cutp y12 ?_ (fun h13 => ?_)
          · refine State.takeFree_fr (Fr.sub hm rfl) ?_
            exact h
          refine State.mgmtRun_fr (Fr.sub hm rfl) ?_
          refine State.mgmtAccept_fr (Fr.sub hm rfl) ?_
          exact h13
        · refine Fr.ite ?_ ?_
          · refine State.count_fr (Fr.sub hm rfl) (Fr.bit hm rfl) ?_
            exact h
          · refine Fr.ite ?_ ?_
            · refine State.count_fr (Fr.sub hm rfl) (Fr.bit hm rfl) ?_
              exact h
            · refine Fr.ite ?_ ?_
              · refine State.mgmtCrc_fr (Fr.sub hm rfl) ?_
                exact h
              · refine State.mgmtRun_fr (Fr.sub hm rfl) ?_
                refine State.mgmtAccept_fr (Fr.sub hm rfl) ?_
                exact h

end Sys2Proof.Machine
end

