-- ==== Sys2Proof/Laws/FrameRarek.lean ====
section
/-! SUPPORT. Frames (Laws/Frame.lean) of the functions of Machine/Rarek.lean: one lemma for each, which says by its mask which
registers and which parts of the state the function may change. -/

namespace Sys2Proof.Machine

variable {m : Nat} {s₀ s : State}

theorem State.advance_fr {a1 a2}
    (hm : 0x800000000000000000000000000000000000000000000000000000000000000000000000000 ||| m = m) (h : Fr m s₀ s) :
    Fr m s₀ (State.advance s a1 a2) := by
  unfold State.advance
  refine State.setPort_fr (Fr.sub hm rfl) ?_
  exact h

theorem State.noteStore_fr {a1 a2}
    (hm : 0x40000000000000000000000000000000000000000000000000000000000000000000000000000000 ||| m = m) (h : Fr m s₀ s) :
    Fr m s₀ (State.noteStore s a1 a2) := by
  unfold State.noteStore
  extract_lets +onlyGivenNames x0
  clear_value x0
  refine Fr.ite ?_ ?_
  · extract_lets +onlyGivenNames x1
    clear_value x1
    refine Fr.ite ?_ ?_
    · exact h
    · refine Fr.set_twn (Fr.bit hm rfl) ?_
      exact h
  · exact h

theorem State.bankWrite_fr {a1 a2 a3 a4}
    (hm : 0x40000010000000000000000000000000000000000000000000000000000000000000000000000000 ||| m = m) (h : Fr m s₀ s) :
    Fr m s₀ (State.bankWrite s a1 a2 a3 a4) := by
  unfold State.bankWrite
  refine State.noteStore_fr (Fr.sub hm rfl) ?_
  refine State.setBytes_fr (Fr.sub hm rfl) ?_
  exact h

theorem State.cmpFound_fr {a1} (hm : 0x800000000000000000000000000000000000000000000000000000000000000000000000000 ||| m = m)
    (h : Fr m s₀ s) : Fr m s₀ (State.cmpFound s a1) := by
  unfold State.cmpFound
  extract_lets +onlyGivenNames x0
  clear_value x0
  refine Fr.ite ?_ ?_
  · refine State.setPort_fr (Fr.sub hm rfl) ?_
    refine State.setRcd_fr (Fr.sub hm rfl) ?_
    exact h
  · exact h

theorem State.collided_fr {a1 a2 a3}
    (hm : 0x40000000000000000000000000000000000000000000000000000000000000000000000000 ||| m = m) (h : Fr m s₀ s) :
    Fr m s₀ (State.collided s a1 a2 a3).2 := by
  unfold State.collided
  refine Fr.ite2 ?_ ?_
  · refine State.takeFree_fr (Fr.sub hm rfl) ?_
    exact h
  · refine Fr.mk2 ?_
    exact h

theorem State.onCore_fr {a1} {a2 : Nat → Sys2Proof.Machine.State → Sys2Proof.Machine.State}
    (hm : 0x12000c00000000000000000000000000000020000920010000000000000000000000000280000000 ||| m = m)
    (hf2 : ∀ b0 s, Fr m s₀ s → Fr m s₀ (a2 b0 s)) (h : Fr m s₀ s) : Fr m s₀ (State.onCore s a1 a2) := by
  unfold State.onCore
  split
  · exact h
  · split
    · refine State.quarantineNow_fr (Fr.sub hm rfl) ?_
      exact h
    · refine hf2 _ _ ?_
      exact h

theorem State.spend_fr {a1} (hm : 0x800000000000000000000000000000000001000000000000000000000000000000000000000 ||| m = m) (h :
    Fr m s₀ s) : Fr m s₀ (State.spend s a1) := by
  unfold State.spend
  extract_lets +onlyGivenNames x0
  clear_value x0
  extract_lets +onlyGivenNames x1
  clear_value x1
  extract_lets +onlyGivenNames x2
  have h3 : Fr m s₀ x2 := by
    unfold x2
    refine State.setRcd_fr (Fr.sub hm rfl) ?_
    exact h
  clear_value x2
  refine Fr.ite ?_ ?_
  · refine State.put_fr (Fr.sub hm rfl) (Fr.bit hm rfl) ?_
    exact h3
  · exact h3

theorem State.windowDrain_fr {a1}
    (hm : 0xffedf7fd1ffffffffffffffffffffffffffffffffffffffffffffffffffffffffffffffffffffffff ||| m = m) (h : Fr m s₀ s) :
    Fr m s₀ (State.windowDrain s a1) := by
  unfold State.windowDrain
  split
  · exact h
  · extract_lets +onlyGivenNames x0
    clear_value x0
    extract_lets +onlyGivenNames x1
    have h2 : Fr m s₀ x1 := by
      unfold x1
      refine State.setCore_fr (Fr.sub hm rfl) ?_
      exact h
    clear_value x1
    extract_lets +onlyGivenNames x3
    clear_value x3
    extract_lets +onlyGivenNames x4
    have h5 : Fr m s₀ x4 := by
      unfold x4
      refine State.ctxWrite_fr (Fr.sub hm rfl) ?_
      exact h2
    clear_value x4
    refine Fr.ite ?_ ?_
    · refine State.twinSend_fr (Fr.sub hm rfl) ?_
      exact h5
    · exact h5

theorem State.drainFor_fr {a1 a2}
    (hm : 0xffedf7fd1ffffffffffffffffffffffffffffffffffffffffffffffffffffffffffffffffffffffff ||| m = m) (h : Fr m s₀ s) :
    Fr m s₀ (State.drainFor s a1 a2) := by
  induction a2 generalizing s with
  | zero => exact h
  | succ n ih =>
    unfold State.drainFor
    split
    · exact ih (State.windowDrain_fr (Fr.sub hm rfl) h)
    · exact h

theorem State.windowRead_fr {a1 a2 a3}
    (hm : 0xfffdf7fd1ffffffffffffffffffffffffffffffffffffffffffffffffffffffffffffffffffffffff ||| m = m) (h : Fr m s₀ s) :
    Fr m s₀ (State.windowRead s a1 a2 a3).2 := by
  unfold State.windowRead
  split
  · refine Fr.mk2 ?_
    exact h
  · extract_lets +onlyGivenNames x0
    have h1 : Fr m s₀ x0 := by
      unfold x0
      refine State.drainFor_fr (Fr.sub hm rfl) ?_
      exact h
    clear_value x0
    refine Fr.ite2 ?_ ?_
    · refine Fr.mk2 ?_
      split
      · refine State.windowLost_fr (Fr.sub hm rfl) ?_
        exact h1
      · refine State.ptmo_fr (Fr.sub hm rfl) ?_
        exact h1
    · refine State.ctxRead_fr (Fr.sub hm rfl) ?_
      exact h1

theorem State.readPort_fr {a1 a2 a3}
    (hm : 0xfffdf7fd1ffffffffffffffffffffffffffffffffffffffffffffffffffffffffffffffffffffffff ||| m = m) (h : Fr m s₀ s) :
    Fr m s₀ (State.readPort s a1 a2 a3).2 := by
  unfold State.readPort
  refine Fr.ite2 ?_ ?_
  · refine State.windowRead_fr (Fr.sub hm rfl) ?_
    exact h
  · split
    · refine Fr.mk2 ?_
      exact h
    · refine Fr.mk2 ?_
      refine State.setPort_fr (Fr.sub hm rfl) ?_
      exact h
    · split
      rename_i y0 y1 y2 y3
      refine Fr.cutp2 y3 ?_ (fun h4 => ?_)
      · refine State.takeFree_fr (Fr.sub hm rfl) ?_
        exact h
      extract_lets +onlyGivenNames x5
      clear_value x5
      refine Fr.mk2 ?_
      refine State.setPort_fr (Fr.sub hm rfl) ?_
      exact h4
    · refine Fr.mk2 ?_
      exact h
    · refine Fr.mk2 ?_
      exact h
    · refine Fr.mk2 ?_
      exact h

theorem State.readAll_fr {a1 a2 a3}
    (hm : 0xfffdf7fd1ffffffffffffffffffffffffffffffffffffffffffffffffffffffffffffffffffffffff ||| m = m) (h : Fr m s₀ s) :
    Fr m s₀ (State.readAll s a1 a2 a3).2 := by
  induction a3 generalizing s with
  | nil => exact h
  | cons x xs ih =>
    unfold State.readAll
    cases hx : x.imm with
    | some i => exact ih h
    | none =>
      cases hb : s.badRead a1 x.src with
      | true => simpa [hx, hb] using ih h
      | false => simpa [hx, hb] using ih (State.readPort_fr (Fr.sub hm rfl) h)

theorem State.trap_fr {a1 a2 a3 a4}
    (hm : 0x12002c00000000000000000000000000000020000920790000000000000000000000000280000000 ||| m = m) (h : Fr m s₀ s) :
    Fr m s₀ (State.trap s a1 a2 a3 a4) := by
  unfold State.trap
  extract_lets +onlyGivenNames x0
  have h1 : Fr m s₀ x0 := by
    unfold x0
    refine State.put_fr (Fr.sub hm rfl) (Fr.bit hm rfl) ?_
    refine State.count_fr (Fr.sub hm rfl) (Fr.bit hm rfl) ?_
    exact h
  clear_value x0
  extract_lets +onlyGivenNames x2
  have h3 : Fr m s₀ x2 := by
    unfold x2
    refine State.flag_fr (Fr.sub hm rfl) (Fr.bit hm rfl) ?_
    refine State.put_fr (Fr.sub hm rfl) (Fr.bit hm rfl) ?_
    refine State.put_fr (Fr.sub hm rfl) (Fr.bit hm rfl) ?_
    refine State.put_fr (Fr.sub hm rfl) (Fr.bit hm rfl) ?_
    exact h1
  clear_value x2
  extract_lets +onlyGivenNames x4
  have h5 : Fr m s₀ x4 := by
    unfold x4
    refine State.put_fr (Fr.sub hm rfl) (Fr.bit hm rfl) ?_
    refine State.put_fr (Fr.sub hm rfl) (Fr.bit hm rfl) ?_
    exact h3
  clear_value x4
  extract_lets +onlyGivenNames x6
  have h7 : Fr m s₀ x6 := by
    unfold x6
    refine State.raise_fr (Fr.sub hm rfl) ?_
    exact h5
  clear_value x6
  refine State.quarantineNow_fr (Fr.sub hm rfl) ?_
  exact h7

theorem State.opOrder_fr (hm : 0x800000000000000000000000000000000000000000000000000000000000000000000000000 ||| m = m) (h :
    Fr m s₀ s) : Fr m s₀ (State.opOrder s).2 := by
  unfold State.opOrder
  refine Fr.mk2 ?_
  refine Fr.set_doc (Fr.bit hm rfl) ?_
  exact h

theorem State.writePort_fr {a1 a2 a3 a4}
    (hm : 0x800000000000000000000000000000000000000000000000000000000000000000000000000 ||| m = m) (h : Fr m s₀ s) :
    Fr m s₀ (State.writePort s a1 a2 a3 a4) := by
  unfold State.writePort
  refine Fr.ite ?_ ?_
  · split
    · split
      rename_i y0 y1 y2 y3
      refine Fr.cutp y3 ?_ (fun h4 => ?_)
      · refine State.opOrder_fr (Fr.sub hm rfl) ?_
        exact h
      refine State.setCore_fr (Fr.sub hm rfl) ?_
      exact h4
    · exact h
  · split
    · refine State.setPort_fr (Fr.sub hm rfl) ?_
      exact h
    · refine State.setPort_fr (Fr.sub hm rfl) ?_
      exact h
    · refine State.setPort_fr (Fr.sub hm rfl) ?_
      exact h
    · refine State.setPort_fr (Fr.sub hm rfl) ?_
      exact h
    · refine State.setPort_fr (Fr.sub hm rfl) ?_
      exact h

theorem State.runMul_fr {a1 a2 a3}
    (hm : 0x800000000000000000000000000000000000000000000000000000000000000000000000000 ||| m = m) (h : Fr m s₀ s) :
    Fr m s₀ (State.runMul s a1 a2 a3) := by
  unfold State.runMul
  extract_lets +onlyGivenNames x0
  clear_value x0
  refine Fr.ite ?_ ?_
  · extract_lets +onlyGivenNames x1
    clear_value x1
    extract_lets +onlyGivenNames x2
    clear_value x2
    extract_lets +onlyGivenNames x3
    have h4 : Fr m s₀ x3 := by
      unfold x3
      refine State.setCtx_fr (Fr.sub hm rfl) ?_
      exact h
    clear_value x3
    refine State.setPort_fr (Fr.sub hm rfl) ?_
    refine State.setPort_fr (Fr.sub hm rfl) ?_
    exact h4
  · refine State.setCtx_fr (Fr.sub hm rfl) ?_
    exact h

theorem State.postMem_fr {a1 a2 a3 a4 a5 a6}
    (hm : 0x800000000000000000000000000000000000000000000000000000000000000000000000000 ||| m = m) (h : Fr m s₀ s) :
    Fr m s₀ (State.postMem s a1 a2 a3 a4 a5 a6) := by
  unfold State.postMem
  split
  rename_i y0 y1 y2 y3
  refine Fr.cutp y3 ?_ (fun h4 => ?_)
  · refine State.opOrder_fr (Fr.sub hm rfl) ?_
    exact h
  refine State.setCore_fr (Fr.sub hm rfl) ?_
  exact h4

theorem State.runLsu_fr {a1 a2 a3 a4}
    (hm : 0x800000000000000000000000000000000000000000000000000000000000000000000000000 ||| m = m) (h : Fr m s₀ s) :
    Fr m s₀ (State.runLsu s a1 a2 a3 a4) := by
  unfold State.runLsu
  extract_lets +onlyGivenNames x0
  clear_value x0
  split
  · refine State.postMem_fr (Fr.sub hm rfl) ?_
    exact h
  · refine State.postMem_fr (Fr.sub hm rfl) ?_
    exact h
  · refine State.postMem_fr (Fr.sub hm rfl) ?_
    exact h
  · refine State.postMem_fr (Fr.sub hm rfl) ?_
    exact h
  · refine State.postMem_fr (Fr.sub hm rfl) ?_
    exact h
  · refine State.postMem_fr (Fr.sub hm rfl) ?_
    exact h
  · refine State.postMem_fr (Fr.sub hm rfl) ?_
    exact h
  · refine State.postMem_fr (Fr.sub hm rfl) ?_
    exact h
  · extract_lets +onlyGivenNames x1
    clear_value x1
    extract_lets +onlyGivenNames x2
    clear_value x2
    refine Fr.ite ?_ ?_
    · refine State.advance_fr (Fr.sub hm rfl) ?_
      refine State.postMem_fr (Fr.sub hm rfl) ?_
      exact h
    · refine State.advance_fr (Fr.sub hm rfl) ?_
      refine State.postMem_fr (Fr.sub hm rfl) ?_
      exact h

theorem State.postStr_fr {a1 a2 a3 a4}
    (hm : 0x800000000000000000000000000000000000000000000000000000000000000000000000000 ||| m = m) (h : Fr m s₀ s) :
    Fr m s₀ (State.postStr s a1 a2 a3 a4) := by
  unfold State.postStr
  extract_lets +onlyGivenNames x0
  clear_value x0
  extract_lets +onlyGivenNames x1
  clear_value x1
  extract_lets +onlyGivenNames x2
  clear_value x2
  split
  rename_i y3 y4 y5 y6
  refine Fr.cutp y6 ?_ (fun h7 => ?_)
  · refine State.opOrder_fr (Fr.sub hm rfl) ?_
    exact h
  extract_lets +onlyGivenNames x8
  clear_value x8
  extract_lets +onlyGivenNames x9
  have h10 : Fr m s₀ x9 := by
    unfold x9
    refine State.setCore_fr (Fr.sub hm rfl) ?_
    exact h7
  clear_value x9
  extract_lets +onlyGivenNames x11
  have h12 : Fr m s₀ x11 := by
    unfold x11
    refine Fr.ite ?_ ?_
    · exact h10
    · refine State.setPort_fr (Fr.sub hm rfl) ?_
      exact h10
  clear_value x11
  refine Fr.ite ?_ ?_
  · exact h12
  · refine State.setPort_fr (Fr.sub hm rfl) ?_
    exact h12

theorem State.runEvent_fr {a1 a2 a3}
    (hm : 0x800000000000000000000000000000000000800000000000000000000000000000000000000 ||| m = m) (h : Fr m s₀ s) :
    Fr m s₀ (State.runEvent s a1 a2 a3) := by
  unfold State.runEvent
  split
  · refine State.setEvent_fr (Fr.sub hm rfl) ?_
    exact h
  · refine State.setPort_fr (Fr.sub hm rfl) ?_
    exact h
  · extract_lets +onlyGivenNames x0
    clear_value x0
    extract_lets +onlyGivenNames x1
    have h2 : Fr m s₀ x1 := by
      unfold x1
      refine State.setRcd_fr (Fr.sub hm rfl) ?_
      exact h
    clear_value x1
    refine Fr.ite ?_ ?_
    · refine State.fireAlarm_fr (Fr.sub hm rfl) ?_
      exact h2
    · exact h2
  · refine State.setRcd_fr (Fr.sub hm rfl) ?_
    exact h
  · exact h

theorem State.runSat_fr {a1 a2 a3}
    (hm : 0x800000000000000000000000000000000000000000000000000000000000000000000000000 ||| m = m) (h : Fr m s₀ s) :
    Fr m s₀ (State.runSat s a1 a2 a3) := by
  unfold State.runSat
  extract_lets +onlyGivenNames x0
  clear_value x0
  refine State.setPort_fr (Fr.sub hm rfl) ?_
  refine State.setPort_fr (Fr.sub hm rfl) ?_
  exact h

theorem State.runTrigger_fr {a1 a2 a3 a4}
    (hm : 0x800000000000000000000000000000000000800000000000000000000000000000000000000 ||| m = m) (h : Fr m s₀ s) :
    Fr m s₀ (State.runTrigger s a1 a2 a3 a4) := by
  unfold State.runTrigger
  split
  · refine State.setPort_fr (Fr.sub hm rfl) ?_
    exact h
  · refine State.runMul_fr (Fr.sub hm rfl) ?_
    exact h
  · refine State.runLsu_fr (Fr.sub hm rfl) ?_
    exact h
  · refine State.postStr_fr (Fr.sub hm rfl) ?_
    exact h
  · refine Fr.ite ?_ ?_
    · refine State.setPort_fr (Fr.sub hm rfl) ?_
      exact h
    · exact h
  · refine State.runEvent_fr (Fr.sub hm rfl) ?_
    exact h
  · refine State.runEvent_fr (Fr.sub hm rfl) ?_
    exact h
  · refine State.runSat_fr (Fr.sub hm rfl) ?_
    exact h
  · exact h

theorem State.suspend_fr {a1 a2}
    (hm : 0x12000c00000000000000000000000000000020000920010000000000000000000000000280000000 ||| m = m) (h : Fr m s₀ s) :
    Fr m s₀ (State.suspend s a1 a2) := by
  unfold State.suspend
  extract_lets +onlyGivenNames x0
  clear_value x0
  extract_lets +onlyGivenNames x1
  have h2 : Fr m s₀ x1 := by
    unfold x1
    refine State.setCtx_fr (Fr.sub hm rfl) ?_
    exact h
  clear_value x1
  extract_lets +onlyGivenNames x3
  have h4 : Fr m s₀ x3 := by
    unfold x3
    refine State.syncPrio_fr (Fr.sub hm rfl) ?_
    refine State.flag_fr (Fr.sub hm rfl) (Fr.bit hm rfl) ?_
    exact h2
  clear_value x3
  extract_lets +onlyGivenNames x5
  have h6 : Fr m s₀ x5 := by
    unfold x5
    refine State.setCst_fr (Fr.sub hm rfl) ?_
    refine State.leaveCore_fr (Fr.sub hm rfl) ?_
    exact h4
  clear_value x5
  split
  · refine State.quarantineNow_fr (Fr.sub hm rfl) ?_
    exact h6
  · refine State.schedule_fr (Fr.sub hm rfl) ?_
    exact h6

theorem State.evtWait_fr {a1 a2}
    (hm : 0x12000c00000000000000000000000000000020000920010000000000000000000000000280000000 ||| m = m) (h : Fr m s₀ s) :
    Fr m s₀ (State.evtWait s a1 a2) := by
  unfold State.evtWait
  extract_lets +onlyGivenNames x0
  have h1 : Fr m s₀ x0 := by
    unfold x0
    refine Fr.ite ?_ ?_
    · exact h
    · refine State.setPort_fr (Fr.sub hm rfl) ?_
      exact h
  clear_value x0
  refine Fr.ite ?_ ?_
  · refine State.takeEvents_fr (Fr.sub hm rfl) ?_
    exact h1
  · refine State.suspend_fr (Fr.sub hm rfl) ?_
    refine State.setRcd_fr (Fr.sub hm rfl) ?_
    exact h1

theorem State.sleepUntil_fr {a1 a2}
    (hm : 0x12000c00000000000000000000000000000020000920010000000000000000000000000280000000 ||| m = m) (h : Fr m s₀ s) :
    Fr m s₀ (State.sleepUntil s a1 a2) := by
  unfold State.sleepUntil
  refine Fr.ite ?_ ?_
  · exact h
  · refine State.suspend_fr (Fr.sub hm rfl) ?_
    refine State.setRcd_fr (Fr.sub hm rfl) ?_
    exact h

theorem State.runSuspend_fr {a1 a2}
    (hm : 0x12000c00000000000000000000000000000020000920010000000000000000000000000280000000 ||| m = m) (h : Fr m s₀ s) :
    Fr m s₀ (State.runSuspend s a1 a2) := by
  unfold State.runSuspend
  split
  · exact h
  · split
    · refine State.evtWait_fr (Fr.sub hm rfl) ?_
      exact h
    · refine State.yieldCtx_fr (Fr.sub hm rfl) ?_
      exact h
    · refine State.sleepUntil_fr (Fr.sub hm rfl) ?_
      exact h
    · refine State.sleepUntil_fr (Fr.sub hm rfl) ?_
      exact h

theorem State.nextPc_fr {a1 a2} (hm : 0x800000000000000000000000000000000000000000000000000000000000000000000000000 ||| m = m)
    (h : Fr m s₀ s) : Fr m s₀ (State.nextPc s a1 a2) := by
  unfold State.nextPc
  extract_lets +onlyGivenNames x0
  clear_value x0
  refine Fr.ite ?_ ?_
  · extract_lets +onlyGivenNames x1
    clear_value x1
    extract_lets +onlyGivenNames x2
    have h3 : Fr m s₀ x2 := by
      unfold x2
      refine State.setPort_fr (Fr.sub hm rfl) ?_
      exact h
    clear_value x2
    refine Fr.ite ?_ ?_
    · refine State.setRcd_fr (Fr.sub hm rfl) ?_
      exact h3
    · exact h3
  · split
    · refine Fr.ite ?_ ?_
      · refine State.setRcd_fr (Fr.sub hm rfl) ?_
        exact h
      · extract_lets +onlyGivenNames x4
        clear_value x4
        extract_lets +onlyGivenNames x5
        have h6 : Fr m s₀ x5 := by
          unfold x5
          refine State.setCtx_fr (Fr.sub hm rfl) ?_
          exact h
        clear_value x5
        refine State.setPort_fr (Fr.sub hm rfl) ?_
        refine State.setRcd_fr (Fr.sub hm rfl) ?_
        exact h6
    · split
      · refine State.setRcd_fr (Fr.sub hm rfl) ?_
        exact h
      · refine State.setRcd_fr (Fr.sub hm rfl) ?_
        exact h

theorem State.issue_fr {a1 a2 a3 a4 a5 a6 a7}
    (hm : 0xfffdf7fd1ffffffffffffffffffffffffffffffffffffffffffffffffffffffffffffffffffffffff ||| m = m) (h : Fr m s₀ s) :
    Fr m s₀ (State.issue s a1 a2 a3 a4 a5 a6 a7) := by
  unfold State.issue
  extract_lets +onlyGivenNames x0
  clear_value x0
  extract_lets +onlyGivenNames x1
  clear_value x1
  extract_lets +onlyGivenNames x2
  extract_lets +onlyGivenNames x3
  have h4 : Fr m s₀ x3 := by
    unfold x3
    refine State.spend_fr (Fr.sub hm rfl) ?_
    exact h
  clear_value x3
  refine Fr.ite ?_ ?_
  · refine State.flag_fr (Fr.sub hm rfl) (Fr.bit hm rfl) ?_
    refine State.wrap_fr (Fr.sub hm rfl) (Fr.bit hm rfl) ?_
    exact h4
  · extract_lets +onlyGivenNames x5
    have h6 : Fr m s₀ x5 := by
      unfold x5
      refine State.flag_fr (Fr.sub hm rfl) (Fr.bit hm rfl) ?_
      exact h4
    clear_value x5
    extract_lets +onlyGivenNames x7
    clear_value x7
    split
    rename_i y8 y9 y10 y11
    refine Fr.cutp y11 ?_ (fun h12 => ?_)
    · refine State.readAll_fr (Fr.sub hm rfl) ?_
      exact h6
    refine Fr.ite ?_ ?_
    · refine State.trap_fr (Fr.sub hm rfl) ?_
      exact h12
    · extract_lets +onlyGivenNames x13
      clear_value x13
      extract_lets +onlyGivenNames x14
      clear_value x14
      extract_lets +onlyGivenNames x15
      clear_value x15
      extract_lets +onlyGivenNames x16
      have h17 : Fr m s₀ x16 := by
        unfold x16
        refine Fr.forEach ?_ ?_
        · intro h18 s19 h20
          refine State.writePort_fr (Fr.sub hm rfl) ?_
          exact h20
        · exact h12
      clear_value x16
      extract_lets +onlyGivenNames x21
      clear_value x21
      refine Fr.ite ?_ ?_
      · refine State.trap_fr (Fr.sub hm rfl) ?_
        exact h12
      · refine Fr.ite ?_ ?_
        · refine State.trap_fr (Fr.sub hm rfl) ?_
          exact h12
        · refine Fr.ite ?_ ?_
          · refine State.trap_fr (Fr.sub hm rfl) ?_
            exact h12
          · extract_lets +onlyGivenNames x22
            have h23 : Fr m s₀ x22 := by
              unfold x22
              refine State.wrap_fr (Fr.sub hm rfl) (Fr.bit hm rfl) ?_
              exact h17
            clear_value x22
            extract_lets +onlyGivenNames x24
            have h25 : Fr m s₀ x24 := by
              unfold x24
              refine Fr.forEach ?_ ?_
              · intro h26 s27 h28
                refine State.runTrigger_fr (Fr.sub hm rfl) ?_
                exact h28
              · exact h23
            clear_value x24
            extract_lets +onlyGivenNames x29
            clear_value x29
            extract_lets +onlyGivenNames x30
            have h31 : Fr m s₀ x30 := by
              unfold x30
              refine State.runSuspend_fr (Fr.sub hm rfl) ?_
              refine State.nextPc_fr (Fr.sub hm rfl) ?_
              exact h25
            clear_value x30
            refine Fr.ite ?_ ?_
            · refine State.schedule_fr (Fr.sub hm rfl) ?_
              exact h31
            · exact h31

theorem State.commandMove_fr {a1 a2 a3}
    (hm : 0xfffdf7fd1ffffffffffffffffffffffffffffffffffffffffffffffffffffffffffffffffffffffff ||| m = m) (h : Fr m s₀ s) :
    Fr m s₀ (State.commandMove s a1 a2 a3) := by
  unfold State.commandMove
  split
  · exact h
  · refine State.onCore_fr (Fr.sub hm rfl) ?_ ?_
    · intro h0 s1 h2
      refine State.issue_fr (Fr.sub hm rfl) ?_
      exact h2
    · exact h

theorem State.commandRead_fr {a1 a2 a3 a4}
    (hm : 0xfffdf7fd1ffffffffffffffffffffffffffffffffffffffffffffffffffffffffffffffffffffffff ||| m = m) (h : Fr m s₀ s) :
    Fr m s₀ (State.commandRead s a1 a2 a3 a4) := by
  unfold State.commandRead
  split
  · exact h
  · refine State.onCore_fr (Fr.sub hm rfl) ?_ ?_
    · intro h0 s1 h2
      refine State.issue_fr (Fr.sub hm rfl) ?_
      exact h2
    · exact h

theorem State.setPoison_fr {a1 a2}
    (hm : 0x800000000000000000000000000000000000000000000000000000000000000000000000000 ||| m = m) (h : Fr m s₀ s) :
    Fr m s₀ (State.setPoison s a1 a2) := by
  unfold State.setPoison
  refine Fr.ite ?_ ?_
  · exact h
  · refine State.setCtx_fr (Fr.sub hm rfl) ?_
    exact h

theorem State.setLoad_fr {a1 a2 a3}
    (hm : 0x800000000000000000000000000000000000000000000000000000000000000000000000000 ||| m = m) (h : Fr m s₀ s) :
    Fr m s₀ (State.setLoad s a1 a2 a3) := by
  unfold State.setLoad
  refine Fr.ite ?_ ?_
  · exact h
  · refine State.setPoison_fr (Fr.sub hm rfl) ?_
    refine State.setPort_fr (Fr.sub hm rfl) ?_
    exact h

theorem State.mergeLost_fr {a1}
    (hm : 0x3000000000000000000000000000000000058000000000000000000000000000000000000000 ||| m = m) (h : Fr m s₀ s) :
    Fr m s₀ (State.mergeLost s a1) := by
  unfold State.mergeLost
  refine State.eccReport_fr (Fr.sub hm rfl) ?_
  refine State.eccEvent_fr (Fr.sub hm rfl) ?_
  exact h

theorem State.doMem_fr {a1 a2 a3}
    (hm : 0x40003850000000000000000000000000000000078000000000000000000000000000000000000000 ||| m = m) (h : Fr m s₀ s) :
    Fr m s₀ (State.doMem s a1 a2 a3) := by
  unfold State.doMem
  extract_lets +onlyGivenNames x0
  have h1 : Fr m s₀ x0 := by
    unfold x0
    refine State.collide_fr (Fr.sub hm rfl) ?_
    exact h
  clear_value x0
  split
  · extract_lets +onlyGivenNames x2
    have h3 : Fr m s₀ x2 := by
      unfold x2
      refine State.eccEvent_fr (Fr.sub hm rfl) ?_
      exact h1
    clear_value x2
    split
    rename_i y4 y5 y6 y7
    refine Fr.cutp y7 ?_ (fun h8 => ?_)
    · refine State.collided_fr (Fr.sub hm rfl) ?_
      exact h3
    refine State.setLoad_fr (Fr.sub hm rfl) ?_
    exact h8
  · refine Fr.ite ?_ ?_
    · refine State.mergeLost_fr (Fr.sub hm rfl) ?_
      exact h1
    · refine State.bankWrite_fr (Fr.sub hm rfl) ?_
      refine Fr.ite ?_ ?_
      · exact h1
      · refine State.eccEvent_fr (Fr.sub hm rfl) ?_
        exact h1
  · refine Fr.ite ?_ ?_
    · extract_lets +onlyGivenNames x9
      have h10 : Fr m s₀ x9 := by
        unfold x9
        refine State.mergeLost_fr (Fr.sub hm rfl) ?_
        exact h1
      clear_value x9
      refine Fr.ite ?_ ?_
      · exact h10
      · refine State.setPoison_fr (Fr.sub hm rfl) ?_
        exact h10
    · extract_lets +onlyGivenNames x11
      have h12 : Fr m s₀ x11 := by
        unfold x11
        refine State.eccEvent_fr (Fr.sub hm rfl) ?_
        exact h1
      clear_value x11
      extract_lets +onlyGivenNames x13
      clear_value x13
      refine State.bankWrite_fr (Fr.sub hm rfl) ?_
      refine State.setLoad_fr (Fr.sub hm rfl) ?_
      exact h12

theorem State.strWrite_fr {a1 a2 a3}
    (hm : 0x40000810000000000000000000000000000000020000000000000000000000000000000000000000 ||| m = m) (h : Fr m s₀ s) :
    Fr m s₀ (State.strWrite s a1 a2 a3) := by
  unfold State.strWrite
  refine State.bankWrite_fr (Fr.sub hm rfl) ?_
  refine State.collide_fr (Fr.sub hm rfl) ?_
  exact h

theorem State.strRead_fr {a1 a2 a3 a4}
    (hm : 0x3840000000000000000000000000000000078000000000000000000000000000000000000000 ||| m = m) (h : Fr m s₀ s) :
    Fr m s₀ (State.strRead s a1 a2 a3 a4).2 := by
  unfold State.strRead
  extract_lets +onlyGivenNames x0
  have h1 : Fr m s₀ x0 := by
    unfold x0
    refine State.eccEvent_fr (Fr.sub hm rfl) ?_
    refine State.collide_fr (Fr.sub hm rfl) ?_
    exact h
  clear_value x0
  refine Fr.ite2 ?_ ?_
  · refine Fr.mk2 ?_
    refine Fr.ite ?_ ?_
    · exact h1
    · refine State.setPoison_fr (Fr.sub hm rfl) ?_
      exact h1
  · split
    rename_i y2 y3 y4 y5
    refine Fr.cutp2 y5 ?_ (fun h6 => ?_)
    · refine State.collided_fr (Fr.sub hm rfl) ?_
      exact h1
    refine Fr.mk2 ?_
    exact h6

theorem State.doStr_fr {a1 a2 a3 a4 a5}
    (hm : 0x40003850000000000000000000000000000000078000000000000000000000000000000000000000 ||| m = m) (h : Fr m s₀ s) :
    Fr m s₀ (State.doStr s a1 a2 a3 a4 a5) := by
  unfold State.doStr
  split
  · refine State.strWrite_fr (Fr.sub hm rfl) ?_
    exact h
  · split
    · rename_i y0 y1 y2 y3
      refine Fr.cutp y3 ?_ (fun h4 => ?_)
      · refine State.strRead_fr (Fr.sub hm rfl) ?_
        exact h
      refine State.strWrite_fr (Fr.sub hm rfl) ?_
      exact h4
    · rename_i y5 y6 y7
      refine Fr.cutp y7 ?_ (fun h8 => ?_)
      · refine State.strRead_fr (Fr.sub hm rfl) ?_
        exact h
      exact h8
  · split
    · rename_i y9 y10 y11 y12
      refine Fr.cutp y12 ?_ (fun h13 => ?_)
      · refine State.strRead_fr (Fr.sub hm rfl) ?_
        exact h
      refine Fr.ite ?_ ?_
      · exact h13
      · refine State.setPort_fr (Fr.sub hm rfl) ?_
        exact h13
    · rename_i y14 y15 y16
      refine Fr.cutp y16 ?_ (fun h17 => ?_)
      · refine State.strRead_fr (Fr.sub hm rfl) ?_
        exact h
      exact h17
  · split
    rename_i y18 y19 y20 y21
    refine Fr.cutp y21 ?_ (fun h22 => ?_)
    · refine State.strRead_fr (Fr.sub hm rfl) ?_
      exact h
    split
    rename_i y23 y24 y25 y26
    refine Fr.cutp y26 ?_ (fun h27 => ?_)
    · refine State.strRead_fr (Fr.sub hm rfl) ?_
      exact h22
    split
    · extract_lets +onlyGivenNames x28
      have h29 : Fr m s₀ x28 := by
        unfold x28
        refine Fr.ite ?_ ?_
        · exact h27
        · refine State.setPort_fr (Fr.sub hm rfl) ?_
          exact h27
      clear_value x28
      refine Fr.ite ?_ ?_
      · refine State.cmpFound_fr (Fr.sub hm rfl) ?_
        exact h29
      · exact h29
    · exact h27

theorem State.memFront_fr {a1 a2 a3 a4}
    (hm : 0x40003850000000000000000000000000000000078000000000000000000000000000000000000000 ||| m = m) (h : Fr m s₀ s) :
    Fr m s₀ (State.memFront s a1 a2 a3 a4) := by
  unfold State.memFront
  split
  · refine Fr.ite ?_ ?_
    · refine State.doMem_fr (Fr.sub hm rfl) ?_
      refine State.setCore_fr (Fr.sub hm rfl) ?_
      exact h
    · exact h
  · exact h

theorem execMove_fr {a0 a1 a2} {t}
    (hm : 0xfffdf7fd1ffffffffffffffffffffffffffffffffffffffffffffffffffffffffffffffffffffffff ||| m = m) (h : Fr m s₀ s)
    (e : execMove a0 a1 a2 s = .next t) : Fr m s₀ t := by
  unfold execMove at e
  cases e
  refine State.ship_fr (Fr.sub hm rfl) ?_
  refine State.onCore_fr (Fr.sub hm rfl) ?_ ?_
  · intro h0 s1 h2
    extract_lets +onlyGivenNames x3
    clear_value x3
    extract_lets +onlyGivenNames x4
    have h5 : Fr m s₀ x4 := by
      unfold x4
      refine Fr.ite ?_ ?_
      · refine State.eccEvent_fr (Fr.sub hm rfl) ?_
        exact h2
      · exact h2
    clear_value x4
    refine Fr.ite ?_ ?_
    · refine State.trap_fr (Fr.sub hm rfl) ?_
      exact h5
    · refine Fr.ite ?_ ?_
      · refine State.trap_fr (Fr.sub hm rfl) ?_
        exact h5
      · extract_lets +onlyGivenNames x6
        clear_value x6
        extract_lets +onlyGivenNames x7
        have h8 : Fr m s₀ x7 := by
          unfold x7
          refine Fr.ite ?_ ?_
          · refine State.eccEvent_fr (Fr.sub hm rfl) ?_
            exact h5
          · exact h5
        clear_value x7
        extract_lets +onlyGivenNames x9
        clear_value x9
        extract_lets +onlyGivenNames x10
        clear_value x10
        refine State.issue_fr (Fr.sub hm rfl) ?_
        exact h8
  · exact h

theorem execAluOperation_fr {a0 a1 a2} {t}
    (hm : 0xfffdf7fd1ffffffffffffffffffffffffffffffffffffffffffffffffffffffffffffffffffffffff ||| m = m) (h : Fr m s₀ s)
    (e : execAluOperation a0 a1 a2 s = .next t) : Fr m s₀ t := by
  unfold execAluOperation at e
  cases e
  refine State.ship_fr (Fr.sub hm rfl) ?_
  refine Fr.ite ?_ ?_
  · refine State.commandMove_fr (Fr.sub hm rfl) ?_
    exact h
  · exact h

theorem execMulMultiply_fr {a0 a1 a2} {t}
    (hm : 0xfffdf7fd1ffffffffffffffffffffffffffffffffffffffffffffffffffffffffffffffffffffffff ||| m = m) (h : Fr m s₀ s)
    (e : execMulMultiply a0 a1 a2 s = .next t) : Fr m s₀ t := by
  unfold execMulMultiply at e
  cases e
  refine State.ship_fr (Fr.sub hm rfl) ?_
  refine Fr.ite ?_ ?_
  · refine State.commandMove_fr (Fr.sub hm rfl) ?_
    exact h
  · exact h

theorem execMulDivide_fr {a0 a1 a2} {t}
    (hm : 0xfffdf7fd1ffffffffffffffffffffffffffffffffffffffffffffffffffffffffffffffffffffffff ||| m = m) (h : Fr m s₀ s)
    (e : execMulDivide a0 a1 a2 s = .next t) : Fr m s₀ t := by
  unfold execMulDivide at e
  cases e
  refine State.ship_fr (Fr.sub hm rfl) ?_
  refine Fr.ite ?_ ?_
  · refine State.commandMove_fr (Fr.sub hm rfl) ?_
    exact h
  · exact h

theorem execDivideComplete_fr {a0} {t}
    (hm : 0x40000800000000000000000000000000000000000000000000000000000000000000000000000000 ||| m = m) (h : Fr m s₀ s)
    (e : execDivideComplete a0 s = .next t) : Fr m s₀ t := by
  unfold execDivideComplete at e
  cases e
  refine State.ship_fr (Fr.sub hm rfl) ?_
  split
  · exact h
  · extract_lets +onlyGivenNames x0
    clear_value x0
    refine State.setPort_fr (Fr.sub hm rfl) ?_
    refine State.setPort_fr (Fr.sub hm rfl) ?_
    refine State.setCtx_fr (Fr.sub hm rfl) ?_
    exact h

theorem execSatOperation_fr {a0 a1 a2} {t}
    (hm : 0xfffdf7fd1ffffffffffffffffffffffffffffffffffffffffffffffffffffffffffffffffffffffff ||| m = m) (h : Fr m s₀ s)
    (e : execSatOperation a0 a1 a2 s = .next t) : Fr m s₀ t := by
  unfold execSatOperation at e
  cases e
  refine State.ship_fr (Fr.sub hm rfl) ?_
  refine Fr.ite ?_ ?_
  · refine State.commandMove_fr (Fr.sub hm rfl) ?_
    exact h
  · exact h

theorem execLsuLoad_fr {a0 a1 a2} {t}
    (hm : 0xfffdf7fd1ffffffffffffffffffffffffffffffffffffffffffffffffffffffffffffffffffffffff ||| m = m) (h : Fr m s₀ s)
    (e : execLsuLoad a0 a1 a2 s = .next t) : Fr m s₀ t := by
  unfold execLsuLoad at e
  cases e
  refine State.ship_fr (Fr.sub hm rfl) ?_
  refine Fr.ite ?_ ?_
  · refine State.commandMove_fr (Fr.sub hm rfl) ?_
    exact h
  · exact h

theorem execLoadComplete_fr {a0 a1 a2} {t}
    (hm : 0x40003850000000000000000000000000000000078000000000000000000000000000000000000000 ||| m = m) (h : Fr m s₀ s)
    (e : execLoadComplete a0 a1 a2 s = .next t) : Fr m s₀ t := by
  unfold execLoadComplete at e
  cases e
  refine State.ship_fr (Fr.sub hm rfl) ?_
  refine State.memFront_fr (Fr.sub hm rfl) ?_
  exact h

theorem execLsuStore_fr {a0 a1 a2} {t}
    (hm : 0xfffdf7fd1ffffffffffffffffffffffffffffffffffffffffffffffffffffffffffffffffffffffff ||| m = m) (h : Fr m s₀ s)
    (e : execLsuStore a0 a1 a2 s = .next t) : Fr m s₀ t := by
  unfold execLsuStore at e
  cases e
  refine State.ship_fr (Fr.sub hm rfl) ?_
  refine Fr.ite ?_ ?_
  · refine State.commandMove_fr (Fr.sub hm rfl) ?_
    exact h
  · exact h

theorem execStoreQueueDrain_fr {a0 a1 a2} {t}
    (hm : 0x40003850000000000000000000000000000000078000000000000000000000000000000000000000 ||| m = m) (h : Fr m s₀ s)
    (e : execStoreQueueDrain a0 a1 a2 s = .next t) : Fr m s₀ t := by
  unfold execStoreQueueDrain at e
  cases e
  refine State.ship_fr (Fr.sub hm rfl) ?_
  refine State.memFront_fr (Fr.sub hm rfl) ?_
  exact h

theorem execLsuAtomic_fr {a0 a1 a2} {t}
    (hm : 0xfffdf7fd1ffffffffffffffffffffffffffffffffffffffffffffffffffffffffffffffffffffffff ||| m = m) (h : Fr m s₀ s)
    (e : execLsuAtomic a0 a1 a2 s = .next t) : Fr m s₀ t := by
  unfold execLsuAtomic at e
  cases e
  refine State.ship_fr (Fr.sub hm rfl) ?_
  refine Fr.ite ?_ ?_
  · refine State.commandMove_fr (Fr.sub hm rfl) ?_
    exact h
  · exact h

theorem execLsuStatRead_fr {a0 a1} {t}
    (hm : 0xfffdf7fd1ffffffffffffffffffffffffffffffffffffffffffffffffffffffffffffffffffffffff ||| m = m) (h : Fr m s₀ s)
    (e : execLsuStatRead a0 a1 s = .next t) : Fr m s₀ t := by
  unfold execLsuStatRead at e
  cases e
  refine State.ship_fr (Fr.sub hm rfl) ?_
  refine State.commandRead_fr (Fr.sub hm rfl) ?_
  exact h

theorem execStrCopy_fr {a0} {t}
    (hm : 0xfffdf7fd1ffffffffffffffffffffffffffffffffffffffffffffffffffffffffffffffffffffffff ||| m = m) (h : Fr m s₀ s)
    (e : execStrCopy a0 s = .next t) : Fr m s₀ t := by
  unfold execStrCopy at e
  cases e
  refine State.ship_fr (Fr.sub hm rfl) ?_
  refine State.commandMove_fr (Fr.sub hm rfl) ?_
  exact h

theorem execStrFill_fr {a0 a1} {t}
    (hm : 0xfffdf7fd1ffffffffffffffffffffffffffffffffffffffffffffffffffffffffffffffffffffffff ||| m = m) (h : Fr m s₀ s)
    (e : execStrFill a0 a1 s = .next t) : Fr m s₀ t := by
  unfold execStrFill at e
  cases e
  refine State.ship_fr (Fr.sub hm rfl) ?_
  refine State.commandMove_fr (Fr.sub hm rfl) ?_
  exact h

theorem execStrCmp_fr {a0} {t}
    (hm : 0xfffdf7fd1ffffffffffffffffffffffffffffffffffffffffffffffffffffffffffffffffffffffff ||| m = m) (h : Fr m s₀ s)
    (e : execStrCmp a0 s = .next t) : Fr m s₀ t := by
  unfold execStrCmp at e
  cases e
  refine State.ship_fr (Fr.sub hm rfl) ?_
  refine State.commandMove_fr (Fr.sub hm rfl) ?_
  exact h

theorem execStrCrc_fr {a0} {t}
    (hm : 0xfffdf7fd1ffffffffffffffffffffffffffffffffffffffffffffffffffffffffffffffffffffffff ||| m = m) (h : Fr m s₀ s)
    (e : execStrCrc a0 s = .next t) : Fr m s₀ t := by
  unfold execStrCrc at e
  cases e
  refine State.ship_fr (Fr.sub hm rfl) ?_
  refine State.commandMove_fr (Fr.sub hm rfl) ?_
  exact h

theorem execStrOperationComplete_fr {a0 a1 a2} {t}
    (hm : 0x40003850000000000000000000000000000000078000000000000000000000000000000000000000 ||| m = m) (h : Fr m s₀ s)
    (e : execStrOperationComplete a0 a1 a2 s = .next t) : Fr m s₀ t := by
  unfold execStrOperationComplete at e
  cases e
  refine State.ship_fr (Fr.sub hm rfl) ?_
  split
  · refine Fr.ite ?_ ?_
    · exact h
    · refine State.doStr_fr (Fr.sub hm rfl) ?_
      refine State.setCore_fr (Fr.sub hm rfl) ?_
      exact h
  · exact h

theorem execPcJump_fr {a0 a1 a2} {t}
    (hm : 0xfffdf7fd1ffffffffffffffffffffffffffffffffffffffffffffffffffffffffffffffffffffffff ||| m = m) (h : Fr m s₀ s)
    (e : execPcJump a0 a1 a2 s = .next t) : Fr m s₀ t := by
  unfold execPcJump at e
  cases e
  refine State.ship_fr (Fr.sub hm rfl) ?_
  refine Fr.ite ?_ ?_
  · refine State.commandMove_fr (Fr.sub hm rfl) ?_
    exact h
  · exact h

theorem execPcCall_fr {a0 a1 a2} {t}
    (hm : 0xfffdf7fd1ffffffffffffffffffffffffffffffffffffffffffffffffffffffffffffffffffffffff ||| m = m) (h : Fr m s₀ s)
    (e : execPcCall a0 a1 a2 s = .next t) : Fr m s₀ t := by
  unfold execPcCall at e
  cases e
  refine State.ship_fr (Fr.sub hm rfl) ?_
  refine Fr.ite ?_ ?_
  · refine State.commandMove_fr (Fr.sub hm rfl) ?_
    exact h
  · exact h

theorem execEvtWait_fr {a0 a1} {t}
    (hm : 0xfffdf7fd1ffffffffffffffffffffffffffffffffffffffffffffffffffffffffffffffffffffffff ||| m = m) (h : Fr m s₀ s)
    (e : execEvtWait a0 a1 s = .next t) : Fr m s₀ t := by
  unfold execEvtWait at e
  cases e
  refine State.ship_fr (Fr.sub hm rfl) ?_
  refine State.commandMove_fr (Fr.sub hm rfl) ?_
  exact h

theorem execEvtSend_fr {a0 a1} {t}
    (hm : 0xfffdf7fd1ffffffffffffffffffffffffffffffffffffffffffffffffffffffffffffffffffffffff ||| m = m) (h : Fr m s₀ s)
    (e : execEvtSend a0 a1 s = .next t) : Fr m s₀ t := by
  unfold execEvtSend at e
  cases e
  refine State.ship_fr (Fr.sub hm rfl) ?_
  refine State.commandMove_fr (Fr.sub hm rfl) ?_
  exact h

theorem execEvtClr_fr {a0 a1} {t}
    (hm : 0xfffdf7fd1ffffffffffffffffffffffffffffffffffffffffffffffffffffffffffffffffffffffff ||| m = m) (h : Fr m s₀ s)
    (e : execEvtClr a0 a1 s = .next t) : Fr m s₀ t := by
  unfold execEvtClr at e
  cases e
  refine State.ship_fr (Fr.sub hm rfl) ?_
  refine State.commandMove_fr (Fr.sub hm rfl) ?_
  exact h

theorem execEvtYield_fr {a0} {t}
    (hm : 0xfffdf7fd1ffffffffffffffffffffffffffffffffffffffffffffffffffffffffffffffffffffffff ||| m = m) (h : Fr m s₀ s)
    (e : execEvtYield a0 s = .next t) : Fr m s₀ t := by
  unfold execEvtYield at e
  cases e
  refine State.ship_fr (Fr.sub hm rfl) ?_
  refine State.commandMove_fr (Fr.sub hm rfl) ?_
  exact h

theorem execTmrNow_fr {a0 a1} {t}
    (hm : 0xfffdf7fd1ffffffffffffffffffffffffffffffffffffffffffffffffffffffffffffffffffffffff ||| m = m) (h : Fr m s₀ s)
    (e : execTmrNow a0 a1 s = .next t) : Fr m s₀ t := by
  unfold execTmrNow at e
  cases e
  refine State.ship_fr (Fr.sub hm rfl) ?_
  refine State.commandRead_fr (Fr.sub hm rfl) ?_
  exact h

theorem execTmrUntil_fr {a0 a1} {t}
    (hm : 0xfffdf7fd1ffffffffffffffffffffffffffffffffffffffffffffffffffffffffffffffffffffffff ||| m = m) (h : Fr m s₀ s)
    (e : execTmrUntil a0 a1 s = .next t) : Fr m s₀ t := by
  unfold execTmrUntil at e
  cases e
  refine State.ship_fr (Fr.sub hm rfl) ?_
  refine State.commandMove_fr (Fr.sub hm rfl) ?_
  exact h

theorem execTmrAfter_fr {a0 a1} {t}
    (hm : 0xfffdf7fd1ffffffffffffffffffffffffffffffffffffffffffffffffffffffffffffffffffffffff ||| m = m) (h : Fr m s₀ s)
    (e : execTmrAfter a0 a1 s = .next t) : Fr m s₀ t := by
  unfold execTmrAfter at e
  cases e
  refine State.ship_fr (Fr.sub hm rfl) ?_
  refine State.commandMove_fr (Fr.sub hm rfl) ?_
  exact h

theorem execTmrAlarm_fr {a0 a1} {t}
    (hm : 0xfffdf7fd1ffffffffffffffffffffffffffffffffffffffffffffffffffffffffffffffffffffffff ||| m = m) (h : Fr m s₀ s)
    (e : execTmrAlarm a0 a1 s = .next t) : Fr m s₀ t := by
  unfold execTmrAlarm at e
  cases e
  refine State.ship_fr (Fr.sub hm rfl) ?_
  refine State.commandMove_fr (Fr.sub hm rfl) ?_
  exact h

theorem execTmrAloff_fr {a0} {t}
    (hm : 0xfffdf7fd1ffffffffffffffffffffffffffffffffffffffffffffffffffffffffffffffffffffffff ||| m = m) (h : Fr m s₀ s)
    (e : execTmrAloff a0 s = .next t) : Fr m s₀ t := by
  unfold execTmrAloff at e
  cases e
  refine State.ship_fr (Fr.sub hm rfl) ?_
  refine State.commandMove_fr (Fr.sub hm rfl) ?_
  exact h

theorem execRepT_fr {a0 a1} {t}
    (hm : 0xfffdf7fd1ffffffffffffffffffffffffffffffffffffffffffffffffffffffffffffffffffffffff ||| m = m) (h : Fr m s₀ s)
    (e : execRepT a0 a1 s = .next t) : Fr m s₀ t := by
  unfold execRepT at e
  cases e
  refine State.ship_fr (Fr.sub hm rfl) ?_
  refine State.commandMove_fr (Fr.sub hm rfl) ?_
  exact h

theorem execWindowRead_fr {a0 a1 a2} {t}
    (hm : 0xfffdf7fd1ffffffffffffffffffffffffffffffffffffffffffffffffffffffffffffffffffffffff ||| m = m) (h : Fr m s₀ s)
    (e : execWindowRead a0 a1 a2 s = .next t) : Fr m s₀ t := by
  unfold execWindowRead at e
  cases e
  refine State.ship_fr (Fr.sub hm rfl) ?_
  refine Fr.ite ?_ ?_
  · refine State.commandRead_fr (Fr.sub hm rfl) ?_
    exact h
  · exact h

theorem execWindowWrite_fr {a0 a1 a2} {t}
    (hm : 0xfffdf7fd1ffffffffffffffffffffffffffffffffffffffffffffffffffffffffffffffffffffffff ||| m = m) (h : Fr m s₀ s)
    (e : execWindowWrite a0 a1 a2 s = .next t) : Fr m s₀ t := by
  unfold execWindowWrite at e
  cases e
  refine State.ship_fr (Fr.sub hm rfl) ?_
  refine Fr.ite ?_ ?_
  · refine State.commandMove_fr (Fr.sub hm rfl) ?_
    exact h
  · exact h

theorem execWindowTimeout_fr {a0 a1} {t}
    (hm : 0xfffdf7fd1ffffffffffffffffffffffffffffffffffffffffffffffffffffffffffffffffffffffff ||| m = m) (h : Fr m s₀ s)
    (e : execWindowTimeout a0 a1 s = .next t) : Fr m s₀ t := by
  unfold execWindowTimeout at e
  cases e
  refine State.ship_fr (Fr.sub hm rfl) ?_
  split
  · split
    · refine Fr.ite ?_ ?_
      · refine State.commandRead_fr (Fr.sub hm rfl) ?_
        exact h
      · exact h
    · exact h
  · split
    · exact h
    · extract_lets +onlyGivenNames x0
      clear_value x0
      extract_lets +onlyGivenNames x1
      have h2 : Fr m s₀ x1 := by
        unfold x1
        refine State.setCore_fr (Fr.sub hm rfl) ?_
        exact h
      clear_value x1
      split
      · refine State.windowLost_fr (Fr.sub hm rfl) ?_
        exact h2
      · refine State.ptmo_fr (Fr.sub hm rfl) ?_
        exact h2

theorem execShadowPreloadDone_fr {a0} {t}
    (hm : 0x52003c40000000000000000000000000000020058920790000000000000000000000000280000000 ||| m = m) (h : Fr m s₀ s)
    (e : execShadowPreloadDone a0 s = .next t) : Fr m s₀ t := by
  unfold execShadowPreloadDone at e
  cases e
  refine State.ship_fr (Fr.sub hm rfl) ?_
  extract_lets +onlyGivenNames x0
  clear_value x0
  split
  · extract_lets +onlyGivenNames x1
    have h2 : Fr m s₀ x1 := by
      unfold x1
      refine State.eccEvent_fr (Fr.sub hm rfl) ?_
      exact h
    clear_value x1
    refine Fr.ite ?_ ?_
    · split
      rename_i y3 y4 y5 y6
      refine Fr.cutp y6 ?_ (fun h7 => ?_)
      · refine State.takeFree_fr (Fr.sub hm rfl) ?_
        exact h2
      refine State.trap_fr (Fr.sub hm rfl) ?_
      exact h7
    · refine State.setCore_fr (Fr.sub hm rfl) ?_
      exact h2
  · exact h

theorem execCoreFailure_fr {a0 a1} {t}
    (hm : 0xededf7f91ffffffffffffffffffffffffffffffffffffffffffffffffffffffffffffffffffffffff ||| m = m) (h : Fr m s₀ s)
    (e : execCoreFailure a0 a1 s = .next t) : Fr m s₀ t := by
  unfold execCoreFailure at e
  cases e
  refine State.ship_fr (Fr.sub hm rfl) ?_
  refine Fr.ite ?_ ?_
  · exact h
  · extract_lets +onlyGivenNames x0
    have h1 : Fr m s₀ x0 := by
      unfold x0
      refine State.coreFailed_fr (Fr.sub hm rfl) ?_
      exact h
    clear_value x0
    refine Fr.ite ?_ ?_
    · refine State.logicReset_fr (Fr.sub hm rfl) ?_
      exact h1
    · exact h1

theorem execWindowQueueDrain_fr {a0} {t}
    (hm : 0xffedf7fd1ffffffffffffffffffffffffffffffffffffffffffffffffffffffffffffffffffffffff ||| m = m) (h : Fr m s₀ s)
    (e : execWindowQueueDrain a0 s = .next t) : Fr m s₀ t := by
  unfold execWindowQueueDrain at e
  cases e
  refine State.ship_fr (Fr.sub hm rfl) ?_
  split
  · refine Fr.ite ?_ ?_
    · exact h
    · refine State.windowDrain_fr (Fr.sub hm rfl) ?_
      exact h
  · exact h

end Sys2Proof.Machine
end

