-- ==== Sys2Proof/Laws/FrameTick.lean ====
section
/-! SUPPORT. Frames (Laws/Frame.lean) of the functions of Machine/Tick.lean: one lemma for each, which says by its mask which
registers and which parts of the state the function may change. -/

namespace Sys2Proof.Machine

variable {m : Nat} {s₀ s : State}

theorem State.countTime_fr (hm : 0x20000000000000000000000000000000000000000000000000000000000000000000000000 ||| m = m) (h :
    Fr m s₀ s) : Fr m s₀ (State.countTime s) := by
  unfold State.countTime
  refine Fr.set_tb (Fr.bit hm rfl) ?_
  exact h

theorem State.ledEdge_fr (hm : 0x101f6400000000000000010000000000000000000000000000001400802040280002000280000000 ||| m = m)
    (h : Fr m s₀ s) : Fr m s₀ (State.ledEdge s) := by
  unfold State.ledEdge
  extract_lets +onlyGivenNames x0
  clear_value x0
  extract_lets +onlyGivenNames x1
  have h2 : Fr m s₀ x1 := by
    unfold x1
    refine Fr.forEach ?_ ?_
    · intro h3 s4 h5
      refine State.ledTakes_fr (Fr.sub hm rfl) ?_
      exact h5
    · refine State.fabricEdge_fr (Fr.sub hm rfl) ?_
      exact h
  clear_value x1
  refine Fr.ite ?_ ?_
  · refine State.ledSync_fr (Fr.sub hm rfl) ?_
    exact h2
  · exact h2

theorem State.tick_fr (hm : 0x581f6420000000000000010000000000000000000000000000001400802040280002000280000000 ||| m = m) (h :
    Fr m s₀ s) : Fr m s₀ (State.tick s) := by
  unfold State.tick
  refine State.ship_fr (Fr.sub hm rfl) ?_
  refine State.ethTick_fr (Fr.sub hm rfl) ?_
  refine State.ripExpire_fr (Fr.sub hm rfl) ?_
  refine State.ledEdge_fr (Fr.sub hm rfl) ?_
  refine State.countTime_fr (Fr.sub hm rfl) ?_
  exact h

end Sys2Proof.Machine
end

