-- ==== Sys2Proof/Laws/FrameTwinRx.lean ====
section
/-! SUPPORT. Frames (Laws/Frame.lean) of the functions of Machine/TwinRx.lean: one lemma for each, which says by its mask which
registers and which parts of the state the function may change. -/

namespace Sys2Proof.Machine

variable {m : Nat} {s₀ s : State}

theorem State.applyRegion_fr {a1 a2 a3}
    (hm : 0x10000000000000000000000000000000000000000000000000000000000000000000000000 ||| m = m) (h : Fr m s₀ s) :
    Fr m s₀ (State.applyRegion s a1 a2 a3) := by
  unfold State.applyRegion
  extract_lets +onlyGivenNames x0
  clear_value x0
  refine State.setBytes_fr (Fr.sub hm rfl) ?_
  exact h

theorem State.mirrorWrite_fr {a1 a2}
    (hm : 0xffedf7fd1ffffffffffffffffffffffffffffffffffffffffffffffffffffffffffffffffffffffff ||| m = m) (h : Fr m s₀ s) :
    Fr m s₀ (State.mirrorWrite s a1 a2) := by
  unfold State.mirrorWrite
  split
  · exact h
  · extract_lets +onlyGivenNames x0
    have h1 : Fr m s₀ x0 := by
      unfold x0
      refine State.writeReg_fr (Fr.sub hm rfl) (Fr.all hm rfl _) ?_
      exact h
    clear_value x0
    refine Fr.set_doc (Fr.bit hm rfl) ?_
    exact h1

theorem State.applyOut_fr {a1}
    (hm : 0xffedf7fd1ffffffffffffffffffffffffffffffffffffffffffffffffffffffffffffffffffffffff ||| m = m) (h : Fr m s₀ s) :
    Fr m s₀ (State.applyOut s a1) := by
  unfold State.applyOut
  extract_lets +onlyGivenNames x0
  clear_value x0
  extract_lets +onlyGivenNames x1
  clear_value x1
  split
  · refine Fr.ite ?_ ?_
    · refine State.writeLines_fr (Fr.sub hm rfl) ?_
      exact h
    · exact h
  · refine Fr.ite ?_ ?_
    · refine State.pdWrite_fr (Fr.sub hm rfl) ?_
      exact h
    · exact h
  · refine State.mirrorWrite_fr (Fr.sub hm rfl) ?_
    exact h
  · refine Fr.set_twn (Fr.bit hm rfl) ?_
    exact h
  · extract_lets +onlyGivenNames x2
    clear_value x2
    refine Fr.ite ?_ ?_
    · refine State.twinMode_fr (Fr.sub hm rfl) ?_
      exact h
    · exact h
  · refine State.setReg_fr (Fr.reg .NM_STAT hm rfl) ?_
    exact h
  · refine State.setReg_fr (Fr.reg .NM_CTL hm rfl) ?_
    exact h

theorem State.applyProt_fr {a1}
    (hm : 0x40018000000000000000000000000000000000000000000000000000000000000010000000000000 ||| m = m) (h : Fr m s₀ s) :
    Fr m s₀ (State.applyProt s a1) := by
  unfold State.applyProt
  extract_lets +onlyGivenNames x0
  extract_lets +onlyGivenNames x1
  refine Fr.ite ?_ ?_
  · exact h
  · extract_lets +onlyGivenNames x2
    clear_value x2
    extract_lets +onlyGivenNames x3
    clear_value x3
    extract_lets +onlyGivenNames x4
    have h5 : Fr m s₀ x4 := by
      unfold x4
      refine Fr.set_twn (Fr.bit hm rfl) ?_
      exact h
    refine Fr.ite ?_ ?_
    · exact h5
    · extract_lets +onlyGivenNames x6
      clear_value x6
      extract_lets +onlyGivenNames x7
      have h8 : Fr m s₀ x7 := by
        unfold x7
        refine Fr.set_hsw (Fr.bit hm rfl) ?_
        exact h5
      clear_value x7
      refine State.setMissing_fr (Fr.sub hm rfl) ?_
      refine State.showTheta_fr (Fr.sub hm rfl) ?_
      exact h8

theorem State.applyCanWhole_fr {a1}
    (hm : 0x2000000000000000000000000000000040020000000000000000000000000000000000000000000 ||| m = m) (h : Fr m s₀ s) :
    Fr m s₀ (State.applyCanWhole s a1) := by
  unfold State.applyCanWhole
  refine Fr.ite ?_ ?_
  · refine Fr.ite ?_ ?_
    · exact h
    · extract_lets +onlyGivenNames x0
      clear_value x0
      extract_lets +onlyGivenNames x1
      have h2 : Fr m s₀ x1 := by
        unfold x1
        refine State.setCq_fr (Fr.sub hm rfl) ?_
        exact h
      clear_value x1
      refine State.canSetRecs_fr (Fr.sub hm rfl) ?_
      exact h2
  · refine Fr.ite ?_ ?_
    · exact h
    · refine Fr.forEach ?_ ?_
      · intro h3 s4 h5
        refine State.setReg_fr (Fr.reg .CAN_TXW hm rfl) ?_
        exact h5
      · exact h

theorem State.applyCan_fr {a1}
    (hm : 0x420000000000000000000000000000000c0820000000000000000000000000000000000000000000 ||| m = m) (h : Fr m s₀ s) :
    Fr m s₀ (State.applyCan s a1) := by
  unfold State.applyCan
  extract_lets +onlyGivenNames x0
  clear_value x0
  extract_lets +onlyGivenNames x1
  clear_value x1
  extract_lets +onlyGivenNames x2
  clear_value x2
  extract_lets +onlyGivenNames x3
  clear_value x3
  extract_lets +onlyGivenNames x4
  clear_value x4
  refine Fr.ite ?_ ?_
  · exact h
  · split
    · extract_lets +onlyGivenNames x5
      clear_value x5
      split
      · refine State.applyCanWhole_fr (Fr.sub hm rfl) ?_
        refine Fr.set_twn (Fr.bit hm rfl) ?_
        exact h
      · refine Fr.set_twn (Fr.bit hm rfl) ?_
        exact h
    · extract_lets +onlyGivenNames x6
      clear_value x6
      split
      · refine State.applyCanWhole_fr (Fr.sub hm rfl) ?_
        refine Fr.set_twn (Fr.bit hm rfl) ?_
        exact h
      · refine Fr.set_twn (Fr.bit hm rfl) ?_
        exact h
    · refine Fr.ite ?_ ?_
      · exact h
      · refine State.canSetRecs_fr (Fr.sub hm rfl) ?_
        exact h
    · refine Fr.ite ?_ ?_
      · exact h
      · refine State.setReg_fr (Fr.reg .CAN_TXS hm rfl) ?_
        exact h
    · extract_lets +onlyGivenNames x7
      have h8 : Fr m s₀ x7 := by
        unfold x7
        refine State.setReg_fr (Fr.reg .CAN_TXPEND hm rfl) ?_
        exact h
      clear_value x7
      refine State.setCp_fr (Fr.sub hm rfl) ?_
      exact h8
    · refine Fr.set_twn (Fr.bit hm rfl) ?_
      exact h

theorem State.freshCan_fr (hm : 0x42000000000000000000000000000000000020000000000000000000000000000000000000000000 ||| m = m)
    (h : Fr m s₀ s) : Fr m s₀ (State.freshCan s) := by
  unfold State.freshCan
  refine Fr.ite ?_ ?_
  · exact h
  · extract_lets +onlyGivenNames x0
    have h1 : Fr m s₀ x0 := by
      unfold x0
      refine Fr.forEach ?_ ?_
      · intro h2 s3 h4
        refine State.canSetRecs_fr (Fr.sub hm rfl) ?_
        refine State.canSetRecs_fr (Fr.sub hm rfl) ?_
        exact h4
      · exact h
    clear_value x0
    refine Fr.set_twn (Fr.bit hm rfl) ?_
    exact h1

theorem State.followPartner_fr (hm : 0x8000000000000000000000000000000000000000000000000000000000000000000000000a ||| m = m)
    (h : Fr m s₀ s) : Fr m s₀ (State.followPartner s) := by
  unfold State.followPartner
  extract_lets +onlyGivenNames x0
  clear_value x0
  refine Fr.ite ?_ ?_
  · refine State.twinMode_fr (Fr.sub hm rfl) ?_
    exact h
  · exact h

theorem State.applyBlock_fr {a1}
    (hm : 0xffedfffd1ffffffffffffffffffffffffffffffffffffffffffffffffffffffffffffffffffffffff ||| m = m) (h : Fr m s₀ s) :
    Fr m s₀ (State.applyBlock s a1) := by
  unfold State.applyBlock
  extract_lets +onlyGivenNames x0
  clear_value x0
  extract_lets +onlyGivenNames x1
  clear_value x1
  split
  · refine Fr.ite ?_ ?_
    · refine State.storeRcd_fr (Fr.sub hm rfl) ?_
      refine State.setRcd_fr (Fr.sub hm rfl) ?_
      exact h
    · exact h
  · refine State.applyRegion_fr (Fr.sub hm rfl) ?_
    exact h
  · refine Fr.forEach ?_ ?_
    · intro h2 s3 h4
      refine State.applyOut_fr (Fr.sub hm rfl) ?_
      exact h4
    · exact h
  · refine Fr.forEach ?_ ?_
    · intro h5 s6 h7
      refine State.applyProt_fr (Fr.sub hm rfl) ?_
      exact h7
    · exact h
  · refine Fr.forEach ?_ ?_
    · intro h8 s9 h10
      refine State.applyCan_fr (Fr.sub hm rfl) ?_
      exact h10
    · refine State.freshCan_fr (Fr.sub hm rfl) ?_
      exact h
  · refine State.followPartner_fr (Fr.sub hm rfl) ?_
    refine State.put_fr (Fr.sub hm rfl) (Fr.bit hm rfl) ?_
    refine State.flag_fr (Fr.sub hm rfl) (Fr.bit hm rfl) ?_
    exact h

theorem State.applyReport_fr {a1}
    (hm : 0x2000000000000000010000000000000000000000000000000000000000000000000000000000 ||| m = m) (h : Fr m s₀ s) :
    Fr m s₀ (State.applyReport s a1) := by
  unfold State.applyReport
  extract_lets +onlyGivenNames x0
  clear_value x0
  extract_lets +onlyGivenNames x1
  clear_value x1
  refine State.logReport_fr (Fr.sub hm rfl) ?_
  exact h

theorem State.applyUnit_fr {a1} (hm : 0x810000000000000000000000000000000000000000000000000000000000000000000000000 ||| m = m)
    (h : Fr m s₀ s) : Fr m s₀ (State.applyUnit s a1) := by
  unfold State.applyUnit
  extract_lets +onlyGivenNames x0
  have h1 : Fr m s₀ x0 := by
    unfold x0
    refine Fr.forEach ?_ ?_
    · intro h2 s3 h4
      refine Fr.ite ?_ ?_
      · refine State.setWord_fr (Fr.sub hm rfl) ?_
        exact h4
      · exact h4
    · exact h
  clear_value x0
  refine Fr.ite ?_ ?_
  · refine State.storeRcd_fr (Fr.sub hm rfl) ?_
    refine State.setRcd_fr (Fr.sub hm rfl) ?_
    exact h1
  · exact h1

theorem State.takeUnit_fr {a1}
    (hm : 0x40000810000000000000000000000000000000000000000000000000000000000000000000000000 ||| m = m) (h : Fr m s₀ s) :
    Fr m s₀ (State.takeUnit s a1) := by
  unfold State.takeUnit
  extract_lets +onlyGivenNames x0
  clear_value x0
  extract_lets +onlyGivenNames x1
  clear_value x1
  extract_lets +onlyGivenNames x2
  clear_value x2
  extract_lets +onlyGivenNames x3
  clear_value x3
  split
  · refine Fr.set_twn (Fr.bit hm rfl) ?_
    exact h
  · refine Fr.ite ?_ ?_
    · refine State.applyUnit_fr (Fr.sub hm rfl) ?_
      refine Fr.set_twn (Fr.bit hm rfl) ?_
      exact h
    · refine Fr.set_twn (Fr.bit hm rfl) ?_
      exact h

end Sys2Proof.Machine
end

