-- ==== Sys2Proof/Laws/FrameWake.lean ====
section
/-! SUPPORT. Frames (Laws/Frame.lean) of the functions of Machine/Wake.lean: one lemma for each, which says by its mask which
registers and which parts of the state the function may change. -/

namespace Sys2Proof.Machine

variable {m : Nat} {s₀ s : State}

theorem State.sinPoll_fr {a1 a2}
    (hm : 0x12c00c81ffffffffffffffffffffffffffffffffffffffffffffffffffffffffffffffffffffffff ||| m = m) (h : Fr m s₀ s) :
    Fr m s₀ (State.sinPoll s a1 a2) := by
  unfold State.sinPoll
  split
  · exact h
  · extract_lets +onlyGivenNames x0
    clear_value x0
    extract_lets +onlyGivenNames x1
    clear_value x1
    extract_lets +onlyGivenNames x2
    clear_value x2
    extract_lets +onlyGivenNames x3
    have h4 : Fr m s₀ x3 := by
      unfold x3
      refine Fr.set_inp (Fr.bit hm rfl) ?_
      exact h
    clear_value x3
    extract_lets +onlyGivenNames x5
    clear_value x5
    extract_lets +onlyGivenNames x6
    clear_value x6
    extract_lets +onlyGivenNames x7
    have h8 : Fr m s₀ x7 := by
      unfold x7
      refine Fr.set_sys (Fr.bit hm rfl) ?_
      exact h4
    clear_value x7
    refine Fr.ite ?_ ?_
    · refine State.wakeSource_fr (Fr.sub hm rfl) ?_
      exact h8
    · exact h8

theorem State.tamperStart_fr
    (hm : 0xedec03e91ffffffffffffffffffffffffffffffffffffffffffffffffffffffffffffffffffffffff ||| m = m) (h : Fr m s₀ s) :
    Fr m s₀ (State.tamperStart s) := by
  unfold State.tamperStart
  refine State.startBegin_fr (Fr.sub hm rfl) ?_
  refine State.clearLogic_fr (Fr.sub hm rfl) ?_
  exact h

theorem execParkedSinPoll_fr {a0} {t}
    (hm : 0x52c00c81ffffffffffffffffffffffffffffffffffffffffffffffffffffffffffffffffffffffff ||| m = m) (h : Fr m s₀ s)
    (e : execParkedSinPoll a0 s = .next t) : Fr m s₀ t := by
  unfold execParkedSinPoll at e
  cases e
  refine State.ship_fr (Fr.sub hm rfl) ?_
  refine Fr.ite ?_ ?_
  · refine Fr.forEach ?_ ?_
    · intro h0 s1 h2
      refine State.sinPoll_fr (Fr.sub hm rfl) ?_
      exact h2
    · exact h
  · exact h

theorem execCanWakePattern_fr {a0 a1} {t}
    (hm : 0x56402c81ffffffffffffffffffffffffffffffffffffffffffffffffffffffffffffffffffffffff ||| m = m) (h : Fr m s₀ s)
    (e : execCanWakePattern a0 a1 s = .next t) : Fr m s₀ t := by
  unfold execCanWakePattern at e
  cases e
  refine State.ship_fr (Fr.sub hm rfl) ?_
  refine Fr.ite ?_ ?_
  · exact h
  · refine Fr.ite ?_ ?_
    · split
      · refine Fr.ite ?_ ?_
        · refine State.wakeSource_fr (Fr.sub hm rfl) ?_
          exact h
        · exact h
      · exact h
    · refine Fr.ite ?_ ?_
      · refine State.nmWakeSeen_fr (Fr.sub hm rfl) ?_
        exact h
      · exact h

theorem execCanWakeFrame_fr {a0 a1} {t}
    (hm : 0x52400c81ffffffffffffffffffffffffffffffffffffffffffffffffffffffffffffffffffffffff ||| m = m) (h : Fr m s₀ s)
    (e : execCanWakeFrame a0 a1 s = .next t) : Fr m s₀ t := by
  unfold execCanWakeFrame at e
  cases e
  refine State.ship_fr (Fr.sub hm rfl) ?_
  split
  · exact h
  · refine Fr.ite ?_ ?_
    · exact h
    · split
      · extract_lets +onlyGivenNames x0
        clear_value x0
        extract_lets +onlyGivenNames x1
        have h2 : Fr m s₀ x1 := by
          unfold x1
          refine State.setCp_fr (Fr.sub hm rfl) ?_
          exact h
        clear_value x1
        refine Fr.ite ?_ ?_
        · refine State.wakeSource_fr (Fr.sub hm rfl) ?_
          exact h2
        · exact h2
      · extract_lets +onlyGivenNames x3
        clear_value x3
        extract_lets +onlyGivenNames x4
        clear_value x4
        extract_lets +onlyGivenNames x5
        have h6 : Fr m s₀ x5 := by
          unfold x5
          refine State.setCp_fr (Fr.sub hm rfl) ?_
          exact h
        clear_value x5
        refine Fr.ite ?_ ?_
        · refine State.wakeSource_fr (Fr.sub hm rfl) ?_
          exact h6
        · exact h6

theorem execLinWakePulse_fr {a0} {t}
    (hm : 0x56402c81ffffffffffffffffffffffffffffffffffffffffffffffffffffffffffffffffffffffff ||| m = m) (h : Fr m s₀ s)
    (e : execLinWakePulse a0 s = .next t) : Fr m s₀ t := by
  unfold execLinWakePulse at e
  cases e
  refine State.ship_fr (Fr.sub hm rfl) ?_
  extract_lets +onlyGivenNames x0
  clear_value x0
  refine Fr.ite ?_ ?_
  · exact h
  · refine Fr.ite ?_ ?_
    · refine State.wakeSource_fr (Fr.sub hm rfl) ?_
      exact h
    · refine Fr.ite ?_ ?_
      · refine State.nmWakeSeen_fr (Fr.sub hm rfl) ?_
        exact h
      · exact h

theorem execAlwaysOnTimerWake_fr {t}
    (hm : 0x52400c81ffffffffffffffffffffffffffffffffffffffffffffffffffffffffffffffffffffffff ||| m = m) (h : Fr m s₀ s)
    (e : execAlwaysOnTimerWake s = .next t) : Fr m s₀ t := by
  unfold execAlwaysOnTimerWake at e
  cases e
  refine State.ship_fr (Fr.sub hm rfl) ?_
  refine State.wakeSource_fr (Fr.sub hm rfl) ?_
  exact h

theorem execTwokIFall_fr {t}
    (hm : 0x52402c81ffffffffffffffffffffffffffffffffffffffffffffffffffffffffffffffffffffffff ||| m = m) (h : Fr m s₀ s)
    (e : execTwokIFall s = .next t) : Fr m s₀ t := by
  unfold execTwokIFall at e
  cases e
  refine State.ship_fr (Fr.sub hm rfl) ?_
  refine Fr.ite ?_ ?_
  · exact h
  · extract_lets +onlyGivenNames x0
    have h1 : Fr m s₀ x0 := by
      unfold x0
      refine State.flag_fr (Fr.sub hm rfl) (Fr.bit hm rfl) ?_
      exact h
    clear_value x0
    refine Fr.ite ?_ ?_
    · refine State.wakeSource_fr (Fr.sub hm rfl) ?_
      exact h1
    · refine Fr.ite ?_ ?_
      · exact h1
      · refine Fr.ite ?_ ?_
        · refine Fr.set_twn (Fr.bit hm rfl) ?_
          exact h1
        · refine Fr.ite ?_ ?_
          · exact h1
          · extract_lets +onlyGivenNames x2
            have h3 : Fr m s₀ x2 := by
              unfold x2
              refine State.raise_fr (Fr.sub hm rfl) ?_
              exact h1
            clear_value x2
            refine Fr.set_twn (Fr.bit hm rfl) ?_
            exact h3

theorem execWakePowerUpDone_fr {t}
    (hm : 0xeded03ef1ffffffffffffffffffffffffffffffffffffffffffffffffffffffffffffffffffffffff ||| m = m) (h : Fr m s₀ s)
    (e : execWakePowerUpDone s = .next t) : Fr m s₀ t := by
  unfold execWakePowerUpDone at e
  cases e
  refine State.ship_fr (Fr.sub hm rfl) ?_
  split
  · refine Fr.ite ?_ ?_
    · refine State.tamperStart_fr (Fr.sub hm rfl) ?_
      exact h
    · extract_lets +onlyGivenNames x0
      have h1 : Fr m s₀ x0 := by
        unfold x0
        refine State.logicStart_fr (Fr.sub hm rfl) ?_
        refine State.coresPower_fr (Fr.sub hm rfl) ?_
        exact h
      clear_value x0
      refine Fr.set_sys (Fr.bit hm rfl) ?_
      exact h1
  · exact h

theorem execRetentionCheckDone_fr {a0} {t}
    (hm : 0xedec03e91ffffffffffffffffffffffffffffffffffffffffffffffffffffffffffffffffffffffff ||| m = m) (h : Fr m s₀ s)
    (e : execRetentionCheckDone a0 s = .next t) : Fr m s₀ t := by
  unfold execRetentionCheckDone at e
  cases e
  refine State.ship_fr (Fr.sub hm rfl) ?_
  refine Fr.ite ?_ ?_
  · exact h
  · refine Fr.ite ?_ ?_
    · refine State.tamperStart_fr (Fr.sub hm rfl) ?_
      exact h
    · refine Fr.ite ?_ ?_
      · refine State.retentionFail_fr (Fr.sub hm rfl) ?_
        exact h
      · refine Fr.ite ?_ ?_
        · exact h
        · extract_lets +onlyGivenNames x0
          have h1 : Fr m s₀ x0 := by
            unfold x0
            refine Fr.ite ?_ ?_
            · exact h
            · refine State.initBanks_fr (Fr.sub hm rfl) ?_
              exact h
          clear_value x0
          extract_lets +onlyGivenNames x2
          have h3 : Fr m s₀ x2 := by
            unfold x2
            refine State.put_fr (Fr.sub hm rfl) (Fr.bit hm rfl) ?_
            exact h1
          clear_value x2
          refine Fr.set_sys (Fr.bit hm rfl) ?_
          exact h3

theorem execWakeBoundary_fr {t}
    (hm : 0xededf7fd1ffffffffffffffffffffffffffffffffffffffffffffffffffffffffffffffffffffffff ||| m = m) (h : Fr m s₀ s)
    (e : execWakeBoundary s = .next t) : Fr m s₀ t := by
  unfold execWakeBoundary at e
  cases e
  refine State.ship_fr (Fr.sub hm rfl) ?_
  split
  · refine Fr.ite ?_ ?_
    · refine State.tamperStart_fr (Fr.sub hm rfl) ?_
      exact h
    · extract_lets +onlyGivenNames x0
      clear_value x0
      extract_lets +onlyGivenNames x1
      have h2 : Fr m s₀ x1 := by
        unfold x1
        refine State.boundary_fr (Fr.sub hm rfl) ?_
        refine State.startTime_fr (Fr.sub hm rfl) ?_
        exact h
      clear_value x1
      extract_lets +onlyGivenNames x3
      have h4 : Fr m s₀ x3 := by
        unfold x3
        refine State.done_fr (Fr.sub hm rfl) ?_
        exact h2
      clear_value x3
      extract_lets +onlyGivenNames x5
      clear_value x5
      extract_lets +onlyGivenNames x6
      have h7 : Fr m s₀ x6 := by
        unfold x6
        refine Fr.set_sys (Fr.bit hm rfl) ?_
        exact h4
      clear_value x6
      refine Fr.ite ?_ ?_
      · refine State.takeoverBy_fr (Fr.sub hm rfl) ?_
        exact h7
      · exact h7
  · exact h

theorem execPollPeriodExpiry_fr {t}
    (hm : 0x52d00ce1ffffffffffffffffffffffffffffffffffffffffffffffffffffffffffffffffffffffff ||| m = m) (h : Fr m s₀ s)
    (e : execPollPeriodExpiry s = .next t) : Fr m s₀ t := by
  unfold execPollPeriodExpiry at e
  cases e
  refine State.ship_fr (Fr.sub hm rfl) ?_
  refine Fr.ite ?_ ?_
  · exact h
  · extract_lets +onlyGivenNames x0
    extract_lets +onlyGivenNames x1
    have h2 : Fr m s₀ x1 := by
      unfold x1
      refine State.logicStart_fr (Fr.sub hm rfl) ?_
      refine Fr.set_sys (Fr.bit hm rfl) ?_
      exact h
    extract_lets +onlyGivenNames x3
    clear_value x3
    extract_lets +onlyGivenNames x4
    have h5 : Fr m s₀ x4 := by
      unfold x4
      refine Fr.set_fab (Fr.bit hm rfl) ?_
      exact h2
    extract_lets +onlyGivenNames x6
    have h7 : Fr m s₀ x6 := by
      unfold x6
      refine Fr.ite ?_ ?_
      · exact h5
      · refine State.put_fr (Fr.sub hm rfl) (Fr.bit hm rfl) ?_
        exact h5
    clear_value x6
    extract_lets +onlyGivenNames x8
    clear_value x8
    refine State.schedule_fr (Fr.sub hm rfl) ?_
    refine Fr.forEach ?_ ?_
    · intro h9 s10 h11
      refine State.resumeCtx_fr (Fr.sub hm rfl) ?_
      exact h11
    · exact h7

theorem execPollWindowEnd_fr {t}
    (hm : 0x52400c81ffffffffffffffffffffffffffffffffffffffffffffffffffffffffffffffffffffffff ||| m = m) (h : Fr m s₀ s)
    (e : execPollWindowEnd s = .next t) : Fr m s₀ t := by
  unfold execPollWindowEnd at e
  cases e
  refine State.ship_fr (Fr.sub hm rfl) ?_
  refine Fr.ite ?_ ?_
  · exact h
  · refine State.closeWindow_fr (Fr.sub hm rfl) ?_
    exact h

end Sys2Proof.Machine
end

