-- ==== Sys2Proof/Laws/FrameTwin.lean ====
section
/-! SUPPORT. Frames (Laws/Frame.lean) of the functions of Machine/Twin.lean: one lemma for each, which says by its mask which
registers and which parts of the state the function may change. -/

namespace Sys2Proof.Machine

variable {m : Nat} {s₀ s : State}

theorem State.chooseTrained_fr
    (hm : 0x521f2c00000000010000010000000000081821100920010000001400802040280002000280000000 ||| m = m) (h : Fr m s₀ s) :
    Fr m s₀ (State.chooseTrained s) := by
  unfold State.chooseTrained
  refine Fr.ite ?_ ?_
  · exact h
  · refine Fr.ite ?_ ?_
    · refine State.becomeDeputy_fr (Fr.sub hm rfl) ?_
      exact h
    · refine State.choosePrincipal_fr (Fr.sub hm rfl) ?_
      exact h

theorem State.judgeRole_fr (hm : 0x52012c00000000010000010000000000081821100920010000000000000000000002000280000000 ||| m = m)
    (h : Fr m s₀ s) : Fr m s₀ (State.judgeRole s) := by
  unfold State.judgeRole
  refine Fr.ite ?_ ?_
  · refine State.yieldRole_fr (Fr.sub hm rfl) ?_
    exact h
  · exact h

theorem State.measureOffset_fr {a1}
    (hm : 0x40000000000000080000000000000000000000000000000000000000000000000000000000000000 ||| m = m) (h : Fr m s₀ s) :
    Fr m s₀ (State.measureOffset s a1) := by
  unfold State.measureOffset
  extract_lets +onlyGivenNames x0
  clear_value x0
  refine Fr.ite ?_ ?_
  · exact h
  · extract_lets +onlyGivenNames x1
    clear_value x1
    extract_lets +onlyGivenNames x2
    clear_value x2
    refine State.sput_fr (Fr.sub hm rfl) (Fr.bit hm rfl) ?_
    refine Fr.set_twn (Fr.bit hm rfl) ?_
    exact h

theorem State.replica_fr {a1 : Sys2Proof.Machine.State → Sys2Proof.Machine.State} (hm : 0x0 ||| m = m)
    (hf1 : ∀ s, Fr m s₀ s → Fr m s₀ (a1 s)) (h : Fr m s₀ s) : Fr m s₀ (State.replica s a1) := by
  unfold State.replica
  refine Fr.ite ?_ ?_
  · refine hf1 _ ?_
    exact h
  · exact h

theorem State.takeAck_fr {a1}
    (hm : 0x40000000000000030000000000000000000000000000000000000000000000000000000000000000 ||| m = m) (h : Fr m s₀ s) :
    Fr m s₀ (State.takeAck s a1) := by
  unfold State.takeAck
  extract_lets +onlyGivenNames x0
  have h1 : Fr m s₀ x0 := by
    unfold x0
    refine State.put_fr (Fr.sub hm rfl) (Fr.bit hm rfl) ?_
    exact h
  clear_value x0
  extract_lets +onlyGivenNames x2
  clear_value x2
  extract_lets +onlyGivenNames x3
  have h4 : Fr m s₀ x3 := by
    unfold x3
    refine Fr.set_twn (Fr.bit hm rfl) ?_
    exact h1
  clear_value x3
  split
  · refine Fr.ite ?_ ?_
    · refine State.flag_fr (Fr.sub hm rfl) (Fr.bit hm rfl) ?_
      refine State.put_fr (Fr.sub hm rfl) (Fr.bit hm rfl) ?_
      refine Fr.set_twn (Fr.bit hm rfl) ?_
      exact h4
    · exact h4
  · exact h4

theorem State.takeClaim_fr {a1 a2}
    (hm : 0x521f6c00000000010004010000000000081821100920010000001400802040280182000280000000 ||| m = m) (h : Fr m s₀ s) :
    Fr m s₀ (State.takeClaim s a1 a2) := by
  unfold State.takeClaim
  extract_lets +onlyGivenNames x0
  clear_value x0
  extract_lets +onlyGivenNames x1
  have h2 : Fr m s₀ x1 := by
    unfold x1
    refine Fr.set_twn (Fr.bit hm rfl) ?_
    exact h
  clear_value x1
  refine Fr.ite ?_ ?_
  · refine State.becomeDeputy_fr (Fr.sub hm rfl) ?_
    exact h2
  · refine Fr.ite ?_ ?_
    · refine Fr.ite ?_ ?_
      · refine State.raise_fr (Fr.sub hm rfl) ?_
        refine State.takeOver_fr (Fr.sub hm rfl) ?_
        exact h2
      · exact h2
    · refine Fr.ite ?_ ?_
      · refine State.yieldRole_fr (Fr.sub hm rfl) ?_
        exact h2
      · exact h2

theorem State.trained_fr (hm : 0x521f2c00000000050000010000000000081821100920010000001400802040280002000280000000 ||| m = m)
    (h : Fr m s₀ s) : Fr m s₀ (State.trained s) := by
  unfold State.trained
  extract_lets +onlyGivenNames x0
  clear_value x0
  extract_lets +onlyGivenNames x1
  have h2 : Fr m s₀ x1 := by
    unfold x1
    refine State.chooseTrained_fr (Fr.sub hm rfl) ?_
    refine State.put_fr (Fr.sub hm rfl) (Fr.bit hm rfl) ?_
    refine Fr.set_twn (Fr.bit hm rfl) ?_
    exact h
  clear_value x1
  refine Fr.ite ?_ ?_
  · refine State.resyncMark_fr (Fr.sub hm rfl) ?_
    exact h2
  · refine State.startResync_fr (Fr.sub hm rfl) ?_
    exact h2

theorem State.takeHeartbeat_fr {a1}
    (hm : 0x521f2c000000000f0000010000000000081821100920010000001400802040280002000280000000 ||| m = m) (h : Fr m s₀ s) :
    Fr m s₀ (State.takeHeartbeat s a1) := by
  unfold State.takeHeartbeat
  extract_lets +onlyGivenNames x0
  have h1 : Fr m s₀ x0 := by
    unfold x0
    refine State.measureOffset_fr (Fr.sub hm rfl) ?_
    exact h
  extract_lets +onlyGivenNames x2
  extract_lets +onlyGivenNames x3
  have h4 : Fr m s₀ x3 := by
    unfold x3
    refine Fr.set_twn (Fr.bit hm rfl) ?_
    exact h1
  extract_lets +onlyGivenNames x5
  have h6 : Fr m s₀ x5 := by
    unfold x5
    refine State.takeAck_fr (Fr.sub hm rfl) ?_
    exact h4
  extract_lets +onlyGivenNames x7
  have h8 : Fr m s₀ x7 := by
    unfold x7
    refine Fr.ite ?_ ?_
    · refine State.trained_fr (Fr.sub hm rfl) ?_
      exact h6
    · exact h6
  clear_value x7
  extract_lets +onlyGivenNames x9
  clear_value x9
  extract_lets +onlyGivenNames x10
  have h11 : Fr m s₀ x10 := by
    unfold x10
    refine Fr.ite ?_ ?_
    · refine State.startResync_fr (Fr.sub hm rfl) ?_
      exact h8
    · exact h8
  clear_value x10
  extract_lets +onlyGivenNames x12
  have h13 : Fr m s₀ x12 := by
    unfold x12
    refine State.judgeRole_fr (Fr.sub hm rfl) ?_
    exact h11
  clear_value x12
  refine Fr.ite ?_ ?_
  · refine State.failbackEnd_fr (Fr.sub hm rfl) ?_
    exact h13
  · exact h13

theorem State.takeTraining_fr {a1}
    (hm : 0x52012c00000000010000010000000000081821100920010000000000000000000002000280000000 ||| m = m) (h : Fr m s₀ s) :
    Fr m s₀ (State.takeTraining s a1) := by
  unfold State.takeTraining
  extract_lets +onlyGivenNames x0
  clear_value x0
  extract_lets +onlyGivenNames x1
  clear_value x1
  extract_lets +onlyGivenNames x2
  clear_value x2
  extract_lets +onlyGivenNames x3
  have h4 : Fr m s₀ x3 := by
    unfold x3
    refine State.judgeRole_fr (Fr.sub hm rfl) ?_
    refine Fr.set_twn (Fr.bit hm rfl) ?_
    exact h
  clear_value x3
  refine Fr.ite ?_ ?_
  · exact h4
  · extract_lets +onlyGivenNames x5
    clear_value x5
    extract_lets +onlyGivenNames x6
    clear_value x6
    extract_lets +onlyGivenNames x7
    have h8 : Fr m s₀ x7 := by
      unfold x7
      refine Fr.set_twn (Fr.bit hm rfl) ?_
      exact h4
    clear_value x7
    refine Fr.ite ?_ ?_
    · exact h8
    · extract_lets +onlyGivenNames x9
      clear_value x9
      extract_lets +onlyGivenNames x10
      clear_value x10
      extract_lets +onlyGivenNames x11
      clear_value x11
      refine State.heartbeat_fr (Fr.sub hm rfl) ?_
      refine Fr.set_twn (Fr.bit hm rfl) ?_
      exact h8

theorem State.twinDiscard_fr
    (hm : 0xd25f6dd1ffffffffffffffffffffffffffffffffffffffffffffffffffffffffffffffffffffffff ||| m = m) (h : Fr m s₀ s) :
    Fr m s₀ (State.twinDiscard s) := by
  unfold State.twinDiscard
  extract_lets +onlyGivenNames x0
  clear_value x0
  extract_lets +onlyGivenNames x1
  clear_value x1
  extract_lets +onlyGivenNames x2
  have h3 : Fr m s₀ x2 := by
    unfold x2
    refine State.count_fr (Fr.sub hm rfl) (Fr.bit hm rfl) ?_
    refine Fr.set_twn (Fr.bit hm rfl) ?_
    exact h
  clear_value x2
  extract_lets +onlyGivenNames x4
  have h5 : Fr m s₀ x4 := by
    unfold x4
    refine State.raise_fr (Fr.sub hm rfl) ?_
    exact h3
  clear_value x4
  refine Fr.ite ?_ ?_
  · exact h5
  · refine State.tamper_fr (Fr.sub hm rfl) ?_
    refine State.linkDown_fr (Fr.sub hm rfl) ?_
    exact h5

theorem State.twinSeq_fr {a1}
    (hm : 0x40002000000000050000000000000000000000000000000000000000000000000000000000000000 ||| m = m) (h : Fr m s₀ s) :
    Fr m s₀ (State.twinSeq s a1) := by
  unfold State.twinSeq
  extract_lets +onlyGivenNames x0
  extract_lets +onlyGivenNames x1
  clear_value x1
  extract_lets +onlyGivenNames x2
  have h3 : Fr m s₀ x2 := by
    unfold x2
    refine Fr.set_twn (Fr.bit hm rfl) ?_
    exact h
  clear_value x2
  refine Fr.ite ?_ ?_
  · refine State.resync_fr (Fr.sub hm rfl) ?_
    refine State.raise_fr (Fr.sub hm rfl) ?_
    exact h3
  · exact h3

theorem State.twinReceive_fr {a1 a2 a3} {a4 : Sys2Proof.Machine.State → Sys2Proof.Machine.State}
    (hm : 0xd25f6dd1ffffffffffffffffffffffffffffffffffffffffffffffffffffffffffffffffffffffff ||| m = m)
    (hf4 : ∀ s, Fr m s₀ s → Fr m s₀ (a4 s)) (h : Fr m s₀ s) : Fr m s₀ (State.twinReceive s a1 a2 a3 a4) := by
  unfold State.twinReceive
  split
  · exact h
  · refine Fr.ite ?_ ?_
    · exact h
    · refine Fr.ite ?_ ?_
      · refine State.twinDiscard_fr (Fr.sub hm rfl) ?_
        exact h
      · extract_lets +onlyGivenNames x0
        clear_value x0
        extract_lets +onlyGivenNames x1
        have h2 : Fr m s₀ x1 := by
          unfold x1
          refine Fr.set_twn (Fr.bit hm rfl) ?_
          exact h
        clear_value x1
        refine hf4 _ ?_
        refine Fr.ite ?_ ?_
        · exact h2
        · refine State.twinSeq_fr (Fr.sub hm rfl) ?_
          exact h2

theorem execTakeoverRelease_fr {t}
    (hm : 0x521f6c00000000010004010000000000081821100920010000001400802040280182000280000000 ||| m = m) (h : Fr m s₀ s)
    (e : execTakeoverRelease s = .next t) : Fr m s₀ t := by
  unfold execTakeoverRelease at e
  cases e
  refine State.ship_fr (Fr.sub hm rfl) ?_
  refine Fr.ite ?_ ?_
  · refine State.takeoverBy_fr (Fr.sub hm rfl) ?_
    exact h
  · exact h

theorem execHandoverRoleTimer_fr {t}
    (hm : 0x52012c00000000010000010000000000081821100920010000000000000000000002000280000000 ||| m = m) (h : Fr m s₀ s)
    (e : execHandoverRoleTimer s = .next t) : Fr m s₀ t := by
  unfold execHandoverRoleTimer at e
  cases e
  refine State.ship_fr (Fr.sub hm rfl) ?_
  refine Fr.ite ?_ ?_
  · refine State.becomeDeputy_fr (Fr.sub hm rfl) ?_
    exact h
  · exact h

theorem execTwstartExpiry_fr {t}
    (hm : 0x521f6c00000000010004010000000000081821100920010000001400802040280182000280000000 ||| m = m) (h : Fr m s₀ s)
    (e : execTwstartExpiry s = .next t) : Fr m s₀ t := by
  unfold execTwstartExpiry at e
  cases e
  refine State.ship_fr (Fr.sub hm rfl) ?_
  refine Fr.ite ?_ ?_
  · refine State.choosePrincipal_fr (Fr.sub hm rfl) ?_
    exact h
  · refine Fr.ite ?_ ?_
    · refine State.takeoverBy_fr (Fr.sub hm rfl) ?_
      refine Fr.set_twn (Fr.bit hm rfl) ?_
      exact h
    · exact h

theorem execTwinSuspensionUnit_fr {a0} {t}
    (hm : 0xd25f6dd1ffffffffffffffffffffffffffffffffffffffffffffffffffffffffffffffffffffffff ||| m = m) (h : Fr m s₀ s)
    (e : execTwinSuspensionUnit a0 s = .next t) : Fr m s₀ t := by
  unfold execTwinSuspensionUnit at e
  cases e
  refine State.ship_fr (Fr.sub hm rfl) ?_
  refine State.twinReceive_fr (Fr.sub hm rfl) ?_ ?_
  · intro s0 h1
    refine State.replica_fr (Fr.sub hm rfl) ?_ ?_
    · intro s2 h3
      refine State.takeUnit_fr (Fr.sub hm rfl) ?_
      exact h3
    · exact h1
  · exact h

theorem execTwinOutputCommand_fr {a0} {t}
    (hm : 0xffedf7fd1ffffffffffffffffffffffffffffffffffffffffffffffffffffffffffffffffffffffff ||| m = m) (h : Fr m s₀ s)
    (e : execTwinOutputCommand a0 s = .next t) : Fr m s₀ t := by
  unfold execTwinOutputCommand at e
  cases e
  refine State.ship_fr (Fr.sub hm rfl) ?_
  refine State.twinReceive_fr (Fr.sub hm rfl) ?_ ?_
  · intro s0 h1
    refine State.replica_fr (Fr.sub hm rfl) ?_ ?_
    · intro s2 h3
      refine Fr.forEach ?_ ?_
      · intro h4 s5 h6
        refine State.applyOut_fr (Fr.sub hm rfl) ?_
        exact h6
      · exact h3
    · exact h1
  · exact h

theorem execTwinProtectionState_fr {a0} {t}
    (hm : 0xd25fedd1ffffffffffffffffffffffffffffffffffffffffffffffffffffffffffffffffffffffff ||| m = m) (h : Fr m s₀ s)
    (e : execTwinProtectionState a0 s = .next t) : Fr m s₀ t := by
  unfold execTwinProtectionState at e
  cases e
  refine State.ship_fr (Fr.sub hm rfl) ?_
  refine State.twinReceive_fr (Fr.sub hm rfl) ?_ ?_
  · intro s0 h1
    refine State.replica_fr (Fr.sub hm rfl) ?_ ?_
    · intro s2 h3
      refine Fr.forEach ?_ ?_
      · intro h4 s5 h6
        refine State.applyProt_fr (Fr.sub hm rfl) ?_
        exact h6
      · exact h3
    · exact h1
  · exact h

theorem execTwinCan_fr {a0} {t}
    (hm : 0xd25f6dd1ffffffffffffffffffffffffffffffffffffffffffffffffffffffffffffffffffffffff ||| m = m) (h : Fr m s₀ s)
    (e : execTwinCan a0 s = .next t) : Fr m s₀ t := by
  unfold execTwinCan at e
  cases e
  refine State.ship_fr (Fr.sub hm rfl) ?_
  refine State.twinReceive_fr (Fr.sub hm rfl) ?_ ?_
  · intro s0 h1
    refine State.replica_fr (Fr.sub hm rfl) ?_ ?_
    · intro s2 h3
      refine Fr.forEach ?_ ?_
      · intro h4 s5 h6
        refine State.applyCan_fr (Fr.sub hm rfl) ?_
        exact h6
      · exact h3
    · exact h1
  · exact h

theorem execTwinConditionReport_fr {a0} {t}
    (hm : 0xd25f6dd1ffffffffffffffffffffffffffffffffffffffffffffffffffffffffffffffffffffffff ||| m = m) (h : Fr m s₀ s)
    (e : execTwinConditionReport a0 s = .next t) : Fr m s₀ t := by
  unfold execTwinConditionReport at e
  cases e
  refine State.ship_fr (Fr.sub hm rfl) ?_
  refine State.twinReceive_fr (Fr.sub hm rfl) ?_ ?_
  · intro s0 h1
    refine Fr.forEach ?_ ?_
    · intro h2 s3 h4
      refine State.applyReport_fr (Fr.sub hm rfl) ?_
      exact h4
    · exact h1
  · exact h

theorem execTwinHeartbeat_fr {a0} {t}
    (hm : 0xd25f6dd1ffffffffffffffffffffffffffffffffffffffffffffffffffffffffffffffffffffffff ||| m = m) (h : Fr m s₀ s)
    (e : execTwinHeartbeat a0 s = .next t) : Fr m s₀ t := by
  unfold execTwinHeartbeat at e
  cases e
  refine State.ship_fr (Fr.sub hm rfl) ?_
  refine State.twinReceive_fr (Fr.sub hm rfl) ?_ ?_
  · intro s0 h1
    refine State.takeHeartbeat_fr (Fr.sub hm rfl) ?_
    exact h1
  · exact h

theorem execTwinResyncBlock_fr {a0} {t}
    (hm : 0xffedfffd1ffffffffffffffffffffffffffffffffffffffffffffffffffffffffffffffffffffffff ||| m = m) (h : Fr m s₀ s)
    (e : execTwinResyncBlock a0 s = .next t) : Fr m s₀ t := by
  unfold execTwinResyncBlock at e
  cases e
  refine State.ship_fr (Fr.sub hm rfl) ?_
  refine State.twinReceive_fr (Fr.sub hm rfl) ?_ ?_
  · intro s0 h1
    refine State.replica_fr (Fr.sub hm rfl) ?_ ?_
    · intro s2 h3
      refine State.applyBlock_fr (Fr.sub hm rfl) ?_
      exact h3
    · exact h1
  · exact h

theorem execTwinClosing_fr {a0} {t}
    (hm : 0xd25fedd1ffffffffffffffffffffffffffffffffffffffffffffffffffffffffffffffffffffffff ||| m = m) (h : Fr m s₀ s)
    (e : execTwinClosing a0 s = .next t) : Fr m s₀ t := by
  unfold execTwinClosing at e
  cases e
  refine State.ship_fr (Fr.sub hm rfl) ?_
  refine State.twinReceive_fr (Fr.sub hm rfl) ?_ ?_
  · intro s0 h1
    refine State.replica_fr (Fr.sub hm rfl) ?_ ?_
    · intro s2 h3
      extract_lets +onlyGivenNames x4
      have h5 : Fr m s₀ x4 := by
        unfold x4
        refine Fr.forEach ?_ ?_
        · intro h6 s7 h8
          refine State.applyProt_fr (Fr.sub hm rfl) ?_
          exact h8
        · exact h3
      clear_value x4
      refine Fr.set_twn (Fr.bit hm rfl) ?_
      exact h5
    · exact h1
  · exact h

theorem execTwinRoleClaim_fr {a0} {t}
    (hm : 0xd25f6dd1ffffffffffffffffffffffffffffffffffffffffffffffffffffffffffffffffffffffff ||| m = m) (h : Fr m s₀ s)
    (e : execTwinRoleClaim a0 s = .next t) : Fr m s₀ t := by
  unfold execTwinRoleClaim at e
  cases e
  refine State.ship_fr (Fr.sub hm rfl) ?_
  refine State.twinReceive_fr (Fr.sub hm rfl) ?_ ?_
  · intro s0 h1
    refine State.takeClaim_fr (Fr.sub hm rfl) ?_
    exact h1
  · exact h

theorem execTwinTraining_fr {a0} {t}
    (hm : 0xd25f6dd1ffffffffffffffffffffffffffffffffffffffffffffffffffffffffffffffffffffffff ||| m = m) (h : Fr m s₀ s)
    (e : execTwinTraining a0 s = .next t) : Fr m s₀ t := by
  unfold execTwinTraining at e
  cases e
  refine State.ship_fr (Fr.sub hm rfl) ?_
  refine State.twinReceive_fr (Fr.sub hm rfl) ?_ ?_
  · intro s0 h1
    refine State.takeTraining_fr (Fr.sub hm rfl) ?_
    exact h1
  · exact h

theorem execTrainingFrameSend_fr {t}
    (hm : 0x40000040000000010000000000000000000000000000000000000000000000000000000000000000 ||| m = m) (h : Fr m s₀ s)
    (e : execTrainingFrameSend s = .next t) : Fr m s₀ t := by
  unfold execTrainingFrameSend at e
  cases e
  refine State.ship_fr (Fr.sub hm rfl) ?_
  refine Fr.ite ?_ ?_
  · exact h
  · extract_lets +onlyGivenNames x0
    have h1 : Fr m s₀ x0 := by
      unfold x0
      refine Fr.ite ?_ ?_
      · refine State.trainBegin_fr (Fr.sub hm rfl) ?_
        exact h
      · exact h
    clear_value x0
    refine Fr.set_twn (Fr.bit hm rfl) ?_
    exact h1

theorem execHeartbeatSend_fr {t}
    (hm : 0x52000c00000000000000000000000000000020000900010000000000000000000000000280000000 ||| m = m) (h : Fr m s₀ s)
    (e : execHeartbeatSend s = .next t) : Fr m s₀ t := by
  unfold execHeartbeatSend at e
  cases e
  refine State.ship_fr (Fr.sub hm rfl) ?_
  refine Fr.ite ?_ ?_
  · refine State.heartbeat_fr (Fr.sub hm rfl) ?_
    refine State.failbackStep_fr (Fr.sub hm rfl) ?_
    exact h
  · exact h

theorem execProtectionShipTick_fr {t}
    (hm : 0x40000000000000000000000000000000000000000000000000000000000000000000000000000000 ||| m = m) (h : Fr m s₀ s)
    (e : execProtectionShipTick s = .next t) : Fr m s₀ t := by
  unfold execProtectionShipTick at e
  cases e
  refine State.ship_fr (Fr.sub hm rfl) ?_
  refine Fr.ite ?_ ?_
  · refine State.twinSend_fr (Fr.sub hm rfl) ?_
    exact h
  · exact h

theorem execLinkLost_fr {t}
    (hm : 0x40002000000000010000000000000000000000000000000000000000000000000000000000000000 ||| m = m) (h : Fr m s₀ s)
    (e : execLinkLost s = .next t) : Fr m s₀ t := by
  unfold execLinkLost at e
  cases e
  refine State.ship_fr (Fr.sub hm rfl) ?_
  refine Fr.ite ?_ ?_
  · refine State.linkDown_fr (Fr.sub hm rfl) ?_
    exact h
  · exact h

theorem execLaneLost_fr {a0} {t}
    (hm : 0x40002000000000050000000000000000000000000000000000000000000000000000000000000000 ||| m = m) (h : Fr m s₀ s)
    (e : execLaneLost a0 s = .next t) : Fr m s₀ t := by
  unfold execLaneLost at e
  cases e
  refine State.ship_fr (Fr.sub hm rfl) ?_
  refine Fr.ite ?_ ?_
  · refine State.raise_fr (Fr.sub hm rfl) ?_
    refine State.count_fr (Fr.sub hm rfl) (Fr.bit hm rfl) ?_
    refine State.put_fr (Fr.sub hm rfl) (Fr.bit hm rfl) ?_
    exact h
  · exact h

theorem execTwnCmdFailback_fr {a0} {t}
    (hm : 0x252000c00000000000000000000000000000020000900010000000000000000000000000280000000 ||| m = m) (h : Fr m s₀ s)
    (e : execTwnCmdFailback a0 s = .next t) : Fr m s₀ t := by
  unfold execTwnCmdFailback at e
  cases e
  refine State.ship_fr (Fr.sub hm rfl) ?_
  refine State.asWho_fr (Fr.sub hm rfl) ?_ ?_
  · intro s0 h1
    refine State.runTwnCmdFailback_fr (Fr.sub hm rfl) ?_
    exact h1
  · exact h

theorem execTwnCmdResync_fr {a0} {t}
    (hm : 0x240000800000000050000000000000000000000000000000000000000000000000000000000000000 ||| m = m) (h : Fr m s₀ s)
    (e : execTwnCmdResync a0 s = .next t) : Fr m s₀ t := by
  unfold execTwnCmdResync at e
  cases e
  refine State.ship_fr (Fr.sub hm rfl) ?_
  refine State.asWho_fr (Fr.sub hm rfl) ?_ ?_
  · intro s0 h1
    refine State.runTwnCmdResync_fr (Fr.sub hm rfl) ?_
    exact h1
  · exact h

theorem execTwokIRise_fr {t}
    (hm : 0x40000000000000010000000000000000000000000000000000000000000000000000000000000000 ||| m = m) (h : Fr m s₀ s)
    (e : execTwokIRise s = .next t) : Fr m s₀ t := by
  unfold execTwokIRise at e
  cases e
  refine State.ship_fr (Fr.sub hm rfl) ?_
  extract_lets +onlyGivenNames x0
  have h1 : Fr m s₀ x0 := by
    unfold x0
    refine State.flag_fr (Fr.sub hm rfl) (Fr.bit hm rfl) ?_
    exact h
  clear_value x0
  refine Fr.set_twn (Fr.bit hm rfl) ?_
  exact h1

theorem execTwinLaneUp_fr {a0} {t}
    (hm : 0x40000000000000010000000000000000000000000000000000000000000000000000000000000000 ||| m = m) (h : Fr m s₀ s)
    (e : execTwinLaneUp a0 s = .next t) : Fr m s₀ t := by
  unfold execTwinLaneUp at e
  cases e
  refine State.ship_fr (Fr.sub hm rfl) ?_
  refine Fr.ite ?_ ?_
  · refine State.put_fr (Fr.sub hm rfl) (Fr.bit hm rfl) ?_
    exact h
  · exact h

end Sys2Proof.Machine
end

