-- ==== Sys2Proof/Laws/FrameExec.lean ====
section
/-! SUPPORT. What every command does: it answers a next state, leaves queue and variant alone and keeps the memory's
canonical form (`exec_fr` with the full mask). -/

namespace Sys2Proof.Machine

variable {m : Nat} {s₀ s t : State}

/-- Every command answers a next state. -/
theorem exec_next (i : Instr) (s : State) : ∃ t, exec i s = .next t := by
  cases i <;> exact ⟨_, rfl⟩

theorem exec_fr {i : Instr}
    (hm : 0xfffffffffffffffffffffffffffffffffffffffffffffffffffffffffffffffffffffffffffffffff ||| m = m)
    (h : Fr m s₀ s) (e : exec i s = .next t) : Fr m s₀ t := by
  cases i with
  | supplyGood => exact execSupplyGood_fr (Fr.sub hm rfl) h e
  | powerOnReset => exact execPowerOnReset_fr (Fr.sub hm rfl) h e
  | powerIslandReset => exact execPowerIslandReset_fr (Fr.sub hm rfl) h e
  | supplyBrownout => exact execSupplyBrownout_fr (Fr.sub hm rfl) h e
  | referenceLoss => exact execReferenceLoss_fr (Fr.sub hm rfl) h e
  | logicReset => exact execLogicReset_fr (Fr.sub hm rfl) h e
  | holdTimerExpiry => exact execHoldTimerExpiry_fr (Fr.sub hm rfl) h e
  | logicResetRelease => exact execLogicResetRelease_fr (Fr.sub hm rfl) h e
  | startClocksLocked => exact execStartClocksLocked_fr (Fr.sub hm rfl) h e
  | startSupervisorCheckDone => exact execStartSupervisorCheckDone_fr (Fr.sub hm rfl) h e
  | s2RetryTimer => exact execS2RetryTimer_fr (Fr.sub hm rfl) h e
  | pufAttemptDone => exact execPufAttemptDone_fr (Fr.sub hm rfl) h e
  | keyDerivationDone => exact execKeyDerivationDone_fr (Fr.sub hm rfl) h e
  | imageReadDone => exact execImageReadDone_fr (Fr.sub hm rfl) h e
  | imageVerifyDone => exact execImageVerifyDone_fr (Fr.sub hm rfl) h e
  | catalogueLoadDone => exact execCatalogueLoadDone_fr (Fr.sub hm rfl) h e
  | startBoundary => exact execStartBoundary_fr (Fr.sub hm rfl) h e
  | modeRequest => exact execModeRequest_fr (Fr.sub hm rfl) h e
  | stagingTimeout => exact execStagingTimeout_fr (Fr.sub hm rfl) h e
  | modeBoundary => exact execModeBoundary_fr (Fr.sub hm rfl) h e
  | staggerStepExpiry => exact execStaggerStepExpiry_fr (Fr.sub hm rfl) h e
  | powerDownDone => exact execPowerDownDone_fr (Fr.sub hm rfl) h e
  | sysRstcmd => exact execSysRstcmd_fr (Fr.sub hm rfl) h e
  | docWdkick => exact execDocWdkick_fr (Fr.sub hm rfl) h e
  | watchdogExpiry => exact execWatchdogExpiry_fr (Fr.sub hm rfl) h e
  | parkedSinPoll => exact execParkedSinPoll_fr (Fr.sub hm rfl) h e
  | canWakePattern => exact execCanWakePattern_fr (Fr.sub hm rfl) h e
  | canWakeFrame => exact execCanWakeFrame_fr (Fr.sub hm rfl) h e
  | linWakePulse => exact execLinWakePulse_fr (Fr.sub hm rfl) h e
  | alwaysOnTimerWake => exact execAlwaysOnTimerWake_fr (Fr.sub hm rfl) h e
  | twokIFall => exact execTwokIFall_fr (Fr.sub hm rfl) h e
  | wakePowerUpDone => exact execWakePowerUpDone_fr (Fr.sub hm rfl) h e
  | retentionCheckDone => exact execRetentionCheckDone_fr (Fr.sub hm rfl) h e
  | wakeBoundary => exact execWakeBoundary_fr (Fr.sub hm rfl) h e
  | pollPeriodExpiry => exact execPollPeriodExpiry_fr (Fr.sub hm rfl) h e
  | pollWindowEnd => exact execPollWindowEnd_fr (Fr.sub hm rfl) h e
  | catWctlOpen => exact execCatWctlOpen_fr (Fr.sub hm rfl) h e
  | slotEraseDone => exact execSlotEraseDone_fr (Fr.sub hm rfl) h e
  | slotWordWrite => exact execSlotWordWrite_fr (Fr.sub hm rfl) h e
  | catWctlClose => exact execCatWctlClose_fr (Fr.sub hm rfl) h e
  | slotCheckDone => exact execSlotCheckDone_fr (Fr.sub hm rfl) h e
  | catWctlCommit => exact execCatWctlCommit_fr (Fr.sub hm rfl) h e
  | slotCommitDone => exact execSlotCommitDone_fr (Fr.sub hm rfl) h e
  | catWctlAbort => exact execCatWctlAbort_fr (Fr.sub hm rfl) h e
  | fabLwr => exact execFabLwr_fr (Fr.sub hm rfl) h e
  | fabLwrg => exact execFabLwrg_fr (Fr.sub hm rfl) h e
  | puPdWrite => exact execPuPdWrite_fr (Fr.sub hm rfl) h e
  | pulsePeriodEnd => exact execPulsePeriodEnd_fr (Fr.sub hm rfl) h e
  | puGateRise => exact execPuGateRise_fr (Fr.sub hm rfl) h e
  | lineEdgeEvent => exact execLineEdgeEvent_fr (Fr.sub hm rfl) h e
  | channelCommandChange => exact execChannelCommandChange_fr (Fr.sub hm rfl) h e
  | channelShortCut => exact execChannelShortCut_fr (Fr.sub hm rfl) h e
  | currentLimitEntry => exact execCurrentLimitEntry_fr (Fr.sub hm rfl) h e
  | currentLimitExit => exact execCurrentLimitExit_fr (Fr.sub hm rfl) h e
  | tlimExpiry => exact execTlimExpiry_fr (Fr.sub hm rfl) h e
  | inrushWindowEnd => exact execInrushWindowEnd_fr (Fr.sub hm rfl) h e
  | inrushExtensionEnd => exact execInrushExtensionEnd_fr (Fr.sub hm rfl) h e
  | droopDetected => exact execDroopDetected_fr (Fr.sub hm rfl) h e
  | wireModelUpdate => exact execWireModelUpdate_fr (Fr.sub hm rfl) h e
  | junctionTrip => exact execJunctionTrip_fr (Fr.sub hm rfl) h e
  | deltaTTrip => exact execDeltaTTrip_fr (Fr.sub hm rfl) h e
  | stuckOn => exact execStuckOn_fr (Fr.sub hm rfl) h e
  | clampEventEnd => exact execClampEventEnd_fr (Fr.sub hm rfl) h e
  | bucketFull => exact execBucketFull_fr (Fr.sub hm rfl) h e
  | hswLockClear => exact execHswLockClear_fr (Fr.sub hm rfl) h e
  | tretryExpiry => exact execTretryExpiry_fr (Fr.sub hm rfl) h e
  | tripConditionClear => exact execTripConditionClear_fr (Fr.sub hm rfl) h e
  | retryCounterReset => exact execRetryCounterReset_fr (Fr.sub hm rfl) h e
  | hswClrTrip => exact execHswClrTrip_fr (Fr.sub hm rfl) h e
  | openLoadMeasurement => exact execOpenLoadMeasurement_fr (Fr.sub hm rfl) h e
  | bridgeCommandChange => exact execBridgeCommandChange_fr (Fr.sub hm rfl) h e
  | reversalBrakeEnd => exact execReversalBrakeEnd_fr (Fr.sub hm rfl) h e
  | bridgeCycleLimit => exact execBridgeCycleLimit_fr (Fr.sub hm rfl) h e
  | cycleLimitEnd => exact execCycleLimitEnd_fr (Fr.sub hm rfl) h e
  | bridgeTlimExpiry => exact execBridgeTlimExpiry_fr (Fr.sub hm rfl) h e
  | brakeOvercurrent => exact execBrakeOvercurrent_fr (Fr.sub hm rfl) h e
  | bridgeShortCut => exact execBridgeShortCut_fr (Fr.sub hm rfl) h e
  | bridgeOpenLoad => exact execBridgeOpenLoad_fr (Fr.sub hm rfl) h e
  | positionCount => exact execPositionCount_fr (Fr.sub hm rfl) h e
  | positionError => exact execPositionError_fr (Fr.sub hm rfl) h e
  | pinchPeriodExceeded => exact execPinchPeriodExceeded_fr (Fr.sub hm rfl) h e
  | stallDetected => exact execStallDetected_fr (Fr.sub hm rfl) h e
  | tstopbrkExpiry => exact execTstopbrkExpiry_fr (Fr.sub hm rfl) h e
  | hbrTgtWrite => exact execHbrTgtWrite_fr (Fr.sub hm rfl) h e
  | hbrPosset => exact execHbrPosset_fr (Fr.sub hm rfl) h e
  | hbrClrTrip => exact execHbrClrTrip_fr (Fr.sub hm rfl) h e
  | hbrClrStop => exact execHbrClrStop_fr (Fr.sub hm rfl) h e
  | hbrSflt => exact execHbrSflt_fr (Fr.sub hm rfl) h e
  | valveCommandRise => exact execValveCommandRise_fr (Fr.sub hm rfl) h e
  | valveCommandFall => exact execValveCommandFall_fr (Fr.sub hm rfl) h e
  | boostStart => exact execBoostStart_fr (Fr.sub hm rfl) h e
  | boostEnd => exact execBoostEnd_fr (Fr.sub hm rfl) h e
  | boostWaitLimit => exact execBoostWaitLimit_fr (Fr.sub hm rfl) h e
  | decayEnd => exact execDecayEnd_fr (Fr.sub hm rfl) h e
  | tvminoffExpiry => exact execTvminoffExpiry_fr (Fr.sub hm rfl) h e
  | openCoilCheck => exact execOpenCoilCheck_fr (Fr.sub hm rfl) h e
  | holdCurrentLow => exact execHoldCurrentLow_fr (Fr.sub hm rfl) h e
  | coilModelUpdate => exact execCoilModelUpdate_fr (Fr.sub hm rfl) h e
  | bankEmergencyOff => exact execBankEmergencyOff_fr (Fr.sub hm rfl) h e
  | bankOpeningEnd => exact execBankOpeningEnd_fr (Fr.sub hm rfl) h e
  | bankEnableOn => exact execBankEnableOn_fr (Fr.sub hm rfl) h e
  | bankSwitchTrip => exact execBankSwitchTrip_fr (Fr.sub hm rfl) h e
  | coilShortCut => exact execCoilShortCut_fr (Fr.sub hm rfl) h e
  | vlvClrTrip => exact execVlvClrTrip_fr (Fr.sub hm rfl) h e
  | contactorCommandRise => exact execContactorCommandRise_fr (Fr.sub hm rfl) h e
  | contactorCommandFall => exact execContactorCommandFall_fr (Fr.sub hm rfl) h e
  | pullinEnd => exact execPullinEnd_fr (Fr.sub hm rfl) h e
  | contactorHighSideOpen => exact execContactorHighSideOpen_fr (Fr.sub hm rfl) h e
  | auxContactCheck => exact execAuxContactCheck_fr (Fr.sub hm rfl) h e
  | ledLevelWrite => exact execLedLevelWrite_fr (Fr.sub hm rfl) h e
  | demandLineChange => exact execDemandLineChange_fr (Fr.sub hm rfl) h e
  | dimmingDutyWrite => exact execDimmingDutyWrite_fr (Fr.sub hm rfl) h e
  | shortToGround => exact execShortToGround_fr (Fr.sub hm rfl) h e
  | openStringMeasurement => exact execOpenStringMeasurement_fr (Fr.sub hm rfl) h e
  | shortedLedCheck => exact execShortedLedCheck_fr (Fr.sub hm rfl) h e
  | dacFailure => exact execDacFailure_fr (Fr.sub hm rfl) h e
  | ledClrTrip => exact execLedClrTrip_fr (Fr.sub hm rfl) h e
  | ledClrDacrst => exact execLedClrDacrst_fr (Fr.sub hm rfl) h e
  | dacRetest => exact execDacRetest_fr (Fr.sub hm rfl) h e
  | lampGroupUpdate => exact execLampGroupUpdate_fr (Fr.sub hm rfl) h e
  | foldbackUpdate => exact execFoldbackUpdate_fr (Fr.sub hm rfl) h e
  | refreshStart => exact execRefreshStart_fr (Fr.sub hm rfl) h e
  | refreshComplete => exact execRefreshComplete_fr (Fr.sub hm rfl) h e
  | chainUnderrun => exact execChainUnderrun_fr (Fr.sub hm rfl) h e
  | lchCtlSwap => exact execLchCtlSwap_fr (Fr.sub hm rfl) h e
  | lchCtlDisc => exact execLchCtlDisc_fr (Fr.sub hm rfl) h e
  | discoveryDone => exact execDiscoveryDone_fr (Fr.sub hm rfl) h e
  | discoveryRetry => exact execDiscoveryRetry_fr (Fr.sub hm rfl) h e
  | sinSample => exact execSinSample_fr (Fr.sub hm rfl) h e
  | ainUpdate => exact execAinUpdate_fr (Fr.sub hm rfl) h e
  | ainOverRange => exact execAinOverRange_fr (Fr.sub hm rfl) h e
  | sensorSupplyOverload => exact execSensorSupplyOverload_fr (Fr.sub hm rfl) h e
  | hallLevelChange => exact execHallLevelChange_fr (Fr.sub hm rfl) h e
  | hallOpenShort => exact execHallOpenShort_fr (Fr.sub hm rfl) h e
  | move => exact execMove_fr (Fr.sub hm rfl) h e
  | aluOperation => exact execAluOperation_fr (Fr.sub hm rfl) h e
  | mulMultiply => exact execMulMultiply_fr (Fr.sub hm rfl) h e
  | mulDivide => exact execMulDivide_fr (Fr.sub hm rfl) h e
  | divideComplete => exact execDivideComplete_fr (Fr.sub hm rfl) h e
  | satOperation => exact execSatOperation_fr (Fr.sub hm rfl) h e
  | lsuLoad => exact execLsuLoad_fr (Fr.sub hm rfl) h e
  | loadComplete => exact execLoadComplete_fr (Fr.sub hm rfl) h e
  | lsuStore => exact execLsuStore_fr (Fr.sub hm rfl) h e
  | storeQueueDrain => exact execStoreQueueDrain_fr (Fr.sub hm rfl) h e
  | lsuAtomic => exact execLsuAtomic_fr (Fr.sub hm rfl) h e
  | lsuStatRead => exact execLsuStatRead_fr (Fr.sub hm rfl) h e
  | strCopy => exact execStrCopy_fr (Fr.sub hm rfl) h e
  | strFill => exact execStrFill_fr (Fr.sub hm rfl) h e
  | strCmp => exact execStrCmp_fr (Fr.sub hm rfl) h e
  | strCrc => exact execStrCrc_fr (Fr.sub hm rfl) h e
  | strOperationComplete => exact execStrOperationComplete_fr (Fr.sub hm rfl) h e
  | pcJump => exact execPcJump_fr (Fr.sub hm rfl) h e
  | pcCall => exact execPcCall_fr (Fr.sub hm rfl) h e
  | evtWait => exact execEvtWait_fr (Fr.sub hm rfl) h e
  | evtSend => exact execEvtSend_fr (Fr.sub hm rfl) h e
  | evtClr => exact execEvtClr_fr (Fr.sub hm rfl) h e
  | evtYield => exact execEvtYield_fr (Fr.sub hm rfl) h e
  | tmrNow => exact execTmrNow_fr (Fr.sub hm rfl) h e
  | tmrUntil => exact execTmrUntil_fr (Fr.sub hm rfl) h e
  | tmrAfter => exact execTmrAfter_fr (Fr.sub hm rfl) h e
  | timedWaitExpiry => exact execTimedWaitExpiry_fr (Fr.sub hm rfl) h e
  | tmrAlarm => exact execTmrAlarm_fr (Fr.sub hm rfl) h e
  | tmrAloff => exact execTmrAloff_fr (Fr.sub hm rfl) h e
  | alarmExpiry => exact execAlarmExpiry_fr (Fr.sub hm rfl) h e
  | repT => exact execRepT_fr (Fr.sub hm rfl) h e
  | windowRead => exact execWindowRead_fr (Fr.sub hm rfl) h e
  | windowWrite => exact execWindowWrite_fr (Fr.sub hm rfl) h e
  | windowTimeout => exact execWindowTimeout_fr (Fr.sub hm rfl) h e
  | shadowPreloadDone => exact execShadowPreloadDone_fr (Fr.sub hm rfl) h e
  | budgetExpiry => exact execBudgetExpiry_fr (Fr.sub hm rfl) h e
  | quarantineEffect => exact execQuarantineEffect_fr (Fr.sub hm rfl) h e
  | ctxCmdRelease => exact execCtxCmdRelease_fr (Fr.sub hm rfl) h e
  | ctxCmdQuarantine => exact execCtxCmdQuarantine_fr (Fr.sub hm rfl) h e
  | coreFailure => exact execCoreFailure_fr (Fr.sub hm rfl) h e
  | eccWriteback => exact execEccWriteback_fr (Fr.sub hm rfl) h e
  | scrubRead => exact execScrubRead_fr (Fr.sub hm rfl) h e
  | bankWakeDone => exact execBankWakeDone_fr (Fr.sub hm rfl) h e
  | bankInitDone => exact execBankInitDone_fr (Fr.sub hm rfl) h e
  | canFrameReceived => exact execCanFrameReceived_fr (Fr.sub hm rfl) h e
  | canRxdRead => exact execCanRxdRead_fr (Fr.sub hm rfl) h e
  | canRxpop => exact execCanRxpop_fr (Fr.sub hm rfl) h e
  | canTxBufferWrite => exact execCanTxBufferWrite_fr (Fr.sub hm rfl) h e
  | canTxRequest => exact execCanTxRequest_fr (Fr.sub hm rfl) h e
  | canTxCancel => exact execCanTxCancel_fr (Fr.sub hm rfl) h e
  | canStagingDone => exact execCanStagingDone_fr (Fr.sub hm rfl) h e
  | canTxChoice => exact execCanTxChoice_fr (Fr.sub hm rfl) h e
  | canTxSuccess => exact execCanTxSuccess_fr (Fr.sub hm rfl) h e
  | canTxError => exact execCanTxError_fr (Fr.sub hm rfl) h e
  | canRxError => exact execCanRxError_fr (Fr.sub hm rfl) h e
  | busOffRecoveryDone => exact execBusOffRecoveryDone_fr (Fr.sub hm rfl) h e
  | canCmdRecover => exact execCanCmdRecover_fr (Fr.sub hm rfl) h e
  | canCmdClrlonely => exact execCanCmdClrlonely_fr (Fr.sub hm rfl) h e
  | canIntegrationDone => exact execCanIntegrationDone_fr (Fr.sub hm rfl) h e
  | txdDominantTimeout => exact execTxdDominantTimeout_fr (Fr.sub hm rfl) h e
  | gatewayBufferLoad => exact execGatewayBufferLoad_fr (Fr.sub hm rfl) h e
  | linSlotStart => exact execLinSlotStart_fr (Fr.sub hm rfl) h e
  | linResponseReceived => exact execLinResponseReceived_fr (Fr.sub hm rfl) h e
  | linResponseTimeout => exact execLinResponseTimeout_fr (Fr.sub hm rfl) h e
  | linBusDominant => exact execLinBusDominant_fr (Fr.sub hm rfl) h e
  | linSchedWrite => exact execLinSchedWrite_fr (Fr.sub hm rfl) h e
  | linCmdWake => exact execLinCmdWake_fr (Fr.sub hm rfl) h e
  | linDataWrite => exact execLinDataWrite_fr (Fr.sub hm rfl) h e
  | linDataRead => exact execLinDataRead_fr (Fr.sub hm rfl) h e
  | linScheduleResume => exact execLinScheduleResume_fr (Fr.sub hm rfl) h e
  | ethFrameReceived => exact execEthFrameReceived_fr (Fr.sub hm rfl) h e
  | ethLinkChange => exact execEthLinkChange_fr (Fr.sub hm rfl) h e
  | plcaBeaconLost => exact execPlcaBeaconLost_fr (Fr.sub hm rfl) h e
  | syncMessageReceived => exact execSyncMessageReceived_fr (Fr.sub hm rfl) h e
  | syncLost => exact execSyncLost_fr (Fr.sub hm rfl) h e
  | talkerPduSend => exact execTalkerPduSend_fr (Fr.sub hm rfl) h e
  | listenerPduReceived => exact execListenerPduReceived_fr (Fr.sub hm rfl) h e
  | nmFrameReceived => exact execNmFrameReceived_fr (Fr.sub hm rfl) h e
  | nmCycle => exact execNmCycle_fr (Fr.sub hm rfl) h e
  | sleepPendingEntry => exact execSleepPendingEntry_fr (Fr.sub hm rfl) h e
  | tpendExpiry => exact execTpendExpiry_fr (Fr.sub hm rfl) h e
  | nmBusIdle => exact execNmBusIdle_fr (Fr.sub hm rfl) h e
  | nmStandbyDone => exact execNmStandbyDone_fr (Fr.sub hm rfl) h e
  | nmCmdWake => exact execNmCmdWake_fr (Fr.sub hm rfl) h e
  | nmCtlWrite => exact execNmCtlWrite_fr (Fr.sub hm rfl) h e
  | nmLocalWakeLine => exact execNmLocalWakeLine_fr (Fr.sub hm rfl) h e
  | nmWakeFromSleep => exact execNmWakeFromSleep_fr (Fr.sub hm rfl) h e
  | pnClusterTimeout => exact execPnClusterTimeout_fr (Fr.sub hm rfl) h e
  | clusterActivationTimeout => exact execClusterActivationTimeout_fr (Fr.sub hm rfl) h e
  | mainUndervoltage => exact execMainUndervoltage_fr (Fr.sub hm rfl) h e
  | mainRecovery => exact execMainRecovery_fr (Fr.sub hm rfl) h e
  | backupUndervoltage => exact execBackupUndervoltage_fr (Fr.sub hm rfl) h e
  | supplyOvervoltage => exact execSupplyOvervoltage_fr (Fr.sub hm rfl) h e
  | reverseCurrent => exact execReverseCurrent_fr (Fr.sub hm rfl) h e
  | transferBackupOn => exact execTransferBackupOn_fr (Fr.sub hm rfl) h e
  | transferMainOpen => exact execTransferMainOpen_fr (Fr.sub hm rfl) h e
  | pwrPrcmdForce => exact execPwrPrcmdForce_fr (Fr.sub hm rfl) h e
  | pwrPrcmdReturn => exact execPwrPrcmdReturn_fr (Fr.sub hm rfl) h e
  | tretExpiry => exact execTretExpiry_fr (Fr.sub hm rfl) h e
  | railReturnDone => exact execRailReturnDone_fr (Fr.sub hm rfl) h e
  | baseplateHot => exact execBaseplateHot_fr (Fr.sub hm rfl) h e
  | faultReport => exact execFaultReport_fr (Fr.sub hm rfl) h e
  | reactionSequenceEnd => exact execReactionSequenceEnd_fr (Fr.sub hm rfl) h e
  | shadowWindowEnd => exact execShadowWindowEnd_fr (Fr.sub hm rfl) h e
  | sourceActivityExpiry => exact execSourceActivityExpiry_fr (Fr.sub hm rfl) h e
  | logWrite => exact execLogWrite_fr (Fr.sub hm rfl) h e
  | logBufferFlush => exact execLogBufferFlush_fr (Fr.sub hm rfl) h e
  | fltRgcmdRelease => exact execFltRgcmdRelease_fr (Fr.sub hm rfl) h e
  | groupAutoRelease => exact execGroupAutoRelease_fr (Fr.sub hm rfl) h e
  | fltAttnAck => exact execFltAttnAck_fr (Fr.sub hm rfl) h e
  | fltCmdClrlog => exact execFltCmdClrlog_fr (Fr.sub hm rfl) h e
  | fltCmdClrlost => exact execFltCmdClrlost_fr (Fr.sub hm rfl) h e
  | fltInjLive => exact execFltInjLive_fr (Fr.sub hm rfl) h e
  | fltInjDry => exact execFltInjDry_fr (Fr.sub hm rfl) h e
  | fltInjEnd => exact execFltInjEnd_fr (Fr.sub hm rfl) h e
  | injectionExpiry => exact execInjectionExpiry_fr (Fr.sub hm rfl) h e
  | digestExchange => exact execDigestExchange_fr (Fr.sub hm rfl) h e
  | bothHalvesLost => exact execBothHalvesLost_fr (Fr.sub hm rfl) h e
  | selfTestCycle => exact execSelfTestCycle_fr (Fr.sub hm rfl) h e
  | tstCmdSelfTestA => exact execTstCmdSelfTestA_fr (Fr.sub hm rfl) h e
  | tstCmdSelfTestB => exact execTstCmdSelfTestB_fr (Fr.sub hm rfl) h e
  | tstCmdCompareTest => exact execTstCmdCompareTest_fr (Fr.sub hm rfl) h e
  | tstCmdForcePathTest => exact execTstCmdForcePathTest_fr (Fr.sub hm rfl) h e
  | testComplete => exact execTestComplete_fr (Fr.sub hm rfl) h e
  | takeoverRelease => exact execTakeoverRelease_fr (Fr.sub hm rfl) h e
  | handoverRoleTimer => exact execHandoverRoleTimer_fr (Fr.sub hm rfl) h e
  | twstartExpiry => exact execTwstartExpiry_fr (Fr.sub hm rfl) h e
  | twinSuspensionUnit => exact execTwinSuspensionUnit_fr (Fr.sub hm rfl) h e
  | twinOutputCommand => exact execTwinOutputCommand_fr (Fr.sub hm rfl) h e
  | twinProtectionState => exact execTwinProtectionState_fr (Fr.sub hm rfl) h e
  | twinCan => exact execTwinCan_fr (Fr.sub hm rfl) h e
  | twinConditionReport => exact execTwinConditionReport_fr (Fr.sub hm rfl) h e
  | twinHeartbeat => exact execTwinHeartbeat_fr (Fr.sub hm rfl) h e
  | twinResyncBlock => exact execTwinResyncBlock_fr (Fr.sub hm rfl) h e
  | twinClosing => exact execTwinClosing_fr (Fr.sub hm rfl) h e
  | twinRoleClaim => exact execTwinRoleClaim_fr (Fr.sub hm rfl) h e
  | twinTraining => exact execTwinTraining_fr (Fr.sub hm rfl) h e
  | trainingFrameSend => exact execTrainingFrameSend_fr (Fr.sub hm rfl) h e
  | heartbeatSend => exact execHeartbeatSend_fr (Fr.sub hm rfl) h e
  | protectionShipTick => exact execProtectionShipTick_fr (Fr.sub hm rfl) h e
  | linkLost => exact execLinkLost_fr (Fr.sub hm rfl) h e
  | laneLost => exact execLaneLost_fr (Fr.sub hm rfl) h e
  | twnCmdFailback => exact execTwnCmdFailback_fr (Fr.sub hm rfl) h e
  | twnCmdResync x0 => exact execTwnCmdResync_fr (a0 := x0) (Fr.sub hm rfl) h e
  | keyCmdApply x0 => exact execKeyCmdApply_fr (a0 := x0) (Fr.sub hm rfl) h e
  | keyCmdPlainwr x0 x1 x2 => exact execKeyCmdPlainwr_fr (a0 := x0) (a1 := x1) (a2 := x2) (Fr.sub hm rfl) h e
  | keyCmdImgkey x0 x1 => exact execKeyCmdImgkey_fr (a0 := x0) (a1 := x1) (Fr.sub hm rfl) h e
  | keyCmdSvcchal x0 => exact execKeyCmdSvcchal_fr (a0 := x0) (Fr.sub hm rfl) h e
  | keyCmdSvcauth x0 => exact execKeyCmdSvcauth_fr (a0 := x0) (Fr.sub hm rfl) h e
  | keyCmdClrcache x0 => exact execKeyCmdClrcache_fr (a0 := x0) (Fr.sub hm rfl) h e
  | keyCommitDone => exact execKeyCommitDone_fr (Fr.sub hm rfl) h e
  | svcokExpiry => exact execSvcokExpiry_fr (Fr.sub hm rfl) h e
  | svcLockoutExpiry => exact execSvcLockoutExpiry_fr (Fr.sub hm rfl) h e
  | keyOpgo => exact execKeyOpgo_fr (Fr.sub hm rfl) h e
  | keyOperationDone => exact execKeyOperationDone_fr (Fr.sub hm rfl) h e
  | keyTcfgWrite => exact execKeyTcfgWrite_fr (Fr.sub hm rfl) h e
  | tamperEvent => exact execTamperEvent_fr (Fr.sub hm rfl) h e
  | debugRequest => exact execDebugRequest_fr (Fr.sub hm rfl) h e
  | hostNop => exact execHostNop_fr (Fr.sub hm rfl) h e
  | hostRead => exact execHostRead_fr (Fr.sub hm rfl) h e
  | hostWrite => exact execHostWrite_fr (Fr.sub hm rfl) h e
  | hostReads => exact execHostReads_fr (Fr.sub hm rfl) h e
  | hostWrites => exact execHostWrites_fr (Fr.sub hm rfl) h e
  | hostReservedCommand => exact execHostReservedCommand_fr (Fr.sub hm rfl) h e
  | hostFrameAbort => exact execHostFrameAbort_fr (Fr.sub hm rfl) h e
  | registerWrite => exact execRegisterWrite_fr (Fr.sub hm rfl) h e
  | mgmtRequest => exact execMgmtRequest_fr (Fr.sub hm rfl) h e
  | calValWrite => exact execCalValWrite_fr (Fr.sub hm rfl) h e
  | calCommitDone => exact execCalCommitDone_fr (Fr.sub hm rfl) h e
  | crossingTimeout => exact execCrossingTimeout_fr (Fr.sub hm rfl) h e
  | bridgeLimitExit => exact execBridgeLimitExit_fr (Fr.sub hm rfl) h e
  | txdRecessiveReturn => exact execTxdRecessiveReturn_fr (Fr.sub hm rfl) h e
  | ethLinkUp => exact execEthLinkUp_fr (Fr.sub hm rfl) h e
  | plcaBeaconReturn => exact execPlcaBeaconReturn_fr (Fr.sub hm rfl) h e
  | overvoltageClear => exact execOvervoltageClear_fr (Fr.sub hm rfl) h e
  | tbhotClear => exact execTbhotClear_fr (Fr.sub hm rfl) h e
  | twokIRise => exact execTwokIRise_fr (Fr.sub hm rfl) h e
  | twinLaneUp => exact execTwinLaneUp_fr (Fr.sub hm rfl) h e
  | stuckOnClear => exact execStuckOnClear_fr (Fr.sub hm rfl) h e
  | windowQueueDrain => exact execWindowQueueDrain_fr (Fr.sub hm rfl) h e
  | sensorSupplyRecovery => exact execSensorSupplyRecovery_fr (Fr.sub hm rfl) h e

end Sys2Proof.Machine
end

