-- ==== Sys2Proof/Laws/Changes.lean ====
section
/-! SUPPORT. From a mask to the names of what may have changed. -/

namespace Sys2Proof.Machine

theorem Reg.ctorIdx_lt (r : Reg) : r.ctorIdx < 289 := by cases r <;> decide

/-- The bits of a mask that the names do not cover. -/
def uncovered (m : Nat) (rs : List Reg) : Bool :=
  (List.range 289).any fun k => m.testBit k && !(rs.map Reg.ctorIdx).contains k

theorem bit_of_covered {m : Nat} {rs : List Reg} (h : uncovered m rs = false) {r : Reg} (hr : r ∉ rs) :
    m.testBit r.ctorIdx = false := by
  unfold uncovered at h
  rw [List.any_eq_false] at h
  have h' := h r.ctorIdx (List.mem_range.mpr r.ctorIdx_lt)
  cases hb : m.testBit r.ctorIdx with
  | false => rfl
  | true =>
    exfalso
    apply h'
    rw [hb, Bool.true_and, Bool.not_eq_true']
    cases hc : (rs.map Reg.ctorIdx).contains r.ctorIdx with
    | false => rfl
    | true =>
      exfalso
      obtain ⟨q, hq, e⟩ := List.mem_map.mp (List.contains_iff_mem.mp hc)
      apply hr
      rw [← r.ofNat_ctorIdx, ← e, q.ofNat_ctorIdx]
      exact hq

/-- The bit of a part in a mask. -/
def Part.bit : Part → Nat
  | .mem => 292
  | .tb => 293
  | .sys => 295
  | .outs => 296
  | .cat => 297
  | .fab => 298
  | .doc => 299
  | .memx => 300
  | .flt => 301
  | .trips => 302
  | .buckets => 303
  | .hsw => 304
  | .hbr => 305
  | .coil => 306
  | .bank => 307
  | .led => 308
  | .fold => 309
  | .lch => 310
  | .inp => 311
  | .rdata => 312
  | .can => 313
  | .lin => 314
  | .eth => 315
  | .nm => 316
  | .pwr => 317
  | .twn => 318
  | .key => 319
  | .cal => 320
  | .spi => 321
  | .mgmt => 322
  | .mgmtTag => 323

theorem Fr.part {m : Nat} {s t : State} (h : Fr m s t) {p : Part} (hb : m.testBit p.bit = false) : p.same s t := by
  cases p with
  | mem => exact fun a => by unfold State.byte; rw [h.mem hb]
  | tb => exact h.tb hb
  | sys => exact h.sys hb
  | outs => exact h.outs hb
  | cat => exact h.cat hb
  | fab => exact h.fab hb
  | doc => exact h.doc hb
  | memx => exact h.memx hb
  | flt => exact h.flt hb
  | trips => exact h.trips hb
  | buckets => exact h.buckets hb
  | hsw => exact h.hsw hb
  | hbr => exact h.hbr hb
  | coil => exact h.coil hb
  | bank => exact h.bank hb
  | led => exact h.led hb
  | fold => exact h.fold hb
  | lch => exact h.lch hb
  | inp => exact h.inp hb
  | rdata => exact h.rdata hb
  | can => exact h.can hb
  | lin => exact h.lin hb
  | eth => exact h.eth hb
  | nm => exact h.nm hb
  | pwr => exact h.pwr hb
  | twn => exact h.twn hb
  | key => exact h.key hb
  | cal => exact h.cal hb
  | spi => exact h.spi hb
  | mgmt => exact h.mgmt hb
  | mgmtTag => exact h.mgmtTag hb

def Part.all : List Part :=
  [.mem, .tb, .sys, .outs, .cat, .fab, .doc, .memx, .flt, .trips, .buckets, .hsw, .hbr, .coil, .bank, .led,
   .fold, .lch, .inp, .rdata, .can, .lin, .eth, .nm, .pwr, .twn, .key, .cal, .spi, .mgmt, .mgmtTag]

theorem Part.mem_all (p : Part) : p ∈ Part.all := by cases p <;> decide

/-- A frame by names: the mask is covered by the registers and the parts named. -/
theorem Fr.changes {m : Nat} {s t : State} {rs : List Reg} {ps : List Part} (h : Fr m s t) (hr : uncovered m rs = false)
    (hp : (Part.all.any fun p => m.testBit p.bit && !ps.contains p) = false) : Changes rs ps s t := by
  refine ⟨fun r hn => h.regs r (bit_of_covered hr hn), fun p hn => h.part ?_, h.pending, h.variant⟩
  rw [List.any_eq_false] at hp
  have h' := hp p p.mem_all
  cases hb : m.testBit p.bit with
  | false => rfl
  | true =>
    exfalso
    apply h'
    rw [hb, Bool.true_and, Bool.not_eq_true']
    cases hc : ps.contains p with
    | false => rfl
    | true => exact absurd (List.contains_iff_mem.mp hc) hn

end Sys2Proof.Machine
end

