-- ==== Sys2Proof/Laws/State.lean ====
section
/-! SUPPORT. The small lemmas of State: what each named update leaves in each part of the state, and what a register or a
field reads as after a write of the same or of another one. -/

namespace Sys2Proof.Machine

/-! ## Registers and fields -/

@[simp] theorem State.reg_setReg_self (s : State) (r : RegRef) (w : Word) : (s.setReg r w).reg r = w :=
  Tbl.get_set_self _ _ _ _

theorem State.reg_setReg_ne (s : State) {r q : RegRef} (w : Word) (h : q ≠ r) : (s.setReg r w).reg q = s.reg q :=
  Tbl.get_set_ne h _ _ _

theorem State.reg_put_ne (s : State) {f : Fld} {q : RegRef} {i j k : Nat} (v : Nat) (h : q ≠ f.ref i j k) :
    (s.put f v i j k).reg q = s.reg q := State.reg_setReg_ne s _ h

theorem State.reg_flag_ne (s : State) {f : Fld} {q : RegRef} {i j k : Nat} (b : Bool) (h : q ≠ f.ref i j k) :
    (s.flag f b i j k).reg q = s.reg q := State.reg_put_ne s _ h

theorem State.reg_put_self (s : State) (f : Fld) (v i j k : Nat) :
    (s.put f v i j k).reg (f.ref i j k) = ins (s.reg (f.ref i j k)) f.lo f.width v := State.reg_setReg_self _ _ _

theorem State.fld_put_self (s : State) (f : Fld) (v i j k : Nat) (h : f.lo + f.width ≤ 32) :
    (s.put f v i j k).fld f i j k = v % 2 ^ f.width := by
  unfold State.fld
  rw [State.reg_put_self, ext_ins_self _ _ h]

/-- A field that shares no bit with the one written. -/
theorem State.fld_put_other (s : State) {f g : Fld} (v : Nat) {i j k i' j' k' : Nat}
    (h : g.lo + g.width ≤ f.lo ∨ f.lo + f.width ≤ g.lo) :
    (s.put f v i j k).fld g i' j' k' = s.fld g i' j' k' := by
  unfold State.fld
  by_cases e : g.ref i' j' k' = f.ref i j k
  · rw [e, State.reg_put_self, ext_ins_other _ _ (h.symm)]
  · rw [State.reg_put_ne s v e]

/-- A field of another register. -/
theorem State.fld_put_ne (s : State) {f g : Fld} (v : Nat) {i j k i' j' k' : Nat}
    (h : g.reg ≠ f.reg ∨ i' ≠ i ∨ j' ≠ j ∨ k' ≠ k) : (s.put f v i j k).fld g i' j' k' = s.fld g i' j' k' := by
  unfold State.fld
  rw [State.reg_put_ne s v]
  intro e
  injection e with e1 e2 e3 e4
  rcases h with h | h | h | h <;> exact h ‹_›

theorem State.bit_flag_self (s : State) (f : Fld) (b : Bool) (i j k : Nat) (h : f.lo + f.width ≤ 32) (hw : 0 < f.width) :
    (s.flag f b i j k).bit f i j k = b := by
  unfold State.bit State.flag
  rw [State.fld_put_self _ _ _ _ _ _ h]
  have : 1 < 2 ^ f.width := Nat.one_lt_two_pow (by omega)
  cases b
  · simp [b2n]
  · rw [show b2n true = 1 from rfl, Nat.mod_eq_of_lt this]; rfl

theorem State.fld_flag_self (s : State) (f : Fld) (b : Bool) (i j k : Nat) (h : f.lo + f.width ≤ 32) (hw : 0 < f.width) :
    (s.flag f b i j k).fld f i j k = b2n b := by
  unfold State.flag
  rw [State.fld_put_self _ _ _ _ _ _ h]
  have : 1 < 2 ^ f.width := Nat.one_lt_two_pow (by omega)
  cases b
  · simp [b2n]
  · rw [show b2n true = 1 from rfl, Nat.mod_eq_of_lt this]

theorem State.fld_flag_ne (s : State) {f g : Fld} (b : Bool) {i j k i' j' k' : Nat}
    (h : g.reg ≠ f.reg ∨ i' ≠ i ∨ j' ≠ j ∨ k' ≠ k) : (s.flag f b i j k).fld g i' j' k' = s.fld g i' j' k' :=
  State.fld_put_ne s _ h

theorem State.fld_flag_other (s : State) {f g : Fld} (b : Bool) {i j k i' j' k' : Nat}
    (h : g.lo + g.width ≤ f.lo ∨ f.lo + f.width ≤ g.lo) :
    (s.flag f b i j k).fld g i' j' k' = s.fld g i' j' k' := State.fld_put_other s _ h

theorem State.bit_of_fld {s t : State} {f : Fld} {i j k : Nat} (h : t.fld f i j k = s.fld f i j k) :
    t.bit f i j k = s.bit f i j k := by unfold State.bit; rw [h]

/-- A frame says so of fields too. -/
theorem Fr.fld {m : Nat} {s t : State} (h : Fr m s t) (f : Fld) (i j k : Nat) (hb : m.testBit f.reg.ctorIdx = false) :
    t.fld f i j k = s.fld f i j k := by
  unfold State.fld
  rw [h.regs _ hb]

theorem Fr.bitEq {m : Nat} {s t : State} (h : Fr m s t) (f : Fld) (i j k : Nat) (hb : m.testBit f.reg.ctorIdx = false) :
    t.bit f i j k = s.bit f i j k := State.bit_of_fld (h.fld f i j k hb)

/-! ## One lemma for each part of the state and each update -/

@[simp] theorem State.setReg_pending (s : State) (r : RegRef) (w : Word) : (s.setReg r w).pending = s.pending := rfl
@[simp] theorem State.setReg_variant (s : State) (r : RegRef) (w : Word) : (s.setReg r w).variant = s.variant := rfl
@[simp] theorem State.setReg_mem (s : State) (r : RegRef) (w : Word) : (s.setReg r w).mem = s.mem := rfl
@[simp] theorem State.setReg_tb (s : State) (r : RegRef) (w : Word) : (s.setReg r w).tb = s.tb := rfl
@[simp] theorem State.setReg_free (s : State) (r : RegRef) (w : Word) : (s.setReg r w).free = s.free := rfl
@[simp] theorem State.setReg_sys (s : State) (r : RegRef) (w : Word) : (s.setReg r w).sys = s.sys := rfl
@[simp] theorem State.setReg_outs (s : State) (r : RegRef) (w : Word) : (s.setReg r w).outs = s.outs := rfl
@[simp] theorem State.setReg_cat (s : State) (r : RegRef) (w : Word) : (s.setReg r w).cat = s.cat := rfl
@[simp] theorem State.setReg_fab (s : State) (r : RegRef) (w : Word) : (s.setReg r w).fab = s.fab := rfl
@[simp] theorem State.setReg_doc (s : State) (r : RegRef) (w : Word) : (s.setReg r w).doc = s.doc := rfl
@[simp] theorem State.setReg_memx (s : State) (r : RegRef) (w : Word) : (s.setReg r w).memx = s.memx := rfl
@[simp] theorem State.setReg_flt (s : State) (r : RegRef) (w : Word) : (s.setReg r w).flt = s.flt := rfl
@[simp] theorem State.setReg_trips (s : State) (r : RegRef) (w : Word) : (s.setReg r w).trips = s.trips := rfl
@[simp] theorem State.setReg_buckets (s : State) (r : RegRef) (w : Word) : (s.setReg r w).buckets = s.buckets := rfl
@[simp] theorem State.setReg_hsw (s : State) (r : RegRef) (w : Word) : (s.setReg r w).hsw = s.hsw := rfl
@[simp] theorem State.setReg_hbr (s : State) (r : RegRef) (w : Word) : (s.setReg r w).hbr = s.hbr := rfl
@[simp] theorem State.setReg_coil (s : State) (r : RegRef) (w : Word) : (s.setReg r w).coil = s.coil := rfl
@[simp] theorem State.setReg_bank (s : State) (r : RegRef) (w : Word) : (s.setReg r w).bank = s.bank := rfl
@[simp] theorem State.setReg_led (s : State) (r : RegRef) (w : Word) : (s.setReg r w).led = s.led := rfl
@[simp] theorem State.setReg_fold (s : State) (r : RegRef) (w : Word) : (s.setReg r w).fold = s.fold := rfl
@[simp] theorem State.setReg_lch (s : State) (r : RegRef) (w : Word) : (s.setReg r w).lch = s.lch := rfl
@[simp] theorem State.setReg_inp (s : State) (r : RegRef) (w : Word) : (s.setReg r w).inp = s.inp := rfl
@[simp] theorem State.setReg_rdata (s : State) (r : RegRef) (w : Word) : (s.setReg r w).rdata = s.rdata := rfl
@[simp] theorem State.setReg_can (s : State) (r : RegRef) (w : Word) : (s.setReg r w).can = s.can := rfl
@[simp] theorem State.setReg_lin (s : State) (r : RegRef) (w : Word) : (s.setReg r w).lin = s.lin := rfl
@[simp] theorem State.setReg_eth (s : State) (r : RegRef) (w : Word) : (s.setReg r w).eth = s.eth := rfl
@[simp] theorem State.setReg_nm (s : State) (r : RegRef) (w : Word) : (s.setReg r w).nm = s.nm := rfl
@[simp] theorem State.setReg_pwr (s : State) (r : RegRef) (w : Word) : (s.setReg r w).pwr = s.pwr := rfl
@[simp] theorem State.setReg_twn (s : State) (r : RegRef) (w : Word) : (s.setReg r w).twn = s.twn := rfl
@[simp] theorem State.setReg_key (s : State) (r : RegRef) (w : Word) : (s.setReg r w).key = s.key := rfl
@[simp] theorem State.setReg_cal (s : State) (r : RegRef) (w : Word) : (s.setReg r w).cal = s.cal := rfl
@[simp] theorem State.setReg_spi (s : State) (r : RegRef) (w : Word) : (s.setReg r w).spi = s.spi := rfl
@[simp] theorem State.setReg_mgmt (s : State) (r : RegRef) (w : Word) : (s.setReg r w).mgmt = s.mgmt := rfl
@[simp] theorem State.setReg_mgmtTag (s : State) (r : RegRef) (w : Word) : (s.setReg r w).mgmtTag = s.mgmtTag := rfl

@[simp] theorem State.put_pending (s : State) (f : Fld) (v i j k : Nat) : (s.put f v i j k).pending = s.pending := rfl
@[simp] theorem State.put_variant (s : State) (f : Fld) (v i j k : Nat) : (s.put f v i j k).variant = s.variant := rfl
@[simp] theorem State.put_mem (s : State) (f : Fld) (v i j k : Nat) : (s.put f v i j k).mem = s.mem := rfl
@[simp] theorem State.put_tb (s : State) (f : Fld) (v i j k : Nat) : (s.put f v i j k).tb = s.tb := rfl
@[simp] theorem State.put_free (s : State) (f : Fld) (v i j k : Nat) : (s.put f v i j k).free = s.free := rfl
@[simp] theorem State.put_sys (s : State) (f : Fld) (v i j k : Nat) : (s.put f v i j k).sys = s.sys := rfl
@[simp] theorem State.put_outs (s : State) (f : Fld) (v i j k : Nat) : (s.put f v i j k).outs = s.outs := rfl
@[simp] theorem State.put_cat (s : State) (f : Fld) (v i j k : Nat) : (s.put f v i j k).cat = s.cat := rfl
@[simp] theorem State.put_fab (s : State) (f : Fld) (v i j k : Nat) : (s.put f v i j k).fab = s.fab := rfl
@[simp] theorem State.put_doc (s : State) (f : Fld) (v i j k : Nat) : (s.put f v i j k).doc = s.doc := rfl
@[simp] theorem State.put_memx (s : State) (f : Fld) (v i j k : Nat) : (s.put f v i j k).memx = s.memx := rfl
@[simp] theorem State.put_flt (s : State) (f : Fld) (v i j k : Nat) : (s.put f v i j k).flt = s.flt := rfl
@[simp] theorem State.put_trips (s : State) (f : Fld) (v i j k : Nat) : (s.put f v i j k).trips = s.trips := rfl
@[simp] theorem State.put_buckets (s : State) (f : Fld) (v i j k : Nat) : (s.put f v i j k).buckets = s.buckets := rfl
@[simp] theorem State.put_hsw (s : State) (f : Fld) (v i j k : Nat) : (s.put f v i j k).hsw = s.hsw := rfl
@[simp] theorem State.put_hbr (s : State) (f : Fld) (v i j k : Nat) : (s.put f v i j k).hbr = s.hbr := rfl
@[simp] theorem State.put_coil (s : State) (f : Fld) (v i j k : Nat) : (s.put f v i j k).coil = s.coil := rfl
@[simp] theorem State.put_bank (s : State) (f : Fld) (v i j k : Nat) : (s.put f v i j k).bank = s.bank := rfl
@[simp] theorem State.put_led (s : State) (f : Fld) (v i j k : Nat) : (s.put f v i j k).led = s.led := rfl
@[simp] theorem State.put_fold (s : State) (f : Fld) (v i j k : Nat) : (s.put f v i j k).fold = s.fold := rfl
@[simp] theorem State.put_lch (s : State) (f : Fld) (v i j k : Nat) : (s.put f v i j k).lch = s.lch := rfl
@[simp] theorem State.put_inp (s : State) (f : Fld) (v i j k : Nat) : (s.put f v i j k).inp = s.inp := rfl
@[simp] theorem State.put_rdata (s : State) (f : Fld) (v i j k : Nat) : (s.put f v i j k).rdata = s.rdata := rfl
@[simp] theorem State.put_can (s : State) (f : Fld) (v i j k : Nat) : (s.put f v i j k).can = s.can := rfl
@[simp] theorem State.put_lin (s : State) (f : Fld) (v i j k : Nat) : (s.put f v i j k).lin = s.lin := rfl
@[simp] theorem State.put_eth (s : State) (f : Fld) (v i j k : Nat) : (s.put f v i j k).eth = s.eth := rfl
@[simp] theorem State.put_nm (s : State) (f : Fld) (v i j k : Nat) : (s.put f v i j k).nm = s.nm := rfl
@[simp] theorem State.put_pwr (s : State) (f : Fld) (v i j k : Nat) : (s.put f v i j k).pwr = s.pwr := rfl
@[simp] theorem State.put_twn (s : State) (f : Fld) (v i j k : Nat) : (s.put f v i j k).twn = s.twn := rfl
@[simp] theorem State.put_key (s : State) (f : Fld) (v i j k : Nat) : (s.put f v i j k).key = s.key := rfl
@[simp] theorem State.put_cal (s : State) (f : Fld) (v i j k : Nat) : (s.put f v i j k).cal = s.cal := rfl
@[simp] theorem State.put_spi (s : State) (f : Fld) (v i j k : Nat) : (s.put f v i j k).spi = s.spi := rfl
@[simp] theorem State.put_mgmt (s : State) (f : Fld) (v i j k : Nat) : (s.put f v i j k).mgmt = s.mgmt := rfl
@[simp] theorem State.put_mgmtTag (s : State) (f : Fld) (v i j k : Nat) : (s.put f v i j k).mgmtTag = s.mgmtTag := rfl

@[simp] theorem State.flag_pending (s : State) (f : Fld) (b : Bool) (i j k : Nat) : (s.flag f b i j k).pending = s.pending := rfl
@[simp] theorem State.flag_variant (s : State) (f : Fld) (b : Bool) (i j k : Nat) : (s.flag f b i j k).variant = s.variant := rfl
@[simp] theorem State.flag_mem (s : State) (f : Fld) (b : Bool) (i j k : Nat) : (s.flag f b i j k).mem = s.mem := rfl
@[simp] theorem State.flag_tb (s : State) (f : Fld) (b : Bool) (i j k : Nat) : (s.flag f b i j k).tb = s.tb := rfl
@[simp] theorem State.flag_free (s : State) (f : Fld) (b : Bool) (i j k : Nat) : (s.flag f b i j k).free = s.free := rfl
@[simp] theorem State.flag_sys (s : State) (f : Fld) (b : Bool) (i j k : Nat) : (s.flag f b i j k).sys = s.sys := rfl
@[simp] theorem State.flag_outs (s : State) (f : Fld) (b : Bool) (i j k : Nat) : (s.flag f b i j k).outs = s.outs := rfl
@[simp] theorem State.flag_cat (s : State) (f : Fld) (b : Bool) (i j k : Nat) : (s.flag f b i j k).cat = s.cat := rfl
@[simp] theorem State.flag_fab (s : State) (f : Fld) (b : Bool) (i j k : Nat) : (s.flag f b i j k).fab = s.fab := rfl
@[simp] theorem State.flag_doc (s : State) (f : Fld) (b : Bool) (i j k : Nat) : (s.flag f b i j k).doc = s.doc := rfl
@[simp] theorem State.flag_memx (s : State) (f : Fld) (b : Bool) (i j k : Nat) : (s.flag f b i j k).memx = s.memx := rfl
@[simp] theorem State.flag_flt (s : State) (f : Fld) (b : Bool) (i j k : Nat) : (s.flag f b i j k).flt = s.flt := rfl
@[simp] theorem State.flag_trips (s : State) (f : Fld) (b : Bool) (i j k : Nat) : (s.flag f b i j k).trips = s.trips := rfl
@[simp] theorem State.flag_buckets (s : State) (f : Fld) (b : Bool) (i j k : Nat) : (s.flag f b i j k).buckets = s.buckets := rfl
@[simp] theorem State.flag_hsw (s : State) (f : Fld) (b : Bool) (i j k : Nat) : (s.flag f b i j k).hsw = s.hsw := rfl
@[simp] theorem State.flag_hbr (s : State) (f : Fld) (b : Bool) (i j k : Nat) : (s.flag f b i j k).hbr = s.hbr := rfl
@[simp] theorem State.flag_coil (s : State) (f : Fld) (b : Bool) (i j k : Nat) : (s.flag f b i j k).coil = s.coil := rfl
@[simp] theorem State.flag_bank (s : State) (f : Fld) (b : Bool) (i j k : Nat) : (s.flag f b i j k).bank = s.bank := rfl
@[simp] theorem State.flag_led (s : State) (f : Fld) (b : Bool) (i j k : Nat) : (s.flag f b i j k).led = s.led := rfl
@[simp] theorem State.flag_fold (s : State) (f : Fld) (b : Bool) (i j k : Nat) : (s.flag f b i j k).fold = s.fold := rfl
@[simp] theorem State.flag_lch (s : State) (f : Fld) (b : Bool) (i j k : Nat) : (s.flag f b i j k).lch = s.lch := rfl
@[simp] theorem State.flag_inp (s : State) (f : Fld) (b : Bool) (i j k : Nat) : (s.flag f b i j k).inp = s.inp := rfl
@[simp] theorem State.flag_rdata (s : State) (f : Fld) (b : Bool) (i j k : Nat) : (s.flag f b i j k).rdata = s.rdata := rfl
@[simp] theorem State.flag_can (s : State) (f : Fld) (b : Bool) (i j k : Nat) : (s.flag f b i j k).can = s.can := rfl
@[simp] theorem State.flag_lin (s : State) (f : Fld) (b : Bool) (i j k : Nat) : (s.flag f b i j k).lin = s.lin := rfl
@[simp] theorem State.flag_eth (s : State) (f : Fld) (b : Bool) (i j k : Nat) : (s.flag f b i j k).eth = s.eth := rfl
@[simp] theorem State.flag_nm (s : State) (f : Fld) (b : Bool) (i j k : Nat) : (s.flag f b i j k).nm = s.nm := rfl
@[simp] theorem State.flag_pwr (s : State) (f : Fld) (b : Bool) (i j k : Nat) : (s.flag f b i j k).pwr = s.pwr := rfl
@[simp] theorem State.flag_twn (s : State) (f : Fld) (b : Bool) (i j k : Nat) : (s.flag f b i j k).twn = s.twn := rfl
@[simp] theorem State.flag_key (s : State) (f : Fld) (b : Bool) (i j k : Nat) : (s.flag f b i j k).key = s.key := rfl
@[simp] theorem State.flag_cal (s : State) (f : Fld) (b : Bool) (i j k : Nat) : (s.flag f b i j k).cal = s.cal := rfl
@[simp] theorem State.flag_spi (s : State) (f : Fld) (b : Bool) (i j k : Nat) : (s.flag f b i j k).spi = s.spi := rfl
@[simp] theorem State.flag_mgmt (s : State) (f : Fld) (b : Bool) (i j k : Nat) : (s.flag f b i j k).mgmt = s.mgmt := rfl
@[simp] theorem State.flag_mgmtTag (s : State) (f : Fld) (b : Bool) (i j k : Nat) : (s.flag f b i j k).mgmtTag = s.mgmtTag := rfl

@[simp] theorem State.count_pending (s : State) (f : Fld) (i j k : Nat) : (s.count f i j k).pending = s.pending := rfl
@[simp] theorem State.count_variant (s : State) (f : Fld) (i j k : Nat) : (s.count f i j k).variant = s.variant := rfl
@[simp] theorem State.count_mem (s : State) (f : Fld) (i j k : Nat) : (s.count f i j k).mem = s.mem := rfl
@[simp] theorem State.count_tb (s : State) (f : Fld) (i j k : Nat) : (s.count f i j k).tb = s.tb := rfl
@[simp] theorem State.count_free (s : State) (f : Fld) (i j k : Nat) : (s.count f i j k).free = s.free := rfl
@[simp] theorem State.count_sys (s : State) (f : Fld) (i j k : Nat) : (s.count f i j k).sys = s.sys := rfl
@[simp] theorem State.count_outs (s : State) (f : Fld) (i j k : Nat) : (s.count f i j k).outs = s.outs := rfl
@[simp] theorem State.count_cat (s : State) (f : Fld) (i j k : Nat) : (s.count f i j k).cat = s.cat := rfl
@[simp] theorem State.count_fab (s : State) (f : Fld) (i j k : Nat) : (s.count f i j k).fab = s.fab := rfl
@[simp] theorem State.count_doc (s : State) (f : Fld) (i j k : Nat) : (s.count f i j k).doc = s.doc := rfl
@[simp] theorem State.count_memx (s : State) (f : Fld) (i j k : Nat) : (s.count f i j k).memx = s.memx := rfl
@[simp] theorem State.count_flt (s : State) (f : Fld) (i j k : Nat) : (s.count f i j k).flt = s.flt := rfl
@[simp] theorem State.count_trips (s : State) (f : Fld) (i j k : Nat) : (s.count f i j k).trips = s.trips := rfl
@[simp] theorem State.count_buckets (s : State) (f : Fld) (i j k : Nat) : (s.count f i j k).buckets = s.buckets := rfl
@[simp] theorem State.count_hsw (s : State) (f : Fld) (i j k : Nat) : (s.count f i j k).hsw = s.hsw := rfl
@[simp] theorem State.count_hbr (s : State) (f : Fld) (i j k : Nat) : (s.count f i j k).hbr = s.hbr := rfl
@[simp] theorem State.count_coil (s : State) (f : Fld) (i j k : Nat) : (s.count f i j k).coil = s.coil := rfl
@[simp] theorem State.count_bank (s : State) (f : Fld) (i j k : Nat) : (s.count f i j k).bank = s.bank := rfl
@[simp] theorem State.count_led (s : State) (f : Fld) (i j k : Nat) : (s.count f i j k).led = s.led := rfl
@[simp] theorem State.count_fold (s : State) (f : Fld) (i j k : Nat) : (s.count f i j k).fold = s.fold := rfl
@[simp] theorem State.count_lch (s : State) (f : Fld) (i j k : Nat) : (s.count f i j k).lch = s.lch := rfl
@[simp] theorem State.count_inp (s : State) (f : Fld) (i j k : Nat) : (s.count f i j k).inp = s.inp := rfl
@[simp] theorem State.count_rdata (s : State) (f : Fld) (i j k : Nat) : (s.count f i j k).rdata = s.rdata := rfl
@[simp] theorem State.count_can (s : State) (f : Fld) (i j k : Nat) : (s.count f i j k).can = s.can := rfl
@[simp] theorem State.count_lin (s : State) (f : Fld) (i j k : Nat) : (s.count f i j k).lin = s.lin := rfl
@[simp] theorem State.count_eth (s : State) (f : Fld) (i j k : Nat) : (s.count f i j k).eth = s.eth := rfl
@[simp] theorem State.count_nm (s : State) (f : Fld) (i j k : Nat) : (s.count f i j k).nm = s.nm := rfl
@[simp] theorem State.count_pwr (s : State) (f : Fld) (i j k : Nat) : (s.count f i j k).pwr = s.pwr := rfl
@[simp] theorem State.count_twn (s : State) (f : Fld) (i j k : Nat) : (s.count f i j k).twn = s.twn := rfl
@[simp] theorem State.count_key (s : State) (f : Fld) (i j k : Nat) : (s.count f i j k).key = s.key := rfl
@[simp] theorem State.count_cal (s : State) (f : Fld) (i j k : Nat) : (s.count f i j k).cal = s.cal := rfl
@[simp] theorem State.count_spi (s : State) (f : Fld) (i j k : Nat) : (s.count f i j k).spi = s.spi := rfl
@[simp] theorem State.count_mgmt (s : State) (f : Fld) (i j k : Nat) : (s.count f i j k).mgmt = s.mgmt := rfl
@[simp] theorem State.count_mgmtTag (s : State) (f : Fld) (i j k : Nat) : (s.count f i j k).mgmtTag = s.mgmtTag := rfl

@[simp] theorem State.wrap_pending (s : State) (f : Fld) (i j k : Nat) : (s.wrap f i j k).pending = s.pending := rfl
@[simp] theorem State.wrap_variant (s : State) (f : Fld) (i j k : Nat) : (s.wrap f i j k).variant = s.variant := rfl
@[simp] theorem State.wrap_mem (s : State) (f : Fld) (i j k : Nat) : (s.wrap f i j k).mem = s.mem := rfl
@[simp] theorem State.wrap_tb (s : State) (f : Fld) (i j k : Nat) : (s.wrap f i j k).tb = s.tb := rfl
@[simp] theorem State.wrap_free (s : State) (f : Fld) (i j k : Nat) : (s.wrap f i j k).free = s.free := rfl
@[simp] theorem State.wrap_sys (s : State) (f : Fld) (i j k : Nat) : (s.wrap f i j k).sys = s.sys := rfl
@[simp] theorem State.wrap_outs (s : State) (f : Fld) (i j k : Nat) : (s.wrap f i j k).outs = s.outs := rfl
@[simp] theorem State.wrap_cat (s : State) (f : Fld) (i j k : Nat) : (s.wrap f i j k).cat = s.cat := rfl
@[simp] theorem State.wrap_fab (s : State) (f : Fld) (i j k : Nat) : (s.wrap f i j k).fab = s.fab := rfl
@[simp] theorem State.wrap_doc (s : State) (f : Fld) (i j k : Nat) : (s.wrap f i j k).doc = s.doc := rfl
@[simp] theorem State.wrap_memx (s : State) (f : Fld) (i j k : Nat) : (s.wrap f i j k).memx = s.memx := rfl
@[simp] theorem State.wrap_flt (s : State) (f : Fld) (i j k : Nat) : (s.wrap f i j k).flt = s.flt := rfl
@[simp] theorem State.wrap_trips (s : State) (f : Fld) (i j k : Nat) : (s.wrap f i j k).trips = s.trips := rfl
@[simp] theorem State.wrap_buckets (s : State) (f : Fld) (i j k : Nat) : (s.wrap f i j k).buckets = s.buckets := rfl
@[simp] theorem State.wrap_hsw (s : State) (f : Fld) (i j k : Nat) : (s.wrap f i j k).hsw = s.hsw := rfl
@[simp] theorem State.wrap_hbr (s : State) (f : Fld) (i j k : Nat) : (s.wrap f i j k).hbr = s.hbr := rfl
@[simp] theorem State.wrap_coil (s : State) (f : Fld) (i j k : Nat) : (s.wrap f i j k).coil = s.coil := rfl
@[simp] theorem State.wrap_bank (s : State) (f : Fld) (i j k : Nat) : (s.wrap f i j k).bank = s.bank := rfl
@[simp] theorem State.wrap_led (s : State) (f : Fld) (i j k : Nat) : (s.wrap f i j k).led = s.led := rfl
@[simp] theorem State.wrap_fold (s : State) (f : Fld) (i j k : Nat) : (s.wrap f i j k).fold = s.fold := rfl
@[simp] theorem State.wrap_lch (s : State) (f : Fld) (i j k : Nat) : (s.wrap f i j k).lch = s.lch := rfl
@[simp] theorem State.wrap_inp (s : State) (f : Fld) (i j k : Nat) : (s.wrap f i j k).inp = s.inp := rfl
@[simp] theorem State.wrap_rdata (s : State) (f : Fld) (i j k : Nat) : (s.wrap f i j k).rdata = s.rdata := rfl
@[simp] theorem State.wrap_can (s : State) (f : Fld) (i j k : Nat) : (s.wrap f i j k).can = s.can := rfl
@[simp] theorem State.wrap_lin (s : State) (f : Fld) (i j k : Nat) : (s.wrap f i j k).lin = s.lin := rfl
@[simp] theorem State.wrap_eth (s : State) (f : Fld) (i j k : Nat) : (s.wrap f i j k).eth = s.eth := rfl
@[simp] theorem State.wrap_nm (s : State) (f : Fld) (i j k : Nat) : (s.wrap f i j k).nm = s.nm := rfl
@[simp] theorem State.wrap_pwr (s : State) (f : Fld) (i j k : Nat) : (s.wrap f i j k).pwr = s.pwr := rfl
@[simp] theorem State.wrap_twn (s : State) (f : Fld) (i j k : Nat) : (s.wrap f i j k).twn = s.twn := rfl
@[simp] theorem State.wrap_key (s : State) (f : Fld) (i j k : Nat) : (s.wrap f i j k).key = s.key := rfl
@[simp] theorem State.wrap_cal (s : State) (f : Fld) (i j k : Nat) : (s.wrap f i j k).cal = s.cal := rfl
@[simp] theorem State.wrap_spi (s : State) (f : Fld) (i j k : Nat) : (s.wrap f i j k).spi = s.spi := rfl
@[simp] theorem State.wrap_mgmt (s : State) (f : Fld) (i j k : Nat) : (s.wrap f i j k).mgmt = s.mgmt := rfl
@[simp] theorem State.wrap_mgmtTag (s : State) (f : Fld) (i j k : Nat) : (s.wrap f i j k).mgmtTag = s.mgmtTag := rfl

@[simp] theorem State.sput_pending (s : State) (f : Fld) (v : Int) (i j k : Nat) : (s.sput f v i j k).pending = s.pending := rfl
@[simp] theorem State.sput_variant (s : State) (f : Fld) (v : Int) (i j k : Nat) : (s.sput f v i j k).variant = s.variant := rfl
@[simp] theorem State.sput_mem (s : State) (f : Fld) (v : Int) (i j k : Nat) : (s.sput f v i j k).mem = s.mem := rfl
@[simp] theorem State.sput_tb (s : State) (f : Fld) (v : Int) (i j k : Nat) : (s.sput f v i j k).tb = s.tb := rfl
@[simp] theorem State.sput_free (s : State) (f : Fld) (v : Int) (i j k : Nat) : (s.sput f v i j k).free = s.free := rfl
@[simp] theorem State.sput_sys (s : State) (f : Fld) (v : Int) (i j k : Nat) : (s.sput f v i j k).sys = s.sys := rfl
@[simp] theorem State.sput_outs (s : State) (f : Fld) (v : Int) (i j k : Nat) : (s.sput f v i j k).outs = s.outs := rfl
@[simp] theorem State.sput_cat (s : State) (f : Fld) (v : Int) (i j k : Nat) : (s.sput f v i j k).cat = s.cat := rfl
@[simp] theorem State.sput_fab (s : State) (f : Fld) (v : Int) (i j k : Nat) : (s.sput f v i j k).fab = s.fab := rfl
@[simp] theorem State.sput_doc (s : State) (f : Fld) (v : Int) (i j k : Nat) : (s.sput f v i j k).doc = s.doc := rfl
@[simp] theorem State.sput_memx (s : State) (f : Fld) (v : Int) (i j k : Nat) : (s.sput f v i j k).memx = s.memx := rfl
@[simp] theorem State.sput_flt (s : State) (f : Fld) (v : Int) (i j k : Nat) : (s.sput f v i j k).flt = s.flt := rfl
@[simp] theorem State.sput_trips (s : State) (f : Fld) (v : Int) (i j k : Nat) : (s.sput f v i j k).trips = s.trips := rfl
@[simp] theorem State.sput_buckets (s : State) (f : Fld) (v : Int) (i j k : Nat) : (s.sput f v i j k).buckets = s.buckets := rfl
@[simp] theorem State.sput_hsw (s : State) (f : Fld) (v : Int) (i j k : Nat) : (s.sput f v i j k).hsw = s.hsw := rfl
@[simp] theorem State.sput_hbr (s : State) (f : Fld) (v : Int) (i j k : Nat) : (s.sput f v i j k).hbr = s.hbr := rfl
@[simp] theorem State.sput_coil (s : State) (f : Fld) (v : Int) (i j k : Nat) : (s.sput f v i j k).coil = s.coil := rfl
@[simp] theorem State.sput_bank (s : State) (f : Fld) (v : Int) (i j k : Nat) : (s.sput f v i j k).bank = s.bank := rfl
@[simp] theorem State.sput_led (s : State) (f : Fld) (v : Int) (i j k : Nat) : (s.sput f v i j k).led = s.led := rfl
@[simp] theorem State.sput_fold (s : State) (f : Fld) (v : Int) (i j k : Nat) : (s.sput f v i j k).fold = s.fold := rfl
@[simp] theorem State.sput_lch (s : State) (f : Fld) (v : Int) (i j k : Nat) : (s.sput f v i j k).lch = s.lch := rfl
@[simp] theorem State.sput_inp (s : State) (f : Fld) (v : Int) (i j k : Nat) : (s.sput f v i j k).inp = s.inp := rfl
@[simp] theorem State.sput_rdata (s : State) (f : Fld) (v : Int) (i j k : Nat) : (s.sput f v i j k).rdata = s.rdata := rfl
@[simp] theorem State.sput_can (s : State) (f : Fld) (v : Int) (i j k : Nat) : (s.sput f v i j k).can = s.can := rfl
@[simp] theorem State.sput_lin (s : State) (f : Fld) (v : Int) (i j k : Nat) : (s.sput f v i j k).lin = s.lin := rfl
@[simp] theorem State.sput_eth (s : State) (f : Fld) (v : Int) (i j k : Nat) : (s.sput f v i j k).eth = s.eth := rfl
@[simp] theorem State.sput_nm (s : State) (f : Fld) (v : Int) (i j k : Nat) : (s.sput f v i j k).nm = s.nm := rfl
@[simp] theorem State.sput_pwr (s : State) (f : Fld) (v : Int) (i j k : Nat) : (s.sput f v i j k).pwr = s.pwr := rfl
@[simp] theorem State.sput_twn (s : State) (f : Fld) (v : Int) (i j k : Nat) : (s.sput f v i j k).twn = s.twn := rfl
@[simp] theorem State.sput_key (s : State) (f : Fld) (v : Int) (i j k : Nat) : (s.sput f v i j k).key = s.key := rfl
@[simp] theorem State.sput_cal (s : State) (f : Fld) (v : Int) (i j k : Nat) : (s.sput f v i j k).cal = s.cal := rfl
@[simp] theorem State.sput_spi (s : State) (f : Fld) (v : Int) (i j k : Nat) : (s.sput f v i j k).spi = s.spi := rfl
@[simp] theorem State.sput_mgmt (s : State) (f : Fld) (v : Int) (i j k : Nat) : (s.sput f v i j k).mgmt = s.mgmt := rfl
@[simp] theorem State.sput_mgmtTag (s : State) (f : Fld) (v : Int) (i j k : Nat) : (s.sput f v i j k).mgmtTag = s.mgmtTag := rfl

@[simp] theorem State.setByte_pending (s : State) (a : Nat) (b : Byte) : (s.setByte a b).pending = s.pending := rfl
@[simp] theorem State.setByte_variant (s : State) (a : Nat) (b : Byte) : (s.setByte a b).variant = s.variant := rfl
@[simp] theorem State.setByte_regs (s : State) (a : Nat) (b : Byte) : (s.setByte a b).regs = s.regs := rfl
@[simp] theorem State.setByte_tb (s : State) (a : Nat) (b : Byte) : (s.setByte a b).tb = s.tb := rfl
@[simp] theorem State.setByte_free (s : State) (a : Nat) (b : Byte) : (s.setByte a b).free = s.free := rfl
@[simp] theorem State.setByte_sys (s : State) (a : Nat) (b : Byte) : (s.setByte a b).sys = s.sys := rfl
@[simp] theorem State.setByte_outs (s : State) (a : Nat) (b : Byte) : (s.setByte a b).outs = s.outs := rfl
@[simp] theorem State.setByte_cat (s : State) (a : Nat) (b : Byte) : (s.setByte a b).cat = s.cat := rfl
@[simp] theorem State.setByte_fab (s : State) (a : Nat) (b : Byte) : (s.setByte a b).fab = s.fab := rfl
@[simp] theorem State.setByte_doc (s : State) (a : Nat) (b : Byte) : (s.setByte a b).doc = s.doc := rfl
@[simp] theorem State.setByte_memx (s : State) (a : Nat) (b : Byte) : (s.setByte a b).memx = s.memx := rfl
@[simp] theorem State.setByte_flt (s : State) (a : Nat) (b : Byte) : (s.setByte a b).flt = s.flt := rfl
@[simp] theorem State.setByte_trips (s : State) (a : Nat) (b : Byte) : (s.setByte a b).trips = s.trips := rfl
@[simp] theorem State.setByte_buckets (s : State) (a : Nat) (b : Byte) : (s.setByte a b).buckets = s.buckets := rfl
@[simp] theorem State.setByte_hsw (s : State) (a : Nat) (b : Byte) : (s.setByte a b).hsw = s.hsw := rfl
@[simp] theorem State.setByte_hbr (s : State) (a : Nat) (b : Byte) : (s.setByte a b).hbr = s.hbr := rfl
@[simp] theorem State.setByte_coil (s : State) (a : Nat) (b : Byte) : (s.setByte a b).coil = s.coil := rfl
@[simp] theorem State.setByte_bank (s : State) (a : Nat) (b : Byte) : (s.setByte a b).bank = s.bank := rfl
@[simp] theorem State.setByte_led (s : State) (a : Nat) (b : Byte) : (s.setByte a b).led = s.led := rfl
@[simp] theorem State.setByte_fold (s : State) (a : Nat) (b : Byte) : (s.setByte a b).fold = s.fold := rfl
@[simp] theorem State.setByte_lch (s : State) (a : Nat) (b : Byte) : (s.setByte a b).lch = s.lch := rfl
@[simp] theorem State.setByte_inp (s : State) (a : Nat) (b : Byte) : (s.setByte a b).inp = s.inp := rfl
@[simp] theorem State.setByte_rdata (s : State) (a : Nat) (b : Byte) : (s.setByte a b).rdata = s.rdata := rfl
@[simp] theorem State.setByte_can (s : State) (a : Nat) (b : Byte) : (s.setByte a b).can = s.can := rfl
@[simp] theorem State.setByte_lin (s : State) (a : Nat) (b : Byte) : (s.setByte a b).lin = s.lin := rfl
@[simp] theorem State.setByte_eth (s : State) (a : Nat) (b : Byte) : (s.setByte a b).eth = s.eth := rfl
@[simp] theorem State.setByte_nm (s : State) (a : Nat) (b : Byte) : (s.setByte a b).nm = s.nm := rfl
@[simp] theorem State.setByte_pwr (s : State) (a : Nat) (b : Byte) : (s.setByte a b).pwr = s.pwr := rfl
@[simp] theorem State.setByte_twn (s : State) (a : Nat) (b : Byte) : (s.setByte a b).twn = s.twn := rfl
@[simp] theorem State.setByte_key (s : State) (a : Nat) (b : Byte) : (s.setByte a b).key = s.key := rfl
@[simp] theorem State.setByte_cal (s : State) (a : Nat) (b : Byte) : (s.setByte a b).cal = s.cal := rfl
@[simp] theorem State.setByte_spi (s : State) (a : Nat) (b : Byte) : (s.setByte a b).spi = s.spi := rfl
@[simp] theorem State.setByte_mgmt (s : State) (a : Nat) (b : Byte) : (s.setByte a b).mgmt = s.mgmt := rfl
@[simp] theorem State.setByte_mgmtTag (s : State) (a : Nat) (b : Byte) : (s.setByte a b).mgmtTag = s.mgmtTag := rfl
@[simp] theorem State.setByte_reg (s : State) (a : Nat) (b : Byte) (q : RegRef) : (s.setByte a b).reg q = s.reg q := rfl
@[simp] theorem State.setByte_fld (s : State) (a : Nat) (b : Byte) (g : Fld) (x y z : Nat) : (s.setByte a b).fld g x y z = s.fld g x y z := rfl
@[simp] theorem State.setByte_bit (s : State) (a : Nat) (b : Byte) (g : Fld) (x y z : Nat) : (s.setByte a b).bit g x y z = s.bit g x y z := rfl

@[simp] theorem State.clearMem_pending (s : State) (lo hi : Nat) : (s.clearMem lo hi).pending = s.pending := rfl
@[simp] theorem State.clearMem_variant (s : State) (lo hi : Nat) : (s.clearMem lo hi).variant = s.variant := rfl
@[simp] theorem State.clearMem_regs (s : State) (lo hi : Nat) : (s.clearMem lo hi).regs = s.regs := rfl
@[simp] theorem State.clearMem_tb (s : State) (lo hi : Nat) : (s.clearMem lo hi).tb = s.tb := rfl
@[simp] theorem State.clearMem_free (s : State) (lo hi : Nat) : (s.clearMem lo hi).free = s.free := rfl
@[simp] theorem State.clearMem_sys (s : State) (lo hi : Nat) : (s.clearMem lo hi).sys = s.sys := rfl
@[simp] theorem State.clearMem_outs (s : State) (lo hi : Nat) : (s.clearMem lo hi).outs = s.outs := rfl
@[simp] theorem State.clearMem_cat (s : State) (lo hi : Nat) : (s.clearMem lo hi).cat = s.cat := rfl
@[simp] theorem State.clearMem_fab (s : State) (lo hi : Nat) : (s.clearMem lo hi).fab = s.fab := rfl
@[simp] theorem State.clearMem_doc (s : State) (lo hi : Nat) : (s.clearMem lo hi).doc = s.doc := rfl
@[simp] theorem State.clearMem_memx (s : State) (lo hi : Nat) : (s.clearMem lo hi).memx = s.memx := rfl
@[simp] theorem State.clearMem_flt (s : State) (lo hi : Nat) : (s.clearMem lo hi).flt = s.flt := rfl
@[simp] theorem State.clearMem_trips (s : State) (lo hi : Nat) : (s.clearMem lo hi).trips = s.trips := rfl
@[simp] theorem State.clearMem_buckets (s : State) (lo hi : Nat) : (s.clearMem lo hi).buckets = s.buckets := rfl
@[simp] theorem State.clearMem_hsw (s : State) (lo hi : Nat) : (s.clearMem lo hi).hsw = s.hsw := rfl
@[simp] theorem State.clearMem_hbr (s : State) (lo hi : Nat) : (s.clearMem lo hi).hbr = s.hbr := rfl
@[simp] theorem State.clearMem_coil (s : State) (lo hi : Nat) : (s.clearMem lo hi).coil = s.coil := rfl
@[simp] theorem State.clearMem_bank (s : State) (lo hi : Nat) : (s.clearMem lo hi).bank = s.bank := rfl
@[simp] theorem State.clearMem_led (s : State) (lo hi : Nat) : (s.clearMem lo hi).led = s.led := rfl
@[simp] theorem State.clearMem_fold (s : State) (lo hi : Nat) : (s.clearMem lo hi).fold = s.fold := rfl
@[simp] theorem State.clearMem_lch (s : State) (lo hi : Nat) : (s.clearMem lo hi).lch = s.lch := rfl
@[simp] theorem State.clearMem_inp (s : State) (lo hi : Nat) : (s.clearMem lo hi).inp = s.inp := rfl
@[simp] theorem State.clearMem_rdata (s : State) (lo hi : Nat) : (s.clearMem lo hi).rdata = s.rdata := rfl
@[simp] theorem State.clearMem_can (s : State) (lo hi : Nat) : (s.clearMem lo hi).can = s.can := rfl
@[simp] theorem State.clearMem_lin (s : State) (lo hi : Nat) : (s.clearMem lo hi).lin = s.lin := rfl
@[simp] theorem State.clearMem_eth (s : State) (lo hi : Nat) : (s.clearMem lo hi).eth = s.eth := rfl
@[simp] theorem State.clearMem_nm (s : State) (lo hi : Nat) : (s.clearMem lo hi).nm = s.nm := rfl
@[simp] theorem State.clearMem_pwr (s : State) (lo hi : Nat) : (s.clearMem lo hi).pwr = s.pwr := rfl
@[simp] theorem State.clearMem_twn (s : State) (lo hi : Nat) : (s.clearMem lo hi).twn = s.twn := rfl
@[simp] theorem State.clearMem_key (s : State) (lo hi : Nat) : (s.clearMem lo hi).key = s.key := rfl
@[simp] theorem State.clearMem_cal (s : State) (lo hi : Nat) : (s.clearMem lo hi).cal = s.cal := rfl
@[simp] theorem State.clearMem_spi (s : State) (lo hi : Nat) : (s.clearMem lo hi).spi = s.spi := rfl
@[simp] theorem State.clearMem_mgmt (s : State) (lo hi : Nat) : (s.clearMem lo hi).mgmt = s.mgmt := rfl
@[simp] theorem State.clearMem_mgmtTag (s : State) (lo hi : Nat) : (s.clearMem lo hi).mgmtTag = s.mgmtTag := rfl
@[simp] theorem State.clearMem_reg (s : State) (lo hi : Nat) (q : RegRef) : (s.clearMem lo hi).reg q = s.reg q := rfl
@[simp] theorem State.clearMem_fld (s : State) (lo hi : Nat) (g : Fld) (x y z : Nat) : (s.clearMem lo hi).fld g x y z = s.fld g x y z := rfl
@[simp] theorem State.clearMem_bit (s : State) (lo hi : Nat) (g : Fld) (x y z : Nat) : (s.clearMem lo hi).bit g x y z = s.bit g x y z := rfl

@[simp] theorem State.raise_pending (s : State) (b u k d : Nat) : (s.raise b u k d).pending = s.pending := rfl
@[simp] theorem State.raise_variant (s : State) (b u k d : Nat) : (s.raise b u k d).variant = s.variant := rfl
@[simp] theorem State.raise_regs (s : State) (b u k d : Nat) : (s.raise b u k d).regs = s.regs := rfl
@[simp] theorem State.raise_mem (s : State) (b u k d : Nat) : (s.raise b u k d).mem = s.mem := rfl
@[simp] theorem State.raise_tb (s : State) (b u k d : Nat) : (s.raise b u k d).tb = s.tb := rfl
@[simp] theorem State.raise_free (s : State) (b u k d : Nat) : (s.raise b u k d).free = s.free := rfl
@[simp] theorem State.raise_sys (s : State) (b u k d : Nat) : (s.raise b u k d).sys = s.sys := rfl
@[simp] theorem State.raise_outs (s : State) (b u k d : Nat) : (s.raise b u k d).outs = s.outs := rfl
@[simp] theorem State.raise_cat (s : State) (b u k d : Nat) : (s.raise b u k d).cat = s.cat := rfl
@[simp] theorem State.raise_fab (s : State) (b u k d : Nat) : (s.raise b u k d).fab = s.fab := rfl
@[simp] theorem State.raise_doc (s : State) (b u k d : Nat) : (s.raise b u k d).doc = s.doc := rfl
@[simp] theorem State.raise_memx (s : State) (b u k d : Nat) : (s.raise b u k d).memx = s.memx := rfl
@[simp] theorem State.raise_trips (s : State) (b u k d : Nat) : (s.raise b u k d).trips = s.trips := rfl
@[simp] theorem State.raise_buckets (s : State) (b u k d : Nat) : (s.raise b u k d).buckets = s.buckets := rfl
@[simp] theorem State.raise_hsw (s : State) (b u k d : Nat) : (s.raise b u k d).hsw = s.hsw := rfl
@[simp] theorem State.raise_hbr (s : State) (b u k d : Nat) : (s.raise b u k d).hbr = s.hbr := rfl
@[simp] theorem State.raise_coil (s : State) (b u k d : Nat) : (s.raise b u k d).coil = s.coil := rfl
@[simp] theorem State.raise_bank (s : State) (b u k d : Nat) : (s.raise b u k d).bank = s.bank := rfl
@[simp] theorem State.raise_led (s : State) (b u k d : Nat) : (s.raise b u k d).led = s.led := rfl
@[simp] theorem State.raise_fold (s : State) (b u k d : Nat) : (s.raise b u k d).fold = s.fold := rfl
@[simp] theorem State.raise_lch (s : State) (b u k d : Nat) : (s.raise b u k d).lch = s.lch := rfl
@[simp] theorem State.raise_inp (s : State) (b u k d : Nat) : (s.raise b u k d).inp = s.inp := rfl
@[simp] theorem State.raise_rdata (s : State) (b u k d : Nat) : (s.raise b u k d).rdata = s.rdata := rfl
@[simp] theorem State.raise_can (s : State) (b u k d : Nat) : (s.raise b u k d).can = s.can := rfl
@[simp] theorem State.raise_lin (s : State) (b u k d : Nat) : (s.raise b u k d).lin = s.lin := rfl
@[simp] theorem State.raise_eth (s : State) (b u k d : Nat) : (s.raise b u k d).eth = s.eth := rfl
@[simp] theorem State.raise_nm (s : State) (b u k d : Nat) : (s.raise b u k d).nm = s.nm := rfl
@[simp] theorem State.raise_pwr (s : State) (b u k d : Nat) : (s.raise b u k d).pwr = s.pwr := rfl
@[simp] theorem State.raise_twn (s : State) (b u k d : Nat) : (s.raise b u k d).twn = s.twn := rfl
@[simp] theorem State.raise_key (s : State) (b u k d : Nat) : (s.raise b u k d).key = s.key := rfl
@[simp] theorem State.raise_cal (s : State) (b u k d : Nat) : (s.raise b u k d).cal = s.cal := rfl
@[simp] theorem State.raise_spi (s : State) (b u k d : Nat) : (s.raise b u k d).spi = s.spi := rfl
@[simp] theorem State.raise_mgmt (s : State) (b u k d : Nat) : (s.raise b u k d).mgmt = s.mgmt := rfl
@[simp] theorem State.raise_mgmtTag (s : State) (b u k d : Nat) : (s.raise b u k d).mgmtTag = s.mgmtTag := rfl
@[simp] theorem State.raise_reg (s : State) (b u k d : Nat) (q : RegRef) : (s.raise b u k d).reg q = s.reg q := rfl
@[simp] theorem State.raise_fld (s : State) (b u k d : Nat) (g : Fld) (x y z : Nat) : (s.raise b u k d).fld g x y z = s.fld g x y z := rfl
@[simp] theorem State.raise_bit (s : State) (b u k d : Nat) (g : Fld) (x y z : Nat) : (s.raise b u k d).bit g x y z = s.bit g x y z := rfl

@[simp] theorem State.raiseCond_pending (s : State) (b u k d : Nat) : (s.raiseCond b u k d).pending = s.pending := rfl
@[simp] theorem State.raiseCond_variant (s : State) (b u k d : Nat) : (s.raiseCond b u k d).variant = s.variant := rfl
@[simp] theorem State.raiseCond_regs (s : State) (b u k d : Nat) : (s.raiseCond b u k d).regs = s.regs := rfl
@[simp] theorem State.raiseCond_mem (s : State) (b u k d : Nat) : (s.raiseCond b u k d).mem = s.mem := rfl
@[simp] theorem State.raiseCond_tb (s : State) (b u k d : Nat) : (s.raiseCond b u k d).tb = s.tb := rfl
@[simp] theorem State.raiseCond_free (s : State) (b u k d : Nat) : (s.raiseCond b u k d).free = s.free := rfl
@[simp] theorem State.raiseCond_sys (s : State) (b u k d : Nat) : (s.raiseCond b u k d).sys = s.sys := rfl
@[simp] theorem State.raiseCond_outs (s : State) (b u k d : Nat) : (s.raiseCond b u k d).outs = s.outs := rfl
@[simp] theorem State.raiseCond_cat (s : State) (b u k d : Nat) : (s.raiseCond b u k d).cat = s.cat := rfl
@[simp] theorem State.raiseCond_fab (s : State) (b u k d : Nat) : (s.raiseCond b u k d).fab = s.fab := rfl
@[simp] theorem State.raiseCond_doc (s : State) (b u k d : Nat) : (s.raiseCond b u k d).doc = s.doc := rfl
@[simp] theorem State.raiseCond_memx (s : State) (b u k d : Nat) : (s.raiseCond b u k d).memx = s.memx := rfl
@[simp] theorem State.raiseCond_trips (s : State) (b u k d : Nat) : (s.raiseCond b u k d).trips = s.trips := rfl
@[simp] theorem State.raiseCond_buckets (s : State) (b u k d : Nat) : (s.raiseCond b u k d).buckets = s.buckets := rfl
@[simp] theorem State.raiseCond_hsw (s : State) (b u k d : Nat) : (s.raiseCond b u k d).hsw = s.hsw := rfl
@[simp] theorem State.raiseCond_hbr (s : State) (b u k d : Nat) : (s.raiseCond b u k d).hbr = s.hbr := rfl
@[simp] theorem State.raiseCond_coil (s : State) (b u k d : Nat) : (s.raiseCond b u k d).coil = s.coil := rfl
@[simp] theorem State.raiseCond_bank (s : State) (b u k d : Nat) : (s.raiseCond b u k d).bank = s.bank := rfl
@[simp] theorem State.raiseCond_led (s : State) (b u k d : Nat) : (s.raiseCond b u k d).led = s.led := rfl
@[simp] theorem State.raiseCond_fold (s : State) (b u k d : Nat) : (s.raiseCond b u k d).fold = s.fold := rfl
@[simp] theorem State.raiseCond_lch (s : State) (b u k d : Nat) : (s.raiseCond b u k d).lch = s.lch := rfl
@[simp] theorem State.raiseCond_inp (s : State) (b u k d : Nat) : (s.raiseCond b u k d).inp = s.inp := rfl
@[simp] theorem State.raiseCond_rdata (s : State) (b u k d : Nat) : (s.raiseCond b u k d).rdata = s.rdata := rfl
@[simp] theorem State.raiseCond_can (s : State) (b u k d : Nat) : (s.raiseCond b u k d).can = s.can := rfl
@[simp] theorem State.raiseCond_lin (s : State) (b u k d : Nat) : (s.raiseCond b u k d).lin = s.lin := rfl
@[simp] theorem State.raiseCond_eth (s : State) (b u k d : Nat) : (s.raiseCond b u k d).eth = s.eth := rfl
@[simp] theorem State.raiseCond_nm (s : State) (b u k d : Nat) : (s.raiseCond b u k d).nm = s.nm := rfl
@[simp] theorem State.raiseCond_pwr (s : State) (b u k d : Nat) : (s.raiseCond b u k d).pwr = s.pwr := rfl
@[simp] theorem State.raiseCond_twn (s : State) (b u k d : Nat) : (s.raiseCond b u k d).twn = s.twn := rfl
@[simp] theorem State.raiseCond_key (s : State) (b u k d : Nat) : (s.raiseCond b u k d).key = s.key := rfl
@[simp] theorem State.raiseCond_cal (s : State) (b u k d : Nat) : (s.raiseCond b u k d).cal = s.cal := rfl
@[simp] theorem State.raiseCond_spi (s : State) (b u k d : Nat) : (s.raiseCond b u k d).spi = s.spi := rfl
@[simp] theorem State.raiseCond_mgmt (s : State) (b u k d : Nat) : (s.raiseCond b u k d).mgmt = s.mgmt := rfl
@[simp] theorem State.raiseCond_mgmtTag (s : State) (b u k d : Nat) : (s.raiseCond b u k d).mgmtTag = s.mgmtTag := rfl
@[simp] theorem State.raiseCond_reg (s : State) (b u k d : Nat) (q : RegRef) : (s.raiseCond b u k d).reg q = s.reg q := rfl
@[simp] theorem State.raiseCond_fld (s : State) (b u k d : Nat) (g : Fld) (x y z : Nat) : (s.raiseCond b u k d).fld g x y z = s.fld g x y z := rfl
@[simp] theorem State.raiseCond_bit (s : State) (b u k d : Nat) (g : Fld) (x y z : Nat) : (s.raiseCond b u k d).bit g x y z = s.bit g x y z := rfl

/-! What the mirror engine ships changes nothing but the twin-link island. -/

@[simp] theorem State.ship_pending (s t : State) : (s.ship t).pending = t.pending := rfl
@[simp] theorem State.ship_variant (s t : State) : (s.ship t).variant = t.variant := rfl
@[simp] theorem State.ship_regs (s t : State) : (s.ship t).regs = t.regs := rfl
@[simp] theorem State.ship_mem (s t : State) : (s.ship t).mem = t.mem := rfl
@[simp] theorem State.ship_tb (s t : State) : (s.ship t).tb = t.tb := rfl
@[simp] theorem State.ship_free (s t : State) : (s.ship t).free = t.free := rfl
@[simp] theorem State.ship_sys (s t : State) : (s.ship t).sys = t.sys := rfl
@[simp] theorem State.ship_outs (s t : State) : (s.ship t).outs = t.outs := rfl
@[simp] theorem State.ship_cat (s t : State) : (s.ship t).cat = t.cat := rfl
@[simp] theorem State.ship_fab (s t : State) : (s.ship t).fab = t.fab := rfl
@[simp] theorem State.ship_doc (s t : State) : (s.ship t).doc = t.doc := rfl
@[simp] theorem State.ship_memx (s t : State) : (s.ship t).memx = t.memx := rfl
@[simp] theorem State.ship_flt (s t : State) : (s.ship t).flt = t.flt := rfl
@[simp] theorem State.ship_trips (s t : State) : (s.ship t).trips = t.trips := rfl
@[simp] theorem State.ship_buckets (s t : State) : (s.ship t).buckets = t.buckets := rfl
@[simp] theorem State.ship_hsw (s t : State) : (s.ship t).hsw = t.hsw := rfl
@[simp] theorem State.ship_hbr (s t : State) : (s.ship t).hbr = t.hbr := rfl
@[simp] theorem State.ship_coil (s t : State) : (s.ship t).coil = t.coil := rfl
@[simp] theorem State.ship_bank (s t : State) : (s.ship t).bank = t.bank := rfl
@[simp] theorem State.ship_led (s t : State) : (s.ship t).led = t.led := rfl
@[simp] theorem State.ship_fold (s t : State) : (s.ship t).fold = t.fold := rfl
@[simp] theorem State.ship_lch (s t : State) : (s.ship t).lch = t.lch := rfl
@[simp] theorem State.ship_inp (s t : State) : (s.ship t).inp = t.inp := rfl
@[simp] theorem State.ship_rdata (s t : State) : (s.ship t).rdata = t.rdata := rfl
@[simp] theorem State.ship_can (s t : State) : (s.ship t).can = t.can := rfl
@[simp] theorem State.ship_lin (s t : State) : (s.ship t).lin = t.lin := rfl
@[simp] theorem State.ship_eth (s t : State) : (s.ship t).eth = t.eth := rfl
@[simp] theorem State.ship_nm (s t : State) : (s.ship t).nm = t.nm := rfl
@[simp] theorem State.ship_pwr (s t : State) : (s.ship t).pwr = t.pwr := rfl
@[simp] theorem State.ship_key (s t : State) : (s.ship t).key = t.key := rfl
@[simp] theorem State.ship_cal (s t : State) : (s.ship t).cal = t.cal := rfl
@[simp] theorem State.ship_spi (s t : State) : (s.ship t).spi = t.spi := rfl
@[simp] theorem State.ship_mgmt (s t : State) : (s.ship t).mgmt = t.mgmt := rfl
@[simp] theorem State.ship_mgmtTag (s t : State) : (s.ship t).mgmtTag = t.mgmtTag := rfl
@[simp] theorem State.ship_reg (s t : State) (q : RegRef) : (s.ship t).reg q = t.reg q := rfl
@[simp] theorem State.ship_fld (s t : State) (g : Fld) (x y z : Nat) : (s.ship t).fld g x y z = t.fld g x y z := rfl
@[simp] theorem State.ship_bit (s t : State) (g : Fld) (x y z : Nat) : (s.ship t).bit g x y z = t.bit g x y z := rfl
@[simp] theorem State.ship_byte (s t : State) (a : Nat) : (s.ship t).byte a = t.byte a := rfl

/-! ## The records of the units -/

@[simp] theorem State.setCtx_reg (s : State) {c x} (q : RegRef) : (s.setCtx c x).reg q = s.reg q := rfl
@[simp] theorem State.setCtx_fld (s : State) {c x} (g : Fld) (a b d : Nat) : (s.setCtx c x).fld g a b d = s.fld g a b d := rfl
@[simp] theorem State.setCtx_bit (s : State) {c x} (g : Fld) (a b d : Nat) : (s.setCtx c x).bit g a b d = s.bit g a b d := rfl
@[simp] theorem State.setCtx_byte (s : State) {c x} (a : Nat) : (s.setCtx c x).byte a = s.byte a := rfl
@[simp] theorem State.setRcd_reg (s : State) {c x} (q : RegRef) : (s.setRcd c x).reg q = s.reg q := rfl
@[simp] theorem State.setRcd_fld (s : State) {c x} (g : Fld) (a b d : Nat) : (s.setRcd c x).fld g a b d = s.fld g a b d := rfl
@[simp] theorem State.setRcd_bit (s : State) {c x} (g : Fld) (a b d : Nat) : (s.setRcd c x).bit g a b d = s.bit g a b d := rfl
@[simp] theorem State.setRcd_byte (s : State) {c x} (a : Nat) : (s.setRcd c x).byte a = s.byte a := rfl
@[simp] theorem State.setPort_reg (s : State) {c p v} (q : RegRef) : (s.setPort c p v).reg q = s.reg q := rfl
@[simp] theorem State.setPort_fld (s : State) {c p v} (g : Fld) (a b d : Nat) : (s.setPort c p v).fld g a b d = s.fld g a b d := rfl
@[simp] theorem State.setPort_bit (s : State) {c p v} (g : Fld) (a b d : Nat) : (s.setPort c p v).bit g a b d = s.bit g a b d := rfl
@[simp] theorem State.setPort_byte (s : State) {c p v} (a : Nat) : (s.setPort c p v).byte a = s.byte a := rfl
@[simp] theorem State.setCore_reg (s : State) {c x} (q : RegRef) : (s.setCore c x).reg q = s.reg q := rfl
@[simp] theorem State.setCore_fld (s : State) {c x} (g : Fld) (a b d : Nat) : (s.setCore c x).fld g a b d = s.fld g a b d := rfl
@[simp] theorem State.setCore_bit (s : State) {c x} (g : Fld) (a b d : Nat) : (s.setCore c x).bit g a b d = s.bit g a b d := rfl
@[simp] theorem State.setCore_byte (s : State) {c x} (a : Nat) : (s.setCore c x).byte a = s.byte a := rfl
@[simp] theorem State.setCh_reg (s : State) {c x} (q : RegRef) : (s.setCh c x).reg q = s.reg q := rfl
@[simp] theorem State.setCh_fld (s : State) {c x} (g : Fld) (a b d : Nat) : (s.setCh c x).fld g a b d = s.fld g a b d := rfl
@[simp] theorem State.setCh_bit (s : State) {c x} (g : Fld) (a b d : Nat) : (s.setCh c x).bit g a b d = s.bit g a b d := rfl
@[simp] theorem State.setCh_byte (s : State) {c x} (a : Nat) : (s.setCh c x).byte a = s.byte a := rfl
@[simp] theorem State.setBr_reg (s : State) {c x} (q : RegRef) : (s.setBr c x).reg q = s.reg q := rfl
@[simp] theorem State.setBr_fld (s : State) {c x} (g : Fld) (a b d : Nat) : (s.setBr c x).fld g a b d = s.fld g a b d := rfl
@[simp] theorem State.setBr_bit (s : State) {c x} (g : Fld) (a b d : Nat) : (s.setBr c x).bit g a b d = s.bit g a b d := rfl
@[simp] theorem State.setBr_byte (s : State) {c x} (a : Nat) : (s.setBr c x).byte a = s.byte a := rfl
@[simp] theorem State.setCoil_reg (s : State) {c x} (q : RegRef) : (s.setCoil c x).reg q = s.reg q := rfl
@[simp] theorem State.setCoil_fld (s : State) {c x} (g : Fld) (a b d : Nat) : (s.setCoil c x).fld g a b d = s.fld g a b d := rfl
@[simp] theorem State.setCoil_bit (s : State) {c x} (g : Fld) (a b d : Nat) : (s.setCoil c x).bit g a b d = s.bit g a b d := rfl
@[simp] theorem State.setCoil_byte (s : State) {c x} (a : Nat) : (s.setCoil c x).byte a = s.byte a := rfl
@[simp] theorem State.setLx_reg (s : State) {c x} (q : RegRef) : (s.setLx c x).reg q = s.reg q := rfl
@[simp] theorem State.setLx_fld (s : State) {c x} (g : Fld) (a b d : Nat) : (s.setLx c x).fld g a b d = s.fld g a b d := rfl
@[simp] theorem State.setLx_bit (s : State) {c x} (g : Fld) (a b d : Nat) : (s.setLx c x).bit g a b d = s.bit g a b d := rfl
@[simp] theorem State.setLx_byte (s : State) {c x} (a : Nat) : (s.setLx c x).byte a = s.byte a := rfl
@[simp] theorem State.setCp_reg (s : State) {c x} (q : RegRef) : (s.setCp c x).reg q = s.reg q := rfl
@[simp] theorem State.setCp_fld (s : State) {c x} (g : Fld) (a b d : Nat) : (s.setCp c x).fld g a b d = s.fld g a b d := rfl
@[simp] theorem State.setCp_bit (s : State) {c x} (g : Fld) (a b d : Nat) : (s.setCp c x).bit g a b d = s.bit g a b d := rfl
@[simp] theorem State.setCp_byte (s : State) {c x} (a : Nat) : (s.setCp c x).byte a = s.byte a := rfl
@[simp] theorem State.setLp_reg (s : State) {c x} (q : RegRef) : (s.setLp c x).reg q = s.reg q := rfl
@[simp] theorem State.setLp_fld (s : State) {c x} (g : Fld) (a b d : Nat) : (s.setLp c x).fld g a b d = s.fld g a b d := rfl
@[simp] theorem State.setLp_bit (s : State) {c x} (g : Fld) (a b d : Nat) : (s.setLp c x).bit g a b d = s.bit g a b d := rfl
@[simp] theorem State.setLp_byte (s : State) {c x} (a : Nat) : (s.setLp c x).byte a = s.byte a := rfl
@[simp] theorem State.setOut_reg (s : State) {c x} (q : RegRef) : (s.setOut c x).reg q = s.reg q := rfl
@[simp] theorem State.setOut_fld (s : State) {c x} (g : Fld) (a b d : Nat) : (s.setOut c x).fld g a b d = s.fld g a b d := rfl
@[simp] theorem State.setOut_bit (s : State) {c x} (g : Fld) (a b d : Nat) : (s.setOut c x).bit g a b d = s.bit g a b d := rfl
@[simp] theorem State.setOut_byte (s : State) {c x} (a : Nat) : (s.setOut c x).byte a = s.byte a := rfl
@[simp] theorem State.setTrip_reg (s : State) {c x} (q : RegRef) : (s.setTrip c x).reg q = s.reg q := rfl
@[simp] theorem State.setTrip_fld (s : State) {c x} (g : Fld) (a b d : Nat) : (s.setTrip c x).fld g a b d = s.fld g a b d := rfl
@[simp] theorem State.setTrip_bit (s : State) {c x} (g : Fld) (a b d : Nat) : (s.setTrip c x).bit g a b d = s.bit g a b d := rfl
@[simp] theorem State.setTrip_byte (s : State) {c x} (a : Nat) : (s.setTrip c x).byte a = s.byte a := rfl
@[simp] theorem State.setLc_reg (s : State) {c x} (q : RegRef) : (s.setLc c x).reg q = s.reg q := rfl
@[simp] theorem State.setLc_fld (s : State) {c x} (g : Fld) (a b d : Nat) : (s.setLc c x).fld g a b d = s.fld g a b d := rfl
@[simp] theorem State.setLc_bit (s : State) {c x} (g : Fld) (a b d : Nat) : (s.setLc c x).bit g a b d = s.bit g a b d := rfl
@[simp] theorem State.setLc_byte (s : State) {c x} (a : Nat) : (s.setLc c x).byte a = s.byte a := rfl

end Sys2Proof.Machine
end

