-- ==== Sys2Proof/Laws/Crypto.lean ====
section
/-! SUPPORT. Lengths of what the cryptographic functions answer, and registers that hold a byte string. -/

namespace Sys2Proof.Machine

theorem leBytes_length (v n : Nat) : (leBytes v n).length = n := by
  induction n generalizing v with
  | zero => rfl
  | succ n ih => simp [leBytes, ih]

theorem beBytes_length (v n : Nat) : (beBytes v n).length = n := by simp [beBytes, leBytes_length]

theorem flatMap_length {α β : Type} (f : α → List β) (k : Nat) (l : List α) (h : ∀ x, (f x).length = k) :
    (l.flatMap f).length = k * l.length := by
  induction l with
  | nil => simp
  | cons a l ih => simp [List.flatMap_cons, ih, h, Nat.mul_add, Nat.add_comm]

theorem sha256_length (m : List Byte) : (sha256 m).length = 32 := by
  unfold sha256
  rw [flatMap_length _ 4 _ (fun _ => beBytes_length _ 4)]
  simp

theorem deviceUid_length : deviceUid.length = 16 := by simp [deviceUid, sha256_length]

theorem shiftRows_length (k : Nat) (s : List Byte) : (shiftRows k s).length = 16 := by simp [shiftRows]

theorem roundKeys_last (key : List Byte) : ((roundKeys key).getD ((roundKeys key).length - 1) []).length = 16 := by
  simp only [roundKeys, List.length_map, List.length_range, List.getD_eq_getElem?_getD]
  split <;> simp

/-- A cipher block has 16 bytes. -/
theorem aesEncrypt_length (key block : List Byte) : (aesEncrypt key block).length = 16 := by
  have h := roundKeys_last key
  simp only [aesEncrypt, xorBytes, List.length_zipWith, shiftRows_length] at h ⊢
  omega

theorem cmacBlocks_length (key k1 k2 : List Byte) (n : Nat) (x m : List Byte) : (cmacBlocks key k1 k2 n x m).length = 16 := by
  induction n generalizing x m with
  | zero => exact aesEncrypt_length _ _
  | succ n ih => simp only [cmacBlocks]; split; exact ih _ _; split <;> exact aesEncrypt_length _ _

/-- A CMAC has 16 bytes. -/
theorem aesCmac_length (key m : List Byte) : (aesCmac key m).length = 16 := by
  unfold aesCmac; exact cmacBlocks_length ..

/-! ## Byte strings in registers -/

/-- The words of a register array after some have been written from index `k` on. -/
theorem reg_setWords (r : Reg) (ws : List Word) (k : Nat) (s : State) (i : Nat) :
    ((ws.zipIdx k).foldl (fun s p => s.setReg ⟨r, p.2, 0, 0⟩ p.1) s).reg ⟨r, i, 0, 0⟩ =
      if k ≤ i then (ws[i - k]?).getD (s.reg ⟨r, i, 0, 0⟩) else s.reg ⟨r, i, 0, 0⟩ := by
  induction ws generalizing k s with
  | nil => simp
  | cons w ws ih =>
    rw [List.zipIdx_cons, List.foldl_cons, ih]
    by_cases h : i = k
    · subst h
      have h0 : ¬ i + 1 ≤ i := by omega
      simp [h0]
    · have hne : (⟨r, i, 0, 0⟩ : RegRef) ≠ ⟨r, k, 0, 0⟩ := by simp [h]
      rw [State.reg_setReg_ne s w hne]
      by_cases h1 : k ≤ i
      · have h2 : k + 1 ≤ i := by omega
        have h3 : i - k = (i - (k + 1)) + 1 := by omega
        simp [h1, h2, h3]
      · have h2 : ¬ k + 1 ≤ i := by omega
        simp [h1, h2]

theorem leBytes_leNat (bs : List Byte) : leBytes (leNat bs) bs.length = bs := by
  induction bs with
  | nil => rfl
  | cons b bs ih =>
    have hb := b.isLt
    have h1 : (b.toNat + 256 * leNat bs) / 256 = leNat bs := by omega
    simp only [leNat, List.length_cons, leBytes, h1, ih, List.cons.injEq, and_true]
    apply BitVec.eq_of_toNat_eq
    simp
    omega

theorem words_of_chunks (n : Nat) : ∀ (fuel : Nat) (bs : List Byte), bs.length = 4 * n → 4 * n ≤ fuel →
    ((chunks 4 fuel bs).map wordOf).length = n ∧ wordsLe ((chunks 4 fuel bs).map wordOf) = bs := by
  induction n with
  | zero =>
    intro fuel bs h _
    have hb : bs = [] := List.eq_nil_of_length_eq_zero (by omega)
    subst hb
    cases fuel <;> simp [chunks, wordsLe]
  | succ n ih =>
    intro fuel bs h hf
    cases fuel with
    | zero => omega
    | succ fuel =>
      have hne : bs.isEmpty = false := by cases bs with | nil => simp at h | cons => rfl
      have hd : (bs.drop 4).length = 4 * n := by simp [h]; omega
      obtain ⟨h1, h2⟩ := ih fuel (bs.drop 4) hd (by omega)
      have ht : (bs.take 4).length = 4 := by rw [List.length_take]; omega
      have hw : leBytes (wordOf (bs.take 4)).toNat 4 = bs.take 4 := by
        have hx := leBytes_leNat (bs.take 4)
        rw [ht] at hx
        have hl : leNat (bs.take 4) < 2 ^ 32 := by
          match hb : bs.take 4, ht with
          | [a, b, c, d], _ =>
            have := a.isLt; have := b.isLt; have := c.isLt; have := d.isLt
            simp only [leNat]; omega
        simp only [wordOf, List.take_take, Nat.min_self, BitVec.toNat_ofNat]
        rw [Nat.mod_eq_of_lt hl, hx]
      refine ⟨by simp [chunks, hne] at h1 ⊢; exact h1, ?_⟩
      simp only [chunks, hne, Bool.false_eq_true, if_false, List.map_cons, wordsLe, List.flatMap_cons] at h2 ⊢
      rw [hw, h2, List.take_append_drop]

/-- A byte string placed in registers reads back. -/
theorem regBytes_setRegBytes (s : State) (r : Reg) (n : Nat) (bs : List Byte) (h : bs.length = 4 * n) :
    (s.setRegBytes r bs).regBytes r n = bs := by
  obtain ⟨h1, h2⟩ := words_of_chunks n bs.length bs h (by omega)
  have hr : ∀ i, i < n → (s.setRegBytes r bs).reg ⟨r, i, 0, 0⟩ = (leWords bs).getD i 0 := by
    intro i hi
    have hi' : i < (leWords bs).length := by rw [leWords, h1]; exact hi
    have := reg_setWords r (leWords bs) 0 s i
    simp [hi'] at this
    simp [State.setRegBytes, hi']
    exact this
  have h3 : wordsLe (leWords bs) = bs := h2
  have hl : (leWords bs).length = n := h1
  have : ∀ ws : List Word, (List.range ws.length).flatMap (fun w => leBytes (ws.getD w 0).toNat 4) = wordsLe ws := by
    intro ws
    induction ws with
    | nil => rfl
    | cons w ws ih =>
      rw [List.length_cons, List.range_succ_eq_map, List.flatMap_cons, List.flatMap_map]
      simp only [wordsLe, List.flatMap_cons]
      simp only [wordsLe] at ih
      rw [← ih]
      simp
  rw [State.regBytes]
  refine Eq.trans ?_ h3
  rw [← this, hl]
  simp only [List.flatMap_def]
  refine congrArg List.flatten (List.map_congr_left fun i hi => ?_)
  rw [hr i (List.mem_range.1 hi)]

end Sys2Proof.Machine
end

