-- ==== Sys2Proof/Laws/Reset.lean ====
section
/-! SUPPORT. What a logic reset does, and what memory reads after it has been cleared. -/

namespace Sys2Proof.Machine

variable {s : State} {c : RstCause}

/-- A logic reset of a module that is powered and not in Hold. -/
theorem State.logicReset_live (h1 : s.sys.phase ≠ .unpowered) (h2 : s.sys.phase ≠ .hold) :
    s.logicReset c = s.resetToHold c := by
  unfold State.logicReset
  split <;> first | contradiction | rfl

theorem State.resetToHold_phase : (s.resetToHold c).sys.phase = .hold := by
  unfold State.resetToHold
  exact congrArg SysSt.phase
    ((State.ledSync_fr (Nat.or_self _) (Fr.id _ _)).sys rfl)

theorem causeFld_reg (c : RstCause) : (causeFld c).reg = .SYS_RSTCAUSE := by cases c <;> rfl

/-- The cause of a logic reset is set. -/
theorem State.resetToHold_cause : (s.resetToHold c).bit (causeFld c) = true := by
  unfold State.resetToHold
  refine ((State.ledSync_fr (Nat.or_self _) (Fr.id _ _)).bitEq _ _ _ _ ?_).trans
    (State.bit_flag_self _ _ _ _ _ _ ?_ ?_) <;> cases c <;> decide

/-- After a logic reset the module is in Hold (mode code 10), and PREV names the mode it left. -/
theorem State.resetToHold_mode : (s.resetToHold c).fld SYS_MODE.MODE = 10 ∧
    (s.resetToHold c).fld SYS_MODE.PREV = s.mode % 16 ∧ (s.resetToHold c).fld SYS_MODE.TARGET = 10 ∧
    (s.resetToHold c).bit SYS_MODE.BUSY = false := by
  unfold State.resetToHold
  have hc : Reg.SYS_MODE ≠ (causeFld c).reg := by cases c <;> decide
  refine ⟨?_, ?_, ?_, ?_⟩
  · refine ((State.ledSync_fr (Nat.or_self _) (Fr.id _ _)).fld _ _ _ _ rfl).trans ?_
    rw [State.fld_flag_ne _ _ (.inl hc), State.fld_flag_other _ _ (by decide), State.fld_put_other _ _ (by decide),
      State.fld_put_other _ _ (by decide), State.fld_put_self _ _ _ _ _ _ (by decide)]
    rfl
  · refine ((State.ledSync_fr (Nat.or_self _) (Fr.id _ _)).fld _ _ _ _ rfl).trans ?_
    rw [State.fld_flag_ne _ _ (.inl hc), State.fld_flag_other _ _ (by decide), State.fld_put_other _ _ (by decide),
      State.fld_put_self _ _ _ _ _ _ (by decide)]
    rfl
  · refine ((State.ledSync_fr (Nat.or_self _) (Fr.id _ _)).fld _ _ _ _ rfl).trans ?_
    rw [State.fld_flag_ne _ _ (.inl hc), State.fld_flag_other _ _ (by decide), State.fld_put_self _ _ _ _ _ _ (by decide)]
    rfl
  · refine ((State.ledSync_fr (Nat.or_self _) (Fr.id _ _)).bitEq _ _ _ _ rfl).trans ?_
    refine (State.bit_of_fld (State.fld_flag_ne _ _ (.inl hc))).trans (State.bit_flag_self _ _ _ _ _ _ (by decide) (by decide))

/-- A byte of a cleared range reads as an unlisted one. -/
theorem Memory.get_clear {lo hi a : Nat} (h1 : lo ≤ a) (h2 : a < hi) (m : List Host.Cell) :
    Memory.get (Memory.clear m lo hi) a = unlisted a := by
  unfold Memory.clear
  induction m with
  | nil => rfl
  | cons c m ih =>
    rw [List.filter_cons]
    split
    case isTrue hc =>
      have : c.1 ≠ a := by
        intro e
        subst e
        simp [h1, h2] at hc
      show (if c.1 = a then c.2 else Memory.get _ a) = _
      rw [if_neg this, ih]
    case isFalse => exact ih

/-- A byte outside a cleared range is untouched. -/
theorem Memory.get_clear_out {lo hi a : Nat} (h : a < lo ∨ hi ≤ a) (m : List Host.Cell) :
    Memory.get (Memory.clear m lo hi) a = Memory.get m a := by
  unfold Memory.clear
  induction m with
  | nil => rfl
  | cons c m ih =>
    rw [List.filter_cons]
    split
    case isTrue hc =>
      show (if c.1 = a then c.2 else Memory.get _ a) = if c.1 = a then c.2 else Memory.get m a
      rw [ih]
    case isFalse hc =>
      have : c.1 ≠ a := by
        intro e
        subst e
        simp at hc
        omega
      show _ = if c.1 = a then c.2 else Memory.get m a
      rw [if_neg this, ih]

end Sys2Proof.Machine
end

