-- ==== Sys2Proof/WellFormed.lean ====
section
/-! DEFINITION. Well-formed commands: every unit number is one that the larger variant has (R1 to R3). A command for a unit that is
not fitted, or an event where its condition does not hold, leaves the state as it is or is a reserved access; that is `exec`'s matter. -/

namespace Sys2Proof

/-- R2: host software, or one of the contexts 0 to 255. -/
def Who.ok : Who → Bool
  | .host => true
  | .ctx c => decide (c < 256)

/-- Every unit number of the command is in range. -/
def Instr.wellFormed : Instr → Bool
  | .supplyGood _ => true
  | .powerOnReset => true
  | .powerIslandReset p => decide (p < 5)
  | .supplyBrownout => true
  | .referenceLoss _ => true
  | .logicReset _ => true
  | .holdTimerExpiry slot => decide (slot < 93)
  | .logicResetRelease => true
  | .startClocksLocked => true
  | .startSupervisorCheckDone failA failB => decide (failA < 16) && decide (failB < 16)
  | .s2RetryTimer failA failB => decide (failA < 16) && decide (failB < 16)
  | .pufAttemptDone _ => true
  | .keyDerivationDone => true
  | .imageReadDone _ => true
  | .imageVerifyDone => true
  | .catalogueLoadDone => true
  | .startBoundary => true
  | .modeRequest who code _ => who.ok && decide (code < 16)
  | .stagingTimeout => true
  | .modeBoundary => true
  | .staggerStepExpiry _ => true
  | .powerDownDone => true
  | .sysRstcmd who _ => who.ok
  | .docWdkick c _ => decide (c < 256)
  | .watchdogExpiry => true
  | .parkedSinPoll _ => true
  | .canWakePattern p _ => decide (p < 8)
  | .canWakeFrame p _ => decide (p < 8)
  | .linWakePulse p => decide (p < 6)
  | .alwaysOnTimerWake => true
  | .twokIFall => true
  | .wakePowerUpDone => true
  | .retentionCheckDone _ => true
  | .wakeBoundary => true
  | .pollPeriodExpiry => true
  | .pollWindowEnd => true
  | .catWctlOpen => true
  | .slotEraseDone => true
  | .slotWordWrite _ _ => true
  | .catWctlClose => true
  | .slotCheckDone _ => true
  | .catWctlCommit => true
  | .slotCommitDone => true
  | .catWctlAbort => true
  | .fabLwr c _ => decide (c < 256)
  | .fabLwrg c g _ => decide (c < 256) && decide (g < 32)
  | .puPdWrite c u _ => decide (c < 256) && decide (u < 64)
  | .pulsePeriodEnd u => decide (u < 64)
  | .puGateRise u => decide (u < 64)
  | .lineEdgeEvent r _ => decide (r < 256)
  | .channelCommandChange n => decide (n < 48)
  | .channelShortCut n _ => decide (n < 48)
  | .currentLimitEntry n _ => decide (n < 48)
  | .currentLimitExit n _ => decide (n < 48)
  | .tlimExpiry n _ => decide (n < 48)
  | .inrushWindowEnd n _ => decide (n < 48)
  | .inrushExtensionEnd n _ => decide (n < 48)
  | .droopDetected n => decide (n < 48)
  | .wireModelUpdate n _ _ _ _ _ => decide (n < 48)
  | .junctionTrip slot _ => decide (slot < 93)
  | .deltaTTrip n _ _ => decide (n < 48)
  | .stuckOn n _ => decide (n < 48)
  | .clampEventEnd slot _ => decide (slot < 93)
  | .bucketFull slot => decide (slot < 93)
  | .hswLockClear who k _ => who.ok && decide (k < 2)
  | .tretryExpiry slot => decide (slot < 93)
  | .tripConditionClear slot => decide (slot < 93)
  | .retryCounterReset slot => decide (slot < 93)
  | .hswClrTrip who n => who.ok && decide (n < 48)
  | .openLoadMeasurement n _ => decide (n < 48)
  | .bridgeCommandChange b => decide (b < 12)
  | .reversalBrakeEnd b => decide (b < 12)
  | .bridgeCycleLimit b _ => decide (b < 12)
  | .cycleLimitEnd b => decide (b < 12)
  | .bridgeTlimExpiry b _ => decide (b < 12)
  | .brakeOvercurrent b _ => decide (b < 12)
  | .bridgeShortCut b _ _ => decide (b < 12)
  | .bridgeOpenLoad b _ => decide (b < 12)
  | .positionCount b _ _ _ _ _ => decide (b < 12)
  | .positionError b _ => decide (b < 12)
  | .pinchPeriodExceeded b => decide (b < 12)
  | .stallDetected b _ => decide (b < 12)
  | .tstopbrkExpiry b => decide (b < 12)
  | .hbrTgtWrite who b _ => who.ok && decide (b < 12)
  | .hbrPosset who b _ => who.ok && decide (b < 12)
  | .hbrClrTrip who b => who.ok && decide (b < 12)
  | .hbrClrStop who b => who.ok && decide (b < 12)
  | .hbrSflt who b _ => who.ok && decide (b < 12)
  | .valveCommandRise v => decide (v < 12)
  | .valveCommandFall v => decide (v.unit < 12)
  | .boostStart v _ => decide (v < 12)
  | .boostEnd v _ _ => decide (v < 12)
  | .boostWaitLimit v => decide (v < 12)
  | .decayEnd slot => decide (slot < 93)
  | .tvminoffExpiry v => decide (v < 12)
  | .openCoilCheck slot _ => decide (slot < 93)
  | .holdCurrentLow slot _ => decide (slot < 93)
  | .coilModelUpdate slot _ _ _ _ _ _ => decide (slot < 93)
  | .bankEmergencyOff k => decide (k.bank < 3) && decide (k.reached < 16)
  | .bankOpeningEnd k _ _ => decide (k < 3)
  | .bankEnableOn k => decide (k < 3)
  | .bankSwitchTrip k _ _ _ _ _ => decide (k.bank < 3) && decide (k.reached < 16)
  | .coilShortCut slot _ _ => decide (slot < 93)
  | .vlvClrTrip who slot => who.ok && decide (slot < 93)
  | .contactorCommandRise c => decide (c < 2)
  | .contactorCommandFall c => decide (c.unit < 2)
  | .pullinEnd c _ _ => decide (c < 2)
  | .contactorHighSideOpen c _ _ => decide (c < 2)
  | .auxContactCheck c _ => decide (c < 2)
  | .ledLevelWrite who i _ => who.ok && decide (i < 16)
  | .demandLineChange i => decide (i < 16)
  | .dimmingDutyWrite i => decide (i < 16)
  | .shortToGround i _ => decide (i < 16)
  | .openStringMeasurement i _ _ _ => decide (i < 16)
  | .shortedLedCheck i _ => decide (i < 16)
  | .dacFailure i _ => decide (i < 16)
  | .ledClrTrip who i => who.ok && decide (i < 16)
  | .ledClrDacrst who i => who.ok && decide (i < 16)
  | .dacRetest i _ => decide (i < 16)
  | .lampGroupUpdate g _ _ => decide (g < 8)
  | .foldbackUpdate _ => true
  | .refreshStart n => decide (n.chain < 8) && decide (n.ecc.getD 0 < 0x40000)
  | .refreshComplete n _ => decide (n < 8)
  | .chainUnderrun n => decide (n.chain < 8) && decide (n.ecc.getD 0 < 0x40000)
  | .lchCtlSwap who n => who.ok && decide (n < 8)
  | .lchCtlDisc who n => who.ok && decide (n < 8)
  | .discoveryDone n _ _ => decide (n < 8)
  | .discoveryRetry n => decide (n < 8)
  | .sinSample g _ => decide (g < 12)
  | .ainUpdate j _ _ => decide (j < 16)
  | .ainOverRange j => decide (j < 16)
  | .sensorSupplyOverload u _ => decide (u < 3)
  | .hallLevelChange h _ _ => decide (h < 8)
  | .hallOpenShort h _ => decide (h < 8)
  | .move d ecc _ => decide (d < 4) && decide (ecc < 6)
  | .aluOperation c port _ => decide (c < 256) && decide (port < 512)
  | .mulMultiply c port _ => decide (c < 256) && decide (port < 512)
  | .mulDivide c port _ => decide (c < 256) && decide (port < 512)
  | .divideComplete c => decide (c < 256)
  | .satOperation c port _ => decide (c < 256) && decide (port < 512)
  | .lsuLoad c port _ => decide (c < 256) && decide (port < 512)
  | .loadComplete d ecc coll => decide (d < 4) && decide (ecc < 3) && decide (coll < 5)
  | .lsuStore c port _ => decide (c < 256) && decide (port < 512)
  | .storeQueueDrain d ecc coll => decide (d < 4) && decide (ecc < 3) && decide (coll < 5)
  | .lsuAtomic c port _ => decide (c < 256) && decide (port < 512)
  | .lsuStatRead c g => decide (c < 256) && decide (g < 32)
  | .strCopy c => decide (c < 256)
  | .strFill c _ => decide (c < 256)
  | .strCmp c => decide (c < 256)
  | .strCrc c => decide (c < 256)
  | .strOperationComplete d ecc coll =>
    decide (d < 4) && decide (ecc.src < 3) && decide (coll.src < 5) && decide (ecc.dst < 3) && decide (coll.dst < 5)
  | .pcJump c port _ => decide (c < 256) && decide (port < 512)
  | .pcCall c port _ => decide (c < 256) && decide (port < 512)
  | .evtWait c _ => decide (c < 256)
  | .evtSend c _ => decide (c < 256)
  | .evtClr c _ => decide (c < 256)
  | .evtYield c => decide (c < 256)
  | .tmrNow c g => decide (c < 256) && decide (g < 32)
  | .tmrUntil c _ => decide (c < 256)
  | .tmrAfter c _ => decide (c < 256)
  | .timedWaitExpiry c => decide (c < 256)
  | .tmrAlarm c _ => decide (c < 256)
  | .tmrAloff c => decide (c < 256)
  | .alarmExpiry c => decide (c < 256)
  | .repT c _ => decide (c < 256)
  | .windowRead c w g => decide (c < 256) && decide (w < 256) && decide (g < 32)
  | .windowWrite c w _ => decide (c < 256) && decide (w < 256)
  | .windowTimeout d _ => decide (d < 4)
  | .shadowPreloadDone d => decide (d.core < 4) && decide (d.ecc < 3)
  | .budgetExpiry c => decide (c < 256)
  | .quarantineEffect c => decide (c < 256)
  | .ctxCmdRelease who c => who.ok && decide (c < 256)
  | .ctxCmdQuarantine who c => who.ok && decide (c < 256)
  | .coreFailure d _ => decide (d < 4)
  | .eccWriteback => true
  | .scrubRead _ e => decide (e < 3)
  | .bankWakeDone b => decide (b < 8)
  | .bankInitDone => true
  | .canFrameReceived n _ _ => decide (n < 8)
  | .canRxdRead who n q => who.ok && decide (n < 8) && decide (q < 2)
  | .canRxpop who n q _ => who.ok && decide (n < 8) && decide (q < 2)
  | .canTxBufferWrite who n b i _ => who.ok && decide (n < 8) && decide (b < 32) && decide (i < 21)
  | .canTxRequest who n _ => who.ok && decide (n < 8)
  | .canTxCancel who n _ _ => who.ok && decide (n < 8)
  | .canStagingDone n _ => decide (n < 8)
  | .canTxChoice n => decide (n < 8)
  | .canTxSuccess n _ _ => decide (n < 8)
  | .canTxError n _ _ => decide (n < 8)
  | .canRxError n _ => decide (n < 8)
  | .busOffRecoveryDone n => decide (n < 8)
  | .canCmdRecover who n => who.ok && decide (n < 8)
  | .canCmdClrlonely who n => who.ok && decide (n < 8)
  | .canIntegrationDone n => decide (n < 8)
  | .txdDominantTimeout n _ => decide (n < 8)
  | .gatewayBufferLoad n => decide (n < 8)
  | .linSlotStart n => decide (n < 6)
  | .linResponseReceived n _ _ _ _ => decide (n < 6)
  | .linResponseTimeout n _ _ => decide (n < 6)
  | .linBusDominant n => decide (n < 6)
  | .linSchedWrite who n _ => who.ok && decide (n < 6)
  | .linCmdWake who n => who.ok && decide (n < 6)
  | .linDataWrite who n k i _ => who.ok && decide (n < 6) && decide (k < 64) && decide (i < 3)
  | .linDataRead who n k i => who.ok && decide (n < 6) && decide (k < 64) && decide (i < 3)
  | .linScheduleResume n => decide (n < 6)
  | .ethFrameReceived p _ _ => decide (p < 8)
  | .ethLinkChange p _ => decide (p < 8)
  | .plcaBeaconLost p => decide (p < 8)
  | .syncMessageReceived p _ => decide (p < 8)
  | .syncLost => true
  | .talkerPduSend st _ => decide (st < 16)
  | .listenerPduReceived p st _ => decide (p < 8) && decide (st < 16)
  | .nmFrameReceived n _ _ => decide (n < 8)
  | .nmCycle => true
  | .sleepPendingEntry => true
  | .tpendExpiry => true
  | .nmBusIdle => true
  | .nmStandbyDone => true
  | .nmCmdWake who => who.ok
  | .nmCtlWrite who _ => who.ok
  | .nmLocalWakeLine => true
  | .nmWakeFromSleep => true
  | .pnClusterTimeout k _ => decide (k < 8)
  | .clusterActivationTimeout n => decide (n < 8)
  | .mainUndervoltage _ => true
  | .mainRecovery _ => true
  | .backupUndervoltage _ _ => true
  | .supplyOvervoltage _ _ => true
  | .reverseCurrent _ => true
  | .transferBackupOn => true
  | .transferMainOpen _ => true
  | .pwrPrcmdForce who => who.ok
  | .pwrPrcmdReturn who => who.ok
  | .tretExpiry => true
  | .railReturnDone _ => true
  | .baseplateHot _ => true
  | .faultReport _ => true
  | .reactionSequenceEnd g => decide (g < 16)
  | .shadowWindowEnd g => decide (g < 16)
  | .sourceActivityExpiry src => decide (src < 8192)
  | .logWrite => true
  | .logBufferFlush => true
  | .fltRgcmdRelease who g => who.ok && decide (g < 16)
  | .groupAutoRelease g => decide (g < 16)
  | .fltAttnAck _ => true
  | .fltCmdClrlog who => who.ok
  | .fltCmdClrlost => true
  | .fltInjLive who src _ => who.ok && decide (src < 8192)
  | .fltInjDry who src _ => who.ok && decide (src < 8192)
  | .fltInjEnd => true
  | .injectionExpiry => true
  | .digestExchange _ _ _ _ => true
  | .bothHalvesLost => true
  | .selfTestCycle _ _ => true
  | .tstCmdSelfTestA who => who.ok
  | .tstCmdSelfTestB who => who.ok
  | .tstCmdCompareTest who => who.ok
  | .tstCmdForcePathTest who g => who.ok && decide (g < 16)
  | .testComplete _ => true
  | .takeoverRelease => true
  | .handoverRoleTimer => true
  | .twstartExpiry => true
  | .twinSuspensionUnit _ => true
  | .twinOutputCommand _ => true
  | .twinProtectionState _ => true
  | .twinCan _ => true
  | .twinConditionReport _ => true
  | .twinHeartbeat _ => true
  | .twinResyncBlock _ => true
  | .twinClosing _ => true
  | .twinRoleClaim _ => true
  | .twinTraining _ => true
  | .trainingFrameSend => true
  | .heartbeatSend => true
  | .protectionShipTick => true
  | .linkLost => true
  | .laneLost lane => decide (lane < 2)
  | .twnCmdFailback who => who.ok
  | .twnCmdResync who => who.ok
  | .keyCmdApply who => who.ok
  | .keyCmdPlainwr who slot flags => who.ok && decide (slot < 32) && decide (flags < 64)
  | .keyCmdImgkey who idx => who.ok && decide (idx < 2)
  | .keyCmdSvcchal who => who.ok
  | .keyCmdSvcauth who => who.ok
  | .keyCmdClrcache who => who.ok
  | .keyCommitDone => true
  | .svcokExpiry => true
  | .svcLockoutExpiry => true
  | .keyOpgo who _ => who.ok
  | .keyOperationDone => true
  | .keyTcfgWrite _ => true
  | .tamperEvent src => decide (src < 8)
  | .debugRequest _ => true
  | .hostNop _ => true
  | .hostRead _ => true
  | .hostWrite _ => true
  | .hostReads _ => true
  | .hostWrites _ => true
  | .hostReservedCommand _ => true
  | .hostFrameAbort => true
  | .registerWrite who _ _ => who.ok
  | .mgmtRequest _ _ _ _ => true
  | .calValWrite r _ => decide (r < 256)
  | .calCommitDone r => decide (r < 256)
  | .crossingTimeout src dst block => decide (src < 19) && decide (dst < 19) && decide (block < 15)
  | .bridgeLimitExit b => decide (b < 12)
  | .txdRecessiveReturn n => decide (n < 8)
  | .ethLinkUp p _ => decide (p < 8)
  | .plcaBeaconReturn p => decide (p < 8)
  | .overvoltageClear _ _ => true
  | .tbhotClear _ => true
  | .twokIRise => true
  | .twinLaneUp lane => decide (lane < 2)
  | .stuckOnClear n => decide (n < 48)
  | .windowQueueDrain d => decide (d < 4)
  | .sensorSupplyRecovery u => decide (u < 3)

end Sys2Proof
end

