-- ==== Sys2Proof/Tests/Slice0.lean ====
section
/-! SUPPORT. Tests of the model: refusals of ill-formed commands, worked examples of the spec, and for every statement with
hypotheses a concrete state and operands that meet them. -/

set_option Elab.async false
set_option maxRecDepth 8000
set_option linter.unusedVariables false

open Sys2Proof Sys2Proof.Machine

/-! Each check of `Instr.wellFormed` refuses a command whose operand is the first one out of range. -/

theorem test_ill_formed_0 : ([
    .powerIslandReset 5, .holdTimerExpiry 93, .startSupervisorCheckDone 16 0, .startSupervisorCheckDone 0 16,
    .s2RetryTimer 16 0, .s2RetryTimer 0 16, .modeRequest (.ctx 256) 0 none, .modeRequest .host 16 none,
    .sysRstcmd (.ctx 256) 0, .docWdkick 256 0, .canWakePattern 8 0, .canWakeFrame 8 none, .linWakePulse 6, .fabLwr 256 0,
    .fabLwrg 256 0 0, .fabLwrg 0 32 0, .puPdWrite 256 0 0, .puPdWrite 0 64 0, .pulsePeriodEnd 64, .puGateRise 64,
    .lineEdgeEvent 256 false, .channelCommandChange 48, .channelShortCut 48 0, .currentLimitEntry 48 0,
    .currentLimitExit 48 0, .tlimExpiry 48 0, .inrushWindowEnd 48 0, .inrushExtensionEnd 48 0, .droopDetected 48,
    .wireModelUpdate 48 0 0 0 0 default, .junctionTrip 93 default, .deltaTTrip 48 0 default, .stuckOn 48 0,
    .clampEventEnd 93 0, .bucketFull 93, .hswLockClear (.ctx 256) 0 0, .hswLockClear .host 2 0, .tretryExpiry 93,
    .tripConditionClear 93, .retryCounterReset 93] : List Instr).all (fun i => !i.wellFormed) = true := by
  decide +kernel

theorem test_ill_formed_1 : ([
    .hswClrTrip (.ctx 256) 0, .hswClrTrip .host 48, .openLoadMeasurement 48 0, .bridgeCommandChange 12,
    .reversalBrakeEnd 12, .bridgeCycleLimit 12 0, .cycleLimitEnd 12, .bridgeTlimExpiry 12 0, .brakeOvercurrent 12 0,
    .bridgeShortCut 12 0 0, .bridgeOpenLoad 12 0, .positionCount 12 0 0 0 0 false, .positionError 12 0,
    .pinchPeriodExceeded 12, .stallDetected 12 0, .tstopbrkExpiry 12, .hbrTgtWrite (.ctx 256) 0 0, .hbrTgtWrite .host 12 0,
    .hbrPosset (.ctx 256) 0 0, .hbrPosset .host 12 0, .hbrClrTrip (.ctx 256) 0, .hbrClrTrip .host 12,
    .hbrClrStop (.ctx 256) 0, .hbrClrStop .host 12, .hbrSflt (.ctx 256) 0 0, .hbrSflt .host 12 0, .valveCommandRise 12,
    .valveCommandFall ⟨12, false⟩, .boostStart 12 0, .boostEnd 12 false 0, .boostWaitLimit 12, .decayEnd 93,
    .tvminoffExpiry 12, .openCoilCheck 93 0, .holdCurrentLow 93 0, .coilModelUpdate 93 0 0 0 0 default false,
    .bankEmergencyOff ⟨3, 0⟩, .bankEmergencyOff ⟨0, 16⟩, .bankOpeningEnd 3 0 0, .bankEnableOn 3] : List Instr).all (fun i =>
        !i.wellFormed) = true := by
  decide +kernel

theorem test_ill_formed_2 : ([
    .bankSwitchTrip ⟨3, 0⟩ false 0 default 0 0, .bankSwitchTrip ⟨0, 16⟩ false 0 default 0 0, .coilShortCut 93 false default,
    .vlvClrTrip (.ctx 256) 0, .vlvClrTrip .host 93, .contactorCommandRise 2, .contactorCommandFall ⟨2, false⟩,
    .pullinEnd 2 false 0, .contactorHighSideOpen 2 0 0, .auxContactCheck 2 0, .ledLevelWrite (.ctx 256) 0 0,
    .ledLevelWrite .host 16 0, .demandLineChange 16, .dimmingDutyWrite 16, .shortToGround 16 0,
    .openStringMeasurement 16 0 0 0, .shortedLedCheck 16 0, .dacFailure 16 0, .ledClrTrip (.ctx 256) 0,
    .ledClrTrip .host 16, .ledClrDacrst (.ctx 256) 0, .ledClrDacrst .host 16, .dacRetest 16 false, .lampGroupUpdate 8 0 0,
    .refreshStart ⟨8, none⟩, .refreshStart ⟨0, some 262144⟩, .refreshComplete 8 [], .chainUnderrun ⟨8, none⟩,
    .chainUnderrun ⟨0, some 262144⟩, .lchCtlSwap (.ctx 256) 0, .lchCtlSwap .host 8, .lchCtlDisc (.ctx 256) 0,
    .lchCtlDisc .host 8, .discoveryDone 8 none 0, .discoveryRetry 8, .sinSample 12 [], .ainUpdate 16 0 0, .ainOverRange 16,
    .sensorSupplyOverload 3 0, .hallLevelChange 8 false 0] : List Instr).all (fun i => !i.wellFormed) = true := by
  decide +kernel

theorem test_ill_formed_3 : ([
    .hallOpenShort 8 0, .move 4 0 false, .move 0 6 false, .aluOperation 256 0 0, .aluOperation 0 512 0,
    .mulMultiply 256 0 0, .mulMultiply 0 512 0, .mulDivide 256 0 0, .mulDivide 0 512 0, .divideComplete 256,
    .satOperation 256 0 0, .satOperation 0 512 0, .lsuLoad 256 0 0, .lsuLoad 0 512 0, .loadComplete 4 0 0,
    .loadComplete 0 3 0, .loadComplete 0 0 5, .lsuStore 256 0 0, .lsuStore 0 512 0, .storeQueueDrain 4 0 0,
    .storeQueueDrain 0 3 0, .storeQueueDrain 0 0 5, .lsuAtomic 256 0 0, .lsuAtomic 0 512 0, .lsuStatRead 256 0,
    .lsuStatRead 0 32, .strCopy 256, .strFill 256 0, .strCmp 256, .strCrc 256, .strOperationComplete 4 default default,
    .strOperationComplete 0 ⟨3, 0⟩ default, .strOperationComplete 0 ⟨0, 3⟩ default, .strOperationComplete 0 default ⟨5, 0⟩,
    .strOperationComplete 0 default ⟨0, 5⟩, .pcJump 256 0 0, .pcJump 0 512 0, .pcCall 256 0 0, .pcCall 0 512 0,
    .evtWait 256 0] : List Instr).all (fun i => !i.wellFormed) = true := by
  decide +kernel

theorem test_ill_formed_4 : ([
    .evtSend 256 0, .evtClr 256 0, .evtYield 256, .tmrNow 256 0, .tmrNow 0 32, .tmrUntil 256 0, .tmrAfter 256 0,
    .timedWaitExpiry 256, .tmrAlarm 256 0, .tmrAloff 256, .alarmExpiry 256, .repT 256 0, .windowRead 256 0 0,
    .windowRead 0 256 0, .windowRead 0 0 32, .windowWrite 256 0 0, .windowWrite 0 256 0, .windowTimeout 4 none,
    .shadowPreloadDone ⟨4, 0⟩, .shadowPreloadDone ⟨0, 3⟩, .budgetExpiry 256, .quarantineEffect 256,
    .ctxCmdRelease (.ctx 256) 0, .ctxCmdRelease .host 256, .ctxCmdQuarantine (.ctx 256) 0, .ctxCmdQuarantine .host 256,
    .coreFailure 4 false, .scrubRead 0 3, .bankWakeDone 8, .canFrameReceived 8 default 0, .canRxdRead (.ctx 256) 0 0,
    .canRxdRead .host 8 0, .canRxdRead .host 0 2, .canRxpop (.ctx 256) 0 0 0, .canRxpop .host 8 0 0, .canRxpop .host 0 2 0,
    .canTxBufferWrite (.ctx 256) 0 0 0 0, .canTxBufferWrite .host 8 0 0 0, .canTxBufferWrite .host 0 32 0 0,
    .canTxBufferWrite .host 0 0 21 0] : List Instr).all (fun i => !i.wellFormed) = true := by
  decide +kernel

theorem test_ill_formed_5 : ([
    .canTxRequest (.ctx 256) 0 0, .canTxRequest .host 8 0, .canTxCancel (.ctx 256) 0 0 false, .canTxCancel .host 8 0 false,
    .canStagingDone 8 0, .canTxChoice 8, .canTxSuccess 8 0 0, .canTxError 8 default none, .canRxError 8 default,
    .busOffRecoveryDone 8, .canCmdRecover (.ctx 256) 0, .canCmdRecover .host 8, .canCmdClrlonely (.ctx 256) 0,
    .canCmdClrlonely .host 8, .canIntegrationDone 8, .txdDominantTimeout 8 false, .gatewayBufferLoad 8, .linSlotStart 6,
    .linResponseReceived 6 [] default false false, .linResponseTimeout 6 false false, .linBusDominant 6,
    .linSchedWrite (.ctx 256) 0 0, .linSchedWrite .host 6 0, .linCmdWake (.ctx 256) 0, .linCmdWake .host 6,
    .linDataWrite (.ctx 256) 0 0 0 0, .linDataWrite .host 6 0 0 0, .linDataWrite .host 0 64 0 0,
    .linDataWrite .host 0 0 3 0, .linDataRead (.ctx 256) 0 0 0, .linDataRead .host 6 0 0, .linDataRead .host 0 64 0,
    .linDataRead .host 0 0 3, .linScheduleResume 6, .ethFrameReceived 8 default default, .ethLinkChange 8 false,
    .plcaBeaconLost 8, .syncMessageReceived 8 default, .talkerPduSend 16 false, .listenerPduReceived 8 0 []] : List Instr).all
        (fun i => !i.wellFormed) = true := by
  decide +kernel

theorem test_ill_formed_6 : ([
    .listenerPduReceived 0 16 [], .nmFrameReceived 8 default 0, .nmCmdWake (.ctx 256), .nmCtlWrite (.ctx 256) 0,
    .pnClusterTimeout 8 false, .clusterActivationTimeout 8, .pwrPrcmdForce (.ctx 256), .pwrPrcmdReturn (.ctx 256),
    .reactionSequenceEnd 16, .shadowWindowEnd 16, .sourceActivityExpiry 8192, .fltRgcmdRelease (.ctx 256) 0,
    .fltRgcmdRelease .host 16, .groupAutoRelease 16, .fltCmdClrlog (.ctx 256), .fltInjLive (.ctx 256) 0 0,
    .fltInjLive .host 8192 0, .fltInjDry (.ctx 256) 0 0, .fltInjDry .host 8192 0, .tstCmdSelfTestA (.ctx 256),
    .tstCmdSelfTestB (.ctx 256), .tstCmdCompareTest (.ctx 256), .tstCmdForcePathTest (.ctx 256) 0,
    .tstCmdForcePathTest .host 16, .laneLost 2, .twnCmdFailback (.ctx 256), .twnCmdResync (.ctx 256),
    .keyCmdApply (.ctx 256), .keyCmdPlainwr (.ctx 256) 0 0, .keyCmdPlainwr .host 32 0, .keyCmdPlainwr .host 0 64,
    .keyCmdImgkey (.ctx 256) 0, .keyCmdImgkey .host 2, .keyCmdSvcchal (.ctx 256), .keyCmdSvcauth (.ctx 256),
    .keyCmdClrcache (.ctx 256), .keyOpgo (.ctx 256) 0, .tamperEvent 8, .registerWrite (.ctx 256) 0 0, .calValWrite 256 0] :
        List Instr).all (fun i => !i.wellFormed) = true := by
  decide +kernel

theorem test_ill_formed_7 : ([
    .calCommitDone 256, .crossingTimeout 19 0 0, .crossingTimeout 0 19 0, .crossingTimeout 0 0 15, .bridgeLimitExit 12,
    .txdRecessiveReturn 8, .ethLinkUp 8 0, .plcaBeaconReturn 8, .twinLaneUp 2, .stuckOnClear 48, .windowQueueDrain 4,
    .sensorSupplyRecovery 3] : List Instr).all (fun i => !i.wellFormed) = true := by
  decide +kernel

/-! The largest operand of each check is accepted. -/

theorem test_well_formed_0 : ([
    .powerIslandReset 4, .holdTimerExpiry 92, .startSupervisorCheckDone 15 15, .s2RetryTimer 15 15,
    .modeRequest (.ctx 255) 15 none, .sysRstcmd (.ctx 255) 0, .docWdkick 255 0, .canWakePattern 7 0, .canWakeFrame 7 none,
    .linWakePulse 5, .fabLwr 255 0, .fabLwrg 255 31 0, .puPdWrite 255 63 0, .pulsePeriodEnd 63, .puGateRise 63,
    .lineEdgeEvent 255 false, .channelCommandChange 47, .channelShortCut 47 0, .currentLimitEntry 47 0,
    .currentLimitExit 47 0, .tlimExpiry 47 0, .inrushWindowEnd 47 0, .inrushExtensionEnd 47 0, .droopDetected 47,
    .wireModelUpdate 47 0 0 0 0 default, .junctionTrip 92 default, .deltaTTrip 47 0 default, .stuckOn 47 0,
    .clampEventEnd 92 0, .bucketFull 92, .hswLockClear (.ctx 255) 1 0, .tretryExpiry 92, .tripConditionClear 92,
    .retryCounterReset 92, .hswClrTrip (.ctx 255) 47, .openLoadMeasurement 47 0, .bridgeCommandChange 11,
    .reversalBrakeEnd 11, .bridgeCycleLimit 11 0, .cycleLimitEnd 11] : List Instr).all (fun i => i.wellFormed) = true := by
  decide +kernel

theorem test_well_formed_1 : ([
    .bridgeTlimExpiry 11 0, .brakeOvercurrent 11 0, .bridgeShortCut 11 0 0, .bridgeOpenLoad 11 0,
    .positionCount 11 0 0 0 0 false, .positionError 11 0, .pinchPeriodExceeded 11, .stallDetected 11 0, .tstopbrkExpiry 11,
    .hbrTgtWrite (.ctx 255) 11 0, .hbrPosset (.ctx 255) 11 0, .hbrClrTrip (.ctx 255) 11, .hbrClrStop (.ctx 255) 11,
    .hbrSflt (.ctx 255) 11 0, .valveCommandRise 11, .valveCommandFall ⟨11, false⟩, .boostStart 11 0, .boostEnd 11 false 0,
    .boostWaitLimit 11, .decayEnd 92, .tvminoffExpiry 11, .openCoilCheck 92 0, .holdCurrentLow 92 0,
    .coilModelUpdate 92 0 0 0 0 default false, .bankEmergencyOff ⟨2, 15⟩, .bankOpeningEnd 2 0 0, .bankEnableOn 2,
    .bankSwitchTrip ⟨2, 15⟩ false 0 default 0 0, .coilShortCut 92 false default, .vlvClrTrip (.ctx 255) 92,
    .contactorCommandRise 1, .contactorCommandFall ⟨1, false⟩, .pullinEnd 1 false 0, .contactorHighSideOpen 1 0 0,
    .auxContactCheck 1 0, .ledLevelWrite (.ctx 255) 15 0, .demandLineChange 15, .dimmingDutyWrite 15, .shortToGround 15 0,
    .openStringMeasurement 15 0 0 0] : List Instr).all (fun i => i.wellFormed) = true := by
  decide +kernel

theorem test_well_formed_2 : ([
    .shortedLedCheck 15 0, .dacFailure 15 0, .ledClrTrip (.ctx 255) 15, .ledClrDacrst (.ctx 255) 15, .dacRetest 15 false,
    .lampGroupUpdate 7 0 0, .refreshStart ⟨7, some 262143⟩, .refreshComplete 7 [], .chainUnderrun ⟨7, some 262143⟩,
    .lchCtlSwap (.ctx 255) 7, .lchCtlDisc (.ctx 255) 7, .discoveryDone 7 none 0, .discoveryRetry 7, .sinSample 11 [],
    .ainUpdate 15 0 0, .ainOverRange 15, .sensorSupplyOverload 2 0, .hallLevelChange 7 false 0, .hallOpenShort 7 0,
    .move 3 5 false, .aluOperation 255 511 0, .mulMultiply 255 511 0, .mulDivide 255 511 0, .divideComplete 255,
    .satOperation 255 511 0, .lsuLoad 255 511 0, .loadComplete 3 2 4, .lsuStore 255 511 0, .storeQueueDrain 3 2 4,
    .lsuAtomic 255 511 0, .lsuStatRead 255 31, .strCopy 255, .strFill 255 0, .strCmp 255, .strCrc 255,
    .strOperationComplete 3 ⟨2, 2⟩ ⟨4, 4⟩, .pcJump 255 511 0, .pcCall 255 511 0, .evtWait 255 0, .evtSend 255 0] : List
        Instr).all (fun i => i.wellFormed) = true := by
  decide +kernel

theorem test_well_formed_3 : ([
    .evtClr 255 0, .evtYield 255, .tmrNow 255 31, .tmrUntil 255 0, .tmrAfter 255 0, .timedWaitExpiry 255, .tmrAlarm 255 0,
    .tmrAloff 255, .alarmExpiry 255, .repT 255 0, .windowRead 255 255 31, .windowWrite 255 255 0, .windowTimeout 3 none,
    .shadowPreloadDone ⟨3, 2⟩, .budgetExpiry 255, .quarantineEffect 255, .ctxCmdRelease (.ctx 255) 255,
    .ctxCmdQuarantine (.ctx 255) 255, .coreFailure 3 false, .scrubRead 0 2, .bankWakeDone 7, .canFrameReceived 7 default 0,
    .canRxdRead (.ctx 255) 7 1, .canRxpop (.ctx 255) 7 1 0, .canTxBufferWrite (.ctx 255) 7 31 20 0,
    .canTxRequest (.ctx 255) 7 0, .canTxCancel (.ctx 255) 7 0 false, .canStagingDone 7 0, .canTxChoice 7,
    .canTxSuccess 7 0 0, .canTxError 7 default none, .canRxError 7 default, .busOffRecoveryDone 7,
    .canCmdRecover (.ctx 255) 7, .canCmdClrlonely (.ctx 255) 7, .canIntegrationDone 7, .txdDominantTimeout 7 false,
    .gatewayBufferLoad 7, .linSlotStart 5, .linResponseReceived 5 [] default false false] : List Instr).all (fun i =>
        i.wellFormed) = true := by
  decide +kernel

theorem test_well_formed_4 : ([
    .linResponseTimeout 5 false false, .linBusDominant 5, .linSchedWrite (.ctx 255) 5 0, .linCmdWake (.ctx 255) 5,
    .linDataWrite (.ctx 255) 5 63 2 0, .linDataRead (.ctx 255) 5 63 2, .linScheduleResume 5,
    .ethFrameReceived 7 default default, .ethLinkChange 7 false, .plcaBeaconLost 7, .syncMessageReceived 7 default,
    .talkerPduSend 15 false, .listenerPduReceived 7 15 [], .nmFrameReceived 7 default 0, .nmCmdWake (.ctx 255),
    .nmCtlWrite (.ctx 255) 0, .pnClusterTimeout 7 false, .clusterActivationTimeout 7, .pwrPrcmdForce (.ctx 255),
    .pwrPrcmdReturn (.ctx 255), .reactionSequenceEnd 15, .shadowWindowEnd 15, .sourceActivityExpiry 8191,
    .fltRgcmdRelease (.ctx 255) 15, .groupAutoRelease 15, .fltCmdClrlog (.ctx 255), .fltInjLive (.ctx 255) 8191 0,
    .fltInjDry (.ctx 255) 8191 0, .tstCmdSelfTestA (.ctx 255), .tstCmdSelfTestB (.ctx 255), .tstCmdCompareTest (.ctx 255),
    .tstCmdForcePathTest (.ctx 255) 15, .laneLost 1, .twnCmdFailback (.ctx 255), .twnCmdResync (.ctx 255),
    .keyCmdApply (.ctx 255), .keyCmdPlainwr (.ctx 255) 31 63, .keyCmdImgkey (.ctx 255) 1, .keyCmdSvcchal (.ctx 255),
    .keyCmdSvcauth (.ctx 255)] : List Instr).all (fun i => i.wellFormed) = true := by
  decide +kernel

theorem test_well_formed_5 : ([
    .keyCmdClrcache (.ctx 255), .keyOpgo (.ctx 255) 0, .tamperEvent 7, .registerWrite (.ctx 255) 0 0, .calValWrite 255 0,
    .calCommitDone 255, .crossingTimeout 18 18 14, .bridgeLimitExit 11, .txdRecessiveReturn 7, .ethLinkUp 7 0,
    .plcaBeaconReturn 7, .twinLaneUp 1, .stuckOnClear 47, .windowQueueDrain 3, .sensorSupplyRecovery 2] : List Instr).all (fun
        i => i.wellFormed) = true := by
  decide +kernel

/-! Worked examples of the spec, and test vectors of the standards that it names. -/

/-- The fabric runs. -/
def sUp : State := { State.reset with sys := { (default : SysSt) with phase := .run, fabricUp := true } }

/-- The phase is run. -/
def sPlain : State := { State.reset with sys := { (default : SysSt) with phase := .run } }

/-- The state after a command. -/
def after (c : Instr) (s : State) : State :=
  match exec c s with
  | .next t => t
  | _ => s

/-- spec/19, line 97: the header bytes 0x01, 0x00, 0x5A give HCRC 0xD9. -/
theorem test_header_crc : hcrcOk 0x01005AD9 = true ∧ hcrcOk 0x01005AD8 = false := by decide +kernel

/-- The CRC of R595 and R354 over the check string 123456789, by the polynomial and start value that the spec gives. -/
theorem test_frame_crc : hostFcrc ⟨0x31323334, 0x35363738, [], 0, none, [], []⟩ = 0xb61c3d04 := by decide +kernel

/-- spec/20, line 46: the first two words of the frame lie in the host window, the other two are reserved and set RSVD. -/
theorem test_read_past_window :
    (after (.hostRead ⟨0x1035acd, 0x307FF8, [], 0xf325da70, none, [], []⟩)
      { sUp with mem := [(0x307FF8, 7), (0x307FFC, 9)] }).spi.rsvd = true ∧
    ((after (.hostRead ⟨0x1035acd, 0x307FF8, [], 0xf325da70, none, [], []⟩)
      { sUp with mem := [(0x307FF8, 7), (0x307FFC, 9)] }).spi.out.drop 5).take 4 = [7, 9, 0, 0] := by decide +kernel

/-- spec/04, line 126: four units of one stagger group with PER 10,000 start at 0, 2,500, 5,000 and 7,500. -/
theorem test_stagger_starts : [8, 9, 10, 11].map ((((((((sUp.put PU_CFG.SG 1 8).put PU_PD.PER 10000 8).put PU_CFG.SG 1 9).put
    PU_PD.PER 10000 9).put PU_CFG.SG 1 10).put PU_PD.PER 10000 10).put PU_CFG.SG 1 11).put PU_PD.PER 10000 11).puStart = [0,
        2500, 5000, 7500] := by decide +kernel

/-- spec/04, line 158: LC0 with LUT 0xE0E0 is high for C and (A or B): low with A and B, high with B and C. -/
theorem test_flasher_cell :
    ((((((({ State.reset with sys := { (default : SysSt) with phase := .run, fabricUp := true }, fab := { (default : FabSt) with lines := 10 } }).put FAB_LSRC.KIND 5 7).put LC_CFG.LUT 0xE0E0 0).put LC_INAB.A 1 0).put LC_INAB.B 3 0).put LC_INCD.C 2 0).srcLevel 7) = false ∧
    ((((((({ State.reset with sys := { (default : SysSt) with phase := .run, fabricUp := true }, fab := { (default : FabSt) with lines := 12 } }).put FAB_LSRC.KIND 5 7).put LC_CFG.LUT 0xE0E0 0).put LC_INAB.A 1 0).put LC_INAB.B 3 0).put LC_INCD.C 2 0).srcLevel 7) = true := by decide +kernel

/-- spec/07, line 184: 13.5 V, 42.8 %, 0.8 V and 0.5 A give TCOIL 104.0 °C with RREF 8 Ω at 20 °C. -/
theorem test_coil_example : (after (.coilModelUpdate 62 13500 428 800 500 50 true)
    ((((sUp.put VLV_STAT.STATE 3 2).put VLV_COIL.RREF 8000 2).put VLV_COIL.TREF 20 2).put VLV_COIL2.TCMAX 150 2)).fld
        VLV_TEMP.TCOIL 2 = 208 := by decide +kernel

/-- spec/08, line 146: x = 0.25 with B = 3,435 K and RPU = 10 kΩ gives 56.0 °C, and F = 218. -/
theorem test_lamp_group : ntcHalf (1 / 4) 10000 10000 3435 = 112 ∧ deratingF 112 50 80 64 = 218 := by decide +kernel

/-- spec/16, line 273: a dry injection of source 0x4D8 in Service mode is shown as running. -/
theorem test_dry_injection : (after (.fltInjDry .host 0x4D8 50) (sUp.put SYS_MODE.MODE 8)).fld FLT_INJSTAT.SRC = 0x4D8 := by
    decide +kernel

/-- spec/18, line 161: the label of the update key of slot 7 is 75 70 64 07 and twelve 00 bytes. -/
theorem test_update_label : lblUpd 7 = [0x75, 0x70, 0x64, 0x07] ++ List.replicate 12 0 := by decide

/-- FIPS 180-4: SHA-256 of "abc" begins with BA 78 16 BF. -/
theorem test_sha256 : (sha256 [0x61, 0x62, 0x63]).take 4 = [0xBA, 0x78, 0x16, 0xBF] := by decide +kernel

/-- FIPS 197, C.3: AES-256. -/
theorem test_aes256 : (aesEncrypt ((List.range 32).map (BitVec.ofNat 8)) ((List.range 16).map fun i => BitVec.ofNat 8 (17 *
    i))).take 4 =
    [0x8E, 0xA2, 0xB7, 0xCA] := by decide +kernel

/-- R333: bits 30 to 29 the guard, 28 to 20 the destination, bit 19 the immediate: a long move of 42 to R7. -/
theorem test_long_move : decodeMoves 0b00000000011110000000000000101010 = ([⟨0, 7, some 42, 0⟩], true) := by decide

/-- R338, R339: subtraction wraps, an arithmetic shift keeps the sign, a division by zero yields all ones and A. -/
theorem test_units : aluResult 0x023 3 5 = 0xFFFFFFFE ∧ aluResult 0x02A 0x80000000 4 = 0xF8000000 ∧
    divResult false 9 0 = (0xFFFFFFFF, 9) ∧ satResult 0x0C2 0x7FFFFFFF 1 0 0 = (0x7FFFFFFF, true) := by decide

/-- A write to an address that no register has is reserved, and the step of an empty queue counts the time base. -/
theorem test_reserved_write : (after (.registerWrite .host 0x16FFFC 1) sUp).spi.rsvd = true := by decide +kernel
theorem test_idle_counts : State.reset.tick.tb = 1 := by decide +kernel

/-! States and operands that meet the hypotheses of the statements. -/

/-- A module in Run (mode 3). -/
def sRun : State := sPlain.put SYS_MODE.MODE 3
def sCommitting : State :=
  ({ State.reset with sys := { (default : SysSt) with phase := .run, fabricUp := true }, key := { (default : KeySt) with slots := [((0, false), ⟨true, 1, 63, false, List.replicate 32 9⟩), ((4, false), ⟨true, 6, 63, false, List.replicate 32 9⟩)], work := some (.plain 3 true ⟨true, 2, 5, false, [1]⟩) } }).put SYS_MODE.MODE 8
def sStore : State :=
  (((({ State.reset with sys := { (default : SysSt) with phase := .run, fabricUp := true }, doc := { (default : DocSt) with ctxs := [(9, { (default : Ctx) with rcd := { (default : CtxRec) with pc := 64 } })], cores := [(1, { (default : CoreSt) with memq := [⟨9, .store, 0x200010, 4, 0xFFFFFF, 0, false⟩] })] } }).put DOC_STAT.STATE 2 1).put DOC_STAT.CTX 9 1).put CTXC_STAT.STATE 4 9).put CTXC_STAT.CORE 1 9
def sLoad : State :=
  (((({ State.reset with sys := { (default : SysSt) with phase := .run, fabricUp := true }, doc := { (default : DocSt) with ctxs := [(9, { (default : Ctx) with rcd := { (default : CtxRec) with pc := 64 } })], cores := [(1, { (default : CoreSt) with memq := [⟨9, .load, 0x200010, 2, 0, 0, false⟩] })] } }).put DOC_STAT.STATE 2 1).put DOC_STAT.CTX 9 1).put CTXC_STAT.STATE 4 9).put CTXC_STAT.CORE 1 9
def sString : State :=
  (((({ State.reset with sys := { (default : SysSt) with phase := .run, fabricUp := true }, doc := { (default : DocSt) with ctxs := [(9, { (default : Ctx) with rcd := { (default : CtxRec) with pc := 64 } })], cores := [(1, { (default : CoreSt) with strq := [⟨9, .copy, 0x200010, 0x200020, 0, 0, 0, false⟩] })] } }).put DOC_STAT.STATE 2 1).put DOC_STAT.CTX 9 1).put CTXC_STAT.STATE 4 9).put CTXC_STAT.CORE 1 9
def sHold : State :=
  { State.reset with sys := { (default : SysSt) with phase := .hold } }
def sAlarm : State :=
  (((({ State.reset with sys := { (default : SysSt) with phase := .run }, doc := { (default : DocSt) with ctxs := [(9, { (default : Ctx) with rcd := { (default : CtxRec) with pc := 64, alarmArmed := true, alarmAt := 9 } })] } }).put DOC_STAT.STATE 2 1).put DOC_STAT.CTX 9 1).put CTXC_STAT.STATE 4 9).put CTXC_STAT.CORE 1 9
def sCellLine : State :=
  (sPlain.put FAB_LSRC.KIND 5).put FAB_LSRC.INDEX 2
def sDividing : State :=
  (((({ State.reset with sys := { (default : SysSt) with phase := .run, fabricUp := true }, doc := { (default : DocSt) with ctxs := [(9, { (default : Ctx) with rcd := { (default : CtxRec) with pc := 64, ports := [(64, 2147483648)] } })] } }).put DOC_STAT.STATE 2 1).put DOC_STAT.CTX 9 1).put CTXC_STAT.STATE 4 9).put CTXC_STAT.CORE 1 9

theorem test_wit_StepTakesFront : (State.pending { State.reset with pending := [.svcokExpiry, .nmCycle] } =
    .svcokExpiry :: [.nmCycle]) ∧ State.reset.pending = [] := ⟨rfl, rfl⟩

theorem test_wit_MemoryKeepsForm : State.reset.Inv ∧ ∃ t, step State.reset = .next t := ⟨rfl, _, rfl⟩

/-- The largest and the smallest immediates, and the highest port. -/
theorem test_wit_RarekRoundTrip :
    (⟨3, 511, some (BitVec.ofInt 32 (-262144)), 0⟩ : Move).longOk = true ∧ (⟨0, 0, some 262143, 0⟩ : Move).longOk = true ∧
    (⟨0, 511, none, 511⟩ : Move).longOk = true ∧ (⟨0, 0, some 262144, 0⟩ : Move).longOk = false ∧
    (⟨3, 0x090, some (BitVec.ofInt 32 (-64)), 0⟩ : Move).shortOk = true ∧ (⟨0, 0, none, 0x0B8⟩ : Move).shortOk = true ∧
    (decodeMoves 0xE0000000).2 = true ∧ (decodeMoves 0x7FFFFFFF).2 = true := by decide +kernel

theorem test_wit_RegisterMap : (⟨.SYS_ID, 0, 0, 0⟩ : RegRef).placed = true ∧ decodeReg 0 = some ⟨.SYS_ID, 0, 0, 0⟩ ∧
    (⟨.CAL_VAL, 255, 0, 0⟩ : RegRef).placed = true ∧ decodeReg 0x16FFFC = none := by decide +kernel

theorem test_wit_KeyStoreCommits : ∃ s w t, s.key.work = some w ∧ exec .keyCommitDone s = .next t ∧ t.key.slots ≠ s.key.slots :=
  ⟨sCommitting, _, _, rfl, rfl, by decide +kernel⟩

theorem test_wit_CatalogueLockStays : ∃ s t, s.bit KEY_STAT.CATLOCK = true ∧ step s = .next t :=
  ⟨State.reset.flag KEY_STAT.CATLOCK true, _, by decide +kernel, rfl⟩

theorem test_wit_HoldIsLeft :
    (∃ s t, s.sys.phase = .hold ∧ exec .logicResetRelease s = .next t ∧ t.sys.phase ≠ .hold) ∧
    (∃ s t, s.sys.phase = .unpowered ∧ exec (.supplyGood true) s = .next t ∧ t.sys.phase ≠ .unpowered) :=
  ⟨⟨sHold, _, rfl, rfl, by decide +kernel⟩, State.reset, _, rfl, rfl, by decide +kernel⟩

theorem test_wit_TimeBase : ∃ s t, exec (.alarmExpiry 9) s = .next t ∧ t.tb ≠ s.tb :=
  ⟨sAlarm, _, rfl, by decide +kernel⟩

/-- Every command answers a next state, whatever the state. -/
theorem test_wit_every_command (i : Instr) : ∃ t, exec i State.reset = .next t := exec_next i _

theorem test_wit_MemoryFrames :
    (∃ o os, (sStore.core 1).memq = o :: os ∧ o.kind = .store) ∧ (∃ o os, (sLoad.core 1).memq = o :: os) ∧
    (∃ o os, (sString.core 1).strq = o :: os) :=
  ⟨⟨_, _, rfl, rfl⟩, ⟨_, _, rfl⟩, ⟨_, _, rfl⟩⟩

theorem test_wit_UnitLocality :
    (⟨.HSW_STAT, 4, 0, 0⟩ : RegRef).reg.block = 4 ∧
    4 ∉ State.reset.grp 3 ∧ (⟨.HBR_STAT, 1, 0, 0⟩ : RegRef).reg.block = 5 ∧ (⟨.LCH_STAT, 1, 0, 0⟩ : RegRef).reg.block = 8 ∧
    (⟨.CAN_ERR, 1, 0, 0⟩ : RegRef).reg.block = 13 ∧ (⟨.LIN_CFG, 1, 0, 0⟩ : RegRef).reg.block = 14 :=
  by decide +kernel

theorem test_wit_HostWritesBarred :
    (∃ (s : State) (r : RegRef) (w : Word), s.hostUp = true ∧ s.mode ≠ 8 ∧ s.regAt r.addr = some r ∧ s.rwsBarred .host r w =
        true) ∧
    ∃ s : State, s.hostUp = true ∧ s.mode ≠ 8 :=
  ⟨⟨sRun, ⟨.KEY_TCFG, 0, 0, 0⟩, 0x100, by decide +kernel⟩, sRun, by decide +kernel⟩

theorem test_wit_RefusedRequests :
    (sRun.hostUp = true ∧ sRun.sys.phase ≠ .sealed) ∧
    (sRun.flag SYS_MODE.BUSY true).hostUp = true ∧ (sRun.flag SYS_MODE.BUSY true).sys.phase ≠ .sealed ∧
    (sRun.flag SYS_MODE.BUSY true).bit SYS_MODE.BUSY = true := by decide +kernel

theorem test_wit_FabricLines :
    (511 < 512 ∧ 511 ∉ sCellLine.lineIds) ∧
    (0 ∈ sCellLine.lineIds ∧ sCellLine.fld FAB_LSRC.KIND 0 = 5 ∧ sCellLine.fld FAB_LSRC.INDEX 0 = 2 ∧
      sCellLine.fld LC_CFG.MODE 2 = 0) ∧
    (127 ∈ (sCellLine.put LC_CFG.MODE 1 127).lcIds ∧ (sCellLine.put LC_CFG.MODE 1 127).fld LC_CFG.MODE 127 = 1) ∧
    (127 ∈ (sCellLine.put LC_CFG.MODE 2 127).lcIds ∧ (sCellLine.put LC_CFG.MODE 2 127).fld LC_CFG.MODE 127 = 2) ∧
    State.reset.sys.fabricUp = false := by
  decide +kernel

theorem test_wit_DivisionCorners :
    sDividing.freeToIssue 9 1 = true ∧ sDividing.port 9 pMulA = 0x80000000 := by decide +kernel

theorem test_wit_TxBufferGuard :
    (sRun.reaches .host 13 = true ∧ sRun.canFitted 7 = true ∧ sRun.gwOwned 7 31 = false ∧ sRun.bst 7 31 = bIdle) ∧
    (sRun.put CAN_TXS.ST 1 7 31).bst 7 31 = bPending := by decide +kernel

/-- Service mode, an unsealed store with a device key in slot 0 and a live nonce. -/
def keyBase : State :=
  State.put { State.reset with
    sys := { (default : SysSt) with phase := .run, fabricUp := true },
    key := { (default : KeySt) with nonceLive := true, slots := [((0, false), ⟨true, 1, 63, false, List.replicate 32 9⟩)] } }
    SYS_MODE.MODE 8

/-- The fields of an unseal envelope (R576, R577) behind the UID, and the envelope without its TAG. -/
def unsealTail : List Byte := [0xFD, 0, 1, 0, 0, 0, 0, 0] ++ List.replicate 40 0
def unsealBody : List Byte := deviceUid ++ unsealTail

theorem slice_behind (u t g : List Byte) (n m : Nat) (hu : u.length = 16) (h : n + m ≤ t.length) :
    slice (u ++ t ++ g) (16 + n) m = slice t n m := by
  have e : (u ++ t ++ g).drop (16 + n) = t.drop n ++ g := by
    rw [List.append_assoc, ← hu, ← List.drop_drop, List.drop_left, List.drop_append_of_le_length (by omega)]
  rw [slice, slice, e, List.take_append_of_le_length (by rw [List.length_drop]; omega)]

theorem keyBase_slot (s : State) (h : s.key = keyBase.key) :
    s.slotKey 0 = some ⟨true, 1, 63, false, List.replicate 32 9⟩ := by
  simp only [State.slotKey, State.activeCopy, State.slotCopy, h]; decide +kernel

theorem envCheck_unseal (s : State) (k g : List Byte) (hs : s.sealed = false)
    (hk : (s.slotKey 0).map KeyCopy.key = some k) (hc : s.storedCounter 0xFD = 0)
    (hg : g = aesCmac (kdf k (lblUpd 0xFD)) unsealBody) : s.envCheck (unsealBody ++ g) = .inr [] := by
  have u := deviceUid_length
  have c (n m : Nat) (h : n + m ≤ 48) : slice (unsealBody ++ g) (16 + n) m = slice unsealTail n m :=
    slice_behind _ _ _ _ _ u h
  have c0 : slice (unsealBody ++ g) 0 16 = deviceUid := by
    simp [slice, unsealBody, u]
  have b : unsealBody.length = 64 := by simp [unsealBody, unsealTail, u]
  have c4 : slice (unsealBody ++ g) 64 16 = g := by
    rw [slice, ← b, List.drop_left, List.take_of_length_le (by rw [hg]; exact Nat.le_of_eq (aesCmac_length ..))]
  have ct : (unsealBody ++ g).take 64 = unsealBody := by rw [← b, List.take_left]
  have e1 : leNat (slice (unsealBody ++ g) 16 1) = 0xFD := by rw [c 0 1 (by omega)]; decide
  have e2 : leNat (slice (unsealBody ++ g) 17 1) = 0 := by rw [c 1 1 (by omega)]; decide
  have e3 : leNat (slice (unsealBody ++ g) 18 4) = 1 := by rw [c 2 4 (by omega)]; decide
  have e4 : allZero (slice (unsealBody ++ g) 22 2) = true := by rw [c 6 2 (by omega)]; decide
  have e5 : allZero (slice (unsealBody ++ g) 24 40) = true := by rw [c 8 40 (by omega)]; decide
  cases hx : s.slotKey 0 with
  | none => rw [hx] at hk; simp at hk
  | some q =>
    rw [hx] at hk
    have hq : q.key = k := by simpa using hk
    simp [State.envCheck, e1, e2, e3, e4, e5, c0, c4, ct, hs, hx, hq, hc, ← hg]

theorem test_wit_KeyCommands_apply : ∃ s : State, s.key.work = none ∧ s.key.applyWait = false ∧ s.mode = 8 ∧
    s.key.running = none ∧ s.envCheck s.envelope = .inr [] ∧ leNat (slice s.envelope 16 1) = 0xFD := by
  have hg := aesCmac_length (kdf (List.replicate 32 9) (lblUpd 0xFD)) unsealBody
  obtain ⟨g, eg⟩ : ∃ g, g = aesCmac (kdf (List.replicate 32 9) (lblUpd 0xFD)) unsealBody := ⟨_, rfl⟩
  rw [← eg] at hg
  have hl : (unsealBody ++ g).length = 4 * 20 := by
    simp [unsealBody, unsealTail, deviceUid_length, hg]
  have fr : Fr 0x100000000000000000000000000000000000000000000000000000000000000000000 keyBase
      (keyBase.setRegBytes .KEY_ENV (unsealBody ++ g)) := State.setRegBytes_fr rfl rfl (Fr.id _ _)
  have hk := fr.key rfl
  have he : (keyBase.setRegBytes .KEY_ENV (unsealBody ++ g)).envelope = unsealBody ++ g :=
    regBytes_setRegBytes keyBase .KEY_ENV 20 _ hl
  refine ⟨keyBase.setRegBytes .KEY_ENV (unsealBody ++ g), ?_, ?_, ?_, ?_, ?_, ?_⟩
  · rw [hk]; rfl
  · rw [hk]; rfl
  · exact (fr.fld SYS_MODE.MODE 0 0 0 rfl).trans (by decide +kernel)
  · rw [hk]; rfl
  · rw [he]
    refine envCheck_unseal _ (List.replicate 32 9) g ?_ ?_ ?_ eg
    · exact (fr.bitEq KEY_STAT.SEALED 0 0 0 rfl).trans (by decide +kernel)
    · rw [keyBase_slot _ hk]; rfl
    · exact (fr.fld KEY_UNSCNT.CNT 0 0 0 rfl).trans (by decide +kernel)
  · rw [he, unsealBody, slice_behind deviceUid unsealTail g 0 1 deviceUid_length (by decide)]; decide

theorem test_wit_KeyCommands_svcauth : ∃ s : State, s.key.work = none ∧ s.key.applyWait = false ∧ s.key.nonceLive = true ∧
    s.svcExpected = some (s.regBytes .KEY_SVCRESP 4) := by
  obtain ⟨g, eg⟩ : ∃ g, g = aesCmac (kdf (List.replicate 32 9) lblSvc) (keyBase.regBytes .KEY_SVCNONCE 4 ++ deviceUid) :=
    ⟨_, rfl⟩
  have hg : g.length = 4 * 4 := by rw [eg, aesCmac_length]
  have fr : Fr 0x800000000000000000000000000000000000000000000000000000000000000000000 keyBase
      (keyBase.setRegBytes .KEY_SVCRESP g) := State.setRegBytes_fr rfl rfl (Fr.id _ _)
  have hk := fr.key rfl
  have hn : (keyBase.setRegBytes .KEY_SVCRESP g).regBytes .KEY_SVCNONCE 4 = keyBase.regBytes .KEY_SVCNONCE 4 := by
    have hb : Nat.testBit 0x800000000000000000000000000000000000000000000000000000000000000000000
        Reg.KEY_SVCNONCE.ctorIdx = false := by decide
    have h (i : Nat) := fr.regs ⟨.KEY_SVCNONCE, i, 0, 0⟩ hb
    simp only [State.regBytes, h]
  refine ⟨keyBase.setRegBytes .KEY_SVCRESP g, ?_, ?_, ?_, ?_⟩
  · rw [hk]; rfl
  · rw [hk]; rfl
  · rw [hk]; rfl
  · rw [regBytes_setRegBytes keyBase .KEY_SVCRESP 4 g hg, State.svcExpected, keyBase_slot _ hk, hn, eg]; rfl

theorem test_wit_StartAndReset_1 :
  (fun (s : State) (d : Bool) => s.sys.phase = .unpowered)
    (State.reset) true ∧
  (fun (s : State) (a : Nat) => 0x200000 ≤ a ∧ a < 0x280000)
    (State.reset) 0x200000 ∧
  (fun (s : State) (c : RstCause) => s.sys.phase ≠ .unpowered ∧ s.sys.phase ≠ .hold)
    sPlain .hostrst ∧
  (fun (s : State) => s.sys.phase ≠ .unpowered ∧ s.sys.phase ≠ .hold)
    sPlain ∧
  (fun (s : State) (h : Half) => s.sys.phase ≠ .unpowered ∧ s.sys.phase ≠ .hold ∧ (s.sys.phase ≠ .parked ∨ s.sys.pollOpen =
      true) ∧ s.halfOk h = true)
    ({ (State.reset.flag FLT_STAT.AOK true) with sys := { (default : SysSt) with phase := .run } }) .A ∧
  (fun (s : State) => s.sys.phase ≠ .unpowered ∧ s.sys.phase ≠ .hold ∧ s.sys.phase ≠ .parked ∧ (s.halfOk .A = true ∨ s.halfOk
      .B = true))
    ({ (State.reset.flag FLT_STAT.AOK true) with sys := { (default : SysSt) with phase := .run } }) ∧
  (fun (s : State) (w : Who) => s.sys.phase ≠ .unpowered ∧ s.sys.phase ≠ .hold ∧ s.hostUp = true)
    sPlain .host ∧
  (fun (s : State) => s.sys.phase ≠ .unpowered ∧ s.sys.phase ≠ .hold ∧ s.bit DOC_WDSTAT.RUN = true)
    ({ (State.reset.flag DOC_WDSTAT.RUN true) with sys := { (default : SysSt) with phase := .run } }) := by
  decide +kernel

theorem test_wit_StartAndReset_2 :
  (fun (s : State) => s.sys.phase = .hold)
    ({ State.reset with sys := { (default : SysSt) with phase := .hold } }) ∧
  (fun (s : State) (p : Nat) => p < 5 ∧ s.sys.phase ≠ .unpowered)
    sPlain 3 ∧
  (fun (s : State) (x : Nat) => x < 93 ∧ (s.out x).timer = true ∧ (s.out x).follow = .vitrine)
    (State.reset.setOut 5 ⟨.vitrine, true, false, true⟩) 5 := by
  decide +kernel

theorem test_wit_StartPhases_1 :
  (fun (s : State) => s.sys.phase = .s1)
    ({ State.reset with sys := { (default : SysSt) with phase := .s1 } }) ∧
  (fun (s : State) => s.sys.phase = .s2)
    ({ State.reset with sys := { (default : SysSt) with phase := .s2 } }) ∧
  (fun (s : State) (fa fb : Nat) => s.sys.phase = .s2 ∧ fa < 16 ∧ fb < 16 ∧ (fa ≠ 0 ∨ fb ≠ 0))
    ({ State.reset with sys := { (default : SysSt) with phase := .s2 } }) 0 15 ∧
  (fun (s : State) => s.sys.phase = .s2fail)
    ({ State.reset with sys := { (default : SysSt) with phase := .s2fail } }) ∧
  (fun (s : State) => s.sys.phase = .s3)
    ({ State.reset with sys := { (default : SysSt) with phase := .s3 } }) ∧
  (fun (s : State) => s.sys.phase = .s4)
    ({ State.reset with sys := { (default : SysSt) with phase := .s4 } }) ∧
  (fun (s : State) (e : Bool) => s.sys.phase = .s5)
    ({ State.reset with sys := { (default : SysSt) with phase := .s5 } }) true ∧
  (fun (s : State) => s.sys.phase = .s6)
    ({ State.reset with sys := { (default : SysSt) with phase := .s6 } }) := by
  decide +kernel

theorem test_wit_StartPhases_2 :
  (fun (s : State) => s.sys.phase = .s7)
    ({ State.reset with sys := { (default : SysSt) with phase := .s7 } }) ∧
  (fun (s : State) => s.sys.phase = .s8)
    ({ State.reset with sys := { (default : SysSt) with phase := .s8 } }) := by
  decide +kernel

theorem test_wit_ModesAndBoundaries_1 :
  (fun (s : State) (w : Who) (code : Nat) => s.hostUp = true ∧ s.sys.phase ≠ .sealed ∧ code < 12 ∧ s.judge code = 1)
    ({ State.reset with sys := { (default : SysSt) with phase := .run }, cat := { (default : CatSt) with cat := { (default : Catalogue) with matrix := [8] } } }.flag SYS_MODE.BUSY false) .host 3 ∧
  (fun (s : State) (p : Pend) => s.sys.pend = some p)
    ({ State.reset with sys := { (default : SysSt) with phase := .run, pend := some ⟨4, 0⟩ } }) ⟨4, 0⟩ ∧
  (fun (s : State) (p : Pend) => s.sys.phase = .run ∧ s.sys.pollOpen = false ∧ s.sys.pend = some p ∧ p.src ≤ 4 ∧ 3 ≤ p.target
      ∧ p.target < 10)
    ({ State.reset with sys := { (default : SysSt) with phase := .run, pend := some ⟨4, 0⟩ } }) ⟨4, 0⟩ ∧
  (fun (s : State) (k : Nat) => s.sys.phase = .run)
    sPlain 1 ∧
  (fun (s : State) => s.sys.phase = .parkDown ∧ s.sys.latched = [])
    ({ State.reset with sys := { (default : SysSt) with phase := .parkDown } }) ∧
  (fun (s : State) (w : Wake) => s.sys.phase = .w2 ∧ s.sys.waking = some w ∧ w.target ≠ 0)
    ({ State.reset with sys := { (default : SysSt) with phase := .w2, waking := some ⟨4, 0, 3⟩ } }) ⟨4, 0, 3⟩ ∧
  (fun (s : State) => s.sys.phase = .w3 ∧ s.wakesToStart = false ∧ s.banksAsleep = [])
    ({ State.reset with sys := { (default : SysSt) with phase := .w3 } }) ∧
  (fun (s : State) (w : Wake) => s.sys.phase = .w4 ∧ s.sys.waking = some w ∧ 3 ≤ w.target ∧ w.target < 10 ∧ s.isPair = false)
    ({ State.reset with sys := { (default : SysSt) with phase := .w4, waking := some ⟨4, 0, 3⟩ } }) ⟨4, 0, 3⟩ := by
  decide +kernel

theorem test_wit_ModesAndBoundaries_2 :
  (fun (s : State) => s.sys.phase = .parked ∧ s.mode = 2 ∧ s.fld SYS_WATCH.POLL ≠ 0 ∧ s.sys.pollOpen = false)
    ((({ State.reset with sys := { (default : SysSt) with phase := .parked } }).put SYS_MODE.MODE 2).put SYS_WATCH.POLL 1) ∧
  (fun (s : State) => s.sys.pollOpen = true ∧ s.sys.pend = none)
    ({ State.reset with sys := { (default : SysSt) with pollOpen := true } }) ∧
  (fun (s : State) (c : Nat) => s.bit DOC_WDSTAT.RUN = true ∧ s.fld DOC_WDCFG.TWMIN * 100000 ≤ s.tb - s.doc.wdStart)
    (State.reset.flag DOC_WDSTAT.RUN true) 0 := by
  decide +kernel

theorem test_wit_WakeSources_1 :
  (fun (s : State) (r : WakeRec) (mv : Nat) => s.mode = 1 ∧ s.sys.phase = .parked ∧ s.sys.pollOpen = false ∧ s.sys.pend = none
      ∧ s.armed 0 0 = some r ∧ rawLevel (s.inp.raw.getLsbD 0) mv (s.fld INP_SGRP.THRL) (s.fld INP_SGRP.THRH) ≠ bitOf (s.fld
          INP_PREF.REF) 0 ∧ s.fld INP_PARK.PDEB = Tbl.get s.sys.pollRun 0 0 + 1)
    ((({ State.reset with sys := { (default : SysSt) with phase := .parked }, cat := { (default : CatSt) with cat := { (default : Catalogue) with annexes := [default, { (default : Annex) with wake := [⟨0, 0, 3, 3⟩] }, { (default : Annex) with wake := [⟨0, 0, 3, 3⟩] }] } } }).put SYS_MODE.MODE 1).put INP_PARK.PDEB 1) ⟨0, 0, 3, 3⟩ 12000 ∧
  (fun (s : State) (p width : Nat) (r : WakeRec) => s.mode = 1 ∧ s.sys.phase = .parked ∧ s.sys.pollOpen = false ∧ s.sys.pend =
      none ∧ p < nCan s.variant ∧ s.armed 1 p = some r ∧ r.param ≤ width)
    (({ State.reset with sys := { (default : SysSt) with phase := .parked }, cat := { (default : CatSt) with cat := { (default : Catalogue) with annexes := [default, { (default : Annex) with wake := [⟨1, 2, 3, 3⟩] }, { (default : Annex) with wake := [⟨1, 2, 3, 3⟩] }] } } }).put SYS_MODE.MODE 1) 2 9 ⟨1, 2, 3, 3⟩ ∧
  (fun (s : State) (p : Nat) (r : WakeRec) (f : CanFrame) => s.mode = 2 ∧ s.sys.phase = .parked ∧ s.sys.pollOpen = false ∧
      s.sys.pend = none ∧ s.armed 2 p = some r ∧ s.filterHit p f r.param = true ∧ s.wakeData p f = true)
    (((({ State.reset with sys := { (default : SysSt) with phase := .parked }, cat := { (default : CatSt) with cat := { (default : Catalogue) with annexes := [default, { (default : Annex) with wake := [⟨2, 0, 3, 0⟩] }, { (default : Annex) with wake := [⟨2, 0, 3, 0⟩] }] } } }).put SYS_MODE.MODE 2).put CAN_FCTL.ACT 1).put CAN_FCTL.FMT 1) 0 ⟨2, 0, 3, 0⟩ ⟨0, false, .classical, false, false, false, 0, 0, 0, 0, false, []⟩ ∧
  (fun (s : State) (p : Nat) (r : WakeRec) => s.mode = 1 ∧ s.sys.phase = .parked ∧ s.sys.pollOpen = false ∧ s.sys.pend = none
      ∧ p < nLin s.variant ∧ s.armed 3 p = some r)
    (({ State.reset with sys := { (default : SysSt) with phase := .parked }, cat := { (default : CatSt) with cat := { (default : Catalogue) with annexes := [default, { (default : Annex) with wake := [⟨3, 1, 3, 3⟩] }, { (default : Annex) with wake := [⟨3, 1, 3, 3⟩] }] } } }).put SYS_MODE.MODE 1) 1 ⟨3, 1, 3, 3⟩ := by
  decide +kernel

theorem test_wit_WakeSources_2 :
  (fun (s : State) (r : WakeRec) => s.mode = 1 ∧ s.sys.phase = .parked ∧ s.sys.pollOpen = false ∧ s.sys.pend = none ∧ s.armed
      4 0 = some r)
    (({ State.reset with sys := { (default : SysSt) with phase := .parked }, cat := { (default : CatSt) with cat := { (default : Catalogue) with annexes := [default, { (default : Annex) with wake := [⟨4, 0, 3, 3⟩] }, { (default : Annex) with wake := [⟨4, 0, 3, 3⟩] }] } } }).put SYS_MODE.MODE 1) ⟨4, 0, 3, 3⟩ ∧
  (fun (s : State) => s.bit TWN_STAT.TWOKI = true ∧ s.asleep = false ∧ s.isPair = true ∧ s.sys.phase = .run ∧ s.isDeputy = true)
    ((({ State.reset with sys := { (default : SysSt) with phase := .run }, cat := { (default : CatSt) with loaded := true, cat := { (default : Catalogue) with pair := true } } }).put TWN_STAT.ROLE 1).flag TWN_STAT.TWOKI true) := by
  decide +kernel

theorem test_wit_SlotWriting :
  (fun (s : State) => s.hostUp = true ∧ s.slotMode = true ∧ s.wst ≠ 1 ∧ s.wst ≠ 3 ∧ s.wst ≠ 6)
    (sPlain.put SYS_MODE.MODE 8) ∧
  (fun (s : State) (a : Nat) => s.wst = 1 ∧ slotBase s.writeSlot ≤ a ∧ a < slotBase s.writeSlot + 0x400000)
    ((sPlain.put SYS_MODE.MODE 8).put CAT_WSTAT.STATE 1) 0x10400000 ∧
  (fun (s : State) (w : Word) => s.hostUp = true ∧ s.slotMode = true ∧ s.wst = 2 ∧ s.cat.wNext < 0x100000)
    ((sPlain.put SYS_MODE.MODE 8).put CAT_WSTAT.STATE 2) 0x12345678 ∧
  (fun (s : State) => s.hostUp = true ∧ s.slotMode = true ∧ s.wst = 2)
    ((sPlain.put SYS_MODE.MODE 8).put CAT_WSTAT.STATE 2) ∧
  (fun (s : State) (e : Bool) => s.wst = 3)
    ((sPlain.put SYS_MODE.MODE 8).put CAT_WSTAT.STATE 3) true ∧
  (fun (s : State) => s.hostUp = true ∧ s.slotMode = true ∧ s.mode = 8 ∧ s.wst = 4)
    ((sPlain.put SYS_MODE.MODE 8).put CAT_WSTAT.STATE 4) ∧
  (fun (s : State) => s.wst = 6)
    ((sPlain.put SYS_MODE.MODE 8).put CAT_WSTAT.STATE 6) ∧
  (fun (s : State) => s.hostUp = true ∧ s.slotMode = true ∧ 0 < s.wst ∧ s.wst < 6)
    ((sPlain.put SYS_MODE.MODE 8).put CAT_WSTAT.STATE 5) := by
  decide +kernel

theorem test_wit_FabricWrites_1 :
  (fun (s : State) (c : Nat) (w : Word) => s.sys.fabricUp = true ∧ s.ctxLive c = true ∧ ext w 9 7 = 0 ∧ ext w 17 15 = 0 ∧ ext
      w 0 9 < nLines s.variant ∧ s.ownsLine c (ext w 0 9) = true)
    (((sUp.put CTXC_STAT.STATE 3 5).put FAB_LSRC.KIND 6 7).put FAB_LSRC.INDEX 5 7) 5 0x10007 ∧
  (fun (s : State) (c g i : Nat) (w : Word) => g < 32 ∧ i < 16 ∧ s.sys.fabricUp = true ∧ s.ctxLive c = true ∧ bitOf (ext w 0
      16) i = true ∧ ((∀ p ∈ lwrgLines g w, p.1 < nLines s.variant ∧ s.ownsLine c p.1 = true)))
    (((sUp.put CTXC_STAT.STATE 3 5).put FAB_LSRC.KIND 6 34).put FAB_LSRC.INDEX 5 34) 5 2 2 0x40004 ∧
  (fun (s : State) (c u : Nat) (w : Word) => s.sys.fabricUp = true ∧ s.ctxLive c = true ∧ u < nPu s.variant ∧ s.fld PU_CFG.SG
      u = 0 ∧ 2 ≤ ext w 0 16 ∧ s.bit PU_PH.OWNED u = true ∧ s.fld PU_PH.OWNER u = c ∧ s.bit PU_STAT.RUN u = false)
    (((sUp.put CTXC_STAT.STATE 3 5).flag PU_PH.OWNED true 9).put PU_PH.OWNER 5 9) 5 9 0x40008 ∧
  (fun (s : State) (c u : Nat) (w : Word) => s.sys.fabricUp = true ∧ s.ctxLive c = true ∧ u < nPu s.variant ∧ s.fld PU_CFG.SG
      u = 0 ∧ 2 ≤ ext w 0 16 ∧ s.bit PU_PH.OWNED u = true ∧ s.fld PU_PH.OWNER u = c ∧ s.bit PU_STAT.RUN u = true)
    ((((sUp.put CTXC_STAT.STATE 3 5).flag PU_PH.OWNED true 9).put PU_PH.OWNER 5 9).flag PU_STAT.RUN true 9) 5 9 0x40008 := by
  decide +kernel

theorem test_wit_FabricWrites_2 :
  (fun (s : State) (u : Nat) => s.sys.fabricUp = true ∧ u < nPu s.variant ∧ s.bit PU_STAT.RUN u = true ∧ s.bit PU_CFG.TICK u =
      false ∧ s.puOneShot u = false ∧ s.bit PU_CFG.GATEEN u = false)
    (sUp.flag PU_STAT.RUN true 9) 9 ∧
  (fun (s : State) (u : Nat) => s.sys.fabricUp = true ∧ u < nPu s.variant ∧ s.bit PU_CFG.GATEEN u = true ∧ s.puGate u = true ∧
      s.fab.gatePrev.getLsbD u = false ∧ s.puOneShot u = true ∧ s.bit PU_STAT.RUN u = false ∧ s.fld PU_PD.PER u ≠ 0)
    (((((({ State.reset with sys := { (default : SysSt) with phase := .run, fabricUp := true }, fab := { (default : FabSt) with lines := 8 } }).flag PU_CFG.GATEEN true 9).put PU_CFG.GATE 3 9).put PU_CFG.MODE 1 9).put PU_PD.PER 100 9).put FAB_LSRC.KIND 1 3) 9 ∧
  (fun (s : State) (r : Nat) (rising : Bool) => s.sys.fabricUp = true ∧ s.fab.edges.contains (r, rising) = true)
    (({ State.reset with sys := { (default : SysSt) with phase := .run, fabricUp := true }, fab := { (default : FabSt) with edges := [(3, true)] } }).put ER_CNT.COUNT 255 3) 3 true := by
  decide +kernel

theorem test_wit_ChannelConduction_1 :
  (fun (s : State) (n : Nat) => hswFitted s.variant n = true ∧ s.hs n = 0 ∧ (s.cmd n).1 = true ∧ s.profileApplies n = false ∧
      s.reversed n = false)
    ((sUp.setHs 3 0).setOut 3 ⟨.vitrine, true, false, true⟩) 3 ∧
  (fun (s : State) (n : Nat) => hswFitted s.variant n = true ∧ s.hs n = 0 ∧ (s.cmd n).1 = true ∧ s.profileApplies n = true ∧
      s.reversed n = false)
    (((sUp.setHs 3 0).setOut 3 ⟨.vitrine, true, false, true⟩).put HSW_INR0.D0 4 3) 3 ∧
  (fun (s : State) (n : Nat) => hswFitted s.variant n = true ∧ s.conducting n = true ∧ (s.cmd n).1 = false ∧ (s.ch
      n).stretching = false ∧ (s.ch (s.leader n)).stretching = false ∧ s.stretchDue (s.leader n) = false)
    (sUp.setHs 3 2) 3 ∧
  (fun (s : State) (n : Nat) => hswFitted s.variant n = true ∧ s.sys.fabricUp = true ∧ s.conducting n = true ∧ (s.cmd n).1 =
      false ∧ (s.ch n).stretching = false ∧ s.forced n = none ∧ (s.out n).follow = .lines ∧ s.stretchDue (s.leader n) = true)
    ((((sUp.setHs 3 2).setOut 3 ⟨.lines, false, false, false⟩).flag HSW_OL.STRETCH true 3).setCh 3
        { (default : HswSt) with shorts := 15 }) 3 ∧
  (fun (s : State) (n iMa : Nat) => hswFitted s.variant n = true ∧ s.hs n = 2 ∧ 92 * s.ilimMa n ≤ 100 * s.sensedMa n iMa)
    (sUp.setHs 3 2) 3 9000 ∧
  (fun (s : State) (n iMa : Nat) => hswFitted s.variant n = true ∧ s.hs n = 3 ∧ 100 * s.sensedMa n iMa < 95 * s.ilimMa n)
    ((sUp.setHs 3 3).put HSW_LIM.ILIM 9 3) 3 100 := by
  decide +kernel

theorem test_wit_ChannelConduction_2 :
  (fun (s : State) (n iMa : Nat) => hswFitted s.variant n = true ∧ s.hs n = 1 ∧ (s.ch n).extended = false ∧ s.sensedMa n iMa ≤
      s.ilimMa n)
    (sUp.setHs 3 1) 3 0 ∧
  (fun (s : State) (n iMa : Nat) => hswFitted s.variant n = true ∧ s.hs n = 1 ∧ (s.ch n).extended = false ∧ s.ilimMa n <
      s.sensedMa n iMa ∧ (s.ch n).droop = false)
    (sUp.setHs 3 1) 3 1 ∧
  (fun (s : State) (n iMa : Nat) => hswFitted s.variant n = true ∧ s.hs n = 1 ∧ (s.ch n).extended = false ∧ s.ilimMa n <
      s.sensedMa n iMa ∧ (s.ch n).droop = true)
    ((sUp.setHs 3 1).setCh 3 { (default : HswSt) with droop := true }) 3 1 ∧
  (fun (s : State) (n iMa : Nat) => hswFitted s.variant n = true ∧ s.hs n = 1 ∧ (s.ch n).extended = true ∧ s.sensedMa n iMa ≤
      s.ilimMa n)
    ((sUp.setHs 3 1).setCh 3 { (default : HswSt) with extended := true }) 3 0 ∧
  (fun (s : State) (n : Nat) => hswFitted s.variant n = true ∧ s.hs n = 1 ∧ (s.ch n).extended = false)
    (sUp.setHs 3 1) 3 := by
  decide +kernel

theorem test_wit_ChannelTrips_1 :
  (fun (s : State) (n iMa : Nat) => hswFitted s.variant n = true ∧ s.grp n = [n] ∧ s.conducting n = true ∧ crossesIsc (iscMa n
      (s.fld HSW_LIM.ISC n)) (s.sensedMa n iMa) = true)
    (sUp.setHs 3 2) 3 200000 ∧
  (fun (s : State) (n iMa : Nat) => hswFitted s.variant n = true ∧ s.grp n = [n] ∧ s.hs n = 3)
    (sUp.setHs 3 3) 3 200000 ∧
  (fun (s : State) (n iMa : Nat) => hswFitted s.variant n = true ∧ s.grp n = [n] ∧ s.hs n = 1 ∧ (s.ch n).extended = true ∧
      s.ilimMa n < s.sensedMa n iMa)
    ((sUp.setHs 3 1).setCh 3 { (default : HswSt) with extended := true }) 3 1 ∧
  (fun (s : State) (n : Nat) (x : HotOutput) => hswFitted s.variant n = true ∧ s.grp n = [n] ∧ s.canTrip n = true ∧ s.hs n ≠ 5)
    (sUp.setHs 3 2) 3 ⟨350, ⟨0, 0⟩, false⟩ ∧
  (fun (s : State) (n dt : Nat) (tj : Int) => hswFitted s.variant n = true ∧ s.grp n = [n] ∧ s.canTrip n = true ∧ s.hs n ≠ 1 ∧
      s.hs n ≠ 5 ∧ 40 + 10 * s.fld HSW_TIME.DTTRIP n ≤ dt)
    (sUp.setHs 3 2) 3 60 200 ∧
  (fun (s : State) (n iMa : Nat) => hswFitted s.variant n = true ∧ s.conducting n = false ∧ istuckMa n < s.sensedMa n iMa)
    (sUp.setHs 3 0) 3 2000 ∧
  (fun (s : State) (n : Nat) => hswFitted s.variant n = true)
    (State.reset) 3 := by
  decide +kernel

theorem test_wit_ChannelTrips_2 :
  (fun (s : State) (n p iMa voutMv dt : Nat) (tj : Int) => hswFitted s.variant n = true ∧ s.sys.fabricUp = true ∧ s.leader n =
      n ∧ s.hs n ≠ 6 ∧ s.trips = [] ∧ s.wireOff n = true)
    (sUp.setHs 3 2) 3 100 2000 12000 5 90 ∧
  (fun (s : State) (n iMa : Nat) => hswFitted s.variant n = true ∧ s.sys.fabricUp = true ∧ s.leader n = n ∧ s.conducting n =
      true ∧ s.diagBarred n = false ∧ s.fld HSW_OL.OLTH n ≠ 0 ∧ s.fld HSW_OL.OLTH n ≤ iMa ∧ (s.ch n).stretching = false)
    ((sUp.setHs 3 2).put HSW_OL.OLTH 1 3) 3 50 := by
  decide +kernel

theorem test_wit_RecoveryAndClamp_1 :
  (fun (s : State) (n : Nat) => slotFitted s.variant n = true ∧ (s.trip? n).on = true ∧ (s.trip? n).cond = false)
    ((sUp.setHs 3 4).setTrip 3 ⟨true, 3, false, false, false, false⟩) 3 ∧
  (fun (s : State) (n : Nat) => hswFitted s.variant n = true ∧ (s.trip? n).on = true ∧ s.grp n = [n] ∧ s.hs n = 4 ∧ (s.trip?
      n).kind = 3 ∧ (s.trip? n).retry = true ∧ s.fld HSW_CFG.RECOV n = 0 ∧ (s.cmd n).1 = false ∧ s.twinned n = false)
    ((sUp.setHs 3 4).setTrip 3 ⟨true, 3, false, true, false, false⟩) 3 ∧
  (fun (s : State) (n : Nat) => hswFitted s.variant n = true ∧ (s.hs n = 2 ∨ s.hs n = 3))
    (sUp.setHs 3 2) 3 ∧
  (fun (s : State) (w : Who) (n : Nat) => hswFitted s.variant n = true ∧ (s.trip? n).on = false ∧ s.reaches w 4 = true)
    (sUp.setHs 3 2) .host 3 ∧
  (fun (s : State) (w : Who) (n : Nat) => hswFitted s.variant n = true ∧ s.grp n = [n] ∧ s.hs n = 4 ∧ (s.trip? n).on = true ∧
      (s.trip? n).cond = true ∧ (s.trip? n).hot = false ∧ (s.trip? n).retry = true ∧ s.fld HSW_CFG.RECOV n = 2 ∧ (s.cmd n).1 =
          false ∧ s.twinned n = false ∧ (s.coilAt n).toTrip = false ∧ s.reaches w 4 = true)
    (((sUp.setHs 3 4).setTrip 3 ⟨true, 3, true, true, false, false⟩).put HSW_CFG.RECOV 2 3) .host 3 ∧
  (fun (s : State) (n mJ : Nat) => hswFitted s.variant n = true)
    (sUp.setHs 3 2) 3 44 := by
  decide +kernel

theorem test_wit_RecoveryAndClamp_2 :
  (fun (s : State) (n : Nat) => hswFitted s.variant n = true ∧ s.bit HSW_CFG.ALOCK n = true)
    (((sUp.setHs 3 5).flag HSW_CFG.ALOCK true 3).setLock 3 true) 3 ∧
  (fun (s : State) (w : Who) (n : Nat) => hswFitted s.variant n = true ∧ s.missing n = 0 ∧ s.reaches w 4 = true)
    (sUp.setLock 33 true) .host 33 := by
  decide +kernel

theorem test_wit_BridgeDrive_1 :
  (fun (s : State) (b : Nat) => hbrFitted s.variant b = true ∧ s.hb b = 0 ∧ (s.cmd (48 + b)).1 = true ∧ (s.br b).drove = false
      ∧ s.reversed (48 + b) = false)
    ((sUp.setHb 5 0).setOut 53 ⟨.vitrine, true, true, true⟩) 5 ∧
  (fun (s : State) (b : Nat) => hbrFitted s.variant b = true ∧ s.hb b = 1 ∧ (s.cmd (48 + b)).1 = false ∧ (s.br b).limBrake =
      false ∧ s.reversed (48 + b) = false)
    (sUp.setHb 5 1) 5 ∧
  (fun (s : State) (b : Nat) => hbrFitted s.variant b = true ∧ s.hb b = 1 ∧ s.br b =
      { (default : HbrSt) with mode := .drive, drove := true } ∧ (s.cmd (48 + b)) = (true, true) ∧ s.fld HBR_CFG.TREV b ≠ 0 ∧
          s.reversed (48 + b) = false)
    ((((sUp.setHb 5 1).setOut 53 ⟨.vitrine, true, true, true⟩).setBr 5
        { (default : HbrSt) with mode := .drive, drove := true }).put HBR_CFG.TREV 3 5) 5 ∧
  (fun (s : State) (b : Nat) => hbrFitted s.variant b = true ∧ (s.br b).mode = .brakeLow ∧ (s.br b).limBrake = false ∧ (s.br
      b).drove = true ∧ (s.br b).revWait = true ∧ s.reversed (48 + b) = false)
    (((sUp.setHb 5 1).setOut 53 ⟨.vitrine, true, true, true⟩).setBr 5
        { (default : HbrSt) with mode := .brakeLow, drove := true, revWait := true }) 5 ∧
  (fun (s : State) (b iMa : Nat) => hbrFitted s.variant b = true ∧ s.hbrRunning b = true ∧ (s.br b).mode = .drive ∧ 92 *
      s.hbLimMa b ≤ 100 * s.sensedMa (48 + b) iMa ∧ s.reversed (48 + b) = false)
    ((sUp.setHb 5 1).setBr 5 { (default : HbrSt) with mode := .drive }) 5 4000 := by
  decide +kernel

theorem test_wit_BridgeDrive_2 :
  (fun (s : State) (b : Nat) => hbrFitted s.variant b = true ∧ s.hb b = 2 ∧ (s.br b).limBrake = true ∧ s.reversed (48 + b) =
      false)
    ((sUp.setHb 5 2).setBr 5 { (default : HbrSt) with mode := .brakeLow, limBrake := true }) 5 ∧
  (fun (s : State) (b : Nat) => hbrFitted s.variant b = true ∧ s.hb b = 2 ∧ (s.br b).limBrake = false)
    (sUp.setHb 5 2) 5 ∧
  (fun (s : State) (b iMa : Nat) => hbrFitted s.variant b = true ∧ s.hb b = 2)
    (sUp.setHb 5 2) 5 4000 ∧
  (fun (s : State) (b iMa : Nat) => hbrFitted s.variant b = true ∧ ((s.br b).mode = .brakeLow ∨ (s.br b).mode = .brakeHigh) ∧
      (s.br b).ocCoast = false ∧ s.hbLimMa b < s.sensedMa (48 + b) iMa)
    ((sUp.setHb 5 0).setBr 5 { (default : HbrSt) with mode := .brakeHigh }) 5 4000 ∧
  (fun (s : State) (b sw iMa : Nat) => hbrFitted s.variant b = true ∧ (s.br b).mode ≠ .coast ∧ (s.br b).ocCoast = false ∧
      s.canTrip (48 + b) = true ∧ crossesIsc (hbIscMa b (s.fld HBR_LIM.ISC b)) (s.sensedMa (48 + b) iMa) = true)
    ((sUp.setHb 5 1).setBr 5 { (default : HbrSt) with mode := .drive }) 5 1 90000 := by
  decide +kernel

theorem test_wit_BridgePosition_1 :
  (fun (s : State) (b iMa : Nat) => hbrFitted s.variant b = true ∧ s.hb b = 1 ∧ s.fld HBR_OL.OLTH b ≠ 0 ∧ s.diagBarred (48 +
      b) = false)
    ((sUp.setHb 5 1).put HBR_OL.OLTH 4 5) 5 20 ∧
  (fun (s : State) (b tk iMa ampMa inHz : Nat) (d : Bool) => hbrFitted s.variant b = true ∧ s.fld HBR_MON.SRC b = 3 ∧ s.bit
      HBR_PINCH.PEN b = false)
    ((sUp.setHb 5 1).put HBR_MON.SRC 3 5) 5 900000 10 10 0 true ∧
  (fun (s : State) (b cause : Nat) => hbrFitted s.variant b = true ∧ s.fld HBR_MON.SRC b = 3 ∧ (cause = 1 ∨ (cause = 2 ∧ 4 ≤
      (s.br b).against)))
    ((sUp.setHb 5 1).put HBR_MON.SRC 3 5) 5 1 ∧
  (fun (s : State) (b : Nat) => hbrFitted s.variant b = true ∧ s.pinchArmed b = true ∧ (s.br b).exceeded = false ∧ s.fld
      HBR_PINCH.PCNT b ≤ (s.br b).run + 1 ∧ s.reversed (48 + b) = false)
    (((sUp.setHb 5 1).setBr 5 { (default : HbrSt) with mode := .drive, counts := 2 }).flag HBR_PINCH.PEN true 5) 5 ∧
  (fun (s : State) (b iMa : Nat) => hbrFitted s.variant b = true ∧ s.hbrRunning b = true ∧ s.fld HBR_STALL.ISTALL b ≠ 0 ∧
      s.fld HBR_STALL.ISTALL b * hbStep b ≤ s.sensedMa (48 + b) iMa ∧ s.reversed (48 + b) = false)
    ((sUp.setHb 5 1).put HBR_STALL.ISTALL 4 5) 5 9000 ∧
  (fun (s : State) (b : Nat) => hbrFitted s.variant b = true ∧ s.hb b = 3 ∧ (s.br b).stopOver = false ∧ (s.cmd (48 + b)).1 =
      false)
    (sUp.setHb 5 3) 5 ∧
  (fun (s : State) (w : Who) (b : Nat) (x : Word) => hbrFitted s.variant b = true ∧ s.legalWrite w .HBR_TGT x = true ∧
      s.rwsBarred w ⟨.HBR_TGT, b, 0, 0⟩ x = false ∧ s.hbrRunning b = false ∧ s.reaches w 5 = true)
    (sUp.setHb 5 0) .host 5 1 := by
  decide +kernel

theorem test_wit_BridgePosition_2 :
  (fun (s : State) (w : Who) (b : Nat) (x : Word) => hbrFitted s.variant b = true ∧ s.legalWrite w .HBR_POSSET x = true ∧
      s.rwsBarred w ⟨.HBR_POSSET, b, 0, 0⟩ x = false ∧ s.reaches w 5 = true)
    (sUp.setHb 5 0) .host 5 0x1234 ∧
  (fun (s : State) (w : Who) (b : Nat) => hbrFitted s.variant b = true ∧ (s.trip? (48 + b)).on = false ∧ s.reaches w 5 = true)
    ((sUp.setHb 5 0).put HBR_STAT.RETRIES 3 5) .host 5 ∧
  (fun (s : State) (w : Who) (b : Nat) => hbrFitted s.variant b = true ∧ s.hb b = 3 ∧ (s.br b).stopOver = true ∧ (s.cmd (48 +
      b)).1 = false ∧ s.reaches w 5 = true)
    ((sUp.setHb 5 3).setBr 5 { (default : HbrSt) with stopOver := true }) .host 5 ∧
  (fun (s : State) (w : Who) (b : Nat) (x : Word) => hbrFitted s.variant b = true ∧ s.legalWrite w .HBR_SFLT x = true ∧
      s.rwsBarred w ⟨.HBR_SFLT, b, 0, 0⟩ x = false ∧ ext x 0 12 ≠ 0 ∧ s.reaches w 5 = true)
    (sUp.setHb 5 0) .host 5 0x777 := by
  decide +kernel

theorem test_wit_ValveActivation_1 :
  (fun (s : State) (v : Nat) => vlvFitted s.variant v = true ∧ (s.cmd (60 + v)).1 = true ∧ s.vlv v = 0 ∧ (s.vhs (v / 4) = 0 ∨
      s.vhs (v / 4) = 1) ∧ (s.coilAt (60 + v)).toTrip = false ∧ (s.coilAt (60 + v)).toDis = false ∧ (s.coilAt (60 + v)).minRun
          = false ∧ (s.cmd (72 + v / 4)).1 = true ∧ s.holdSum (v / 4) [1, 2, 3] + s.fld VLV_PROF.IHOLD v ≤ 400)
    (((sUp.put VLV_STAT.STATE 0 2).setOut 62 ⟨.vitrine, true, false, true⟩).setOut 72 ⟨.vitrine, true, false, true⟩) 2 ∧
  (fun (s : State) (v : Nat) => vlvFitted s.variant v = true ∧ (s.cmd (60 + v)).1 = true ∧ s.vlv v = 0 ∧ (s.coilAt (60 +
      v)).toTrip = false ∧ (s.coilAt (60 + v)).toDis = false ∧ (s.coilAt (60 + v)).minRun = false ∧ s.vhs (v / 4) ≠ 2 ∧ (s.cmd
          (72 + v / 4)).1 = false)
    ((sUp.put VLV_STAT.STATE 0 2).setOut 62 ⟨.vitrine, true, false, true⟩) 2 ∧
  (fun (s : State) (v : Nat) (r : Bool) => vlvFitted s.variant v = true ∧ (s.cmd (60 + v)).1 = false ∧ s.vhs (v / 4) ≠ 2 ∧
      (s.vlv v = 2 ∨ s.vlv v = 3))
    (sUp.put VLV_STAT.STATE 3 2) 2 false ∧
  (fun (s : State) (v : Nat) (r : Bool) => vlvFitted s.variant v = true ∧ (s.cmd (60 + v)).1 = false ∧ s.vhs (v / 4) ≠ 2 ∧
      s.vlv v = 1)
    (sUp.put VLV_STAT.STATE 1 2) 2 false := by
  decide +kernel

theorem test_wit_ValveActivation_2 :
  (fun (s : State) (v tbw : Nat) => vlvFitted s.variant v = true ∧ s.firstWaiting (v / 4) = some v ∧ s.inStates (v / 4) [2] =
      [] ∧ (s.coilAt (60 + v)).peak + s.holdSum (v / 4) [3] ≤ 400 ∧ (s.vhs (v / 4) = 0 ∨ s.vhs (v / 4) = 1) ∧ s.reversed (60 +
          v) = false)
    (sUp.put VLV_STAT.STATE 1 2) 2 60 ∧
  (fun (s : State) (v iMa : Nat) => vlvFitted s.variant v = true ∧ s.vlv v = 2)
    (sUp.put VLV_STAT.STATE 2 2) 2 900 ∧
  (fun (s : State) (v iMa : Nat) => vlvFitted s.variant v = true ∧ s.vlv v = 2 ∧ (s.coilAt (60 + v)).rep0 = false)
    (sUp.put VLV_STAT.STATE 2 2) 2 900 ∧
  (fun (s : State) (v : Nat) => vlvFitted s.variant v = true ∧ s.vlv v = 1)
    (sUp.put VLV_STAT.STATE 1 2) 2 ∧
  (fun (s : State) (v : Nat) => vlvFitted s.variant v = true ∧ s.vlv v = 4 ∧ (s.coilAt (60 + v)).toTrip = false ∧ (s.coilAt
      (60 + v)).toDis = false)
    (sUp.put VLV_STAT.STATE 4 2) 2 ∧
  (fun (s : State) (v : Nat) => vlvFitted s.variant v = true ∧ s.vlv v = 6 ∧ (s.coilAt (60 + v)).minRun = true ∧ s.bit
      VLV_STAT.QUEUED v = false)
    ((sUp.put VLV_STAT.STATE 6 2).setCoil 62 { (default : CoilSt) with minRun := true }) 2 := by
  decide +kernel

theorem test_wit_CoilMonitoring :
  (fun (s : State) (v iMa : Nat) => vlvFitted s.variant v = true ∧ s.vlv v = 2 ∧ s.sensedMa (60 + v) iMa < 50)
    (sUp.put VLV_STAT.STATE 2 2) 2 40 ∧
  (fun (s : State) (v iMa : Nat) => vlvFitted s.variant v = true ∧ s.vlv v = 3 ∧ (s.coilAt (60 + v)).rep1 = false)
    (sUp.put VLV_STAT.STATE 3 2) 2 40 ∧
  (fun (s : State) (v vr duty vf iMa : Nat) (tj : Int) => vlvFitted s.variant v = true ∧ s.fld VLV_COIL.RREF v = 0 ∧ (s.trip?
      (60 + v)).on = false)
    (sUp.put VLV_STAT.STATE 3 2) 2 12000 400 700 900 50 ∧
  (fun (s : State) (v iMa mJ : Nat) => vlvFitted s.variant v = true ∧ (s.vlv v = 2 ∨ s.vlv v = 3) ∧ crossesIsc (s.coilIsc
      (60 + v) false) (s.sensedMa (60 + v) iMa) = true)
    (sUp.put VLV_STAT.STATE 3 2) 2 19000 0 ∧
  (fun (s : State) (w : Who) (v : Nat) => vlvFitted s.variant v = true ∧ (s.trip? (60 + v)).on = false ∧ s.reaches w 6 = true)
    ((sUp.put VLV_STAT.STATE 3 2).put VLV_STAT.RETRIES 5 2) .host 2 := by
  decide +kernel

theorem test_wit_BanksAndContactors_1 :
  (fun (s : State) (k m : Nat) => vhsFitted s.variant k = true ∧ (s.cmd (72 + k)).1 = false ∧ s.vhs k = 1)
    (sUp.put VHS_STAT.STATE 1) 0 0 ∧
  (fun (s : State) (k iMax mJ : Nat) => vhsFitted s.variant k = true ∧ s.vhs k = 2 ∧ iMax < 50 ∧ s.bank.toDis.contains k =
      false ∧ (s.cmd (72 + k)).1 = false)
    (sUp.put VHS_STAT.STATE 2) 0 0 0 ∧
  (fun (s : State) (k : Nat) => vhsFitted s.variant k = true ∧ (s.cmd (72 + k)).1 = true)
    (sUp.setOut 72 ⟨.vitrine, true, false, true⟩) 0 ∧
  (fun (s : State) (k iMa : Nat) (tj : Int) => vhsFitted s.variant k = true ∧ s.canTrip (72 + k) = true ∧ (s.vhs k = 1 ∨ s.vhs
      k = 2) ∧ crossesIsc (40000 + 20000 * s.fld VHS_CFG.ISC k) (s.sensedMa (72 + k) iMa) = true)
    (sUp.put VHS_STAT.STATE 1) 0 190000 50 ∧
  (fun (s : State) (c : Nat) => ctdFitted s.variant c = true ∧ (s.cmd (75 + c)).1 = true ∧ s.ctd c = 0 ∧ s.bit CTD_STAT.LOCK c
      = false ∧ s.reversed (75 + c) = false)
    ((sUp.put CTD_STAT.STATE 0).setOut 75 ⟨.vitrine, true, false, true⟩) 0 ∧
  (fun (s : State) (c : Nat) (r : Bool) => ctdFitted s.variant c = true ∧ (s.cmd (75 + c)).1 = false ∧ (s.ctd c = 1 ∨ s.ctd c
      = 2))
    (sUp.put CTD_STAT.STATE 2) 0 false ∧
  (fun (s : State) (c iMa : Nat) => ctdFitted s.variant c = true ∧ s.ctd c = 1)
    (sUp.put CTD_STAT.STATE 1) 0 800 ∧
  (fun (s : State) (c iMa mJ : Nat) => ctdFitted s.variant c = true ∧ s.ctd c = 3 ∧ (s.coilAt (75 + c)).hOpen = false ∧
      (s.coilAt (75 + c)).toTrip = false ∧ (s.coilAt (75 + c)).toDis = false ∧ iMa < 50)
    (sUp.put CTD_STAT.STATE 3) 0 49 0 := by
  decide +kernel

theorem test_wit_BanksAndContactors_2 :
  (fun (s : State) (c : Nat) => ctdFitted s.variant c = true ∧ s.bit CTD_AUX.AUXEN c = true ∧ s.ctd c = 2)
    ((sUp.put CTD_STAT.STATE 2).flag CTD_AUX.AUXEN true) 0 := by
  decide +kernel

theorem test_wit_LedChannels_1 :
  (fun (s : State) (w : Who) (i : Nat) (x : Word) => ledFitted s.variant i = true ∧ s.legalWrite w .LED_LVL x = true ∧
      s.rwsBarred w ⟨.LED_LVL, i, 0, 0⟩ x = false ∧ s.reaches w 7 = true)
    ((sUp.setLs 4 1).flag LED_CFG.EN true 4) .host 4 0x100 ∧
  (fun (s : State) (i : Nat) => ledFitted s.variant i = true ∧ s.bit LED_CFG.EN i = true)
    (((sUp.setLs 4 1).flag LED_CFG.EN true 4).put LED_LVL.LVLB 700 4) 4 ∧
  (fun (s : State) (i d : Nat) => ledFitted s.variant i = true ∧ s.sys.fabricUp = true ∧ (s.lx i).duty = some d ∧ s.bit
      PU_STAT.RUN (s.fld LED_CFG.PU i) = true ∧ s.fld PU_CFG.SG (s.fld LED_CFG.PU i) = 0 ∧ s.ls i ≤ 2)
    (((sUp.setLs 4 2).setLx 4 { (default : LedSt) with duty := some 55 }).flag PU_STAT.RUN true) 4 55 ∧
  (fun (s : State) (i v : Nat) => ledFitted s.variant i = true ∧ s.ledOn i = true ∧ v < 1000 ∧ s.diagBarred (77 + i) = false)
    ((sUp.setLs 4 1).setOut 81 ⟨.vitrine, true, false, true⟩) 4 500 ∧
  (fun (s : State) (i iUa v f : Nat) => ledFitted s.variant i = true ∧ s.ledOn i = true ∧ s.sys.fabricUp = true ∧ s.diagBarred
      (77 + i) = false ∧ s.bit LED_DIAG.OSEN i = true ∧ s.ledUa i ≤ 2 * s.sensedUa i iUa)
    (((sUp.setLs 4 1).setOut 81 ⟨.vitrine, true, false, true⟩).flag LED_DIAG.OSEN true 4) 4 90000 8000 12000 ∧
  (fun (s : State) (i v : Nat) => ledFitted s.variant i = true ∧ s.sys.fabricUp = true ∧ s.ls i = 2 ∧ s.ledOn i = true ∧ s.fld
      LED_DIAG.SHTH i ≠ 0 ∧ s.diagBarred (77 + i) = false ∧ 20 * s.fld LED_DIAG.VNOM i ≤ v + 100 * s.fld LED_DIAG.SHTH i)
    (((sUp.setLs 4 2).setOut 81 ⟨.vitrine, true, false, true⟩).put LED_DIAG.SHTH 3 4) 4 9000 := by
  decide +kernel

theorem test_wit_LedChannels_2 :
  (fun (s : State) (i iUa : Nat) => ledFitted s.variant i = true ∧ s.ls i = 1 ∧ s.ledOn i = true ∧ s.dacOff i (s.sensedUa i
      iUa) = true ∧ s.bit LED_STAT.DACFAIL i = false)
    ((sUp.setLs 4 1).setOut 81 ⟨.vitrine, true, false, true⟩) 4 5000 ∧
  (fun (s : State) (i iUa : Nat) => ledFitted s.variant i = true ∧ s.ledOn i = false ∧ (s.lx i).testDue = true ∧ s.bit
      LED_STAT.DACFAIL i = false)
    ((sUp.setLs 4 0).setLx 4 { (default : LedSt) with testDue := true }) 4 0 ∧
  (fun (s : State) (w : Who) (i : Nat) => ledFitted s.variant i = true ∧ (s.trip? (77 + i)).on = false ∧ s.reaches w 7 = true)
    (sUp.setLs 4 1) .host 4 ∧
  (fun (s : State) (w : Who) (i : Nat) => ledFitted s.variant i = true ∧ s.reaches w 7 = true)
    (sUp.setLs 4 1) .host 4 ∧
  (fun (s : State) (i : Nat) => ledFitted s.variant i = true ∧ (s.lx i).retest = true ∧ s.ledOn i = false)
    (((sUp.setLs 4 0).setLx 4 { (default : LedSt) with retest := true }).flag LED_STAT.DACFAIL true 4) 4 ∧
  (fun (s : State) (g mv vs : Nat) => lgFitted s.variant g = true ∧ s.bit LG_NTC2.EN g = true ∧ s.ainValid (s.fld LG_NTC2.AIN
      g) = true ∧ 50 * s.ainReads (s.fld LG_NTC2.AIN g) mv vs < 4095)
    (({ State.reset with sys := { (default : SysSt) with phase := .run, fabricUp := true }, inp := { (default : InpSt) with upd := [(0, 5)] } }).flag LG_NTC2.EN true 2) 2 0 5000 ∧
  (fun (s : State) (g mv vs : Nat) => lgFitted s.variant g = true ∧ s.bit LG_NTC2.EN g = true ∧ s.ainValid (s.fld LG_NTC2.AIN
      g) = true ∧ 49 * 4095 < 50 * s.ainReads (s.fld LG_NTC2.AIN g) mv vs)
    (({ State.reset with sys := { (default : SysSt) with phase := .run, fabricUp := true }, inp := { (default : InpSt) with upd := [(0, 5)] } }).flag LG_NTC2.EN true 2) 2 5000 5000 ∧
  (fun (s : State) (g mv vs : Nat) => lgFitted s.variant g = true ∧ s.bit LG_NTC2.EN g = true ∧ s.ainValid (s.fld LG_NTC2.AIN
      g) = true ∧ 4095 ≤ 50 * s.ainReads (s.fld LG_NTC2.AIN g) mv vs ∧ 50 * s.ainReads (s.fld LG_NTC2.AIN g) mv vs ≤ 49 * 4095)
    (({ State.reset with sys := { (default : SysSt) with phase := .run, fabricUp := true }, inp := { (default : InpSt) with upd := [(0, 5)] } }).flag LG_NTC2.EN true 2) 2 2500 5000 := by
  decide +kernel

theorem test_wit_LightingChains :
  (fun (s : State) (n : Nat) => s.lchUp n = true ∧ s.lcs n = 2 ∧ (s.lc n).busy = false ∧ s.bit LCH_STAT.SWPEND n = true)
    (((sUp.flag LCH_CFG.EN true 1).put LCH_STAT.STATE 2 1).flag LCH_STAT.SWPEND true 1) 1 ∧
  (fun (s : State) (n : Nat) (ret : List (List Byte)) => s.lchUp n = true ∧ s.lcs n = 2 ∧ (s.lc n).busy = true ∧ (s.lc
      n).unchecked = true)
    (((sUp.flag LCH_CFG.EN true 1).put LCH_STAT.STATE 2 1).setLc 1 { (default : LchSt) with busy := true, unchecked := true })
        1 [] ∧
  (fun (s : State) (n : Nat) => s.lchUp n = true ∧ s.lcs n = 2 ∧ (s.lc n).busy = true)
    (((sUp.flag LCH_CFG.EN true 1).put LCH_STAT.STATE 2 1).setLc 1 { (default : LchSt) with busy := true }) 1 ∧
  (fun (s : State) (w : Who) (n : Nat) => lchFitted s.variant n = true ∧ s.reaches w 8 = true)
    ((sUp.flag LCH_CFG.EN true 1).put LCH_STAT.STATE 2 1) .host 1 ∧
  (fun (s : State) (w : Who) (n : Nat) => s.lchUp n = true ∧ s.reaches w 8 = true)
    ((sUp.flag LCH_CFG.EN true 1).put LCH_STAT.STATE 2 1) .host 1 ∧
  (fun (s : State) (n d : Nat) => s.lchUp n = true ∧ s.lcs n = 1)
    ((sUp.flag LCH_CFG.EN true 1).put LCH_STAT.STATE 1 1) 1 77 ∧
  (fun (s : State) (n d : Nat) => s.lchUp n = true ∧ s.lcs n = 1)
    ((sUp.flag LCH_CFG.EN true 1).put LCH_STAT.STATE 1 1) 1 77 ∧
  (fun (s : State) (n : Nat) => s.lchUp n = true ∧ (s.lcs n = 3 ∨ s.lcs n = 4))
    ((sUp.flag LCH_CFG.EN true 1).put LCH_STAT.STATE 4 1) 1 := by
  decide +kernel

theorem test_wit_Inputs :
  (fun (s : State) (g mv : Nat) => s.sys.fabricUp = true ∧ sinFitted s.variant (8 * g) = true ∧ s.inp.sampled.getLsbD (8 * g)
      = false)
    sUp 2 9000 ∧
  (fun (s : State) (j mv vs : Nat) => s.sys.fabricUp = true ∧ ainFitted s.variant j = true ∧ 4 ≤ Tbl.get s.inp.upd j 0 ∧
      s.inp.ovl = 0)
    ({ State.reset with sys := { (default : SysSt) with phase := .run, fabricUp := true }, inp := { (default : InpSt) with upd := [(3, 4)] } }) 3 2500 5000 ∧
  (fun (s : State) (j : Nat) => s.sys.fabricUp = true ∧ ainFitted s.variant j = true ∧ s.fld AIN_VAL.VAL j = 4095 ∧
      s.inp.overRep.getLsbD j = false)
    (sUp.put AIN_VAL.VAL 4095 3) 3 ∧
  (fun (s : State) (u mv : Nat) => s.supOn u = true ∧ s.inp.ovl.getLsbD u = false)
    (sUp.flag INP_SUPCFG.ENH true) 2 3000 ∧
  (fun (s : State) (u : Nat) => u < 3)
    ({ State.reset with sys := { (default : SysSt) with phase := .run, fabricUp := true }, inp := { (default : InpSt) with ovl := 7 } }) 2 ∧
  (fun (s : State) (h : Nat) => s.sys.fabricUp = true ∧ hallFitted s.variant h = true ∧ s.fld HALL_CFG.MODE h = 1)
    (sUp.put HALL_CFG.MODE 1 2) 2 ∧
  (fun (s : State) (h i : Nat) => s.sys.fabricUp = true ∧ hallFitted s.variant h = true ∧ s.fld HALL_CFG.MODE h = 2 ∧ i < 20)
    (sUp.put HALL_CFG.MODE 2 2) 2 19 ∧
  (fun (s : State) (h i : Nat) => s.sys.fabricUp = true ∧ hallFitted s.variant h = true ∧ s.fld HALL_CFG.MODE h = 2 ∧ 250 < i)
    (sUp.put HALL_CFG.MODE 2 2) 2 251 := by
  decide +kernel

theorem test_wit_CoreArithmetic :
  (fun (s : State) (c d : Nat) (g : Nat) (v : Word) (lost : Bool) => s.freeToIssue c d = true ∧ (s.rcd c).pc ≤ 0x1FFFC ∧ g <
      32 ∧ decodeMoves (s.word (0x400000 + 0x20000 * d + (s.rcd c).pc)) = ([⟨0, g, some v, 0⟩], true))
    ((((({ State.reset with sys := { (default : SysSt) with phase := .run, fabricUp := true }, doc := { (default : DocSt) with ctxs := [(9, { (default : Ctx) with rcd := { (default : CtxRec) with pc := 64 } })] }, mem := [(0x420040, 0x2A), (0x420041, 0), (0x420042, 0x78), (0x420043, 0)] }).put DOC_STAT.STATE 2 1).put DOC_STAT.CTX 9 1).put CTXC_STAT.STATE 4 9).put CTXC_STAT.CORE 1 9) 9 1 7 42 false ∧
  (fun (s : State) (c d : Nat) (lost : Bool) => s.freeToIssue c d = true ∧ (s.rcd c).pc ≤ 0x1FFFC ∧ (decodeMoves (s.word
      (0x400000 + 0x20000 * d + (s.rcd c).pc))).2 = false)
    ((((({ State.reset with sys := { (default : SysSt) with phase := .run, fabricUp := true }, doc := { (default : DocSt) with ctxs := [(9, { (default : Ctx) with rcd := { (default : CtxRec) with pc := 64 } })] }, mem := [(0x420040, 1), (0x420041, 2), (0x420042, 0x10), (0x420043, 0)] }).put DOC_STAT.STATE 2 1).put DOC_STAT.CTX 9 1).put CTXC_STAT.STATE 4 9).put CTXC_STAT.CORE 1 9) 9 1 false ∧
  (fun (s : State) (c d : Nat) (p : Nat) (b : Word) => s.freeToIssue c d = true ∧ 0x022 ≤ p ∧ p ≤ 0x03F)
    ((((({ State.reset with sys := { (default : SysSt) with phase := .run, fabricUp := true }, doc := { (default : DocSt) with ctxs := [(9, { (default : Ctx) with rcd := { (default : CtxRec) with pc := 64, ports := [(32, 7)] } })] } }).put DOC_STAT.STATE 2 1).put DOC_STAT.CTX 9 1).put CTXC_STAT.STATE 4 9).put CTXC_STAT.CORE 1 9) 9 1 0x023 5 ∧
  (fun (s : State) (c d : Nat) (p : Nat) (b : Word) => s.freeToIssue c d = true ∧ 0x043 ≤ p ∧ p ≤ 0x045)
    ((((({ State.reset with sys := { (default : SysSt) with phase := .run, fabricUp := true }, doc := { (default : DocSt) with ctxs := [(9, { (default : Ctx) with rcd := { (default : CtxRec) with pc := 64, ports := [(64, 7)] } })] } }).put DOC_STAT.STATE 2 1).put DOC_STAT.CTX 9 1).put CTXC_STAT.STATE 4 9).put CTXC_STAT.CORE 1 9) 9 1 0x043 5 ∧
  (fun (s : State) (c d : Nat) (p : Nat) (b : Word) => s.freeToIssue c d = true ∧ (p = 0x046 ∨ p = 0x047))
    ((((({ State.reset with sys := { (default : SysSt) with phase := .run, fabricUp := true }, doc := { (default : DocSt) with ctxs := [(9, { (default : Ctx) with rcd := { (default : CtxRec) with pc := 64, ports := [(64, 7)] } })] } }).put DOC_STAT.STATE 2 1).put DOC_STAT.CTX 9 1).put CTXC_STAT.STATE 4 9).put CTXC_STAT.CORE 1 9) 9 1 0x047 5 ∧
  (fun (s : State) (c : Nat) (v : DivOp) => (s.ctx c).div = some v)
    ({ State.reset with doc := { (default : DocSt) with ctxs := [(9, { (default : Ctx) with div := some ⟨true, 9, 2⟩ })] } })
        9 ⟨true, 9, 2⟩ ∧
  (fun (s : State) (c d : Nat) (p : Nat) (b : Word) => s.freeToIssue c d = true ∧ 0x0C2 ≤ p ∧ p ≤ 0x0C5)
    ((((({ State.reset with sys := { (default : SysSt) with phase := .run, fabricUp := true }, doc := { (default : DocSt) with ctxs := [(9, { (default : Ctx) with rcd := { (default : CtxRec) with pc := 64, ports := [(192, 7)] } })] } }).put DOC_STAT.STATE 2 1).put DOC_STAT.CTX 9 1).put CTXC_STAT.STATE 4 9).put CTXC_STAT.CORE 1 9) 9 1 0x0C2 5 ∧
  (fun (s : State) (c d : Nat) (g : Nat) => s.freeToIssue c d = true ∧ g < 32)
    ((((({ State.reset with sys := { (default : SysSt) with phase := .run, fabricUp := true }, doc := { (default : DocSt) with ctxs := [(9, { (default : Ctx) with rcd := { (default : CtxRec) with pc := 64, ports := [(106, 3)] } })] } }).put DOC_STAT.STATE 2 1).put DOC_STAT.CTX 9 1).put CTXC_STAT.STATE 4 9).put CTXC_STAT.CORE 1 9) 9 1 4 := by
  decide +kernel

theorem test_wit_CoreMemory_1 :
  (fun (s : State) (c d : Nat) (k : Nat) (b : Word) => s.freeToIssue c d = true ∧ k < 3 ∧ b.toNat % (4 / 2 ^ k) = 0 ∧
      s.memPermitted b.toNat = true)
    ((((({ State.reset with sys := { (default : SysSt) with phase := .run, fabricUp := true }, doc := { (default : DocSt) with ctxs := [(9, { (default : Ctx) with rcd := { (default : CtxRec) with pc := 64 } })] } }).put DOC_STAT.STATE 2 1).put DOC_STAT.CTX 9 1).put CTXC_STAT.STATE 4 9).put CTXC_STAT.CORE 1 9) 9 1 1 0x200006 ∧
  (fun (s : State) (c d : Nat) (n : Nat) (b : Word) => s.freeToIssue c d = true ∧ n < 4 ∧ (s.port c (pLsuP0 + n)).toNat % 4 =
      0 ∧ s.memPermitted (s.port c (pLsuP0 + n)).toNat = true)
    ((((({ State.reset with sys := { (default : SysSt) with phase := .run, fabricUp := true }, doc := { (default : DocSt) with ctxs := [(9, { (default : Ctx) with rcd := { (default : CtxRec) with pc := 64, ports := [(82, 2097160), (86, 4)] } })] } }).put DOC_STAT.STATE 2 1).put DOC_STAT.CTX 9 1).put CTXC_STAT.STATE 4 9).put CTXC_STAT.CORE 1 9) 9 1 2 0 ∧
  (fun (s : State) (c d : Nat) (k : Nat) (b : Word) => s.freeToIssue c d = true ∧ k < 3 ∧ (s.port c pLsuSA).toNat % (4 / 2 ^
      k) = 0 ∧ s.memPermitted (s.port c pLsuSA).toNat = true)
    ((((({ State.reset with sys := { (default : SysSt) with phase := .run, fabricUp := true }, doc := { (default : DocSt) with ctxs := [(9, { (default : Ctx) with rcd := { (default : CtxRec) with pc := 64, ports := [(96, 2097154)] } })] } }).put DOC_STAT.STATE 2 1).put DOC_STAT.CTX 9 1).put CTXC_STAT.STATE 4 9).put CTXC_STAT.CORE 1 9) 9 1 1 77 ∧
  (fun (s : State) (c d : Nat) (b : Word) => s.freeToIssue c d = true ∧ (s.port c pLsuSA).toNat % 4 = 0 ∧ s.memPermitted
      (s.port c pLsuSA).toNat = true)
    ((((({ State.reset with sys := { (default : SysSt) with phase := .run, fabricUp := true }, doc := { (default : DocSt) with ctxs := [(9, { (default : Ctx) with rcd := { (default : CtxRec) with pc := 64, ports := [(96, 2097156)] } })] } }).put DOC_STAT.STATE 2 1).put DOC_STAT.CTX 9 1).put CTXC_STAT.STATE 4 9).put CTXC_STAT.CORE 1 9) 9 1 77 ∧
  (fun (s : State) (c d : Nat) (b : Word) => s.freeToIssue c d = true ∧ (s.port c pLsuSA).toNat % 4 = 0 ∧ s.memPermitted
      (s.port c pLsuSA).toNat = true)
    ((((({ State.reset with sys := { (default : SysSt) with phase := .run, fabricUp := true }, doc := { (default : DocSt) with ctxs := [(9, { (default : Ctx) with rcd := { (default : CtxRec) with pc := 64, ports := [(96, 2097156)] } })] } }).put DOC_STAT.STATE 2 1).put DOC_STAT.CTX 9 1).put CTXC_STAT.STATE 4 9).put CTXC_STAT.CORE 1 9) 9 1 77 ∧
  (fun (s : State) (d : Nat) (o : MemOp) (os : List MemOp) => (s.core d).memq = o :: os ∧ o.kind = .load ∧ s.memBehind o =
      false ∧ s.memAwake o.addr = true ∧ o.mute = false)
    (((((({ State.reset with sys := { (default : SysSt) with phase := .run, fabricUp := true }, doc := { (default : DocSt) with ctxs := [(9, { (default : Ctx) with rcd := { (default : CtxRec) with pc := 64 } })], cores := [(1, { (default : CoreSt) with memq := [⟨9, .load, 0x200010, 2, 0, 0, false⟩] })] }, mem := [(0x200011, 5)] }).put DOC_STAT.STATE 2 1).put DOC_STAT.CTX 9 1).put CTXC_STAT.STATE 4 9).put CTXC_STAT.CORE 1 9).put MEM_STAT.AWAKE 1) 1 ⟨9, .load, 0x200010, 2, 0, 0, false⟩ [] ∧
  (fun (s : State) (d : Nat) (o : MemOp) (os : List MemOp) => (s.core d).memq = o :: os ∧ o.kind = .aadd ∧ s.memBehind o =
      false ∧ s.memAwake o.addr = true ∧ o.mute = false)
    (((((({ State.reset with sys := { (default : SysSt) with phase := .run, fabricUp := true }, doc := { (default : DocSt) with ctxs := [(9, { (default : Ctx) with rcd := { (default : CtxRec) with pc := 64 } })], cores := [(1, { (default : CoreSt) with memq := [⟨9, .aadd, 0x200010, 4, 0xFFFFFF, 0, false⟩] })] }, mem := [(0x200011, 5)] }).put DOC_STAT.STATE 2 1).put DOC_STAT.CTX 9 1).put CTXC_STAT.STATE 4 9).put CTXC_STAT.CORE 1 9).put MEM_STAT.AWAKE 1) 1 ⟨9, .aadd, 0x200010, 4, 0xFFFFFF, 0, false⟩ [] := by
  decide +kernel

theorem test_wit_CoreMemory_2 :
  (fun (s : State) (d : Nat) (o : MemOp) (os : List MemOp) => (s.core d).memq = o :: os ∧ o.kind = .store ∧ o.size = 4 ∧
      s.memBehind o = false ∧ s.memAwake o.addr = true)
    (((((({ State.reset with sys := { (default : SysSt) with phase := .run, fabricUp := true }, doc := { (default : DocSt) with ctxs := [(9, { (default : Ctx) with rcd := { (default : CtxRec) with pc := 64 } })], cores := [(1, { (default : CoreSt) with memq := [⟨9, .store, 0x200010, 4, 0xFFFFFF, 0, false⟩] })] } }).put DOC_STAT.STATE 2 1).put DOC_STAT.CTX 9 1).put CTXC_STAT.STATE 4 9).put CTXC_STAT.CORE 1 9).put MEM_STAT.AWAKE 1) 1 ⟨9, .store, 0x200010, 4, 0xFFFFFF, 0, false⟩ [] ∧
  (fun (s : State) (c d : Nat) => s.freeToIssue c d = true ∧ (s.port c pStrSrc).toNat % 4 = 0 ∧ (s.port c pStrDst).toNat % 4 =
      0 ∧ s.memPermitted (s.port c pStrSrc).toNat = true ∧ s.memPermitted (s.port c pStrDst).toNat = true)
    ((((({ State.reset with sys := { (default : SysSt) with phase := .run, fabricUp := true }, doc := { (default : DocSt) with ctxs := [(9, { (default : Ctx) with rcd := { (default : CtxRec) with pc := 64, ports := [(112, 2097156), (113, 2097160)] } })] } }).put DOC_STAT.STATE 2 1).put DOC_STAT.CTX 9 1).put CTXC_STAT.STATE 4 9).put CTXC_STAT.CORE 1 9) 9 1 ∧
  (fun (s : State) (c d : Nat) (b : Word) => s.freeToIssue c d = true ∧ (s.port c pStrDst).toNat % 4 = 0 ∧ s.memPermitted
      (s.port c pStrDst).toNat = true)
    ((((({ State.reset with sys := { (default : SysSt) with phase := .run, fabricUp := true }, doc := { (default : DocSt) with ctxs := [(9, { (default : Ctx) with rcd := { (default : CtxRec) with pc := 64, ports := [(112, 2097156), (113, 2097160)] } })] } }).put DOC_STAT.STATE 2 1).put DOC_STAT.CTX 9 1).put CTXC_STAT.STATE 4 9).put CTXC_STAT.CORE 1 9) 9 1 5 ∧
  (fun (s : State) (c d : Nat) => s.freeToIssue c d = true ∧ (s.port c pStrSrc).toNat % 4 = 0 ∧ (s.port c pStrDst).toNat % 4 =
      0 ∧ s.memPermitted (s.port c pStrSrc).toNat = true ∧ s.memPermitted (s.port c pStrDst).toNat = true)
    ((((({ State.reset with sys := { (default : SysSt) with phase := .run, fabricUp := true }, doc := { (default : DocSt) with ctxs := [(9, { (default : Ctx) with rcd := { (default : CtxRec) with pc := 64, ports := [(112, 2097156), (113, 2097160)] } })] } }).put DOC_STAT.STATE 2 1).put DOC_STAT.CTX 9 1).put CTXC_STAT.STATE 4 9).put CTXC_STAT.CORE 1 9) 9 1 ∧
  (fun (s : State) (c d : Nat) => s.freeToIssue c d = true ∧ (s.port c pStrSrc).toNat % 4 = 0 ∧ s.memPermitted (s.port c
      pStrSrc).toNat = true)
    ((((({ State.reset with sys := { (default : SysSt) with phase := .run, fabricUp := true }, doc := { (default : DocSt) with ctxs := [(9, { (default : Ctx) with rcd := { (default : CtxRec) with pc := 64, ports := [(112, 2097156), (113, 2097160)] } })] } }).put DOC_STAT.STATE 2 1).put DOC_STAT.CTX 9 1).put CTXC_STAT.STATE 4 9).put CTXC_STAT.CORE 1 9) 9 1 ∧
  (fun (s : State) (d : Nat) (o : StrOp) (os : List StrOp) => (s.core d).strq = o :: os ∧ o.kind = .copy ∧ s.strBehind o =
      false ∧ s.strAsleep o = false)
    (((((({ State.reset with sys := { (default : SysSt) with phase := .run, fabricUp := true }, doc := { (default : DocSt) with ctxs := [(9, { (default : Ctx) with rcd := { (default : CtxRec) with pc := 64 } })], cores := [(1, { (default : CoreSt) with strq := [⟨9, .copy, 0x200010, 0x200020, 0, 0, 0, false⟩] })] }, mem := [(0x200011, 5)] }).put DOC_STAT.STATE 2 1).put DOC_STAT.CTX 9 1).put CTXC_STAT.STATE 4 9).put CTXC_STAT.CORE 1 9).put MEM_STAT.AWAKE 1) 1 ⟨9, .copy, 0x200010, 0x200020, 0, 0, 0, false⟩ [] := by
  decide +kernel

theorem test_wit_CoreControl_1 :
  (fun (s : State) (c d : Nat) (b : Word) => s.freeToIssue c d = true ∧ b.toNat % 4 = 0 ∧ b.toNat ≤ 0x1FFFC)
    ((((({ State.reset with sys := { (default : SysSt) with phase := .run, fabricUp := true }, doc := { (default : DocSt) with ctxs := [(9, { (default : Ctx) with rcd := { (default : CtxRec) with pc := 64 } })] } }).put DOC_STAT.STATE 2 1).put DOC_STAT.CTX 9 1).put CTXC_STAT.STATE 4 9).put CTXC_STAT.CORE 1 9) 9 1 0x100 ∧
  (fun (s : State) (c d : Nat) (b : Word) => s.freeToIssue c d = true ∧ (BitVec.ofNat 32 (s.rcd c).pc + b).toNat % 4 = 0 ∧
      (BitVec.ofNat 32 (s.rcd c).pc + b).toNat ≤ 0x1FFFC)
    ((((({ State.reset with sys := { (default : SysSt) with phase := .run, fabricUp := true }, doc := { (default : DocSt) with ctxs := [(9, { (default : Ctx) with rcd := { (default : CtxRec) with pc := 64 } })] } }).put DOC_STAT.STATE 2 1).put DOC_STAT.CTX 9 1).put CTXC_STAT.STATE 4 9).put CTXC_STAT.CORE 1 9) 9 1 0x100 ∧
  (fun (s : State) (c d : Nat) (b : Word) => s.freeToIssue c d = true ∧ b.toNat % 4 = 0 ∧ b.toNat ≤ 0x1FFFC)
    ((((({ State.reset with sys := { (default : SysSt) with phase := .run, fabricUp := true }, doc := { (default : DocSt) with ctxs := [(9, { (default : Ctx) with rcd := { (default : CtxRec) with pc := 64 } })] } }).put DOC_STAT.STATE 2 1).put DOC_STAT.CTX 9 1).put CTXC_STAT.STATE 4 9).put CTXC_STAT.CORE 1 9) 9 1 0x100 ∧
  (fun (s : State) (c d : Nat) (b : Word) => s.freeToIssue c d = true ∧ b ≠ 0 ∧ s.port c pEvtPend &&& b = 0 ∧ s.mirrored c =
      false)
    ((((({ State.reset with sys := { (default : SysSt) with phase := .run, fabricUp := true }, doc := { (default : DocSt) with ctxs := [(9, { (default : Ctx) with rcd := { (default : CtxRec) with pc := 64, ports := [(148, 2)] } })] } }).put DOC_STAT.STATE 2 1).put DOC_STAT.CTX 9 1).put CTXC_STAT.STATE 4 9).put CTXC_STAT.CORE 1 9) 9 1 1 ∧
  (fun (s : State) (c d : Nat) (b : Word) => s.freeToIssue c d = true ∧ b ≠ 0 ∧ s.port c pEvtPend &&& b ≠ 0)
    ((((({ State.reset with sys := { (default : SysSt) with phase := .run, fabricUp := true }, doc := { (default : DocSt) with ctxs := [(9, { (default : Ctx) with rcd := { (default : CtxRec) with pc := 64, ports := [(148, 3)] } })] } }).put DOC_STAT.STATE 2 1).put DOC_STAT.CTX 9 1).put CTXC_STAT.STATE 4 9).put CTXC_STAT.CORE 1 9) 9 1 1 ∧
  (fun (s : State) (c d : Nat) (b : Word) => s.freeToIssue c d = true ∧ b.toNat < 8192 ∧ b.toNat / 32 < nCtx s.variant ∧
      s.ctxLive (b.toNat / 32) = true ∧ s.cst (b.toNat / 32) ≠ stWait ∧ s.mirrored (b.toNat / 32) = false)
    ((((({ State.reset with sys := { (default : SysSt) with phase := .run, fabricUp := true }, doc := { (default : DocSt) with ctxs := [(9, { (default : Ctx) with rcd := { (default : CtxRec) with pc := 64, ports := [(148, 3)] } })] } }).put DOC_STAT.STATE 2 1).put DOC_STAT.CTX 9 1).put CTXC_STAT.STATE 4 9).put CTXC_STAT.CORE 1 9) 9 1 0x125 ∧
  (fun (s : State) (c d : Nat) (b : Word) => s.freeToIssue c d = true)
    ((((({ State.reset with sys := { (default : SysSt) with phase := .run, fabricUp := true }, doc := { (default : DocSt) with ctxs := [(9, { (default : Ctx) with rcd := { (default : CtxRec) with pc := 64, ports := [(148, 3)] } })] } }).put DOC_STAT.STATE 2 1).put DOC_STAT.CTX 9 1).put CTXC_STAT.STATE 4 9).put CTXC_STAT.CORE 1 9) 9 1 1 ∧
  (fun (s : State) (c d : Nat) => s.freeToIssue c d = true)
    ((((({ State.reset with sys := { (default : SysSt) with phase := .run, fabricUp := true }, doc := { (default : DocSt) with ctxs := [(9, { (default : Ctx) with rcd := { (default : CtxRec) with pc := 64 } })] } }).put DOC_STAT.STATE 2 1).put DOC_STAT.CTX 9 1).put CTXC_STAT.STATE 4 9).put CTXC_STAT.CORE 1 9) 9 1 := by
  decide +kernel

theorem test_wit_CoreControl_2 :
  (fun (s : State) (c d : Nat) (g : Nat) => s.freeToIssue c d = true ∧ g < 32)
    ((((({ State.reset with sys := { (default : SysSt) with phase := .run, fabricUp := true }, doc := { (default : DocSt) with ctxs := [(9, { (default : Ctx) with rcd := { (default : CtxRec) with pc := 64 } })] } }).put DOC_STAT.STATE 2 1).put DOC_STAT.CTX 9 1).put CTXC_STAT.STATE 4 9).put CTXC_STAT.CORE 1 9) 9 1 3 ∧
  (fun (s : State) (c d : Nat) (b : Word) => s.freeToIssue c d = true ∧ timePassed b s.seen = false ∧ s.mirrored c = false)
    ((((({ State.reset with sys := { (default : SysSt) with phase := .run }, doc := { (default : DocSt) with ctxs := [(9, { (default : Ctx) with rcd := { (default : CtxRec) with pc := 64 } })] } }).put DOC_STAT.STATE 2 1).put DOC_STAT.CTX 9 1).put CTXC_STAT.STATE 4 9).put CTXC_STAT.CORE 1 9) 9 1 5 ∧
  (fun (s : State) (c d : Nat) (b : Word) => s.freeToIssue c d = true ∧ b ≠ 0 ∧ b.toNat ≤ 0x7FFFFFFF ∧ s.mirrored c = false)
    ((((({ State.reset with sys := { (default : SysSt) with phase := .run, fabricUp := true }, doc := { (default : DocSt) with ctxs := [(9, { (default : Ctx) with rcd := { (default : CtxRec) with pc := 64 } })] } }).put DOC_STAT.STATE 2 1).put DOC_STAT.CTX 9 1).put CTXC_STAT.STATE 4 9).put CTXC_STAT.CORE 1 9) 9 1 5 ∧
  (fun (s : State) (c : Nat) => s.cst c = stSleep)
    (((((({ State.reset with sys := { (default : SysSt) with phase := .run, fabricUp := true }, doc := { (default : DocSt) with ctxs := [(9, { (default : Ctx) with rcd := { (default : CtxRec) with pc := 64, wait := 2, wakeAt := 7 } })] } }).put DOC_STAT.STATE 2 1).put DOC_STAT.CTX 9 1).put CTXC_STAT.STATE 4 9).put CTXC_STAT.CORE 1 9).put CTXC_STAT.STATE 2 9) 9 ∧
  (fun (s : State) (c d : Nat) (b : Word) => s.freeToIssue c d = true ∧ timePassed b s.seen = false)
    ((((({ State.reset with sys := { (default : SysSt) with phase := .run }, doc := { (default : DocSt) with ctxs := [(9, { (default : Ctx) with rcd := { (default : CtxRec) with pc := 64 } })] } }).put DOC_STAT.STATE 2 1).put DOC_STAT.CTX 9 1).put CTXC_STAT.STATE 4 9).put CTXC_STAT.CORE 1 9) 9 1 5 ∧
  (fun (s : State) (c d : Nat) => s.freeToIssue c d = true)
    ((((({ State.reset with sys := { (default : SysSt) with phase := .run, fabricUp := true }, doc := { (default : DocSt) with ctxs := [(9, { (default : Ctx) with rcd := { (default : CtxRec) with pc := 64, alarmArmed := true } })] } }).put DOC_STAT.STATE 2 1).put DOC_STAT.CTX 9 1).put CTXC_STAT.STATE 4 9).put CTXC_STAT.CORE 1 9) 9 1 ∧
  (fun (s : State) (c : Nat) => (s.rcd c).alarmArmed = true ∧ s.ctxLive c = true ∧ s.cst c ≠ stWait ∧ s.mirrored c = false)
    ((((({ State.reset with sys := { (default : SysSt) with phase := .run, fabricUp := true }, doc := { (default : DocSt) with ctxs := [(9, { (default : Ctx) with rcd := { (default : CtxRec) with pc := 64, alarmArmed := true, alarmAt := 9 } })] } }).put DOC_STAT.STATE 2 1).put DOC_STAT.CTX 9 1).put CTXC_STAT.STATE 4 9).put CTXC_STAT.CORE 1 9) 9 ∧
  (fun (s : State) (c d : Nat) (n : Word) => s.freeToIssue c d = true ∧ n ≠ 0 ∧ n.toNat ≤ 16777215)
    ((((({ State.reset with sys := { (default : SysSt) with phase := .run, fabricUp := true }, doc := { (default : DocSt) with ctxs := [(9, { (default : Ctx) with rcd := { (default : CtxRec) with pc := 64 } })] } }).put DOC_STAT.STATE 2 1).put DOC_STAT.CTX 9 1).put CTXC_STAT.STATE 4 9).put CTXC_STAT.CORE 1 9) 9 1 5 := by
  decide +kernel

theorem test_wit_CoreControl_3 :
  (fun (s : State) (c d : Nat) => s.freeToIssue c d = true)
    ((((({ State.reset with sys := { (default : SysSt) with phase := .run, fabricUp := true }, doc := { (default : DocSt) with ctxs := [(9, { (default : Ctx) with rcd := { (default : CtxRec) with pc := 64 } })] } }).put DOC_STAT.STATE 2 1).put DOC_STAT.CTX 9 1).put CTXC_STAT.STATE 4 9).put CTXC_STAT.CORE 1 9) 9 1 ∧
  (fun (s : State) (c d : Nat) (w g a : Nat) (wr : Bool) => s.freeToIssue c d = true ∧ w < 256 ∧ g < 32 ∧ s.winEntry c w =
      some (a, true, wr) ∧ s.regAt a = some ⟨.FAB_OWNERR, 0, 0, 0⟩ ∧ s.sys.pollOpen = false)
    (((((((({ State.reset with sys := { (default : SysSt) with phase := .run, fabricUp := true }, doc := { (default : DocSt) with ctxs := [(9, { (default : Ctx) with rcd := { (default : CtxRec) with pc := 64 } })] } }).put DOC_STAT.STATE 2 1).put DOC_STAT.CTX 9 1).put CTXC_STAT.STATE 4 9).put CTXC_STAT.CORE 1 9).put DOC_WMAP.ADDR 0x30004 0 5).flag DOC_WMAP.RD true 0 5).put FAB_OWNERR.INDEX 77) 9 1 5 3 0x30004 false ∧
  (fun (s : State) (c d : Nat) (w a : Nat) (rd : Bool) (b : Word) => s.freeToIssue c d = true ∧ w < 256 ∧ s.winEntry c w =
      some (a, rd, true))
    ((((((({ State.reset with sys := { (default : SysSt) with phase := .run, fabricUp := true }, doc := { (default : DocSt) with ctxs := [(9, { (default : Ctx) with rcd := { (default : CtxRec) with pc := 64 } })] } }).put DOC_STAT.STATE 2 1).put DOC_STAT.CTX 9 1).put CTXC_STAT.STATE 4 9).put CTXC_STAT.CORE 1 9).put DOC_WMAP.ADDR 0x30004 0 5).flag DOC_WMAP.WR true 0 5) 9 1 5 0x30004 false 7 := by
  decide +kernel

theorem test_wit_ContextEngine_1 :
  (fun (s : State) (d b : Nat) (o : WinOp) (os : List WinOp) => (s.core d).winq = o :: os ∧ s.regAt o.addr = some
      ⟨.HBR_POSSET, b, 0, 0⟩ ∧ s.sys.pollOpen = false ∧ s.legalWrite (.ctx o.ctx) .HBR_POSSET o.value = true ∧ s.rwsBarred
          (.ctx o.ctx) ⟨.HBR_POSSET, b, 0, 0⟩ o.value = false)
    ((((({ State.reset with sys := { (default : SysSt) with phase := .run, fabricUp := true }, doc := { (default : DocSt) with ctxs := [(9, { (default : Ctx) with rcd := { (default : CtxRec) with pc := 64 } })], cores := [(1, { (default : CoreSt) with winq := [⟨9, 327796, 33, 0⟩, ⟨9, 1, 2, 1⟩] })] } }).put DOC_STAT.STATE 2 1).put DOC_STAT.CTX 9 1).put CTXC_STAT.STATE 4 9).put CTXC_STAT.CORE 1 9) 1 1 ⟨9, 0x50074, 33, 0⟩ [⟨9, 1, 2, 1⟩] ∧
  (fun (s : State) (d : Nat) (o : WinOp) (os : List WinOp) => (s.core d).winq = o :: os)
    ((((({ State.reset with sys := { (default : SysSt) with phase := .run, fabricUp := true }, doc := { (default : DocSt) with ctxs := [(9, { (default : Ctx) with rcd := { (default : CtxRec) with pc := 64 } })], cores := [(1, { (default : CoreSt) with winq := [⟨9, 327796, 33, 0⟩, ⟨9, 1, 2, 1⟩] })] } }).put DOC_STAT.STATE 2 1).put DOC_STAT.CTX 9 1).put CTXC_STAT.STATE 4 9).put CTXC_STAT.CORE 1 9) 1 ⟨9, 0x50074, 33, 0⟩ [⟨9, 1, 2, 1⟩] ∧
  (fun (s : State) (d c : Nat) (x : Bool) => (s.core d).shadow = some (c, x))
    ((((({ State.reset with sys := { (default : SysSt) with phase := .run, fabricUp := true }, doc := { (default : DocSt) with ctxs := [(9, { (default : Ctx) with rcd := { (default : CtxRec) with pc := 64 } })], cores := [(1, { (default : CoreSt) with shadow := some (4, false) })] } }).put DOC_STAT.STATE 2 1).put DOC_STAT.CTX 9 1).put CTXC_STAT.STATE 4 9).put CTXC_STAT.CORE 1 9) 1 4 false ∧
  (fun (s : State) (c : Nat) => s.cst c = stRun ∧ (s.ctx c).overrun = false ∧ s.fld CTXC_CFG.BUDGET c ≠ 0 ∧ s.bdem c = false)
    (((((({ State.reset with sys := { (default : SysSt) with phase := .run, fabricUp := true }, doc := { (default : DocSt) with ctxs := [(9, { (default : Ctx) with rcd := { (default : CtxRec) with pc := 64 } })] } }).put DOC_STAT.STATE 2 1).put DOC_STAT.CTX 9 1).put CTXC_STAT.STATE 4 9).put CTXC_STAT.CORE 1 9).put CTXC_CFG.BUDGET 5 9) 9 ∧
  (fun (s : State) (c : Nat) => s.cst c = stRun ∧ (s.ctx c).overrun = false ∧ s.fld CTXC_CFG.BUDGET c ≠ 0 ∧ s.bdem c = true)
    ((((((({ State.reset with sys := { (default : SysSt) with phase := .run, fabricUp := true }, doc := { (default : DocSt) with ctxs := [(9, { (default : Ctx) with rcd := { (default : CtxRec) with pc := 64 } })] } }).put DOC_STAT.STATE 2 1).put DOC_STAT.CTX 9 1).put CTXC_STAT.STATE 4 9).put CTXC_STAT.CORE 1 9).put CTXC_CFG.BUDGET 5 9).put CTX_BDEM.DEM 512) 9 ∧
  (fun (s : State) (c q : Nat) => (s.ctx c).qpend = some q)
    (((((({ State.reset with sys := { (default : SysSt) with phase := .run, fabricUp := true }, doc := { (default : DocSt) with ctxs := [(9, { (default : Ctx) with rcd := { (default : CtxRec) with pc := 64 } })] } }).put DOC_STAT.STATE 2 1).put DOC_STAT.CTX 9 1).put CTXC_STAT.STATE 4 9).put CTXC_STAT.CORE 1 9).setCtx 9 { (default : Ctx) with qpend := some 2 }) 9 2 ∧
  (fun (s : State) (w : Who) (c : Nat) => c < nCtx s.variant ∧ s.mode ≠ 11 ∧ s.cst c = stQuar ∧ s.ctxEnabled c = false ∧
      s.reaches w 11 = true)
    (((((({ State.reset with sys := { (default : SysSt) with phase := .run, fabricUp := true }, doc := { (default : DocSt) with ctxs := [(9, { (default : Ctx) with rcd := { (default : CtxRec) with pc := 64 } })] } }).put DOC_STAT.STATE 2 1).put DOC_STAT.CTX 9 1).put CTXC_STAT.STATE 4 9).put CTXC_STAT.CORE 1 9).put CTXC_STAT.STATE 6 9) .host 9 ∧
  (fun (s : State) (w : Who) (c : Nat) => c < nCtx s.variant ∧ s.mode ≠ 11 ∧ s.cst c = stQuar ∧ s.ctxEnabled c = true ∧
      s.reaches w 11 = true)
    ((((((({ State.reset with sys := { (default : SysSt) with phase := .run, fabricUp := true }, doc := { (default : DocSt) with ctxs := [(9, { (default : Ctx) with rcd := { (default : CtxRec) with pc := 64 } })] } }).put DOC_STAT.STATE 2 1).put DOC_STAT.CTX 9 1).put CTXC_STAT.STATE 4 9).put CTXC_STAT.CORE 1 9).put CTXC_STAT.STATE 6 9).flag CTXC_CFG.EN true 9) .host 9 := by
  decide +kernel

theorem test_wit_ContextEngine_2 :
  (fun (s : State) (w : Who) (c : Nat) => c < nCtx s.variant ∧ s.mode = 8 ∧ s.ctxLive c = true ∧ s.cst c ≠ stRun ∧ s.reaches w
      11 = true)
    ((((((({ State.reset with sys := { (default : SysSt) with phase := .run, fabricUp := true }, doc := { (default : DocSt) with ctxs := [(9, { (default : Ctx) with rcd := { (default : CtxRec) with pc := 64 } })] } }).put DOC_STAT.STATE 2 1).put DOC_STAT.CTX 9 1).put CTXC_STAT.STATE 4 9).put CTXC_STAT.CORE 1 9).put CTXC_STAT.STATE 1 9).put SYS_MODE.MODE 8) .host 9 ∧
  (fun (s : State) (d e : Nat) (x : Bool) => d < nCores s.variant ∧ (s.coreSt d = 1 ∨ s.coreSt d = 2) ∧ e < nCores s.variant ∧
      e ≠ d ∧ s.coreSt e ≠ 3 ∧ s.pinnedTo d = [] ∧ (s.running d).all (fun c => s.fld CTXC_CFG.AFFIN c != d) = true)
    ((((({ State.reset with sys := { (default : SysSt) with phase := .run, fabricUp := true }, doc := { (default : DocSt) with ctxs := [(9, { (default : Ctx) with rcd := { (default : CtxRec) with pc := 64 } })] } }).put DOC_STAT.STATE 2 1).put DOC_STAT.CTX 9 1).put CTXC_STAT.STATE 4 9).put CTXC_STAT.CORE 1 9) 1 0 true ∧
  (fun (s : State) (a u base : Nat) => memUnit a = some (u, base) ∧ s.fld MEM_CFG.SCRUB ≠ 0 ∧ unitFitted s.variant u = true)
    (State.reset.put MEM_CFG.SCRUB 1) 0x200010 0 0x200000 ∧
  (fun (s : State) (a u base : Nat) => memUnit a = some (u, base) ∧ s.fld MEM_CFG.SCRUB ≠ 0 ∧ unitFitted s.variant u = true)
    (State.reset.put MEM_CFG.SCRUB 1) 0x200010 0 0x200000 ∧
  (fun (s : State) (b : Nat) => (s.sys.phase = .w3 ∨ s.sys.pollOpen = true) ∧ s.banksAsleep.head? = some b ∧ b < 16)
    (({ State.reset with sys := { (default : SysSt) with phase := .w3 } }).put MEM_CFG.RET 4) 2 ∧
  (fun (s : State) (a : Nat) => s.sys.phase = .w3 ∧ 0x300000 ≤ a ∧ a < 0x308000)
    ({ State.reset with sys := { (default : SysSt) with phase := .w3 } }) 0x300004 := by
  decide +kernel

theorem test_wit_CanReceive_1 :
  (fun (s : State) (n i : Nat) (f : CanFrame) (sof : Word) => s.canListens n = true ∧ s.canAdmits n f = true ∧ s.active n =
      none ∧ s.bit CAN_STAT.LONELY n = false ∧ s.fld CAN_STAT.REC n ≤ 127 ∧ s.bit CAN_CFG.MON n = false ∧ s.nmOn = false ∧
          s.filterOf n f = some i ∧ s.fld CAN_FCTL.ACT n i = 1 ∧ s.bit CAN_FCTL.GW n i = false ∧ s.bit CAN_CFG.OVWR0 n = false
              ∧ s.bit CAN_QSTAT.LOCKED n 0 = false ∧ usedOf (s.cq n 0).recs + entriesOf (canRecord (s.cq n 0).seq (some i) f
              sof) ≤ s.qDepth n 0 ∧ (s.cp n).after = 0)
    (((((sUp.put CAN_STAT.STATE 2 1).put CAN_FCTL.ACT 1 1 5).put CAN_FCTL.FMT 7 1 5).put CAN_QCFG.Q0DEPTH 40 1).flag
        CAN_CFG.EN true 1) 1 5 ⟨0x123, false, .classical, false, false, false, 2, 0, 0, 0, false, [1, 2]⟩ 77 ∧
  (fun (s : State) (w : Who) (n q : Nat) (rc : List Word) (rs : List (List Word)) => s.canFitted n = true ∧ q < 2 ∧ s.isReader
      w n q = true ∧ (s.cq n q).recs = rc :: rs ∧ (s.cq n q).pos + 1 < rc.length ∧ s.reaches w 13 = true)
    (((sUp.put CAN_STAT.STATE 2 1).setCp 1
        { (default : CanSt) with q0 := { (default : CanQ) with recs := [[1, 2, 3]], pos := 1 } }).put CAN_QRDR.RDR0 511 1)
            .host 1 0 [1,2,3] [] ∧
  (fun (s : State) (w : Who) (n q : Nat) (rc : List Word) (rs : List (List Word)) (x : Word) => s.canFitted n = true ∧ q < 2 ∧
      s.legalWrite w .CAN_RXPOP x = true ∧ s.rwsBarred w ⟨.CAN_RXPOP, n, q, 0⟩ x = false ∧ s.bit CAN_CFG.MON n = false ∧ s.bit
          CAN_CFG.CONS n = false ∧ (s.cq n q).recs = rc :: rs ∧ s.reaches w 13 = true)
    ((sUp.put CAN_STAT.STATE 2 1).setCp 1
        { (default : CanSt) with q0 := { (default : CanQ) with recs := [[1, 2, 3]], pos := 1 } }) .host 1 0 [1,2,3] [] 3 := by
  decide +kernel

theorem test_wit_CanReceive_2 :
  (fun (s : State) (n : Nat) (e : CanErr) => s.canListens n = true ∧ s.active n = none ∧ s.canSt n = 2 ∧ (s.cp n).after = 0 ∧
      s.fld CAN_STAT.TEC n < 128 ∧ e.exempt = false ∧ e.eights = 0 ∧ s.fld CAN_STAT.REC n < 127)
    (sUp.put CAN_STAT.STATE 2 1) 1 ⟨2, true, false, 0⟩ ∧
  (fun (s : State) (n : Nat) => s.canFitted n = true ∧ s.canSt n = 5)
    ((sUp.put CAN_STAT.STATE 5 1).put CAN_STAT.TEC 9 1) 1 ∧
  (fun (s : State) (w : Who) (n : Nat) => s.canFitted n = true ∧ s.bit CAN_CFG.BORECOV n = true ∧ s.canSt n = 4 ∧ s.reaches w
      13 = true)
    ((sUp.put CAN_STAT.STATE 4 1).flag CAN_CFG.BORECOV true 1) .host 1 ∧
  (fun (s : State) (w : Who) (n : Nat) => s.canFitted n = true ∧ s.reaches w 13 = true)
    ((sUp.put CAN_STAT.STATE 2 1).flag CAN_STAT.LONELY true 1) .host 1 ∧
  (fun (s : State) (n : Nat) => s.canFitted n = true ∧ s.canSt n = 1 ∧ s.bit CAN_CFG.MON n = false ∧ s.fld CAN_STAT.TEC n <
      128 ∧ s.fld CAN_STAT.REC n < 128)
    (sUp.put CAN_STAT.STATE 1 1) 1 ∧
  (fun (s : State) (n : Nat) => s.canFitted n = true ∧ s.canSt n ≠ 0)
    (sUp.put CAN_STAT.STATE 2 1) 1 ∧
  (fun (s : State) (n : Nat) => s.canFitted n = true ∧ (s.cp n).txdOut = true)
    ((sUp.put CAN_STAT.STATE 2 1).setCp 1 { (default : CanSt) with txdOut := true }) 1 := by
  decide +kernel

theorem test_wit_CanTransmit_1 :
  (fun (s : State) (w : Who) (n b i : Nat) (x : Word) => s.canFitted n = true ∧ b < 32 ∧ i < 21 ∧ s.gwOwned n b = false ∧
      s.bst n b ≠ bPending ∧ s.bst n b ≠ bActive ∧ s.bst n b ≠ bHeld ∧ s.reaches w 13 = true)
    (sUp.put CAN_STAT.STATE 2 1) .host 1 3 5 99 ∧
  (fun (s : State) (w : Who) (n : Nat) => s.canFitted n = true ∧ s.bst n 0 ≠ bPending ∧ s.bst n 0 ≠ bActive ∧ s.bst n 0 ≠
      bHeld ∧ s.badFormat n 0 = false ∧ s.reaches w 13 = true)
    (sUp.put CAN_STAT.STATE 2 1) .host 1 ∧
  (fun (s : State) (w : Who) (n : Nat) => s.canFitted n = true ∧ s.bst n 0 ≠ bPending ∧ s.bst n 0 ≠ bActive ∧ s.bst n 0 ≠
      bHeld ∧ s.badFormat n 0 = true ∧ s.reaches w 13 = true)
    ((sUp.put CAN_STAT.STATE 2 1).setReg ⟨.CAN_TXW, 1, 0, 1⟩ 4) .host 1 ∧
  (fun (s : State) (w : Who) (n : Nat) (a : Bool) => s.canFitted n = true ∧ (s.bst n 0 = bPending ∨ s.bst n 0 = bHeld) ∧
      s.reaches w 13 = true)
    ((sUp.put CAN_STAT.STATE 2 1).setBst 1 0 bPending) .host 1 true ∧
  (fun (s : State) (n b : Nat) => b < 32 ∧ (s.cp n).stage = some (b, none) ∧ (List.range (s.txXlen n b)).all (fun i =>
      s.memPermitted ((s.txw n b 4).toNat + i)) = true)
    ((sUp.put CAN_STAT.STATE 2 1).setCp 1 { (default : CanSt) with stage := some (3, none) }) 1 3 := by
  decide +kernel

theorem test_wit_CanTransmit_2 :
  (fun (s : State) (n b : Nat) => s.canFitted n = true ∧ (s.canSt n = 2 ∨ s.canSt n = 3) ∧ s.active n = none ∧ s.nmOn = false
      ∧ s.canFirst n (canBufs.filter fun b => s.bst n b == bPending && s.staged n b) = some b ∧ b < 32)
    ((sUp.put CAN_STAT.STATE 2 1).setBst 1 3 bPending) 1 3 ∧
  (fun (s : State) (n b k : Nat) (sof : Word) => s.active n = some b ∧ b < 32 ∧ s.canSt n = 2 ∧ (s.cp n).after = 0 ∧ s.fld
      CAN_STAT.REC n < 128 ∧ s.fld CAN_STAT.TEC n < 128)
    (((sUp.put CAN_STAT.STATE 2 1).setBst 1 3 bActive).put CAN_STAT.TEC 7 1) 1 3 4 55 ∧
  (fun (s : State) (n b : Nat) (e : CanErr) => s.active n = some b ∧ b < 32 ∧ s.canSt n = 2 ∧ (s.cp n).after = 0 ∧ (s.cp
      n).late = false ∧ e.lec ≠ 3 ∧ e.exempt = false ∧ e.eights = 0 ∧ s.fld CAN_STAT.TEC n < 120 ∧ s.fld CAN_STAT.REC n < 128)
    ((sUp.put CAN_STAT.STATE 2 1).setBst 1 3 bActive) 1 3 ⟨2, true, false, 0⟩ ∧
  (fun (s : State) (n i : Nat) (f : CanFrame) (rest : List (Nat × CanFrame)) => s.canFitted n = true ∧ s.bit CAN_CFG.GWTX n =
      true ∧ (s.cp n).gwFifo = (i, f) :: rest ∧ (s.bst n 24 = bIdle ∨ 4 ≤ s.bst n 24))
    (((sUp.put CAN_STAT.STATE 2 1).setCp 1
        { (default : CanSt) with gwFifo := [(3, ⟨0x123, false, .classical, false, false, false, 2, 0, 0, 0, false, [1, 2]⟩)] }).flag CAN_CFG.GWTX true 1) 1 3 ⟨0x123, false, .classical, false, false, false, 2, 0, 0, 0, false, [1, 2]⟩ [] := by
  decide +kernel

theorem test_wit_LinPorts_1 :
  (fun (s : State) (n : Nat) => s.linFitted n = true ∧ s.bit LIN_CFG.EN n = true ∧ (s.lp n).inSlot = false ∧ s.fld
      LIN_SCHED.RUNNING n < 16 ∧ (s.lp n).goSleep = false)
    (sUp.flag LIN_CFG.EN true 1) 1 ∧
  (fun (s : State) (n : Nat) => s.linFitted n = true ∧ s.bit LIN_CFG.EN n = true ∧ (s.lp n).inSlot = false ∧ s.fld
      LIN_SCHED.RUNNING n < 16 ∧ (s.lp n).goSleep = true)
    ((sUp.flag LIN_CFG.EN true 1).setLp 1 { (default : LinSt) with goSleep := true }) 1 ∧
  (fun (s : State) (n : Nat) (data : List Byte) (chk : Byte) => s.linFitted n = true ∧ s.linAwaits n = true ∧ s.linTe n
      LIN_TE.PUB = 0 ∧ data.length = s.linTe n LIN_TE.LEN + 1 ∧ linChecksum (s.linTe n LIN_TE.CHK = 1) (s.linTe n LIN_TE.FID)
          data = chk ∧ s.routeOf ⟨1, n, 8 + n, 0⟩ (linFrame (s.linTe n LIN_TE.FID) data) = none)
    ((sUp.flag LIN_CFG.EN true 1).setLp 1 { (default : LinSt) with inSlot := true }) 1 [7] 0xF8 ∧
  (fun (s : State) (n : Nat) (data : List Byte) (chk : Byte) => s.linFitted n = true ∧ s.linAwaits n = true ∧ s.linTe n
      LIN_TE.PUB = 0 ∧ linChecksum (s.linTe n LIN_TE.CHK = 1) (s.linTe n LIN_TE.FID) data ≠ chk)
    ((sUp.flag LIN_CFG.EN true 1).setLp 1 { (default : LinSt) with inSlot := true }) 1 [7] 0xF7 ∧
  (fun (s : State) (n : Nat) => s.linFitted n = true ∧ s.linAwaits n = true ∧ s.linTe n LIN_TE.PUB = 0)
    (((sUp.flag LIN_CFG.EN true 1).setLp 1 { (default : LinSt) with inSlot := true }).flag LIN_CFG.EN true 1) 1 ∧
  (fun (s : State) (n : Nat) => s.linFitted n = true ∧ s.ethOn = true ∧ s.bit LIN_CFG.EN n = true ∧ (s.lp n).inSlot = true)
    (((sUp.flag LIN_CFG.EN true 1).setLp 1 { (default : LinSt) with inSlot := true }).flag LIN_CFG.EN true 1) 1 := by
  decide +kernel

theorem test_wit_LinPorts_2 :
  (fun (s : State) (w : Who) (n : Nat) (x : Word) => s.linFitted n = true ∧ s.legalWrite w .LIN_SCHED x = true ∧ s.rwsBarred w
      ⟨.LIN_SCHED, n, 0, 0⟩ x = false ∧ (s.lp n).asleep = false ∧ (s.lp n).resume = false ∧ (s.lp n).inSlot = false ∧
          s.reaches w 14 = true)
    (sUp.flag LIN_CFG.EN true 1) .host 1 4 ∧
  (fun (s : State) (w : Who) (n : Nat) => s.linFitted n = true ∧ s.reaches w 14 = true)
    (sUp.flag LIN_CFG.EN true 1) .host 1 ∧
  (fun (s : State) (w : Who) (n k : Nat) (x : Word) => s.linFitted n = true ∧ k < 64 ∧ s.reaches w 14 = true)
    (sUp.flag LIN_CFG.EN true 1) .host 1 9 44 ∧
  (fun (s : State) (w : Who) (n k : Nat) (x : Word) => s.linFitted n = true ∧ k < 64 ∧ Tbl.get (s.lp n).shadow k 1 = Tbl.get
      (s.lp n).shadow k 0 ∧ s.reaches w 14 = true)
    ((sUp.flag LIN_CFG.EN true 1).setLp 1 { (default : LinSt) with shadow := [(9, 5)] }) .host 1 9 44 ∧
  (fun (s : State) (w : Who) (n k : Nat) => s.linFitted n = true ∧ k < 64 ∧ s.reaches w 14 = true)
    (sUp.flag LIN_CFG.EN true 1) .host 1 9 ∧
  (fun (s : State) (n : Nat) => s.linFitted n = true ∧ (s.lp n).resume = true)
    ((sUp.flag LIN_CFG.EN true 1).setLp 1 { (default : LinSt) with resume := true, table := 3 }) 1 := by
  decide +kernel

theorem test_wit_EthernetAndStreams_1 :
  (fun (s : State) (p q v : Nat) (f : EthFrame) (full : BitVec 8) => ethFitted s.variant p = true ∧ s.ethUp p = true ∧ ethLen
      f ≤ 1522 ∧ s.vlanOf (s.ethClass p f).1 = some v ∧ bitOf (s.fld ETH_VLAN.MEMBER v) p = true ∧ f.dst / 16 ≠ 0x0180C200000
          ∧ (s.ethLearn f.src (s.ethClass p f).1 p).ethLookup f.dst (s.ethClass p f).1 = some q ∧ bitOf (s.fld ETH_VLAN.MEMBER
              v) q = true ∧ q ≠ p ∧ s.ethUp q = true ∧ full.getLsbD q = false)
    (((((({ sUp with eth := { (default : EthSt) with learned := [(0x020000000001, 1, 7, 0)] } }).flag ETH_PCFG.EN true 1).flag
        ETH_PSTAT.LINK true 1).put ETH_VLAN.VID 1).put ETH_VLAN.MEMBER 255).put ETH_PCFG.PVID 1 1) 1 7 0 ⟨0x020000000001,
            0x020000000002, none, [1, 2]⟩ 0 ∧
  (fun (s : State) (p q v : Nat) (f : EthFrame) (full : BitVec 8) => ethFitted s.variant p = true ∧ s.ethUp p = true ∧ ethLen
      f ≤ 1522 ∧ s.vlanOf (s.ethClass p f).1 = some v ∧ bitOf (s.fld ETH_VLAN.MEMBER v) p = true ∧ f.dst / 16 ≠ 0x0180C200000
          ∧ (s.ethLearn f.src (s.ethClass p f).1 p).ethLookup f.dst (s.ethClass p f).1 = some q ∧ bitOf (s.fld ETH_VLAN.MEMBER
              v) q = true ∧ q ≠ p ∧ s.ethUp q = true ∧ full.getLsbD q = true ∧ q ≠ 7)
    (((((((({ sUp with eth := { (default : EthSt) with learned := [(0x020000000001, 1, 2, 0)] } }).flag ETH_PCFG.EN true
        1).flag ETH_PSTAT.LINK true 1).put ETH_VLAN.VID 1).put ETH_VLAN.MEMBER 255).put ETH_PCFG.PVID 1 1).flag ETH_PCFG.EN
            true 2).flag ETH_PSTAT.LINK true 2) 1 2 0 ⟨0x020000000001, 0x020000000002, none, [1, 2]⟩ 255 ∧
  (fun (s : State) (p : Nat) => s.ethOn = true ∧ ethFitted s.variant p = true ∧ s.bit ETH_PCFG.EN p = true ∧ s.bit
      ETH_PSTAT.LINK p = true)
    ((sUp.flag ETH_PCFG.EN true 1).flag ETH_PSTAT.LINK true 1) 1 ∧
  (fun (s : State) (p : Nat) => s.ethOn = true ∧ ethFitted s.variant p = true ∧ s.bit ETH_PCFG.EN p = true)
    ((sUp.flag ETH_PCFG.EN true 1).flag ETH_PSTAT.LINK true 1) 1 := by
  decide +kernel

theorem test_wit_EthernetAndStreams_2 :
  (fun (s : State) (p q : Nat) => s.ethOn = true ∧ ethFitted s.variant p = true ∧ s.bit ETH_PCFG.EN p = true)
    ((sUp.flag ETH_PCFG.EN true 1).flag ETH_PSTAT.LINK true 1) 1 5 ∧
  (fun (s : State) (p : Nat) => s.ethOn = true ∧ ethFitted s.variant p = true ∧ s.bit ETH_PCFG.EN p = true ∧ (p = 5 ∨ p = 6) ∧
      s.bit ETH_PLCA.EN p = true ∧ s.fld ETH_PLCA.ID p ≠ 0 ∧ s.eth.csma.getLsbD p = false)
    (((sUp.flag ETH_PCFG.EN true 5).flag ETH_PLCA.EN true 5).put ETH_PLCA.ID 3 5) 5 ∧
  (fun (s : State) (p : Nat) => s.ethOn = true ∧ p < 8 ∧ s.eth.csma.getLsbD p = true)
    ((({ sUp with eth := { (default : EthSt) with csma := 0x60 } }).flag ETH_PCFG.EN true 1).flag ETH_PSTAT.LINK true 1) 5 ∧
  (fun (s : State) (p : Nat) (x : Int) => s.bit ETH_TSCTL.EN = true ∧ s.bit ETH_TSCTL.ROLE = false ∧ p = s.fld ETH_TSCTL.PORT
      ∧ s.ethUp p = true ∧ -8388608 ≤ x ∧ x < 8388608)
    ((((sUp.flag ETH_PCFG.EN true 1).flag ETH_PSTAT.LINK true 1).flag ETH_TSCTL.EN true).put ETH_TSCTL.PORT 1) 1 (-55) ∧
  (fun (s : State) => s.ethOn = true ∧ s.bit ETH_TSCTL.EN = true ∧ s.bit ETH_TSCTL.ROLE = false ∧ s.bit ETH_TSSTAT.SYNCLOST =
      false)
    (((sUp.flag ETH_PCFG.EN true 1).flag ETH_PSTAT.LINK true 1).flag ETH_TSCTL.EN true) ∧
  (fun (s : State) (k : Nat) => s.ethOn = true ∧ k < 16 ∧ s.bit ETH_STR3.EN k = true ∧ (s.talker k).msgs ≠ [])
    (((({ sUp with eth := { (default : EthSt) with talk := [(3, { (default : Talker) with msgs := [[1, 2, 3, 4]], seq := 255 })] } }).flag ETH_PCFG.EN true 1).flag ETH_PSTAT.LINK true 1).flag ETH_STR3.EN true 3) 3 := by
  decide +kernel

theorem test_wit_EthernetAndStreams_3 :
  (fun (s : State) (p k : Nat) (m : List Byte) => k < 16 ∧ s.bit ETH_STR3.EN k = true ∧ s.bit ETH_STR4.DIR k = true ∧ s.ethUp
      p = true ∧ 0 < m.length ∧ m.length < 4)
    ((((sUp.flag ETH_PCFG.EN true 1).flag ETH_PSTAT.LINK true 1).flag ETH_STR3.EN true 3).flag ETH_STR4.DIR true 3) 1 3 [1, 2] ∧
  (fun (s : State) (p k r : Nat) (f : CanFrame) => k < 16 ∧ s.bit ETH_STR3.EN k = true ∧ s.bit ETH_STR4.DIR k = true ∧ s.ethUp
      p = true ∧ f = ⟨f.id % 2 ^ 29, f.ide, .classical, false, false, false, f.data.length, 0, 0, 0, false, f.data⟩ ∧
          f.data.length = 4 ∧ s.routeOf ⟨2, k, 5, 0⟩ f = some r ∧ s.fld GW_RT2.CANMASK r % 256 = 1 ∧ s.fld GW_RT2.LINMASK r =
              0 ∧ s.bit GW_RT2.TUN r = false ∧ s.bit GW_RT3.KEEPID r = true ∧ s.canSegment 0 = true ∧ (s.cp 0).activating =
              false ∧ (s.cp 0).gwFifo.length < 64)
    (((((((((((sUp.flag ETH_PCFG.EN true 1).flag ETH_PSTAT.LINK true 1).flag ETH_STR3.EN true 3).flag ETH_STR4.DIR true
        3).flag GW_RT2.VALID true 9).put GW_RT0.SRCT 2 9).put GW_RT2.SRCPORT 3 9).put GW_RT2.CANMASK 1 9).put GW_BUSID.BUSID
            31 9).flag GW_RT3.KEEPID true 9).setReg ⟨.NM_CLUSTP, 0, 0, 0⟩ 0x88888888) 1 3 9 ⟨0x123, false, .classical, false,
            false, false, 4, 0, 0, 0, false, [1, 2, 3, 4]⟩ := by
  decide +kernel

theorem test_wit_NetworkSleep_1 :
  (fun (s : State) (n : Nat) (f : CanFrame) (sof : Word) => s.isNmFrame n f = true ∧ s.canListens n = true ∧ s.active n = none
      ∧ s.bit CAN_STAT.LONELY n = false ∧ s.bit CAN_CFG.MON n = false ∧ s.filterOf n f = none ∧ (s.cp n).after = 0 ∧ s.nmSt =
          1 ∧ (f.data.getD 1 0).toNat = 2 ∧ (f.data.getD 2 0).toNat = 0 ∧ s.nmRole n = 1)
    (((((((sUp.flag NM_CFG.EN true).put NM_STAT.STATE 1).flag CAN_CFG.EN true 1).put NM_PORT.ROLE 1 1).put NM_PORT.NMID 0x500
        1).put NM_PORT.NMMASK 0x7FF 1).put CAN_STAT.STATE 2 1) 1 ⟨0x500, false, .classical, false, false, false, 4, 0, 0, 0,
            false, [1, 2, 0, 0]⟩ 5 ∧
  (fun (s : State) (n : Nat) => s.nmRuns = true ∧ s.nmSt = 0 ∧ n ∈ s.nmPorts ∧ s.nmRole n = 1 ∧ (s.cp n).nmSt ≠ bActive ∧
      (s.cp n).nmSt ≠ bPending ∧ (s.cp n).nmSt ≠ bHeld)
    ((((sUp.flag NM_CFG.EN true).put NM_STAT.STATE 0).flag CAN_CFG.EN true 1).put NM_PORT.ROLE 1 1) 1 ∧
  (fun (s : State) => s.nmRuns = true ∧ s.nmSt = 0 ∧ s.nmReady = true ∧ (s.nmPorts.all (fun n => s.nmRole n != 2) = true ∨
      s.bit NM_STAT.SLEEPCMD = true))
    (((sUp.flag NM_CFG.EN true).put NM_STAT.STATE 0).flag NM_CTL.READY true) ∧
  (fun (s : State) => s.nmRuns = true ∧ s.nmSt = 1)
    ((sUp.flag NM_CFG.EN true).put NM_STAT.STATE 1) ∧
  (fun (s : State) => s.nmRuns = true ∧ s.nmSt = 1 ∧ s.nm.pendOver = true ∧ s.nmPorts.all (fun n => (s.active n).isNone) = true)
    ((({ sUp with nm := { (default : NmSt) with pendOver := true } }).flag NM_CFG.EN true).put NM_STAT.STATE 1) := by
  decide +kernel

theorem test_wit_NetworkSleep_2 :
  (fun (s : State) => s.nmRuns = true ∧ s.nmSt = 2 ∧ s.nm.latched = none ∧ s.fld NM_STAT.PNACT = 0)
    ((sUp.flag NM_CFG.EN true).put NM_STAT.STATE 2) ∧
  (fun (s : State) (c : Nat) => s.nmRuns = true ∧ s.nmSt = 2 ∧ s.nm.latched = some c ∧ c < 8)
    ((({ sUp with nm := { (default : NmSt) with latched := some 4 } }).flag NM_CFG.EN true).put NM_STAT.STATE 2) 4 ∧
  (fun (s : State) (w : Who) => s.nmRuns = true ∧ s.nmSt = 1 ∧ s.reaches w 16 = true)
    ((sUp.flag NM_CFG.EN true).put NM_STAT.STATE 1) .host ∧
  (fun (s : State) (w : Who) => s.nmRuns = true ∧ s.nmSt = 2 ∧ s.nm.latched = none ∧ s.reaches w 16 = true)
    ((sUp.flag NM_CFG.EN true).put NM_STAT.STATE 2) .host ∧
  (fun (s : State) (w : Who) => s.nmRuns = true ∧ s.nmSt = 3 ∧ s.nm.wake = none ∧ s.reaches w 16 = true)
    ((sUp.flag NM_CFG.EN true).put NM_STAT.STATE 3) .host ∧
  (fun (s : State) (w : Who) (x : Word) => s.legalWrite w .NM_CTL x = true ∧ s.rwsBarred w ⟨.NM_CTL, 0, 0, 0⟩ x = false ∧
      (s.bit NM_CTL.READY = false ∨ ext x 0 1 = 1) ∧ s.reaches w 16 = true)
    ((sUp.flag NM_CFG.EN true).put NM_STAT.STATE 0) .host 0x101 ∧
  (fun (s : State) => s.nmRuns = true ∧ s.bit NM_CFG.LWEN = true ∧ s.line (s.fld NM_CFG.LWLINE) = true ∧ s.nm.line = false ∧
      s.nmSt = 1)
    ((((({ sUp with fab := { (default : FabSt) with lines := 2 } }).flag NM_CFG.EN true).put NM_STAT.STATE 1).flag NM_CFG.LWEN
        true).put NM_CFG.LWLINE 1) := by
  decide +kernel

theorem test_wit_NetworkSleep_3 :
  (fun (s : State) (c : Nat) => s.nmRuns = true ∧ s.nmSt = 3 ∧ s.nm.wake = some c ∧ c < 8)
    ((({ sUp with nm := { (default : NmSt) with wake := some 4 } }).flag NM_CFG.EN true).put NM_STAT.STATE 3) 4 ∧
  (fun (s : State) (k : Nat) => k < 8)
    (((sUp.flag NM_CFG.EN true).put NM_STAT.STATE 0).put NM_STAT.PNRX 4) 2 ∧
  (fun (s : State) (k : Nat) => k < 8)
    ((sUp.flag NM_CFG.EN true).put NM_STAT.STATE 0) 2 ∧
  (fun (s : State) (n : Nat) => s.canFitted n = true ∧ (s.cp n).actTimer = true)
    (sUp.setCp 1 { (default : CanSt) with actTimer := true }) 1 := by
  decide +kernel

theorem test_wit_SuppliesAndTransfer_1 :
  (fun (s : State) (v : Int) => s.bit PWR_STAT.MAINLO = false ∧ feedBelow v (s.fld PWR_CFG.VLO) = true ∧ s.bit PWR_STAT.BKLO =
      false ∧ s.pwr.returning = false ∧ s.pwr.cause = 0 ∧ s.fld PWR_STAT.PRSRC ≠ 1)
    ((sUp.put PWR_CFG.VLO 90).put PWR_CFG.VBKLO 90) 8000 ∧
  (fun (s : State) (v : Int) => s.bit PWR_STAT.MAINLO = false ∧ feedBelow v (s.fld PWR_CFG.VLO) = true ∧ s.bit PWR_STAT.BKLO =
      true ∧ s.pwr.returning = false ∧ s.pwr.cause = 0 ∧ s.fld PWR_STAT.PRSRC ≠ 1)
    ((sUp.put PWR_CFG.VLO 90).flag PWR_STAT.BKLO true) 8000 ∧
  (fun (s : State) (v : Int) => s.bit PWR_STAT.MAINLO = true ∧ feedAbove v (s.fld PWR_CFG.VLO + s.fld PWR_CFG.VHYS) = true ∧
      s.pwr.mainRev = false ∧ s.asleep = false)
    (((sUp.put PWR_CFG.VLO 90).put PWR_CFG.VHYS 5).flag PWR_STAT.MAINLO true) 12000 ∧
  (fun (s : State) (v : Int) => s.bit PWR_STAT.BKLO = false ∧ feedBelow v (s.fld PWR_CFG.VBKLO) = true)
    ((sUp.put PWR_CFG.VLO 90).put PWR_CFG.VBKLO 90) 8000 ∧
  (fun (s : State) (v : Int) => s.bit PWR_STAT.BKLO = true ∧ feedAbove v (s.fld PWR_CFG.VBKLO + s.fld PWR_CFG.VHYS) = true ∧
      s.fld PWR_STAT.PRSRC = 0 ∧ s.bit PWR_STAT.MAINLO = true ∧ s.bit PWR_STAT.MAINREV = false ∧ s.pwr.returning = false ∧
          s.pwr.cause = 0)
    ((((sUp.put PWR_CFG.VBKLO 90).put PWR_CFG.VHYS 5).flag PWR_STAT.BKLO true).flag PWR_STAT.MAINLO true) 12000 ∧
  (fun (s : State) (b : Bool) (v : Int) => s.bit PWR_STAT.MAINOV = false ∧ s.bit PWR_STAT.BKOV = false ∧ feedAbove v (s.fld
      PWR_CFG2.OVTH) = true)
    (sUp.put PWR_CFG2.OVTH 180) true 19000 := by
  decide +kernel

theorem test_wit_SuppliesAndTransfer_2 :
  (fun (s : State) (b : Bool) (v : Int) => s.bit PWR_STAT.MAINOV = true ∧ s.bit PWR_STAT.BKOV = true ∧ feedBelow v (s.fld
      PWR_CFG2.OVTH - 5) = true)
    (((sUp.put PWR_CFG2.OVTH 180).flag PWR_STAT.MAINOV true).flag PWR_STAT.BKOV true) true 15000 ∧
  (fun (s : State) (i : Nat) => 1000 ≤ i ∧ s.pwr.returning = false ∧ s.pwr.cause = 0 ∧ s.fld PWR_STAT.PRSRC ≠ 1 ∧ s.bit
      PWR_STAT.BKLO = false)
    sUp 9000 ∧
  (fun (s : State) => s.pwr.cause ≠ 0)
    (({ sUp with pwr := { (default : PwrSt) with cause := 1 } })) ∧
  (fun (s : State) (v : Nat) => (s.pwr.cause = 1 ∨ s.pwr.cause = 2 ∨ s.pwr.cause = 3) ∧ s.pwr.backOn = true)
    (({ sUp with pwr := { (default : PwrSt) with cause := 2, backOn := true } })) 9000 ∧
  (fun (s : State) (w : Who) => s.mode = 8 ∧ s.bit PWR_STAT.BKLO = false ∧ s.pwr.returning = false ∧ s.pwr.cause = 0 ∧ s.fld
      PWR_STAT.PRSRC ≠ 1 ∧ s.reaches w 1 = true)
    (sUp.put SYS_MODE.MODE 8) .host ∧
  (fun (s : State) (w : Who) => s.mainGood = true ∧ (s.bit PWR_STAT.FORCED = true ∨ s.bit PWR_CFG.RETMODE = true) ∧ s.reaches
      w 1 = true)
    ((sUp.put PWR_STAT.PRSRC 1).flag PWR_STAT.FORCED true) .host ∧
  (fun (s : State) => s.mainGood = true ∧ s.bit PWR_STAT.FORCED = false ∧ s.bit PWR_CFG.RETMODE = false)
    (sUp.put PWR_STAT.PRSRC 1) ∧
  (fun (s : State) (v : Nat) => s.pwr.returning = true)
    (({ sUp with pwr := { (default : PwrSt) with returning := true } })) 12000 := by
  decide +kernel

theorem test_wit_SuppliesAndTransfer_3 :
  (fun (s : State) (x : Int) => s.bit PWR_STAT.TBHOT = false ∧ 2 * (s.fld PWR_CFG2.TBWARN : Int) < x ∧ -256 ≤ x ∧ x < 256)
    (sUp.put PWR_CFG2.TBWARN 100) 210 ∧
  (fun (s : State) (x : Int) => s.bit PWR_STAT.TBHOT = true ∧ x ≤ 2 * (s.fld PWR_CFG2.TBWARN : Int) - 10 ∧ -256 ≤ x ∧ x < 256)
    ((sUp.put PWR_CFG2.TBWARN 100).flag PWR_STAT.TBHOT true) 190 := by
  decide +kernel

theorem test_wit_ConservatorReactions_1 :
  (fun (s : State) (r : Rep) (rs : List Rep) (g : Nat) => (s.bit FLT_STAT.AOK = true ∨ s.bit FLT_STAT.BOK = true) ∧
      s.flt.raised = r :: rs ∧ s.shadowed r.src = false ∧ r.inj = false ∧ s.fld FLT_INJSTAT.MODE = 0 ∧ s.sevOf r.src = 3 ∧
          s.groupOf r.src = some g ∧ g < 16 ∧ s.bit FLT_RGSTAT.SEQ g = false ∧ s.bit FLT_RGSTAT.SHWIN g = false ∧ s.isForced g
              = false)
    ((((({ sUp with flt := { (default : FltSt) with raised := [⟨srcId 5 1 0, 3, 9, true, true, false⟩] } }).flag FLT_STAT.AOK
        true).flag FLT_STAT.BOK true).put FLT_DEF.SEV 3 5).put FLT_DEF.RG 7 5) ⟨srcId 5 1 0, 3, 9, true, true, false⟩ [] 7 ∧
  (fun (s : State) (r : Rep) (rs : List Rep) => (s.bit FLT_STAT.AOK = true ∨ s.bit FLT_STAT.BOK = true) ∧ s.flt.raised = r ::
      rs ∧ s.shadowed r.src = false ∧ r.inj = false ∧ s.fld FLT_INJSTAT.MODE = 0 ∧ s.sevOf r.src = 1 ∧ s.bit MEM_STAT.INIT = true)
    ((((({ sUp with flt := { (default : FltSt) with raised := [⟨srcId 5 1 0, 3, 9, true, true, false⟩] } }).flag FLT_STAT.AOK
        true).flag FLT_STAT.BOK true).put FLT_DEF.SEV 1 5).flag MEM_STAT.INIT true) ⟨srcId 5 1 0, 3, 9, true, true, false⟩ [] ∧
  (fun (s : State) (r : Rep) (rs : List Rep) (g : Nat) => (s.bit FLT_STAT.AOK = true ∨ s.bit FLT_STAT.BOK = true) ∧
      s.flt.raised = r :: rs ∧ s.shadowed r.src = false ∧ r.inj = false ∧ s.fld FLT_INJSTAT.MODE = 0 ∧ s.sevOf r.src = 3 ∧
          s.groupOf r.src = some g ∧ g < 16 ∧ s.bit FLT_RGSTAT.SEQ g = true)
    (((((({ sUp with flt := { (default : FltSt) with raised := [⟨srcId 5 1 0, 3, 9, true, true, false⟩] } }).flag FLT_STAT.AOK
        true).flag FLT_STAT.BOK true).put FLT_DEF.SEV 3 5).put FLT_DEF.RG 7 5).flag FLT_RGSTAT.SEQ true 7) ⟨srcId 5 1 0, 3, 9,
            true, true, false⟩ [] 7 ∧
  (fun (s : State) (g : Nat) => g < 16 ∧ s.bit FLT_RGSTAT.SEQ g = true)
    (((sUp.flag FLT_STAT.AOK true).flag FLT_STAT.BOK true).flag FLT_RGSTAT.SEQ true 7) 7 := by
  decide +kernel

theorem test_wit_ConservatorReactions_2 :
  (fun (s : State) (g : Nat) => g < 16 ∧ s.bit FLT_RGSTAT.SHWIN g = true)
    (((sUp.flag FLT_STAT.AOK true).flag FLT_STAT.BOK true).flag FLT_RGSTAT.SHWIN true 7) 7 ∧
  (fun (s : State) (x : BitVec 64) (xs : List (BitVec 64)) => s.bit MEM_STAT.INIT = true ∧ (s.bit FLT_STAT.AOK = true ∨ s.bit
      FLT_STAT.BOK = true) ∧ s.flt.logq = x :: xs)
    (((({ sUp with flt := { (default : FltSt) with logq := [0x123456789ABCDEF0, 7] } }).flag FLT_STAT.AOK true).flag
        FLT_STAT.BOK true).flag MEM_STAT.INIT true) 0x123456789ABCDEF0 [7] ∧
  (fun (s : State) => s.bit MEM_STAT.INIT = true ∧ (s.bit FLT_STAT.AOK = true ∨ s.bit FLT_STAT.BOK = true))
    (((({ sUp with flt := { (default : FltSt) with logq := [0x123456789ABCDEF0, 7] } }).flag FLT_STAT.AOK true).flag
        FLT_STAT.BOK true).flag MEM_STAT.INIT true) ∧
  (fun (s : State) (w : Who) (g : Nat) => g < 16 ∧ s.mode ≠ 11 ∧ s.releasable g = true ∧ s.reaches w 18 = true)
    (((({ sUp with flt := { (default : FltSt) with forceA := 128, forceB := 128 } }).flag FLT_STAT.AOK true).flag FLT_STAT.BOK
        true).put FLT_STAT.FORCED 128) .host 7 ∧
  (fun (s : State) (w : Who) (g : Nat) => g < 16 ∧ s.mode ≠ 11 ∧ s.releasable g = false ∧ s.reaches w 18 = true)
    ((sUp.flag FLT_STAT.AOK true).flag FLT_STAT.BOK true) .host 7 ∧
  (fun (s : State) (g : Nat) => g < 16 ∧ s.bit FLT_RGCTL.AUTOREL g = true ∧ s.releasable g = true)
    ((((({ sUp with flt := { (default : FltSt) with forceA := 128, forceB := 128 } }).flag FLT_STAT.AOK true).flag
        FLT_STAT.BOK true).put FLT_STAT.FORCED 128).flag FLT_RGCTL.AUTOREL true 7) 7 ∧
  (fun (s : State) (m : BitVec 6) => s.mode ≠ 11)
    (((sUp.flag FLT_STAT.AOK true).flag FLT_STAT.BOK true).put FLT_ATTN.PEND 63) 5 ∧
  (fun (s : State) (w : Who) (a : Nat) => s.mode = 8 ∧ 0x600000 ≤ a ∧ a < 0x601000 ∧ s.reaches w 18 = true)
    (((sUp.flag FLT_STAT.AOK true).flag FLT_STAT.BOK true).put SYS_MODE.MODE 8) .host 0x600004 := by
  decide +kernel

theorem test_wit_ConservatorReactions_3 :
  (fun (s : State) => s.mode ≠ 11)
    (((sUp.flag FLT_STAT.AOK true).flag FLT_STAT.BOK true).put FLT_LOST.CNT 8) ∧
  (fun (s : State) (w : Who) (x k : Nat) => 3 ≤ s.mode ∧ s.mode ≤ 8 ∧ x / 512 < 14 ∧ s.fld FLT_INJSTAT.MODE = 0 ∧ 0 < k ∧ k <
      256 ∧ s.reaches w 18 = true)
    (((sUp.flag FLT_STAT.AOK true).flag FLT_STAT.BOK true).put SYS_MODE.MODE 3) .host (srcId 5 1 0) 9 ∧
  (fun (s : State) (w : Who) (x k : Nat) => s.mode = 8 ∧ x / 512 < 14 ∧ s.fld FLT_INJSTAT.MODE = 0 ∧ 0 < k ∧ k < 256 ∧
      s.reaches w 18 = true)
    (((sUp.flag FLT_STAT.AOK true).flag FLT_STAT.BOK true).put SYS_MODE.MODE 8) .host (srcId 5 1 0) 9 ∧
  (fun (s : State) => s.mode ≠ 11 ∧ s.fld FLT_INJSTAT.MODE ≠ 0)
    (((sUp.flag FLT_STAT.AOK true).flag FLT_STAT.BOK true).put FLT_INJSTAT.MODE 1) ∧
  (fun (s : State) => s.fld FLT_INJSTAT.MODE ≠ 0)
    (((sUp.flag FLT_STAT.AOK true).flag FLT_STAT.BOK true).put FLT_INJSTAT.MODE 1) := by
  decide +kernel

theorem test_wit_ConservatorSelfCheck_1 :
  (fun (s : State) (d : HalfDec) => s.bit FLT_STAT.AOK = true ∧ s.bit FLT_STAT.BOK = true)
    ((({ sUp with flt := { (default : FltSt) with missA := 2 } }).flag FLT_STAT.AOK true).flag FLT_STAT.BOK true) default ∧
  (fun (s : State) (a b : HalfDec) => s.bit FLT_STAT.AOK = true ∧ s.bit FLT_STAT.BOK = true ∧ a ≠ b)
    ((sUp.flag FLT_STAT.AOK true).flag FLT_STAT.BOK true) ⟨1, []⟩ ⟨2, []⟩ ∧
  (fun (s : State) (d : HalfDec) => s.bit FLT_STAT.AOK = true ∧ s.bit FLT_STAT.BOK = true ∧ s.flt.missA = 2)
    ((({ sUp with flt := { (default : FltSt) with missA := 2 } }).flag FLT_STAT.AOK true).flag FLT_STAT.BOK true) default ∧
  (fun (s : State) (h : Half) => s.halfOk h = true)
    ((sUp.flag FLT_STAT.AOK true).flag FLT_STAT.BOK true) .B ∧
  (fun (s : State) (h : Half) (k : Nat) => s.halfOk h = true ∧ 0 < k ∧ k < 16)
    ((sUp.flag FLT_STAT.AOK true).flag FLT_STAT.BOK true) .B 3 ∧
  (fun (s : State) (w : Who) => s.mode = 8 ∧ s.bit TST_STAT.BUSY = false ∧ s.reaches w 22 = true)
    (((sUp.flag FLT_STAT.AOK true).flag FLT_STAT.BOK true).put SYS_MODE.MODE 8) .host ∧
  (fun (s : State) (w : Who) => s.mode = 8 ∧ s.bit TST_STAT.BUSY = false ∧ s.reaches w 22 = true)
    (((sUp.flag FLT_STAT.AOK true).flag FLT_STAT.BOK true).put SYS_MODE.MODE 8) .host ∧
  (fun (s : State) (w : Who) => s.mode = 8 ∧ s.bit TST_STAT.BUSY = false ∧ s.reaches w 22 = true)
    (((sUp.flag FLT_STAT.AOK true).flag FLT_STAT.BOK true).put SYS_MODE.MODE 8) .host := by
  decide +kernel

theorem test_wit_ConservatorSelfCheck_2 :
  (fun (s : State) (w : Who) (g : Nat) => s.mode = 8 ∧ s.bit TST_STAT.BUSY = false ∧ g < 16 ∧ s.reaches w 22 = true)
    (((sUp.flag FLT_STAT.AOK true).flag FLT_STAT.BOK true).put SYS_MODE.MODE 8) .host 7 ∧
  (fun (s : State) (k : Nat) => s.bit TST_STAT.BUSY = true ∧ (s.flt.test = .selfA ∨ s.flt.test = .selfB) ∧ k < 16)
    (((({ sUp with flt := { (default : FltSt) with test := .selfA } }).flag FLT_STAT.AOK true).flag FLT_STAT.BOK true).flag
        TST_STAT.BUSY true) 3 ∧
  (fun (s : State) (k : Nat) => s.bit TST_STAT.BUSY = true ∧ s.flt.test ≠ .selfA ∧ s.flt.test ≠ .selfB)
    (((({ sUp with flt := { (default : FltSt) with test := .compare } }).flag FLT_STAT.AOK true).flag FLT_STAT.BOK true).flag
        TST_STAT.BUSY true) 3 := by
  decide +kernel

theorem test_wit_TwinFrames_1 :
  (fun (s : State) (n : Nat) (p : List Byte) (u : TwUnit) => s.isPair = true ∧ s.fld TWN_STAT.LINK ≠ 0 ∧ s.pairKey.isSome =
      true ∧ s.twn.session.length = 8 ∧ n = s.twn.rxNext ∧ n < 4294967295 ∧ p.length ≤ 1024 ∧ p.length % 4 = 0 ∧ s.isDeputy =
          true ∧ unitOk p = true ∧ fieldAt p 1 1 = 1 ∧ s.twn.unit = some u ∧ u.ctx = fieldAt p 0 1 ∧ u.next = 1)
    (((({ State.reset with sys := { (default : SysSt) with phase := .run, fabricUp := true }, cat := { (default : CatSt) with loaded := true, cat := { (default : Catalogue) with pair := true } }, key := { (default : KeySt) with slots := [((0, false), ⟨true, 1, 0, false, []⟩)] }, twn := { (default : TwnSt) with session := [1, 2, 3, 4, 5, 6, 7, 8], unit := some ⟨9, 1, [], []⟩ } }).put TWN_STAT.LINK 3).put TWN_STAT.ROLE 1).put SYS_MODE.MODE 3) 0 [9, 1, 1, 0, 0, 0, 32, 0, 5, 6, 7, 8] ⟨9, 1, [], []⟩ ∧
  (fun (s : State) (n c : Nat) (p : List Byte) => s.isPair = true ∧ s.fld TWN_STAT.LINK ≠ 0 ∧ s.pairKey.isSome = true ∧
      s.twn.session.length = 8 ∧ n = s.twn.rxNext ∧ n < 4294967295 ∧ p.length ≤ 1024 ∧ p.length % 4 = 0 ∧ s.isDeputy = true ∧
          unitOk p = true ∧ fieldAt p 1 1 = 128 ∧ fieldAt p 2 2 = 0 ∧ c = fieldAt p 0 1 ∧ s.mirrored c = true ∧ s.cst c = stHeld)
    (((((({ State.reset with sys := { (default : SysSt) with phase := .run, fabricUp := true }, cat := { (default : CatSt) with loaded := true, cat := { (default : Catalogue) with pair := true } }, key := { (default : KeySt) with slots := [((0, false), ⟨true, 1, 0, false, []⟩)] }, twn := { (default : TwnSt) with session := [1, 2, 3, 4, 5, 6, 7, 8] } }).put TWN_STAT.LINK 3).put TWN_STAT.ROLE 1).put SYS_MODE.MODE 3).setReg ⟨.TWN_CTXM, 0, 0, 0⟩ 0xFFFFFFFF).put CTXC_STAT.STATE 5 9) 0 9 (9 :: 128 :: List.replicate 274 0) := by
  decide +kernel

theorem test_wit_TwinFrames_2 :
  (fun (s : State) (n g b : Nat) => s.isPair = true ∧ s.fld TWN_STAT.LINK ≠ 0 ∧ s.pairKey.isSome = true ∧ s.twn.session.length
      = 8 ∧ n = s.twn.rxNext ∧ n < 4294967295 ∧ s.isDeputy = true ∧ g < 16 ∧ b < 2)
    (((({ State.reset with sys := { (default : SysSt) with phase := .run, fabricUp := true }, cat := { (default : CatSt) with loaded := true, cat := { (default : Catalogue) with pair := true } }, key := { (default : KeySt) with slots := [((0, false), ⟨true, 1, 0, false, []⟩)] }, twn := { (default : TwnSt) with session := [1, 2, 3, 4, 5, 6, 7, 8] } }).put TWN_STAT.LINK 3).put TWN_STAT.ROLE 1).put SYS_MODE.MODE 3) 0 5 1 ∧
  (fun (s : State) (n : Nat) (w : Word) => s.isPair = true ∧ s.fld TWN_STAT.LINK ≠ 0 ∧ s.pairKey.isSome = true ∧
      s.twn.session.length = 8 ∧ n = s.twn.rxNext ∧ n < 4294967295 ∧ s.isDeputy = true)
    (((({ State.reset with sys := { (default : SysSt) with phase := .run, fabricUp := true }, cat := { (default : CatSt) with loaded := true, cat := { (default : Catalogue) with pair := true } }, key := { (default : KeySt) with slots := [((0, false), ⟨true, 1, 0, false, []⟩)] }, twn := { (default : TwnSt) with session := [1, 2, 3, 4, 5, 6, 7, 8] } }).put TWN_STAT.LINK 3).put TWN_STAT.ROLE 1).put SYS_MODE.MODE 3) 0 5 ∧
  (fun (s : State) (n m st_ rt : Nat) => s.isPair = true ∧ s.fld TWN_STAT.LINK ≠ 0 ∧ s.pairKey.isSome = true ∧
      s.twn.session.length = 8 ∧ n = s.twn.rxNext ∧ n < 4294967295 ∧ s.isDeputy = true ∧ m < 16 ∧ s.twinned (8 + m) = true ∧
          st_ < 8 ∧ rt < 256)
    ((((({ State.reset with sys := { (default : SysSt) with phase := .run, fabricUp := true }, cat := { (default : CatSt) with loaded := true, cat := { (default : Catalogue) with pair := true } }, key := { (default : KeySt) with slots := [((0, false), ⟨true, 1, 0, false, []⟩)] }, twn := { (default : TwnSt) with session := [1, 2, 3, 4, 5, 6, 7, 8] } }).put TWN_STAT.LINK 3).put TWN_STAT.ROLE 1).put SYS_MODE.MODE 3).put TWN_MAP.TWIN 65535) 0 3 4 2 := by
  decide +kernel

theorem test_wit_TwinFrames_3 :
  (fun (s : State) (n k b : Nat) (w : Word) => s.isPair = true ∧ s.fld TWN_STAT.LINK ≠ 0 ∧ s.pairKey.isSome = true ∧
      s.twn.session.length = 8 ∧ n = s.twn.rxNext ∧ n < 4294967295 ∧ s.isDeputy = true ∧ k < nCan s.variant ∧ b < 32)
    (((({ State.reset with sys := { (default : SysSt) with phase := .run, fabricUp := true }, cat := { (default : CatSt) with loaded := true, cat := { (default : Catalogue) with pair := true } }, key := { (default : KeySt) with slots := [((0, false), ⟨true, 1, 0, false, []⟩)] }, twn := { (default : TwnSt) with session := [1, 2, 3, 4, 5, 6, 7, 8] } }).put TWN_STAT.LINK 3).put TWN_STAT.ROLE 1).put SYS_MODE.MODE 3) 0 1 3 5 ∧
  (fun (s : State) (n : Nat) (x : BitVec 64) => s.isPair = true ∧ s.fld TWN_STAT.LINK ≠ 0 ∧ s.pairKey.isSome = true ∧
      s.twn.session.length = 8 ∧ n = s.twn.rxNext ∧ n < 4294967295 ∧ s.sfld TWN_TOFF.OFFSET = 0 ∧ s.memUp = true)
    ((((({ State.reset with sys := { (default : SysSt) with phase := .run, fabricUp := true }, cat := { (default : CatSt) with loaded := true, cat := { (default : Catalogue) with pair := true } }, key := { (default : KeySt) with slots := [((0, false), ⟨true, 1, 0, false, []⟩)] }, twn := { (default : TwnSt) with session := [1, 2, 3, 4, 5, 6, 7, 8] } }).put TWN_STAT.LINK 3).put TWN_STAT.ROLE 1).put SYS_MODE.MODE 3).flag MEM_STAT.INIT true) 0 0x123456789ABCDEF0 := by
  decide +kernel

theorem test_wit_TwinFrames_4 :
  (fun (s : State) (n ack role mode : Nat) => s.isPair = true ∧ s.fld TWN_STAT.LINK ≠ 0 ∧ s.pairKey.isSome = true ∧
      s.twn.session.length = 8 ∧ n = s.twn.rxNext ∧ n < 4294967295 ∧ s.fld TWN_STAT.LINK = 3 ∧ s.twn.endSeq = none ∧
          s.twn.failback = false ∧ s.twn.noLink = false ∧ s.twn.toffAt = some s.tb ∧ ack < 2 ^ 31 ∧ role < 3 ∧ mode < 12)
    (((({ State.reset with sys := { (default : SysSt) with phase := .run, fabricUp := true }, cat := { (default : CatSt) with loaded := true, cat := { (default : Catalogue) with pair := true } }, key := { (default : KeySt) with slots := [((0, false), ⟨true, 1, 0, false, []⟩)] }, twn := { (default : TwnSt) with session := [1, 2, 3, 4, 5, 6, 7, 8], toffAt := some 0, sent := [⟨1, 0, 5, []⟩, ⟨9, 0, 5, []⟩] } }).put TWN_STAT.LINK 3).put TWN_STAT.ROLE 1).put SYS_MODE.MODE 3) 0 4 2 3 ∧
  (fun (s : State) (n : Nat) => s.isPair = true ∧ s.fld TWN_STAT.LINK ≠ 0 ∧ s.pairKey.isSome = true ∧ s.twn.session.length = 8
      ∧ n = s.twn.rxNext ∧ n < 4294967295 ∧ s.isDeputy = true ∧ s.twn.pMode = s.mode)
    ((((({ State.reset with sys := { (default : SysSt) with phase := .run, fabricUp := true }, cat := { (default : CatSt) with loaded := true, cat := { (default : Catalogue) with pair := true } }, key := { (default : KeySt) with slots := [((0, false), ⟨true, 1, 0, false, []⟩)] }, twn := { (default : TwnSt) with session := [1, 2, 3, 4, 5, 6, 7, 8], pMode := 3 } }).put TWN_STAT.LINK 2).put TWN_STAT.ROLE 1).put SYS_MODE.MODE 3).flag TWN_STAT.STALE true) 0 := by
  decide +kernel

theorem test_wit_TwinFrames_5 :
  (fun (s : State) (n r : Nat) (b0 b1 b2 b3 : Byte) => s.isPair = true ∧ s.fld TWN_STAT.LINK ≠ 0 ∧ s.pairKey.isSome = true ∧
      s.twn.session.length = 8 ∧ n = s.twn.rxNext ∧ n < 4294967295 ∧ s.isDeputy = true ∧ r < 8 ∧ s.fld TWN_MREG.SIZE r ≠ 0 ∧
          0x200000 + 64 * s.fld TWN_MREG.BASE r < 0x280000)
    ((((({ State.reset with sys := { (default : SysSt) with phase := .run, fabricUp := true }, cat := { (default : CatSt) with loaded := true, cat := { (default : Catalogue) with pair := true } }, key := { (default : KeySt) with slots := [((0, false), ⟨true, 1, 0, false, []⟩)] }, twn := { (default : TwnSt) with session := [1, 2, 3, 4, 5, 6, 7, 8] } }).put TWN_STAT.LINK 2).put TWN_STAT.ROLE 1).put SYS_MODE.MODE 3).put TWN_MREG.SIZE 1 3) 0 3 1 2 3 4 ∧
  (fun (s : State) (n c : Nat) => s.isPair = true ∧ s.fld TWN_STAT.LINK ≠ 0 ∧ s.pairKey.isSome = true ∧ s.twn.session.length =
      8 ∧ n = s.twn.rxNext ∧ n < 4294967295 ∧ s.isDeputy = true ∧ (c = 1 ∨ c = 2))
    (((({ State.reset with sys := { (default : SysSt) with phase := .run, fabricUp := true }, cat := { (default : CatSt) with loaded := true, cat := { (default : Catalogue) with pair := true } }, key := { (default : KeySt) with slots := [((0, false), ⟨true, 1, 0, false, []⟩)] }, twn := { (default : TwnSt) with session := [1, 2, 3, 4, 5, 6, 7, 8] } }).put TWN_STAT.LINK 3).put TWN_STAT.ROLE 1).put SYS_MODE.MODE 3) 0 2 ∧
  (fun (s : State) (n : Nat) => s.isPair = true ∧ s.fld TWN_STAT.LINK ≠ 0 ∧ s.pairKey.isSome = true ∧ s.twn.session.length = 8
      ∧ n = s.twn.rxNext ∧ n < 4294967295 ∧ s.twn.handover = true)
    (((({ State.reset with sys := { (default : SysSt) with phase := .run, fabricUp := true }, cat := { (default : CatSt) with loaded := true, cat := { (default : Catalogue) with pair := true } }, key := { (default : KeySt) with slots := [((0, false), ⟨true, 1, 0, false, []⟩)] }, twn := { (default : TwnSt) with session := [1, 2, 3, 4, 5, 6, 7, 8], handover := true } }).put TWN_STAT.LINK 3).put TWN_STAT.ROLE 0).put SYS_MODE.MODE 3) 0 := by
  decide +kernel

theorem test_wit_TwinFrames_6 :
  (fun (s : State) (m q : Word) (role mode : Nat) => s.isPair = true ∧ s.fld TWN_STAT.LINK ≠ 0 ∧ s.pairKey.isSome = true ∧
      s.fld TWN_STAT.LINK = 1 ∧ s.twn.session = [] ∧ s.twn.noLink = false ∧ role < 3 ∧ mode < 12 ∧ q = s.twn.nonce ∧ s.bit
          TWN_STAT.STRAP = false ∧ s.cat.cat.uidD.length = 16)
    ((({ State.reset with sys := { (default : SysSt) with phase := .run }, cat := { (default : CatSt) with loaded := true, cat := { (default : Catalogue) with pair := true, uidD := List.replicate 16 7 } }, key := { (default : KeySt) with slots := [((0, false), ⟨true, 1, 0, false, []⟩)] }, twn := { (default : TwnSt) with nonce := 5 } }).put TWN_STAT.LINK 1).put TWN_STAT.ROLE 1) 9 5 1 3 := by
  decide +kernel

theorem test_wit_TwinLinkAndRoles_1 :
  (fun (s : State) => s.isPair = true ∧ s.sys.phase = .run ∧ s.pairKey.isSome = true ∧ s.fld TWN_STAT.LINK = 0)
    (((({ State.reset with sys := { (default : SysSt) with phase := .run, fabricUp := true }, cat := { (default : CatSt) with loaded := true, cat := { (default : Catalogue) with pair := true } }, key := { (default : KeySt) with slots := [((0, false), ⟨true, 1, 0, false, []⟩)] }, twn := { (default : TwnSt) with session := [1, 2, 3, 4, 5, 6, 7, 8] } }).put TWN_STAT.LINK 0).put TWN_STAT.ROLE 1).put SYS_MODE.MODE 3) ∧
  (fun (s : State) => s.isPair = true ∧ s.sys.phase = .run ∧ s.pairKey.isSome = true ∧ s.twn.session ≠ [] ∧ s.twn.failback =
      false ∧ s.isDeputy = true)
    (((({ State.reset with sys := { (default : SysSt) with phase := .run, fabricUp := true }, cat := { (default : CatSt) with loaded := true, cat := { (default : Catalogue) with pair := true } }, key := { (default : KeySt) with slots := [((0, false), ⟨true, 1, 0, false, []⟩)] }, twn := { (default : TwnSt) with session := [1, 2, 3, 4, 5, 6, 7, 8] } }).put TWN_STAT.LINK 3).put TWN_STAT.ROLE 1).put SYS_MODE.MODE 3) ∧
  (fun (s : State) => s.ships = true ∧ s.twins ≠ [])
    ((((({ State.reset with sys := { (default : SysSt) with phase := .run, fabricUp := true }, cat := { (default : CatSt) with loaded := true, cat := { (default : Catalogue) with pair := true } }, key := { (default : KeySt) with slots := [((0, false), ⟨true, 1, 0, false, []⟩)] }, twn := { (default : TwnSt) with session := [1, 2, 3, 4, 5, 6, 7, 8] } }).put TWN_STAT.LINK 3).put TWN_STAT.ROLE 0).put SYS_MODE.MODE 3).put TWN_MAP.TWIN 3) ∧
  (fun (s : State) => 2 ≤ s.fld TWN_STAT.LINK)
    (((({ State.reset with sys := { (default : SysSt) with phase := .run, fabricUp := true }, cat := { (default : CatSt) with loaded := true, cat := { (default : Catalogue) with pair := true } }, key := { (default : KeySt) with slots := [((0, false), ⟨true, 1, 0, false, []⟩)] }, twn := { (default : TwnSt) with session := [1, 2, 3, 4, 5, 6, 7, 8] } }).put TWN_STAT.LINK 3).put TWN_STAT.ROLE 1).put SYS_MODE.MODE 3) ∧
  (fun (s : State) (l : Nat) => l < 2 ∧ bitOf (s.fld TWN_STAT.LANES) l = true)
    ((((({ State.reset with sys := { (default : SysSt) with phase := .run, fabricUp := true }, cat := { (default : CatSt) with loaded := true, cat := { (default : Catalogue) with pair := true } }, key := { (default : KeySt) with slots := [((0, false), ⟨true, 1, 0, false, []⟩)] }, twn := { (default : TwnSt) with session := [1, 2, 3, 4, 5, 6, 7, 8] } }).put TWN_STAT.LINK 3).put TWN_STAT.ROLE 1).put SYS_MODE.MODE 3).put TWN_STAT.LANES 3) 1 ∧
  (fun (s : State) (l : Nat) => s.isPair = true ∧ s.sys.phase = .run ∧ s.pairKey.isSome = true ∧ l < 2)
    (((({ State.reset with sys := { (default : SysSt) with phase := .run, fabricUp := true }, cat := { (default : CatSt) with loaded := true, cat := { (default : Catalogue) with pair := true } }, key := { (default : KeySt) with slots := [((0, false), ⟨true, 1, 0, false, []⟩)] }, twn := { (default : TwnSt) with session := [1, 2, 3, 4, 5, 6, 7, 8] } }).put TWN_STAT.LINK 3).put TWN_STAT.ROLE 1).put SYS_MODE.MODE 3) 1 ∧
  (fun (s : State) => s.twn.confirmed = true ∧ s.mayTakeOver = true)
    ((((({ State.reset with sys := { (default : SysSt) with phase := .run, fabricUp := true }, cat := { (default : CatSt) with loaded := true, cat := { (default : Catalogue) with pair := true } }, key := { (default : KeySt) with slots := [((0, false), ⟨true, 1, 0, false, []⟩)] }, twn := { (default : TwnSt) with session := [1, 2, 3, 4, 5, 6, 7, 8], confirmed := true, seenHigh := true } }).put TWN_STAT.LINK 3).put TWN_STAT.ROLE 1).put SYS_MODE.MODE 3).flag TWN_STAT.TWOKO true) ∧
  (fun (s : State) => s.twn.handover = true)
    (((({ State.reset with sys := { (default : SysSt) with phase := .run, fabricUp := true }, cat := { (default : CatSt) with loaded := true, cat := { (default : Catalogue) with pair := true } }, key := { (default : KeySt) with slots := [((0, false), ⟨true, 1, 0, false, []⟩)] }, twn := { (default : TwnSt) with session := [1, 2, 3, 4, 5, 6, 7, 8], handover := true } }).put TWN_STAT.LINK 3).put TWN_STAT.ROLE 0).put SYS_MODE.MODE 3) := by
  decide +kernel

theorem test_wit_TwinLinkAndRoles_2 :
  (fun (s : State) => s.twn.choosing = true)
    (((({ State.reset with sys := { (default : SysSt) with phase := .run, fabricUp := true }, cat := { (default : CatSt) with loaded := true, cat := { (default : Catalogue) with pair := true } }, key := { (default : KeySt) with slots := [((0, false), ⟨true, 1, 0, false, []⟩)] }, twn := { (default : TwnSt) with session := [1, 2, 3, 4, 5, 6, 7, 8], choosing := true } }).put TWN_STAT.LINK 3).put TWN_STAT.ROLE 0).put SYS_MODE.MODE 3) ∧
  (fun (s : State) => s.twn.choosing = false ∧ s.isPair = true ∧ s.twn.startLow = true ∧ s.isDeputy = true ∧ s.bit
      TWN_STAT.STRAP = true ∧ s.bit TWN_STAT.TWOKI = false)
    ((((({ State.reset with sys := { (default : SysSt) with phase := .run, fabricUp := true }, cat := { (default : CatSt) with loaded := true, cat := { (default : Catalogue) with pair := true } }, key := { (default : KeySt) with slots := [((0, false), ⟨true, 1, 0, false, []⟩)] }, twn := { (default : TwnSt) with session := [1, 2, 3, 4, 5, 6, 7, 8], startLow := true } }).put TWN_STAT.LINK 3).put TWN_STAT.ROLE 1).put SYS_MODE.MODE 3).flag TWN_STAT.STRAP true) ∧
  (fun (s : State) (w : Who) => s.isPair = true ∧ s.fld TWN_STAT.ROLE = 2 ∧ s.bit TWN_STAT.TWOKI = true ∧ s.fld TWN_STAT.LINK
      = 3 ∧ s.twn.pRole = some 1 ∧ s.mirCtxs = [] ∧ s.twn.due = [] ∧ s.reaches w 17 = true)
    ((((({ State.reset with sys := { (default : SysSt) with phase := .run, fabricUp := true }, cat := { (default : CatSt) with loaded := true, cat := { (default : Catalogue) with pair := true } }, key := { (default : KeySt) with slots := [((0, false), ⟨true, 1, 0, false, []⟩)] }, twn := { (default : TwnSt) with session := [1, 2, 3, 4, 5, 6, 7, 8], pRole := some 1 } }).put TWN_STAT.LINK 3).put TWN_STAT.ROLE 2).put SYS_MODE.MODE 3).flag TWN_STAT.TWOKI true) .host ∧
  (fun (s : State) (w : Who) => s.isPair = true ∧ s.linkUp = true ∧ s.twinRest = true ∧ s.reaches w 17 = true)
    (((({ State.reset with sys := { (default : SysSt) with phase := .run, fabricUp := true }, cat := { (default : CatSt) with loaded := true, cat := { (default : Catalogue) with pair := true } }, key := { (default : KeySt) with slots := [((0, false), ⟨true, 1, 0, false, []⟩)] }, twn := { (default : TwnSt) with session := [1, 2, 3, 4, 5, 6, 7, 8] } }).put TWN_STAT.LINK 3).put TWN_STAT.ROLE 1).put SYS_MODE.MODE 3) .host := by
  decide +kernel

theorem test_wit_KeyCommands_1 :
  (fun (s : State) (w : Who) (c f : Nat) => s.key.work = none ∧ s.key.applyWait = false ∧ s.mode = 8 ∧ s.sealed = false ∧ c <
      4 ∧ c ≠ 0 ∧ s.reaches w 19 = true)
    (({ State.reset with sys := { (default : SysSt) with phase := .run, fabricUp := true }, key := { (default : KeySt) with slots := [((0, false), ⟨true, 1, 63, false, List.replicate 32 9⟩), ((4, false), ⟨true, 6, 63, false, List.replicate 32 9⟩)] } }).put SYS_MODE.MODE 8) .host 3 7 ∧
  (fun (s : State) (w : Who) => s.key.work = none ∧ s.key.applyWait = false ∧ s.mode = 8 ∧ s.sealed = false ∧ s.activeCopy 0 =
      none ∧ s.reaches w 19 = true)
    ({ ({ State.reset with sys := { (default : SysSt) with phase := .run, fabricUp := true }, key := { (default : KeySt) with slots := [((0, false), ⟨true, 1, 63, false, List.replicate 32 9⟩), ((4, false), ⟨true, 6, 63, false, List.replicate 32 9⟩)] } }).put SYS_MODE.MODE 8 with key := default }) .host ∧
  (fun (s : State) (w : Who) => s.key.work = none ∧ s.key.applyWait = false ∧ s.mode = 8 ∧ s.sealed = false ∧ s.activeCopy 0 ≠
      none ∧ s.reaches w 19 = true)
    (({ State.reset with sys := { (default : SysSt) with phase := .run, fabricUp := true }, key := { (default : KeySt) with slots := [((0, false), ⟨true, 1, 63, false, List.replicate 32 9⟩), ((4, false), ⟨true, 6, 63, false, List.replicate 32 9⟩)] } }).put SYS_MODE.MODE 8) .host ∧
  (fun (s : State) (w : Who) (i : Nat) => s.key.work = none ∧ s.key.applyWait = false ∧ s.mode = 8 ∧ s.sealed = false ∧ i < 2
      ∧ s.reaches w 19 = true)
    (({ State.reset with sys := { (default : SysSt) with phase := .run, fabricUp := true }, key := { (default : KeySt) with slots := [((0, false), ⟨true, 1, 63, false, List.replicate 32 9⟩), ((4, false), ⟨true, 6, 63, false, List.replicate 32 9⟩)] } }).put SYS_MODE.MODE 8) .host 1 ∧
  (fun (s : State) (w : Who) => s.key.work = none ∧ s.key.applyWait = false ∧ s.key.lockout = false ∧ s.reaches w 19 = true)
    (({ State.reset with sys := { (default : SysSt) with phase := .run, fabricUp := true }, key := { (default : KeySt) with slots := [((0, false), ⟨true, 1, 63, false, List.replicate 32 9⟩), ((4, false), ⟨true, 6, 63, false, List.replicate 32 9⟩)] } }).put SYS_MODE.MODE 8) .host := by
  decide +kernel

theorem test_wit_KeyCommands_2 :
  (fun (s : State) (w : Who) => s.key.work = none ∧ s.key.applyWait = false ∧ s.key.nonceLive = false ∧ s.reaches w 19 = true)
    (({ State.reset with sys := { (default : SysSt) with phase := .run, fabricUp := true }, key := { (default : KeySt) with slots := [((0, false), ⟨true, 1, 63, false, List.replicate 32 9⟩), ((4, false), ⟨true, 6, 63, false, List.replicate 32 9⟩)] } }).put SYS_MODE.MODE 8) .host ∧
  (fun (s : State) (w : Who) => s.key.work = none ∧ s.key.applyWait = false ∧ s.reaches w 19 = true)
    (({ State.reset with sys := { (default : SysSt) with phase := .run, fabricUp := true }, key := { (default : KeySt) with slots := [((0, false), ⟨true, 1, 63, false, List.replicate 32 9⟩), ((4, false), ⟨true, 6, 63, false, List.replicate 32 9⟩)], cache := [⟨4, false, []⟩] } }).put SYS_MODE.MODE 8) .host ∧
  (fun (s : State) (c : Nat) (b : Bool) (k : KeyCopy) => c < 32 ∧ s.key.work = some (.plain c b k))
    (({ State.reset with sys := { (default : SysSt) with phase := .run, fabricUp := true }, key := { (default : KeySt) with slots := [((0, false), ⟨true, 1, 63, false, List.replicate 32 9⟩), ((4, false), ⟨true, 6, 63, false, List.replicate 32 9⟩)], work := some (.plain 3 true ⟨true, 2, 5, false, [1]⟩) } }).put SYS_MODE.MODE 8) 3 true ⟨true, 2, 5, false, [1]⟩ ∧
  (fun (s : State) (i : Nat) (b : Bool) (k : ImgCopy) => s.key.work = some (.image i b k))
    (({ State.reset with sys := { (default : SysSt) with phase := .run, fabricUp := true }, key := { (default : KeySt) with slots := [((0, false), ⟨true, 1, 63, false, List.replicate 32 9⟩), ((4, false), ⟨true, 6, 63, false, List.replicate 32 9⟩)], work := some (.image 1 true ⟨true, 2, [], [1]⟩) } }).put SYS_MODE.MODE 8) 1 true ⟨true, 2, [], [1]⟩ := by
  decide +kernel

theorem test_wit_KeyOperationsAndTamper_1 :
  (fun (s : State) (w : Who) (a : Word) => s.key.queue.length < 4 ∧ a.toNat % 4 = 0 ∧ s.reaches w 19 = true)
    (({ State.reset with sys := { (default : SysSt) with phase := .run, fabricUp := true }, key := { (default : KeySt) with slots := [((0, false), ⟨true, 1, 63, false, List.replicate 32 9⟩), ((4, false), ⟨true, 6, 63, false, List.replicate 32 9⟩)] } }).put SYS_MODE.MODE 8) .host 0x300000 ∧
  (fun (s : State) (a : Nat) (as : List Nat) (b : List Byte) => s.key.running = some b ∧ s.key.queue = a :: as ∧ as.length < 4
      ∧ s.key.applyWait = false ∧ s.sealed = false ∧ (descOf b).op = 7 ∧ (descOf b).reservedEnc = false ∧ s.descRanges (descOf
          b) = true ∧ a % 4 = 0 ∧ s.memPermitted a = true ∧ (a + 96 ≤ (descOf b).dst ∨ (descOf b).dst + 32 ≤ a))
    (({ State.reset with sys := { (default : SysSt) with phase := .run, fabricUp := true }, key := { (default : KeySt) with slots := [((0, false), ⟨true, 1, 63, false, List.replicate 32 9⟩), ((4, false), ⟨true, 6, 63, false, List.replicate 32 9⟩)], queue := [0x300200], running := some ([7, 0, 0, 0, 0, 0, 0, 0, 0, 0, 0x30, 0, 4, 0, 0, 0, 0, 1, 0x30, 0] ++ List.replicate 76 0) } }).put SYS_MODE.MODE 8) 0x300200 [] ([7, 0, 0, 0, 0, 0, 0, 0, 0, 0, 0x30, 0, 4, 0, 0, 0, 0, 1, 0x30, 0] ++ List.replicate 76 0) ∧
  (fun (s : State) (a : Nat) (as : List Nat) (b : List Byte) => s.key.running = some b ∧ s.key.queue = a :: as ∧ as.length < 4
      ∧ s.key.applyWait = false ∧ s.sealed = false ∧ (descOf b).reservedEnc = true ∧ a % 4 = 0 ∧ s.memPermitted a = true)
    (({ State.reset with sys := { (default : SysSt) with phase := .run, fabricUp := true }, key := { (default : KeySt) with slots := [((0, false), ⟨true, 1, 63, false, List.replicate 32 9⟩), ((4, false), ⟨true, 6, 63, false, List.replicate 32 9⟩)], queue := [0x300200], running := some [0] } }).put SYS_MODE.MODE 8) 0x300200 [] [0] ∧
  (fun (s : State) (x : Word) => s.legalWrite .host .KEY_TCFG x = true ∧ s.rwsBarred .host ⟨.KEY_TCFG, 0, 0, 0⟩ x = false)
    ((({ State.reset with sys := { (default : SysSt) with phase := .run, fabricUp := true }, key := { (default : KeySt) with slots := [((0, false), ⟨true, 1, 63, false, List.replicate 32 9⟩), ((4, false), ⟨true, 6, 63, false, List.replicate 32 9⟩)] } }).put SYS_MODE.MODE 8).put KEY_TCFG.TMAX 3) (State.reset.put KEY_TCFG.TMAX 5 |>.reg ⟨.KEY_TCFG, 0, 0, 0⟩) ∧
  (fun (s : State) (k : Nat) => k < 2 ∧ s.sys.phase = .run ∧ s.sealPolicy k = false ∧ s.fld KEY_STAT.TCNT + 1 < s.fld
      KEY_TCFG.TMAX)
    ((({ State.reset with sys := { (default : SysSt) with phase := .run, fabricUp := true }, key := { (default : KeySt) with slots := [((0, false), ⟨true, 1, 63, false, List.replicate 32 9⟩), ((4, false), ⟨true, 6, 63, false, List.replicate 32 9⟩)] } }).put SYS_MODE.MODE 8).put KEY_TCFG.TMAX 5) 1 := by
  decide +kernel

theorem test_wit_KeyOperationsAndTamper_2 :
  (fun (s : State) (k : Nat) => k < 2 ∧ s.sys.phase = .run ∧ s.asleep = false ∧ s.sealed = false ∧ s.sealPolicy k = true ∧
      s.isPair = false)
    ((({ State.reset with sys := { (default : SysSt) with phase := .run, fabricUp := true }, key := { (default : KeySt) with slots := [((0, false), ⟨true, 1, 63, false, List.replicate 32 9⟩), ((4, false), ⟨true, 6, 63, false, List.replicate 32 9⟩)] } }).put SYS_MODE.MODE 8).setReg ⟨.KEY_TCFG, 0, 0, 0⟩ 0x30) 1 ∧
  (fun (s : State) => s.sys.phase = .run ∧ s.bit KEY_STAT.CATLOCK = true ∧ s.bit KEY_STAT.DBGOPEN = false ∧
      (s.key.refusals.filter fun t => s.tb < t + 100000000).length < 3)
    ((({ State.reset with sys := { (default : SysSt) with phase := .run, fabricUp := true }, key := { (default : KeySt) with slots := [((0, false), ⟨true, 1, 63, false, List.replicate 32 9⟩), ((4, false), ⟨true, 6, 63, false, List.replicate 32 9⟩)] } }).put SYS_MODE.MODE 8).flag KEY_STAT.CATLOCK true) ∧
  (fun (s : State) => s.sys.phase = .run ∧ s.bit KEY_STAT.CATLOCK = true ∧ s.bit KEY_STAT.DBGOPEN = false ∧ 3 ≤
      (s.key.refusals.filter fun t => s.tb < t + 100000000).length)
    ((({ State.reset with sys := { (default : SysSt) with phase := .run, fabricUp := true }, key := { (default : KeySt) with slots := [((0, false), ⟨true, 1, 63, false, List.replicate 32 9⟩), ((4, false), ⟨true, 6, 63, false, List.replicate 32 9⟩)], refusals := [0, 0, 0] } }).put SYS_MODE.MODE 8).flag KEY_STAT.CATLOCK true) := by
  decide +kernel

theorem test_wit_HostFrames_1 :
  (fun (s : State) (f : HostFrame) => s.hostUp = true ∧ hcrcOk f.hdr = true ∧ hdrCmd f.hdr = 0 ∧ hdrCnt f.hdr = 0 ∧ hostFcrc f
      = f.fcrc ∧ f.late = none ∧ f.coll = [] ∧ f.ecc = [])
    sUp ⟨0x5ad7, 0x0, [], 0x6c40cce9, none, [], []⟩ ∧
  (fun (s : State) (f : HostFrame) (a : Nat) => s.hostUp = true ∧ hcrcOk f.hdr = true ∧ hdrCmd f.hdr = 1 ∧ hdrCnt f.hdr = 0 ∧
      hostFcrc f = f.fcrc ∧ f.late = none ∧ f.coll = [] ∧ f.ecc = [] ∧ a = f.addr.toNat ∧ 0x300000 ≤ a ∧ a < 0x308000 ∧ a % 4
          = 0 ∧ s.sys.pollOpen = false ∧ s.mode ≠ 11)
    sUp ⟨0x1005ad9, 0x300010, [], 0xae68d85c, none, [], []⟩ 0x300010 := by
  decide +kernel

theorem test_wit_HostFrames_2 :
  (fun (s : State) (f : HostFrame) (a : Nat) => s.hostUp = true ∧ hcrcOk f.hdr = true ∧ hdrCmd f.hdr = 2 ∧ hdrCnt f.hdr = 0 ∧
      hostFcrc f = f.fcrc ∧ f.late = none ∧ f.coll = [] ∧ f.ecc = [] ∧ a = f.addr.toNat ∧ 0x300000 ≤ a ∧ a < 0x308000 ∧ a % 4
          = 0 ∧ s.sys.pollOpen = false ∧ s.mode ≠ 11)
    sUp ⟨0x2005acb, 0x300010, [77], 0xef97ad58, none, [], []⟩ 0x300010 ∧
  (fun (s : State) (f : HostFrame) (a : Nat) => s.hostUp = true ∧ hcrcOk f.hdr = true ∧ hdrCmd f.hdr = 3 ∧ hdrCnt f.hdr = 1 ∧
      hostFcrc f = f.fcrc ∧ f.late = none ∧ f.coll = [] ∧ f.ecc = [] ∧ a = f.addr.toNat ∧ 0x300000 ≤ a ∧ a < 0x308000 ∧ a % 4
          = 0 ∧ s.sys.pollOpen = false ∧ s.mode ≠ 11)
    sUp ⟨0x3015a2c, 0x300010, [], 0xb46ce796, none, [], []⟩ 0x300010 := by
  decide +kernel

theorem test_wit_HostFrames_3 :
  (fun (s : State) (f : HostFrame) (a : Nat) => s.hostUp = true ∧ hcrcOk f.hdr = true ∧ hdrCmd f.hdr = 4 ∧ hdrCnt f.hdr = 1 ∧
      hostFcrc f = f.fcrc ∧ f.late = none ∧ f.coll = [] ∧ f.ecc = [] ∧ a = f.addr.toNat ∧ 0x300000 ≤ a ∧ a < 0x308000 ∧ a % 4
          = 0 ∧ s.sys.pollOpen = false ∧ s.mode ≠ 11)
    sUp ⟨0x4015a06, 0x300010, [77, 78], 0xe0e40d4, none, [], []⟩ 0x300010 ∧
  (fun (s : State) (f : HostFrame) => s.hostUp = true ∧ hcrcOk f.hdr = true ∧ (hdrCmd f.hdr ≤ 4 ∧ hdrBad f.hdr = false) ∧
      hostFcrc f ≠ f.fcrc ∧ hdrCmd f.hdr = 2)
    sUp ⟨0x2005acb, 0x300010, [77], 0x53427c14, none, [], []⟩ ∧
  (fun (s : State) (f : HostFrame) => s.hostUp = true ∧ hcrcOk f.hdr = true ∧ hdrBad f.hdr = true)
    sUp ⟨0x9005aa9, 0x0, [], 0x96178a7f, none, [], []⟩ ∧
  (fun (s : State) => s.hostUp = true)
    sUp ∧
  (fun (s : State) (a : Nat) (x : Word) => s.hostUp = true ∧ 0x300000 ≤ a ∧ a < 0x308000 ∧ a % 4 = 0 ∧ s.sys.pollOpen = false
      ∧ s.mode ≠ 11)
    sUp 0x300010 9 := by
  decide +kernel

theorem test_wit_HostFrames_4 :
  (fun (s : State) (h : Word) => s.mgmtUp = true ∧ s.mgmtKey.isSome = true ∧ hcrcOk h = true ∧ hdrCmd h = 0 ∧ hdrCnt h = 0)
    ((({ State.reset with sys := { (default : SysSt) with phase := .run, fabricUp := true }, key := { (default : KeySt) with slots := [((0, false), ⟨true, 1, 63, false, List.replicate 32 9⟩), ((4, false), ⟨true, 6, 63, false, List.replicate 32 9⟩)] } }).put SYS_MODE.MODE 3).flag HST_ECFG.EN true) 0x5ad7 ∧
  (fun (s : State) (n q h : Word) => s.mgmtUp = true ∧ s.mgmtKey.isSome = true ∧ n ≠ 0 ∧ n.toNat = s.fld HST_ENONCE.NONCE ∧
      s.fld HST_ESEQ.SEQ < q.toNat ∧ hcrcOk h = true ∧ hdrCmd h = 0 ∧ hdrCnt h = 0)
    (((({ State.reset with sys := { (default : SysSt) with phase := .run, fabricUp := true }, key := { (default : KeySt) with slots := [((0, false), ⟨true, 1, 63, false, List.replicate 32 9⟩), ((4, false), ⟨true, 6, 63, false, List.replicate 32 9⟩)] } }).put SYS_MODE.MODE 3).flag HST_ECFG.EN true).put HST_ENONCE.NONCE 5) 5 1 0x5ad7 ∧
  (fun (s : State) (n q h : Word) => s.mgmtUp = true ∧ s.mgmtKey.isSome = true ∧ n ≠ 0 ∧ n.toNat = s.fld HST_ENONCE.NONCE ∧
      q.toNat ≤ s.fld HST_ESEQ.SEQ)
    (((({ State.reset with sys := { (default : SysSt) with phase := .run, fabricUp := true }, key := { (default : KeySt) with slots := [((0, false), ⟨true, 1, 63, false, List.replicate 32 9⟩), ((4, false), ⟨true, 6, 63, false, List.replicate 32 9⟩)] } }).put SYS_MODE.MODE 3).flag HST_ECFG.EN true).put HST_ENONCE.NONCE 5) 5 0 0x5ad7 ∧
  (fun (s : State) (r : Nat) (x : Word) => s.hostUp = true ∧ calFitted s.variant r = true ∧ s.mode = 8 ∧ s.legalWrite .host
      .CAL_VAL x = true ∧ s.rwsBarred .host ⟨.CAL_VAL, r, 0, 0⟩ x = false ∧ calOffset r = true ∧ s.cal.commits = [])
    (({ State.reset with sys := { (default : SysSt) with phase := .run, fabricUp := true }, key := { (default : KeySt) with slots := [((0, false), ⟨true, 1, 63, false, List.replicate 32 9⟩), ((4, false), ⟨true, 6, 63, false, List.replicate 32 9⟩)] } }).put SYS_MODE.MODE 8) 3 99 ∧
  (fun (s : State) (r : Nat) (x : Word) => s.cal.commits = [(r, x, none)])
    ({ sUp with cal := ⟨[(3, 99, none)], []⟩ }) 3 99 ∧
  (fun (s : State) (src dst b : Nat) => src < 19 ∧ (islandBlocks dst).contains b = true)
    sUp 1 2 2 := by
  decide +kernel
end

section
/-! Host writes that are barred outside Service mode (R15, R376; statement O22). The two registers with RWS fields are
KEY_TCFG and CAL_VAL; the address fixes which one a write names, and each path of `State.hostWrite` to them ends in
`State.reserved .host`. -/

namespace Sys2Proof.Machine

/-! ## What a reserved access of host software changes -/

/-- R17: a reserved access of host software sets RSVD and changes nothing else; the twin-link island ships what follows. -/
theorem State.ship_reserved_host_changes (s : State) : Changes [] [.spi, .twn] s (s.ship (s.reserved .host)) := by
  refine ⟨fun _ _ => rfl, fun p hp => ?_, rfl, rfl⟩
  cases p with
  | spi | twn => exact absurd hp (by decide)
  | mem => exact fun _ => rfl
  | _ => exact rfl

@[simp] theorem State.reserved_host_rsvd (s : State) : (s.reserved .host).spi.rsvd = true := rfl
@[simp] theorem State.reserved_host_reg (s : State) (r : RegRef) : (s.reserved .host).reg r = s.reg r := rfl
@[simp] theorem State.reserved_host_fld (s : State) (f : Fld) (i j k : Nat) :
    (s.reserved .host).fld f i j k = s.fld f i j k := rfl

/-! ## The register at an address -/

theorem Reg.at?_eq_some {q : Reg} {a : Nat} {r : RegRef} (h : q.at? a = some r) :
    q.place.base ≤ a ∧ ∃ is, idxOf q.place.dims (a - q.place.base) = some is ∧
      r = ⟨q, is.getD 0 0, is.getD 1 0, is.getD 2 0⟩ := by
  unfold Reg.at? at h
  split at h
  case isTrue => cases h
  case isFalse hbase =>
    split at h
    case h_1 is his => exact ⟨Nat.le_of_not_lt hbase, is, his, (Option.some.inj h).symm⟩
    case h_2 => cases h

theorem State.at?_of_regAt {s : State} {a : Nat} {r : RegRef} (h : s.regAt a = some r) :
    ∃ q ∈ Reg.all, q.at? a = some r := by
  unfold State.regAt at h
  split at h
  case h_1 q hq =>
    have hqr : q = r := by
      split at h
      · exact Option.some.inj h
      · cases h
    exact List.exists_of_findSome?_eq_some (hqr ▸ hq)
  case h_2 => cases h

/-! ## The registers with RWS fields -/

theorem Reg.eq_of_rws {q : Reg} (h : (q.fields.any fun f => f.acc = .rws) = true) : q = .KEY_TCFG ∨ q = .CAL_VAL := by
  cases q with
  | KEY_TCFG => exact .inl rfl
  | CAL_VAL => exact .inr rfl
  | _ => exact absurd h (by decide)

theorem State.reg_of_rwsBarred {s : State} {who : Who} {r : RegRef} {w : Word} (h : s.rwsBarred who r w = true) :
    r.reg = .KEY_TCFG ∨ r.reg = .CAL_VAL := by
  unfold State.rwsBarred at h
  obtain ⟨f, hf, hrws⟩ := List.any_eq_true.mp (Bool.and_eq_true_iff.mp h).2
  exact Reg.eq_of_rws (List.any_eq_true.mpr ⟨f, hf, (Bool.and_eq_true_iff.mp hrws).1⟩)

/-- Which register a barred write names, with the indices that the address gives it. -/
theorem State.regAt_of_rwsBarred {s : State} {a : Nat} {who : Who} {r : RegRef} {w : Word} (hr : s.regAt a = some r)
    (hb : s.rwsBarred who r w = true) :
    a < 0x170000 ∧ (r = ⟨.KEY_TCFG, 0, 0, 0⟩ ∨ r = ⟨.CAL_VAL, r.i, 0, 0⟩) := by
  obtain ⟨q, -, hq⟩ := State.at?_of_regAt hr
  obtain ⟨hbase, is, his, rfl⟩ := Reg.at?_eq_some hq
  rcases State.reg_of_rwsBarred hb with rfl | rfl
  · simp only [Reg.place, idxOf, Option.ite_none_right_eq_some, Option.some.injEq] at his hbase
    obtain ⟨hoff, rfl⟩ := his
    exact ⟨by omega, .inl rfl⟩
  · simp only [Reg.place, idxOf, Option.map_if, Option.ite_none_right_eq_some, Option.some.injEq] at his hbase
    obtain ⟨hoff, -, rfl⟩ := his
    exact ⟨by omega, .inr rfl⟩

/-! ## Every path of a barred write is discarded -/

/-- R15: a barred write is discarded, whatever the effect `k` of an accepted one. -/
theorem State.accept_of_rwsBarred {s : State} {who : Who} {r : RegRef} {w : Word} (k : State → State)
    (hb : s.rwsBarred who r w = true) : s.accept who r w k = s.reserved who := by
  simp [State.accept, hb]

theorem State.runKeyTcfgWrite_of_rwsBarred {s : State} {w : Word}
    (hb : s.rwsBarred .host ⟨.KEY_TCFG, 0, 0, 0⟩ w = true) : s.runKeyTcfgWrite w = s.reserved .host :=
  State.accept_of_rwsBarred _ hb

theorem State.runCalValWrite_of_rwsBarred {s : State} {i : Nat} {w : Word} (hup : s.hostUp = true)
    (hb : s.rwsBarred .host ⟨.CAL_VAL, i, 0, 0⟩ w = true) : s.runCalValWrite i w = s.reserved .host := by
  simp [State.runCalValWrite, hup, State.accept_of_rwsBarred _ hb]

theorem State.hostWrite_of_rwsBarred {s : State} {a : Nat} {r : RegRef} {w : Word} (hup : s.hostUp = true)
    (hr : s.regAt a = some r) (hb : s.rwsBarred .host r w = true) : s.hostWrite a w = s.reserved .host := by
  obtain ⟨hlt, hcase⟩ := State.regAt_of_rwsBarred hr hb
  have hwrite : s.writeReg .host r w = s.reserved .host := by
    rcases hcase with hkey | hcal
    · rw [hkey] at hb ⊢
      exact State.runKeyTcfgWrite_of_rwsBarred hb
    · rw [hcal] at hb ⊢
      exact State.runCalValWrite_of_rwsBarred hup hb
  simp [State.hostWrite, hlt, hr, hwrite]

/-! ## The two commands -/

theorem exec_registerWrite_host {s : State} (hup : s.hostUp = true) (a : Nat) (w : Word) :
    exec (.registerWrite .host a w) s = .next (s.ship (s.hostWrite a w)) := by
  show execRegisterWrite .host a w s = _
  simp [execRegisterWrite, hup]

/-- R376: outside Service mode, whether host software reaches the Docent's block or not. -/
theorem exec_ctxCmdQuarantine_host {s : State} (hup : s.hostUp = true) (hmode : s.mode ≠ 8) (c : Nat) :
    exec (.ctxCmdQuarantine .host c) s = .next (s.ship (s.reserved .host)) := by
  show execCtxCmdQuarantine .host c s = _
  simp [execCtxCmdQuarantine, State.asWho, State.runCtxCmdQuarantine, hup, hmode]

/-- Settles O22: both commands end in a reserved access, which sets RSVD and nothing else. -/
theorem hostWritesBarred : Obligations.HostWritesBarred := by
  unfold Obligations.HostWritesBarred
  refine ⟨fun s a r w hup _ hr hb => ?_, fun s c hup hmode => ?_⟩
  · rw [exec_registerWrite_host hup, State.hostWrite_of_rwsBarred hup hr hb]
    exact ⟨_, rfl, by simp, by simp, s.ship_reserved_host_changes⟩
  · rw [exec_ctxCmdQuarantine_host hup hmode]
    exact ⟨_, rfl, by simp, by simp [State.cst], s.ship_reserved_host_changes⟩

end Sys2Proof.Machine
end

section
/-! Mode requests that are refused or reserved (R19, R54, R55; statement O23). A request that `State.judge` does not accept
writes its answer to SYS_MODERES and queues nothing; a request for a code from 12 on ends in `State.reserved`. -/

namespace Sys2Proof.Machine

/-! ## Frames of the operations that a request uses -/

theorem Changes.mono {rs rs' : List Reg} {ps ps' : List Part} {s t : State} (h : Changes rs ps s t) (hr : rs ⊆ rs')
    (hp : ps ⊆ ps') : Changes rs' ps' s t := by
  obtain ⟨hreg, hpart, hpend, hvar⟩ := h
  exact ⟨fun r hn => hreg r fun hm => hn (hr hm), fun p hn => hpart p fun hm => hn (hp hm), hpend, hvar⟩

theorem Changes.refl (rs : List Reg) (ps : List Part) (s : State) : Changes rs ps s s := by
  refine ⟨fun _ _ => rfl, fun p _ => ?_, rfl, rfl⟩
  cases p with
  | mem => exact fun _ => rfl
  | _ => exact rfl

theorem Changes.put {rs : List Reg} {ps : List Part} {s t : State} (h : Changes rs ps s t) {f : Fld} (hf : f.reg ∈ rs)
    (v i j k : Nat) : Changes rs ps s (t.put f v i j k) := by
  obtain ⟨hreg, hpart, hpend, hvar⟩ := h
  refine ⟨fun r hr => ?_, fun p hp => ?_, hpend, hvar⟩
  · have hne : r ≠ f.ref i j k := fun e => hr (e ▸ hf)
    rw [State.reg_put_ne t v hne, hreg r hr]
  · cases p with
    | _ => exact hpart _ hp

/-- What the mirror engine ships stays in the twin-link island. -/
theorem Changes.ship {rs : List Reg} {ps : List Part} {s t : State} (h : Changes rs ps s t) (htwn : Part.twn ∈ ps)
    (u : State) : Changes rs ps s (u.ship t) := by
  obtain ⟨hreg, hpart, hpend, hvar⟩ := h
  refine ⟨hreg, fun p hp => ?_, hpend, hvar⟩
  cases p with
  | twn => exact absurd htwn hp
  | _ => exact hpart _ hp

/-! ## Reserved accesses of a context -/

theorem State.port_setPort_self (s : State) (c p : Nat) (w : Word) : (s.setPort c p w).port c p = w := by
  simp only [State.port, State.setPort, State.rcd, State.setRcd, State.ctx, State.setCtx, CtxRec.port, CtxRec.setPort,
    Tbl.get_set_self]

@[simp] theorem State.ship_port (s t : State) (c p : Nat) : (s.ship t).port c p = t.port c p := rfl

/-- R345: PWRSV is bit 1 of LSU.STAT. -/
theorem State.pwrsv_lsuStat (s : State) (c : Nat) : bitOf ((s.pwrsv c).port c pLsuStat).toNat 1 = true := by
  rw [State.pwrsv, State.port_setPort_self, BitVec.toNat_or, bitOf, Nat.testBit_or]
  exact (Bool.or_eq_true _ _).mpr (.inr (by decide))

theorem State.pwrsv_changes (s : State) (c : Nat) : Changes [] [.doc] s (s.pwrsv c) := by
  refine ⟨fun _ _ => rfl, fun p hp => ?_, rfl, rfl⟩
  cases p with
  | doc => exact absurd hp (by decide)
  | mem => exact fun _ => rfl
  | _ => exact rfl

/-- R17 to R19: a reserved access changes nothing but the sender's flag; the twin-link island ships what follows. -/
theorem State.ship_reserved_changes (s : State) (w : Who) : Changes [] [.spi, .doc, .twn] s (s.ship (s.reserved w)) := by
  cases w with
  | host => exact s.ship_reserved_host_changes.mono (by decide) (by decide)
  | ctx c => exact ((s.pwrsv_changes c).mono (by decide) (by decide)).ship (by decide) s

/-! ## What a request is answered -/

/-- R54: the code is judged before anything else (assumption 43). -/
theorem State.judge_of_forbidden {s : State} {code : Nat} (h : code = 0 ∨ code = 10 ∨ code = 11) : s.judge code = 5 := by
  rcases h with rfl | rfl | rfl <;> rfl

/-- R55: no other code is looked at any further while a transition is in progress. -/
theorem State.judge_of_busy {s : State} {code : Nat} (h0 : code ≠ 0) (h10 : code < 10) (hbusy : s.bit SYS_MODE.BUSY = true) :
    s.judge code = 4 := by
  have hcode : ¬ (code = 0 ∨ code = 10 ∨ code = 11) := by omega
  have hcodeB : ¬ (decide (code = 0) || decide (code = 10) || decide (code = 11)) = true := by
    rw [Bool.or_eq_true, Bool.or_eq_true, decide_eq_true_iff, decide_eq_true_iff, decide_eq_true_iff, or_assoc]
    exact hcode
  rw [State.judge, if_neg hcodeB, if_pos hbusy]

theorem State.request_of_refused {s : State} {code : Nat} (w : Who) (h : s.judge code ≠ 1) :
    s.request w code =
      ((s.put SYS_MODERES.RES (s.judge code)).put SYS_MODERES.REQMODE code).put SYS_MODERES.REQSRC (s.reqSrc w) := by
  rw [State.request, if_neg h]

theorem State.request_changes_of_refused {s : State} {code : Nat} (w : Who) (h : s.judge code ≠ 1) :
    Changes [.SYS_MODERES] [.twn] s (s.request w code) := by
  rw [State.request_of_refused w h]
  exact (((Changes.refl _ _ s).put (by decide) _ _ _ _).put (by decide) _ _ _ _).put (by decide) _ _ _ _

theorem State.request_res_of_refused {s : State} {code : Nat} (w : Who) (h : s.judge code ≠ 1) :
    (s.request w code).fld SYS_MODERES.RES = s.judge code % 8 := by
  rw [State.request_of_refused w h, State.fld_put_other _ _ (by decide), State.fld_put_other _ _ (by decide),
    State.fld_put_self _ _ _ _ _ _ (by decide)]
  rfl

theorem State.request_reqmode_of_refused {s : State} {code : Nat} (w : Who) (h : s.judge code ≠ 1) :
    (s.request w code).fld SYS_MODERES.REQMODE = code % 16 := by
  rw [State.request_of_refused w h, State.fld_put_other _ _ (by decide), State.fld_put_self _ _ _ _ _ _ (by decide)]
  rfl

theorem State.request_sys_of_refused {s : State} {code : Nat} (w : Who) (h : s.judge code ≠ 1) :
    (s.request w code).sys = s.sys := by
  rw [State.request_of_refused w h, State.put_sys, State.put_sys, State.put_sys]

/-! ## The command -/

theorem exec_modeRequest_none (w : Who) (code : Nat) (s : State) :
    exec (.modeRequest w code none) s = .next (s.ship (s.runModeRequest w code)) := by
  cases w <;> rfl

theorem State.not_host_down {s : State} {w : Who} (hup : w = .host → s.hostUp = true) :
    ¬ ((decide (w = .host) && !s.hostUp) = true) := by
  intro h
  obtain ⟨hw, hdown⟩ := Bool.and_eq_true_iff.mp h
  rw [hup (of_decide_eq_true hw)] at hdown
  exact absurd hdown (by decide)

theorem State.runModeRequest_of_reserved {s : State} {w : Who} {code : Nat} (hup : w = .host → s.hostUp = true)
    (hcode : 12 ≤ code) : s.runModeRequest w code = s.reserved w := by
  have hrsvd : (s.sys.phase == .sealed || decide (12 ≤ code)) = true :=
    (Bool.or_eq_true _ _).mpr (.inr (decide_eq_true hcode))
  rw [State.runModeRequest, if_neg (State.not_host_down hup), if_pos hrsvd]

theorem State.runModeRequest_of_request {s : State} {w : Who} {code : Nat} (hup : w = .host → s.hostUp = true)
    (hphase : s.sys.phase ≠ .sealed) (hcode : code < 12) : s.runModeRequest w code = s.request w code := by
  have hopen : ¬ (s.sys.phase == .sealed || decide (12 ≤ code)) = true := fun h =>
    match (Bool.or_eq_true _ _).mp h with
    | .inl hs => hphase (beq_iff_eq.mp hs)
    | .inr hc => Nat.not_le_of_lt hcode (of_decide_eq_true hc)
  rw [State.runModeRequest, if_neg (State.not_host_down hup), if_neg hopen]

/-- A request that is not accepted shows its answer in SYS_MODERES and is not queued. -/
theorem exec_modeRequest_of_refused {s : State} {w : Who} {code res : Nat} (hup : w = .host → s.hostUp = true)
    (hphase : s.sys.phase ≠ .sealed) (hcode : code < 12) (hjudge : s.judge code = res) (hres : res ≠ 1) (hlt : res < 8) :
    ∃ t, exec (.modeRequest w code none) s = .next t ∧ t.fld SYS_MODERES.RES = res ∧ t.fld SYS_MODERES.REQMODE = code ∧
      t.sys.pend = s.sys.pend ∧ Changes [.SYS_MODERES] [.twn] s t := by
  subst hjudge
  rw [exec_modeRequest_none, State.runModeRequest_of_request hup hphase hcode]
  refine ⟨_, rfl, ?_, ?_, ?_, (State.request_changes_of_refused w hres).ship (by decide) s⟩
  · rw [State.ship_fld, State.request_res_of_refused w hres, Nat.mod_eq_of_lt hlt]
  · rw [State.ship_fld, State.request_reqmode_of_refused w hres, Nat.mod_eq_of_lt (by omega)]
  · rw [State.ship_sys, State.request_sys_of_refused w hres]

/-- Settles O23: a forbidden code is judged 5 and any other code under BUSY is judged 4, neither of which queues a
transition; a code from 12 on ends in a reserved access. -/
theorem refusedRequests : Obligations.RefusedRequests := by
  unfold Obligations.RefusedRequests
  refine ⟨fun s w code hup hphase hcode => ?_, fun s w code hup hcode => ?_, fun s w code hup hphase hlt h0 hbusy => ?_⟩
  · exact exec_modeRequest_of_refused hup hphase (by omega) (State.judge_of_forbidden hcode) (by decide) (by decide)
  · rw [exec_modeRequest_none, State.runModeRequest_of_reserved hup hcode]
    refine ⟨_, rfl, ?_, ?_, s.ship_reserved_changes w⟩
    · rintro rfl
      rw [State.ship_spi, State.reserved_host_rsvd]
    · rintro c rfl
      rw [State.ship_port]
      exact s.pwrsv_lsuStat c
  · exact exec_modeRequest_of_refused hup hphase (by omega) (State.judge_of_busy h0 hlt hbusy) (by decide) (by decide)

end Sys2Proof.Machine
end

section
/-! The line fabric (R121 to R123, R144, R145; statement O24). A pass over the lines and a clock edge of the logic cells
are folds of `setBitV`; such a fold gives each bit that its list names the value of that bit and keeps every other. -/

namespace Sys2Proof.Machine

/-! ## Vectors written bit by bit -/

theorem getLsbD_setBitV {w : Nat} (v : BitVec w) (n : Nat) (b : Bool) {i : Nat} (hi : i < w) :
    (setBitV v n b).getLsbD i = if i = n then b else v.getLsbD i := by
  rw [setBitV, ← BitVec.twoPow_eq]
  by_cases hn : i = n
  · subst hn
    cases b <;> simp [hi]
  · cases b <;> simp [hi, hn]

theorem getLsbD_foldl_setBitV {w : Nat} (g : Nat → Bool) (ns : List Nat) (v : BitVec w) {i : Nat} (hi : i < w) :
    (ns.foldl (fun v n => setBitV v n (g n)) v).getLsbD i = if i ∈ ns then g i else v.getLsbD i := by
  induction ns generalizing v with
  | nil => simp
  | cons n ns ih =>
    rw [List.foldl_cons, ih, getLsbD_setBitV v n _ hi]
    by_cases hmem : i ∈ ns
    · simp [hmem]
    · by_cases hn : i = n <;> simp [hmem, hn]

/-! ## One pass over the lines -/

theorem State.linePass_line (s : State) {n : Nat} (hn : n < 512) :
    s.linePass.line n = if n ∈ s.lineIds then s.srcLevel n else s.line n :=
  getLsbD_foldl_setBitV s.srcLevel s.lineIds s.fab.lines hn

theorem State.srcLevel_of_cell {s : State} {n : Nat} (hkind : s.fld FAB_LSRC.KIND n = 5) :
    s.srcLevel n = xor (s.bit FAB_LSRC.INV n) (s.lcOut (s.fld FAB_LSRC.INDEX n)) := by
  simp [State.srcLevel, hkind]

theorem State.lcOut_of_comb {s : State} {c : Nat} (hmode : s.fld LC_CFG.MODE c = 0) : s.lcOut c = s.lcLookup c :=
  if_pos hmode

/-! ## One clock edge of the logic cells -/

/-- R145: the cell's flip-flop loads on this edge: a REG cell always, a CAPTURE cell when its line D rises. -/
def State.ffLoads (s : State) (c : Nat) : Bool :=
  s.fld LC_CFG.MODE c == 1 || s.fld LC_CFG.MODE c == 2 && (s.line (s.fld LC_INCD.D c) && !s.fab.dPrev.getLsbD c)

theorem State.ffLoads_of_reg {s : State} {c : Nat} (hmode : s.fld LC_CFG.MODE c = 1) : s.ffLoads c = true := by
  simp [State.ffLoads, hmode]

theorem State.ffLoads_of_capture {s : State} {c : Nat} (hmode : s.fld LC_CFG.MODE c = 2) :
    s.ffLoads c = (s.line (s.fld LC_INCD.D c) && !s.fab.dPrev.getLsbD c) := by
  simp [State.ffLoads, hmode]

theorem State.ffLoads_of_neither {s : State} {c : Nat} (hreg : s.fld LC_CFG.MODE c ≠ 1)
    (hcapture : s.fld LC_CFG.MODE c ≠ 2) : s.ffLoads c = false := by
  simp [State.ffLoads, beq_false_of_ne hreg, beq_false_of_ne hcapture]

theorem State.lcEdge_ff (s : State) (ids : List Nat) :
    (s.lcEdge ids).fab.ff = (ids.filter s.ffLoads).foldl (fun f c => setBitV f c (s.lcLookup c)) s.fab.ff := by
  rw [List.foldl_filter]
  refine congrArg (fun load => ids.foldl load s.fab.ff) (funext fun f => funext fun c => ?_)
  dsimp only
  split
  case h_1 hreg => rw [State.ffLoads_of_reg hreg, if_pos rfl]
  case h_2 hcapture => rw [State.ffLoads_of_capture hcapture]
  case h_3 hreg hcapture => rw [State.ffLoads_of_neither hreg hcapture, if_neg Bool.false_ne_true]

theorem State.lcEdge_ff_getLsbD (s : State) {ids : List Nat} {c : Nat} (hc : c < 128) (hmem : c ∈ ids) :
    (s.lcEdge ids).fab.ff.getLsbD c = if s.ffLoads c then s.lcLookup c else s.fab.ff.getLsbD c := by
  rw [State.lcEdge_ff, getLsbD_foldl_setBitV s.lcLookup _ _ hc]
  simp [hmem]

/-! ## The fabric powered down -/

theorem State.settle_of_down {s : State} (hdown : s.sys.fabricUp = false) : s.settle = s := by
  simp [State.settle, hdown]

theorem State.fabricEdge_of_down {s : State} (hdown : s.sys.fabricUp = false) : s.fabricEdge = s := by
  simp [State.fabricEdge, hdown]

/-- Settles O24: a line reads what the pass wrote at its own position, a flip-flop what the edge loaded at its own; the
values come from the state before the pass or the edge, so that the order of lines and cells does not matter. -/
theorem fabricLines : Obligations.FabricLines := by
  unfold Obligations.FabricLines
  refine ⟨fun s n hn hmem => ?_, fun s n hn hmem => ?_, fun s n c hn hmem hkind hindex hmode => ?_,
    fun s c hc hmem hmode => ?_, fun s c hc hmem hmode => ?_, fun s hdown => ?_⟩
  · rw [s.linePass_line hn, if_pos hmem]
  · rw [s.linePass_line hn, if_neg hmem]
  · rw [s.linePass_line hn, if_pos hmem, State.srcLevel_of_cell hkind, hindex, State.lcOut_of_comb hmode, State.lcLookup]
  · rw [s.lcEdge_ff_getLsbD hc hmem, State.ffLoads_of_reg hmode, if_pos rfl, State.lcLookup]
  · rw [s.lcEdge_ff_getLsbD hc hmem, State.ffLoads_of_capture hmode, State.lcLookup]
  · exact ⟨State.settle_of_down hdown, State.fabricEdge_of_down hdown⟩

end Sys2Proof.Machine
end

section
/-! Arithmetic triggers (R330, R331, R338 to R340; statement O25). The word of a unit's command is one unguarded move of an
immediate; from a context that is free to issue it neither waits nor traps, so that it runs its unit at `State.atIssue`. -/

namespace Sys2Proof.Machine

/-! ## What the updates of registers and of context records leave -/

@[simp] theorem State.put_ctx (s : State) (f : Fld) (v i j k c : Nat) : (s.put f v i j k).ctx c = s.ctx c := rfl
@[simp] theorem State.flag_ctx (s : State) (f : Fld) (b : Bool) (i j k c : Nat) : (s.flag f b i j k).ctx c = s.ctx c := rfl
@[simp] theorem State.wrap_ctx (s : State) (f : Fld) (i j k c : Nat) : (s.wrap f i j k).ctx c = s.ctx c := rfl
@[simp] theorem State.ship_ctx (s t : State) (c : Nat) : (s.ship t).ctx c = t.ctx c := rfl

@[simp] theorem State.ctx_setCtx_self (s : State) (c : Nat) (x : Ctx) : (s.setCtx c x).ctx c = x :=
  Tbl.get_set_self _ _ _ _

@[simp] theorem State.ctx_setRcd_self (s : State) (c : Nat) (r : CtxRec) :
    (s.setRcd c r).ctx c = { s.ctx c with rcd := r } :=
  s.ctx_setCtx_self c _

theorem State.port_setPort_ne (s : State) (c : Nat) {p q : Nat} (w : Word) (h : q ≠ p) :
    (s.setPort c p w).port c q = s.port c q := by
  simp only [State.port, State.setPort, State.rcd, State.ctx_setRcd_self]
  exact Tbl.get_set_ne h _ _ _

/-! ## What a frame of the Docent leaves -/

theorem Changes.trans {rs : List Reg} {ps : List Part} {s t u : State} (h : Changes rs ps s t) (h' : Changes rs ps t u) :
    Changes rs ps s u := by
  obtain ⟨hreg, hpart, hpend, hvar⟩ := h
  obtain ⟨hreg', hpart', hpend', hvar'⟩ := h'
  refine ⟨fun r hr => (hreg' r hr).trans (hreg r hr), fun p hp => ?_, hpend'.trans hpend, hvar'.trans hvar⟩
  have hst := hpart p hp
  have htu := hpart' p hp
  cases p with
  | mem => exact fun a => (htu a).trans (hst a)
  | _ => exact Eq.trans htu hst

theorem Changes.reg {rs : List Reg} {ps : List Part} {s t : State} (h : Changes rs ps s t) {q : Reg} (hq : q ∉ rs)
    (i j k : Nat) : t.reg ⟨q, i, j, k⟩ = s.reg ⟨q, i, j, k⟩ := by
  obtain ⟨hreg, -⟩ := h
  exact hreg _ hq

theorem Changes.cst {rs : List Reg} {ps : List Part} {s t : State} (h : Changes rs ps s t) (hstat : .CTXC_STAT ∉ rs)
    (c : Nat) : t.cst c = s.cst c :=
  congrArg (fun w => ext w CTXC_STAT.STATE.lo CTXC_STAT.STATE.width) (h.reg hstat c 0 0)

theorem Changes.setCtx {rs : List Reg} {ps : List Part} {s t : State} (h : Changes rs ps s t) (hdoc : Part.doc ∈ ps)
    (c : Nat) (x : Ctx) : Changes rs ps s (t.setCtx c x) := by
  obtain ⟨hreg, hpart, hpend, hvar⟩ := h
  refine ⟨hreg, fun p hp => ?_, hpend, hvar⟩
  cases p with
  | doc => exact absurd hdoc hp
  | _ => exact hpart _ hp

theorem Changes.setRcd {rs : List Reg} {ps : List Part} {s t : State} (h : Changes rs ps s t) (hdoc : Part.doc ∈ ps)
    (c : Nat) (r : CtxRec) : Changes rs ps s (t.setRcd c r) :=
  h.setCtx hdoc c _

theorem Changes.setPort {rs : List Reg} {ps : List Part} {s t : State} (h : Changes rs ps s t) (hdoc : Part.doc ∈ ps)
    (c p : Nat) (w : Word) : Changes rs ps s (t.setPort c p w) :=
  h.setRcd hdoc c _

/-! ## The cycle of a word -/

/-- The state at which the triggers of a word of context `c` on core `d` run, when the word neither waits nor traps. -/
def State.atIssue (s : State) (d c : Nat) : State :=
  ((s.spend c).flag DOC_STAT.WAIT false d).wrap DOC_RET.COUNT d

@[simp] theorem State.spend_ctx (s : State) (c : Nat) :
    (s.spend c).ctx c = { s.ctx c with rcd := { s.rcd c with runCyc := (s.rcd c).runCyc + 1 } } := by
  simp only [State.spend]
  split <;> simp

theorem State.atIssue_ctx (s : State) (d c : Nat) :
    (s.atIssue d c).ctx c = { s.ctx c with rcd := { s.rcd c with runCyc := (s.rcd c).runCyc + 1 } } := by
  simp [State.atIssue]

theorem State.atIssue_port (s : State) (d c p : Nat) : (s.atIssue d c).port c p = s.port c p := by
  simp [State.port, State.rcd, State.atIssue_ctx, CtxRec.port]

/-- A word that has not begun to act changes nothing but its core's state and count, and its context's run time. -/
theorem State.atIssue_changes (s : State) (d c : Nat) :
    Changes [.CTXC_RUN, .DOC_STAT, .DOC_RET] [.doc, .twn] s (s.atIssue d c) := by
  have hspend : Changes [.CTXC_RUN, .DOC_STAT, .DOC_RET] [.doc, .twn] s (s.spend c) := by
    have hrun := (Changes.refl [.CTXC_RUN, .DOC_STAT, .DOC_RET] [.doc, .twn] s).setRcd (by decide) c
      { s.rcd c with runCyc := (s.rcd c).runCyc + 1 }
    simp only [State.spend]
    split
    · exact hrun.put (by decide) _ _ _ _
    · exact hrun
  exact (hspend.put (by decide) _ _ _ _).put (by decide) _ _ _ _

/-! ## A context that is free to issue -/

theorem State.running_of_coreOf {s : State} {c d : Nat} (h : s.coreOf c = some d) : s.running d = some c :=
  beq_iff_eq.mp (List.find?_some (p := fun d => s.running d == some c) h)

/-- What `State.freeToIssue` says of the context itself. -/
theorem State.freeToIssue_ctx {s : State} {c d : Nat} (h : s.freeToIssue c d = true) :
    s.coreOf c = some d ∧ (s.ctx c).qpend = none ∧ (s.ctx c).poison = 0 ∧ (s.ctx c).div = none ∧
      (s.rcd c).repActive = false := by
  simp only [State.freeToIssue, Bool.and_eq_true, beq_iff_eq, Bool.not_eq_true'] at h
  obtain ⟨⟨⟨⟨⟨⟨hcore, hqpend⟩, hpoison⟩, hdiv⟩, hrep⟩, -⟩, -⟩ := h
  exact ⟨hcore, hqpend, hpoison, hdiv, hrep⟩

/-- A command's move issues at once on the core that runs the context. -/
theorem State.commandMove_of_free {s : State} {c d : Nat} (h : s.freeToIssue c d = true) (p : Nat) (b : Word) :
    s.commandMove c p b = s.issue d c [⟨0, p, some b, 0⟩] true 0 (moveWord p b) false := by
  obtain ⟨hcore, hqpend, -⟩ := State.freeToIssue_ctx h
  simp only [State.commandMove, hcore, State.onCore, State.running_of_coreOf hcore, hqpend]

/-! ## The trigger ports of the arithmetic units -/

/-- R337: the trigger ports of ALU, MUL and SAT. -/
abbrev IsArithPort (p : Nat) : Prop :=
  0x022 ≤ p ∧ p ≤ 0x03F ∨ 0x043 ≤ p ∧ p ≤ 0x047 ∨ 0x0C2 ≤ p ∧ p ≤ 0x0C5

theorem IsArithPort.triggerUnit {p : Nat} (h : IsArithPort p) :
    triggerUnit p = 1 ∨ triggerUnit p = 2 ∨ triggerUnit p = 9 := by
  unfold Machine.triggerUnit
  rcases h with ⟨hlo, hhi⟩ | ⟨hlo, hhi⟩ | ⟨hlo, hhi⟩
  · exact .inl (if_pos (by simp [hlo, hhi]))
  · exact .inr (.inl (by rw [if_neg (by simp; omega), if_pos (by simp [hlo, hhi])]))
  · obtain rfl | rfl | rfl | rfl : p = 0x0C2 ∨ p = 0x0C3 ∨ p = 0x0C4 ∨ p = 0x0C5 := by omega
    all_goals exact .inr (.inr rfl)

theorem IsArithPort.branches {p : Nat} (h : IsArithPort p) : branches p = false := by
  rcases h.triggerUnit with hu | hu | hu <;> simp [Machine.branches, hu]

theorem IsArithPort.suspends {p : Nat} (h : IsArithPort p) : suspends p = false := by
  simp only [Machine.suspends, Bool.or_eq_false_iff, decide_eq_false_iff_not]
  omega

theorem State.badWrite_of_arith (s : State) (c : Nat) {p : Nat} (h : IsArithPort p) : s.badWrite c p = false := by
  have hport : p < 0x100 := by omega
  simp only [State.badWrite, if_pos hport, portWritable, Bool.not_eq_false', Bool.or_eq_true, Bool.and_eq_true,
    decide_eq_true_eq]
  omega

theorem State.accesses_of_arith (s : State) (c : Nat) {p : Nat} (h : IsArithPort p) (v : Word) : s.accesses c p v = [] := by
  have hload : ¬ (0x05C ≤ p ∧ p ≤ 0x05F) := by omega
  have hstore : ¬ (0x064 ≤ p ∧ p ≤ 0x067) := by omega
  unfold State.accesses
  split
  case h_13 => simp [hload, hstore]
  all_goals omega

theorem State.valueTraps_of_arith (s : State) (c : Nat) {p : Nat} (h : IsArithPort p) (v : Word) :
    s.valueTraps c p v = [] := by
  have hport : p ≠ 0x091 ∧ p ≠ 0x090 ∧ p ≠ 0x0B0 ∧ p ≠ 0x0B1 ∧ p ≠ 0x0A5 := by omega
  simp [State.valueTraps, s.accesses_of_arith c h, h.branches, hport]

/-- R330: an arithmetic trigger waits for a division in flight only. -/
theorem State.dstWaits_of_arith {s : State} {c : Nat} (d : Nat) {p : Nat} (h : IsArithPort p)
    (hdiv : (s.ctx c).div = none) : s.dstWaits c d p = false := by
  have hport : p ≠ 0x076 ∧ p ≠ 0x074 ∧ ¬ (0x061 ≤ p ∧ p ≤ 0x067) ∧ ¬ 0x100 ≤ p := by omega
  obtain ⟨hacc, hcmp, hstore, hwin⟩ := hport
  simp [State.dstWaits, hdiv, hacc, hcmp, hstore, hwin]

theorem State.staticTrap_of_arith {s : State} {c p : Nat} (h : IsArithPort p) (b : Word) (hpoison : (s.ctx c).poison = 0)
    (hrep : (s.rcd c).repActive = false) : s.staticTrap c [⟨0, p, some b, 0⟩] true 0 = 0 := by
  have hport : p ≠ 0x0B0 ∧ p ≠ 0x0B1 := by omega
  simp [State.staticTrap, hpoison, hrep, s.badWrite_of_arith c h, sameDst, repTrap, hport]

/-! ## The word of an arithmetic trigger -/

/-- R346: the next word of a word that neither branches nor repeats. -/
def State.advancePc (s : State) (c : Nat) : State := s.setRcd c { s.rcd c with pc := (s.rcd c).pc + 4 }

@[simp] theorem State.advancePc_ctx (s : State) (c : Nat) :
    (s.advancePc c).ctx c = { s.ctx c with rcd := { s.rcd c with pc := (s.rcd c).pc + 4 } } :=
  s.ctx_setRcd_self c _

theorem State.nextPc_of_arith {s : State} {c p : Nat} (h : IsArithPort p) (b v : Word) (hrep : (s.rcd c).repActive = false) :
    s.nextPc c [(⟨0, p, some b, 0⟩, v)] = s.advancePc c := by
  have hport : p ≠ 0x0B0 := by omega
  simp [State.nextPc, hrep, written, hport, h.branches, State.advancePc]

theorem State.runTrigger_repActive_of_arith (s : State) (d c : Nat) {p : Nat} (h : IsArithPort p) (v : Word) :
    ((s.runTrigger d c p v).rcd c).repActive = (s.rcd c).repActive := by
  rcases h.triggerUnit with hu | hu | hu
  · simp [State.runTrigger, hu, State.setPort, State.rcd, CtxRec.setPort]
  · simp only [State.runTrigger, hu, State.runMul]
    split <;> simp [State.setPort, State.rcd, CtxRec.setPort]
  · simp [State.runTrigger, hu, State.runSat, State.setPort, State.rcd, CtxRec.setPort]

/-- R331: from a context that is free to issue, the word of an arithmetic trigger neither waits nor traps: it runs its unit
and moves the PC on. -/
theorem State.commandMove_of_arith {s : State} {c d p : Nat} (hfree : s.freeToIssue c d = true) (h : IsArithPort p) (b : Word) :
    s.commandMove c p b = ((s.atIssue d c).runTrigger d c p b).advancePc c := by
  obtain ⟨-, -, hpoison, hdiv, hrep⟩ := State.freeToIssue_ctx hfree
  have hunit : triggerUnit p ≠ 0 := by rcases h.triggerUnit with hu | hu | hu <;> omega
  have hsend : p ≠ 0x091 ∧ p ≠ 0x0A3 := by omega
  have hrepSpend : ((s.spend c).rcd c).repActive = false := by simp [State.rcd, ← hrep]
  have hrepWaits : (s.spend c).repWaits c = false := by simp [State.repWaits, hrepSpend]
  have hdst : (s.spend c).dstWaits c d p = false := State.dstWaits_of_arith d h (by simp [hdiv])
  have hstatic : ((s.spend c).flag DOC_STAT.WAIT false d).staticTrap c [⟨0, p, some b, 0⟩] true 0 = 0 :=
    State.staticTrap_of_arith h b (by simp [hpoison]) hrepSpend
  have hnext : ((s.atIssue d c).runTrigger d c p b).nextPc c [(⟨0, p, some b, 0⟩, b)] =
      ((s.atIssue d c).runTrigger d c p b).advancePc c :=
    State.nextPc_of_arith h b b (by rw [State.runTrigger_repActive_of_arith _ _ _ h]; exact hrepSpend)
  rw [State.commandMove_of_free hfree, ← hnext]
  simp [State.issue, hrepWaits, State.srcWaits, hdst, hstatic, State.readAll, guardHolds, hunit, forEach,
    State.valueTraps_of_arith _ _ h, hsend, State.runSuspend, h.suspends, State.atIssue]

/-! ## Divisions (R339) -/

theorem divResult_zero (signed : Bool) (a : Word) : divResult signed a 0 = (0xFFFFFFFF, a) := rfl

/-- R339: the one quotient that does not fit wraps. -/
theorem divResult_overflow : divResult true 0x80000000 0xFFFFFFFF = (0x80000000, 0) := by decide

theorem State.runTrigger_of_divide (s : State) (d c : Nat) {p : Nat} (hp : p = 0x046 ∨ p = 0x047) (b : Word) :
    s.runTrigger d c p b = s.setCtx c { s.ctx c with div := some ⟨p = 0x046, s.port c pMulA, b⟩ } := by
  rcases hp with rfl | rfl <;> rfl

/-- R340: DIVS and DIVU put a division in flight. -/
theorem exec_mulDivide_of_free {s : State} {c d p : Nat} (hfree : s.freeToIssue c d = true) (hp : p = 0x046 ∨ p = 0x047)
    (b : Word) :
    ∃ t, exec (.mulDivide c p b) s = .next t ∧ (t.ctx c).div = some ⟨p = 0x046, s.port c pMulA, b⟩ ∧
      Changes [.CTXC_RUN, .DOC_STAT, .DOC_RET] [.doc, .twn] s t := by
  have hport : (decide (p = 0x046) || decide (p = 0x047)) = true := by simpa using hp
  have hrun : exec (.mulDivide c p b) s = .next (s.ship (s.commandMove c p b)) := by
    show execMulDivide c p b s = _
    rw [execMulDivide, if_pos hport]
  rw [hrun, State.commandMove_of_arith hfree (by omega), State.runTrigger_of_divide _ _ _ hp]
  refine ⟨_, rfl, ?_, (((s.atIssue_changes d c).setCtx (by decide) _ _).setRcd (by decide) _ _).ship (by decide) s⟩
  simp [State.atIssue_port]

/-- R339: the completion writes LO and HI and no register. -/
theorem exec_divideComplete_of_div {s : State} {c : Nat} {v : DivOp} (hdiv : (s.ctx c).div = some v) :
    ∃ t, exec (.divideComplete c) s = .next t ∧ t.port c pMulLo = (divResult v.signed v.a v.b).1 ∧
      t.port c pMulHi = (divResult v.signed v.a v.b).2 ∧ Changes [] [.doc, .twn] s t := by
  show ∃ t, execDivideComplete c s = .next t ∧ _
  simp only [execDivideComplete, hdiv]
  refine ⟨_, rfl, ?_, ?_, ((((Changes.refl _ _ s).setCtx (by decide) _ _).setPort (by decide) _ _ _).setPort
    (by decide) _ _ _).ship (by decide) s⟩
  · rw [State.ship_port, State.port_setPort_ne _ _ _ (by decide), State.port_setPort_self]
  · rw [State.ship_port, State.port_setPort_self]

/-- Settles O25: the trigger puts the operands in flight without a wait or a trap, the completion writes what `divResult` gives
for them, and neither writes CTXC_STAT or DOC_TRAP. -/
theorem divisionCorners : Obligations.DivisionCorners := by
  unfold Obligations.DivisionCorners
  intro s c d p b hfree hp
  obtain ⟨t, ht, hdiv, hchanges⟩ := exec_mulDivide_of_free hfree hp b
  obtain ⟨u, hu, hlo, hhi, hdone⟩ := exec_divideComplete_of_div hdiv
  have hboth : Changes [.CTXC_RUN, .DOC_STAT, .DOC_RET] [.doc, .twn] s u :=
    hchanges.trans (hdone.mono (by decide) (by decide))
  refine ⟨t, u, ht, hu, hchanges.cst (by decide) c, hboth.cst (by decide) c, fun e => hboth.reg (by decide) e 0 0, ?_, ?_⟩
  · rintro rfl
    rw [hlo, hhi, divResult_zero]
    exact ⟨rfl, rfl⟩
  · rintro rfl ha rfl
    rw [hlo, hhi, ha, decide_eq_true rfl, divResult_overflow]
    exact ⟨rfl, rfl⟩

end Sys2Proof.Machine
end

section
/-! Writes of transmit buffer words (R410, R414; statement O26). `State.txLocked` names the buffers whose words are closed to a
write; a write of an open one stores its word, and one of a locked one ends in `State.reserved`. -/

namespace Sys2Proof.Machine

/-! ## The sender, the stored word and the reserved access -/

theorem State.asWho_of_reaches {s : State} {w : Who} {b : Nat} (h : s.reaches w b = true) (k : State → State) :
    s.asWho w b k = k s :=
  if_pos h

theorem Changes.setReg {rs : List Reg} {ps : List Part} {s t : State} (h : Changes rs ps s t) {r : RegRef} (hr : r.reg ∈ rs)
    (w : Word) : Changes rs ps s (t.setReg r w) := by
  obtain ⟨hreg, hpart, hpend, hvar⟩ := h
  refine ⟨fun q hq => ?_, fun p hp => ?_, hpend, hvar⟩
  · have hne : q ≠ r := fun e => hq (e ▸ hr)
    rw [State.reg_setReg_ne t w hne, hreg q hq]
  · cases p with
    | _ => exact hpart _ hp

/-- R17, R19: a reserved access sets RSVD for host software, PWRSV for a context. -/
theorem State.ship_reserved_flags (s : State) (w : Who) :
    (w = .host → (s.ship (s.reserved w)).spi.rsvd = true) ∧
      ∀ c, w = .ctx c → bitOf ((s.ship (s.reserved w)).port c pLsuStat).toNat 1 = true := by
  refine ⟨?_, ?_⟩
  · rintro rfl
    rw [State.ship_spi, State.reserved_host_rsvd]
  · rintro c rfl
    rw [State.ship_port]
    exact s.pwrsv_lsuStat c

/-! ## Which buffers are closed to a write -/

/-- R410, R414: the buffer belongs to the gateway, or it is PENDING, ACTIVE or HELD. -/
def State.txLocked (s : State) (n b : Nat) : Bool :=
  s.gwOwned n b || (s.bst n b = bPending || s.bst n b = bActive || s.bst n b = bHeld)

theorem State.txLocked_iff {s : State} {n b : Nat} :
    s.txLocked n b = true ↔
      s.gwOwned n b = true ∨ s.bst n b = bPending ∨ s.bst n b = bActive ∨ s.bst n b = bHeld := by
  simp [State.txLocked, or_assoc]

theorem State.txLocked_of_resting {s : State} {n b : Nat} (hgw : s.gwOwned n b = false)
    (hrest : s.bst n b = bIdle ∨ s.bst n b = bDone ∨ s.bst n b = bCancelled ∨ s.bst n b = bFailed) :
    s.txLocked n b = false := by
  rcases hrest with h | h | h | h <;> rw [State.txLocked, hgw, h] <;> rfl

/-! ## The command -/

/-- The two outcomes of a write of a word that a fitted port has. -/
theorem State.runCanTxBufferWrite_of_word {s : State} {n b i : Nat} (w : Who) (x : Word) (hfit : s.canFitted n = true)
    (hb : b < 32) (hi : i < 21) :
    s.runCanTxBufferWrite w n b i x = if s.txLocked n b then s.reserved w else s.setReg ⟨.CAN_TXW, n, b, i⟩ x := by
  have hword : (!s.canFitted n || decide (32 ≤ b) || decide (21 ≤ i)) = false := by simp [hfit, hb, hi]
  rw [State.runCanTxBufferWrite, State.txLocked, hword, Bool.false_or]
  cases s.gwOwned n b with
  | true => rfl
  | false => rfl

theorem exec_canTxBufferWrite_of_word {s : State} {w : Who} {n b i : Nat} (hreach : s.reaches w 13 = true)
    (hfit : s.canFitted n = true) (hb : b < 32) (hi : i < 21) (x : Word) :
    exec (.canTxBufferWrite w n b i x) s =
      .next (s.ship (if s.txLocked n b then s.reserved w else s.setReg ⟨.CAN_TXW, n, b, i⟩ x)) := by
  show execCanTxBufferWrite w n b i x s = _
  rw [execCanTxBufferWrite, State.asWho_of_reaches hreach, State.runCanTxBufferWrite_of_word w x hfit hb hi]

/-- Settles O26: a buffer at rest is not locked, so that its word is stored whole (the model's choice of assumption 26 for the
bits that R409 leaves zero); a write of a locked buffer is a reserved access, which sets the sender's flag only. -/
theorem txBufferGuard : Obligations.TxBufferGuard := by
  unfold Obligations.TxBufferGuard
  refine ⟨fun s w n b i x hreach hfit hb hi hgw hrest => ?_, fun s w n b i x hreach hfit hb hi hlocked => ?_⟩
  · rw [exec_canTxBufferWrite_of_word hreach hfit hb hi, State.txLocked_of_resting hgw hrest, if_neg Bool.false_ne_true]
    have hchanges : Changes [.CAN_TXW] [.twn] s (s.setReg ⟨.CAN_TXW, n, b, i⟩ x) :=
      (Changes.refl _ _ s).setReg (r := ⟨.CAN_TXW, n, b, i⟩) (List.mem_singleton_self _) x
    refine ⟨_, rfl, ?_, fun r hr => ?_, hchanges.ship (by decide) s⟩
    · rw [State.txw, State.ship_reg, State.reg_setReg_self]
    · rw [State.ship_reg, State.reg_setReg_ne s x hr]
  · rw [exec_canTxBufferWrite_of_word hreach hfit hb hi, if_pos (State.txLocked_iff.mpr hlocked)]
    obtain ⟨hrsvd, hpwrsv⟩ := s.ship_reserved_flags w
    exact ⟨_, rfl, hrsvd, hpwrsv, s.ship_reserved_changes w⟩

end Sys2Proof.Machine
end


section
/-! The frames of single commands (statements O12, O13, O17 to O20). The lemma `exec…_fr` of a command gives a mask of what it may
change; the registers and parts that a statement names cover that mask, which is a computation on numbers. -/

namespace Sys2Proof.Machine

/-- The registers and the parts named cover every bit of the mask. -/
def coveredBy (m : Nat) (rs : List Reg) (ps : List Part) : Bool :=
  !uncovered m rs && !(Part.all.any fun p => m.testBit p.bit && !ps.contains p)

theorem Fr.changes_of_covered {m : Nat} {s t : State} {rs : List Reg} {ps : List Part} (h : Fr m s t)
    (hc : coveredBy m rs ps = true) : Changes rs ps s t := by
  obtain ⟨hr, hp⟩ := Bool.and_eq_true_iff.mp hc
  exact h.changes ((Bool.not_eq_true' _).mp hr) ((Bool.not_eq_true' _).mp hp)

/-- What a command's mask says of it, by names. -/
theorem exec_changes_of_mask {c : Instr} {s : State} {m : Nat} {rs : List Reg} {ps : List Part}
    (hfr : ∀ {t : State}, exec c s = .next t → Fr m s t) (hc : coveredBy m rs ps = true) :
    ∃ t, exec c s = .next t ∧ Changes rs ps s t := by
  obtain ⟨t, ht⟩ := exec_next c s
  exact ⟨t, ht, (hfr ht).changes_of_covered hc⟩

/-- The parts named lie outside the mask. -/
def outsideOf (m : Nat) (ps : List Part) : Bool := ps.all fun p => !m.testBit p.bit

theorem exec_same_of_mask {c : Instr} {s : State} {m : Nat} {ps : List Part}
    (hfr : ∀ {t : State}, exec c s = .next t → Fr m s t) (ho : outsideOf m ps = true) :
    ∃ t, exec c s = .next t ∧ ∀ p ∈ ps, p.same s t := by
  obtain ⟨t, ht⟩ := exec_next c s
  exact ⟨t, ht, fun p hp => (hfr ht).part ((Bool.not_eq_true' _).mp (List.all_eq_true.mp ho p hp))⟩

/-- Settles O12: the names of each clause cover the mask of its command. -/
theorem supplyAndModeFrames : Obligations.SupplyAndModeFrames := by
  unfold Obligations.SupplyAndModeFrames
  exact ⟨
    fun _ _ => exec_changes_of_mask (execSupplyGood_fr (Nat.or_self _) (Fr.id _ _)) (by decide +kernel),
    fun _ _ => exec_changes_of_mask (execHoldTimerExpiry_fr (Nat.or_self _) (Fr.id _ _)) (by decide +kernel),
    fun _ => exec_changes_of_mask (execLogicResetRelease_fr (Nat.or_self _) (Fr.id _ _)) (by decide +kernel),
    fun _ => exec_changes_of_mask (execStartClocksLocked_fr (Nat.or_self _) (Fr.id _ _)) (by decide +kernel),
    fun _ _ _ => exec_changes_of_mask (execStartSupervisorCheckDone_fr (Nat.or_self _) (Fr.id _ _)) (by decide +kernel),
    fun _ _ _ => exec_changes_of_mask (execS2RetryTimer_fr (Nat.or_self _) (Fr.id _ _)) (by decide +kernel),
    fun _ => exec_changes_of_mask (execKeyDerivationDone_fr (Nat.or_self _) (Fr.id _ _)) (by decide +kernel),
    fun _ _ _ _ => exec_changes_of_mask (execModeRequest_fr (Nat.or_self _) (Fr.id _ _)) (by decide +kernel),
    fun _ => exec_changes_of_mask (execStagingTimeout_fr (Nat.or_self _) (Fr.id _ _)) (by decide +kernel),
    fun _ _ => exec_changes_of_mask (execMainUndervoltage_fr (Nat.or_self _) (Fr.id _ _)) (by decide +kernel),
    fun _ _ _ => exec_changes_of_mask (execBackupUndervoltage_fr (Nat.or_self _) (Fr.id _ _)) (by decide +kernel),
    fun _ _ _ => exec_changes_of_mask (execSupplyOvervoltage_fr (Nat.or_self _) (Fr.id _ _)) (by decide +kernel),
    fun _ _ => exec_changes_of_mask (execReverseCurrent_fr (Nat.or_self _) (Fr.id _ _)) (by decide +kernel),
    fun _ => exec_changes_of_mask (execTransferBackupOn_fr (Nat.or_self _) (Fr.id _ _)) (by decide +kernel),
    fun _ _ => exec_changes_of_mask (execTransferMainOpen_fr (Nat.or_self _) (Fr.id _ _)) (by decide +kernel),
    fun _ _ => exec_changes_of_mask (execPwrPrcmdForce_fr (Nat.or_self _) (Fr.id _ _)) (by decide +kernel),
    fun _ _ => exec_changes_of_mask (execPwrPrcmdReturn_fr (Nat.or_self _) (Fr.id _ _)) (by decide +kernel),
    fun _ => exec_changes_of_mask (execTretExpiry_fr (Nat.or_self _) (Fr.id _ _)) (by decide +kernel),
    fun _ _ => exec_changes_of_mask (execRailReturnDone_fr (Nat.or_self _) (Fr.id _ _)) (by decide +kernel),
    fun _ _ => exec_changes_of_mask (execBaseplateHot_fr (Nat.or_self _) (Fr.id _ _)) (by decide +kernel),
    fun _ _ _ => exec_changes_of_mask (execOvervoltageClear_fr (Nat.or_self _) (Fr.id _ _)) (by decide +kernel),
    fun _ _ => exec_changes_of_mask (execTbhotClear_fr (Nat.or_self _) (Fr.id _ _)) (by decide +kernel)⟩

/-- Settles O13: the names of each clause cover the mask of its command. -/
theorem imageAndFabricFrames : Obligations.ImageAndFabricFrames := by
  unfold Obligations.ImageAndFabricFrames
  exact ⟨
    fun _ => exec_changes_of_mask (execCatWctlOpen_fr (Nat.or_self _) (Fr.id _ _)) (by decide +kernel),
    fun _ => exec_changes_of_mask (execSlotEraseDone_fr (Nat.or_self _) (Fr.id _ _)) (by decide +kernel),
    fun _ _ _ => exec_changes_of_mask (execSlotWordWrite_fr (Nat.or_self _) (Fr.id _ _)) (by decide +kernel),
    fun _ => exec_changes_of_mask (execCatWctlClose_fr (Nat.or_self _) (Fr.id _ _)) (by decide +kernel),
    fun _ _ => exec_changes_of_mask (execSlotCheckDone_fr (Nat.or_self _) (Fr.id _ _)) (by decide +kernel),
    fun _ => exec_changes_of_mask (execCatWctlCommit_fr (Nat.or_self _) (Fr.id _ _)) (by decide +kernel),
    fun _ => exec_changes_of_mask (execSlotCommitDone_fr (Nat.or_self _) (Fr.id _ _)) (by decide +kernel),
    fun _ => exec_changes_of_mask (execCatWctlAbort_fr (Nat.or_self _) (Fr.id _ _)) (by decide +kernel),
    fun _ _ _ => exec_changes_of_mask (execFabLwr_fr (Nat.or_self _) (Fr.id _ _)) (by decide +kernel),
    fun _ _ _ _ => exec_changes_of_mask (execFabLwrg_fr (Nat.or_self _) (Fr.id _ _)) (by decide +kernel),
    fun _ _ _ _ => exec_changes_of_mask (execPuPdWrite_fr (Nat.or_self _) (Fr.id _ _)) (by decide +kernel),
    fun _ _ => exec_changes_of_mask (execPuGateRise_fr (Nat.or_self _) (Fr.id _ _)) (by decide +kernel),
    fun _ _ _ => exec_changes_of_mask (execLineEdgeEvent_fr (Nat.or_self _) (Fr.id _ _)) (by decide +kernel),
    fun _ _ => exec_changes_of_mask (execDivideComplete_fr (Nat.or_self _) (Fr.id _ _)) (by decide +kernel),
    fun _ _ _ _ => exec_changes_of_mask (execLoadComplete_fr (Nat.or_self _) (Fr.id _ _)) (by decide +kernel),
    fun _ _ _ _ => exec_changes_of_mask (execStoreQueueDrain_fr (Nat.or_self _) (Fr.id _ _)) (by decide +kernel),
    fun _ _ _ _ => exec_changes_of_mask (execStrOperationComplete_fr (Nat.or_self _) (Fr.id _ _)) (by decide +kernel),
    fun _ _ => exec_changes_of_mask (execTimedWaitExpiry_fr (Nat.or_self _) (Fr.id _ _)) (by decide +kernel),
    fun _ _ => exec_changes_of_mask (execAlarmExpiry_fr (Nat.or_self _) (Fr.id _ _)) (by decide +kernel),
    fun _ _ => exec_changes_of_mask (execShadowPreloadDone_fr (Nat.or_self _) (Fr.id _ _)) (by decide +kernel),
    fun _ _ => exec_changes_of_mask (execBudgetExpiry_fr (Nat.or_self _) (Fr.id _ _)) (by decide +kernel),
    fun _ _ => exec_changes_of_mask (execQuarantineEffect_fr (Nat.or_self _) (Fr.id _ _)) (by decide +kernel),
    fun _ _ _ => exec_changes_of_mask (execCtxCmdRelease_fr (Nat.or_self _) (Fr.id _ _)) (by decide +kernel),
    fun _ _ _ => exec_changes_of_mask (execCtxCmdQuarantine_fr (Nat.or_self _) (Fr.id _ _)) (by decide +kernel),
    fun _ => exec_changes_of_mask (execEccWriteback_fr (Nat.or_self _) (Fr.id _ _)) (by decide +kernel),
    fun _ _ _ => exec_changes_of_mask (execScrubRead_fr (Nat.or_self _) (Fr.id _ _)) (by decide +kernel),
    fun _ _ => exec_changes_of_mask (execBankWakeDone_fr (Nat.or_self _) (Fr.id _ _)) (by decide +kernel),
    fun _ => exec_changes_of_mask (execBankInitDone_fr (Nat.or_self _) (Fr.id _ _)) (by decide +kernel)⟩

/-- Settles O17: the names of each clause cover the mask of its command. -/
theorem busFrames : Obligations.BusFrames := by
  unfold Obligations.BusFrames
  exact ⟨
    fun _ _ _ _ => exec_changes_of_mask (execCanFrameReceived_fr (Nat.or_self _) (Fr.id _ _)) (by decide +kernel),
    fun _ _ _ _ => exec_changes_of_mask (execCanRxdRead_fr (Nat.or_self _) (Fr.id _ _)) (by decide +kernel),
    fun _ _ _ _ _ => exec_changes_of_mask (execCanRxpop_fr (Nat.or_self _) (Fr.id _ _)) (by decide +kernel),
    fun _ _ _ _ _ _ => exec_changes_of_mask (execCanTxBufferWrite_fr (Nat.or_self _) (Fr.id _ _)) (by decide +kernel),
    fun _ _ _ _ => exec_changes_of_mask (execCanTxRequest_fr (Nat.or_self _) (Fr.id _ _)) (by decide +kernel),
    fun _ _ _ _ _ => exec_changes_of_mask (execCanTxCancel_fr (Nat.or_self _) (Fr.id _ _)) (by decide +kernel),
    fun _ _ _ => exec_changes_of_mask (execCanStagingDone_fr (Nat.or_self _) (Fr.id _ _)) (by decide +kernel),
    fun _ _ => exec_changes_of_mask (execCanTxChoice_fr (Nat.or_self _) (Fr.id _ _)) (by decide +kernel),
    fun _ _ _ _ => exec_changes_of_mask (execCanTxSuccess_fr (Nat.or_self _) (Fr.id _ _)) (by decide +kernel),
    fun _ _ _ _ => exec_changes_of_mask (execCanTxError_fr (Nat.or_self _) (Fr.id _ _)) (by decide +kernel),
    fun _ _ _ => exec_changes_of_mask (execCanRxError_fr (Nat.or_self _) (Fr.id _ _)) (by decide +kernel),
    fun _ _ => exec_changes_of_mask (execBusOffRecoveryDone_fr (Nat.or_self _) (Fr.id _ _)) (by decide +kernel),
    fun _ _ _ => exec_changes_of_mask (execCanCmdRecover_fr (Nat.or_self _) (Fr.id _ _)) (by decide +kernel),
    fun _ _ _ => exec_changes_of_mask (execCanCmdClrlonely_fr (Nat.or_self _) (Fr.id _ _)) (by decide +kernel),
    fun _ _ => exec_changes_of_mask (execCanIntegrationDone_fr (Nat.or_self _) (Fr.id _ _)) (by decide +kernel),
    fun _ _ _ => exec_changes_of_mask (execTxdDominantTimeout_fr (Nat.or_self _) (Fr.id _ _)) (by decide +kernel),
    fun _ _ => exec_changes_of_mask (execGatewayBufferLoad_fr (Nat.or_self _) (Fr.id _ _)) (by decide +kernel),
    fun _ _ => exec_changes_of_mask (execLinSlotStart_fr (Nat.or_self _) (Fr.id _ _)) (by decide +kernel),
    fun _ _ _ _ _ _ => exec_changes_of_mask (execLinResponseReceived_fr (Nat.or_self _) (Fr.id _ _)) (by decide +kernel),
    fun _ _ _ _ => exec_changes_of_mask (execLinResponseTimeout_fr (Nat.or_self _) (Fr.id _ _)) (by decide +kernel),
    fun _ _ => exec_changes_of_mask (execLinBusDominant_fr (Nat.or_self _) (Fr.id _ _)) (by decide +kernel),
    fun _ _ _ _ => exec_changes_of_mask (execLinSchedWrite_fr (Nat.or_self _) (Fr.id _ _)) (by decide +kernel),
    fun _ _ _ => exec_changes_of_mask (execLinCmdWake_fr (Nat.or_self _) (Fr.id _ _)) (by decide +kernel),
    fun _ _ _ _ _ _ => exec_changes_of_mask (execLinDataWrite_fr (Nat.or_self _) (Fr.id _ _)) (by decide +kernel),
    fun _ _ _ _ _ => exec_changes_of_mask (execLinDataRead_fr (Nat.or_self _) (Fr.id _ _)) (by decide +kernel),
    fun _ _ => exec_changes_of_mask (execLinScheduleResume_fr (Nat.or_self _) (Fr.id _ _)) (by decide +kernel),
    fun _ _ _ _ => exec_changes_of_mask (execEthFrameReceived_fr (Nat.or_self _) (Fr.id _ _)) (by decide +kernel),
    fun _ _ _ => exec_changes_of_mask (execEthLinkChange_fr (Nat.or_self _) (Fr.id _ _)) (by decide +kernel),
    fun _ _ => exec_changes_of_mask (execPlcaBeaconLost_fr (Nat.or_self _) (Fr.id _ _)) (by decide +kernel),
    fun _ _ _ => exec_changes_of_mask (execSyncMessageReceived_fr (Nat.or_self _) (Fr.id _ _)) (by decide +kernel),
    fun _ => exec_changes_of_mask (execSyncLost_fr (Nat.or_self _) (Fr.id _ _)) (by decide +kernel),
    fun _ _ _ => exec_changes_of_mask (execTalkerPduSend_fr (Nat.or_self _) (Fr.id _ _)) (by decide +kernel),
    fun _ _ _ _ => exec_changes_of_mask (execListenerPduReceived_fr (Nat.or_self _) (Fr.id _ _)) (by decide +kernel),
    fun _ _ _ _ => exec_changes_of_mask (execNmFrameReceived_fr (Nat.or_self _) (Fr.id _ _)) (by decide +kernel),
    fun _ => exec_changes_of_mask (execNmCycle_fr (Nat.or_self _) (Fr.id _ _)) (by decide +kernel),
    fun _ => exec_changes_of_mask (execSleepPendingEntry_fr (Nat.or_self _) (Fr.id _ _)) (by decide +kernel),
    fun _ => exec_changes_of_mask (execTpendExpiry_fr (Nat.or_self _) (Fr.id _ _)) (by decide +kernel),
    fun _ => exec_changes_of_mask (execNmBusIdle_fr (Nat.or_self _) (Fr.id _ _)) (by decide +kernel),
    fun _ => exec_changes_of_mask (execNmStandbyDone_fr (Nat.or_self _) (Fr.id _ _)) (by decide +kernel),
    fun _ _ => exec_changes_of_mask (execNmCmdWake_fr (Nat.or_self _) (Fr.id _ _)) (by decide +kernel),
    fun _ _ _ => exec_changes_of_mask (execNmCtlWrite_fr (Nat.or_self _) (Fr.id _ _)) (by decide +kernel),
    fun _ => exec_changes_of_mask (execNmLocalWakeLine_fr (Nat.or_self _) (Fr.id _ _)) (by decide +kernel),
    fun _ => exec_changes_of_mask (execNmWakeFromSleep_fr (Nat.or_self _) (Fr.id _ _)) (by decide +kernel),
    fun _ _ _ => exec_changes_of_mask (execPnClusterTimeout_fr (Nat.or_self _) (Fr.id _ _)) (by decide +kernel),
    fun _ _ => exec_changes_of_mask (execClusterActivationTimeout_fr (Nat.or_self _) (Fr.id _ _)) (by decide +kernel),
    fun _ _ => exec_changes_of_mask (execTxdRecessiveReturn_fr (Nat.or_self _) (Fr.id _ _)) (by decide +kernel),
    fun _ _ _ => exec_changes_of_mask (execEthLinkUp_fr (Nat.or_self _) (Fr.id _ _)) (by decide +kernel),
    fun _ _ => exec_changes_of_mask (execPlcaBeaconReturn_fr (Nat.or_self _) (Fr.id _ _)) (by decide +kernel)⟩

/-- Settles O18: the names of each clause cover the mask of its command. -/
theorem conservatorAndTwinFrames : Obligations.ConservatorAndTwinFrames := by
  unfold Obligations.ConservatorAndTwinFrames
  exact ⟨
    fun _ _ => exec_changes_of_mask (execFaultReport_fr (Nat.or_self _) (Fr.id _ _)) (by decide +kernel),
    fun _ _ => exec_changes_of_mask (execReactionSequenceEnd_fr (Nat.or_self _) (Fr.id _ _)) (by decide +kernel),
    fun _ _ => exec_changes_of_mask (execShadowWindowEnd_fr (Nat.or_self _) (Fr.id _ _)) (by decide +kernel),
    fun _ _ => exec_changes_of_mask (execSourceActivityExpiry_fr (Nat.or_self _) (Fr.id _ _)) (by decide +kernel),
    fun _ => exec_changes_of_mask (execLogWrite_fr (Nat.or_self _) (Fr.id _ _)) (by decide +kernel),
    fun _ => exec_changes_of_mask (execLogBufferFlush_fr (Nat.or_self _) (Fr.id _ _)) (by decide +kernel),
    fun _ _ _ => exec_changes_of_mask (execFltRgcmdRelease_fr (Nat.or_self _) (Fr.id _ _)) (by decide +kernel),
    fun _ _ => exec_changes_of_mask (execGroupAutoRelease_fr (Nat.or_self _) (Fr.id _ _)) (by decide +kernel),
    fun _ _ => exec_changes_of_mask (execFltAttnAck_fr (Nat.or_self _) (Fr.id _ _)) (by decide +kernel),
    fun _ _ => exec_changes_of_mask (execFltCmdClrlog_fr (Nat.or_self _) (Fr.id _ _)) (by decide +kernel),
    fun _ => exec_changes_of_mask (execFltCmdClrlost_fr (Nat.or_self _) (Fr.id _ _)) (by decide +kernel),
    fun _ _ _ _ => exec_changes_of_mask (execFltInjLive_fr (Nat.or_self _) (Fr.id _ _)) (by decide +kernel),
    fun _ _ _ _ => exec_changes_of_mask (execFltInjDry_fr (Nat.or_self _) (Fr.id _ _)) (by decide +kernel),
    fun _ => exec_changes_of_mask (execFltInjEnd_fr (Nat.or_self _) (Fr.id _ _)) (by decide +kernel),
    fun _ => exec_changes_of_mask (execInjectionExpiry_fr (Nat.or_self _) (Fr.id _ _)) (by decide +kernel),
    fun _ _ _ _ _ => exec_changes_of_mask (execDigestExchange_fr (Nat.or_self _) (Fr.id _ _)) (by decide +kernel),
    fun _ _ => exec_changes_of_mask (execTstCmdSelfTestA_fr (Nat.or_self _) (Fr.id _ _)) (by decide +kernel),
    fun _ _ => exec_changes_of_mask (execTstCmdSelfTestB_fr (Nat.or_self _) (Fr.id _ _)) (by decide +kernel),
    fun _ _ => exec_changes_of_mask (execTstCmdCompareTest_fr (Nat.or_self _) (Fr.id _ _)) (by decide +kernel),
    fun _ _ _ => exec_changes_of_mask (execTstCmdForcePathTest_fr (Nat.or_self _) (Fr.id _ _)) (by decide +kernel),
    fun _ => exec_changes_of_mask (execTakeoverRelease_fr (Nat.or_self _) (Fr.id _ _)) (by decide +kernel),
    fun _ => exec_changes_of_mask (execHandoverRoleTimer_fr (Nat.or_self _) (Fr.id _ _)) (by decide +kernel),
    fun _ => exec_changes_of_mask (execTwstartExpiry_fr (Nat.or_self _) (Fr.id _ _)) (by decide +kernel),
    fun _ => exec_changes_of_mask (execTrainingFrameSend_fr (Nat.or_self _) (Fr.id _ _)) (by decide +kernel),
    fun _ => exec_changes_of_mask (execHeartbeatSend_fr (Nat.or_self _) (Fr.id _ _)) (by decide +kernel),
    fun _ => exec_changes_of_mask (execProtectionShipTick_fr (Nat.or_self _) (Fr.id _ _)) (by decide +kernel),
    fun _ => exec_changes_of_mask (execLinkLost_fr (Nat.or_self _) (Fr.id _ _)) (by decide +kernel),
    fun _ _ => exec_changes_of_mask (execLaneLost_fr (Nat.or_self _) (Fr.id _ _)) (by decide +kernel),
    fun _ _ => exec_changes_of_mask (execTwnCmdFailback_fr (Nat.or_self _) (Fr.id _ _)) (by decide +kernel),
    fun _ _ => exec_changes_of_mask (execTwnCmdResync_fr (Nat.or_self _) (Fr.id _ _)) (by decide +kernel),
    fun _ => exec_changes_of_mask (execTwokIRise_fr (Nat.or_self _) (Fr.id _ _)) (by decide +kernel),
    fun _ _ => exec_changes_of_mask (execTwinLaneUp_fr (Nat.or_self _) (Fr.id _ _)) (by decide +kernel)⟩

/-- Settles O19: the names of each clause cover the mask of its command. -/
theorem keyAndHostFrames : Obligations.KeyAndHostFrames := by
  unfold Obligations.KeyAndHostFrames
  exact ⟨
    fun _ _ => exec_changes_of_mask (execKeyCmdApply_fr (Nat.or_self _) (Fr.id _ _)) (by decide +kernel),
    fun _ _ _ _ => exec_changes_of_mask (execKeyCmdPlainwr_fr (Nat.or_self _) (Fr.id _ _)) (by decide +kernel),
    fun _ _ _ => exec_changes_of_mask (execKeyCmdImgkey_fr (Nat.or_self _) (Fr.id _ _)) (by decide +kernel),
    fun _ _ => exec_changes_of_mask (execKeyCmdSvcchal_fr (Nat.or_self _) (Fr.id _ _)) (by decide +kernel),
    fun _ _ => exec_changes_of_mask (execKeyCmdSvcauth_fr (Nat.or_self _) (Fr.id _ _)) (by decide +kernel),
    fun _ _ => exec_changes_of_mask (execKeyCmdClrcache_fr (Nat.or_self _) (Fr.id _ _)) (by decide +kernel),
    fun _ => exec_changes_of_mask (execKeyCommitDone_fr (Nat.or_self _) (Fr.id _ _)) (by decide +kernel),
    fun _ => exec_changes_of_mask (execSvcokExpiry_fr (Nat.or_self _) (Fr.id _ _)) (by decide +kernel),
    fun _ => exec_changes_of_mask (execSvcLockoutExpiry_fr (Nat.or_self _) (Fr.id _ _)) (by decide +kernel),
    fun _ _ _ => exec_changes_of_mask (execKeyOpgo_fr (Nat.or_self _) (Fr.id _ _)) (by decide +kernel),
    fun _ => exec_changes_of_mask (execKeyOperationDone_fr (Nat.or_self _) (Fr.id _ _)) (by decide +kernel),
    fun _ _ => exec_changes_of_mask (execKeyTcfgWrite_fr (Nat.or_self _) (Fr.id _ _)) (by decide +kernel),
    fun _ _ => exec_changes_of_mask (execHostReservedCommand_fr (Nat.or_self _) (Fr.id _ _)) (by decide +kernel),
    fun _ => exec_changes_of_mask (execHostFrameAbort_fr (Nat.or_self _) (Fr.id _ _)) (by decide +kernel),
    fun _ _ _ => exec_changes_of_mask (execCalValWrite_fr (Nat.or_self _) (Fr.id _ _)) (by decide +kernel),
    fun _ _ => exec_changes_of_mask (execCalCommitDone_fr (Nat.or_self _) (Fr.id _ _)) (by decide +kernel),
    fun _ _ _ _ => exec_changes_of_mask (execCrossingTimeout_fr (Nat.or_self _) (Fr.id _ _)) (by decide +kernel)⟩

/-- Settles O20: each part named lies outside the mask of its command. -/
theorem wideFrames : Obligations.WideFrames := by
  unfold Obligations.WideFrames
  exact ⟨
    fun _ _ => exec_same_of_mask (execPowerIslandReset_fr (Nat.or_self _) (Fr.id _ _)) (by decide +kernel),
    fun _ => exec_same_of_mask (execSupplyBrownout_fr (Nat.or_self _) (Fr.id _ _)) (by decide +kernel),
    fun _ _ => exec_same_of_mask (execReferenceLoss_fr (Nat.or_self _) (Fr.id _ _)) (by decide +kernel),
    fun _ _ => exec_same_of_mask (execLogicReset_fr (Nat.or_self _) (Fr.id _ _)) (by decide +kernel),
    fun _ _ => exec_same_of_mask (execPufAttemptDone_fr (Nat.or_self _) (Fr.id _ _)) (by decide +kernel),
    fun _ _ => exec_same_of_mask (execImageReadDone_fr (Nat.or_self _) (Fr.id _ _)) (by decide +kernel),
    fun _ => exec_same_of_mask (execImageVerifyDone_fr (Nat.or_self _) (Fr.id _ _)) (by decide +kernel),
    fun _ => exec_same_of_mask (execCatalogueLoadDone_fr (Nat.or_self _) (Fr.id _ _)) (by decide +kernel),
    fun _ => exec_same_of_mask (execStartBoundary_fr (Nat.or_self _) (Fr.id _ _)) (by decide +kernel),
    fun _ => exec_same_of_mask (execModeBoundary_fr (Nat.or_self _) (Fr.id _ _)) (by decide +kernel),
    fun _ _ => exec_same_of_mask (execStaggerStepExpiry_fr (Nat.or_self _) (Fr.id _ _)) (by decide +kernel),
    fun _ => exec_same_of_mask (execPowerDownDone_fr (Nat.or_self _) (Fr.id _ _)) (by decide +kernel),
    fun _ _ _ => exec_same_of_mask (execSysRstcmd_fr (Nat.or_self _) (Fr.id _ _)) (by decide +kernel),
    fun _ _ _ => exec_same_of_mask (execDocWdkick_fr (Nat.or_self _) (Fr.id _ _)) (by decide +kernel),
    fun _ => exec_same_of_mask (execWatchdogExpiry_fr (Nat.or_self _) (Fr.id _ _)) (by decide +kernel),
    fun _ _ => exec_same_of_mask (execParkedSinPoll_fr (Nat.or_self _) (Fr.id _ _)) (by decide +kernel),
    fun _ _ _ => exec_same_of_mask (execCanWakePattern_fr (Nat.or_self _) (Fr.id _ _)) (by decide +kernel),
    fun _ _ _ => exec_same_of_mask (execCanWakeFrame_fr (Nat.or_self _) (Fr.id _ _)) (by decide +kernel),
    fun _ _ => exec_same_of_mask (execLinWakePulse_fr (Nat.or_self _) (Fr.id _ _)) (by decide +kernel),
    fun _ => exec_same_of_mask (execAlwaysOnTimerWake_fr (Nat.or_self _) (Fr.id _ _)) (by decide +kernel),
    fun _ => exec_same_of_mask (execTwokIFall_fr (Nat.or_self _) (Fr.id _ _)) (by decide +kernel),
    fun _ => exec_same_of_mask (execWakePowerUpDone_fr (Nat.or_self _) (Fr.id _ _)) (by decide +kernel),
    fun _ _ => exec_same_of_mask (execRetentionCheckDone_fr (Nat.or_self _) (Fr.id _ _)) (by decide +kernel),
    fun _ => exec_same_of_mask (execWakeBoundary_fr (Nat.or_self _) (Fr.id _ _)) (by decide +kernel),
    fun _ => exec_same_of_mask (execPollPeriodExpiry_fr (Nat.or_self _) (Fr.id _ _)) (by decide +kernel),
    fun _ => exec_same_of_mask (execPollWindowEnd_fr (Nat.or_self _) (Fr.id _ _)) (by decide +kernel),
    fun _ _ _ _ => exec_same_of_mask (execMove_fr (Nat.or_self _) (Fr.id _ _)) (by decide +kernel),
    fun _ _ _ _ => exec_same_of_mask (execAluOperation_fr (Nat.or_self _) (Fr.id _ _)) (by decide +kernel),
    fun _ _ _ _ => exec_same_of_mask (execMulMultiply_fr (Nat.or_self _) (Fr.id _ _)) (by decide +kernel),
    fun _ _ _ _ => exec_same_of_mask (execMulDivide_fr (Nat.or_self _) (Fr.id _ _)) (by decide +kernel),
    fun _ _ _ _ => exec_same_of_mask (execSatOperation_fr (Nat.or_self _) (Fr.id _ _)) (by decide +kernel),
    fun _ _ _ _ => exec_same_of_mask (execLsuLoad_fr (Nat.or_self _) (Fr.id _ _)) (by decide +kernel),
    fun _ _ _ _ => exec_same_of_mask (execLsuStore_fr (Nat.or_self _) (Fr.id _ _)) (by decide +kernel),
    fun _ _ _ _ => exec_same_of_mask (execLsuAtomic_fr (Nat.or_self _) (Fr.id _ _)) (by decide +kernel),
    fun _ _ _ => exec_same_of_mask (execLsuStatRead_fr (Nat.or_self _) (Fr.id _ _)) (by decide +kernel),
    fun _ _ => exec_same_of_mask (execStrCopy_fr (Nat.or_self _) (Fr.id _ _)) (by decide +kernel),
    fun _ _ _ => exec_same_of_mask (execStrFill_fr (Nat.or_self _) (Fr.id _ _)) (by decide +kernel),
    fun _ _ => exec_same_of_mask (execStrCmp_fr (Nat.or_self _) (Fr.id _ _)) (by decide +kernel),
    fun _ _ => exec_same_of_mask (execStrCrc_fr (Nat.or_self _) (Fr.id _ _)) (by decide +kernel),
    fun _ _ _ _ => exec_same_of_mask (execPcJump_fr (Nat.or_self _) (Fr.id _ _)) (by decide +kernel),
    fun _ _ _ _ => exec_same_of_mask (execPcCall_fr (Nat.or_self _) (Fr.id _ _)) (by decide +kernel),
    fun _ _ _ => exec_same_of_mask (execEvtWait_fr (Nat.or_self _) (Fr.id _ _)) (by decide +kernel),
    fun _ _ _ => exec_same_of_mask (execEvtSend_fr (Nat.or_self _) (Fr.id _ _)) (by decide +kernel),
    fun _ _ _ => exec_same_of_mask (execEvtClr_fr (Nat.or_self _) (Fr.id _ _)) (by decide +kernel),
    fun _ _ => exec_same_of_mask (execEvtYield_fr (Nat.or_self _) (Fr.id _ _)) (by decide +kernel),
    fun _ _ _ => exec_same_of_mask (execTmrNow_fr (Nat.or_self _) (Fr.id _ _)) (by decide +kernel),
    fun _ _ _ => exec_same_of_mask (execTmrUntil_fr (Nat.or_self _) (Fr.id _ _)) (by decide +kernel),
    fun _ _ _ => exec_same_of_mask (execTmrAfter_fr (Nat.or_self _) (Fr.id _ _)) (by decide +kernel),
    fun _ _ _ => exec_same_of_mask (execTmrAlarm_fr (Nat.or_self _) (Fr.id _ _)) (by decide +kernel),
    fun _ _ => exec_same_of_mask (execTmrAloff_fr (Nat.or_self _) (Fr.id _ _)) (by decide +kernel),
    fun _ _ _ => exec_same_of_mask (execRepT_fr (Nat.or_self _) (Fr.id _ _)) (by decide +kernel),
    fun _ _ _ _ => exec_same_of_mask (execWindowRead_fr (Nat.or_self _) (Fr.id _ _)) (by decide +kernel),
    fun _ _ _ _ => exec_same_of_mask (execWindowWrite_fr (Nat.or_self _) (Fr.id _ _)) (by decide +kernel),
    fun _ _ _ => exec_same_of_mask (execWindowTimeout_fr (Nat.or_self _) (Fr.id _ _)) (by decide +kernel),
    fun _ _ _ => exec_same_of_mask (execCoreFailure_fr (Nat.or_self _) (Fr.id _ _)) (by decide +kernel),
    fun _ _ => exec_same_of_mask (execMainRecovery_fr (Nat.or_self _) (Fr.id _ _)) (by decide +kernel),
    fun _ => exec_same_of_mask (execBothHalvesLost_fr (Nat.or_self _) (Fr.id _ _)) (by decide +kernel),
    fun _ _ _ => exec_same_of_mask (execSelfTestCycle_fr (Nat.or_self _) (Fr.id _ _)) (by decide +kernel),
    fun _ _ => exec_same_of_mask (execTestComplete_fr (Nat.or_self _) (Fr.id _ _)) (by decide +kernel),
    fun _ _ => exec_same_of_mask (execTwinSuspensionUnit_fr (Nat.or_self _) (Fr.id _ _)) (by decide +kernel),
    fun _ _ => exec_same_of_mask (execTwinOutputCommand_fr (Nat.or_self _) (Fr.id _ _)) (by decide +kernel),
    fun _ _ => exec_same_of_mask (execTwinProtectionState_fr (Nat.or_self _) (Fr.id _ _)) (by decide +kernel),
    fun _ _ => exec_same_of_mask (execTwinCan_fr (Nat.or_self _) (Fr.id _ _)) (by decide +kernel),
    fun _ _ => exec_same_of_mask (execTwinConditionReport_fr (Nat.or_self _) (Fr.id _ _)) (by decide +kernel),
    fun _ _ => exec_same_of_mask (execTwinHeartbeat_fr (Nat.or_self _) (Fr.id _ _)) (by decide +kernel),
    fun _ _ => exec_same_of_mask (execTwinResyncBlock_fr (Nat.or_self _) (Fr.id _ _)) (by decide +kernel),
    fun _ _ => exec_same_of_mask (execTwinClosing_fr (Nat.or_self _) (Fr.id _ _)) (by decide +kernel),
    fun _ _ => exec_same_of_mask (execTwinRoleClaim_fr (Nat.or_self _) (Fr.id _ _)) (by decide +kernel),
    fun _ _ => exec_same_of_mask (execTwinTraining_fr (Nat.or_self _) (Fr.id _ _)) (by decide +kernel),
    fun _ _ => exec_same_of_mask (execTamperEvent_fr (Nat.or_self _) (Fr.id _ _)) (by decide +kernel),
    fun _ _ => exec_same_of_mask (execDebugRequest_fr (Nat.or_self _) (Fr.id _ _)) (by decide +kernel),
    fun _ _ => exec_same_of_mask (execHostNop_fr (Nat.or_self _) (Fr.id _ _)) (by decide +kernel),
    fun _ _ => exec_same_of_mask (execHostRead_fr (Nat.or_self _) (Fr.id _ _)) (by decide +kernel),
    fun _ _ => exec_same_of_mask (execHostWrite_fr (Nat.or_self _) (Fr.id _ _)) (by decide +kernel),
    fun _ _ => exec_same_of_mask (execHostReads_fr (Nat.or_self _) (Fr.id _ _)) (by decide +kernel),
    fun _ _ => exec_same_of_mask (execHostWrites_fr (Nat.or_self _) (Fr.id _ _)) (by decide +kernel),
    fun _ _ _ _ => exec_same_of_mask (execRegisterWrite_fr (Nat.or_self _) (Fr.id _ _)) (by decide +kernel),
    fun _ _ _ _ _ => exec_same_of_mask (execMgmtRequest_fr (Nat.or_self _) (Fr.id _ _)) (by decide +kernel),
    fun _ _ => exec_same_of_mask (execWindowQueueDrain_fr (Nat.or_self _) (Fr.id _ _)) (by decide +kernel)⟩

end Sys2Proof.Machine
end

section
/-! What a predicate of states needs in order to be carried through the model's functions. `P` stands for a predicate such as "the
stored keys are those of `s₀`"; each lemma carries it through one way in which a function puts states together. -/

namespace Sys2Proof.Machine

namespace Holds

variable {P : State → Prop} {s t : State}

theorem ite {c : Prop} [Decidable c] {t e : State} (ht : P t) (he : P e) : P (if c then t else e) := by
  split <;> assumption

theorem ite2 {α : Type} {c : Prop} [Decidable c] {t e : α × State} (ht : P t.2) (he : P e.2) :
    P (if c then t else e).2 := by
  split <;> assumption

theorem mk2 {α : Type} {x : α} (h : P t) : P (x, t).2 := h

theorem foldl {α : Type} {f : State → α → State} {l : List α} (hf : ∀ s a, P s → P (f s a)) (h : P s) :
    P (l.foldl f s) := by
  induction l generalizing s with
  | nil => exact h
  | cons a l ih => exact ih (hf s a h)

theorem foldl2 {α β : Type} {f : β × State → α → β × State} {l : List α} {x : β × State}
    (hf : ∀ x a, P x.2 → P (f x a).2) (h : P x.2) : P (l.foldl f x).2 := by
  induction l generalizing x with
  | nil => exact h
  | cons a l ih => exact ih (hf x a h)

theorem forEach {α : Type} {f : α → State → State} {l : List α} (hf : ∀ a s, P s → P (f a s)) (h : P s) :
    P (forEach l f s) :=
  foldl (fun s a => hf a s) h

theorem onlyIf {c : Bool} {f : State → State} (hf : ∀ s, P s → P (f s)) (h : P s) : P (onlyIf c f s) := by
  unfold Machine.onlyIf
  split
  · exact hf s h
  · exact h

/-- What `p` does carries over to the state that a match on it binds. -/
theorem cutp {α : Type} {p : α × State} {x : α} {t u : State} (e : p = (x, t)) (h : P p.2) (k : P t → P u) : P u :=
  k (by rw [e] at h; exact h)

theorem cutp2 {α β : Type} {p : α × State} {x : α} {t : State} {u : β × State} (e : p = (x, t)) (h : P p.2)
    (k : P t → P u.2) : P u.2 :=
  k (by rw [e] at h; exact h)

end Holds

/-! ## Masks -/

/-- Every bit of a mask (Laws/Frame.lean). -/
def everything : Nat := 2 ^ 162 * 2 ^ 162 - 1

/-- Every bit of a mask but one. -/
def without (k : Nat) : Nat := everything ^^^ (1 <<< k)

end Sys2Proof.Machine
end

section
/-! Invariants of every step (statements O3, O7, O8, O10). The frame of `exec` with the full mask carries the canonical form of the
memory, the queue and the variant. -/

namespace Sys2Proof.Machine

theorem step_keeps_inv {s t : State} (hs : s.Inv) (e : step s = .next t) : t.Inv := by
  unfold step at e
  split at e
  · cases e
    exact (State.tick_fr (Nat.or_self _) (.id _ s)).wf hs
  · exact (exec_fr (m := everything) rfl (.id _ _) e).wf hs

/-- Settles O3: a clock edge leaves the memory alone, and every command keeps its canonical form. -/
theorem memoryKeepsForm : Obligations.MemoryKeepsForm := by
  unfold Obligations.MemoryKeepsForm
  exact fun _ _ => step_keeps_inv

/-- Settles O10: queue and variant lie outside every frame. -/
theorem queueUntouched : Obligations.QueueUntouched := by
  unfold Obligations.QueueUntouched
  intro c s
  obtain ⟨t, e⟩ := exec_next c s
  have hfr : Fr everything s t := exec_fr rfl (.id _ s) e
  exact ⟨t, e, hfr.pending, hfr.variant⟩

/-! ## CATLOCK -/

/-- A staggered step of an output waits whose word is one of KEY_STAT: such words are written without regard to the register they
name. -/
def lockedWithStep : State :=
  { State.reset with
    pending := [.staggerStepExpiry 1]
    sys := { (default : SysSt) with phase := .run, stag := [(0, 1, [(⟨.KEY_STAT, 0, 0, 0⟩, 0)])] }
    regs := [(⟨.KEY_STAT, 0, 0, 0⟩, 8)] }

theorem step_lockedWithStep_unlocks :
    (match step lockedWithStep with | .next t => t.bit KEY_STAT.CATLOCK | _ => true) = false := by
  decide +kernel

/-- Refutes O7: from a state whose staggered words name KEY_STAT, STAGGER_STEP_EXPIRY clears CATLOCK. -/
theorem not_catalogueLockStays : ¬ Obligations.CatalogueLockStays := by
  unfold Obligations.CatalogueLockStays
  intro h
  have hunlocks := step_lockedWithStep_unlocks
  obtain ⟨t, e⟩ := exec_next (.staggerStepExpiry 1) { lockedWithStep with pending := [] }
  have e' : step lockedWithStep = .next t := e
  rw [e'] at hunlocks
  exact absurd ((h lockedWithStep t (by decide) e').symm.trans hunlocks) (by decide)

/-! ## Hold -/

/-- What leaves the mode machine alone leaves its phase alone. -/
theorem Fr.phase {s t : State} (h : Fr (without 295) s t) : t.sys.phase = s.sys.phase := congrArg SysSt.phase (h.sys rfl)

/-- R57: a boundary into a mode other than Parked and Watch ends in Run's phase. -/
theorem State.boundary_phase_run (s : State) {m n prev : Nat} {k : BKind} (h1 : n ≠ 1) (h2 : n ≠ 2) :
    (s.boundary m n prev k).sys.phase = .run := by
  have hn : ¬ ((decide (n = 1) || decide (n = 2)) = true) := by simp [h1, h2]
  simp only [State.boundary, if_neg hn]
  cases k with
  | start =>
    exact (Fr.phase (State.settleLines_fr rfl (State.wdBoundary_fr rfl (State.ctxBoundary_fr rfl (State.netStart_fr rfl
      (.id _ _)))))).trans rfl
  | wake =>
    exact (Fr.phase (State.settleLines_fr rfl (State.wdBoundary_fr rfl (State.ctxBoundary_fr rfl (State.netWake_fr rfl
      (.id _ _)))))).trans rfl
  | plain =>
    exact (Fr.phase (State.settleLines_fr rfl (State.wdBoundary_fr rfl (State.ctxBoundary_fr rfl (State.netBoundary_fr rfl
      (.id _ _)))))).trans rfl

/-- R59, R73: a transition out of a poll window ends in Run's phase; the command asks for the window, not for the phase. -/
theorem exec_modeBoundary_phase_of_window {s : State} {p : Pend} (hpend : s.sys.pend = some p)
    (hopen : s.sys.pollOpen = true) (h1 : p.target ≠ 1) (h2 : p.target ≠ 2) :
    ∃ t, exec .modeBoundary s = .next t ∧ t.sys.phase = .run := by
  show ∃ t, execModeBoundary s = .next t ∧ _
  simp only [execModeBoundary, hpend, hopen, if_true]
  refine ⟨_, rfl, (Fr.phase (State.ship_fr rfl (Fr.ite (State.takeoverBy_fr rfl (.id _ _)) (.id _ _)))).trans ?_⟩
  exact (Fr.phase (State.done_fr rfl (.id _ _))).trans (State.boundary_phase_run _ h1 h2)

/-- In Hold with a poll window open and a transition to Normal mode pending. -/
def holdWithWindow : State :=
  { State.reset with sys := { (default : SysSt) with phase := .hold, pollOpen := true, pend := some ⟨3, 0⟩ } }

/-- Refutes O8: from a Hold with a poll window open and a transition pending, MODE_BOUNDARY ends Hold. -/
theorem not_holdIsLeft : ¬ Obligations.HoldIsLeft := by
  unfold Obligations.HoldIsLeft
  intro h
  obtain ⟨t, e, hphase⟩ := exec_modeBoundary_phase_of_window (s := holdWithWindow) rfl rfl (by decide) (by decide)
  obtain ⟨u, e', hleft, -⟩ := h .modeBoundary holdWithWindow
  have htu : t = u := by
    rw [e] at e'
    exact Host.Outcome.next.inj e'
  subst htu
  rcases hleft rfl (by rw [hphase]; decide) with hc | hc <;> exact absurd hc (by decide)

end Sys2Proof.Machine
end

section
/-! What a command leaves alone, for all commands at once. `commandScope` is one mask for each command: every bit but the time base's
and the security island's, which are set for the commands named only. -/

namespace Sys2Proof

/-- The commands with which the time base may change (R152, R639; assumption 6). -/
def Instr.timed : Instr → Bool
  | .supplyGood _ | .powerOnReset | .catalogueLoadDone | .wakePowerUpDone | .pollPeriodExpiry | .pulsePeriodEnd _
  | .timedWaitExpiry _ | .alarmExpiry _ => true
  | _ => false

/-- The commands that may change what the security island holds beyond its registers: its own, and those that may reset, seal
or write a register. -/
def Instr.keyed : Instr → Bool
  | .powerOnReset | .supplyBrownout | .referenceLoss _ | .logicReset _ | .pufAttemptDone _ | .keyDerivationDone
  | .imageReadDone _ | .imageVerifyDone | .sysRstcmd _ _ | .docWdkick _ _ | .watchdogExpiry | .wakePowerUpDone
  | .retentionCheckDone _ | .wakeBoundary | .move _ _ _ | .aluOperation _ _ _ | .mulMultiply _ _ _ | .mulDivide _ _ _
  | .satOperation _ _ _ | .lsuLoad _ _ _ | .lsuStore _ _ _ | .lsuAtomic _ _ _ | .lsuStatRead _ _ | .strCopy _
  | .strFill _ _ | .strCmp _ | .strCrc _ | .pcJump _ _ _ | .pcCall _ _ _ | .evtWait _ _ | .evtSend _ _ | .evtClr _ _
  | .evtYield _ | .tmrNow _ _ | .tmrUntil _ _ | .tmrAfter _ _ | .tmrAlarm _ _ | .tmrAloff _ | .repT _ _
  | .windowRead _ _ _ | .windowWrite _ _ _ | .windowTimeout _ _ | .coreFailure _ _ | .bothHalvesLost
  | .selfTestCycle _ _ | .testComplete _ | .twinSuspensionUnit _ | .twinOutputCommand _ | .twinProtectionState _
  | .twinCan _ | .twinConditionReport _ | .twinHeartbeat _ | .twinResyncBlock _ | .twinClosing _ | .twinRoleClaim _
  | .twinTraining _ | .keyCmdApply _ | .keyCmdPlainwr _ _ _ | .keyCmdImgkey _ _ | .keyCmdSvcchal _ | .keyCmdSvcauth _
  | .keyCmdClrcache _ | .keyCommitDone | .svcLockoutExpiry | .keyOpgo _ _ | .keyOperationDone | .tamperEvent _
  | .debugRequest _ | .hostNop _ | .hostRead _ | .hostWrite _ | .hostReads _ | .hostWrites _ | .registerWrite _ _ _
  | .mgmtRequest _ _ _ _ | .windowQueueDrain _ => true
  | _ => false

end Sys2Proof

namespace Sys2Proof.Machine

/-- Every bit of a mask but those of the time base and of the security island. -/
def timelessKeyless : Nat := 0xf7fffffdfffffffffffffffffffffffffffffffffffffffffffffffffffffffffffffffffffffffff

/-- The bits of the time base and of the security island. -/
def timeBit : Nat := 1 <<< 293
def keyBit : Nat := 1 <<< 319

def scopeOf (timed keyed : Bool) : Nat :=
  (if timed then timeBit else 0) ||| ((if keyed then keyBit else 0) ||| timelessKeyless)

/-- What a command may change, by the two questions asked of it. -/
def commandScope (c : Instr) : Nat := scopeOf c.timed c.keyed

theorem commandScope_tb {c : Instr} (h : c.timed = false) : (commandScope c).testBit 293 = false := by
  rw [commandScope, h]
  cases c.keyed <;> rfl

theorem commandScope_key {c : Instr} (h : c.keyed = false) : (commandScope c).testBit 319 = false := by
  rw [commandScope, h]
  cases c.timed <;> rfl

theorem exec_scope_fr {c : Instr} {s t : State} (e : exec c s = .next t) : Fr (commandScope c) s t := by
  cases c with
  | supplyGood => exact execSupplyGood_fr (m := scopeOf true false) rfl (.id _ _) e
  | powerOnReset => exact execPowerOnReset_fr (m := scopeOf true true) rfl (.id _ _) e
  | powerIslandReset => exact execPowerIslandReset_fr (m := scopeOf false false) rfl (.id _ _) e
  | supplyBrownout => exact execSupplyBrownout_fr (m := scopeOf false true) rfl (.id _ _) e
  | referenceLoss => exact execReferenceLoss_fr (m := scopeOf false true) rfl (.id _ _) e
  | logicReset => exact execLogicReset_fr (m := scopeOf false true) rfl (.id _ _) e
  | holdTimerExpiry => exact execHoldTimerExpiry_fr (m := scopeOf false false) rfl (.id _ _) e
  | logicResetRelease => exact execLogicResetRelease_fr (m := scopeOf false false) rfl (.id _ _) e
  | startClocksLocked => exact execStartClocksLocked_fr (m := scopeOf false false) rfl (.id _ _) e
  | startSupervisorCheckDone => exact execStartSupervisorCheckDone_fr (m := scopeOf false false) rfl (.id _ _) e
  | s2RetryTimer => exact execS2RetryTimer_fr (m := scopeOf false false) rfl (.id _ _) e
  | pufAttemptDone => exact execPufAttemptDone_fr (m := scopeOf false true) rfl (.id _ _) e
  | keyDerivationDone => exact execKeyDerivationDone_fr (m := scopeOf false true) rfl (.id _ _) e
  | imageReadDone => exact execImageReadDone_fr (m := scopeOf false true) rfl (.id _ _) e
  | imageVerifyDone => exact execImageVerifyDone_fr (m := scopeOf false true) rfl (.id _ _) e
  | catalogueLoadDone => exact execCatalogueLoadDone_fr (m := scopeOf true false) rfl (.id _ _) e
  | startBoundary => exact execStartBoundary_fr (m := scopeOf false false) rfl (.id _ _) e
  | modeRequest => exact execModeRequest_fr (m := scopeOf false false) rfl (.id _ _) e
  | stagingTimeout => exact execStagingTimeout_fr (m := scopeOf false false) rfl (.id _ _) e
  | modeBoundary => exact execModeBoundary_fr (m := scopeOf false false) rfl (.id _ _) e
  | staggerStepExpiry => exact execStaggerStepExpiry_fr (m := scopeOf false false) rfl (.id _ _) e
  | powerDownDone => exact execPowerDownDone_fr (m := scopeOf false false) rfl (.id _ _) e
  | sysRstcmd => exact execSysRstcmd_fr (m := scopeOf false true) rfl (.id _ _) e
  | docWdkick => exact execDocWdkick_fr (m := scopeOf false true) rfl (.id _ _) e
  | watchdogExpiry => exact execWatchdogExpiry_fr (m := scopeOf false true) rfl (.id _ _) e
  | parkedSinPoll => exact execParkedSinPoll_fr (m := scopeOf false false) rfl (.id _ _) e
  | canWakePattern => exact execCanWakePattern_fr (m := scopeOf false false) rfl (.id _ _) e
  | canWakeFrame => exact execCanWakeFrame_fr (m := scopeOf false false) rfl (.id _ _) e
  | linWakePulse => exact execLinWakePulse_fr (m := scopeOf false false) rfl (.id _ _) e
  | alwaysOnTimerWake => exact execAlwaysOnTimerWake_fr (m := scopeOf false false) rfl (.id _ _) e
  | twokIFall => exact execTwokIFall_fr (m := scopeOf false false) rfl (.id _ _) e
  | wakePowerUpDone => exact execWakePowerUpDone_fr (m := scopeOf true true) rfl (.id _ _) e
  | retentionCheckDone => exact execRetentionCheckDone_fr (m := scopeOf false true) rfl (.id _ _) e
  | wakeBoundary => exact execWakeBoundary_fr (m := scopeOf false true) rfl (.id _ _) e
  | pollPeriodExpiry => exact execPollPeriodExpiry_fr (m := scopeOf true false) rfl (.id _ _) e
  | pollWindowEnd => exact execPollWindowEnd_fr (m := scopeOf false false) rfl (.id _ _) e
  | catWctlOpen => exact execCatWctlOpen_fr (m := scopeOf false false) rfl (.id _ _) e
  | slotEraseDone => exact execSlotEraseDone_fr (m := scopeOf false false) rfl (.id _ _) e
  | slotWordWrite => exact execSlotWordWrite_fr (m := scopeOf false false) rfl (.id _ _) e
  | catWctlClose => exact execCatWctlClose_fr (m := scopeOf false false) rfl (.id _ _) e
  | slotCheckDone => exact execSlotCheckDone_fr (m := scopeOf false false) rfl (.id _ _) e
  | catWctlCommit => exact execCatWctlCommit_fr (m := scopeOf false false) rfl (.id _ _) e
  | slotCommitDone => exact execSlotCommitDone_fr (m := scopeOf false false) rfl (.id _ _) e
  | catWctlAbort => exact execCatWctlAbort_fr (m := scopeOf false false) rfl (.id _ _) e
  | fabLwr => exact execFabLwr_fr (m := scopeOf false false) rfl (.id _ _) e
  | fabLwrg => exact execFabLwrg_fr (m := scopeOf false false) rfl (.id _ _) e
  | puPdWrite => exact execPuPdWrite_fr (m := scopeOf false false) rfl (.id _ _) e
  | pulsePeriodEnd => exact execPulsePeriodEnd_fr (m := scopeOf true false) rfl (.id _ _) e
  | puGateRise => exact execPuGateRise_fr (m := scopeOf false false) rfl (.id _ _) e
  | lineEdgeEvent => exact execLineEdgeEvent_fr (m := scopeOf false false) rfl (.id _ _) e
  | channelCommandChange => exact execChannelCommandChange_fr (m := scopeOf false false) rfl (.id _ _) e
  | channelShortCut => exact execChannelShortCut_fr (m := scopeOf false false) rfl (.id _ _) e
  | currentLimitEntry => exact execCurrentLimitEntry_fr (m := scopeOf false false) rfl (.id _ _) e
  | currentLimitExit => exact execCurrentLimitExit_fr (m := scopeOf false false) rfl (.id _ _) e
  | tlimExpiry => exact execTlimExpiry_fr (m := scopeOf false false) rfl (.id _ _) e
  | inrushWindowEnd => exact execInrushWindowEnd_fr (m := scopeOf false false) rfl (.id _ _) e
  | inrushExtensionEnd => exact execInrushExtensionEnd_fr (m := scopeOf false false) rfl (.id _ _) e
  | droopDetected => exact execDroopDetected_fr (m := scopeOf false false) rfl (.id _ _) e
  | wireModelUpdate => exact execWireModelUpdate_fr (m := scopeOf false false) rfl (.id _ _) e
  | junctionTrip => exact execJunctionTrip_fr (m := scopeOf false false) rfl (.id _ _) e
  | deltaTTrip => exact execDeltaTTrip_fr (m := scopeOf false false) rfl (.id _ _) e
  | stuckOn => exact execStuckOn_fr (m := scopeOf false false) rfl (.id _ _) e
  | clampEventEnd => exact execClampEventEnd_fr (m := scopeOf false false) rfl (.id _ _) e
  | bucketFull => exact execBucketFull_fr (m := scopeOf false false) rfl (.id _ _) e
  | hswLockClear => exact execHswLockClear_fr (m := scopeOf false false) rfl (.id _ _) e
  | tretryExpiry => exact execTretryExpiry_fr (m := scopeOf false false) rfl (.id _ _) e
  | tripConditionClear => exact execTripConditionClear_fr (m := scopeOf false false) rfl (.id _ _) e
  | retryCounterReset => exact execRetryCounterReset_fr (m := scopeOf false false) rfl (.id _ _) e
  | hswClrTrip => exact execHswClrTrip_fr (m := scopeOf false false) rfl (.id _ _) e
  | openLoadMeasurement => exact execOpenLoadMeasurement_fr (m := scopeOf false false) rfl (.id _ _) e
  | bridgeCommandChange => exact execBridgeCommandChange_fr (m := scopeOf false false) rfl (.id _ _) e
  | reversalBrakeEnd => exact execReversalBrakeEnd_fr (m := scopeOf false false) rfl (.id _ _) e
  | bridgeCycleLimit => exact execBridgeCycleLimit_fr (m := scopeOf false false) rfl (.id _ _) e
  | cycleLimitEnd => exact execCycleLimitEnd_fr (m := scopeOf false false) rfl (.id _ _) e
  | bridgeTlimExpiry => exact execBridgeTlimExpiry_fr (m := scopeOf false false) rfl (.id _ _) e
  | brakeOvercurrent => exact execBrakeOvercurrent_fr (m := scopeOf false false) rfl (.id _ _) e
  | bridgeShortCut => exact execBridgeShortCut_fr (m := scopeOf false false) rfl (.id _ _) e
  | bridgeOpenLoad => exact execBridgeOpenLoad_fr (m := scopeOf false false) rfl (.id _ _) e
  | positionCount => exact execPositionCount_fr (m := scopeOf false false) rfl (.id _ _) e
  | positionError => exact execPositionError_fr (m := scopeOf false false) rfl (.id _ _) e
  | pinchPeriodExceeded => exact execPinchPeriodExceeded_fr (m := scopeOf false false) rfl (.id _ _) e
  | stallDetected => exact execStallDetected_fr (m := scopeOf false false) rfl (.id _ _) e
  | tstopbrkExpiry => exact execTstopbrkExpiry_fr (m := scopeOf false false) rfl (.id _ _) e
  | hbrTgtWrite => exact execHbrTgtWrite_fr (m := scopeOf false false) rfl (.id _ _) e
  | hbrPosset => exact execHbrPosset_fr (m := scopeOf false false) rfl (.id _ _) e
  | hbrClrTrip => exact execHbrClrTrip_fr (m := scopeOf false false) rfl (.id _ _) e
  | hbrClrStop => exact execHbrClrStop_fr (m := scopeOf false false) rfl (.id _ _) e
  | hbrSflt => exact execHbrSflt_fr (m := scopeOf false false) rfl (.id _ _) e
  | valveCommandRise => exact execValveCommandRise_fr (m := scopeOf false false) rfl (.id _ _) e
  | valveCommandFall => exact execValveCommandFall_fr (m := scopeOf false false) rfl (.id _ _) e
  | boostStart => exact execBoostStart_fr (m := scopeOf false false) rfl (.id _ _) e
  | boostEnd => exact execBoostEnd_fr (m := scopeOf false false) rfl (.id _ _) e
  | boostWaitLimit => exact execBoostWaitLimit_fr (m := scopeOf false false) rfl (.id _ _) e
  | decayEnd => exact execDecayEnd_fr (m := scopeOf false false) rfl (.id _ _) e
  | tvminoffExpiry => exact execTvminoffExpiry_fr (m := scopeOf false false) rfl (.id _ _) e
  | openCoilCheck => exact execOpenCoilCheck_fr (m := scopeOf false false) rfl (.id _ _) e
  | holdCurrentLow => exact execHoldCurrentLow_fr (m := scopeOf false false) rfl (.id _ _) e
  | coilModelUpdate => exact execCoilModelUpdate_fr (m := scopeOf false false) rfl (.id _ _) e
  | bankEmergencyOff => exact execBankEmergencyOff_fr (m := scopeOf false false) rfl (.id _ _) e
  | bankOpeningEnd => exact execBankOpeningEnd_fr (m := scopeOf false false) rfl (.id _ _) e
  | bankEnableOn => exact execBankEnableOn_fr (m := scopeOf false false) rfl (.id _ _) e
  | bankSwitchTrip => exact execBankSwitchTrip_fr (m := scopeOf false false) rfl (.id _ _) e
  | coilShortCut => exact execCoilShortCut_fr (m := scopeOf false false) rfl (.id _ _) e
  | vlvClrTrip => exact execVlvClrTrip_fr (m := scopeOf false false) rfl (.id _ _) e
  | contactorCommandRise => exact execContactorCommandRise_fr (m := scopeOf false false) rfl (.id _ _) e
  | contactorCommandFall => exact execContactorCommandFall_fr (m := scopeOf false false) rfl (.id _ _) e
  | pullinEnd => exact execPullinEnd_fr (m := scopeOf false false) rfl (.id _ _) e
  | contactorHighSideOpen => exact execContactorHighSideOpen_fr (m := scopeOf false false) rfl (.id _ _) e
  | auxContactCheck => exact execAuxContactCheck_fr (m := scopeOf false false) rfl (.id _ _) e
  | ledLevelWrite => exact execLedLevelWrite_fr (m := scopeOf false false) rfl (.id _ _) e
  | demandLineChange => exact execDemandLineChange_fr (m := scopeOf false false) rfl (.id _ _) e
  | dimmingDutyWrite => exact execDimmingDutyWrite_fr (m := scopeOf false false) rfl (.id _ _) e
  | shortToGround => exact execShortToGround_fr (m := scopeOf false false) rfl (.id _ _) e
  | openStringMeasurement => exact execOpenStringMeasurement_fr (m := scopeOf false false) rfl (.id _ _) e
  | shortedLedCheck => exact execShortedLedCheck_fr (m := scopeOf false false) rfl (.id _ _) e
  | dacFailure => exact execDacFailure_fr (m := scopeOf false false) rfl (.id _ _) e
  | ledClrTrip => exact execLedClrTrip_fr (m := scopeOf false false) rfl (.id _ _) e
  | ledClrDacrst => exact execLedClrDacrst_fr (m := scopeOf false false) rfl (.id _ _) e
  | dacRetest => exact execDacRetest_fr (m := scopeOf false false) rfl (.id _ _) e
  | lampGroupUpdate => exact execLampGroupUpdate_fr (m := scopeOf false false) rfl (.id _ _) e
  | foldbackUpdate => exact execFoldbackUpdate_fr (m := scopeOf false false) rfl (.id _ _) e
  | refreshStart => exact execRefreshStart_fr (m := scopeOf false false) rfl (.id _ _) e
  | refreshComplete => exact execRefreshComplete_fr (m := scopeOf false false) rfl (.id _ _) e
  | chainUnderrun => exact execChainUnderrun_fr (m := scopeOf false false) rfl (.id _ _) e
  | lchCtlSwap => exact execLchCtlSwap_fr (m := scopeOf false false) rfl (.id _ _) e
  | lchCtlDisc => exact execLchCtlDisc_fr (m := scopeOf false false) rfl (.id _ _) e
  | discoveryDone => exact execDiscoveryDone_fr (m := scopeOf false false) rfl (.id _ _) e
  | discoveryRetry => exact execDiscoveryRetry_fr (m := scopeOf false false) rfl (.id _ _) e
  | sinSample => exact execSinSample_fr (m := scopeOf false false) rfl (.id _ _) e
  | ainUpdate => exact execAinUpdate_fr (m := scopeOf false false) rfl (.id _ _) e
  | ainOverRange => exact execAinOverRange_fr (m := scopeOf false false) rfl (.id _ _) e
  | sensorSupplyOverload => exact execSensorSupplyOverload_fr (m := scopeOf false false) rfl (.id _ _) e
  | hallLevelChange => exact execHallLevelChange_fr (m := scopeOf false false) rfl (.id _ _) e
  | hallOpenShort => exact execHallOpenShort_fr (m := scopeOf false false) rfl (.id _ _) e
  | move => exact execMove_fr (m := scopeOf false true) rfl (.id _ _) e
  | aluOperation => exact execAluOperation_fr (m := scopeOf false true) rfl (.id _ _) e
  | mulMultiply => exact execMulMultiply_fr (m := scopeOf false true) rfl (.id _ _) e
  | mulDivide => exact execMulDivide_fr (m := scopeOf false true) rfl (.id _ _) e
  | divideComplete => exact execDivideComplete_fr (m := scopeOf false false) rfl (.id _ _) e
  | satOperation => exact execSatOperation_fr (m := scopeOf false true) rfl (.id _ _) e
  | lsuLoad => exact execLsuLoad_fr (m := scopeOf false true) rfl (.id _ _) e
  | loadComplete => exact execLoadComplete_fr (m := scopeOf false false) rfl (.id _ _) e
  | lsuStore => exact execLsuStore_fr (m := scopeOf false true) rfl (.id _ _) e
  | storeQueueDrain => exact execStoreQueueDrain_fr (m := scopeOf false false) rfl (.id _ _) e
  | lsuAtomic => exact execLsuAtomic_fr (m := scopeOf false true) rfl (.id _ _) e
  | lsuStatRead => exact execLsuStatRead_fr (m := scopeOf false true) rfl (.id _ _) e
  | strCopy => exact execStrCopy_fr (m := scopeOf false true) rfl (.id _ _) e
  | strFill => exact execStrFill_fr (m := scopeOf false true) rfl (.id _ _) e
  | strCmp => exact execStrCmp_fr (m := scopeOf false true) rfl (.id _ _) e
  | strCrc => exact execStrCrc_fr (m := scopeOf false true) rfl (.id _ _) e
  | strOperationComplete => exact execStrOperationComplete_fr (m := scopeOf false false) rfl (.id _ _) e
  | pcJump => exact execPcJump_fr (m := scopeOf false true) rfl (.id _ _) e
  | pcCall => exact execPcCall_fr (m := scopeOf false true) rfl (.id _ _) e
  | evtWait => exact execEvtWait_fr (m := scopeOf false true) rfl (.id _ _) e
  | evtSend => exact execEvtSend_fr (m := scopeOf false true) rfl (.id _ _) e
  | evtClr => exact execEvtClr_fr (m := scopeOf false true) rfl (.id _ _) e
  | evtYield => exact execEvtYield_fr (m := scopeOf false true) rfl (.id _ _) e
  | tmrNow => exact execTmrNow_fr (m := scopeOf false true) rfl (.id _ _) e
  | tmrUntil => exact execTmrUntil_fr (m := scopeOf false true) rfl (.id _ _) e
  | tmrAfter => exact execTmrAfter_fr (m := scopeOf false true) rfl (.id _ _) e
  | timedWaitExpiry => exact execTimedWaitExpiry_fr (m := scopeOf true false) rfl (.id _ _) e
  | tmrAlarm => exact execTmrAlarm_fr (m := scopeOf false true) rfl (.id _ _) e
  | tmrAloff => exact execTmrAloff_fr (m := scopeOf false true) rfl (.id _ _) e
  | alarmExpiry => exact execAlarmExpiry_fr (m := scopeOf true false) rfl (.id _ _) e
  | repT => exact execRepT_fr (m := scopeOf false true) rfl (.id _ _) e
  | windowRead => exact execWindowRead_fr (m := scopeOf false true) rfl (.id _ _) e
  | windowWrite => exact execWindowWrite_fr (m := scopeOf false true) rfl (.id _ _) e
  | windowTimeout => exact execWindowTimeout_fr (m := scopeOf false true) rfl (.id _ _) e
  | shadowPreloadDone => exact execShadowPreloadDone_fr (m := scopeOf false false) rfl (.id _ _) e
  | budgetExpiry => exact execBudgetExpiry_fr (m := scopeOf false false) rfl (.id _ _) e
  | quarantineEffect => exact execQuarantineEffect_fr (m := scopeOf false false) rfl (.id _ _) e
  | ctxCmdRelease => exact execCtxCmdRelease_fr (m := scopeOf false false) rfl (.id _ _) e
  | ctxCmdQuarantine => exact execCtxCmdQuarantine_fr (m := scopeOf false false) rfl (.id _ _) e
  | coreFailure => exact execCoreFailure_fr (m := scopeOf false true) rfl (.id _ _) e
  | eccWriteback => exact execEccWriteback_fr (m := scopeOf false false) rfl (.id _ _) e
  | scrubRead => exact execScrubRead_fr (m := scopeOf false false) rfl (.id _ _) e
  | bankWakeDone => exact execBankWakeDone_fr (m := scopeOf false false) rfl (.id _ _) e
  | bankInitDone => exact execBankInitDone_fr (m := scopeOf false false) rfl (.id _ _) e
  | canFrameReceived => exact execCanFrameReceived_fr (m := scopeOf false false) rfl (.id _ _) e
  | canRxdRead => exact execCanRxdRead_fr (m := scopeOf false false) rfl (.id _ _) e
  | canRxpop => exact execCanRxpop_fr (m := scopeOf false false) rfl (.id _ _) e
  | canTxBufferWrite => exact execCanTxBufferWrite_fr (m := scopeOf false false) rfl (.id _ _) e
  | canTxRequest => exact execCanTxRequest_fr (m := scopeOf false false) rfl (.id _ _) e
  | canTxCancel => exact execCanTxCancel_fr (m := scopeOf false false) rfl (.id _ _) e
  | canStagingDone => exact execCanStagingDone_fr (m := scopeOf false false) rfl (.id _ _) e
  | canTxChoice => exact execCanTxChoice_fr (m := scopeOf false false) rfl (.id _ _) e
  | canTxSuccess => exact execCanTxSuccess_fr (m := scopeOf false false) rfl (.id _ _) e
  | canTxError => exact execCanTxError_fr (m := scopeOf false false) rfl (.id _ _) e
  | canRxError => exact execCanRxError_fr (m := scopeOf false false) rfl (.id _ _) e
  | busOffRecoveryDone => exact execBusOffRecoveryDone_fr (m := scopeOf false false) rfl (.id _ _) e
  | canCmdRecover => exact execCanCmdRecover_fr (m := scopeOf false false) rfl (.id _ _) e
  | canCmdClrlonely => exact execCanCmdClrlonely_fr (m := scopeOf false false) rfl (.id _ _) e
  | canIntegrationDone => exact execCanIntegrationDone_fr (m := scopeOf false false) rfl (.id _ _) e
  | txdDominantTimeout => exact execTxdDominantTimeout_fr (m := scopeOf false false) rfl (.id _ _) e
  | gatewayBufferLoad => exact execGatewayBufferLoad_fr (m := scopeOf false false) rfl (.id _ _) e
  | linSlotStart => exact execLinSlotStart_fr (m := scopeOf false false) rfl (.id _ _) e
  | linResponseReceived => exact execLinResponseReceived_fr (m := scopeOf false false) rfl (.id _ _) e
  | linResponseTimeout => exact execLinResponseTimeout_fr (m := scopeOf false false) rfl (.id _ _) e
  | linBusDominant => exact execLinBusDominant_fr (m := scopeOf false false) rfl (.id _ _) e
  | linSchedWrite => exact execLinSchedWrite_fr (m := scopeOf false false) rfl (.id _ _) e
  | linCmdWake => exact execLinCmdWake_fr (m := scopeOf false false) rfl (.id _ _) e
  | linDataWrite => exact execLinDataWrite_fr (m := scopeOf false false) rfl (.id _ _) e
  | linDataRead => exact execLinDataRead_fr (m := scopeOf false false) rfl (.id _ _) e
  | linScheduleResume => exact execLinScheduleResume_fr (m := scopeOf false false) rfl (.id _ _) e
  | ethFrameReceived => exact execEthFrameReceived_fr (m := scopeOf false false) rfl (.id _ _) e
  | ethLinkChange => exact execEthLinkChange_fr (m := scopeOf false false) rfl (.id _ _) e
  | plcaBeaconLost => exact execPlcaBeaconLost_fr (m := scopeOf false false) rfl (.id _ _) e
  | syncMessageReceived => exact execSyncMessageReceived_fr (m := scopeOf false false) rfl (.id _ _) e
  | syncLost => exact execSyncLost_fr (m := scopeOf false false) rfl (.id _ _) e
  | talkerPduSend => exact execTalkerPduSend_fr (m := scopeOf false false) rfl (.id _ _) e
  | listenerPduReceived => exact execListenerPduReceived_fr (m := scopeOf false false) rfl (.id _ _) e
  | nmFrameReceived => exact execNmFrameReceived_fr (m := scopeOf false false) rfl (.id _ _) e
  | nmCycle => exact execNmCycle_fr (m := scopeOf false false) rfl (.id _ _) e
  | sleepPendingEntry => exact execSleepPendingEntry_fr (m := scopeOf false false) rfl (.id _ _) e
  | tpendExpiry => exact execTpendExpiry_fr (m := scopeOf false false) rfl (.id _ _) e
  | nmBusIdle => exact execNmBusIdle_fr (m := scopeOf false false) rfl (.id _ _) e
  | nmStandbyDone => exact execNmStandbyDone_fr (m := scopeOf false false) rfl (.id _ _) e
  | nmCmdWake => exact execNmCmdWake_fr (m := scopeOf false false) rfl (.id _ _) e
  | nmCtlWrite => exact execNmCtlWrite_fr (m := scopeOf false false) rfl (.id _ _) e
  | nmLocalWakeLine => exact execNmLocalWakeLine_fr (m := scopeOf false false) rfl (.id _ _) e
  | nmWakeFromSleep => exact execNmWakeFromSleep_fr (m := scopeOf false false) rfl (.id _ _) e
  | pnClusterTimeout => exact execPnClusterTimeout_fr (m := scopeOf false false) rfl (.id _ _) e
  | clusterActivationTimeout => exact execClusterActivationTimeout_fr (m := scopeOf false false) rfl (.id _ _) e
  | mainUndervoltage => exact execMainUndervoltage_fr (m := scopeOf false false) rfl (.id _ _) e
  | mainRecovery => exact execMainRecovery_fr (m := scopeOf false false) rfl (.id _ _) e
  | backupUndervoltage => exact execBackupUndervoltage_fr (m := scopeOf false false) rfl (.id _ _) e
  | supplyOvervoltage => exact execSupplyOvervoltage_fr (m := scopeOf false false) rfl (.id _ _) e
  | reverseCurrent => exact execReverseCurrent_fr (m := scopeOf false false) rfl (.id _ _) e
  | transferBackupOn => exact execTransferBackupOn_fr (m := scopeOf false false) rfl (.id _ _) e
  | transferMainOpen => exact execTransferMainOpen_fr (m := scopeOf false false) rfl (.id _ _) e
  | pwrPrcmdForce => exact execPwrPrcmdForce_fr (m := scopeOf false false) rfl (.id _ _) e
  | pwrPrcmdReturn => exact execPwrPrcmdReturn_fr (m := scopeOf false false) rfl (.id _ _) e
  | tretExpiry => exact execTretExpiry_fr (m := scopeOf false false) rfl (.id _ _) e
  | railReturnDone => exact execRailReturnDone_fr (m := scopeOf false false) rfl (.id _ _) e
  | baseplateHot => exact execBaseplateHot_fr (m := scopeOf false false) rfl (.id _ _) e
  | faultReport => exact execFaultReport_fr (m := scopeOf false false) rfl (.id _ _) e
  | reactionSequenceEnd => exact execReactionSequenceEnd_fr (m := scopeOf false false) rfl (.id _ _) e
  | shadowWindowEnd => exact execShadowWindowEnd_fr (m := scopeOf false false) rfl (.id _ _) e
  | sourceActivityExpiry => exact execSourceActivityExpiry_fr (m := scopeOf false false) rfl (.id _ _) e
  | logWrite => exact execLogWrite_fr (m := scopeOf false false) rfl (.id _ _) e
  | logBufferFlush => exact execLogBufferFlush_fr (m := scopeOf false false) rfl (.id _ _) e
  | fltRgcmdRelease => exact execFltRgcmdRelease_fr (m := scopeOf false false) rfl (.id _ _) e
  | groupAutoRelease => exact execGroupAutoRelease_fr (m := scopeOf false false) rfl (.id _ _) e
  | fltAttnAck => exact execFltAttnAck_fr (m := scopeOf false false) rfl (.id _ _) e
  | fltCmdClrlog => exact execFltCmdClrlog_fr (m := scopeOf false false) rfl (.id _ _) e
  | fltCmdClrlost => exact execFltCmdClrlost_fr (m := scopeOf false false) rfl (.id _ _) e
  | fltInjLive => exact execFltInjLive_fr (m := scopeOf false false) rfl (.id _ _) e
  | fltInjDry => exact execFltInjDry_fr (m := scopeOf false false) rfl (.id _ _) e
  | fltInjEnd => exact execFltInjEnd_fr (m := scopeOf false false) rfl (.id _ _) e
  | injectionExpiry => exact execInjectionExpiry_fr (m := scopeOf false false) rfl (.id _ _) e
  | digestExchange => exact execDigestExchange_fr (m := scopeOf false false) rfl (.id _ _) e
  | bothHalvesLost => exact execBothHalvesLost_fr (m := scopeOf false true) rfl (.id _ _) e
  | selfTestCycle => exact execSelfTestCycle_fr (m := scopeOf false true) rfl (.id _ _) e
  | tstCmdSelfTestA => exact execTstCmdSelfTestA_fr (m := scopeOf false false) rfl (.id _ _) e
  | tstCmdSelfTestB => exact execTstCmdSelfTestB_fr (m := scopeOf false false) rfl (.id _ _) e
  | tstCmdCompareTest => exact execTstCmdCompareTest_fr (m := scopeOf false false) rfl (.id _ _) e
  | tstCmdForcePathTest => exact execTstCmdForcePathTest_fr (m := scopeOf false false) rfl (.id _ _) e
  | testComplete => exact execTestComplete_fr (m := scopeOf false true) rfl (.id _ _) e
  | takeoverRelease => exact execTakeoverRelease_fr (m := scopeOf false false) rfl (.id _ _) e
  | handoverRoleTimer => exact execHandoverRoleTimer_fr (m := scopeOf false false) rfl (.id _ _) e
  | twstartExpiry => exact execTwstartExpiry_fr (m := scopeOf false false) rfl (.id _ _) e
  | twinSuspensionUnit => exact execTwinSuspensionUnit_fr (m := scopeOf false true) rfl (.id _ _) e
  | twinOutputCommand => exact execTwinOutputCommand_fr (m := scopeOf false true) rfl (.id _ _) e
  | twinProtectionState => exact execTwinProtectionState_fr (m := scopeOf false true) rfl (.id _ _) e
  | twinCan => exact execTwinCan_fr (m := scopeOf false true) rfl (.id _ _) e
  | twinConditionReport => exact execTwinConditionReport_fr (m := scopeOf false true) rfl (.id _ _) e
  | twinHeartbeat => exact execTwinHeartbeat_fr (m := scopeOf false true) rfl (.id _ _) e
  | twinResyncBlock => exact execTwinResyncBlock_fr (m := scopeOf false true) rfl (.id _ _) e
  | twinClosing => exact execTwinClosing_fr (m := scopeOf false true) rfl (.id _ _) e
  | twinRoleClaim => exact execTwinRoleClaim_fr (m := scopeOf false true) rfl (.id _ _) e
  | twinTraining => exact execTwinTraining_fr (m := scopeOf false true) rfl (.id _ _) e
  | trainingFrameSend => exact execTrainingFrameSend_fr (m := scopeOf false false) rfl (.id _ _) e
  | heartbeatSend => exact execHeartbeatSend_fr (m := scopeOf false false) rfl (.id _ _) e
  | protectionShipTick => exact execProtectionShipTick_fr (m := scopeOf false false) rfl (.id _ _) e
  | linkLost => exact execLinkLost_fr (m := scopeOf false false) rfl (.id _ _) e
  | laneLost => exact execLaneLost_fr (m := scopeOf false false) rfl (.id _ _) e
  | twnCmdFailback => exact execTwnCmdFailback_fr (m := scopeOf false false) rfl (.id _ _) e
  | twnCmdResync x0 => exact execTwnCmdResync_fr (a0 := x0) (m := scopeOf false false) rfl (.id _ _) e
  | keyCmdApply x0 => exact execKeyCmdApply_fr (a0 := x0) (m := scopeOf false true) rfl (.id _ _) e
  | keyCmdPlainwr x0 x1 x2 => exact execKeyCmdPlainwr_fr (a0 := x0) (a1 := x1) (a2 := x2) (m := scopeOf false true) rfl (.id _ _) e
  | keyCmdImgkey x0 x1 => exact execKeyCmdImgkey_fr (a0 := x0) (a1 := x1) (m := scopeOf false true) rfl (.id _ _) e
  | keyCmdSvcchal x0 => exact execKeyCmdSvcchal_fr (a0 := x0) (m := scopeOf false true) rfl (.id _ _) e
  | keyCmdSvcauth x0 => exact execKeyCmdSvcauth_fr (a0 := x0) (m := scopeOf false true) rfl (.id _ _) e
  | keyCmdClrcache x0 => exact execKeyCmdClrcache_fr (a0 := x0) (m := scopeOf false true) rfl (.id _ _) e
  | keyCommitDone => exact execKeyCommitDone_fr (m := scopeOf false true) rfl (.id _ _) e
  | svcokExpiry => exact execSvcokExpiry_fr (m := scopeOf false false) rfl (.id _ _) e
  | svcLockoutExpiry => exact execSvcLockoutExpiry_fr (m := scopeOf false true) rfl (.id _ _) e
  | keyOpgo => exact execKeyOpgo_fr (m := scopeOf false true) rfl (.id _ _) e
  | keyOperationDone => exact execKeyOperationDone_fr (m := scopeOf false true) rfl (.id _ _) e
  | keyTcfgWrite => exact execKeyTcfgWrite_fr (m := scopeOf false false) rfl (.id _ _) e
  | tamperEvent => exact execTamperEvent_fr (m := scopeOf false true) rfl (.id _ _) e
  | debugRequest => exact execDebugRequest_fr (m := scopeOf false true) rfl (.id _ _) e
  | hostNop => exact execHostNop_fr (m := scopeOf false true) rfl (.id _ _) e
  | hostRead => exact execHostRead_fr (m := scopeOf false true) rfl (.id _ _) e
  | hostWrite => exact execHostWrite_fr (m := scopeOf false true) rfl (.id _ _) e
  | hostReads => exact execHostReads_fr (m := scopeOf false true) rfl (.id _ _) e
  | hostWrites => exact execHostWrites_fr (m := scopeOf false true) rfl (.id _ _) e
  | hostReservedCommand => exact execHostReservedCommand_fr (m := scopeOf false false) rfl (.id _ _) e
  | hostFrameAbort => exact execHostFrameAbort_fr (m := scopeOf false false) rfl (.id _ _) e
  | registerWrite => exact execRegisterWrite_fr (m := scopeOf false true) rfl (.id _ _) e
  | mgmtRequest => exact execMgmtRequest_fr (m := scopeOf false true) rfl (.id _ _) e
  | calValWrite => exact execCalValWrite_fr (m := scopeOf false false) rfl (.id _ _) e
  | calCommitDone => exact execCalCommitDone_fr (m := scopeOf false false) rfl (.id _ _) e
  | crossingTimeout => exact execCrossingTimeout_fr (m := scopeOf false false) rfl (.id _ _) e
  | bridgeLimitExit => exact execBridgeLimitExit_fr (m := scopeOf false false) rfl (.id _ _) e
  | txdRecessiveReturn => exact execTxdRecessiveReturn_fr (m := scopeOf false false) rfl (.id _ _) e
  | ethLinkUp => exact execEthLinkUp_fr (m := scopeOf false false) rfl (.id _ _) e
  | plcaBeaconReturn => exact execPlcaBeaconReturn_fr (m := scopeOf false false) rfl (.id _ _) e
  | overvoltageClear => exact execOvervoltageClear_fr (m := scopeOf false false) rfl (.id _ _) e
  | tbhotClear => exact execTbhotClear_fr (m := scopeOf false false) rfl (.id _ _) e
  | twokIRise => exact execTwokIRise_fr (m := scopeOf false false) rfl (.id _ _) e
  | twinLaneUp => exact execTwinLaneUp_fr (m := scopeOf false false) rfl (.id _ _) e
  | stuckOnClear => exact execStuckOnClear_fr (m := scopeOf false false) rfl (.id _ _) e
  | windowQueueDrain => exact execWindowQueueDrain_fr (m := scopeOf false true) rfl (.id _ _) e
  | sensorSupplyRecovery => exact execSensorSupplyRecovery_fr (m := scopeOf false false) rfl (.id _ _) e

/-- Only the commands named change the time base. -/
theorem exec_tb_of_untimed {c : Instr} {s t : State} (hc : c.timed = false) (e : exec c s = .next t) : t.tb = s.tb :=
  (exec_scope_fr e).tb (commandScope_tb hc)

theorem exec_key_of_unkeyed {c : Instr} {s t : State} (hc : c.keyed = false) (e : exec c s = .next t) : t.key = s.key :=
  (exec_scope_fr e).key (commandScope_key hc)

end Sys2Proof.Machine
end

section
/-! The time base (R28, R152, R639; statement O9). Only eight commands may change it; but for a power cycle each of them moves it on. -/

namespace Sys2Proof.Machine

/-- The time base has not run back. -/
def TimeRuns (s₀ s : State) : Prop := s₀.tb ≤ s.tb

namespace TimeRuns

variable {s₀ s t : State}

theorem set_tb {x : Nat} (hx : s.tb ≤ x) (h : TimeRuns s₀ s) : TimeRuns s₀ { s with tb := x } := Nat.le_trans h hx

theorem upd (hx : t.tb = s.tb) (h : TimeRuns s₀ s) : TimeRuns s₀ t := Nat.le_trans h (Nat.le_of_eq hx.symm)

end TimeRuns

/-- Every bit of a mask but the time base's. -/
def timeless : Nat := without 293

theorem timeless_reg (r : Reg) : timeless.testBit r.ctorIdx = true := by cases r <;> decide +kernel

theorem TimeRuns.fr {s₀ s t : State} (hf : Fr timeless s t) (h : TimeRuns s₀ s) : TimeRuns s₀ t :=
  h.upd (hf.tb rfl)

variable {s₀ s : State}

/-- R28: the time base advances to a time that a command asserts. -/
theorem State.reachTime_runs {b : Word} (h : TimeRuns s₀ s) : TimeRuns s₀ (s.reachTime b) := by
  unfold State.reachTime
  refine Holds.ite h (TimeRuns.set_tb ?_ h)
  split <;> omega

theorem State.reloadTime_runs (h : TimeRuns s₀ s) : TimeRuns s₀ (State.reloadTime s) := by
  unfold State.reloadTime
  split
  rename_i y0 y1 y2 y3
  refine Holds.cutp y3 ?_ (fun h4 => ?_)
  · exact TimeRuns.fr (State.takeFree_fr rfl (.id _ _)) h
  exact TimeRuns.set_tb (Nat.le_add_right _ _) h4

theorem State.fabricStart_runs (h : TimeRuns s₀ s) : TimeRuns s₀ (State.fabricStart s) := by
  unfold State.fabricStart
  extract_lets +onlyGivenNames x0
  have h1 : TimeRuns s₀ x0 := State.reloadTime_runs h
  clear_value x0
  extract_lets +onlyGivenNames x2
  extract_lets +onlyGivenNames x3
  extract_lets +onlyGivenNames x4
  have h5 : TimeRuns s₀ x4 := TimeRuns.upd (s := x0) rfl h1
  clear_value x4
  extract_lets +onlyGivenNames x6
  extract_lets +onlyGivenNames x7
  have h8 : TimeRuns s₀ x7 := TimeRuns.fr (Fr.set_fab rfl (.id _ _)) h5
  clear_value x7
  extract_lets +onlyGivenNames x9
  have h10 : TimeRuns s₀ x9 := Holds.forEach (fun _ _ h13 => TimeRuns.fr (State.lcInit_fr rfl (.id _ _)) h13) h8
  clear_value x9
  extract_lets +onlyGivenNames x14
  have h15 : TimeRuns s₀ x14 := TimeRuns.fr (Fr.set_regs timeless_reg (.id _ _)) h10
  clear_value x14
  extract_lets +onlyGivenNames x16
  have h17 : TimeRuns s₀ x16 := TimeRuns.fr (State.settleLines_fr rfl (.id _ _)) (Holds.forEach (fun _ _ h20 => TimeRuns.fr
      (State.puRestart_fr rfl (.id _ _)) h20) h15)
  clear_value x16
  exact TimeRuns.fr (Fr.set_fab rfl (.id _ _)) h17

theorem execTimedWaitExpiry_runs {a0} {t} (h : TimeRuns s₀ s) (e : execTimedWaitExpiry a0 s = .next t) : TimeRuns s₀ t := by
  unfold execTimedWaitExpiry at e
  cases e
  exact TimeRuns.fr (State.ship_fr rfl (.id _ _)) (Holds.ite (TimeRuns.fr (State.schedule_fr rfl (.id _ _)) (TimeRuns.fr
      (State.endWait_fr rfl (.id _ _)) (State.reachTime_runs h))) h)

theorem execAlarmExpiry_runs {a0} {t} (h : TimeRuns s₀ s) (e : execAlarmExpiry a0 s = .next t) : TimeRuns s₀ t := by
  unfold execAlarmExpiry at e
  cases e
  exact TimeRuns.fr (State.ship_fr rfl (.id _ _)) (Holds.ite (TimeRuns.fr (State.schedule_fr rfl (.id _ _)) (TimeRuns.fr
      (State.fireAlarm_fr rfl (.id _ _)) (State.reachTime_runs h))) h)

theorem State.logicStart_runs (h : TimeRuns s₀ s) : TimeRuns s₀ (State.logicStart s) := by
  unfold State.logicStart
  extract_lets +onlyGivenNames x0
  have h1 : TimeRuns s₀ x0 := TimeRuns.fr (State.lchFabric_fr rfl (.id _ _)) (State.fabricStart_runs (TimeRuns.fr
      (State.inputsStart_fr rfl (.id _ _)) h))
  clear_value x0
  exact Holds.forEach (fun _ _ h4 => TimeRuns.fr (State.setLx_fr rfl (.id _ _)) h4) h1

theorem execCatalogueLoadDone_runs {t} (h : TimeRuns s₀ s) (e : execCatalogueLoadDone s = .next t) : TimeRuns s₀ t := by
  unfold execCatalogueLoadDone at e
  cases e
  refine TimeRuns.fr (State.ship_fr rfl (.id _ _)) ?_
  refine Holds.ite ?_ ?_
  · exact h
  · extract_lets +onlyGivenNames x0
    clear_value x0
    extract_lets +onlyGivenNames x1
    clear_value x1
    extract_lets +onlyGivenNames x2
    have h3 : TimeRuns s₀ x2 := TimeRuns.fr (State.loadBase_fr rfl (.id _ _)) (TimeRuns.fr (Fr.set_cat rfl (.id _ _)) h)
    clear_value x2
    extract_lets +onlyGivenNames x4
    have h5 : TimeRuns s₀ x4 := TimeRuns.fr (State.flag_fr rfl rfl (.id _ _)) (TimeRuns.fr (State.flag_fr rfl rfl (.id _ _))
        (TimeRuns.fr (State.flag_fr rfl rfl (.id _ _)) h3))
    clear_value x4
    extract_lets +onlyGivenNames x6
    have h7 : TimeRuns s₀ x6 := TimeRuns.fr (State.put_fr rfl rfl (.id _ _)) (TimeRuns.fr (State.put_fr rfl rfl (.id _ _))
        h5)
    clear_value x6
    extract_lets +onlyGivenNames x8
    have h9 : TimeRuns s₀ x8 := Holds.ite h7 (TimeRuns.fr (State.initBanks_fr rfl (.id _ _)) h7)
    clear_value x8
    extract_lets +onlyGivenNames x10
    have h11 : TimeRuns s₀ x10 := TimeRuns.fr (State.linkStart_fr rfl (.id _ _)) (TimeRuns.fr (State.showPair_fr rfl (.id _
        _)) (State.logicStart_runs (TimeRuns.fr (State.coresPower_fr rfl (.id _ _)) h9)))
    clear_value x10
    exact TimeRuns.fr (State.put_fr rfl rfl (.id _ _)) (TimeRuns.fr (Fr.set_sys rfl (.id _ _)) h11)

theorem execPulsePeriodEnd_runs {a0} {t} (h : TimeRuns s₀ s) (e : execPulsePeriodEnd a0 s = .next t) : TimeRuns s₀ t := by
  unfold execPulsePeriodEnd at e
  cases e
  refine TimeRuns.fr (State.ship_fr rfl (.id _ _)) ?_
  refine Holds.ite ?_ ?_
  · extract_lets +onlyGivenNames x0
    have h1 : TimeRuns s₀ x0 := TimeRuns.fr (State.puFall_fr rfl (.id _ _)) (TimeRuns.set_tb (Nat.le_add_right _ _) h)
    clear_value x0
    exact TimeRuns.fr (State.ledSync_fr rfl (.id _ _)) (TimeRuns.fr (State.settle_fr rfl (.id _ _)) (TimeRuns.fr
        (State.ledTakes_fr rfl (.id _ _)) (TimeRuns.fr (State.periodEnd_fr rfl (.id _ _)) h1)))
  · exact h

theorem execWakePowerUpDone_runs {t} (h : TimeRuns s₀ s) (e : execWakePowerUpDone s = .next t) : TimeRuns s₀ t := by
  unfold execWakePowerUpDone at e
  cases e
  refine TimeRuns.fr (State.ship_fr rfl (.id _ _)) ?_
  split
  · refine Holds.ite ?_ ?_
    · exact TimeRuns.fr (State.tamperStart_fr rfl (.id _ _)) h
    · extract_lets +onlyGivenNames x0
      have h1 : TimeRuns s₀ x0 := State.logicStart_runs (TimeRuns.fr (State.coresPower_fr rfl (.id _ _)) h)
      clear_value x0
      exact TimeRuns.fr (Fr.set_sys rfl (.id _ _)) h1
  · exact h

theorem execPollPeriodExpiry_runs {t} (h : TimeRuns s₀ s) (e : execPollPeriodExpiry s = .next t) : TimeRuns s₀ t := by
  unfold execPollPeriodExpiry at e
  cases e
  refine TimeRuns.fr (State.ship_fr rfl (.id _ _)) ?_
  refine Holds.ite ?_ ?_
  · exact h
  · extract_lets +onlyGivenNames x0
    extract_lets +onlyGivenNames x1
    have h2 : TimeRuns s₀ x1 := State.logicStart_runs (TimeRuns.fr (Fr.set_sys rfl (.id _ _)) h)
    extract_lets +onlyGivenNames x3
    clear_value x3
    extract_lets +onlyGivenNames x4
    have h5 : TimeRuns s₀ x4 := TimeRuns.fr (Fr.set_fab rfl (.id _ _)) h2
    extract_lets +onlyGivenNames x6
    have h7 : TimeRuns s₀ x6 := Holds.ite h5 (TimeRuns.fr (State.put_fr rfl rfl (.id _ _)) h5)
    clear_value x6
    extract_lets +onlyGivenNames x8
    clear_value x8
    exact TimeRuns.fr (State.schedule_fr rfl (.id _ _)) (Holds.forEach (fun _ _ h11 => TimeRuns.fr (State.resumeCtx_fr rfl
        (.id _ _)) h11) h7)

/-- Of the commands that change the time base, a power cycle alone can set it back. -/
theorem exec_timeRuns {c : Instr} {s t : State} (hpor : c ≠ .powerOnReset) (hgood : ∀ d, c ≠ .supplyGood d)
    (e : exec c s = .next t) : s.tb ≤ t.tb := by
  have hs : TimeRuns s s := Nat.le_refl _
  cases ht : c.timed with
  | false => exact Nat.le_of_eq (exec_tb_of_untimed ht e).symm
  | true =>
    cases c with
    | supplyGood d => exact absurd rfl (hgood d)
    | powerOnReset => exact absurd rfl hpor
    | catalogueLoadDone => exact execCatalogueLoadDone_runs hs e
    | wakePowerUpDone => exact execWakePowerUpDone_runs hs e
    | pollPeriodExpiry => exact execPollPeriodExpiry_runs hs e
    | pulsePeriodEnd => exact execPulsePeriodEnd_runs hs e
    | timedWaitExpiry => exact execTimedWaitExpiry_runs hs e
    | alarmExpiry => exact execAlarmExpiry_runs hs e
    | _ => exact absurd ht Bool.false_ne_true

/-- Settles O9: by mask the time base of all but eight commands, and what those eight do with it. -/
theorem timeBase : Obligations.TimeBase := by
  unfold Obligations.TimeBase
  intro c s
  obtain ⟨t, e⟩ := exec_next c s
  refine ⟨t, e, fun hpor hgood => exec_timeRuns hpor hgood e, fun htb => ?_⟩
  have ht : c.timed = true := by
    cases h : c.timed with
    | true => rfl
    | false => exact absurd (exec_tb_of_untimed h e) htb
  cases c with
  | powerOnReset => exact .inl rfl
  | supplyGood d => exact .inr (.inl ⟨d, rfl⟩)
  | catalogueLoadDone => exact .inr (.inr (.inl rfl))
  | wakePowerUpDone => exact .inr (.inr (.inr (.inl rfl)))
  | pollPeriodExpiry => exact .inr (.inr (.inr (.inr (.inl rfl))))
  | pulsePeriodEnd u => exact .inr (.inr (.inr (.inr (.inr (.inl ⟨u, rfl⟩)))))
  | alarmExpiry x => exact .inr (.inr (.inr (.inr (.inr (.inr (.inl ⟨x, rfl⟩))))))
  | timedWaitExpiry x => exact .inr (.inr (.inr (.inr (.inr (.inr (.inr ⟨x, rfl⟩))))))
  | _ => exact absurd ht Bool.false_ne_true

end Sys2Proof.Machine
end

section
/-! The stored keys (R565 to R571; statement O6). `KeysKept s₀ s` says that the key slots and the image keys of `s₀` stand in `s`.
A function whose mask leaves the security island alone keeps them; for each of the others there is a lemma `…_keys`. -/

namespace Sys2Proof.Machine

/-- The key slots and the image keys are as they were. -/
structure KeysKept (s₀ s : State) : Prop where
  slots : s.key.slots = s₀.key.slots
  img : s.key.img = s₀.key.img

namespace KeysKept

variable {s₀ s t : State}

theorem refl (s : State) : KeysKept s s := ⟨rfl, rfl⟩

/-- An update that leaves the stored keys alone. -/
theorem upd (hs : t.key.slots = s.key.slots ∧ t.key.img = s.key.img) (h : KeysKept s₀ s) : KeysKept s₀ t := by
  obtain ⟨hslots, himg⟩ := hs
  exact ⟨hslots.trans h.slots, himg.trans h.img⟩

theorem set_key {x : KeySt} (hx : x.slots = s.key.slots ∧ x.img = s.key.img) (h : KeysKept s₀ s) :
    KeysKept s₀ { s with key := x } :=
  h.upd hx

end KeysKept

/-- Every bit of a mask but the security island's. -/
def notKey : Nat := without 319

theorem notKey_reg (r : Reg) : notKey.testBit r.ctorIdx = true := by cases r <;> decide +kernel

/-- A function whose mask leaves the security island alone keeps the stored keys. -/
theorem KeysKept.fr {s₀ s t : State} (hf : Fr notKey s t) (h : KeysKept s₀ s) : KeysKept s₀ t :=
  h.upd ⟨congrArg KeySt.slots (hf.key rfl), congrArg KeySt.img (hf.key rfl)⟩

variable {s₀ s : State}

/-- R83: flash keeps the stored keys. -/
theorem State.powerOnReset_keys (h : KeysKept s₀ s) : KeysKept s₀ s.powerOnReset :=
  KeysKept.upd (s := s.abandonSlot) ⟨rfl, rfl⟩ (.fr (State.abandonSlot_fr rfl (.id _ _)) h)

theorem State.asWho_keys {a1 a2} {a3 : State → State} (hf3 : ∀ s, KeysKept s₀ s → KeysKept s₀ (a3 s)) (h : KeysKept s₀
    s) : KeysKept s₀ (State.asWho s a1 a2 a3) := by
  unfold State.asWho
  refine Holds.ite ?_ ?_
  · exact hf3 _ h
  · split
    · exact Holds.ite (KeysKept.fr (State.reserved_fr rfl (.id _ _)) h) h
    · exact h

theorem State.accept_keys {a1} {a2 : RegRef} {a3} {a4 : State → State} (hf4 : ∀ s, KeysKept s₀ s → KeysKept s₀ (a4 s))
    (h : KeysKept s₀ s) : KeysKept s₀ (State.accept s a1 a2 a3 a4) := by
  unfold State.accept
  exact Holds.ite (hf4 _ h) (KeysKept.fr (State.reserved_fr rfl (.id _ _)) h)

theorem State.abortApply_keys (h : KeysKept s₀ s) : KeysKept s₀ (State.abortApply s) := by
  unfold State.abortApply
  exact KeysKept.fr (State.keyRes_fr rfl (.id _ _)) (KeysKept.fr (State.flag_fr rfl rfl (.id _ _)) (KeysKept.set_key ⟨rfl,
      rfl⟩ h))

theorem State.runDesc_keys {a1} (h : KeysKept s₀ s) : KeysKept s₀ (State.runDesc s a1).2 := by
  unfold State.runDesc
  refine Holds.ite2 ?_ ?_
  · exact Holds.mk2 h
  · refine Holds.ite2 ?_ ?_
    · exact Holds.mk2 h
    · refine Holds.ite2 ?_ ?_
      · exact Holds.mk2 h
      · refine Holds.ite2 ?_ ?_
        · extract_lets +onlyGivenNames x0
          exact Holds.mk2 (KeysKept.fr (State.setBytes_fr rfl (.id _ _)) h)
        · split
          · refine Holds.ite2 ?_ ?_
            · exact Holds.mk2 h
            · extract_lets +onlyGivenNames x1
              extract_lets +onlyGivenNames x2
              exact Holds.mk2 (KeysKept.fr (State.setBytes_fr rfl (.id _ _)) (KeysKept.set_key ⟨rfl, rfl⟩ h))
          · exact Holds.mk2 h

theorem State.runOp_keys {a1 a2} (h : KeysKept s₀ s) : KeysKept s₀ (State.runOp s a1 a2).2 := by
  unfold State.runOp
  exact Holds.ite2 (Holds.mk2 h) (Holds.ite2 (State.runDesc_keys h) (Holds.mk2 h))

theorem State.endOp_keys {a1} (h : KeysKept s₀ s) : KeysKept s₀ (State.endOp s a1) := by
  unfold State.endOp
  split
  · extract_lets +onlyGivenNames x0
    have h1 : KeysKept s₀ x0 := Holds.ite (KeysKept.fr (State.setWord_fr rfl (.id _ _)) h) h
    clear_value x0
    exact KeysKept.fr (State.opLen_fr rfl (.id _ _)) (KeysKept.set_key ⟨rfl, rfl⟩ h1)
  · exact h

theorem State.abortOp_keys {a1} (h : KeysKept s₀ s) : KeysKept s₀ (State.abortOp s a1) := by
  unfold State.abortOp
  extract_lets +onlyGivenNames x0
  clear_value x0
  extract_lets +onlyGivenNames x1
  have h2 : KeysKept s₀ x1 := by
    unfold x1
    refine Holds.ite ?_ ?_
    · split
      rename_i y3 y4 y5 y6
      refine Holds.cutp y6 ?_ (fun h7 => ?_)
      · exact KeysKept.fr (State.takeFree_fr rfl (.id _ _)) h
      exact KeysKept.fr (State.setBytes_fr rfl (.id _ _)) h7
    · exact h
  clear_value x1
  exact State.endOp_keys h2

theorem State.startOp_keys (h : KeysKept s₀ s) : KeysKept s₀ (State.startOp s) := by
  unfold State.startOp
  split
  · exact KeysKept.set_key ⟨rfl, rfl⟩ h
  · exact h

theorem State.abortWork_keys (h : KeysKept s₀ s) : KeysKept s₀ (State.abortWork s).2 := by
  unfold State.abortWork
  split
  rename_i y0 y1 y2 y3
  refine Holds.cutp2 y3 ?_ (fun h4 => ?_)
  · split
    · exact Holds.mk2 (KeysKept.fr (State.zeroPlain_fr rfl (.id _ _)) (KeysKept.fr (State.keyRes_fr rfl (.id _ _))
          (KeysKept.fr (State.flag_fr rfl rfl (.id _ _)) (KeysKept.set_key ⟨rfl, rfl⟩ h))))
    · exact Holds.ite2 (Holds.mk2 (State.abortApply_keys h)) (Holds.mk2 h)
  split
  · exact Holds.mk2 (State.startOp_keys (State.abortOp_keys h4))
  · exact Holds.mk2 h4

theorem State.sealStore_keys {a1} (h : KeysKept s₀ s) : KeysKept s₀ (State.sealStore s a1) := by
  unfold State.sealStore
  refine Holds.ite ?_ ?_
  · exact h
  · extract_lets +onlyGivenNames x0
    extract_lets +onlyGivenNames x1
    have h2 : KeysKept s₀ x1 := KeysKept.set_key ⟨rfl, rfl⟩ h
    clear_value x1
    extract_lets +onlyGivenNames x3
    have h4 : KeysKept s₀ x3 := KeysKept.fr (State.flag_fr rfl rfl (.id _ _)) (KeysKept.fr (State.flag_fr rfl rfl (.id _ _))
        h2)
    clear_value x3
    extract_lets +onlyGivenNames x5
    have h6 : KeysKept s₀ x5 := KeysKept.fr (State.raise_fr rfl (.id _ _)) h4
    clear_value x5
    exact Holds.ite (KeysKept.fr (State.linkDown_fr rfl (.id _ _)) h6) h6

theorem State.tamper_keys {a1 a2} (h : KeysKept s₀ s) : KeysKept s₀ (State.tamper s a1 a2) := by
  unfold State.tamper
  extract_lets +onlyGivenNames x0
  split
  rename_i y1 y2 y3 y4
  refine Holds.cutp y4 ?_ (fun h5 => ?_)
  · exact State.abortWork_keys h
  extract_lets +onlyGivenNames x6
  have h7 : KeysKept s₀ x6 := KeysKept.fr (State.logTamper_fr rfl (.id _ _)) h5
  clear_value x6
  extract_lets +onlyGivenNames x8
  extract_lets +onlyGivenNames x9
  refine Holds.ite ?_ ?_
  · extract_lets +onlyGivenNames x10
    extract_lets +onlyGivenNames x11
    have h12 : KeysKept s₀ x11 := Holds.ite (KeysKept.set_key ⟨rfl, rfl⟩ h7) h7
    clear_value x11
    exact KeysKept.fr (State.wakeEvent_fr rfl (.id _ _)) (KeysKept.fr (State.flag_fr rfl rfl (.id _ _)) h12)
  · extract_lets +onlyGivenNames x13
    have h14 : KeysKept s₀ x13 := Holds.ite (State.sealStore_keys h7) h7
    clear_value x13
    exact Holds.ite (KeysKept.fr (State.enterSealed_fr rfl (.id _ _)) h14) (Holds.ite (KeysKept.fr (State.cancelPend_fr rfl
        (.id _ _)) h14) h14)

theorem State.clearLogic_keys (h : KeysKept s₀ s) : KeysKept s₀ (State.clearLogic s) := by
  unfold State.clearLogic
  extract_lets +onlyGivenNames x0
  have h1 : KeysKept s₀ x0 := KeysKept.fr (State.abandonSlot_fr rfl (.id _ _)) h
  clear_value x0
  extract_lets +onlyGivenNames x2
  have h3 : KeysKept s₀ x2 := KeysKept.fr (Fr.set_regs notKey_reg (.id _ _)) h1
  clear_value x2
  extract_lets +onlyGivenNames x4
  have h5 : KeysKept s₀ x4 := KeysKept.fr (State.clearMem_fr rfl (.id _ _)) (KeysKept.fr (State.clearMem_fr rfl (.id _ _))
      (KeysKept.fr (State.clearMem_fr rfl (.id _ _)) h3))
  clear_value x4
  exact KeysKept.upd (s := x4) ⟨rfl, rfl⟩ h5

theorem State.resetToHold_keys {a1} (h : KeysKept s₀ s) : KeysKept s₀ (State.resetToHold s a1) := by
  unfold State.resetToHold
  extract_lets +onlyGivenNames x0
  clear_value x0
  extract_lets +onlyGivenNames x1
  clear_value x1
  extract_lets +onlyGivenNames x2
  have h3 : KeysKept s₀ x2 := State.clearLogic_keys (KeysKept.fr (State.enterHold_fr rfl (.id _ _)) (KeysKept.fr
      (State.cancelPend_fr rfl (.id _ _)) h))
  clear_value x2
  extract_lets +onlyGivenNames x4
  clear_value x4
  extract_lets +onlyGivenNames x5
  have h6 : KeysKept s₀ x5 := KeysKept.fr (Fr.set_sys rfl (.id _ _)) h3
  clear_value x5
  extract_lets +onlyGivenNames x7
  have h8 : KeysKept s₀ x7 := KeysKept.fr (State.flag_fr rfl rfl (.id _ _)) (KeysKept.fr (State.put_fr rfl rfl (.id _ _))
      (KeysKept.fr (State.put_fr rfl rfl (.id _ _)) (KeysKept.fr (State.put_fr rfl rfl (.id _ _)) h6)))
  clear_value x7
  exact KeysKept.fr (State.ledSync_fr rfl (.id _ _)) (KeysKept.fr (State.flag_fr rfl (notKey_reg _) (.id _ _)) h8)

theorem State.logicReset_keys {a1} (h : KeysKept s₀ s) : KeysKept s₀ (State.logicReset s a1) := by
  unfold State.logicReset
  split
  · exact h
  · exact KeysKept.fr (State.flag_fr rfl (notKey_reg _) (.id _ _)) h
  · exact State.resetToHold_keys h

theorem State.bothDown_keys (h : KeysKept s₀ s) : KeysKept s₀ (State.bothDown s) := by
  unfold State.bothDown
  extract_lets +onlyGivenNames x0
  have h1 : KeysKept s₀ x0 := State.logicReset_keys (KeysKept.fr (State.dropTwok_fr rfl (.id _ _)) h)
  clear_value x0
  extract_lets +onlyGivenNames x2
  extract_lets +onlyGivenNames x3
  have h4 : KeysKept s₀ x3 := KeysKept.fr (Fr.set_flt rfl (.id _ _)) h1
  clear_value x3
  exact KeysKept.fr (State.ledSync_fr rfl (.id _ _)) (KeysKept.fr (State.showForced_fr rfl (.id _ _)) (KeysKept.fr
      (State.flag_fr rfl rfl (.id _ _)) (KeysKept.fr (State.flag_fr rfl rfl (.id _ _)) h4)))

theorem State.failHalf_keys {a1 a2} (h : KeysKept s₀ s) : KeysKept s₀ (State.failHalf s a1 a2) := by
  unfold State.failHalf
  extract_lets +onlyGivenNames x0
  clear_value x0
  exact Holds.ite (KeysKept.fr (State.loseHalf_fr rfl (.id _ _)) h) (State.bothDown_keys h)

theorem State.retentionFail_keys (h : KeysKept s₀ s) : KeysKept s₀ (State.retentionFail s) := by
  unfold State.retentionFail
  extract_lets +onlyGivenNames x0
  clear_value x0
  extract_lets +onlyGivenNames x1
  have h2 : KeysKept s₀ x1 := State.clearLogic_keys (KeysKept.fr (State.cancelPend_fr rfl (.id _ _)) h)
  clear_value x1
  extract_lets +onlyGivenNames x3
  clear_value x3
  extract_lets +onlyGivenNames x4
  have h5 : KeysKept s₀ x4 := KeysKept.fr (Fr.set_sys rfl (.id _ _)) h2
  clear_value x4
  extract_lets +onlyGivenNames x6
  have h7 : KeysKept s₀ x6 := KeysKept.fr (State.flag_fr rfl rfl (.id _ _)) (KeysKept.fr (State.put_fr rfl rfl (.id _ _))
      (KeysKept.fr (State.put_fr rfl rfl (.id _ _)) (KeysKept.fr (State.put_fr rfl rfl (.id _ _)) h5)))
  clear_value x6
  exact KeysKept.fr (State.flag_fr rfl rfl (.id _ _)) (KeysKept.fr (State.put_fr rfl rfl (.id _ _)) h7)

theorem State.runSysRstcmd_keys {a1 a2} (h : KeysKept s₀ s) : KeysKept s₀ (State.runSysRstcmd s a1 a2) := by
  unfold State.runSysRstcmd
  exact Holds.ite h (Holds.ite (State.logicReset_keys h) (KeysKept.fr (State.reserved_fr rfl (.id _ _)) h))

theorem State.wdExpire_keys (h : KeysKept s₀ s) : KeysKept s₀ (State.wdExpire s) := by
  unfold State.wdExpire
  exact State.logicReset_keys (KeysKept.fr (State.raise_fr rfl (.id _ _)) h)

theorem State.runDocWdkick_keys {a1 a2} (h : KeysKept s₀ s) : KeysKept s₀ (State.runDocWdkick s a1 a2) := by
  unfold State.runDocWdkick
  refine Holds.ite ?_ ?_
  · exact KeysKept.fr (State.pwrsv_fr rfl (.id _ _)) h
  · refine Holds.ite ?_ ?_
    · exact h
    · refine Holds.ite ?_ ?_
      · extract_lets +onlyGivenNames x0
        clear_value x0
        exact KeysKept.fr (State.flag_fr rfl rfl (.id _ _)) (KeysKept.fr (Fr.set_doc rfl (.id _ _)) h)
      · exact State.wdExpire_keys h

theorem State.slotFails_keys {a1} (h : KeysKept s₀ s) : KeysKept s₀ (State.slotFails s a1) := by
  unfold State.slotFails
  extract_lets +onlyGivenNames x0
  clear_value x0
  extract_lets +onlyGivenNames x1
  have h2 : KeysKept s₀ x1 := KeysKept.fr (State.loadResult_fr rfl (.id _ _)) h
  clear_value x1
  extract_lets +onlyGivenNames x3
  have h4 : KeysKept s₀ x3 := Holds.ite (State.tamper_keys h2) h2
  clear_value x3
  exact Holds.ite (KeysKept.fr (State.enterSealed_fr rfl (.id _ _)) h4) (KeysKept.fr (State.flag_fr rfl rfl (.id _ _))
      (KeysKept.fr (Fr.set_sys rfl (.id _ _)) h4))

theorem execPowerOnReset_keys {t} (h : KeysKept s₀ s) (e : execPowerOnReset s = .next t) : KeysKept s₀ t := by
  unfold execPowerOnReset at e
  cases e
  exact KeysKept.fr (State.ship_fr rfl (.id _ _)) (State.powerOnReset_keys h)

theorem execSupplyBrownout_keys {t} (h : KeysKept s₀ s) (e : execSupplyBrownout s = .next t) : KeysKept s₀ t := by
  unfold execSupplyBrownout at e
  cases e
  exact KeysKept.fr (State.ship_fr rfl (.id _ _)) (State.logicReset_keys (KeysKept.fr (State.dropTwok_fr rfl (.id _ _)) h))

theorem execReferenceLoss_keys {a0} {t} (h : KeysKept s₀ s) (e : execReferenceLoss a0 s = .next t) : KeysKept s₀ t := by
  unfold execReferenceLoss at e
  cases e
  exact KeysKept.fr (State.ship_fr rfl (.id _ _)) (Holds.ite h (State.logicReset_keys (KeysKept.fr (State.raise_fr rfl (.id
      _ _)) h)))

theorem execLogicReset_keys {a0} {t} (h : KeysKept s₀ s) (e : execLogicReset a0 s = .next t) : KeysKept s₀ t := by
  unfold execLogicReset at e
  cases e
  exact KeysKept.fr (State.ship_fr rfl (.id _ _)) (State.logicReset_keys h)

theorem execPufAttemptDone_keys {a0} {t} (h : KeysKept s₀ s) (e : execPufAttemptDone a0 s = .next t) : KeysKept s₀ t := by
  unfold execPufAttemptDone at e
  cases e
  refine KeysKept.fr (State.ship_fr rfl (.id _ _)) ?_
  refine Holds.ite ?_ ?_
  · exact h
  · refine Holds.ite ?_ ?_
    · extract_lets +onlyGivenNames x0
      clear_value x0
      extract_lets +onlyGivenNames x1
      have h2 : KeysKept s₀ x1 := KeysKept.fr (State.put_fr rfl rfl (.id _ _)) (KeysKept.fr (Fr.set_sys rfl (.id _ _)) h)
      clear_value x1
      exact KeysKept.fr (State.setRegBytes_fr rfl rfl (.id _ _)) h2
    · extract_lets +onlyGivenNames x3
      clear_value x3
      extract_lets +onlyGivenNames x4
      have h5 : KeysKept s₀ x4 := KeysKept.fr (Fr.set_sys rfl (.id _ _)) h
      refine Holds.ite ?_ ?_
      · exact h5
      · extract_lets +onlyGivenNames x6
        have h7 : KeysKept s₀ x6 := State.tamper_keys h5
        clear_value x6
        exact Holds.ite h7 (KeysKept.fr (State.enterSealed_fr rfl (.id _ _)) h7)

theorem execKeyDerivationDone_keys {t} (h : KeysKept s₀ s) (e : execKeyDerivationDone s = .next t) : KeysKept s₀ t := by
  unfold execKeyDerivationDone at e
  cases e
  refine KeysKept.fr (State.ship_fr rfl (.id _ _)) ?_
  refine Holds.ite ?_ ?_
  · exact h
  · extract_lets +onlyGivenNames x0
    have h1 : KeysKept s₀ x0 := Holds.forEach (fun _ _ h4 => State.sealStore_keys h4) h
    clear_value x0
    extract_lets +onlyGivenNames x5
    extract_lets +onlyGivenNames x6
    extract_lets +onlyGivenNames x7
    have h8 : KeysKept s₀ x7 := KeysKept.upd (s := x0) ⟨rfl, rfl⟩ h1
    clear_value x7
    exact KeysKept.fr (State.put_fr rfl rfl (.id _ _)) (KeysKept.fr (State.flag_fr rfl rfl (.id _ _)) h8)

theorem execImageReadDone_keys {a0} {t} (h : KeysKept s₀ s) (e : execImageReadDone a0 s = .next t) : KeysKept s₀ t := by
  unfold execImageReadDone at e
  cases e
  refine KeysKept.fr (State.ship_fr rfl (.id _ _)) ?_
  refine Holds.ite ?_ ?_
  · exact h
  · extract_lets +onlyGivenNames x0
    clear_value x0
    extract_lets +onlyGivenNames x1
    have h2 : KeysKept s₀ x1 := KeysKept.fr (Fr.set_sys rfl (.id _ _)) h
    clear_value x1
    split
    · exact Holds.ite (State.slotFails_keys h2) (KeysKept.fr (State.put_fr rfl rfl (.id _ _)) (KeysKept.fr (Fr.set_sys rfl
          (.id _ _)) h2))
    · exact KeysKept.fr (State.put_fr rfl rfl (.id _ _)) (KeysKept.fr (Fr.set_sys rfl (.id _ _)) h2)

theorem execImageVerifyDone_keys {t} (h : KeysKept s₀ s) (e : execImageVerifyDone s = .next t) : KeysKept s₀ t := by
  unfold execImageVerifyDone at e
  cases e
  refine KeysKept.fr (State.ship_fr rfl (.id _ _)) ?_
  refine Holds.ite ?_ ?_
  · exact h
  · split
    · exact State.slotFails_keys h
    · extract_lets +onlyGivenNames x0
      extract_lets +onlyGivenNames x1
      extract_lets +onlyGivenNames x2
      have h3 : KeysKept s₀ x2 := KeysKept.upd (s := s) ⟨rfl, rfl⟩ h
      clear_value x2
      exact KeysKept.fr (State.put_fr rfl rfl (.id _ _)) (KeysKept.fr (State.flag_fr rfl rfl (.id _ _)) (KeysKept.fr
          (State.loadResult_fr rfl (.id _ _)) h3))

theorem execSysRstcmd_keys {a0 a1} {t} (h : KeysKept s₀ s) (e : execSysRstcmd a0 a1 s = .next t) : KeysKept s₀ t := by
  unfold execSysRstcmd at e
  cases e
  exact KeysKept.fr (State.ship_fr rfl (.id _ _)) (State.runSysRstcmd_keys h)

theorem execDocWdkick_keys {a0 a1} {t} (h : KeysKept s₀ s) (e : execDocWdkick a0 a1 s = .next t) : KeysKept s₀ t := by
  unfold execDocWdkick at e
  cases e
  exact KeysKept.fr (State.ship_fr rfl (.id _ _)) (State.runDocWdkick_keys h)

theorem execWatchdogExpiry_keys {t} (h : KeysKept s₀ s) (e : execWatchdogExpiry s = .next t) : KeysKept s₀ t := by
  unfold execWatchdogExpiry at e
  cases e
  exact KeysKept.fr (State.ship_fr rfl (.id _ _)) (Holds.ite (State.wdExpire_keys h) h)

theorem execBothHalvesLost_keys {t} (h : KeysKept s₀ s) (e : execBothHalvesLost s = .next t) : KeysKept s₀ t := by
  unfold execBothHalvesLost at e
  cases e
  exact KeysKept.fr (State.ship_fr rfl (.id _ _)) (Holds.ite h (State.bothDown_keys h))

theorem execSelfTestCycle_keys {a0 a1} {t} (h : KeysKept s₀ s) (e : execSelfTestCycle a0 a1 s = .next t) : KeysKept s₀ t
    := by
  unfold execSelfTestCycle at e
  cases e
  exact KeysKept.fr (State.ship_fr rfl (.id _ _)) (Holds.ite h (Holds.ite (KeysKept.fr (State.wrap_fr rfl rfl (.id _ _)) h)
      (State.failHalf_keys (KeysKept.fr (State.put_fr rfl rfl (.id _ _)) h))))

theorem execTestComplete_keys {a0} {t} (h : KeysKept s₀ s) (e : execTestComplete a0 s = .next t) : KeysKept s₀ t := by
  unfold execTestComplete at e
  cases e
  refine KeysKept.fr (State.ship_fr rfl (.id _ _)) ?_
  refine Holds.ite ?_ ?_
  · exact h
  · extract_lets +onlyGivenNames x0
    clear_value x0
    extract_lets +onlyGivenNames x1
    clear_value x1
    extract_lets +onlyGivenNames x2
    have h3 : KeysKept s₀ x2 := KeysKept.fr (State.flag_fr rfl rfl (.id _ _)) (KeysKept.fr (Fr.set_flt rfl (.id _ _)) h)
    clear_value x2
    extract_lets +onlyGivenNames x4
    have h5 : KeysKept s₀ x4 := KeysKept.fr (State.put_fr rfl rfl (.id _ _)) h3
    clear_value x4
    split
    · extract_lets +onlyGivenNames x6
      have h7 : KeysKept s₀ x6 := KeysKept.fr (State.put_fr rfl rfl (.id _ _)) h5
      clear_value x6
      exact Holds.ite (State.failHalf_keys h7) h7
    · extract_lets +onlyGivenNames x8
      have h9 : KeysKept s₀ x8 := KeysKept.fr (State.put_fr rfl rfl (.id _ _)) h5
      clear_value x8
      exact Holds.ite (State.failHalf_keys h9) h9
    · exact KeysKept.fr (State.put_fr rfl rfl (.id _ _)) h5

theorem State.keyCmd_keys {a1 a2 a3} {a4 : State → State} (hf4 : ∀ s, KeysKept s₀ s → KeysKept s₀ (a4 s)) (h : KeysKept
    s₀ s) : KeysKept s₀ (State.keyCmd s a1 a2 a3 a4) := by
  unfold State.keyCmd
  exact Holds.ite (KeysKept.fr (State.keyRes_fr rfl (.id _ _)) h) (Holds.ite (KeysKept.fr (State.keyRes_fr rfl (.id _ _)) h)
      (hf4 _ h))

theorem State.beginWork_keys {a1} (h : KeysKept s₀ s) : KeysKept s₀ (State.beginWork s a1) := by
  unfold State.beginWork
  exact KeysKept.fr (State.flag_fr rfl rfl (.id _ _)) (KeysKept.set_key ⟨rfl, rfl⟩ h)

theorem State.applyEnvelope_keys (h : KeysKept s₀ s) : KeysKept s₀ (State.applyEnvelope s) := by
  unfold State.applyEnvelope
  extract_lets +onlyGivenNames x0
  clear_value x0
  extract_lets +onlyGivenNames x1
  clear_value x1
  extract_lets +onlyGivenNames x2
  have h3 : KeysKept s₀ x2 := KeysKept.fr (State.flag_fr rfl rfl (.id _ _)) h
  clear_value x2
  split
  · exact KeysKept.fr (State.raise_fr rfl (.id _ _)) (KeysKept.fr (State.keyRes_fr rfl (.id _ _)) h3)
  · extract_lets +onlyGivenNames x4
    clear_value x4
    refine Holds.ite ?_ ?_
    · exact KeysKept.fr (State.raise_fr rfl (.id _ _)) (KeysKept.fr (State.keyRes_fr rfl (.id _ _)) (KeysKept.fr
          (State.put_fr rfl rfl (.id _ _)) (KeysKept.fr (State.put_fr rfl rfl (.id _ _)) (KeysKept.fr (State.flag_fr rfl rfl
          (.id _ _)) h3))))
    · refine Holds.ite ?_ ?_
      · exact KeysKept.fr (State.raise_fr rfl (.id _ _)) (KeysKept.fr (State.keyRes_fr rfl (.id _ _)) (KeysKept.fr
            (State.put_fr rfl rfl (.id _ _)) (KeysKept.fr (State.flag_fr rfl rfl (.id _ _)) h3)))
      · extract_lets +onlyGivenNames x5
        clear_value x5
        exact State.beginWork_keys h3

theorem State.runKeyCmdApply_keys (h : KeysKept s₀ s) : KeysKept s₀ (State.runKeyCmdApply s) := by
  unfold State.runKeyCmdApply
  exact State.keyCmd_keys (fun _ h1 => Holds.ite (KeysKept.fr (State.flag_fr rfl rfl (.id _ _)) (KeysKept.set_key ⟨rfl, rfl⟩
      h1)) (State.applyEnvelope_keys h1)) h

theorem State.runKeyCmdPlainwr_keys {a1 a2} (h : KeysKept s₀ s) : KeysKept s₀ (State.runKeyCmdPlainwr s a1 a2) := by
  unfold State.runKeyCmdPlainwr
  refine State.keyCmd_keys ?_ ?_
  · intro s0 h1
    refine Holds.ite ?_ ?_
    · exact KeysKept.fr (State.zeroPlain_fr rfl (.id _ _)) (KeysKept.fr (State.keyRes_fr rfl (.id _ _)) h1)
    · refine Holds.ite ?_ ?_
      · exact KeysKept.fr (State.zeroPlain_fr rfl (.id _ _)) (KeysKept.fr (State.keyRes_fr rfl (.id _ _)) h1)
      · extract_lets +onlyGivenNames x2
        clear_value x2
        exact State.beginWork_keys h1
  · exact h

theorem State.runKeyCmdImgkey_keys {a1} (h : KeysKept s₀ s) : KeysKept s₀ (State.runKeyCmdImgkey s a1) := by
  unfold State.runKeyCmdImgkey
  refine State.keyCmd_keys ?_ ?_
  · intro s0 h1
    refine Holds.ite ?_ ?_
    · exact KeysKept.fr (State.zeroPlain_fr rfl (.id _ _)) (KeysKept.fr (State.keyRes_fr rfl (.id _ _)) h1)
    · extract_lets +onlyGivenNames x2
      clear_value x2
      extract_lets +onlyGivenNames x3
      clear_value x3
      extract_lets +onlyGivenNames x4
      clear_value x4
      extract_lets +onlyGivenNames x5
      clear_value x5
      exact State.beginWork_keys h1
  · exact h

theorem State.runKeyCmdSvcchal_keys (h : KeysKept s₀ s) : KeysKept s₀ (State.runKeyCmdSvcchal s) := by
  unfold State.runKeyCmdSvcchal
  refine State.keyCmd_keys ?_ ?_
  · intro s0 h1
    refine Holds.ite ?_ ?_
    · exact KeysKept.fr (State.keyRes_fr rfl (.id _ _)) h1
    · split
      rename_i y2 y3 y4 y5
      refine Holds.cutp y5 ?_ (fun h6 => ?_)
      · exact KeysKept.fr (State.takeFrees_fr rfl (.id _ _)) h1
      extract_lets +onlyGivenNames x7
      have h8 : KeysKept s₀ x7 := Holds.foldl (fun _ _ h11 => KeysKept.fr (State.setReg_fr (notKey_reg _) (.id _ _)) h11) h6
      clear_value x7
      exact KeysKept.fr (State.keyRes_fr rfl (.id _ _)) (KeysKept.fr (State.flag_fr rfl rfl (.id _ _)) (KeysKept.set_key
          ⟨rfl, rfl⟩ h8))
  · exact h

theorem State.runKeyCmdSvcauth_keys (h : KeysKept s₀ s) : KeysKept s₀ (State.runKeyCmdSvcauth s) := by
  unfold State.runKeyCmdSvcauth
  refine State.keyCmd_keys ?_ ?_
  · intro s0 h1
    extract_lets +onlyGivenNames x2
    extract_lets +onlyGivenNames x3
    extract_lets +onlyGivenNames x4
    have h5 : KeysKept s₀ x4 := KeysKept.set_key ⟨rfl, rfl⟩ h1
    clear_value x4
    refine Holds.ite ?_ ?_
    · exact KeysKept.fr (State.keyRes_fr rfl (.id _ _)) (KeysKept.fr (State.flag_fr rfl rfl (.id _ _)) (KeysKept.set_key
          ⟨rfl, rfl⟩ h5))
    · extract_lets +onlyGivenNames x6
      extract_lets +onlyGivenNames x7
      extract_lets +onlyGivenNames x8
      have h9 : KeysKept s₀ x8 := KeysKept.set_key ⟨rfl, rfl⟩ h5
      clear_value x8
      exact KeysKept.fr (State.raise_fr rfl (.id _ _)) (KeysKept.fr (State.keyRes_fr rfl (.id _ _)) h9)
  · exact h

theorem State.runKeyCmdClrcache_keys (h : KeysKept s₀ s) : KeysKept s₀ (State.runKeyCmdClrcache s) := by
  unfold State.runKeyCmdClrcache
  exact State.keyCmd_keys (fun _ h1 => KeysKept.fr (State.keyRes_fr rfl (.id _ _)) (KeysKept.set_key ⟨rfl, rfl⟩ h1)) h

theorem State.runKeyOpgo_keys {a1 a2} (h : KeysKept s₀ s) : KeysKept s₀ (State.runKeyOpgo s a1 a2) := by
  unfold State.runKeyOpgo
  exact Holds.ite (KeysKept.fr (State.reserved_fr rfl (.id _ _)) (KeysKept.fr (State.flag_fr rfl rfl (.id _ _)) h))
      (State.startOp_keys (KeysKept.fr (State.opLen_fr rfl (.id _ _)) (KeysKept.set_key ⟨rfl, rfl⟩ h)))

theorem execKeyCmdApply_keys {a0} {t} (h : KeysKept s₀ s) (e : execKeyCmdApply a0 s = .next t) : KeysKept s₀ t := by
  unfold execKeyCmdApply at e
  cases e
  exact KeysKept.fr (State.ship_fr rfl (.id _ _)) (State.asWho_keys (fun _ => State.runKeyCmdApply_keys) h)

theorem execKeyCmdPlainwr_keys {a0 a1 a2} {t} (h : KeysKept s₀ s) (e : execKeyCmdPlainwr a0 a1 a2 s = .next t) :
    KeysKept s₀ t := by
  unfold execKeyCmdPlainwr at e
  cases e
  exact KeysKept.fr (State.ship_fr rfl (.id _ _)) (State.asWho_keys (fun _ => State.runKeyCmdPlainwr_keys) h)

theorem execKeyCmdImgkey_keys {a0 a1} {t} (h : KeysKept s₀ s) (e : execKeyCmdImgkey a0 a1 s = .next t) : KeysKept s₀ t := by
  unfold execKeyCmdImgkey at e
  cases e
  exact KeysKept.fr (State.ship_fr rfl (.id _ _)) (State.asWho_keys (fun _ => State.runKeyCmdImgkey_keys) h)

theorem execKeyCmdSvcchal_keys {a0} {t} (h : KeysKept s₀ s) (e : execKeyCmdSvcchal a0 s = .next t) : KeysKept s₀ t := by
  unfold execKeyCmdSvcchal at e
  cases e
  exact KeysKept.fr (State.ship_fr rfl (.id _ _)) (State.asWho_keys (fun _ => State.runKeyCmdSvcchal_keys) h)

theorem execKeyCmdSvcauth_keys {a0} {t} (h : KeysKept s₀ s) (e : execKeyCmdSvcauth a0 s = .next t) : KeysKept s₀ t := by
  unfold execKeyCmdSvcauth at e
  cases e
  exact KeysKept.fr (State.ship_fr rfl (.id _ _)) (State.asWho_keys (fun _ => State.runKeyCmdSvcauth_keys) h)

theorem execKeyCmdClrcache_keys {a0} {t} (h : KeysKept s₀ s) (e : execKeyCmdClrcache a0 s = .next t) : KeysKept s₀ t := by
  unfold execKeyCmdClrcache at e
  cases e
  exact KeysKept.fr (State.ship_fr rfl (.id _ _)) (State.asWho_keys (fun _ => State.runKeyCmdClrcache_keys) h)

theorem execSvcLockoutExpiry_keys {t} (h : KeysKept s₀ s) (e : execSvcLockoutExpiry s = .next t) : KeysKept s₀ t := by
  unfold execSvcLockoutExpiry at e
  cases e
  exact KeysKept.fr (State.ship_fr rfl (.id _ _)) (KeysKept.set_key ⟨rfl, rfl⟩ h)

theorem execKeyOpgo_keys {a0 a1} {t} (h : KeysKept s₀ s) (e : execKeyOpgo a0 a1 s = .next t) : KeysKept s₀ t := by
  unfold execKeyOpgo at e
  cases e
  exact KeysKept.fr (State.ship_fr rfl (.id _ _)) (State.asWho_keys (fun _ => State.runKeyOpgo_keys) h)

theorem execKeyOperationDone_keys {t} (h : KeysKept s₀ s) (e : execKeyOperationDone s = .next t) : KeysKept s₀ t := by
  unfold execKeyOperationDone at e
  cases e
  refine KeysKept.fr (State.ship_fr rfl (.id _ _)) ?_
  split
  · exact h
  · extract_lets +onlyGivenNames x0
    have h1 : KeysKept s₀ x0.2 := State.runOp_keys h
    extract_lets +onlyGivenNames x2
    have h3 : KeysKept s₀ x2 := State.endOp_keys h1
    clear_value x2
    extract_lets +onlyGivenNames x4
    extract_lets +onlyGivenNames x5
    have h6 : KeysKept s₀ x5 := Holds.ite (State.applyEnvelope_keys (KeysKept.set_key ⟨rfl, rfl⟩ h3)) h3
    clear_value x5
    exact State.startOp_keys h6

theorem execTamperEvent_keys {a0} {t} (h : KeysKept s₀ s) (e : execTamperEvent a0 s = .next t) : KeysKept s₀ t := by
  unfold execTamperEvent at e
  cases e
  exact KeysKept.fr (State.ship_fr rfl (.id _ _)) (Holds.ite (State.tamper_keys h) h)

theorem execDebugRequest_keys {a0} {t} (h : KeysKept s₀ s) (e : execDebugRequest a0 s = .next t) : KeysKept s₀ t := by
  unfold execDebugRequest at e
  cases e
  refine KeysKept.fr (State.ship_fr rfl (.id _ _)) ?_
  refine Holds.ite ?_ ?_
  · exact h
  · extract_lets +onlyGivenNames x0
    exact Holds.ite (State.tamper_keys (KeysKept.set_key ⟨rfl, rfl⟩ h)) (KeysKept.set_key ⟨rfl, rfl⟩ h)

theorem State.writeKeyCmd_keys {a1 a2} (h : KeysKept s₀ s) : KeysKept s₀ (State.writeKeyCmd s a1 a2) := by
  unfold State.writeKeyCmd
  extract_lets +onlyGivenNames x0
  clear_value x0
  extract_lets +onlyGivenNames x1
  clear_value x1
  extract_lets +onlyGivenNames x2
  clear_value x2
  extract_lets +onlyGivenNames x3
  clear_value x3
  refine Holds.ite ?_ ?_
  · exact KeysKept.fr (State.reserved_fr rfl (.id _ _)) h
  · split
    · exact State.runKeyCmdApply_keys h
    · exact State.runKeyCmdPlainwr_keys h
    · exact State.runKeyCmdImgkey_keys h
    · exact State.runKeyCmdSvcchal_keys h
    · exact State.runKeyCmdSvcauth_keys h
    · exact State.runKeyCmdClrcache_keys h
    · exact h

theorem State.writeReg_keys {a1} {a2 : RegRef} {a3} (h : KeysKept s₀ s) : KeysKept s₀ (State.writeReg s a1 a2 a3) := by
  unfold State.writeReg
  extract_lets +onlyGivenNames x0
  split
  · unfold x0
    exact State.accept_keys (fun _ h2 => KeysKept.fr (State.runModeRequest_fr rfl (.id _ _)) h2) h
  · unfold x0
    exact State.accept_keys (fun _ => State.runSysRstcmd_keys) h
  · unfold x0
    exact State.accept_keys (fun _ h6 => KeysKept.fr (State.writeWctl_fr rfl (.id _ _)) h6) h
  · split
    · exact KeysKept.fr (State.runFabLwr_fr rfl (.id _ _)) h
    · unfold x0
      exact State.accept_keys (fun _ h8 => h8) h
  · split
    · exact KeysKept.fr (State.runFabLwrg_fr rfl (.id _ _)) h
    · unfold x0
      exact State.accept_keys (fun _ h10 => h10) h
  · split
    · exact KeysKept.fr (State.runPuPdWrite_fr rfl (.id _ _)) h
    · unfold x0
      exact State.accept_keys (fun _ h12 => h12) h
  · split
    · exact State.runDocWdkick_keys h
    · unfold x0
      exact State.accept_keys (fun _ h14 => h14) h
  · exact KeysKept.fr (State.runHswLockClear_fr rfl (.id _ _)) h
  · exact KeysKept.fr (State.runHswLockClear_fr rfl (.id _ _)) h
  · unfold x0
    exact State.accept_keys (fun _ h16 => Holds.onlyIf (fun _ h18 => KeysKept.fr (State.runHswClrTrip_fr rfl (.id _ _)) h18)
        h16) h
  · exact KeysKept.fr (State.runHbrTgtWrite_fr rfl (.id _ _)) h
  · exact KeysKept.fr (State.runHbrPosset_fr rfl (.id _ _)) h
  · exact KeysKept.fr (State.runHbrSflt_fr rfl (.id _ _)) h
  · unfold x0
    exact State.accept_keys (fun _ h20 => Holds.onlyIf (fun _ h22 => KeysKept.fr (State.runHbrClrStop_fr rfl (.id _ _)) h22)
        (Holds.onlyIf (fun _ h24 => KeysKept.fr (State.runHbrClrTrip_fr rfl (.id _ _)) h24) h20)) h
  · unfold x0
    exact State.accept_keys (fun _ h26 => Holds.onlyIf (fun _ h28 => KeysKept.fr (State.runVlvClrTrip_fr rfl (.id _ _)) h28)
        h26) h
  · unfold x0
    exact State.accept_keys (fun _ h30 => Holds.onlyIf (fun _ h32 => KeysKept.fr (State.runVlvClrTrip_fr rfl (.id _ _)) h32)
        h30) h
  · unfold x0
    exact State.accept_keys (fun _ h34 => Holds.onlyIf (fun _ h36 => KeysKept.fr (State.runVlvClrTrip_fr rfl (.id _ _)) h36)
        h34) h
  · unfold x0
    exact State.accept_keys (fun _ h38 => KeysKept.fr (State.writeLockStat_fr rfl (notKey_reg _) (.id _ _)) h38) h
  · unfold x0
    exact State.accept_keys (fun _ h40 => KeysKept.fr (State.writeLockStat_fr rfl (notKey_reg _) (.id _ _)) h40) h
  · exact KeysKept.fr (State.runLedLevelWrite_fr rfl (.id _ _)) h
  · unfold x0
    exact State.accept_keys (fun _ h42 => Holds.onlyIf (fun _ h44 => KeysKept.fr (State.runLedClrDacrst_fr rfl (.id _ _))
        h44) (Holds.onlyIf (fun _ h46 => KeysKept.fr (State.runLedClrTrip_fr rfl (.id _ _)) h46) h42)) h
  · unfold x0
    exact State.accept_keys (fun _ h48 => Holds.onlyIf (fun _ h50 => KeysKept.fr (State.runLchCtlDisc_fr rfl (.id _ _)) h50)
        (Holds.onlyIf (fun _ h52 => KeysKept.fr (State.runLchCtlSwap_fr rfl (.id _ _)) h52) h48)) h
  · unfold x0
    exact State.accept_keys (fun _ h54 => KeysKept.fr (State.writeCtxCmd_fr rfl (.id _ _)) h54) h
  · unfold x0
    exact State.accept_keys (fun _ h56 => Holds.onlyIf (fun _ h58 => KeysKept.fr (State.runCanCmdClrlonely_fr rfl (.id _ _))
        h58) (Holds.onlyIf (fun _ h60 => KeysKept.fr (State.runCanCmdRecover_fr rfl (.id _ _)) h60) h56)) h
  · exact KeysKept.fr (State.runCanRxpop_fr rfl (.id _ _)) h
  · exact KeysKept.fr (State.runCanTxRequest_fr rfl (.id _ _)) h
  · exact KeysKept.fr (State.writeTxCan_fr rfl (.id _ _)) h
  · exact KeysKept.fr (State.runCanTxBufferWrite_fr rfl (.id _ _)) h
  · exact KeysKept.fr (State.runLinSchedWrite_fr rfl (.id _ _)) h
  · unfold x0
    exact State.accept_keys (fun _ h62 => Holds.onlyIf (fun _ h64 => KeysKept.fr (State.runLinCmdWake_fr rfl (.id _ _)) h64)
        h62) h
  · exact KeysKept.fr (State.runLinDataWrite_fr rfl (.id _ _)) h
  · exact KeysKept.fr (State.runLinDataWrite_fr rfl (.id _ _)) h
  · exact KeysKept.fr (State.runLinDataWrite_fr rfl (.id _ _)) h
  · exact KeysKept.fr (State.runNmCtlWrite_fr rfl (.id _ _)) h
  · unfold x0
    exact State.accept_keys (fun _ h66 => Holds.onlyIf (fun _ h68 => KeysKept.fr (State.runNmCmdWake_fr rfl (.id _ _)) h68)
        h66) h
  · unfold x0
    refine State.accept_keys ?_ ?_
    · intro s69 h70
      split
      · exact KeysKept.fr (State.runPwrPrcmdReturn_fr rfl (.id _ _)) h70
      · exact KeysKept.fr (State.runPwrPrcmdForce_fr rfl (.id _ _)) h70
      · exact h70
    · exact h
  · unfold x0
    refine State.accept_keys ?_ ?_
    · intro s71 h72
      split
      · exact KeysKept.fr (State.runTwnCmdFailback_fr rfl (.id _ _)) h72
      · exact KeysKept.fr (State.runTwnCmdResync_fr rfl (.id _ _)) h72
      · exact h72
    · exact h
  · unfold x0
    exact State.accept_keys (fun _ h74 => KeysKept.fr (State.writeFltCmd_fr rfl (.id _ _)) h74) h
  · unfold x0
    exact State.accept_keys (fun _ h76 => KeysKept.fr (State.runFltAttnAck_fr rfl (.id _ _)) h76) h
  · unfold x0
    exact State.accept_keys (fun _ h78 => KeysKept.fr (State.writeFltInj_fr rfl (.id _ _)) h78) h
  · unfold x0
    exact State.accept_keys (fun _ h80 => Holds.onlyIf (fun _ h82 => KeysKept.fr (State.runFltRgcmdRelease_fr rfl (.id _ _))
        h82) h80) h
  · unfold x0
    exact State.accept_keys (fun _ h84 => KeysKept.fr (State.writeTstCmd_fr rfl (.id _ _)) h84) h
  · unfold x0
    exact State.accept_keys (fun _ => State.writeKeyCmd_keys) h
  · split
    · exact KeysKept.fr (State.runKeyTcfgWrite_fr rfl (.id _ _)) h
    · unfold x0
      exact State.accept_keys (fun _ h88 => h88) h
  · unfold x0
    exact State.accept_keys (fun _ => State.runKeyOpgo_keys) h
  · unfold x0
    exact State.accept_keys (fun _ h92 => KeysKept.fr (State.writeKeyData_fr rfl (notKey_reg _) (.id _ _)) h92) h
  · unfold x0
    exact State.accept_keys (fun _ h94 => KeysKept.fr (State.writeKeyData_fr rfl (notKey_reg _) (.id _ _)) h94) h
  · unfold x0
    exact State.accept_keys (fun _ h96 => KeysKept.fr (State.writeKeyData_fr rfl (notKey_reg _) (.id _ _)) h96) h
  · split
    · exact KeysKept.fr (State.runCalValWrite_fr rfl (.id _ _)) h
    · unfold x0
      exact State.accept_keys (fun _ h98 => h98) h
  · unfold x0
    exact State.accept_keys (fun _ h100 => KeysKept.fr (State.storeWrite_fr rfl (notKey_reg _) (.id _ _)) h100) h

theorem State.hostWrite_keys {a1 a2} (h : KeysKept s₀ s) : KeysKept s₀ (State.hostWrite s a1 a2) := by
  unfold State.hostWrite
  refine Holds.ite ?_ ?_
  · exact KeysKept.fr (State.reserved_fr rfl (.id _ _)) h
  · refine Holds.ite ?_ ?_
    · split
      · exact KeysKept.fr (State.reserved_fr rfl (.id _ _)) h
      · exact Holds.ite (KeysKept.fr (State.reserved_fr rfl (.id _ _)) h) (State.writeReg_keys h)
    · exact Holds.ite (KeysKept.fr (State.setWord_fr rfl (.id _ _)) h) (Holds.ite (KeysKept.fr (State.runSlotWordWrite_fr
          rfl (.id _ _)) h) (KeysKept.fr (State.reserved_fr rfl (.id _ _)) h))

theorem State.ctxWrite_keys {a1 a2 a3} (h : KeysKept s₀ s) : KeysKept s₀ (State.ctxWrite s a1 a2 a3) := by
  unfold State.ctxWrite
  split
  · exact h
  · exact Holds.ite (State.writeReg_keys h) (KeysKept.fr (State.windowLost_fr rfl (.id _ _)) h)

theorem execRegisterWrite_keys {a0 a1 a2} {t} (h : KeysKept s₀ s) (e : execRegisterWrite a0 a1 a2 s = .next t) :
    KeysKept s₀ t := by
  unfold execRegisterWrite at e
  cases e
  refine KeysKept.fr (State.ship_fr rfl (.id _ _)) ?_
  split
  · exact Holds.ite (State.hostWrite_keys h) h
  · exact Holds.ite (State.ctxWrite_keys h) h

theorem State.asMgmt_keys {a1 : State → State} (hf1 : ∀ s, KeysKept s₀ s → KeysKept s₀ (a1 s)) (h : KeysKept s₀ s) :
    KeysKept s₀ (State.asMgmt s a1) := by
  unfold State.asMgmt
  extract_lets +onlyGivenNames x0
  extract_lets +onlyGivenNames x1
  extract_lets +onlyGivenNames x2
  have h3 : KeysKept s₀ x2 := hf1 _ (KeysKept.fr (Fr.set_spi rfl (.id _ _)) h)
  clear_value x2
  exact Holds.ite (KeysKept.upd (s := x2) ⟨rfl, rfl⟩ h3) h3

theorem State.frameWrite_keys {a1 a2 a3} (h : KeysKept s₀ s) : KeysKept s₀ (State.frameWrite s a1 a2 a3).2 := by
  unfold State.frameWrite
  refine Holds.ite2 ?_ ?_
  · exact Holds.mk2 h
  · extract_lets +onlyGivenNames x0
    clear_value x0
    exact Holds.mk2 (KeysKept.fr (State.hostWarn_fr rfl (.id _ _)) (Holds.ite h (State.hostWrite_keys h)))

theorem State.frameWrites_keys {a1 a2 a3 a4} (h : KeysKept s₀ s) : KeysKept s₀ (State.frameWrites s a1 a2 a3 a4).2 := by
  unfold State.frameWrites
  refine Holds.foldl2 ?_ ?_
  · intro h0 h1 h2
    extract_lets +onlyGivenNames x3
    clear_value x3
    extract_lets +onlyGivenNames x4
    have h5 : KeysKept s₀ x4.2 := State.frameWrite_keys h2
    exact Holds.mk2 h5
  · exact Holds.mk2 h

theorem State.writeFrame_keys {a1 a2 a3} (h : KeysKept s₀ s) : KeysKept s₀ (State.writeFrame s a1 a2 a3) := by
  unfold State.writeFrame
  split
  rename_i y0 y1 y2 y3
  refine Holds.cutp y3 ?_ (fun h4 => ?_)
  · exact State.frameWrites_keys h
  refine Holds.ite ?_ ?_
  · exact KeysKept.fr (State.hostOut_fr rfl (.id _ _)) h4
  · extract_lets +onlyGivenNames x5
    clear_value x5
    exact KeysKept.fr (State.frameEnd_fr rfl (.id _ _)) (KeysKept.fr (State.hostOut_fr rfl (.id _ _)) h4)

theorem State.checkedFrame_keys {a1 a2 a3} (h : KeysKept s₀ s) : KeysKept s₀ (State.checkedFrame s a1 a2 a3) := by
  unfold State.checkedFrame
  exact Holds.ite (KeysKept.fr (State.crcFrame_fr rfl (.id _ _)) h) (Holds.ite (KeysKept.fr (State.readFrame_fr rfl (.id _
      _)) h) (Holds.ite (State.writeFrame_keys h) (KeysKept.fr (State.frameEnd_fr rfl (.id _ _)) (KeysKept.fr
      (State.shortOut_fr rfl (.id _ _)) h))))

theorem State.mgmtRun_keys {a1 a2 a3 a4 a5 a6 a7 a8 a9} (h : KeysKept s₀ s) : KeysKept s₀ (State.mgmtRun s a1 a2 a3 a4
    a5 a6 a7 a8 a9) := by
  unfold State.mgmtRun
  extract_lets +onlyGivenNames x0
  clear_value x0
  extract_lets +onlyGivenNames x1
  refine State.asMgmt_keys ?_ ?_
  · intro s2 h3
    refine Holds.ite ?_ ?_
    · unfold x1
      exact KeysKept.fr (State.mgmtAnswer_fr rfl (.id _ _)) (KeysKept.fr (State.reserved_fr rfl (.id _ _)) h3)
    · refine Holds.ite ?_ ?_
      · split
        rename_i y4 y5 y6 y7
        refine Holds.cutp y7 ?_ (fun h8 => ?_)
        · exact KeysKept.fr (State.frameReads_fr rfl (.id _ _)) h3
        extract_lets +onlyGivenNames x9
        clear_value x9
        unfold x1
        exact KeysKept.fr (State.mgmtAnswer_fr rfl (.id _ _)) h8
      · refine Holds.ite ?_ ?_
        · split
          rename_i y10 y11 y12 y13
          refine Holds.cutp y13 ?_ (fun h14 => ?_)
          · exact State.frameWrites_keys h3
          unfold x1
          exact KeysKept.fr (State.mgmtAnswer_fr rfl (.id _ _)) h14
        · unfold x1
          exact KeysKept.fr (State.mgmtAnswer_fr rfl (.id _ _)) h3
  · exact h

theorem State.runFrame_keys {a1 a2} {a3 : State → Sys2Proof.Machine.HostSt → Nat → State} (hf3 : ∀ s b1 b2, KeysKept s₀
    s → KeysKept s₀ (a3 s b1 b2)) (h : KeysKept s₀ s) : KeysKept s₀ (State.runFrame s a1 a2 a3) := by
  unfold State.runFrame
  refine Holds.ite ?_ ?_
  · exact KeysKept.fr (State.hostOut_fr rfl (.id _ _)) h
  · extract_lets +onlyGivenNames x0
    clear_value x0
    extract_lets +onlyGivenNames x1
    clear_value x1
    exact Holds.ite (KeysKept.fr (State.frameEnd_fr rfl (.id _ _)) (KeysKept.fr (State.hostOut_fr rfl (.id _ _))
        (KeysKept.fr (State.hostBegin_fr rfl (.id _ _)) h))) (Holds.ite h (hf3 _ _ _ (KeysKept.fr (State.hostBegin_fr rfl
        (.id _ _)) h)))

theorem execHostNop_keys {a0} {t} (h : KeysKept s₀ s) (e : execHostNop a0 s = .next t) : KeysKept s₀ t := by
  unfold execHostNop at e
  cases e
  exact KeysKept.fr (State.ship_fr rfl (.id _ _)) (State.runFrame_keys (fun _ _ _ h3 => State.checkedFrame_keys h3) h)

theorem execHostRead_keys {a0} {t} (h : KeysKept s₀ s) (e : execHostRead a0 s = .next t) : KeysKept s₀ t := by
  unfold execHostRead at e
  cases e
  exact KeysKept.fr (State.ship_fr rfl (.id _ _)) (State.runFrame_keys (fun _ _ _ h3 => State.checkedFrame_keys h3) h)

theorem execHostWrite_keys {a0} {t} (h : KeysKept s₀ s) (e : execHostWrite a0 s = .next t) : KeysKept s₀ t := by
  unfold execHostWrite at e
  cases e
  exact KeysKept.fr (State.ship_fr rfl (.id _ _)) (State.runFrame_keys (fun _ _ _ h3 => State.checkedFrame_keys h3) h)

theorem execHostReads_keys {a0} {t} (h : KeysKept s₀ s) (e : execHostReads a0 s = .next t) : KeysKept s₀ t := by
  unfold execHostReads at e
  cases e
  exact KeysKept.fr (State.ship_fr rfl (.id _ _)) (State.runFrame_keys (fun _ _ _ h3 => State.checkedFrame_keys h3) h)

theorem execHostWrites_keys {a0} {t} (h : KeysKept s₀ s) (e : execHostWrites a0 s = .next t) : KeysKept s₀ t := by
  unfold execHostWrites at e
  cases e
  exact KeysKept.fr (State.ship_fr rfl (.id _ _)) (State.runFrame_keys (fun _ _ _ h3 => State.checkedFrame_keys h3) h)

theorem execMgmtRequest_keys {a0 a1 a2 a3} {t} (h : KeysKept s₀ s) (e : execMgmtRequest a0 a1 a2 a3 s = .next t) :
    KeysKept s₀ t := by
  unfold execMgmtRequest at e
  cases e
  refine KeysKept.fr (State.ship_fr rfl (.id _ _)) ?_
  refine Holds.ite ?_ ?_
  · exact h
  · extract_lets +onlyGivenNames x0
    clear_value x0
    split
    · exact KeysKept.fr (State.count_fr rfl rfl (.id _ _)) h
    · refine Holds.ite ?_ ?_
      · exact KeysKept.fr (State.count_fr rfl rfl (.id _ _)) h
      · extract_lets +onlyGivenNames x1
        clear_value x1
        extract_lets +onlyGivenNames x2
        clear_value x2
        extract_lets +onlyGivenNames x3
        clear_value x3
        extract_lets +onlyGivenNames x4
        clear_value x4
        extract_lets +onlyGivenNames x5
        clear_value x5
        extract_lets +onlyGivenNames x6
        clear_value x6
        extract_lets +onlyGivenNames x7
        clear_value x7
        extract_lets +onlyGivenNames x8
        clear_value x8
        refine Holds.ite ?_ ?_
        · split
          rename_i y9 y10 y11 y12
          refine Holds.cutp y12 ?_ (fun h13 => ?_)
          · exact KeysKept.fr (State.takeFree_fr rfl (.id _ _)) h
          exact State.mgmtRun_keys (KeysKept.fr (State.mgmtAccept_fr rfl (.id _ _)) h13)
        · exact Holds.ite (KeysKept.fr (State.count_fr rfl rfl (.id _ _)) h) (Holds.ite (KeysKept.fr (State.count_fr rfl rfl
              (.id _ _)) h) (Holds.ite (KeysKept.fr (State.mgmtCrc_fr rfl (.id _ _)) h) (State.mgmtRun_keys (KeysKept.fr
              (State.mgmtAccept_fr rfl (.id _ _)) h))))

theorem State.onCore_keys {a1} {a2 : Nat → State → State} (hf2 : ∀ b0 s, KeysKept s₀ s → KeysKept s₀ (a2 b0 s)) (h :
    KeysKept s₀ s) : KeysKept s₀ (State.onCore s a1 a2) := by
  unfold State.onCore
  split
  · exact h
  · split
    · exact KeysKept.fr (State.quarantineNow_fr rfl (.id _ _)) h
    · exact hf2 _ _ h

theorem State.windowDrain_keys {a1} (h : KeysKept s₀ s) : KeysKept s₀ (State.windowDrain s a1) := by
  unfold State.windowDrain
  split
  · exact h
  · extract_lets +onlyGivenNames x0
    clear_value x0
    extract_lets +onlyGivenNames x1
    have h2 : KeysKept s₀ x1 := KeysKept.fr (State.setCore_fr rfl (.id _ _)) h
    clear_value x1
    extract_lets +onlyGivenNames x3
    clear_value x3
    extract_lets +onlyGivenNames x4
    have h5 : KeysKept s₀ x4 := State.ctxWrite_keys h2
    clear_value x4
    exact Holds.ite (KeysKept.fr (State.twinSend_fr rfl (.id _ _)) h5) h5

theorem State.drainFor_keys {a1 a2} (h : KeysKept s₀ s) : KeysKept s₀ (State.drainFor s a1 a2) := by
  induction a2 generalizing s with
  | zero => exact h
  | succ n ih =>
    unfold State.drainFor
    split
    · exact ih (State.windowDrain_keys h)
    · exact h

theorem State.windowRead_keys {a1 a2 a3} (h : KeysKept s₀ s) : KeysKept s₀ (State.windowRead s a1 a2 a3).2 := by
  unfold State.windowRead
  split
  · exact Holds.mk2 h
  · extract_lets +onlyGivenNames x0
    have h1 : KeysKept s₀ x0 := State.drainFor_keys h
    clear_value x0
    refine Holds.ite2 ?_ ?_
    · refine Holds.mk2 ?_
      split
      · exact KeysKept.fr (State.windowLost_fr rfl (.id _ _)) h1
      · exact KeysKept.fr (State.ptmo_fr rfl (.id _ _)) h1
    · exact KeysKept.fr (State.ctxRead_fr rfl (.id _ _)) h1

theorem State.readPort_keys {a1 a2 a3} (h : KeysKept s₀ s) : KeysKept s₀ (State.readPort s a1 a2 a3).2 := by
  unfold State.readPort
  refine Holds.ite2 ?_ ?_
  · exact State.windowRead_keys h
  · split
    · exact Holds.mk2 h
    · exact Holds.mk2 (KeysKept.fr (State.setPort_fr rfl (.id _ _)) h)
    · split
      rename_i y0 y1 y2 y3
      refine Holds.cutp2 y3 ?_ (fun h4 => ?_)
      · exact KeysKept.fr (State.takeFree_fr rfl (.id _ _)) h
      extract_lets +onlyGivenNames x5
      clear_value x5
      exact Holds.mk2 (KeysKept.fr (State.setPort_fr rfl (.id _ _)) h4)
    · exact Holds.mk2 h
    · exact Holds.mk2 h
    · exact Holds.mk2 h

theorem State.readAll_keys {a1 a2 a3} (h : KeysKept s₀ s) : KeysKept s₀ (State.readAll s a1 a2 a3).2 := by
  induction a3 generalizing s with
  | nil => exact h
  | cons x xs ih =>
    unfold State.readAll
    cases hx : x.imm with
    | some i => exact ih h
    | none =>
      cases hb : s.badRead a1 x.src with
      | true => simpa [hx, hb] using ih h
      | false => simpa [hx, hb] using ih (State.readPort_keys h)

theorem State.issue_keys {a1 a2 a3 a4 a5 a6 a7} (h : KeysKept s₀ s) : KeysKept s₀ (State.issue s a1 a2 a3 a4 a5 a6 a7) := by
  unfold State.issue
  extract_lets +onlyGivenNames x0
  clear_value x0
  extract_lets +onlyGivenNames x1
  clear_value x1
  extract_lets +onlyGivenNames x2
  extract_lets +onlyGivenNames x3
  have h4 : KeysKept s₀ x3 := KeysKept.fr (State.spend_fr rfl (.id _ _)) h
  clear_value x3
  refine Holds.ite ?_ ?_
  · exact KeysKept.fr (State.flag_fr rfl rfl (.id _ _)) (KeysKept.fr (State.wrap_fr rfl rfl (.id _ _)) h4)
  · extract_lets +onlyGivenNames x5
    have h6 : KeysKept s₀ x5 := KeysKept.fr (State.flag_fr rfl rfl (.id _ _)) h4
    clear_value x5
    extract_lets +onlyGivenNames x7
    clear_value x7
    split
    rename_i y8 y9 y10 y11
    refine Holds.cutp y11 ?_ (fun h12 => ?_)
    · exact State.readAll_keys h6
    refine Holds.ite ?_ ?_
    · exact KeysKept.fr (State.trap_fr rfl (.id _ _)) h12
    · extract_lets +onlyGivenNames x13
      clear_value x13
      extract_lets +onlyGivenNames x14
      clear_value x14
      extract_lets +onlyGivenNames x15
      clear_value x15
      extract_lets +onlyGivenNames x16
      have h17 : KeysKept s₀ x16 := Holds.forEach (fun _ _ h20 => KeysKept.fr (State.writePort_fr rfl (.id _ _)) h20) h12
      clear_value x16
      extract_lets +onlyGivenNames x21
      clear_value x21
      refine Holds.ite ?_ ?_
      · exact KeysKept.fr (State.trap_fr rfl (.id _ _)) h12
      · refine Holds.ite ?_ ?_
        · exact KeysKept.fr (State.trap_fr rfl (.id _ _)) h12
        · refine Holds.ite ?_ ?_
          · exact KeysKept.fr (State.trap_fr rfl (.id _ _)) h12
          · extract_lets +onlyGivenNames x22
            have h23 : KeysKept s₀ x22 := KeysKept.fr (State.wrap_fr rfl rfl (.id _ _)) h17
            clear_value x22
            extract_lets +onlyGivenNames x24
            have h25 : KeysKept s₀ x24 := Holds.forEach (fun _ _ h28 => KeysKept.fr (State.runTrigger_fr rfl (.id _ _)) h28)
                h23
            clear_value x24
            extract_lets +onlyGivenNames x29
            clear_value x29
            extract_lets +onlyGivenNames x30
            have h31 : KeysKept s₀ x30 := KeysKept.fr (State.runSuspend_fr rfl (.id _ _)) (KeysKept.fr (State.nextPc_fr rfl
                (.id _ _)) h25)
            clear_value x30
            exact Holds.ite (KeysKept.fr (State.schedule_fr rfl (.id _ _)) h31) h31

theorem State.commandMove_keys {a1 a2 a3} (h : KeysKept s₀ s) : KeysKept s₀ (State.commandMove s a1 a2 a3) := by
  unfold State.commandMove
  split
  · exact h
  · exact State.onCore_keys (fun _ _ h2 => State.issue_keys h2) h

theorem State.commandRead_keys {a1 a2 a3 a4} (h : KeysKept s₀ s) : KeysKept s₀ (State.commandRead s a1 a2 a3 a4) := by
  unfold State.commandRead
  split
  · exact h
  · exact State.onCore_keys (fun _ _ h2 => State.issue_keys h2) h

theorem execMove_keys {a0 a1 a2} {t} (h : KeysKept s₀ s) (e : execMove a0 a1 a2 s = .next t) : KeysKept s₀ t := by
  unfold execMove at e
  cases e
  refine KeysKept.fr (State.ship_fr rfl (.id _ _)) ?_
  refine State.onCore_keys ?_ ?_
  · intro h0 s1 h2
    extract_lets +onlyGivenNames x3
    clear_value x3
    extract_lets +onlyGivenNames x4
    have h5 : KeysKept s₀ x4 := Holds.ite (KeysKept.fr (State.eccEvent_fr rfl (.id _ _)) h2) h2
    clear_value x4
    refine Holds.ite ?_ ?_
    · exact KeysKept.fr (State.trap_fr rfl (.id _ _)) h5
    · refine Holds.ite ?_ ?_
      · exact KeysKept.fr (State.trap_fr rfl (.id _ _)) h5
      · extract_lets +onlyGivenNames x6
        clear_value x6
        extract_lets +onlyGivenNames x7
        have h8 : KeysKept s₀ x7 := Holds.ite (KeysKept.fr (State.eccEvent_fr rfl (.id _ _)) h5) h5
        clear_value x7
        extract_lets +onlyGivenNames x9
        clear_value x9
        extract_lets +onlyGivenNames x10
        clear_value x10
        exact State.issue_keys h8
  · exact h

theorem execAluOperation_keys {a0 a1 a2} {t} (h : KeysKept s₀ s) (e : execAluOperation a0 a1 a2 s = .next t) : KeysKept
    s₀ t := by
  unfold execAluOperation at e
  cases e
  exact KeysKept.fr (State.ship_fr rfl (.id _ _)) (Holds.ite (State.commandMove_keys h) h)

theorem execMulMultiply_keys {a0 a1 a2} {t} (h : KeysKept s₀ s) (e : execMulMultiply a0 a1 a2 s = .next t) : KeysKept s₀
    t := by
  unfold execMulMultiply at e
  cases e
  exact KeysKept.fr (State.ship_fr rfl (.id _ _)) (Holds.ite (State.commandMove_keys h) h)

theorem execMulDivide_keys {a0 a1 a2} {t} (h : KeysKept s₀ s) (e : execMulDivide a0 a1 a2 s = .next t) : KeysKept s₀ t := by
  unfold execMulDivide at e
  cases e
  exact KeysKept.fr (State.ship_fr rfl (.id _ _)) (Holds.ite (State.commandMove_keys h) h)

theorem execSatOperation_keys {a0 a1 a2} {t} (h : KeysKept s₀ s) (e : execSatOperation a0 a1 a2 s = .next t) : KeysKept
    s₀ t := by
  unfold execSatOperation at e
  cases e
  exact KeysKept.fr (State.ship_fr rfl (.id _ _)) (Holds.ite (State.commandMove_keys h) h)

theorem execLsuLoad_keys {a0 a1 a2} {t} (h : KeysKept s₀ s) (e : execLsuLoad a0 a1 a2 s = .next t) : KeysKept s₀ t := by
  unfold execLsuLoad at e
  cases e
  exact KeysKept.fr (State.ship_fr rfl (.id _ _)) (Holds.ite (State.commandMove_keys h) h)

theorem execLsuStore_keys {a0 a1 a2} {t} (h : KeysKept s₀ s) (e : execLsuStore a0 a1 a2 s = .next t) : KeysKept s₀ t := by
  unfold execLsuStore at e
  cases e
  exact KeysKept.fr (State.ship_fr rfl (.id _ _)) (Holds.ite (State.commandMove_keys h) h)

theorem execLsuAtomic_keys {a0 a1 a2} {t} (h : KeysKept s₀ s) (e : execLsuAtomic a0 a1 a2 s = .next t) : KeysKept s₀ t := by
  unfold execLsuAtomic at e
  cases e
  exact KeysKept.fr (State.ship_fr rfl (.id _ _)) (Holds.ite (State.commandMove_keys h) h)

theorem execLsuStatRead_keys {a0 a1} {t} (h : KeysKept s₀ s) (e : execLsuStatRead a0 a1 s = .next t) : KeysKept s₀ t := by
  unfold execLsuStatRead at e
  cases e
  exact KeysKept.fr (State.ship_fr rfl (.id _ _)) (State.commandRead_keys h)

theorem execStrCopy_keys {a0} {t} (h : KeysKept s₀ s) (e : execStrCopy a0 s = .next t) : KeysKept s₀ t := by
  unfold execStrCopy at e
  cases e
  exact KeysKept.fr (State.ship_fr rfl (.id _ _)) (State.commandMove_keys h)

theorem execStrFill_keys {a0 a1} {t} (h : KeysKept s₀ s) (e : execStrFill a0 a1 s = .next t) : KeysKept s₀ t := by
  unfold execStrFill at e
  cases e
  exact KeysKept.fr (State.ship_fr rfl (.id _ _)) (State.commandMove_keys h)

theorem execStrCmp_keys {a0} {t} (h : KeysKept s₀ s) (e : execStrCmp a0 s = .next t) : KeysKept s₀ t := by
  unfold execStrCmp at e
  cases e
  exact KeysKept.fr (State.ship_fr rfl (.id _ _)) (State.commandMove_keys h)

theorem execStrCrc_keys {a0} {t} (h : KeysKept s₀ s) (e : execStrCrc a0 s = .next t) : KeysKept s₀ t := by
  unfold execStrCrc at e
  cases e
  exact KeysKept.fr (State.ship_fr rfl (.id _ _)) (State.commandMove_keys h)

theorem execPcJump_keys {a0 a1 a2} {t} (h : KeysKept s₀ s) (e : execPcJump a0 a1 a2 s = .next t) : KeysKept s₀ t := by
  unfold execPcJump at e
  cases e
  exact KeysKept.fr (State.ship_fr rfl (.id _ _)) (Holds.ite (State.commandMove_keys h) h)

theorem execPcCall_keys {a0 a1 a2} {t} (h : KeysKept s₀ s) (e : execPcCall a0 a1 a2 s = .next t) : KeysKept s₀ t := by
  unfold execPcCall at e
  cases e
  exact KeysKept.fr (State.ship_fr rfl (.id _ _)) (Holds.ite (State.commandMove_keys h) h)

theorem execEvtWait_keys {a0 a1} {t} (h : KeysKept s₀ s) (e : execEvtWait a0 a1 s = .next t) : KeysKept s₀ t := by
  unfold execEvtWait at e
  cases e
  exact KeysKept.fr (State.ship_fr rfl (.id _ _)) (State.commandMove_keys h)

theorem execEvtSend_keys {a0 a1} {t} (h : KeysKept s₀ s) (e : execEvtSend a0 a1 s = .next t) : KeysKept s₀ t := by
  unfold execEvtSend at e
  cases e
  exact KeysKept.fr (State.ship_fr rfl (.id _ _)) (State.commandMove_keys h)

theorem execEvtClr_keys {a0 a1} {t} (h : KeysKept s₀ s) (e : execEvtClr a0 a1 s = .next t) : KeysKept s₀ t := by
  unfold execEvtClr at e
  cases e
  exact KeysKept.fr (State.ship_fr rfl (.id _ _)) (State.commandMove_keys h)

theorem execEvtYield_keys {a0} {t} (h : KeysKept s₀ s) (e : execEvtYield a0 s = .next t) : KeysKept s₀ t := by
  unfold execEvtYield at e
  cases e
  exact KeysKept.fr (State.ship_fr rfl (.id _ _)) (State.commandMove_keys h)

theorem execTmrNow_keys {a0 a1} {t} (h : KeysKept s₀ s) (e : execTmrNow a0 a1 s = .next t) : KeysKept s₀ t := by
  unfold execTmrNow at e
  cases e
  exact KeysKept.fr (State.ship_fr rfl (.id _ _)) (State.commandRead_keys h)

theorem execTmrUntil_keys {a0 a1} {t} (h : KeysKept s₀ s) (e : execTmrUntil a0 a1 s = .next t) : KeysKept s₀ t := by
  unfold execTmrUntil at e
  cases e
  exact KeysKept.fr (State.ship_fr rfl (.id _ _)) (State.commandMove_keys h)

theorem execTmrAfter_keys {a0 a1} {t} (h : KeysKept s₀ s) (e : execTmrAfter a0 a1 s = .next t) : KeysKept s₀ t := by
  unfold execTmrAfter at e
  cases e
  exact KeysKept.fr (State.ship_fr rfl (.id _ _)) (State.commandMove_keys h)

theorem execTmrAlarm_keys {a0 a1} {t} (h : KeysKept s₀ s) (e : execTmrAlarm a0 a1 s = .next t) : KeysKept s₀ t := by
  unfold execTmrAlarm at e
  cases e
  exact KeysKept.fr (State.ship_fr rfl (.id _ _)) (State.commandMove_keys h)

theorem execTmrAloff_keys {a0} {t} (h : KeysKept s₀ s) (e : execTmrAloff a0 s = .next t) : KeysKept s₀ t := by
  unfold execTmrAloff at e
  cases e
  exact KeysKept.fr (State.ship_fr rfl (.id _ _)) (State.commandMove_keys h)

theorem execRepT_keys {a0 a1} {t} (h : KeysKept s₀ s) (e : execRepT a0 a1 s = .next t) : KeysKept s₀ t := by
  unfold execRepT at e
  cases e
  exact KeysKept.fr (State.ship_fr rfl (.id _ _)) (State.commandMove_keys h)

theorem execWindowRead_keys {a0 a1 a2} {t} (h : KeysKept s₀ s) (e : execWindowRead a0 a1 a2 s = .next t) : KeysKept s₀ t
    := by
  unfold execWindowRead at e
  cases e
  exact KeysKept.fr (State.ship_fr rfl (.id _ _)) (Holds.ite (State.commandRead_keys h) h)

theorem execWindowWrite_keys {a0 a1 a2} {t} (h : KeysKept s₀ s) (e : execWindowWrite a0 a1 a2 s = .next t) : KeysKept s₀
    t := by
  unfold execWindowWrite at e
  cases e
  exact KeysKept.fr (State.ship_fr rfl (.id _ _)) (Holds.ite (State.commandMove_keys h) h)

theorem execWindowTimeout_keys {a0 a1} {t} (h : KeysKept s₀ s) (e : execWindowTimeout a0 a1 s = .next t) : KeysKept s₀ t
    := by
  unfold execWindowTimeout at e
  cases e
  refine KeysKept.fr (State.ship_fr rfl (.id _ _)) ?_
  split
  · split
    · exact Holds.ite (State.commandRead_keys h) h
    · exact h
  · split
    · exact h
    · extract_lets +onlyGivenNames x0
      clear_value x0
      extract_lets +onlyGivenNames x1
      have h2 : KeysKept s₀ x1 := KeysKept.fr (State.setCore_fr rfl (.id _ _)) h
      clear_value x1
      split
      · exact KeysKept.fr (State.windowLost_fr rfl (.id _ _)) h2
      · exact KeysKept.fr (State.ptmo_fr rfl (.id _ _)) h2

theorem execCoreFailure_keys {a0 a1} {t} (h : KeysKept s₀ s) (e : execCoreFailure a0 a1 s = .next t) : KeysKept s₀ t := by
  unfold execCoreFailure at e
  cases e
  refine KeysKept.fr (State.ship_fr rfl (.id _ _)) ?_
  refine Holds.ite ?_ ?_
  · exact h
  · extract_lets +onlyGivenNames x0
    have h1 : KeysKept s₀ x0 := KeysKept.fr (State.coreFailed_fr rfl (.id _ _)) h
    clear_value x0
    exact Holds.ite (State.logicReset_keys h1) h1

theorem execWindowQueueDrain_keys {a0} {t} (h : KeysKept s₀ s) (e : execWindowQueueDrain a0 s = .next t) : KeysKept s₀ t
    := by
  unfold execWindowQueueDrain at e
  cases e
  refine KeysKept.fr (State.ship_fr rfl (.id _ _)) ?_
  split
  · exact Holds.ite h (State.windowDrain_keys h)
  · exact h

theorem State.mirrorWrite_keys {a1 a2} (h : KeysKept s₀ s) : KeysKept s₀ (State.mirrorWrite s a1 a2) := by
  unfold State.mirrorWrite
  split
  · exact h
  · extract_lets +onlyGivenNames x0
    have h1 : KeysKept s₀ x0 := State.writeReg_keys h
    clear_value x0
    exact KeysKept.fr (Fr.set_doc rfl (.id _ _)) h1

theorem State.applyOut_keys {a1} (h : KeysKept s₀ s) : KeysKept s₀ (State.applyOut s a1) := by
  unfold State.applyOut
  extract_lets +onlyGivenNames x0
  clear_value x0
  extract_lets +onlyGivenNames x1
  clear_value x1
  split
  · exact Holds.ite (KeysKept.fr (State.writeLines_fr rfl (.id _ _)) h) h
  · exact Holds.ite (KeysKept.fr (State.pdWrite_fr rfl (.id _ _)) h) h
  · exact State.mirrorWrite_keys h
  · exact KeysKept.fr (Fr.set_twn rfl (.id _ _)) h
  · extract_lets +onlyGivenNames x2
    clear_value x2
    exact Holds.ite (KeysKept.fr (State.twinMode_fr rfl (.id _ _)) h) h
  · exact KeysKept.fr (State.setReg_fr (notKey_reg _) (.id _ _)) h
  · exact KeysKept.fr (State.setReg_fr (notKey_reg _) (.id _ _)) h

theorem State.applyBlock_keys {a1} (h : KeysKept s₀ s) : KeysKept s₀ (State.applyBlock s a1) := by
  unfold State.applyBlock
  extract_lets +onlyGivenNames x0
  clear_value x0
  extract_lets +onlyGivenNames x1
  clear_value x1
  split
  · exact Holds.ite (KeysKept.fr (State.storeRcd_fr rfl (.id _ _)) (KeysKept.fr (State.setRcd_fr rfl (.id _ _)) h)) h
  · exact KeysKept.fr (State.applyRegion_fr rfl (.id _ _)) h
  · exact Holds.forEach (fun _ _ h4 => State.applyOut_keys h4) h
  · exact Holds.forEach (fun _ _ h7 => KeysKept.fr (State.applyProt_fr rfl (.id _ _)) h7) h
  · exact Holds.forEach (fun _ _ h10 => KeysKept.fr (State.applyCan_fr rfl (.id _ _)) h10) (KeysKept.fr (State.freshCan_fr
        rfl (.id _ _)) h)
  · exact KeysKept.fr (State.followPartner_fr rfl (.id _ _)) (KeysKept.fr (State.put_fr rfl rfl (.id _ _)) (KeysKept.fr
        (State.flag_fr rfl rfl (.id _ _)) h))

theorem State.tamperStart_keys (h : KeysKept s₀ s) : KeysKept s₀ (State.tamperStart s) := by
  unfold State.tamperStart
  exact KeysKept.fr (State.startBegin_fr rfl (.id _ _)) (State.clearLogic_keys h)

theorem execWakePowerUpDone_keys {t} (h : KeysKept s₀ s) (e : execWakePowerUpDone s = .next t) : KeysKept s₀ t := by
  unfold execWakePowerUpDone at e
  cases e
  refine KeysKept.fr (State.ship_fr rfl (.id _ _)) ?_
  split
  · refine Holds.ite ?_ ?_
    · exact State.tamperStart_keys h
    · extract_lets +onlyGivenNames x0
      have h1 : KeysKept s₀ x0 := KeysKept.fr (State.logicStart_fr rfl (.id _ _)) (KeysKept.fr (State.coresPower_fr rfl (.id
          _ _)) h)
      clear_value x0
      exact KeysKept.fr (Fr.set_sys rfl (.id _ _)) h1
  · exact h

theorem execRetentionCheckDone_keys {a0} {t} (h : KeysKept s₀ s) (e : execRetentionCheckDone a0 s = .next t) : KeysKept
    s₀ t := by
  unfold execRetentionCheckDone at e
  cases e
  refine KeysKept.fr (State.ship_fr rfl (.id _ _)) ?_
  refine Holds.ite ?_ ?_
  · exact h
  · refine Holds.ite ?_ ?_
    · exact State.tamperStart_keys h
    · refine Holds.ite ?_ ?_
      · exact State.retentionFail_keys h
      · refine Holds.ite ?_ ?_
        · exact h
        · extract_lets +onlyGivenNames x0
          have h1 : KeysKept s₀ x0 := Holds.ite h (KeysKept.fr (State.initBanks_fr rfl (.id _ _)) h)
          clear_value x0
          extract_lets +onlyGivenNames x2
          have h3 : KeysKept s₀ x2 := KeysKept.fr (State.put_fr rfl rfl (.id _ _)) h1
          clear_value x2
          exact KeysKept.fr (Fr.set_sys rfl (.id _ _)) h3

theorem execWakeBoundary_keys {t} (h : KeysKept s₀ s) (e : execWakeBoundary s = .next t) : KeysKept s₀ t := by
  unfold execWakeBoundary at e
  cases e
  refine KeysKept.fr (State.ship_fr rfl (.id _ _)) ?_
  split
  · refine Holds.ite ?_ ?_
    · exact State.tamperStart_keys h
    · extract_lets +onlyGivenNames x0
      clear_value x0
      extract_lets +onlyGivenNames x1
      have h2 : KeysKept s₀ x1 := KeysKept.fr (State.boundary_fr rfl (.id _ _)) (KeysKept.fr (State.startTime_fr rfl (.id _
          _)) h)
      clear_value x1
      extract_lets +onlyGivenNames x3
      have h4 : KeysKept s₀ x3 := KeysKept.fr (State.done_fr rfl (.id _ _)) h2
      clear_value x3
      extract_lets +onlyGivenNames x5
      clear_value x5
      extract_lets +onlyGivenNames x6
      have h7 : KeysKept s₀ x6 := KeysKept.fr (Fr.set_sys rfl (.id _ _)) h4
      clear_value x6
      exact Holds.ite (KeysKept.fr (State.takeoverBy_fr rfl (.id _ _)) h7) h7
  · exact h

theorem State.replica_keys {a1 : State → State} (hf1 : ∀ s, KeysKept s₀ s → KeysKept s₀ (a1 s)) (h : KeysKept s₀ s) :
    KeysKept s₀ (State.replica s a1) := by
  unfold State.replica
  exact Holds.ite (hf1 _ h) h

theorem State.twinDiscard_keys (h : KeysKept s₀ s) : KeysKept s₀ (State.twinDiscard s) := by
  unfold State.twinDiscard
  extract_lets +onlyGivenNames x0
  clear_value x0
  extract_lets +onlyGivenNames x1
  clear_value x1
  extract_lets +onlyGivenNames x2
  have h3 : KeysKept s₀ x2 := KeysKept.fr (State.count_fr rfl rfl (.id _ _)) (KeysKept.fr (Fr.set_twn rfl (.id _ _)) h)
  clear_value x2
  extract_lets +onlyGivenNames x4
  have h5 : KeysKept s₀ x4 := KeysKept.fr (State.raise_fr rfl (.id _ _)) h3
  clear_value x4
  exact Holds.ite h5 (State.tamper_keys (KeysKept.fr (State.linkDown_fr rfl (.id _ _)) h5))

theorem State.twinReceive_keys {a1 a2 a3} {a4 : State → State} (hf4 : ∀ s, KeysKept s₀ s → KeysKept s₀ (a4 s)) (h :
    KeysKept s₀ s) : KeysKept s₀ (State.twinReceive s a1 a2 a3 a4) := by
  unfold State.twinReceive
  split
  · exact h
  · refine Holds.ite ?_ ?_
    · exact h
    · refine Holds.ite ?_ ?_
      · exact State.twinDiscard_keys h
      · extract_lets +onlyGivenNames x0
        clear_value x0
        extract_lets +onlyGivenNames x1
        have h2 : KeysKept s₀ x1 := KeysKept.fr (Fr.set_twn rfl (.id _ _)) h
        clear_value x1
        exact hf4 _ (Holds.ite h2 (KeysKept.fr (State.twinSeq_fr rfl (.id _ _)) h2))

theorem execTwinSuspensionUnit_keys {a0} {t} (h : KeysKept s₀ s) (e : execTwinSuspensionUnit a0 s = .next t) : KeysKept
    s₀ t := by
  unfold execTwinSuspensionUnit at e
  cases e
  exact KeysKept.fr (State.ship_fr rfl (.id _ _)) (State.twinReceive_keys (fun _ h1 => State.replica_keys (fun _ h3 =>
      KeysKept.fr (State.takeUnit_fr rfl (.id _ _)) h3) h1) h)

theorem execTwinOutputCommand_keys {a0} {t} (h : KeysKept s₀ s) (e : execTwinOutputCommand a0 s = .next t) : KeysKept s₀
    t := by
  unfold execTwinOutputCommand at e
  cases e
  exact KeysKept.fr (State.ship_fr rfl (.id _ _)) (State.twinReceive_keys (fun _ h1 => State.replica_keys (fun _ h3 =>
      Holds.forEach (fun _ _ h6 => State.applyOut_keys h6) h3) h1) h)

theorem execTwinProtectionState_keys {a0} {t} (h : KeysKept s₀ s) (e : execTwinProtectionState a0 s = .next t) :
    KeysKept s₀ t := by
  unfold execTwinProtectionState at e
  cases e
  exact KeysKept.fr (State.ship_fr rfl (.id _ _)) (State.twinReceive_keys (fun _ h1 => State.replica_keys (fun _ h3 =>
      Holds.forEach (fun _ _ h6 => KeysKept.fr (State.applyProt_fr rfl (.id _ _)) h6) h3) h1) h)

theorem execTwinCan_keys {a0} {t} (h : KeysKept s₀ s) (e : execTwinCan a0 s = .next t) : KeysKept s₀ t := by
  unfold execTwinCan at e
  cases e
  exact KeysKept.fr (State.ship_fr rfl (.id _ _)) (State.twinReceive_keys (fun _ h1 => State.replica_keys (fun _ h3 =>
      Holds.forEach (fun _ _ h6 => KeysKept.fr (State.applyCan_fr rfl (.id _ _)) h6) h3) h1) h)

theorem execTwinConditionReport_keys {a0} {t} (h : KeysKept s₀ s) (e : execTwinConditionReport a0 s = .next t) :
    KeysKept s₀ t := by
  unfold execTwinConditionReport at e
  cases e
  exact KeysKept.fr (State.ship_fr rfl (.id _ _)) (State.twinReceive_keys (fun _ h1 => Holds.forEach (fun _ _ h4 =>
      KeysKept.fr (State.applyReport_fr rfl (.id _ _)) h4) h1) h)

theorem execTwinHeartbeat_keys {a0} {t} (h : KeysKept s₀ s) (e : execTwinHeartbeat a0 s = .next t) : KeysKept s₀ t := by
  unfold execTwinHeartbeat at e
  cases e
  exact KeysKept.fr (State.ship_fr rfl (.id _ _)) (State.twinReceive_keys (fun _ h1 => KeysKept.fr (State.takeHeartbeat_fr
      rfl (.id _ _)) h1) h)

theorem execTwinResyncBlock_keys {a0} {t} (h : KeysKept s₀ s) (e : execTwinResyncBlock a0 s = .next t) : KeysKept s₀ t := by
  unfold execTwinResyncBlock at e
  cases e
  exact KeysKept.fr (State.ship_fr rfl (.id _ _)) (State.twinReceive_keys (fun _ h1 => State.replica_keys (fun _ =>
      State.applyBlock_keys) h1) h)

theorem execTwinClosing_keys {a0} {t} (h : KeysKept s₀ s) (e : execTwinClosing a0 s = .next t) : KeysKept s₀ t := by
  unfold execTwinClosing at e
  cases e
  refine KeysKept.fr (State.ship_fr rfl (.id _ _)) ?_
  refine State.twinReceive_keys ?_ ?_
  · intro s0 h1
    refine State.replica_keys ?_ ?_
    · intro s2 h3
      extract_lets +onlyGivenNames x4
      have h5 : KeysKept s₀ x4 := Holds.forEach (fun _ _ h8 => KeysKept.fr (State.applyProt_fr rfl (.id _ _)) h8) h3
      clear_value x4
      exact KeysKept.fr (Fr.set_twn rfl (.id _ _)) h5
    · exact h1
  · exact h

theorem execTwinRoleClaim_keys {a0} {t} (h : KeysKept s₀ s) (e : execTwinRoleClaim a0 s = .next t) : KeysKept s₀ t := by
  unfold execTwinRoleClaim at e
  cases e
  exact KeysKept.fr (State.ship_fr rfl (.id _ _)) (State.twinReceive_keys (fun _ h1 => KeysKept.fr (State.takeClaim_fr rfl
      (.id _ _)) h1) h)

theorem execTwinTraining_keys {a0} {t} (h : KeysKept s₀ s) (e : execTwinTraining a0 s = .next t) : KeysKept s₀ t := by
  unfold execTwinTraining at e
  cases e
  exact KeysKept.fr (State.ship_fr rfl (.id _ _)) (State.twinReceive_keys (fun _ h1 => KeysKept.fr (State.takeTraining_fr
      rfl (.id _ _)) h1) h)

/-- R566: the commit record of a write in progress; with none in progress nothing changes. -/
theorem execKeyCommitDone_keys {s t : State} (hwork : s.key.work = none) (e : exec .keyCommitDone s = .next t) :
    KeysKept s t := by
  change execKeyCommitDone s = .next t at e
  rw [execKeyCommitDone, hwork] at e
  cases e
  exact (KeysKept.refl s).fr (State.ship_fr rfl (.id _ _))

/-- A command other than KEY_COMMIT_DONE keeps the stored keys. -/
theorem exec_keys {c : Instr} {s t : State} (hc : c ≠ .keyCommitDone) (e : exec c s = .next t) : KeysKept s t := by
  have h : KeysKept s s := .refl s
  cases hk : c.keyed with
  | false => exact .upd ⟨congrArg KeySt.slots (exec_key_of_unkeyed hk e), congrArg KeySt.img (exec_key_of_unkeyed hk e)⟩ h
  | true =>
    cases c with
    | powerOnReset => exact execPowerOnReset_keys h e
    | supplyBrownout => exact execSupplyBrownout_keys h e
    | referenceLoss => exact execReferenceLoss_keys h e
    | logicReset => exact execLogicReset_keys h e
    | pufAttemptDone => exact execPufAttemptDone_keys h e
    | keyDerivationDone => exact execKeyDerivationDone_keys h e
    | imageReadDone => exact execImageReadDone_keys h e
    | imageVerifyDone => exact execImageVerifyDone_keys h e
    | sysRstcmd => exact execSysRstcmd_keys h e
    | docWdkick => exact execDocWdkick_keys h e
    | watchdogExpiry => exact execWatchdogExpiry_keys h e
    | wakePowerUpDone => exact execWakePowerUpDone_keys h e
    | retentionCheckDone => exact execRetentionCheckDone_keys h e
    | wakeBoundary => exact execWakeBoundary_keys h e
    | move => exact execMove_keys h e
    | aluOperation => exact execAluOperation_keys h e
    | mulMultiply => exact execMulMultiply_keys h e
    | mulDivide => exact execMulDivide_keys h e
    | satOperation => exact execSatOperation_keys h e
    | lsuLoad => exact execLsuLoad_keys h e
    | lsuStore => exact execLsuStore_keys h e
    | lsuAtomic => exact execLsuAtomic_keys h e
    | lsuStatRead => exact execLsuStatRead_keys h e
    | strCopy => exact execStrCopy_keys h e
    | strFill => exact execStrFill_keys h e
    | strCmp => exact execStrCmp_keys h e
    | strCrc => exact execStrCrc_keys h e
    | pcJump => exact execPcJump_keys h e
    | pcCall => exact execPcCall_keys h e
    | evtWait => exact execEvtWait_keys h e
    | evtSend => exact execEvtSend_keys h e
    | evtClr => exact execEvtClr_keys h e
    | evtYield => exact execEvtYield_keys h e
    | tmrNow => exact execTmrNow_keys h e
    | tmrUntil => exact execTmrUntil_keys h e
    | tmrAfter => exact execTmrAfter_keys h e
    | tmrAlarm => exact execTmrAlarm_keys h e
    | tmrAloff => exact execTmrAloff_keys h e
    | repT => exact execRepT_keys h e
    | windowRead => exact execWindowRead_keys h e
    | windowWrite => exact execWindowWrite_keys h e
    | windowTimeout => exact execWindowTimeout_keys h e
    | coreFailure => exact execCoreFailure_keys h e
    | bothHalvesLost => exact execBothHalvesLost_keys h e
    | selfTestCycle => exact execSelfTestCycle_keys h e
    | testComplete => exact execTestComplete_keys h e
    | twinSuspensionUnit => exact execTwinSuspensionUnit_keys h e
    | twinOutputCommand => exact execTwinOutputCommand_keys h e
    | twinProtectionState => exact execTwinProtectionState_keys h e
    | twinCan => exact execTwinCan_keys h e
    | twinConditionReport => exact execTwinConditionReport_keys h e
    | twinHeartbeat => exact execTwinHeartbeat_keys h e
    | twinResyncBlock => exact execTwinResyncBlock_keys h e
    | twinClosing => exact execTwinClosing_keys h e
    | twinRoleClaim => exact execTwinRoleClaim_keys h e
    | twinTraining => exact execTwinTraining_keys h e
    | keyCmdApply x0 => exact execKeyCmdApply_keys (a0 := x0) h e
    | keyCmdPlainwr x0 x1 x2 => exact execKeyCmdPlainwr_keys (a0 := x0) (a1 := x1) (a2 := x2) h e
    | keyCmdImgkey x0 x1 => exact execKeyCmdImgkey_keys (a0 := x0) (a1 := x1) h e
    | keyCmdSvcchal x0 => exact execKeyCmdSvcchal_keys (a0 := x0) h e
    | keyCmdSvcauth x0 => exact execKeyCmdSvcauth_keys (a0 := x0) h e
    | keyCmdClrcache x0 => exact execKeyCmdClrcache_keys (a0 := x0) h e
    | svcLockoutExpiry => exact execSvcLockoutExpiry_keys h e
    | keyOpgo => exact execKeyOpgo_keys h e
    | keyOperationDone => exact execKeyOperationDone_keys h e
    | tamperEvent => exact execTamperEvent_keys h e
    | debugRequest => exact execDebugRequest_keys h e
    | hostNop => exact execHostNop_keys h e
    | hostRead => exact execHostRead_keys h e
    | hostWrite => exact execHostWrite_keys h e
    | hostReads => exact execHostReads_keys h e
    | hostWrites => exact execHostWrites_keys h e
    | registerWrite => exact execRegisterWrite_keys h e
    | mgmtRequest => exact execMgmtRequest_keys h e
    | windowQueueDrain => exact execWindowQueueDrain_keys h e
    | keyCommitDone => exact absurd rfl hc
    | _ => exact absurd hk Bool.false_ne_true

/-- Settles O6: no command but KEY_COMMIT_DONE writes a slot or an image key, and that one only with a write in progress. -/
theorem keyStoreCommits : Obligations.KeyStoreCommits := by
  unfold Obligations.KeyStoreCommits
  intro c s
  obtain ⟨t, e⟩ := exec_next c s
  refine ⟨t, e, ?_⟩
  by_cases hc : c = .keyCommitDone
  · subst hc
    cases hwork : s.key.work with
    | some w => exact .inr ⟨rfl, w, rfl⟩
    | none =>
      obtain ⟨hslots, himg⟩ := execKeyCommitDone_keys hwork e
      exact .inl ⟨hslots, himg⟩
  · obtain ⟨hslots, himg⟩ := exec_keys hc e
    exact .inl ⟨hslots, himg⟩

end Sys2Proof.Machine
end

section
/-! The move code (R333, R334, R342; statement O4). Every field of a word is a quotient and a remainder of its number, so that
decoding what was encoded, and encoding what was decoded, is arithmetic on numbers below 2 ^ 32. -/

namespace Sys2Proof.Machine

theorem ext_eq (w : Word) (lo n : Nat) : ext w lo n = w.toNat / 2 ^ lo % 2 ^ n := by
  rw [ext, BitVec.toNat_ushiftRight, Nat.shiftRight_eq_div_pow]

/-! ## Immediates -/

theorem sextW_toNat_mod_19 {x : Nat} (hx : x < 2 ^ 19) : (sextW x 19).toNat % 2 ^ 19 = x := by
  simp only [sextW, signedOf, BitVec.toNat_ofInt]
  split <;> omega

theorem sextW_toNat_mod_7 {x : Nat} (hx : x < 2 ^ 7) : (sextW x 7).toNat % 2 ^ 7 = x := by
  simp only [sextW, signedOf, BitVec.toNat_ofInt]
  split <;> omega

theorem fitsSigned_sextW_19 {x : Nat} (hx : x < 2 ^ 19) : fitsSigned (sextW x 19) 19 = true := by
  rw [fitsSigned, sextW_toNat_mod_19 hx, beq_iff_eq]

theorem fitsSigned_sextW_7 {x : Nat} (hx : x < 2 ^ 7) : fitsSigned (sextW x 7) 7 = true := by
  rw [fitsSigned, sextW_toNat_mod_7 hx, beq_iff_eq]

theorem fitsSigned_iff {v : Word} {n : Nat} : fitsSigned v n = true ↔ sextW (v.toNat % 2 ^ n) n = v := beq_iff_eq

/-! ## Short ports (R342) -/

theorem shortCode_shortPort {n : Nat} (hn : n < 32) : shortCode (shortPort n) = some n := by
  have h : ∀ n : Fin 32, shortCode (shortPort n) = some n.val := by decide
  exact h ⟨n, hn⟩

theorem shortCode_eq_some {p n : Nat} (h : shortCode p = some n) : n < 32 ∧ shortPort n = p :=
  ⟨List.mem_range.mp (List.mem_of_find?_eq_some h), beq_iff_eq.mp (List.find?_some (p := fun n => shortPort n == p) h)⟩

/-! ## Long moves (R333) -/

/-- The fields of a long move's word: guard, destination, the bit of an immediate, and the 19 bits below it. -/
theorem decodeMoves_of_fields {g dst b x : Nat} (hg : g < 4) (hdst : dst < 512) (hb : b < 2) (hx : x < 2 ^ 19) :
    decodeMoves (BitVec.ofNat 32 (g * 2 ^ 29 + dst * 2 ^ 20 + b * 2 ^ 19 + x)) =
      if b = 1 then ([⟨g, dst, some (sextW x 19), 0⟩], true)
      else ([⟨g, dst, none, x % 512⟩], x / 512 == 0) := by
  have hw : (BitVec.ofNat 32 (g * 2 ^ 29 + dst * 2 ^ 20 + b * 2 ^ 19 + x)).toNat =
      g * 2 ^ 29 + dst * 2 ^ 20 + b * 2 ^ 19 + x := by
    rw [BitVec.toNat_ofNat, Nat.mod_eq_of_lt (by omega)]
  have e31 : (g * 2 ^ 29 + dst * 2 ^ 20 + b * 2 ^ 19 + x) / 2 ^ 31 % 2 ^ 1 = 0 := by omega
  have e29 : (g * 2 ^ 29 + dst * 2 ^ 20 + b * 2 ^ 19 + x) / 2 ^ 29 % 2 ^ 2 = g := by omega
  have e20 : (g * 2 ^ 29 + dst * 2 ^ 20 + b * 2 ^ 19 + x) / 2 ^ 20 % 2 ^ 9 = dst := by omega
  have e19 : (g * 2 ^ 29 + dst * 2 ^ 20 + b * 2 ^ 19 + x) / 2 ^ 19 % 2 ^ 1 = b := by omega
  have e0 : (g * 2 ^ 29 + dst * 2 ^ 20 + b * 2 ^ 19 + x) / 2 ^ 0 % 2 ^ 19 = x := by omega
  have e9 : (g * 2 ^ 29 + dst * 2 ^ 20 + b * 2 ^ 19 + x) / 2 ^ 9 % 2 ^ 10 = x / 512 := by omega
  have e00 : (g * 2 ^ 29 + dst * 2 ^ 20 + b * 2 ^ 19 + x) / 2 ^ 0 % 2 ^ 9 = x % 512 := by omega
  simp only [decodeMoves, longMove, ext_eq, hw, e31, e29, e20, e19, e0, e9, e00, if_true]
  split <;> rfl

theorem decodeMoves_encodeLong {m : Move} (h : m.longOk = true) : decodeMoves (encodeLong m) = ([m], true) := by
  obtain ⟨g, dst, imm, src⟩ := m
  cases imm with
  | some v =>
    simp only [Move.longOk, Bool.and_eq_true, decide_eq_true_eq, fitsSigned_iff, beq_iff_eq] at h
    obtain ⟨⟨hg, hdst⟩, hv, rfl⟩ := h
    have hw := decodeMoves_of_fields hg hdst (b := 1) (x := v.toNat % 2 ^ 19) (by omega) (Nat.mod_lt _ (by decide))
    rw [if_pos rfl, hv, Nat.one_mul, Nat.add_assoc (_ + _)] at hw
    simp only [encodeLong]
    exact hw
  | none =>
    simp only [Move.longOk, Bool.and_eq_true, decide_eq_true_eq] at h
    obtain ⟨⟨hg, hdst⟩, hsrc⟩ := h
    have hw := decodeMoves_of_fields hg hdst (b := 0) (x := src) (by omega) (by omega)
    rw [if_neg (by decide), Nat.mod_eq_of_lt hsrc, Nat.div_eq_of_lt hsrc, Nat.zero_mul, Nat.add_zero] at hw
    simp only [encodeLong]
    exact hw

/-- A word is made of its fields. -/
theorem long_fields (w : Word) (h31 : w.toNat / 2 ^ 31 % 2 = 0) :
    w = BitVec.ofNat 32 (w.toNat / 2 ^ 29 % 4 * 2 ^ 29 + w.toNat / 2 ^ 20 % 512 * 2 ^ 20 + w.toNat / 2 ^ 19 % 2 * 2 ^ 19 +
      w.toNat % 2 ^ 19) := by
  apply BitVec.eq_of_toNat_eq
  have := w.isLt
  rw [BitVec.toNat_ofNat]
  omega

theorem exists_encodeLong {w : Word} (h31 : w.toNat / 2 ^ 31 % 2 = 0) (h : (decodeMoves w).2 = true) :
    ∃ m : Move, m.longOk = true ∧ decodeMoves w = ([m], true) ∧ encodeLong m = w := by
  have hw := long_fields w h31
  have hd := decodeMoves_of_fields (g := w.toNat / 2 ^ 29 % 4) (dst := w.toNat / 2 ^ 20 % 512) (b := w.toNat / 2 ^ 19 % 2)
    (x := w.toNat % 2 ^ 19) (Nat.mod_lt _ (by decide)) (Nat.mod_lt _ (by decide)) (Nat.mod_lt _ (by decide))
    (Nat.mod_lt _ (by decide))
  rw [← hw] at hd
  by_cases hb : w.toNat / 2 ^ 19 % 2 = 1
  · rw [if_pos hb] at hd
    refine ⟨_, ?_, hd, ?_⟩
    · have hfit := fitsSigned_sextW_19 (Nat.mod_lt w.toNat (by decide : 2 ^ 19 > 0))
      simp only [Move.longOk, hfit, Nat.mod_lt _ (by decide : 4 > 0), Nat.mod_lt _ (by decide : 512 > 0), decide_true,
        beq_self_eq_true, Bool.and_self]
    · conv => rhs; rw [hw, hb]
      have hmod := sextW_toNat_mod_19 (Nat.mod_lt w.toNat (by decide : 2 ^ 19 > 0))
      simp only [encodeLong, hmod]
      exact congrArg (BitVec.ofNat 32) (by omega)
  · rw [if_neg hb] at hd
    have hzero : w.toNat % 2 ^ 19 / 512 = 0 := by
      rw [hd] at h
      exact beq_iff_eq.mp h
    rw [hzero] at hd
    refine ⟨_, ?_, hd, ?_⟩
    · simp [Move.longOk, Nat.mod_lt]
    · conv => rhs; rw [hw]
      simp only [encodeLong]
      exact congrArg (BitVec.ofNat 32) (by omega)

/-! ## Pairs of short moves (R334) -/

/-- The fields of a slot: guard, code of the destination, the bit of an immediate, and the 7 bits below it. -/
theorem shortMove_of_fields {g d b x : Nat} (hg : g < 4) (hd : d < 32) (hb : b < 2) (hx : x < 128) :
    shortMove (g * 8192 + d * 256 + b * 128 + x) =
      if b = 1 then (⟨g, shortPort d, some (sextW x 7), 0⟩, true)
      else (⟨g, shortPort d, none, shortPort (x % 32)⟩, x / 32 == 0) := by
  have eg : (g * 8192 + d * 256 + b * 128 + x) / 8192 % 4 = g := by omega
  have ed : (g * 8192 + d * 256 + b * 128 + x) / 256 % 32 = d := by omega
  have eb : (g * 8192 + d * 256 + b * 128 + x) / 128 % 2 = b := by omega
  have ex : (g * 8192 + d * 256 + b * 128 + x) % 128 = x := by omega
  have e32 : (g * 8192 + d * 256 + b * 128 + x) % 32 = x % 32 := by omega
  have er : (g * 8192 + d * 256 + b * 128 + x) / 32 % 4 = x / 32 := by omega
  simp only [shortMove, eg, ed, eb, ex, e32, er]

theorem shortMove_encodeSlot {m : Move} (h : m.shortOk = true) : shortMove (encodeSlot m) = (m, true) ∧ encodeSlot m < 2 ^ 15 := by
  obtain ⟨g, dst, imm, src⟩ := m
  cases imm with
  | some v =>
    simp only [Move.shortOk, Bool.and_eq_true, decide_eq_true_eq, fitsSigned_iff, beq_iff_eq] at h
    obtain ⟨⟨hg, hdst⟩, hv, rfl⟩ := h
    obtain ⟨d, hd⟩ := Option.isSome_iff_exists.mp hdst
    obtain ⟨hlt, hport⟩ := shortCode_eq_some hd
    have hw := shortMove_of_fields hg hlt (b := 1) (x := v.toNat % 128) (by omega) (Nat.mod_lt _ (by decide))
    rw [if_pos rfl, hport, show v.toNat % 128 = v.toNat % 2 ^ 7 from rfl, hv] at hw
    refine ⟨?_, ?_⟩
    · rw [← hw, encodeSlot, hd]
      exact congrArg shortMove (by simp only [Option.getD_some]; omega)
    · simp only [encodeSlot, hd, Option.getD_some]
      omega
  | none =>
    simp only [Move.shortOk, Bool.and_eq_true, decide_eq_true_eq] at h
    obtain ⟨⟨hg, hdst⟩, hsrc⟩ := h
    obtain ⟨d, hd⟩ := Option.isSome_iff_exists.mp hdst
    obtain ⟨x, hx⟩ := Option.isSome_iff_exists.mp hsrc
    obtain ⟨hlt, hport⟩ := shortCode_eq_some hd
    obtain ⟨hltx, hportx⟩ := shortCode_eq_some hx
    have hw := shortMove_of_fields hg hlt (b := 0) (x := x) (by omega) (by omega)
    rw [if_neg (by decide), hport, Nat.mod_eq_of_lt hltx, hportx, Nat.div_eq_of_lt hltx] at hw
    refine ⟨?_, ?_⟩
    · simpa [encodeSlot, hd, hx] using hw
    · simp only [encodeSlot, hd, hx, Option.getD_some]
      omega

theorem exists_encodeSlot {x : Nat} (hx : x < 2 ^ 15) (h : (shortMove x).2 = true) :
    ∃ m : Move, m.shortOk = true ∧ shortMove x = (m, true) ∧ encodeSlot m = x := by
  have hsplit : x = x / 8192 * 8192 + x / 256 % 32 * 256 + x / 128 % 2 * 128 + x % 128 := by omega
  have hd := shortMove_of_fields (g := x / 8192) (d := x / 256 % 32) (b := x / 128 % 2) (x := x % 128) (by omega)
    (Nat.mod_lt _ (by decide)) (Nat.mod_lt _ (by decide)) (Nat.mod_lt _ (by decide))
  rw [← hsplit] at hd
  have hdst : shortCode (shortPort (x / 256 % 32)) = some (x / 256 % 32) := shortCode_shortPort (Nat.mod_lt _ (by decide))
  have h7 : x % 128 < 2 ^ 7 := Nat.mod_lt _ (by decide)
  have hg : x / 8192 < 4 := by omega
  by_cases hb : x / 128 % 2 = 1
  · rw [if_pos hb] at hd
    refine ⟨_, ?_, hd, ?_⟩
    · simp [Move.shortOk, fitsSigned_sextW_7 h7, hdst, hg]
    · have hmod : (sextW (x % 128) 7).toNat % 128 = x % 128 := sextW_toNat_mod_7 h7
      simp only [encodeSlot, hdst, hmod, Option.getD_some]
      omega
  · rw [if_neg hb] at hd
    have hzero : x % 128 / 32 = 0 := by
      rw [hd] at h
      exact beq_iff_eq.mp h
    rw [hzero] at hd
    have hsrc : shortCode (shortPort (x % 128 % 32)) = some (x % 128 % 32) := shortCode_shortPort (Nat.mod_lt _ (by decide))
    refine ⟨_, ?_, hd, ?_⟩
    · simp only [Move.shortOk, hdst, hsrc, hg, decide_true, Option.isSome_some, Bool.and_self]
    · simp only [encodeSlot, hdst, hsrc, Option.getD_some]
      omega

/-- A word whose top bit is set is made of two slots and its lowest bit. -/
theorem decodeMoves_of_slots {x y : Nat} (hx : x < 2 ^ 15) (hy : y < 2 ^ 15) :
    decodeMoves (BitVec.ofNat 32 (2 ^ 31 + x * 2 ^ 16 + y * 2)) =
      ([(shortMove x).1, (shortMove y).1], (shortMove x).2 && (shortMove y).2) := by
  have hw : (BitVec.ofNat 32 (2 ^ 31 + x * 2 ^ 16 + y * 2)).toNat = 2 ^ 31 + x * 2 ^ 16 + y * 2 := by
    rw [BitVec.toNat_ofNat, Nat.mod_eq_of_lt (by omega)]
  have e31 : (2 ^ 31 + x * 2 ^ 16 + y * 2) / 2 ^ 31 % 2 ^ 1 = 1 := by omega
  have e16 : (2 ^ 31 + x * 2 ^ 16 + y * 2) / 2 ^ 16 % 2 ^ 15 = x := by omega
  have e1 : (2 ^ 31 + x * 2 ^ 16 + y * 2) / 2 ^ 1 % 2 ^ 15 = y := by omega
  have e0 : (2 ^ 31 + x * 2 ^ 16 + y * 2) / 2 ^ 0 % 2 ^ 1 = 0 := by omega
  simp only [decodeMoves, ext_eq, hw, e31, e16, e1, e0]
  simp

theorem decodeMoves_encodePair {a b : Move} (ha : a.shortOk = true) (hb : b.shortOk = true) :
    decodeMoves (encodePair a b) = ([a, b], true) := by
  obtain ⟨hda, hlta⟩ := shortMove_encodeSlot ha
  obtain ⟨hdb, hltb⟩ := shortMove_encodeSlot hb
  rw [encodePair, decodeMoves_of_slots hlta hltb, hda, hdb]
  rfl

theorem exists_encodePair {w : Word} (h31 : w.toNat / 2 ^ 31 % 2 ≠ 0) (h : (decodeMoves w).2 = true) :
    ∃ a b : Move, a.shortOk = true ∧ b.shortOk = true ∧ decodeMoves w = ([a, b], true) ∧ encodePair a b = w := by
  have hlt := w.isLt
  have hlow : w.toNat % 2 = 0 := by
    have h' := h
    rw [decodeMoves, if_neg (by rwa [ext_eq])] at h'
    simp only [ext_eq, Bool.and_eq_true, beq_iff_eq] at h'
    obtain ⟨-, h0⟩ := h'
    simpa using h0
  have hw : w = BitVec.ofNat 32 (2 ^ 31 + w.toNat / 2 ^ 16 % 2 ^ 15 * 2 ^ 16 + w.toNat / 2 % 2 ^ 15 * 2) := by
    apply BitVec.eq_of_toNat_eq
    rw [BitVec.toNat_ofNat]
    omega
  have hd := decodeMoves_of_slots (x := w.toNat / 2 ^ 16 % 2 ^ 15) (y := w.toNat / 2 % 2 ^ 15) (Nat.mod_lt _ (by decide))
    (Nat.mod_lt _ (by decide))
  rw [← hw] at hd
  rw [hd, Bool.and_eq_true] at h
  obtain ⟨ha, hb⟩ := h
  obtain ⟨a, haok, hda, hea⟩ := exists_encodeSlot (Nat.mod_lt (w.toNat / 2 ^ 16) (by decide)) ha
  obtain ⟨b, hbok, hdb, heb⟩ := exists_encodeSlot (Nat.mod_lt (w.toNat / 2) (by decide)) hb
  refine ⟨a, b, haok, hbok, ?_, ?_⟩
  · rw [hd, hda, hdb]
    rfl
  · rw [encodePair, hea, heb]
    exact hw.symm

/-- Settles O4: a long move by its five fields, a pair by its two slots, in both directions. -/
theorem rarekRoundTrip : Obligations.RarekRoundTrip := by
  unfold Obligations.RarekRoundTrip
  refine ⟨fun m h => decodeMoves_encodeLong h, fun a b ha hb => decodeMoves_encodePair ha hb, fun w h => ?_⟩
  by_cases h31 : w.toNat / 2 ^ 31 % 2 = 0
  · exact .inl (exists_encodeLong h31 h)
  · exact .inr (exists_encodePair h31 h)

end Sys2Proof.Machine
end

section
/-! The register map (R609, R610; statement O5). An array's addresses are its base and the offsets that `idxOf` takes apart; that
no address belongs to two registers is read off the bases and strides, two at a time, without listing the addresses. -/

namespace Sys2Proof.Machine

/-! ## Offsets along the dimensions of an array -/

theorem idxOf_nil {x : Nat} {is : List Nat} : idxOf [] x = some is ↔ x = 0 ∧ is = [] := by
  rw [idxOf, Option.ite_none_right_eq_some, Option.some.injEq, eq_comm (a := [])]

theorem idxOf_cons {s n x : Nat} {ds : List (Nat × Nat)} {is : List Nat} :
    idxOf ((s, n) :: ds) x = some is ↔ x / s < n ∧ ∃ js, idxOf ds (x % s) = some js ∧ is = x / s :: js := by
  simp only [idxOf, Option.ite_none_right_eq_some, Option.map_eq_some_iff, eq_comm (a := is)]

/-- The largest offset along some dimensions. -/
def lastOffset : List (Nat × Nat) → Nat
  | [] => 0
  | (stride, count) :: ds => stride * (count - 1) + lastOffset ds

theorem le_lastOffset {ds : List (Nat × Nat)} {x : Nat} {is : List Nat} (h : idxOf ds x = some is) : x ≤ lastOffset ds := by
  induction ds generalizing x is with
  | nil => exact Nat.le_of_eq (idxOf_nil.mp h).1
  | cons d ds ih =>
    obtain ⟨s, n⟩ := d
    obtain ⟨hlt, js, hjs, -⟩ := idxOf_cons.mp h
    calc x = s * (x / s) + x % s := (Nat.div_add_mod x s).symm
      _ ≤ s * (n - 1) + lastOffset ds := Nat.add_le_add (Nat.mul_le_mul_left s (by omega)) (ih hjs)

/-- Along each dimension the stride exceeds every offset along the dimensions inside it, and is a multiple of 4. -/
def nested : List (Nat × Nat) → Bool
  | [] => true
  | (stride, _) :: ds => decide (lastOffset ds < stride) && stride % 4 == 0 && nested ds

theorem nested_cons {s n : Nat} {ds : List (Nat × Nat)} :
    nested ((s, n) :: ds) = true ↔ lastOffset ds < s ∧ s % 4 = 0 ∧ nested ds = true := by
  simp only [nested, Bool.and_eq_true, decide_eq_true_eq, beq_iff_eq, and_assoc]

theorem idxOf_mul_add {s n i y : Nat} {ds : List (Nat × Nat)} {is : List Nat} (hlast : lastOffset ds < s) (hi : i < n)
    (hy : idxOf ds y = some is) : idxOf ((s, n) :: ds) (s * i + y) = some (i :: is) := by
  have hlt : y < s := Nat.lt_of_le_of_lt (le_lastOffset hy) hlast
  have hdiv : (s * i + y) / s = i := by rw [Nat.mul_add_div (by omega), Nat.div_eq_of_lt hlt, Nat.add_zero]
  have hmod : (s * i + y) % s = y := by rw [Nat.mul_add_mod, Nat.mod_eq_of_lt hlt]
  exact idxOf_cons.mpr ⟨by rwa [hdiv], is, by rwa [hmod], by rw [hdiv]⟩

theorem mod_four_of_idxOf {ds : List (Nat × Nat)} {x : Nat} {is : List Nat} (hn : nested ds = true) (h : idxOf ds x = some is) :
    x % 4 = 0 := by
  induction ds generalizing x is with
  | nil => rw [(idxOf_nil.mp h).1]
  | cons d ds ih =>
    obtain ⟨s, n⟩ := d
    obtain ⟨-, hs, hds⟩ := nested_cons.mp hn
    obtain ⟨-, js, hjs, -⟩ := idxOf_cons.mp h
    rw [← Nat.div_add_mod x s, Nat.add_mod, ih hds hjs, Nat.mul_mod, hs, Nat.zero_mul]

/-! ## Two arrays -/

/-- The offsets of one array, and those of a second that stands `d` above it, have none in common: the first ends before the
second begins, or both repeat at one stride and are apart within it. -/
def apart (d : Nat) : List (Nat × Nat) → List (Nat × Nat) → Bool
  | (s, n) :: ds, (t, _) :: es =>
    decide (s * (n - 1) + lastOffset ds < d) ||
      (s == t && decide (lastOffset ds < s) && decide (d % s + lastOffset es < s) && apart (d % s) ds es)
  | ds, _ => decide (lastOffset ds < d)

theorem ne_of_apart {ds es : List (Nat × Nat)} {d x y : Nat} {is js : List Nat} (h : apart d ds es = true)
    (hx : idxOf ds x = some is) (hy : idxOf es y = some js) : x ≠ d + y := by
  have far : lastOffset ds < d → x ≠ d + y := fun hd => by
    have := le_lastOffset hx
    omega
  induction ds generalizing es d x y is js with
  | nil => exact far (of_decide_eq_true h)
  | cons p ds ih =>
    obtain ⟨s, n⟩ := p
    cases es with
    | nil => exact far (of_decide_eq_true h)
    | cons q es =>
      obtain ⟨t, m⟩ := q
      simp only [apart, Bool.or_eq_true, Bool.and_eq_true, decide_eq_true_eq, beq_iff_eq] at h
      rcases h with hlt | ⟨⟨⟨rfl, hds⟩, hes⟩, hap⟩
      · exact far hlt
      · obtain ⟨-, is', hx', -⟩ := idxOf_cons.mp hx
        obtain ⟨-, js', hy', -⟩ := idxOf_cons.mp hy
        have hne : x % s ≠ d % s + y % s := ih hap hx' hy' fun hd => by
          have := le_lastOffset hx'
          omega
        have hsum : (d + y) % s = d % s + y % s := by
          rw [Nat.add_mod, Nat.mod_eq_of_lt (Nat.lt_of_le_of_lt (Nat.add_le_add_left (le_lastOffset hy') _) hes)]
        rintro rfl
        exact hne hsum

/-- Two places of the map have no address in common. -/
def Place.apart (p q : Place) : Bool :=
  if p.base ≤ q.base then Machine.apart (q.base - p.base) p.dims q.dims else Machine.apart (p.base - q.base) q.dims p.dims

theorem Place.ne_of_apart {p q : Place} {a : Nat} {is js : List Nat} (h : p.apart q = true) (hpa : p.base ≤ a)
    (hqa : q.base ≤ a) (hp : idxOf p.dims (a - p.base) = some is) (hq : idxOf q.dims (a - q.base) = some js) : False := by
  unfold Place.apart at h
  split at h
  · exact Machine.ne_of_apart h hp hq (by omega)
  · exact Machine.ne_of_apart h hq hp (by omega)

/-! ## The map -/

theorem Reg.mem_all (r : Reg) : r ∈ Reg.all := by
  have h : Reg.all[r.ctorIdx]? = some r := by cases r <;> rfl
  exact List.mem_of_getElem? h

/-- A register's array has at most three dimensions, nested, and stands word-aligned below the end of the register blocks. -/
def Place.sound (p : Place) : Bool :=
  decide (p.dims.length ≤ 3) && nested p.dims && p.base % 4 == 0 && decide (p.base + lastOffset p.dims < 0x170000)

theorem Reg.all_sound : Reg.all.all (fun r => r.place.sound) = true := by decide +kernel

theorem Reg.place_sound (r : Reg) : r.place.dims.length ≤ 3 ∧ nested r.place.dims = true ∧ r.place.base % 4 = 0 ∧
    r.place.base + lastOffset r.place.dims < 0x170000 := by
  have h := List.all_eq_true.mp Reg.all_sound r r.mem_all
  simpa only [Place.sound, Bool.and_eq_true, decide_eq_true_eq, beq_iff_eq, and_assoc] using h

theorem Reg.all_apart : Reg.all.Pairwise fun r q => r.place.apart q.place = true ∨ q.place.apart r.place = true := by
  decide +kernel

/-- Of two different members of a list whose pairs stand in a symmetric relation, each stands in it to the other. -/
theorem rel_of_pairwise {α : Type} {R : α → α → Prop} (symm : ∀ x y, R x y → R y x) {l : List α} (h : l.Pairwise R) {x y : α}
    (hx : x ∈ l) (hy : y ∈ l) (hne : x ≠ y) : R x y := by
  induction h with
  | nil => cases hx
  | cons hz _ ih =>
    rcases List.mem_cons.mp hx with rfl | hxl <;> rcases List.mem_cons.mp hy with rfl | hyl
    · exact absurd rfl hne
    · exact hz _ hyl
    · exact symm _ _ (hz _ hxl)
    · exact ih hxl hyl

theorem Reg.eq_of_at? {r q : Reg} {a : Nat} {x y : RegRef} (hr : r.at? a = some x) (hq : q.at? a = some y) : r = q := by
  obtain ⟨hra, is, his, -⟩ := Reg.at?_eq_some hr
  obtain ⟨hqa, js, hjs, -⟩ := Reg.at?_eq_some hq
  refine Classical.byContradiction fun hne => ?_
  rcases rel_of_pairwise (fun _ _ => Or.symm) Reg.all_apart r.mem_all q.mem_all hne with h | h
  · exact Place.ne_of_apart h hra hqa his hjs
  · exact Place.ne_of_apart h hqa hra hjs his

/-- The indices that `idxOf` finds are those of the address expression, and within the array. -/
theorem RegRef.addr_of_idxOf {r : Reg} {a : Nat} {is : List Nat} (hle : r.place.base ≤ a)
    (h : idxOf r.place.dims (a - r.place.base) = some is) :
    (⟨r, is.getD 0 0, is.getD 1 0, is.getD 2 0⟩ : RegRef).addr = a ∧
      (⟨r, is.getD 0 0, is.getD 1 0, is.getD 2 0⟩ : RegRef).placed = true := by
  have hlen := r.place_sound.1
  have ha : a = r.place.base + (a - r.place.base) := by omega
  unfold RegRef.addr RegRef.placed
  generalize a - r.place.base = x at h ha
  generalize r.place.dims = ds at h hlen ⊢
  match ds, hlen with
  | [], _ =>
    obtain ⟨rfl, rfl⟩ := idxOf_nil.mp h
    simp [ha]
  | [(s, n)], _ =>
    obtain ⟨hi, js, hjs, rfl⟩ := idxOf_cons.mp h
    obtain ⟨h0, rfl⟩ := idxOf_nil.mp hjs
    have := Nat.div_add_mod x s
    simp only [List.map, List.zip, List.zipWith, List.foldl, List.getD_cons_zero, List.getD_cons_succ, List.getD_nil, hi,
      decide_true, beq_self_eq_true, Bool.and_self, and_true]
    omega
  | [(s, n), (t, m)], _ =>
    obtain ⟨hi, js, hjs, rfl⟩ := idxOf_cons.mp h
    obtain ⟨hj, ks, hks, rfl⟩ := idxOf_cons.mp hjs
    obtain ⟨h0, rfl⟩ := idxOf_nil.mp hks
    have := Nat.div_add_mod x s
    have := Nat.div_add_mod (x % s) t
    simp only [List.map, List.zip, List.zipWith, List.foldl, List.getD_cons_zero, List.getD_cons_succ, List.getD_nil, hi, hj,
      decide_true, beq_self_eq_true, Bool.and_self, and_true]
    omega
  | [(s, n), (t, m), (u, l)], _ =>
    obtain ⟨hi, js, hjs, rfl⟩ := idxOf_cons.mp h
    obtain ⟨hj, ks, hks, rfl⟩ := idxOf_cons.mp hjs
    obtain ⟨hk, ls, hls, rfl⟩ := idxOf_cons.mp hks
    obtain ⟨h0, rfl⟩ := idxOf_nil.mp hls
    have := Nat.div_add_mod x s
    have := Nat.div_add_mod (x % s) t
    have := Nat.div_add_mod (x % s % t) u
    simp only [List.map, List.zip, List.zipWith, List.foldl, List.getD_cons_zero, List.getD_cons_succ, hi, hj, hk,
      decide_true, Bool.and_self, and_true]
    omega

/-- A placed register is found at its own address. -/
theorem RegRef.at?_addr {r : RegRef} (h : r.placed = true) : r.reg.at? r.addr = some r := by
  obtain ⟨reg, i, j, k⟩ := r
  have hnest := reg.place_sound.2.1
  have key : ∃ is, idxOf reg.place.dims ((⟨reg, i, j, k⟩ : RegRef).addr - reg.place.base) = some is ∧
      is.getD 0 0 = i ∧ is.getD 1 0 = j ∧ is.getD 2 0 = k := by
    unfold RegRef.placed at h
    unfold RegRef.addr
    dsimp only at h ⊢
    rw [Nat.add_sub_cancel_left]
    have nil : idxOf [] 0 = some [] := rfl
    generalize reg.place.dims = ds at h hnest ⊢
    match ds with
    | [] =>
      simp only [Bool.and_eq_true, beq_iff_eq] at h
      obtain ⟨⟨rfl, rfl⟩, rfl⟩ := h
      exact ⟨[], nil, rfl, rfl, rfl⟩
    | [(s, n)] =>
      simp only [Bool.and_eq_true, decide_eq_true_eq, beq_iff_eq] at h
      obtain ⟨⟨hi, rfl⟩, rfl⟩ := h
      obtain ⟨hs, -, -⟩ := nested_cons.mp hnest
      have h1 := idxOf_mul_add hs hi nil
      refine ⟨[i], ?_, rfl, rfl, rfl⟩
      simpa only [List.map, List.zip, List.zipWith, List.foldl, Nat.zero_add, Nat.add_zero] using h1
    | [(s, n), (t, m)] =>
      simp only [Bool.and_eq_true, decide_eq_true_eq, beq_iff_eq] at h
      obtain ⟨⟨hi, hj⟩, rfl⟩ := h
      obtain ⟨hs, -, hnest⟩ := nested_cons.mp hnest
      obtain ⟨ht, -, -⟩ := nested_cons.mp hnest
      have h1 := idxOf_mul_add hs hi (idxOf_mul_add ht hj nil)
      refine ⟨[i, j], ?_, rfl, rfl, rfl⟩
      simpa only [List.map, List.zip, List.zipWith, List.foldl, Nat.zero_add, Nat.add_zero] using h1
    | [(s, n), (t, m), (u, l)] =>
      simp only [Bool.and_eq_true, decide_eq_true_eq] at h
      obtain ⟨⟨hi, hj⟩, hk⟩ := h
      obtain ⟨hs, -, hnest⟩ := nested_cons.mp hnest
      obtain ⟨ht, -, hnest⟩ := nested_cons.mp hnest
      obtain ⟨hu, -, -⟩ := nested_cons.mp hnest
      have h1 := idxOf_mul_add hs hi (idxOf_mul_add ht hj (idxOf_mul_add hu hk nil))
      refine ⟨[i, j, k], ?_, rfl, rfl, rfl⟩
      simpa only [List.map, List.zip, List.zipWith, List.foldl, Nat.zero_add, Nat.add_zero, Nat.add_assoc] using h1
    | _ :: _ :: _ :: _ :: _ => exact absurd h (by simp)
  obtain ⟨is, his, rfl, rfl, rfl⟩ := key
  have hle : ¬ (⟨reg, is.getD 0 0, is.getD 1 0, is.getD 2 0⟩ : RegRef).addr < reg.place.base := by
    exact Nat.not_lt.mpr (Nat.le_add_right _ _)
  simp only [Reg.at?, hle, if_false, his]

theorem decodeReg_eq_some {a : Nat} {r : RegRef} : decodeReg a = some r ↔ r.reg.at? a = some r := by
  constructor
  · intro h
    obtain ⟨q, -, hq⟩ := List.exists_of_findSome?_eq_some h
    obtain ⟨-, is, -, rfl⟩ := Reg.at?_eq_some hq
    exact hq
  · intro h
    obtain ⟨x, hx⟩ := Option.isSome_iff_exists.mp
      (List.findSome?_isSome_iff.mpr ⟨r.reg, r.reg.mem_all, by rw [h]; rfl⟩ : (decodeReg a).isSome = true)
    obtain ⟨q, -, hq⟩ := List.exists_of_findSome?_eq_some hx
    rw [Reg.eq_of_at? hq h, h] at hq
    exact hx.trans hq.symm

theorem RegRef.addr_lt {r : RegRef} (h : r.placed = true) : r.addr < 0x170000 ∧ r.addr % 4 = 0 := by
  obtain ⟨hle, is, his, -⟩ := Reg.at?_eq_some (RegRef.at?_addr h)
  obtain ⟨-, hnest, hbase, hend⟩ := r.reg.place_sound
  have := le_lastOffset his
  have := mod_four_of_idxOf hnest his
  omega

/-- Settles O5: offsets by the nesting of the strides, one register for each address by the pairwise check of the places. -/
theorem registerMap : Obligations.RegisterMap := by
  unfold Obligations.RegisterMap
  refine ⟨fun r h => ⟨decodeReg_eq_some.mpr (RegRef.at?_addr h), RegRef.addr_lt h⟩, fun a r h => ?_⟩
  obtain ⟨hle, is, his, hr⟩ := Reg.at?_eq_some (decodeReg_eq_some.mp h)
  rw [hr]
  exact RegRef.addr_of_idxOf hle his

end Sys2Proof.Machine
end

section
/-! Bytes of memory: what a byte reads after a write to it and to another, and which functions leave which bytes alone
(statement O11). -/

namespace Sys2Proof.Machine

/-! ## One byte -/

theorem Memory.get_erase_self (m : List Host.Cell) (a : Nat) : Memory.get (Memory.erase m a) a = unlisted a := by
  induction m with
  | nil => rfl
  | cons c m ih =>
    obtain ⟨k, v⟩ := c
    by_cases hk : k = a
    · simpa [Memory.erase, hk] using ih
    · simpa [Memory.erase, hk, Memory.get] using ih

theorem Memory.get_erase_ne {a x : Nat} (hx : x ≠ a) (m : List Host.Cell) :
    Memory.get (Memory.erase m a) x = Memory.get m x := by
  induction m with
  | nil => rfl
  | cons c m ih =>
    obtain ⟨k, v⟩ := c
    have ih' : Memory.get (List.filter (fun c => c.1 != a) m) x = Memory.get m x := ih
    by_cases hk : k = a
    · simp [Memory.erase, hk, Memory.get, hx.symm, ih']
    · simp [Memory.erase, hk, Memory.get, ih']

theorem Memory.get_insert_self {a : Nat} (b : Byte) {m : List Host.Cell} (h : ∀ c ∈ m, c.1 ≠ a) :
    Memory.get (Memory.insert a b m) a = b := by
  induction m with
  | nil => simp [Memory.insert, Memory.get]
  | cons c m ih =>
    obtain ⟨k, v⟩ := c
    have hk : k ≠ a := h (k, v) List.mem_cons_self
    have ih' := ih fun c hc => h c (List.mem_cons_of_mem _ hc)
    unfold Memory.insert
    split
    · simp [Memory.get]
    · simp [Memory.get, hk, ih']

theorem Memory.get_insert_ne {a x : Nat} (hx : x ≠ a) (b : Byte) (m : List Host.Cell) :
    Memory.get (Memory.insert a b m) x = Memory.get m x := by
  induction m with
  | nil => simp [Memory.insert, Memory.get, hx.symm]
  | cons c m ih =>
    obtain ⟨k, v⟩ := c
    unfold Memory.insert
    split
    · simp [Memory.get, hx.symm]
    · simp [Memory.get, ih]

theorem Memory.get_set_self (m : List Host.Cell) (a : Nat) (b : Byte) : Memory.get (Memory.set m a b) a = b := by
  unfold Memory.set
  split
  case isTrue hb => rw [get_erase_self, hb]
  case isFalse =>
    refine get_insert_self b fun c hc => ?_
    simpa using (List.mem_filter.mp hc).2

theorem Memory.get_set_ne {a x : Nat} (hx : x ≠ a) (m : List Host.Cell) (b : Byte) :
    Memory.get (Memory.set m a b) x = Memory.get m x := by
  unfold Memory.set
  split
  · exact get_erase_ne hx m
  · rw [get_insert_ne hx, get_erase_ne hx]

@[simp] theorem State.byte_setByte_self (s : State) (a : Nat) (b : Byte) : (s.setByte a b).byte a = b :=
  Memory.get_set_self s.mem a b

theorem State.byte_setByte_ne (s : State) {a x : Nat} (b : Byte) (hx : x ≠ a) : (s.setByte a b).byte x = s.byte x :=
  Memory.get_set_ne hx s.mem b

/-! ## Runs of bytes -/

theorem State.byte_setBytes_out (s : State) {a x : Nat} {bs : List Byte} (hx : x < a ∨ a + bs.length ≤ x) :
    (s.setBytes a bs).byte x = s.byte x := by
  induction bs generalizing a s with
  | nil => rfl
  | cons b bs ih =>
    rw [List.length_cons] at hx
    rw [State.setBytes, ih _ (by omega), State.byte_setByte_ne _ _ (by omega)]

theorem State.byte_setBytes (s : State) (a : Nat) {bs : List Byte} {i : Nat} (hi : i < bs.length) :
    (s.setBytes a bs).byte (a + i) = bs[i] := by
  induction bs generalizing a s i with
  | nil => exact absurd hi (Nat.not_lt_zero i)
  | cons b bs ih =>
    cases i with
    | zero => rw [State.setBytes, State.byte_setBytes_out _ (by omega)]; exact State.byte_setByte_self s a b
    | succ i =>
      rw [List.length_cons] at hi
      rw [State.setBytes, show a + (i + 1) = a + 1 + i by omega, ih _ _ (by omega)]
      rfl

theorem State.bytes_setBytes (s : State) (a : Nat) (bs : List Byte) : (s.setBytes a bs).bytes a bs.length = bs := by
  refine List.ext_getElem (by simp [State.bytes]) fun i h1 h2 => ?_
  simp only [State.bytes, List.getElem_map, List.getElem_range]
  exact State.byte_setBytes s a h2

theorem State.bytes_setBytes_out (s : State) {a x n : Nat} {bs : List Byte} (hx : x + n ≤ a ∨ a + bs.length ≤ x) :
    (s.setBytes a bs).bytes x n = s.bytes x n := by
  refine List.map_congr_left fun i hi => State.byte_setBytes_out s ?_
  have := List.mem_range.mp hi
  omega

theorem leNat_leBytes (v n : Nat) : leNat (leBytes v n) = v % 256 ^ n := by
  induction n generalizing v with
  | zero => rw [Nat.pow_zero, Nat.mod_one]; rfl
  | succ n ih => rw [leBytes, leNat, ih, BitVec.toNat_ofNat, Nat.pow_succ' (m := 256) (n := n), Nat.mod_mul (a := 256)]

theorem wordOf_leBytes (w : Word) : wordOf (leBytes w.toNat 4) = w := by
  have h : (leBytes w.toNat 4).take 4 = leBytes w.toNat 4 := List.take_of_length_le (Nat.le_of_eq (leBytes_length _ _))
  rw [wordOf, h, leNat_leBytes]
  exact BitVec.eq_of_toNat_eq (by rw [BitVec.toNat_ofNat]; have := w.isLt; omega)

@[simp] theorem State.word_setWord (s : State) (a : Nat) (w : Word) : (s.setWord a w).word a = w := by
  have h := State.bytes_setBytes s a (leBytes w.toNat 4)
  rw [leBytes_length] at h
  rw [State.word, State.setWord, h, wordOf_leBytes]

theorem State.word_setWord_out (s : State) {a x : Nat} (w : Word) (hx : x + 4 ≤ a ∨ a + 4 ≤ x) :
    (s.setWord a w).word x = s.word x := by
  rw [State.word, State.setWord, State.bytes_setBytes_out s (by rwa [leBytes_length]), State.word]

/-! ## States that agree on some bytes -/

/-- The bytes that `P` picks out are those of `s`. -/
def SameBytes (P : Nat → Prop) (s t : State) : Prop := ∀ a, P a → t.byte a = s.byte a

namespace SameBytes

variable {P : Nat → Prop} {s t u : State}

theorem refl : SameBytes P s s := fun _ _ => rfl

theorem trans (h : SameBytes P s t) (k : SameBytes P t u) : SameBytes P s u := fun a ha => (k a ha).trans (h a ha)

/-- A function whose mask leaves the memory out leaves every byte. -/
theorem fr (h : Fr (without 292) t u) (k : SameBytes P s t) : SameBytes P s u := fun a ha => by
  rw [State.byte, h.mem rfl]
  exact k a ha

theorem setBytes {a : Nat} {bs : List Byte} (h : ∀ x, P x → x < a ∨ a + bs.length ≤ x) (k : SameBytes P s t) :
    SameBytes P s (t.setBytes a bs) := fun x hx => by
  rw [State.byte_setBytes_out _ (h x hx)]
  exact k x hx

theorem setWord {a : Nat} {w : Word} (h : ∀ x, P x → x < a ∨ a + 4 ≤ x) (k : SameBytes P s t) : SameBytes P s (t.setWord a w) :=
  k.setBytes fun x hx => by rw [leBytes_length]; exact h x hx

theorem clearMem {lo hi : Nat} (h : ∀ x, P x → x < lo ∨ hi ≤ x) (k : SameBytes P s t) : SameBytes P s (t.clearMem lo hi) :=
  fun x hx => (Memory.get_clear_out (h x hx) t.mem).trans (k x hx)

end SameBytes

variable {P : Nat → Prop} {s₀ s : State}

/-! ## Memory operations at a bank (R340, R341, R344) -/

theorem State.bankWrite_bytes {c a n : Nat} {v : Word} (h : ∀ x, P x → x < a ∨ a + n ≤ x) (k : SameBytes P s₀ s) :
    SameBytes P s₀ (s.bankWrite c a n v) :=
  .fr (State.noteStore_fr rfl (.id _ _)) (k.setBytes fun x hx => by rw [leBytes_length]; exact h x hx)

/-- A memory operation changes no byte but those it is for: of a store, as many as its size; of an atomic, a word; of a load, none. -/
theorem State.doMem_bytes {o : MemOp} {ecc coll : Nat}
    (h : ∀ x, P x → x < o.addr ∨ o.addr + (if o.kind = .store then o.size else 4) ≤ x) (k : SameBytes P s₀ s) :
    SameBytes P s₀ (s.doMem o ecc coll) := by
  have k1 : SameBytes P s₀ (s.collide o.ctx o.addr coll) := .fr (State.collide_fr rfl (.id _ _)) k
  have ev : ∀ t, SameBytes P s₀ t → SameBytes P s₀ (t.eccEvent o.addr 0 ecc) := fun t => .fr (State.eccEvent_fr rfl (.id _ _))
  have lost : ∀ t, SameBytes P s₀ t → SameBytes P s₀ (t.mergeLost o.addr) := fun t => .fr (State.mergeLost_fr rfl (.id _ _))
  have load : ∀ t v p, SameBytes P s₀ t → SameBytes P s₀ (t.setLoad o v p) := fun t v p => .fr (State.setLoad_fr rfl (.id _ _))
  have poison : ∀ t n, SameBytes P s₀ t → SameBytes P s₀ (t.setPoison o.ctx n) :=
    fun t n => .fr (State.setPoison_fr rfl (.id _ _))
  have atomic : ∀ w : Word, o.kind ≠ .store → SameBytes P s₀
      (if ecc = eccDouble then
        if o.mute then (s.collide o.ctx o.addr coll).mergeLost o.addr
        else ((s.collide o.ctx o.addr coll).mergeLost o.addr).setPoison o.ctx 2
      else
        ((((s.collide o.ctx o.addr coll).eccEvent o.addr 0 ecc).setLoad o
          (((s.collide o.ctx o.addr coll).eccEvent o.addr 0 ecc).word o.addr) 0).bankWrite o.ctx o.addr 4 w)) := by
    intro w hk
    rw [if_neg hk] at h
    exact Holds.ite (Holds.ite (lost _ k1) (poison _ _ (lost _ k1))) (State.bankWrite_bytes h (load _ _ _ (ev _ k1)))
  unfold State.doMem
  cases hk : o.kind with
  | load => exact load _ _ _ (.fr (State.collided_fr rfl (.id _ _)) (ev _ k1))
  | store =>
    rw [hk, if_pos rfl] at h
    exact Holds.ite (lost _ k1) (State.bankWrite_bytes h (Holds.ite k1 (ev _ k1)))
  | aadd => exact atomic _ (by simp [hk])
  | aswap => exact atomic _ (by simp [hk])

theorem State.strRead_bytes {o : StrOp} {a ecc coll : Nat} (k : SameBytes P s₀ s) : SameBytes P s₀ (s.strRead o a ecc coll).2 :=
  .fr (State.strRead_fr rfl (.id _ _)) k

theorem State.strWrite_bytes {o : StrOp} {v : Word} {coll : Nat} (h : ∀ x, P x → x < o.dst ∨ o.dst + 4 ≤ x)
    (k : SameBytes P s₀ s) : SameBytes P s₀ (s.strWrite o v coll) :=
  State.bankWrite_bytes h (.fr (State.collide_fr rfl (.id _ _)) k)

/-- A string operation changes no byte but those of the word at its destination. -/
theorem State.doStr_bytes {o : StrOp} {ecc coll dstEcc dstColl : Nat} (h : ∀ x, P x → x < o.dst ∨ o.dst + 4 ≤ x)
    (k : SameBytes P s₀ s) : SameBytes P s₀ (s.doStr o ecc coll dstEcc dstColl) := by
  have read : SameBytes P s₀ (s.strRead o o.src ecc coll).2 := State.strRead_bytes k
  unfold State.doStr
  cases o.kind with
  | fill => exact State.strWrite_bytes h k
  | copy =>
    dsimp only
    split
    case h_1 e => exact Holds.cutp e read (State.strWrite_bytes h)
    case h_2 e => exact Holds.cutp e read id
  | crc =>
    dsimp only
    split
    case h_1 e => exact Holds.cutp e read fun k => Holds.ite k (.fr (State.setPort_fr rfl (.id _ _)) k)
    case h_2 e => exact Holds.cutp e read id
  | cmp =>
    have both : SameBytes P s₀ ((s.strRead o o.src ecc coll).2.strRead o o.dst dstEcc dstColl).2 := State.strRead_bytes read
    dsimp only
    split
    · have found : ∀ t, SameBytes P s₀ t → SameBytes P s₀ (t.cmpFound o) := fun t => .fr (State.cmpFound_fr rfl (.id _ _))
      have flag : ∀ b : Bool, SameBytes P s₀ (if o.mute then ((s.strRead o o.src ecc coll).2.strRead o o.dst dstEcc dstColl).2
          else ((s.strRead o o.src ecc coll).2.strRead o o.dst dstEcc dstColl).2.setPort o.ctx 0x077 (boolW b)) :=
        fun b => Holds.ite both (.fr (State.setPort_fr rfl (.id _ _)) both)
      exact Holds.ite (found _ (flag _)) (flag _)
    · exact both

/-- The oldest memory operation of a core, where it is the one the command names. -/
theorem State.memFront_bytes {d ecc coll : Nat} {p : MemKind → Bool} {o : MemOp} {os : List MemOp}
    (hq : (s.core d).memq = o :: os)
    (h : p o.kind = true → ∀ x, P x → x < o.addr ∨ o.addr + (if o.kind = .store then o.size else 4) ≤ x) :
    SameBytes P s (s.memFront d p ecc coll) := by
  unfold State.memFront
  rw [hq]
  dsimp only
  split
  case isTrue hc =>
    simp only [Bool.and_eq_true] at hc
    obtain ⟨⟨hp, -⟩, -⟩ := hc
    exact State.doMem_bytes (h hp) (.fr (State.setCore_fr rfl (.id _ _)) .refl)
  case isFalse => exact .refl

/-! ## The fault log, slots and banks -/

/-- A log record goes to the eight bytes that the count names (R510). -/
theorem State.logOne_bytes (h : ∀ x, P x → x < 0x600000 + 8 * (s.fld FLT_LOGCNT.CNT % 512) ∨
    0x600008 + 8 * (s.fld FLT_LOGCNT.CNT % 512) ≤ x) (k : SameBytes P s₀ s) : SameBytes P s₀ s.logOne := by
  unfold State.logOne
  split
  · exact k
  · rename_i w ws _
    have k1 : SameBytes P s₀ { s with flt := { s.flt with logq := ws } } := k
    have k2 := (k1.setWord (w := w.extractLsb' 0 32) (a := 0x600000 + 8 * (s.fld FLT_LOGCNT.CNT % 512))
      fun x hx => by have := h x hx; omega).setWord (w := w.extractLsb' 32 32)
      (a := 0x600000 + 8 * (s.fld FLT_LOGCNT.CNT % 512) + 4) fun x hx => by have := h x hx; omega
    have k3 := SameBytes.fr (State.wrap_fr (a1 := FLT_LOGCNT.CNT) (a2 := 0) (a3 := 0) (a4 := 0) rfl rfl (.id _ _)) k2
    exact Holds.ite (.fr (State.twinSend_fr rfl (.id _ _)) k3) k3

theorem State.fillLog_bytes {ws : List (BitVec 64)} (h : ∀ x, P x → x < 0x600000 ∨ 0x601000 ≤ x) (k : SameBytes P s₀ s) :
    SameBytes P s₀ (forEach ws (fun _ s => s.logOne) s) :=
  Holds.forEach (fun _ t => State.logOne_bytes fun x hx => by
    have := h x hx
    have : t.fld FLT_LOGCNT.CNT % 512 < 512 := Nat.mod_lt _ (by decide)
    omega) k

theorem State.initBanks_bytes {keep : Nat → Bool}
    (h : ∀ x, P x → x < 0x200000 ∨ (0x280000 ≤ x ∧ x < 0x300000) ∨ 0x308000 ≤ x) (k : SameBytes P s₀ s) :
    SameBytes P s₀ (s.initBanks keep) := by
  have hn : nBanks s.variant ≤ 8 := by cases s.variant <;> decide
  have banks : ∀ bs : List Nat, (∀ b ∈ bs, b < 8) → ∀ t, SameBytes P s₀ t → SameBytes P s₀ (forEach bs (fun b s =>
      (s.clearMem (0x200000 + 0x10000 * b) (0x210000 + 0x10000 * b)).put MEM_STAT.AWAKE (s.fld MEM_STAT.AWAKE ||| 2 ^ b)) t) := by
    intro bs
    induction bs with
    | nil => exact fun _ _ => id
    | cons b bs ih =>
      intro hb t kt
      have := hb b List.mem_cons_self
      exact ih (fun c hc => hb c (List.mem_cons_of_mem _ hc)) _ (.fr (State.put_fr rfl rfl (.id _ _))
        (kt.clearMem fun x hx => by have := h x hx; omega))
  refine .fr (State.flag_fr rfl rfl (.id _ _)) (.clearMem (fun x hx => by have := h x hx; omega) (banks _ (fun b hb => ?_) _ k))
  exact Nat.lt_of_lt_of_le (List.mem_range.mp (List.mem_filter.mp hb).1) hn

theorem State.asWho_bytes {w : Who} {b : Nat} {f : State → State} (hf : SameBytes P s₀ s → SameBytes P s₀ (f s))
    (k : SameBytes P s₀ s) : SameBytes P s₀ (s.asWho w b f) := by
  unfold State.asWho
  refine Holds.ite (hf k) ?_
  cases w with
  | host => exact Holds.ite (.fr (State.reserved_fr rfl (.id _ _)) k) k
  | ctx c => exact k

theorem State.runFltCmdClrlog_bytes {w : Who} (h : ∀ x, P x → x < 0x600000 ∨ 0x601000 ≤ x) (k : SameBytes P s₀ s) :
    SameBytes P s₀ (s.runFltCmdClrlog w) :=
  Holds.ite (.fr (State.reserved_fr rfl (.id _ _)) k) (.fr (State.put_fr rfl rfl (.id _ _)) (k.clearMem h))

theorem State.runSlotWordWrite_bytes {a : Nat} {w : Word} (h : ∀ x, P x → x < a ∨ a + 4 ≤ x) (k : SameBytes P s₀ s) :
    SameBytes P s₀ (s.runSlotWordWrite a w) :=
  Holds.ite k (Holds.ite (.fr (State.reserved_fr rfl (.id _ _)) k) (Holds.ite (.fr (State.flag_fr rfl rfl (.id _ _)) k)
    (.fr (State.count_fr rfl rfl (.id _ _)) (k.setWord h))))

/-- Settles O11: each command's own bytes are the argument of the one write it makes; the rest of it leaves the memory alone. -/
theorem memoryFrames : Obligations.MemoryFrames := by
  unfold Obligations.MemoryFrames
  refine ⟨fun s d x y o os hq hk => ⟨_, rfl, ?_⟩, fun s d x y o os hq => ⟨_, rfl, ?_⟩, fun s d x y o os hq => ⟨_, rfl, ?_⟩,
    fun s => ⟨_, rfl, ?_⟩, fun s => ⟨_, rfl, ?_⟩, fun s w => ⟨_, rfl, ?_⟩, fun s x w => ⟨_, rfl, ?_⟩, fun s => ⟨_, rfl, ?_⟩,
    fun s => ⟨_, rfl, ?_⟩⟩
  · exact State.memFront_bytes hq fun _ x hx => by rwa [if_pos hk]
  · refine State.memFront_bytes hq fun hp x hx => ?_
    rwa [if_neg (by simpa using hp)]
  · intro a ha
    rw [State.ship_byte, hq]
    exact Holds.ite (P := SameBytes (fun a => a < o.dst ∨ o.dst + 4 ≤ a) s) .refl
      (State.doStr_bytes (fun _ h => h) (.fr (State.setCore_fr rfl (.id _ _)) .refl)) a ha
  · exact Holds.ite (P := SameBytes _ s) (State.logOne_bytes (fun _ h => h) .refl) .refl
  · exact Holds.ite (P := SameBytes _ s) (State.fillLog_bytes (fun _ h => h) .refl) .refl
  · exact State.asWho_bytes (State.runFltCmdClrlog_bytes fun _ h => h) .refl
  · exact State.runSlotWordWrite_bytes (fun _ h => h) .refl
  · exact Holds.ite (P := SameBytes _ s) (.fr (State.put_fr rfl rfl (.id _ _)) (SameBytes.refl.clearMem fun _ h => h)) .refl
  · intro a ha
    rw [State.ship_byte]
    have init : ∀ keep, SameBytes (fun a => a < 0x200000 ∨ (0x280000 ≤ a ∧ a < 0x300000) ∨ 0x308000 ≤ a) s (s.initBanks keep) :=
      fun keep => State.initBanks_bytes (fun _ h => h) .refl
    split
    · exact init _ a ha
    · exact init _ a ha
    · exact init _ a ha
    · exact init _ a ha
    · rfl

end Sys2Proof.Machine
end

section
/-! One step and the reset state (statements O1 and O2). -/

namespace Sys2Proof.Machine

theorem State.tick_tb (s : State) : s.tick.tb = s.tb + 1 :=
  ((State.ship_fr rfl (State.ethTick_fr rfl (State.ripExpire_fr rfl (State.ledEdge_fr rfl (.id _ _)))) :
    Fr (without 293) s.countTime s.tick)).tb rfl

theorem State.tick_mem (s : State) : s.tick.mem = s.mem := (State.tick_fr rfl (.id (without 292) s)).mem rfl

/-- Settles O1: the queue decides which of the two a step is; a clock edge counts the time and stores nothing. -/
theorem stepTakesFront : Obligations.StepTakesFront := by
  unfold Obligations.StepTakesFront
  intro s
  refine ⟨fun c cs h => by rw [step, h], fun h => ⟨by rw [step, h], s.tick_tb, ?_, s.tick_mem⟩⟩
  rw [(State.tick_fr rfl (.id (without 292) s)).pending, h]

/-- With no Catalogue loaded a register reads 0 in the fields that the Catalogue gives. -/
theorem State.readView_given_of_not_loaded {s : State} {r : RegRef} (hl : s.cat.loaded = false) (hr : r.reg.fromCat = true) :
    s.readView r &&& r.reg.givenMask = 0 := by
  simp only [State.readView, hr, hl, Bool.not_true, Bool.not_false, Bool.false_eq_true, if_false, if_true]
  rw [BitVec.and_assoc, BitVec.and_comm (~~~_), BitVec.and_not_self]
  exact BitVec.and_zero

/-- Settles O2: the registers that have reset values by evaluation, the Catalogue's fields by the absence of a Catalogue. -/
theorem resetState : Obligations.ResetState := by
  unfold Obligations.ResetState
  refine ⟨rfl, rfl, rfl, by decide +kernel, by decide +kernel, by decide +kernel, by decide +kernel, by decide +kernel,
    by decide +kernel, by decide +kernel, by decide +kernel, by decide +kernel, by decide +kernel, by decide +kernel,
    fun _ => rfl, fun _ => State.readView_given_of_not_loaded rfl⟩

end Sys2Proof.Machine
end

section
/-! Locality of the commands for one unit (statement O21). A CAN port's event can put a context off its core; a quarantine that
waits for this then takes effect (R373), and a quarantined context loses its locks (R407), at whichever port they are. -/

namespace Sys2Proof.Machine

/-- Port 0 is bus-off and reports its state by event 3 of context 1. Context 1 waits for that event; context 0, of lower priority,
runs on core 0 with a quarantine due, and reads queue 0 of port 1, which is locked for it. -/
def quarantineDue : State :=
  let s := { State.reset with
    can := [(0, default), (1, default)]
    doc := { State.reset.doc with ctxs := [(0, { (default : Ctx) with qpend := some 2 }), (1, default)] } }
  let s := ((s.put CAN_STAT.STATE 5 0).flag CAN_EVT.EVEN true 0).put CAN_EVT.CTX 1 0
  let s := (s.put DOC_STAT.STATE 2 0).put DOC_STAT.CTX 0 0
  let s := ((s.setCst 0 stRun).setCst 1 stWait).setPort 1 pEvtMask (1#32 <<< 3)
  (s.put CTXC_CFG.PRIO 3 1).flag CAN_QSTAT.LOCKED true 1 0

theorem busOffRecoveryDone_unlocks_other_port :
    ∃ t, exec (.busOffRecoveryDone 0) quarantineDue = .next t ∧
      t.reg ⟨.CAN_QSTAT, 1, 0, 0⟩ ≠ quarantineDue.reg ⟨.CAN_QSTAT, 1, 0, 0⟩ :=
  ⟨_, rfl, by decide +kernel⟩

/-- Refutes O21: the end of port 0's bus-off recovery unlocks a queue of port 1. -/
theorem not_unitLocality : ¬ Obligations.UnitLocality := by
  unfold Obligations.UnitLocality
  rintro ⟨-, -, -, -, -, -, -, -, -, -, -, -, -, -, -, -, -, -, -, -, -, -, -, -, -, -, -, -, -, -, -, -, -, -, -, -, -, -, -,
    -, -, -, -, -, -, -, -, -, -, busOff, -⟩
  obtain ⟨t, e, hchanged⟩ := busOffRecoveryDone_unlocks_other_port
  obtain ⟨u, e', hlocal⟩ := busOff quarantineDue 0
  rw [e] at e'
  obtain rfl := Host.Outcome.next.inj e'
  exact hchanged (hlocal ⟨.CAN_QSTAT, 1, 0, 0⟩ rfl (by decide))

end Sys2Proof.Machine
end

section
/-! Reading a field after writes. The side conditions name registers and bit numbers only, so that `simp` settles them; a state that
is written out as a record reads as its register table does, and as the state that it was made from where the table is that
state's. -/

namespace Sys2Proof.Machine

variable (s : State) {f g : Fld} {i j k i' j' k' : Nat}

/-! ## After a write -/

@[simp] theorem State.fld_put_same (v : Nat) (h : f.lo + f.width ≤ 32) : (s.put f v i j k).fld f i j k = v % 2 ^ f.width :=
  State.fld_put_self s f v i j k h

@[simp] theorem State.fld_put_apart (v : Nat) (h : g.lo + g.width ≤ f.lo ∨ f.lo + f.width ≤ g.lo) :
    (s.put f v i j k).fld g i' j' k' = s.fld g i' j' k' :=
  State.fld_put_other s v h

@[simp] theorem State.fld_put_reg (v : Nat) (h : g.reg ≠ f.reg) : (s.put f v i j k).fld g i' j' k' = s.fld g i' j' k' :=
  State.fld_put_ne s v (.inl h)

@[simp] theorem State.bit_put_same (v : Nat) (h : f.lo + f.width ≤ 32) :
    (s.put f v i j k).bit f i j k = (v % 2 ^ f.width != 0) := by rw [State.bit, State.fld_put_same s v h]

@[simp] theorem State.bit_put_apart (v : Nat) (h : g.lo + g.width ≤ f.lo ∨ f.lo + f.width ≤ g.lo) :
    (s.put f v i j k).bit g i' j' k' = s.bit g i' j' k' :=
  State.bit_of_fld (State.fld_put_apart s v h)

@[simp] theorem State.bit_put_reg (v : Nat) (h : g.reg ≠ f.reg) : (s.put f v i j k).bit g i' j' k' = s.bit g i' j' k' :=
  State.bit_of_fld (State.fld_put_reg s v h)

@[simp] theorem State.fld_flag_same (b : Bool) (h : f.lo + f.width ≤ 32) :
    (s.flag f b i j k).fld f i j k = b2n b % 2 ^ f.width :=
  State.fld_put_same s _ h

@[simp] theorem State.fld_flag_apart (b : Bool) (h : g.lo + g.width ≤ f.lo ∨ f.lo + f.width ≤ g.lo) :
    (s.flag f b i j k).fld g i' j' k' = s.fld g i' j' k' :=
  State.fld_put_apart s _ h

@[simp] theorem State.fld_flag_reg (b : Bool) (h : g.reg ≠ f.reg) : (s.flag f b i j k).fld g i' j' k' = s.fld g i' j' k' :=
  State.fld_put_reg s _ h

@[simp] theorem State.bit_flag_same (b : Bool) (h : f.lo + f.width ≤ 32) (hw : 0 < f.width) :
    (s.flag f b i j k).bit f i j k = b :=
  State.bit_flag_self s f b i j k h hw

@[simp] theorem State.bit_flag_apart (b : Bool) (h : g.lo + g.width ≤ f.lo ∨ f.lo + f.width ≤ g.lo) :
    (s.flag f b i j k).bit g i' j' k' = s.bit g i' j' k' :=
  State.bit_put_apart s _ h

@[simp] theorem State.bit_flag_reg (b : Bool) (h : g.reg ≠ f.reg) : (s.flag f b i j k).bit g i' j' k' = s.bit g i' j' k' :=
  State.bit_put_reg s _ h

/-- The index of a write at another index of the array does not matter. -/
theorem State.fld_put_index (v : Nat) (h : i' ≠ i) : (s.put f v i j k).fld g i' j' k' = s.fld g i' j' k' :=
  State.fld_put_ne s v (.inr (.inl h))

theorem State.fld_lt : s.fld f i j k < 2 ^ f.width := ext_lt _ _ _

theorem State.fld_mod : s.fld f i j k % 2 ^ f.width = s.fld f i j k := Nat.mod_eq_of_lt (State.fld_lt s)

@[simp] theorem State.fld_count_same (h : f.lo + f.width ≤ 32) :
    (s.count f i j k).fld f i j k = satInc (s.fld f i j k) f.width % 2 ^ f.width :=
  State.fld_put_same s _ h

@[simp] theorem State.fld_count_apart (h : g.lo + g.width ≤ f.lo ∨ f.lo + f.width ≤ g.lo) :
    (s.count f i j k).fld g i' j' k' = s.fld g i' j' k' :=
  State.fld_put_apart s _ h

@[simp] theorem State.fld_count_reg (h : g.reg ≠ f.reg) : (s.count f i j k).fld g i' j' k' = s.fld g i' j' k' :=
  State.fld_put_reg s _ h

@[simp] theorem State.bit_count_apart (h : g.lo + g.width ≤ f.lo ∨ f.lo + f.width ≤ g.lo) :
    (s.count f i j k).bit g i' j' k' = s.bit g i' j' k' :=
  State.bit_put_apart s _ h

@[simp] theorem State.bit_count_reg (h : g.reg ≠ f.reg) : (s.count f i j k).bit g i' j' k' = s.bit g i' j' k' :=
  State.bit_put_reg s _ h

@[simp] theorem State.fld_wrap_same (h : f.lo + f.width ≤ 32) :
    (s.wrap f i j k).fld f i j k = (s.fld f i j k + 1) % 2 ^ f.width :=
  State.fld_put_same s _ h

@[simp] theorem State.fld_wrap_apart (h : g.lo + g.width ≤ f.lo ∨ f.lo + f.width ≤ g.lo) :
    (s.wrap f i j k).fld g i' j' k' = s.fld g i' j' k' :=
  State.fld_put_apart s _ h

@[simp] theorem State.fld_wrap_reg (h : g.reg ≠ f.reg) : (s.wrap f i j k).fld g i' j' k' = s.fld g i' j' k' :=
  State.fld_put_reg s _ h

@[simp] theorem State.bit_wrap_apart (h : g.lo + g.width ≤ f.lo ∨ f.lo + f.width ≤ g.lo) :
    (s.wrap f i j k).bit g i' j' k' = s.bit g i' j' k' :=
  State.bit_put_apart s _ h

@[simp] theorem State.bit_wrap_reg (h : g.reg ≠ f.reg) : (s.wrap f i j k).bit g i' j' k' = s.bit g i' j' k' :=
  State.bit_put_reg s _ h

/-! ## After an update of a part -/

@[simp] theorem State.fld_ship (t u : State) : (t.ship u).fld g i' j' k' = u.fld g i' j' k' := rfl
@[simp] theorem State.bit_ship (t u : State) : (t.ship u).bit g i' j' k' = u.bit g i' j' k' := rfl
@[simp] theorem State.fld_setCtx {c x} : (s.setCtx c x).fld g i' j' k' = s.fld g i' j' k' := rfl
@[simp] theorem State.bit_setCtx {c x} : (s.setCtx c x).bit g i' j' k' = s.bit g i' j' k' := rfl
@[simp] theorem State.fld_setRcd {c x} : (s.setRcd c x).fld g i' j' k' = s.fld g i' j' k' := rfl
@[simp] theorem State.bit_setRcd {c x} : (s.setRcd c x).bit g i' j' k' = s.bit g i' j' k' := rfl
@[simp] theorem State.fld_setPort {c p v} : (s.setPort c p v).fld g i' j' k' = s.fld g i' j' k' := rfl
@[simp] theorem State.bit_setPort {c p v} : (s.setPort c p v).bit g i' j' k' = s.bit g i' j' k' := rfl
@[simp] theorem State.fld_setCore {c x} : (s.setCore c x).fld g i' j' k' = s.fld g i' j' k' := rfl
@[simp] theorem State.bit_setCore {c x} : (s.setCore c x).bit g i' j' k' = s.bit g i' j' k' := rfl
@[simp] theorem State.fld_setCh {c x} : (s.setCh c x).fld g i' j' k' = s.fld g i' j' k' := rfl
@[simp] theorem State.bit_setCh {c x} : (s.setCh c x).bit g i' j' k' = s.bit g i' j' k' := rfl
@[simp] theorem State.fld_setBr {c x} : (s.setBr c x).fld g i' j' k' = s.fld g i' j' k' := rfl
@[simp] theorem State.bit_setBr {c x} : (s.setBr c x).bit g i' j' k' = s.bit g i' j' k' := rfl
@[simp] theorem State.fld_setCoil {c x} : (s.setCoil c x).fld g i' j' k' = s.fld g i' j' k' := rfl
@[simp] theorem State.bit_setCoil {c x} : (s.setCoil c x).bit g i' j' k' = s.bit g i' j' k' := rfl
@[simp] theorem State.fld_setLx {c x} : (s.setLx c x).fld g i' j' k' = s.fld g i' j' k' := rfl
@[simp] theorem State.bit_setLx {c x} : (s.setLx c x).bit g i' j' k' = s.bit g i' j' k' := rfl
@[simp] theorem State.fld_setCp {c x} : (s.setCp c x).fld g i' j' k' = s.fld g i' j' k' := rfl
@[simp] theorem State.bit_setCp {c x} : (s.setCp c x).bit g i' j' k' = s.bit g i' j' k' := rfl
@[simp] theorem State.fld_setLp {c x} : (s.setLp c x).fld g i' j' k' = s.fld g i' j' k' := rfl
@[simp] theorem State.bit_setLp {c x} : (s.setLp c x).bit g i' j' k' = s.bit g i' j' k' := rfl
@[simp] theorem State.fld_setOut {c x} : (s.setOut c x).fld g i' j' k' = s.fld g i' j' k' := rfl
@[simp] theorem State.bit_setOut {c x} : (s.setOut c x).bit g i' j' k' = s.bit g i' j' k' := rfl
@[simp] theorem State.fld_setTrip {c x} : (s.setTrip c x).fld g i' j' k' = s.fld g i' j' k' := rfl
@[simp] theorem State.bit_setTrip {c x} : (s.setTrip c x).bit g i' j' k' = s.bit g i' j' k' := rfl
@[simp] theorem State.fld_setLc {c x} : (s.setLc c x).fld g i' j' k' = s.fld g i' j' k' := rfl
@[simp] theorem State.bit_setLc {c x} : (s.setLc c x).bit g i' j' k' = s.bit g i' j' k' := rfl

/-- A register as its table gives it. -/
def regIn (v : Variant) (t : Tbl RegRef Word) (r : RegRef) : Word := Tbl.get t r (resetWord v r)

/-- A field as its register's table gives it. -/
def fieldIn (v : Variant) (t : Tbl RegRef Word) (f : Fld) (i j k : Nat) : Nat := ext (regIn v t (f.ref i j k)) f.lo f.width

/-- A bit as its register's table gives it. -/
def bitIn (v : Variant) (t : Tbl RegRef Word) (f : Fld) (i j k : Nat) : Bool := fieldIn v t f i j k != 0

section

variable {pe : List Instr} {va : Variant} {re : Tbl RegRef Word} {a3 : List Host.Cell} {a4 a5 : Nat} {a6 : SysSt} {a7 :
  Tbl Nat OutSt} {a8 : CatSt} {a9 : FabSt} {a10 : DocSt} {a11 : MemSt} {a12 : FltSt} {a13 : Tbl Nat TripSt} {a14 : Tbl Nat
  Bucket} {a15 : Tbl Nat HswSt} {a16 : Tbl Nat HbrSt} {a17 : Tbl Nat CoilSt} {a18 : BankSt} {a19 : Tbl Nat LedSt} {a20 :
  FoldSt} {a21 : Tbl Nat LchSt} {a22 : InpSt} {a23 : Word} {a24 : Tbl Nat CanSt} {a25 : Tbl Nat LinSt} {a26 : EthSt} {a27
  : NmSt} {a28 : PwrSt} {a29 : TwnSt} {a30 : KeySt} {a31 : CalSt} {a32 a33 : HostSt} {a34 : List Byte}

@[simp] theorem State.reg_mk (r : RegRef) :
    (State.mk pe va re a3 a4 a5 a6 a7 a8 a9 a10 a11 a12 a13 a14 a15 a16 a17 a18 a19 a20 a21 a22 a23 a24 a25 a26 a27 a28 a29
      a30 a31 a32 a33 a34).reg r = regIn va re r := rfl

@[simp] theorem State.fld_mk :
    (State.mk pe va re a3 a4 a5 a6 a7 a8 a9 a10 a11 a12 a13 a14 a15 a16 a17 a18 a19 a20 a21 a22 a23 a24 a25 a26 a27 a28 a29
      a30 a31 a32 a33 a34).fld f i j k = fieldIn va re f i j k := rfl

@[simp] theorem State.bit_mk :
    (State.mk pe va re a3 a4 a5 a6 a7 a8 a9 a10 a11 a12 a13 a14 a15 a16 a17 a18 a19 a20 a21 a22 a23 a24 a25 a26 a27 a28 a29
      a30 a31 a32 a33 a34).bit f i j k = bitIn va re f i j k := rfl

@[simp] theorem State.byte_mk (a : Nat) :
    (State.mk pe va re a3 a4 a5 a6 a7 a8 a9 a10 a11 a12 a13 a14 a15 a16 a17 a18 a19 a20 a21 a22 a23 a24 a25 a26 a27 a28 a29
      a30 a31 a32 a33 a34).byte a = Memory.get a3 a := rfl

end

@[simp] theorem regIn_regs (r : RegRef) : regIn s.variant s.regs r = s.reg r := rfl

@[simp] theorem fieldIn_regs : fieldIn s.variant s.regs f i j k = s.fld f i j k := rfl

@[simp] theorem bitIn_regs : bitIn s.variant s.regs f i j k = s.bit f i j k := rfl

theorem regIn_put_self {w : Variant} (f : Fld) (v i j k : Nat) :
    regIn w (s.put f v i j k).regs (f.ref i j k) = ins (s.reg (f.ref i j k)) f.lo f.width v :=
  Tbl.get_set_self _ _ _ _

theorem regIn_put_ne {w : Variant} {r : RegRef} (v : Nat) (h : r ≠ f.ref i j k) :
    regIn w (s.put f v i j k).regs r = regIn w s.regs r :=
  Tbl.get_set_ne h _ _ _

variable {w : Variant}

@[simp] theorem fieldIn_put_same (v : Nat) (h : f.lo + f.width ≤ 32) :
    fieldIn w (s.put f v i j k).regs f i j k = v % 2 ^ f.width := by
  rw [fieldIn, regIn_put_self, ext_ins_self _ _ h]

@[simp] theorem fieldIn_put_apart (v : Nat) (hr : g.reg = f.reg) (h : g.lo + g.width ≤ f.lo ∨ f.lo + f.width ≤ g.lo) :
    fieldIn w (s.put f v i j k).regs g i j k = s.fld g i j k := by
  have href : g.ref i j k = f.ref i j k := by rw [Fld.ref, Fld.ref, hr]
  rw [fieldIn, href, regIn_put_self, ext_ins_other _ _ h.symm, State.fld, href]

@[simp] theorem fieldIn_put_reg (v : Nat) (h : g.reg ≠ f.reg) :
    fieldIn w (s.put f v i j k).regs g i' j' k' = fieldIn w s.regs g i' j' k' := by
  rw [fieldIn, regIn_put_ne s v fun e => h (congrArg RegRef.reg e), fieldIn]

@[simp] theorem fieldIn_flag_same (b : Bool) (h : f.lo + f.width ≤ 32) :
    fieldIn w (s.flag f b i j k).regs f i j k = b2n b % 2 ^ f.width :=
  fieldIn_put_same s _ h

@[simp] theorem fieldIn_flag_apart (b : Bool) (hr : g.reg = f.reg) (h : g.lo + g.width ≤ f.lo ∨ f.lo + f.width ≤ g.lo) :
    fieldIn w (s.flag f b i j k).regs g i j k = s.fld g i j k :=
  fieldIn_put_apart s _ hr h

@[simp] theorem fieldIn_flag_reg (b : Bool) (h : g.reg ≠ f.reg) :
    fieldIn w (s.flag f b i j k).regs g i' j' k' = fieldIn w s.regs g i' j' k' :=
  fieldIn_put_reg s _ h

@[simp] theorem bitIn_flag_same (b : Bool) (h : f.lo + f.width ≤ 32) (hw : 0 < f.width) :
    bitIn w (s.flag f b i j k).regs f i j k = b := by
  rw [bitIn, fieldIn_flag_same s b h, ← State.fld_flag_same (i := i) (j := j) (k := k) s b h]
  exact State.bit_flag_same s b h hw

@[simp] theorem fieldIn_count_same (h : f.lo + f.width ≤ 32) :
    fieldIn w (s.count f i j k).regs f i j k = satInc (s.fld f i j k) f.width % 2 ^ f.width :=
  fieldIn_put_same s _ h

@[simp] theorem fieldIn_count_apart (hr : g.reg = f.reg) (h : g.lo + g.width ≤ f.lo ∨ f.lo + f.width ≤ g.lo) :
    fieldIn w (s.count f i j k).regs g i j k = s.fld g i j k :=
  fieldIn_put_apart s _ hr h

@[simp] theorem fieldIn_count_reg (h : g.reg ≠ f.reg) :
    fieldIn w (s.count f i j k).regs g i' j' k' = fieldIn w s.regs g i' j' k' :=
  fieldIn_put_reg s _ h

@[simp] theorem fieldIn_wrap_same (h : f.lo + f.width ≤ 32) :
    fieldIn w (s.wrap f i j k).regs f i j k = (s.fld f i j k + 1) % 2 ^ f.width :=
  fieldIn_put_same s _ h

@[simp] theorem fieldIn_wrap_apart (hr : g.reg = f.reg) (h : g.lo + g.width ≤ f.lo ∨ f.lo + f.width ≤ g.lo) :
    fieldIn w (s.wrap f i j k).regs g i j k = s.fld g i j k :=
  fieldIn_put_apart s _ hr h

@[simp] theorem fieldIn_wrap_reg (h : g.reg ≠ f.reg) :
    fieldIn w (s.wrap f i j k).regs g i' j' k' = fieldIn w s.regs g i' j' k' :=
  fieldIn_put_reg s _ h

@[simp] theorem bitIn_put_apart (v : Nat) (hr : g.reg = f.reg) (h : g.lo + g.width ≤ f.lo ∨ f.lo + f.width ≤ g.lo) :
    bitIn w (s.put f v i j k).regs g i j k = s.bit g i j k :=
  congrArg (· != 0) (fieldIn_put_apart s _ hr h)

@[simp] theorem bitIn_put_reg (v : Nat) (h : g.reg ≠ f.reg) :
    bitIn w (s.put f v i j k).regs g i' j' k' = bitIn w s.regs g i' j' k' :=
  congrArg (· != 0) (fieldIn_put_reg s _ h)

@[simp] theorem bitIn_flag_apart (b : Bool) (hr : g.reg = f.reg) (h : g.lo + g.width ≤ f.lo ∨ f.lo + f.width ≤ g.lo) :
    bitIn w (s.flag f b i j k).regs g i j k = s.bit g i j k :=
  congrArg (· != 0) (fieldIn_put_apart s _ hr h)

@[simp] theorem bitIn_flag_reg (b : Bool) (h : g.reg ≠ f.reg) :
    bitIn w (s.flag f b i j k).regs g i' j' k' = bitIn w s.regs g i' j' k' :=
  congrArg (· != 0) (fieldIn_put_reg s _ h)

@[simp] theorem bitIn_count_apart (hr : g.reg = f.reg) (h : g.lo + g.width ≤ f.lo ∨ f.lo + f.width ≤ g.lo) :
    bitIn w (s.count f i j k).regs g i j k = s.bit g i j k :=
  congrArg (· != 0) (fieldIn_put_apart s _ hr h)

@[simp] theorem bitIn_count_reg (h : g.reg ≠ f.reg) :
    bitIn w (s.count f i j k).regs g i' j' k' = bitIn w s.regs g i' j' k' :=
  congrArg (· != 0) (fieldIn_put_reg s _ h)

@[simp] theorem bitIn_wrap_apart (hr : g.reg = f.reg) (h : g.lo + g.width ≤ f.lo ∨ f.lo + f.width ≤ g.lo) :
    bitIn w (s.wrap f i j k).regs g i j k = s.bit g i j k :=
  congrArg (· != 0) (fieldIn_put_apart s _ hr h)

@[simp] theorem bitIn_wrap_reg (h : g.reg ≠ f.reg) :
    bitIn w (s.wrap f i j k).regs g i' j' k' = bitIn w s.regs g i' j' k' :=
  congrArg (· != 0) (fieldIn_put_reg s _ h)

/-- States with the same registers show the same fields. -/
theorem State.fld_of_regs {s t : State} (hr : t.regs = s.regs) (hv : t.variant = s.variant) (f : Fld) (i j k : Nat) :
    t.fld f i j k = s.fld f i j k := by
  unfold State.fld State.reg
  rw [hr, hv]

end Sys2Proof.Machine
end

section
/-! What reports leave of the Conservator's state. `FaultsKept s₀ s` says that nothing of it but the reports received, the active
sources and the flag that shows an active limp source has changed; the lemmas `…_flt` say so of the functions that report. -/

namespace Sys2Proof.Machine

/-- The Conservator's part of the state with the reports and active sources left out. -/
def FltSt.base (f : FltSt) : FltSt := { f with raised := [], active := [] }

/-- FLT_STAT but for LIMPACT, and the Conservator's part but for the reports and active sources, are as they were. -/
structure FaultsKept (s₀ s : State) : Prop where
  stat : ∀ (f : Fld) (i j k : Nat), f.reg = .FLT_STAT →
    (f.lo + f.width ≤ FLT_STAT.LIMPACT.lo ∨ FLT_STAT.LIMPACT.lo + FLT_STAT.LIMPACT.width ≤ f.lo) →
    s.fld f i j k = s₀.fld f i j k
  base : s.flt.base = s₀.flt.base

/-- Every bit of a mask but the Conservator's part and its status register. -/
def notFlt : Nat := without 301 ^^^ (1 <<< Reg.FLT_STAT.ctorIdx)

namespace FaultsKept

variable {s₀ s t : State}

theorem refl (s : State) : FaultsKept s s := ⟨fun _ _ _ _ _ _ => rfl, rfl⟩

theorem trans {u : State} (h : FaultsKept s t) (k : FaultsKept t u) : FaultsKept s u :=
  ⟨fun f i j k' hr hf => (k.stat f i j k' hr hf).trans (h.stat f i j k' hr hf), k.base.trans h.base⟩

/-- A function whose mask leaves the Conservator alone. -/
theorem fr (hf : Fr notFlt s t) (h : FaultsKept s₀ s) : FaultsKept s₀ t :=
  h.trans ⟨fun f i j k hr _ => hf.fld f i j k (by rw [hr]; rfl), congrArg FltSt.base (hf.flt rfl)⟩

theorem set_flt {x : FltSt} (hx : x.base = s.flt.base) (h : FaultsKept s₀ s) : FaultsKept s₀ { s with flt := x } :=
  h.trans ⟨fun _ _ _ _ _ _ => rfl, hx⟩

theorem bit (h : FaultsKept s t) (f : Fld) (hr : f.reg = .FLT_STAT)
    (hf : f.lo + f.width ≤ FLT_STAT.LIMPACT.lo ∨ FLT_STAT.LIMPACT.lo + FLT_STAT.LIMPACT.width ≤ f.lo) : t.bit f = s.bit f :=
  State.bit_of_fld (h.stat f 0 0 0 hr hf)

theorem bothLost (h : FaultsKept s t) : t.flt.bothLost = s.flt.bothLost := 
  (congrArg FltSt.bothLost h.base : t.flt.base.bothLost = s.flt.base.bothLost)

end FaultsKept

variable {s₀ s : State}

theorem State.raise_flt {b u k d : Nat} (h : FaultsKept s₀ s) : FaultsKept s₀ (s.raise b u k d) := h.set_flt rfl

theorem State.setActive_flt {as : List Act} (h : FaultsKept s₀ s) : FaultsKept s₀ (s.setActive as) :=
  h.trans ⟨fun _ _ _ _ _ hf => State.fld_put_other _ _ hf, rfl⟩

theorem State.clearSrc_flt {a1 a2 a3} (h : FaultsKept s₀ s) : FaultsKept s₀ (State.clearSrc s a1 a2 a3) := by
  unfold State.clearSrc
  extract_lets +onlyGivenNames x0
  extract_lets +onlyGivenNames x1
  exact State.setActive_flt (FaultsKept.set_flt rfl h)

theorem State.setOl_flt {a1 a2} (h : FaultsKept s₀ s) : FaultsKept s₀ (State.setOl s a1 a2) := by
  unfold State.setOl
  extract_lets +onlyGivenNames x0
  have h1 : FaultsKept s₀ x0 := Holds.forEach (fun _ _ h4 => FaultsKept.fr (State.put_fr rfl rfl (.id _ _)) h4) h
  clear_value x0
  exact Holds.ite h1 (State.clearSrc_flt h1)

theorem State.olEnd_flt {a1} (h : FaultsKept s₀ s) : FaultsKept s₀ (State.olEnd s a1) := by
  unfold State.olEnd
  extract_lets +onlyGivenNames x0
  clear_value x0
  exact Holds.ite h (Holds.ite (FaultsKept.fr (State.shortEnd_fr rfl (.id _ _)) h) (Holds.ite (State.setOl_flt h) h))

theorem State.onPeriodEnd_flt {a1} (h : FaultsKept s₀ s) : FaultsKept s₀ (State.onPeriodEnd s a1) := by
  unfold State.onPeriodEnd
  extract_lets +onlyGivenNames x0
  have h1 : FaultsKept s₀ x0 := State.olEnd_flt h
  clear_value x0
  exact FaultsKept.fr (State.setCh_fr rfl (.id _ _)) h1

theorem State.hswOff_flt {a1 a2} (h : FaultsKept s₀ s) : FaultsKept s₀ (State.hswOff s a1 a2) := by
  unfold State.hswOff
  exact Holds.ite (FaultsKept.fr (State.setHs_fr rfl (.id _ _)) (State.onPeriodEnd_flt h)) (FaultsKept.fr (State.setHs_fr
      rfl (.id _ _)) h)

theorem State.hswArm_flt {a1} (h : FaultsKept s₀ s) : FaultsKept s₀ (State.hswArm s a1) := by
  unfold State.hswArm
  exact State.setOl_flt (State.hswOff_flt h)

theorem State.refuse_flt {a1 a2} (h : FaultsKept s₀ s) : FaultsKept s₀ (State.refuse s a1 a2) := by
  unfold State.refuse
  extract_lets +onlyGivenNames x0
  clear_value x0
  exact State.raise_flt (FaultsKept.fr (State.put_fr rfl rfl (.id _ _)) (FaultsKept.fr (State.flag_fr rfl rfl (.id _ _))
      (FaultsKept.fr (State.setVlv_fr rfl (.id _ _)) h)))

theorem State.admitValve_flt {a1} (h : FaultsKept s₀ s) : FaultsKept s₀ (State.admitValve s a1) := by
  unfold State.admitValve
  extract_lets +onlyGivenNames x0
  clear_value x0
  extract_lets +onlyGivenNames x1
  clear_value x1
  refine Holds.ite ?_ ?_
  · exact State.refuse_flt h
  · refine Holds.ite ?_ ?_
    · exact State.refuse_flt h
    · extract_lets +onlyGivenNames x2
      clear_value x2
      extract_lets +onlyGivenNames x3
      clear_value x3
      extract_lets +onlyGivenNames x4
      have h5 : FaultsKept s₀ x4 := FaultsKept.fr (State.flag_fr rfl rfl (.id _ _)) h
      clear_value x4
      refine FaultsKept.fr (State.setVlv_fr rfl (.id _ _)) ?_
      extract_lets +onlyGivenNames x6
      have h7 : FaultsKept s₀ x6 := FaultsKept.fr (State.setCoil_fr rfl (.id _ _)) h5
      clear_value x6
      exact FaultsKept.fr (Fr.set_bank rfl (.id _ _)) h7

theorem State.valveRise_flt {a1} (h : FaultsKept s₀ s) : FaultsKept s₀ (State.valveRise s a1) := by
  unfold State.valveRise
  extract_lets +onlyGivenNames x0
  clear_value x0
  extract_lets +onlyGivenNames x1
  clear_value x1
  exact Holds.ite h (Holds.ite (FaultsKept.fr (State.flag_fr rfl rfl (.id _ _)) h) (State.admitValve_flt h))

theorem State.restart_flt {a1 a2} (h : FaultsKept s₀ s) : FaultsKept s₀ (State.restart s a1 a2) := by
  unfold State.restart
  split
  · exact Holds.ite (State.hswArm_flt h) (FaultsKept.fr (State.hswFollow_fr rfl (.id _ _)) (State.hswOff_flt h))
  · exact FaultsKept.fr (State.hbrFollow_fr rfl (.id _ _)) (FaultsKept.fr (State.hbrIdle_fr rfl (.id _ _)) h)
  · extract_lets +onlyGivenNames x0
    have h1 : FaultsKept s₀ x0 := FaultsKept.fr (State.setVlv_fr rfl (.id _ _)) h
    clear_value x0
    exact Holds.ite (State.valveRise_flt h1) h1
  · exact FaultsKept.fr (State.bankShow_fr rfl (.id _ _)) (FaultsKept.fr (State.put_fr rfl rfl (.id _ _)) h)
  · extract_lets +onlyGivenNames x2
    have h3 : FaultsKept s₀ x2 := FaultsKept.fr (State.put_fr rfl rfl (.id _ _)) h
    clear_value x2
    exact Holds.ite (FaultsKept.fr (State.ctdFollow_fr rfl (.id _ _)) h3) h3
  · extract_lets +onlyGivenNames x4
    have h5 : FaultsKept s₀ x4 := FaultsKept.fr (State.ledRank_fr rfl (.id _ _)) (FaultsKept.fr (State.setLs_fr rfl (.id _
        _)) h)
    clear_value x4
    exact Holds.ite (FaultsKept.fr (State.ledSetting_fr rfl (.id _ _)) (FaultsKept.fr (State.setLs_fr rfl (.id _ _)) h5)) h5

theorem State.untrip_flt {a1} (h : FaultsKept s₀ s) : FaultsKept s₀ (State.untrip s a1) := by
  unfold State.untrip
  extract_lets +onlyGivenNames x0
  clear_value x0
  extract_lets +onlyGivenNames x1
  have h2 : FaultsKept s₀ x1 := FaultsKept.fr (State.setRetries_fr rfl (.id _ _)) (FaultsKept.fr (State.setTrip_fr rfl (.id
      _ _)) h)
  clear_value x1
  extract_lets +onlyGivenNames x3
  clear_value x3
  extract_lets +onlyGivenNames x4
  have h5 : FaultsKept s₀ x4 := Holds.forEach (fun _ _ h8 => State.clearSrc_flt h8) h2
  clear_value x4
  exact Holds.ite (State.restart_flt h5) h5

theorem State.tryRecover_flt {a1 a2} (h : FaultsKept s₀ s) : FaultsKept s₀ (State.tryRecover s a1 a2) := by
  unfold State.tryRecover
  exact Holds.ite (Holds.forEach (fun _ _ h2 => State.untrip_flt h2) h) h

theorem State.ledIn_flt {a1} (h : FaultsKept s₀ s) : FaultsKept s₀ (State.ledIn s a1) := by
  unfold State.ledIn
  extract_lets +onlyGivenNames x0
  clear_value x0
  extract_lets +onlyGivenNames x1
  clear_value x1
  extract_lets +onlyGivenNames x2
  have h3 : FaultsKept s₀ x2 := Holds.ite (FaultsKept.fr (State.ledFall_fr rfl (.id _ _)) h) h
  clear_value x2
  extract_lets +onlyGivenNames x4
  have h5 : FaultsKept s₀ x4 := FaultsKept.fr (State.ledRank_fr rfl (.id _ _)) h3
  clear_value x4
  extract_lets +onlyGivenNames x6
  have h7 : FaultsKept s₀ x6 := Holds.ite (FaultsKept.fr (State.ledRise_fr rfl (.id _ _)) h5) h5
  clear_value x6
  exact Holds.ite h7 (State.tryRecover_flt h7)

theorem State.ledSync_flt (h : FaultsKept s₀ s) : FaultsKept s₀ (State.ledSync s) := by
  unfold State.ledSync
  exact Holds.forEach (fun _ _ h2 => State.ledIn_flt h2) h

end Sys2Proof.Machine
end

section
/-! Start, resets and hold timers (statement O27; spec/02 R65 to R83). -/

namespace Sys2Proof.Machine

variable {s : State}

theorem State.mode_mod (s : State) : s.mode % 16 = s.mode := State.fld_mod s

/-- What a logic reset of a powered module outside Hold leaves in SYS_MODE and SYS_RSTCAUSE. -/
structure HoldEntered (s t : State) (c : RstCause) : Prop where
  phase : t.sys.phase = .hold
  mode : t.fld SYS_MODE.MODE = 10
  prev : t.fld SYS_MODE.PREV = s.mode
  busy : t.bit SYS_MODE.BUSY = false
  cause : t.bit (causeFld c) = true

theorem State.logicReset_enters (c : RstCause) (h1 : s.sys.phase ≠ .unpowered) (h2 : s.sys.phase ≠ .hold) :
    HoldEntered s (s.logicReset c) c := by
  rw [State.logicReset_live h1 h2]
  obtain ⟨hmode, hprev, -, hbusy⟩ := State.resetToHold_mode (s := s) (c := c)
  exact ⟨State.resetToHold_phase, hmode, hprev.trans s.mode_mod, hbusy, State.resetToHold_cause⟩

/-- The pins of TWN_STAT outlast a logic reset; what the half itself puts out does not. -/
theorem State.clearLogic_twoko (s : State) : s.clearLogic.bit TWN_STAT.TWOKO = false := by
  have hzero : ∀ w : Word, ext (twnStatReset w) 7 1 = 0 := by
    intro w
    have hbit : (twnStatReset w).getLsbD 7 = false := by simp [twnStatReset]
    rw [BitVec.getLsbD, Nat.testBit_eq_decide_div_mod_eq] at hbit
    rw [ext_eq]
    simpa using hbit
  have hreg : s.clearLogic.reg ⟨.TWN_STAT, 0, 0, 0⟩ = twnStatReset (s.abandonSlot.reg ⟨.TWN_STAT, 0, 0, 0⟩) := rfl
  simp [State.bit, State.fld, Fld.ref, hreg, hzero]

theorem State.resetToHold_twoko (c : RstCause) : (s.resetToHold c).bit TWN_STAT.TWOKO = false := by
  have hc : Reg.TWN_STAT ≠ (causeFld c).reg := by cases c <;> decide
  unfold State.resetToHold
  refine ((State.ledSync_fr (Nat.or_self _) (Fr.id _ _)).bitEq _ _ _ _ rfl).trans ?_
  refine (State.bit_flag_reg _ _ hc).trans ?_
  simp (disch := decide) only [State.bit_flag_reg, State.bit_put_reg]
  generalize s.cancelPend.enterHold _ = u
  exact (State.bit_of_fld (State.fld_of_regs rfl rfl _ _ _ _)).trans u.clearLogic_twoko

/-! ## Both halves lost (R78) -/

/-- What shows the forced groups touches one field of FLT_STAT. -/
theorem State.showForced_bit {f : Fld} (hr : f.reg = .FLT_STAT)
    (hf : f.lo + f.width ≤ FLT_STAT.FORCED.lo ∨ FLT_STAT.FORCED.lo + FLT_STAT.FORCED.width ≤ f.lo) :
    s.showForced.bit f = s.bit f := by
  unfold State.showForced
  refine Holds.forEach (P := fun u => u.bit f = s.bit f) (fun g u hu => ?_) (State.bit_put_apart s _ hf)
  refine Holds.ite (P := fun u => u.bit f = s.bit f) hu ((State.bit_flag_reg u _ ?_).trans hu)
  rw [hr]
  decide

theorem State.ledSync_kept (s : State) : FaultsKept s s.ledSync := State.ledSync_flt (.refl s)

/-- What the loss of both halves does after the reset. -/
def State.halvesDown (s : State) : State :=
  (((({ s with flt := { s.flt with bothLost := true } }).flag FLT_STAT.AOK false).flag FLT_STAT.BOK false).showForced).ledSync

theorem State.bothDown_eq (s : State) : s.bothDown = (s.dropTwok.logicReset .conslost).halvesDown := rfl

theorem State.halvesDown_ok (s : State) : s.halvesDown.bit FLT_STAT.AOK = false ∧ s.halvesDown.bit FLT_STAT.BOK = false := by
  constructor
  · refine ((State.ledSync_kept _).bit _ rfl (by decide)).trans ((State.showForced_bit rfl (by decide)).trans ?_)
    exact (State.bit_flag_apart _ _ (by decide)).trans (State.bit_flag_self _ _ _ _ _ _ (by decide) (by decide))
  · refine ((State.ledSync_kept _).bit _ rfl (by decide)).trans ((State.showForced_bit rfl (by decide)).trans ?_)
    exact State.bit_flag_self _ _ _ _ _ _ (by decide) (by decide)

theorem State.halvesDown_bothLost (s : State) : s.halvesDown.flt.bothLost = true := by
  unfold State.halvesDown
  rw [(State.ledSync_kept _).bothLost, (State.showForced_fr rfl (.id (without 301) _)).flt rfl]
  rfl

theorem State.halvesDown_phase (s : State) : s.halvesDown.sys.phase = s.sys.phase :=
  Fr.phase (s := { s with flt := { s.flt with bothLost := true } })
    (State.ledSync_fr rfl (State.showForced_fr rfl (State.flag_fr rfl rfl (State.flag_fr rfl rfl (.id _ _)))))

theorem State.halvesDown_fld {f : Fld} (hr : f.reg = .SYS_MODE ∨ f.reg = .SYS_RSTCAUSE) : s.halvesDown.fld f = s.fld f := by
  have hne : f.reg ≠ .FLT_STAT := by rcases hr with hr | hr <;> rw [hr] <;> decide
  have hlast : s.halvesDown.fld f = ((({ s with flt := { s.flt with bothLost := true } }).flag FLT_STAT.AOK false).flag
      FLT_STAT.BOK false).fld f := by
    rcases hr with hr | hr <;>
    exact ((State.ledSync_fr (Nat.or_self _) (.id _ _)).fld f _ _ _ (by rw [hr]; rfl)).trans
      ((State.showForced_fr (Nat.or_self _) (.id _ _)).fld f _ _ _ (by rw [hr]; rfl))
  rw [hlast, State.fld_flag_reg _ _ hne, State.fld_flag_reg _ _ hne]
  rfl

/-! ## The reset of a power island (R79) -/

theorem Tbl.get_filter_not {κ α : Type} [DecidableEq κ] {p : κ × α → Bool} {k : κ} (h : ∀ v, p (k, v) = false) (t : Tbl κ α)
    (d : α) : Tbl.get (t.filter p) k d = d := by
  induction t with
  | nil => rfl
  | cons x t ih =>
    obtain ⟨k', v⟩ := x
    rw [List.filter_cons]
    split
    case isTrue hp =>
      have hk : k' ≠ k := by
        rintro rfl
        rw [h v] at hp
        cases hp
      rw [Tbl.get, if_neg hk, ih]
    case isFalse => exact ih

/-- Outputs set one after the other to the same record all hold it. -/
theorem State.out_setOuts {o : OutSt} {ts : List Nat} {x : Nat} (hx : x ∈ ts) :
    (forEach ts (fun t s => s.setOut t o) s).out x = o := by
  have keep : ∀ (ts : List Nat) (u : State), u.out x = o → (forEach ts (fun t s => s.setOut t o) u).out x = o := by
    intro ts u hu
    refine Holds.forEach (P := fun u => u.out x = o) (fun t u hu => ?_) hu
    by_cases ht : t = x
    · subst ht
      exact Tbl.get_set_self _ _ _ _
    · exact (Tbl.get_set_ne (Ne.symm ht) _ _ _).trans hu
  induction ts generalizing s with
  | nil => cases hx
  | cons t ts ih =>
    rcases List.mem_cons.mp hx with rfl | hx
    · exact keep ts _ (Tbl.get_set_self _ _ _ _)
    · exact ih hx

theorem mem_slots {v : Variant} {x : Nat} (h : slotFitted v x = true) : x ∈ slots v := by
  refine List.mem_filter.mpr ⟨List.mem_range.mpr ?_, h⟩
  refine Nat.lt_of_not_le fun hx => ?_
  have : slotFitted v x = false := by
    unfold slotFitted
    simp only [if_neg (show ¬ x < 48 by omega), if_neg (show ¬ x < 60 by omega), if_neg (show ¬ x < 72 by omega),
      if_neg (show ¬ x < 75 by omega), if_neg (show ¬ x < 77 by omega), if_neg (show ¬ x < 93 by omega)]
  rw [this] at h
  cases h

/-- Every bit of a mask but those of the always-on part, the outputs and the trips. -/
def offMask : Nat := without 295 ^^^ (1 <<< 296) ^^^ (1 <<< 302)

/-- The turning off that ends an island's reset leaves alone what the reset has set. -/
theorem State.islandReset_fr_of (s : State) (p : Nat) : ∃ u : State, Fr offMask u (s.islandReset p) ∧
    u.sys.stag = s.sys.stag.filter (fun x => islandOf x.1 != p) ∧
    (∀ x, slotFitted s.variant x = true → islandOf x = p → u.out x = { (default : OutSt) with follow := .off }) ∧
    (∀ x, islandOf x = p → u.trip? x = default) := by
  unfold State.islandReset
  extract_lets ts s1 late s2 sys2 s4 flt4 pwr0 s5 s6 out0 s7
  have h1 : Fr (without 295) s s1 := Fr.forEach (fun _ _ h => Fr.ite (State.setLock_fr rfl h) h) (.id _ _)
  have h2 : Fr (without 295) s s2 := Fr.forEach (fun x _ h => State.setReg_fr (by cases x.1.reg <;> rfl) h) h1
  have h6 : Fr (without 295 ^^^ (1 <<< 302)) s5 s6 := State.setActive_fr rfl (.id _ _)
  have h7 : Fr (without 295 ^^^ (1 <<< 302)) s6 s7 := Fr.forEach (fun _ _ h => State.setOut_fr rfl h) (.id _ _)
  refine ⟨s7, Fr.forEach (fun t u h => Fr.ite (State.stageOff_fr rfl h) h) (.id _ _), ?_, fun x hx hp => ?_, fun x hp => ?_⟩
  · rw [h7.sys rfl, h6.sys rfl, ← h1.sys rfl]
    exact congrArg (fun y : SysSt => y.stag.filter fun x => islandOf x.1 != p) (h2.sys rfl |>.trans (h1.sys rfl).symm)
  · exact State.out_setOuts (List.mem_filter.mpr ⟨mem_slots hx, by simpa using hp⟩)
  · unfold State.trip?
    rw [h7.trips rfl, h6.trips rfl]
    exact Tbl.get_filter_not (fun v => by simpa using hp) _ _

/-- Start begins in S1: mode code 0, BUSY, PHASE 0. -/
theorem State.startBegin_enters (s : State) (p : Nat) (b : Bool) : (s.startBegin p b).sys.phase = .s1 ∧
    (s.startBegin p b).fld SYS_MODE.MODE = 0 ∧ (s.startBegin p b).fld SYS_MODE.PREV = p % 16 ∧
    (s.startBegin p b).bit SYS_MODE.BUSY = true ∧ (s.startBegin p b).fld SYS_START.PHASE = 0 := by
  unfold State.startBegin
  refine ⟨rfl, ?_, ?_, ?_, ?_⟩ <;> simp

theorem State.startBegin_strap (s : State) (p : Nat) (b : Bool) :
    (s.startBegin p b).bit TWN_STAT.STRAP = s.bit TWN_STAT.STRAP :=
  Fr.bitEq (m := without Reg.TWN_STAT.ctorIdx) (State.startBegin_fr rfl (.id _ _)) _ _ _ _ rfl

/-- Settles O27: each reset goes through one of R82's entries to Hold; the rest reads what the command writes last. -/
theorem startAndReset : Obligations.StartAndReset := by
  unfold Obligations.StartAndReset
  refine ⟨fun s d h => ⟨_, rfl, ?_⟩, fun s a hlo hhi => ⟨_, rfl, ?_⟩, fun s c h1 h2 => ⟨_, rfl, ?_⟩, fun s h1 h2 => ⟨_, rfl, ?_⟩,
    fun s b h1 h2 h3 hok => ⟨_, rfl, ?_⟩, fun s h1 h2 h3 hok => ⟨_, rfl, ?_⟩, fun s w h1 h2 hup => ⟨_, rfl, ?_⟩,
    fun s h1 h2 hrun => ⟨_, rfl, ?_⟩, fun s h => ⟨_, rfl, ?_⟩, fun s p hp h => ⟨_, rfl, ?_⟩, fun s x hx ht hf => ⟨_, rfl, ?_⟩⟩
  · rw [if_neg (by simp [h])]
    obtain ⟨hphase, hmode, -, hbusy, hstart⟩ := State.startBegin_enters
      ({ s with tb := 0, sys := { s.sys with deputyStrap := d } }.flag TWN_STAT.STRAP d) 0 false
    rw [State.ship_sys, State.ship_fld, State.ship_bit, State.ship_bit, State.ship_fld, State.startBegin_strap]
    exact ⟨hphase, hmode, hbusy, State.bit_flag_self _ _ d _ _ _ (by decide) (by decide), hstart⟩
  · have hclear : s.powerOnReset.byte a = unlisted a := Memory.get_clear (Nat.zero_le a) (by omega) s.abandonSlot.mem
    refine ⟨rfl, rfl, ?_, (State.abandonSlot_fr rfl (.id everything s)).pending⟩
    rw [State.ship_byte, hclear, unlisted, if_neg (by simp; omega), if_neg (by simp; omega)]
  · obtain ⟨hphase, hmode, hprev, hbusy, hcause⟩ := State.logicReset_enters c h1 h2
    exact ⟨hphase, hmode, hprev, hbusy, hcause⟩
  · obtain ⟨hphase, hmode, -, -, hcause⟩ := State.logicReset_enters (s := s.dropTwok) .brownout h1 h2
    refine ⟨hphase, hmode, hcause, ?_⟩
    rw [State.ship_bit, State.logicReset_live (s := s.dropTwok) h1 h2]
    exact State.resetToHold_twoko _
  · rw [if_neg (by simp [h1, h2, hok]; exact fun hp => h3.resolve_left (absurd hp))]
    obtain ⟨hphase, hmode, -, -, hcause⟩ := State.logicReset_enters (s := s.raise 0 0 3) .refloss h1 h2
    exact ⟨hphase, hmode, hcause⟩
  · rw [if_neg (by rcases hok with hok | hok <;> simp [h1, hok])]
    obtain ⟨hphase, hmode, -, -, hcause⟩ := State.logicReset_enters (s := s.dropTwok) .conslost h1 h2
    rw [State.ship_sys, State.ship_fld, State.ship_bit, State.ship_bit, State.ship_bit, State.ship_flt, State.bothDown_eq,
      State.halvesDown_phase, State.halvesDown_fld (.inl rfl), State.bit_of_fld (State.halvesDown_fld (.inr rfl))]
    exact ⟨hphase, hmode, hcause, (State.halvesDown_ok _).1, (State.halvesDown_ok _).2, State.halvesDown_bothLost _⟩
  · obtain ⟨hphase, hmode, -, -, hcause⟩ := State.logicReset_enters (s := s) .hostrst h1 h2
    have hrun : s.runSysRstcmd w 0xA5C3 = s.logicReset .hostrst := by simp [State.runSysRstcmd, hup]
    rw [hrun]
    exact ⟨hphase, hmode, hcause⟩
  · obtain ⟨hphase, hmode, -, -, hcause⟩ := State.logicReset_enters (s := s.raise 0 0 2) .wdog h1 h2
    rw [if_pos hrun]
    exact ⟨hphase, hmode, hcause⟩
  · obtain ⟨hphase, hmode, hprev, hbusy, -⟩ := s.startBegin_enters 10 true
    rw [if_pos (by simp [h]), State.ship_sys, State.ship_fld, State.ship_fld, State.ship_bit]
    exact ⟨hphase, hmode, hprev, hbusy, rfl⟩
  · rw [if_neg (by simp [h]; omega)]
    obtain ⟨u, hfr, hstag, hout, htrip⟩ := s.islandReset_fr_of p
    refine ⟨?_, fun x hx hi => ?_, fun x hi => ?_⟩
    · rw [State.ship_sys, hfr.sys rfl, hstag]
    · exact (congrArg (fun o => Tbl.get o x default) (hfr.outs rfl)).trans (hout x hx hi)
    · exact (congrArg (fun o => Tbl.get o x default) (hfr.trips rfl)).trans (htrip x hi)
  · rw [if_pos (by simp [ht, hf])]
    have hled : Fr (without 295 ^^^ (1 <<< 296) ^^^ (1 <<< Reg.SYS_RSTCAUSE.ctorIdx)) (s.expireHold x)
      (s.expireHold x).ledSync := State.ledSync_fr rfl (.id _ _)
    have hself : (s.expireHold x).out x = { s.out x with follow := .limp, timer := false } := Tbl.get_set_self _ _ _ _
    have hout : (s.ship (s.expireHold x).ledSync).out x = { s.out x with follow := .limp, timer := false } :=
      (congrArg (fun o => Tbl.get o x default) (hled.outs rfl)).trans hself
    rw [hout, State.ship_sys, State.ship_bit, hled.sys rfl, hled.bitEq _ _ _ _ rfl]
    exact ⟨rfl, rfl, State.bit_flag_self _ _ _ _ _ _ (by decide) (by decide), rfl⟩

end Sys2Proof.Machine
end

section
/-! The phases of Start (statement O28; spec/02 R62 to R65). -/

namespace Sys2Proof.Machine

variable {s t : State}

/-! ## What a boundary leaves in SYS_MODE (R59) -/

theorem Tbl.get_filter_keep {κ α : Type} [DecidableEq κ] {p : κ × α → Bool} {k : κ} (h : ∀ v, p (k, v) = true) (t : Tbl κ α)
    (d : α) : Tbl.get (t.filter p) k d = Tbl.get t k d := by
  induction t with
  | nil => rfl
  | cons x t ih =>
    obtain ⟨k', v⟩ := x
    rw [List.filter_cons]
    split
    case isTrue => rw [Tbl.get, Tbl.get, ih]
    case isFalse hp =>
      have hk : k' ≠ k := by
        rintro rfl
        exact hp (h v)
      rw [Tbl.get, if_neg hk, ih]

/-- SYS_MODE holds a word. -/
def ModeIs (w : Word) (s : State) : Prop := s.reg ⟨.SYS_MODE, 0, 0, 0⟩ = w

/-- A function whose mask leaves SYS_MODE out keeps it. -/
theorem ModeIs.fr {w : Word} (h : Fr (without Reg.SYS_MODE.ctorIdx) s t) (k : ModeIs w s) : ModeIs w t :=
  (h.regs _ rfl).trans k

variable {w : Word}

theorem State.fabricStop_mode (h : ModeIs w s) : ModeIs w s.fabricStop :=
  (Tbl.get_filter_keep (fun _ => rfl) s.regs _).trans h

theorem State.ethPark_mode (h : ModeIs w s) : ModeIs w s.ethPark :=
  (Tbl.get_filter_keep (fun _ => rfl) s.regs _).trans h

theorem State.logicDown_mode (h : ModeIs w s) : ModeIs w s.logicDown := by
  unfold State.logicDown
  refine .fr (State.flag_fr rfl rfl (State.put_fr rfl rfl (Fr.forEach (fun _ _ k => State.setCore_fr rfl k)
    (State.coresPower_fr rfl (.id _ _))))) ?_
  exact State.fabricStop_mode (.fr (State.lchFabric_fr rfl (.id _ _)) (Holds.ite (.fr (State.linkOff_fr rfl (.id _ _)) h) h))

/-- A boundary shows its mode once, and nothing after that touches SYS_MODE. -/
theorem State.boundary_reg (s : State) (m n prev : Nat) (k : BKind) : ∃ u : State,
    (s.boundary m n prev k).reg ⟨.SYS_MODE, 0, 0, 0⟩ = (u.showMode n prev).reg ⟨.SYS_MODE, 0, 0, 0⟩ := by
  refine ⟨s.takeWords (s.updates m n k) n k, ?_⟩
  generalize hw : ((s.takeWords (s.updates m n k) n k).showMode n prev).reg ⟨.SYS_MODE, 0, 0, 0⟩ = w
  change ModeIs w _ at hw
  change ModeIs w _
  unfold State.boundary
  extract_lets +onlyGivenNames old ups changed s1 s2 s3
  have h3 : ModeIs w s3 := .fr (State.flushEdges_fr rfl (State.lchBoundary_fr rfl (State.inputsBoundary_fr rfl
    (State.fabricBoundary_fr rfl (State.serviceEdge_fr rfl (.id _ _)))))) hw
  have sync : ∀ (ts : List Nat) (u : State), ModeIs w u → ModeIs w (forEach ts (fun t s => s.syncSlot t) u) :=
    fun ts u => Holds.forEach fun _ _ => .fr (State.syncSlot_fr rfl (.id _ _))
  refine Holds.ite (P := ModeIs w) ?_ ?_
  · extract_lets +onlyGivenNames s4 s5 s6 s7 s8 s9
    have h7 : ModeIs w s7 := sync _ _ (.fr (Fr.forEach (fun _ _ k => State.setOut_fr rfl k) (State.flag_fr rfl rfl
      (State.parkInputs_fr rfl (State.parkLatch_fr rfl (State.settleLines_fr rfl (State.ctxBoundary_fr rfl (.id _ _))))))) h3)
    have h8 : ModeIs w s8 := Holds.ite (.fr (State.netStart_fr rfl (.id _ _)) h7) h7
    have h9 : ModeIs w s9 := State.logicDown_mode (State.ethPark_mode (.fr (State.portsPark_fr rfl (.id _ _)) h8))
    exact .fr (State.boundaryReach_fr rfl (Fr.set_sys rfl (.id _ _))) h9
  · extract_lets +onlyGivenNames s4 s5 s6 sys6 fab6 s7 s8
    have h5 : ModeIs w s5 := sync _ _ (.fr (State.boundaryReach_fr rfl (State.followMode_fr rfl (.id _ _))) h3)
    have h6 : ModeIs w s6 := .fr (State.ledBoundary_fr rfl (.id _ _)) h5
    clear_value s6
    have h7 : ModeIs w s7 := h6
    clear_value s7
    have h8 : ModeIs w s8 := by
      unfold s8
      cases k with
      | start => exact .fr (State.netStart_fr rfl (.id _ _)) h7
      | wake => exact .fr (State.netWake_fr rfl (.id _ _)) h7
      | plain => exact .fr (State.netBoundary_fr rfl (.id _ _)) h7
    exact .fr (State.settleLines_fr rfl (State.wdBoundary_fr rfl (State.ctxBoundary_fr rfl (.id _ _)))) h8

/-- After a boundary SYS_MODE shows its mode and no transition in progress. -/
theorem State.boundary_mode (s : State) (m n prev : Nat) (k : BKind) :
    (s.boundary m n prev k).mode = n % 16 ∧ (s.boundary m n prev k).bit SYS_MODE.BUSY = false ∧
      (s.boundary m n prev k).fld SYS_MODE.PREV = prev % 16 := by
  obtain ⟨u, hu⟩ := s.boundary_reg m n prev k
  have hfld : ∀ f : Fld, f.reg = .SYS_MODE → (s.boundary m n prev k).fld f = (u.showMode n prev).fld f := by
    intro f hf
    unfold State.fld
    rw [show f.ref 0 0 0 = ⟨.SYS_MODE, 0, 0, 0⟩ by rw [Fld.ref, hf], hu]
  refine ⟨(hfld _ rfl).trans ?_, (State.bit_of_fld (hfld _ rfl)).trans ?_, (hfld _ rfl).trans ?_⟩ <;> simp [State.showMode]

/-! ## A tamper event leaves the trial of the slots as it was (R63, R582) -/

/-- Whether one slot has failed already, and whether the reading of the other met an error, are as they were. -/
def TrialKept (s₀ s : State) : Prop := s.sys.fellBack = s₀.sys.fellBack ∧ s.sys.readErr = s₀.sys.readErr

namespace TrialKept

variable {s₀ s t : State}

theorem upd (hs : TrialKept s t) (h : TrialKept s₀ s) : TrialKept s₀ t := by
  obtain ⟨hf, hr⟩ := hs
  obtain ⟨hf', hr'⟩ := h
  exact ⟨hf.trans hf', hr.trans hr'⟩

theorem fr (hf : Fr (without 295) s t) (h : TrialKept s₀ s) : TrialKept s₀ t :=
  upd ⟨congrArg SysSt.fellBack (hf.sys rfl), congrArg SysSt.readErr (hf.sys rfl)⟩ h

theorem set_sys {x : SysSt} (hx : x.fellBack = s.sys.fellBack ∧ x.readErr = s.sys.readErr) (h : TrialKept s₀ s) :
    TrialKept s₀ { s with sys := x } :=
  upd hx h

end TrialKept

section

variable {s₀ s : State}

theorem State.fabricStop_trial (h : TrialKept s₀ s) : TrialKept s₀ (State.fabricStop s) := by
  unfold State.fabricStop
  exact h

theorem State.endHold_trial (h : TrialKept s₀ s) : TrialKept s₀ (State.endHold s) := by
  unfold State.endHold
  refine Holds.ite ?_ ?_
  · exact h
  · extract_lets +onlyGivenNames x0
    extract_lets +onlyGivenNames x1
    have h2 : TrialKept s₀ x1 := TrialKept.fr (State.put_fr rfl rfl (.id _ _)) (TrialKept.fr (State.put_fr rfl rfl
        (.id _ _)) h)
    clear_value x1
    extract_lets +onlyGivenNames x3
    extract_lets +onlyGivenNames x4
    have h5 : TrialKept s₀ x4 := TrialKept.set_sys ⟨rfl, rfl⟩ h2
    clear_value x4
    split
    · exact TrialKept.fr (Fr.set_flt rfl (.id _ _)) h5
    · exact h5

theorem State.cancelPend_trial (h : TrialKept s₀ s) : TrialKept s₀ (State.cancelPend s) := by
  unfold State.cancelPend
  split
  · split
    · exact Holds.ite h (TrialKept.fr (State.cancelRes_fr rfl (.id _ _)) h)
    · exact h
  · extract_lets +onlyGivenNames x0
    have h1 : TrialKept s₀ x0 := TrialKept.fr (State.cancelRes_fr rfl (.id _ _)) h
    clear_value x0
    exact TrialKept.fr (State.flag_fr rfl rfl (.id _ _)) (TrialKept.fr (State.put_fr rfl rfl (.id _ _))
        (TrialKept.set_sys ⟨rfl, rfl⟩ h1))

theorem State.closeWindow_trial {a1} (h : TrialKept s₀ s) : TrialKept s₀ (State.closeWindow s a1) := by
  unfold State.closeWindow
  extract_lets +onlyGivenNames x0
  have h1 : TrialKept s₀ x0 := by
    unfold x0
    refine Holds.forEach ?_ ?_
    · intro h2 s3 h4
      extract_lets +onlyGivenNames x5
      extract_lets +onlyGivenNames x6
      have h7 : TrialKept s₀ x6 := TrialKept.fr (State.holdCtx_fr rfl (.id _ _)) h4
      clear_value x6
      exact Holds.ite (TrialKept.fr (State.suspendHeld_fr rfl (.id _ _)) h7) h7
    · exact h
  clear_value x0
  extract_lets +onlyGivenNames x8
  have h9 : TrialKept s₀ x8 := State.fabricStop_trial (TrialKept.fr (State.lchFabric_fr rfl (.id _ _)) h1)
  clear_value x8
  extract_lets +onlyGivenNames x10
  extract_lets +onlyGivenNames x11
  have h12 : TrialKept s₀ x11 := TrialKept.fr (State.setCore_fr rfl (.id _ _)) h9
  clear_value x11
  extract_lets +onlyGivenNames x13
  have h14 : TrialKept s₀ x13 := Holds.ite h12 (TrialKept.fr (State.put_fr rfl rfl (.id _ _)) h12)
  clear_value x13
  refine TrialKept.fr (State.ctxCounts_fr rfl (.id _ _)) ?_
  exact h14

theorem State.beginWake_trial {a1} (h : TrialKept s₀ s) : TrialKept s₀ (State.beginWake s a1) := by
  unfold State.beginWake
  extract_lets +onlyGivenNames x0
  have h1 : TrialKept s₀ x0 := Holds.ite (State.closeWindow_trial h) h
  clear_value x0
  extract_lets +onlyGivenNames x2
  extract_lets +onlyGivenNames x3
  have h4 : TrialKept s₀ x3 := TrialKept.set_sys ⟨rfl, rfl⟩ h1
  clear_value x3
  exact Holds.ite h4 (TrialKept.fr (State.flag_fr rfl rfl (.id _ _)) (TrialKept.fr (State.put_fr rfl rfl (.id _ _))
      (TrialKept.fr (State.autoRes_fr rfl (.id _ _)) h4)))

theorem State.enterSealed_trial (h : TrialKept s₀ s) : TrialKept s₀ (State.enterSealed s) := by
  unfold State.enterSealed
  extract_lets +onlyGivenNames x0
  extract_lets +onlyGivenNames x1
  extract_lets +onlyGivenNames x2
  have h3 : TrialKept s₀ x2 := TrialKept.set_sys ⟨rfl, rfl⟩ h
  clear_value x2
  extract_lets +onlyGivenNames x4
  have h5 : TrialKept s₀ x4 := TrialKept.fr (State.flag_fr rfl rfl (.id _ _)) (TrialKept.fr (State.put_fr rfl rfl
      (.id _ _)) (TrialKept.fr (State.put_fr rfl rfl (.id _ _)) (TrialKept.fr (State.put_fr rfl rfl (.id _ _)) h3)))
  clear_value x4
  exact TrialKept.fr (State.ledSync_fr rfl (.id _ _)) (TrialKept.fr (State.dropTwok_fr rfl (.id _ _)) (TrialKept.fr
      (State.followAll_fr rfl (.id _ _)) (State.endHold_trial h5)))

theorem State.wakeEvent_trial {a1 a2 a3} (h : TrialKept s₀ s) : TrialKept s₀ (State.wakeEvent s a1 a2 a3) := by
  unfold State.wakeEvent
  split
  · extract_lets +onlyGivenNames x0
    extract_lets +onlyGivenNames x1
    have h2 : TrialKept s₀ x1 := TrialKept.fr (State.flag_fr rfl rfl (.id _ _)) (TrialKept.fr (State.noteSource_fr
        rfl (.id _ _)) h)
    clear_value x1
    exact TrialKept.set_sys ⟨rfl, rfl⟩ h2
  · extract_lets +onlyGivenNames x3
    have h4 : TrialKept s₀ x3 := TrialKept.fr (State.noteSource_fr rfl (.id _ _)) h
    clear_value x3
    exact Holds.ite h4 (State.beginWake_trial (State.cancelPend_trial h4))
  · extract_lets +onlyGivenNames x5
    have h6 : TrialKept s₀ x5 := TrialKept.fr (State.noteSource_fr rfl (.id _ _)) h
    clear_value x5
    refine Holds.ite ?_ ?_
    · exact State.cancelPend_trial h6
    · exact h6
  · extract_lets +onlyGivenNames x9
    have h10 : TrialKept s₀ x9 := TrialKept.fr (State.noteSource_fr rfl (.id _ _)) h
    clear_value x9
    refine Holds.ite ?_ ?_
    · exact State.cancelPend_trial h10
    · exact h10
  · extract_lets +onlyGivenNames x13
    have h14 : TrialKept s₀ x13 := TrialKept.fr (State.noteSource_fr rfl (.id _ _)) h
    clear_value x13
    refine Holds.ite ?_ ?_
    · exact State.cancelPend_trial h14
    · exact h14
  · exact h

theorem State.tamper_trial {a1 a2} (h : TrialKept s₀ s) : TrialKept s₀ (State.tamper s a1 a2) := by
  unfold State.tamper
  extract_lets +onlyGivenNames x0
  clear_value x0
  split
  rename_i y1 y2 y3 y4
  refine Holds.cutp y4 ?_ (fun h5 => ?_)
  · exact TrialKept.fr (State.abortWork_fr rfl (.id _ _)) h
  extract_lets +onlyGivenNames x6
  have h7 : TrialKept s₀ x6 := TrialKept.fr (State.logTamper_fr rfl (.id _ _)) h5
  clear_value x6
  extract_lets +onlyGivenNames x8
  clear_value x8
  extract_lets +onlyGivenNames x9
  clear_value x9
  refine Holds.ite ?_ ?_
  · extract_lets +onlyGivenNames x10
    clear_value x10
    extract_lets +onlyGivenNames x11
    have h12 : TrialKept s₀ x11 := Holds.ite (TrialKept.fr (Fr.set_key rfl (.id _ _)) h7) h7
    clear_value x11
    exact State.wakeEvent_trial (TrialKept.fr (State.flag_fr rfl rfl (.id _ _)) h12)
  · extract_lets +onlyGivenNames x13
    have h14 : TrialKept s₀ x13 := Holds.ite (TrialKept.fr (State.sealStore_fr rfl (.id _ _)) h7) h7
    clear_value x13
    exact Holds.ite (State.enterSealed_trial h14) (Holds.ite (State.cancelPend_trial h14) h14)

end

/-! ## The phases -/

/-- S2's retest of two halves that pass (R62, R525). -/
theorem State.s2Check_passed (s : State) : (s.s2Check 0 0).sys.phase = .s3 ∧ (s.s2Check 0 0).fld SYS_START.PHASE = 2 := by
  unfold State.s2Check
  extract_lets +onlyGivenNames s1
  clear_value s1
  rw [if_pos (by decide)]
  extract_lets +onlyGivenNames sys1 flt1 s2 s3 s4 flt4 s5
  have h4 : Fr (without 295) s2 s4 :=
    Fr.forEach (fun _ _ h => State.clearSrc_fr rfl (State.clearSrc_fr rfl (State.clearSrc_fr rfl h))) (State.flag_fr rfl rfl (.id _ _))
  have h5 : s5.sys.phase = s4.sys.phase := by
    unfold s5
    clear_value s4
    split <;> rfl
  exact ⟨h5.trans h4.phase, State.fld_put_same _ _ (by decide)⟩

/-- A half that fails keeps S2 (R523). -/
theorem State.s2Check_failed (s : State) {a b : Nat} (h : a ≠ 0 ∨ b ≠ 0) : (s.s2Check a b).sys.phase = .s2fail := by
  unfold State.s2Check
  extract_lets +onlyGivenNames s1
  clear_value s1
  rw [if_neg (by simp; omega)]
  extract_lets sys1 s2
  exact (State.s2Half_fr rfl (State.s2Half_fr rfl (.id (without 295) _)) : Fr _ s2 _).phase

theorem exec_startSupervisorCheckDone {a b : Nat} (h : s.sys.phase = .s2) (ha : a < 16) (hb : b < 16) :
    exec (.startSupervisorCheckDone a b) s = .next (s.ship (s.s2Check a b)) := by
  change execStartSupervisorCheckDone a b s = _
  simp [execStartSupervisorCheckDone, h, ha, hb]

theorem exec_s2RetryTimer {a b : Nat} (h : s.sys.phase = .s2fail) (ha : a < 16) (hb : b < 16) :
    exec (.s2RetryTimer a b) s = .next (s.ship (s.s2Check a b)) := by
  change execS2RetryTimer a b s = _
  simp [execS2RetryTimer, h, ha, hb]

/-- A slot that fails (R63): whatever it leads to keeps the error of its reading, and the first failure leads to the other slot. -/
theorem State.slotFails_readErr (s : State) (e : LoadErr) : (s.slotFails e).sys.readErr = s.sys.readErr := by
  unfold State.slotFails
  extract_lets +onlyGivenNames b s1 s2
  have h1 : TrialKept s s1 := .fr (State.loadResult_fr rfl (.id _ _)) ⟨rfl, rfl⟩
  have h2 : TrialKept s s2 := Holds.ite (State.tamper_trial h1) h1
  clear_value s2
  split
  · exact (State.enterSealed_trial h2).2
  · exact h2.2

theorem State.slotFails_first (s : State) (e : LoadErr) (h : s.sys.fellBack = false) :
    (s.slotFails e).sys.phase = .s5 ∧ (s.slotFails e).sys.trySlot = !s.sys.trySlot := by
  unfold State.slotFails
  extract_lets +onlyGivenNames b s1 s2
  have h1 : TrialKept s s1 := .fr (State.loadResult_fr rfl (.id _ _)) ⟨rfl, rfl⟩
  have h2 : TrialKept s s2 := Holds.ite (State.tamper_trial h1) h1
  clear_value s2
  rw [if_neg (by rw [h2.1, h]; decide)]
  exact ⟨rfl, rfl⟩

/-- S5 ends with the slot's error kept; the slot goes on to S6 where it passes. -/
theorem exec_imageReadDone_readErr (e : Bool) (h : s.sys.phase = .s5) : ∃ t, exec (.imageReadDone e) s = .next t ∧
    t.sys.readErr = e ∧ ((s.checkSlot s.sys.trySlot e).isRight = true → t.sys.phase = .s6 ∧ t.fld SYS_START.PHASE = 5) := by
  refine ⟨_, rfl, ?_⟩
  rw [if_neg (by simp [h])]
  have hcheck : State.checkSlot { s with sys := { s.sys with readErr := e } } s.sys.trySlot e = s.checkSlot s.sys.trySlot e := rfl
  dsimp only
  rw [hcheck]
  cases hc : s.checkSlot s.sys.trySlot e with
  | inl x =>
    refine ⟨?_, fun hr => by cases hr⟩
    dsimp only
    split
    · exact State.slotFails_readErr _ x
    · rfl
  | inr c => exact ⟨rfl, fun _ => ⟨rfl, State.fld_put_same _ _ (by decide)⟩⟩

/-- What the first attempt at the device key that succeeds writes. -/
def State.keyFound (s : State) : State :=
  (({ s with sys := { s.sys with phase := .s4 } }).put SYS_START.PHASE 3).setRegBytes .KEY_UID deviceUid

theorem State.keyFound_phase (s : State) : s.keyFound.sys.phase = .s4 ∧ s.keyFound.fld SYS_START.PHASE = 3 := by
  have hkey : ∀ u : State, Fr (without 295 ^^^ (1 <<< Reg.SYS_START.ctorIdx)) u (u.setRegBytes .KEY_UID deviceUid) :=
    fun u => State.setRegBytes_fr rfl rfl (.id _ _)
  unfold State.keyFound
  exact ⟨by rw [(hkey _).sys rfl]; rfl, ((hkey _).fld _ _ _ _ rfl).trans (State.fld_put_same _ _ (by decide))⟩

theorem State.keyFound_changes (s : State) : Changes [.SYS_START, .KEY_UID] [.sys, .twn] s (s.ship s.keyFound) := by
  have hfr : Fr ((1 <<< Reg.SYS_START.ctorIdx) ||| (1 <<< Reg.KEY_UID.ctorIdx) ||| (1 <<< 295) ||| (1 <<< 318)) s
      (s.ship s.keyFound) :=
    State.ship_fr rfl (State.setRegBytes_fr rfl rfl (State.put_fr rfl rfl (Fr.set_sys rfl (.id _ _))))
  exact hfr.changes_of_covered (by decide +kernel)

/-- S3 ends with a device key (R560). -/
theorem exec_pufAttemptDone_ok (h : s.sys.phase = .s3) : exec (.pufAttemptDone true) s = .next (s.ship s.keyFound) := by
  change execPufAttemptDone true s = _
  simp [execPufAttemptDone, State.keyFound, h]

theorem exec_imageVerifyDone_fails {e : LoadErr} (h : s.sys.phase = .s6)
    (he : s.checkSlot s.sys.trySlot s.sys.readErr = .inl e) : exec .imageVerifyDone s = .next (s.ship (s.slotFails e)) := by
  change execImageVerifyDone s = _
  simp [execImageVerifyDone, h, he]

/-- What S6 leaves of a slot that passes (R62). -/
def State.slotPasses (s : State) (c : Catalogue) : State :=
  let s := { s with cat := { s.cat with cat := c }, sys := { s.sys with phase := .s7 } }
  ((s.loadResult s.sys.trySlot ⟨0, 0, 0⟩).flag SYS_START.SLOT s.sys.trySlot).put SYS_START.PHASE 6

theorem State.slotPasses_phase (s : State) (c : Catalogue) : (s.slotPasses c).sys.phase = .s7 ∧ (s.slotPasses c).cat.cat = c ∧
    (s.slotPasses c).fld SYS_START.PHASE = 6 := by
  unfold State.slotPasses
  extract_lets +onlyGivenNames cat0 sys0 s1
  have hshow : Fr (without 295 ^^^ (1 <<< 297)) s1
      (((s1.loadResult s1.sys.trySlot ⟨0, 0, 0⟩).flag SYS_START.SLOT s1.sys.trySlot).put SYS_START.PHASE 6) :=
    State.put_fr rfl rfl (State.flag_fr rfl rfl (State.loadResult_fr rfl (.id _ _)))
  exact ⟨congrArg SysSt.phase (hshow.sys rfl), congrArg CatSt.cat (hshow.cat rfl), State.fld_put_same _ _ (by decide)⟩

theorem exec_imageVerifyDone_passes {c : Catalogue} (h : s.sys.phase = .s6)
    (hc : s.checkSlot s.sys.trySlot s.sys.readErr = .inr c) : exec .imageVerifyDone s = .next (s.ship (s.slotPasses c)) := by
  change execImageVerifyDone s = _
  simp [execImageVerifyDone, State.slotPasses, h, hc]

/-- S6 ends in S7, or the first failure goes back to S5. -/
theorem exec_imageVerifyDone_phase (h : s.sys.phase = .s6) : ∃ t, exec .imageVerifyDone s = .next t ∧
    (∀ c, s.checkSlot s.sys.trySlot s.sys.readErr = .inr c →
      t.sys.phase = .s7 ∧ t.cat.cat = c ∧ t.fld SYS_START.PHASE = 6) ∧
    (∀ e, s.checkSlot s.sys.trySlot s.sys.readErr = .inl e → s.sys.fellBack = false →
      t.sys.phase = .s5 ∧ t.sys.trySlot = !s.sys.trySlot) := by
  cases hc : s.checkSlot s.sys.trySlot s.sys.readErr with
  | inl e =>
    refine ⟨_, exec_imageVerifyDone_fails h hc, fun c hc => (by cases hc), fun e' he hf => ?_⟩
    obtain rfl := Sum.inl.inj he
    rw [State.ship_sys]
    exact s.slotFails_first e hf
  | inr c =>
    refine ⟨_, exec_imageVerifyDone_passes h hc, fun c' hc => ?_, fun e he => (by cases he)⟩
    obtain rfl := Sum.inr.inj hc
    rw [State.ship_sys, State.ship_cat, State.ship_fld]
    exact s.slotPasses_phase c

/-- What S7 does once the configuration is in its registers: it ends with the phase. -/
theorem exec_catalogueLoadDone_loaded (h : s.sys.phase = .s7) : ∃ t, exec .catalogueLoadDone s = .next t ∧ t.sys.phase = .s8 ∧
    t.cat.loaded = true ∧ t.fld SYS_START.PHASE = 7 := by
  refine ⟨_, rfl, ?_⟩
  rw [if_neg (by simp [h]), State.ship_sys, State.ship_cat, State.ship_fld]
  extract_lets +onlyGivenNames c cat0 s1 s2 s3 s4 s5 sys5
  have h1 : s1.cat.loaded = true := congrArg CatSt.loaded
    ((State.loadBase_fr rfl (.id (without 297) { s with cat := { s.cat with loaded := true } })).cat rfl)
  have h4 : Fr (without 297) s1 s4 := Holds.ite (P := Fr (without 297) s1)
    (State.put_fr rfl rfl (State.put_fr rfl rfl (State.flag_fr rfl rfl (State.flag_fr rfl rfl (State.flag_fr rfl rfl (.id _ _))))))
    (State.initBanks_fr rfl (State.put_fr rfl rfl (State.put_fr rfl rfl (State.flag_fr rfl rfl (State.flag_fr rfl rfl
      (State.flag_fr rfl rfl (.id _ _)))))))
  have h5 : Fr (without 297) s1 s5 := State.linkStart_fr rfl (State.showPair_fr rfl (State.logicStart_fr rfl
    (State.coresPower_fr rfl h4)))
  clear_value s5
  exact ⟨rfl, (congrArg CatSt.loaded (h5.cat rfl)).trans h1, State.fld_put_same _ _ (by decide)⟩

theorem exec_startBoundary_first (h : s.sys.phase = .s8) : ∃ t, exec .startBoundary s = .next t ∧ t.sys.interrupted = none ∧
    t.sys.afterHold = false ∧ t.fld SYS_START.PHASE = 8 ∧ t.mode = s.firstMode % 16 ∧ t.bit SYS_MODE.BUSY = false := by
  refine ⟨_, rfl, ?_⟩
  rw [if_neg (by simp [h]), State.ship_sys, State.ship_fld, State.ship_bit]
  extract_lets +onlyGivenNames first s1 s2 s3 s4
  have hfirst : first = s.firstMode := rfl
  obtain ⟨hmode, hbusy, -⟩ := s1.boundary_mode 0 first (if s1.sys.afterHold then 10 else 0) .start
  have h3 : Fr (without Reg.SYS_MODE.ctorIdx) s2 s3 := Fr.ite (State.armTwins_fr rfl (.id _ _)) (.id _ _)
  have h4 : Fr (without Reg.SYS_MODE.ctorIdx) s2 s4 := State.put_fr rfl rfl (State.endHold_fr rfl h3)
  have hphase : s4.fld SYS_START.PHASE = 8 := State.fld_put_same _ _ (by decide)
  clear_value s4
  exact ⟨rfl, rfl, hphase, (h4.fld _ _ _ _ rfl).trans hmode, (h4.bitEq _ _ _ _ rfl).trans hbusy⟩

/-- Settles O28: each command writes its phase last, or nothing after it touches the phase. -/
theorem startPhases : Obligations.StartPhases := by
  unfold Obligations.StartPhases
  refine ⟨fun s h => ⟨_, rfl, ?_⟩,
    fun s h => ⟨_, exec_startSupervisorCheckDone h (by decide) (by decide), ?_⟩,
    fun s fa fb h ha hb hab => ⟨_, exec_startSupervisorCheckDone h ha hb, ?_⟩,
    fun s h => ⟨_, exec_s2RetryTimer h (by decide) (by decide), ?_⟩,
    fun s h => ⟨_, exec_pufAttemptDone_ok h, ?_⟩, fun s h => ⟨_, rfl, ?_⟩, fun s e h => exec_imageReadDone_readErr e h,
    fun s h => exec_imageVerifyDone_phase h, fun s h => exec_catalogueLoadDone_loaded h, fun s h => exec_startBoundary_first h⟩
  · simp [h]
  · rw [State.ship_sys, State.ship_fld]
    exact s.s2Check_passed
  · rw [State.ship_sys]
    exact s.s2Check_failed hab
  · rw [State.ship_sys, State.ship_fld]
    exact s.s2Check_passed
  · rw [State.ship_sys, State.ship_fld]
    exact ⟨s.keyFound_phase.1, s.keyFound_phase.2, s.keyFound_changes⟩
  · simp [h]

end Sys2Proof.Machine
end

section
/-! Mode requests, boundaries and wakes (statement O29; spec/02 R53 to R74, spec/11 R391). -/

namespace Sys2Proof.Machine

variable {s t : State}

/-! ## Requests (R54, R55) -/

theorem State.request_accepted {w : Who} {code : Nat} (h : s.judge code = 1) (hcode : code < 12) :
    (s.request w code).fld SYS_MODERES.RES = 1 ∧ (s.request w code).fld SYS_MODERES.REQMODE = code ∧
      (s.request w code).fld SYS_MODE.TARGET = code ∧ (s.request w code).bit SYS_MODE.BUSY = true := by
  have hlt : code % 16 = code := Nat.mod_eq_of_lt (by omega)
  unfold State.request
  rw [if_pos h, h]
  simp [State.setPend, hlt]

theorem State.cancelPend_of_pend {p : Pend} (h : s.sys.pend = some p) : s.cancelPend.sys.pend = none := by
  simp [State.cancelPend, h]

/-! ## Boundaries (R56 to R59, R115) -/

/-- A boundary that ends a requested transition shows the request carried out. -/
theorem State.done_request (s : State) {p : Pend} (hsrc : p.src ≤ 4) (ht : p.target < 16) :
    (s.done p).fld SYS_MODERES.RES = 2 ∧ (s.done p).fld SYS_MODERES.REQMODE = p.target := by
  have hlt : p.target % 16 = p.target := Nat.mod_eq_of_lt ht
  unfold State.done
  rw [if_pos (by simp [hsrc])]
  simp [hlt]

theorem exec_modeBoundary_run {p : Pend} (hphase : s.sys.phase = .run) (hopen : s.sys.pollOpen = false)
    (hpend : s.sys.pend = some p) :
    exec .modeBoundary s = .next (s.ship (((s.boundary s.mode p.target s.mode .plain).done p).clearPend)) := by
  change execModeBoundary s = _
  simp [execModeBoundary, hphase, hopen, hpend]

/-- A stagger step is taken from the list; what it does to outputs leaves the list alone. -/
theorem State.staggerStep_stag (s : State) (k : Nat) : (s.staggerStep k).sys.stag = s.sys.stag.filter (fun x => x.2.1 != k) := by
  unfold State.staggerStep
  extract_lets +onlyGivenNames due sys1 s1 s2 s3 s4 s5
  have h5 : Fr (without 295) s1 s5 := Fr.forEach (fun _ _ h => State.syncSlot_fr rfl h) (State.forceReach_fr rfl
    (Fr.forEach (fun _ _ h => State.setOut_fr rfl h)
      (Fr.forEach (fun u _ h => State.setReg_fr (by cases u.1.reg <;> rfl) h) (.id _ _))))
  have h6 : Fr (without 295) s1 (s5.ledBoundary false []) := State.ledBoundary_fr rfl h5
  rw [h6.sys rfl]

/-! ## Power-down and wakes (R69 to R72, R391) -/

theorem exec_powerDownDone_parked (h : s.sys.phase = .parkDown) (hl : s.sys.latched = []) :
    ∃ t, exec .powerDownDone s = .next t ∧ t.sys.phase = .parked := by
  refine ⟨_, rfl, ?_⟩
  rw [if_neg (by simp [h]), hl]
  rfl

theorem exec_wakePowerUpDone_w3 {w : Wake} (h : s.sys.phase = .w2) (hw : s.sys.waking = some w) (ht : w.target ≠ 0) :
    ∃ t, exec .wakePowerUpDone s = .next t ∧ t.sys.phase = .w3 := by
  refine ⟨_, rfl, ?_⟩
  rw [h, hw]
  dsimp only
  rw [if_neg ht]
  rfl

theorem two_pow_nBanks_lt (v : Variant) : (2 ^ nBanks v - 1) % 2 ^ MEM_STAT.AWAKE.width = 2 ^ nBanks v - 1 := by
  cases v <;> decide

theorem exec_retentionCheckDone_w4 (h : s.sys.phase = .w3) (hs : s.wakesToStart = false) (hb : s.banksAsleep = []) :
    ∃ t, exec (.retentionCheckDone true) s = .next t ∧ t.sys.phase = .w4 ∧
      t.fld MEM_STAT.AWAKE = 2 ^ nBanks s.variant - 1 := by
  refine ⟨_, rfl, ?_⟩
  rw [if_neg (by simp [h]), if_neg (by simp [hs]), if_neg (by simp), if_neg (by simp [hb]), State.ship_sys, State.ship_fld]
  extract_lets +onlyGivenNames s1 s2
  have hv : s1.variant = s.variant := by
    unfold s1
    split
    · rfl
    · exact (State.initBanks_fr rfl (.id everything s)).variant
  clear_value s1
  refine ⟨rfl, (State.fld_put_same _ _ (by decide)).trans ?_⟩
  rw [hv, two_pow_nBanks_lt]

/-! ## The end of a wake (R640) -/

/-- The words that a boundary writes keep what the Catalogue does not give. -/
theorem State.updates_given {m n : Nat} {k : BKind} {u : RegRef × Word} (h : u ∈ s.updates m n k) :
    ∃ w, u.2 = s.given u.1 w := by
  unfold State.updates at h
  obtain ⟨r, -, hr⟩ := List.mem_filterMap.mp h
  dsimp only at hr
  split at hr <;> split at hr <;> cases hr <;> exact ⟨_, rfl⟩

theorem State.given_of_no_mask {r : RegRef} (hr : r.reg.givenMask = 0) (w : Word) : s.given r w = s.reg r := by
  have none : ∀ x w : Word, (x &&& ~~~0) ||| (w &&& 0) = x := fun x w => by
    rw [show ~~~(0 : Word) = BitVec.allOnes 32 from rfl, BitVec.and_allOnes]
    simp
  rw [State.given, hr, none]

/-- The writes of a boundary leave a register alone in which the Catalogue gives nothing. -/
theorem State.takeWords_reg {m n : Nat} {k : BKind} {r : RegRef} (hr : r.reg.givenMask = 0) :
    (s.takeWords (s.updates m n k) n k).reg r = s.reg r := by
  have keep : ∀ (us : List (RegRef × Word)), (∀ u ∈ us, u ∈ s.updates m n k) → ∀ t : State, t.reg r = s.reg r →
      (forEach us (fun u s => s.setReg u.1 u.2) t).reg r = s.reg r := by
    intro us
    induction us with
    | nil => exact fun _ _ => id
    | cons u us ih =>
      intro hu t ht
      refine ih (fun v hv => hu v (List.mem_cons_of_mem _ hv)) _ ?_
      by_cases he : u.1 = r
      · obtain ⟨w, hw⟩ := State.updates_given (hu u List.mem_cons_self)
        rw [← he, State.reg_setReg_self, hw, State.given_of_no_mask (by rw [he]; exact hr)]
      · rw [State.reg_setReg_ne t _ (Ne.symm he), ht]
  exact keep _ (fun u hu => (List.mem_filter.mp hu).1) s rfl

/-- What a boundary into an operating mode does after its writes leaves SYS_START and the Catalogue alone. -/
theorem State.boundary_start (s : State) {m n prev : Nat} {k : BKind} (h1 : n ≠ 1) (h2 : n ≠ 2) :
    (s.boundary m n prev k).reg ⟨.SYS_START, 0, 0, 0⟩ = s.reg ⟨.SYS_START, 0, 0, 0⟩ ∧ (s.boundary m n prev k).cat = s.cat := by
  have hfr : Fr (without Reg.SYS_START.ctorIdx ^^^ (1 <<< 297)) (s.takeWords (s.updates m n k) n k) (s.boundary m n prev k) := by
    unfold State.boundary
    extract_lets +onlyGivenNames old ups changed s1 s2 s3
    rw [if_neg (by simp [h1, h2])]
    extract_lets +onlyGivenNames s4 s5 s6 sys6 fab6 s7 s8
    have h3 : Fr (without Reg.SYS_START.ctorIdx ^^^ (1 <<< 297)) (s.takeWords (s.updates m n k) n k) s3 :=
      State.flushEdges_fr rfl (State.lchBoundary_fr rfl (State.inputsBoundary_fr rfl (State.fabricBoundary_fr rfl
        (State.serviceEdge_fr rfl (State.showMode_fr rfl (.id _ _))))))
    have h6 : Fr (without Reg.SYS_START.ctorIdx ^^^ (1 <<< 297)) (s.takeWords (s.updates m n k) n k) s6 :=
      State.ledBoundary_fr rfl (Fr.forEach (fun _ _ h => State.syncSlot_fr rfl h)
        (State.boundaryReach_fr rfl (State.followMode_fr rfl h3)))
    clear_value s6
    have h7 : Fr (without Reg.SYS_START.ctorIdx ^^^ (1 <<< 297)) (s.takeWords (s.updates m n k) n k) s7 :=
      Fr.upd (s := s6) (h_sys := Fr.no rfl) (h_fab := Fr.no rfl) h6
    clear_value s7
    have h8 : Fr (without Reg.SYS_START.ctorIdx ^^^ (1 <<< 297)) (s.takeWords (s.updates m n k) n k) s8 := by
      unfold s8
      cases k with
      | start => exact State.netStart_fr rfl h7
      | wake => exact State.netWake_fr rfl h7
      | plain => exact State.netBoundary_fr rfl h7
    exact State.settleLines_fr rfl (State.wdBoundary_fr rfl (State.ctxBoundary_fr rfl h8))
  exact ⟨(hfr.regs _ rfl).trans (State.takeWords_reg (by decide)), (hfr.cat rfl).trans ((State.takeWords_fr rfl (.id (without 297) s)).cat rfl)⟩

theorem exec_wakeBoundary_mode {w : Wake} (h : s.sys.phase = .w4) (hw : s.sys.waking = some w) (h3 : 3 ≤ w.target)
    (h10 : w.target < 10) (hp : s.isPair = false) : ∃ t, exec .wakeBoundary s = .next t ∧ t.sys.waking = none ∧
      t.sys.phase = .run ∧ t.mode = w.target ∧ t.bit SYS_START.WARM = true := by
  refine ⟨_, rfl, ?_⟩
  rw [h, hw]
  dsimp only
  rw [if_neg (by omega)]
  generalize hu : (s.startTime true).boundary s.mode w.target s.mode .wake = u
  obtain ⟨hstart, hcat⟩ := (s.startTime true).boundary_start (m := s.mode) (n := w.target) (prev := s.mode) (k := .wake)
    (by omega) (by omega)
  have hphase := (s.startTime true).boundary_phase_run (m := s.mode) (n := w.target) (prev := s.mode) (k := .wake)
    (by omega) (by omega)
  obtain ⟨hmode, -, -⟩ := (s.startTime true).boundary_mode s.mode w.target s.mode .wake
  rw [hu] at hstart hcat hphase hmode
  have hdone : Fr (1 <<< Reg.SYS_MODERES.ctorIdx) u (u.done ⟨w.target, 6⟩) := State.done_fr rfl (.id _ _)
  have hpair : (u.done ⟨w.target, 6⟩).isPair = false := by
    unfold State.isPair
    rw [hdone.cat rfl, hcat]
    exact hp
  have hwarm : (u.done ⟨w.target, 6⟩).bit SYS_START.WARM = true := by
    rw [hdone.bitEq _ _ _ _ rfl]
    have : u.bit SYS_START.WARM = (s.startTime true).bit SYS_START.WARM := by
      unfold State.bit State.fld
      exact congrArg (fun x => ext x _ _ != 0) hstart
    rw [this]
    exact State.bit_flag_same _ _ (by decide) (by decide)
  rw [if_neg (by simp [State.mayTakeOver]; intro hx; exact absurd (hpair.symm.trans hx) (by decide))]
  refine ⟨rfl, ?_, ?_, hwarm⟩
  · rw [State.ship_sys]
    exact (congrArg SysSt.phase (hdone.sys rfl)).trans hphase
  · exact ((hdone.fld SYS_MODE.MODE 0 0 0 rfl).trans hmode).trans (Nat.mod_eq_of_lt (by omega))

/-! ## Poll windows (R73, R74) -/

/-- The fabric's start leaves the poll window as it was. -/
theorem State.fabricStart_pollOpen (s : State) : s.fabricStart.sys.pollOpen = s.sys.pollOpen := by
  unfold State.fabricStart
  extract_lets +onlyGivenNames s1 sys1 fab1 s2 fab2 s3 s4 s5 s6
  have h1 : s1.sys = s.sys := (State.reloadTime_fr rfl (.id (without 295) s)).sys rfl
  have h3 : s3.sys.pollOpen = s.sys.pollOpen := by
    change s1.sys.pollOpen = _
    rw [h1]
  have h4 : Fr (without 295) s3 s4 := Fr.forEach (fun _ _ h => State.lcInit_fr rfl h) (.id _ _)
  have h5 : s5.sys = s4.sys := rfl
  have h6 : Fr (without 295) s5 s6 := State.settleLines_fr rfl (Fr.forEach (fun _ _ h => State.puRestart_fr rfl h) (.id _ _))
  clear_value s6
  exact (congrArg SysSt.pollOpen ((h6.sys rfl).trans (h5.trans (h4.sys rfl)))).trans h3

theorem State.logicStart_pollOpen (s : State) : s.logicStart.sys.pollOpen = s.sys.pollOpen := by
  unfold State.logicStart
  extract_lets +onlyGivenNames s1
  have h0 : Fr (without 295) s s.inputsStart := State.inputsStart_fr rfl (.id _ _)
  have h1 : Fr (without 295) s.inputsStart.fabricStart s1 := State.lchFabric_fr rfl (.id _ _)
  have h2 : Fr (without 295) s1 (forEach ((List.range 16).filter (ledFitted s1.variant)) (fun i s =>
      s.setLx i { s.lx i with testDue := !s.ledOn i }) s1) := Fr.forEach (fun _ _ h => State.setLx_fr rfl h) (.id _ _)
  rw [h2.sys rfl, h1.sys rfl, State.fabricStart_pollOpen, h0.sys rfl]

theorem exec_pollPeriodExpiry_opens (h : s.sys.phase = .parked) (hm : s.mode = 2) (hp : s.fld SYS_WATCH.POLL ≠ 0)
    (ho : s.sys.pollOpen = false) : ∃ t, exec .pollPeriodExpiry s = .next t ∧ t.sys.pollOpen = true := by
  refine ⟨_, rfl, ?_⟩
  rw [if_neg (by simp [h, hm, hp, ho]), State.ship_sys]
  extract_lets +onlyGivenNames sys1 s1 fab1 s2 s3 run
  have h1 : s1.sys.pollOpen = true := State.logicStart_pollOpen _
  have h3 : Fr (without 295) s2 s3 := Fr.ite (.id _ _) (State.put_fr rfl rfl (.id _ _))
  have h4 : Fr (without 295) s2 (forEach run (fun c s => s.resumeCtx c) s3).schedule :=
    State.schedule_fr rfl (Fr.forEach (fun _ _ h => State.resumeCtx_fr rfl h) h3)
  rw [h4.sys rfl]
  exact h1

theorem exec_pollWindowEnd_closes (ho : s.sys.pollOpen = true) (hp : s.sys.pend = none) :
    ∃ t, exec .pollWindowEnd s = .next t ∧ t.sys.pollOpen = false ∧ t.fld MEM_STAT.AWAKE = 0 := by
  refine ⟨_, rfl, ?_⟩
  rw [if_neg (by simp [ho, hp]), State.ship_sys, State.ship_fld]
  unfold State.closeWindow
  extract_lets +onlyGivenNames s1 s2 s3 s4 sys4
  clear_value s4
  have hcounts : ∀ u : State, Fr (without 295 ^^^ (1 <<< Reg.MEM_STAT.ctorIdx)) u u.ctxCounts := fun u =>
    State.ctxCounts_fr rfl (.id _ _)
  rw [(hcounts _).sys rfl, (hcounts _).fld _ _ _ _ rfl]
  exact ⟨rfl, by simp⟩

/-! ## The watchdog (R394) -/

theorem exec_docWdkick_of_key {c : Nat} (hrun : s.bit DOC_WDSTAT.RUN = true)
    (hmin : s.fld DOC_WDCFG.TWMIN * 100000 ≤ s.tb - s.doc.wdStart) :
    exec (.docWdkick c (BitVec.ofNat 32 s.wdKey)) s = .next (s.ship
      (({ s with doc := { s.doc with wdStart := s.tb } }).flag DOC_WDSTAT.NEXTKEY (!s.bit DOC_WDSTAT.NEXTKEY))) := by
  change Host.Outcome.next (s.ship (s.runDocWdkick c _)) = _
  have hkey : ext (BitVec.ofNat 32 s.wdKey) 0 16 = s.wdKey ∧ ext (BitVec.ofNat 32 s.wdKey) 16 16 = 0 := by
    unfold State.wdKey
    split <;> decide
  obtain ⟨hlow, hhigh⟩ := hkey
  rw [State.runDocWdkick, if_neg (by simp [hhigh]), if_neg (by simp [hrun]), if_pos (by simp [hlow, hmin])]

/-- Settles O29: requests by what `request` writes, boundaries by their mode, the rest by the command's last writes. -/
theorem modesAndBoundaries : Obligations.ModesAndBoundaries := by
  unfold Obligations.ModesAndBoundaries
  refine ⟨fun s w code hup hs hc hj => ⟨_, exec_modeRequest_none w code s, ?_⟩, fun s p hp => ⟨_, rfl, ?_⟩,
    fun s p hphase hopen hp hsrc h3 h10 => ⟨_, exec_modeBoundary_run hphase hopen hp, ?_⟩, fun s k h => ⟨_, rfl, ?_⟩,
    fun s h hl => exec_powerDownDone_parked h hl, fun s w h hw ht => exec_wakePowerUpDone_w3 h hw ht,
    fun s h hs hb => exec_retentionCheckDone_w4 h hs hb, fun s w h hw h3 h10 hp => exec_wakeBoundary_mode h hw h3 h10 hp,
    fun s h hm hp ho => exec_pollPeriodExpiry_opens h hm hp ho, fun s ho hp => exec_pollWindowEnd_closes ho hp,
    fun s c hrun hmin => ⟨_, exec_docWdkick_of_key hrun hmin, ?_⟩⟩
  · rw [State.runModeRequest_of_request (fun _ => hup) hs hc]
    exact State.request_accepted hj hc
  · rw [hp]
    refine ⟨(State.cancelPend_of_pend hp : _), ?_⟩
    exact State.fld_put_same s.cancelPend 7 (by decide)
  · generalize hb : s.boundary s.mode p.target s.mode .plain = u
    obtain ⟨hmode, hbusy, hprev⟩ := s.boundary_mode s.mode p.target s.mode .plain
    have hph := s.boundary_phase_run (m := s.mode) (n := p.target) (prev := s.mode) (k := .plain) (by omega) (by omega)
    rw [hb] at hmode hbusy hprev hph
    have hdone : Fr (1 <<< Reg.SYS_MODERES.ctorIdx) u (u.done p) := State.done_fr rfl (.id _ _)
    obtain ⟨hres, hreq⟩ := u.done_request hsrc (show p.target < 16 by omega)
    refine ⟨rfl, (congrArg SysSt.phase (hdone.sys rfl)).trans hph, ?_, ?_, (hdone.bitEq _ _ _ _ rfl).trans hbusy, hres, hreq⟩
    · exact ((hdone.fld _ _ _ _ rfl).trans hmode).trans (Nat.mod_eq_of_lt (by omega))
    · exact ((hdone.fld _ _ _ _ rfl).trans hprev).trans s.mode_mod
  · rw [if_pos (by simp [h])]
    exact s.staggerStep_stag k
  · refine ⟨by simp, rfl, ?_⟩
    have hfr : Fr ((1 <<< Reg.DOC_WDSTAT.ctorIdx) ||| (1 <<< 299) ||| (1 <<< 318)) s (s.ship
        (({ s with doc := { s.doc with wdStart := s.tb } }).flag DOC_WDSTAT.NEXTKEY (!s.bit DOC_WDSTAT.NEXTKEY))) :=
      State.ship_fr rfl (State.flag_fr rfl rfl (Fr.set_doc rfl (.id _ _)))
    exact hfr.changes_of_covered (by decide +kernel)

end Sys2Proof.Machine
end

section
/-! Wake sources (statement O30; spec/02 R69, R70, R73). -/

namespace Sys2Proof.Machine

variable {s t : State}

/-- The mask of the named registers and parts. -/
def maskOf (rs : List Reg) (ps : List Part) : Nat :=
  rs.foldr (fun r m => 1 <<< r.ctorIdx ||| m) (ps.foldr (fun p m => 1 <<< p.bit ||| m) 0)

/-- A larger mask says less. -/
theorem Fr.mono {m k : Nat} (h : Fr m s t) (hm : m ||| k = k) : Fr k s t := by
  have off {b : Nat} (hb : k.testBit b = false) : m.testBit b = false := by
    exact Bool.eq_false_iff.mpr fun hon => Fr.no (Fr.bit hm hon) hb
  exact ⟨h.pending, h.variant, h.wf, fun r b => h.regs r (off b), fun b => h.mem (off b), fun b => h.tb (off b), fun b
    => h.free (off b), fun b => h.sys (off b), fun b => h.outs (off b), fun b => h.cat (off b), fun b => h.fab (off
    b), fun b => h.doc (off b), fun b => h.memx (off b), fun b => h.flt (off b), fun b => h.trips (off b), fun b =>
    h.buckets (off b), fun b => h.hsw (off b), fun b => h.hbr (off b), fun b => h.coil (off b), fun b => h.bank (off
    b), fun b => h.led (off b), fun b => h.fold (off b), fun b => h.lch (off b), fun b => h.inp (off b), fun b =>
    h.rdata (off b), fun b => h.can (off b), fun b => h.lin (off b), fun b => h.eth (off b), fun b => h.nm (off b),
    fun b => h.pwr (off b), fun b => h.twn (off b), fun b => h.key (off b), fun b => h.cal (off b), fun b => h.spi
    (off b), fun b => h.mgmt (off b), fun b => h.mgmtTag (off b)⟩

/-- What a wake that begins in Parked may change (R70). -/
def wakeMask : Nat := maskOf [.SYS_MODE, .SYS_WAKESRC, .SYS_MODERES] [.sys]

/-- Without a poll window the wake begins with what R70 says and nothing else. -/
theorem State.beginWake_of_closed (w : Wake) (ho : s.sys.pollOpen = false) :
    Fr wakeMask s (s.beginWake w) ∧ (s.beginWake w).sys.phase = .w2 ∧ (s.beginWake w).sys.waking = some w ∧
      (s.beginWake w).reg ⟨.SYS_WAKESRC, 0, 0, 0⟩ = s.reg ⟨.SYS_WAKESRC, 0, 0, 0⟩ := by
  unfold State.beginWake
  extract_lets +onlyGivenNames s0 sys1 s1
  have h0 : s0 = s := if_neg (by simp [ho])
  clear_value s0
  subst s0
  have h1 : Fr wakeMask s s1 := Fr.set_sys rfl (.id _ _)
  split
  · exact ⟨h1, rfl, rfl, rfl⟩
  · have hres : Fr ((1 <<< Reg.SYS_MODE.ctorIdx) ||| (1 <<< Reg.SYS_MODERES.ctorIdx)) s1
        (((s1.autoRes w.target 6).put SYS_MODE.TARGET w.target).flag SYS_MODE.BUSY true) :=
      State.flag_fr rfl rfl (State.put_fr rfl rfl (State.autoRes_fr rfl (.id _ _)))
    exact ⟨h1.trans (hres.mono rfl), congrArg SysSt.phase (hres.sys rfl), congrArg SysSt.waking (hres.sys rfl),
      hres.regs _ rfl⟩

/-- With no transition in progress `cancelPend` writes SYS_MODERES at most. -/
theorem State.cancelPend_idle (hpend : s.sys.pend = none) : Fr (1 <<< Reg.SYS_MODERES.ctorIdx) s s.cancelPend := by
  simp only [State.cancelPend, hpend]
  split
  · split
    · exact .id _ _
    · exact State.cancelRes_fr rfl (.id _ _)
  · exact .id _ _

/-- A wake event in Parked with no poll window and no transition in progress begins its wake. -/
theorem State.wakeEvent_parked (b i target : Nat) (hp : s.sys.phase = .parked) (ho : s.sys.pollOpen = false)
    (hpend : s.sys.pend = none) : Fr wakeMask s (s.wakeEvent b i target) ∧ (s.wakeEvent b i target).sys.phase = .w2 ∧
      (s.wakeEvent b i target).sys.waking = some ⟨b, i, target⟩ ∧
      (s.wakeEvent b i target).reg ⟨.SYS_WAKESRC, 0, 0, 0⟩ = (s.noteSource b i true).reg ⟨.SYS_WAKESRC, 0, 0, 0⟩ := by
  have hnote : Fr (1 <<< Reg.SYS_WAKESRC.ctorIdx) s (s.noteSource b i true) := State.noteSource_fr rfl (.id _ _)
  have hsys : (s.noteSource b i true).sys = s.sys := hnote.sys rfl
  have hevent : s.wakeEvent b i target = (s.noteSource b i true).cancelPend.beginWake ⟨b, i, target⟩ := by
    unfold State.wakeEvent
    simp only [hp, hsys, hpend, Option.isSome_none, Bool.false_and, Bool.false_eq_true, if_false]
  have hcancel := State.cancelPend_idle (s := s.noteSource b i true) (by rw [hsys, hpend])
  obtain ⟨hfr, hphase, hwaking, hreg⟩ := State.beginWake_of_closed (s := (s.noteSource b i true).cancelPend) ⟨b, i, target⟩
    (by rw [hcancel.sys rfl, hsys, ho])
  rw [hevent]
  exact ⟨(hnote.mono rfl).trans ((hcancel.mono rfl).trans hfr), hphase, hwaking, hreg.trans (hcancel.regs _ rfl)⟩

/-- The module sleeps in Parked or Watch (R70). -/
theorem State.asleep_of_parked (hm : s.mode = 1 ∨ s.mode = 2) (hp : s.sys.phase = .parked) : s.asleep = true := by
  rcases hm with h | h <;> simp [State.asleep, h, hp]

/-- A source that an entry of the mode's WAKE record arms begins a wake from Parked (R70). -/
theorem State.wakeSource_parked {src i b : Nat} {r : WakeRec} (hm : s.mode = 1 ∨ s.mode = 2) (hp : s.sys.phase = .parked)
    (ho : s.sys.pollOpen = false) (hpend : s.sys.pend = none) (hr : s.armed src i = some r) :
    Fr wakeMask s (s.wakeSource src i b) ∧ (s.wakeSource src i b).sys.phase = .w2 ∧
      (s.wakeSource src i b).sys.waking = some ⟨b, i, r.target⟩ ∧
      (s.wakeSource src i b).reg ⟨.SYS_WAKESRC, 0, 0, 0⟩ = (s.noteSource b i true).reg ⟨.SYS_WAKESRC, 0, 0, 0⟩ := by
  have hsource : s.wakeSource src i b = s.wakeEvent b i r.target := by
    unfold State.wakeSource
    rw [if_pos (State.asleep_of_parked hm hp), hr]
  rw [hsource]
  exact State.wakeEvent_parked b i r.target hp ho hpend

/-- At its PDEB-th differing poll input 0 wakes the module (R73). -/
theorem State.sinPoll_wakes {r : WakeRec} {mv : Nat} (hm : s.mode = 1) (hp : s.sys.phase = .parked)
    (ho : s.sys.pollOpen = false) (hpend : s.sys.pend = none) (hr : s.armed 0 0 = some r)
    (hraw : rawLevel (s.inp.raw.getLsbD 0) mv (s.fld INP_SGRP.THRL) (s.fld INP_SGRP.THRH) ≠ bitOf (s.fld INP_PREF.REF) 0)
    (hrun : s.fld INP_PARK.PDEB = Tbl.get s.sys.pollRun 0 0 + 1) :
    Fr (maskOf [.SYS_MODE, .SYS_WAKESRC, .SYS_MODERES] [.sys, .inp]) s (s.sinPoll 0 mv) ∧
      (s.sinPoll 0 mv).sys.phase = .w2 ∧ (s.sinPoll 0 mv).sys.waking = some ⟨0, 0, r.target⟩ := by
  unfold State.sinPoll
  rw [hr]
  extract_lets +onlyGivenNames g raw inp1 s1 k sys1 s2
  have hk : k = Tbl.get s.sys.pollRun 0 0 + 1 := if_neg hraw
  have h2 : Fr (maskOf [] [.sys, .inp]) s s2 := Fr.set_sys rfl (Fr.set_inp rfl (.id _ _))
  rw [if_pos (by simp [hk]; exact hrun)]
  obtain ⟨hfr, hphase, hwaking, -⟩ := State.wakeSource_parked (s := s2) (b := 0) (.inl hm) hp ho hpend hr
  exact ⟨(h2.mono rfl).trans (hfr.mono rfl), hphase, hwaking⟩

/-- At its PDEB-th differing poll input 0 wakes the module (R73). -/
theorem exec_parkedSinPoll_wakes {r : WakeRec} {mv : Nat} (hm : s.mode = 1) (hp : s.sys.phase = .parked)
    (ho : s.sys.pollOpen = false) (hpend : s.sys.pend = none) (hr : s.armed 0 0 = some r)
    (hraw : rawLevel (s.inp.raw.getLsbD 0) mv (s.fld INP_SGRP.THRL) (s.fld INP_SGRP.THRH) ≠ bitOf (s.fld INP_PREF.REF) 0)
    (hrun : s.fld INP_PARK.PDEB = Tbl.get s.sys.pollRun 0 0 + 1) :
    ∃ t, exec (.parkedSinPoll [mv]) s = .next t ∧ t.sys.phase = .w2 ∧ t.sys.waking = some ⟨0, 0, r.target⟩ ∧
      Changes [.SYS_MODE, .SYS_WAKESRC, .SYS_MODERES] [.sys, .inp, .twn] s t := by
  obtain ⟨hfr, hphase, hwaking⟩ := State.sinPoll_wakes hm hp ho hpend hr hraw hrun
  have hexec : exec (.parkedSinPoll [mv]) s = .next (s.ship (s.sinPoll 0 mv)) := by
    change execParkedSinPoll [mv] s = _
    have hzip : (List.range 32).zip [mv] = [(0, mv)] := rfl
    simp [execParkedSinPoll, State.asleep_of_parked (.inl hm) hp, ho, hzip, forEach]
  exact ⟨_, hexec, hphase, hwaking, (State.ship_fr (m := maskOf [.SYS_MODE, .SYS_WAKESRC, .SYS_MODERES] [.sys, .inp, .twn])
    rfl (hfr.mono rfl)).changes_of_covered (by decide +kernel)⟩

/-- A wake of Parked, shipped, changes what R70 names and the twin link's output. -/
theorem wake_changes (h : Fr wakeMask s t) : Changes [.SYS_MODE, .SYS_WAKESRC, .SYS_MODERES] [.sys, .twn] s (s.ship t) :=
  (State.ship_fr (m := wakeMask ||| maskOf [] [.twn]) rfl (h.mono rfl)).changes_of_covered (by decide +kernel)

/-- A pattern at least as wide as the entry asks wakes (R73, R422). -/
theorem exec_canWakePattern_wakes {p width : Nat} {r : WakeRec} (hm : s.mode = 1) (hp : s.sys.phase = .parked)
    (hn : p < nCan s.variant) (hr : s.armed 1 p = some r) (hw : r.param ≤ width) :
    exec (.canWakePattern p width) s = .next (s.ship (s.wakeSource 1 p 1)) := by
  change execCanWakePattern p width s = _
  simp [execCanWakePattern, Nat.not_le.mpr hn, State.asleep_of_parked (.inl hm) hp, hr, hw]

/-- A frame that the entry's filter and the data mask accept wakes (R73). -/
theorem exec_canWakeFrame_wakes {p : Nat} {r : WakeRec} {f : CanFrame} (hm : s.mode = 2) (hp : s.sys.phase = .parked)
    (hr : s.armed 2 p = some r) (hf : s.filterHit p f r.param = true) (hd : s.wakeData p f = true) :
    exec (.canWakeFrame p (some f)) s =
      .next (s.ship ((s.setCp p { s.cp p with wakeErrs := 0 }).wakeSource 2 p 1)) := by
  change execCanWakeFrame p (some f) s = _
  have hf' : (s.setCp p { s.cp p with wakeErrs := 0 }).filterHit p f r.param = true := hf
  have hd' : (s.setCp p { s.cp p with wakeErrs := 0 }).wakeData p f = true := hd
  simp [execCanWakeFrame, hr, State.asleep_of_parked (.inr hm) hp, hm, hf', hd']

/-- A wake pulse at a port that an entry arms wakes (R73). -/
theorem exec_linWakePulse_wakes {p : Nat} (hm : s.mode = 1) (hp : s.sys.phase = .parked) (hn : p < nLin s.variant) :
    exec (.linWakePulse p) s = .next (s.ship (s.wakeSource 3 p 2)) := by
  change execLinWakePulse p s = _
  simp [execLinWakePulse, Nat.not_le.mpr hn, State.asleep_of_parked (.inl hm) hp]

/-- One bit of a word. -/
theorem ext_one_ne_zero (w : Word) (lo : Nat) : (ext w lo 1 != 0) = w.getLsbD lo := by
  rw [ext_eq, BitVec.getLsbD, Nat.testBit_eq_decide_div_mod_eq]
  rcases Nat.mod_two_eq_zero_or_one (w.toNat / 2 ^ lo) with h | h <;> simp [h]

/-- The timer's bit after it was noted as the first source. -/
theorem State.noteSource_timer (i : Nat) : (s.noteSource 3 i true).bit SYS_WAKESRC.TIMER = true := by
  unfold State.noteSource
  extract_lets +onlyGivenNames s1
  have hput : (s1.put SYS_WAKESRC.INDEX i).bit SYS_WAKESRC.TIMER = s1.bit SYS_WAKESRC.TIMER := by simp
  rw [if_pos rfl, hput, State.bit, State.fld, ext_one_ne_zero]
  change (s1.reg ⟨.SYS_WAKESRC, 0, 0, 0⟩).getLsbD 3 = true
  rw [State.reg_setReg_self, BitVec.getLsbD_or]
  simp

/-- The twin link's state without its frames under way: what a shipped command leaves as the command made it. -/
def TwnSt.base (t : TwnSt) : TwnSt := { t with sent := [], txSeq := 0, stores := [], due := [] }

theorem foldl_keeps {α β γ : Type} {f : β → α → β} {g : β → γ} (h : ∀ b a, g (f b a) = g b) (l : List α) (b : β) :
    g (l.foldl f b) = g b := by
  induction l generalizing b with
  | nil => rfl
  | cons a l ih => exact (ih _).trans (h b a)

theorem TwnSt.send_all_base (now typ : Nat) (ps : List (List Byte)) (t : TwnSt) :
    (ps.foldl (fun t p => t.send now typ p) t).base = t.base :=
  foldl_keeps (f := fun t p => TwnSt.send t now typ p) (g := TwnSt.base) (fun _ _ => rfl) ps t

theorem State.sendUnits_base (t : TwnSt) : (s.sendUnits t).base = t.base := by
  refine foldl_keeps (fun t c => ?_) _ _
  split
  · rfl
  · exact TwnSt.send_all_base s.tb 1 _ t

theorem TwnSt.sendEntries_base (t : TwnSt) (now typ size : Nat) (es : List (List Byte)) :
    (t.sendEntries now typ size es).base = t.base :=
  foldl_keeps (f := fun t g => TwnSt.send t now typ (List.flatten g)) (g := TwnSt.base) (fun _ _ => rfl) _ t

/-- The deltas that a command leaves behind it touch the frames under way only (R533). -/
theorem State.ship_twn_base (u : State) : (s.ship u).twn.base = u.twn.base := by
  have hdeltas : (State.deltas s u).base = u.twn.base := by
    unfold State.deltas
    refine (TwnSt.send_all_base u.tb 4 _ _).trans ?_
    rw [TwnSt.sendEntries_base, TwnSt.sendEntries_base, State.sendUnits_base]
    rfl
  rw [State.ship]
  split
  · exact hdeltas
  · rfl

/-- The fall of TWOK_I at an operating deputy (spec/17). -/
theorem exec_twokIFall_deputy (h : s.bit TWN_STAT.TWOKI = true) (ha : s.asleep = false) (hpair : s.isPair = true)
    (hp : s.sys.phase = .run) (hd : s.isDeputy = true) :
    exec .twokIFall s = .next (s.ship
      { s.flag TWN_STAT.TWOKI false with twn := { (s.flag TWN_STAT.TWOKI false).twn with confirmed := true } }) := by
  change execTwokIFall s = _
  have hfr : Fr (maskOf [.TWN_STAT] []) s (s.flag TWN_STAT.TWOKI false) := State.flag_fr rfl rfl (.id _ _)
  have ha' : (s.flag TWN_STAT.TWOKI false).asleep = false := by
    simpa [State.asleep, State.mode] using ha
  have hpair' : (s.flag TWN_STAT.TWOKI false).isPair = true := by
    simpa [State.isPair, hfr.cat rfl] using hpair
  have hd' : (s.flag TWN_STAT.TWOKI false).isDeputy = true := by
    rw [← hd]
    simp [State.isDeputy]
  have hp' : (s.flag TWN_STAT.TWOKI false).sys.phase = .run := (congrArg SysSt.phase (hfr.sys rfl)).trans hp
  simp [execTwokIFall, h, ha', hpair', hp', hp, hd']

/-- Settles O30: each source notes itself and begins the wake that its entry names. -/
theorem wakeSources : Obligations.WakeSources := by
  unfold Obligations.WakeSources
  refine ⟨fun s r mv hm hp ho hpend hr hraw hrun => exec_parkedSinPoll_wakes hm hp ho hpend hr hraw hrun,
    fun s p width r hm hp ho hpend hn hr hw => ?_, fun s p r f hm hp ho hpend hr hf hd => ?_,
    fun s p r hm hp ho hpend hn hr => ?_, fun s r hm hp ho hpend hr => ?_, fun s h ha hpair hp hd => ?_⟩
  · obtain ⟨hfr, hphase, hwaking, -⟩ := State.wakeSource_parked (b := 1) (.inl hm) hp ho hpend hr
    exact ⟨_, exec_canWakePattern_wakes hm hp hn hr hw, hphase, hwaking, wake_changes hfr⟩
  · obtain ⟨hfr, hphase, hwaking, -⟩ := State.wakeSource_parked (s := s.setCp p { s.cp p with wakeErrs := 0 }) (b := 1)
      (.inr hm) hp ho hpend hr
    refine ⟨_, exec_canWakeFrame_wakes hm hp hr hf hd, hphase, hwaking, ?_⟩
    have hcp : Fr (maskOf [] [.can]) s (s.setCp p { s.cp p with wakeErrs := 0 }) := Fr.set_can rfl (.id _ _)
    exact (State.ship_fr (m := wakeMask ||| maskOf [] [.can, .twn]) rfl
      ((hcp.mono rfl).trans (hfr.mono rfl))).changes_of_covered (by decide +kernel)
  · obtain ⟨hfr, hphase, hwaking, -⟩ := State.wakeSource_parked (b := 2) (.inl hm) hp ho hpend hr
    exact ⟨_, exec_linWakePulse_wakes hm hp hn, hphase, hwaking, wake_changes hfr⟩
  · obtain ⟨hfr, hphase, hwaking, hreg⟩ := State.wakeSource_parked (b := 3) (.inl hm) hp ho hpend hr
    refine ⟨_, rfl, hphase, hwaking, ?_, wake_changes hfr⟩
    rw [State.ship_bit, ← State.noteSource_timer (s := s) 0]
    exact congrArg (fun w => ext w 3 1 != 0) hreg
  · refine ⟨_, exec_twokIFall_deputy h ha hpair hp hd, by simp, congrArg TwnSt.confirmed (State.ship_twn_base _), ?_⟩
    have hflag : Fr (maskOf [.TWN_STAT] [.twn]) s (s.flag TWN_STAT.TWOKI false) := State.flag_fr rfl rfl (.id _ _)
    exact (State.ship_fr (m := maskOf [.TWN_STAT] [.twn]) rfl (Fr.set_twn rfl hflag)).changes_of_covered (by decide +kernel)

end Sys2Proof.Machine
end

section
/-! Writing an image (statement O31; spec/03 R106 to R108). -/

namespace Sys2Proof.Machine

variable {s : State}

/-- OPEN begins the erase (R106). -/
theorem exec_catWctlOpen_begins (hu : s.hostUp = true) (hm : s.slotMode = true) (h1 : s.wst ≠ 1) (h3 : s.wst ≠ 3)
    (h6 : s.wst ≠ 6) : ∃ t, exec .catWctlOpen s = .next t ∧ t.wst = 1 ∧ t.fld CAT_WSTAT.WORDS = 0 ∧
      t.fld CAT_WSTAT.ERR = 0 ∧ t.cat.wNext = 0 := by
  refine ⟨_, rfl, ?_⟩
  simp [State.runCatWctlOpen, State.wctl, hu, hm, h1, h3, h6]
  simp [State.wst]

theorem Memory.get_of_not_listed {m : List Host.Cell} {a : Nat} (h : ∀ c ∈ m, c.1 ≠ a) : Memory.get m a = unlisted a := by
  induction m with
  | nil => rfl
  | cons c m ih =>
    obtain ⟨k, v⟩ := c
    have hk : k ≠ a := h (k, v) List.mem_cons_self
    simp [Memory.get, hk, ih fun c hc => h c (List.mem_cons_of_mem _ hc)]

/-- A byte that was cleared reads as erased. -/
theorem State.byte_clearMem_in {a lo hi : Nat} (hlo : lo ≤ a) (hhi : a < hi) : (s.clearMem lo hi).byte a = unlisted a := by
  refine Memory.get_of_not_listed fun c hc => ?_
  have hout := (List.mem_filter.mp hc).2
  simp only [Bool.not_eq_true', Bool.and_eq_false_iff, decide_eq_false_iff_not] at hout
  omega

/-- A slot address reads 0xFF when nothing is written there (R572). -/
theorem unlisted_slot {a : Nat} {b : Bool} (hlo : slotBase b ≤ a) (hhi : a < slotBase b + 0x400000) : unlisted a = 0xFF := by
  cases b <;> simp [unlisted, slotBase] at * <;> omega

/-- SLOT_ERASE_DONE leaves the slot erased and OPEN (R106). -/
theorem exec_slotEraseDone_opens {a : Nat} (h : s.wst = 1) (hlo : slotBase s.writeSlot ≤ a)
    (hhi : a < slotBase s.writeSlot + 0x400000) :
    ∃ t, exec .slotEraseDone s = .next t ∧ t.wst = 2 ∧ t.byte a = 0xFF := by
  refine ⟨_, rfl, ?_⟩
  rw [if_pos h]
  refine ⟨by simp [State.wst], ?_⟩
  rw [State.ship_byte, ← unlisted_slot hlo hhi]
  exact State.byte_clearMem_in hlo hhi

/-- The next word in order is stored (R107). -/
theorem State.runSlotWordWrite_next {w : Word} (hu : s.hostUp = true) (hm : s.slotMode = true) (h : s.wst = 2)
    (hn : s.cat.wNext < 0x100000) : s.runSlotWordWrite (slotBase s.writeSlot + 4 * s.cat.wNext) w =
      ({ s.setWord (slotBase s.writeSlot + 4 * s.cat.wNext) w with
        cat := { s.cat with wNext := s.cat.wNext + 1 } } : State).count CAT_WSTAT.WORDS := by
  have halign : (slotBase s.writeSlot + 4 * s.cat.wNext) % 4 = 0 := by
    cases s.writeSlot <;> simp [slotBase]
  have hlo : ¬ slotBase s.writeSlot + 4 * s.cat.wNext < slotBase s.writeSlot := Nat.not_lt.mpr (Nat.le_add_right _ _)
  have hhi : ¬ slotBase s.writeSlot + 0x400000 ≤ slotBase s.writeSlot + 4 * s.cat.wNext := by omega
  simp [State.runSlotWordWrite, hu, hm, h, halign, hlo, -Nat.add_le_add_iff_left, hhi]

/-- The next word in order is stored and counted (R107). -/
theorem exec_slotWordWrite_next {w : Word} (hu : s.hostUp = true) (hm : s.slotMode = true) (h : s.wst = 2)
    (hn : s.cat.wNext < 0x100000) : ∃ t, exec (.slotWordWrite (slotBase s.writeSlot + 4 * s.cat.wNext) w) s = .next t ∧
      t.word (slotBase s.writeSlot + 4 * s.cat.wNext) = w ∧ t.cat.wNext = s.cat.wNext + 1 ∧ t.wst = 2 := by
  refine ⟨_, congrArg (fun t => Host.Outcome.next (s.ship t)) (State.runSlotWordWrite_next hu hm h hn), ?_⟩
  generalize slotBase s.writeSlot + 4 * s.cat.wNext = a
  refine ⟨State.word_setWord s a w, rfl, ?_⟩
  have hst : (s.setWord a w).wst = 2 := h
  simpa [State.wst] using hst

/-- CLOSE begins the checks (R106). -/
theorem exec_catWctlClose_begins (hu : s.hostUp = true) (hm : s.slotMode = true) (h : s.wst = 2) :
    ∃ t, exec .catWctlClose s = .next t ∧ t.wst = 3 := by
  refine ⟨_, rfl, ?_⟩
  simp [State.runCatWctlClose, State.wctl, hu, hm, h]
  simp [State.wst]

theorem walk_code (rd : Rd) (endd fuel off : Nat) (prev : Nat × Nat) {x : LoadErr}
    (h : walk rd endd fuel off prev = .inl x) : x.code = 9 := by
  induction fuel generalizing off prev with
  | zero =>
    cases h
    rfl
  | succ fuel ih =>
    unfold walk at h
    split at h
    · cases h
    · dsimp only at h
      split at h
      · cases h
        rfl
      · split at h
        · cases h
          rfl
        · split at h
          case h_1 e he =>
            cases h
            exact ih _ _ he
          case h_2 => cases h

theorem missingSec_code {v : Variant} {endd : Nat} {ss : List Sec} {x : LoadErr} (h : missingSec v endd ss = some x) :
    x.code = 9 := by
  unfold missingSec at h
  split at h
  · cases h
  · cases h
    rfl

theorem sections_code {v : Variant} {rd : Rd} {x : LoadErr} (h : sections v rd = .inl x) : x.code = 9 := by
  unfold sections at h
  split at h
  case h_1 he =>
    cases h
    exact walk_code _ _ _ _ _ he
  case h_2 =>
    split at h
    case h_1 he =>
      cases h
      exact missingSec_code he
    case h_2 => cases h

theorem lowest_code {rd : Rd} {ss : List Sec} {code : Nat} {os : List Nat} {x : LoadErr}
    (h : lowest rd ss code os = some x) : x.code = code := by
  cases os with
  | nil => cases h
  | cons o os =>
    cases h
    rfl

/-- The steps 9 to 14 fail with their own numbers. -/
theorem parseImage_code {v : Variant} {rd : Rd} {x : LoadErr} (h : parseImage v rd = .inl x) : x.code < 16 := by
  unfold parseImage at h
  split at h
  case h_1 he =>
    cases h
    rw [sections_code he]
    decide
  case h_2 ss _ =>
    dsimp only at h
    split at h
    case h_1 e he =>
      cases h
      obtain ⟨c, hc, hx⟩ := List.exists_of_findSome?_eq_some he
      rw [lowest_code hx]
      simp only [List.mem_cons, List.not_mem_nil, or_false] at hc
      rcases hc with rfl | rfl | rfl | rfl | rfl <;> simp
    case h_2 => cases h

theorem authCode_lt (e : LoadEnv) (rd : Rd) : authCode e rd < 16 := by
  unfold authCode
  dsimp only
  repeat' split
  all_goals decide

/-- Every check of an image fails with a code of R100's table. -/
theorem loadImage_code {e : LoadEnv} {rd : Rd} {x : LoadErr} (h : loadImage e rd = .inl x) : x.code < 16 := by
  unfold loadImage at h
  dsimp only at h
  split at h
  · cases h
    exact authCode_lt e rd
  · exact parseImage_code h

/-- The end of the checks: the code of the first that failed, or PASSED (R106, R100). -/
theorem exec_slotCheckDone_ends (e : Bool) (h : s.wst = 3) : ∃ t, exec (.slotCheckDone e) s = .next t ∧
    (match s.checkSlot s.writeSlot e with
      | .inl x => t.wst = 5 ∧ t.fld CAT_WSTAT.ERR = x.code % 16
      | .inr _ => t.wst = 4 ∧ t.fld CAT_WSTAT.ERR = 0) := by
  refine ⟨_, rfl, ?_⟩
  rw [if_neg (by simp [h])]
  split
  case h_1 x hx =>
    have hcode := loadImage_code hx
    simp [hx, State.wst, Nat.mod_eq_of_lt (Nat.lt_trans hcode (by decide : 16 < 256)), Nat.mod_eq_of_lt hcode]
  case h_2 hx => simp [hx, State.wst]

/-- COMMIT in Service mode begins the commit and closes the debug port (R106, R592). -/
theorem exec_catWctlCommit_begins (hu : s.hostUp = true) (hm : s.slotMode = true) (h8 : s.mode = 8) (h : s.wst = 4) :
    ∃ t, exec .catWctlCommit s = .next t ∧ t.wst = 6 ∧ t.bit KEY_STAT.CATLOCK = true := by
  refine ⟨_, rfl, ?_⟩
  simp [State.runCatWctlCommit, State.wctl, hu, hm, h8, h]
  simp [State.wst]

/-- The commit's end makes the written slot primary (R103). -/
theorem exec_slotCommitDone_primary (h : s.wst = 6) :
    ∃ t, exec .slotCommitDone s = .next t ∧ t.wst = 7 ∧ t.bit CAT_STAT.PRIMARY = s.writeSlot := by
  refine ⟨_, rfl, ?_⟩
  rw [if_neg (by simp [h])]
  simp [State.wst]

/-- ABORT before the commit (R108). -/
theorem exec_catWctlAbort_idle (hu : s.hostUp = true) (hm : s.slotMode = true) (h0 : 0 < s.wst) (h6 : s.wst < 6) :
    ∃ t, exec .catWctlAbort s = .next t ∧ t.wst = 0 ∧ t.cat.wNext = 0 := by
  refine ⟨_, rfl, ?_⟩
  simp [State.runCatWctlAbort, State.wctl, hu, hm, Nat.ne_of_gt h0, Nat.not_le.mpr h6]
  simp [State.wst]

/-- Settles O31: the life of a slot that is written. -/
theorem slotWriting : Obligations.SlotWriting := by
  unfold Obligations.SlotWriting
  refine ⟨fun s hu hm h1 h3 h6 => exec_catWctlOpen_begins hu hm h1 h3 h6,
    fun s a h hlo hhi => exec_slotEraseDone_opens h hlo hhi, fun s w hu hm h hn => exec_slotWordWrite_next hu hm h hn,
    fun s hu hm h => exec_catWctlClose_begins hu hm h, fun s e h => exec_slotCheckDone_ends e h,
    fun s hu hm h8 h => exec_catWctlCommit_begins hu hm h8 h, fun s h => exec_slotCommitDone_primary h,
    fun s hu hm h0 h6 => exec_catWctlAbort_idle hu hm h0 h6⟩
end Sys2Proof.Machine
end

section
/-! Edges that event routes have seen (statement O32). The event that a delivered edge sets can put a context off its core; a
quarantine that waits for this then takes effect (R373), the lines that the context owned go to their defaults (R130), and a
route sees the edge of such a line (R149). -/

namespace Sys2Proof.Machine

/-- Route 0 has seen line 5 rise and tells context 1 by its event 3. Context 1 waits for that event; context 0, of lower priority,
runs on core 0 with a quarantine due, and holds line 6 high, whose fall route 1 watches. -/
def edgeSeen : State :=
  let s := { State.reset with
    sys := { State.reset.sys with fabricUp := true }
    fab := { State.reset.fab with lines := 1#512 <<< 6, ctxVal := 1#512 <<< 6, written := 1#512 <<< 6, evOn := true
                                  edges := [(0, true)] }
    doc := { State.reset.doc with ctxs := [(0, { (default : Ctx) with qpend := some 2 }), (1, default)] } }
  let s := (((s.put ER_CFG.LINE 5 0).put ER_CFG.EDGE 1 0).put ER_CFG.EVBIT 3 0).put ER_CFG.CTX 1 0
  let s := ((s.put ER_CFG.LINE 6 1).put ER_CFG.EDGE 2 1).put FAB_LSRC.KIND 6 6
  let s := (s.put DOC_STAT.STATE 2 0).put DOC_STAT.CTX 0 0
  let s := ((s.setCst 0 stRun).setCst 1 stWait).setPort 1 pEvtMask (1#32 <<< 3)
  s.put CTXC_CFG.PRIO 3 1

theorem lineEdgeEvent_adds_edge :
    ∃ t, exec (.lineEdgeEvent 0 true) edgeSeen = .next t ∧ t.fab.edges = [(1, false)] := ⟨_, rfl, by decide +kernel⟩

/-- Refutes O32: the edge is taken from the edges, but another one comes in its place. -/
theorem not_fabricWrites : ¬ Obligations.FabricWrites := by
  unfold Obligations.FabricWrites
  rintro ⟨-, -, -, -, -, -, edgeEvent⟩
  obtain ⟨t, e, hedges⟩ := lineEdgeEvent_adds_edge
  obtain ⟨u, e', -, herased⟩ := edgeEvent edgeSeen 0 true rfl rfl
  rw [e] at e'
  obtain rfl := Host.Outcome.next.inj e'
  rw [hedges] at herased
  exact absurd herased (by decide)

end Sys2Proof.Machine
end

section
/-! Trips and monitoring of high-side channels (statement O34; spec/05 R154 to R197). -/

namespace Sys2Proof.Machine

/-- Every register and part but the named ones. -/
def allBut (rs : List Reg) (ps : List Part) : Nat :=
  0xfffffffffffffffffffffffffffffffffffffffffffffffffffffffffffffffffffffffffffffffff ^^^ maskOf rs ps

variable {s₀ s t : State} {n : Nat}

/-- A register outside the mask, at any index. -/
theorem Fr.regOf {m : Nat} (h : Fr m s t) (R : Reg) {i j k : Nat} (hb : m.testBit R.ctorIdx = false) :
    t.reg ⟨R, i, j, k⟩ = s.reg ⟨R, i, j, k⟩ := h.regs ⟨R, i, j, k⟩ hb

/-! ## What the end of an on-period shows -/

/-- Two fields that share no bit. -/
def Fld.apart (g f : Fld) : Bool := decide (g.lo + g.width ≤ f.lo) || decide (f.lo + f.width ≤ g.lo)

theorem Fld.apart_iff {g f : Fld} : g.apart f = true ↔ g.lo + g.width ≤ f.lo ∨ f.lo + f.width ≤ g.lo := by
  simp [Fld.apart]

/-- Every field of the register that shares no bit with `f` reads as it did, at every index. -/
def RestKept (f : Fld) (s t : State) : Prop :=
  ∀ (g : Fld) (i j k : Nat), g.reg = f.reg → g.apart f = true → t.fld g i j k = s.fld g i j k

namespace RestKept

variable {f : Fld}

theorem refl (s : State) : RestKept f s s := fun _ _ _ _ _ _ => rfl

theorem trans (h : RestKept f s₀ s) (k : RestKept f s t) : RestKept f s₀ t :=
  fun g i j l hr ha => (k g i j l hr ha).trans (h g i j l hr ha)

theorem fr {m : Nat} (hf : Fr m s t) (hm : m.testBit f.reg.ctorIdx = false) (h : RestKept f s₀ s) : RestKept f s₀ t :=
  h.trans fun g i j l hr _ => hf.fld g i j l (by rw [hr]; exact hm)

theorem put {v i j k : Nat} (h : RestKept f s₀ s) : RestKept f s₀ (s.put f v i j k) :=
  h.trans fun _ _ _ _ _ ha => State.fld_put_apart s v (Fld.apart_iff.mp ha)

theorem bit (h : RestKept f s t) {g : Fld} {i j k : Nat} (hr : g.reg = f.reg) (ha : g.apart f = true) :
    t.bit g i j k = s.bit g i j k := State.bit_of_fld (h g i j k hr ha)

end RestKept

theorem State.setOl_rest {st : Nat} : RestKept HSW_STAT.OLSTAT s (s.setOl n st) := by
  unfold State.setOl
  extract_lets +onlyGivenNames s1
  have h1 : RestKept HSW_STAT.OLSTAT s s1 := Holds.forEach (fun _ _ h => h.put) (.refl s)
  clear_value s1
  exact Holds.ite h1 (h1.fr (State.clearSrc_fr (m := maskOf [.FLT_STAT] [.flt]) rfl (.id _ _)) rfl)

theorem State.onPeriodEnd_rest : RestKept HSW_STAT.OLSTAT s (s.onPeriodEnd n) := by
  have hol : RestKept HSW_STAT.OLSTAT s (s.olEnd n) := by
    unfold State.olEnd
    refine Holds.ite (.refl s) (Holds.ite (RestKept.refl s |>.fr (m := maskOf [] [.hsw]) ?_ rfl) ?_)
    · exact State.shortEnd_fr rfl (.id _ _)
    · exact Holds.ite State.setOl_rest (.refl s)
  exact hol.fr (m := maskOf [] [.hsw]) (State.setCh_fr rfl (.id _ _)) rfl

/-- A channel that turns off is in the state asked for; its flags stay. -/
theorem State.hswOff_shows {st : Nat} (hst : st < 8) : (s.hswOff n st).hs n = st ∧
    ∀ (g : Fld) (i : Nat), g.reg = .HSW_STAT → g.apart HSW_STAT.OLSTAT = true → g.apart HSW_STAT.STATE = true →
      (s.hswOff n st).fld g i = s.fld g i := by
  have hset (t : State) : (t.setHs n st).hs n = st := by
    simp [State.hs, State.setHs, Nat.mod_eq_of_lt hst]
  unfold State.hswOff
  split
  · exact ⟨hset _, fun g i hr ha hb => (State.fld_put_apart _ _ (Fld.apart_iff.mp hb)).trans
      (State.onPeriodEnd_rest g i 0 0 hr ha)⟩
  · exact ⟨hset _, fun g i _ _ hb => State.fld_put_apart _ _ (Fld.apart_iff.mp hb)⟩

/-! ## Trips -/

theorem slotClass_of_lt (hn : n < 48) : slotClass n = 0 := if_pos hn

theorem hswFitted_lt {v : Variant} (h : hswFitted v n = true) : n < 48 := by
  cases v <;> simp [hswFitted] at h <;> omega

/-- A channel without partners that is neither LOCKED nor DISABLED and trips is in TRIPPED with its record (R164, R197). -/
theorem State.trip_alone {kind detail : Nat} {cond : Bool} (hfit : hswFitted s.variant n = true) (hg : s.grp n = [n])
    (h5 : s.hs n ≠ 5) (h7 : s.hs n ≠ 7) : (s.trip n kind detail cond).hs n = 4 ∧ ((s.trip n kind detail cond).trip? n).on = true ∧
      ((s.trip n kind detail cond).trip? n).kind = kind ∧ ((s.trip n kind detail cond).trip? n).cond = cond ∧
      ∀ (f : Fld), f.reg = .HSW_STAT → f.apart HSW_STAT.OLSTAT = true → f.apart HSW_STAT.STATE = true →
        (s.trip n kind detail cond).fld f n = s.fld f n := by
  have hclass := slotClass_of_lt (hswFitted_lt hfit)
  have htrip : s.trip n kind detail cond = ((s.tripMark kind cond n).hswOff n 4).raiseCond (slotBlock n) (slotUnit n) kind detail := by
    have hone : s.tripOne kind cond n = (s.tripMark kind cond n).hswOff n 4 := by
      have host : (s.tripMark kind cond n).ost n = s.hs n := by simp [State.ost, State.byClass, hclass, State.tripMark, State.hs]
      simp [State.tripOne, host, lockedCode, disabledCode, trippedCode, hclass, h5, h7, State.stageOff, State.disabling]
    simp [State.trip, hg, forEach, hone, hclass]
  rw [htrip]
  obtain ⟨hhs, hflags⟩ := State.hswOff_shows (s := s.tripMark kind cond n) (n := n) (st := 4) (by decide)
  have hoff : Fr (maskOf [.HSW_STAT, .FLT_STAT] [.flt, .hsw]) (s.tripMark kind cond n) ((s.tripMark kind cond n).hswOff n 4) :=
    State.hswOff_fr rfl (.id _ _)
  have hrec : ((s.tripMark kind cond n).hswOff n 4).trip? n = (s.tripMark kind cond n).trip? n :=
    congrArg (fun ts => Tbl.get ts n default) (hoff.trips rfl)
  have hmark : (s.tripMark kind cond n).trip? n = ⟨true, kind, cond, false, decide (s.nretry n ≤ s.retries n),
      (s.trip? n).on && ((s.trip? n).hot || ((s.trip? n).kind = 2 && !(s.trip? n).cond))⟩ := Tbl.get_set_self _ _ _ _
  change _ ∧ (((s.tripMark kind cond n).hswOff n 4).trip? n).on = true ∧ (((s.tripMark kind cond n).hswOff n 4).trip? n).kind = kind ∧
    (((s.tripMark kind cond n).hswOff n 4).trip? n).cond = cond ∧ _
  rw [hrec, hmark]
  exact ⟨hhs, rfl, rfl, rfl, fun f hr ha hb => hflags f n hr ha hb⟩

/-- What a trip by a flag and `trip` shows (R164). -/
theorem State.flag_trip_shows {f : Fld} {kind detail : Nat} {cond : Bool} (hf : f.reg = .HSW_STAT)
    (ha : f.apart HSW_STAT.OLSTAT = true) (hb : f.apart HSW_STAT.STATE = true) (hw : 0 < f.width) (hlo : f.lo + f.width ≤ 32)
    (hfit : hswFitted s.variant n = true) (hg : s.grp n = [n]) (h5 : s.hs n ≠ 5) (h7 : s.hs n ≠ 7) :
    (s₀.ship ((s.flag f true n).trip n kind detail cond)).hs n = 4 ∧
      ((s₀.ship ((s.flag f true n).trip n kind detail cond)).trip? n).on = true ∧
      ((s₀.ship ((s.flag f true n).trip n kind detail cond)).trip? n).kind = kind ∧
      ((s₀.ship ((s.flag f true n).trip n kind detail cond)).trip? n).cond = cond ∧
      (s₀.ship ((s.flag f true n).trip n kind detail cond)).bit f n = true := by
  have hcfg : Fr (maskOf [.HSW_STAT] []) s (s.flag f true n) := State.flag_fr rfl (by rw [hf]; rfl) (.id _ _)
  have hgrp : (s.flag f true n).grp n = [n] := by
    rw [← hg]
    simp only [State.grp, hcfg.variant, hcfg.fld HSW_CFG.PGRP _ _ _ rfl]
  have hhs : (s.flag f true n).hs n = s.hs n := State.fld_flag_apart s true ((Fld.apart_iff.mp hb).symm)
  obtain ⟨h4, hon, hkind, hcond, hflags⟩ := State.trip_alone (s := s.flag f true n) (n := n) (kind := kind) (detail := detail)
    (cond := cond) (by rw [hcfg.variant]; exact hfit) hgrp (by rw [hhs]; exact h5) (by rw [hhs]; exact h7)
  refine ⟨h4, hon, hkind, hcond, ?_⟩
  rw [State.ship_bit, State.bit_of_fld (hflags f hf ha hb)]
  exact State.bit_flag_same s true hlo hw

/-- A conducting channel is neither LOCKED nor DISABLED. -/
theorem State.conducting_iff : s.conducting n = true ↔ s.hs n = 1 ∨ s.hs n = 2 ∨ s.hs n = 3 := by
  simp [State.conducting, or_assoc]

/-- CHANNEL_SHORT_CUT (R154). -/
theorem exec_channelShortCut_trips {iMa : Nat} (hfit : hswFitted s.variant n = true) (hg : s.grp n = [n])
    (hc : s.conducting n = true) (hi : crossesIsc (iscMa n (s.fld HSW_LIM.ISC n)) (s.sensedMa n iMa) = true) :
    ∃ t, exec (.channelShortCut n iMa) s = .next t ∧ t.hs n = 4 ∧ (t.trip? n).on = true ∧ (t.trip? n).kind = 0 ∧
      (t.trip? n).cond = true ∧ t.bit HSW_STAT.SC n = true := by
  refine ⟨_, rfl, ?_⟩
  rw [if_neg (by simp [hfit, hc, hi])]
  have h := State.conducting_iff.mp hc
  exact State.flag_trip_shows rfl rfl rfl (by decide) (by decide) hfit hg (by omega) (by omega)

/-- TLIM_EXPIRY (R164). -/
theorem exec_tlimExpiry_trips {iMa : Nat} (hfit : hswFitted s.variant n = true) (hg : s.grp n = [n]) (h3 : s.hs n = 3) :
    ∃ t, exec (.tlimExpiry n iMa) s = .next t ∧ t.hs n = 4 ∧ (t.trip? n).on = true ∧ (t.trip? n).kind = 1 ∧
      (t.trip? n).cond = true ∧ t.bit HSW_STAT.OC n = true := by
  refine ⟨_, rfl, ?_⟩
  rw [if_pos (by simp [hfit, h3])]
  exact State.flag_trip_shows rfl rfl rfl (by decide) (by decide) hfit hg (by omega) (by omega)

/-- INRUSH_EXTENSION_END above ILIM (R164). -/
theorem exec_inrushExtensionEnd_trips {iMa : Nat} (hfit : hswFitted s.variant n = true) (hg : s.grp n = [n]) (h1 : s.hs n = 1)
    (hx : (s.ch n).extended = true) (hi : s.ilimMa n < s.sensedMa n iMa) :
    ∃ t, exec (.inrushExtensionEnd n iMa) s = .next t ∧ t.hs n = 4 ∧ (t.trip? n).on = true ∧ (t.trip? n).kind = 1 ∧
      (t.trip? n).cond = true ∧ t.bit HSW_STAT.OC n = true := by
  refine ⟨_, rfl, ?_⟩
  rw [if_pos (by simp [hfit, h1, hx]), if_pos hi]
  exact State.flag_trip_shows rfl rfl rfl (by decide) (by decide) hfit hg (by omega) (by omega)

/-- A measured junction temperature or difference plays no part in the channel's state, its group or its trip record. -/
theorem State.measured_same {t : State} (h : Fr (maskOf [.HSW_MEAS2] []) s t) : t.grp n = s.grp n ∧ t.hs n = s.hs n ∧
    t.trip? n = s.trip? n ∧ t.canTrip n = s.canTrip n := by
  have hhs : t.hs n = s.hs n := h.fld HSW_STAT.STATE _ _ _ rfl
  have htrip : t.trip? n = s.trip? n := congrArg (fun ts => Tbl.get ts n default) (h.trips rfl)
  have host : t.ost n = s.ost n := by
    simp only [State.ost, State.byClass, h.fld HSW_STAT.STATE _ _ _ rfl, h.fld HBR_STAT.STATE _ _ _ rfl,
      h.fld VLV_STAT.STATE _ _ _ rfl, h.fld VHS_STAT.STATE _ _ _ rfl, h.fld CTD_STAT.STATE _ _ _ rfl,
      h.fld LED_STAT.STATE _ _ _ rfl]
  refine ⟨?_, hhs, htrip, ?_⟩
  · simp only [State.grp, h.variant, h.fld HSW_CFG.PGRP _ _ _ rfl]
  · rw [State.canTrip, State.canTrip, htrip, host]

theorem State.canTrip_hs (hfit : hswFitted s.variant n = true) (hcan : s.canTrip n = true) : s.hs n ≠ 7 := by
  simp only [State.canTrip, State.ost, State.byClass, slotClass_of_lt (hswFitted_lt hfit), disabledCode, Bool.and_eq_true,
    bne_iff_ne] at hcan
  exact hcan.2

/-- JUNCTION_TRIP (R178). -/
theorem exec_junctionTrip_trips {x : HotOutput} (hfit : hswFitted s.variant n = true) (hg : s.grp n = [n])
    (hcan : s.canTrip n = true) (h5 : s.hs n ≠ 5) :
    ∃ t, exec (.junctionTrip n x) s = .next t ∧ t.hs n = 4 ∧ (t.trip? n).on = true ∧ (t.trip? n).kind = 3 ∧
      (t.trip? n).cond = false ∧ t.bit HSW_STAT.THERM n = true := by
  have hlt := hswFitted_lt hfit
  have hclass := slotClass_of_lt hlt
  have hfr : Fr (maskOf [.HSW_MEAS2] []) s (s.sput HSW_MEAS2.TJ x.tj n) := State.put_fr rfl rfl (.id _ _)
  obtain ⟨hgrp, hhs, -, hcan'⟩ := State.measured_same (n := n) hfr
  have hrun : exec (.junctionTrip n x) s = .next (s.ship (((s.sput HSW_MEAS2.TJ x.tj n).flag HSW_STAT.THERM true n).trip n 3
      (coilDetail ((s.sput HSW_MEAS2.TJ x.tj n).ost n) (tjByte x.tj)) false)) := by
    change execJunctionTrip n x s = _
    have hcan'' : (s.sput HSW_MEAS2.TJ x.tj n).canTrip n = true := by rw [hcan', hcan]
    simp [execJunctionTrip, slotFitted, hlt, hfit, hclass, hcan'', State.ctdClosed, slotBlock, State.putByClass, State.flag, b2n]
  refine ⟨_, hrun, ?_⟩
  exact State.flag_trip_shows (s₀ := s) rfl rfl rfl (by decide) (by decide) (by rw [hfr.variant]; exact hfit) (by rw [hgrp, hg])
    (by rw [hhs]; exact h5) (by rw [hhs]; exact State.canTrip_hs hfit hcan)

/-- DELTA_T_TRIP outside INRUSH (R178). -/
theorem exec_deltaTTrip_trips {dt : Nat} {tj : Int} (hfit : hswFitted s.variant n = true) (hg : s.grp n = [n])
    (hcan : s.canTrip n = true) (h1 : s.hs n ≠ 1) (h5 : s.hs n ≠ 5) (hdt : 40 + 10 * s.fld HSW_TIME.DTTRIP n ≤ dt) :
    ∃ t, exec (.deltaTTrip n dt tj) s = .next t ∧ t.hs n = 4 ∧ (t.trip? n).on = true ∧ (t.trip? n).kind = 3 ∧
      (t.trip? n).cond = false ∧ t.bit HSW_STAT.THERM n = true := by
  refine ⟨_, rfl, ?_⟩
  rw [if_pos (by simp [hfit, h1, hcan, hdt])]
  have hfr : Fr (maskOf [.HSW_MEAS2] []) s ((s.put HSW_MEAS2.DT (satTo dt 8) n).sput HSW_MEAS2.TJ tj n) :=
    State.put_fr rfl rfl (State.put_fr rfl rfl (.id _ _))
  obtain ⟨hgrp, hhs, -, -⟩ := State.measured_same (n := n) hfr
  exact State.flag_trip_shows (s₀ := s) rfl rfl rfl (by decide) (by decide) (by rw [hfr.variant]; exact hfit) (by rw [hgrp, hg])
    (by rw [hhs]; exact h5) (by rw [hhs]; exact State.canTrip_hs hfit hcan)

/-! ## Stuck on -/

/-- A source that is held is live (R635). -/
theorem State.hold_live (b u k d : Nat) : (s.hold b u k d).srcLive b u k = true := by
  unfold State.hold
  split
  case isTrue h => exact h
  case isFalse => simp [State.srcLive, State.raiseCond]

theorem State.hold_fld {b u k d : Nat} {f : Fld} {i j l : Nat} : (s.hold b u k d).fld f i j l = s.fld f i j l := by
  unfold State.hold
  split <;> rfl

/-- A withdrawn source is live through one-shot reports only. -/
theorem State.clearSrc_live (b u k : Nat) :
    (s.clearSrc b u k).srcLive b u k = (s.flt.active.any fun a => a.src == srcId b u k && !a.inj && a.oneMs) := by
  have hraised : (s.flt.raised.map fun (r : Rep) => if r.src = srcId b u k then { r with live := false } else r).any
      (fun r => r.src == srcId b u k && r.live && r.cond) = false := by
    rw [List.any_eq_false]
    intro r hr
    obtain ⟨r', -, rfl⟩ := List.mem_map.mp hr
    split <;> simp [*]
  have hactive (as : List Act) : ((as.filter fun a => !(a.src == srcId b u k && !a.inj && !a.oneMs)).any fun a =>
      a.src == srcId b u k && !a.inj) = as.any fun a => a.src == srcId b u k && !a.inj && a.oneMs := by
    rw [List.any_filter]
    congr 1
    funext a
    cases a.src == srcId b u k <;> cases a.inj <;> cases a.oneMs <;> rfl
  exact (congr (congrArg Bool.or (hactive _)) hraised).trans (Bool.or_false _)

/-! ## The wire model and the open-load monitoring -/

/-- Outside a trip and with its coefficients 0 the wire model judges nothing (R176). -/
theorem State.wireJudge_off (htrips : s.trips = []) (hoff : s.wireOff n = true) : s.wireJudge n = s := by
  have htrip : (s.trip? n).on = false := by
    rw [State.trip?, htrips]
    rfl
  simp [State.wireJudge, htrip, hoff]

theorem satTo_lt (v n : Nat) : satTo v n < 2 ^ n := by
  unfold satTo
  split
  · assumption
  · exact Nat.sub_lt (Nat.two_pow_pos n) Nat.one_pos

/-- WIRE_MODEL_UPDATE of a model that is off (R174 to R177). -/
theorem exec_wireModelUpdate_shows {p iMa voutMv dt : Nat} {tj : Int} (hfit : hswFitted s.variant n = true)
    (hup : s.sys.fabricUp = true) (hl : s.leader n = n) (h6 : s.hs n ≠ 6) (htrips : s.trips = []) (hoff : s.wireOff n = true) :
    ∃ t, exec (.wireModelUpdate n p iMa voutMv dt tj) s = .next t ∧ t.fld HSW_MEAS.I n = satTo (s.sensedMa n iMa) 20 ∧
      t.fld HSW_MEAS2.DT n = satTo dt 8 ∧
      (t.ch n).th1 = thetaStep (s.ch n).th1 (s.fld HSW_WIRE0.K1 n) (s.fld HSW_WIRE0.TAU1 n)
        (if (s.grp n).any (fun m => s.conducting m) then p else 0) := by
  refine ⟨_, rfl, ?_⟩
  rw [if_neg (by simp [hfit])]
  extract_lets +onlyGivenNames s1 q x s2
  have hs1 : s1 = (((s.put HSW_MEAS.I (satTo (s.sensedMa n iMa) 20) n).put HSW_MEAS2.VOUT (satTo (voutMv / 10) 12) n).put
      HSW_MEAS2.DT (satTo dt 8) n).sput HSW_MEAS2.TJ tj n := if_pos hup
  have hfr : Fr (maskOf [.HSW_MEAS, .HSW_MEAS2] []) s s1 := by
    rw [hs1]
    exact State.put_fr rfl rfl (State.put_fr rfl rfl (State.put_fr rfl rfl (State.put_fr rfl rfl (.id _ _))))
  have hi : s1.fld HSW_MEAS.I n = satTo (s.sensedMa n iMa) 20 := by
    rw [hs1]
    simp [State.sput]
    exact satTo_lt _ 20
  have hdt : s1.fld HSW_MEAS2.DT n = satTo dt 8 := by
    rw [hs1]
    simp [State.sput]
    exact satTo_lt _ 8
  have hgrp : s1.grp n = s.grp n := by simp only [State.grp, hfr.variant, hfr.fld HSW_CFG.PGRP _ _ _ rfl]
  have hhs (m : Nat) : s1.hs m = s.hs m := hfr.fld HSW_STAT.STATE _ _ _ rfl
  have hcond (m : Nat) : s1.conducting m = s.conducting m := by simp only [State.conducting, hhs]
  clear_value s1
  have hq : q = if (s.grp n).any (fun m => s.conducting m) then p else 0 := by
    simp only [q, hgrp, hcond]
  have hl1 : s1.leader n = n := by rw [State.leader, hgrp]; exact hl
  rw [if_neg (by simp [hl1, hhs, h6])]
  have h2 : Fr (maskOf [] [.hsw]) s1 s2 := State.setCh_fr rfl (.id _ _)
  have hth : Fr (maskOf [.HSW_WTEMP] []) s2 (s2.showTheta n) := State.showTheta_fr rfl (.id _ _)
  have hoff2 : (s2.showTheta n).wireOff n = true := by
    rw [← hoff]
    simp only [State.wireOff, hth.fld HSW_WIRE0.K1 _ _ _ rfl, hth.fld HSW_WIRE1.K2 _ _ _ rfl, h2.fld HSW_WIRE0.K1 _ _ _ rfl,
      h2.fld HSW_WIRE1.K2 _ _ _ rfl, hfr.fld HSW_WIRE0.K1 _ _ _ rfl, hfr.fld HSW_WIRE1.K2 _ _ _ rfl]
  have htrips2 : (s2.showTheta n).trips = [] := by rw [hth.trips rfl, h2.trips rfl, hfr.trips rfl, htrips]
  rw [State.wireJudge_off htrips2 hoff2, State.ship_fld, State.ship_fld, hth.fld _ _ _ _ rfl, hth.fld _ _ _ _ rfl,
    h2.fld _ _ _ _ rfl, h2.fld _ _ _ _ rfl]
  refine ⟨hi, hdt, ?_⟩
  have hch : (s2.showTheta n).ch n = s2.ch n := congrArg (fun t => Tbl.get t n default) (hth.hsw rfl)
  have hx : x = s.ch n := congrArg (fun t => Tbl.get t n default) (hfr.hsw rfl)
  change ((s2.showTheta n).ch n).th1 = _
  rw [hch, ← hq, ← hx, ← hfr.fld HSW_WIRE0.K1 n 0 0 rfl, ← hfr.fld HSW_WIRE0.TAU1 n 0 0 rfl]
  exact congrArg HswSt.th1 (Tbl.get_set_self s1.hsw n _ _)

/-- A parallel group has its leader in common. -/
theorem State.leader_of_mem_grp {m : Nat} (hm : m ∈ s.grp n) : s.grp m = s.grp n := by
  unfold State.grp at hm ⊢
  split at hm
  case isTrue hp =>
    rw [if_pos hp]
    simp only [List.mem_filter, List.mem_range, Bool.and_eq_true, decide_eq_true_eq, beq_iff_eq, bne_iff_ne] at hm hp
    obtain ⟨-, ⟨⟨h8, h24⟩, -⟩, hpg⟩ := hm
    rw [if_pos (by simp [h8, h24, hpg, hp.2]), hpg]
  case isFalse =>
    rw [List.mem_singleton.mp hm]

theorem State.mem_grp (hfit : hswFitted s.variant n = true) : n ∈ s.grp n := by
  unfold State.grp
  split
  case isTrue hp =>
    simp only [Bool.and_eq_true, decide_eq_true_eq] at hp
    obtain ⟨⟨h8, h24⟩, -⟩ := hp
    simp [hfit, h8, h24]
    omega
  case isFalse => simp

/-- OLSTAT as `setOl` shows it at a member of the group that leads it. -/
theorem State.setOl_fld {st m : Nat} (hst : st < 4) (hm : m ∈ s.grp n) : (s.setOl n st).fld HSW_STAT.OLSTAT m = st := by
  have hfold (ms : List Nat) (t : State) (hm : m ∈ ms ∨ t.fld HSW_STAT.OLSTAT m = st) :
      (forEach ms (fun m s => s.put HSW_STAT.OLSTAT st m) t).fld HSW_STAT.OLSTAT m = st := by
    induction ms generalizing t with
    | nil => simpa [forEach] using hm
    | cons k ms ih =>
      refine ih _ ?_
      by_cases hk : m = k
      · right
        subst hk
        simp [Nat.mod_eq_of_lt hst]
      · rw [State.fld_put_index _ _ hk]
        rcases hm with hm | hm
        · left
          exact (List.mem_cons.mp hm).resolve_left hk
        · exact .inr hm
  have hput := hfold (s.grp n) s (.inl hm)
  unfold State.setOl
  dsimp only
  split
  · exact hput
  · rw [(State.clearSrc_fr (m := maskOf [.FLT_STAT] [.flt]) rfl (.id _ _)).fld _ _ _ _ rfl]
    exact hput

/-- What the monitoring of channel `n` shows and notes, and the groups. -/
structure ChannelKept (n : Nat) (s t : State) : Prop where
  stat : t.reg ⟨.HSW_STAT, n, 0, 0⟩ = s.reg ⟨.HSW_STAT, n, 0, 0⟩
  ch : t.ch n = s.ch n
  grp : ∀ m, t.grp m = s.grp m

/-- The end of the stretch of a member that is not the group's leader. -/
theorem State.stretchEnd_kept {m : Nat} (hm : m ≠ n) (hl : s.leader m ≠ m) : ChannelKept n s ((s.hswOff m 0).hswShow m) := by
  have hput (t : State) (f : Fld) (v : Nat) : (t.put f v m).reg ⟨.HSW_STAT, n, 0, 0⟩ = t.reg ⟨.HSW_STAT, n, 0, 0⟩ :=
    State.reg_setReg_ne _ _ (by simp [Fld.ref, hm.symm])
  have hol : s.olEnd m = s := by simp [State.olEnd, hl]
  have hstat : ((s.hswOff m 0).hswShow m).reg ⟨.HSW_STAT, n, 0, 0⟩ = s.reg ⟨.HSW_STAT, n, 0, 0⟩ := by
    refine (hput _ _ _).trans ((hput _ _ _).trans ?_)
    unfold State.hswOff
    split
    · refine (hput _ _ _).trans ?_
      rw [State.onPeriodEnd, hol]
      rfl
    · exact hput _ _ _
  have hch : ((s.hswOff m 0).hswShow m).ch n = s.ch n := by
    change (s.hswOff m 0).ch n = s.ch n
    unfold State.hswOff
    split
    · change (s.onPeriodEnd m).ch n = s.ch n
      rw [State.onPeriodEnd, hol]
      exact Tbl.get_set_ne hm.symm _ _ _
    · rfl
  have hfr : Fr (maskOf [.HSW_STAT, .FLT_STAT] [.flt, .hsw]) s ((s.hswOff m 0).hswShow m) :=
    State.hswShow_fr rfl (State.hswOff_fr rfl (.id _ _))
  exact ⟨hstat, hch, fun k => by simp only [State.grp, hfr.variant, hfr.fld HSW_CFG.PGRP _ _ _ rfl]⟩

/-- The stretches of the group that end with the measurement leave what the leader shows. -/
theorem State.stretchEnds_kept {ms : List Nat} (hl : ∀ m ∈ ms, m ≠ n → s.leader m ≠ m) (hn : (s.ch n).stretching = false) :
    ChannelKept n s (forEach ms (fun m s => if (s.ch m).stretching && !(s.cmd m).1 then (s.hswOff m 0).hswShow m else s) s) := by
  have hfold (ms : List Nat) (t : State) (h : ChannelKept n s t) (hl : ∀ m ∈ ms, m ≠ n → s.leader m ≠ m) :
      ChannelKept n s
        (forEach ms (fun m s => if (s.ch m).stretching && !(s.cmd m).1 then (s.hswOff m 0).hswShow m else s) t) := by
    induction ms generalizing t with
    | nil => exact h
    | cons m ms ih =>
      refine ih _ ?_ fun k hk => hl k (List.mem_cons_of_mem _ hk)
      dsimp only
      split
      case isFalse => exact h
      case isTrue hs =>
        have hm : m ≠ n := by
          rintro rfl
          rw [h.ch, hn] at hs
          simp at hs
        have hend := State.stretchEnd_kept (s := t) (n := n) hm (by
          rw [State.leader, h.grp]
          exact hl m List.mem_cons_self hm)
        exact ⟨hend.stat.trans h.stat, hend.ch.trans h.ch, fun k => (hend.grp k).trans (h.grp k)⟩
  exact hfold ms s ⟨rfl, rfl, fun _ => rfl⟩ hl

/-- OPEN_LOAD_MEASUREMENT at OLTH or more (R193). -/
theorem exec_openLoadMeasurement_ok {iMa : Nat} (hfit : hswFitted s.variant n = true) (hup : s.sys.fabricUp = true)
    (hl : s.leader n = n) (hc : s.conducting n = true) (hb : s.diagBarred n = false) (ht : s.fld HSW_OL.OLTH n ≠ 0)
    (hi : s.fld HSW_OL.OLTH n ≤ iMa) (hst : (s.ch n).stretching = false) :
    ∃ t, exec (.openLoadMeasurement n iMa) s = .next t ∧ t.fld HSW_STAT.OLSTAT n = 1 ∧ (t.ch n).below = 0 ∧
      (t.ch n).measured = true ∧ t.hs n = s.hs n := by
  refine ⟨_, rfl, ?_⟩
  rw [if_neg (by simp [hfit, hc, hl])]
  extract_lets +onlyGivenNames barred x1 s1
  have hbar : barred = false := by simp [barred, hb, hup]
  have h1 : Fr (maskOf [] [.hsw]) s s1 := State.setCh_fr rfl (.id _ _)
  have hch1 : s1.ch n = { s.ch n with long := true, measured := true } := by
    have hmeas : ((s.ch n).measured || !barred) = true := by simp [hbar]
    exact (Tbl.get_set_self s.hsw n _ _).trans (by rw [hmeas])
  clear_value s1
  rw [if_neg (by simp [hbar, h1.fld HSW_OL.OLTH _ _ _ rfl, ht])]
  have hstep : olStep (s1.fld HSW_STAT.OLSTAT n) (s1.ch n).below (s1.fld HSW_OL.OLCNT n) (decide (s1.fld HSW_OL.OLTH n ≤ iMa)) =
      (1, 0, false) := by
    rw [h1.fld HSW_OL.OLTH _ _ _ rfl]
    simp [olStep, hi]
  rw [hstep]
  dsimp only
  rw [if_neg (by decide)]
  obtain ⟨s2, hs2⟩ : ∃ s2, s2 = (s1.setCh n { s1.ch n with below := 0 }).setOl n 1 := ⟨_, rfl⟩
  rw [← hs2]
  have h2 : Fr (maskOf [.HSW_STAT, .FLT_STAT] [.hsw, .flt]) s1 s2 := hs2 ▸ State.setOl_fr rfl (State.setCh_fr rfl (.id _ _))
  have hmem : n ∈ (s1.setCh n { s1.ch n with below := 0 }).grp n := State.mem_grp (by rw [← hfit, h1.variant.symm]; rfl)
  have hol2 : s2.fld HSW_STAT.OLSTAT n = 1 := hs2 ▸ State.setOl_fld (by decide) hmem
  have hrest : RestKept HSW_STAT.OLSTAT (s1.setCh n { s1.ch n with below := 0 }) s2 := hs2 ▸ State.setOl_rest
  have hhs2 : s2.hs n = s.hs n := (hrest HSW_STAT.STATE n 0 0 rfl rfl).trans (h1.fld HSW_STAT.STATE n 0 0 rfl)
  have hch2 : s2.ch n = { s1.ch n with below := 0 } := by
    have hsw2 : s2.hsw = (s1.setCh n { s1.ch n with below := 0 }).hsw := by
      rw [hs2]
      exact (State.setOl_fr (m := maskOf [.HSW_STAT, .FLT_STAT] [.flt]) rfl (.id _ _)).hsw rfl
    rw [State.ch, hsw2]
    exact Tbl.get_set_self s1.hsw n _ _
  have hgrp (m : Nat) : s2.grp m = s.grp m := by
    simp only [State.grp, h2.variant, h1.variant, h2.fld HSW_CFG.PGRP _ _ _ rfl, h1.fld HSW_CFG.PGRP _ _ _ rfl]
  clear hs2
  have hkept := State.stretchEnds_kept (s := s2) (n := n) (ms := s2.grp n) (fun m hm hne => by
    rw [State.leader, State.leader_of_mem_grp hm, hgrp]
    intro hlm
    have hmem' : s.grp n ≠ [] := List.ne_nil_of_mem (State.mem_grp hfit)
    obtain ⟨k, ks, hk⟩ := List.exists_cons_of_ne_nil hmem'
    rw [State.leader, hk] at hl
    rw [hk] at hlm
    exact hne (hlm.symm.trans hl)) (by rw [hch2, hch1]; exact hst)
  refine ⟨?_, ?_, ?_, ?_⟩
  · exact (congrArg (fun w => ext w 3 2) hkept.stat).trans hol2
  · exact (congrArg HswSt.below hkept.ch).trans (by rw [hch2])
  · exact (congrArg HswSt.measured hkept.ch).trans (by rw [hch2, hch1])
  · exact (congrArg (fun w => ext w 0 3) hkept.stat).trans hhs2

/-- Settles O34: the trips, the stuck-on report, the wire model and the open-load monitoring of a channel. -/
theorem channelTrips : Obligations.ChannelTrips := by
  unfold Obligations.ChannelTrips
  refine ⟨fun s n iMa => exec_channelShortCut_trips, fun s n iMa => exec_tlimExpiry_trips,
    fun s n iMa => exec_inrushExtensionEnd_trips, fun s n x => exec_junctionTrip_trips,
    fun s n dt tj hfit hg hcan h1 h5 hdt => exec_deltaTTrip_trips hfit hg hcan h1 h5 hdt,
    fun s n iMa hfit hc hi => ⟨_, rfl, ?_⟩, fun s n hfit => ⟨_, rfl, ?_⟩, fun s n p iMa voutMv dt tj => exec_wireModelUpdate_shows,
    fun s n iMa => exec_openLoadMeasurement_ok⟩
  · rw [if_pos (by simp [hfit, hc, hi])]
    have hflag : (s.flag HSW_STAT.STUCK true n).bit HSW_STAT.STUCK n = true := by simp
    refine ⟨?_, ?_, State.hold_live _ _ _ _⟩
    · rw [State.ship_bit, State.bit_of_fld State.hold_fld, hflag]
    · rw [State.hs, State.ship_fld, State.hold_fld]
      simp [State.hs]
  · rw [if_pos hfit]
    exact State.clearSrc_live 2 n 6

end Sys2Proof.Machine
end

section
/-! The end of a trip's condition (statement O35). A thermal trip that follows a wire-model trip before the wire has cooled keeps
note of it (`hot`, R176); the channel then waits for the wire too, and TRIP_CONDITION_CLEAR alone does not release it. -/

namespace Sys2Proof.Machine

/-- Channel 0 is tripped by its junction temperature, its retry time over, while the wire of an earlier trip is still hot. -/
def hotWireTrip : State :=
  { State.reset with trips := [(0, { on := true, kind := 3, cond := false, retry := true, latch := false, hot := true })] }.put
    HSW_STAT.STATE 4 0

theorem tripConditionClear_keeps_hot_trip :
    ∃ t, exec (.tripConditionClear 0) hotWireTrip = .next t ∧ (t.trip? 0).on = true := ⟨_, rfl, by decide +kernel⟩

/-- Refutes O35: the condition of the thermal trip clears, and the channel stays in TRIPPED for its hot wire. -/
theorem not_recoveryAndClamp : ¬ Obligations.RecoveryAndClamp := by
  unfold Obligations.RecoveryAndClamp
  rintro ⟨-, clears, -⟩
  obtain ⟨t, e, hon⟩ := tripConditionClear_keeps_hot_trip
  obtain ⟨u, e', hoff, -⟩ := clears hotWireTrip 0 rfl rfl (by decide +kernel) (by decide +kernel) rfl rfl (by decide +kernel)
    (by decide +kernel) (by decide +kernel)
  rw [e] at e'
  obtain rfl := Host.Outcome.next.inj e'
  rw [hon] at hoff
  cases hoff

end Sys2Proof.Machine
end

section
/-! Bridges: command, reversal, cycle limit and overcurrents (statement O36; spec/06 R205 to R218). -/

namespace Sys2Proof.Machine

variable {s₀ s t : State} {b : Nat}

/-! ## What the command of an output depends on -/

/-- The mask of all that neither the commands of the outputs nor the polarity of their supplies depend on. -/
def notCmd : Nat :=
  allBut [.FAB_OSEL, .HSW_FB, .HBR_FB, .VLV_FB, .VHS_FB, .CTD_FB, .LED_FB, .FLT_STAT, .PU_STAT, .PWR_STAT, .HSW_CFG, .HBR_CFG]
    [.sys, .outs, .fab, .flt, .pwr]

theorem Fr.cmd {m : Nat} (h : Fr m s t) (hm : m ||| notCmd = notCmd) (n : Nat) : t.cmd n = s.cmd n := by
  have k := h.mono hm
  have hfb (f : Fld) : t.fb n f = s.fb n f := by
    have hreg : notCmd.testBit (fbRef n).reg.ctorIdx = false := by
      have hall : ∀ r ∈ [Reg.HSW_FB, .HBR_FB, .VLV_FB, .VHS_FB, .CTD_FB, .LED_FB], notCmd.testBit r.ctorIdx = false := by
        decide +kernel
      refine hall _ ?_
      unfold fbRef
      repeat' split
      all_goals simp
    rw [State.fb, State.fb, k.regs _ hreg]
  have hline : t.lineCmd n = s.lineCmd n := by
    simp only [State.lineCmd, State.line, State.bit, k.fld FAB_OSEL.INCON _ _ _ rfl, k.fld FAB_OSEL.IN _ _ _ rfl,
      k.fld FAB_OSEL.DIRCON _ _ _ rfl, k.fld FAB_OSEL.DIR _ _ _ rfl, k.fab rfl]
  have hlimp : t.limpCmd n = s.limpCmd n := by
    simp only [State.limpCmd, State.bit, hfb, k.sys rfl, k.fld PU_STAT.OUT _ _ _ rfl]
  have hforced : t.forced n = s.forced n := by
    have hhalf (a : Bool) (f : BitVec 16) (l : List (Nat × Bool)) : t.halfCmd n a f l = s.halfCmd n a f l := by
      simp only [State.halfCmd, hfb]
    simp only [State.forced, State.bit, hhalf, hline, k.fld FLT_STAT.AOK _ _ _ rfl, k.fld FLT_STAT.BOK _ _ _ rfl, k.flt rfl]
  simp only [State.cmd, hforced, hline, hlimp, State.out, k.outs rfl]

theorem Fr.reversed {m : Nat} (h : Fr m s t) (hm : m ||| notCmd = notCmd) (n : Nat) : t.reversed n = s.reversed n := by
  have k := h.mono hm
  have hfed : t.mainFed n = s.mainFed n := by
    simp only [State.mainFed, State.bit, k.fld HSW_CFG.PRAIL _ _ _ rfl, k.fld HBR_CFG.BKFEED _ _ _ rfl]
  simp only [State.reversed, hfed, k.pwr rfl, k.fld PWR_STAT.PRSRC _ _ _ rfl]

/-! ## The drive mode -/

theorem State.ship_br (u : State) : (s.ship u).br b = u.br b := rfl

theorem State.br_setBr (x : HbrSt) : (s.setBr b x).br b = x := Tbl.get_set_self _ _ _ _

/-- The drive mode of a bridge after a change of it: coasting while the supply is reversed (R487). -/
theorem State.hbrMode_br (m : BMode) : (s.hbrMode b m).br b = { s.br b with
    mode := if s.reversed (48 + b) then .coast else m
    limBrake := false
    ocCoast := (s.br b).ocCoast && ((if s.reversed (48 + b) then .coast else m) == .brakeLow ||
      (if s.reversed (48 + b) then .coast else m) == .brakeHigh) } := by
  unfold State.hbrMode
  extract_lets +onlyGivenNames x m' s1 s2
  have h1 : Fr (maskOf [.HBR_POS] []) s s1 := Fr.ite (State.posMove_fr rfl (.id _ _)) (.id _ _)
  have h2 : Fr (maskOf [.HBR_POS, .HBR_STAT] []) s s2 :=
    Fr.ite (State.flag_fr rfl rfl (h1.mono rfl)) (h1.mono rfl)
  rw [State.br_setBr, State.br, h2.hbr rfl]
  rfl

/-- What a change of the drive mode may write. -/
def modeMask : Nat := maskOf [.HBR_POS, .HBR_STAT] [.hbr]

theorem State.hbrMode_mask (m : BMode) : Fr modeMask s (s.hbrMode b m) := State.hbrMode_fr rfl (.id _ _)

/-- Of HBR_STAT a change of the drive mode writes RIPVALID only. -/
theorem State.hbrMode_rest (m : BMode) : RestKept HBR_STAT.RIPVALID s (s.hbrMode b m) := by
  unfold State.hbrMode
  extract_lets +onlyGivenNames x m' s1 s2
  have h1 : Fr (maskOf [.HBR_POS] []) s s1 := Fr.ite (State.posMove_fr rfl (.id _ _)) (.id _ _)
  have h2 : RestKept HBR_STAT.RIPVALID s s2 := Holds.ite ((RestKept.refl s).fr h1 rfl).put ((RestKept.refl s).fr h1 rfl)
  exact h2.fr (m := maskOf [] [.hbr]) (State.setBr_fr rfl (.id _ _)) rfl

theorem State.hbrMode_hb (m : BMode) : (s.hbrMode b m).hb b = s.hb b := State.hbrMode_rest m HBR_STAT.STATE b 0 0 rfl rfl

/-- A start of DRIVE while the supply is not reversed. -/
theorem State.hbrStart_drives (d : Bool) (hr : s.reversed (48 + b) = false) : ((s.hbrStart b d).br b).mode = .drive ∧
    ((s.hbrStart b d).br b).dir = d ∧ ((s.hbrStart b d).br b).revWait = false ∧ (s.hbrStart b d).hb b = s.hb b := by
  have hbr : (s.hbrStart b d).br b = { (s.hbrMode b .drive).br b with
      dir := d, drove := true, revWait := false, revDone := false, counts := 0, run := 0, exceeded := false, against := 0 } :=
    State.br_setBr _
  rw [hbr, State.hbrMode_br, hr]
  exact ⟨rfl, rfl, rfl, State.hbrMode_hb (s := s) .drive⟩

/-- Without a reversal to wait for, a bridge that is steered drives (R211). -/
theorem State.hbrSteer_drives (d : Bool) (hr : s.reversed (48 + b) = false)
    (hrev : ((s.br b).drove && (s.br b).dir != d && !(s.br b).revDone) = false) : s.hbrSteer b d = s.hbrStart b d := by
  simp [State.hbrSteer, hr, hrev]

/-! ## The commands -/

/-- HBR_STAT.IN and DIR: what the lines show is no part of the bridge's state. -/
theorem State.hbrShow_mask : Fr (maskOf [.HBR_STAT] []) s (s.hbrShow b) := State.hbrShow_fr rfl (.id _ _)

theorem State.hbrShow_hb : (s.hbrShow b).hb b = s.hb b := by simp [State.hb, State.hbrShow]

/-- From IDLE a bridge that never drove follows a command ON (R208, R212). -/
theorem exec_bridgeCommandChange_drives (hfit : hbrFitted s.variant b = true) (h0 : s.hb b = 0) (hc : (s.cmd (48 + b)).1 = true)
    (hd : (s.br b).drove = false) (hr : s.reversed (48 + b) = false) :
    ∃ t, exec (.bridgeCommandChange b) s = .next t ∧ t.hb b = 1 ∧ (t.br b).mode = .drive ∧ (t.br b).dir = (s.cmd (48 + b)).2 := by
  refine ⟨_, rfl, ?_⟩
  rw [if_neg (by simp [hfit])]
  extract_lets +onlyGivenNames s1 c
  have h1 : Fr (maskOf [.HBR_STAT] []) s s1 := State.hbrShow_mask
  have hb1 : s1.hb b = 0 := State.hbrShow_hb.trans h0
  have hr1 : s1.reversed (48 + b) = false := (h1.reversed rfl _).trans hr
  have hfollow : s1.hbrFollow b = (s1.setHb b 1).hbrStart b (s.cmd (48 + b)).2 := by
    have hset : Fr (maskOf [.HBR_STAT] []) s1 (s1.setHb b 1) := State.setHb_fr rfl (.id _ _)
    have hcmd : (s1.setHb b 1).cmd (48 + b) = s.cmd (48 + b) := (hset.cmd rfl _).trans (h1.cmd rfl _)
    have hbr : (s1.setHb b 1).br b = s.br b := congrArg (fun t => Tbl.get t b default) ((hset.hbr rfl).trans (h1.hbr rfl))
    simp only [State.hbrFollow, hb1, h1.cmd rfl, hc, hr1, State.hbrDrive, hcmd, decide_true, Bool.and_true, Bool.not_false,
      Bool.false_eq_true, if_true, if_false]
    exact State.hbrSteer_drives _ ((hset.reversed rfl _).trans hr1) (by rw [hbr, hd]; rfl)
  simp only [hb1, hfollow]
  obtain ⟨hmode, hdir, -, hhb⟩ := State.hbrStart_drives (s := s1.setHb b 1) (b := b) (s.cmd (48 + b)).2
    (((State.setHb_fr (m := maskOf [.HBR_STAT] []) rfl (.id _ _)).reversed rfl _).trans hr1)
  refine ⟨?_, hmode, hdir⟩
  rw [State.hb, State.ship_fld]
  exact hhb.trans (by simp [State.hb, State.setHb])

/-- From DRIVE a bridge follows a command OFF to IDLE (R207, R212). -/
theorem exec_bridgeCommandChange_idles (hfit : hbrFitted s.variant b = true) (h1 : s.hb b = 1) (hc : (s.cmd (48 + b)).1 = false)
    (hl : (s.br b).limBrake = false) (hr : s.reversed (48 + b) = false) :
    ∃ t, exec (.bridgeCommandChange b) s = .next t ∧ t.hb b = 0 ∧ (t.br b).mode = s.offMode b := by
  refine ⟨_, rfl, ?_⟩
  rw [if_neg (by simp [hfit])]
  extract_lets +onlyGivenNames s1 c
  have hshow : Fr (maskOf [.HBR_STAT] []) s s1 := State.hbrShow_mask
  have hb1 : s1.hb b = 1 := State.hbrShow_hb.trans h1
  have hoff : c.1 = false := by rw [show c = s.cmd (48 + b) from hshow.cmd rfl _, hc]
  simp only [hb1, hoff, Bool.not_false, if_true]
  have hset : Fr (maskOf [.HBR_STAT] []) s (s1.setHb b 0) := State.setHb_fr rfl hshow
  have hbr : (s1.setHb b 0).br b = s.br b := congrArg (fun t => Tbl.get t b default) (hset.hbr rfl)
  have hmode : (s1.setHb b 0).offMode b = s.offMode b := by
    simp only [State.offMode, hset.fld HBR_CFG.OFFMODE _ _ _ rfl]
  have hidle : s1.hbrIdle b = ((s1.setHb b 0).hbrMode b (s.offMode b)).setBr b
      { ((s1.setHb b 0).hbrMode b (s.offMode b)).br b with revWait := false } := by
    simp only [State.hbrIdle, hbr, hl, hmode, Bool.false_eq_true, if_false]
  rw [hidle]
  refine ⟨?_, ?_⟩
  · rw [State.hb, State.ship_fld, State.fld_setBr]
    exact (State.hbrMode_hb (s := s1.setHb b 0) _).trans (by simp [State.hb, State.setHb])
  · rw [State.ship_br, State.br_setBr, State.hbrMode_br, (hset.reversed rfl _).trans hr]
    rfl

/-- In DRIVE an opposite direction is braked for first (R211). -/
theorem exec_bridgeCommandChange_reverses (hfit : hbrFitted s.variant b = true) (h1 : s.hb b = 1)
    (hbr : s.br b = { (default : HbrSt) with mode := .drive, drove := true }) (hc : s.cmd (48 + b) = (true, true))
    (hrev : s.fld HBR_CFG.TREV b ≠ 0) (hr : s.reversed (48 + b) = false) :
    ∃ t, exec (.bridgeCommandChange b) s = .next t ∧ (t.br b).mode = .brakeLow ∧ (t.br b).revWait = true ∧ t.hb b = 1 := by
  refine ⟨_, rfl, ?_⟩
  rw [if_neg (by simp [hfit])]
  extract_lets +onlyGivenNames s1 c
  have hshow : Fr (maskOf [.HBR_STAT] []) s s1 := State.hbrShow_mask
  have hb1 : s1.hb b = 1 := State.hbrShow_hb.trans h1
  have hcmd : c = (true, true) := by rw [show c = s.cmd (48 + b) from hshow.cmd rfl _, hc]
  have hbr1 : s1.br b = { (default : HbrSt) with mode := .drive, drove := true } := by
    rw [← hbr]
    exact congrArg (fun t => Tbl.get t b default) (hshow.hbr rfl)
  have hdir : (s1.br b).dir = false := congrArg HbrSt.dir hbr1
  have hdrove : (s1.br b).drove = true := congrArg HbrSt.drove hbr1
  have hdone : (s1.br b).revDone = false := congrArg HbrSt.revDone hbr1
  have hwait : (s1.br b).revWait = false := congrArg HbrSt.revWait hbr1
  have hr1 : s1.reversed (48 + b) = false := (hshow.reversed rfl _).trans hr
  have htrev : s1.fld HBR_CFG.TREV b ≠ 0 := by rw [hshow.fld HBR_CFG.TREV _ _ _ rfl]; exact hrev
  have hsteer : s1.hbrSteer b true =
      (s1.hbrMode b .brakeLow).setBr b { (s1.hbrMode b .brakeLow).br b with revWait := true } := by
    simp [State.hbrSteer, hr1, hdir, hdrove, hdone, htrev]
  simp only [hb1, hcmd, hwait, hdir, hsteer, Bool.not_true, Bool.false_eq_true, if_false, reduceCtorEq]
  refine ⟨?_, ?_, ?_⟩
  · rw [State.ship_br, State.br_setBr, State.hbrMode_br, hr1]
    rfl
  · rw [State.ship_br, State.br_setBr]
  · rw [State.hb, State.ship_fld, State.fld_setBr]
    exact (State.hbrMode_hb _).trans hb1

/-- The end of the braking drives in the direction commanded (R211). -/
theorem exec_reversalBrakeEnd_drives (hfit : hbrFitted s.variant b = true) (hm : (s.br b).mode = .brakeLow)
    (hl : (s.br b).limBrake = false) (hd : (s.br b).drove = true) (hw : (s.br b).revWait = true)
    (hr : s.reversed (48 + b) = false) : ∃ t, exec (.reversalBrakeEnd b) s = .next t ∧ (t.br b).mode = .drive ∧
      (t.br b).dir = (s.cmd (48 + b)).2 ∧ (t.br b).revWait = false := by
  refine ⟨_, rfl, ?_⟩
  extract_lets +onlyGivenNames x s1
  have h1 : Fr (maskOf [] [.hbr]) s s1 := State.setBr_fr rfl (.id _ _)
  have hbr1 : s1.br b = { s.br b with revDone := true } := State.br_setBr _
  have hr1 : s1.reversed (48 + b) = false := (h1.reversed rfl _).trans hr
  rw [if_pos (by simp [x, hfit, hm, hl, hd]), if_pos hw, State.hbrSteer_drives _ hr1 (by simp [hbr1]), h1.cmd rfl]
  obtain ⟨hmode, hdir, hwait, -⟩ := State.hbrStart_drives (s := s1) (b := b) (s.cmd (48 + b)).2 hr1
  rw [State.ship_br]
  exact ⟨hmode, hdir, hwait⟩

/-- The cycle limit brakes (R215). -/
theorem exec_bridgeCycleLimit_brakes {iMa : Nat} (hfit : hbrFitted s.variant b = true) (hrun : s.hbrRunning b = true)
    (hm : (s.br b).mode = .drive) (hi : 92 * s.hbLimMa b ≤ 100 * s.sensedMa (48 + b) iMa) (hr : s.reversed (48 + b) = false) :
    ∃ t, exec (.bridgeCycleLimit b iMa) s = .next t ∧ t.hb b = 2 ∧ (t.br b).mode = .brakeLow ∧ (t.br b).limBrake = true := by
  refine ⟨_, rfl, ?_⟩
  rw [if_pos (by simp [hfit, hrun, hm, hi])]
  extract_lets +onlyGivenNames s1
  have hset : Fr (maskOf [.HBR_STAT] []) s (s.setHb b 2) := State.setHb_fr rfl (.id _ _)
  refine ⟨?_, ?_, by rw [State.ship_br, State.br_setBr]⟩
  · rw [State.hb, State.ship_fld, State.fld_setBr]
    exact (State.hbrMode_hb (s := s.setHb b 2) _).trans (by simp [State.hb, State.setHb])
  · rw [State.ship_br, State.br_setBr, State.hbrMode_br, (hset.reversed rfl _).trans hr]
    rfl

/-- The end of the cycle limit drives again (R215). -/
theorem exec_cycleLimitEnd_drives (hfit : hbrFitted s.variant b = true) (h2 : s.hb b = 2) (hl : (s.br b).limBrake = true)
    (hr : s.reversed (48 + b) = false) :
    ∃ t, exec (.cycleLimitEnd b) s = .next t ∧ t.hb b = 2 ∧ (t.br b).mode = .drive ∧ (t.br b).limBrake = false := by
  refine ⟨_, rfl, ?_⟩
  rw [if_pos (by simp [hfit, h2, hl])]
  refine ⟨(State.hbrMode_hb _).trans h2, ?_, ?_⟩
  · rw [State.ship_br, State.hbrMode_br, hr]
    rfl
  · rw [State.ship_br, State.hbrMode_br]

/-! ## Trips -/

theorem hbrFitted_lt {v : Variant} (h : hbrFitted v b = true) : b < 12 := by
  cases v <;> simp [hbrFitted] at h <;> omega

theorem slotClass_bridge (h : b < 12) : slotClass (48 + b) = 1 := by
  rw [slotClass, if_neg (by omega), if_pos (by omega)]

/-- What a bridge shows after a trip by a flag and `trip`: TRIPPED and coasting, with its record (R212, R216, R218). -/
theorem State.bridge_trip_shows {f : Fld} {kind detail : Nat} {cond : Bool} (hf : f.reg = .HBR_STAT)
    (ha : f.apart HBR_STAT.RIPVALID = true) (hb : f.apart HBR_STAT.STATE = true) (hw : 0 < f.width) (hlo : f.lo + f.width ≤ 32)
    (hfit : hbrFitted s.variant b = true) (h5 : s.hb b ≠ 5) :
    (s₀.ship ((s.flag f true b).trip (48 + b) kind detail cond)).hb b = 4 ∧
      ((s₀.ship ((s.flag f true b).trip (48 + b) kind detail cond)).br b).mode = .coast ∧
      ((s₀.ship ((s.flag f true b).trip (48 + b) kind detail cond)).trip? (48 + b)).on = true ∧
      ((s₀.ship ((s.flag f true b).trip (48 + b) kind detail cond)).trip? (48 + b)).kind = kind ∧
      (s₀.ship ((s.flag f true b).trip (48 + b) kind detail cond)).bit f b = true := by
  have hclass := slotClass_bridge (hbrFitted_lt hfit)
  obtain ⟨s1, hs1⟩ : ∃ s1, s1 = (s.flag f true b).tripMark kind cond (48 + b) := ⟨_, rfl⟩
  have hhb1 : s1.hb b = s.hb b := by
    rw [hs1]
    exact State.fld_flag_apart s true (Fld.apart_iff.mp hb).symm
  have hflag1 : s1.bit f b = true := by
    rw [hs1]
    exact State.bit_flag_same s true hlo hw
  have hrec1 : (s1.trip? (48 + b)).on = true ∧ (s1.trip? (48 + b)).kind = kind := by
    rw [hs1, State.trip?, State.tripMark, State.setTrip]
    rw [Tbl.get_set_self]
    exact ⟨rfl, rfl⟩
  have hone : (s.flag f true b).tripOne kind cond (48 + b) = s1.hbrOff b 4 := by
    have host : s1.ost (48 + b) = s1.hb b := by simp [State.ost, State.byClass, hclass, State.hb]
    rw [State.tripOne, ← hs1]
    simp [host, hhb1, lockedCode, disabledCode, trippedCode, hclass, h5, State.stageOff, State.disabling]
  have htrip : (s.flag f true b).trip (48 + b) kind detail cond =
      ((s1.hbrOff b 4).raiseCond (slotBlock (48 + b)) (slotUnit (48 + b)) kind detail).hbrEvent b 1 := by
    have hgrp : (s.flag f true b).grp (48 + b) = [48 + b] := if_neg (by simp; omega)
    simp [State.trip, hgrp, forEach, hone, hclass]
  rw [htrip]
  clear hs1 hone htrip
  have hset : Fr (maskOf [.HBR_STAT] []) s1 (s1.setHb b 4) := State.setHb_fr rfl (.id _ _)
  have hoff : Fr (maskOf [.HBR_POS, .HBR_STAT] [.hbr]) s1 (s1.hbrOff b 4) := State.hbrOff_fr rfl (.id _ _)
  have hrest : RestKept HBR_STAT.RIPVALID (s1.setHb b 4) (s1.hbrOff b 4) :=
    (State.hbrMode_rest .coast).fr (m := maskOf [] [.hbr]) (State.setBr_fr rfl (.id _ _)) rfl
  have hmode : ((s1.hbrOff b 4).br b).mode = .coast := by
    rw [State.hbrOff, State.br_setBr, State.hbrMode_br]
    exact ite_self _
  generalize s1.hbrOff b 4 = s2 at hoff hrest hmode ⊢
  obtain ⟨s3, hs3⟩ : ∃ s3, s3 = s2.raiseCond (slotBlock (48 + b)) (slotUnit (48 + b)) kind detail := ⟨_, rfl⟩
  rw [← hs3]
  have hraise : Fr (maskOf [] [.flt]) s2 s3 := hs3 ▸ State.raiseCond_fr rfl (.id _ _)
  have hevent : Fr (allBut [.HBR_STAT] [.hbr, .trips]) s3 (s3.hbrEvent b 1) := State.hbrEvent_fr rfl (.id _ _)
  have hfr : Fr (allBut [.HBR_STAT] [.hbr, .trips]) s2 (s3.hbrEvent b 1) := (hraise.mono rfl).trans hevent
  have htrips : (s3.hbrEvent b 1).trip? (48 + b) = s1.trip? (48 + b) :=
    congrArg (fun ts => Tbl.get ts (48 + b) default) ((hfr.trips rfl).trans (hoff.trips rfl))
  have hbr : (s3.hbrEvent b 1).br b = s2.br b := congrArg (fun ts => Tbl.get ts b default) (hfr.hbr rfl)
  have hfld (g : Fld) (hg : g.reg = .HBR_STAT) (hga : g.apart HBR_STAT.RIPVALID = true) :
      (s3.hbrEvent b 1).fld g b = (s1.setHb b 4).fld g b :=
    (hfr.fld g b 0 0 (by rw [hg]; rfl)).trans (hrest g b 0 0 hg hga)
  rw [State.ship_br, State.ship_bit, hbr]
  change (s3.hbrEvent b 1).fld HBR_STAT.STATE b = 4 ∧ _ ∧ ((s3.hbrEvent b 1).trip? (48 + b)).on = true ∧
    ((s3.hbrEvent b 1).trip? (48 + b)).kind = kind ∧ _
  rw [htrips, hfld HBR_STAT.STATE rfl rfl, State.bit_of_fld (hfld f hf ha)]
  refine ⟨by simp [State.setHb], hmode, hrec1.1, hrec1.2, ?_⟩
  rw [State.setHb, State.bit_put_apart _ _ (Fld.apart_iff.mp hb)]
  exact hflag1

/-- TLIM in LIMIT trips (R216). -/
theorem exec_bridgeTlimExpiry_trips {iMa : Nat} (hfit : hbrFitted s.variant b = true) (h2 : s.hb b = 2) :
    ∃ t, exec (.bridgeTlimExpiry b iMa) s = .next t ∧ t.hb b = 4 ∧ (t.br b).mode = .coast ∧ (t.trip? (48 + b)).on = true ∧
      (t.trip? (48 + b)).kind = 1 ∧ t.bit HBR_STAT.OC b = true := by
  refine ⟨_, rfl, ?_⟩
  rw [if_pos (by simp [hfit, h2])]
  exact State.bridge_trip_shows rfl rfl rfl (by decide) (by decide) hfit (by omega)

/-- A short cut trips (R218). -/
theorem exec_bridgeShortCut_trips {sw iMa : Nat} (hfit : hbrFitted s.variant b = true) (hm : (s.br b).mode ≠ .coast)
    (ho : (s.br b).ocCoast = false) (hcan : s.canTrip (48 + b) = true)
    (hi : crossesIsc (hbIscMa b (s.fld HBR_LIM.ISC b)) (s.sensedMa (48 + b) iMa) = true) :
    ∃ t, exec (.bridgeShortCut b sw iMa) s = .next t ∧ t.hb b = 4 ∧ (t.br b).mode = .coast ∧
      (t.trip? (48 + b)).on = true ∧ (t.trip? (48 + b)).kind = 0 ∧ t.bit HBR_STAT.SC b = true := by
  refine ⟨_, rfl, ?_⟩
  rw [if_pos (by simp [hfit, hm, ho, hcan, hi])]
  have h5 : s.hb b ≠ 5 := by
    simp only [State.canTrip, State.ost, State.byClass, slotClass_bridge (hbrFitted_lt hfit), disabledCode, Bool.and_eq_true,
      bne_iff_ne, Nat.add_sub_cancel_left] at hcan
    exact hcan.2
  exact State.bridge_trip_shows rfl rfl rfl (by decide) (by decide) hfit h5

/-- Settles O36: drive, reversal, cycle limit and trips of a bridge. -/
theorem bridgeDrive : Obligations.BridgeDrive := by
  unfold Obligations.BridgeDrive
  refine ⟨fun s b => exec_bridgeCommandChange_drives, fun s b => exec_bridgeCommandChange_idles,
    fun s b => exec_bridgeCommandChange_reverses, fun s b => exec_reversalBrakeEnd_drives,
    fun s b iMa => exec_bridgeCycleLimit_brakes, fun s b => exec_cycleLimitEnd_drives, fun s b hfit h2 hl => ⟨_, rfl, ?_⟩,
    fun s b iMa => exec_bridgeTlimExpiry_trips, fun s b iMa hfit hm ho hi => ⟨_, rfl, ?_⟩,
    fun s b sw iMa => exec_bridgeShortCut_trips⟩
  · rw [if_pos (by simp [hfit, h2, hl])]
    simp [State.hb, State.setHb]
  · rw [if_neg (by simp [hfit]), if_pos (by simp [ho, hi]; exact hm), State.ship_br, State.br_setBr]

end Sys2Proof.Machine
end

section
/-! Bridges: monitoring, position, stops and register writes (statement O37; spec/06 R220 to R242). -/

namespace Sys2Proof.Machine

variable {s₀ s t : State} {b : Nat}

theorem State.ship_hb (u : State) : (s.ship u).hb b = u.hb b := rfl

/-! ## Open load -/

theorem exec_bridgeOpenLoad_shows {iMa : Nat} (hfit : hbrFitted s.variant b = true) (h1 : s.hb b = 1)
    (ht : s.fld HBR_OL.OLTH b ≠ 0) (hb : s.diagBarred (48 + b) = false) : ∃ t, exec (.bridgeOpenLoad b iMa) s = .next t ∧
      t.fld HBR_STAT.OLSTAT b = if s.sensedMa (48 + b) iMa < 10 * s.fld HBR_OL.OLTH b then 2 else 1 := by
  refine ⟨_, rfl, ?_⟩
  rw [if_pos (by simp [hfit, h1, ht, hb]), State.ship_fld]
  extract_lets +onlyGivenNames s1 old new s2 s3
  split
  case isTrue heq => exact heq
  case isFalse hne =>
    have hev : Fr (allBut [.HBR_STAT] []) s3 (s3.hbrEvent b 2) := State.hbrEvent_fr rfl (.id _ _)
    have hput : s2.fld HBR_STAT.OLSTAT b = new := by
      have hlt : new < 4 := by
        unfold new
        split <;> decide
      exact (State.fld_put_same _ _ (by decide)).trans (Nat.mod_eq_of_lt hlt)
    have hrep : Fr (maskOf [.FLT_STAT] [.flt]) s2 s3 := by
      unfold s3
      split
      · exact State.hold_fr rfl (.id _ _)
      · exact State.clearSrc_fr rfl (.id _ _)
    rw [hev.fld _ _ _ _ rfl, hrep.fld _ _ _ _ rfl, hput]

/-! ## Stops -/

/-- A stop while the supply is not reversed: STOPPED and BRAKE_LOW with its cause and its flag (R213, R226, R227). -/
theorem State.hbrStop_shows {cause : Nat} {f : Fld} (hc : cause = 1 ∧ f = HBR_STAT.PINCH ∨ cause = 2 ∧ f = HBR_STAT.STALL)
    (hr : s.reversed (48 + b) = false) : (s.hbrStop b cause).hb b = 3 ∧ ((s.hbrStop b cause).br b).mode = .brakeLow ∧
      (s.hbrStop b cause).fld HBR_STAT.CAUSE b = cause ∧ (s.hbrStop b cause).bit f b = true := by
  have hset : Fr (maskOf [.HBR_STAT] []) s (s.setHb b 3) := State.setHb_fr rfl (.id _ _)
  have hmode : (((s.setHb b 3).hbrMode b .brakeLow).br b).mode = .brakeLow := by
    rw [State.hbrMode_br, (hset.reversed rfl _).trans hr]
    rfl
  have hhb : ((s.setHb b 3).hbrMode b .brakeLow).hb b = 3 := (State.hbrMode_hb _).trans (by simp [State.hb, State.setHb])
  have hend {u : State} (hst : u.hb b = 3) (hm : (u.br b).mode = .brakeLow) (hcause : u.fld HBR_STAT.CAUSE b = cause)
      (hf : u.bit f b = true) : (u.hbrEvent b 0).hb b = 3 ∧ ((u.hbrEvent b 0).br b).mode = .brakeLow ∧
        (u.hbrEvent b 0).fld HBR_STAT.CAUSE b = cause ∧ (u.hbrEvent b 0).bit f b = true := by
    have hev : Fr (allBut [.HBR_STAT] [.hbr]) u (u.hbrEvent b 0) := State.hbrEvent_fr rfl (.id _ _)
    have hreg : f.reg = .HBR_STAT := by rcases hc with ⟨-, rfl⟩ | ⟨-, rfl⟩ <;> rfl
    rw [State.hb, hev.fld _ _ _ _ rfl, hev.fld _ _ _ _ rfl, State.br, hev.hbr rfl,
      State.bit_of_fld (hev.fld f b 0 0 (by rw [hreg]; rfl))]
    exact ⟨hst, hm, hcause, hf⟩
  unfold State.hbrStop
  extract_lets +onlyGivenNames s1 x s2
  have hbr2 : (s2.br b).mode = .brakeLow := (congrArg HbrSt.mode (State.br_setBr _)).trans hmode
  have hhb2 : s2.hb b = 3 := (State.fld_put_apart _ _ (by decide)).trans hhb
  have hc2 : s2.fld HBR_STAT.CAUSE b = cause % 4 := by
    change (((s.setHb b 3).hbrMode b .brakeLow).put HBR_STAT.CAUSE cause b).fld HBR_STAT.CAUSE b = _
    simp
  clear_value s2
  rcases hc with ⟨rfl, rfl⟩ | ⟨rfl, rfl⟩
  · exact hend ((State.fld_flag_apart _ _ (by decide)).trans hhb2) hbr2 ((State.fld_flag_apart _ _ (by decide)).trans hc2) (by simp)
  · exact hend ((State.fld_flag_apart _ _ (by decide)).trans hhb2) hbr2 ((State.fld_flag_apart _ _ (by decide)).trans hc2) (by simp)

/-- The PCNT-th long period stops the bridge (R226). -/
theorem exec_pinchPeriodExceeded_stops (hfit : hbrFitted s.variant b = true) (ha : s.pinchArmed b = true)
    (hx : (s.br b).exceeded = false) (hn : s.fld HBR_PINCH.PCNT b ≤ (s.br b).run + 1) (hr : s.reversed (48 + b) = false) :
    ∃ t, exec (.pinchPeriodExceeded b) s = .next t ∧ t.hb b = 3 ∧ (t.br b).mode = .brakeLow ∧ t.fld HBR_STAT.CAUSE b = 1 ∧
      t.bit HBR_STAT.PINCH b = true := by
  refine ⟨_, rfl, ?_⟩
  rw [if_pos hfit, State.pinchExceed, if_neg (by simp [hx, ha])]
  extract_lets +onlyGivenNames s1
  have h1 : Fr (maskOf [] [.hbr]) s s1 := State.setBr_fr rfl (.id _ _)
  rw [if_pos (by rw [h1.fld _ _ _ _ rfl]; exact hn), State.ship_br, State.ship_hb, State.ship_fld, State.ship_bit]
  exact State.hbrStop_shows (.inl ⟨rfl, rfl⟩) ((h1.reversed rfl _).trans hr)

/-- A stall stops the bridge (R227). -/
theorem exec_stallDetected_stops {iMa : Nat} (hfit : hbrFitted s.variant b = true) (hrun : s.hbrRunning b = true)
    (h0 : s.fld HBR_STALL.ISTALL b ≠ 0) (hi : s.fld HBR_STALL.ISTALL b * hbStep b ≤ s.sensedMa (48 + b) iMa)
    (hr : s.reversed (48 + b) = false) : ∃ t, exec (.stallDetected b iMa) s = .next t ∧ t.hb b = 3 ∧
      (t.br b).mode = .brakeLow ∧ t.fld HBR_STAT.CAUSE b = 2 ∧ t.bit HBR_STAT.STALL b = true := by
  refine ⟨_, rfl, ?_⟩
  rw [if_pos (by simp [hfit, hrun, h0, hi])]
  extract_lets +onlyGivenNames d s1 s2
  have h1 : Fr (maskOf [.HBR_STAT] []) s s1 := State.stallRip_fr rfl (.id _ _)
  have h2 : s2.reversed (48 + b) = s.reversed (48 + b) := by
    unfold s2
    split
    · have hpol : (s1.raise 3 b 2 d).reversed (48 + b) = s1.reversed (48 + b) := rfl
      exact hpol.trans (h1.reversed rfl _)
    · exact h1.reversed rfl _
  rw [State.ship_br, State.ship_hb, State.ship_fld, State.ship_bit]
  exact State.hbrStop_shows (.inr ⟨rfl, rfl⟩) (h2.trans hr)

/-- A stop that is released with the command OFF ends in IDLE (R230). -/
theorem State.hbrRelease_idles (h3 : s.hb b = 3) (ho : (s.br b).stopOver = true) (hc : (s.cmd (48 + b)).1 = false) :
    s.hbrRelease b = s.hbrIdle b := by
  simp [State.hbrRelease, h3, ho, hc]

/-- IDLE keeps what the stop noted. -/
theorem State.hbrIdle_shows : (s.hbrIdle b).hb b = 0 ∧ ((s.hbrIdle b).br b).stopOver = (s.br b).stopOver ∧
    ((s.hbrIdle b).br b).stopClr = (s.br b).stopClr := by
  unfold State.hbrIdle
  extract_lets +onlyGivenNames s1 s2
  have hhb : s1.hb b = 0 := by simp [s1, State.hb, State.setHb]
  have h2 : s2.hb b = 0 ∧ (s2.br b).stopOver = (s.br b).stopOver ∧ (s2.br b).stopClr = (s.br b).stopClr := by
    unfold s2
    split
    · exact ⟨hhb, rfl, rfl⟩
    · rw [State.hbrMode_hb, State.hbrMode_br]
      exact ⟨hhb, rfl, rfl⟩
  rw [State.br_setBr]
  exact h2

/-- TSTOPBRK has passed with the command OFF (R230). -/
theorem exec_tstopbrkExpiry_releases (hfit : hbrFitted s.variant b = true) (h3 : s.hb b = 3) (ho : (s.br b).stopOver = false)
    (hc : (s.cmd (48 + b)).1 = false) :
    ∃ t, exec (.tstopbrkExpiry b) s = .next t ∧ (t.br b).stopOver = true ∧ t.hb b = 0 := by
  refine ⟨_, rfl, ?_⟩
  extract_lets +onlyGivenNames x
  rw [if_pos (by simp [x, hfit, h3, ho])]
  extract_lets +onlyGivenNames met
  obtain ⟨y, hy⟩ : ∃ y, y = { x with stopOver := true, revDone := x.revDone || met } := ⟨_, rfl⟩
  rw [← hy]
  have hfr : Fr (maskOf [] [.hbr]) s (s.setBr b y) := State.setBr_fr rfl (.id _ _)
  have hover : ((s.setBr b y).br b).stopOver = true := by rw [State.br_setBr, hy]
  rw [State.hbrRelease_idles (s := s.setBr b y) h3 hover (by rw [hfr.cmd rfl]; exact hc), State.ship_br, State.ship_hb]
  obtain ⟨hhb, hstop, -⟩ := State.hbrIdle_shows (s := s.setBr b y) (b := b)
  exact ⟨hstop.trans hover, hhb⟩

/-- CLR.STOP with the command OFF (R230). -/
theorem exec_hbrClrStop_releases {w : Who} (hfit : hbrFitted s.variant b = true) (h3 : s.hb b = 3)
    (ho : (s.br b).stopOver = true) (hc : (s.cmd (48 + b)).1 = false) (hw : s.reaches w 5 = true) :
    ∃ t, exec (.hbrClrStop w b) s = .next t ∧ (t.br b).stopClr = true ∧ t.hb b = 0 := by
  have hy : Fr (maskOf [] [.hbr]) s (s.setBr b { s.br b with stopClr := true }) := State.setBr_fr rfl (.id _ _)
  have hover : ((s.setBr b { s.br b with stopClr := true }).br b).stopOver = true :=
    (congrArg HbrSt.stopOver (State.br_setBr _)).trans ho
  have hrun : s.runHbrClrStop w b = (s.setBr b { s.br b with stopClr := true }).hbrIdle b := by
    rw [State.runHbrClrStop, if_neg (by simp [hfit]), if_pos h3]
    exact State.hbrRelease_idles h3 hover (by rw [hy.cmd rfl]; exact hc)
  refine ⟨_, rfl, ?_⟩
  rw [State.asWho_of_reaches hw, hrun, State.ship_br, State.ship_hb]
  obtain ⟨hhb, -, hclr⟩ := State.hbrIdle_shows (s := s.setBr b { s.br b with stopClr := true }) (b := b)
  exact ⟨hclr.trans (congrArg HbrSt.stopClr (State.br_setBr _)), hhb⟩

/-! ## Position -/

/-- A signed value that its field can hold reads back. -/
theorem signedOf_unsignedOf {x : Int} {n : Nat} (hn : 0 < n) (hlo : -(2 : Int) ^ (n - 1) ≤ x) (hhi : x < (2 : Int) ^ (n - 1)) :
    signedOf (unsignedOf x n) n = x := by
  obtain ⟨k, rfl⟩ : ∃ k, n = k + 1 := ⟨n - 1, by omega⟩
  have hp : (2 : Int) ^ (k + 1) = 2 * 2 ^ k := (Int.pow_succ 2 k).trans (Int.mul_comm _ _)
  have hpos : (0 : Int) < 2 ^ k := Int.pow_pos (by decide)
  rw [Nat.add_sub_cancel] at hlo hhi
  have hcast : ((2 ^ k : Nat) : Int) = 2 ^ k := by push_cast; rfl
  unfold signedOf unsignedOf
  rw [Nat.add_sub_cancel, hp]
  by_cases h0 : 0 ≤ x
  · rw [Int.emod_eq_of_lt h0 (by omega), if_pos (by omega)]
    omega
  · have hmod : x % (2 * 2 ^ k) = x + 2 * 2 ^ k := by
      rw [← Int.add_emod_right, Int.emod_eq_of_lt (by omega) (by omega)]
    rw [hmod, if_neg (by omega)]
    omega

/-- A signed field after a write of a value that it can hold. -/
theorem State.sfld_sput {f : Fld} {x : Int} {i : Nat} (hf : f.lo + f.width ≤ 32) (hw : 0 < f.width)
    (hlo : -(2 : Int) ^ (f.width - 1) ≤ x) (hhi : x < (2 : Int) ^ (f.width - 1)) : (s.sput f x i).sfld f i = x := by
  have hlt : unsignedOf x f.width < 2 ^ f.width := by
    unfold unsignedOf
    have hpos : (0 : Int) < 2 ^ f.width := Int.pow_pos (by decide)
    have hb := Int.emod_lt_of_pos x hpos
    have hn := Int.emod_nonneg x (Int.ne_of_gt hpos)
    have hcast : ((2 ^ f.width : Nat) : Int) = 2 ^ f.width := by push_cast; rfl
    omega
  rw [State.sfld, State.sput, State.fld_put_same _ _ hf, Nat.mod_eq_of_lt hlt, signedOf_unsignedOf hw hlo hhi]

/-- Without ripple counting a change of the drive mode leaves the position alone (R223). -/
theorem State.hbrMode_pos (m : BMode) (hsrc : s.fld HBR_MON.SRC b ≠ 1) :
    Fr (maskOf [.HBR_STAT] [.hbr]) s (s.hbrMode b m) := by
  unfold State.hbrMode
  extract_lets +onlyGivenNames x m' s1 s2
  have hs1 : s1 = s := if_neg (by simp [hsrc])
  have h2 : Fr (maskOf [.HBR_STAT] []) s s2 := by
    unfold s2
    rw [hs1]
    split
    · exact State.flag_fr rfl rfl (.id _ _)
    · exact .id _ _
  exact State.setBr_fr rfl (h2.mono rfl)

/-- Without ripple counting a target stop leaves the position alone (R228). -/
theorem State.targetStop_pos {old : Int} (hsrc : s.fld HBR_MON.SRC b ≠ 1) :
    (s.targetStop b old).sfld HBR_POS.POS b = s.sfld HBR_POS.POS b := by
  have hfr : Fr (allBut [.HBR_POS] []) s (s.targetStop b old) := by
    unfold State.targetStop
    dsimp only
    split
    · have hset : Fr (maskOf [.HBR_STAT] []) s (s.setHb b 3) := State.setHb_fr rfl (.id _ _)
      have hmode : Fr (allBut [.HBR_POS] []) s ((s.setHb b 3).hbrMode b .brakeLow) :=
        (hset.mono rfl).trans ((State.hbrMode_pos .brakeLow (by rw [hset.fld _ _ _ _ rfl]; exact hsrc)).mono rfl)
      unfold State.hbrStop
      exact State.hbrEvent_fr rfl (State.flag_fr rfl rfl (State.setBr_fr rfl (State.put_fr rfl rfl hmode)))
    · exact .id _ _
  rw [State.sfld, State.sfld, hfr.fld _ _ _ _ rfl]

/-- A count of the hall source moves POS by one in its direction, saturating (R223). -/
theorem exec_positionCount_moves {tk iMa ampMa inHz : Nat} {d : Bool} (hfit : hbrFitted s.variant b = true)
    (hsrc : s.fld HBR_MON.SRC b = 3) (hp : s.bit HBR_PINCH.PEN b = false) :
    ∃ t, exec (.positionCount b tk iMa ampMa inHz d) s = .next t ∧
      t.sfld HBR_POS.POS b = max (-32768) (min 32767 (s.sfld HBR_POS.POS b + (if d then -1 else 1))) := by
  refine ⟨_, rfl, ?_⟩
  extract_lets +onlyGivenNames i src
  have hs : src = 3 := hsrc
  rw [if_neg (by simp [hfit, hs])]
  extract_lets +onlyGivenNames valid x0 s1
  have hs1 : s1 = s := if_neg (by simp [hs])
  rw [if_neg (by simp [hs]), hs1, hs]
  clear hs1
  clear_value s1
  extract_lets +onlyGivenNames d' s2 s3 s4 x4 s5 old
  have h2 : Fr (maskOf [] [.hbr]) s s2 := State.setBr_fr rfl (.id _ _)
  have hs3 : s3 = s2 := by
    have harmed : s2.pinchArmed b = false := by
      have hpen : s2.bit HBR_PINCH.PEN b = false := hp
      simp [State.pinchArmed, hpen]
    have hexceed : s2.pinchExceed b = s2 := by simp [State.pinchExceed, harmed]
    unfold s3
    rw [hexceed]
    exact ite_self _
  have h4 : RestKept HBR_POS.TF s3 s4 := by
    unfold s4 State.tfStep
    dsimp only
    exact ((RestKept.refl s3).fr (m := maskOf [] [.hbr]) (State.setBr_fr rfl (.id _ _)) rfl).put
  have hpos : s5.sfld HBR_POS.POS b = s.sfld HBR_POS.POS b :=
    congrArg (fun v => signedOf v 16) ((h4 HBR_POS.POS b 0 0 rfl rfl).trans (by rw [hs3]; rfl))
  have hcfg : s5.fld HBR_MON.SRC b = 3 := by
    have h45 : Fr (maskOf [.HBR_POS] [.hbr]) s s4 := (hs3 ▸ h2.mono rfl : Fr _ s s3).trans (State.tfStep_fr rfl (.id _ _))
    exact (h45.fld HBR_MON.SRC b 0 0 rfl).trans hsrc
  have hmove : Fr (maskOf [.HBR_POS] []) s5 (s5.posMove b (if d then -1 else 1)) := State.posMove_fr rfl (.id _ _)
  change ((s5.posMove b (if d then -1 else 1)).targetStop b old).sfld HBR_POS.POS b = _
  rw [State.targetStop_pos (by rw [hmove.fld _ _ _ _ rfl, hcfg]; decide), ← hpos]
  exact State.sfld_sput (by decide) (by decide) (Int.le_max_left _ _)
    (Int.lt_of_le_of_lt (Int.max_le.mpr ⟨by decide, Int.min_le_left _ _⟩) (by decide : (32767 : Int) < 2 ^ 15))

/-- A position error takes the validity of the position away (R225). -/
theorem exec_positionError_invalid {cause : Nat} (hfit : hbrFitted s.variant b = true) (hsrc : s.fld HBR_MON.SRC b = 3)
    (hc : cause = 1 ∨ (cause = 2 ∧ 4 ≤ (s.br b).against)) : ∃ t, exec (.positionError b cause) s = .next t ∧
      t.bit HBR_STAT.POSERR b = true ∧ t.bit HBR_STAT.POSVALID b = false ∧ (t.br b).against = 0 := by
  refine ⟨_, rfl, ?_⟩
  extract_lets +onlyGivenNames src holds x s2 s3
  have hholds : holds = true := by
    rcases hc with rfl | ⟨rfl, h4⟩
    · simp [holds, src, hsrc]
    · simp [holds, src, hsrc, h4]
  have hs3 : s3 = s2 := if_neg (by rcases hc with rfl | ⟨rfl, -⟩ <;> decide)
  rw [if_pos (by simp [hfit, hholds]), hs3]
  clear hs3 hholds
  extract_lets +onlyGivenNames s4
  have hagainst : (s4.br b).against = 0 := congrArg HbrSt.against (State.br_setBr _)
  have herr : s4.bit HBR_STAT.POSERR b = true := by simp [s4]
  have hvalid : s4.bit HBR_STAT.POSVALID b = false := by simp [s4]
  clear_value s4
  have hev : Fr (allBut [.HBR_STAT] [.hbr]) s4 ((s4.raise 3 b 5 (coilDetail (s4.hb b) cause)).hbrEvent b 3) :=
    State.hbrEvent_fr rfl (State.raise_fr rfl (.id _ _))
  rw [State.ship_bit, State.ship_bit, State.ship_br, State.bit_of_fld (hev.fld HBR_STAT.POSERR b 0 0 rfl),
    State.bit_of_fld (hev.fld HBR_STAT.POSVALID b 0 0 rfl), State.br, hev.hbr rfl]
  exact ⟨herr, hvalid, hagainst⟩

/-! ## Register writes -/

theorem State.accept_of_legal {w : Who} {r : RegRef} {x : Word} (k : State → State) (hl : s.legalWrite w r.reg x = true)
    (hb : s.rwsBarred w r x = false) : s.accept w r x k = k s := by
  simp [State.accept, hl, hb]

/-- HBR_TGT of a bridge at rest takes the target (R228). -/
theorem exec_hbrTgtWrite_stores {w : Who} {x : Word} (hfit : hbrFitted s.variant b = true)
    (hl : s.legalWrite w .HBR_TGT x = true) (hb : s.rwsBarred w ⟨.HBR_TGT, b, 0, 0⟩ x = false) (hr : s.hbrRunning b = false)
    (hw : s.reaches w 5 = true) : ∃ t, exec (.hbrTgtWrite w b x) s = .next t ∧
      t.fld HBR_TGT.TARGET b = ext x HBR_TGT.TARGET.lo HBR_TGT.TARGET.width ∧ t.hb b = s.hb b := by
  refine ⟨_, rfl, ?_⟩
  rw [State.asWho_of_reaches hw, State.runHbrTgtWrite, if_neg (by simp [hfit]), State.accept_of_legal _ hl hb]
  extract_lets +onlyGivenNames s1
  have h1 : Fr (maskOf [.HBR_TGT] []) s s1 := 
    State.storeWrite_fr rfl (rfl : (maskOf [.HBR_TGT] []).testBit Reg.HBR_TGT.ctorIdx = true) (.id _ _)
  have hr1 : s1.hbrRunning b = false := by
    simpa [State.hbrRunning, State.hb, h1.fld HBR_STAT.STATE _ _ _ rfl] using hr
  rw [if_neg (by simp [hr1]), State.ship_fld, State.ship_hb]
  refine ⟨?_, h1.fld _ _ _ _ rfl⟩
  have hword : s1.reg ⟨.HBR_TGT, b, 0, 0⟩ =
      ins (ins (s.reg ⟨.HBR_TGT, b, 0, 0⟩) 0 16 (ext x 0 16)) 16 1 (ext x 16 1) := State.reg_setReg_self _ _ _
  change ext (s1.reg ⟨.HBR_TGT, b, 0, 0⟩) 0 16 = ext x 0 16
  rw [hword, ext_ins_other _ _ (by decide), ext_ins_self _ _ (by decide), Nat.mod_eq_of_lt (ext_lt x 0 16)]

/-- HBR_SFLT with a code reports it (R242). -/
theorem exec_hbrSflt_raises {w : Who} {x : Word} (hfit : hbrFitted s.variant b = true) (hl : s.legalWrite w .HBR_SFLT x = true)
    (hb : s.rwsBarred w ⟨.HBR_SFLT, b, 0, 0⟩ x = false) (h0 : ext x 0 12 ≠ 0) (hw : s.reaches w 5 = true) :
    ∃ t, exec (.hbrSflt w b x) s = .next t ∧
      t.flt.raised = s.flt.raised ++ [⟨srcId 3 b 6, ext x 0 12, s.micros, false, true, false⟩] := by
  have hrun : s.runHbrSflt w b x = s.raise 3 b 6 (ext x 0 12) := by
    unfold State.runHbrSflt
    rw [if_neg (by simp [hfit])]
    cases w with
    | host => exact State.accept_of_legal _ hl hb
    | ctx c =>
      dsimp only
      rw [if_neg (by simp [h0])]
      exact State.accept_of_legal _ hl hb
  refine ⟨_, rfl, ?_⟩
  rw [State.asWho_of_reaches hw, hrun]
  have hmod : ext x 0 12 % 4096 = ext x 0 12 := Nat.mod_eq_of_lt (ext_lt x 0 12)
  rw [State.ship_flt, State.raise, hmod]

/-- Settles O37: monitoring, position, stops and register writes of a bridge. -/
theorem bridgePosition : Obligations.BridgePosition := by
  unfold Obligations.BridgePosition
  refine ⟨fun s b iMa => exec_bridgeOpenLoad_shows, fun s b tk iMa ampMa inHz d => exec_positionCount_moves,
    fun s b cause => exec_positionError_invalid, fun s b => exec_pinchPeriodExceeded_stops,
    fun s b iMa => exec_stallDetected_stops, fun s b => exec_tstopbrkExpiry_releases, fun s w b x => exec_hbrTgtWrite_stores,
    fun s w b x hfit hl hb hw => ⟨_, rfl, ?_⟩, fun s w b hfit ht hw => ⟨_, rfl, ?_⟩, fun s w b => exec_hbrClrStop_releases,
    fun s w b x => exec_hbrSflt_raises⟩
  · rw [State.asWho_of_reaches hw, State.runHbrPosset, if_neg (by simp [hfit]), State.accept_of_legal _ hl hb]
    simp
    exact ext_lt x 0 16
  · have hclass := slotClass_bridge (hbrFitted_lt hfit)
    have hgrp : s.grp (48 + b) = [48 + b] := if_neg (by simp; omega)
    rw [State.asWho_of_reaches hw, State.runHbrClrTrip, if_pos hfit]
    simp [State.clrTrip, ht, hgrp, forEach, State.setRetries, State.putByClass, hclass]

end Sys2Proof.Machine
end

section
/-! Valves: admission, boost, hold, decay and the minimum off time (statement O38; spec/07 R246 to R260). -/

namespace Sys2Proof.Machine

variable {s₀ s t : State} {v : Nat}

theorem vlvFitted_lt {x : Variant} (h : vlvFitted x v = true) : v < 12 := by
  cases x <;> simp [vlvFitted] at h <;> omega

theorem State.ship_vlv (u : State) : (s.ship u).vlv v = u.vlv v := rfl

theorem State.ship_coilAt (u : State) (n : Nat) : (s.ship u).coilAt n = u.coilAt n := rfl

/-! ## The state of a valve -/

/-- What a change of a valve's state may write. -/
theorem State.setVlv_mask (st : Nat) : Fr (maskOf [.VLV_STAT, .VHS_STAT] []) s (s.setVlv v st) := State.setVlv_fr rfl (.id _ _)

/-- The valve is in the state set; its other fields but TBW stay (R246, R251). -/
theorem State.setVlv_shows {st : Nat} (hst : st < 8) : (s.setVlv v st).vlv v = st ∧
    ∀ (f : Fld), f.reg = .VLV_STAT → f.apart VLV_STAT.STATE = true → f.apart VLV_STAT.TBW = true →
      (s.setVlv v st).fld f v = s.fld f v := by
  unfold State.setVlv
  extract_lets +onlyGivenNames s1
  have hshow : Fr (maskOf [.VHS_STAT] []) (s1.put VLV_STAT.STATE st v) ((s1.put VLV_STAT.STATE st v).bankShow (v / 4)) :=
    State.bankShow_fr rfl (.id _ _)
  refine ⟨?_, fun f hr ha hb => ?_⟩
  · rw [State.vlv, hshow.fld _ _ _ _ rfl]
    simp [Nat.mod_eq_of_lt hst]
  · rw [hshow.fld _ _ _ _ (by rw [hr]; rfl), State.fld_put_apart _ _ (Fld.apart_iff.mp ha)]
    unfold s1
    split
    · exact State.fld_put_apart _ _ (Fld.apart_iff.mp hb)
    · rfl

theorem State.setVlv_vlv {st : Nat} (hst : st < 8) : (s.setVlv v st).vlv v = st := (State.setVlv_shows hst).1

theorem State.setVlv_coilAt (st n : Nat) : (s.setVlv v st).coilAt n = s.coilAt n :=
  congrArg (fun c => Tbl.get c n default) ((State.setVlv_mask st).coil rfl)

/-- A refused valve is OFF and shows why (R253). -/
theorem State.refuse_shows {reason : Nat} (hr : reason < 4) : (s.refuse v reason).vlv v = 0 ∧
    (s.refuse v reason).bit VLV_STAT.REFUSED v = true ∧ (s.refuse v reason).fld VLV_STAT.RREASON v = reason := by
  have h0 : (s.setVlv v 0).vlv v = 0 := State.setVlv_vlv (by decide)
  unfold State.refuse
  generalize s.setVlv v 0 = s1 at h0
  refine ⟨?_, ?_, ?_⟩
  · change ((s1.flag VLV_STAT.REFUSED true v).put VLV_STAT.RREASON reason v).vlv v = 0
    simpa [State.vlv] using h0
  · change ((s1.flag VLV_STAT.REFUSED true v).put VLV_STAT.RREASON reason v).bit VLV_STAT.REFUSED v = true
    simp
  · change ((s1.flag VLV_STAT.REFUSED true v).put VLV_STAT.RREASON reason v).fld VLV_STAT.RREASON v = reason
    simp [Nat.mod_eq_of_lt hr]

/-- What the command's own flags show is no part of a valve's activation. -/
theorem State.coilShow_same (hv : v < 12) : Fr (maskOf [.VLV_STAT, .CTD_STAT] []) s (s.coilShow (60 + v)) ∧
    ∀ w, (s.coilShow (60 + v)).vlv w = s.vlv w := by
  refine ⟨State.coilShow_fr rfl (.id _ _), fun w => ?_⟩
  simp [State.coilShow, State.setCf, show 60 + v < 72 by omega, State.vlv]

/-- The members of a bank in given states, and their hold currents, are read off the states and the coils. -/
theorem State.holdSum_congr {k : Nat} {sts : List Nat} (hv : ∀ w, t.vlv w = s.vlv w) (hc : t.coil = s.coil) :
    t.holdSum k sts = s.holdSum k sts := by
  simp only [State.holdSum, State.inStates, hv, State.coilAt, hc]

/-- A valve that its bank admits waits with its own activation's parameters (R248, R250). -/
theorem State.admitValve_waits (hc : (s.cmd (72 + v / 4)).1 = true) (hb : s.vhs (v / 4) = 0 ∨ s.vhs (v / 4) = 1)
    (hsum : s.holdSum (v / 4) [1, 2, 3] + s.fld VLV_PROF.IHOLD v ≤ 400) : (s.admitValve v).vlv v = 1 ∧
      ((s.admitValve v).coilAt (60 + v)).hold = s.fld VLV_PROF.IHOLD v ∧
      ((s.admitValve v).coilAt (60 + v)).order = s.bank.next := by
  unfold State.admitValve
  extract_lets +onlyGivenNames k h
  rw [if_neg (by simp only [k, hc]; simpa [Decidable.or_iff_not_imp_left] using hb), if_neg (by simp only [k, h]; omega)]
  extract_lets +onlyGivenNames y x s1
  rw [State.setVlv_coilAt]
  refine ⟨State.setVlv_vlv (by decide), ?_⟩
  have hcoil : ({ s1.setCoil (60 + v) x with bank := { s1.bank with next := s1.bank.next + 1 } } : State).coilAt (60 + v) = x :=
    Tbl.get_set_self _ _ _ _
  rw [hcoil]
  exact ⟨rfl, rfl⟩

/-- A command rise of a valve in OFF goes to its bank (R250). -/
theorem State.valveRise_admits (h0 : s.vlv v = 0) (hb : s.vhs (v / 4) ≠ 2) (ht : (s.coilAt (60 + v)).toTrip = false)
    (hd : (s.coilAt (60 + v)).toDis = false) (hm : (s.coilAt (60 + v)).minRun = false) : s.valveRise v = s.admitValve v := by
  simp [State.valveRise, h0, hb, ht, hd, hm]

/-! ## The commands -/

/-- What `coilShow` leaves of the facts on which a rise depends. -/
theorem State.coilShow_facts (hv : v < 12) : (s.coilShow (60 + v)).vhs (v / 4) = s.vhs (v / 4) ∧
    (s.coilShow (60 + v)).coil = s.coil ∧ (∀ n, (s.coilShow (60 + v)).cmd n = s.cmd n) ∧
    (s.coilShow (60 + v)).fld VLV_PROF.IHOLD v = s.fld VLV_PROF.IHOLD v ∧ (s.coilShow (60 + v)).bank = s.bank := by
  obtain ⟨hfr, -⟩ := State.coilShow_same (s := s) hv
  exact ⟨hfr.fld _ _ _ _ rfl, hfr.coil rfl, fun n => hfr.cmd rfl n, hfr.fld _ _ _ _ rfl, hfr.bank rfl⟩

/-- A command rise in OFF is admitted (R250). -/
theorem exec_valveCommandRise_waits (hfit : vlvFitted s.variant v = true) (hc : (s.cmd (60 + v)).1 = true) (h0 : s.vlv v = 0)
    (hb : s.vhs (v / 4) = 0 ∨ s.vhs (v / 4) = 1) (ht : (s.coilAt (60 + v)).toTrip = false)
    (hd : (s.coilAt (60 + v)).toDis = false) (hm : (s.coilAt (60 + v)).minRun = false)
    (hk : (s.cmd (72 + v / 4)).1 = true) (hsum : s.holdSum (v / 4) [1, 2, 3] + s.fld VLV_PROF.IHOLD v ≤ 400) :
    ∃ t, exec (.valveCommandRise v) s = .next t ∧ t.vlv v = 1 ∧ (t.coilAt (60 + v)).hold = s.fld VLV_PROF.IHOLD v ∧
      (t.coilAt (60 + v)).order = s.bank.next := by
  have hv := vlvFitted_lt hfit
  obtain ⟨-, hvlv⟩ := State.coilShow_same (s := s) hv
  obtain ⟨hvhs, hcoil, hcmd, hprof, hbank⟩ := State.coilShow_facts (s := s) hv
  have hat : (s.coilShow (60 + v)).coilAt (60 + v) = s.coilAt (60 + v) := congrArg (fun c => Tbl.get c (60 + v) default) hcoil
  refine ⟨_, rfl, ?_⟩
  rw [if_neg (by simp [hfit, hc]), State.ship_vlv, State.ship_coilAt]
  rw [State.valveRise_admits (by rw [hvlv, h0]) (by rw [hvhs]; omega) (by rw [hat, ht]) (by rw [hat, hd]) (by rw [hat, hm]),
    ← hprof, ← hbank]
  exact State.admitValve_waits (by rw [hcmd, hk]) (by rw [hvhs]; exact hb)
    (by rw [State.holdSum_congr hvlv hcoil, hprof]; exact hsum)

/-- A command rise while the bank's command is OFF is refused with BANKOFF (R250). -/
theorem exec_valveCommandRise_refused (hfit : vlvFitted s.variant v = true) (hc : (s.cmd (60 + v)).1 = true) (h0 : s.vlv v = 0)
    (ht : (s.coilAt (60 + v)).toTrip = false) (hd : (s.coilAt (60 + v)).toDis = false)
    (hm : (s.coilAt (60 + v)).minRun = false) (hb : s.vhs (v / 4) ≠ 2) (hk : (s.cmd (72 + v / 4)).1 = false) :
    ∃ t, exec (.valveCommandRise v) s = .next t ∧ t.vlv v = 0 ∧ t.bit VLV_STAT.REFUSED v = true ∧
      t.fld VLV_STAT.RREASON v = 3 := by
  have hv := vlvFitted_lt hfit
  obtain ⟨-, hvlv⟩ := State.coilShow_same (s := s) hv
  obtain ⟨hvhs, hcoil, hcmd, -, -⟩ := State.coilShow_facts (s := s) hv
  have hat : (s.coilShow (60 + v)).coilAt (60 + v) = s.coilAt (60 + v) := congrArg (fun c => Tbl.get c (60 + v) default) hcoil
  refine ⟨_, rfl, ?_⟩
  rw [if_neg (by simp [hfit, hc]), State.ship_vlv, State.ship_bit, State.ship_fld]
  rw [State.valveRise_admits (by rw [hvlv, h0]) (by rw [hvhs]; exact hb) (by rw [hat, ht]) (by rw [hat, hd]) (by rw [hat, hm]),
    State.admitValve, if_pos (by simp [hcmd, hk])]
  exact State.refuse_shows (by decide)

/-- The state of a valve once a command fall has shown itself and cleared what was queued. -/
theorem State.fall_shown (hv : v < 12) : ((s.coilShow (60 + v)).flag VLV_STAT.QUEUED false v).vlv v = s.vlv v ∧
    ((s.coilShow (60 + v)).flag VLV_STAT.QUEUED false v).vhs (v / 4) = s.vhs (v / 4) := by
  obtain ⟨-, hvlv⟩ := State.coilShow_same (s := s) hv
  obtain ⟨hvhs, -⟩ := State.coilShow_facts (s := s) hv
  exact ⟨(State.fld_flag_apart _ _ (by decide)).trans (hvlv v), (State.fld_flag_reg _ _ (by decide)).trans hvhs⟩

/-- A coil that decays is in DECAY (R246). -/
theorem State.decay_vlv (hv : v < 12) : (s.decay (60 + v)).vlv v = 4 := by
  unfold State.decay
  dsimp only
  rw [if_pos (by omega), Nat.add_sub_cancel_left]
  exact State.setVlv_vlv (by decide)

/-- A command fall in BOOST or HOLD decays (R247). -/
theorem exec_valveCommandFall_decays {r : Bool} (hfit : vlvFitted s.variant v = true) (hc : (s.cmd (60 + v)).1 = false)
    (hb : s.vhs (v / 4) ≠ 2) (hst : s.vlv v = 2 ∨ s.vlv v = 3) :
    ∃ t, exec (.valveCommandFall ⟨v, r⟩) s = .next t ∧ t.vlv v = 4 := by
  have hv := vlvFitted_lt hfit
  obtain ⟨hvlv, hvhs⟩ := State.fall_shown (s := s) hv
  refine ⟨_, rfl, ?_⟩
  dsimp only
  rw [if_neg (by simp [hfit, hc]), if_neg (by rw [hvhs]; exact hb), hvlv, State.ship_vlv]
  rcases hst with h | h
  · rw [h]
    exact State.decay_vlv hv
  · rw [h]
    exact State.decay_vlv hv

/-- A command fall in WAIT ends it (R247). -/
theorem exec_valveCommandFall_off {r : Bool} (hfit : vlvFitted s.variant v = true) (hc : (s.cmd (60 + v)).1 = false)
    (hb : s.vhs (v / 4) ≠ 2) (hst : s.vlv v = 1) : ∃ t, exec (.valveCommandFall ⟨v, r⟩) s = .next t ∧ t.vlv v = 0 := by
  have hv := vlvFitted_lt hfit
  obtain ⟨hvlv, hvhs⟩ := State.fall_shown (s := s) hv
  refine ⟨_, rfl, ?_⟩
  dsimp only
  rw [if_neg (by simp [hfit, hc]), if_neg (by rw [hvhs]; exact hb), hvlv, hst, State.ship_vlv]
  exact State.setVlv_vlv (by decide)

/-- The longest-waiting member boosts (R251). -/
theorem exec_boostStart_boosts {tbw : Nat} (hfit : vlvFitted s.variant v = true) (hw : s.firstWaiting (v / 4) = some v)
    (hi : s.inStates (v / 4) [2] = []) (hsum : (s.coilAt (60 + v)).peak + s.holdSum (v / 4) [3] ≤ 400)
    (hb : s.vhs (v / 4) = 0 ∨ s.vhs (v / 4) = 1) (hr : s.reversed (60 + v) = false) :
    ∃ t, exec (.boostStart v tbw) s = .next t ∧ t.vlv v = 2 ∧ t.fld VLV_STAT.TBW v = min tbw 50 := by
  refine ⟨_, rfl, ?_⟩
  dsimp only
  rw [if_pos (by simp [hfit, hw, hi, hsum, hr]; exact hb), State.ship_vlv, State.ship_fld]
  refine ⟨(State.fld_put_apart _ _ (by decide)).trans (State.setVlv_vlv (by decide)), ?_⟩
  rw [State.fld_put_same _ _ (by decide)]
  exact Nat.mod_eq_of_lt (Nat.lt_of_le_of_lt (Nat.min_le_right _ _) (by decide))

/-- The boost ends in HOLD (R247, R266). -/
theorem exec_boostEnd_reached {iMa : Nat} (hfit : vlvFitted s.variant v = true) (h2 : s.vlv v = 2) :
    ∃ t, exec (.boostEnd v true iMa) s = .next t ∧ t.vlv v = 3 ∧ t.fld VLV_STAT.COILSTAT v = 1 := by
  have hv := vlvFitted_lt hfit
  refine ⟨_, rfl, ?_⟩
  dsimp only
  rw [if_pos (by simp [hfit, h2]), State.ship_vlv, State.ship_fld]
  obtain ⟨hst, hrest⟩ := State.setVlv_shows (s := s.peakEnd (60 + v) true (s.sensedMa (60 + v) iMa)) (v := v) (st := 3) (by decide)
  refine ⟨hst, ?_⟩
  rw [hrest VLV_STAT.COILSTAT rfl rfl rfl]
  have hlt : 60 + v < 72 := by omega
  have hpeak : s.peaking (60 + v) = true := by
    simpa [State.peaking, State.coilState, State.cf, hlt, State.vlv] using h2
  have hclear : Fr (maskOf [.FLT_STAT] [.flt]) (s.put VLV_STAT.COILSTAT 1 v)
      ((s.put VLV_STAT.COILSTAT 1 v).clearSrc 4 (coilUnit (60 + v)) 5) := State.clearSrc_fr rfl (.id _ _)
  have hend : s.peakEnd (60 + v) true (s.sensedMa (60 + v) iMa) =
      (s.put VLV_STAT.COILSTAT 1 v).clearSrc 4 (coilUnit (60 + v)) 5 := by
    simp [State.peakEnd, State.peakSeen, hpeak, State.setCf, hlt]
  rw [hend, hclear.fld _ _ _ _ rfl]
  simp

/-- The boost ends in HOLD without its set current: REG (R265). -/
theorem exec_boostEnd_missed {iMa : Nat} (hfit : vlvFitted s.variant v = true) (h2 : s.vlv v = 2)
    (h0 : (s.coilAt (60 + v)).rep0 = false) :
    ∃ t, exec (.boostEnd v false iMa) s = .next t ∧ t.vlv v = 3 ∧ t.bit VLV_STAT.REG v = true := by
  have hv := vlvFitted_lt hfit
  refine ⟨_, rfl, ?_⟩
  dsimp only
  rw [if_pos (by simp [hfit, h2]), State.ship_vlv, State.ship_bit]
  obtain ⟨hst, hrest⟩ := State.setVlv_shows (s := s.peakEnd (60 + v) false (s.sensedMa (60 + v) iMa)) (v := v) (st := 3) (by decide)
  refine ⟨hst, ?_⟩
  rw [State.bit_of_fld (hrest VLV_STAT.REG rfl rfl rfl), State.peakEnd, if_neg (by decide), if_neg (by simp [h0])]
  have hlt : 60 + v < 72 := by omega
  rw [State.bit, State.raise_fld, State.coilFlag, State.setCf, if_pos hlt, Nat.add_sub_cancel_left]
  exact State.bit_put_same _ _ (by decide)

/-- tBOOSTWAIT refuses with WAITLIMIT (R252). -/
theorem exec_boostWaitLimit_refuses (hfit : vlvFitted s.variant v = true) (h1 : s.vlv v = 1) :
    ∃ t, exec (.boostWaitLimit v) s = .next t ∧ t.vlv v = 0 ∧ t.bit VLV_STAT.REFUSED v = true ∧
      t.fld VLV_STAT.RREASON v = 2 ∧ t.fld VLV_STAT.TBW v = 50 := by
  refine ⟨_, rfl, ?_⟩
  rw [if_pos (by simp [hfit, h1]), State.ship_vlv, State.ship_bit, State.ship_fld, State.ship_fld]
  obtain ⟨h0, href, hreason⟩ := State.refuse_shows (s := s) (v := v) (reason := 2) (by decide)
  exact ⟨(State.fld_put_apart _ _ (by decide)).trans h0, (State.bit_put_apart _ _ (by decide)).trans href,
    (State.fld_put_apart _ _ (by decide)).trans hreason, State.fld_put_same _ _ (by decide)⟩

theorem slotClass_valve (hv : v < 12) : slotClass (60 + v) = 2 := by
  rw [slotClass, if_neg (by omega), if_neg (by omega), if_pos (by omega)]

/-- The end of DECAY with nothing to come (R246, R260). -/
theorem exec_decayEnd_rests (hfit : vlvFitted s.variant v = true) (h4 : s.vlv v = 4) (ht : (s.coilAt (60 + v)).toTrip = false)
    (hd : (s.coilAt (60 + v)).toDis = false) :
    ∃ t, exec (.decayEnd (60 + v)) s = .next t ∧ t.vlv v = if (s.coilAt (60 + v)).minRun then 6 else 0 := by
  have hv := vlvFitted_lt hfit
  have hlt : 60 + v < 72 := by omega
  have hcoil : coilFitted s.variant (60 + v) = true := by
    have hslot : slotFitted s.variant (60 + v) = true := by
      rw [slotFitted, if_neg (by omega), if_neg (by omega), if_pos hlt, Nat.add_sub_cancel_left, hfit]
    simp [coilFitted, slotClass_valve hv, hslot]
  have hst : s.coilState (60 + v) = 4 := by
    simpa [State.coilState, State.cf, hlt, State.vlv] using h4
  refine ⟨_, rfl, ?_⟩
  rw [if_neg (by simp [hcoil, hst, hlt])]
  extract_lets +onlyGivenNames x s1
  rw [if_neg (by simp [x, hd]), if_neg (by simp [x, ht]), if_neg (by omega), Nat.add_sub_cancel_left, State.ship_vlv]
  change (if x.minRun = true then s1.setVlv v 6 else s1.setVlv v 0).vlv v = if x.minRun = true then 6 else 0
  split
  · exact State.setVlv_vlv (by decide)
  · exact State.setVlv_vlv (by decide)

/-- The end of tVMINOFF in MINOFF with nothing queued (R260). -/
theorem exec_tvminoffExpiry_rests (hfit : vlvFitted s.variant v = true) (h6 : s.vlv v = 6)
    (hm : (s.coilAt (60 + v)).minRun = true) (hq : s.bit VLV_STAT.QUEUED v = false) :
    ∃ t, exec (.tvminoffExpiry v) s = .next t ∧ t.vlv v = 0 ∧ (t.coilAt (60 + v)).minRun = false := by
  refine ⟨_, rfl, ?_⟩
  dsimp only
  rw [if_neg (by simp [hfit, hm]), hq]
  obtain ⟨s1, hs1⟩ : ∃ s1, s1 = (s.setCoil (60 + v) { s.coilAt (60 + v) with minRun := false }).flag VLV_STAT.QUEUED false v :=
    ⟨_, rfl⟩
  rw [← hs1]
  have hvlv : s1.vlv v = 6 := by
    rw [hs1]
    exact (State.fld_flag_apart _ _ (by decide)).trans h6
  have hmin : (s1.coilAt (60 + v)).minRun = false := by
    rw [hs1]
    exact congrArg CoilSt.minRun (Tbl.get_set_self s.coil (60 + v) _ _)
  rw [if_neg (by simp), if_pos hvlv, State.ship_vlv, State.ship_coilAt, State.setVlv_coilAt]
  exact ⟨State.setVlv_vlv (by decide), hmin⟩

/-- Settles O38: the life of a valve's activation. -/
theorem valveActivation : Obligations.ValveActivation := by
  unfold Obligations.ValveActivation
  exact ⟨fun s v => exec_valveCommandRise_waits, fun s v => exec_valveCommandRise_refused,
    fun s v r => exec_valveCommandFall_decays, fun s v r => exec_valveCommandFall_off, fun s v tbw => exec_boostStart_boosts,
    fun s v iMa => exec_boostEnd_reached, fun s v iMa => exec_boostEnd_missed, fun s v => exec_boostWaitLimit_refuses,
    fun s v => exec_decayEnd_rests, fun s v => exec_tvminoffExpiry_rests⟩

end Sys2Proof.Machine
end

section
/-! Short cuts of coils (statement O39). An output that is on its way to DISABLED is DISABLED at once when it trips (R202): a coil whose
disabling is noted does not show TRIPPED. -/

namespace Sys2Proof.Machine

/-- Valve 0 boosts while its disabling is noted. -/
def disablingCoil : State :=
  { State.reset with coil := [(60, { (default : CoilSt) with toDis := true })] }.put VLV_STAT.STATE 2 0

theorem coilShortCut_disables :
    ∃ t, exec (.coilShortCut 60 false ⟨100000, 0⟩) disablingCoil = .next t ∧ t.vlv 0 = 7 := ⟨_, rfl, by decide +kernel⟩

/-- Refutes O39: the short cut of a coil that is to be disabled ends in DISABLED, not in TRIPPED. -/
theorem not_coilMonitoring : ¬ Obligations.CoilMonitoring := by
  unfold Obligations.CoilMonitoring
  rintro ⟨-, -, -, shortCut, -⟩
  obtain ⟨t, e, hdis⟩ := coilShortCut_disables
  obtain ⟨u, e', htripped, -⟩ := shortCut disablingCoil 0 100000 0 rfl (.inl (by decide +kernel)) (by decide +kernel)
  rw [show exec (.coilShortCut (60 + 0) false ⟨100000, 0⟩) disablingCoil = .next t from e] at e'
  obtain rfl := Host.Outcome.next.inj e'
  rw [hdis] at htripped
  exact absurd htripped (by decide)

end Sys2Proof.Machine
end

section
/-! Bank switches (statement O40). A bank switch that opens on its way to DISABLED and is tripped meanwhile is DISABLED at once (R202,
R254): it does not show TRIPPED. -/

namespace Sys2Proof.Machine

/-- Bank switch 0 opens because it is to be disabled. -/
def disablingBank : State :=
  { State.reset with bank := { State.reset.bank with toDis := [0] } }.put VHS_STAT.STATE 2 0

theorem bankSwitchTrip_disables :
    ∃ t, exec (.bankSwitchTrip ⟨0, 0⟩ true 100000 0 0 0) disablingBank = .next t ∧ t.vhs 0 = 5 := ⟨_, rfl, by decide +kernel⟩

/-- Refutes O40: the short cut of a bank switch that is to be disabled ends in DISABLED, not in TRIPPED. -/
theorem not_banksAndContactors : ¬ Obligations.BanksAndContactors := by
  unfold Obligations.BanksAndContactors
  rintro ⟨-, -, -, trips, -⟩
  obtain ⟨t, e, hdis⟩ := bankSwitchTrip_disables
  obtain ⟨u, e', htripped, -⟩ := trips disablingBank 0 100000 0 rfl (by decide +kernel) (.inr (by decide +kernel)) (by decide +kernel)
  rw [e] at e'
  obtain rfl := Host.Outcome.next.inj e'
  rw [hdis] at htripped
  exact absurd htripped (by decide)

end Sys2Proof.Machine
end

section
/-! LED channels, lamp groups and the fold-back (statement O41; spec/08 R276 to R295). -/

namespace Sys2Proof.Machine

variable {s₀ s t : State} {i g : Nat}

/-! ## What the update of a level shows -/

theorem State.lx_setLx (x : LedSt) : (s.setLx i x).lx i = x := Tbl.get_set_self _ _ _ _

theorem Fr.lx {m : Nat} (h : Fr m s t) (hm : m.testBit Part.led.bit = false) : t.lx i = s.lx i :=
  congrArg (fun x => Tbl.get x i default) (h.led hm)

theorem State.ship_lx (u : State) : (s.ship u).lx i = u.lx i := rfl

/-- Of LED_STAT an update of the level writes DERATED only. -/
theorem State.ledUpdate_rest : RestKept LED_STAT.DERATED s (s.ledUpdate i) := by
  unfold State.ledUpdate
  extract_lets +onlyGivenNames old l m s1 s2
  have h1 : RestKept LED_STAT.DERATED s s1 := (RestKept.refl s).put
  have h2 : Fr (maskOf [.LED_EFF] [.led]) s1 (s2.setLx i { s2.lx i with duty := some (s2.dutyOf i l m) }) :=
    State.setLx_fr rfl (State.flag_fr rfl rfl (State.put_fr rfl rfl (.id _ _)))
  exact Holds.ite (.refl s) (Holds.ite h1 (h1.fr h2 rfl))

/-- Of the channel's extra state an update of the level sets the DUTY that waits only. -/
theorem State.ledUpdate_lx : ∃ d, (s.ledUpdate i).lx i = { s.lx i with duty := d } := by
  unfold State.ledUpdate
  split
  · exact ⟨_, rfl⟩
  · dsimp only
    split
    · exact ⟨_, rfl⟩
    · exact ⟨_, State.lx_setLx _⟩

/-! ## Levels and duty words -/

/-- LED_LVL takes both levels (R279). -/
theorem exec_ledLevelWrite_stores {w : Who} {x : Word} (hfit : ledFitted s.variant i = true)
    (hl : s.legalWrite w .LED_LVL x = true) (hb : s.rwsBarred w ⟨.LED_LVL, i, 0, 0⟩ x = false) (hw : s.reaches w 7 = true) :
    ∃ t, exec (.ledLevelWrite w i x) s = .next t ∧
      t.fld LED_LVL.LVLA i = ext x LED_LVL.LVLA.lo LED_LVL.LVLA.width ∧
      t.fld LED_LVL.LVLB i = ext x LED_LVL.LVLB.lo LED_LVL.LVLB.width := by
  refine ⟨_, rfl, ?_⟩
  rw [State.asWho_of_reaches hw, State.runLedLevelWrite, if_neg (by simp [hfit]), State.accept_of_legal _ hl hb]
  have hup : Fr (maskOf [.LED_STAT, .LED_EFF] [.led]) (s.storeWrite w ⟨.LED_LVL, i, 0, 0⟩ x)
      ((s.storeWrite w ⟨.LED_LVL, i, 0, 0⟩ x).ledUpdate i) := State.ledUpdate_fr rfl (.id _ _)
  have hword : (s.storeWrite w ⟨.LED_LVL, i, 0, 0⟩ x).reg ⟨.LED_LVL, i, 0, 0⟩ =
      ins (ins (s.reg ⟨.LED_LVL, i, 0, 0⟩) 0 10 (ext x 0 10)) 16 10 (ext x 16 10) := State.reg_setReg_self _ _ _
  rw [State.ship_fld, State.ship_fld, hup.fld _ _ _ _ rfl, hup.fld _ _ _ _ rfl]
  change ext ((s.storeWrite w ⟨.LED_LVL, i, 0, 0⟩ x).reg ⟨.LED_LVL, i, 0, 0⟩) 0 10 = ext x 0 10 ∧
    ext ((s.storeWrite w ⟨.LED_LVL, i, 0, 0⟩ x).reg ⟨.LED_LVL, i, 0, 0⟩) 16 10 = ext x 16 10
  rw [hword, ext_ins_other _ _ (by decide), ext_ins_self _ _ (by decide), ext_ins_self _ _ (by decide),
    Nat.mod_eq_of_lt (ext_lt x 0 10), Nat.mod_eq_of_lt (ext_lt x 16 10)]
  exact ⟨rfl, rfl⟩

/-- A channel that is enabled shows its effective level, and whether a factor lowers it (R279, R280). -/
theorem State.ledUpdate_shows (hen : s.bit LED_CFG.EN i = true) : (s.ledUpdate i).fld LED_EFF.LEFF i = s.effLevel i % 1024 ∧
    (s.ledUpdate i).bit LED_STAT.DERATED i = decide (s.derate i < 256) := by
  unfold State.ledUpdate
  rw [if_neg (by simp [hen])]
  extract_lets +onlyGivenNames old l m s1 s2
  have hder : s1.bit LED_STAT.DERATED i = decide (s.derate i < 256) := by simp [s1]
  split
  case isTrue h =>
    refine ⟨?_, hder⟩
    have hlt : old < 1024 := ext_lt _ _ _
    have hold : s1.fld LED_EFF.LEFF i = old := State.fld_put_reg _ _ (by decide)
    have hl : l = old := by
      rw [Bool.and_eq_true, decide_eq_true_eq] at h
      exact h.1
    exact hold.trans (hl ▸ (Nat.mod_eq_of_lt (hl ▸ hlt)).symm)
  case isFalse =>
    have h2 : Fr (maskOf [.LED_EFF] []) s1 s2 := State.flag_fr rfl rfl (State.put_fr rfl rfl (.id _ _))
    have hl : s2.fld LED_EFF.LEFF i = l % 1024 := by
      simp [s2]
    exact ⟨hl, (State.bit_of_fld (h2.fld LED_STAT.DERATED i 0 0 rfl)).trans hder⟩

/-- In a running unit the word waits for the period end (R136). -/
theorem State.pdWrite_runs {u : Nat} {w : Word} (hsg : s.fld PU_CFG.SG u = 0) (hrun : s.bit PU_STAT.RUN u = true) :
    s.pdWrite u w = { s with fab := { s.fab with pdShadow := Tbl.set s.fab.pdShadow u w } } := by
  simp [State.pdWrite, hsg, hrun]

theorem State.ledApply_lx (l : Nat) (m : Bool) :
    ((s.ledApply i l m).lx i).duty = (s.lx i).duty ∧ ((s.ledApply i l m).lx i).level = (s.lx i).level ∧
      ((s.ledApply i l m).lx i).pwm = (s.lx i).pwm ∧ ((s.ledApply i l m).lx i).taking = (s.lx i).taking := by
  unfold State.ledApply
  extract_lets +onlyGivenNames x s1
  have h1 : s1.lx i = { s.lx i with arrived := false } := State.lx_setLx _
  split
  · rw [h1]
    exact ⟨rfl, rfl, rfl, rfl⟩
  · have h2 : ((s1.setLx i { s1.lx i with fixed := m }).put LED_EFF.DAC (if m then 0 else s1.dacOf i l) i).lx i =
        { s1.lx i with fixed := m } := State.lx_setLx _
    rw [h2, h1]
    exact ⟨rfl, rfl, rfl, rfl⟩

/-- In a running unit the DUTY that arrives waits for the period end, and the channel takes the level (R283). -/
theorem exec_dimmingDutyWrite_waits {d : Nat} (hfit : ledFitted s.variant i = true) (hup : s.sys.fabricUp = true)
    (hd : (s.lx i).duty = some d) (hrun : s.bit PU_STAT.RUN (s.fld LED_CFG.PU i) = true)
    (hsg : s.fld PU_CFG.SG (s.fld LED_CFG.PU i) = 0) :
    ∃ t, exec (.dimmingDutyWrite i) s = .next t ∧ (t.lx i).duty = none ∧ (t.lx i).level = s.fld LED_EFF.LEFF i ∧
      (t.lx i).pwm = s.bit LED_EFF.MODE i ∧ (t.lx i).taking = true ∧
      Tbl.get t.fab.pdShadow (s.fld LED_CFG.PU i) 0 = ins (s.reg ⟨.PU_PD, s.fld LED_CFG.PU i, 0, 0⟩) 16 16 d := by
  refine ⟨_, rfl, ?_⟩
  rw [hd]
  dsimp -zeta only
  rw [if_pos (by simp [hfit, hup])]
  extract_lets +onlyGivenNames u l m x s1 s2 s3
  have hlx1 : s1.lx i = { s.lx i with duty := none, level := l, pwm := m, taking := true, arrived := l != 0 } := State.lx_setLx _
  have h1 : Fr (maskOf [.LED_EFF] [.led]) s s1 := State.setLx_fr rfl (.id _ _)
  have h2 : Fr (maskOf [.LED_EFF] [.led]) s s2 := Fr.ite (State.ledApply_fr rfl h1) h1
  have hlx2 : (s2.lx i).duty = none ∧ (s2.lx i).level = l ∧ (s2.lx i).pwm = m ∧ (s2.lx i).taking = true := by
    unfold s2
    split
    · obtain ⟨ha, hb, hc, he⟩ := State.ledApply_lx (s := s1) (i := i) l false
      rw [ha, hb, hc, he, hlx1]
      exact ⟨rfl, rfl, rfl, rfl⟩
    · rw [hlx1]
      exact ⟨rfl, rfl, rfl, rfl⟩
  obtain ⟨word, hword⟩ : ∃ word, word = ins (s2.reg ⟨.PU_PD, u, 0, 0⟩) 16 16 d := ⟨_, rfl⟩
  have hs3 : s3 = { s2 with fab := { s2.fab with pdShadow := Tbl.set s2.fab.pdShadow u word } } := hword ▸
    State.pdWrite_runs (by rw [h2.fld PU_CFG.SG _ _ _ rfl]; exact hsg)
      ((State.bit_of_fld (h2.fld PU_STAT.RUN _ 0 0 rfl)).trans hrun)
  have hrun3 : s3.bit PU_STAT.RUN u = true := by
    rw [hs3]
    exact (State.bit_of_fld (h2.fld PU_STAT.RUN u 0 0 rfl)).trans hrun
  rw [if_pos hrun3, State.ship_lx, hs3]
  obtain ⟨hduty, hlevel, hpwm, htaking⟩ := hlx2
  refine ⟨hduty, hlevel, hpwm, htaking, ?_⟩
  rw [← h2.regOf .PU_PD rfl, ← hword]
  exact Tbl.get_set_self _ _ _ _

/-! ## Trips and diagnostics -/

theorem ledFitted_lt {v : Variant} (h : ledFitted v i = true) : i < 16 := by
  cases v <;> simp [ledFitted] at h <;> omega

theorem slotClass_led (h : i < 16) : slotClass (77 + i) = 5 := by
  rw [slotClass, if_neg (by omega), if_neg (by omega), if_neg (by omega), if_neg (by omega), if_neg (by omega)]

theorem State.ledOn_state (h : s.ledOn i = true) : s.ls i ≠ 4 := by
  simp only [State.ledOn, Bool.and_eq_true, Bool.or_eq_true, beq_iff_eq] at h
  omega

/-- A trip of a channel that is not DISABLED: TRIPPED, with its record; its flags stay (R284, R286). -/
theorem State.led_trip_shows {kind detail : Nat} {cond : Bool} (hi : i < 16) (h4 : s.ls i ≠ 4) :
    (s.trip (77 + i) kind detail cond).ls i = 3 ∧ ((s.trip (77 + i) kind detail cond).trip? (77 + i)).on = true ∧
      ((s.trip (77 + i) kind detail cond).trip? (77 + i)).kind = kind ∧
      RestKept LED_STAT.STATE s (s.trip (77 + i) kind detail cond) := by
  have hclass := slotClass_led hi
  have hgrp : s.grp (77 + i) = [77 + i] := if_neg (by simp; omega)
  obtain ⟨s1, hs1⟩ : ∃ s1, s1 = s.tripMark kind cond (77 + i) := ⟨_, rfl⟩
  have hmark : Fr (maskOf [] [.trips]) s s1 := hs1 ▸ State.setTrip_fr rfl (.id _ _)
  have hrec : (s1.trip? (77 + i)).on = true ∧ (s1.trip? (77 + i)).kind = kind := by
    rw [hs1, State.trip?, State.tripMark, State.setTrip]
    rw [Tbl.get_set_self]
    exact ⟨rfl, rfl⟩
  have hls : s1.ls i = s.ls i := hmark.fld LED_STAT.STATE i 0 0 rfl
  have hone : s.tripOne kind cond (77 + i) = s1.ledStop i 3 := by
    have host : s1.ost (77 + i) = s1.ls i := by simp [State.ost, State.byClass, hclass, State.ls]
    rw [State.tripOne, ← hs1]
    simp [host, hls, lockedCode, disabledCode, trippedCode, hclass, h4, State.stageOff, State.disabling]
  have htrip : s.trip (77 + i) kind detail cond =
      (s1.ledStop i 3).raiseCond (slotBlock (77 + i)) (slotUnit (77 + i)) kind detail := by
    simp [State.trip, hgrp, forEach, hone, hclass]
  rw [htrip]
  refine ⟨?_, hrec.1, hrec.2, ?_⟩
  · change (s1.ledStop i 3).fld LED_STAT.STATE i = 3
    simp [State.ledStop, State.setLs]
  · exact (((RestKept.refl s).fr hmark rfl).fr (m := maskOf [] [.led]) (State.setLx_fr rfl (.id _ _)) rfl).put

/-- A short to ground trips (R286). -/
theorem exec_shortToGround_trips {v : Nat} (hfit : ledFitted s.variant i = true) (hon : s.ledOn i = true) (hv : v < 1000)
    (hb : s.diagBarred (77 + i) = false) : ∃ t, exec (.shortToGround i v) s = .next t ∧ t.ls i = 3 ∧
      (t.trip? (77 + i)).on = true ∧ (t.trip? (77 + i)).kind = 0 ∧ t.bit LED_STAT.SG i = true := by
  refine ⟨_, rfl, ?_⟩
  rw [if_pos (by simp [hfit, hon, hv, hb])]
  obtain ⟨s1, hs1⟩ : ∃ s1, s1 = (s.put LED_MEAS.VOUT (satTo (v / 10) 12) i).flag LED_STAT.SG true i := ⟨_, rfl⟩
  have hls : s1.ls i = s.ls i := by
    rw [hs1]
    exact (State.fld_flag_apart _ _ (by decide)).trans (State.fld_put_reg _ _ (by decide))
  have hsg : s1.bit LED_STAT.SG i = true := by simp [hs1]
  rw [← hs1]
  clear hs1
  obtain ⟨h3, hon', hkind, hrest⟩ := State.led_trip_shows (s := s1) (kind := 0) (detail := coilDetail (s.ls i) (v / 10))
    (cond := true) (ledFitted_lt hfit) (by rw [hls]; exact State.ledOn_state hon)
  exact ⟨h3, hon', hkind, (hrest.bit (g := LED_STAT.SG) rfl rfl).trans hsg⟩

/-- A measured string above half its setting is not open (R287). -/
theorem exec_openStringMeasurement_ok {iUa v f : Nat} (hfit : ledFitted s.variant i = true) (hon : s.ledOn i = true)
    (hup : s.sys.fabricUp = true) (hb : s.diagBarred (77 + i) = false) (hos : s.bit LED_DIAG.OSEN i = true)
    (hi : s.ledUa i ≤ 2 * s.sensedUa i iUa) : ∃ t, exec (.openStringMeasurement i iUa v f) s = .next t ∧
      t.fld LED_STAT.OSTAT i = 1 ∧ (t.lx i).below = 0 ∧ (t.lx i).measured = true ∧
      t.fld LED_MEAS.I i = satTo (s.sensedUa i iUa / 500) 10 := by
  refine ⟨_, rfl, ?_⟩
  extract_lets +onlyGivenNames ua
  rw [if_neg (by simp [hfit, hon]), if_neg (by simp [hup, hb])]
  extract_lets +onlyGivenNames low s1 s2
  have hlow : low = false := by
    have hge : ¬ 2 * ua < s.ledUa i := Nat.not_lt.mpr hi
    simp [low, hge]
  have h2 : Fr (maskOf [.LED_MEAS] [.led]) s s2 :=
    State.ledMeasured_fr rfl (State.put_fr rfl rfl (State.put_fr rfl rfl (.id _ _)))
  have hlx2 : (s2.lx i).measured = true := by
    refine (congrArg LedSt.measured (State.lx_setLx _)).trans ?_
    simp
  have hmeas : s2.fld LED_MEAS.I i = satTo (s.sensedUa i iUa / 500) 10 := by
    refine (State.fld_put_apart _ _ (by decide)).trans ((State.fld_put_same _ _ (by decide)).trans ?_)
    exact Nat.mod_eq_of_lt (satTo_lt _ 10)
  clear_value s2
  rw [if_neg (by simp [State.bit_of_fld (h2.fld LED_DIAG.OSEN i 0 0 rfl), hos]), hlow]
  extract_lets +onlyGivenNames old below st x s3 s4
  have h3 : s3.lx i = { s2.lx i with below := 0 } := State.lx_setLx _
  have hst : s3.fld LED_STAT.OSTAT i = 1 := (State.fld_put_same _ _ (by decide)).trans rfl
  have h23 : Fr (maskOf [.LED_STAT] [.led]) s2 s3 := State.put_fr rfl rfl (State.setLx_fr rfl (.id _ _))
  have h4 : Fr (maskOf [.FLT_STAT] [.flt]) s3 s4 := Fr.ite (.id _ _) (State.clearSrc_fr rfl (.id _ _))
  rw [if_neg (by simp [st]), State.ship_lx, State.ship_fld, State.ship_fld, h4.lx rfl, h4.fld _ _ _ _ rfl,
    h4.fld _ _ _ _ rfl, h23.fld LED_MEAS.I _ _ _ rfl, h3]
  exact ⟨hst, rfl, hlx2, hmeas⟩

/-- A string at its full voltage is not shorted (R288). -/
theorem exec_shortedLedCheck_ok {v : Nat} (hfit : ledFitted s.variant i = true) (hup : s.sys.fabricUp = true)
    (h2 : s.ls i = 2) (hon : s.ledOn i = true) (hsh : s.fld LED_DIAG.SHTH i ≠ 0) (hb : s.diagBarred (77 + i) = false)
    (hv : 20 * s.fld LED_DIAG.VNOM i ≤ v + 100 * s.fld LED_DIAG.SHTH i) : ∃ t, exec (.shortedLedCheck i v) s = .next t ∧
      t.fld LED_STAT.SSTAT i = 1 ∧ (t.lx i).shBelow = 0 := by
  refine ⟨_, rfl, ?_⟩
  extract_lets +onlyGivenNames sh runs
  rw [if_neg (by simp [hfit, sh, hsh, runs, h2, hon, hup, hb])]
  extract_lets +onlyGivenNames old low n st x s1
  have hlow : low = false := by simp [low, sh, Nat.not_lt.mpr hv]
  have hst : st = 1 := by simp [st, hlow]
  have hn : min n 7 = 0 := by simp [n, hlow]
  rw [if_neg (by simp [hst]), State.ship_lx, State.ship_fld]
  have hlx : s1.lx i = { s.lx i with shBelow := min n 7 } := State.lx_setLx _
  rw [hlx]
  exact ⟨(State.fld_put_same _ _ (by decide)).trans (by rw [hst]; rfl), hn⟩

/-- DACFAIL after an update of the level that follows a change of it. -/
theorem State.ledUpdate_dacfail : (s.ledUpdate i).bit LED_STAT.DACFAIL i = s.bit LED_STAT.DACFAIL i :=
  State.ledUpdate_rest.bit rfl rfl

/-- A DAC that fails (R289). -/
theorem exec_dacFailure_shows {iUa : Nat} (hfit : ledFitted s.variant i = true)
    (hdue : (s.ls i = 1 ∧ s.ledOn i = true ∧ s.dacOff i (s.sensedUa i iUa) = true) ∨
      (s.ledOn i = false ∧ (s.lx i).testDue = true)) (hd : s.bit LED_STAT.DACFAIL i = false) :
    ∃ t, exec (.dacFailure i iUa) s = .next t ∧ t.bit LED_STAT.DACFAIL i = true ∧ (t.lx i).testDue = false := by
  refine ⟨_, rfl, ?_⟩
  extract_lets +onlyGivenNames ua due
  have hdue' : due = true := by
    rcases hdue with ⟨h1, hon, hoff⟩ | ⟨hon, htest⟩
    · simp [due, ua, h1, hon, hoff]
    · simp [due, hon, htest]
  rw [if_pos (by simp [hfit, hdue', hd])]
  extract_lets +onlyGivenNames x s1
  have h1 : s1.lx i = { s.lx i with testDue := false } := State.lx_setLx _
  obtain ⟨s2, hs2⟩ : ∃ s2, s2 = (s1.flag LED_STAT.DACFAIL true i).raise 5 i 1 (coilDetail (s1.ls i) (ua / 1000)) := ⟨_, rfl⟩
  rw [← hs2, State.ship_bit, State.ship_lx, State.ledUpdate_dacfail]
  obtain ⟨d, hd⟩ := State.ledUpdate_lx (s := s2) (i := i)
  have hlx2 : s2.lx i = s1.lx i := by rw [hs2]; rfl
  rw [hd, hlx2, h1]
  refine ⟨?_, rfl⟩
  rw [hs2]
  exact State.bit_flag_same s1 true (by decide) (by decide)

/-- A retest that passes with the stage off clears DACFAIL (R289). -/
theorem exec_dacRetest_clears (hfit : ledFitted s.variant i = true) (hr : (s.lx i).retest = true) (hon : s.ledOn i = false) :
    ∃ t, exec (.dacRetest i true) s = .next t ∧ t.bit LED_STAT.DACFAIL i = false ∧ (t.lx i).retest = false := by
  refine ⟨_, rfl, ?_⟩
  rw [if_pos (by simp [hfit, hr, hon])]
  extract_lets +onlyGivenNames x s1
  rw [if_pos rfl]
  have h1 : s1.lx i = { s.lx i with retest := false } := State.lx_setLx _
  obtain ⟨d, hd⟩ := State.ledUpdate_lx (s := s1.flag LED_STAT.DACFAIL false i) (i := i)
  have hlx : (s1.flag LED_STAT.DACFAIL false i).lx i = s1.lx i := rfl
  rw [State.ship_bit, State.ship_lx, State.ledUpdate_dacfail, hd, hlx, h1]
  exact ⟨by simp, rfl⟩

/-! ## Lamp groups and the fold-back -/

/-- Updates of levels leave what a lamp group and the fold-back show. -/
theorem ledUpdates_mask (is : List Nat) : Fr (maskOf [.LED_STAT, .LED_EFF] [.led]) s (forEach is (fun i s => s.ledUpdate i) s) :=
  Holds.forEach (fun _ _ h => State.ledUpdate_fr rfl h) (.id _ _)

/-- A reading outside 0.02 to 0.98 of full scale is a sensor fault (R290, R292). -/
theorem exec_lampGroupUpdate_faults {mv vs : Nat} (hfit : lgFitted s.variant g = true) (hen : s.bit LG_NTC2.EN g = true)
    (hval : s.ainValid (s.fld LG_NTC2.AIN g) = true) (hbad : 50 * s.ainReads (s.fld LG_NTC2.AIN g) mv vs < 4095 ∨
      49 * 4095 < 50 * s.ainReads (s.fld LG_NTC2.AIN g) mv vs) : ∃ t, exec (.lampGroupUpdate g mv vs) s = .next t ∧
      t.bit LG_STAT.SFAULT g = true ∧ t.fld LG_STAT.F g = s.fld LG_DER.FMIN g := by
  refine ⟨_, rfl, ?_⟩
  extract_lets +onlyGivenNames j
  rw [if_neg (by simp [hfit, hen, j, hval])]
  extract_lets +onlyGivenNames v s1 bad s3 temp f s2
  have hb : bad = true := by simpa [bad, v, j] using hbad
  have h1 : Fr (maskOf [.AIN_VAL] [.inp]) s s1 := State.ainShow_fr rfl (.id _ _)
  have h2 : s2.bit LG_STAT.SFAULT g = true ∧ s2.fld LG_STAT.F g = s.fld LG_DER.FMIN g := by
    unfold s2
    rw [if_pos hb]
    have h3 : s3.bit LG_STAT.SFAULT g = true ∧ s3.fld LG_STAT.F g = s.fld LG_DER.FMIN g := by
      refine ⟨by simp [s3], ?_⟩
      refine (State.fld_flag_apart _ _ (by decide)).trans ((State.fld_put_same _ _ (by decide)).trans ?_)
      rw [h1.fld LG_DER.FMIN _ _ _ rfl]
      exact Nat.mod_eq_of_lt (Nat.lt_trans (ext_lt _ _ _) (by decide))
    split
    · exact h3
    · exact h3
  have hup := ledUpdates_mask (s := s2) (s2.leds.filter fun i => s2.fld LED_CFG.LGRP i == g + 1)
  rw [State.ship_bit, State.ship_fld, State.bit_of_fld (hup.fld LG_STAT.SFAULT g 0 0 rfl), hup.fld LG_STAT.F g 0 0 rfl]
  exact h2

/-- A good reading gives the factor of its temperature (R290, R291). -/
theorem exec_lampGroupUpdate_derates {mv vs : Nat} (hfit : lgFitted s.variant g = true) (hen : s.bit LG_NTC2.EN g = true)
    (hval : s.ainValid (s.fld LG_NTC2.AIN g) = true) (hlo : 4095 ≤ 50 * s.ainReads (s.fld LG_NTC2.AIN g) mv vs)
    (hhi : 50 * s.ainReads (s.fld LG_NTC2.AIN g) mv vs ≤ 49 * 4095) : ∃ t, exec (.lampGroupUpdate g mv vs) s = .next t ∧
      t.bit LG_STAT.SFAULT g = false ∧
      t.fld LG_STAT.F g = deratingF (ntcHalf (((s.ainReads (s.fld LG_NTC2.AIN g) mv vs : Nat) : Rat) / (4095 : Rat))
        (s.fld LG_NTC.RPU g) (s.fld LG_NTC.R25 g) (s.fld LG_NTC2.BETA g)) (s.sfld LG_DER.TSTART g) (s.sfld LG_DER.TEND g)
        (s.fld LG_DER.FMIN g) % 512 := by
  refine ⟨_, rfl, ?_⟩
  extract_lets +onlyGivenNames j
  rw [if_neg (by simp [hfit, hen, j, hval])]
  extract_lets +onlyGivenNames v s1 bad s3 temp f s2
  have hb : bad = false := by simp [bad, v, j, Nat.not_lt.mpr hlo, Nat.not_lt.mpr hhi]
  have h1 : Fr (maskOf [.AIN_VAL] [.inp]) s s1 := State.ainShow_fr rfl (.id _ _)
  have hup := ledUpdates_mask (s := s2) (s2.leds.filter fun i => s2.fld LED_CFG.LGRP i == g + 1)
  rw [State.ship_bit, State.ship_fld, State.bit_of_fld (hup.fld LG_STAT.SFAULT g 0 0 rfl), hup.fld LG_STAT.F g 0 0 rfl]
  unfold s2
  rw [if_neg (by simp [hb])]
  have hf : f = deratingF (ntcHalf (((v : Nat) : Rat) / (4095 : Rat)) (s.fld LG_NTC.RPU g) (s.fld LG_NTC.R25 g)
      (s.fld LG_NTC2.BETA g)) (s.sfld LG_DER.TSTART g) (s.sfld LG_DER.TEND g) (s.fld LG_DER.FMIN g) := by
    simp only [f, temp, State.sfld, h1.fld LG_NTC.RPU _ _ _ rfl, h1.fld LG_NTC.R25 _ _ _ rfl, h1.fld LG_NTC2.BETA _ _ _ rfl,
      h1.fld LG_DER.TSTART _ _ _ rfl, h1.fld LG_DER.TEND _ _ _ rfl, h1.fld LG_DER.FMIN _ _ _ rfl]
  clear_value f temp
  refine ⟨by simp, ?_⟩
  rw [← hf]
  exact (State.fld_flag_apart _ _ (by decide)).trans (State.fld_put_same _ _ (by decide))

/-- With no stage measured the total is 0 and the factor takes its step (R293). -/
theorem exec_foldbackUpdate_steps : ∃ t, exec (.foldbackUpdate []) s = .next t ∧ t.fld LED_PSTAT.PTOT = 0 ∧
    t.fld LED_PSTAT.FF = (foldStep 0 (s.fld LED_PCFG.PSUM) (s.fld LED_PSTAT.FF) s.fold.low).1 % 512 := by
  refine ⟨_, rfl, ?_⟩
  extract_lets +onlyGivenNames ms ptot s1
  have hs1 : s1 = s := rfl
  have hp : ptot = 0 := rfl
  rw [hs1, hp]
  clear hs1 hp
  clear_value s1 ptot
  generalize foldStep 0 (s.fld LED_PCFG.PSUM) (s.fld LED_PSTAT.FF) s.fold.low = step
  obtain ⟨ff, low⟩ := step
  dsimp -zeta only
  extract_lets +onlyGivenNames s2 s3 s4
  have h3 : s3.fld LED_PSTAT.PTOT = 0 ∧ s3.fld LED_PSTAT.FF = ff % 512 := by
    have h2 : s2.fld LED_PSTAT.PTOT = 0 ∧ s2.fld LED_PSTAT.FF = ff % 512 :=
      ⟨(State.fld_put_apart _ _ (by decide)).trans ((State.fld_put_same _ _ (by decide)).trans rfl),
        State.fld_put_same _ _ (by decide)⟩
    unfold s3
    split
    · exact h2
    · exact h2
  have hup := ledUpdates_mask (s := s4) s4.leds
  rw [State.ship_fld, State.ship_fld, hup.fld _ _ _ _ rfl, hup.fld _ _ _ _ rfl]
  exact h3

/-- Settles O41: levels, duty words, trips, diagnostics, lamp groups and the fold-back. -/
theorem ledChannels : Obligations.LedChannels := by
  unfold Obligations.LedChannels
  refine ⟨fun s w i x => exec_ledLevelWrite_stores, fun s i hfit hen => ⟨_, rfl, ?_⟩,
    fun s i d hfit hup hd hrun hsg _ => exec_dimmingDutyWrite_waits hfit hup hd hrun hsg, fun s i v => exec_shortToGround_trips,
    fun s i iUa v f => exec_openStringMeasurement_ok, fun s i v => exec_shortedLedCheck_ok,
    fun s i iUa hfit h1 hon hoff => exec_dacFailure_shows hfit (.inl ⟨h1, hon, hoff⟩),
    fun s i iUa hfit hon ht => exec_dacFailure_shows hfit (.inr ⟨hon, ht⟩), fun s w i hfit ht hw => ⟨_, rfl, ?_⟩,
    fun s w i hfit hw => ⟨_, rfl, ?_⟩, fun s i => exec_dacRetest_clears,
    fun s g mv vs hfit hen hval hlt => exec_lampGroupUpdate_faults hfit hen hval (.inl hlt),
    fun s g mv vs hfit hen hval hgt => exec_lampGroupUpdate_faults hfit hen hval (.inr hgt),
    fun s g mv vs => exec_lampGroupUpdate_derates, fun s => exec_foldbackUpdate_steps⟩
  · rw [if_pos hfit]
    exact State.ledUpdate_shows hen
  · have hclass := slotClass_led (ledFitted_lt hfit)
    have hgrp : s.grp (77 + i) = [77 + i] := if_neg (by simp; omega)
    rw [State.asWho_of_reaches hw, State.runLedClrTrip, if_pos hfit]
    simp [State.clrTrip, ht, hgrp, forEach, State.setRetries, State.putByClass, hclass]
  · rw [State.asWho_of_reaches hw, State.runLedClrDacrst, if_pos hfit, State.ship_lx, State.lx_setLx]

end Sys2Proof.Machine
end

section
/-! Lighting chains (statement O42; spec/08 R296 to R306). -/

namespace Sys2Proof.Machine

variable {s t : State} {n : Nat}

theorem State.lc_setLc (x : LchSt) : (s.setLc n x).lc n = x := Tbl.get_set_self _ _ _ _

theorem Fr.lc {m : Nat} (h : Fr m s t) (hm : m.testBit Part.lch.bit = false) : t.lc n = s.lc n :=
  congrArg (fun x => Tbl.get x n default) (h.lch hm)

theorem State.ship_lc (u : State) : (s.ship u).lc n = u.lc n := rfl

/-- A chain that discovers has no refresh under way (R304). -/
theorem State.discover_shows : (s.discover n).lcs n = 1 ∧ ((s.discover n).lc n).busy = false :=
  ⟨(State.fld_put_same (f := LCH_STAT.STATE) (i := n) s 1 (by decide)).trans rfl,
    congrArg LchSt.busy (State.lc_setLc (s := s.put LCH_STAT.STATE 1 n) _)⟩

/-- A refresh begins with the swap that waits (R299, R300). -/
theorem exec_refreshStart_swaps (hup : s.lchUp n = true) (h2 : s.lcs n = 2) (hb : (s.lc n).busy = false)
    (hp : s.bit LCH_STAT.SWPEND n = true) : ∃ t, exec (.refreshStart ⟨n, none⟩) s = .next t ∧ (t.lc n).busy = true ∧
      t.bit LCH_STAT.SWPEND n = false ∧ t.bit LCH_STAT.ACTIVE n = !s.bit LCH_STAT.ACTIVE n := by
  refine ⟨_, rfl, ?_⟩
  extract_lets +onlyGivenNames m
  rw [if_neg (by simp [m, hup, h2, hb]), if_pos (show s.bit LCH_STAT.SWPEND m = true from hp)]
  extract_lets +onlyGivenNames s1 k x c stat len frames s2
  obtain ⟨y, hy⟩ : ∃ y, y = { x with cycle := if k = 0 || stat then 0 else c, busy := true, isStat := stat, frames := frames } :=
    ⟨_, rfl⟩
  have hflags : s1.bit LCH_STAT.SWPEND n = false ∧ s1.bit LCH_STAT.ACTIVE n = !s.bit LCH_STAT.ACTIVE n :=
    ⟨State.bit_flag_same _ _ (by decide) (by decide),
      (State.bit_flag_apart _ _ (by decide)).trans (State.bit_flag_same _ _ (by decide) (by decide))⟩
  change ((s2.setLc n _).lc n).busy = true ∧ _
  rw [State.lc_setLc]
  exact ⟨rfl, hflags⟩

/-- A refresh whose answer is not checked ends (R302). -/
theorem exec_refreshComplete_counts {ret : List (List Byte)} (hup : s.lchUp n = true) (h2 : s.lcs n = 2)
    (hb : (s.lc n).busy = true) (hu : (s.lc n).unchecked = true) : ∃ t, exec (.refreshComplete n ret) s = .next t ∧
      (t.lc n).busy = false ∧ (t.lc n).prev = (s.lc n).frames ∧ (t.lc n).unchecked = false ∧
      t.fld LCH_CNT.REFRESH n = (s.fld LCH_CNT.REFRESH n + 1) % 65536 := by
  refine ⟨_, rfl, ?_⟩
  extract_lets +onlyGivenNames x
  rw [if_neg (by simp [x, hup, h2, hb])]
  extract_lets +onlyGivenNames err s1 s2 x2 s3
  have herr : err = none := if_pos hu
  have hs1 : s1 = s := if_neg (by simp [x, hu])
  rw [herr]
  dsimp -zeta only
  rw [State.ship_lc, State.ship_fld]
  refine ⟨congrArg LchSt.busy (State.lc_setLc (s := s2) _), ?_, congrArg LchSt.unchecked (State.lc_setLc (s := s2) _), ?_⟩
  · refine (congrArg LchSt.prev (State.lc_setLc (s := s2) _)).trans ?_
    change (s1.lc n).frames = _
    rw [hs1]
  · refine (State.fld_put_same (f := LCH_CNT.REFRESH) s1 _ (by decide)).trans ?_
    rw [hs1]
    rfl

/-- An underrun ends the refresh and is counted (R301). -/
theorem exec_chainUnderrun_counts (hup : s.lchUp n = true) (h2 : s.lcs n = 2) (hb : (s.lc n).busy = true) :
    ∃ t, exec (.chainUnderrun ⟨n, none⟩) s = .next t ∧ (t.lc n).busy = false ∧ (t.lc n).unders = (s.lc n).unders + 1 ∧
      t.bit LCH_STAT.UNDERRUN n = true := by
  refine ⟨_, rfl, ?_⟩
  extract_lets +onlyGivenNames m x
  rw [if_neg (by simp [m, x, hup, h2, hb])]
  extract_lets +onlyGivenNames s1 s2 s3
  have hlc : s3.lc n = { x with busy := false, unders := x.unders + 1 } := State.lc_setLc (s := s1) _
  have hbit : s3.bit LCH_STAT.UNDERRUN n = true := by
    have hcnt : s3.bit LCH_STAT.UNDERRUN n = (s2.flag LCH_STAT.UNDERRUN true n).bit LCH_STAT.UNDERRUN n :=
      State.bit_put_reg _ _ (by decide)
    exact hcnt.trans (State.bit_flag_same _ _ (by decide) (by decide))
  have hend {u : State} (hu' : u.lc n = s3.lc n) (hu : u.bit LCH_STAT.UNDERRUN n = true) : (u.lc n).busy = false ∧
      (u.lc n).unders = (s.lc n).unders + 1 ∧ u.bit LCH_STAT.UNDERRUN n = true := by
    rw [hu', hlc]
    exact ⟨rfl, rfl, hu⟩
  split
  · exact hend rfl hbit
  · exact hend rfl hbit

/-- Discovery finds the nodes expected (R304). -/
theorem exec_discoveryDone_runs {d : Nat} (hup : s.lchUp n = true) (h1 : s.lcs n = 1) :
    ∃ t, exec (.discoveryDone n (some (s.fld LCH_CFG.NEXP n)) d) s = .next t ∧ t.lcs n = 2 ∧
      t.fld LCH_DLY.QDLY n = satTo d 16 ∧ (t.lc n).unchecked = true := by
  refine ⟨_, rfl, ?_⟩
  rw [if_neg (by simp [hup, h1])]
  dsimp -zeta only
  extract_lets +onlyGivenNames s1
  have h1 : Fr (maskOf [.LCH_STAT, .LCH_DLY] []) s s1 := State.put_fr rfl rfl (State.put_fr rfl rfl (.id _ _))
  rw [if_neg (by rw [h1.fld LCH_CFG.NEXP _ _ _ rfl]; simp), State.ship_lc, State.lc_setLc]
  refine ⟨(State.fld_put_same (f := LCH_STAT.STATE) s1 2 (by decide)).trans rfl, ?_, rfl⟩
  refine (State.fld_put_reg (f := LCH_STAT.STATE) s1 2 (by decide)).trans ((State.fld_put_same _ _ (by decide)).trans ?_)
  exact Nat.mod_eq_of_lt (satTo_lt _ 16)

/-- Settles O42: refresh, swap, underrun and discovery of a chain. -/
theorem lightingChains : Obligations.LightingChains := by
  unfold Obligations.LightingChains
  refine ⟨fun s n => exec_refreshStart_swaps, fun s n ret => exec_refreshComplete_counts, fun s n => exec_chainUnderrun_counts,
    fun s w n hfit hw => ⟨_, rfl, ?_⟩, fun s w n hup hw => ⟨_, rfl, ?_⟩, fun s n d => exec_discoveryDone_runs,
    fun s n d hup h1 => ⟨_, rfl, ?_⟩, fun s n hup h34 => ⟨_, rfl, ?_⟩⟩
  · rw [State.asWho_of_reaches hw, State.runLchCtlSwap, if_pos hfit]
    simp
  · have hfit : lchFitted s.variant n = true := by
      simp only [State.lchUp, Bool.and_eq_true] at hup
      exact hup.1.1
    rw [State.asWho_of_reaches hw, State.runLchCtlDisc, if_neg (by simp [hfit]), if_pos hup]
    exact State.discover_shows
  · rw [if_neg (by simp [hup, h1])]
    simp [State.lcs]
  · rw [if_pos (by simpa [hup] using h34)]
    exact State.discover_shows.1

end Sys2Proof.Machine
end

section
/-! Switch, analogue and hall inputs and the sensor supplies (statement O43; spec/09 R309 to R326). -/

namespace Sys2Proof.Machine

variable {s t : State} {n g j h : Nat}

/-! ## Switch inputs -/

/-- A switch input's level after it is set. -/
theorem State.slvl_setSlvl (b : Bool) : (s.setSlvl n b).slvl n = b := by
  have hlt : n % 32 < 32 := Nat.mod_lt _ (by decide)
  have hbit (w : Word) : bitOf (ins w (n % 32) 1 (b2n b)).toNat (n % 32) = b := by
    change (ins w (n % 32) 1 (b2n b)).getLsbD (n % 32) = b
    rw [getLsbD_ins]
    cases b <;> simp [b2n, hlt]
  rw [State.setSlvl, State.slvl, State.fld_put_same _ _ (by decide), Nat.mod_eq_of_lt (BitVec.isLt _)]
  exact hbit _

/-- The first sample after a fabric start is taken without debounce (R311 to R313). -/
theorem State.sinSample_first {mv : Nat} (hn : n < 96) (hf : s.inp.sampled.getLsbD n = false) :
    (s.sinSample n mv).inp.sampled.getLsbD n = true ∧
      (s.sinSample n mv).inp.raw.getLsbD n =
        rawLevel (s.inp.raw.getLsbD n) mv (s.fld INP_SGRP.THRL (n / 8)) (s.fld INP_SGRP.THRH (n / 8)) ∧
      (s.sinSample n mv).slvl n =
        rawLevel (s.inp.raw.getLsbD n) mv (s.fld INP_SGRP.THRL (n / 8)) (s.fld INP_SGRP.THRH (n / 8)) := by
  unfold State.sinSample
  extract_lets +onlyGivenNames g r deb first x1 s1
  have hs : s1.inp.sampled.getLsbD n = true ∧ s1.inp.raw.getLsbD n = r :=
    ⟨(getLsbD_setBitV _ _ _ hn).trans (if_pos rfl), (getLsbD_setBitV _ _ _ hn).trans (if_pos rfl)⟩
  split
  case isTrue heq => exact ⟨hs.1, hs.2, heq.symm⟩
  case isFalse =>
    extract_lets +onlyGivenNames k
    rw [if_pos (by simp [first, hf])]
    exact ⟨hs.1, hs.2, State.slvl_setSlvl (s := s1) r⟩

theorem sinFitted_lt {v : Variant} (hf : sinFitted v n = true) : n < 96 := by
  cases v <;> simp [sinFitted] at hf <;> omega

/-- The first sample of a group's first input (R311 to R313). -/
theorem exec_sinSample_first {mv : Nat} (hup : s.sys.fabricUp = true) (hfit : sinFitted s.variant (8 * g) = true)
    (hf : s.inp.sampled.getLsbD (8 * g) = false) : ∃ t, exec (.sinSample g [mv]) s = .next t ∧
      t.inp.sampled.getLsbD (8 * g) = true ∧
      t.inp.raw.getLsbD (8 * g) = rawLevel (s.inp.raw.getLsbD (8 * g)) mv (s.fld INP_SGRP.THRL g) (s.fld INP_SGRP.THRH g) ∧
      t.slvl (8 * g) = rawLevel (s.inp.raw.getLsbD (8 * g)) mv (s.fld INP_SGRP.THRL g) (s.fld INP_SGRP.THRH g) := by
  refine ⟨_, rfl, ?_⟩
  rw [if_pos (by simp [hup, hfit])]
  have hset : Fr (maskOf [.PU_PD, .PU_STAT] [.fab, .nm]) (s.sinSample (8 * g) mv) (s.sinSample (8 * g) mv).settle :=
    State.settle_fr rfl (.id _ _)
  obtain ⟨hs, hr, hl⟩ := State.sinSample_first (mv := mv) (sinFitted_lt hfit) hf
  rw [Nat.mul_div_cancel_left g (by decide)] at hr hl
  change (s.sinSample (8 * g) mv).settle.inp.sampled.getLsbD (8 * g) = true ∧
    (s.sinSample (8 * g) mv).settle.inp.raw.getLsbD (8 * g) = _ ∧ (s.sinSample (8 * g) mv).settle.slvl (8 * g) = _
  rw [hset.inp rfl, State.slvl, hset.fld _ _ _ _ rfl]
  exact ⟨hs, hr, hl⟩

/-! ## Analogue inputs -/

/-- A comparator's step leaves VAL. -/
theorem State.cmpStep_val {first : Bool} {v c : Nat} : (s.cmpStep first j v c).fld AIN_VAL.VAL j = s.fld AIN_VAL.VAL j := by
  have hcmp (b : Bool) : (s.setCmp j c b).fld AIN_VAL.VAL j = s.fld AIN_VAL.VAL j := by
    unfold State.setCmp
    split
    · exact State.fld_flag_apart _ _ (by decide)
    · exact State.fld_flag_apart _ _ (by decide)
  unfold State.cmpStep
  dsimp only
  split
  · rfl
  · split
    · rfl
    · split
      · exact hcmp _
      · rfl

/-- From the fifth update on VAL takes the reading (R319, R322). -/
theorem exec_ainUpdate_reads {mv vs : Nat} (hup : s.sys.fabricUp = true) (hfit : ainFitted s.variant j = true)
    (hn : 4 ≤ Tbl.get s.inp.upd j 0) (ho : s.inp.ovl = 0) :
    ∃ t, exec (.ainUpdate j mv vs) s = .next t ∧ t.fld AIN_VAL.VAL j = s.ainVal j mv vs := by
  refine ⟨_, rfl, ?_⟩
  rw [if_neg (by simp [hup, hfit])]
  extract_lets +onlyGivenNames s1 n v x2 s2 cmps
  have h1 : Fr (maskOf [.INP_SUPSTAT] []) s s1 := Fr.ite (State.put_fr rfl rfl (.id _ _)) (State.put_fr rfl rfl (.id _ _))
  have hn1 : 4 ≤ n := by
    unfold n
    rw [h1.inp rfl]
    exact hn
  have hv : v = s.ainVal j mv vs := by
    have hraw : s1.ainRaw j mv vs = s.ainRaw j mv vs := by
      rw [State.ainRaw, State.bit_of_fld (h1.fld AIN_CFG.RATIO j 0 0 rfl), State.bit_of_fld (h1.fld AIN_CFG.RANGE j 0 0 rfl)]
      rfl
    simp only [v, State.ainVal, State.corrected, State.sfld, hraw, h1.fld CAL_VAL.GAIN _ _ _ rfl,
      h1.fld CAL_VAL.OFFSET _ _ _ rfl]
  have hholds : s2.ainHolds j = false := by
    have hovl : s2.inp.ovl = 0 := (congrArg InpSt.ovl (h1.inp rfl)).trans ho
    rw [State.ainHolds, hovl]
    simp
  rw [if_neg (by simp [hholds]), if_neg (by omega), if_neg (by omega)]
  have hset : Fr (maskOf [.PU_PD, .PU_STAT] [.fab, .nm]) (cmps (s2.ainShow j v)) (cmps (s2.ainShow j v)).settle :=
    State.settle_fr rfl (.id _ _)
  rw [State.ship_fld, hset.fld _ _ _ _ rfl]
  refine State.cmpStep_val.trans (State.cmpStep_val.trans ((State.fld_put_same _ _ (by decide)).trans ?_))
  rw [hv]
  exact Nat.mod_eq_of_lt (Nat.lt_of_le_of_lt (Nat.min_le_left _ _) (by decide))

/-! ## Sensor supplies and hall inputs -/

/-- An overload is noted and reported with its voltage (R323). -/
theorem exec_sensorSupplyOverload_raises {u mv : Nat} (hon : s.supOn u = true) (ho : s.inp.ovl.getLsbD u = false) :
    ∃ t, exec (.sensorSupplyOverload u mv) s = .next t ∧ t.inp.ovl.getLsbD u = true ∧
      t.flt.raised = s.flt.raised ++ [⟨srcId 7 (24 + u) 2, satTo (mv / 10) 12, s.micros, false, true, false⟩] := by
  have hu : u < 3 := by
    unfold State.supOn at hon
    split at hon <;> simp at hon ⊢
  refine ⟨_, rfl, ?_⟩
  rw [if_pos (by simp only [hon, ho]; rfl)]
  extract_lets +onlyGivenNames x1 s1 s2
  have h2 : Fr (maskOf [.INP_SUPSTAT] []) s1 s2 := by
    unfold s2
    split
    · exact State.put_fr rfl rfl (State.flag_fr rfl rfl (.id _ _))
    · exact State.put_fr rfl rfl (State.flag_fr rfl rfl (.id _ _))
    · exact State.flag_fr rfl rfl (.id _ _)
  have hdetail : satTo (mv / 10) 12 % 4096 = satTo (mv / 10) 12 := Nat.mod_eq_of_lt (satTo_lt _ 12)
  have hmicros : s2.micros = s1.micros := by
    simp only [State.micros, State.seen, h2.sys rfl, h2.tb rfl]
  change s2.inp.ovl.getLsbD u = true ∧ s2.flt.raised ++ [⟨srcId 7 (24 + u) 2, satTo (mv / 10) 12 % 4096, s2.micros, false, true,
    false⟩] = _
  rw [hdetail, hmicros.trans (rfl : s1.micros = s.micros), h2.flt rfl, h2.inp rfl]
  exact ⟨(getLsbD_setBitV _ _ _ hu).trans (if_pos rfl), rfl⟩

/-- A three-wire level that changes is shown and counted (R325). -/
theorem exec_hallLevelChange_toggles (hup : s.sys.fabricUp = true) (hfit : hallFitted s.variant h = true)
    (hm : s.fld HALL_CFG.MODE h = 1) : ∃ t, exec (.hallLevelChange h (!s.bit HALL_STAT.LVL h) 0) s = .next t ∧
      t.bit HALL_STAT.LVL h = !s.bit HALL_STAT.LVL h ∧ t.fld HALL_STAT.EDGES h = (s.fld HALL_STAT.EDGES h + 1) % 65536 := by
  refine ⟨_, rfl, ?_⟩
  extract_lets +onlyGivenNames m
  have hm1 : m = 1 := hm
  rw [if_neg (by simp [hup, hfit, hm1])]
  extract_lets +onlyGivenNames old s1 new
  have hs1 : s1 = s := if_neg (by simp [hm1])
  have hnew : new = !old := if_neg (by simp [hm1])
  rw [if_neg (by simp [hnew]), hs1, hnew]
  have hset : Fr (maskOf [.PU_PD, .PU_STAT] [.fab, .nm]) ((s.flag HALL_STAT.LVL (!old) h).wrap HALL_STAT.EDGES h)
      ((s.flag HALL_STAT.LVL (!old) h).wrap HALL_STAT.EDGES h).settle := State.settle_fr rfl (.id _ _)
  rw [State.ship_bit, State.ship_fld, State.bit_of_fld (hset.fld HALL_STAT.LVL h 0 0 rfl), hset.fld _ _ _ _ rfl]
  refine ⟨(State.bit_put_apart _ _ (by decide)).trans (State.bit_flag_same _ _ (by decide) (by decide)), ?_⟩
  refine (State.fld_put_same _ _ (by decide)).trans ?_
  rw [State.fld_flag_apart _ _ (by decide)]
  rfl

/-- What a two-wire current outside its range shows (R326). -/
theorem exec_hallOpenShort_shows {i : Nat} (hup : s.sys.fabricUp = true) (hfit : hallFitted s.variant h = true)
    (hm : s.fld HALL_CFG.MODE h = 2) : ∃ t, exec (.hallOpenShort h i) s = .next t ∧
      (i < 20 → t.bit HALL_STAT.OPEN h = true ∧ t.fld HALL_STAT.I h = i) ∧ (250 < i → t.bit HALL_STAT.SHORT h = true) := by
  refine ⟨_, rfl, ?_⟩
  rw [if_neg (by simp [hup, hfit, hm])]
  extract_lets +onlyGivenNames s1
  have hi : s1.fld HALL_STAT.I h = satTo i 10 % 1024 := State.fld_put_same _ _ (by decide)
  clear_value s1
  refine ⟨fun hlo => ?_, fun hhi => ?_⟩
  · rw [if_pos hlo]
    refine ⟨State.bit_flag_same s1 _ (by decide) (by decide), (State.fld_flag_apart s1 _ (by decide)).trans (hi.trans ?_)⟩
    have hsat : satTo i 10 = i := if_pos (by omega)
    rw [hsat]
    exact Nat.mod_eq_of_lt (by omega)
  · rw [if_neg (by omega), if_pos hhi]
    exact State.bit_flag_same s1 _ (by decide) (by decide)

theorem ainFitted_lt {v : Variant} (hf : ainFitted v j = true) : j < 16 := by
  cases v <;> simp [ainFitted] at hf <;> omega

/-- Settles O43: switch, analogue and hall inputs and the sensor supplies. -/
theorem inputs : Obligations.Inputs := by
  unfold Obligations.Inputs
  refine ⟨fun s g mv => exec_sinSample_first, fun s j mv vs => exec_ainUpdate_reads, fun s j hup hfit hv ho => ⟨_, rfl, ?_⟩,
    fun s u mv => exec_sensorSupplyOverload_raises, fun s u hu => ⟨_, rfl, ?_⟩, fun s h => exec_hallLevelChange_toggles,
    fun s h i hup hfit hm hlo => ?_, fun s h i hup hfit hm hhi => ?_⟩
  · rw [if_pos (by simp only [hup, hfit, hv, ho]; rfl)]
    exact ⟨State.bit_flag_same (f := AIN_VAL.OVR) _ _ (by decide) (by decide),
      (getLsbD_setBitV _ _ _ (ainFitted_lt hfit)).trans (if_pos rfl)⟩
  · rw [if_pos hu]
    exact (getLsbD_setBitV _ _ _ hu).trans (if_pos rfl)
  · obtain ⟨t, ht, hopen, -⟩ := exec_hallOpenShort_shows (i := i) hup hfit hm
    exact ⟨t, ht, hopen hlo⟩
  · obtain ⟨t, ht, -, hshort⟩ := exec_hallOpenShort_shows (i := i) hup hfit hm
    exact ⟨t, ht, hshort hhi⟩

end Sys2Proof.Machine
end

section
/-! Docent cores (statement O44). A core can run a context whose CTXC_STAT.CORE names another core. A trap of that context then leaves
its core in RUN (`State.leaveCore` looks at the core that CTXC_STAT.CORE names), and the scheduling that follows can preempt the core
for a context of higher priority, which makes the quarantined context READY again. -/

namespace Sys2Proof.Machine

/-- Core 1 runs context 9 at a word with a reserved bit set, CTXC_STAT.CORE of context 9 names core 0, and context 10, pinned to core 1,
waits with a higher priority. -/
def trapElsewhere : State :=
  ((((({ State.reset with
    sys := { (default : SysSt) with phase := .run, fabricUp := true }
    doc := { (default : DocSt) with ctxs := [(9, { (default : Ctx) with rcd := { (default : CtxRec) with pc := 64 } }), (10, default)] }
    mem := [(0x420040, 1), (0x420041, 2), (0x420042, 0x10), (0x420043, 0)] }.put DOC_STAT.STATE 2 1).put DOC_STAT.CTX 9 1).put
    CTXC_STAT.STATE 4 9).put CTXC_STAT.STATE 3 10).put CTXC_CFG.AFFIN 1 10).put CTXC_CFG.PRIO 3 10

theorem move_trap_preempted : ∃ t, exec (.move 1 0 false) trapElsewhere = .next t ∧ t.cst 9 = 3 := ⟨_, rfl, by decide +kernel⟩

/-- Refutes O44: the trap of a reserved bit on a core that CTXC_STAT.CORE does not name leaves the context READY, not quarantined. -/
theorem not_coreArithmetic : ¬ Obligations.CoreArithmetic := by
  unfold Obligations.CoreArithmetic
  rintro ⟨-, traps, -⟩
  obtain ⟨t, e, hready⟩ := move_trap_preempted
  obtain ⟨u, e', hquar, -⟩ := traps trapElsewhere 9 1 false (by decide +kernel) (by decide +kernel) (by decide +kernel)
  rw [e] at e'
  obtain rfl := Host.Outcome.next.inj e'
  rw [hready] at hquar
  exact absurd hquar (by decide)

end Sys2Proof.Machine
end

section
/-! Loads, stores, atomics and string operations of the Docent cores (statement O45; spec/10 R337 to R345, spec/11 R389). -/

namespace Sys2Proof.Machine

variable {s t : State} {c d p : Nat} {b : Word}

/-! ## The queues of a context that is free to issue -/

/-- What `State.freeToIssue` says of the queues. -/
theorem State.freeToIssue_queues (h : s.freeToIssue c d = true) : (s.core d).memq = [] ∧ (s.core d).strq = [] ∧
    (∀ e ∈ s.coreList, (s.core e).strq = []) := by
  have hmem : d ∈ s.coreList := List.mem_of_find?_eq_some (State.freeToIssue_ctx h).1
  simp only [State.freeToIssue, Bool.and_eq_true, List.all_eq_true, List.isEmpty_iff] at h
  obtain ⟨-, hall⟩ := h
  exact ⟨(hall d hmem).1, (hall d hmem).2, fun e he => (hall e he).2⟩

/-! ## What leaves the core's state alone -/

theorem State.spend_core (e : Nat) : (s.spend c).core e = s.core e := by
  unfold State.spend
  extract_lets
  split <;> rfl

theorem State.atIssue_core (e : Nat) : (s.atIssue d c).core e = s.core e := State.spend_core e

theorem State.atIssue_opSeq : (s.atIssue d c).doc.opSeq = s.doc.opSeq := by
  change (s.spend c).doc.opSeq = _
  unfold State.spend
  extract_lets
  split <;> rfl

theorem State.core_setPort (e q : Nat) (w : Word) : (s.setPort c q w).core e = s.core e := rfl

/-- The access rights of an address play no part in a word's issue. -/
theorem State.memPermitted_spend (a : Nat) : (s.spend c).memPermitted a = s.memPermitted a := by
  have h : Fr (maskOf [.CTXC_RUN] [.doc]) s (s.spend c) := State.spend_fr rfl (.id _ _)
  simp only [State.memPermitted, State.retained, h.variant, h.sys rfl, h.fld MEM_CFG.RET _ _ _ rfl]

theorem State.port_spend (q : Nat) : (s.spend c).port c q = s.port c q := by
  simp [State.port, State.rcd, CtxRec.port]

theorem State.accesses_spend : (s.spend c).accesses c p b = s.accesses c p b := by
  simp only [State.accesses, State.port_spend]

/-! ## The word of a memory or string trigger -/

/-- R337: the trigger ports of LSU and STR. -/
abbrev IsMemPort (p : Nat) : Prop :=
  0x058 ≤ p ∧ p ≤ 0x05A ∨ 0x05C ≤ p ∧ p ≤ 0x05F ∨ 0x061 ≤ p ∧ p ≤ 0x069 ∨ 0x072 ≤ p ∧ p ≤ 0x075

theorem IsMemPort.triggerUnit (h : IsMemPort p) : triggerUnit p = 3 ∧ p ≤ 0x069 ∨ triggerUnit p = 4 ∧ 0x072 ≤ p := by
  unfold Machine.triggerUnit
  rw [if_neg (by simp; omega), if_neg (by simp; omega)]
  by_cases hu : p ≤ 0x069
  · exact .inl ⟨if_pos (by simp; omega), hu⟩
  · exact .inr ⟨by rw [if_neg (by simp; omega), if_pos (by simp; omega)], by omega⟩

theorem IsMemPort.branches (h : IsMemPort p) : branches p = false := by
  rcases h.triggerUnit with ⟨hu, -⟩ | ⟨hu, -⟩ <;> simp [Machine.branches, hu]

theorem IsMemPort.suspends (h : IsMemPort p) : suspends p = false := by
  simp only [Machine.suspends, Bool.or_eq_false_iff, decide_eq_false_iff_not]
  omega

theorem State.badWrite_of_mem (h : IsMemPort p) : s.badWrite c p = false := by
  have hport : p < 0x100 := by omega
  simp only [State.badWrite, if_pos hport, portWritable, Bool.not_eq_false', Bool.or_eq_true, Bool.and_eq_true,
    decide_eq_true_eq]
  omega

/-- A trigger whose accesses are aligned and permitted meets no trap (R356). -/
theorem State.valueTraps_of_mem (h : IsMemPort p)
    (hacc : ∀ a ∈ s.accesses c p b, a.1 % a.2 = 0 ∧ s.memPermitted a.1 = true) : s.valueTraps c p b = [] := by
  have hport : p ≠ 0x091 ∧ p ≠ 0x090 ∧ p ≠ 0x0B0 ∧ p ≠ 0x0B1 ∧ p ≠ 0x0A5 := by omega
  have halign : (s.accesses c p b).any (fun a => a.1 % a.2 != 0) = false := by
    rw [List.any_eq_false]
    intro a ha
    simp [(hacc a ha).1]
  have hperm : (s.accesses c p b).any (fun a => !s.memPermitted a.1) = false := by
    rw [List.any_eq_false]
    intro a ha
    simp [(hacc a ha).2]
  simp [State.valueTraps, halign, hperm, h.branches, hport]

/-- With the queues empty a trigger of LSU or STR is taken (R330). -/
theorem State.dstWaits_of_mem (h : IsMemPort p) (hm : (s.core d).memq = []) (hs : ∀ e ∈ s.coreList, (s.core e).strq = []) :
    s.dstWaits c d p = false := by
  have hport : p ≠ 0x041 ∧ p ≠ 0x042 ∧ ¬ (0x045 ≤ p ∧ p ≤ 0x047) ∧ p ≠ 0x076 ∧ ¬ 0x100 ≤ p := by omega
  obtain ⟨h1, h2, h3, h4, h5⟩ := hport
  have hflight (q : StrKind → Bool) : s.strFlight c q = false := by
    simp only [State.strFlight, List.any_eq_false]
    intro e he
    simp [hs e he]
  simp [State.dstWaits, h1, h2, h3, h4, h5, hflight, hm]

theorem State.staticTrap_of_mem (h : IsMemPort p) (hpoison : (s.ctx c).poison = 0) (hrep : (s.rcd c).repActive = false) :
    s.staticTrap c [⟨0, p, some b, 0⟩] true 0 = 0 := by
  have hport : p ≠ 0x0B0 ∧ p ≠ 0x0B1 := by omega
  simp [State.staticTrap, hpoison, hrep, State.badWrite_of_mem h, sameDst, repTrap, hport]

theorem State.nextPc_of_mem {v : Word} (h : IsMemPort p) (hrep : (s.rcd c).repActive = false) :
    s.nextPc c [(⟨0, p, some b, 0⟩, v)] = s.advancePc c := by
  have hport : p ≠ 0x0B0 := by omega
  simp [State.nextPc, hrep, written, hport, h.branches, State.advancePc]

theorem State.repActive_setPort (q : Nat) (w : Word) : ((s.setPort c q w).rcd c).repActive = (s.rcd c).repActive := by
  simp [State.setPort, State.rcd, CtxRec.setPort]

theorem State.repActive_postMem {k : MemKind} {a n : Nat} {v : Word} :
    ((s.postMem d c k a n v).rcd c).repActive = (s.rcd c).repActive := rfl

/-- The pointers of a string operation after it has begun: SRC but for FILL and DST but for CRC move on by 4 (R337). -/
def State.strAdvance (s : State) (c : Nat) (k : StrKind) : State :=
  let s := if k = .fill then s else s.setPort c pStrSrc (s.port c pStrSrc + 4)
  if k = .crc then s else s.setPort c pStrDst (s.port c pStrDst + 4)

/-- A string operation enters its core's queue, and its pointers move on. -/
theorem State.postStr_eq (k : StrKind) (v : Word) : s.postStr d c k v =
    (s.opOrder.2.setCore d { s.core d with strq := (s.core d).strq ++ [⟨c, k, (s.port c pStrSrc).toNat, (s.port c pStrDst).toNat, v,
      if (s.rcd c).repActive then (s.ctx c).repId else 0, s.doc.opSeq, false⟩] }).strAdvance c k := rfl

theorem State.repActive_strAdvance {k : StrKind} : ((s.strAdvance c k).rcd c).repActive = (s.rcd c).repActive := by
  unfold State.strAdvance
  extract_lets s1
  have h1 : (s1.rcd c).repActive = (s.rcd c).repActive := by
    unfold s1
    split
    · rfl
    · exact State.repActive_setPort _ _
  split
  · exact h1
  · exact (State.repActive_setPort _ _).trans h1

/-- A trigger of LSU or STR ends no repeat. -/
theorem State.runTrigger_repActive_of_mem {v : Word} (h : IsMemPort p) :
    ((s.runTrigger d c p v).rcd c).repActive = (s.rcd c).repActive := by
  rcases h.triggerUnit with ⟨hu, -⟩ | ⟨hu, -⟩
  · simp only [State.runTrigger, hu, State.runLsu, State.advance]
    split
    case h_9 =>
      split
      · exact State.repActive_setPort _ _
      · exact State.repActive_setPort _ _
    all_goals rfl
  · simp only [State.runTrigger, hu]
    rw [State.postStr_eq]
    exact State.repActive_strAdvance

/-- R331: from a context that is free to issue, the word of an LSU or STR trigger whose accesses are aligned and permitted neither waits
nor traps: it runs its unit and moves the PC on. -/
theorem State.commandMove_of_mem (hfree : s.freeToIssue c d = true) (h : IsMemPort p)
    (hacc : ∀ a ∈ s.accesses c p b, a.1 % a.2 = 0 ∧ s.memPermitted a.1 = true) :
    s.commandMove c p b = ((s.atIssue d c).runTrigger d c p b).advancePc c := by
  obtain ⟨-, -, hpoison, -, hrep⟩ := State.freeToIssue_ctx hfree
  obtain ⟨hm, -, hstr⟩ := State.freeToIssue_queues hfree
  have hunit : triggerUnit p ≠ 0 := by rcases h.triggerUnit with ⟨hu, -⟩ | ⟨hu, -⟩ <;> omega
  have hsend : p ≠ 0x091 ∧ p ≠ 0x0A3 := by omega
  have hrepSpend : ((s.spend c).rcd c).repActive = false := by simp [State.rcd, ← hrep]
  have hrepWaits : (s.spend c).repWaits c = false := by simp [State.repWaits, hrepSpend]
  have hspend : Fr (maskOf [.CTXC_RUN] [.doc]) s (s.spend c) := State.spend_fr rfl (.id _ _)
  have hdst : (s.spend c).dstWaits c d p = false := by
    refine State.dstWaits_of_mem h (by rw [State.spend_core]; exact hm) fun e he => ?_
    rw [State.spend_core]
    exact hstr e (by simpa only [State.coreList, hspend.variant] using he)
  have hstatic : ((s.spend c).flag DOC_STAT.WAIT false d).staticTrap c [⟨0, p, some b, 0⟩] true 0 = 0 :=
    State.staticTrap_of_mem h (by simp [hpoison]) hrepSpend
  have hvalue : ((s.spend c).flag DOC_STAT.WAIT false d).valueTraps c p b = [] := by
    refine State.valueTraps_of_mem h fun a ha => ?_
    have hwait : Fr (maskOf [.DOC_STAT] []) (s.spend c) ((s.spend c).flag DOC_STAT.WAIT false d) := State.flag_fr rfl rfl (.id _ _)
    have ha' : a ∈ s.accesses c p b := by
      rw [← State.accesses_spend (s := s)]
      exact ha
    have hperm : ((s.spend c).flag DOC_STAT.WAIT false d).memPermitted a.1 = s.memPermitted a.1 := by
      rw [← State.memPermitted_spend (s := s) (c := c)]
      simp only [State.memPermitted, State.retained, hwait.variant, hwait.sys rfl, hwait.fld MEM_CFG.RET _ _ _ rfl]
    rw [hperm]
    exact hacc a ha'
  have hnext : ((s.atIssue d c).runTrigger d c p b).nextPc c [(⟨0, p, some b, 0⟩, b)] =
      ((s.atIssue d c).runTrigger d c p b).advancePc c :=
    State.nextPc_of_mem h (by rw [State.runTrigger_repActive_of_mem h]; exact hrepSpend)
  rw [State.commandMove_of_free hfree, ← hnext]
  simp [State.issue, hrepWaits, State.srcWaits, hdst, hstatic, State.readAll, guardHolds, hunit, forEach,
    hvalue, hsend, State.runSuspend, h.suspends, State.atIssue]

/-! ## What the issue of a trigger shows -/

/-- What a word's issue may change. -/
abbrev IssueChanges (s t : State) : Prop := Changes [.DOC_RET, .DOC_STAT, .CTXC_RUN] [.doc, .twn] s t

theorem Changes.setDoc {rs : List Reg} {ps : List Part} (h : Changes rs ps s t) (hdoc : Part.doc ∈ ps) (x : DocSt) :
    Changes rs ps s { t with doc := x } := by
  obtain ⟨hreg, hpart, hpend, hvar⟩ := h
  refine ⟨hreg, fun p hp => ?_, hpend, hvar⟩
  cases p with
  | doc => exact absurd hdoc hp
  | _ => exact hpart _ hp

theorem State.atIssue_issueChanges : IssueChanges s (s.atIssue d c) := (s.atIssue_changes d c).mono (by decide) (by decide)

theorem State.pc_advancePc : ((s.advancePc c).rcd c).pc = (s.rcd c).pc + 4 := by simp [State.rcd]

theorem State.port_advancePc (q : Nat) : (s.advancePc c).port c q = s.port c q := by
  simp [State.port, State.rcd, CtxRec.port]

theorem State.atIssue_pc : ((s.atIssue d c).rcd c).pc = (s.rcd c).pc := by simp [State.rcd, State.atIssue_ctx]

theorem State.pc_setPort (q : Nat) (w : Word) : ((s.setPort c q w).rcd c).pc = (s.rcd c).pc := by
  simp [State.setPort, State.rcd, CtxRec.setPort]

/-- An operation that enters an empty queue. -/
theorem State.postMem_memq {k : MemKind} {a n : Nat} {v : Word} (hm : (s.core d).memq = []) :
    ((s.postMem d c k a n v).core d).memq = [⟨c, k, a, n, v, s.doc.opSeq, false⟩] := by
  refine (congrArg CoreSt.memq (Tbl.get_set_self s.doc.cores d _ _)).trans ?_
  change (s.core d).memq ++ _ = _
  rw [hm]
  rfl

theorem State.postMem_changes {k : MemKind} {a n : Nat} {v : Word} (h : IssueChanges s t) :
    IssueChanges s (t.postMem d c k a n v) := h.setDoc (by decide) _

/-- A trigger of LSU whose one access is aligned and permitted enters the queue (R340, R341). -/
theorem State.commandMove_posts {k : MemKind} {a n : Nat} {v : Word} (hfree : s.freeToIssue c d = true) (hp : IsMemPort p)
    (hacc : s.accesses c p b = [(a, n)]) (ha : a % n = 0) (hperm : s.memPermitted a = true)
    (hrun : (s.atIssue d c).runTrigger d c p b = (s.atIssue d c).postMem d c k a n v) :
    ((s.ship (s.commandMove c p b)).core d).memq = [⟨c, k, a, n, v, s.doc.opSeq, false⟩] ∧
      ((s.ship (s.commandMove c p b)).rcd c).pc = (s.rcd c).pc + 4 ∧ IssueChanges s (s.ship (s.commandMove c p b)) := by
  obtain ⟨hm, -⟩ := State.freeToIssue_queues hfree
  have hall : ∀ x ∈ s.accesses c p b, x.1 % x.2 = 0 ∧ s.memPermitted x.1 = true := by
    rw [hacc]
    simpa using ⟨ha, hperm⟩
  rw [State.commandMove_of_mem hfree hp hall, hrun]
  refine ⟨?_, ?_, ((State.postMem_changes State.atIssue_issueChanges).setRcd (by decide) _ _).ship (by decide) s⟩
  · have hq := State.postMem_memq (s := s.atIssue d c) (d := d) (c := c) (k := k) (a := a) (n := n) (v := v)
      (by rw [State.atIssue_core]; exact hm)
    rw [State.atIssue_opSeq] at hq
    exact hq
  · exact (State.pc_advancePc (s := (s.atIssue d c).postMem d c k a n v)).trans (congrArg (· + 4) State.atIssue_pc)

/-- A load of 4, 2 or 1 bytes (R341, R343). -/
theorem exec_lsuLoad_posts {k : Nat} (hfree : s.freeToIssue c d = true) (hk : k < 3) (ha : b.toNat % (4 / 2 ^ k) = 0)
    (hperm : s.memPermitted b.toNat = true) : ∃ t, exec (.lsuLoad c (0x058 + k) b) s = .next t ∧
      (t.core d).memq = [⟨c, .load, b.toNat, 4 / 2 ^ k, 0, s.doc.opSeq, false⟩] ∧ (t.rcd c).pc = (s.rcd c).pc + 4 ∧
      Changes [.DOC_RET, .DOC_STAT, .CTXC_RUN] [.doc, .twn] s t := by
  obtain rfl | rfl | rfl : k = 0 ∨ k = 1 ∨ k = 2 := by omega
  · exact ⟨_, rfl, State.commandMove_posts hfree (by decide) rfl ha hperm rfl⟩
  · exact ⟨_, rfl, State.commandMove_posts hfree (by decide) rfl ha hperm rfl⟩
  · exact ⟨_, rfl, State.commandMove_posts hfree (by decide) rfl ha hperm rfl⟩

/-- A store of 4, 2 or 1 bytes (R341, R343). -/
theorem exec_lsuStore_posts {k : Nat} (hfree : s.freeToIssue c d = true) (hk : k < 3)
    (ha : (s.port c pLsuSA).toNat % (4 / 2 ^ k) = 0) (hperm : s.memPermitted (s.port c pLsuSA).toNat = true) :
    ∃ t, exec (.lsuStore c (0x061 + k) b) s = .next t ∧
      (t.core d).memq = [⟨c, .store, (s.port c pLsuSA).toNat, 4 / 2 ^ k, b, s.doc.opSeq, false⟩] ∧
      (t.rcd c).pc = (s.rcd c).pc + 4 ∧ Changes [.DOC_RET, .DOC_STAT, .CTXC_RUN] [.doc, .twn] s t := by
  have hport := State.atIssue_port s d c pLsuSA
  have hrun (n : Nat) : (s.atIssue d c).postMem d c .store ((s.atIssue d c).port c pLsuSA).toNat n b =
      (s.atIssue d c).postMem d c .store (s.port c pLsuSA).toNat n b := by rw [hport]
  obtain rfl | rfl | rfl : k = 0 ∨ k = 1 ∨ k = 2 := by omega
  · exact ⟨_, rfl, State.commandMove_posts hfree (by decide) rfl ha hperm (hrun 4)⟩
  · exact ⟨_, rfl, State.commandMove_posts hfree (by decide) rfl ha hperm (hrun 2)⟩
  · exact ⟨_, rfl, State.commandMove_posts hfree (by decide) rfl ha hperm (hrun 1)⟩

/-- An atomic (R389). -/
theorem exec_lsuAtomic_posts {k : MemKind} (hfree : s.freeToIssue c d = true)
    (hk : p = 0x068 ∧ k = .aadd ∨ p = 0x069 ∧ k = .aswap) (ha : (s.port c pLsuSA).toNat % 4 = 0)
    (hperm : s.memPermitted (s.port c pLsuSA).toNat = true) : ∃ t, exec (.lsuAtomic c p b) s = .next t ∧
      (t.core d).memq = [⟨c, k, (s.port c pLsuSA).toNat, 4, b, s.doc.opSeq, false⟩] ∧ (t.rcd c).pc = (s.rcd c).pc + 4 ∧
      Changes [.DOC_RET, .DOC_STAT, .CTXC_RUN] [.doc, .twn] s t := by
  have hport := State.atIssue_port s d c pLsuSA
  have hrun : (s.atIssue d c).postMem d c k ((s.atIssue d c).port c pLsuSA).toNat 4 b =
      (s.atIssue d c).postMem d c k (s.port c pLsuSA).toNat 4 b := by rw [hport]
  rcases hk with ⟨rfl, rfl⟩ | ⟨rfl, rfl⟩
  · exact ⟨_, rfl, State.commandMove_posts hfree (by decide) rfl ha hperm hrun⟩
  · exact ⟨_, rfl, State.commandMove_posts hfree (by decide) rfl ha hperm hrun⟩

/-- A load through a pointer register, which moves on by its increment (R337). -/
theorem exec_lsuLoad_pointer {n : Nat} (hfree : s.freeToIssue c d = true) (hn : n < 4)
    (ha : (s.port c (pLsuP0 + n)).toNat % 4 = 0) (hperm : s.memPermitted (s.port c (pLsuP0 + n)).toNat = true) :
    ∃ t, exec (.lsuLoad c (0x05C + n) b) s = .next t ∧
      (t.core d).memq = [⟨c, .load, (s.port c (pLsuP0 + n)).toNat, 4, 0, s.doc.opSeq, false⟩] ∧
      t.port c (pLsuP0 + n) = s.port c (pLsuP0 + n) + s.port c (pLsuInc0 + n) ∧
      Changes [.DOC_RET, .DOC_STAT, .CTXC_RUN] [.doc, .twn] s t := by
  obtain ⟨hm, -⟩ := State.freeToIssue_queues hfree
  have hp : IsMemPort (0x05C + n) := by omega
  have hexec : exec (.lsuLoad c (0x05C + n) b) s = .next (s.ship (s.commandMove c (0x05C + n) b)) := by
    obtain rfl | rfl | rfl | rfl : n = 0 ∨ n = 1 ∨ n = 2 ∨ n = 3 := by omega
    all_goals rfl
  have hacc : s.accesses c (0x05C + n) b = [((s.port c (pLsuP0 + n)).toNat, 4)] := by
    obtain rfl | rfl | rfl | rfl : n = 0 ∨ n = 1 ∨ n = 2 ∨ n = 3 := by omega
    all_goals rfl
  have hrun : (s.atIssue d c).runTrigger d c (0x05C + n) b =
      ((s.atIssue d c).postMem d c .load ((s.atIssue d c).port c (pLsuP0 + n)).toNat 4 0).advance c n := by
    obtain rfl | rfl | rfl | rfl : n = 0 ∨ n = 1 ∨ n = 2 ∨ n = 3 := by omega
    all_goals rfl
  have hall : ∀ x ∈ s.accesses c (0x05C + n) b, x.1 % x.2 = 0 ∧ s.memPermitted x.1 = true := by
    rw [hacc]
    simpa using ⟨ha, hperm⟩
  rw [State.atIssue_port] at hrun
  refine ⟨_, hexec, ?_⟩
  rw [State.commandMove_of_mem hfree hp hall, hrun]
  obtain ⟨u, hu⟩ : ∃ u, u = (s.atIssue d c).postMem d c .load (s.port c (pLsuP0 + n)).toNat 4 0 := ⟨_, rfl⟩
  have hq : (u.core d).memq = [⟨c, .load, (s.port c (pLsuP0 + n)).toNat, 4, 0, s.doc.opSeq, false⟩] := by
    rw [hu, State.postMem_memq (by rw [State.atIssue_core]; exact hm), State.atIssue_opSeq]
  have hports (q : Nat) : u.port c q = s.port c q := by
    rw [hu]
    exact State.atIssue_port s d c q
  have hch : IssueChanges s u := hu ▸ State.postMem_changes State.atIssue_issueChanges
  rw [← hu]
  refine ⟨hq, ?_, ((hch.setPort (by decide) _ _ _).setRcd (by decide) _ _).ship (by decide) s⟩
  rw [State.ship_port, State.port_advancePc, State.advance, State.port_setPort_self, hports, hports]

/-! ## String operations -/

/-- What the pointers of a string operation are after it has begun (R337). -/
theorem State.strAdvance_shows (k : StrKind) :
    (k ≠ .fill → (s.strAdvance c k).port c pStrSrc = s.port c pStrSrc + 4) ∧
      (k ≠ .crc → (s.strAdvance c k).port c pStrDst = s.port c pStrDst + 4) ∧
      ((s.strAdvance c k).rcd c).pc = (s.rcd c).pc ∧ (∀ e, (s.strAdvance c k).core e = s.core e) := by
  cases k with
  | fill => exact ⟨fun h => absurd rfl h, fun _ => State.port_setPort_self _ _ _ _, State.pc_setPort _ _, fun _ => rfl⟩
  | crc => exact ⟨fun _ => State.port_setPort_self _ _ _ _, fun h => absurd rfl h, State.pc_setPort _ _, fun _ => rfl⟩
  | copy =>
    refine ⟨fun _ => ?_, fun _ => ?_, (State.pc_setPort _ _).trans (State.pc_setPort _ _), fun _ => rfl⟩
    · exact (State.port_setPort_ne _ _ _ (by decide)).trans (State.port_setPort_self _ _ _ _)
    · refine (State.port_setPort_self _ _ _ _).trans (congrArg (· + 4) (State.port_setPort_ne _ _ _ (by decide)))
  | cmp =>
    refine ⟨fun _ => ?_, fun _ => ?_, (State.pc_setPort _ _).trans (State.pc_setPort _ _), fun _ => rfl⟩
    · exact (State.port_setPort_ne _ _ _ (by decide)).trans (State.port_setPort_self _ _ _ _)
    · refine (State.port_setPort_self _ _ _ _).trans (congrArg (· + 4) (State.port_setPort_ne _ _ _ (by decide)))

theorem State.strAdvance_changes {k : StrKind} (h : IssueChanges s t) : IssueChanges s (t.strAdvance c k) := by
  cases k with
  | fill => exact h.setPort (by decide) _ _ _
  | crc => exact h.setPort (by decide) _ _ _
  | copy => exact (h.setPort (by decide) _ _ _).setPort (by decide) _ _ _
  | cmp => exact (h.setPort (by decide) _ _ _).setPort (by decide) _ _ _

/-- A string trigger whose accesses are aligned and permitted begins its operation (R340, R344). -/
theorem State.commandMove_strings {k : StrKind} (hfree : s.freeToIssue c d = true)
    (hp : p = 0x072 ∧ k = .copy ∨ p = 0x073 ∧ k = .fill ∨ p = 0x074 ∧ k = .cmp ∨ p = 0x075 ∧ k = .crc)
    (hsrc : k ≠ .fill → (s.port c pStrSrc).toNat % 4 = 0 ∧ s.memPermitted (s.port c pStrSrc).toNat = true)
    (hdst : k ≠ .crc → (s.port c pStrDst).toNat % 4 = 0 ∧ s.memPermitted (s.port c pStrDst).toNat = true) :
    let t := s.ship (s.commandMove c p b)
    (t.core d).strq = [⟨c, k, (s.port c pStrSrc).toNat, (s.port c pStrDst).toNat, b, 0, s.doc.opSeq, false⟩] ∧
      (k ≠ .fill → t.port c pStrSrc = s.port c pStrSrc + 4) ∧ (k ≠ .crc → t.port c pStrDst = s.port c pStrDst + 4) ∧
      (t.rcd c).pc = (s.rcd c).pc + 4 ∧ IssueChanges s t := by
  obtain ⟨-, hq, -⟩ := State.freeToIssue_queues hfree
  obtain ⟨-, -, -, -, hrep⟩ := State.freeToIssue_ctx hfree
  have hmem : IsMemPort p := by rcases hp with ⟨rfl, -⟩ | ⟨rfl, -⟩ | ⟨rfl, -⟩ | ⟨rfl, -⟩ <;> decide
  have hacc : ∀ a ∈ s.accesses c p b, a.1 % a.2 = 0 ∧ s.memPermitted a.1 = true := by
    rcases hp with ⟨rfl, rfl⟩ | ⟨rfl, rfl⟩ | ⟨rfl, rfl⟩ | ⟨rfl, rfl⟩
    · simpa [State.accesses] using ⟨hsrc (by decide), hdst (by decide)⟩
    · simpa [State.accesses] using hdst (by decide)
    · simpa [State.accesses] using ⟨hsrc (by decide), hdst (by decide)⟩
    · simpa [State.accesses] using hsrc (by decide)
  have hrun : (s.atIssue d c).runTrigger d c p b = (s.atIssue d c).postStr d c k b := by
    rcases hp with ⟨rfl, rfl⟩ | ⟨rfl, rfl⟩ | ⟨rfl, rfl⟩ | ⟨rfl, rfl⟩ <;> rfl
  intro t
  have ht : t = s.ship (((s.atIssue d c).postStr d c k b).advancePc c) := by
    rw [← hrun, ← State.commandMove_of_mem hfree hmem hacc]
  obtain ⟨u, hu⟩ : ∃ u, u = (s.atIssue d c).opOrder.2.setCore d { (s.atIssue d c).core d with
      strq := ((s.atIssue d c).core d).strq ++ [⟨c, k, ((s.atIssue d c).port c pStrSrc).toNat,
        ((s.atIssue d c).port c pStrDst).toNat, b, if ((s.atIssue d c).rcd c).repActive then ((s.atIssue d c).ctx c).repId else 0,
        (s.atIssue d c).doc.opSeq, false⟩] } := ⟨_, rfl⟩
  have hstrq : (u.core d).strq =
      [⟨c, k, (s.port c pStrSrc).toNat, (s.port c pStrDst).toNat, b, 0, s.doc.opSeq, false⟩] := by
    have hrep' : ((s.atIssue d c).rcd c).repActive = false := by rw [State.rcd, State.atIssue_ctx]; exact hrep
    rw [hu, State.atIssue_port, State.atIssue_port, State.atIssue_opSeq, State.atIssue_core, hrep', hq]
    exact congrArg CoreSt.strq (Tbl.get_set_self _ d _ _)
  have hport (q : Nat) : u.port c q = s.port c q := by
    rw [hu]
    exact State.atIssue_port s d c q
  have hpc : (u.rcd c).pc = (s.rcd c).pc := by
    rw [hu]
    exact State.atIssue_pc
  have hch : IssueChanges s u := by
    rw [hu]
    exact State.atIssue_issueChanges.setDoc (by decide) _
  rw [State.postStr_eq, ← hu] at ht
  obtain ⟨hs, hd, hpc', hcore⟩ := State.strAdvance_shows (s := u) (c := c) k
  rw [ht]
  refine ⟨?_, fun hk => ?_, fun hk => ?_, ?_, ((State.strAdvance_changes hch).setRcd (by decide) _ _).ship (by decide) s⟩
  · exact (congrArg CoreSt.strq (hcore d)).trans hstrq
  · rw [State.ship_port, State.port_advancePc, hs hk, hport]
  · rw [State.ship_port, State.port_advancePc, hd hk, hport]
  · exact (State.pc_advancePc (s := u.strAdvance c k)).trans (by rw [hpc', hpc])

/-! ## Completions -/

theorem State.eccEvent_clear (a n : Nat) : s.eccEvent a n 0 = s := by
  unfold State.eccEvent
  split
  · rfl
  · rw [if_neg (by decide), if_neg (by decide)]

theorem State.collide_none (a : Nat) : s.collide c a 0 = s := if_neg (by simp)

theorem Fr.word {m : Nat} (h : Fr m s t) (hm : m.testBit Part.mem.bit = false) (a : Nat) : t.word a = s.word a := by
  simp only [State.word, State.bytes, State.byte, h.mem hm]

theorem State.noteStore_mask (a : Nat) : Fr (maskOf [] [.twn]) s (s.noteStore c a) := State.noteStore_fr rfl (.id _ _)

/-- The core's queue and its context's ports after a run of bytes is written. -/
theorem State.setBytes_doc (a : Nat) (bs : List Byte) : (s.setBytes a bs).doc = s.doc := by
  have h : Fr (maskOf [] [.mem]) s (s.setBytes a bs) := State.setBytes_fr rfl (.id _ _)
  exact h.doc rfl

/-- A word written at a bank reads back; cores and contexts stay as they were. -/
theorem State.bankWrite_shows (a : Nat) (v : Word) : (s.bankWrite c a 4 v).word a = v ∧
    (∀ e, (s.bankWrite c a 4 v).core e = s.core e) ∧ ∀ e, (s.bankWrite c a 4 v).ctx e = s.ctx e := by
  refine ⟨?_, fun e => ?_, fun e => ?_⟩
  · refine Eq.trans ?_ (State.word_setWord s a v)
    exact (State.noteStore_mask a).word rfl a
  · rw [State.core, State.bankWrite, (State.noteStore_mask a).doc rfl, State.setBytes_doc]
    rfl
  · rw [State.ctx, State.bankWrite, (State.noteStore_mask a).doc rfl, State.setBytes_doc]
    rfl

theorem State.setPoison_shows (n q : Nat) : (s.setPoison c n).port c q = s.port c q ∧
    (∀ e, (s.setPoison c n).core e = s.core e) ∧ ∀ a, (s.setPoison c n).word a = s.word a := by
  unfold State.setPoison
  split
  · exact ⟨rfl, fun _ => rfl, fun _ => rfl⟩
  · refine ⟨?_, fun _ => rfl, fun _ => rfl⟩
    simp [State.port, State.rcd]

/-- The result of a load or an atomic (R340). -/
theorem State.setLoad_shows {o : MemOp} {v : Word} (hmute : o.mute = false) : (s.setLoad o v 0).port o.ctx pLsuR = v ∧
    (∀ e, (s.setLoad o v 0).core e = s.core e) ∧ ∀ a, (s.setLoad o v 0).word a = s.word a := by
  obtain ⟨hport, hcore, hword⟩ := State.setPoison_shows (s := s.setPort o.ctx pLsuR v) (c := o.ctx) 0 pLsuR
  rw [State.setLoad, if_neg (by simp [hmute])]
  exact ⟨hport.trans (State.port_setPort_self _ _ _ _), hcore, hword⟩

/-- The oldest operation of a core at its bank (R341, R392). -/
theorem State.memFront_of_admitted {q : MemKind → Bool} {o : MemOp} {os : List MemOp} (hq : (s.core d).memq = o :: os)
    (hk : q o.kind = true) (hb : s.memBehind o = false) (ha : s.memAwake o.addr = true) :
    s.memFront d q 0 0 = (s.setCore d { s.core d with memq := os }).doMem o 0 0 := by
  unfold State.memFront
  rw [hq]
  exact if_pos (by simp [hk, hb, ha])

theorem State.core_setCore (x : CoreSt) : (s.setCore d x).core d = x := Tbl.get_set_self _ _ _ _

/-- LOAD_COMPLETE of a load (R340). -/
theorem exec_loadComplete_loads {o : MemOp} {os : List MemOp} (hq : (s.core d).memq = o :: os) (hk : o.kind = .load)
    (hb : s.memBehind o = false) (ha : s.memAwake o.addr = true) (hm : o.mute = false) :
    ∃ t, exec (.loadComplete d 0 0) s = .next t ∧ t.port o.ctx pLsuR = BitVec.ofNat 32 (leNat (s.bytes o.addr o.size)) ∧
      (t.core d).memq = os := by
  refine ⟨_, rfl, ?_⟩
  rw [State.memFront_of_admitted hq (by simp [hk]) hb ha]
  obtain ⟨u, hu⟩ : ∃ u, u = s.setCore d { s.core d with memq := os } := ⟨_, rfl⟩
  have hcore : (u.core d).memq = os := by rw [hu, State.core_setCore]
  have hbytes : u.bytes o.addr o.size = s.bytes o.addr o.size := by rw [hu]; rfl
  have hdo : u.doMem o 0 0 = u.setLoad o (BitVec.ofNat 32 (leNat (u.bytes o.addr o.size))) 0 := by
    simp [State.doMem, State.collide_none, hk, State.eccEvent_clear, State.collided, eccDouble]
  rw [← hu, hdo, hbytes]
  obtain ⟨hport, hc, -⟩ := State.setLoad_shows (s := u) (v := BitVec.ofNat 32 (leNat (s.bytes o.addr o.size))) hm
  exact ⟨hport, (congrArg CoreSt.memq (hc d)).trans hcore⟩

/-- LOAD_COMPLETE of an atomic add (R389). -/
theorem exec_loadComplete_adds {o : MemOp} {os : List MemOp} (hq : (s.core d).memq = o :: os) (hk : o.kind = .aadd)
    (hb : s.memBehind o = false) (ha : s.memAwake o.addr = true) (hm : o.mute = false) :
    ∃ t, exec (.loadComplete d 0 0) s = .next t ∧ t.port o.ctx pLsuR = s.word o.addr ∧
      t.word o.addr = s.word o.addr + o.value ∧ (t.core d).memq = os := by
  refine ⟨_, rfl, ?_⟩
  rw [State.memFront_of_admitted hq (by simp [hk]) hb ha]
  obtain ⟨u, hu⟩ : ∃ u, u = s.setCore d { s.core d with memq := os } := ⟨_, rfl⟩
  have hcore : (u.core d).memq = os := by rw [hu, State.core_setCore]
  have hword : u.word o.addr = s.word o.addr := by rw [hu]; rfl
  have hdo : u.doMem o 0 0 = (u.setLoad o (u.word o.addr) 0).bankWrite o.ctx o.addr 4 (u.word o.addr + o.value) := by
    simp [State.doMem, State.collide_none, hk, State.eccEvent_clear, eccDouble]
  rw [← hu, hdo, hword]
  obtain ⟨hport, hc, -⟩ := State.setLoad_shows (s := u) (v := s.word o.addr) hm
  obtain ⟨hw, hc', hctx⟩ := State.bankWrite_shows (s := u.setLoad o (s.word o.addr) 0) (c := o.ctx) o.addr
    (s.word o.addr + o.value)
  refine ⟨?_, hw, ?_⟩
  · rw [State.ship_port, State.port, State.rcd, hctx]
    exact hport
  · exact (congrArg CoreSt.memq ((hc' d).trans (hc d))).trans hcore

/-- STORE_QUEUE_DRAIN of a word (R340). -/
theorem exec_storeQueueDrain_stores {o : MemOp} {os : List MemOp} (hq : (s.core d).memq = o :: os) (hk : o.kind = .store)
    (h4 : o.size = 4) (hb : s.memBehind o = false) (ha : s.memAwake o.addr = true) :
    ∃ t, exec (.storeQueueDrain d 0 0) s = .next t ∧ t.word o.addr = o.value ∧ (t.core d).memq = os := by
  refine ⟨_, rfl, ?_⟩
  rw [State.memFront_of_admitted hq (by simp [hk]) hb ha]
  obtain ⟨u, hu⟩ : ∃ u, u = s.setCore d { s.core d with memq := os } := ⟨_, rfl⟩
  have hcore : (u.core d).memq = os := by rw [hu, State.core_setCore]
  have hdo : u.doMem o 0 0 = u.bankWrite o.ctx o.addr 4 o.value := by
    simp [State.doMem, State.collide_none, hk, h4]
  rw [← hu, hdo]
  obtain ⟨hw, hc, -⟩ := State.bankWrite_shows (s := u) (c := o.ctx) o.addr o.value
  exact ⟨hw, (congrArg CoreSt.memq (hc d)).trans hcore⟩

/-- STR_OPERATION_COMPLETE of a copy (R340). -/
theorem exec_strOperationComplete_copies {o : StrOp} {os : List StrOp} (hq : (s.core d).strq = o :: os) (hk : o.kind = .copy)
    (hb : s.strBehind o = false) (ha : s.strAsleep o = false) :
    ∃ t, exec (.strOperationComplete d ⟨0, 0⟩ ⟨0, 0⟩) s = .next t ∧ t.word o.dst = s.word o.src ∧ (t.core d).strq = os := by
  refine ⟨_, rfl, ?_⟩
  rw [hq]
  dsimp -zeta only
  rw [if_neg (by simp [hb, ha])]
  obtain ⟨u, hu⟩ : ∃ u, u = s.setCore d { s.core d with strq := os } := ⟨_, rfl⟩
  have hcore : (u.core d).strq = os := by rw [hu, State.core_setCore]
  have hword : u.word o.src = s.word o.src := by rw [hu]; rfl
  have hdo : u.doStr o 0 0 0 0 = u.bankWrite o.ctx o.dst 4 (u.word o.src) := by
    simp [State.doStr, hk, State.strRead, State.collide_none, State.eccEvent_clear, State.collided, eccDouble, State.strWrite]
  rw [← hu, hdo, hword]
  obtain ⟨hw, hc, -⟩ := State.bankWrite_shows (s := u) (c := o.ctx) o.dst (s.word o.src)
  exact ⟨hw, (congrArg CoreSt.strq (hc d)).trans hcore⟩

/-- Settles O45: loads, stores, atomics and string operations, and their completions. -/
theorem coreMemory : Obligations.CoreMemory := by
  unfold Obligations.CoreMemory
  refine ⟨fun s c d k b => exec_lsuLoad_posts, fun s c d n b => exec_lsuLoad_pointer, fun s c d k b => exec_lsuStore_posts,
    fun s c d b hfree => exec_lsuAtomic_posts hfree (.inl ⟨rfl, rfl⟩),
    fun s c d b hfree => exec_lsuAtomic_posts hfree (.inr ⟨rfl, rfl⟩), fun s d o os => exec_loadComplete_loads,
    fun s d o os => exec_loadComplete_adds, fun s d o os => exec_storeQueueDrain_stores,
    fun s c d hfree hs hd hps hpd => ⟨_, rfl, ?_⟩, fun s c d b hfree hd hpd => ⟨_, rfl, ?_⟩,
    fun s c d hfree hs hd hps hpd => ⟨_, rfl, ?_⟩, fun s c d hfree hs hps => ⟨_, rfl, ?_⟩,
    fun s d o os => exec_strOperationComplete_copies⟩
  · obtain ⟨hq, hsrc, hdst, hpc, hch⟩ := State.commandMove_strings (p := 0x072) (k := .copy) (b := 0) hfree
      (.inl ⟨rfl, rfl⟩) (fun _ => ⟨hs, hps⟩) fun _ => ⟨hd, hpd⟩
    exact ⟨hq, hsrc (by decide), hdst (by decide), hpc, hch⟩
  · obtain ⟨hq, -, hdst, -, hch⟩ := State.commandMove_strings (p := 0x073) (k := .fill) (b := b) hfree
      (.inr (.inl ⟨rfl, rfl⟩)) (fun h => absurd rfl h) fun _ => ⟨hd, hpd⟩
    exact ⟨hq, hdst (by decide), hch⟩
  · obtain ⟨hq, hsrc, hdst, -, hch⟩ := State.commandMove_strings (p := 0x074) (k := .cmp) (b := 0) hfree
      (.inr (.inr (.inl ⟨rfl, rfl⟩))) (fun _ => ⟨hs, hps⟩) fun _ => ⟨hd, hpd⟩
    exact ⟨hq, hsrc (by decide), hdst (by decide), hch⟩
  · obtain ⟨hq, hsrc, -, -, hch⟩ := State.commandMove_strings (p := 0x075) (k := .crc) (b := 0) hfree
      (.inr (.inr (.inr ⟨rfl, rfl⟩))) (fun _ => ⟨hs, hps⟩) fun h => absurd rfl h
    exact ⟨hq, hsrc (by decide), hch⟩

end Sys2Proof.Machine
end

section
/-! The context engine (statement O47). A posted window write waits at its drain for an earlier one of the same context to the same
island in the queue of another core (R32): the drain command then leaves the queue as it is. -/

namespace Sys2Proof.Machine

/-- Context 9 has posted a write of HBR1_POSSET on core 0 and, after it, one on core 1. -/
def drainBehind : State :=
  { State.reset with
    sys := { (default : SysSt) with phase := .run, fabricUp := true }
    doc := { (default : DocSt) with cores :=
      [(0, { (default : CoreSt) with winq := [⟨9, 0x50074, 7, 0⟩] }), (1, { (default : CoreSt) with winq := [⟨9, 0x50074, 33, 1⟩] })] } }

theorem windowQueueDrain_waits :
    ∃ t, exec (.windowQueueDrain 1) drainBehind = .next t ∧ (t.core 1).winq = [⟨9, 0x50074, 33, 1⟩] := ⟨_, rfl, by decide +kernel⟩

/-- Refutes O47: the oldest posted write of a core waits for an earlier one of its context on another core. -/
theorem not_contextEngine : ¬ Obligations.ContextEngine := by
  unfold Obligations.ContextEngine
  rintro ⟨drains, -⟩
  obtain ⟨t, e, hstays⟩ := windowQueueDrain_waits
  obtain ⟨u, e', hgone, -⟩ := drains drainBehind 1 1 ⟨9, 0x50074, 33, 1⟩ [] (by decide +kernel) (by decide +kernel)
    (by decide +kernel) (by decide +kernel) (by decide +kernel)
  rw [e] at e'
  obtain rfl := Host.Outcome.next.inj e'
  rw [hstays] at hgone
  exact absurd hgone (by decide)

end Sys2Proof.Machine
end

section
/-! What the engine's scheduling leaves of the CAN ports (for O48 and O49; spec/11 R366 to R373, spec/12 R407, R408). A context that is
quarantined while the engine schedules loses its locks, and its streams return to word 0: nothing else of a port changes. -/

namespace Sys2Proof.Machine

variable {s₀ s t : State} {c n q : Nat}

/-- The ports are as they were, but for streams that have returned to word 0 and locks that have gone. -/
structure PortsKept (s t : State) : Prop where
  cp : ∀ n, ∃ a b, t.cp n = { s.cp n with q0 := { (s.cp n).q0 with pos := a }, q1 := { (s.cp n).q1 with pos := b } }
  locked : ∀ n q, s.bit CAN_QSTAT.LOCKED n q = false → t.bit CAN_QSTAT.LOCKED n q = false

/-- What an event may change but for the CAN ports. -/
def eventMask : Nat :=
  maskOf [.PU_PD, .PU_STAT, .DOC_STAT, .CTX_STAT, .CTX_LASTQ, .CTXC_STAT, .CAN_QSTAT] [.fab, .doc, .can, .nm]

/-- All but the CAN ports. -/
def notPorts : Nat := allBut [.CAN_QSTAT] [.can]

namespace PortsKept

theorem refl (s : State) : PortsKept s s := ⟨fun _ => ⟨_, _, rfl⟩, fun _ _ h => h⟩

theorem trans (h : PortsKept s₀ s) (k : PortsKept s t) : PortsKept s₀ t := by
  refine ⟨fun n => ?_, fun n q hl => k.locked n q (h.locked n q hl)⟩
  obtain ⟨a, b, e⟩ := h.cp n
  obtain ⟨a', b', e'⟩ := k.cp n
  exact ⟨a', b', by rw [e', e]⟩

theorem of_fr {m : Nat} (h : Fr m s t) (hm : m ||| notPorts = notPorts) : PortsKept s t := by
  have k := h.mono hm
  refine ⟨fun n => ⟨(s.cp n).q0.pos, (s.cp n).q1.pos, ?_⟩, fun n q hl => ?_⟩
  · rw [State.cp, k.can rfl]
    rfl
  · rw [State.bit_of_fld (k.fld CAN_QSTAT.LOCKED n q 0 rfl), hl]

/-- What stands of a port's queue. -/
theorem queue (h : PortsKept s t) (n q : Nat) : (t.cq n q).recs = (s.cq n q).recs ∧ (t.cq n q).seq = (s.cq n q).seq := by
  obtain ⟨a, b, e⟩ := h.cp n
  unfold State.cq
  rw [e]
  split <;> exact ⟨rfl, rfl⟩

end PortsKept

theorem State.cp_setCp (x : CanSt) : (s.setCp n x).cp n = x := Tbl.get_set_self _ _ _ _

theorem State.cp_setCp_ne {k : Nat} (x : CanSt) (h : k ≠ n) : (s.setCp n x).cp k = s.cp k := Tbl.get_set_ne h _ _ _

/-- A context that is quarantined or disabled loses its locks (R407, R408). -/
theorem State.dropReader_ports : PortsKept s (s.dropReader c) := by
  have hstep (t : State) (n q : Nat) : PortsKept t ((t.setCq n q { t.cq n q with pos := 0 }).flag CAN_QSTAT.LOCKED false n q) := by
    refine ⟨fun k => ?_, fun k r hl => ?_⟩
    · by_cases hk : k = n
      · subst hk
        by_cases hq : q = 0
        · refine ⟨0, (t.cp k).q1.pos, (State.cp_setCp _).trans ?_⟩
          rw [if_pos hq, State.cq, if_pos hq]
        · refine ⟨(t.cp k).q0.pos, 0, (State.cp_setCp _).trans ?_⟩
          rw [if_neg hq, State.cq, if_neg hq]
      · exact ⟨(t.cp k).q0.pos, (t.cp k).q1.pos, State.cp_setCp_ne _ hk⟩
    · by_cases hk : (⟨.CAN_QSTAT, k, r, 0⟩ : RegRef) = ⟨.CAN_QSTAT, n, q, 0⟩
      · obtain ⟨-, rfl, rfl, -⟩ := RegRef.mk.inj hk
        exact State.bit_flag_same _ _ (by decide) (by decide)
      · refine (State.bit_of_fld ?_).trans hl
        exact congrArg (fun w => ext w 9 1) (State.reg_setReg_ne (t.setCq n q { t.cq n q with pos := 0 }) _ hk)
  unfold State.dropReader
  refine Holds.forEach (fun n s h => Holds.forEach (fun q s h => ?_) h) (.refl s)
  exact Holds.ite (h.trans (hstep s n q)) h

theorem State.quarantined_ports {cause : Nat} : PortsKept s (s.quarantined c cause) := by
  unfold State.quarantined
  extract_lets +onlyGivenNames d s1 x s2 s3 s4 s5
  have h1 : Fr notPorts s s1 := State.dropLoads_fr rfl (State.leaveCore_fr rfl (.id _ _))
  have h2 : Fr notPorts s1 s2 := State.setCtx_fr rfl (.id _ _)
  have h3 : Fr notPorts s2 s3 := State.count_fr rfl rfl (State.put_fr rfl rfl (State.setCst_fr rfl (.id _ _)))
  have h4 : Fr notPorts s3 s4 := State.setPort_fr rfl (.id _ _)
  have h5 : Fr notPorts s4 s5 :=
    State.flag_fr rfl rfl (State.put_fr rfl rfl (State.put_fr rfl rfl (State.put_fr rfl rfl (.id _ _))))
  clear_value s1 s2 s3 s4 s5
  have hlines : Fr notPorts (s5.dropReader c) ((s5.dropReader c).defaultLines c) := State.defaultLines_fr rfl (.id _ _)
  have h : Fr notPorts s s5 := (((h1.trans h2).trans h3).trans h4).trans h5
  exact ((PortsKept.of_fr h rfl).trans State.dropReader_ports).trans (.of_fr hlines rfl)

theorem State.preempt_ports {d : Nat} : PortsKept s (s.preempt d) := by
  unfold State.preempt
  split
  · unfold State.offCore
    split
    · exact State.quarantined_ports
    · exact .of_fr (State.makeReady_fr (m := notPorts) rfl (State.leaveCore_fr rfl (.id _ _))) rfl
  · exact .refl s

theorem State.placeOne_ports {cs : List Nat} (e : s.placeOne cs = some t) : PortsKept s t := by
  unfold State.placeOne at e
  split at e
  · cases e
  · split at e
    · split at e
      · cases e
        exact State.preempt_ports.trans (.of_fr (State.switchIn_fr (m := notPorts) rfl (.id _ _)) rfl)
      · cases e
    · cases e

theorem State.placeAll_ports (fuel : Nat) : PortsKept s (State.placeAll fuel s) := by
  induction fuel generalizing s with
  | zero => exact .refl s
  | succ fuel ih =>
    unfold State.placeAll
    split
    · exact (State.placeOne_ports ‹_›).trans ih
    · exact .refl s

theorem State.schedule_ports : PortsKept s s.schedule := by
  unfold State.schedule
  refine (State.placeAll_ports 16).trans (.of_fr (m := notPorts) (State.ctxCounts_fr rfl ?_) rfl)
  exact Holds.forEach (fun d s h => Holds.ite (State.preload_fr rfl h) h) (.id _ _)

theorem State.event_ports {b : Nat} : PortsKept s (s.event c b) :=
  (PortsKept.of_fr (State.setEvent_fr (m := notPorts) rfl (.id _ _)) rfl).trans State.schedule_ports

theorem State.canEvent_ports {k : Nat} : PortsKept s (s.canEvent n k) :=
  Holds.ite State.event_ports (.refl s)

/-! ## Queues -/

/-- What of a port beyond its queues no change of a buffer or of the error state touches: what it does after its frame, the frame sent
last, a late cancel, and the gateway's frames. -/
def CanSt.lasting (x : CanSt) : Nat × Option CanFrame × Bool × List (Nat × CanFrame) × Tbl Nat CanFrame :=
  (x.after, x.sent, x.late, x.gwFifo, x.gwBuf)

/-- The queues' records and numbers and what lasts of the ports stand, and no lock has been set. -/
structure QueuesKept (s t : State) : Prop where
  queue : ∀ n q, (t.cq n q).recs = (s.cq n q).recs ∧ (t.cq n q).seq = (s.cq n q).seq
  lasting : ∀ n, (t.cp n).lasting = (s.cp n).lasting
  locked : ∀ n q, s.bit CAN_QSTAT.LOCKED n q = false → t.bit CAN_QSTAT.LOCKED n q = false

theorem PortsKept.queues (h : PortsKept s t) : QueuesKept s t := by
  refine ⟨h.queue, fun n => ?_, h.locked⟩
  obtain ⟨a, b, e⟩ := h.cp n
  rw [e]
  rfl

namespace QueuesKept

theorem refl (s : State) : QueuesKept s s := ⟨fun _ _ => ⟨rfl, rfl⟩, fun _ => rfl, fun _ _ h => h⟩

theorem trans (h : QueuesKept s₀ s) (k : QueuesKept s t) : QueuesKept s₀ t :=
  ⟨fun n q => ⟨(k.queue n q).1.trans (h.queue n q).1, (k.queue n q).2.trans (h.queue n q).2⟩,
    fun n => (k.lasting n).trans (h.lasting n), fun n q hl => k.locked n q (h.locked n q hl)⟩

theorem after (h : QueuesKept s t) (n : Nat) : (t.cp n).after = (s.cp n).after := congrArg (·.1) (h.lasting n)

theorem sent (h : QueuesKept s t) (n : Nat) : (t.cp n).sent = (s.cp n).sent := congrArg (·.2.1) (h.lasting n)

theorem fr {m : Nat} (h : QueuesKept s₀ s) (hf : Fr m s t) (hm : m ||| notPorts = notPorts) : QueuesKept s₀ t :=
  h.trans (PortsKept.of_fr hf hm).queues

/-- A port whose extra state changes but for its queues. -/
theorem setCp {x : CanSt} (h : QueuesKept s₀ s) (h0 : x.q0 = (s.cp n).q0) (h1 : x.q1 = (s.cp n).q1)
    (ha : x.lasting = (s.cp n).lasting) : QueuesKept s₀ (s.setCp n x) := by
  refine h.trans ⟨fun k q => ?_, fun k => ?_, fun _ _ hl => hl⟩
  · by_cases hk : k = n
    · subst hk
      unfold State.cq
      rw [State.cp_setCp, h0, h1]
      exact ⟨rfl, rfl⟩
    · unfold State.cq
      rw [State.cp_setCp_ne _ hk]
      exact ⟨rfl, rfl⟩
  · by_cases hk : k = n
    · subst hk
      rw [State.cp_setCp, ha]
    · rw [State.cp_setCp_ne _ hk]

theorem canEvent {k : Nat} (h : QueuesKept s₀ s) : QueuesKept s₀ (s.canEvent n k) := h.trans State.canEvent_ports.queues

theorem setCanSt {st : Nat} (h : QueuesKept s₀ s) : QueuesKept s₀ (s.setCanSt n st) := by
  unfold State.setCanSt
  extract_lets +onlyGivenNames err s1 x s2
  have h1 : QueuesKept s₀ s1 := h.fr (m := notPorts) (State.put_fr rfl rfl (.id _ _)) rfl
  have h2 : QueuesKept s₀ s2 := Holds.ite (h1.setCp rfl rfl rfl) h1
  exact Holds.ite h (Holds.ite h2.canEvent h2)

theorem setBst {b st : Nat} (h : QueuesKept s₀ s) : QueuesKept s₀ (s.setBst n b st) := by
  unfold State.setBst
  split
  · exact h.setCp rfl rfl rfl
  · extract_lets +onlyGivenNames s1 pend s2
    have h2 : QueuesKept s₀ s2 := h.fr (m := notPorts) (State.put_fr rfl rfl (State.put_fr rfl rfl (.id _ _))) rfl
    clear_value s2
    split
    · exact (h2.fr (m := notPorts) (State.put_fr rfl rfl (.id _ _)) rfl).canEvent
    · exact h2

theorem stageNext (h : QueuesKept s₀ s) : QueuesKept s₀ (s.stageNext n) := by
  unfold State.stageNext
  split
  · exact h
  · split
    · exact h.setCp rfl rfl rfl
    · exact h

theorem clearLonely (h : QueuesKept s₀ s) : QueuesKept s₀ (s.clearLonely n) := by
  unfold State.clearLonely
  extract_lets +onlyGivenNames was s1 s2 s3
  have h1 : QueuesKept s₀ s1 := h.fr (m := notPorts) (State.flag_fr rfl rfl (State.put_fr rfl rfl (.id _ _))) rfl
  have h2 : QueuesKept s₀ s2 := by
    refine Holds.forEach (fun b s h => ?_) h1
    dsimp only
    refine Holds.ite (Holds.ite h.setBst ?_) h
    exact h.setBst.fr (m := notPorts) (State.flag_fr rfl rfl (.id _ _)) rfl
  have h3 : QueuesKept s₀ s3 := h2.stageNext
  exact Holds.ite (h3.fr (m := notPorts) (State.clearSrc_fr rfl (.id _ _)) rfl).canEvent h3

end QueuesKept

end Sys2Proof.Machine
end

section
/-! CAN ports: reception, queues, errors and recovery (statement O48; spec/12 R401 to R420). -/

namespace Sys2Proof.Machine

variable {s₀ s t : State} {n q : Nat}

/-! ## Fault confinement -/

/-- An event leaves the registers of the CAN ports but CAN_QSTAT. -/
theorem State.canEvent_mask {k : Nat} : Fr eventMask s (s.canEvent n k) := State.canEvent_fr rfl (.id _ _)

/-- A port's new error state (R416). -/
theorem State.setCanSt_shows {st : Nat} (hst : st < 8) : (s.setCanSt n st).canSt n = st ∧
    RestKept CAN_STAT.STATE s (s.setCanSt n st) := by
  unfold State.setCanSt
  split
  case isTrue h => exact ⟨h, .refl s⟩
  case isFalse =>
    extract_lets +onlyGivenNames err s1 x s2
    have h1 : s1.canSt n = st := (State.fld_put_same s st (by decide)).trans (Nat.mod_eq_of_lt hst)
    have hr1 : RestKept CAN_STAT.STATE s s1 := (RestKept.refl s).put
    have h2 : Fr (maskOf [] [.can]) s1 s2 := Fr.ite (State.setCp_fr rfl (.id _ _)) (.id _ _)
    have hst2 : s2.canSt n = st := (h2.fld CAN_STAT.STATE n 0 0 rfl).trans h1
    have hr2 : RestKept CAN_STAT.STATE s s2 := hr1.fr h2 rfl
    split
    · exact ⟨(State.canEvent_mask.fld CAN_STAT.STATE n 0 0 rfl).trans hst2, hr2.fr State.canEvent_mask rfl⟩
    · exact ⟨hst2, hr2⟩

/-- The counters of a port have new values; its queues and its error record stand. -/
structure Counted (n tec rec : Nat) (s t : State) : Prop where
  tecIs : t.fld CAN_STAT.TEC n = tec
  recIs : t.fld CAN_STAT.REC n = rec
  queues : QueuesKept s t
  frame : Fr (allBut [.CAN_ERR, .CAN_TXS, .CAN_TXT] []) s t

theorem Counted.setCanSt {tec rec st : Nat} (h : Counted n tec rec s t) (hst : st < 8) : Counted n tec rec s (t.setCanSt n st) := by
  obtain ⟨-, hrest⟩ := State.setCanSt_shows (s := t) (n := n) hst
  exact ⟨(hrest CAN_STAT.TEC n 0 0 rfl rfl).trans h.tecIs, (hrest CAN_STAT.REC n 0 0 rfl rfl).trans h.recIs, h.queues.setCanSt,
    State.setCanSt_fr rfl h.frame⟩

theorem Counted.raise {tec rec b u k d : Nat} (h : Counted n tec rec s t) : Counted n tec rec s (t.raise b u k d) :=
  ⟨h.tecIs, h.recIs, h.queues.fr (m := notPorts) (State.raise_fr rfl (.id _ _)) rfl, State.raise_fr rfl h.frame⟩

/-- Below bus-off the counters take their values; from 2 or 3 on, the error state follows (R416). -/
theorem State.confine_shows {tec rec : Nat} (ht : tec < 256) (hr : rec < 256) : Counted n tec rec s (s.confine n tec rec) ∧
    (tec < 128 → rec < 128 → s.canSt n = 2 → (s.confine n tec rec).canSt n = 2) := by
  unfold State.confine
  extract_lets +onlyGivenNames s1 st
  have hsat (v : Nat) (hv : v < 256) : satTo v 8 % 2 ^ 8 = v := by
    unfold satTo
    rw [if_pos (by omega)]
    exact Nat.mod_eq_of_lt hv
  have h1 : Counted n tec rec s s1 := by
    refine ⟨?_, (State.fld_put_same _ _ (by decide)).trans (hsat rec hr), ?_, State.put_fr rfl rfl (State.put_fr rfl rfl (.id _ _))⟩
    · exact (State.fld_put_apart _ _ (by decide)).trans ((State.fld_put_same _ _ (by decide)).trans (hsat tec ht))
    · exact (QueuesKept.refl s).fr (m := notPorts) (State.put_fr rfl rfl (State.put_fr rfl rfl (.id _ _))) rfl
  have hst : st = s.canSt n := (State.fld_put_apart _ _ (by decide)).trans (State.fld_put_apart _ _ (by decide))
  split
  case isTrue hne =>
    simp only [Bool.and_eq_true, decide_eq_true_eq] at hne
    exact ⟨h1, fun _ _ h2 => absurd (hst.trans h2) hne.1⟩
  case isFalse =>
    rw [if_neg (by omega)]
    split
    case isTrue hhigh =>
      simp only [Bool.or_eq_true, decide_eq_true_eq] at hhigh
      refine ⟨?_, fun h3 h4 => absurd hhigh (by omega)⟩
      exact Holds.ite (h1.raise.setCanSt (by decide)) h1
    case isFalse => exact ⟨h1.setCanSt (by decide), fun _ _ _ => (State.setCanSt_shows (by decide)).1⟩

/-- Without a frame of its own in progress a port has nothing to retry. -/
theorem State.retry_idle (h : s.active n = none) : s.retry n = s := by
  rw [State.retry, h]

theorem State.canAfter_none (h : (s.cp n).after = 0) : s.canAfter n = s := by
  rw [State.canAfter, h]
  rfl

/-! ## Reception -/

/-- The end of LONELY (R417): what it leaves of CAN_STAT and CAN_ERR. -/
theorem State.clearLonely_shows : (s.clearLonely n).bit CAN_STAT.LONELY n = false ∧
    (s.clearLonely n).fld CAN_ERR.ACKRUN n = 0 ∧ RestKept CAN_STAT.LONELY s (s.clearLonely n) := by
  unfold State.clearLonely
  extract_lets +onlyGivenNames was s1 s2 s3
  have h1 : s1.bit CAN_STAT.LONELY n = false ∧ s1.fld CAN_ERR.ACKRUN n = 0 ∧ RestKept CAN_STAT.LONELY s s1 := by
    refine ⟨State.bit_flag_same _ _ (by decide) (by decide), ?_, ?_⟩
    · exact (State.fld_put_reg (f := CAN_STAT.LONELY) _ _ (by decide)).trans
        ((State.fld_put_same _ _ (by decide)).trans (by decide))
    · exact ((RestKept.refl s).fr (m := maskOf [.CAN_ERR] []) (State.put_fr rfl rfl (.id _ _)) rfl).put
  have h2 : Fr (allBut [.CAN_STAT, .CAN_ERR] []) s1 s2 := by
    refine Holds.forEach (fun b s h => ?_) (.id _ _)
    dsimp only
    exact Fr.ite (Fr.ite (State.setBst_fr rfl h) (State.flag_fr rfl rfl (State.setBst_fr rfl h))) h
  have h3 : Fr (allBut [.CAN_STAT, .CAN_ERR] []) s1 s3 := State.stageNext_fr rfl h2
  have h4 : Fr (allBut [.CAN_STAT, .CAN_ERR] []) s1 (if was then (s3.clearSrc 10 n 2).canEvent n 3 else s3) :=
    Fr.ite (State.canEvent_fr rfl (State.clearSrc_fr rfl h3)) h3
  refine ⟨(State.bit_of_fld (h4.fld CAN_STAT.LONELY n 0 0 rfl)).trans h1.1, (h4.fld CAN_ERR.ACKRUN n 0 0 rfl).trans h1.2.1, ?_⟩
  exact h1.2.2.fr h4 rfl

theorem State.cq_setCq (x : CanQ) : (s.setCq n q x).cq n q = x := by
  unfold State.setCq State.cq
  rw [State.cp_setCp]
  split <;> rfl

theorem State.after_setCq (x : CanQ) : ((s.setCq n q x).cp n).after = (s.cp n).after := by
  unfold State.setCq
  rw [State.cp_setCp]
  split <;> rfl

/-- A record that finds room in an unlocked queue of the LOCK mode follows the others (R403 to R405). -/
theorem State.canStore_stores {hit : Option Nat} {f : CanFrame} {sof : Word} (ho : s.bit CAN_CFG.OVWR0 n = false)
    (hl : s.bit CAN_QSTAT.LOCKED n 0 = false)
    (hroom : usedOf (s.cq n 0).recs + entriesOf (canRecord (s.cq n 0).seq hit f sof) ≤ s.qDepth n 0) :
    ((s.canStore n 0 hit f sof).cq n 0).recs = (s.cq n 0).recs ++ [canRecord (s.cq n 0).seq hit f sof] ∧
      ((s.canStore n 0 hit f sof).cq n 0).seq = ((s.cq n 0).seq + 1) % 256 ∧
      ((s.canStore n 0 hit f sof).cp n).after = (s.cp n).after := by
  unfold State.canStore
  extract_lets +onlyGivenNames x rc need depth ovwr locked hd tl r
  have hovwr : ovwr = false := by simpa [ovwr] using ho
  have hlocked : locked = false := hl
  have hhd : hd = [] := by simp [hd, hlocked]
  have htl : tl = x.recs := by simp [tl, hlocked]
  have hr : r = (x.recs, 0) := by simp [r, hovwr, htl]
  rw [hr, hhd]
  clear hr hhd htl
  rw [if_pos (by simpa [usedOf] using hroom)]
  extract_lets +onlyGivenNames s1 x2 s2
  have hs1 : s1 = s := if_pos rfl
  have hx : s2.cq n 0 = { s.cq n 0 with seq := (x.seq + 1) % 256 } := by
    rw [← hs1]
    exact State.cq_setCq _
  have hafter : (s2.cp n).after = (s.cp n).after := by
    rw [← hs1]
    exact State.after_setCq _
  have hrecs : ((s2.canSetRecs n 0 ([] ++ x.recs ++ [rc])).cq n 0).recs = x.recs ++ [rc] ∧
      ((s2.canSetRecs n 0 ([] ++ x.recs ++ [rc])).cq n 0).seq = (x.seq + 1) % 256 ∧
      ((s2.canSetRecs n 0 ([] ++ x.recs ++ [rc])).cp n).after = (s2.cp n).after := by
    unfold State.canSetRecs
    extract_lets +onlyGivenNames y pos
    have hsync (u : State) : Fr (maskOf [.CAN_QSTAT] []) u (u.canQsync n 0) := State.canQsync_fr rfl (.id _ _)
    have hcan (u : State) : (u.canQsync n 0).cp n = u.cp n := by
      unfold State.cp
      rw [(hsync u).can rfl]
    have hcq (u : State) : (u.canQsync n 0).cq n 0 = u.cq n 0 := by
      unfold State.cq
      rw [hcan]
    rw [hcq, State.cq_setCq, hcan]
    refine ⟨rfl, ?_, State.after_setCq _⟩
    exact congrArg CanQ.seq hx
  generalize s2.canSetRecs n 0 ([] ++ x.recs ++ [rc]) = s3 at hrecs ⊢
  have hev : QueuesKept s3 (s3.canEvent n 0) := State.canEvent_ports.queues
  obtain ⟨hq, hs⟩ := hev.queue n 0
  exact ⟨hq.trans hrecs.1, hs.trans hrecs.2.1, (hev.after n).trans (hrecs.2.2.trans hafter)⟩

/-- A frame that is admitted by a port that receives it and goes to queue 0 (R401 to R405, R416). -/
theorem exec_canFrameReceived_stores {i : Nat} {f : CanFrame} {sof : Word} (hls : s.canListens n = true)
    (had : s.canAdmits n f = true) (hac : s.active n = none) (hrec : s.fld CAN_STAT.REC n ≤ 127)
    (hmon : s.bit CAN_CFG.MON n = false) (hnm : s.nmOn = false) (hfil : s.filterOf n f = some i)
    (hact : s.fld CAN_FCTL.ACT n i = 1) (hgw : s.bit CAN_FCTL.GW n i = false) (hov : s.bit CAN_CFG.OVWR0 n = false)
    (hlk : s.bit CAN_QSTAT.LOCKED n 0 = false)
    (hroom : usedOf (s.cq n 0).recs + entriesOf (canRecord (s.cq n 0).seq (some i) f sof) ≤ s.qDepth n 0)
    (hafter : (s.cp n).after = 0) : ∃ t, exec (.canFrameReceived n f sof) s = .next t ∧
      (t.cq n 0).recs = (s.cq n 0).recs ++ [canRecord (s.cq n 0).seq (some i) f sof] ∧
      (t.cq n 0).seq = ((s.cq n 0).seq + 1) % 256 ∧ t.fld CAN_STAT.REC n = s.fld CAN_STAT.REC n - 1 := by
  have htec : s.fld CAN_STAT.TEC n < 256 := ext_lt _ _ _
  have hlow : s.fld CAN_STAT.REC n - 1 < 256 := by omega
  obtain ⟨⟨-, hrec0, hq0, -⟩, -⟩ := State.confine_shows (s := s) (n := n) htec hlow
  have hgood : (s.retry n).recGood n = s.confine n (s.fld CAN_STAT.TEC n) (s.fld CAN_STAT.REC n - 1) := by
    rw [State.retry_idle hac, State.recGood, if_neg (by omega)]
  have hmask : Fr (allBut [.CAN_CFG, .CAN_FCTL, .CAN_FID, .CAN_FMK, .CAN_QCFG, .NM_CFG, .TWN_STAT] []) s
      (((s.retry n).recGood n).clearLonely n) :=
    State.clearLonely_fr rfl (State.recGood_fr rfl (State.retry_fr rfl (.id _ _)))
  obtain ⟨-, -, hlon⟩ := State.clearLonely_shows (s := (s.retry n).recGood n) (n := n)
  have hq1 : QueuesKept s (((s.retry n).recGood n).clearLonely n) := by
    rw [hgood]
    exact hq0.clearLonely
  have hrec1 : (((s.retry n).recGood n).clearLonely n).fld CAN_STAT.REC n = s.fld CAN_STAT.REC n - 1 :=
    (hlon CAN_STAT.REC n 0 0 rfl rfl).trans (by rw [hgood]; exact hrec0)
  refine ⟨_, rfl, ?_⟩
  rw [State.canReceive, if_neg (by simp [hls]), if_neg (by simp [had])]
  generalize ((s.retry n).recGood n).clearLonely n = u at hmask hq1 hrec1
  obtain ⟨hrecs, hseq⟩ := hq1.queue n 0
  have hfil' : u.filterOf n f = some i := by
    rw [← hfil]
    have hhit : u.filterHit n f = s.filterHit n f := by
      funext k
      simp only [State.filterHit, State.bit, hmask.fld CAN_FCTL.ACT _ _ _ rfl, hmask.fld CAN_FID.IDE _ _ _ rfl,
        hmask.fld CAN_FCTL.FMT _ _ _ rfl, hmask.fld CAN_FID.MATCH _ _ _ rfl, hmask.fld CAN_FMK.MASK _ _ _ rfl,
        hmask.fld CAN_FCTL.RTRM _ _ _ rfl, hmask.fld CAN_FCTL.RTR _ _ _ rfl]
    rw [State.filterOf, hhit, State.filterOf]
  have hnm' : u.isNmFrame n f = false := by
    have hon : u.nmOn = false := by
      rw [← hnm]
      simp only [State.nmOn, State.isDeputy, State.bit, hmask.fld NM_CFG.EN _ _ _ rfl, hmask.fld TWN_STAT.ROLE _ _ _ rfl]
    simp [State.isNmFrame, hon]
  have hstored : u.canFilter n f sof = u.canStore n 0 (some i) f sof := by
    have hact' : u.fld CAN_FCTL.ACT n i = 1 := by rw [hmask.fld _ _ _ _ rfl, hact]
    have hgw' : u.bit CAN_FCTL.GW n i = false := by rw [State.bit_of_fld (hmask.fld CAN_FCTL.GW n i 0 rfl), hgw]
    simp [State.canFilter, hfil', hact', hgw']
  obtain ⟨hr, hs, ha⟩ := State.canStore_stores (s := u) (n := n) (hit := some i) (f := f) (sof := sof)
    (by rw [State.bit_of_fld (hmask.fld CAN_CFG.OVWR0 n 0 0 rfl), hov]) (hq1.locked n 0 hlk) (by
      rw [hrecs, hseq, State.qDepth, if_pos rfl, hmask.fld CAN_QCFG.Q0DEPTH _ _ _ rfl]
      exact hroom)
  have hstore : Fr (allBut [.CAN_STAT] []) u (u.canStore n 0 (some i) f sof) := State.canStore_fr rfl (.id _ _)
  dsimp only
  rw [if_neg (by rw [State.bit_of_fld (hmask.fld CAN_CFG.MON n 0 0 rfl), hmon]; simp), hnm', hstored, if_neg (by simp)]
  generalize u.canStore n 0 (some i) f sof = v at hr hs ha hstore
  have hq2 : QueuesKept v (v.setCp n { v.cp n with tail := false }) := (QueuesKept.refl v).setCp rfl rfl rfl
  rw [State.canAfter_none ((hq2.after n).trans (ha.trans ((hq1.after n).trans hafter))), State.ship_fld]
  obtain ⟨hr', hs'⟩ := hq2.queue n 0
  refine ⟨hr'.trans (hr.trans (by rw [hrecs, hseq])), hs'.trans (hs.trans (by rw [hseq])), ?_⟩
  exact (hstore.fld CAN_STAT.REC n 0 0 rfl).trans hrec1

/-! ## The queues' reader -/

/-- A read of a record's word but the last (R406). -/
theorem exec_canRxdRead_streams {w : Who} {rc : List Word} {rs : List (List Word)} (hfit : s.canFitted n = true) (hq : q < 2)
    (hrd : s.isReader w n q = true) (hrecs : (s.cq n q).recs = rc :: rs) (hpos : (s.cq n q).pos + 1 < rc.length)
    (hw : s.reaches w 13 = true) : ∃ t, exec (.canRxdRead w n q) s = .next t ∧ t.rdata = rc.getD (s.cq n q).pos 0 ∧
      (t.cq n q).pos = (s.cq n q).pos + 1 ∧ (t.cq n q).recs = rc :: rs := by
  have hnext : (s.canRead w n q).1 = rc.getD (s.cq n q).pos 0 ∧
      ((s.canRead w n q).2.cq n q).pos = (s.cq n q).pos + 1 ∧ ((s.canRead w n q).2.cq n q).recs = rc :: rs := by
    unfold State.canRead
    rw [if_neg (by simp [hrd])]
    extract_lets +onlyGivenNames x
    have hx : x.recs = rc :: rs := hrecs
    rw [hx]
    dsimp only
    split
    · refine ⟨rfl, ?_, ?_⟩
      · rw [State.cq_setCq]
        exact if_neg (by simpa using hpos)
      · rw [State.cq_setCq]
    · rw [if_neg (by simpa using hpos)]
      exact ⟨rfl, congrArg CanQ.pos (State.cq_setCq (s := s) _), congrArg CanQ.recs (State.cq_setCq (s := s) _)⟩
  refine ⟨_, rfl, ?_⟩
  rw [State.asWho_of_reaches hw, State.runCanRxdRead, if_neg (by simp [hfit]; omega)]
  exact hnext

/-- The head record leaves the queue, which is unlocked (R407). -/
theorem State.canDrop_shows : (s.canDrop n q).cq n q = { s.cq n q with recs := (s.cq n q).recs.drop 1, pos := 0 } ∧
    (s.canDrop n q).bit CAN_QSTAT.LOCKED n q = false := by
  unfold State.canDrop
  extract_lets +onlyGivenNames x
  obtain ⟨u, hu⟩ : ∃ u, u = (s.setCq n q { x with recs := x.recs.drop 1, pos := 0 }).flag CAN_QSTAT.LOCKED false n q := ⟨_, rfl⟩
  have hcq : u.cq n q = { x with recs := x.recs.drop 1, pos := 0 } := by
    rw [hu]
    exact State.cq_setCq _
  have hlock : u.bit CAN_QSTAT.LOCKED n q = false := by
    rw [hu]
    exact State.bit_flag_same _ _ (by decide) (by decide)
  rw [← hu]
  have hsync : Fr (maskOf [.CAN_QSTAT] []) u (u.canQsync n q) := State.canQsync_fr rfl (.id _ _)
  refine ⟨?_, ?_⟩
  · rw [← hcq]
    unfold State.cq State.cp
    rw [hsync.can rfl]
  · refine (State.bit_put_apart _ _ (by decide)).trans ((State.bit_flag_apart _ _ (by decide)).trans ?_)
    exact (State.bit_put_apart _ _ (by decide)).trans hlock

theorem State.ship_cq (u : State) : (s.ship u).cq n q = u.cq n q := rfl

/-- CAN_RXPOP takes the record away and unlocks the queue (R407). -/
theorem exec_canRxpop_removes {w : Who} {rc : List Word} {rs : List (List Word)} {x : Word} (hfit : s.canFitted n = true)
    (hq : q < 2) (hl : s.legalWrite w .CAN_RXPOP x = true) (hb : s.rwsBarred w ⟨.CAN_RXPOP, n, q, 0⟩ x = false)
    (hm : s.bit CAN_CFG.MON n = false) (hc : s.bit CAN_CFG.CONS n = false) (hrecs : (s.cq n q).recs = rc :: rs)
    (hw : s.reaches w 13 = true) : ∃ t, exec (.canRxpop w n q x) s = .next t ∧ (t.cq n q).recs = rs ∧ (t.cq n q).pos = 0 ∧
      t.bit CAN_QSTAT.LOCKED n q = false := by
  have hpop : s.canPop n q (ext x 0 8) = s.canDrop n q := by
    rw [State.canPop, if_neg (by simp [hm]), hrecs]
    exact if_neg (by simp [hc])
  obtain ⟨hcq, hlock⟩ := State.canDrop_shows (s := s) (n := n) (q := q)
  refine ⟨_, rfl, ?_⟩
  rw [State.asWho_of_reaches hw, State.runCanRxpop, if_neg (by simp [hfit]; omega), State.accept_of_legal _ hl hb, hpop, State.ship_cq,
    State.ship_bit]
  refine ⟨(congrArg CanQ.recs hcq).trans ?_, congrArg CanQ.pos hcq, hlock⟩
  rw [hrecs]
  rfl

/-! ## Errors and recovery -/

/-- An ordinary error of a receiver (R416). -/
theorem exec_canRxError_counts {e : CanErr} (hls : s.canListens n = true) (hac : s.active n = none) (h2 : s.canSt n = 2)
    (hafter : (s.cp n).after = 0) (ht : s.fld CAN_STAT.TEC n < 128) (hex : e.exempt = false) (h8 : e.eights = 0)
    (hr : s.fld CAN_STAT.REC n < 127) : ∃ t, exec (.canRxError n e) s = .next t ∧
      t.fld CAN_STAT.REC n = s.fld CAN_STAT.REC n + 1 ∧ t.fld CAN_ERR.LEC n = e.lec % 8 ∧
      t.fld CAN_ERR.ERRCNT n = (s.fld CAN_ERR.ERRCNT n + 1) % 256 ∧ t.canSt n = 2 := by
  refine ⟨_, rfl, ?_⟩
  rw [if_pos hls]
  unfold State.canRxError
  extract_lets +onlyGivenNames s1 s2
  have hs1 : s1 = s.canErr n e := congrArg (fun u => State.canErr u n e) (State.retry_idle hac)
  have h1 : Fr (maskOf [.CAN_ERR] []) s s1 := by
    rw [hs1]
    exact State.canErr_fr rfl (.id _ _)
  have hlec : s1.fld CAN_ERR.LEC n = e.lec % 8 := by
    rw [hs1]
    refine (State.fld_put_apart _ _ (by decide)).trans ((State.fld_flag_apart _ _ (by decide)).trans ?_)
    exact State.fld_put_same _ _ (by decide)
  have hcnt : s1.fld CAN_ERR.ERRCNT n = (s.fld CAN_ERR.ERRCNT n + 1) % 256 := by
    rw [hs1]
    refine (State.fld_put_same _ _ (by decide)).trans ?_
    rw [State.fld_flag_apart _ _ (by decide), State.fld_put_apart _ _ (by decide)]
    rfl
  have hs2 : s2 = s1.confine n (s.fld CAN_STAT.TEC n) (s.fld CAN_STAT.REC n + 1) := by
    simp [s2, hex, h8, h1.fld CAN_STAT.TEC _ _ _ rfl, h1.fld CAN_STAT.REC _ _ _ rfl]
  have htec : s.fld CAN_STAT.TEC n < 256 := by omega
  have hrec : s.fld CAN_STAT.REC n + 1 < 256 := by omega
  obtain ⟨⟨-, hrec2, hq2, herr⟩, hst2⟩ := State.confine_shows (s := s1) (n := n) htec hrec
  have hst1 : s1.canSt n = 2 := (h1.fld CAN_STAT.STATE n 0 0 rfl).trans h2
  have hcanst := hst2 ht (by omega) hst1
  rw [← hs2] at hrec2 hq2 herr hcanst
  clear_value s2
  have hq3 : QueuesKept s2 (s2.setCp n { s2.cp n with tail := false }) := (QueuesKept.refl s2).setCp rfl rfl rfl
  have hafter1 : (s1.cp n).after = 0 := by rw [State.cp, h1.can rfl]; exact hafter
  rw [State.canAfter_none ((hq3.after n).trans ((hq2.after n).trans hafter1))]
  exact ⟨hrec2, (herr.fld CAN_ERR.LEC n 0 0 rfl).trans hlec, (herr.fld CAN_ERR.ERRCNT n 0 0 rfl).trans hcnt, hcanst⟩

/-- The end of the bus-off recovery (R416). -/
theorem exec_busOffRecoveryDone_active (hfit : s.canFitted n = true) (h5 : s.canSt n = 5) :
    ∃ t, exec (.busOffRecoveryDone n) s = .next t ∧ t.canSt n = 2 ∧ t.fld CAN_STAT.TEC n = 0 ∧ t.fld CAN_STAT.REC n = 0 := by
  refine ⟨_, rfl, ?_⟩
  rw [if_pos (by simp [hfit, h5])]
  obtain ⟨u, hu⟩ : ∃ u, u = (s.put CAN_STAT.TEC 0 n).put CAN_STAT.REC 0 n := ⟨_, rfl⟩
  have htec : u.fld CAN_STAT.TEC n = 0 := by simp [hu]
  have hrec : u.fld CAN_STAT.REC n = 0 := by simp [hu]
  rw [← hu]
  obtain ⟨hst, hrest⟩ := State.setCanSt_shows (s := u) (n := n) (st := 2) (by decide)
  exact ⟨hst, (hrest CAN_STAT.TEC n 0 0 rfl rfl).trans htec, (hrest CAN_STAT.REC n 0 0 rfl rfl).trans hrec⟩

/-- Integration ends in error active while the counters are low (R420). -/
theorem exec_canIntegrationDone_active (hfit : s.canFitted n = true) (h1 : s.canSt n = 1) (hm : s.bit CAN_CFG.MON n = false)
    (ht : s.fld CAN_STAT.TEC n < 128) (hr : s.fld CAN_STAT.REC n < 128) :
    ∃ t, exec (.canIntegrationDone n) s = .next t ∧ t.canSt n = 2 ∧ (t.cp n).activating = false := by
  refine ⟨_, rfl, ?_⟩
  rw [if_pos (by simp [hfit, h1])]
  unfold State.integrated
  extract_lets +onlyGivenNames x s1
  have hfr : Fr (maskOf [] [.can]) s s1 := State.setCp_fr rfl (.id _ _)
  have hst1 : s1.canSt n = 1 := h1
  have htec : ¬ 128 ≤ s1.fld CAN_STAT.TEC n := Nat.not_le.mpr ht
  have hrec : ¬ 128 ≤ s1.fld CAN_STAT.REC n := Nat.not_le.mpr hr
  rw [if_neg (by rw [State.bit_of_fld (hfr.fld CAN_CFG.MON n 0 0 rfl), hm]; simp), if_neg (by simp [htec, hrec])]
  clear_value s1
  refine ⟨(State.setCanSt_shows (by decide)).1, ?_⟩
  have hset : s1.setCanSt n 2 = (s1.put CAN_STAT.STATE 2 n).setCp n { (s1.put CAN_STAT.STATE 2 n).cp n with
      activating := false, actTimer := false } := by
    simp [State.setCanSt, hst1]
  rw [hset]
  exact congrArg CanSt.activating (State.cp_setCp _)

/-- Settles O48: reception, the queues' reader, errors and recovery of a CAN port. -/
theorem canReceive : Obligations.CanReceive := by
  unfold Obligations.CanReceive
  refine ⟨fun s n i f sof hls had hac _ hrec hmon hnm hfil hact hgw hov hlk hroom hafter =>
      exec_canFrameReceived_stores hls had hac hrec hmon hnm hfil hact hgw hov hlk hroom hafter,
    fun s w n q rc rs => exec_canRxdRead_streams, fun s w n q rc rs x => exec_canRxpop_removes,
    fun s n e => exec_canRxError_counts, fun s n => exec_busOffRecoveryDone_active,
    fun s w n hfit hbo h4 hw => ⟨_, rfl, ?_⟩, fun s w n hfit hw => ⟨_, rfl, ?_⟩, fun s n => exec_canIntegrationDone_active,
    fun s n hfit h0 => ⟨_, rfl, ?_⟩, fun s n hfit hout => ⟨_, rfl, ?_⟩⟩
  · rw [State.asWho_of_reaches hw, State.runCanCmdRecover, if_neg (by simp [hfit]), if_pos (by simp [hbo, h4])]
    exact (State.setCanSt_shows (by decide)).1
  · rw [State.asWho_of_reaches hw, State.runCanCmdClrlonely, if_neg (by simp [hfit])]
    obtain ⟨hlon, hack, -⟩ := State.clearLonely_shows (s := s) (n := n)
    exact ⟨hack, hlon⟩
  · rw [if_neg (by simp [hfit, h0]), if_pos rfl]
    refine ⟨congrArg CanSt.txdOut (State.cp_setCp (s := s) _), ?_⟩
    simp [State.srcLive, State.raiseCond]
  · rw [if_pos (by simp [hfit, hout])]
    have hclr : Fr (maskOf [.FLT_STAT] [.flt]) (s.setCp n { s.cp n with txdOut := false })
        ((s.setCp n { s.cp n with txdOut := false }).clearSrc 10 n 4) := State.clearSrc_fr rfl (.id _ _)
    change (((s.setCp n { s.cp n with txdOut := false }).clearSrc 10 n 4).cp n).txdOut = false
    rw [State.cp, hclr.can rfl]
    exact congrArg CanSt.txdOut (State.cp_setCp (s := s) _)

end Sys2Proof.Machine
end

section
/-! CAN ports: transmit buffers (statement O49; spec/12 R409 to R417, spec/13 R445). -/

namespace Sys2Proof.Machine

variable {s₀ s t : State} {n b : Nat}

/-! ## A buffer's state -/

theorem ne_nmBuf (hb : b < 32) : b ≠ nmBuf := by
  unfold nmBuf
  omega

theorem State.bst_of_lt (hb : b < 32) : s.bst n b = s.fld CAN_TXS.ST n b := if_neg (ne_nmBuf hb)

/-- A register written at given indices. -/
theorem Fr.setReg {m i j k : Nat} {r : Reg} {w : Word} (hr : m.testBit r.ctorIdx = true) : Fr m s (s.setReg ⟨r, i, j, k⟩ w) :=
  State.setReg_fr hr (.id _ _)

/-- The bit of a word's field that a one-bit insertion sets. -/
theorem bitOf_ins {w : Word} {k : Nat} (v : Bool) (hk : k < 32) : bitOf (ins w k 1 (b2n v)).toNat k = v := by
  change (ins w k 1 (b2n v)).getLsbD k = v
  rw [getLsbD_ins]
  cases v <;> simp [b2n, hk]

/-- What a change of a buffer's state leaves of CAN_TXS. -/
theorem State.setBst_rest {st : Nat} : RestKept CAN_TXS.ST s (s.setBst n b st) := by
  unfold State.setBst
  split
  · exact (RestKept.refl s).fr (m := maskOf [] [.can]) (State.setCp_fr rfl (.id _ _)) rfl
  · extract_lets +onlyGivenNames s1 pend s2
    have h1 : RestKept CAN_TXS.ST s s1 := (RestKept.refl s).put
    have h2 : RestKept CAN_TXS.ST s s2 := h1.fr (m := maskOf [.CAN_TXPEND] []) (State.put_fr rfl rfl (.id _ _)) rfl
    clear_value s2
    split
    · refine (h2.fr (m := maskOf [.CAN_TXDONE] []) (State.put_fr rfl rfl (.id _ _)) rfl).fr State.canEvent_mask rfl
    · exact h2

/-- A buffer's new state, and CAN_TXPEND and CAN_TXDONE with it (R410, R426). -/
theorem State.setBst_shows {st : Nat} (hb : b < 32) (hst : st < 8) : (s.setBst n b st).fld CAN_TXS.ST n b = st ∧
    bitOf ((s.setBst n b st).fld CAN_TXPEND.BUF n) b = (st == bPending || st == bActive || st == bHeld) ∧
    (st = bDone ∨ st = bCancelled ∨ st = bFailed → bitOf ((s.setBst n b st).fld CAN_TXDONE.BUF n) b = true) := by
  unfold State.setBst
  rw [if_neg (ne_nmBuf hb)]
  extract_lets +onlyGivenNames s1 pend s2
  have hst2 : s2.fld CAN_TXS.ST n b = st :=
    (State.fld_put_reg _ _ (by decide)).trans ((State.fld_put_same _ _ (by decide)).trans (Nat.mod_eq_of_lt hst))
  have hpend2 : bitOf (s2.fld CAN_TXPEND.BUF n) b = pend := by
    rw [State.fld_put_same _ _ (by decide), Nat.mod_eq_of_lt (BitVec.isLt _)]
    exact bitOf_ins pend hb
  clear_value s2
  split
  case isTrue =>
    obtain ⟨u, hu⟩ : ∃ u, u = s2.put CAN_TXDONE.BUF (s2.fld CAN_TXDONE.BUF n ||| 2 ^ b) n := ⟨_, rfl⟩
    have hput : Fr (maskOf [.CAN_TXDONE] []) s2 u := hu ▸ State.put_fr rfl rfl (.id _ _)
    have hdone : bitOf (u.fld CAN_TXDONE.BUF n) b = true := by
      rw [hu, State.fld_put_same _ _ (by decide)]
      have hlt : s2.fld CAN_TXDONE.BUF n ||| 2 ^ b < 2 ^ 32 :=
        Nat.or_lt_two_pow (ext_lt _ _ _) (Nat.pow_lt_pow_right (by decide) hb)
      rw [Nat.mod_eq_of_lt hlt]
      simp [bitOf]
    rw [← hu]
    have hev : Fr eventMask u (u.canEvent n 2) := State.canEvent_mask
    rw [hev.fld _ _ _ _ rfl, hev.fld _ _ _ _ rfl, hev.fld _ _ _ _ rfl, hput.fld CAN_TXS.ST _ _ _ rfl,
      hput.fld CAN_TXPEND.BUF _ _ _ rfl]
    exact ⟨hst2, hpend2, fun _ => hdone⟩
  case isFalse hne =>
    refine ⟨hst2, hpend2, fun h => absurd ?_ hne⟩
    rcases h with rfl | rfl | rfl <;> rfl

/-- The state of another buffer stands. -/
theorem State.setBst_other {b' st : Nat} (h : b' ≠ b) : (s.setBst n b st).fld CAN_TXS.ST n b' = s.fld CAN_TXS.ST n b' := by
  unfold State.setBst
  split
  · rfl
  · extract_lets +onlyGivenNames s1 pend s2
    have h2 : s2.fld CAN_TXS.ST n b' = s.fld CAN_TXS.ST n b' := by
      refine (State.fld_put_reg _ _ (by decide)).trans ?_
      exact congrArg (fun w => ext w 0 3) (State.reg_setReg_ne _ _ (by simp [Fld.ref, h]))
    clear_value s2
    split
    · exact (State.canEvent_mask.fld CAN_TXS.ST n b' 0 rfl).trans ((State.fld_put_reg _ _ (by decide)).trans h2)
    · exact h2

theorem State.unstage_mask : Fr (maskOf [] [.can]) s (s.unstage n b) := State.unstage_fr rfl (.id _ _)

theorem QueuesKept.unstage (h : QueuesKept s₀ s) : QueuesKept s₀ (s.unstage n b) := by
  unfold State.unstage
  extract_lets +onlyGivenNames mine
  clear_value mine
  split
  · exact QueuesKept.stageNext (h.setCp rfl rfl rfl)
  · exact h

theorem QueuesKept.endBuf {st reason : Nat} {late : Bool} (h : QueuesKept s₀ s) :
    QueuesKept s₀ (s.endBuf n b st reason late) := by
  unfold State.endBuf
  extract_lets +onlyGivenNames s1
  have h1 : QueuesKept s₀ s1 := by
    refine Holds.ite h (h.fr (m := notPorts) ?_ rfl)
    exact State.flag_fr rfl rfl (State.put_fr rfl rfl (State.flag_fr rfl rfl (.id _ _)))
  exact h1.setBst.unstage

/-- A buffer that ends (R410, R415). -/
theorem State.endBuf_shows {st reason : Nat} {late : Bool} (hb : b < 32) (hr : reason < 8)
    (hst : st = bDone ∨ st = bCancelled ∨ st = bFailed) : (s.endBuf n b st reason late).bst n b = st ∧
    (s.endBuf n b st reason late).fld CAN_TXS.REASON n b = reason ∧
    bitOf ((s.endBuf n b st reason late).fld CAN_TXPEND.BUF n) b = false ∧
    bitOf ((s.endBuf n b st reason late).fld CAN_TXDONE.BUF n) b = true := by
  unfold State.endBuf
  extract_lets +onlyGivenNames s1
  have hs1 : s1.fld CAN_TXS.REASON n b = reason := by
    unfold s1
    rw [if_neg (ne_nmBuf hb), State.fld_flag_apart _ _ (by decide), State.fld_put_same _ _ (by decide)]
    exact Nat.mod_eq_of_lt hr
  clear_value s1
  have hlt : st < 8 := by rcases hst with rfl | rfl | rfl <;> decide
  obtain ⟨hbst, hpend, hdone⟩ := State.setBst_shows (s := s1) (n := n) hb hlt
  have hun := State.unstage_mask (s := s1.setBst n b st) (n := n) (b := b)
  rw [State.bst_of_lt hb, hun.fld _ _ _ _ rfl, hun.fld _ _ _ _ rfl, hun.fld _ _ _ _ rfl, hun.fld _ _ _ _ rfl]
  refine ⟨hbst, (State.setBst_rest CAN_TXS.REASON n b 0 rfl rfl).trans hs1, hpend.trans ?_, hdone hst⟩
  rcases hst with rfl | rfl | rfl <;> rfl

/-- The end of LONELY leaves a buffer that is not HELD (R417). -/
theorem State.clearLonely_bst (hb : b < 32) (h : s.bst n b ≠ bHeld) : (s.clearLonely n).bst n b = s.bst n b := by
  unfold State.clearLonely
  extract_lets +onlyGivenNames was s1 s2 s3
  have h1 : s1.fld CAN_TXS.ST n b = s.bst n b := (State.bst_of_lt hb).symm ▸
    (State.fld_put_reg _ _ (by decide)).trans (State.fld_put_reg _ _ (by decide))
  have h2 : s2.fld CAN_TXS.ST n b = s.bst n b := by
    refine Holds.forEach (P := fun t => t.fld CAN_TXS.ST n b = s.bst n b) (fun k t ht => ?_) h1
    dsimp only
    split
    case isFalse => exact ht
    case isTrue hk =>
      have hne : b ≠ k := by
        rintro rfl
        rw [State.bst_of_lt hb, ht] at hk
        exact h hk
      have hset : (t.setBst n k bPending).fld CAN_TXS.ST n b = s.bst n b := (State.setBst_other hne).trans ht
      split
      · exact hset
      · exact (State.fld_flag_apart _ _ (by decide)).trans hset
  have h3 : Fr (maskOf [] [.can]) s2 s3 := State.stageNext_fr rfl (.id _ _)
  have h4 : Fr (allBut [.CAN_TXS] []) s3 (if was then (s3.clearSrc 10 n 2).canEvent n 3 else s3) :=
    Fr.ite (State.canEvent_fr rfl (State.clearSrc_fr rfl (.id _ _))) (.id _ _)
  rw [State.bst_of_lt hb, h4.fld _ _ _ _ rfl, h3.fld _ _ _ _ rfl, h2]

theorem State.ship_cp (u : State) : (s.ship u).cp n = u.cp n := rfl

theorem State.ship_txFrame (u : State) : (s.ship u).txFrame n b = u.txFrame n b := rfl

/-! ## Requests, cancels and the staging memory -/

theorem forEach_bufsOf_one (f : Nat → State → State) : forEach (bufsOf 1) f s = f 0 s := by
  have h : bufsOf 1 = [0] := by decide
  rw [h]
  rfl

theorem State.gwOwned_zero : s.gwOwned n 0 = false := by simp [State.gwOwned]

/-- A request of a buffer at rest whose format is good (R410, R411). -/
theorem exec_canTxRequest_pends {w : Who} (hfit : s.canFitted n = true) (hp : s.bst n 0 ≠ bPending) (ha : s.bst n 0 ≠ bActive)
    (hh : s.bst n 0 ≠ bHeld) (hbad : s.badFormat n 0 = false) (hw : s.reaches w 13 = true) :
    ∃ t, exec (.canTxRequest w n 1) s = .next t ∧ t.bst n 0 = bPending ∧ bitOf (t.fld CAN_TXPEND.BUF n) 0 = true := by
  have hreq : s.runCanTxRequest w n 1 = ((s.setReg ⟨.CAN_TXS, n, 0, 0⟩ 0).setBst n 0 bPending).stageNext n := by
    unfold State.runCanTxRequest
    rw [if_neg (by simp [hfit]), forEach_bufsOf_one, if_neg (by simp [State.gwOwned_zero])]
    simp [State.canRequest, hp, ha, hh, hbad]
  refine ⟨_, rfl, ?_⟩
  rw [State.asWho_of_reaches hw, hreq]
  obtain ⟨u, hu⟩ : ∃ u, u = s.setReg ⟨.CAN_TXS, n, 0, 0⟩ 0 := ⟨_, rfl⟩
  rw [← hu]
  obtain ⟨hbst, hpend, -⟩ := State.setBst_shows (s := u) (n := n) (b := 0) (st := bPending) (by decide) (by decide)
  have hst : Fr (maskOf [] [.can]) (u.setBst n 0 bPending) ((u.setBst n 0 bPending).stageNext n) := State.stageNext_fr rfl (.id _ _)
  rw [State.bst_of_lt (by decide), State.ship_fld, State.ship_fld, hst.fld _ _ _ _ rfl, hst.fld _ _ _ _ rfl]
  exact ⟨hbst, hpend⟩

/-- A request of a buffer at rest whose format is bad (R411). -/
theorem exec_canTxRequest_fails {w : Who} (hfit : s.canFitted n = true) (hp : s.bst n 0 ≠ bPending) (ha : s.bst n 0 ≠ bActive)
    (hh : s.bst n 0 ≠ bHeld) (hbad : s.badFormat n 0 = true) (hw : s.reaches w 13 = true) :
    ∃ t, exec (.canTxRequest w n 1) s = .next t ∧ t.bst n 0 = bFailed ∧ t.fld CAN_TXS.REASON n 0 = 1 ∧
      bitOf (t.fld CAN_TXDONE.BUF n) 0 = true := by
  have hreq : s.runCanTxRequest w n 1 = s.endBuf n 0 bFailed 1 false := by
    unfold State.runCanTxRequest
    rw [if_neg (by simp [hfit]), forEach_bufsOf_one, if_neg (by simp [State.gwOwned_zero])]
    simp [State.canRequest, hp, ha, hh, hbad]
  refine ⟨_, rfl, ?_⟩
  rw [State.asWho_of_reaches hw, hreq]
  obtain ⟨hbst, hreason, -, hdone⟩ := State.endBuf_shows (s := s) (n := n) (b := 0) (st := bFailed) (reason := 1) (late := false)
    (by decide) (by decide) (.inr (.inr rfl))
  exact ⟨hbst, hreason, hdone⟩

/-- A cancel of a buffer that is PENDING or HELD (R415). -/
theorem exec_canTxCancel_cancels {w : Who} {a : Bool} (hfit : s.canFitted n = true)
    (hst : s.bst n 0 = bPending ∨ s.bst n 0 = bHeld) (hw : s.reaches w 13 = true) :
    ∃ t, exec (.canTxCancel w n 1 a) s = .next t ∧ t.bst n 0 = bCancelled ∧ bitOf (t.fld CAN_TXPEND.BUF n) 0 = false := by
  have hreq : s.runCanTxCancel w n 1 a = s.endBuf n 0 bCancelled 0 false := by
    unfold State.runCanTxCancel
    rw [if_neg (by simp [hfit]), forEach_bufsOf_one, if_neg (by simp [State.gwOwned_zero])]
    simp [State.canCancel, hst]
  refine ⟨_, rfl, ?_⟩
  rw [State.asWho_of_reaches hw, hreq]
  obtain ⟨hbst, -, hpend, -⟩ := State.endBuf_shows (s := s) (n := n) (b := 0) (st := bCancelled) (reason := 0) (late := false)
    (by decide) (by decide) (.inr (.inl rfl))
  exact ⟨hbst, hpend⟩

/-- The end of a copy to the staging memory (R412). -/
theorem exec_canStagingDone_keeps (hst : (s.cp n).stage = some (b, none))
    (hok : (List.range (s.txXlen n b)).all (fun i => s.memPermitted ((s.txw n b 4).toNat + i)) = true) :
    ∃ t, exec (.canStagingDone n 0) s = .next t ∧
      (t.cp n).stage = some (b, some (s.bytes (s.txw n b 4).toNat (s.txXlen n b))) := by
  refine ⟨_, rfl, ?_⟩
  rw [hst]
  dsimp -zeta only
  extract_lets +onlyGivenNames a len ok s1
  have hok' : ok = true := hok
  have hs1 : s1 = s := by
    unfold s1
    rw [if_pos hok', State.eccEvent_clear]
  rw [if_neg (by simp [hok', eccDouble]), hs1]
  exact congrArg CanSt.stage (State.cp_setCp (s := s) _)

/-! ## Choice, success and error -/

/-- The next frame is chosen (R413). -/
theorem exec_canTxChoice_activates (hfit : s.canFitted n = true) (hst : s.canSt n = 2 ∨ s.canSt n = 3) (hac : s.active n = none)
    (hnm : s.nmOn = false)
    (hfirst : s.canFirst n (canBufs.filter fun b => s.bst n b == bPending && s.staged n b) = some b) (hb : b < 32) :
    ∃ t, exec (.canTxChoice n) s = .next t ∧ t.bst n b = bActive ∧
      t.fld CAN_TXS.ATTEMPTS n b = satInc (s.fld CAN_TXS.ATTEMPTS n b) 8 ∧ (t.cp n).late = false := by
  refine ⟨_, rfl, ?_⟩
  rw [if_neg (by simp [hfit, hac]; omega), if_neg (by simp [hnm]), hfirst]
  dsimp -zeta only
  extract_lets +onlyGivenNames s1
  rw [if_neg (ne_nmBuf hb)]
  obtain ⟨hbst, -⟩ := State.setBst_shows (s := s) (n := n) (st := bActive) hb (by decide)
  obtain ⟨u, hu⟩ : ∃ u, u = s1.setCp n { s1.cp n with late := false } := ⟨_, rfl⟩
  have hfr : Fr (maskOf [] [.can]) s1 u := hu ▸ State.setCp_fr rfl (.id _ _)
  have hlate : (u.cp n).late = false := by
    rw [hu]
    exact congrArg CanSt.late (State.cp_setCp _)
  have hatt : u.fld CAN_TXS.ATTEMPTS n b = s.fld CAN_TXS.ATTEMPTS n b :=
    (hfr.fld _ _ _ _ rfl).trans (State.setBst_rest CAN_TXS.ATTEMPTS n b 0 rfl rfl)
  rw [← hu, State.bst_of_lt hb]
  refine ⟨?_, ?_, hlate⟩
  · exact (State.fld_put_apart _ _ (by decide)).trans ((hfr.fld _ _ _ _ rfl).trans hbst)
  · refine (State.fld_put_same _ _ (by decide)).trans ?_
    rw [hatt]
    refine Nat.mod_eq_of_lt ?_
    change satInc _ 8 < 256
    unfold satInc
    split <;> omega

/-- An ACTIVE buffer reads so. -/
theorem State.bst_of_active (h : s.active n = some b) : s.bst n b = bActive := by
  have hp := List.find?_some h
  exact beq_iff_eq.mp hp

/-- The measured delay of the transmitter shows in TDCV alone (R406). -/
theorem State.measureTdc_rest {fmt : CanFmt} {k : Nat} : RestKept CAN_STAT.TDCV s (s.measureTdc n fmt k) := by
  have hm (d x : Nat) : RestKept CAN_STAT.TDCV s (s.tdcMeasured n k d x) := by
    unfold State.tdcMeasured
    extract_lets +onlyGivenNames s1
    have h1 : RestKept CAN_STAT.TDCV s s1 := (RestKept.refl s).put
    exact Holds.ite (h1.fr (m := maskOf [] [.flt]) (State.raise_fr rfl (.id _ _)) rfl) h1
  unfold State.measureTdc
  split
  · exact Holds.ite (hm _ _) (.refl s)
  · exact Holds.ite (hm _ _) (.refl s)
  · exact .refl s

/-- A frame sent ends its buffer (R413, R416). -/
theorem exec_canTxSuccess_ends {k : Nat} {sof : Word} (hac : s.active n = some b) (hb : b < 32) (hst : s.canSt n = 2)
    (hafter : (s.cp n).after = 0) (hr : s.fld CAN_STAT.REC n < 128) (ht : s.fld CAN_STAT.TEC n < 128) :
    ∃ t, exec (.canTxSuccess n sof k) s = .next t ∧ t.bst n b = bDone ∧ t.reg ⟨.CAN_TXT, n, b, 0⟩ = sof ∧
      t.fld CAN_STAT.TEC n = s.fld CAN_STAT.TEC n - 1 ∧ (t.cp n).sent = some (s.txFrame n b) := by
  refine ⟨_, rfl, ?_⟩
  rw [hac]
  dsimp -zeta only
  extract_lets +onlyGivenNames f late s1 x s2 s3 s4 s5
  have hrest1 : RestKept CAN_STAT.TDCV s s1 := State.measureTdc_rest
  have hq1 : QueuesKept s s1 := (QueuesKept.refl s).fr (m := notPorts) (State.measureTdc_fr rfl (.id _ _)) rfl
  have hfr2 : Fr (maskOf [] [.can]) s1 s2 := State.setCp_fr rfl (.id _ _)
  have hrest2 : RestKept CAN_STAT.TDCV s s2 := hrest1.fr hfr2 rfl
  have hcp2 : (s2.cp n).sent = some f ∧ (s2.cp n).after = 0 := by
    have h := State.cp_setCp (s := s1) (n := n) { s1.cp n with sent := some f, late := false }
    exact ⟨congrArg CanSt.sent h, (congrArg CanSt.after h).trans ((hq1.after n).trans hafter)⟩
  clear_value s2
  have hs3 : s3 = (s2.setReg ⟨.CAN_TXT, n, b, 0⟩ sof).endBuf n b bDone 0 late := if_neg (ne_nmBuf hb)
  obtain ⟨u, hu⟩ : ∃ u, u = s2.setReg ⟨.CAN_TXT, n, b, 0⟩ sof := ⟨_, rfl⟩
  have hfru : Fr (maskOf [.CAN_TXT] []) s2 u := by
    rw [hu]
    exact Fr.setReg rfl
  have hsof : u.reg ⟨.CAN_TXT, n, b, 0⟩ = sof := hu ▸ State.reg_setReg_self _ _ _
  rw [← hu] at hs3
  obtain ⟨hbst3, -⟩ := State.endBuf_shows (s := u) (n := n) (b := b) (st := bDone) (reason := 0) (late := late) hb (by decide) (.inl rfl)
  have hfr3 : Fr (allBut [.CAN_TXT, .CAN_STAT] []) u s3 := hs3 ▸ State.endBuf_fr rfl (.id _ _)
  have hq3 : QueuesKept s2 s3 := hs3 ▸ ((QueuesKept.refl s2).fr hfru rfl).endBuf
  rw [← hs3] at hbst3
  clear_value s3
  have hbst4 : s4.bst n b = bDone := (State.clearLonely_bst hb (by rw [hbst3]; decide)).trans hbst3
  have hq4 : QueuesKept s2 s4 := hq3.clearLonely
  obtain ⟨-, -, hrest4⟩ := State.clearLonely_shows (s := s3) (n := n)
  have hfr4 : Fr (allBut [.CAN_TXT] []) s3 s4 := State.clearLonely_fr rfl (.id _ _)
  have hstat (g : Fld) (hg : g.reg = .CAN_STAT) (hl : g.apart CAN_STAT.LONELY = true) (hd : g.apart CAN_STAT.TDCV = true) :
      s4.fld g n = s.fld g n :=
    (hrest4 g n 0 0 hg hl).trans ((hfr3.fld g n 0 0 (by rw [hg]; rfl)).trans ((hfru.fld g n 0 0 (by rw [hg]; rfl)).trans (hrest2 g n 0 0 hg hd)))
  have htec := hstat CAN_STAT.TEC rfl rfl rfl
  have hrec := hstat CAN_STAT.REC rfl rfl rfl
  have hst4 : s4.canSt n = 2 := (hstat CAN_STAT.STATE rfl rfl rfl).trans hst
  have hsof4 : s4.reg ⟨.CAN_TXT, n, b, 0⟩ = sof := (hfr4.regOf _ rfl).trans ((hfr3.regOf _ rfl).trans hsof)
  have hcp4 : (s4.cp n).sent = some f ∧ (s4.cp n).after = 0 := by
    rw [hq4.sent n, hq4.after n]
    exact hcp2
  clear_value s4
  obtain ⟨hc5, -⟩ := State.confine_shows (s := s4) (n := n) (tec := s4.fld CAN_STAT.TEC n - 1) (rec := s4.fld CAN_STAT.REC n)
    (by omega) (by omega)
  have hafter5 : (s5.cp n).after = 0 := (hc5.queues.after n).trans hcp4.2
  rw [State.canAfter_none hafter5, State.bst_of_lt hb, State.ship_fld, State.ship_fld, State.ship_reg, State.ship_cp]
  refine ⟨?_, ?_, ?_, ?_⟩
  · exact (hc5.frame.fld CAN_TXS.ST n b 0 rfl).trans ((State.bst_of_lt hb).symm.trans hbst4)
  · exact (hc5.frame.regOf _ rfl).trans hsof4
  · rw [hc5.tecIs, htec]
  · exact (hc5.queues.sent n).trans hcp4.1

/-- An ordinary error ends the attempt (R413, R416). -/
theorem exec_canTxError_retries {e : CanErr} (hac : s.active n = some b) (hb : b < 32) (hst : s.canSt n = 2)
    (hafter : (s.cp n).after = 0) (hlate : (s.cp n).late = false) (he : e.lec ≠ 3) (hex : e.exempt = false) (h8 : e.eights = 0)
    (ht : s.fld CAN_STAT.TEC n < 120) (hr : s.fld CAN_STAT.REC n < 128) :
    ∃ t, exec (.canTxError n e none) s = .next t ∧ t.bst n b = bPending ∧ t.fld CAN_STAT.TEC n = s.fld CAN_STAT.TEC n + 8 ∧
      t.fld CAN_ERR.LEC n = e.lec % 8 ∧ t.canSt n = 2 := by
  refine ⟨_, rfl, ?_⟩
  rw [hac]
  dsimp -zeta only
  extract_lets +onlyGivenNames s1 passive s2 s3 held s4 s5 none8 s6
  have hs3 : s3 = s2 := if_neg he
  have hfr2 : Fr (maskOf [.CAN_ERR] []) s s2 := State.canErr_fr rfl (.id _ _)
  have hlec2 : s2.fld CAN_ERR.LEC n = e.lec % 8 :=
    (State.fld_put_apart _ _ (by decide)).trans ((State.fld_flag_apart _ _ (by decide)).trans (State.fld_put_same _ _ (by decide)))
  have hcp2 (k : Nat) : s2.cp k = s.cp k := congrArg (fun x => Tbl.get x k default) (hfr2.can rfl)
  have hbst2 (k : Nat) : s2.bst n k = s.bst n k := by
    unfold State.bst
    rw [hcp2 n, hfr2.fld CAN_TXS.ST n k 0 rfl]
  have hac2 : s2.active n = some b := by
    unfold State.active at hac ⊢
    simpa only [hbst2] using hac
  have htec2 : s2.fld CAN_STAT.TEC n = s.fld CAN_STAT.TEC n := hfr2.fld _ _ _ _ rfl
  have hrec2 : s2.fld CAN_STAT.REC n = s.fld CAN_STAT.REC n := hfr2.fld _ _ _ _ rfl
  have hst2 : s2.canSt n = 2 := (hfr2.fld CAN_STAT.STATE n 0 0 rfl).trans hst
  have hs5 : s5 = (s2.setCp n { s2.cp n with late := false }).setBst n b bPending := by
    have hnl : ¬ (s2.cp n).late = true := by simp [hcp2, hlate]
    have hheld : ¬ held = true := by simp [held, he]
    refine (if_neg hheld).trans ?_
    rw [hs3, State.retry, hac2]
    exact if_neg hnl
  obtain ⟨u, hu⟩ : ∃ u, u = s2.setCp n { s2.cp n with late := false } := ⟨_, rfl⟩
  have hfru : Fr (maskOf [] [.can]) s2 u := by
    rw [hu]
    exact State.setCp_fr rfl (.id _ _)
  have hafteru : (u.cp n).after = 0 := by
    rw [hu, State.cp_setCp, hcp2]
    exact hafter
  rw [← hu] at hs5
  obtain ⟨hbst5, -⟩ := State.setBst_shows (s := u) (n := n) (b := b) (st := bPending) hb (by decide)
  have hq5 : QueuesKept u s5 := hs5 ▸ (QueuesKept.refl u).setBst
  have hfr5 : Fr (allBut [.CAN_STAT, .CAN_ERR] []) s2 s5 := hs5 ▸ State.setBst_fr rfl (hfru.mono rfl)
  rw [← hs5] at hbst5
  have hafter5 : (s5.cp n).after = 0 := (hq5.after n).trans hafteru
  have hnone : none8 = false := by simp [none8, hex]
  have htec5 : s5.fld CAN_STAT.TEC n = s.fld CAN_STAT.TEC n := (hfr5.fld _ _ _ _ rfl).trans htec2
  have hrec5 : s5.fld CAN_STAT.REC n = s.fld CAN_STAT.REC n := (hfr5.fld _ _ _ _ rfl).trans hrec2
  have hst5 : s5.canSt n = 2 := (hfr5.fld CAN_STAT.STATE n 0 0 rfl).trans hst2
  have hlec5 : s5.fld CAN_ERR.LEC n = e.lec % 8 := (hfr5.fld _ _ _ _ rfl).trans hlec2
  have hs6 : s6 = s5.confine n (s.fld CAN_STAT.TEC n + 8) (s.fld CAN_STAT.REC n) := by
    unfold s6
    rw [hnone, htec5, hrec5, h8]
    rfl
  clear_value s5 s6
  obtain ⟨hc6, hst6⟩ := State.confine_shows (s := s5) (n := n) (tec := s.fld CAN_STAT.TEC n + 8) (rec := s.fld CAN_STAT.REC n)
    (by omega) (by omega)
  rw [← hs6] at hc6 hst6
  have hafter6 : (s6.cp n).after = 0 := (hc6.queues.after n).trans hafter5
  rw [State.canAfter_none hafter6, State.bst_of_lt hb, State.canSt, State.ship_fld, State.ship_fld, State.ship_fld, State.ship_fld]
  exact ⟨(hc6.frame.fld CAN_TXS.ST n b 0 rfl).trans hbst5, hc6.tecIs, (hc6.frame.fld CAN_ERR.LEC n 0 0 rfl).trans hlec5,
    hst6 (by omega) (by omega) hst5⟩

/-- The table of the gateway's frames gives back the frame put into it. -/
theorem Tbl.find?_set {α : Type} (t : Tbl Nat α) (k : Nat) (v : α) : (Tbl.set t k v).find? (fun p => p.1 == k) = some (k, v) := by
  induction t with
  | nil => simp [Tbl.set]
  | cons p t ih =>
    obtain ⟨k', v'⟩ := p
    unfold Tbl.set
    split
    · simp
    · rw [List.find?_cons_of_neg (by simpa using ‹_›), ih]

/-- A waiting frame goes into the gateway's buffer at rest (R445). -/
theorem exec_gatewayBufferLoad_loads {i : Nat} {f : CanFrame} {rest : List (Nat × CanFrame)} (hfit : s.canFitted n = true)
    (hgw : s.bit CAN_CFG.GWTX n = true) (hq : (s.cp n).gwFifo = (i, f) :: rest) (hst : s.bst n 24 = bIdle ∨ 4 ≤ s.bst n 24) :
    ∃ t, exec (.gatewayBufferLoad n) s = .next t ∧ t.bst n 24 = bPending ∧ (t.cp n).gwFifo = rest ∧ t.txFrame n 24 = f := by
  have hfind : ([24, 25, 26, 27, 28, 29, 30, 31].find? fun b => s.bst n b == bIdle || decide (4 ≤ s.bst n b)) = some 24 :=
    List.find?_cons_of_pos (by simpa using hst)
  refine ⟨_, rfl, ?_⟩
  rw [if_neg (by simp [hfit, hgw]), hq, hfind]
  dsimp -zeta only
  extract_lets +onlyGivenNames x s1 s2
  have hcp1 : s1.cp n = { s.cp n with gwFifo := rest, gwBuf := Tbl.set (s.cp n).gwBuf 24 f } := State.cp_setCp _
  have h1 : Fr (maskOf [] [.can]) s s1 := State.setCp_fr rfl (.id _ _)
  have h2 : Fr (maskOf [.CAN_TXW] []) s1 s2 := Fr.forEach (fun p t h => h.trans (Fr.setReg rfl)) (.id _ _)
  obtain ⟨u, hu⟩ : ∃ u, u = s2.setReg ⟨.CAN_TXS, n, 24, 0⟩ 0 := ⟨_, rfl⟩
  have h3 : Fr (maskOf [.CAN_TXS] []) s2 u := by
    rw [hu]
    exact Fr.setReg rfl
  rw [← hu]
  obtain ⟨hbst, -⟩ := State.setBst_shows (s := u) (n := n) (b := 24) (st := bPending) (by decide) (by decide)
  obtain ⟨v, hv⟩ : ∃ v, v = u.setBst n 24 bPending := ⟨_, rfl⟩
  have h4 : Fr (allBut [.CAN_CFG] []) u v := by
    rw [hv]
    exact State.setBst_fr rfl (.id _ _)
  have hq4 : QueuesKept u v := by
    rw [hv]
    exact (QueuesKept.refl u).setBst
  rw [← hv] at hbst ⊢
  have hcpu : u.can = s1.can := (h3.can rfl).trans (h2.can rfl)
  have hgwv : v.bit CAN_CFG.GWTX n = true := by
    rw [State.bit_of_fld (h4.fld CAN_CFG.GWTX n 0 0 rfl), State.bit_of_fld (h3.fld CAN_CFG.GWTX n 0 0 rfl),
      State.bit_of_fld (h2.fld CAN_CFG.GWTX n 0 0 rfl), State.bit_of_fld (h1.fld CAN_CFG.GWTX n 0 0 rfl), hgw]
  have hlast : (v.cp n).lasting = (s1.cp n).lasting := by
    rw [hq4.lasting n, State.cp, State.cp, hcpu]
  rw [hcp1] at hlast
  have hfifo : (v.cp n).gwFifo = rest := congrArg (·.2.2.2.1) hlast
  have hbuf : (v.cp n).gwBuf = Tbl.set (s.cp n).gwBuf 24 f := congrArg (·.2.2.2.2) hlast
  have hframe : v.txFrame n 24 = f := by
    have howned : v.gwOwned n 24 = true := by simp [State.gwOwned, hgwv]
    rw [State.txFrame, if_neg (ne_nmBuf (by decide)), howned, hbuf, if_pos rfl, Tbl.find?_set]
  rw [State.bst_of_lt (by decide), State.ship_fld, State.ship_cp, State.ship_txFrame]
  exact ⟨hbst, hfifo, hframe⟩

/-- A word written to a buffer that is neither the gateway's nor under way (R409). -/
theorem exec_canTxBufferWrite_stores {w : Who} {i : Nat} {x : Word} (hfit : s.canFitted n = true) (hb : b < 32) (hi : i < 21)
    (hgw : s.gwOwned n b = false) (hp : s.bst n b ≠ bPending) (ha : s.bst n b ≠ bActive) (hh : s.bst n b ≠ bHeld)
    (hw : s.reaches w 13 = true) : ∃ t, exec (.canTxBufferWrite w n b i x) s = .next t ∧ t.txw n b i = x := by
  refine ⟨_, rfl, ?_⟩
  rw [State.asWho_of_reaches hw, State.runCanTxBufferWrite, if_neg (by simp [hfit, hgw]; omega), if_neg (by simp [hp, ha, hh]),
    State.txw, State.ship_reg]
  exact State.reg_setReg_self _ _ _

/-- Settles O49: every clause follows the buffer's state through the rules' own effects; an event that a port raises on its way leaves
the ports but their queues' locks. -/
theorem canTransmit : Obligations.CanTransmit := by
  unfold Obligations.CanTransmit
  refine ⟨?_, ?_, ?_, ?_, ?_, ?_, ?_, ?_, ?_⟩
  · intro s w n b i x hfit hb hi hgw hp ha hh hw
    exact exec_canTxBufferWrite_stores hfit hb hi hgw hp ha hh hw
  · intro s w n hfit hp ha hh hbad hw
    exact exec_canTxRequest_pends hfit hp ha hh hbad hw
  · intro s w n hfit hp ha hh hbad hw
    exact exec_canTxRequest_fails hfit hp ha hh hbad hw
  · intro s w n a hfit hst hw
    exact exec_canTxCancel_cancels hfit hst hw
  · intro s n b _ hst hok
    exact exec_canStagingDone_keeps hst hok
  · intro s n b hfit hst hac hnm hfirst hb
    exact exec_canTxChoice_activates hfit hst hac hnm hfirst hb
  · intro s n b k sof hac hb hst hafter hr ht
    exact exec_canTxSuccess_ends hac hb hst hafter hr ht
  · intro s n b e hac hb hst hafter hlate he hex h8 ht hr
    exact exec_canTxError_retries hac hb hst hafter hlate he hex h8 ht hr
  · intro s n i f rest hfit hgw hq hst
    exact exec_gatewayBufferLoad_loads hfit hgw hq hst

end Sys2Proof.Machine
end

section
/-! LIN ports: slots, responses, schedules and data buffers (statement O50; spec/13 R427 to R435). -/

namespace Sys2Proof.Machine

variable {s t : State} {n k : Nat} {w : Who}

/-! ## The state of a port -/

theorem State.lp_setLp (x : LinSt) : (s.setLp n x).lp n = x := Tbl.get_set_self _ _ _ _

theorem State.ship_lp (u : State) : (s.ship u).lp n = u.lp n := rfl

theorem State.ship_linBytes (u : State) : (s.ship u).linBytes n k = u.linBytes n k := rfl

theorem Fr.lp {m : Nat} (h : Fr m s t) (hm : m.testBit 314 = false) : t.lp n = s.lp n :=
  congrArg (fun x => Tbl.get x n default) (h.lin hm)

/-- A table begins at its entry 0, no slot begun (R430). -/
theorem State.linTable_shows {a : Nat} : (s.linTable n a).fld LIN_SCHED.RUNNING n = a % 32 ∧
    (s.linTable n a).fld LIN_SCHED.ENTRY n = 0 ∧
    (s.linTable n a).lp n = { s.lp n with inSlot := false, done := false, want := none, ret := none, coll := false } ∧
    (s.linTable n a).fld LIN_SCHED.TABLE n = s.fld LIN_SCHED.TABLE n := by
  unfold State.linTable
  extract_lets +onlyGivenNames x s1
  have hs1 : Fr (maskOf [] [.lin]) s s1 := Fr.set_lin rfl (.id _ _)
  refine ⟨?_, State.fld_put_same _ _ (by decide), State.lp_setLp _, ?_⟩
  · exact (State.fld_put_apart _ _ (by decide)).trans (State.fld_put_same _ _ (by decide))
  · exact (State.fld_put_apart _ _ (by decide)).trans ((State.fld_put_apart _ _ (by decide)).trans (hs1.fld _ _ _ _ rfl))

/-! ## Data slots -/

theorem leNat_lt (bs : List Byte) : leNat bs < 256 ^ bs.length := by
  induction bs with
  | nil => exact Nat.one_pos
  | cons b bs ih =>
    have hb := b.isLt
    have h : leNat (b :: bs) = b.toNat + 256 * leNat bs := rfl
    rw [h, List.length_cons, Nat.pow_succ]
    omega

theorem leBytes_wordOf {bs : List Byte} (h : 4 ≤ bs.length) : leBytes (wordOf bs).toNat 4 = bs.take 4 := by
  have hlen : (bs.take 4).length = 4 := by simp; omega
  have hlt := leNat_lt (bs.take 4)
  have hback := leBytes_leNat (bs.take 4)
  rw [hlen] at hlt hback
  rw [wordOf, BitVec.toNat_ofNat, Nat.mod_eq_of_lt (by simpa using hlt), hback]

/-- A data slot reads the bytes put into it, and behind them those it had (R432, R434). -/
theorem State.linBytes_linPut {bs : List Byte} (h : bs.length ≤ 8) :
    (s.linPut n k bs).linBytes n k = bs ++ (s.linBytes n k).drop bs.length := by
  have hlen : (s.linBytes n k).length = 8 := by simp [State.linBytes, leBytes_length]
  unfold State.linPut
  extract_lets +onlyGivenNames all
  have hall : all = bs ++ (s.linBytes n k).drop bs.length := by
    unfold all
    rw [List.take_of_length_le h]
  have hlall : all.length = 8 := by
    rw [hall, List.length_append, List.length_drop]
    omega
  clear_value all
  have hd0 : ((s.setReg ⟨.LIN_D0, n, k, 0⟩ (wordOf all)).setReg ⟨.LIN_D1, n, k, 0⟩ (wordOf (all.drop 4))).reg ⟨.LIN_D0, n, k, 0⟩ =
      wordOf all := (State.reg_setReg_ne _ _ (by simp)).trans (State.reg_setReg_self _ _ _)
  rw [State.linBytes, hd0, State.reg_setReg_self, leBytes_wordOf (by omega), leBytes_wordOf (by simp; omega),
    List.take_of_length_le (l := all.drop 4) (by simp; omega), List.take_append_drop, hall]

/-- RES of a data slot (R434). -/
theorem State.linRes_shows {res : Nat} (h : res < 8) : (s.linRes n k res).fld LIN_D2.RES n k = res :=
  (State.fld_put_apart _ _ (by decide)).trans ((State.fld_put_same _ _ (by decide)).trans (Nat.mod_eq_of_lt h))

theorem State.linRes_mask {res : Nat} : Fr (maskOf [.LIN_D2] []) s (s.linRes n k res) := State.linRes_fr rfl (.id _ _)

theorem State.linDone_mask : Fr (maskOf [] [.lin]) s (s.linDone n) := State.linDone_fr rfl (.id _ _)

theorem State.linDone_done : ((s.linDone n).lp n).done = true := congrArg LinSt.done (State.lp_setLp _)

/-- The entry's fields stand while the entry and the place in the schedule do. -/
theorem Fr.linTe {m : Nat} (h : Fr m s t) (h1 : m.testBit Reg.LIN_SCHED.ctorIdx = false) (h2 : m.testBit Reg.LIN_TE.ctorIdx = false)
    (f : Fld) : t.linTe n f = s.linTe n f := by
  unfold State.linTe State.linEntry
  rw [h.fld LIN_SCHED.RUNNING n 0 0 h1, h.fld LIN_SCHED.ENTRY n 0 0 h1, h.regOf .LIN_TE h2]

/-! ## Routes -/

theorem Tbl.filterMap_set {κ α β : Type} [DecidableEq κ] {g : κ × α → Option β} {a : κ} (h : ∀ v, g (a, v) = none) (t : Tbl κ α) (v : α) :
    (Tbl.set t a v).filterMap g = t.filterMap g := by
  induction t with
  | nil => simp [Tbl.set, h]
  | cons p t ih =>
    obtain ⟨a', v'⟩ := p
    unfold Tbl.set
    split
    case isTrue hk =>
      subst hk
      rw [List.filterMap_cons_none (h v), List.filterMap_cons_none (h v')]
    case isFalse => simp only [List.filterMap_cons, ih]

/-- The registers that the gateway's routes are read from (R441). -/
def gwRegs : List Reg := [.GW_RT0, .GW_RT1, .GW_RT2, .GW_BUSID]

/-- A write of a register that no route is read from leaves every route as it is. -/
theorem State.routeOf_setReg {r : RegRef} {x : Word} {src : GwSrc} {f : CanFrame} (hr : r.reg ∉ gwRegs) :
    (s.setReg r x).routeOf src f = s.routeOf src f := by
  have hne (R : Reg) (i : Nat) (hR : R ∈ gwRegs) : (s.setReg r x).reg ⟨R, i, 0, 0⟩ = s.reg ⟨R, i, 0, 0⟩ :=
    State.reg_setReg_ne _ _ (by rintro rfl; exact hr hR)
  have hhit : (s.setReg r x).routeHit src f = s.routeHit src f := by
    funext i
    unfold State.routeHit State.bit State.fld Fld.ref
    rw [hne .GW_RT0 i (by decide), hne .GW_RT1 i (by decide), hne .GW_RT2 i (by decide), hne .GW_BUSID i (by decide)]
  have hset : (s.setReg r x).regs.filterMap (fun p => if p.1.reg = .GW_RT2 then some p.1.i else none) =
      s.regs.filterMap (fun p => if p.1.reg = .GW_RT2 then some p.1.i else none) := by
    refine Tbl.filterMap_set (fun v => if_neg ?_) _ _
    intro h
    exact hr (h ▸ by decide)
  unfold State.routeOf
  rw [hset, hhit]

/-! ## Slots and responses -/

/-- A slot opens (R428, R432). -/
theorem exec_linSlotStart_opens (hfit : s.linFitted n = true) (hen : s.bit LIN_CFG.EN n = true) (hin : (s.lp n).inSlot = false)
    (hrun : s.fld LIN_SCHED.RUNNING n < 16) (hgo : (s.lp n).goSleep = false) : ∃ t, exec (.linSlotStart n) s = .next t ∧
      (t.lp n).inSlot = true ∧ (t.lp n).done = false ∧
      (t.lp n).sending = if s.linTe n LIN_TE.PUB = 1 then (s.linBytes n (s.linTe n LIN_TE.DSLOT)).take (s.linTe n LIN_TE.LEN + 1) else [] := by
  have hadv : s.linAdvance n = s := if_pos (by simp [hin])
  refine ⟨_, rfl, ?_⟩
  rw [if_neg (by simp [hfit, hen]), hadv, State.ship_lp]
  dsimp only
  rw [if_neg (by omega), if_neg (by simp [hgo]), State.lp_setLp]
  exact ⟨rfl, rfl, rfl⟩

/-- The go-to-sleep command takes the slot, and the schedule stops (R459). -/
theorem exec_linSlotStart_sleeps (hfit : s.linFitted n = true) (hen : s.bit LIN_CFG.EN n = true) (hin : (s.lp n).inSlot = false)
    (hrun : s.fld LIN_SCHED.RUNNING n < 16) (hgo : (s.lp n).goSleep = true) : ∃ t, exec (.linSlotStart n) s = .next t ∧
      (t.lp n).asleep = true ∧ (t.lp n).goSleep = false ∧ t.fld LIN_SCHED.RUNNING n = 16 := by
  have hadv : s.linAdvance n = s := if_pos (by simp [hin])
  refine ⟨_, rfl, ?_⟩
  rw [if_neg (by simp [hfit, hen]), hadv, State.ship_lp, State.ship_fld]
  dsimp only
  rw [if_neg (by omega), if_pos hgo, State.lp_setLp]
  exact ⟨rfl, rfl, State.linTable_shows.1⟩

/-- The response expected fills its data slot (R434). -/
theorem exec_linResponseReceived_stores {data : List Byte} {chk : Byte} (hfit : s.linFitted n = true) (haw : s.linAwaits n = true)
    (hpub : s.linTe n LIN_TE.PUB = 0) (hlen : data.length = s.linTe n LIN_TE.LEN + 1)
    (hchk : linChecksum (s.linTe n LIN_TE.CHK = 1) (s.linTe n LIN_TE.FID) data = chk)
    (hrt : s.routeOf ⟨1, n, 8 + n, 0⟩ (linFrame (s.linTe n LIN_TE.FID) data) = none) :
    ∃ t, exec (.linResponseReceived n data chk false false) s = .next t ∧ (t.lp n).done = true ∧
      t.fld LIN_D2.RES n (s.linTe n LIN_TE.DSLOT) = 1 ∧ (t.linBytes n (s.linTe n LIN_TE.DSLOT)).take data.length = data := by
  have hlt : s.linTe n LIN_TE.LEN < 8 := ext_lt _ _ _
  have hdone : Fr (maskOf [] [.lin]) s (s.linDone n) := State.linDone_mask
  have hte (f : Fld) : (s.linDone n).linTe n f = s.linTe n f := hdone.linTe rfl rfl f
  refine ⟨_, rfl, ?_⟩
  rw [if_neg (by simp [hfit, haw])]
  extract_lets +onlyGivenNames k s1
  have hs1 : s1 = s.linDone n := rfl
  clear_value s1
  subst hs1
  rw [if_neg (by simp), if_neg (by simp), hte, hte, hte, hte, if_neg (by omega), if_neg (by simp [hlen, hchk])]
  obtain ⟨u, hu⟩ : ∃ u, u = ((s.linDone n).linPut n k data).linRes n k 1 := ⟨_, rfl⟩
  have hroute : u.routeOf ⟨1, n, 8 + n, 0⟩ (linFrame (s.linTe n LIN_TE.FID) data) = none := by
    have h0 : Reg.LIN_D0 ∉ gwRegs := by decide
    have h1 : Reg.LIN_D1 ∉ gwRegs := by decide
    have h2 : Reg.LIN_D2 ∉ gwRegs := by decide
    rw [hu, State.linRes, State.wrap, State.put, State.routeOf_setReg h2, State.put, State.routeOf_setReg h2, State.linPut,
      State.routeOf_setReg h1, State.routeOf_setReg h0]
    exact hrt
  have hput : Fr (maskOf [.LIN_D0, .LIN_D1, .LIN_D2] []) (s.linDone n) u := by
    rw [hu]
    exact State.linRes_fr rfl (State.linPut_fr rfl (.id _ _))
  rw [← hu, State.gwOffer, hroute]
  change (s.ship u |>.lp n).done = true ∧ (s.ship u).fld LIN_D2.RES n k = 1 ∧ ((s.ship u).linBytes n k).take data.length = data
  rw [State.ship_lp, State.ship_fld, State.ship_linBytes, hput.lp rfl]
  refine ⟨State.linDone_done, hu ▸ State.linRes_shows (by decide), ?_⟩
  have hbytes : u.linBytes n k = data ++ ((s.linDone n).linBytes n k).drop data.length := by
    have hres : Fr (maskOf [.LIN_D2] []) ((s.linDone n).linPut n k data) u := hu ▸ State.linRes_mask
    rw [← State.linBytes_linPut (by omega), State.linBytes, State.linBytes, hres.regOf .LIN_D0 rfl, hres.regOf .LIN_D1 rfl]
  rw [hbytes, List.take_append_of_le_length (Nat.le_refl _), List.take_length]

/-- What a response that fails leaves: its result, a report, and the slot's bytes as they were (R434, R450). -/
theorem State.linFails_shows {res kind d : Nat} (hres : res < 8) : (((((s.linDone n).linRes n k res).raise 10 (8 + n) kind d).lp n).done = true ∧
    (((s.linDone n).linRes n k res).raise 10 (8 + n) kind d).fld LIN_D2.RES n k = res) ∧
    (((s.linDone n).linRes n k res).raise 10 (8 + n) kind d).linBytes n k = s.linBytes n k := by
  have hd : Fr (maskOf [] [.lin]) s (s.linDone n) := State.linDone_mask
  have hr : Fr (maskOf [.LIN_D2] []) (s.linDone n) ((s.linDone n).linRes n k res) := State.linRes_mask
  have hf : Fr (maskOf [] [.flt]) ((s.linDone n).linRes n k res) (((s.linDone n).linRes n k res).raise 10 (8 + n) kind d) :=
    State.raise_fr rfl (.id _ _)
  have hall := (hd.mono (k := maskOf [.LIN_D2] [.lin, .flt]) rfl).trans ((hr.mono rfl).trans (hf.mono rfl))
  refine ⟨⟨?_, (hf.fld _ _ _ _ rfl).trans (State.linRes_shows hres)⟩, ?_⟩
  · rw [hf.lp rfl, hr.lp rfl]
    exact State.linDone_done
  · rw [State.linBytes, State.linBytes, hall.regOf .LIN_D0 rfl, hall.regOf .LIN_D1 rfl]

/-- A response with a wrong checksum (R434). -/
theorem exec_linResponseReceived_wrong {data : List Byte} {chk : Byte} (hfit : s.linFitted n = true) (haw : s.linAwaits n = true)
    (hpub : s.linTe n LIN_TE.PUB = 0) (hchk : linChecksum (s.linTe n LIN_TE.CHK = 1) (s.linTe n LIN_TE.FID) data ≠ chk) :
    ∃ t, exec (.linResponseReceived n data chk false false) s = .next t ∧ (t.lp n).done = true ∧
      t.fld LIN_D2.RES n (s.linTe n LIN_TE.DSLOT) = 3 ∧
      t.linBytes n (s.linTe n LIN_TE.DSLOT) = s.linBytes n (s.linTe n LIN_TE.DSLOT) := by
  have hdone : Fr (maskOf [] [.lin]) s (s.linDone n) := State.linDone_mask
  have hte (f : Fld) : (s.linDone n).linTe n f = s.linTe n f := hdone.linTe rfl rfl f
  refine ⟨_, rfl, ?_⟩
  rw [if_neg (by simp [hfit, haw])]
  extract_lets +onlyGivenNames k s1
  have hs1 : s1 = s.linDone n := rfl
  clear_value s1
  subst hs1
  rw [if_neg (by simp), if_neg (by simp), hte, hte, hte, hte, if_neg (by omega), if_pos (by simp [hchk]), State.ship_lp, State.ship_fld,
    State.ship_linBytes, ← and_assoc]
  exact State.linFails_shows (by decide)

/-- A window that ends with no byte (R429). -/
theorem exec_linResponseTimeout_records (hfit : s.linFitted n = true) (haw : s.linAwaits n = true) (hpub : s.linTe n LIN_TE.PUB = 0) :
    ∃ t, exec (.linResponseTimeout n false false) s = .next t ∧ (t.lp n).done = true ∧
      t.fld LIN_D2.RES n (s.linTe n LIN_TE.DSLOT) = 2 := by
  refine ⟨_, rfl, ?_⟩
  rw [if_neg (by simp [hfit, haw, hpub])]
  extract_lets +onlyGivenNames k s1
  rw [if_neg (by simp), if_neg (by simp), State.ship_lp, State.ship_fld]
  exact (State.linFails_shows (by decide)).1

/-- A dominant bus in a slot (R450). -/
theorem exec_linBusDominant_raises (hfit : s.linFitted n = true) (hon : s.ethOn = true) (hen : s.bit LIN_CFG.EN n = true)
    (hin : (s.lp n).inSlot = true) : ∃ t, exec (.linBusDominant n) s = .next t ∧
      t.flt.raised = s.flt.raised ++ [⟨srcId 10 (8 + n) 3, s.linTe n LIN_TE.FID, s.micros, false, true, false⟩] := by
  have hlt : s.linTe n LIN_TE.FID < 64 := ext_lt _ _ _
  refine ⟨_, rfl, ?_⟩
  rw [if_neg (by simp [hfit, hon, hen]), if_pos hin]
  change s.flt.raised ++ [⟨srcId 10 (8 + n) 3, s.linTe n LIN_TE.FID % 4096, s.micros, false, true, false⟩] = _
  rw [Nat.mod_eq_of_lt (by omega)]

/-! ## Schedules, wake pulses and data buffers -/

/-- A table chosen while none runs begins (R430). -/
theorem exec_linSchedWrite_starts {x : Word} (hfit : s.linFitted n = true) (hl : s.legalWrite w .LIN_SCHED x = true)
    (hb : s.rwsBarred w ⟨.LIN_SCHED, n, 0, 0⟩ x = false) (has : (s.lp n).asleep = false) (hre : (s.lp n).resume = false)
    (hin : (s.lp n).inSlot = false) (hw : s.reaches w 14 = true) : ∃ t, exec (.linSchedWrite w n x) s = .next t ∧
      t.fld LIN_SCHED.RUNNING n = ext x 0 5 ∧ t.fld LIN_SCHED.ENTRY n = 0 ∧ t.fld LIN_SCHED.TABLE n = ext x 0 5 := by
  obtain ⟨u, hu⟩ : ∃ u, u = s.storeWrite w ⟨.LIN_SCHED, n, 0, 0⟩ x := ⟨_, rfl⟩
  have hlin : u.lp n = s.lp n := by
    rw [hu]
    rfl
  have htab : u.fld LIN_SCHED.TABLE n = ext x 0 5 := by
    have hword : (s.storeWrite w ⟨.LIN_SCHED, n, 0, 0⟩ x).reg ⟨.LIN_SCHED, n, 0, 0⟩ = ins (s.reg ⟨.LIN_SCHED, n, 0, 0⟩) 0 5 (ext x 0 5) :=
      State.reg_setReg_self _ _ _
    rw [hu]
    change ext ((s.storeWrite w ⟨.LIN_SCHED, n, 0, 0⟩ x).reg ⟨.LIN_SCHED, n, 0, 0⟩) 0 5 = ext x 0 5
    rw [hword, ext_ins_self _ _ (by decide), Nat.mod_eq_of_lt (ext_lt x 0 5)]
  have hsel : u.linSelect n (ext x 0 5) = u.linTable n (ext x 0 5) := by
    unfold State.linSelect
    rw [hlin]
    dsimp only
    rw [if_neg (by simp [has, hre]), if_pos (by simp [hin])]
  refine ⟨_, rfl, ?_⟩
  rw [State.asWho_of_reaches hw, State.runLinSchedWrite, if_neg (by simp [hfit]), State.accept_of_legal _ hl hb, ← hu, hsel,
    State.ship_fld, State.ship_fld, State.ship_fld]
  obtain ⟨hrun, hent, -, hsame⟩ := State.linTable_shows (s := u) (n := n) (a := ext x 0 5)
  exact ⟨hrun.trans (Nat.mod_eq_of_lt (ext_lt _ _ _)), hent, hsame.trans htab⟩

theorem exec_linCmdWake_pulses (hfit : s.linFitted n = true) (hw : s.reaches w 14 = true) :
    ∃ t, exec (.linCmdWake w n) s = .next t ∧ (t.lp n).pulseAt = some s.tb := by
  refine ⟨_, rfl, ?_⟩
  rw [State.asWho_of_reaches hw, State.runLinCmdWake, if_neg (by simp [hfit]), State.ship_lp, State.linPulse, State.lp_setLp]

/-- Word 0 waits for word 1 (R433). -/
theorem exec_linDataWrite_waits {x : Word} (hfit : s.linFitted n = true) (hk : k < 64) (hw : s.reaches w 14 = true) :
    ∃ t, exec (.linDataWrite w n k 0 x) s = .next t ∧ Tbl.get (t.lp n).shadow k 0 = x := by
  refine ⟨_, rfl, ?_⟩
  rw [State.asWho_of_reaches hw, State.runLinDataWrite, if_neg (by simp [hfit]; omega), State.ship_lp]
  change Tbl.get ((s.setLp n { s.lp n with shadow := Tbl.set (s.lp n).shadow k x }).lp n).shadow k 0 = x
  rw [State.lp_setLp]
  exact Tbl.get_set_self _ _ _ _

/-- A table that reads the same with two different defaults holds the key. -/
theorem Tbl.find?_of_get {α : Type} {t : Tbl Nat α} {a b : α} (hab : a ≠ b) (h : Tbl.get t k a = Tbl.get t k b) :
    ∃ v, t.find? (fun p => p.1 == k) = some (k, v) ∧ Tbl.get t k b = v := by
  induction t with
  | nil => exact absurd h hab
  | cons p t ih =>
    obtain ⟨k', v'⟩ := p
    by_cases hk : k' = k
    · subst hk
      exact ⟨v', List.find?_cons_of_pos (by simp), if_pos rfl⟩
    · have hget (d : α) : Tbl.get ((k', v') :: t) k d = Tbl.get t k d := if_neg hk
      rw [hget, hget] at h
      obtain ⟨v, hf, hg⟩ := ih h
      exact ⟨v, (List.find?_cons_of_neg (by simpa using hk)).trans hf, (hget b).trans hg⟩

/-- Word 1 takes both words into effect (R433). -/
theorem exec_linDataWrite_takes {x : Word} (hfit : s.linFitted n = true) (hk : k < 64)
    (hsh : Tbl.get (s.lp n).shadow k 1 = Tbl.get (s.lp n).shadow k 0) (hw : s.reaches w 14 = true) :
    ∃ t, exec (.linDataWrite w n k 1 x) s = .next t ∧ t.reg ⟨.LIN_D1, n, k, 0⟩ = x ∧
      t.reg ⟨.LIN_D0, n, k, 0⟩ = Tbl.get (s.lp n).shadow k 0 := by
  obtain ⟨v, hf, hv⟩ := Tbl.find?_of_get (by decide) hsh
  refine ⟨_, rfl, ?_⟩
  rw [State.asWho_of_reaches hw, State.runLinDataWrite, if_neg (by simp [hfit]; omega), State.ship_reg, State.ship_reg]
  dsimp only
  rw [hf]
  refine ⟨State.reg_setReg_self _ _ _, (State.reg_setReg_ne _ _ (by simp)).trans ((State.reg_setReg_self _ _ _).trans hv.symm)⟩

/-- A read of word 0 (R434). -/
theorem exec_linDataRead_reads (hfit : s.linFitted n = true) (hk : k < 64) (hw : s.reaches w 14 = true) :
    ∃ t, exec (.linDataRead w n k 0) s = .next t ∧ t.rdata = s.reg ⟨.LIN_D0, n, k, 0⟩ := by
  refine ⟨_, rfl, ?_⟩
  rw [State.asWho_of_reaches hw, State.runLinDataRead, if_neg (by simp [hfit]; omega)]
  rfl

/-- The kept table goes on (R461, R464, R470). -/
theorem exec_linScheduleResume_resumes (hfit : s.linFitted n = true) (hre : (s.lp n).resume = true) :
    ∃ t, exec (.linScheduleResume n) s = .next t ∧ (t.lp n).resume = false ∧ t.fld LIN_SCHED.RUNNING n = (s.lp n).table % 32 ∧
      t.fld LIN_SCHED.ENTRY n = 0 := by
  refine ⟨_, rfl, ?_⟩
  rw [if_pos (by simp [hfit, hre]), State.ship_lp, State.ship_fld, State.ship_fld]
  obtain ⟨hrun, hent, hlp, -⟩ := State.linTable_shows (s := s.setLp n { s.lp n with resume := false }) (n := n) (a := (s.lp n).table)
  refine ⟨?_, hrun, hent⟩
  rw [hlp, State.lp_setLp]

/-- Settles O50: outside a slot the schedule stands, so a slot start acts on it as it is; a response ends the slot by its result, and the
data slot takes its bytes only where no route of the gateway could write it again. -/
theorem linPorts : Obligations.LinPorts := by
  unfold Obligations.LinPorts
  refine ⟨?_, ?_, ?_, ?_, ?_, ?_, ?_, ?_, ?_, ?_, ?_, ?_⟩
  · intro s n hfit hen hin hrun hgo
    exact exec_linSlotStart_opens hfit hen hin hrun hgo
  · intro s n hfit hen hin hrun hgo
    exact exec_linSlotStart_sleeps hfit hen hin hrun hgo
  · intro s n data chk hfit haw hpub hlen hchk hrt
    exact exec_linResponseReceived_stores hfit haw hpub hlen hchk hrt
  · intro s n data chk hfit haw hpub hchk
    exact exec_linResponseReceived_wrong hfit haw hpub hchk
  · intro s n hfit haw hpub
    exact exec_linResponseTimeout_records hfit haw hpub
  · intro s n hfit hon hen hin
    exact exec_linBusDominant_raises hfit hon hen hin
  · intro s w n x hfit hl hb has hre hin hw
    exact exec_linSchedWrite_starts hfit hl hb has hre hin hw
  · intro s w n hfit hw
    exact exec_linCmdWake_pulses hfit hw
  · intro s w n k x hfit hk hw
    exact exec_linDataWrite_waits hfit hk hw
  · intro s w n k x hfit hk hsh hw
    exact exec_linDataWrite_takes hfit hk hsh hw
  · intro s w n k hfit hk hw
    exact exec_linDataRead_reads hfit hk hw
  · intro s n hfit hre
    exact exec_linScheduleResume_resumes hfit hre

end Sys2Proof.Machine
end

section
/-! The Ethernet switch, its links, time synchronisation and 1722 streams (statement O51; spec/13 R436 to R449). -/

namespace Sys2Proof.Machine

variable {s t : State} {n k p q : Nat} {f : EthFrame}

theorem State.raiseCond_live (b u l d : Nat) : (s.raiseCond b u l d).srcLive b u l = true := by
  simp [State.srcLive, State.raiseCond]

theorem State.ship_ethQueue (u : State) : (s.ship u).ethQueue p q = u.ethQueue p q := rfl

theorem State.ship_talker (u : State) : (s.ship u).talker k = u.talker k := rfl

theorem State.ship_srcLive (u : State) {b l d : Nat} : (s.ship u).srcLive b l d = u.srcLive b l d := rfl

/-! ## Forwarding (R437) -/

/-- A learned address changes the table of addresses only. -/
theorem State.ethLearn_shows {a vid : Nat} : ∃ ls, s.ethLearn a vid p = { s with eth := { s.eth with learned := ls } } := by
  unfold State.ethLearn
  split
  · exact ⟨s.eth.learned, rfl⟩
  · dsimp only
    split
    · exact ⟨_, rfl⟩
    · exact ⟨_, rfl⟩

/-- A frame to a learned address goes to its port's queue alone. -/
theorem State.ethForward_learned {v : Nat} {full : BitVec 8} (hlen : ethLen f ≤ 1522)
    (hv : s.vlanOf (s.ethClass p f).1 = some v) (hp : bitOf (s.fld ETH_VLAN.MEMBER v) p = true) (hd : f.dst / 16 ≠ 0x0180C200000)
    (hl : (s.ethLearn f.src (s.ethClass p f).1 p).ethLookup f.dst (s.ethClass p f).1 = some q)
    (hq : bitOf (s.fld ETH_VLAN.MEMBER v) q = true) (hne : q ≠ p) (hup : s.ethUp q = true) :
    s.ethForward p f full = (s.ethLearn f.src (s.ethClass p f).1 p).ethPut q (s.ethClass p f).2
      { f with tag := if bitOf (s.fld ETH_VLAN.UNTAG v) q then none else some ((s.ethClass p f).2, (s.ethClass p f).1) }
      (full.getLsbD q) := by
  obtain ⟨ls, hls⟩ := State.ethLearn_shows (s := s) (p := p) (a := f.src) (vid := (s.ethClass p f).1)
  have hup1 : (s.ethLearn f.src (s.ethClass p f).1 p).ethUp q = true := by
    rw [hls]
    exact hup
  have huntag : (s.ethLearn f.src (s.ethClass p f).1 p).fld ETH_VLAN.UNTAG v = s.fld ETH_VLAN.UNTAG v := by
    rw [hls]
    rfl
  unfold State.ethForward
  dsimp only
  rw [if_neg (by omega), hv]
  dsimp only
  rw [if_neg (by simp [hp, hd]), hl]
  dsimp only
  rw [if_pos (by simp [hq, hne]), List.filter_cons_of_pos hup1, List.filter_nil]
  dsimp only [forEach, List.foldl_cons, List.foldl_nil]
  rw [huntag]

/-- A frame joins the queue of its class at the learned port. -/
theorem exec_ethFrameReceived_queues {v : Nat} {full : BitVec 8} (hfit : ethFitted s.variant p = true) (hup : s.ethUp p = true)
    (hlen : ethLen f ≤ 1522) (hv : s.vlanOf (s.ethClass p f).1 = some v) (hp : bitOf (s.fld ETH_VLAN.MEMBER v) p = true)
    (hd : f.dst / 16 ≠ 0x0180C200000) (hl : (s.ethLearn f.src (s.ethClass p f).1 p).ethLookup f.dst (s.ethClass p f).1 = some q)
    (hq : bitOf (s.fld ETH_VLAN.MEMBER v) q = true) (hne : q ≠ p) (huq : s.ethUp q = true) (hfull : full.getLsbD q = false) :
    ∃ t, exec (.ethFrameReceived p f full) s = .next t ∧
      t.ethQueue q (s.ethClass p f).2 = s.ethQueue q (s.ethClass p f).2 ++
        [{ f with tag := if bitOf (s.fld ETH_VLAN.UNTAG v) q then none else some ((s.ethClass p f).2, (s.ethClass p f).1) }] := by
  obtain ⟨ls, hls⟩ := State.ethLearn_shows (s := s) (p := p) (a := f.src) (vid := (s.ethClass p f).1)
  refine ⟨_, rfl, ?_⟩
  rw [if_pos (by simp [hfit, hup]), State.ethForward_learned hlen hv hp hd hl hq hne huq, hfull, hls, State.ship_ethQueue]
  exact Tbl.get_set_self _ _ _ _

/-- A frame to a full queue is dropped and counted. -/
theorem exec_ethFrameReceived_drops {v : Nat} {full : BitVec 8} (hfit : ethFitted s.variant p = true) (hup : s.ethUp p = true)
    (hlen : ethLen f ≤ 1522) (hv : s.vlanOf (s.ethClass p f).1 = some v) (hp : bitOf (s.fld ETH_VLAN.MEMBER v) p = true)
    (hd : f.dst / 16 ≠ 0x0180C200000) (hl : (s.ethLearn f.src (s.ethClass p f).1 p).ethLookup f.dst (s.ethClass p f).1 = some q)
    (hq : bitOf (s.fld ETH_VLAN.MEMBER v) q = true) (hne : q ≠ p) (huq : s.ethUp q = true) (hfull : full.getLsbD q = true)
    (h7 : q ≠ 7) : ∃ t, exec (.ethFrameReceived p f full) s = .next t ∧ t.fld ETH_PSTAT.DROP q = satInc (s.fld ETH_PSTAT.DROP q) 16 ∧
      t.ethQueue q (s.ethClass p f).2 = s.ethQueue q (s.ethClass p f).2 := by
  obtain ⟨ls, hls⟩ := State.ethLearn_shows (s := s) (p := p) (a := f.src) (vid := (s.ethClass p f).1)
  refine ⟨_, rfl, ?_⟩
  rw [if_pos (by simp [hfit, hup]), State.ethForward_learned hlen hv hp hd hl hq hne huq, hfull, hls, State.ship_ethQueue,
    State.ship_fld, State.ethPut, if_pos rfl, if_neg h7]
  refine ⟨(State.fld_put_same _ _ (by decide)).trans (Nat.mod_eq_of_lt ?_), rfl⟩
  change satInc _ 16 < 65536
  unfold satInc
  split <;> omega

/-! ## Links, PLCA and time synchronisation -/

/-- A lost link (R450). -/
theorem exec_ethLinkChange_lost (hon : s.ethOn = true) (hfit : ethFitted s.variant p = true) (hen : s.bit ETH_PCFG.EN p = true)
    (hlink : s.bit ETH_PSTAT.LINK p = true) : ∃ t, exec (.ethLinkChange p false) s = .next t ∧ t.bit ETH_PSTAT.LINK p = false ∧
      t.srcLive 10 (16 + p) 0 = true := by
  refine ⟨_, rfl, ?_⟩
  rw [if_neg (by simp [hon, hfit, hen]), if_neg (by simp), if_pos hlink, State.ship_bit, State.ship_srcLive]
  exact ⟨State.bit_flag_same _ _ (by decide) (by decide), State.raiseCond_live _ _ _ _⟩

/-- A failed training (R450). -/
theorem exec_ethLinkChange_failed (hon : s.ethOn = true) (hfit : ethFitted s.variant p = true) (hen : s.bit ETH_PCFG.EN p = true) :
    ∃ t, exec (.ethLinkChange p true) s = .next t ∧ t.bit ETH_PSTAT.LINK p = false ∧
      t.flt.raised = s.flt.raised ++ [⟨srcId 10 (16 + p) 1, 0, s.micros, false, true, false⟩] := by
  refine ⟨_, rfl, ?_⟩
  rw [if_neg (by simp [hon, hfit, hen]), if_pos rfl, State.ship_bit]
  exact ⟨State.bit_flag_same _ _ (by decide) (by decide), rfl⟩

/-- A link that comes up (R436). -/
theorem exec_ethLinkUp_shows (hon : s.ethOn = true) (hfit : ethFitted s.variant p = true) (hen : s.bit ETH_PCFG.EN p = true) :
    ∃ t, exec (.ethLinkUp p q) s = .next t ∧ t.bit ETH_PSTAT.LINK p = true ∧ t.fld ETH_PSTAT.SQI p = q % 8 := by
  refine ⟨_, rfl, ?_⟩
  rw [if_pos (by simp [hon, hfit, hen]), State.ship_bit, State.ship_fld]
  obtain ⟨u, hu⟩ : ∃ u, u = (s.flag ETH_PSTAT.LINK true p).put ETH_PSTAT.SQI q p := ⟨_, rfl⟩
  have hclr : Fr (allBut [.ETH_PSTAT] []) u (u.clearSrc 10 (16 + p) 0) := State.clearSrc_fr rfl (.id _ _)
  rw [← hu, State.bit_of_fld (hclr.fld ETH_PSTAT.LINK p 0 0 rfl), hclr.fld ETH_PSTAT.SQI p 0 0 rfl, hu]
  exact ⟨(State.bit_put_apart _ _ (by decide)).trans (State.bit_flag_same _ _ (by decide) (by decide)),
    State.fld_put_same _ _ (by decide)⟩

/-- A follower that misses the beacon falls back to CSMA/CD (R438). -/
theorem exec_plcaBeaconLost_falls (hon : s.ethOn = true) (hfit : ethFitted s.variant p = true) (hen : s.bit ETH_PCFG.EN p = true)
    (hp : p = 5 ∨ p = 6) (hplca : s.bit ETH_PLCA.EN p = true) (hid : s.fld ETH_PLCA.ID p ≠ 0) (hc : s.eth.csma.getLsbD p = false) :
    ∃ t, exec (.plcaBeaconLost p) s = .next t ∧ t.eth.csma.getLsbD p = true ∧ t.srcLive 10 (16 + p) 2 = true := by
  refine ⟨_, rfl, ?_⟩
  rw [if_pos (by simp [hon, hfit, hp, hen, hplca, hid, hc]), State.ship_eth, State.ship_srcLive]
  refine ⟨?_, State.raiseCond_live _ _ _ _⟩
  change (s.eth.csma ||| (1#8 <<< p)).getLsbD p = true
  rcases hp with rfl | rfl <;> simp

/-- The beacon's return ends the fall-back of its port alone (R438). -/
theorem exec_plcaBeaconReturn_resumes (hon : s.ethOn = true) (hp : p < 8) (hc : s.eth.csma.getLsbD p = true) :
    ∃ t, exec (.plcaBeaconReturn p) s = .next t ∧ t.eth.csma.getLsbD p = false ∧
      ∀ q, q ≠ p → t.eth.csma.getLsbD q = s.eth.csma.getLsbD q := by
  obtain ⟨u, hu⟩ : ∃ u : State, u = { s with eth := { s.eth with csma := s.eth.csma &&& ~~~ (1#8 <<< p) } } := ⟨_, rfl⟩
  have hclr : Fr (allBut [] [.eth]) u (u.clearSrc 10 (16 + p) 2) := State.clearSrc_fr rfl (.id _ _)
  have heth : (u.clearSrc 10 (16 + p) 2).eth.csma = s.eth.csma &&& ~~~ (1#8 <<< p) := by
    rw [hclr.eth rfl, hu]
  refine ⟨_, rfl, ?_⟩
  rw [if_pos (by simp [hon, hp, hc]), State.ship_eth, ← hu, heth]
  refine ⟨by simp [hp], fun q hq => ?_⟩
  by_cases h8 : q < 8
  · simp only [BitVec.getLsbD_and, BitVec.getLsbD_not, BitVec.getLsbD_shiftLeft, BitVec.getLsbD_one, h8]
    have : ¬ (p ≤ q ∧ q - p = 0) := by omega
    simp; omega
  · rw [BitVec.getLsbD_of_ge _ _ (by omega), BitVec.getLsbD_of_ge _ _ (by omega)]

theorem satSigned_of_mem {x : Int} (hlo : -8388608 ≤ x) (hhi : x < 8388608) : satSigned x 24 = x := by
  unfold satSigned
  dsimp only
  omega

/-- A sync message at a slave (R439, R440). -/
theorem exec_syncMessageReceived_measures {x : Int} (hen : s.bit ETH_TSCTL.EN = true) (hrole : s.bit ETH_TSCTL.ROLE = false)
    (hport : p = s.fld ETH_TSCTL.PORT) (hup : s.ethUp p = true) (hlo : -8388608 ≤ x) (hhi : x < 8388608) :
    ∃ t, exec (.syncMessageReceived p x) s = .next t ∧ t.sfld ETH_TSSTAT.OFFSET = x ∧ t.bit ETH_TSSTAT.SYNCLOST = false ∧
      -500 ≤ t.eth.rate ∧ t.eth.rate ≤ 500 := by
  refine ⟨_, rfl, ?_⟩
  rw [if_pos (by simp [hen, hrole, ← hport, hup]), satSigned_of_mem hlo hhi]
  dsimp -zeta only [State.takeFree]
  extract_lets +onlyGivenNames e s1
  obtain ⟨u, hu⟩ : ∃ u, u = (s1.sput ETH_TSSTAT.OFFSET x).flag ETH_TSSTAT.SYNCLOST false := ⟨_, rfl⟩
  have hclr : Fr (allBut [.ETH_TSSTAT] [.eth]) u (u.clearSrc 10 23 4) := State.clearSrc_fr rfl (.id _ _)
  have hrate : u.eth.rate = ((Config.freeWord s.free).toNat % 1001 : Nat) - (500 : Int) := hu ▸ rfl
  have hoff : u.sfld ETH_TSSTAT.OFFSET = x := by
    rw [hu, State.sfld, State.fld_flag_apart _ _ (by decide)]
    exact State.sfld_sput (by decide) (by decide) (Int.le_trans (by decide) hlo) (Int.lt_of_lt_of_le hhi (by decide))
  rw [← hu, State.sfld, State.ship_fld, State.ship_bit, State.ship_eth, hclr.fld ETH_TSSTAT.OFFSET 0 0 0 rfl,
    State.bit_of_fld (hclr.fld ETH_TSSTAT.SYNCLOST 0 0 0 rfl), hclr.eth rfl, hrate]
  refine ⟨hoff, hu ▸ State.bit_flag_same _ _ (by decide) (by decide), by omega, by omega⟩

/-- A slave that misses its master (R440). -/
theorem exec_syncLost_shows (hon : s.ethOn = true) (hen : s.bit ETH_TSCTL.EN = true) (hrole : s.bit ETH_TSCTL.ROLE = false)
    (hlost : s.bit ETH_TSSTAT.SYNCLOST = false) : ∃ t, exec .syncLost s = .next t ∧ t.bit ETH_TSSTAT.SYNCLOST = true ∧
      t.eth.rate = s.eth.rate ∧ t.srcLive 10 23 4 = true := by
  refine ⟨_, rfl, ?_⟩
  rw [if_pos (by simp [hon, hen, hrole, hlost]), State.ship_bit, State.ship_eth, State.ship_srcLive]
  exact ⟨State.bit_flag_same _ _ (by decide) (by decide), rfl, State.raiseCond_live _ _ _ _⟩

/-! ## Streams -/

/-- The open PDU of a talker leaves (R449). -/
theorem exec_talkerPduSend_sends (hon : s.ethOn = true) (hk : k < 16) (hen : s.bit ETH_STR3.EN k = true)
    (hm : (s.talker k).msgs ≠ []) : ∃ t, exec (.talkerPduSend k false) s = .next t ∧ (t.talker k).msgs = [] ∧
      (t.talker k).seq = ((s.talker k).seq + 1) % 256 ∧
      (t.ethQueue (s.fld ETH_STR4.PORT k) (s.fld ETH_STR3.PCP k)).map (·.body) =
        (s.ethQueue (s.fld ETH_STR4.PORT k) (s.fld ETH_STR3.PCP k)).map (·.body) ++
          [[0x22, 0xF0] ++ ntscf (s.streamId k) (s.talker k).seq (s.talker k).msgs] := by
  refine ⟨_, rfl, ?_⟩
  rw [if_pos (by simp [hon, hk, hen]), State.ship_talker, State.ship_ethQueue, State.talkSend]
  dsimp only
  rw [if_neg (by simp [hm]), State.ethPut, if_neg (by simp)]
  obtain ⟨u, hu⟩ : ∃ u, u = s.setTalker k { msgs := [], openAt := 0, seq := ((s.talker k).seq + 1) % 256 } := ⟨_, rfl⟩
  have htalk : u.talker k = { msgs := [], openAt := 0, seq := ((s.talker k).seq + 1) % 256 } := hu ▸ Tbl.get_set_self _ _ _ _
  have hqueue : u.ethQueue (s.fld ETH_STR4.PORT k) (s.fld ETH_STR3.PCP k) =
      s.ethQueue (s.fld ETH_STR4.PORT k) (s.fld ETH_STR3.PCP k) := hu ▸ rfl
  rw [← hu, hqueue]
  refine ⟨congrArg Talker.msgs htalk, congrArg Talker.seq htalk, ?_⟩
  rw [State.ethQueue, Tbl.get_set_self, List.map_append]
  rfl

/-- A PDU of the stream's ID at a listener is walked message by message (R449). -/
theorem exec_listenerPduReceived_walks {m : List Byte} (hk : k < 16) (hen : s.bit ETH_STR3.EN k = true)
    (hdir : s.bit ETH_STR4.DIR k = true) (hup : s.ethUp p = true) (hm : m.length < 256) :
    exec (.listenerPduReceived p k (ntscf (s.streamId k) 0 [m])) s = .next (s.ship (State.acfWalk k (m.length + 1) m s)) := by
  have hid : (s.streamId k).length = 8 := by simp [State.streamId, beBytes_length]
  have hpdu : ntscf (s.streamId k) 0 [m] = [0x82, 0x80, BitVec.ofNat 8 m.length, 0] ++ (s.streamId k ++ m) := by
    have h0 : m.length / 256 = 0 := by omega
    simp [ntscf, h0]
  have hlen : beNat (([0x82, 0x80, BitVec.ofNat 8 m.length, 0] ++ (s.streamId k ++ m)).drop 1 |>.take 2) % 2048 = m.length := by
    simp [beNat]
    omega
  have hdrop : ([0x82, 0x80, BitVec.ofNat 8 m.length, 0] ++ (s.streamId k ++ m)).drop 12 = m := by
    simp [hid]
  change execListenerPduReceived p k _ s = _
  unfold execListenerPduReceived
  rw [hpdu, if_pos (by simp [hk, hen, hdir, hup, hid])]
  dsimp only
  rw [hlen, hdrop, List.take_length]

/-- A message shorter than its header (R449). -/
theorem State.acfWalk_short {m : List Byte} (h0 : 0 < m.length) (h4 : m.length < 4) :
    State.acfWalk k (m.length + 1) m s = s.raise 10 24 5 0xFFF := by
  rw [State.acfWalk, if_neg (by cases m <;> simp_all)]
  exact if_pos (by simp [h4])

theorem beNat_reverse (bs : List Byte) : beNat bs.reverse = leNat bs := by
  induction bs with
  | nil => rfl
  | cons b bs ih =>
    have h : leNat (b :: bs) = b.toNat + 256 * leNat bs := rfl
    rw [beNat, List.reverse_cons, List.foldl_append, ← beNat, ih, h]
    exact Nat.add_comm _ _

theorem beNat_beBytes (v n : Nat) : beNat (beBytes v n) = v % 256 ^ n := by
  rw [beBytes, beNat_reverse, leNat_leBytes]

/-- A list of four. -/
theorem eq_four_of_length {α : Type} {l : List α} (h : l.length = 4) : ∃ a b c d, l = [a, b, c, d] := by
  match l, h with
  | [a, b, c, d], _ => exact ⟨a, b, c, d, rfl⟩

/-- An ACF CAN Brief message of four bytes of data carries its frame (R448, R449). -/
theorem parseAcf_acfCan {g : CanFrame} (hdata : g.data.length = 4)
    (hg : g = ⟨g.id % 2 ^ 29, g.ide, .classical, false, false, false, g.data.length, 0, 0, 0, false, g.data⟩) :
    (acfCan true false 5 g 0).length = 12 ∧ beNat ((acfCan true false 5 g 0).take 2) = 2 * 512 + 3 ∧
      parseAcf k 2 (acfCan true false 5 g 0) = some (⟨2, k, 5, 0⟩, g) := by
  obtain ⟨i0, i1, i2, i3, hi⟩ := eq_four_of_length (beBytes_length (g.id % 2 ^ 29) 4)
  have hid : beNat [i0, i1, i2, i3] % 2 ^ 29 = g.id % 2 ^ 29 := by
    rw [← hi, beNat_beBytes]
    omega
  obtain ⟨id, ide, fmt, rtr, brs, esi, dlc, sdt, vcid, af, sec, data⟩ := g
  obtain ⟨a, b, c, d, rfl⟩ := eq_four_of_length hdata
  simp only [CanFrame.mk.injEq, List.length_cons, List.length_nil] at hg
  obtain ⟨hmod, -, rfl, rfl, rfl, rfl, rfl, rfl, rfl, rfl, rfl, -⟩ := hg
  have hm : acfCan true false 5 ⟨id, ide, .classical, false, false, false, 4, 0, 0, 0, false, [a, b, c, d]⟩ 0 =
      [4, 3, BitVec.ofNat 8 (b2n ide * 8), 5, i0, i1, i2, i3, a, b, c, d] := by
    rw [acfCan, hi]
    simp [acfHead, padQuad, beBytes, leBytes, b2n]
  have hide : bitOf (BitVec.ofNat 8 (b2n ide * 8)).toNat 3 = ide := by cases ide <;> rfl
  rw [hm]
  refine ⟨rfl, rfl, ?_⟩
  have hfd : bitOf (BitVec.ofNat 8 (b2n ide * 8)).toNat 1 = false := by cases ide <;> rfl
  have hesi : bitOf (BitVec.ofNat 8 (b2n ide * 8)).toNat 0 = false := by cases ide <;> rfl
  have hbrs : bitOf (BitVec.ofNat 8 (b2n ide * 8)).toNat 2 = false := by cases ide <;> rfl
  have hrtr : bitOf (BitVec.ofNat 8 (b2n ide * 8)).toNat 4 = false := by cases ide <;> rfl
  have hpad : (BitVec.ofNat 8 (b2n ide * 8)).toNat / 64 = 0 := by cases ide <;> rfl
  generalize BitVec.ofNat 8 (b2n ide * 8) = fl at *
  simp [parseAcf, hide, hfd, hesi, hbrs, hrtr, hpad, lenDlc]
  exact hid.trans hmod.symm

/-- A frame with one route, to port 0 alone, joins the gateway's queue there (R445). -/
theorem State.gwOffer_one {r : Nat} {src : GwSrc} {g : CanFrame} (hr : s.routeOf src g = some r)
    (hcan : s.fld GW_RT2.CANMASK r % 256 = 1) (hlin : s.fld GW_RT2.LINMASK r = 0) (htun : s.bit GW_RT2.TUN r = false)
    (hkeep : s.bit GW_RT3.KEEPID r = true) (hseg : s.canSegment 0 = true) (hact : (s.cp 0).activating = false)
    (hroom : (s.cp 0).gwFifo.length < 64) (hfmt : g.fmt = .classical) :
    s.gwOffer src g = (s.setCp 0 { s.cp 0 with gwFifo := (s.cp 0).gwFifo ++ [(r, g)] }).gwFwd := by
  have hlt : s.fld GW_RT2.CANMASK r < 256 := ext_lt _ _ _
  have hone : s.fld GW_RT2.CANMASK r = 1 := by omega
  have hports : ((List.range (nCan s.variant)).filter fun n => bitOf 1 n) = [0] := by cases s.variant <;> rfl
  have hto : s.gwToCan r g 0 = (s.setCp 0 { s.cp 0 with gwFifo := (s.cp 0).gwFifo ++ [(r, g)] }).gwFwd := by
    have hframe : s.gwFrame r g = some g := if_pos hkeep
    have hadm : s.canAdmits 0 g = true := by rw [State.canAdmits, hfmt]
    rw [State.gwToCan, if_neg (by simp [hseg, hact]), hframe]
    dsimp only
    rw [if_neg (by simp [hadm]), if_neg (by omega)]
  obtain ⟨u, hu⟩ : ∃ u, u = s.gwToCan r g 0 := ⟨_, rfl⟩
  have hfr : Fr (maskOf [.GW_STAT] [.can, .flt]) s u := hu ▸ State.gwToCan_fr rfl (.id _ _)
  have hnolin : ((List.range (nLin u.variant)).filter fun n => bitOf (u.fld GW_RT2.LINMASK r) n) = [] := by
    rw [hfr.fld GW_RT2.LINMASK r 0 0 rfl, hlin]
    cases u.variant <;> rfl
  have htun' : ¬ u.bit GW_RT2.TUN r = true := by
    rw [State.bit_of_fld (hfr.fld GW_RT2.TUN r 0 0 rfl), htun]
    decide
  rw [State.gwOffer, hr]
  dsimp only
  rw [hone, hports]
  have hfirst : forEach [0] (fun n s => s.gwToCan r g n) s = u := hu.symm
  rw [hfirst, hnolin]
  exact (if_neg htun').trans (hu.trans hto)

/-- A CAN Brief message with a route to port 0 alone joins the gateway's queue (R445, R449). -/
theorem exec_listenerPduReceived_offers {r : Nat} {g : CanFrame} (hk : k < 16) (hen : s.bit ETH_STR3.EN k = true)
    (hdir : s.bit ETH_STR4.DIR k = true) (hup : s.ethUp p = true)
    (hg : g = ⟨g.id % 2 ^ 29, g.ide, .classical, false, false, false, g.data.length, 0, 0, 0, false, g.data⟩)
    (hdata : g.data.length = 4) (hr : s.routeOf ⟨2, k, 5, 0⟩ g = some r)
    (hcan : s.fld GW_RT2.CANMASK r % 256 = 1) (hlin : s.fld GW_RT2.LINMASK r = 0) (htun : s.bit GW_RT2.TUN r = false)
    (hkeep : s.bit GW_RT3.KEEPID r = true) (hseg : s.canSegment 0 = true) (hact : (s.cp 0).activating = false)
    (hroom : (s.cp 0).gwFifo.length < 64) :
    ∃ t, exec (.listenerPduReceived p k (ntscf (s.streamId k) 0 [acfCan true false 5 g 0])) s = .next t ∧
      (t.cp 0).gwFifo = (s.cp 0).gwFifo ++ [(r, g)] ∧ t.fld GW_STAT.FWD = (s.fld GW_STAT.FWD + 1) % 65536 := by
  obtain ⟨hlen, hhead, hparse⟩ := parseAcf_acfCan (k := k) hdata hg
  have hwalk : State.acfWalk k ((acfCan true false 5 g 0).length + 1) (acfCan true false 5 g 0) s = s.gwOffer ⟨2, k, 5, 0⟩ g := by
    have hne : (acfCan true false 5 g 0).isEmpty = false := by
      rw [List.isEmpty_eq_false_iff, ← List.length_pos_iff, hlen]
      decide
    rw [State.acfWalk, if_neg (by simp [hne])]
    dsimp only
    rw [hhead, if_neg (by simp [hlen]), List.take_of_length_le (by omega), List.drop_of_length_le (by omega)]
    change State.acfWalk k (acfCan true false 5 g 0).length [] (match parseAcf k 2 (acfCan true false 5 g 0) with
      | some (src, f) => s.gwOffer src f
      | none => s.raise 10 24 5 0xFFF) = _
    rw [hparse, hlen]
    rfl
  refine ⟨_, exec_listenerPduReceived_walks hk hen hdir hup (by omega), ?_⟩
  rw [hwalk, State.gwOffer_one hr hcan hlin htun hkeep hseg hact hroom (by rw [hg]), State.ship_cp, State.ship_fld]
  obtain ⟨u, hu⟩ : ∃ u, u = s.setCp 0 { s.cp 0 with gwFifo := (s.cp 0).gwFifo ++ [(r, g)] } := ⟨_, rfl⟩
  have hfwd : Fr (maskOf [.GW_STAT] []) u u.gwFwd := State.gwFwd_fr rfl (.id _ _)
  have hcp : u.cp 0 = { s.cp 0 with gwFifo := (s.cp 0).gwFifo ++ [(r, g)] } := hu ▸ State.cp_setCp _
  have hfld : u.fld GW_STAT.FWD = s.fld GW_STAT.FWD := hu ▸ rfl
  rw [← hu, State.cp, hfwd.can rfl]
  exact ⟨congrArg CanSt.gwFifo hcp, (State.fld_put_same _ _ (by decide)).trans (by rw [hfld]; rfl)⟩

/-- Settles O51: a frame follows the addresses learned, a link or beacon its own condition, and a PDU is walked message by message to the
gateway. -/
theorem ethernetAndStreams : Obligations.EthernetAndStreams := by
  unfold Obligations.EthernetAndStreams
  refine ⟨?_, ?_, ?_, ?_, ?_, ?_, ?_, ?_, ?_, ?_, ?_, ?_⟩
  · intro s p q v f full hfit hup hlen hv hp hd hl hq hne huq hfull
    exact exec_ethFrameReceived_queues hfit hup hlen hv hp hd hl hq hne huq hfull
  · intro s p q v f full hfit hup hlen hv hp hd hl hq hne huq hfull h7
    exact exec_ethFrameReceived_drops hfit hup hlen hv hp hd hl hq hne huq hfull h7
  · intro s p hon hfit hen hlink
    exact exec_ethLinkChange_lost hon hfit hen hlink
  · intro s p hon hfit hen
    exact exec_ethLinkChange_failed hon hfit hen
  · intro s p q hon hfit hen
    exact exec_ethLinkUp_shows hon hfit hen
  · intro s p hon hfit hen hp hplca hid hc
    exact exec_plcaBeaconLost_falls hon hfit hen hp hplca hid hc
  · intro s p hon hp hc
    exact exec_plcaBeaconReturn_resumes hon hp hc
  · intro s p x hen hrole hport hup hlo hhi
    exact exec_syncMessageReceived_measures hen hrole hport hup hlo hhi
  · intro s hon hen hrole hlost
    exact exec_syncLost_shows hon hen hrole hlost
  · intro s k hon hk hen hm
    exact exec_talkerPduSend_sends hon hk hen hm
  · intro s p k m hk hen hdir hup h0 h4
    refine ⟨_, exec_listenerPduReceived_walks hk hen hdir hup (by omega), ?_⟩
    rw [State.acfWalk_short h0 h4]
    rfl
  · intro s p k r f hk hen hdir hup hf hdata hr hcan hlin htun hkeep hseg hact hroom
    exact exec_listenerPduReceived_offers hk hen hdir hup hf hdata hr hcan hlin htun hkeep hseg hact hroom

end Sys2Proof.Machine
end

section
/-! Network management (statement O52). The local wake's event can start a context that preempts one whose quarantine is due; the lines of
the quarantined context take their default levels (R130, R373), the wake line among them, and its fall is noted at once (R462). -/

namespace Sys2Proof.Machine

/-- Context 9 drives the wake line, runs on core 1 and is to be quarantined; context 10, pinned to that core, waits with a higher priority;
NM in SLEEP_PENDING has its event on. -/
def wakeDropped : State :=
  (((((((((((({ State.reset with
    sys := { (default : SysSt) with phase := .run, fabricUp := true }
    fab := { (default : FabSt) with lines := 2, written := 2 }
    doc := { (default : DocSt) with ctxs := [(9, { (default : Ctx) with qpend := some 2 }), (10, default)] } }.put
    FAB_LSRC.KIND 6 1).put FAB_LSRC.INDEX 9 1).put DOC_STAT.STATE 2 1).put DOC_STAT.CTX 9 1).put CTXC_STAT.STATE 4 9).put
    CTXC_STAT.CORE 1 9).put CTXC_STAT.STATE 3 10).put CTXC_CFG.AFFIN 1 10).put CTXC_CFG.PRIO 3 10).flag NM_EVT.EVEN true).flag
    NM_CFG.EN true).put NM_STAT.STATE 1).flag NM_CFG.LWEN true |>.put NM_CFG.LWLINE 1

theorem nmLocalWakeLine_drops : ∃ t, exec .nmLocalWakeLine wakeDropped = .next t ∧ t.nm.line = false := ⟨_, rfl, by decide +kernel⟩

/-- Refutes O52: the wake's own event has a context quarantined whose line is the wake line; the line falls, and its level is no longer
noted as high. -/
theorem not_networkSleep : ¬ Obligations.NetworkSleep := by
  unfold Obligations.NetworkSleep
  rintro ⟨-, -, -, -, -, -, -, -, -, -, -, rises, -⟩
  obtain ⟨t, e, hlow⟩ := nmLocalWakeLine_drops
  obtain ⟨u, e', hhigh, -⟩ := rises wakeDropped (by decide +kernel) (by decide +kernel) (by decide +kernel) (by decide +kernel)
    (by decide +kernel)
  rw [e] at e'
  obtain rfl := Host.Outcome.next.inj e'
  rw [hlow] at hhigh
  exact absurd hhigh (by decide)

end Sys2Proof.Machine
end

section
/-! Supplies (statement O53). The event of a feed that recovers can start a context that preempts one whose quarantine is due; CTX_LASTQ
then records that quarantine (R373). -/

namespace Sys2Proof.Machine

/-- MAIN is low and its events are on; context 9 runs on core 1 and is to be quarantined; context 10, pinned to that core, waits with a
higher priority. -/
def recoveryQuarantines : State :=
  (((((((({ State.reset with
    sys := { (default : SysSt) with phase := .run, fabricUp := true }
    doc := { (default : DocSt) with ctxs := [(9, { (default : Ctx) with qpend := some 2 }), (10, default)] } }.put
    DOC_STAT.STATE 2 1).put DOC_STAT.CTX 9 1).put CTXC_STAT.STATE 4 9).put CTXC_STAT.CORE 1 9).put CTXC_STAT.STATE 3 10).put
    CTXC_CFG.AFFIN 1 10).put CTXC_CFG.PRIO 3 10).flag PWR_EVT.EVEN true).flag PWR_STAT.MAINLO true

theorem mainRecovery_quarantines : ∃ t, exec (.mainRecovery 0) recoveryQuarantines = .next t ∧
    t.reg ⟨.CTX_LASTQ, 0, 0, 0⟩ ≠ recoveryQuarantines.reg ⟨.CTX_LASTQ, 0, 0, 0⟩ := ⟨_, rfl, by decide +kernel⟩

/-- Refutes O53: MAIN's recovery can write CTX_LASTQ, which is not among the registers named. -/
theorem not_suppliesAndTransfer : ¬ Obligations.SuppliesAndTransfer := by
  unfold Obligations.SuppliesAndTransfer
  rintro ⟨-, -, recovers, -⟩
  obtain ⟨t, e, hwrites⟩ := mainRecovery_quarantines
  obtain ⟨u, e', -, -, -, hregs, -⟩ := recovers recoveryQuarantines 0 (by decide +kernel) (by decide +kernel) (by decide +kernel)
    (by decide +kernel)
  rw [e] at e'
  obtain rfl := Host.Outcome.next.inj e'
  exact hwrites (hregs ⟨.CTX_LASTQ, 0, 0, 0⟩ (by decide))

end Sys2Proof.Machine
end

section
/-! The Conservator's injections (statement O54). An injection of a source whose unit the variant does not fit is refused (R634). -/

namespace Sys2Proof.Machine

/-- An NZ-9620, without core 3, in Service mode. -/
def smallInService : State :=
  { State.reset with
    variant := .nz9620
    sys := { (default : SysSt) with phase := .run, fabricUp := true } }.put SYS_MODE.MODE 8

theorem fltInjLive_unfitted :
    ∃ t, exec (.fltInjLive .host (srcId 8 3 0) 1) smallInService = .next t ∧ t.fld FLT_INJSTAT.MODE = 0 := ⟨_, rfl, by decide +kernel⟩

/-- Refutes O54: an injection for core 3 of an NZ-9620 does not begin. -/
theorem not_conservatorReactions : ¬ Obligations.ConservatorReactions := by
  unfold Obligations.ConservatorReactions
  rintro ⟨-, -, -, -, -, -, -, -, -, -, -, -, -, -, injects, -⟩
  obtain ⟨t, e, hnone⟩ := fltInjLive_unfitted
  obtain ⟨u, e', -, hmode, -⟩ := injects smallInService .host (srcId 8 3 0) 1 (by decide +kernel) (by decide +kernel) (by decide)
    (by decide +kernel) (by decide) (by decide) (by decide +kernel)
  rw [e] at e'
  obtain rfl := Host.Outcome.next.inj e'
  rw [hnone] at hmode
  exact absurd hmode (by decide)

end Sys2Proof.Machine
end

section
/-! The Conservator's self-check (statement O55). A lost half forces groups anew, and every LED channel then follows its command, which can
complete the recovery of a trip and withdraw that trip's source (`State.untrip`). The statement is about every state, and a state's trip
record can hold any number as its kind: with one that carries into the block of the source ID, the source withdrawn is the lost half's. -/

namespace Sys2Proof.Machine

/-- Half A has missed two exchanges; LED channel 0 is tripped and may recover, and the kind of its trip is such that its source, block 5,
has the ID of unit 0, kind 1 of block 14. -/
def staleTripKind : State :=
  ((((({ State.reset with
    sys := { (default : SysSt) with phase := .run, fabricUp := true }
    flt := { (default : FltSt) with missA := 2 }
    trips := [(77, { on := true, kind := srcId 14 0 1 - srcId 5 0 0, cond := true, retry := true, latch := false, hot := false })] }.flag
    FLT_STAT.AOK true).flag FLT_STAT.BOK true).put LED_STAT.STATE 3 0).put LED_CFG.RECOV 1 0))

theorem digestExchange_withdraws :
    ∃ t, exec (.digestExchange false true default default) staleTripKind = .next t ∧ t.srcLive 14 0 1 = false := ⟨_, rfl, by decide +kernel⟩

/-- Refutes O55: the third missing digest of half A raises the loss, and the recovery that follows withdraws it. -/
theorem not_conservatorSelfCheck : ¬ Obligations.ConservatorSelfCheck := by
  unfold Obligations.ConservatorSelfCheck
  rintro ⟨-, -, misses, -⟩
  obtain ⟨t, e, hnone⟩ := digestExchange_withdraws
  obtain ⟨u, e', -, -, hlive⟩ := misses staleTripKind default (by decide +kernel) (by decide +kernel) rfl
  rw [e] at e'
  obtain rfl := Host.Outcome.next.inj e'
  rw [hnone] at hlive
  cases hlive

end Sys2Proof.Machine
end

section
/-! The twin link (statement O57). A command that ships ends with the deltas of R533; a suspension unit that is due, its context's stores all
in memory, leaves with them, behind the frame of the command itself (R535). -/

namespace Sys2Proof.Machine

/-- A principal of a pair with its link in MIRROR and channels 8 and 9 twinned; the unit of context 9 is due and no store of it is open. -/
def unitDue : State :=
  ({ State.reset with
    sys := { (default : SysSt) with phase := .run, fabricUp := true }
    cat := { (default : CatSt) with loaded := true, cat := { (default : Catalogue) with pair := true } }
    twn := { (default : TwnSt) with session := [1, 2, 3, 4, 5, 6, 7, 8], due := [9] } }.put TWN_STAT.LINK 3).put TWN_MAP.TWIN 3

theorem protectionShipTick_sends_unit :
    ∃ t, exec .protectionShipTick unitDue = .next t ∧ t.twn.txSeq = unitDue.twn.txSeq + 2 := ⟨_, rfl, by decide +kernel⟩

/-- Refutes O57: the tick sends the protection states and, behind them, the suspension unit that is due. -/
theorem not_twinLinkAndRoles : ¬ Obligations.TwinLinkAndRoles := by
  unfold Obligations.TwinLinkAndRoles
  rintro ⟨-, -, ticks, -⟩
  obtain ⟨t, e, htwo⟩ := protectionShipTick_sends_unit
  obtain ⟨u, e', -, hone⟩ := ticks unitDue (by decide +kernel) (by decide +kernel)
  rw [e] at e'
  obtain rfl := Host.Outcome.next.inj e'
  omega

end Sys2Proof.Machine
end

section
/-! The key store's commands (statement O58; spec/18 R566 to R579). -/

namespace Sys2Proof.Machine

variable {s t : State} {w : Who} {n : Nat}

/-! ## KEY_RES, KEY_PLAIN and KEY_STAT -/

/-- KEY_RES after a command. -/
theorem State.keyRes_shows {r c k : Nat} (hr : r < 16) (hc : c < 16) (hk : k < 256) : (s.keyRes r c k).fld KEY_RES.RESULT = r ∧
    (s.keyRes r c k).fld KEY_RES.CMD = c ∧ (s.keyRes r c k).fld KEY_RES.SLOT = k := by
  refine ⟨?_, ?_, ?_⟩
  · exact (State.fld_flag_apart _ _ (by decide)).trans ((State.fld_put_apart _ _ (by decide)).trans
      ((State.fld_put_apart _ _ (by decide)).trans ((State.fld_put_same _ _ (by decide)).trans (Nat.mod_eq_of_lt hr))))
  · exact (State.fld_flag_apart _ _ (by decide)).trans ((State.fld_put_apart _ _ (by decide)).trans
      ((State.fld_put_same _ _ (by decide)).trans (Nat.mod_eq_of_lt hc)))
  · exact (State.fld_flag_apart _ _ (by decide)).trans ((State.fld_put_same _ _ (by decide)).trans (Nat.mod_eq_of_lt hk))

theorem State.keyRes_mask {r c k : Nat} : Fr (maskOf [.KEY_RES] []) s (s.keyRes r c k) := State.keyRes_fr rfl (.id _ _)

theorem State.zeroPlain_mask : Fr (maskOf [.KEY_PLAIN] []) s s.zeroPlain := State.zeroPlain_fr rfl (.id _ _)

/-- Every word of KEY_PLAIN is zeroed. -/
theorem State.zeroPlain_zero {i : Nat} (hi : i < 16) : s.zeroPlain.reg ⟨.KEY_PLAIN, i, 0, 0⟩ = 0 := by
  have hall (m : Nat) (u : State) : i < m → (forEach (List.range m) (fun w s => s.setReg ⟨.KEY_PLAIN, w, 0, 0⟩ 0) u).reg
      ⟨.KEY_PLAIN, i, 0, 0⟩ = 0 := by
    induction m generalizing u with
    | zero => omega
    | succ m ih =>
      intro hm
      rw [List.range_succ]
      unfold forEach
      rw [List.foldl_append]
      change (State.setReg _ ⟨.KEY_PLAIN, m, 0, 0⟩ 0).reg ⟨.KEY_PLAIN, i, 0, 0⟩ = 0
      by_cases h : i = m
      · subst h
        exact State.reg_setReg_self _ _ _
      · exact (State.reg_setReg_ne _ _ (by simpa using h)).trans (ih u (by omega))
  exact hall 16 s hi

/-- What shows a slot touches OWNED alone of KEY_STAT. -/
theorem State.keyShow_rest : RestKept KEY_STAT.OWNED s (s.keyShow n) := by
  unfold State.keyShow
  extract_lets +onlyGivenNames s1
  have h1 : Fr (maskOf [.KEY_SLOT, .KEY_SCNT] []) s s1 := by
    unfold s1
    split
    · exact State.put_fr rfl rfl (State.flag_fr rfl rfl (State.flag_fr rfl rfl (State.flag_fr rfl rfl (State.put_fr rfl rfl (.id _ _)))))
    · exact (Fr.setReg rfl).trans (Fr.setReg rfl)
  have hr1 : RestKept KEY_STAT.OWNED s s1 := (RestKept.refl s).fr h1 rfl
  clear_value s1
  exact Holds.ite hr1.put hr1

/-- A command that finds no write in progress and needs no Service mode, or is in it, is carried out (R579). -/
theorem State.keyCmd_runs {c k : Nat} {service : Bool} {f : State → State} (hwork : s.key.work = none) (hwait : s.key.applyWait = false)
    (hm : service = false ∨ s.mode = 8) : s.keyCmd c k service f = f s := by
  unfold State.keyCmd
  rw [if_neg (by simp [hwork, hwait]), if_neg (by rcases hm with h | h <;> simp [h])]

/-- A write of key flash that begins shows BUSY. -/
theorem State.beginWork_shows {x : KeyWork} : (s.beginWork x).bit KEY_STAT.BUSY = true ∧ (s.beginWork x).key.work = some x :=
  ⟨State.bit_flag_same _ _ (by decide) (by decide), rfl⟩

/-! ## Commands -/

/-- BUSY takes no part in the checks of an envelope (R577). -/
theorem State.envCheck_busy {b : Bool} (e : List Byte) : (s.flag KEY_STAT.BUSY b).envCheck e = s.envCheck e := by
  have hsealed : (s.flag KEY_STAT.BUSY b).sealed = s.sealed := State.bit_flag_apart _ _ (by decide)
  have hcnt (k : Nat) : (s.flag KEY_STAT.BUSY b).storedCounter k = s.storedCounter k := by
    unfold State.storedCounter
    rw [State.fld_flag_reg _ _ (by decide), State.fld_flag_reg _ _ (by decide)]
    rfl
  have hkey (k : Nat) : (s.flag KEY_STAT.BUSY b).slotKey k = s.slotKey k := rfl
  unfold State.envCheck
  simp only [hsealed, hcnt, hkey]

theorem State.applyEnvelope_unseals (hok : s.envCheck s.envelope = .inr []) (hslot : leNat (slice s.envelope 16 1) = 0xFD) :
    s.applyEnvelope = (((((s.flag KEY_STAT.BUSY false).flag KEY_STAT.SEALED false).put KEY_STAT.TCNT 0).put KEY_UNSCNT.CNT
      (leNat (slice s.envelope 18 4))).keyRes 1 1 0xFD).raise 13 1 3 0 := by
  unfold State.applyEnvelope
  dsimp only
  rw [State.envCheck_busy, hok]
  dsimp only
  rw [if_pos hslot, hslot]

/-- An unseal envelope that passes its checks (R578, R587). -/
theorem exec_keyCmdApply_unseals (hwork : s.key.work = none) (hwait : s.key.applyWait = false) (hm : s.mode = 8)
    (hrun : s.key.running = none) (hok : s.envCheck s.envelope = .inr []) (hslot : leNat (slice s.envelope 16 1) = 0xFD)
    (hw : s.reaches w 19 = true) : ∃ t, exec (.keyCmdApply w) s = .next t ∧ t.fld KEY_RES.RESULT = 1 ∧ t.fld KEY_RES.CMD = 1 ∧
      t.fld KEY_RES.SLOT = 0xFD ∧ t.bit KEY_STAT.SEALED = false ∧ t.fld KEY_STAT.TCNT = 0 ∧
      t.fld KEY_UNSCNT.CNT = leNat (slice s.envelope 18 4) % 2 ^ 28 := by
  refine ⟨_, rfl, ?_⟩
  rw [State.asWho_of_reaches hw, State.runKeyCmdApply, State.keyCmd_runs hwork hwait (.inr hm), if_neg (by simp [hrun])]
  rw [State.applyEnvelope_unseals hok hslot]
  obtain ⟨u, hu⟩ : ∃ u, u = (((s.flag KEY_STAT.BUSY false).flag KEY_STAT.SEALED false).put KEY_STAT.TCNT 0).put KEY_UNSCNT.CNT
    (leNat (slice s.envelope 18 4)) := ⟨_, rfl⟩
  obtain ⟨hr, hcmd, hres⟩ := State.keyRes_shows (s := u) (r := 1) (c := 1) (k := 0xFD) (by decide) (by decide) (by decide)
  have hfl : Fr (maskOf [] [.flt]) (u.keyRes 1 1 0xFD) ((u.keyRes 1 1 0xFD).raise 13 1 3 0) := State.raise_fr rfl (.id _ _)
  have hfr : Fr (maskOf [.KEY_RES] [.flt]) u ((u.keyRes 1 1 0xFD).raise 13 1 3 0) := (State.keyRes_mask.mono rfl).trans (hfl.mono rfl)
  have hsealed : u.bit KEY_STAT.SEALED = false := by
    rw [hu, State.bit_put_reg _ _ (by decide), State.bit_put_apart _ _ (by decide)]
    exact State.bit_flag_same _ _ (by decide) (by decide)
  have htcnt : u.fld KEY_STAT.TCNT = 0 := by
    rw [hu, State.fld_put_reg _ _ (by decide)]
    exact State.fld_put_same _ _ (by decide)
  have hcnt : u.fld KEY_UNSCNT.CNT = leNat (slice s.envelope 18 4) % 2 ^ 28 := hu ▸ State.fld_put_same _ _ (by decide)
  rw [← hu, State.ship_fld, State.ship_fld, State.ship_fld, State.ship_bit, State.ship_fld, State.ship_fld,
    hfl.fld KEY_RES.RESULT 0 0 0 rfl, hfl.fld KEY_RES.CMD 0 0 0 rfl, hfl.fld KEY_RES.SLOT 0 0 0 rfl,
    State.bit_of_fld (hfr.fld KEY_STAT.SEALED 0 0 0 rfl), hfr.fld KEY_STAT.TCNT 0 0 0 rfl, hfr.fld KEY_UNSCNT.CNT 0 0 0 rfl]
  exact ⟨hr, hcmd, hres, hsealed, htcnt, hcnt⟩

/-- A plain write of slots 1 to 3, and of slot 0 while it is empty, begins (R570). -/
theorem exec_keyCmdPlainwr_begins {c f : Nat} (hwork : s.key.work = none) (hwait : s.key.applyWait = false) (hm : s.mode = 8)
    (hs : s.sealed = false) (hc : c < 4) (h0 : c ≠ 0 ∨ (s.activeCopy 0 = none ∧ f = 0)) (hw : s.reaches w 19 = true) :
    ∃ t, exec (.keyCmdPlainwr w c f) s = .next t ∧ t.bit KEY_STAT.BUSY = true ∧
      t.key.work = some (.plain c (s.writeCopy c)
        ⟨true, (match s.slotKey c with | some k => k.counter + 1 | none => 1), f % 64, false, s.regBytes .KEY_PLAIN 8⟩) := by
  have hno : ¬ (decide (4 ≤ c) || decide (c = 0) && ((s.activeCopy 0).isSome || decide (f ≠ 0))) = true := by
    rcases h0 with h0 | ⟨h0, hf⟩
    · simp [h0]
      omega
    · simp [h0, hf]
      omega
  refine ⟨_, rfl, ?_⟩
  rw [State.asWho_of_reaches hw, State.runKeyCmdPlainwr, State.keyCmd_runs hwork hwait (.inr hm), if_neg (by simp [hs]), if_neg hno,
    State.ship_bit, State.ship_key]
  exact State.beginWork_shows

/-- A plain write of slot 0 while it is not empty is refused (R570). -/
theorem exec_keyCmdPlainwr_refuses (hwork : s.key.work = none) (hwait : s.key.applyWait = false) (hm : s.mode = 8)
    (hs : s.sealed = false) (h0 : s.activeCopy 0 ≠ none) (hw : s.reaches w 19 = true) :
    ∃ t, exec (.keyCmdPlainwr w 0 0) s = .next t ∧ t.fld KEY_RES.RESULT = 3 ∧ t.fld KEY_RES.CMD = 2 ∧ t.fld KEY_RES.SLOT = 0 ∧
      t.key.work = none ∧ t.reg ⟨.KEY_PLAIN, 0, 0, 0⟩ = 0 := by
  refine ⟨_, rfl, ?_⟩
  rw [State.asWho_of_reaches hw, State.runKeyCmdPlainwr, State.keyCmd_runs hwork hwait (.inr hm), if_neg (by simp [hs]),
    if_pos (by simp [Option.isSome_iff_ne_none, h0]), State.ship_fld, State.ship_fld, State.ship_fld, State.ship_key, State.ship_reg]
  obtain ⟨hr, hcmd, hslot⟩ := State.keyRes_shows (s := s) (r := 3) (c := 2) (k := 0) (by decide) (by decide) (by decide)
  have hz : Fr (maskOf [.KEY_PLAIN] []) (s.keyRes 3 2 0) (s.keyRes 3 2 0).zeroPlain := State.zeroPlain_mask
  rw [hz.fld _ _ _ _ rfl, hz.fld _ _ _ _ rfl, hz.fld _ _ _ _ rfl, hz.key rfl]
  exact ⟨hr, hcmd, hslot, hwork, State.zeroPlain_zero (by decide)⟩

/-- The write of an image key begins (R571). -/
theorem exec_keyCmdImgkey_begins {i : Nat} (hwork : s.key.work = none) (hwait : s.key.applyWait = false) (hm : s.mode = 8)
    (hs : s.sealed = false) (hw : s.reaches w 19 = true) : ∃ t, exec (.keyCmdImgkey w i) s = .next t ∧
      t.bit KEY_STAT.BUSY = true ∧ t.key.work.map KeyWork.code = some (3, 0) := by
  refine ⟨_, rfl, ?_⟩
  rw [State.asWho_of_reaches hw, State.runKeyCmdImgkey, State.keyCmd_runs hwork hwait (.inr hm), if_neg (by simp [hs]), State.ship_bit,
    State.ship_key]
  exact ⟨State.beginWork_shows.1, rfl⟩

/-- A Service challenge outside a lockout (R574). -/
theorem exec_keyCmdSvcchal_challenges (hwork : s.key.work = none) (hwait : s.key.applyWait = false) (hl : s.key.lockout = false)
    (hw : s.reaches w 19 = true) : ∃ t, exec (.keyCmdSvcchal w) s = .next t ∧ t.fld KEY_RES.RESULT = 1 ∧ t.fld KEY_RES.CMD = 4 ∧
      t.fld KEY_RES.SLOT = 0 ∧ t.key.nonceLive = true ∧ t.bit KEY_STAT.SVCOK = false ∧
      t.reg ⟨.KEY_SVCNONCE, 0, 0, 0⟩ = Config.freeWord s.free ∧ t.reg ⟨.KEY_SVCNONCE, 3, 0, 0⟩ = Config.freeWord (s.free + 3) := by
  refine ⟨_, rfl, ?_⟩
  rw [State.asWho_of_reaches hw, State.runKeyCmdSvcchal, State.keyCmd_runs hwork hwait (.inl rfl), if_neg (by simp [hl])]
  have hfrees : s.takeFrees 4 = ([Config.freeWord s.free, Config.freeWord (s.free + 1), Config.freeWord (s.free + 2),
      Config.freeWord (s.free + 3)], { s with free := s.free + 4 }) := rfl
  rw [hfrees]
  dsimp -zeta only
  extract_lets +onlyGivenNames s1 x
  have hfour : s1 = (((({ s with free := s.free + 4 } : State).setReg ⟨.KEY_SVCNONCE, 0, 0, 0⟩ (Config.freeWord s.free)).setReg
      ⟨.KEY_SVCNONCE, 1, 0, 0⟩ (Config.freeWord (s.free + 1))).setReg ⟨.KEY_SVCNONCE, 2, 0, 0⟩ (Config.freeWord (s.free + 2))).setReg
      ⟨.KEY_SVCNONCE, 3, 0, 0⟩ (Config.freeWord (s.free + 3)) := rfl
  have h0 : s1.reg ⟨.KEY_SVCNONCE, 0, 0, 0⟩ = Config.freeWord s.free := by
    rw [hfour, State.reg_setReg_ne _ _ (by decide), State.reg_setReg_ne _ _ (by decide), State.reg_setReg_ne _ _ (by decide),
      State.reg_setReg_self]
  have h3 : s1.reg ⟨.KEY_SVCNONCE, 3, 0, 0⟩ = Config.freeWord (s.free + 3) := by
    rw [hfour, State.reg_setReg_self]
  clear_value s1
  obtain ⟨u, hu⟩ : ∃ u : State, u = { s1 with key := { s1.key with nonceLive := true } } := ⟨_, rfl⟩
  have hlive : u.key.nonceLive = true := hu ▸ rfl
  have hfru : Fr (maskOf [] [.key]) s1 u := by
    rw [hu]
    exact Fr.set_key rfl (.id _ _)
  have hflag : Fr (maskOf [.KEY_STAT] []) u (u.flag KEY_STAT.SVCOK false) := State.flag_fr rfl rfl (.id _ _)
  obtain ⟨hr, hcmd, hslot⟩ := State.keyRes_shows (s := u.flag KEY_STAT.SVCOK false) (r := 1) (c := 4) (k := 0) (by decide) (by decide)
    (by decide)
  have hres : Fr (maskOf [.KEY_RES] []) (u.flag KEY_STAT.SVCOK false) ((u.flag KEY_STAT.SVCOK false).keyRes 1 4 0) := State.keyRes_mask
  rw [← hu, State.ship_fld, State.ship_fld, State.ship_fld, State.ship_key, State.ship_bit, State.ship_reg, State.ship_reg, hres.key rfl,
    State.bit_of_fld (hres.fld KEY_STAT.SVCOK 0 0 0 rfl), hres.regOf .KEY_SVCNONCE rfl, hres.regOf .KEY_SVCNONCE rfl,
    hflag.regOf .KEY_SVCNONCE rfl, hflag.regOf .KEY_SVCNONCE rfl, hfru.regOf .KEY_SVCNONCE rfl, hfru.regOf .KEY_SVCNONCE rfl, h0, h3]
  exact ⟨hr, hcmd, hslot, (congrArg KeySt.nonceLive (hflag.key rfl)).trans hlive, State.bit_flag_same _ _ (by decide) (by decide), rfl, rfl⟩

/-- The expected response to a live nonce authorises Service mode (R574). -/
theorem exec_keyCmdSvcauth_authorises (hwork : s.key.work = none) (hwait : s.key.applyWait = false) (hn : s.key.nonceLive = true)
    (hresp : s.svcExpected = some (s.regBytes .KEY_SVCRESP 4)) (hw : s.reaches w 19 = true) :
    ∃ t, exec (.keyCmdSvcauth w) s = .next t ∧ t.fld KEY_RES.RESULT = 1 ∧ t.fld KEY_RES.CMD = 5 ∧ t.fld KEY_RES.SLOT = 0 ∧
      t.bit KEY_STAT.SVCOK = true ∧ t.key.svcFails = 0 ∧ t.key.nonceLive = false := by
  refine ⟨_, rfl, ?_⟩
  rw [State.asWho_of_reaches hw, State.runKeyCmdSvcauth, State.keyCmd_runs hwork hwait (.inl rfl)]
  extract_lets +onlyGivenNames ok x s1
  have hok : ok = true := by simp [ok, hn, hresp]
  rw [if_pos hok]
  obtain ⟨u, hu⟩ : ∃ u : State, u = { s1 with key := { s1.key with svcFails := 0 } }.flag KEY_STAT.SVCOK true := ⟨_, rfl⟩
  obtain ⟨hr, hcmd, hslot⟩ := State.keyRes_shows (s := u) (r := 1) (c := 5) (k := 0) (by decide) (by decide) (by decide)
  have hfr : Fr (maskOf [.KEY_RES] []) u (u.keyRes 1 5 0) := State.keyRes_mask
  have hsvc : u.bit KEY_STAT.SVCOK = true := hu ▸ State.bit_flag_same _ _ (by decide) (by decide)
  have hkey : u.key.svcFails = 0 ∧ u.key.nonceLive = false := hu ▸ ⟨rfl, rfl⟩
  rw [← hu, State.ship_fld, State.ship_fld, State.ship_fld, State.ship_bit, State.ship_key, hfr.key rfl,
    State.bit_of_fld (hfr.fld KEY_STAT.SVCOK 0 0 0 rfl)]
  exact ⟨hr, hcmd, hslot, hsvc, hkey⟩

/-- With no live nonce the authorisation fails (R575). -/
theorem exec_keyCmdSvcauth_fails (hwork : s.key.work = none) (hwait : s.key.applyWait = false) (hn : s.key.nonceLive = false)
    (hw : s.reaches w 19 = true) : ∃ t, exec (.keyCmdSvcauth w) s = .next t ∧ t.fld KEY_RES.RESULT = 2 ∧ t.fld KEY_RES.CMD = 5 ∧
      t.fld KEY_RES.SLOT = 0 ∧ t.bit KEY_STAT.SVCOK = s.bit KEY_STAT.SVCOK ∧ t.key.svcFails = s.key.svcFails + 1 ∧
      t.key.lockout = (s.key.lockout || decide (2 ≤ s.key.svcFails)) := by
  refine ⟨_, rfl, ?_⟩
  rw [State.asWho_of_reaches hw, State.runKeyCmdSvcauth, State.keyCmd_runs hwork hwait (.inl rfl)]
  extract_lets +onlyGivenNames ok x s1
  have hok : ¬ ok = true := by simp [ok, hn]
  rw [if_neg hok]
  extract_lets +onlyGivenNames m y s2
  obtain ⟨hr, hcmd, hslot⟩ := State.keyRes_shows (s := s2) (r := 2) (c := 5) (k := 0) (by decide) (by decide) (by decide)
  have hfl : Fr (maskOf [] [.flt]) (s2.keyRes 2 5 0) ((s2.keyRes 2 5 0).raise 13 1 2 (satTo m 12)) := State.raise_fr rfl (.id _ _)
  have hfr : Fr (maskOf [.KEY_RES] [.flt]) s2 ((s2.keyRes 2 5 0).raise 13 1 2 (satTo m 12)) :=
    (State.keyRes_mask.mono rfl).trans (hfl.mono rfl)
  have hlock : decide (3 ≤ s.key.svcFails + 1) = decide (2 ≤ s.key.svcFails) := by simp
  have hsvc : s2.bit KEY_STAT.SVCOK = s.bit KEY_STAT.SVCOK := rfl
  have hkey : s2.key.svcFails = s.key.svcFails + 1 ∧ s2.key.lockout = (s.key.lockout || decide (3 ≤ s.key.svcFails + 1)) := ⟨rfl, rfl⟩
  clear_value s2
  rw [State.ship_fld, State.ship_fld, State.ship_fld, State.ship_bit, State.ship_key, hfr.key rfl,
    hfl.fld KEY_RES.RESULT 0 0 0 rfl, hfl.fld KEY_RES.CMD 0 0 0 rfl, hfl.fld KEY_RES.SLOT 0 0 0 rfl,
    State.bit_of_fld (hfr.fld KEY_STAT.SVCOK 0 0 0 rfl), ← hlock]
  exact ⟨hr, hcmd, hslot, hsvc, hkey⟩

/-- CLRCACHE empties the cache of derived keys (R564). -/
theorem exec_keyCmdClrcache_clears (hwork : s.key.work = none) (hwait : s.key.applyWait = false) (hw : s.reaches w 19 = true) :
    ∃ t, exec (.keyCmdClrcache w) s = .next t ∧ t.fld KEY_RES.RESULT = 1 ∧ t.fld KEY_RES.CMD = 6 ∧ t.fld KEY_RES.SLOT = 0 ∧
      t.key.cache = [] := by
  refine ⟨_, rfl, ?_⟩
  rw [State.asWho_of_reaches hw, State.runKeyCmdClrcache, State.keyCmd_runs hwork hwait (.inl rfl), State.ship_fld, State.ship_fld,
    State.ship_fld, State.ship_key]
  obtain ⟨hr, hcmd, hslot⟩ := State.keyRes_shows (s := { s with key := { s.key with cache := [] } }) (r := 1) (c := 6) (k := 0)
    (by decide) (by decide) (by decide)
  exact ⟨hr, hcmd, hslot, rfl⟩

/-! ## Commits and expiries -/

/-- A plain write of a slot is committed (R566, R570). -/
theorem exec_keyCommitDone_slot {c : Nat} {b : Bool} {k : KeyCopy} (hc : c < 32) (hwork : s.key.work = some (.plain c b k)) :
    ∃ t, exec .keyCommitDone s = .next t ∧ t.fld KEY_RES.RESULT = 1 ∧ t.fld KEY_RES.CMD = 2 ∧ t.fld KEY_RES.SLOT = c ∧
      t.bit KEY_STAT.BUSY = false ∧ t.slotCopy c b = k ∧ t.key.work = none ∧ t.reg ⟨.KEY_PLAIN, 15, 0, 0⟩ = 0 ∧
      t.key.cache = s.key.cache.filter (fun e => e.slot != c) := by
  refine ⟨_, rfl, ?_⟩
  rw [hwork]
  dsimp -zeta only
  extract_lets +onlyGivenNames x s1
  obtain ⟨u, hu⟩ : ∃ u, u = s1.commitSlot c b k := ⟨_, rfl⟩
  obtain ⟨v, hv⟩ : ∃ v, v = (u.keyRes 1 2 c).raise 13 1 1 (256 + c) := ⟨_, rfl⟩
  obtain ⟨hr, hcmd, hslot⟩ := State.keyRes_shows (s := u) (r := 1) (c := 2) (k := c) (by decide) (by decide) (by omega)
  have hfl : Fr (maskOf [] [.flt]) (u.keyRes 1 2 c) v := by
    rw [hv]
    exact State.raise_fr rfl (.id _ _)
  have hfrv : Fr (maskOf [.KEY_RES] [.flt]) u v := (State.keyRes_mask.mono rfl).trans (hfl.mono rfl)
  have hfrz : Fr (maskOf [.KEY_PLAIN] []) v v.zeroPlain := State.zeroPlain_mask
  have hkeyu : u.key = { s.key with
      work := none, slots := Tbl.set s.key.slots (c, b) k, cache := s.key.cache.filter fun e => e.slot != c } := by
    have hshow := State.keyShow_fr (m := maskOf [.KEY_STAT, .KEY_SLOT, .KEY_SCNT] []) (a1 := c) rfl
      (.id _ { s1 with key := { s1.key with slots := Tbl.set s1.key.slots (c, b) k, cache := s1.key.cache.filter fun e => e.slot != c } })
    exact hu ▸ hshow.key rfl
  have hkey : v.zeroPlain.key = u.key := (hfrz.key rfl).trans (hfrv.key rfl)
  have hbusy : u.bit KEY_STAT.BUSY = false := by
    have hrest : RestKept KEY_STAT.OWNED { s1 with key := { s1.key with
        slots := Tbl.set s1.key.slots (c, b) k, cache := s1.key.cache.filter fun e => e.slot != c } } u := hu ▸ State.keyShow_rest
    rw [hrest.bit (g := KEY_STAT.BUSY) rfl rfl]
    exact State.bit_flag_same _ _ (by decide) (by decide)
  rw [← hu, ← hv, State.ship_fld, State.ship_fld, State.ship_fld, State.ship_bit, State.slotCopy, State.ship_key, State.ship_reg, hkey,
    hfrz.fld KEY_RES.RESULT 0 0 0 rfl, hfrz.fld KEY_RES.CMD 0 0 0 rfl, hfrz.fld KEY_RES.SLOT 0 0 0 rfl,
    State.bit_of_fld (hfrz.fld KEY_STAT.BUSY 0 0 0 rfl), State.bit_of_fld (hfrv.fld KEY_STAT.BUSY 0 0 0 rfl), hkeyu]
  refine ⟨(hfl.fld _ _ _ _ rfl).trans hr, (hfl.fld _ _ _ _ rfl).trans hcmd, (hfl.fld _ _ _ _ rfl).trans hslot, hbusy, Tbl.get_set_self _ _ _ _, rfl, State.zeroPlain_zero (by decide), rfl⟩

/-- The write of an image key is committed (R571). -/
theorem exec_keyCommitDone_image {i : Nat} {b : Bool} {k : ImgCopy} (hwork : s.key.work = some (.image i b k)) :
    ∃ t, exec .keyCommitDone s = .next t ∧ t.fld KEY_RES.RESULT = 1 ∧ t.fld KEY_RES.CMD = 3 ∧ t.fld KEY_RES.SLOT = 0 ∧
      t.bit KEY_STAT.BUSY = false ∧ t.imgCopy i b = k := by
  refine ⟨_, rfl, ?_⟩
  rw [hwork]
  dsimp -zeta only
  extract_lets +onlyGivenNames x s1
  extract_lets +onlyGivenNames y s2
  obtain ⟨v, hv⟩ : ∃ v, v = (s2.keyRes 1 3 0).raise 13 1 1 (512 + i) := ⟨_, rfl⟩
  obtain ⟨hr, hcmd, hslot⟩ := State.keyRes_shows (s := s2) (r := 1) (c := 3) (k := 0) (by decide) (by decide) (by decide)
  have hfl : Fr (maskOf [] [.flt]) (s2.keyRes 1 3 0) v := by
    rw [hv]
    exact State.raise_fr rfl (.id _ _)
  have hfrv : Fr (maskOf [.KEY_RES] [.flt]) s2 v := (State.keyRes_mask.mono rfl).trans (hfl.mono rfl)
  have hfrz : Fr (maskOf [.KEY_PLAIN] []) v v.zeroPlain := State.zeroPlain_mask
  have hbusy : s2.bit KEY_STAT.BUSY = false := State.bit_flag_same (s := { s with key := { s.key with work := none } }) _ (by decide) (by decide)
  rw [← hv, State.ship_fld, State.ship_fld, State.ship_fld, State.ship_bit, State.imgCopy, State.ship_key, hfrz.key rfl, hfrv.key rfl,
    hfrz.fld KEY_RES.RESULT 0 0 0 rfl, hfrz.fld KEY_RES.CMD 0 0 0 rfl, hfrz.fld KEY_RES.SLOT 0 0 0 rfl,
    State.bit_of_fld (hfrz.fld KEY_STAT.BUSY 0 0 0 rfl), State.bit_of_fld (hfrv.fld KEY_STAT.BUSY 0 0 0 rfl)]
  refine ⟨(hfl.fld _ _ _ _ rfl).trans hr, (hfl.fld _ _ _ _ rfl).trans hcmd, (hfl.fld _ _ _ _ rfl).trans hslot, hbusy, Tbl.get_set_self _ _ _ _⟩

/-- Settles O58: a command that finds no write in progress is carried out at once, and KEY_RES shows its result; a commit ends the write in
progress. -/
theorem keyCommands : Obligations.KeyCommands := by
  unfold Obligations.KeyCommands
  refine ⟨?_, ?_, ?_, ?_, ?_, ?_, ?_, ?_, ?_, ?_, ?_, ?_, ?_⟩
  · intro s w hwork hwait hm hrun hok hslot hw
    exact exec_keyCmdApply_unseals hwork hwait hm hrun hok hslot hw
  · intro s w c f hwork hwait hm hs hc h0 hw
    exact exec_keyCmdPlainwr_begins hwork hwait hm hs hc (.inl h0) hw
  · intro s w hwork hwait hm hs h0 hw
    obtain ⟨t, e, hbusy, hbegun⟩ := exec_keyCmdPlainwr_begins (c := 0) (f := 0) hwork hwait hm hs (by decide) (.inr ⟨h0, rfl⟩) hw
    exact ⟨t, e, hbusy, by rw [hbegun]; rfl⟩
  · intro s w hwork hwait hm hs h0 hw
    exact exec_keyCmdPlainwr_refuses hwork hwait hm hs h0 hw
  · intro s w i hwork hwait hm hs _ hw
    exact exec_keyCmdImgkey_begins hwork hwait hm hs hw
  · intro s w hwork hwait hl hw
    exact exec_keyCmdSvcchal_challenges hwork hwait hl hw
  · intro s w hwork hwait hn hresp hw
    exact exec_keyCmdSvcauth_authorises hwork hwait hn hresp hw
  · intro s w hwork hwait hn hw
    exact exec_keyCmdSvcauth_fails hwork hwait hn hw
  · intro s w hwork hwait hw
    exact exec_keyCmdClrcache_clears hwork hwait hw
  · intro s c b k hc hwork
    exact exec_keyCommitDone_slot hc hwork
  · intro s i b k hwork
    exact exec_keyCommitDone_image hwork
  · intro s
    exact ⟨_, rfl, State.bit_flag_same _ _ (by decide) (by decide)⟩
  · intro s
    exact ⟨_, rfl, rfl⟩

end Sys2Proof.Machine
end

section
/-! Service operations (statement O59). A descriptor's 96 bytes must all lie in the memory of R343; one that begins in the last word of the
last data bank has no STATUS (R581). -/

namespace Sys2Proof.Machine

/-- The engine runs a descriptor of reserved encoding that begins in the last word of the data banks. -/
def descriptorAtEnd : State :=
  { State.reset with
    sys := { (default : SysSt) with phase := .run, fabricUp := true }
    key := { (default : KeySt) with queue := [0x27FFFC], running := some [] } }

theorem keyOperationDone_without_status :
    ∃ t, exec .keyOperationDone descriptorAtEnd = .next t ∧ t.word 0x280000 = 0 := ⟨_, rfl, by decide +kernel⟩

/-- Refutes O59: the address is aligned and permitted, but the descriptor does not lie in memory as a whole. -/
theorem not_keyOperationsAndTamper : ¬ Obligations.KeyOperationsAndTamper := by
  unfold Obligations.KeyOperationsAndTamper
  rintro ⟨-, -, reserved, -⟩
  obtain ⟨t, e, hnone⟩ := keyOperationDone_without_status
  obtain ⟨u, e', hstatus, -⟩ := reserved descriptorAtEnd 0x27FFFC [] [] rfl rfl (by decide) rfl (by decide +kernel) (by decide +kernel)
    (by decide) (by decide +kernel)
  rw [e] at e'
  obtain rfl := Host.Outcome.next.inj e'
  rw [hnone] at hstatus
  exact absurd hstatus (by decide)

end Sys2Proof.Machine
end

section
/-! Crossing time-outs (statement O60). R31 drops the request whose time is up; one for a Conservator half whose partner is lost is a
fault report that nobody else can take, so the list of reports raised loses that entry as the new report joins it. -/

namespace Sys2Proof.Machine

/-- Half A works alone, and a report of source block 2 waits for it, raised from the island 0. -/
def reportWaiting : State :=
  ({ State.reset with
    flt := { (default : FltSt) with raised := [⟨srcId 2 0 0, 0, 0, false, true, false⟩] } }).put FLT_STAT.AOK 1

theorem crossingTimeout_drops_report :
    ∃ t, exec (.crossingTimeout 0 16 14) reportWaiting = .next t ∧
      t.flt.raised.length = reportWaiting.flt.raised.length := ⟨_, rfl, by decide +kernel⟩

/-- Refutes O60: the time-out at half A takes the report that waited for it from the list before its own is appended. -/
theorem not_hostFrames : ¬ Obligations.HostFrames := by
  unfold Obligations.HostFrames
  rintro ⟨-, -, -, -, -, -, -, -, -, -, -, -, -, -, crosses⟩
  obtain ⟨t, e, hsame⟩ := crossingTimeout_drops_report
  obtain ⟨u, e', hraised⟩ := crosses reportWaiting 0 16 14 (by decide) (by decide)
  rw [e] at e'
  obtain rfl := Host.Outcome.next.inj e'
  have hgrown := congrArg List.length hraised
  rw [List.length_append, List.length_singleton] at hgrown
  omega

end Sys2Proof.Machine
end
